-- ==== Sys2Proof/Word.lean ====
section
/-! DEFINITION. The word types of the device: bytes, 32-bit words and the two floating formats of 00_scope.md R7. -/

namespace Sys2Proof

/-- A byte of a memory window, a frame or an image. -/
abbrev Byte := BitVec 8

/-- A 32-bit register word. -/
abbrev Word := BitVec 32

/-- An IEEE 754 binary32 value, by its bits [00 R7]. -/
structure F32 where
  /-- the 32 bits of the value -/
  bits : BitVec 32
  deriving DecidableEq, Repr, Inhabited

/-- An IEEE 754 binary64 value, by its bits [02 R43, 07 R202]. -/
structure F64 where
  /-- the 64 bits of the value -/
  bits : BitVec 64
  deriving DecidableEq, Repr, Inhabited

end Sys2Proof
end

