-- ==== Sys2Proof/Types.lean ====
section
/-! DEFINITION. The types of state that the two units of a pair exchange, which both the state and the commands name. -/

namespace Sys2Proof.Machine

/-- Vessel mode. -/
inductive Mode where
  | dormant | harbour | manual | joystick | autopos | follow | transfer
  deriving DecidableEq, Repr, Inhabited

/-- Phase of a set-point profile axis. -/
inductive AxPhase where
  | hold | move | decel
  deriving DecidableEq, Repr, Inhabited

/-- Limits in use on a profile axis. -/
structure AxLimits where
  /-- speed limit in use [03 R87] -/
  v : F64 := ⟨0⟩
  /-- acceleration limit in use [03 R87] -/
  a : F64 := ⟨0⟩
  /-- deceleration limit in use [03 R87] -/
  d : F64 := ⟨0⟩
  /-- jerk limit in use [03 R87] -/
  j : F64 := ⟨0⟩
  deriving DecidableEq, Repr, Inhabited

/-- One profile axis: a leg with distance to go, speed and acceleration. -/
structure Axis where
  /-- phase of the axis [03 R82 R86] -/
  phase : AxPhase := .hold
  /-- distance to go on the leg in hand [03 R82] -/
  rem : F64 := ⟨0⟩
  /-- speed along the move [03 R82] -/
  v : F64 := ⟨0⟩
  /-- acceleration along the move [03 R82] -/
  a : F64 := ⟨0⟩
  /-- limits in use [03 R87] -/
  lim : AxLimits := {}
  /-- a committed lower deceleration or jerk limit waits [03 R87] -/
  deferred : Bool := false
  /-- a rest comes first: after it the axis runs to the target [03 R89] -/
  restFirst : Bool := false
  /-- greatest deceleration of the ramp in hand, which rests on the end of the leg [03 R86] -/
  ramp : F64 := ⟨0⟩
  /-- after the rest the heading axis returns the short way [03 R89] -/
  back : Bool := false
  deriving DecidableEq, Repr, Inhabited

/-- Set-point profile generator. -/
structure Profile where
  /-- linear axis [03 R82] -/
  lin : Axis := {}
  /-- heading axis [03 R82] -/
  hdg : Axis := {}
  /-- reference north, or along in FOLLOW, m [03 R82, MDE_PRF_NORTH] -/
  refN : F64 := ⟨0⟩
  /-- reference east, or across in FOLLOW, m [03 R82, MDE_PRF_EAST] -/
  refE : F64 := ⟨0⟩
  /-- reference heading, rad [03 R82, MDE_PRF_HEADING] -/
  refH : F64 := ⟨0⟩
  /-- unit direction of the line, north part [03 R82] -/
  dirN : F64 := ⟨0⟩
  /-- unit direction of the line, east part [03 R82] -/
  dirE : F64 := ⟨0⟩
  /-- turn sign of the heading axis, +1 clockwise [03 R84] -/
  turn : F64 := ⟨0⟩
  /-- target north or along, m [03 R83] -/
  tgtN : F64 := ⟨0⟩
  /-- target east or across, m [03 R83] -/
  tgtE : F64 := ⟨0⟩
  /-- target heading, rad [03 R83] -/
  tgtH : F64 := ⟨0⟩
  /-- SP_OVERRUN [03 R89] -/
  overrun : Bool := false
  /-- a move is under way, so that MOVE_DONE is still to come [03 R83] -/
  moving : Bool := false
  /-- the mode was entered at this cut: the axes start from the estimate at the profile step [03 R84] -/
  enter : Bool := false
  /-- a linear target was committed at this cut [03 R83] -/
  newLin : Bool := false
  /-- a heading target was committed at this cut [03 R83] -/
  newHdg : Bool := false
  /-- STOP acts at this cut [03 R90] -/
  stop : Bool := false
  deriving DecidableEq, Repr, Inhabited

/-- A filter's estimate and covariance. -/
structure Est where
  /-- the filter is initialised [07 R207 R210] -/
  init : Bool := false
  /-- states: 18 of R202 for object 0, 7 of R208 for a target [07 R202 R208] -/
  x : List F64 := []
  /-- covariance, row by row [07 R199] -/
  p : List (List F64) := []
  deriving DecidableEq, Repr, Inhabited

/-- A thruster's horizontal force in the body frame. -/
structure Force where
  /-- forward part, N; for a tunnel the signed thrust s [08 R229 R230] -/
  fx : F64 := ⟨0⟩
  /-- starboard part, N [08 R229] -/
  fy : F64 := ⟨0⟩
  deriving DecidableEq, Repr, Inhabited

/-- Set-points of one thruster as handed over. -/
structure ThrSet where
  /-- force the set-points stand for [08 R249] -/
  f : Force := {}
  /-- azimuth or rudder angle set-point, rad [08 R249] -/
  az : F32 := ⟨0⟩
  /-- shaft-speed set-point, rad/s [08 R231] -/
  rpm : F32 := ⟨0⟩
  /-- pitch-ratio set-point [08 R231] -/
  pitch : F32 := ⟨0⟩
  deriving DecidableEq, Repr, Inhabited

/-- Allocation state of one thruster. -/
structure ThrSt where
  /-- ALC_THR_STAT.AVAIL [08 R234] -/
  avail : Bool := false
  /-- ALC_THR_STAT.LOST_CAUSE [08 R234] -/
  lostCause : Nat := 0
  /-- ALC_THR_STAT.RECOVERING [08 R236] -/
  recovering : Bool := false
  /-- TB0 ns since when the other conditions have held at every cut [08 R236] -/
  okAt : Option Nat := none
  /-- the thruster has been in the mask or has been tested before: a first mask entry needs no recovery [08 R236] -/
  known : Bool := false
  /-- ALC_THR_STAT.SAT [08 R259] -/
  sat : Bool := false
  /-- the nearer edge of the forbidden sector that the present azimuth lies in: ALC_THR_STAT.SECTOR while there is one [08 R245] -/
  edge : Option F64 := none
  /-- ALC_THR_STAT.AHEAD [08 R232] -/
  ahead : Bool := false
  /-- set-points last handed over [08 R249] -/
  last : ThrSet := {}
  /-- previous force f₋₁ [08 R236 R242] -/
  fPrev : Force := {}
  deriving DecidableEq, Repr, Inhabited

/-- State of block CTL (page 0x0A). -/
structure CtlSt where
  /-- CTL_STAT.OUTCOME: 0 none, 1 SOLVED, 2 SOLVED_EARLY, 3 SHIFTED [08 CTL_STAT] -/
  outcome : Nat := 0
  /-- CTL_STAT.FALLBACK [08 R255] -/
  fallback : Bool := false
  /-- CTL_STAT.SHIFT_RUN [08 R255] -/
  shiftRun : Nat := 0
  /-- CTL_STAT.SOLVED_RUN [08 R256] -/
  solvedRun : Nat := 0
  /-- CTL_STAT.N_USED [08 R239] -/
  nUsed : Nat := 0
  /-- wind force in use: surge, sway, yaw [08 R247] -/
  wind : List F64 := [⟨0⟩, ⟨0⟩, ⟨0⟩]
  /-- wind force held when WIND_VALID cleared, or before a ramp up [08 R248] -/
  windHeld : List F64 := [⟨0⟩, ⟨0⟩, ⟨0⟩]
  /-- TB0 ns at which WIND_VALID last changed [08 R248] -/
  windAt : Nat := 0
  /-- WIND_VALID at the last output [08 R248] -/
  windValid : Bool := false
  /-- a ramp up after a return of WIND_VALID is under way [08 R248] -/
  windRamp : Bool := false
  /-- CTL_STAT.WIND_FF [08 R248] -/
  windFf : Bool := false
  /-- error in body axes and heading at the last State output, m, m, rad [08 R251, CTL_ERR_ALONG…] -/
  err : List F64 := [⟨0⟩, ⟨0⟩, ⟨0⟩]
  /-- POS_ERR in force [08 R251] -/
  posErr : Bool := false
  /-- HDG_ERR in force [08 R251] -/
  hdgErr : Bool := false
  /-- body force last handed over, CTL_TAU_X, _Y, _N [08 R249] -/
  tau : List F64 := [⟨0⟩, ⟨0⟩, ⟨0⟩]
  /-- TB0 ns since when the capability condition has held [08 R251] -/
  capAt : Option Nat := none
  /-- CAPABILITY raised in the present outage [08 R251] -/
  cap : Bool := false
  /-- fall-back demand of this cycle [08 R252] -/
  tauFb : List F64 := [⟨0⟩, ⟨0⟩, ⟨0⟩]
  /-- fall-back integrals of the three rows [08 R252 R254] -/
  integ : List F64 := [⟨0⟩, ⟨0⟩, ⟨0⟩]
  /-- the fall-back job has an output of the previous cycle [08 R232] -/
  fbValid : Bool := false
  /-- fall-back forces by thruster, of this cycle [08 R253] -/
  fbForce : List Force := List.replicate 16 {}
  /-- CTL_FB_CNT.ENTRIES [08 CTL_FB_CNT] -/
  fbEntries : Nat := 0
  /-- CTL_FB_CNT.SHIFTED [08 CTL_FB_CNT] -/
  shifted : Nat := 0
  deriving DecidableEq, Repr, Inhabited

/-- Structure signature of a problem. -/
structure Signature where
  /-- force variables [09 R276] -/
  vars : Nat := 0
  /-- horizon in use [09 R276] -/
  n : Nat := 0
  /-- appendage present [09 R276] -/
  app : Bool := false
  /-- availability mask [09 R276] -/
  mask : Nat := 0
  /-- constraint rows [09 R276] -/
  rows : Nat := 0
  /-- KIND 3 thrusters in ASTERN [09 R276] -/
  astern : Nat := 0
  deriving DecidableEq, Repr, Inhabited

/-- A solution of the control problem: forces by step and thruster, and its active set. -/
structure Solution where
  /-- forces, one list of 16 thruster forces for each step [09 R281] -/
  steps : List (List Force) := []
  /-- active rows as (step, row) pairs [09 R277] -/
  active : List (Nat × Nat) := []
  /-- the factor that gave it held a replaced pivot [09 R274] -/
  regularised : Bool := false
  /-- scaled violation [09 R268] -/
  viol : F32 := ⟨0⟩
  deriving DecidableEq, Repr, Inhabited

/-- One joint's last hand-over. -/
structure JointSt where
  /-- joint position set-point [09 R285, SLV_JNT_Q] -/
  q : F32 := ⟨0⟩
  /-- joint speed set-point [09 R285, SLV_JNT_QD] -/
  qd : F32 := ⟨0⟩
  /-- feed-forward torque or force [09 R286, SLV_JNT_TAU] -/
  tau : F32 := ⟨0⟩
  /-- position computed by the sub-cycle in hand [09 R285] -/
  qNext : F32 := ⟨0⟩
  /-- speed computed by the sub-cycle in hand [09 R285] -/
  qdNext : F32 := ⟨0⟩
  /-- feed-forward computed by the sub-cycle in hand [09 R286] -/
  tauNext : F32 := ⟨0⟩
  deriving DecidableEq, Repr, Inhabited

/-- State of a loop channel. -/
inductive LoopState where
  | off | ramp | run | open_ | fault
  deriving DecidableEq, Repr, Inhabited

/-- A handed set-point with its rate and feed-forward. -/
structure Handed where
  /-- set-point r_h [11 R315] -/
  r : F32 := ⟨0⟩
  /-- set-point rate [11 R315] -/
  rd : F32 := ⟨0⟩
  /-- feed-forward input f [11 R315] -/
  ff : F32 := ⟨0⟩
  deriving DecidableEq, Repr, Inhabited

/-- One loop channel. -/
structure LoopCh where
  /-- LOP_CH_STAT.STATE [11 R319] -/
  st : LoopState := .off
  /-- active bank, LOP_CH_STAT.BANK_ACT [11 R324] -/
  bank : Nat := 0
  /-- set-point handed and not yet taken by a sample [11 R315] -/
  handed : Option Handed := none
  /-- set-point in use [11 R315, LOP_SP, LOP_FF] -/
  hand : Handed := {}
  /-- a handover has reached the channel since it left OFF [11 R328] -/
  gotHand : Bool := false
  /-- tick of the sample that took the handover, t_h [11 R318] -/
  handTick : Nat := 0
  /-- effective set-point r_e, LOP_SP_EFF [11 R318] -/
  re : F32 := ⟨0⟩
  /-- feedback y, LOP_FB [11 R316] -/
  y : F32 := ⟨0⟩
  /-- previous scaled port value, for FB_DIFF [11 R316] -/
  scaledPrev : Option F32 := none
  /-- state of the FB_DIFF filter [11 R316] -/
  diffF : F32 := ⟨0⟩
  /-- last good feedback value, raw scaled [11 R317] -/
  good : F32 := ⟨0⟩
  /-- integrator in output units, LOP_INT [11 R321] -/
  i : F32 := ⟨0⟩
  /-- derivative state [11 R321] -/
  d : F32 := ⟨0⟩
  /-- output u, LOP_OUT [11 R321] -/
  u : F32 := ⟨0⟩
  /-- the last sample computed a law, so that u drives the output [11 R314] -/
  drive : Bool := false
  /-- output u that awaits its latch instant, and its tick [01 R33] -/
  pend : Option Nat := none
  /-- anti-windup engaged, LOP_CH_STAT.AW [11 R322] -/
  aw : Bool := false
  /-- sign of e recorded when it engaged: true for e > 0 [11 R322] -/
  awPos : Bool := false
  /-- LOP_CH_STAT.SAT [11 R322] -/
  sat : Bool := false
  /-- LOP_CH_STAT.SWAP_CLAMP [11 R325] -/
  swapClamp : Bool := false
  /-- the last handover was clamped [11 R318] -/
  spClamp : Bool := false
  /-- model output y_m [11 R329] -/
  ym : F32 := ⟨0⟩
  /-- model speed v_m [11 R329] -/
  vm : F32 := ⟨0⟩
  /-- samples done in the present plausibility window [11 R330] -/
  winN : Nat := 0
  /-- a sample of the window had stale feedback [11 R330] -/
  winStale : Bool := false
  /-- last window's residual, LOP_PL_RES [11 R330] -/
  res : F32 := ⟨0⟩
  /-- consecutive failing windows, LOP_CH_STAT.PL_FAILS [11 R330] -/
  plFails : Nat := 0
  /-- consecutive stale samples [11 R331] -/
  stale : Nat := 0
  /-- consecutive fresh samples in a feedback fault [11 R333] -/
  fresh : Nat := 0
  /-- LOP_CH_STAT.CAUSE [11 R332] -/
  cause : Nat := 0
  /-- LOP_CH_STAT.FAULTS [11 CH_STAT] -/
  faults : Nat := 0
  /-- a CLR waits for the next sample [11 R327 R333] -/
  clr : Bool := false
  /-- a structural cut-in restarts the channel at its next sample [02 R59] -/
  restart : Bool := false
  /-- a cut-in changed LOOP_COEF: R325 applies at the next sample [11 R326] -/
  swapDue : Bool := false
  /-- state taken over from TAKE_LOOPS or the last continuity set, at the first sample after the handover [15 R446 R456] -/
  takeOver : Bool := false
  /-- coefficient values of a cut-in, by field key, taken at the next sample [11 R326] -/
  coefWait : List (Nat × Nat) := []
  /-- newest bound CAN status value and the TB0 ns of its frame [11 R315] -/
  can : Option (F32 × Nat) := none
  deriving DecidableEq, Repr, Inhabited

/-- Position compare of an axis or a port. -/
structure Compare where
  /-- ARMED [12 R358] -/
  armed : Bool := false
  /-- COMPARE_BEHIND [12 R358] -/
  behind : Bool := false
  /-- compare position, signed [12 R358] -/
  c : Int := 0
  /-- PULSE_EN at arming [12 R359] -/
  pulseEn : Bool := false
  /-- PULSE_DOUT at arming [12 R359] -/
  dout : Nat := 0
  /-- PULSE_W at arming, µs [12 R359] -/
  pulseW : Nat := 0
  /-- CMP_TIME, TB0 ns [12 R359] -/
  time : Nat := 0
  /-- tick at which the output pulse ends [12 R359] -/
  pulseEnd : Option Nat := none
  deriving DecidableEq, Repr, Inhabited

/-- Homing sequence of a step axis. -/
inductive Homing where
  | none | search | clearRest | clear | backoff | approach | rest
  deriving DecidableEq, Repr, Inhabited

/-- One step/direction axis. -/
structure StepAxis where
  /-- PFG_POS, signed count that wraps [12 R341] -/
  pos : Int := 0
  /-- rate, signed binary32 steps/s, PFG_RATE [12 R341 R342] -/
  rate : F32 := ⟨0⟩
  /-- PFG_STAT.PHASE: 0 IDLE, 1 ACCEL, 2 CRUISE, 3 DECEL, 4 HOMING, 5 VELOCITY [12 PFG_STAT] -/
  phase : Nat := 0
  /-- POS_VALID [12 R343] -/
  posValid : Bool := false
  /-- target of the move in hand, signed [12 R342] -/
  target : Int := 0
  /-- target taken after the rest that comes first [12 R344] -/
  after : Option Int := none
  /-- a position move is in hand [12 R342] -/
  moving : Bool := false
  /-- deceleration limit in use, steps/s² [12 R345] -/
  dUse : F32 := ⟨0⟩
  /-- acceleration limit in use, steps/s² [12 R345] -/
  aUse : F32 := ⟨0⟩
  /-- LIMIT_DEFERRED [12 R345] -/
  deferred : Bool := false
  /-- CHATTER, LIMIT_CHATTER latched [12 R348] -/
  chatter : Bool := false
  /-- HOMING_FAIL [12 R350] -/
  homingFail : Bool := false
  /-- DIR: last pulse positive [12 R356] -/
  dir : Bool := false
  /-- a pulse has been emitted since reset [12 R356] -/
  pulsed : Bool := false
  /-- DIR_CHANGE [12 R356] -/
  dirChange : Bool := false
  /-- MOVE_REFUSED [12 R343] -/
  refused : Bool := false
  /-- FAIL_ACT [12 R337] -/
  fail : Bool := false
  /-- axis enable output asserted [12 R337] -/
  enOut : Bool := false
  /-- tick at which the step pulse in hand started [12 R341] -/
  pulseAt : Option Nat := none
  /-- level of the DIR pin [12 R341] -/
  dirPin : Bool := false
  /-- fraction of a step due, binary64 steps accumulated at the 10 µs updates [12 R341] -/
  frac : F64 := ⟨0⟩
  /-- steps due and not yet emitted, signed [12 R341] -/
  due : Int := 0
  /-- output u latched from the bound loop channel [12 R342] -/
  u : F32 := ⟨0⟩
  /-- homing phase [12 R350] -/
  homing : Homing := .none
  /-- homing direction of search, s [12 R350] -/
  homePos : Bool := true
  /-- limits met in the search [12 R350] -/
  limitsMet : Nat := 0
  /-- steps travelled since the start of homing [12 R350] -/
  travel : Nat := 0
  /-- steps still to back off, or since the latch [12 R350] -/
  homeCnt : Int := 0
  /-- PFG_POS at the latch [12 R350] -/
  latch : Option Int := none
  /-- raw step count at the last raw home edge [12 R350] -/
  rawEdge : Int := 0
  /-- compare [12 R358] -/
  cmp : Compare := {}
  deriving DecidableEq, Repr, Inhabited

/-- What a continuity set carries beside its byte image. -/
structure ContSet where
  /-- cycle SEQ [15 R449] -/
  seq : Nat := 0
  /-- UNIT_ID of the sender [15 R450] -/
  unitId : Nat := 0
  /-- active image identity: IMAGE_ID and REVISION [15 R450] -/
  image : Nat × Nat := (0, 0)
  /-- overlay revision [15 R450] -/
  overlay : Nat := 0
  /-- pending image identity [15 R450] -/
  pending : Option (Nat × Nat) := none
  /-- TB0 at the taking instant, ns [15 R450] -/
  takenAt : Nat := 0
  /-- host-area length [15 R450] -/
  hostLen : Nat := 0
  /-- profile generator state of both axes [15 R450] -/
  profile : Profile := {}
  /-- selected solution and its active set, none when cold [15 R450] -/
  solution : Option Solution := none
  /-- structure signature [15 R450] -/
  sig : Signature := {}
  /-- outcome, SHIFT_RUN, SOLVED_RUN, FALLBACK, fall-back integrators, wind hold state [15 R450] -/
  ctl : CtlSt := {}
  /-- per thruster: f₋₁, AHEAD, availability and recovery [15 R450] -/
  thr : List ThrSt := []
  /-- last handover by loop channel [15 R450] -/
  handed : List Handed := []
  /-- loop channels: state, bank, anti-windup and sign, i, d, u, r_e, y [15 R450] -/
  loops : List LoopCh := []
  /-- own-vessel estimate and covariance at the cut [15 R450] -/
  own : Est := {}
  /-- origin latitude and longitude, rad [15 R450] -/
  org : F64 × F64 := (⟨0⟩, ⟨0⟩)
  /-- origin GEN and whether it is set [15 R450] -/
  orgGen : Nat × Bool := (0, false)
  /-- State record position and heading of object 0 [15 R450] -/
  pose : List F64 := []
  /-- latched reference points by source [15 R450 R206] -/
  latch : List (Option (F64 × F64)) := []
  /-- targets 1–7: estimate and covariance [15 R450] -/
  tgts : List Est := []
  /-- appendage tip target, none before the first sub-cycle [15 R450] -/
  tip : Option (List F64) := none
  /-- appendage joints: q and qd [15 R450] -/
  joints : List JointSt := []
  /-- appendage reaction [15 R450] -/
  react : List F32 := []
  /-- E2E transmit contexts: counter and running value by context [15 R450] -/
  e2e : List (Nat × Nat) := []
  /-- step axes: PFG_POS, rate, phase, POS_VALID, target [15 R450] -/
  axes : List StepAxis := []
  /-- host area bytes [15 R450] -/
  host : List Host.Cell := []
  deriving DecidableEq, Repr, Inhabited

/-- The cut part of the continuity set. -/
structure CutPart where
  /-- cycle SEQ [15 R449] -/
  seq : Nat := 0
  /-- mode in force from the cut [15 R449] -/
  mode : Mode := .dormant
  /-- AUTO_HDG [15 R449] -/
  autoHdg : Bool := false
  /-- FOLLOW_OBJ [15 R449] -/
  followObj : Nat := 0
  /-- MDE commands and profile limits in force, values by field key of page MDE [15 R449] -/
  cmds : List (Nat × Nat) := []
  /-- request result [15 R449] -/
  result : Nat := 0
  /-- origin move: latitude, longitude and GEN, none without one [15 R449 R201] -/
  origin : Option (F64 × F64 × Nat) := none
  /-- identity of an image cutting in at the cut [15 R449] -/
  image : Option (Nat × Nat) := none
  /-- take flag [15 R449] -/
  take : Bool := false
  deriving DecidableEq, Repr, Inhabited

/-- Still set. -/
structure StillSet where
  /-- t_c, TB0 ns [15 R458] -/
  tc : Nat := 0
  /-- TB0–TB3 at the capture, ns [15 R458] -/
  tbs : List Nat := []
  /-- latest State records, words [15 R458] -/
  states : List (List Nat) := []
  /-- ALC_THR_FX, _FY and _AZ of 16 thrusters [15 R458] -/
  thr : List (F32 × F32 × F32) := []
  /-- r_h, y and u of 32 loop channels [15 R458] -/
  loops : List (F32 × F32 × F32) := []
  /-- pair and link status words [15 R458] -/
  status : Nat × Nat := (0, 0)
  deriving DecidableEq, Repr, Inhabited

end Sys2Proof.Machine
end

