-- ==== Sys2Proof/Syntax.lean ====
section
/-! DEFINITION. The commands of the block: one constructor for each row of spec/opcode_table.json, with what arrives from outside as operands (log 7). -/

namespace Sys2Proof

/-- A host port [19 R553]. -/
inductive Port where
  | pcie | qspi
  deriving DecidableEq, Repr, Inhabited

/-- What an own RF path measures in an epoch [04 R103 R107]. -/
structure PathMeas where
  /-- rms of the I and Q codes, 1/256 of a code step -/
  rms : Nat := 0
  /-- share of codes at the end values, 1/256 -/
  clip : Nat := 0
  /-- noise floor above the thermal floor, 0.25 dB -/
  noise : Nat := 0
  /-- lines of the spectrum: signed offset from the LO in kHz, dB above the median bin -/
  bins : List (Int × Nat) := []
  /-- loss that the notches cause, 0.1 dB -/
  loss : Nat := 0
  deriving DecidableEq, Repr, Inhabited

/-- What a tracking channel's correlators and loops give in an epoch [04 R123 to R127]. -/
structure ChMeas where
  /-- channel number -/
  chn : Nat := 0
  /-- C/N0, 0.1 dB-Hz -/
  cn0 : Nat := 0
  /-- phase lock indicator times 1,000, signed -/
  lock : Int := 0
  /-- frequency error, Hz rms over 20 ms, in hundredths -/
  freqErr : Nat := 0
  /-- very early or very late exceeds the prompt magnitude -/
  side : Bool := false
  /-- the symbol sign is fixed by a preamble in this epoch -/
  sync : Bool := false
  /-- Doppler, Hz -/
  dopp : F32 := ⟨0⟩
  deriving DecidableEq, Repr, Inhabited

/-- A satellite of the sky as GNS1 gives it for an epoch [04 R116, R128]. -/
structure SkySat where
  /-- satellite system, 0 GPS, 1 Galileo, 2 BeiDou, 3 GLONASS, 4 QZSS, 5 SBAS -/
  sys : Nat := 0
  /-- satellite number -/
  sv : Nat := 0
  /-- predicted visible from almanac or ephemeris -/
  predicted : Bool := false
  /-- predicted elevation, rad -/
  elev : F32 := ⟨0⟩
  deriving DecidableEq, Repr, Inhabited

/-- A source record as its port hands it to SRC: the raw content, before checks and projection [06 R167 R168]. -/
structure RawRecord where
  /-- source number -/
  src : Nat := 0
  /-- arrival stamp, TB0 ns -/
  arrival : Nat := 0
  /-- measurement stamp, TB0 ns -/
  stamp : Nat := 0
  /-- sender time, ns, none without one -/
  sender : Option Nat := none
  /-- up to eight values -/
  values : List (BitVec 32) := []
  /-- quality byte -/
  qual : Nat := 0
  /-- standard deviation -/
  sigma : F32 := ⟨0⟩
  /-- flags the port sets -/
  flags : Nat := 0
  /-- an internal POS record: the antenna it names, as (unit, antenna) [05 R142] -/
  ant : Option (Nat × Nat) := none
  /-- an internal POS record: its horizontal standard deviation [07 R219] -/
  posSigma : F32 := ⟨0⟩
  deriving DecidableEq, Repr, Inhabited

/-- A CAN frame as received [13 R364 R369]. -/
structure CanFrame where
  /-- identifier, 11 or 29 bits -/
  id : Nat := 0
  /-- 29-bit identifier -/
  ext : Bool := false
  /-- FD frame -/
  fd : Bool := false
  /-- bit-rate switch -/
  brs : Bool := false
  /-- remote frame -/
  rtr : Bool := false
  /-- error state indicator -/
  esi : Bool := false
  /-- data bytes -/
  data : List Byte := []
  deriving DecidableEq, Repr, Inhabited

/-- How a transmission attempt ended [13 R378 R380 R393]. -/
inductive TxEnd where
  | sent
  | lost
  | failed (lec : Nat)
  deriving DecidableEq, Repr, Inhabited

/-- What a PCIe access addresses: the device map through BAR0, the MSI-X structures through BAR2, or the configuration space [19 R547 R548]. -/
inductive Space where
  | map | msix | config
  deriving DecidableEq, Repr, Inhabited

/-- One host access: address, word and byte enables [19 R549]. -/
structure Access where
  /-- it is a write -/
  write : Bool := false
  /-- what it addresses -/
  space : Space := .map
  /-- device address, or offset in the space -/
  addr : Nat := 0
  /-- write data -/
  data : Nat := 0
  /-- byte enables, bit 0 for the lowest byte -/
  be : Nat := 15
  deriving DecidableEq, Repr, Inhabited

/-- The partner's items that arrive in frames of the Ndodric link, as far as they are words. -/
structure Hello where
  /-- UNIT_ID [15 R433] -/
  unitId : Nat := 0
  /-- grade, 0 TW816, 1 TW812 -/
  grade : Nat := 0
  /-- active image identity -/
  image : Nat × Nat := (0, 0)
  /-- pending image identity -/
  pending : Option (Nat × Nat) := none
  /-- the partner commands in the sense of R387 -/
  commands : Bool := false
  /-- the partner is STANDBY_SYNCED -/
  synced : Bool := false
  /-- the partner is TAKE_READY -/
  ready : Bool := false
  /-- lanes that came up -/
  lanes : Nat := 2
  deriving DecidableEq, Repr, Inhabited

/-- What a tracking channel measures at a solution epoch [05 R138]. -/
structure SatMeas where
  /-- channel -/
  chn : Nat := 0
  /-- elevation, rad -/
  elev : F32 := ⟨0⟩
  /-- pseudorange, m -/
  code : F64 := ⟨0⟩
  /-- carrier phase, cycles -/
  carrier : F64 := ⟨0⟩
  /-- Doppler, Hz -/
  dopp : F64 := ⟨0⟩
  deriving DecidableEq, Repr, Inhabited

/-- What the receiver delivers to GNS1 at a solution epoch: the measurements of its channels, and what its navigation data said since the last one [05 R137 to R148]. -/
structure SolMeas where
  /-- TB0 stamp of the epoch, ns -/
  at_ : Nat := 0
  /-- measurements -/
  meas : List SatMeas := []
  /-- SBAS corrections are held -/
  sbas : Bool := false
  /-- fixed satellites that slipped in this epoch -/
  slips : Nat := 0
  /-- satellites whose ephemeris was decoded: system and number -/
  eph : List (Nat × Nat) := []
  /-- satellites whose almanac was decoded -/
  alm : List (Nat × Nat) := []
  /-- broadcast offsets to GPS time decoded, by system, s -/
  isb : List (Nat × F32) := []
  /-- a leap second announcement decoded: TAI time from which it applies, ns, and the new TAI - UTC -/
  leap : Option (Nat × Int) := none
  /-- ionosphere parameters decoded -/
  iono : Option (List F32) := none
  /-- TAI - UTC decoded -/
  taiUtc : Option Int := none
  deriving DecidableEq, Repr, Inhabited

/-- An observation as a least-squares pass takes it [05 R138]. -/
structure SatObs where
  /-- signal -/
  sig : Nat := 0
  /-- satellite number -/
  sv : Nat := 0
  /-- path -/
  path : Nat := 0
  /-- C/N0, 0.1 dB-Hz -/
  cn0 : Nat := 0
  /-- elevation, rad -/
  elev : F32 := ⟨0⟩
  /-- pseudorange, m -/
  code : F64 := ⟨0⟩
  /-- carrier phase, cycles, none where it may not be used -/
  carrier : Option F64 := none
  /-- Doppler, Hz -/
  dopp : F64 := ⟨0⟩
  deriving DecidableEq, Repr, Inhabited

/-- What a refresh of the asleep level brings: the satellites it tracks at its end and what they said [05 R163]. -/
structure RefreshMeas where
  /-- observations of the single epoch -/
  obs : List SatObs := []
  /-- satellites whose ephemeris was decoded: system and number -/
  eph : List (Nat × Nat) := []
  /-- an almanac was decoded -/
  alm : Bool := false
  /-- ionosphere parameters decoded -/
  iono : Option (List F32) := none
  /-- TAI - UTC decoded -/
  taiUtc : Option Int := none
  deriving DecidableEq, Repr, Inhabited

/-- A frame of the bulk part: its fragment number, whether its CRC was good, and on the last frame what the whole set says [15 R450 R451]. -/
structure BulkIn where
  /-- fragment number -/
  frag : Nat := 0
  /-- fragments of the set -/
  frags : Nat := 1
  /-- CRC good -/
  ok : Bool := true
  /-- cycle SEQ -/
  seq : Nat := 0
  /-- the set -/
  set : Machine.ContSet := {}
  deriving DecidableEq, Repr, Inhabited

/-- A filtered pin of the safety island [16 R463 R466]. -/
inductive SafPin where
  | lineA (n : Nat) | lineB (n : Nat) | srst | key
  deriving DecidableEq, Repr, Inhabited

/-- What the channels find at an exchange of the island [16 R481]. -/
structure SafExch where
  /-- the exchange arrived -/
  ok : Bool := true
  /-- a disagreement beyond the allowance of R470 exists -/
  disagree : Bool := false
  /-- the other channel's clock count lies within 0.85 to 1.15 of nominal -/
  clockOk : Bool := true
  /-- supplies of SAF-A and SAF-B are good -/
  goodA : Bool := true
  /-- supply of SAF-B is good -/
  goodB : Bool := true
  deriving DecidableEq, Repr, Inhabited

/-- A word of a quad-SPI transfer: its data on a write and whether its CRC is good. -/
structure QspiWord where
  /-- data of a write -/
  data : Nat := 0
  /-- the four nibble-pairs of a CRC, where CRC_EN was set: 16 bits -/
  crc : Nat := 0
  deriving DecidableEq, Repr, Inhabited

/-- A quad-SPI transfer framed by CS_N [19 R551]. -/
structure QspiXfer where
  /-- command byte -/
  cmd : Nat := 0
  /-- address -/
  addr : Nat := 0
  /-- complete words of a write; for a read only their number counts -/
  words : List QspiWord := []
  /-- the transfer ended within a word -/
  cut : Bool := false
  deriving DecidableEq, Repr, Inhabited


/-- The commands of the block, one constructor for each row of spec/opcode_table.json, in its order. -/
inductive Instr where
  /-- CUT [R18]: At the 250 MHz tick where TB0 reaches a multiple of the cycle period, the device closes the input window, commits the cut-boundary settings, starts reruns and starts appendage sub-cycle 0. -/
  | cut
  /-- DORMANT_ASLEEP [R91]: Once the commit batches have finished and the data has been retained, the domains are powered down and the device reaches the asleep level. -/
  | dormantAsleep
  /-- RERUN_DONE [R225]: A rerun completes, replaces the present estimate and starts any waiting rerun; its depth is reported in the next State record. -/
  | rerunDone (obj : Nat)
  /-- STATE_OUTPUT [R20]: At 0.15 T the device writes the State records and the attitude line, and starts the profile step, the solve and the fall-back job. -/
  | stateOutput
  /-- SOLVE_CONVERGED [R270]: The solve job converges, or stops at the iteration limit, and waits for the deadline. -/
  | solveConverged (us : Nat)
  /-- DEADLINE [R279]: At D the device decides the solver outcome, takes the solution, the shifted solution or the fall-back output, and begins the handover. -/
  | deadline
  /-- APPENDAGE_SUBCYCLE [R285]: At each quarter of the cycle the appendage kinematics and dynamics run, and joint set-points are handed over. -/
  | appendageSubcycle
  /-- CONTINUITY_SET_TAKE [R450]: At 0.90 T the bulk part of the continuity set is taken and, in a pair, mirrored to the partner. -/
  | continuitySetTake
  /-- LOOP_SAMPLE [R321]: A loop channel takes its inputs at its sample instant and computes its law, ramp, swap, plausibility and fault rules. -/
  | loopSample (ch : Nat)
  /-- OUTPUT_LATCH [R33]: The outputs of the channels that sampled on a tick latch together at the sample instant plus 2.000 µs. -/
  | outputLatch (ch : Nat)
  /-- LOOP_FAULT_CLR [R333]: A host write of LOP_CH_CTL.CLR clears a latched plausibility fault, and the channel enters RAMP. -/
  | loopFaultClr
  /-- PWM_PERIOD_START [R340]: A PWM output starts a period and takes the newest latched duty and direction. -/
  | pwmPeriodStart (out : Nat)
  /-- STEP_RATE_UPDATE [R341]: Every 10 µs a step axis updates its rate under its mode, its limits and its move rules. -/
  | stepRateUpdate (axis : Nat)
  /-- STEP_PULSE [R341]: A step axis emits a step pulse, updates PFG_POS and evaluates its compare. -/
  | stepPulse (axis : Nat)
  /-- PFG_STOP [R346]: The host command STOP halts an axis's pulses at once. -/
  | pfgStop
  /-- PFG_SOFT_STOP [R344]: The host command SOFT_STOP sets the target to the rest point. -/
  | pfgSoftStop
  /-- PFG_HOME [R350]: The host command HOME starts the homing sequence of an axis. -/
  | pfgHome
  /-- PFG_CLR_CHATTER [R348]: The host command CLR_CHATTER clears a latched LIMIT_CHATTER. -/
  | pfgClrChatter
  /-- DIN_SAMPLE [R347]: Every 10 µs the digital inputs are sampled, debounced and checked for chatter. -/
  | dinSample (raw : Nat)
  /-- QD_TRANSITION [R353]: A filtered quadrature transition updates the count, or counts as illegal. -/
  | qdTransition (port ab : Nat)
  /-- QD_INDEX [R355]: A rising index edge latches the count, and may zero it. -/
  | qdIndex (port : Nat)
  /-- QD_ILLEGAL_WINDOW [R354]: Each 1 ms step of the illegal-transition window sets or clears ENC_FAULT. -/
  | qdIllegalWindow (port : Nat)
  /-- EMU_EDGE_OUT [R357]: An emulation output emits a queued quadrature edge once the minimum gap has passed. -/
  | emuEdgeOut (out : Nat)
  /-- CMP_PULSE_END [R359]: The compare output pulse ends after PULSE_W. -/
  | cmpPulseEnd (axis : Bool) (unit : Nat)
  /-- SSI_REQUEST [R352]: An SSI port starts a frame at a request instant, or skips it on overrun. -/
  | ssiRequest (port : Nat)
  /-- SSI_WORD_DONE [R351]: An SSI frame completes, and its word is checked and stored. -/
  | ssiWordDone (port : Nat) (bits : List Bool) (lineHigh : Bool)
  /-- GNSS_EPOCH [R103]: At each 1 ms epoch the device applies AGC, notch and assignment changes, and the channels dump and run their state machines. -/
  | gnssEpoch (paths : List PathMeas) (chans : List ChMeas) (sky : List SkySat)
  /-- JAM_EVAL [R110]: Every 10 ms the jamming indicator is computed, and the warning flags are judged. -/
  | jamEval
  /-- PATH_FAULT [R105]: A path fault is declared when its condition has lasted long enough, or cleared after 5 s without it. -/
  | pathFault (path : Nat) (ovr : Bool)
  /-- JAM_CAL [R112]: A write of GNS0_JAM_REF.CAL starts a 10 s calibration of G_REF and N_REF. -/
  | jamCal
  /-- JAM_CAL_DONE [R112]: The calibration ends, and the measured means are set as references. -/
  | jamCalDone
  /-- ACQ_PASS_DONE [R115]: An acquisition dwell step completes, and its detection or the next step is decided. -/
  | acqPassDone (cell : Option Nat)
  /-- PULL_IN_TIMEOUT [R125]: A channel that has not reached FLL within 50 ms is released and its cell is masked. -/
  | pullInTimeout (chn : Nat)
  /-- COAST_TIMEOUT [R125]: A channel that has coasted for 1 s is released, CHN_LOST is raised and reacquisition is requested. -/
  | coastTimeout (chn : Nat)
  /-- XTRK_FRAME [R454]: An XTRK fragment arrives, and a block completes when all eleven fragments are in. -/
  | xtrkFrame (path frag epoch : Nat) (ok : Bool)
  /-- GNSS_SOLUTION [R137]: At a solution epoch GNS1 computes the solution and attitude and delivers the POS and ATT records to SRC. -/
  | gnssSolution (m : SolMeas)
  /-- RTCM_FRAME [R143]: An RTCM frame is received whole, checked and decoded or counted. -/
  | rtcmFrame (bytes : List Byte)
  /-- HOLDOVER_ENTRY [R152]: No solution for HOLD_DELAY puts TB0 into HOLDOVER. -/
  | holdoverEntry
  /-- HOLDOVER_ERR_UPDATE [R153]: Each second the holdover error estimate is updated, and HOLD_LIMIT is judged. -/
  | holdoverErrUpdate
  /-- CLOCK_STEP [R155]: At the tick where TB0 reaches the step second, TB0 is stepped, the record is written and realignment begins. -/
  | clockStep
  /-- PPS_PULSE [R158]: PPS_OUT starts the pulse for a second, and QERR is computed. -/
  | ppsPulse
  /-- PPS_PULSE_END [R158]: PPS_OUT ends its pulse after WIDTH. -/
  | ppsPulseEnd
  /-- TP_MSG [R160]: The time message for the next pulse is written to GNS2_TP_MSG0–7. -/
  | tpMsg
  /-- DORMANT_REFRESH [R163]: At the asleep level, every REFRESH hours, the refresh sequencer searches, decodes, solves and renews the kept data. -/
  | dormantRefresh
  /-- DORMANT_REFRESH_DONE [R163]: A refresh ends, the kept data is renewed and the device returns to the asleep level. -/
  | dormantRefreshDone (m : RefreshMeas)
  /-- WAKE [R94]: WAKE_N or TB3 reaching MDE_WAKE_AT wakes the device through BOOT and LOAD to the host level, or stops a descent. -/
  | wake (pin : Bool)
  /-- SOURCE_RECORD [R168]: A source record becomes available to FUS after stamping, parsing and projection, or is discarded at a full queue. -/
  | sourceRecord (r : RawRecord)
  /-- SOURCE_TIMEOUT [R167]: A source without a valid record for TIMEOUT enters TIMED_OUT. -/
  | sourceTimeout (src : Nat)
  /-- SIO_LINE [R174]: A complete IEC 61162 line on a SIO port is checked, matched and parsed into records. -/
  | sioLine (port : Nat) (bytes : List Byte) (startAt : Nat) (framing : Bool)
  /-- IEC450_DATAGRAM [R177]: An IEC 61162-450 datagram is accepted and its sentences are parsed. -/
  | iec450Datagram (mac : Nat) (group : Nat) (udp : Nat) (bytes : List Byte) (stamp : Nat)
  /-- ANALOG_SAMPLE [R183]: An FLT channel produces an output sample at its instant and hands it to SRC. -/
  | analogSample (input : Nat) (code : F32) (ovr : Bool)
  /-- FLT_SETTLED [R184]: An input's settle time ends, and its VALID bit sets. -/
  | fltSettled (input : Nat)
  /-- SCAN_SWITCH [R186]: After DWELL valid samples a scanning modulator switches input and starts a resettle. -/
  | scanSwitch (m : Nat)
  /-- FLT_RATIO_UPDATE [R188]: At each TB0 second boundary the APLL count sets the resampler ratio. -/
  | fltRatioUpdate (count : Nat)
  /-- TGT_LOST [R210]: A target whose last position update is older than FUS_TGT_TIMEOUT loses VALID. -/
  | tgtLost (obj : Nat)
  /-- TILE_FAULT [R302]: A tile is marked FAULTY; its runs are abandoned and its jobs are placed again and restarted. -/
  | tileFault (tile : Nat)
  /-- JOB_OVERRUN [R303]: A run that completes beyond its bound counts as an overrun, and the tile may become SUSPECT. -/
  | jobOverrun (job us : Nat)
  /-- BANK_ERROR [R304]: Corrected or uncorrectable errors in a shared bank make it SUSPECT or FAULTY, with the stated effects. -/
  | bankError (bank : Nat) (uncorr : Bool) (job : Nat) (active : Bool)
  /-- BANK_COPY_DONE [R300]: A workspace copy completes, and the workspace switches bank at the next cut. -/
  | bankCopyDone (bank : Nat)
  /-- MSN_DIAG_CLR [R301]: A host clear makes a FAULTY tile SUSPECT. -/
  | msnDiagClr (v : Nat)
  /-- CFG_LOAD_START [R46]: A write of CFG_LOAD_CTL.START starts the checks of a staged image. -/
  | cfgLoadStart
  /-- CFG_LOAD_ABORT [R49]: A write of ABORT ends a CHECKING, WRITING or PENDING load. -/
  | cfgLoadAbort
  /-- STAGING_TOUCHED [R46]: A write to the staging window during CHECKING refuses the load. -/
  | stagingTouched (addr : Nat) (b : Byte)
  /-- CFG_CHECKS_DONE [R48]: The image checks complete: the load is refused, or the slot write begins. -/
  | cfgChecksDone
  /-- CFG_SLOT_WRITTEN [R50]: The inactive slot write completes; the load becomes PENDING and CHECKED is raised, or the image is applied in READY. -/
  | cfgSlotWritten
  /-- CFG_KEY_DATA_WRITE [R62]: A write of a public key word is accepted in READY with LOCK, and the key is stored when word 15 is written. -/
  | cfgKeyDataWrite (v : Nat)
  /-- DEV_GO [R65]: MDE_DEV_CTL.GO moves the device from READY to RUN. -/
  | devGo
  /-- DEV_HOLD [R67]: MDE_DEV_CTL.HOLD with LOCK in RUN enters SAFE_HOLD. -/
  | devHold
  /-- BOOT [R529]: On leaving RESET the device locks the PLLs, initialises SRAM, loads the microcode and scans the recorder. -/
  | boot
  /-- LOAD [R61]: In LOAD the device checks and applies the active slot, or falls back to the other slot or to READY. -/
  | load
  /-- RESET_RELEASE [R523]: After rails, REFCLK, PFAIL_N and RESET_N have been good for 2 ms, the device leaves RESET. -/
  | resetRelease (unitId refsel : Bool)
  /-- RESET_N_ASSERT [R525]: RESET_N held low for 1 µs resets the device with cause 1. -/
  | resetNAssert
  /-- WATCHDOG_EXPIRE [R525]: A supervisor not serviced for 20 ms resets the device with cause 5. -/
  | watchdogExpire
  /-- HOST_RESET [R525]: A write of 0x0000_B007 to SYS_RST_CTL with LOCK resets the device with cause 4. -/
  | hostReset
  /-- THERMAL_READ [R536]: Every 1 ms the die sensors are read, the warnings are judged and a thermal trip resets the device. -/
  | thermalRead (temps : List F32)
  /-- SUPPLY_FAIL [R524]: A filtered PFAIL_N assertion stops recording, relinquishes, puts the outputs in fail states and makes the final segment. -/
  | supplyFail
  /-- FINAL_SEGMENT_DONE [R524]: The final segment completes, or 10 µs pass without one, and the device resets with cause 2. -/
  | finalSegmentDone
  /-- RAIL_FAULT [R522]: A rail drops below its warning or power-good level, and the domain effects of the table follow. -/
  | railFault (rail : Nat) (v : F32) (powerGoodLost : Bool)
  /-- DOMAIN_UP [R521]: A domain's power-good asserts, and the domain becomes usable after 200 µs. -/
  | domainUp (dom : Nat)
  /-- PWR_DOM_REQ_WRITE [R521]: A host request to switch a course, NDL or PCIE is accepted or refused. -/
  | pwrDomReqWrite (port : Port) (v : Nat)
  /-- PLL_LOCK_LOST [R534]: A PLL loses lock, and the action of the table follows. -/
  | pllLockLost (pll : Nat)
  /-- PLL_LOCK_REGAINED [R534]: A PLL re-locks, and its effect ends. -/
  | pllLockRegained (pll : Nat)
  /-- REFCLK_LOST [R535]: No edge on REFCLK, SERREF or PCIe REFCLK for 1 µs declares it lost. -/
  | refclkLost (input : Nat)
  /-- MPLL_HOLD_TIMEOUT [R535]: MPLL not re-locked 100 ms after a loss resets the device with cause 7. -/
  | mpllHoldTimeout
  /-- UC_UPDATE_START [R532]: A write of SYS_UC_CTL.START begins the check and write of a microcode image. -/
  | ucUpdateStart
  /-- UC_UPDATE_DONE [R532]: The microcode update completes with DONE or REFUSED. -/
  | ucUpdateDone
  /-- GROUT_STEP_START [R538]: Grout starts a test step on an idle item when it can end before the next cut. -/
  | groutStepStart (cls : Nat) (item : Nat)
  /-- GROUT_STEP_DONE [R540]: A Grout step completes: a pass, a repeat, or a confirmed fault with its action. -/
  | groutStepDone (cls : Nat) (pass : Bool) (code : Nat)
  /-- GROUT_PASS_END [R539]: At the end of a pass, coverage is reported and untested items carry over. -/
  | groutPassEnd
  /-- CAN_FRAME_RX [R374]: A received CAN frame is stamped, E2E-checked, matched for sources and stored or rejected by the filter list. -/
  | canFrameRx (ch : Nat) (f : CanFrame) (sof : Nat) (err : Option Nat)
  /-- CAN_FRAME_TX_END [R378]: A transmission attempt ends, and the transmit log and E2E counter are updated. -/
  | canFrameTxEnd (ch : Nat) (r : TxEnd) (sof : Nat)
  /-- CAN_TXREQ [R378]: A write of CANn_TXREQ makes host buffers pending. -/
  | canTxreq (ch hi v : Nat)
  /-- CAN_TXCANCEL [R380]: A write of CANn_TXCANCEL cancels a pending or windowed request. -/
  | canTxcancel (ch v : Nat)
  /-- CAN_PUT [R370]: CANn_CMD.PUT copies the staging copy into a TX buffer. -/
  | canPut (ch : Nat)
  /-- CAN_RESTART [R393]: CANn_CMD.RESTART starts bus-off recovery. -/
  | canRestart (ch : Nat)
  /-- BUS_OFF_RECOVERED [R393]: After 128 occurrences of 11 recessive bits the channel leaves bus-off. -/
  | busOffRecovered (ch : Nat)
  /-- DB_SNAP [R376]: A write of CANn_DB_SNAP copies the marked dedicated buffers into their shadows at one instant. -/
  | dbSnap (ch hi v : Nat)
  /-- RXF_ACK [R371]: A write of CANn_RXFn_ACK frees FIFO elements. -/
  | rxfAck (ch fifo v : Nat)
  /-- TXLOG_ACK [R378]: A write of CANn_TXLOG_ACK frees transmit-log entries. -/
  | txlogAck (ch v : Nat)
  /-- FLT_CTRL_WRITE [R375]: A write of CANn_FLT_CTRL makes a filter entry take effect. -/
  | fltCtrlWrite (ch v : Nat)
  /-- LAUNCH_DUE [R381]: TB0 reaches a pending buffer's launch time, and the buffer is requested. -/
  | launchDue (ch buf : Nat)
  /-- LAUNCH_LATE [R381]: A launch not started by launch + LATE_MAX is withdrawn. -/
  | launchLate (ch buf : Nat)
  /-- SB_REF_LAUNCH [R385]: The master launches the reference of a basic cycle, and a committed Storyboard set takes effect at that boundary. -/
  | sbRefLaunch (ch : Nat)
  /-- SB_WINDOW_START [R387]: A Storyboard window opens, and its CMD, EXCL or ARB frame is taken up. -/
  | sbWindowStart (ch : Nat)
  /-- SB_WINDOW_END [R388]: A window ends: missed frames, RXCHK checks and CMD occupancy are judged. -/
  | sbWindowEnd (ch : Nat)
  /-- SB_REF_MISS [R389]: A follower's reference missing or out of tolerance returns the channel to SYNC. -/
  | sbRefMiss (ch : Nat)
  /-- E2E_TIMEOUT [R398]: No frame within TIMEOUT gives the receive result NO_NEW. -/
  | e2eTimeout (ctx : Nat)
  /-- E2E_RUN_WRITE [R397]: A write of E2E_RUN sets the running value and counter of a disabled context. -/
  | e2eRunWrite (v : Nat)
  /-- TIM_SNAP [R407]: TIM_SNAP.SNAP latches all four time bases on one tick. -/
  | timSnap
  /-- TIM_STEP_GO [R408]: TIM_STEP_CTL.GO steps TB1 or TB2 and shifts the pending launches. -/
  | timStepGo
  /-- SRV_OFS_IN [R411]: A host offset written to TIM_SRV_OFS_IN updates the servo. -/
  | srvOfsIn (v : Nat)
  /-- PPSIN_EDGE [R410]: A PPS_IN edge is captured in all bases and gives an offset. -/
  | ppsinEdge
  /-- PPSIN_LOST [R410]: No PPS_IN edge for 2 s raises PPSIN_LOST. -/
  | ppsinLost
  /-- SERVO_HOLDOVER [R413]: No offset for TIM_SRV_LOCK.TIMEOUT puts a servo into HOLDOVER. -/
  | servoHoldover (tb : Nat)
  /-- ETH_RX_FRAME [R417]: A received Ethernet frame is filtered, stamped, stored in a free buffer or dropped, or delivered to SRC. -/
  | ethRxFrame (n : Nat) (bytes : List Byte) (good : Bool) (at_ : Nat)
  /-- ETH_TX_PUSH [R418]: A write of ETHn_TX_PUSH queues a frame for transmission. -/
  | ethTxPush (n v : Nat)
  /-- ETH_TX_DONE [R418]: A frame transmission completes, and its completion is written with stamps. -/
  | ethTxDone (n : Nat) (at_ : Nat)
  /-- ETH_LAUNCH_LATE [R423]: A launch frame that cannot start in time is withdrawn or sent late. -/
  | ethLaunchLate (n q : Nat)
  /-- ETH_RX_FREE [R417]: A write of ETHn_RX_FREE gives a buffer to the MAC. -/
  | ethRxFree (n v : Nat)
  /-- ETH_RX_POP [R417]: A read of ETHn_RX_POP pops one filled receive buffer. -/
  | ethRxPop (port : Port) (n : Nat)
  /-- ETH_TXC_POP [R418]: A read of ETHn_TXC pops one transmit completion. -/
  | ethTxcPop (port : Port) (n : Nat)
  /-- ETH_LINK_CHANGE [R415]: SGMII auto-negotiation brings the link up or down. -/
  | ethLinkChange (n : Nat) (done full : Bool)
  /-- MDIO_WRITE [R426]: An ETHn_MDIO write with OP 1 starts a clause-22 write. -/
  | mdioWrite (n v : Nat)
  /-- MDIO_READ [R426]: An ETHn_MDIO write with OP 2 starts a clause-22 read. -/
  | mdioRead (n v : Nat)
  /-- MDIO_DONE [R426]: An MDIO access completes, and BUSY clears. -/
  | mdioDone (n data : Nat)
  /-- NDL_HELLO [R433]: The HELLO frames are received and the link comes up, with identity and grade checks. -/
  | ndlHello (h : Hello)
  /-- NDL_LINK_DOWN [R433]: No valid frame for 50 µs, or too many CRC failures, takes the link down. -/
  | ndlLinkDown (crc : Bool)
  /-- NDL_RETRAIN [R433]: 1 ms after a link down, training starts again. -/
  | ndlRetrain
  /-- NDL_LANE_DOWN [R433]: A lane without block lock for 1 µs is dropped, and the link continues on the other lane. -/
  | ndlLaneDown (lane : Nat)
  /-- KEEPALIVE [R433]: A KEEPALIVE frame is sent after 10 µs without another frame. -/
  | keepalive
  /-- TIME_FRAME [R437]: The standby receives a TIME frame, replies and forms the pair offset for its servo. -/
  | timeFrame (t1 t4 t2 t3 : Nat)
  /-- TIME_REPLY [R437]: The primary receives a TIME_REPLY and stamps t4. -/
  | timeReply (t2 t3 t4 : Nat) (synced ready : Bool)
  /-- STEP_ANNOUNCE [R157]: The standby receives a step announcement and sets the same TB0 step. -/
  | stepAnnounce (second : Nat) (ofs : Int)
  /-- CUT_PART [R449]: The standby receives and applies the cut part of the continuity set. -/
  | cutPart (p : Machine.CutPart)
  /-- CUT_PART_MISS [R449]: A cut part not received within 20 µs is counted, and the previous mode is kept. -/
  | cutPartMiss
  /-- BULK_FRAME [R451]: A bulk-part frame arrives, and the set is accepted when complete by 0.95 T. -/
  | bulkFrame (b : BulkIn)
  /-- HB_TOGGLE [R438]: HB_OUT toggles every 500 µs while the heartbeat permit holds. -/
  | hbToggle
  /-- HB_PERMIT_LAPSE [R439]: The heartbeat permit lapses 1.5 T after the last renewal, and a primary relinquishes. -/
  | hbPermitLapse
  /-- HB_IN_EDGE [R438]: An HB_IN edge is judged toward HB_IN alive. -/
  | hbInEdge
  /-- HB_IN_STOP [R438]: No HB_IN edge for 1.2 ms marks HB_IN stopped. -/
  | hbInStop
  /-- SEEK_TIMEOUT [R430]: SEEK elapses without the link, and the unit becomes PRIMARY_ALONE or DEGRADED_STANDBY. -/
  | seekTimeout
  /-- PAIR_RELINQUISH [R441]: A host write of PAIR_CTL.RELINQUISH with LOCK makes the primary relinquish. -/
  | pairRelinquish
  /-- RELINQUISH_RX [R442]: A standby receiving RELINQUISH takes command. -/
  | relinquishRx
  /-- SILENT_TAKEOVER [R443]: HB_IN stopped, link down and empty CMD windows held for 3 ms make a standby take command. -/
  | silentTakeover
  /-- TAKE_ACK [R455]: The primary receives the standby's TAKE_ACK for a take. -/
  | takeAck
  /-- TAKE_LOOPS [R456]: The new primary receives TAKE_LOOPS and enables its outputs at D + 12 µs. -/
  | takeLoops (loops : List Machine.LoopCh)
  /-- TAKE_CHECK_END [R457]: After TAKE_CHECK cycles the take passes or fails, and a failure gives command back. -/
  | takeCheckEnd
  /-- TAKE_NOW [R455]: A write of PAIR_CTL.TAKE_NOW requests a take at the next second boundary. -/
  | takeNow
  /-- CLR_TAKE_FAIL [R457]: A write of PAIR_CTL.CLR_TAKE_FAIL clears the latch and resumes periodic takes. -/
  | clrTakeFail
  /-- STILL [R458]: A write of PAIR_CTL.STILL sends STILL_REQ and sets the capture tick. -/
  | still
  /-- STILL_CAPTURE [R458]: At the capture tick each unit captures its Still set. -/
  | stillCapture
  /-- STILL_REQ [R458]: The partner receives STILL_REQ and sets its capture tick. -/
  | stillReq (tc : Nat)
  /-- STILL_DATA [R458]: The requester receives the partner's capture, and the Still is done. -/
  | stillData (d : Machine.StillSet)
  /-- GLOBAL_GO [R459]: A write of PAIR_GLB_CTL.GO starts a global operation when FREE windows allow it. -/
  | globalGo
  /-- GLOBAL_DONE [R459]: All acknowledgements arrive and the global operation reads DONE. -/
  | globalDone
  /-- GLOBAL_TIMEOUT [R459]: A global operation not done within TIMEOUT reads TIMEOUT or REFUSED. -/
  | globalTimeout
  /-- SAF_INPUT_CHANGE [R468]: A safety channel's filter takes a new input level, and an opening line is a demand that switches off the mapped outputs. -/
  | safInputChange (pin : SafPin) (chB : Bool) (level : Bool)
  /-- DISCREPANCY [R469]: A discrepancy timer reaching DISC_TIME latches DISCREPANCY and sets STARTUP_PEND. -/
  | discrepancy (input : Nat) (chB : Bool)
  /-- SRST_RELEASE [R475]: An accepted SRST release clears latches and enables RESTART outputs whose conditions hold. -/
  | srstRelease (nsA nsB : Nat)
  /-- RESET_STUCK [R476]: An SRST press held past 5 s sets RESET_STUCK. -/
  | resetStuck
  /-- TEST_PULSE [R478]: A channel pulses an on output low for TP_WIDTH every TP_PERIOD and checks its read-back. -/
  | testPulse (out : Nat) (chB : Bool) (ok : Bool)
  /-- SAF_EXCHANGE [R481]: At each SAF-B loop the channels exchange status and may latch CHANNEL_FAULT and enter HALT. -/
  | safExchange (x : SafExch)
  /-- SAF_UNLOCK_FIRST [R483]: A write of 0x0000_5AFE to SAF_UNLOCK with the key opens the unlock sequence. -/
  | safUnlockFirst (v : Nat)
  /-- SAF_UNLOCK_SECOND [R483]: A write of 0x0000_C0DE within 100 ms enters CONFIG. -/
  | safUnlockSecond (v : Nat)
  /-- SAF_UNLOCK_TIMEOUT [R483]: A second write missing after 100 ms ends the sequence without effect. -/
  | safUnlockTimeout
  /-- SAF_CONFIG_EXIT [R484]: A key release or a write of 0 leaves CONFIG, and the CRC check enters RUN or CFG_BAD. -/
  | safConfigExit (key : Bool)
  /-- SAF_CRC_EXP_WRITE [R484]: A write of SAF_CFG_CRC_EXP ends INIT with the CRC check. -/
  | safCrcExpWrite (v : Nat)
  /-- EVT_COMMIT [R500]: When 64 records wait, or 10 ms have passed and energy allows, the queued records are committed in one segment. -/
  | evtCommit
  /-- RECORDS_LOST [R501]: After a drop, the first free queue slot takes a RECORDS_LOST record. -/
  | recordsLost
  /-- EVT_HOST_CODE [R502]: A write of EVT_HOST_CODE enters a host record. -/
  | evtHostCode (v : Nat)
  /-- EVT_ACK [R504]: A write of EVT_ACK updates the backlog and the NEW_RECORDS judgement. -/
  | evtAck (v : Nat)
  /-- LIF_COMMIT [R506]: Every 60 s of TB3, or on a take, preset or leap, the lifetime store is committed to the next copy. -/
  | lifCommit
  /-- LIF_PRESET [R508]: LIF_PRESET_CTL.GO with LOCK sets a counter at the next commit. -/
  | lifPreset
  /-- LEAP_ADD [R509]: LIF_LEAP_CTL.ADD with LOCK adds the staged leap entry. -/
  | leapAdd
  /-- HOLD_MEASURE [R511]: At power-up, every 60 s or on HLD_CTL.MEASURE, the hold-up capacitance measurement starts. -/
  | holdMeasure
  /-- HOLD_MEASURE_DONE [R511]: The measurement ends with a new C, or a failure is counted. -/
  | holdMeasureDone (v0 v1 v2 : F32)
  /-- HOLD_ENERGY_UPDATE [R512]: Every 1 ms E is computed, and HOLD_LOW is set or cleared. -/
  | holdEnergyUpdate (v : F32)
  /-- PCIE_REQUEST [R549]: A PCIe request is taken DW by DW against the address map. -/
  | pcieRequest (accs : List Access)
  /-- QSPI_TRANSFER [R551]: A quad-SPI transfer framed by CS_N carries reads or writes word by word. -/
  | qspiTransfer (t : QspiXfer)
  /-- PCIE_HOT_RESET [R528]: A PCIe hot reset or link-down resets only the endpoint and page HST. -/
  | pcieHotReset (linkDown : Bool)
  /-- REGISTER_WRITE [R556]: A write to a register without a row of its own acts field by field by class, or is rejected. -/
  | registerWrite (port : Port) (addr v : Nat)
  /-- COMMIT [R558]: A write of CTL.COMMIT checks cross-field rules and copies the shadow copies into the commit buffer. -/
  | commit (page : Nat)
  /-- COMMIT_APPLY [R588]: At a non-cut boundary the commit buffer of a page or index is applied. -/
  | commitApply (page idx : Nat)
  /-- DISCARD [R559]: A write of CTL.DISCARD cancels a pending commit and resets the shadows. -/
  | discard (page : Nat)
  /-- FREEZE [R561]: A write of CTL.FREEZE captures, or releases, the page's RO fields. -/
  | freeze (page : Nat) (on : Bool)
  /-- LOCK_WRITE [R562]: A write of LOCK.KEY opens or closes the page lock. -/
  | lockWrite (page v : Nat)
  /-- LOCK_EXPIRE [R562]: An open lock closes 100 ms after it opened. -/
  | lockExpire (page : Nat)
  /-- IRQ_STAT_CLEAR [R563]: A 1 written to IRQ_STAT clears the interrupt bit. -/
  | irqStatClear (page v : Nat)
  /-- IRQ_FORCE [R563]: A 1 written to IRQ_FORCE sets the interrupt bit as an event would. -/
  | irqForce (page v : Nat)
  /-- IRQ_EOI [R566]: A write of IRQ_EOI resends the message of a still-pending vector. -/
  | irqEoi (v : Nat)
  /-- CFG_REJECTED_CLEAR [R554]: Writing 1 to STAT.CFG_REJECTED clears it and CFG_ERR. -/
  | cfgRejectedClear (page : Nat)
  /-- LATCH_READ [R10]: A read of a _LO register, or of a record's first word, latches the rest for that port. -/
  | latchRead (port : Port) (addr : Nat)
  /-- HOST_TIMEOUT [R567]: No host access for HST_TIMEOUT.MS in RUN raises HOST_TIMEOUT. -/
  | hostTimeout
  /-- RELAY_HOLD_END [R456]: RELAY_MS after the take's D + 2 µs, the old primary's held DAC and PWM outputs enter their fail states. -/
  | relayHoldEnd
  /-- ETH_LAUNCH_DUE [R422]: A queue's time base reaches a head launch frame's LAUNCH less its preamble time, and the MAC starts the frame. -/
  | ethLaunchDue (n q : Nat)
  /-- PCIE_LINK_UP [R568]: The PCIe link completes training, PCIE_UP sets and LINK is raised. -/
  | pcieLinkUp (width speed : Nat)
  /-- REFCLK_BACK [R544]: Edges return on REFCLK, SERREF or PCIe REFCLK after a loss, the clock is marked present and REFCLK_BACK is raised. -/
  | refclkBack (input : Nat)
  /-- SOUTFB_MISMATCH [R478]: A SOUTFB read-back fails the static comparison on two consecutive samples, OUT_FAULT latches and the output switches off. -/
  | soutfbMismatch (out : Nat) (chB : Bool)
  /-- SAF_POWER_UP [R482]: Both SAF domains power up, the island enters INIT with STARTUP_PEND, checks SRST at the end of its filter, and the device writes it the active SAFETY_MAP. -/
  | safPowerUp (srst : Bool)
  /-- AON_POWER_UP [R405]: The always-on domain powers up, TB3 restarts from the committed value and the device enters RESET with cause 0. -/
  | aonPowerUp
  /-- TB_SECOND_LATCH [R409]: At each TB0 second-boundary tick, TB0 less TB1 or TB2 is latched and fed to the TB0 servo when its SRC is 3 or 4. -/
  | tbSecondLatch
  /-- KEPT_DATA_DISCARD [R161]: 30 days after the last refresh, the always-on domain discards all kept satellite and time data. -/
  | keptDataDiscard
  /-- UNCORRECTABLE_MEMORY_ERROR [R67]: An uncorrectable error in the Storyboard or in the filter or message RAMs puts the device into SAFE_HOLD with cause 3. -/
  | uncorrectableMemoryError (where_ : Nat)
  deriving DecidableEq, Repr

end Sys2Proof
end

