-- ==== Sys2Proof/WellFormed.lean ====
section
/-! DEFINITION. Well-formed commands: every index within the resource it names and every word within its width. -/

namespace Sys2Proof

/-- A command is well formed: its indices name a resource of the TW816 and its words fit their registers. -/
def Instr.wf : Instr → Bool
  | .cut => true
  | .dormantAsleep => true
  | .rerunDone obj => decide (obj < 8)
  | .stateOutput => true
  | .solveConverged _ => true
  | .deadline => true
  | .appendageSubcycle => true
  | .continuitySetTake => true
  | .loopSample ch => decide (ch < 32)
  | .outputLatch ch => decide (ch < 32)
  | .loopFaultClr => true
  | .pwmPeriodStart out => decide (16 ≤ out) && decide (out < 32)
  | .stepRateUpdate axis => decide (axis < 8)
  | .stepPulse axis => decide (axis < 8)
  | .pfgStop => true
  | .pfgSoftStop => true
  | .pfgHome => true
  | .pfgClrChatter => true
  | .dinSample raw => decide (raw < 2 ^ 32)
  | .qdTransition port ab => decide (port < 16) && decide (ab < 4)
  | .qdIndex port => decide (port < 16)
  | .qdIllegalWindow port => decide (port < 16)
  | .emuEdgeOut out => decide (out < 8)
  | .cmpPulseEnd _ unit => decide (unit < 16)
  | .ssiRequest port => decide (port < 16)
  | .ssiWordDone port _ _ => decide (port < 16)
  | .gnssEpoch _ _ _ => true
  | .jamEval => true
  | .pathFault path _ => decide (path < 4)
  | .jamCal => true
  | .jamCalDone => true
  | .acqPassDone _ => true
  | .pullInTimeout chn => decide (chn < 192)
  | .coastTimeout chn => decide (chn < 192)
  | .xtrkFrame path frag _ _ => decide (path < 4) && decide (frag < 11)
  | .gnssSolution _ => true
  | .rtcmFrame _ => true
  | .holdoverEntry => true
  | .holdoverErrUpdate => true
  | .clockStep => true
  | .ppsPulse => true
  | .ppsPulseEnd => true
  | .tpMsg => true
  | .dormantRefresh => true
  | .dormantRefreshDone _ => true
  | .wake _ => true
  | .sourceRecord r => decide (r.src < 32)
  | .sourceTimeout src => decide (src < 32)
  | .sioLine port _ _ _ => decide (port < 12)
  | .iec450Datagram mac _ _ _ _ => decide (mac < 4)
  | .analogSample input _ _ => decide (input < 16)
  | .fltSettled input => decide (input < 16)
  | .scanSwitch m => decide (m < 8)
  | .fltRatioUpdate _ => true
  | .tgtLost obj => decide (1 ≤ obj) && decide (obj < 8)
  | .tileFault tile => decide (tile < 12)
  | .jobOverrun job _ => decide (job < 15)
  | .bankError bank _ job _ => decide (bank < 40) && decide (job < 15)
  | .bankCopyDone bank => decide (bank < 40)
  | .msnDiagClr v => decide (v < 2 ^ 32)
  | .cfgLoadStart => true
  | .cfgLoadAbort => true
  | .stagingTouched addr _ => decide (0x03000000 ≤ addr) && decide (addr < 0x03100000)
  | .cfgChecksDone => true
  | .cfgSlotWritten => true
  | .cfgKeyDataWrite v => decide (v < 2 ^ 32)
  | .devGo => true
  | .devHold => true
  | .boot => true
  | .load => true
  | .resetRelease _ _ => true
  | .resetNAssert => true
  | .watchdogExpire => true
  | .hostReset => true
  | .thermalRead _ => true
  | .supplyFail => true
  | .finalSegmentDone => true
  | .railFault rail _ _ => decide (rail < 17)
  | .domainUp dom => decide (dom < 16)
  | .pwrDomReqWrite _ v => decide (v < 2 ^ 32)
  | .pllLockLost pll => decide (pll < 8)
  | .pllLockRegained pll => decide (pll < 8)
  | .refclkLost input => decide (input < 3)
  | .mpllHoldTimeout => true
  | .ucUpdateStart => true
  | .ucUpdateDone => true
  | .groutStepStart cls _ => decide (cls < 6)
  | .groutStepDone cls _ _ => decide (cls < 6)
  | .groutPassEnd => true
  | .canFrameRx ch _ _ _ => decide (ch < 8)
  | .canFrameTxEnd ch _ _ => decide (ch < 8)
  | .canTxreq ch hi v => decide (ch < 8) && decide (hi < 2) && decide (v < 2 ^ 32)
  | .canTxcancel ch v => decide (ch < 8) && decide (v < 2 ^ 32)
  | .canPut ch => decide (ch < 8)
  | .canRestart ch => decide (ch < 8)
  | .busOffRecovered ch => decide (ch < 8)
  | .dbSnap ch hi v => decide (ch < 8) && decide (hi < 2) && decide (v < 2 ^ 32)
  | .rxfAck ch fifo v => decide (ch < 8) && decide (fifo < 2) && decide (v < 2 ^ 32)
  | .txlogAck ch v => decide (ch < 8) && decide (v < 2 ^ 32)
  | .fltCtrlWrite ch v => decide (ch < 8) && decide (v < 2 ^ 32)
  | .launchDue ch buf => decide (ch < 8) && decide (buf < 64)
  | .launchLate ch buf => decide (ch < 8) && decide (buf < 64)
  | .sbRefLaunch ch => decide (ch < 8)
  | .sbWindowStart ch => decide (ch < 8)
  | .sbWindowEnd ch => decide (ch < 8)
  | .sbRefMiss ch => decide (ch < 8)
  | .e2eTimeout ctx => decide (ctx < 16)
  | .e2eRunWrite v => decide (v < 2 ^ 32)
  | .timSnap => true
  | .timStepGo => true
  | .srvOfsIn v => decide (v < 2 ^ 32)
  | .ppsinEdge => true
  | .ppsinLost => true
  | .servoHoldover tb => decide (tb < 3)
  | .ethRxFrame n _ _ _ => decide (n < 4)
  | .ethTxPush n v => decide (n < 4) && decide (v < 2 ^ 32)
  | .ethTxDone n _ => decide (n < 4)
  | .ethLaunchLate n q => decide (n < 4) && decide (q < 8)
  | .ethRxFree n v => decide (n < 4) && decide (v < 2 ^ 32)
  | .ethRxPop _ n => decide (n < 4)
  | .ethTxcPop _ n => decide (n < 4)
  | .ethLinkChange n _ _ => decide (n < 4)
  | .mdioWrite n v => decide (n < 4) && decide (v < 2 ^ 32)
  | .mdioRead n v => decide (n < 4) && decide (v < 2 ^ 32)
  | .mdioDone n data => decide (n < 4) && decide (data < 2 ^ 16)
  | .ndlHello h => decide (h.unitId < 2) && decide (h.grade < 2)
  | .ndlLinkDown _ => true
  | .ndlRetrain => true
  | .ndlLaneDown lane => decide (lane < 2)
  | .keepalive => true
  | .timeFrame _ _ _ _ => true
  | .timeReply _ _ _ _ _ => true
  | .stepAnnounce _ _ => true
  | .cutPart _ => true
  | .cutPartMiss => true
  | .bulkFrame b => decide (b.frag < b.frags)
  | .hbToggle => true
  | .hbPermitLapse => true
  | .hbInEdge => true
  | .hbInStop => true
  | .seekTimeout => true
  | .pairRelinquish => true
  | .relinquishRx => true
  | .silentTakeover => true
  | .takeAck => true
  | .takeLoops _ => true
  | .takeCheckEnd => true
  | .takeNow => true
  | .clrTakeFail => true
  | .still => true
  | .stillCapture => true
  | .stillReq _ => true
  | .stillData _ => true
  | .globalGo => true
  | .globalDone => true
  | .globalTimeout => true
  | .safInputChange _ _ _ => true
  | .discrepancy input _ => decide (input < 8)
  | .srstRelease _ _ => true
  | .resetStuck => true
  | .testPulse out _ _ => decide (out < 4)
  | .safExchange _ => true
  | .safUnlockFirst v => decide (v < 2 ^ 32)
  | .safUnlockSecond v => decide (v < 2 ^ 32)
  | .safUnlockTimeout => true
  | .safConfigExit _ => true
  | .safCrcExpWrite v => decide (v < 2 ^ 32)
  | .evtCommit => true
  | .recordsLost => true
  | .evtHostCode v => decide (v < 2 ^ 32)
  | .evtAck v => decide (v < 2 ^ 32)
  | .lifCommit => true
  | .lifPreset => true
  | .leapAdd => true
  | .holdMeasure => true
  | .holdMeasureDone _ _ _ => true
  | .holdEnergyUpdate _ => true
  | .pcieRequest _ => true
  | .qspiTransfer _ => true
  | .pcieHotReset _ => true
  | .registerWrite _ addr v => decide (addr < 0x40000) && decide (v < 2 ^ 32)
  | .commit page => decide (page < 64)
  | .commitApply page _ => decide (page < 64)
  | .discard page => decide (page < 64)
  | .freeze page _ => decide (page < 64)
  | .lockWrite page v => decide (page < 64) && decide (v < 2 ^ 32)
  | .lockExpire page => decide (page < 64)
  | .irqStatClear page v => decide (page < 64) && decide (v < 2 ^ 32)
  | .irqForce page v => decide (page < 64) && decide (v < 2 ^ 32)
  | .irqEoi v => decide (v < 2 ^ 32)
  | .cfgRejectedClear page => decide (page < 64)
  | .latchRead _ addr => decide (addr < 2 ^ 27)
  | .hostTimeout => true
  | .relayHoldEnd => true
  | .ethLaunchDue n q => decide (n < 4) && decide (q < 8)
  | .pcieLinkUp width speed => decide (width < 4) && decide (speed < 4)
  | .refclkBack input => decide (input < 3)
  | .soutfbMismatch out _ => decide (out < 4)
  | .safPowerUp _ => true
  | .aonPowerUp => true
  | .tbSecondLatch => true
  | .keptDataDiscard => true
  | .uncorrectableMemoryError _ => true

end Sys2Proof
end

