-- ==== Sys2Proof/Decode.lean ====
section
/-! DEFINITION. The command that a table word spells. No row of spec/opcode_table.json has bits, so no word spells a command (log 1). -/

namespace Sys2Proof

/-- The command that the bits `w` of a table row of `nbits` bits spell: none, since no row of the table gives bits. -/
def decodeTableWord (nbits w : Nat) : Option Instr :=
  match nbits, w with
  | _, _ => none

end Sys2Proof
end

