-- ==== Sys2Proof/Config.lean ====
section
/-! DEFINITION. What an implementation fixes and the spec leaves open: constants without a body, so that nothing can be proved of their values (log 3, 5, 8, 10, 11). -/

namespace Sys2Proof

/-- The fused 64-bit device number [18 SYS_UID]. -/
opaque Config.uid : Nat
/-- Offset of the device's own event codes in each range of R493 [17 R589]. -/
opaque Config.evtOfs : Nat → Nat
/-- EVT_CAT_FMT of an event whose code is the device's own choice [17 R589]. -/
opaque Config.evtFmt : Nat → Nat
/-- A value the spec leaves open, by the count of such values and a key of its place (log 5). -/
opaque Config.freeNat : Nat → Nat → Nat
/-- A binary32 value the spec leaves open (log 5). -/
opaque Config.freeF32 : Nat → Nat → F32
/-- A binary64 value the spec leaves open (log 5). -/
opaque Config.freeF64 : Nat → Nat → F64
/-- The ECDSA check of 02 R40 and 18 R530: public key words, message bytes and signature bytes (log 10). -/
opaque Config.sigOk : List Nat → List Byte → List Byte → Bool
/-- The two microcode keys held in ROM [18 R530]. -/
opaque Config.romKey : Nat → List Nat
/-- The 64 KiB page of the MRAM die that holds a part of an area, by area and part; the spec gives no layout of the die (log 35). -/
opaque Config.mramPage : Nat → Nat → Nat
/-- Size of an AGC step, in 0.5 dB, by present gain, level and target: the first-order loop of 04 R104, whose arithmetic the spec does not give (log 37). -/
opaque Config.agcStep : Nat → Nat → Nat → Nat
/-- Sine, binary64 (log 8). -/
opaque Config.sin : F64 → F64
/-- Cosine, binary64 (log 8). -/
opaque Config.cos : F64 → F64
/-- Angle of the point (second, first argument), in (-pi, pi] (log 8). -/
opaque Config.atan2 : F64 → F64 → F64
/-- Inverse sine (log 8). -/
opaque Config.asin : F64 → F64
/-- Natural exponential (log 8). -/
opaque Config.exp : F64 → F64
/-- Natural logarithm (log 8). -/
opaque Config.log : F64 → F64
/-- Power with a real exponent (log 8). -/
opaque Config.pow : F64 → F64 → F64
/-- Tangent (log 8). -/
opaque Config.tan : F64 → F64
/-- Offset of the MSI-X capability in the PCIe configuration space, a multiple of 4; the spec gives no place (log 48). -/
opaque Config.msixCap : Nat
/-- Words of the PCIe configuration space that the spec does not give (log 48). -/
opaque Config.pcieCfg : Nat → Nat

end Sys2Proof
end

