-- ==== Sys2Proof/Machine/Float.lean ====
section
/-! DEFINITION. IEEE 754 binary32 and binary64 arithmetic with round to nearest, ties to even, on exact integers [00_scope.md R7; the rounding: log 9]. -/

namespace Sys2Proof

/-- A floating format: precision in bits (hidden bit included), exponent of the last subnormal place, and width of the exponent field. -/
structure Fmt where
  /-- bits of the significand with the hidden bit -/
  p : Nat
  /-- exponent of the least bit of a subnormal -/
  emin : Int
  /-- width of the exponent field -/
  ew : Nat
  deriving DecidableEq, Repr

/-- binary32. -/
def Fmt.b32 : Fmt := ⟨24, -149, 8⟩
/-- binary64. -/
def Fmt.b64 : Fmt := ⟨53, -1074, 11⟩

/-- Bits of +infinity. -/
def Fmt.inf (f : Fmt) : Nat := (2 ^ f.ew - 1) * 2 ^ (f.p - 1)
/-- The sign bit. -/
def Fmt.sign (f : Fmt) : Nat := 2 ^ (f.ew + f.p - 1)
/-- Bits of the NaN that an operation makes. -/
def Fmt.nan (f : Fmt) : Nat := f.inf + 2 ^ (f.p - 2)
/-- Bits without the sign. -/
def Fmt.mag (f : Fmt) (b : Nat) : Nat := b % f.sign
/-- The sign of the bits. -/
def Fmt.neg? (f : Fmt) (b : Nat) : Bool := decide (f.sign ≤ b)
/-- The bits are a NaN. -/
def Fmt.nan? (f : Fmt) (b : Nat) : Bool := decide (f.inf < f.mag b)
/-- The bits are an infinity. -/
def Fmt.inf? (f : Fmt) (b : Nat) : Bool := decide (f.mag b = f.inf)
/-- The bits are neither NaN nor infinity. -/
def Fmt.fin? (f : Fmt) (b : Nat) : Bool := decide (f.mag b < f.inf)

/-- Significand and exponent of finite bits: the magnitude is `m * 2^e`. -/
def Fmt.unpack (f : Fmt) (b : Nat) : Nat × Int :=
  let ex := f.mag b / 2 ^ (f.p - 1)
  let fr := f.mag b % 2 ^ (f.p - 1)
  if ex = 0 then (fr, f.emin) else (2 ^ (f.p - 1) + fr, f.emin + (ex : Int) - 1)

/-- `m / 2^k` rounded to nearest, ties to even. -/
def rneShift (m k : Nat) : Nat :=
  let q := m / 2 ^ k
  let r := m % 2 ^ k
  if k = 0 then m
  else if r < 2 ^ (k - 1) then q
  else if r > 2 ^ (k - 1) then q + 1
  else q + q % 2

/-- The bits nearest to `± m * 2^e`. -/
def Fmt.round (f : Fmt) (s : Bool) (m : Nat) (e : Int) : Nat :=
  let sb := if s then f.sign else 0
  if m = 0 then sb
  else
    let q := max (e + (Nat.log2 m + 1 : Nat) - f.p) f.emin
    let mant := if q ≤ e then m * 2 ^ (e - q).toNat else rneShift m (q - e).toNat
    let b := (q - f.emin).toNat * 2 ^ (f.p - 1) + mant
    sb + min b f.inf

/-- The signed exact value `v * 2^e` of finite bits. -/
def Fmt.exact (f : Fmt) (b : Nat) : Int × Int :=
  let (m, e) := f.unpack b
  (if f.neg? b then -(m : Int) else m, e)

/-- The bits nearest to `v * 2^e`; a zero takes the sign `z`. -/
def Fmt.roundInt (f : Fmt) (z : Bool) (v e : Int) : Nat :=
  if v = 0 then (if z then f.sign else 0) else f.round (decide (v < 0)) v.natAbs e

/-- Sum. -/
def Fmt.add (f : Fmt) (a b : Nat) : Nat :=
  if f.nan? a || f.nan? b then f.nan
  else if f.inf? a then (if f.inf? b && a != b then f.nan else a)
  else if f.inf? b then b
  else
    let (va, ea) := f.exact a
    let (vb, eb) := f.exact b
    let e := min ea eb
    f.roundInt (f.neg? a && f.neg? b) (va * 2 ^ (ea - e).toNat + vb * 2 ^ (eb - e).toNat) e

/-- Sign reversed. -/
def Fmt.negate (f : Fmt) (a : Nat) : Nat := if f.neg? a then a - f.sign else a + f.sign

/-- Product. -/
def Fmt.mul (f : Fmt) (a b : Nat) : Nat :=
  let s := f.neg? a != f.neg? b
  let sb := if s then f.sign else 0
  if f.nan? a || f.nan? b then f.nan
  else if f.inf? a || f.inf? b then (if f.mag a = 0 || f.mag b = 0 then f.nan else sb + f.inf)
  else
    let (ma, ea) := f.unpack a
    let (mb, eb) := f.unpack b
    f.round s (ma * mb) (ea + eb)

/-- The bits nearest to `± n / d * 2^e` for `d` above 0. -/
def Fmt.ratio (f : Fmt) (s : Bool) (n d : Nat) (e : Int) : Nat :=
  let k := f.p + 3 + Nat.log2 d - Nat.log2 n
  let q := n * 2 ^ k / d
  let r := n * 2 ^ k % d
  f.round s (2 * q + (if r = 0 then 0 else 1)) (e - k - 1)

/-- Quotient. -/
def Fmt.div (f : Fmt) (a b : Nat) : Nat :=
  let s := f.neg? a != f.neg? b
  let sb := if s then f.sign else 0
  if f.nan? a || f.nan? b then f.nan
  else if f.inf? a then (if f.inf? b then f.nan else sb + f.inf)
  else if f.inf? b then sb
  else if f.mag b = 0 then (if f.mag a = 0 then f.nan else sb + f.inf)
  else if f.mag a = 0 then sb
  else
    let (ma, ea) := f.unpack a
    let (mb, eb) := f.unpack b
    f.ratio s ma mb (ea - eb)

/-- Integer square root of `n`, bit by bit from bit `k - 1` of the root down. -/
def isqrtGo (n : Nat) : Nat → Nat → Nat
  | 0, r => r
  | k + 1, r => isqrtGo n k (if (r + 2 ^ k) * (r + 2 ^ k) ≤ n then r + 2 ^ k else r)

/-- Integer square root, rounded down. -/
def isqrt (n : Nat) : Nat := isqrtGo n (Nat.log2 n / 2 + 1) 0

/-- Square root. -/
def Fmt.sqrt (f : Fmt) (a : Nat) : Nat :=
  if f.nan? a then f.nan
  else if f.mag a = 0 then a
  else if f.neg? a then f.nan
  else if f.inf? a then a
  else
    let (m, e) := f.unpack a
    let k := 2 * f.p + 4 + (e % 2).toNat
    let n := m * 2 ^ k
    let r := isqrt n
    f.round false (2 * r + (if r * r = n then 0 else 1)) ((e - k) / 2 - 1)

/-- Order key of bits that are not NaN. -/
def Fmt.key (f : Fmt) (a : Nat) : Int := if f.neg? a then -(f.mag a : Int) else f.mag a

/-- `a < b`, false with a NaN. -/
def Fmt.lt (f : Fmt) (a b : Nat) : Bool := !(f.nan? a) && !(f.nan? b) && decide (f.key a < f.key b)
/-- `a ≤ b`, false with a NaN. -/
def Fmt.le (f : Fmt) (a b : Nat) : Bool := !(f.nan? a) && !(f.nan? b) && decide (f.key a ≤ f.key b)

/-- How an integer is taken from a value. -/
inductive ToInt where
  | trunc | floor | nearest
  deriving DecidableEq, Repr

/-- Integer part of finite bits by the rule `k`; NaN and infinities give 0. `nearest` takes ties to even. -/
def Fmt.toInt (f : Fmt) (k : ToInt) (a : Nat) : Int :=
  if !(f.fin? a) then 0
  else
    let (v, e) := f.exact a
    if 0 ≤ e then v * 2 ^ e.toNat
    else
      let d : Int := 2 ^ (-e).toNat
      match k with
      | .trunc => if v < 0 then -((-v) / d) else v / d
      | .floor => v / d
      | .nearest =>
        let m := rneShift v.natAbs (-e).toNat
        if v < 0 then -(m : Int) else m

/-! ### binary32 -/

/-- From bits held in a register. -/
def F32.ofBits (n : Nat) : F32 := ⟨BitVec.ofNat 32 n⟩
/-- The bits as a number. -/
def F32.nat (a : F32) : Nat := a.bits.toNat
/-- Sum. -/
def F32.add (a b : F32) : F32 := F32.ofBits (Fmt.b32.add a.nat b.nat)
/-- Opposite. -/
def F32.neg (a : F32) : F32 := F32.ofBits (Fmt.b32.negate a.nat)
/-- Difference. -/
def F32.sub (a b : F32) : F32 := a.add b.neg
/-- Product. -/
def F32.mul (a b : F32) : F32 := F32.ofBits (Fmt.b32.mul a.nat b.nat)
/-- Quotient. -/
def F32.div (a b : F32) : F32 := F32.ofBits (Fmt.b32.div a.nat b.nat)
/-- Square root. -/
def F32.sqrt (a : F32) : F32 := F32.ofBits (Fmt.b32.sqrt a.nat)
/-- Magnitude. -/
def F32.abs (a : F32) : F32 := F32.ofBits (Fmt.b32.mag a.nat)
/-- Less. -/
def F32.lt (a b : F32) : Bool := Fmt.b32.lt a.nat b.nat
/-- Less or equal. -/
def F32.le (a b : F32) : Bool := Fmt.b32.le a.nat b.nat
/-- The value is a number. -/
def F32.isFin (a : F32) : Bool := Fmt.b32.fin? a.nat
/-- The value is zero of either sign. -/
def F32.isZero (a : F32) : Bool := decide (Fmt.b32.mag a.nat = 0)
/-- The sign bit is set. -/
def F32.isNeg (a : F32) : Bool := Fmt.b32.neg? a.nat
/-- Nearest value of an integer. -/
def F32.ofInt (v : Int) : F32 := F32.ofBits (Fmt.b32.roundInt false v 0)
/-- Nearest value of `v * 2^e`. -/
def F32.scaled (v e : Int) : F32 := F32.ofBits (Fmt.b32.roundInt false v e)
/-- Nearest value of the quotient of two integers, for `d` above 0. -/
def F32.ofRatio (n : Int) (d : Nat) : F32 :=
  if n = 0 then ⟨0⟩ else F32.ofBits (Fmt.b32.ratio (decide (n < 0)) n.natAbs d 0)
/-- Integer by truncation. -/
def F32.trunc (a : F32) : Int := Fmt.b32.toInt .trunc a.nat
/-- Integer by floor. -/
def F32.floor (a : F32) : Int := Fmt.b32.toInt .floor a.nat
/-- Nearest integer, ties to even. -/
def F32.round (a : F32) : Int := Fmt.b32.toInt .nearest a.nat
/-- Smaller of two. -/
def F32.min (a b : F32) : F32 := if b.lt a then b else a
/-- Larger of two. -/
def F32.max (a b : F32) : F32 := if a.lt b then b else a
/-- Clamp between bounds. -/
def F32.clamp (x lo hi : F32) : F32 := if x.lt lo then lo else if hi.lt x then hi else x
/-- Zero. -/
def F32.zero : F32 := ⟨0⟩
/-- One. -/
def F32.one : F32 := ⟨0x3F800000⟩

/-! ### binary64 -/

/-- From bits. -/
def F64.ofBits (n : Nat) : F64 := ⟨BitVec.ofNat 64 n⟩
/-- The bits as a number. -/
def F64.nat (a : F64) : Nat := a.bits.toNat
/-- Sum. -/
def F64.add (a b : F64) : F64 := F64.ofBits (Fmt.b64.add a.nat b.nat)
/-- Opposite. -/
def F64.neg (a : F64) : F64 := F64.ofBits (Fmt.b64.negate a.nat)
/-- Difference. -/
def F64.sub (a b : F64) : F64 := a.add b.neg
/-- Product. -/
def F64.mul (a b : F64) : F64 := F64.ofBits (Fmt.b64.mul a.nat b.nat)
/-- Quotient. -/
def F64.div (a b : F64) : F64 := F64.ofBits (Fmt.b64.div a.nat b.nat)
/-- Square root. -/
def F64.sqrt (a : F64) : F64 := F64.ofBits (Fmt.b64.sqrt a.nat)
/-- Magnitude. -/
def F64.abs (a : F64) : F64 := F64.ofBits (Fmt.b64.mag a.nat)
/-- Less. -/
def F64.lt (a b : F64) : Bool := Fmt.b64.lt a.nat b.nat
/-- Less or equal. -/
def F64.le (a b : F64) : Bool := Fmt.b64.le a.nat b.nat
/-- The value is a number. -/
def F64.isFin (a : F64) : Bool := Fmt.b64.fin? a.nat
/-- The value is zero of either sign. -/
def F64.isZero (a : F64) : Bool := decide (Fmt.b64.mag a.nat = 0)
/-- The sign bit is set. -/
def F64.isNeg (a : F64) : Bool := Fmt.b64.neg? a.nat
/-- Nearest value of an integer. -/
def F64.ofInt (v : Int) : F64 := F64.ofBits (Fmt.b64.roundInt false v 0)
/-- Nearest value of the quotient of two integers, for `d` above 0. -/
def F64.ofRatio (n : Int) (d : Nat) : F64 :=
  if n = 0 then ⟨0⟩ else F64.ofBits (Fmt.b64.ratio (decide (n < 0)) n.natAbs d 0)
/-- Integer by truncation. -/
def F64.trunc (a : F64) : Int := Fmt.b64.toInt .trunc a.nat
/-- Integer by floor. -/
def F64.floor (a : F64) : Int := Fmt.b64.toInt .floor a.nat
/-- Nearest integer, ties to even. -/
def F64.round (a : F64) : Int := Fmt.b64.toInt .nearest a.nat
/-- Smaller of two. -/
def F64.min (a b : F64) : F64 := if b.lt a then b else a
/-- Larger of two. -/
def F64.max (a b : F64) : F64 := if a.lt b then b else a
/-- Clamp between bounds. -/
def F64.clamp (x lo hi : F64) : F64 := if x.lt lo then lo else if hi.lt x then hi else x
/-- Zero. -/
def F64.zero : F64 := ⟨0⟩
/-- One. -/
def F64.one : F64 := ⟨0x3FF0000000000000⟩
/-- Two. -/
def F64.two : F64 := ⟨0x4000000000000000⟩
/-- One half. -/
def F64.half : F64 := ⟨0x3FE0000000000000⟩
/-- The nearest value to pi. -/
def F64.pi : F64 := ⟨0x400921FB54442D18⟩
/-- The nearest value to two pi. -/
def F64.twoPi : F64 := ⟨0x401921FB54442D18⟩

/-- Conversion between formats. -/
def Fmt.convert (f g : Fmt) (a : Nat) : Nat :=
  if f.nan? a then g.nan
  else if f.inf? a then (if f.neg? a then g.sign else 0) + g.inf
  else
    let (m, e) := f.unpack a
    g.round (f.neg? a) m e

/-- binary32 as binary64, exact. -/
def F32.to64 (a : F32) : F64 := F64.ofBits (Fmt.b32.convert Fmt.b64 a.nat)
/-- binary64 rounded to binary32. -/
def F64.to32 (a : F64) : F32 := F32.ofBits (Fmt.b64.convert Fmt.b32 a.nat)

end Sys2Proof
end

