-- ==== Sys2Proof/Machine/RegMap.lean ====
section
/-! DEFINITION. The register map of the device: one descriptor for each field of the register tables of spec/ (the page header of 19_host_registers.md R554 apart), with its page, place, class, reset value and range. -/

namespace Sys2Proof.Machine

/-- Access of a field [00, Tables]. -/
inductive Acc where
  | RW | RO | WO | W1C
  deriving DecidableEq, Repr

/-- Configuration class of a field [19 R556]. -/
inductive Cls where
  | S | B | L | RO | W1C
  deriving DecidableEq, Repr

/-- Range of a field: any value; unsigned or signed bounds; binary32 bounds by their bits, each open or closed; any finite binary32 [19 R557, 00 R7]. -/
inductive Chk where
  | any | u (lo hi : Nat) | s (lo hi : Int) | f (lo hi : Nat) (loOpen hiOpen : Bool) | fin
  deriving DecidableEq, Repr

/-- What a TW812 lacks of a field's values [00 R3]: nothing; the values above `n`; the bits outside a mask. -/
inductive Grd where
  | all | max (n : Nat) | mask (m : Nat)
  deriving DecidableEq, Repr

/-- A field of the register map. `page` is the block's first page; `cnt` and `stride` repeat the register; `n1` and `n2` are the sizes of the windows it lies in. -/
structure Fd where
  /-- first page of the block -/
  page : Nat
  /-- offset of the register -/
  off : Nat
  /-- highest bit -/
  hi : Nat
  /-- lowest bit -/
  lo : Nat
  /-- access -/
  acc : Acc
  /-- class -/
  cls : Cls
  /-- reset value -/
  reset : Nat
  /-- copies of the register -/
  cnt : Nat := 1
  /-- distance of the copies -/
  stride : Nat := 0
  /-- size of the first window -/
  n1 : Nat := 1
  /-- size of the second window -/
  n2 : Nat := 1
  /-- range -/
  chk : Chk := .any
  /-- what a TW812 lacks -/
  grd : Grd := .all
  /-- accepted only with LOCK [19 R562] -/
  lock : Bool := false
  /-- a write acts by a rule of its own -/
  act : Bool := false
  deriving DecidableEq, Repr

end Sys2Proof.Machine

namespace Sys2Proof.F

open Sys2Proof.Machine

/-- SYS_ID.VENDOR [18]. -/
def SYS_ID_VENDOR : Fd := { page := 0x0, off := 0x40, hi := 15, lo := 0, acc := .RO, cls := .RO, reset := 18507 }
/-- SYS_ID.PART [18]. -/
def SYS_ID_PART : Fd := { page := 0x0, off := 0x40, hi := 31, lo := 16, acc := .RO, cls := .RO, reset := 2070 }
/-- SYS_GRADE.GRADE [18]. -/
def SYS_GRADE_GRADE : Fd := { page := 0x0, off := 0x44, hi := 0, lo := 0, acc := .RO, cls := .RO, reset := 0 }
/-- SYS_GRADE.SILICON [18]. -/
def SYS_GRADE_SILICON : Fd := { page := 0x0, off := 0x44, hi := 15, lo := 8, acc := .RO, cls := .RO, reset := 1 }
/-- SYS_UID_LO.UID [18]. -/
def SYS_UID_LO_UID : Fd := { page := 0x0, off := 0x48, hi := 31, lo := 0, acc := .RO, cls := .RO, reset := 0 }
/-- SYS_UID_HI.UID [18]. -/
def SYS_UID_HI_UID : Fd := { page := 0x0, off := 0x4c, hi := 31, lo := 0, acc := .RO, cls := .RO, reset := 0 }
/-- SYS_RST_CAUSE.CAUSE [18]. -/
def SYS_RST_CAUSE_CAUSE : Fd := { page := 0x0, off := 0x50, hi := 3, lo := 0, acc := .RO, cls := .RO, reset := 0 }
/-- SYS_RST_CTL.KEY [18]. -/
def SYS_RST_CTL_KEY : Fd := { page := 0x0, off := 0x54, hi := 31, lo := 0, acc := .WO, cls := .L, reset := 0, lock := true, act := true }
/-- SYS_BOOT.STAT [18]. -/
def SYS_BOOT_STAT : Fd := { page := 0x0, off := 0x58, hi := 1, lo := 0, acc := .RO, cls := .RO, reset := 0 }
/-- SYS_BOOT.FALLBACK [18]. -/
def SYS_BOOT_FALLBACK : Fd := { page := 0x0, off := 0x58, hi := 2, lo := 2, acc := .RO, cls := .RO, reset := 0 }
/-- SYS_UC_VER.VERSION [18]. -/
def SYS_UC_VER_VERSION : Fd := { page := 0x0, off := 0x5c, hi := 31, lo := 0, acc := .RO, cls := .RO, reset := 0 }
/-- SYS_UC_FLOOR.FLOOR [18]. -/
def SYS_UC_FLOOR_FLOOR : Fd := { page := 0x0, off := 0x60, hi := 15, lo := 0, acc := .RO, cls := .RO, reset := 0 }
/-- SYS_UC_LEN.LEN [18]. -/
def SYS_UC_LEN_LEN : Fd := { page := 0x0, off := 0x64, hi := 20, lo := 0, acc := .RW, cls := .L, reset := 0 }
/-- SYS_UC_CTL.START [18]. -/
def SYS_UC_CTL_START : Fd := { page := 0x0, off := 0x68, hi := 0, lo := 0, acc := .WO, cls := .L, reset := 0, act := true }
/-- SYS_UC_STAT.PHASE [18]. -/
def SYS_UC_STAT_PHASE : Fd := { page := 0x0, off := 0x6c, hi := 2, lo := 0, acc := .RO, cls := .RO, reset := 0 }
/-- SYS_UC_STAT.REFUSE [18]. -/
def SYS_UC_STAT_REFUSE : Fd := { page := 0x0, off := 0x6c, hi := 11, lo := 8, acc := .RO, cls := .RO, reset := 0 }
/-- SYS_TEMP.TEMP [18]. -/
def SYS_TEMP_TEMP : Fd := { page := 0x0, off := 0x70, hi := 31, lo := 0, acc := .RO, cls := .RO, reset := 0 }
/-- SYS_TEMP_WARN.WARN [18]. -/
def SYS_TEMP_WARN_WARN : Fd := { page := 0x0, off := 0x74, hi := 31, lo := 0, acc := .RW, cls := .L, reset := 1121714176, chk := (.f 0x42700000 0x42f00000 false false) }
/-- PWR_DOM_REQ.COURSE [18]. -/
def PWR_DOM_REQ_COURSE : Fd := { page := 0x1, off := 0x40, hi := 3, lo := 0, acc := .RW, cls := .L, reset := 15, act := true }
/-- PWR_DOM_REQ.NDL [18]. -/
def PWR_DOM_REQ_NDL : Fd := { page := 0x1, off := 0x40, hi := 4, lo := 4, acc := .RW, cls := .L, reset := 1, act := true }
/-- PWR_DOM_REQ.PCIE [18]. -/
def PWR_DOM_REQ_PCIE : Fd := { page := 0x1, off := 0x40, hi := 5, lo := 5, acc := .RW, cls := .L, reset := 1, act := true }
/-- PWR_DOM_STAT.ON [18]. -/
def PWR_DOM_STAT_ON : Fd := { page := 0x1, off := 0x44, hi := 15, lo := 0, acc := .RO, cls := .RO, reset := 0 }
/-- PWR_PGOOD.PGOOD [18]. -/
def PWR_PGOOD_PGOOD : Fd := { page := 0x1, off := 0x48, hi := 15, lo := 0, acc := .RO, cls := .RO, reset := 0 }
/-- PWR_FAULT.FAULT [18]. -/
def PWR_FAULT_FAULT : Fd := { page := 0x1, off := 0x4c, hi := 15, lo := 0, acc := .W1C, cls := .W1C, reset := 0 }
/-- PWR_RAIL_SEL.RAIL [18]. -/
def PWR_RAIL_SEL_RAIL : Fd := { page := 0x1, off := 0x50, hi := 4, lo := 0, acc := .RW, cls := .L, reset := 0 }
/-- PWR_RAIL_V.V [18]. -/
def PWR_RAIL_V_V : Fd := { page := 0x1, off := 0x54, hi := 31, lo := 0, acc := .RO, cls := .RO, reset := 0 }
/-- PWR_RAIL_STAT.WARN [18]. -/
def PWR_RAIL_STAT_WARN : Fd := { page := 0x1, off := 0x58, hi := 16, lo := 0, acc := .RO, cls := .RO, reset := 0 }
/-- PWR_PFAIL.PFAIL [18]. -/
def PWR_PFAIL_PFAIL : Fd := { page := 0x1, off := 0x5c, hi := 0, lo := 0, acc := .RO, cls := .RO, reset := 0 }
/-- CLK_STAT.REF25 [18]. -/
def CLK_STAT_REF25 : Fd := { page := 0x2, off := 0x40, hi := 0, lo := 0, acc := .RO, cls := .RO, reset := 0 }
/-- CLK_STAT.REF_OK [18]. -/
def CLK_STAT_REF_OK : Fd := { page := 0x2, off := 0x40, hi := 1, lo := 1, acc := .RO, cls := .RO, reset := 0 }
/-- CLK_STAT.SERREF_OK [18]. -/
def CLK_STAT_SERREF_OK : Fd := { page := 0x2, off := 0x40, hi := 2, lo := 2, acc := .RO, cls := .RO, reset := 0 }
/-- CLK_STAT.PCIEREF_OK [18]. -/
def CLK_STAT_PCIEREF_OK : Fd := { page := 0x2, off := 0x40, hi := 3, lo := 3, acc := .RO, cls := .RO, reset := 0 }
/-- CLK_STAT.LOCK [18]. -/
def CLK_STAT_LOCK : Fd := { page := 0x2, off := 0x40, hi := 11, lo := 4, acc := .RO, cls := .RO, reset := 0 }
/-- CLK_STAT.BCLK_ACT [18]. -/
def CLK_STAT_BCLK_ACT : Fd := { page := 0x2, off := 0x40, hi := 12, lo := 12, acc := .RO, cls := .RO, reset := 0 }
/-- CLK_STAT.MPLL_HOLD [18]. -/
def CLK_STAT_MPLL_HOLD : Fd := { page := 0x2, off := 0x40, hi := 13, lo := 13, acc := .RO, cls := .RO, reset := 0 }
/-- CLK_PLL_SEL.PLL [18]. -/
def CLK_PLL_SEL_PLL : Fd := { page := 0x2, off := 0x44, hi := 2, lo := 0, acc := .RW, cls := .L, reset := 0 }
/-- CLK_PLL_CNT.LOSSES [18]. -/
def CLK_PLL_CNT_LOSSES : Fd := { page := 0x2, off := 0x48, hi := 15, lo := 0, acc := .RO, cls := .RO, reset := 0 }
/-- CLK_PLL_CNT.LAST_US [18]. -/
def CLK_PLL_CNT_LAST_US : Fd := { page := 0x2, off := 0x48, hi := 31, lo := 16, acc := .RO, cls := .RO, reset := 0 }
/-- IRQ_SUM.SUM [19]. -/
def IRQ_SUM_SUM : Fd := { page := 0x3, off := 0x40, hi := 31, lo := 0, acc := .RO, cls := .RO, reset := 0, cnt := 8, stride := 4 }
/-- IRQ_ROUTE_SEL.SRC [19]. -/
def IRQ_ROUTE_SEL_SRC : Fd := { page := 0x3, off := 0x60, hi := 7, lo := 0, acc := .RW, cls := .L, reset := 0 }
/-- IRQ_ROUTE.PIN [19]. -/
def IRQ_ROUTE_PIN : Fd := { page := 0x3, off := 0x64, hi := 1, lo := 0, acc := .RW, cls := .L, reset := 0, n1 := 256 }
/-- IRQ_ROUTE.PIN_EN [19]. -/
def IRQ_ROUTE_PIN_EN : Fd := { page := 0x3, off := 0x64, hi := 2, lo := 2, acc := .RW, cls := .L, reset := 1, n1 := 256 }
/-- IRQ_ROUTE.VEC [19]. -/
def IRQ_ROUTE_VEC : Fd := { page := 0x3, off := 0x64, hi := 12, lo := 8, acc := .RW, cls := .L, reset := 0, n1 := 256 }
/-- IRQ_ROUTE.VEC_EN [19]. -/
def IRQ_ROUTE_VEC_EN : Fd := { page := 0x3, off := 0x64, hi := 13, lo := 13, acc := .RW, cls := .L, reset := 1, n1 := 256 }
/-- IRQ_SRC_INFO.PAGE [19]. -/
def IRQ_SRC_INFO_PAGE : Fd := { page := 0x3, off := 0x68, hi := 7, lo := 0, acc := .RO, cls := .RO, reset := 0, n1 := 256 }
/-- IRQ_SRC_INFO.BIT [19]. -/
def IRQ_SRC_INFO_BIT : Fd := { page := 0x3, off := 0x68, hi := 12, lo := 8, acc := .RO, cls := .RO, reset := 0, n1 := 256 }
/-- IRQ_SRC_INFO.PRESENT [19]. -/
def IRQ_SRC_INFO_PRESENT : Fd := { page := 0x3, off := 0x68, hi := 13, lo := 13, acc := .RO, cls := .RO, reset := 0, n1 := 256 }
/-- IRQ_PIN_CFG.EN [19]. -/
def IRQ_PIN_CFG_EN : Fd := { page := 0x3, off := 0x6c, hi := 3, lo := 0, acc := .RW, cls := .L, reset := 15 }
/-- IRQ_PIN_CFG.OD [19]. -/
def IRQ_PIN_CFG_OD : Fd := { page := 0x3, off := 0x6c, hi := 11, lo := 8, acc := .RW, cls := .L, reset := 15 }
/-- IRQ_PIN_CFG.LEVEL [19]. -/
def IRQ_PIN_CFG_LEVEL : Fd := { page := 0x3, off := 0x6c, hi := 19, lo := 16, acc := .RO, cls := .RO, reset := 0 }
/-- IRQ_EOI.VEC [19]. -/
def IRQ_EOI_VEC : Fd := { page := 0x3, off := 0x70, hi := 4, lo := 0, acc := .WO, cls := .L, reset := 0, act := true }
/-- IRQ_VEC_STAT.PEND [19]. -/
def IRQ_VEC_STAT_PEND : Fd := { page := 0x3, off := 0x74, hi := 31, lo := 0, acc := .RO, cls := .RO, reset := 0 }
/-- HST_STAT.PCIE_UP [19]. -/
def HST_STAT_PCIE_UP : Fd := { page := 0x4, off := 0x40, hi := 0, lo := 0, acc := .RO, cls := .RO, reset := 0 }
/-- HST_STAT.WIDTH [19]. -/
def HST_STAT_WIDTH : Fd := { page := 0x4, off := 0x40, hi := 2, lo := 1, acc := .RO, cls := .RO, reset := 0 }
/-- HST_STAT.SPEED [19]. -/
def HST_STAT_SPEED : Fd := { page := 0x4, off := 0x40, hi := 4, lo := 3, acc := .RO, cls := .RO, reset := 0 }
/-- HST_STAT.BME [19]. -/
def HST_STAT_BME : Fd := { page := 0x4, off := 0x40, hi := 5, lo := 5, acc := .RO, cls := .RO, reset := 0 }
/-- HST_STAT.MSIX_EN [19]. -/
def HST_STAT_MSIX_EN : Fd := { page := 0x4, off := 0x40, hi := 6, lo := 6, acc := .RO, cls := .RO, reset := 0 }
/-- HST_STAT.SPI_ACTIVE [19]. -/
def HST_STAT_SPI_ACTIVE : Fd := { page := 0x4, off := 0x40, hi := 7, lo := 7, acc := .RO, cls := .RO, reset := 0 }
/-- HST_SPI_CFG.DUMMY [19]. -/
def HST_SPI_CFG_DUMMY : Fd := { page := 0x4, off := 0x44, hi := 5, lo := 0, acc := .RW, cls := .L, reset := 32, chk := (.u 8 63) }
/-- HST_SPI_CFG.CRC_EN [19]. -/
def HST_SPI_CFG_CRC_EN : Fd := { page := 0x4, off := 0x44, hi := 8, lo := 8, acc := .RW, cls := .L, reset := 0 }
/-- HST_ERR.PARTIAL [19]. -/
def HST_ERR_PARTIAL : Fd := { page := 0x4, off := 0x48, hi := 7, lo := 0, acc := .RO, cls := .RO, reset := 0 }
/-- HST_ERR.UNMAPPED [19]. -/
def HST_ERR_UNMAPPED : Fd := { page := 0x4, off := 0x48, hi := 15, lo := 8, acc := .RO, cls := .RO, reset := 0 }
/-- HST_ERR.SPI_CRC [19]. -/
def HST_ERR_SPI_CRC : Fd := { page := 0x4, off := 0x48, hi := 23, lo := 16, acc := .RO, cls := .RO, reset := 0 }
/-- HST_ERR.SPI_ABORT [19]. -/
def HST_ERR_SPI_ABORT : Fd := { page := 0x4, off := 0x48, hi := 31, lo := 24, acc := .RO, cls := .RO, reset := 0 }
/-- HST_LAST_ERR.ADDR [19]. -/
def HST_LAST_ERR_ADDR : Fd := { page := 0x4, off := 0x4c, hi := 26, lo := 0, acc := .RO, cls := .RO, reset := 0 }
/-- HST_LAST_ERR.PORT [19]. -/
def HST_LAST_ERR_PORT : Fd := { page := 0x4, off := 0x4c, hi := 27, lo := 27, acc := .RO, cls := .RO, reset := 0 }
/-- HST_LAST_ERR.KIND [19]. -/
def HST_LAST_ERR_KIND : Fd := { page := 0x4, off := 0x4c, hi := 30, lo := 28, acc := .RO, cls := .RO, reset := 0 }
/-- HST_TIMEOUT.MS [19]. -/
def HST_TIMEOUT_MS : Fd := { page := 0x4, off := 0x50, hi := 15, lo := 0, acc := .RW, cls := .L, reset := 0 }
/-- HST_SCRATCH.SCRATCH [19]. -/
def HST_SCRATCH_SCRATCH : Fd := { page := 0x4, off := 0x54, hi := 31, lo := 0, acc := .RW, cls := .L, reset := 0 }
/-- MDE_REQ.MODE [03]. -/
def MDE_REQ_MODE : Fd := { page := 0x5, off := 0x40, hi := 2, lo := 0, acc := .RW, cls := .B, reset := 1, chk := (.u 0 6) }
/-- MDE_REQ.AUTO_HDG [03]. -/
def MDE_REQ_AUTO_HDG : Fd := { page := 0x5, off := 0x40, hi := 4, lo := 4, acc := .RW, cls := .B, reset := 0 }
/-- MDE_REQ.FOLLOW_OBJ [03]. -/
def MDE_REQ_FOLLOW_OBJ : Fd := { page := 0x5, off := 0x40, hi := 10, lo := 8, acc := .RW, cls := .B, reset := 1, chk := (.u 1 7), grd := .max 3 }
/-- MDE_STATUS.MODE [03]. -/
def MDE_STATUS_MODE : Fd := { page := 0x5, off := 0x44, hi := 2, lo := 0, acc := .RO, cls := .RO, reset := 1 }
/-- MDE_STATUS.AUTO_HDG [03]. -/
def MDE_STATUS_AUTO_HDG : Fd := { page := 0x5, off := 0x44, hi := 3, lo := 3, acc := .RO, cls := .RO, reset := 0 }
/-- MDE_STATUS.DSTATE [03]. -/
def MDE_STATUS_DSTATE : Fd := { page := 0x5, off := 0x44, hi := 6, lo := 4, acc := .RO, cls := .RO, reset := 0 }
/-- MDE_STATUS.DORM_HOST [03]. -/
def MDE_STATUS_DORM_HOST : Fd := { page := 0x5, off := 0x44, hi := 7, lo := 7, acc := .RO, cls := .RO, reset := 0 }
/-- MDE_STATUS.FALLBACK [03]. -/
def MDE_STATUS_FALLBACK : Fd := { page := 0x5, off := 0x44, hi := 8, lo := 8, acc := .RO, cls := .RO, reset := 0 }
/-- MDE_STATUS.CUT_REALIGN [03]. -/
def MDE_STATUS_CUT_REALIGN : Fd := { page := 0x5, off := 0x44, hi := 9, lo := 9, acc := .RO, cls := .RO, reset := 0 }
/-- MDE_STATUS.MOVING [03]. -/
def MDE_STATUS_MOVING : Fd := { page := 0x5, off := 0x44, hi := 10, lo := 10, acc := .RO, cls := .RO, reset := 0 }
/-- MDE_STATUS.LIMIT_DEFERRED [03]. -/
def MDE_STATUS_LIMIT_DEFERRED : Fd := { page := 0x5, off := 0x44, hi := 11, lo := 11, acc := .RO, cls := .RO, reset := 0 }
/-- MDE_STATUS.SP_OVERRUN [03]. -/
def MDE_STATUS_SP_OVERRUN : Fd := { page := 0x5, off := 0x44, hi := 12, lo := 12, acc := .RO, cls := .RO, reset := 0 }
/-- MDE_STATUS.FOLLOW_OBJ [03]. -/
def MDE_STATUS_FOLLOW_OBJ : Fd := { page := 0x5, off := 0x44, hi := 18, lo := 16, acc := .RO, cls := .RO, reset := 0 }
/-- MDE_RESULT.MODE [03]. -/
def MDE_RESULT_MODE : Fd := { page := 0x5, off := 0x48, hi := 2, lo := 0, acc := .RO, cls := .RO, reset := 0 }
/-- MDE_RESULT.CODE [03]. -/
def MDE_RESULT_CODE : Fd := { page := 0x5, off := 0x48, hi := 15, lo := 8, acc := .RO, cls := .RO, reset := 0 }
/-- MDE_RESULT.COUNT [03]. -/
def MDE_RESULT_COUNT : Fd := { page := 0x5, off := 0x48, hi := 31, lo := 16, acc := .RO, cls := .RO, reset := 0 }
/-- MDE_DEV_CTL.GO [03]. -/
def MDE_DEV_CTL_GO : Fd := { page := 0x5, off := 0x4c, hi := 0, lo := 0, acc := .WO, cls := .L, reset := 0, act := true }
/-- MDE_DEV_CTL.HOLD [03]. -/
def MDE_DEV_CTL_HOLD : Fd := { page := 0x5, off := 0x4c, hi := 1, lo := 1, acc := .WO, cls := .L, reset := 0, act := true }
/-- MDE_HOLD_CAUSE.CAUSE [03]. -/
def MDE_HOLD_CAUSE_CAUSE : Fd := { page := 0x5, off := 0x50, hi := 3, lo := 0, acc := .RO, cls := .RO, reset := 0 }
/-- MDE_SP_CTL.TURN_DIR [03]. -/
def MDE_SP_CTL_TURN_DIR : Fd := { page := 0x5, off := 0x6c, hi := 1, lo := 0, acc := .RW, cls := .B, reset := 0, chk := (.u 0 2) }
/-- MDE_SP_CTL.STOP [03]. -/
def MDE_SP_CTL_STOP : Fd := { page := 0x5, off := 0x6c, hi := 2, lo := 2, acc := .RW, cls := .B, reset := 0 }
/-- MDE_SP_NORTH.V [03]. -/
def MDE_SP_NORTH_V : Fd := { page := 0x5, off := 0x60, hi := 31, lo := 0, acc := .RW, cls := .B, reset := 0, chk := (.f 0xc7c35000 0x47c35000 false false) }
/-- MDE_SP_EAST.V [03]. -/
def MDE_SP_EAST_V : Fd := { page := 0x5, off := 0x64, hi := 31, lo := 0, acc := .RW, cls := .B, reset := 0, chk := (.f 0xc7c35000 0x47c35000 false false) }
/-- MDE_SP_HEADING.V [03]. -/
def MDE_SP_HEADING_V : Fd := { page := 0x5, off := 0x68, hi := 31, lo := 0, acc := .RW, cls := .B, reset := 0, chk := (.f 0x0 0x40c90fdb false true) }
/-- MDE_V_MAX.V [03]. -/
def MDE_V_MAX_V : Fd := { page := 0x5, off := 0x70, hi := 31, lo := 0, acc := .RW, cls := .B, reset := 1056964608, chk := (.f 0x3c23d70a 0x40a00000 false false) }
/-- MDE_A_MAX.V [03]. -/
def MDE_A_MAX_V : Fd := { page := 0x5, off := 0x74, hi := 31, lo := 0, acc := .RW, cls := .B, reset := 1031798784, chk := (.f 0x3a83126f 0x3f800000 false false) }
/-- MDE_D_MAX.V [03]. -/
def MDE_D_MAX_V : Fd := { page := 0x5, off := 0x78, hi := 31, lo := 0, acc := .RW, cls := .B, reset := 1031798784, chk := (.f 0x3a83126f 0x3f800000 false false) }
/-- MDE_J_MAX.V [03]. -/
def MDE_J_MAX_V : Fd := { page := 0x5, off := 0x7c, hi := 31, lo := 0, acc := .RW, cls := .B, reset := 1023410176, chk := (.f 0x38d1b717 0x3f800000 false false) }
/-- MDE_R_MAX.V [03]. -/
def MDE_R_MAX_V : Fd := { page := 0x5, off := 0x80, hi := 31, lo := 0, acc := .RW, cls := .B, reset := 1023410176, chk := (.f 0x3a83126f 0x3e4ccccd false false) }
/-- MDE_RA_MAX.V [03]. -/
def MDE_RA_MAX_V : Fd := { page := 0x5, off := 0x84, hi := 31, lo := 0, acc := .RW, cls := .B, reset := 1006632960, chk := (.f 0x38d1b717 0x3dcccccd false false) }
/-- MDE_RD_MAX.V [03]. -/
def MDE_RD_MAX_V : Fd := { page := 0x5, off := 0x88, hi := 31, lo := 0, acc := .RW, cls := .B, reset := 1006632960, chk := (.f 0x38d1b717 0x3dcccccd false false) }
/-- MDE_RJ_MAX.V [03]. -/
def MDE_RJ_MAX_V : Fd := { page := 0x5, off := 0x8c, hi := 31, lo := 0, acc := .RW, cls := .B, reset := 998244352, chk := (.f 0x3727c5ac 0x3dcccccd false false) }
/-- MDE_JOY_X.V [03]. -/
def MDE_JOY_X_V : Fd := { page := 0x5, off := 0x90, hi := 31, lo := 0, acc := .RW, cls := .B, reset := 0, chk := (.f 0xbf800000 0x3f800000 false false) }
/-- MDE_JOY_Y.V [03]. -/
def MDE_JOY_Y_V : Fd := { page := 0x5, off := 0x94, hi := 31, lo := 0, acc := .RW, cls := .B, reset := 0, chk := (.f 0xbf800000 0x3f800000 false false) }
/-- MDE_JOY_N.V [03]. -/
def MDE_JOY_N_V : Fd := { page := 0x5, off := 0x98, hi := 31, lo := 0, acc := .RW, cls := .B, reset := 0, chk := (.f 0xbf800000 0x3f800000 false false) }
/-- MDE_REL_ALONG.V [03]. -/
def MDE_REL_ALONG_V : Fd := { page := 0x5, off := 0xa0, hi := 31, lo := 0, acc := .RW, cls := .B, reset := 0, chk := (.f 0xc4fa0000 0x44fa0000 false false) }
/-- MDE_REL_ACROSS.V [03]. -/
def MDE_REL_ACROSS_V : Fd := { page := 0x5, off := 0xa4, hi := 31, lo := 0, acc := .RW, cls := .B, reset := 0, chk := (.f 0xc4fa0000 0x44fa0000 false false) }
/-- MDE_REL_HEADING.V [03]. -/
def MDE_REL_HEADING_V : Fd := { page := 0x5, off := 0xa8, hi := 31, lo := 0, acc := .RW, cls := .B, reset := 0, chk := (.f 0xc0490fdb 0x40490fdb false true) }
/-- MDE_THR_SEL.THR [03]. -/
def MDE_THR_SEL_THR : Fd := { page := 0x5, off := 0xb0, hi := 3, lo := 0, acc := .RW, cls := .L, reset := 0, grd := .max 7 }
/-- MDE_LEVER_AZ.V [03]. -/
def MDE_LEVER_AZ_V : Fd := { page := 0x5, off := 0xb4, hi := 31, lo := 0, acc := .RW, cls := .B, reset := 0, n1 := 16, chk := (.f 0xc0490fdb 0x40490fdb false true) }
/-- MDE_LEVER_THRUST.V [03]. -/
def MDE_LEVER_THRUST_V : Fd := { page := 0x5, off := 0xb8, hi := 31, lo := 0, acc := .RW, cls := .B, reset := 0, n1 := 16, chk := (.f 0xbf800000 0x3f800000 false false) }
/-- MDE_POSLOSS_TIME.V [03]. -/
def MDE_POSLOSS_TIME_V : Fd := { page := 0x5, off := 0xc0, hi := 31, lo := 0, acc := .RW, cls := .B, reset := 1114636288, chk := (.f 0x40a00000 0x44160000 false false) }
/-- MDE_FOLLOW_LOSS_TIME.V [03]. -/
def MDE_FOLLOW_LOSS_TIME_V : Fd := { page := 0x5, off := 0xc4, hi := 31, lo := 0, acc := .RW, cls := .B, reset := 1092616192, chk := (.f 0x3f800000 0x42f00000 false false) }
/-- MDE_WAKE_AT_LO.V [03]. -/
def MDE_WAKE_AT_LO_V : Fd := { page := 0x5, off := 0xd0, hi := 31, lo := 0, acc := .RW, cls := .B, reset := 0 }
/-- MDE_WAKE_AT_HI.V [03]. -/
def MDE_WAKE_AT_HI_V : Fd := { page := 0x5, off := 0xd4, hi := 31, lo := 0, acc := .RW, cls := .B, reset := 0 }
/-- MDE_DORM_CFG.REFRESH [03]. -/
def MDE_DORM_CFG_REFRESH : Fd := { page := 0x5, off := 0xd8, hi := 4, lo := 0, acc := .RW, cls := .B, reset := 4, chk := (.u 0 24) }
/-- MDE_DORM_CFG.WAKE_PIN [03]. -/
def MDE_DORM_CFG_WAKE_PIN : Fd := { page := 0x5, off := 0xd8, hi := 8, lo := 8, acc := .RW, cls := .B, reset := 1 }
/-- MDE_DORM_CFG.WAKE_TIMER [03]. -/
def MDE_DORM_CFG_WAKE_TIMER : Fd := { page := 0x5, off := 0xd8, hi := 9, lo := 9, acc := .RW, cls := .B, reset := 0 }
/-- MDE_PRF_NORTH.V [03]. -/
def MDE_PRF_NORTH_V : Fd := { page := 0x5, off := 0xe0, hi := 31, lo := 0, acc := .RO, cls := .RO, reset := 0 }
/-- MDE_PRF_EAST.V [03]. -/
def MDE_PRF_EAST_V : Fd := { page := 0x5, off := 0xe4, hi := 31, lo := 0, acc := .RO, cls := .RO, reset := 0 }
/-- MDE_PRF_HEADING.V [03]. -/
def MDE_PRF_HEADING_V : Fd := { page := 0x5, off := 0xe8, hi := 31, lo := 0, acc := .RO, cls := .RO, reset := 0 }
/-- MDE_PRF_REM.V [03]. -/
def MDE_PRF_REM_V : Fd := { page := 0x5, off := 0xec, hi := 31, lo := 0, acc := .RO, cls := .RO, reset := 0 }
/-- CFG_LOAD_CTL.START [02]. -/
def CFG_LOAD_CTL_START : Fd := { page := 0x6, off := 0x40, hi := 0, lo := 0, acc := .WO, cls := .L, reset := 0, act := true }
/-- CFG_LOAD_CTL.ABORT [02]. -/
def CFG_LOAD_CTL_ABORT : Fd := { page := 0x6, off := 0x40, hi := 1, lo := 1, acc := .WO, cls := .L, reset := 0, act := true }
/-- CFG_LOAD_LEN.LEN [02]. -/
def CFG_LOAD_LEN_LEN : Fd := { page := 0x6, off := 0x44, hi := 20, lo := 0, acc := .RW, cls := .L, reset := 0 }
/-- CFG_LOAD_STAT.PHASE [02]. -/
def CFG_LOAD_STAT_PHASE : Fd := { page := 0x6, off := 0x48, hi := 3, lo := 0, acc := .RO, cls := .RO, reset := 0 }
/-- CFG_LOAD_STAT.STRUCT [02]. -/
def CFG_LOAD_STAT_STRUCT : Fd := { page := 0x6, off := 0x48, hi := 4, lo := 4, acc := .RO, cls := .RO, reset := 0 }
/-- CFG_LOAD_STAT.DEFERRED [02]. -/
def CFG_LOAD_STAT_DEFERRED : Fd := { page := 0x6, off := 0x48, hi := 5, lo := 5, acc := .RO, cls := .RO, reset := 0 }
/-- CFG_LOAD_STAT.REFUSE [02]. -/
def CFG_LOAD_STAT_REFUSE : Fd := { page := 0x6, off := 0x48, hi := 15, lo := 8, acc := .RO, cls := .RO, reset := 0 }
/-- CFG_LOAD_STAT.SECTION [02]. -/
def CFG_LOAD_STAT_SECTION : Fd := { page := 0x6, off := 0x48, hi := 23, lo := 16, acc := .RO, cls := .RO, reset := 0 }
/-- CFG_LOAD_RECORD.RECORD [02]. -/
def CFG_LOAD_RECORD_RECORD : Fd := { page := 0x6, off := 0x4c, hi := 15, lo := 0, acc := .RO, cls := .RO, reset := 0 }
/-- CFG_ACTIVE.VALID [02]. -/
def CFG_ACTIVE_VALID : Fd := { page := 0x6, off := 0x50, hi := 0, lo := 0, acc := .RO, cls := .RO, reset := 0 }
/-- CFG_ACTIVE.SLOT [02]. -/
def CFG_ACTIVE_SLOT : Fd := { page := 0x6, off := 0x50, hi := 1, lo := 1, acc := .RO, cls := .RO, reset := 0 }
/-- CFG_ACTIVE.OVERLAY [02]. -/
def CFG_ACTIVE_OVERLAY : Fd := { page := 0x6, off := 0x50, hi := 2, lo := 2, acc := .RO, cls := .RO, reset := 0 }
/-- CFG_ACTIVE_ID.ID [02]. -/
def CFG_ACTIVE_ID_ID : Fd := { page := 0x6, off := 0x54, hi := 31, lo := 0, acc := .RO, cls := .RO, reset := 0 }
/-- CFG_ACTIVE_REV.REV [02]. -/
def CFG_ACTIVE_REV_REV : Fd := { page := 0x6, off := 0x58, hi := 31, lo := 0, acc := .RO, cls := .RO, reset := 0 }
/-- CFG_OVERLAY_REV.REV [02]. -/
def CFG_OVERLAY_REV_REV : Fd := { page := 0x6, off := 0x5c, hi := 31, lo := 0, acc := .RO, cls := .RO, reset := 0 }
/-- CFG_POLICY.SIG_REQ [02]. -/
def CFG_POLICY_SIG_REQ : Fd := { page := 0x6, off := 0x60, hi := 0, lo := 0, acc := .RW, cls := .L, reset := 1, lock := true }
/-- CFG_POLICY.ROLLBACK_OK [02]. -/
def CFG_POLICY_ROLLBACK_OK : Fd := { page := 0x6, off := 0x60, hi := 1, lo := 1, acc := .RW, cls := .L, reset := 0, lock := true }
/-- CFG_CUTINS.COUNT [02]. -/
def CFG_CUTINS_COUNT : Fd := { page := 0x6, off := 0x64, hi := 31, lo := 0, acc := .RO, cls := .RO, reset := 0 }
/-- CFG_KEY_SEL.KEY [02]. -/
def CFG_KEY_SEL_KEY : Fd := { page := 0x6, off := 0x68, hi := 0, lo := 0, acc := .RW, cls := .L, reset := 0 }
/-- CFG_KEY_SEL.WORD [02]. -/
def CFG_KEY_SEL_WORD : Fd := { page := 0x6, off := 0x68, hi := 4, lo := 1, acc := .RW, cls := .L, reset := 0 }
/-- CFG_KEY_DATA.DATA [02]. -/
def CFG_KEY_DATA_DATA : Fd := { page := 0x6, off := 0x6c, hi := 31, lo := 0, acc := .RW, cls := .L, reset := 0, lock := true, act := true }
/-- CFG_KEY_STAT.SET [02]. -/
def CFG_KEY_STAT_SET : Fd := { page := 0x6, off := 0x70, hi := 1, lo := 0, acc := .RO, cls := .RO, reset := 0 }
/-- MSN_CFG.RESERVE_TILES [10]. -/
def MSN_CFG_RESERVE_TILES : Fd := { page := 0x7, off := 0x40, hi := 1, lo := 0, acc := .RW, cls := .B, reset := 1 }
/-- MSN_CFG.RESERVE_BANKS [10]. -/
def MSN_CFG_RESERVE_BANKS : Fd := { page := 0x7, off := 0x40, hi := 7, lo := 4, acc := .RW, cls := .B, reset := 2, chk := (.u 0 8) }
/-- MSN_CFG.ROTATE [10]. -/
def MSN_CFG_ROTATE : Fd := { page := 0x7, off := 0x40, hi := 15, lo := 8, acc := .RW, cls := .B, reset := 6, chk := (.u 1 72) }
/-- MSN_CFG.REEVAL_EN [10]. -/
def MSN_CFG_REEVAL_EN : Fd := { page := 0x7, off := 0x40, hi := 16, lo := 16, acc := .RW, cls := .B, reset := 1 }
/-- MSN_CFG.OVR_LIMIT [10]. -/
def MSN_CFG_OVR_LIMIT : Fd := { page := 0x7, off := 0x40, hi := 23, lo := 20, acc := .RW, cls := .B, reset := 2, chk := (.u 1 15) }
/-- MSN_STAT.TILES_BUSY [10]. -/
def MSN_STAT_TILES_BUSY : Fd := { page := 0x7, off := 0x44, hi := 3, lo := 0, acc := .RO, cls := .RO, reset := 0 }
/-- MSN_STAT.TILES_FREE [10]. -/
def MSN_STAT_TILES_FREE : Fd := { page := 0x7, off := 0x44, hi := 7, lo := 4, acc := .RO, cls := .RO, reset := 0 }
/-- MSN_STAT.TILES_FAULTY [10]. -/
def MSN_STAT_TILES_FAULTY : Fd := { page := 0x7, off := 0x44, hi := 11, lo := 8, acc := .RO, cls := .RO, reset := 0 }
/-- MSN_STAT.TILES_SUSPECT [10]. -/
def MSN_STAT_TILES_SUSPECT : Fd := { page := 0x7, off := 0x44, hi := 15, lo := 12, acc := .RO, cls := .RO, reset := 0 }
/-- MSN_STAT.BANKS_FREE [10]. -/
def MSN_STAT_BANKS_FREE : Fd := { page := 0x7, off := 0x44, hi := 21, lo := 16, acc := .RO, cls := .RO, reset := 0 }
/-- MSN_STAT.BANKS_FAULTY [10]. -/
def MSN_STAT_BANKS_FAULTY : Fd := { page := 0x7, off := 0x44, hi := 27, lo := 22, acc := .RO, cls := .RO, reset := 0 }
/-- MSN_STAT.SPARE_LOW [10]. -/
def MSN_STAT_SPARE_LOW : Fd := { page := 0x7, off := 0x44, hi := 28, lo := 28, acc := .RO, cls := .RO, reset := 0 }
/-- MSN_STAT.UNPLACED [10]. -/
def MSN_STAT_UNPLACED : Fd := { page := 0x7, off := 0x44, hi := 29, lo := 29, acc := .RO, cls := .RO, reset := 0 }
/-- MSN_EXCL.COURSE [10]. -/
def MSN_EXCL_COURSE : Fd := { page := 0x7, off := 0x48, hi := 3, lo := 0, acc := .RW, cls := .B, reset := 0, grd := .mask 3 }
/-- MSN_COUNT.TILE_FAULTS [10]. -/
def MSN_COUNT_TILE_FAULTS : Fd := { page := 0x7, off := 0x4c, hi := 15, lo := 0, acc := .RO, cls := .RO, reset := 0 }
/-- MSN_COUNT.MIGRATIONS [10]. -/
def MSN_COUNT_MIGRATIONS : Fd := { page := 0x7, off := 0x4c, hi := 31, lo := 16, acc := .RO, cls := .RO, reset := 0 }
/-- MSN_JOB_SEL.JOB [10]. -/
def MSN_JOB_SEL_JOB : Fd := { page := 0x7, off := 0x50, hi := 3, lo := 0, acc := .RW, cls := .L, reset := 0, chk := (.u 0 14) }
/-- MSN_JOB_STAT.STATE [10]. -/
def MSN_JOB_STAT_STATE : Fd := { page := 0x7, off := 0x54, hi := 1, lo := 0, acc := .RO, cls := .RO, reset := 0, n1 := 15 }
/-- MSN_JOB_STAT.RESTARTED [10]. -/
def MSN_JOB_STAT_RESTARTED : Fd := { page := 0x7, off := 0x54, hi := 2, lo := 2, acc := .RO, cls := .RO, reset := 0, n1 := 15 }
/-- MSN_JOB_STAT.PINNED [10]. -/
def MSN_JOB_STAT_PINNED : Fd := { page := 0x7, off := 0x54, hi := 3, lo := 3, acc := .RO, cls := .RO, reset := 0, n1 := 15 }
/-- MSN_JOB_STAT.PIN_BROKEN [10]. -/
def MSN_JOB_STAT_PIN_BROKEN : Fd := { page := 0x7, off := 0x54, hi := 4, lo := 4, acc := .RO, cls := .RO, reset := 0, n1 := 15 }
/-- MSN_JOB_STAT.MOVES [10]. -/
def MSN_JOB_STAT_MOVES : Fd := { page := 0x7, off := 0x54, hi := 15, lo := 8, acc := .RO, cls := .RO, reset := 0, n1 := 15 }
/-- MSN_JOB_STAT.OVERRUNS [10]. -/
def MSN_JOB_STAT_OVERRUNS : Fd := { page := 0x7, off := 0x54, hi := 31, lo := 16, acc := .RO, cls := .RO, reset := 0, n1 := 15 }
/-- MSN_JOB_TIME.LAST [10]. -/
def MSN_JOB_TIME_LAST : Fd := { page := 0x7, off := 0x58, hi := 15, lo := 0, acc := .RO, cls := .RO, reset := 0, n1 := 15 }
/-- MSN_JOB_TIME.MAX [10]. -/
def MSN_JOB_TIME_MAX : Fd := { page := 0x7, off := 0x58, hi := 31, lo := 16, acc := .RO, cls := .RO, reset := 0, n1 := 15 }
/-- MSN_JOB_PIN.COURSE [10]. -/
def MSN_JOB_PIN_COURSE : Fd := { page := 0x7, off := 0x5c, hi := 1, lo := 0, acc := .RW, cls := .B, reset := 0, n1 := 15, grd := .max 1 }
/-- MSN_JOB_PIN.EN [10]. -/
def MSN_JOB_PIN_EN : Fd := { page := 0x7, off := 0x5c, hi := 2, lo := 2, acc := .RW, cls := .B, reset := 0, n1 := 15 }
/-- MSN_DIAG_CTL.EN [10]. -/
def MSN_DIAG_CTL_EN : Fd := { page := 0x7, off := 0x80, hi := 0, lo := 0, acc := .RW, cls := .L, reset := 0, lock := true }
/-- MSN_DIAG_TILE_SEL.TILE [10]. -/
def MSN_DIAG_TILE_SEL_TILE : Fd := { page := 0x7, off := 0x84, hi := 3, lo := 0, acc := .RW, cls := .L, reset := 0, chk := (.u 0 11), grd := .max 5 }
/-- MSN_DIAG_TILE.STATE [10]. -/
def MSN_DIAG_TILE_STATE : Fd := { page := 0x7, off := 0x88, hi := 2, lo := 0, acc := .RO, cls := .RO, reset := 0 }
/-- MSN_DIAG_TILE.JOBS [10]. -/
def MSN_DIAG_TILE_JOBS : Fd := { page := 0x7, off := 0x88, hi := 18, lo := 4, acc := .RO, cls := .RO, reset := 0 }
/-- MSN_DIAG_TILE.SHARE [10]. -/
def MSN_DIAG_TILE_SHARE : Fd := { page := 0x7, off := 0x88, hi := 31, lo := 24, acc := .RO, cls := .RO, reset := 0 }
/-- MSN_DIAG_JOB.TILE0 [10]. -/
def MSN_DIAG_JOB_TILE0 : Fd := { page := 0x7, off := 0x8c, hi := 3, lo := 0, acc := .RO, cls := .RO, reset := 15 }
/-- MSN_DIAG_JOB.TILE1 [10]. -/
def MSN_DIAG_JOB_TILE1 : Fd := { page := 0x7, off := 0x8c, hi := 7, lo := 4, acc := .RO, cls := .RO, reset := 15 }
/-- MSN_DIAG_JOB.BANK [10]. -/
def MSN_DIAG_JOB_BANK : Fd := { page := 0x7, off := 0x8c, hi := 13, lo := 8, acc := .RO, cls := .RO, reset := 63 }
/-- MSN_DIAG_EXCL.TILE [10]. -/
def MSN_DIAG_EXCL_TILE : Fd := { page := 0x7, off := 0x90, hi := 11, lo := 0, acc := .RW, cls := .B, reset := 0, grd := .mask 0x3F }
/-- MSN_DIAG_CLR.TILE [10]. -/
def MSN_DIAG_CLR_TILE : Fd := { page := 0x7, off := 0x94, hi := 3, lo := 0, acc := .WO, cls := .L, reset := 0, act := true }
/-- MSN_DIAG_CLR.CLEAR [10]. -/
def MSN_DIAG_CLR_CLEAR : Fd := { page := 0x7, off := 0x94, hi := 4, lo := 4, acc := .WO, cls := .L, reset := 0, act := true }
/-- MSN_DIAG_BANK_SEL.BANK [10]. -/
def MSN_DIAG_BANK_SEL_BANK : Fd := { page := 0x7, off := 0x98, hi := 5, lo := 0, acc := .RW, cls := .L, reset := 0, chk := (.u 0 39), grd := .max 25 }
/-- MSN_DIAG_BANK.STATE [10]. -/
def MSN_DIAG_BANK_STATE : Fd := { page := 0x7, off := 0x9c, hi := 2, lo := 0, acc := .RO, cls := .RO, reset := 0 }
/-- MSN_DIAG_BANK.USE [10]. -/
def MSN_DIAG_BANK_USE : Fd := { page := 0x7, off := 0x9c, hi := 7, lo := 4, acc := .RO, cls := .RO, reset := 0 }
/-- MSN_DIAG_BANK.CE_COUNT [10]. -/
def MSN_DIAG_BANK_CE_COUNT : Fd := { page := 0x7, off := 0x9c, hi := 31, lo := 16, acc := .RO, cls := .RO, reset := 0 }
/-- SLV_CFG.MAX_ITER [09]. -/
def SLV_CFG_MAX_ITER : Fd := { page := 0x8, off := 0x40, hi := 9, lo := 0, acc := .RW, cls := .B, reset := 200, chk := (.u 10 1000) }
/-- SLV_CFG.REFACT [09]. -/
def SLV_CFG_REFACT : Fd := { page := 0x8, off := 0x40, hi := 15, lo := 10, acc := .RW, cls := .B, reset := 32, chk := (.u 8 63) }
/-- SLV_CFG.WARM_EN [09]. -/
def SLV_CFG_WARM_EN : Fd := { page := 0x8, off := 0x40, hi := 16, lo := 16, acc := .RW, cls := .B, reset := 1 }
/-- SLV_FEAS_TOL.V [09]. -/
def SLV_FEAS_TOL_V : Fd := { page := 0x8, off := 0x44, hi := 31, lo := 0, acc := .RW, cls := .B, reset := 953267991, chk := (.f 0x358637bd 0x3c23d70a false false) }
/-- SLV_OPT_TOL.V [09]. -/
def SLV_OPT_TOL_V : Fd := { page := 0x8, off := 0x48, hi := 31, lo := 0, acc := .RW, cls := .B, reset := 897988541, chk := (.f 0x3089705f 0x3a83126f false false) }
/-- SLV_REG_DELTA.V [09]. -/
def SLV_REG_DELTA_V : Fd := { page := 0x8, off := 0x4c, hi := 31, lo := 0, acc := .RW, cls := .B, reset := 814313567, chk := (.f 0x2b8cbccc 0x38d1b717 false false) }
/-- SLV_STAT.OUTCOME [09]. -/
def SLV_STAT_OUTCOME : Fd := { page := 0x8, off := 0x50, hi := 2, lo := 0, acc := .RO, cls := .RO, reset := 0 }
/-- SLV_STAT.REASON [09]. -/
def SLV_STAT_REASON : Fd := { page := 0x8, off := 0x50, hi := 6, lo := 3, acc := .RO, cls := .RO, reset := 0 }
/-- SLV_STAT.COLD [09]. -/
def SLV_STAT_COLD : Fd := { page := 0x8, off := 0x50, hi := 7, lo := 7, acc := .RO, cls := .RO, reset := 0 }
/-- SLV_STAT.WARM_REJECT [09]. -/
def SLV_STAT_WARM_REJECT : Fd := { page := 0x8, off := 0x50, hi := 8, lo := 8, acc := .RO, cls := .RO, reset := 0 }
/-- SLV_STAT.REGULARISED [09]. -/
def SLV_STAT_REGULARISED : Fd := { page := 0x8, off := 0x50, hi := 9, lo := 9, acc := .RO, cls := .RO, reset := 0 }
/-- SLV_STAT.RUNNING [09]. -/
def SLV_STAT_RUNNING : Fd := { page := 0x8, off := 0x50, hi := 10, lo := 10, acc := .RO, cls := .RO, reset := 0 }
/-- SLV_STAT.ITERS [09]. -/
def SLV_STAT_ITERS : Fd := { page := 0x8, off := 0x50, hi := 31, lo := 16, acc := .RO, cls := .RO, reset := 0 }
/-- SLV_SIZE.VARS [09]. -/
def SLV_SIZE_VARS : Fd := { page := 0x8, off := 0x54, hi := 9, lo := 0, acc := .RO, cls := .RO, reset := 0 }
/-- SLV_SIZE.ACTIVE [09]. -/
def SLV_SIZE_ACTIVE : Fd := { page := 0x8, off := 0x54, hi := 20, lo := 10, acc := .RO, cls := .RO, reset := 0 }
/-- SLV_TIME.SOLVE [09]. -/
def SLV_TIME_SOLVE : Fd := { page := 0x8, off := 0x58, hi := 15, lo := 0, acc := .RO, cls := .RO, reset := 0 }
/-- SLV_TIME.ASM [09]. -/
def SLV_TIME_ASM : Fd := { page := 0x8, off := 0x58, hi := 31, lo := 16, acc := .RO, cls := .RO, reset := 0 }
/-- SLV_VIOL.VIOL [09]. -/
def SLV_VIOL_VIOL : Fd := { page := 0x8, off := 0x5c, hi := 31, lo := 0, acc := .RO, cls := .RO, reset := 0 }
/-- SLV_PIVOT.COL [09]. -/
def SLV_PIVOT_COL : Fd := { page := 0x8, off := 0x60, hi := 11, lo := 0, acc := .RO, cls := .RO, reset := 0 }
/-- SLV_PIVOT.REG_RUN [09]. -/
def SLV_PIVOT_REG_RUN : Fd := { page := 0x8, off := 0x60, hi := 15, lo := 12, acc := .RO, cls := .RO, reset := 0 }
/-- SLV_PIVOT.COUNT [09]. -/
def SLV_PIVOT_COUNT : Fd := { page := 0x8, off := 0x60, hi := 27, lo := 16, acc := .RO, cls := .RO, reset := 0 }
/-- SLV_CAUSE.CAUSE [09]. -/
def SLV_CAUSE_CAUSE : Fd := { page := 0x8, off := 0x64, hi := 2, lo := 0, acc := .RO, cls := .RO, reset := 0 }
/-- SLV_CAUSE.THR [09]. -/
def SLV_CAUSE_THR : Fd := { page := 0x8, off := 0x64, hi := 7, lo := 4, acc := .RO, cls := .RO, reset := 0 }
/-- SLV_CAUSE.JOINT [09]. -/
def SLV_CAUSE_JOINT : Fd := { page := 0x8, off := 0x64, hi := 10, lo := 8, acc := .RO, cls := .RO, reset := 0 }
/-- SLV_SIG0.VARS [09]. -/
def SLV_SIG0_VARS : Fd := { page := 0x8, off := 0x68, hi := 9, lo := 0, acc := .RO, cls := .RO, reset := 0 }
/-- SLV_SIG0.N_USED [09]. -/
def SLV_SIG0_N_USED : Fd := { page := 0x8, off := 0x68, hi := 14, lo := 10, acc := .RO, cls := .RO, reset := 0 }
/-- SLV_SIG0.APP [09]. -/
def SLV_SIG0_APP : Fd := { page := 0x8, off := 0x68, hi := 15, lo := 15, acc := .RO, cls := .RO, reset := 0 }
/-- SLV_SIG0.MASK [09]. -/
def SLV_SIG0_MASK : Fd := { page := 0x8, off := 0x68, hi := 31, lo := 16, acc := .RO, cls := .RO, reset := 0 }
/-- SLV_SIG1.ROWS [09]. -/
def SLV_SIG1_ROWS : Fd := { page := 0x8, off := 0x6c, hi := 13, lo := 0, acc := .RO, cls := .RO, reset := 0 }
/-- SLV_SIG1.ASTERN [09]. -/
def SLV_SIG1_ASTERN : Fd := { page := 0x8, off := 0x6c, hi := 31, lo := 16, acc := .RO, cls := .RO, reset := 0 }
/-- SLV_CNT.WARM_REJECT [09]. -/
def SLV_CNT_WARM_REJECT : Fd := { page := 0x8, off := 0x70, hi := 15, lo := 0, acc := .RO, cls := .RO, reset := 0 }
/-- SLV_CNT.COLD [09]. -/
def SLV_CNT_COLD : Fd := { page := 0x8, off := 0x70, hi := 31, lo := 16, acc := .RO, cls := .RO, reset := 0 }
/-- SLV_CNT2.PIVOT_SMALL [09]. -/
def SLV_CNT2_PIVOT_SMALL : Fd := { page := 0x8, off := 0x74, hi := 15, lo := 0, acc := .RO, cls := .RO, reset := 0 }
/-- SLV_CNT2.ABANDONED [09]. -/
def SLV_CNT2_ABANDONED : Fd := { page := 0x8, off := 0x74, hi := 31, lo := 16, acc := .RO, cls := .RO, reset := 0 }
/-- SLV_NUM.SQRT_NEG [09]. -/
def SLV_NUM_SQRT_NEG : Fd := { page := 0x8, off := 0x78, hi := 15, lo := 0, acc := .RO, cls := .RO, reset := 0 }
/-- SLV_APP_CFG.HOLD_NE [09]. -/
def SLV_APP_CFG_HOLD_NE : Fd := { page := 0x8, off := 0x80, hi := 0, lo := 0, acc := .RW, cls := .B, reset := 1 }
/-- SLV_APP_CFG.HOLD_D [09]. -/
def SLV_APP_CFG_HOLD_D : Fd := { page := 0x8, off := 0x80, hi := 1, lo := 1, acc := .RW, cls := .B, reset := 1 }
/-- SLV_APP_CFG.FF_EN [09]. -/
def SLV_APP_CFG_FF_EN : Fd := { page := 0x8, off := 0x80, hi := 2, lo := 2, acc := .RW, cls := .B, reset := 1 }
/-- SLV_APP_CFG.NEWTON [09]. -/
def SLV_APP_CFG_NEWTON : Fd := { page := 0x8, off := 0x80, hi := 9, lo := 8, acc := .RW, cls := .B, reset := 3, chk := (.u 1 3) }
/-- SLV_APP_DAMP.V [09]. -/
def SLV_APP_DAMP_V : Fd := { page := 0x8, off := 0x84, hi := 31, lo := 0, acc := .RW, cls := .B, reset := 1028443341, chk := (.f 0x3a83126f 0x3f800000 false false) }
/-- SLV_APP_MOVE_N.V [09]. -/
def SLV_APP_MOVE_N_V : Fd := { page := 0x8, off := 0x88, hi := 31, lo := 0, acc := .RW, cls := .B, reset := 0, chk := (.f 0xc1200000 0x41200000 false false) }
/-- SLV_APP_MOVE_E.V [09]. -/
def SLV_APP_MOVE_E_V : Fd := { page := 0x8, off := 0x8c, hi := 31, lo := 0, acc := .RW, cls := .B, reset := 0, chk := (.f 0xc1200000 0x41200000 false false) }
/-- SLV_APP_MOVE_D.V [09]. -/
def SLV_APP_MOVE_D_V : Fd := { page := 0x8, off := 0x90, hi := 31, lo := 0, acc := .RW, cls := .B, reset := 0, chk := (.f 0xc1200000 0x41200000 false false) }
/-- SLV_APP_TGT_N.V [09]. -/
def SLV_APP_TGT_N_V : Fd := { page := 0x8, off := 0x94, hi := 31, lo := 0, acc := .RO, cls := .RO, reset := 0 }
/-- SLV_APP_TGT_E.V [09]. -/
def SLV_APP_TGT_E_V : Fd := { page := 0x8, off := 0x98, hi := 31, lo := 0, acc := .RO, cls := .RO, reset := 0 }
/-- SLV_APP_TGT_D.V [09]. -/
def SLV_APP_TGT_D_V : Fd := { page := 0x8, off := 0x9c, hi := 31, lo := 0, acc := .RO, cls := .RO, reset := 0 }
/-- SLV_APP_ERR.V [09]. -/
def SLV_APP_ERR_V : Fd := { page := 0x8, off := 0xa0, hi := 31, lo := 0, acc := .RO, cls := .RO, reset := 0 }
/-- SLV_APP_STAT.ACTIVE [09]. -/
def SLV_APP_STAT_ACTIVE : Fd := { page := 0x8, off := 0xa4, hi := 0, lo := 0, acc := .RO, cls := .RO, reset := 0 }
/-- SLV_APP_STAT.LIMIT [09]. -/
def SLV_APP_STAT_LIMIT : Fd := { page := 0x8, off := 0xa4, hi := 6, lo := 1, acc := .RO, cls := .RO, reset := 0 }
/-- SLV_APP_STAT.SINGULAR [09]. -/
def SLV_APP_STAT_SINGULAR : Fd := { page := 0x8, off := 0xa4, hi := 7, lo := 7, acc := .RO, cls := .RO, reset := 0 }
/-- SLV_APP_STAT.OVERRUNS [09]. -/
def SLV_APP_STAT_OVERRUNS : Fd := { page := 0x8, off := 0xa4, hi := 15, lo := 8, acc := .RO, cls := .RO, reset := 0 }
/-- SLV_APP_REACT_X.V [09]. -/
def SLV_APP_REACT_X_V : Fd := { page := 0x8, off := 0xa8, hi := 31, lo := 0, acc := .RO, cls := .RO, reset := 0 }
/-- SLV_APP_REACT_Y.V [09]. -/
def SLV_APP_REACT_Y_V : Fd := { page := 0x8, off := 0xac, hi := 31, lo := 0, acc := .RO, cls := .RO, reset := 0 }
/-- SLV_APP_REACT_N.V [09]. -/
def SLV_APP_REACT_N_V : Fd := { page := 0x8, off := 0xb0, hi := 31, lo := 0, acc := .RO, cls := .RO, reset := 0 }
/-- SLV_JNT_SEL.JNT [09]. -/
def SLV_JNT_SEL_JNT : Fd := { page := 0x8, off := 0xc0, hi := 2, lo := 0, acc := .RW, cls := .L, reset := 1, chk := (.u 1 6) }
/-- SLV_JNT_Q.V [09]. -/
def SLV_JNT_Q_V : Fd := { page := 0x8, off := 0xc4, hi := 31, lo := 0, acc := .RO, cls := .RO, reset := 0, n1 := 7 }
/-- SLV_JNT_QD.V [09]. -/
def SLV_JNT_QD_V : Fd := { page := 0x8, off := 0xc8, hi := 31, lo := 0, acc := .RO, cls := .RO, reset := 0, n1 := 7 }
/-- SLV_JNT_TAU.V [09]. -/
def SLV_JNT_TAU_V : Fd := { page := 0x8, off := 0xcc, hi := 31, lo := 0, acc := .RO, cls := .RO, reset := 0, n1 := 7 }
/-- SLV_AZ_SEL.THR [09]. -/
def SLV_AZ_SEL_THR : Fd := { page := 0x8, off := 0xe0, hi := 3, lo := 0, acc := .RW, cls := .L, reset := 0, grd := .max 7 }
/-- SLV_AZ_CFG.FF_EN [09]. -/
def SLV_AZ_CFG_FF_EN : Fd := { page := 0x8, off := 0xe4, hi := 0, lo := 0, acc := .RW, cls := .B, reset := 0, n1 := 16 }
/-- SLV_AZ_J.J [09]. -/
def SLV_AZ_J_J : Fd := { page := 0x8, off := 0xe8, hi := 31, lo := 0, acc := .RW, cls := .B, reset := 0, n1 := 16, chk := (.f 0x0 0x49742400 false false) }
/-- SLV_AZ_FRIC.FRIC [09]. -/
def SLV_AZ_FRIC_FRIC : Fd := { page := 0x8, off := 0xec, hi := 31, lo := 0, acc := .RW, cls := .B, reset := 0, n1 := 16, chk := (.f 0x0 0x49742400 false false) }
/-- SLV_AZ_TAU.TAU [09]. -/
def SLV_AZ_TAU_TAU : Fd := { page := 0x8, off := 0xf0, hi := 31, lo := 0, acc := .RO, cls := .RO, reset := 0, n1 := 16 }
/-- FUS_CFG.WF_EN [07]. -/
def FUS_CFG_WF_EN : Fd := { page := 0x9, off := 0x40, hi := 0, lo := 0, acc := .RW, cls := .B, reset := 1 }
/-- FUS_CFG.CUR_EN [07]. -/
def FUS_CFG_CUR_EN : Fd := { page := 0x9, off := 0x40, hi := 1, lo := 1, acc := .RW, cls := .B, reset := 1 }
/-- FUS_CFG.TRIM_EN [07]. -/
def FUS_CFG_TRIM_EN : Fd := { page := 0x9, off := 0x40, hi := 2, lo := 2, acc := .RW, cls := .B, reset := 1 }
/-- FUS_CFG.ORG_AUTO [07]. -/
def FUS_CFG_ORG_AUTO : Fd := { page := 0x9, off := 0x40, hi := 3, lo := 3, acc := .RW, cls := .B, reset := 1 }
/-- FUS_CFG.ORG_SET [07]. -/
def FUS_CFG_ORG_SET : Fd := { page := 0x9, off := 0x40, hi := 4, lo := 4, acc := .WO, cls := .B, reset := 0 }
/-- FUS_CFG.PRED_COUNT [07]. -/
def FUS_CFG_PRED_COUNT : Fd := { page := 0x9, off := 0x40, hi := 19, lo := 16, acc := .RW, cls := .B, reset := 5, chk := (.u 1 15) }
/-- FUS_STAT.OWN_VALID [07]. -/
def FUS_STAT_OWN_VALID : Fd := { page := 0x9, off := 0x44, hi := 0, lo := 0, acc := .RO, cls := .RO, reset := 0 }
/-- FUS_STAT.POS_VALID [07]. -/
def FUS_STAT_POS_VALID : Fd := { page := 0x9, off := 0x44, hi := 1, lo := 1, acc := .RO, cls := .RO, reset := 0 }
/-- FUS_STAT.HDG_VALID [07]. -/
def FUS_STAT_HDG_VALID : Fd := { page := 0x9, off := 0x44, hi := 2, lo := 2, acc := .RO, cls := .RO, reset := 0 }
/-- FUS_STAT.DR [07]. -/
def FUS_STAT_DR : Fd := { page := 0x9, off := 0x44, hi := 3, lo := 3, acc := .RO, cls := .RO, reset := 0 }
/-- FUS_STAT.RERUN [07]. -/
def FUS_STAT_RERUN : Fd := { page := 0x9, off := 0x44, hi := 4, lo := 4, acc := .RO, cls := .RO, reset := 0 }
/-- FUS_STAT.REF_DISAGREE [07]. -/
def FUS_STAT_REF_DISAGREE : Fd := { page := 0x9, off := 0x44, hi := 5, lo := 5, acc := .RO, cls := .RO, reset := 0 }
/-- FUS_STAT.NREF_ACC [07]. -/
def FUS_STAT_NREF_ACC : Fd := { page := 0x9, off := 0x44, hi := 15, lo := 8, acc := .RO, cls := .RO, reset := 0 }
/-- FUS_STAT.POS_AGE [07]. -/
def FUS_STAT_POS_AGE : Fd := { page := 0x9, off := 0x44, hi := 31, lo := 16, acc := .RO, cls := .RO, reset := 0 }
/-- FUS_REW_STAT.LAST_DEPTH [07]. -/
def FUS_REW_STAT_LAST_DEPTH : Fd := { page := 0x9, off := 0x48, hi := 8, lo := 0, acc := .RO, cls := .RO, reset := 0 }
/-- FUS_REW_STAT.MAX_DEPTH [07]. -/
def FUS_REW_STAT_MAX_DEPTH : Fd := { page := 0x9, off := 0x48, hi := 17, lo := 9, acc := .RO, cls := .RO, reset := 0 }
/-- FUS_REW_STAT.SPAN [07]. -/
def FUS_REW_STAT_SPAN : Fd := { page := 0x9, off := 0x48, hi := 26, lo := 18, acc := .RO, cls := .RO, reset := 0 }
/-- FUS_LATE_DROP.COUNT [07]. -/
def FUS_LATE_DROP_COUNT : Fd := { page := 0x9, off := 0x4c, hi := 15, lo := 0, acc := .RO, cls := .RO, reset := 0 }
/-- FUS_LATE_DROP.LAST_SRC [07]. -/
def FUS_LATE_DROP_LAST_SRC : Fd := { page := 0x9, off := 0x4c, hi := 20, lo := 16, acc := .RO, cls := .RO, reset := 0 }
/-- FUS_LOG.RECORDS [07]. -/
def FUS_LOG_RECORDS : Fd := { page := 0x9, off := 0x50, hi := 15, lo := 0, acc := .RO, cls := .RO, reset := 0 }
/-- FUS_LOG.EVICT [07]. -/
def FUS_LOG_EVICT : Fd := { page := 0x9, off := 0x50, hi := 31, lo := 16, acc := .RO, cls := .RO, reset := 0 }
/-- FUS_ADD_X.V [07]. -/
def FUS_ADD_X_V : Fd := { page := 0x9, off := 0x60, hi := 31, lo := 0, acc := .RW, cls := .B, reset := 1036831949, chk := (.f 0x0 0x40000000 false false) }
/-- FUS_ADD_Y.V [07]. -/
def FUS_ADD_Y_V : Fd := { page := 0x9, off := 0x64, hi := 31, lo := 0, acc := .RW, cls := .B, reset := 1061997773, chk := (.f 0x0 0x40000000 false false) }
/-- FUS_ADD_N.V [07]. -/
def FUS_ADD_N_V : Fd := { page := 0x9, off := 0x68, hi := 31, lo := 0, acc := .RW, cls := .B, reset := 1056964608, chk := (.f 0x0 0x40000000 false false) }
/-- FUS_TD_X.V [07]. -/
def FUS_TD_X_V : Fd := { page := 0x9, off := 0x6c, hi := 31, lo := 0, acc := .RW, cls := .B, reset := 1120403456, chk := (.f 0x40a00000 0x447a0000 false false) }
/-- FUS_TD_Y.V [07]. -/
def FUS_TD_Y_V : Fd := { page := 0x9, off := 0x70, hi := 31, lo := 0, acc := .RW, cls := .B, reset := 1114636288, chk := (.f 0x40a00000 0x447a0000 false false) }
/-- FUS_TD_N.V [07]. -/
def FUS_TD_N_V : Fd := { page := 0x9, off := 0x74, hi := 31, lo := 0, acc := .RW, cls := .B, reset := 1109393408, chk := (.f 0x40a00000 0x447a0000 false false) }
/-- FUS_WF_W0.V [07]. -/
def FUS_WF_W0_V : Fd := { page := 0x9, off := 0x78, hi := 31, lo := 0, acc := .RW, cls := .B, reset := 1061997773, chk := (.f 0x3e99999a 0x40000000 false false) }
/-- FUS_WF_ZETA.V [07]. -/
def FUS_WF_ZETA_V : Fd := { page := 0x9, off := 0x7c, hi := 31, lo := 0, acc := .RW, cls := .B, reset := 1036831949, chk := (.f 0x3c23d70a 0x3f800000 false false) }
/-- FUS_Q_VEL.V [07]. -/
def FUS_Q_VEL_V : Fd := { page := 0x9, off := 0x80, hi := 31, lo := 0, acc := .RW, cls := .B, reset := 1008981770, chk := .fin }
/-- FUS_Q_BIAS_F.V [07]. -/
def FUS_Q_BIAS_F_V : Fd := { page := 0x9, off := 0x84, hi := 31, lo := 0, acc := .RW, cls := .B, reset := 1148846080, chk := .fin }
/-- FUS_Q_BIAS_M.V [07]. -/
def FUS_Q_BIAS_M_V : Fd := { page := 0x9, off := 0x88, hi := 31, lo := 0, acc := .RW, cls := .B, reset := 1195593728, chk := .fin }
/-- FUS_Q_CUR.V [07]. -/
def FUS_Q_CUR_V : Fd := { page := 0x9, off := 0x8c, hi := 31, lo := 0, acc := .RW, cls := .B, reset := 981668463, chk := .fin }
/-- FUS_Q_TRIM.V [07]. -/
def FUS_Q_TRIM_V : Fd := { page := 0x9, off := 0x90, hi := 31, lo := 0, acc := .RW, cls := .B, reset := 953267991, chk := .fin }
/-- FUS_Q_WF.V [07]. -/
def FUS_Q_WF_V : Fd := { page := 0x9, off := 0x94, hi := 31, lo := 0, acc := .RW, cls := .B, reset := 1036831949, chk := .fin }
/-- FUS_Q_WFH.V [07]. -/
def FUS_Q_WFH_V : Fd := { page := 0x9, off := 0x98, hi := 31, lo := 0, acc := .RW, cls := .B, reset := 981668463, chk := .fin }
/-- FUS_FREEZE_TIME.V [07]. -/
def FUS_FREEZE_TIME_V : Fd := { page := 0x9, off := 0xa0, hi := 31, lo := 0, acc := .RW, cls := .B, reset := 1077936128, chk := (.f 0x3f000000 0x41f00000 false false) }
/-- FUS_FREEZE_EPS.V [07]. -/
def FUS_FREEZE_EPS_V : Fd := { page := 0x9, off := 0xa4, hi := 31, lo := 0, acc := .RW, cls := .B, reset := 981668463, chk := .fin }
/-- FUS_VAR_WINDOW.V [07]. -/
def FUS_VAR_WINDOW_V : Fd := { page := 0x9, off := 0xa8, hi := 31, lo := 0, acc := .RW, cls := .B, reset := 1092616192, chk := (.f 0x40000000 0x42700000 false false) }
/-- FUS_VAR_LIMIT.V [07]. -/
def FUS_VAR_LIMIT_V : Fd := { page := 0x9, off := 0xac, hi := 31, lo := 0, acc := .RW, cls := .B, reset := 1073741824, chk := .fin }
/-- FUS_PRED_GATE.V [07]. -/
def FUS_PRED_GATE_V : Fd := { page := 0x9, off := 0xb0, hi := 31, lo := 0, acc := .RW, cls := .B, reset := 1096600781, chk := (.f 0x40800000 0x42c80000 false false) }
/-- FUS_MEDIAN_LIMIT.V [07]. -/
def FUS_MEDIAN_LIMIT_V : Fd := { page := 0x9, off := 0xb4, hi := 31, lo := 0, acc := .RW, cls := .B, reset := 1084227584, chk := .fin }
/-- FUS_DRIFT_TAU.V [07]. -/
def FUS_DRIFT_TAU_V : Fd := { page := 0x9, off := 0xb8, hi := 31, lo := 0, acc := .RW, cls := .B, reset := 1114636288, chk := (.f 0x40a00000 0x44160000 false false) }
/-- FUS_DRIFT_LIMIT.V [07]. -/
def FUS_DRIFT_LIMIT_V : Fd := { page := 0x9, off := 0xbc, hi := 31, lo := 0, acc := .RW, cls := .B, reset := 1077936128, chk := .fin }
/-- FUS_RECOVER_TIME.V [07]. -/
def FUS_RECOVER_TIME_V : Fd := { page := 0x9, off := 0xc0, hi := 31, lo := 0, acc := .RW, cls := .B, reset := 1106247680, chk := (.f 0x3f800000 0x44160000 false false) }
/-- FUS_POS_SIG_MAX.V [07]. -/
def FUS_POS_SIG_MAX_V : Fd := { page := 0x9, off := 0xc4, hi := 31, lo := 0, acc := .RW, cls := .B, reset := 1084227584, chk := .fin }
/-- FUS_HDG_SIG_MAX.V [07]. -/
def FUS_HDG_SIG_MAX_V : Fd := { page := 0x9, off := 0xc8, hi := 31, lo := 0, acc := .RW, cls := .B, reset := 1016003125, chk := .fin }
/-- FUS_CLK_TAU.V [07]. -/
def FUS_CLK_TAU_V : Fd := { page := 0x9, off := 0xcc, hi := 31, lo := 0, acc := .RW, cls := .B, reset := 1114636288, chk := (.f 0x40a00000 0x44160000 false false) }
/-- FUS_CLK_RATE_MAX.V [07]. -/
def FUS_CLK_RATE_MAX_V : Fd := { page := 0x9, off := 0xd0, hi := 31, lo := 0, acc := .RW, cls := .B, reset := 953267991, chk := .fin }
/-- FUS_CLK_INIT.V [07]. -/
def FUS_CLK_INIT_V : Fd := { page := 0x9, off := 0xd4, hi := 31, lo := 0, acc := .RW, cls := .B, reset := 1092616192, chk := (.f 0x0 0x42700000 false false) }
/-- FUS_ORG_LAT_LO.V [07]. -/
def FUS_ORG_LAT_LO_V : Fd := { page := 0x9, off := 0xe0, hi := 31, lo := 0, acc := .RW, cls := .B, reset := 0, act := true }
/-- FUS_ORG_LAT_HI.V [07]. -/
def FUS_ORG_LAT_HI_V : Fd := { page := 0x9, off := 0xe4, hi := 31, lo := 0, acc := .RW, cls := .B, reset := 0, act := true }
/-- FUS_ORG_LON_LO.V [07]. -/
def FUS_ORG_LON_LO_V : Fd := { page := 0x9, off := 0xe8, hi := 31, lo := 0, acc := .RW, cls := .B, reset := 0, act := true }
/-- FUS_ORG_LON_HI.V [07]. -/
def FUS_ORG_LON_HI_V : Fd := { page := 0x9, off := 0xec, hi := 31, lo := 0, acc := .RW, cls := .B, reset := 0, act := true }
/-- FUS_ORG_STAT.SET [07]. -/
def FUS_ORG_STAT_SET : Fd := { page := 0x9, off := 0xf0, hi := 0, lo := 0, acc := .RO, cls := .RO, reset := 0 }
/-- FUS_ORG_STAT.FAR [07]. -/
def FUS_ORG_STAT_FAR : Fd := { page := 0x9, off := 0xf0, hi := 1, lo := 1, acc := .RO, cls := .RO, reset := 0 }
/-- FUS_ORG_STAT.GEN [07]. -/
def FUS_ORG_STAT_GEN : Fd := { page := 0x9, off := 0xf0, hi := 23, lo := 8, acc := .RO, cls := .RO, reset := 0 }
/-- FUS_SRC_SEL.SRC [07]. -/
def FUS_SRC_SEL_SRC : Fd := { page := 0x9, off := 0x100, hi := 4, lo := 0, acc := .RW, cls := .L, reset := 0, grd := .max 15 }
/-- FUS_SRC_CFG.USE [07]. -/
def FUS_SRC_CFG_USE : Fd := { page := 0x9, off := 0x104, hi := 0, lo := 0, acc := .RW, cls := .B, reset := 1, n1 := 32 }
/-- FUS_SRC_CFG.TIME_SRC [07]. -/
def FUS_SRC_CFG_TIME_SRC : Fd := { page := 0x9, off := 0x104, hi := 2, lo := 1, acc := .RW, cls := .B, reset := 0, n1 := 32, chk := (.u 0 2) }
/-- FUS_SRC_SIGMA.SIGMA [07]. -/
def FUS_SRC_SIGMA_SIGMA : Fd := { page := 0x9, off := 0x108, hi := 31, lo := 0, acc := .RW, cls := .B, reset := 1065353216, n1 := 32, chk := (.f 0x3a83126f 0x42c80000 false false) }
/-- FUS_SRC_LAT.LAT [07]. -/
def FUS_SRC_LAT_LAT : Fd := { page := 0x9, off := 0x10c, hi := 31, lo := 0, acc := .RW, cls := .B, reset := 0, n1 := 32, chk := (.f 0x0 0x3f800000 false false) }
/-- FUS_SRC_STAT.REF [07]. -/
def FUS_SRC_STAT_REF : Fd := { page := 0x9, off := 0x110, hi := 1, lo := 0, acc := .RO, cls := .RO, reset := 0, n1 := 32 }
/-- FUS_SRC_STAT.REASON [07]. -/
def FUS_SRC_STAT_REASON : Fd := { page := 0x9, off := 0x110, hi := 4, lo := 2, acc := .RO, cls := .RO, reset := 0, n1 := 32 }
/-- FUS_SRC_STAT.TIME_SUSPECT [07]. -/
def FUS_SRC_STAT_TIME_SUSPECT : Fd := { page := 0x9, off := 0x110, hi := 5, lo := 5, acc := .RO, cls := .RO, reset := 0, n1 := 32 }
/-- FUS_SRC_STAT.CLK_INIT [07]. -/
def FUS_SRC_STAT_CLK_INIT : Fd := { page := 0x9, off := 0x110, hi := 6, lo := 6, acc := .RO, cls := .RO, reset := 0, n1 := 32 }
/-- FUS_SRC_STAT.PRED_FAILS [07]. -/
def FUS_SRC_STAT_PRED_FAILS : Fd := { page := 0x9, off := 0x110, hi := 15, lo := 8, acc := .RO, cls := .RO, reset := 0, n1 := 32 }
/-- FUS_SRC_STAT.FUSED [07]. -/
def FUS_SRC_STAT_FUSED : Fd := { page := 0x9, off := 0x110, hi := 31, lo := 16, acc := .RO, cls := .RO, reset := 0, n1 := 32 }
/-- FUS_SRC_OFS.OFS [07]. -/
def FUS_SRC_OFS_OFS : Fd := { page := 0x9, off := 0x114, hi := 31, lo := 0, acc := .RO, cls := .RO, reset := 0, n1 := 32 }
/-- FUS_SRC_RATE.RATE [07]. -/
def FUS_SRC_RATE_RATE : Fd := { page := 0x9, off := 0x118, hi := 31, lo := 0, acc := .RO, cls := .RO, reset := 0, n1 := 32 }
/-- FUS_SRC_RESID.RESID [07]. -/
def FUS_SRC_RESID_RESID : Fd := { page := 0x9, off := 0x11c, hi := 31, lo := 0, acc := .RO, cls := .RO, reset := 0, n1 := 32 }
/-- FUS_SRC_WEIGHT.WEIGHT [07]. -/
def FUS_SRC_WEIGHT_WEIGHT : Fd := { page := 0x9, off := 0x120, hi := 31, lo := 0, acc := .RO, cls := .RO, reset := 0, n1 := 32 }
/-- FUS_VGRP_SEL.GRP [07]. -/
def FUS_VGRP_SEL_GRP : Fd := { page := 0x9, off := 0x140, hi := 3, lo := 0, acc := .RW, cls := .L, reset := 0 }
/-- FUS_VGRP_LIMIT.LIMIT [07]. -/
def FUS_VGRP_LIMIT_LIMIT : Fd := { page := 0x9, off := 0x144, hi := 31, lo := 0, acc := .RW, cls := .B, reset := 1016003125, n1 := 16, chk := .fin }
/-- FUS_VGRP_LIMIT2.LIMIT2 [07]. -/
def FUS_VGRP_LIMIT2_LIMIT2 : Fd := { page := 0x9, off := 0x148, hi := 31, lo := 0, acc := .RW, cls := .B, reset := 1073741824, n1 := 16, chk := .fin }
/-- FUS_VGRP_TIME.TIME [07]. -/
def FUS_VGRP_TIME_TIME : Fd := { page := 0x9, off := 0x14c, hi := 31, lo := 0, acc := .RW, cls := .B, reset := 1073741824, n1 := 16, chk := (.f 0x3dcccccd 0x42700000 false false) }
/-- FUS_VGRP_STAT.MEMBERS [07]. -/
def FUS_VGRP_STAT_MEMBERS : Fd := { page := 0x9, off := 0x150, hi := 1, lo := 0, acc := .RO, cls := .RO, reset := 0, n1 := 16 }
/-- FUS_VGRP_STAT.USED [07]. -/
def FUS_VGRP_STAT_USED : Fd := { page := 0x9, off := 0x150, hi := 3, lo := 2, acc := .RO, cls := .RO, reset := 0, n1 := 16 }
/-- FUS_VGRP_STAT.DISAGREE [07]. -/
def FUS_VGRP_STAT_DISAGREE : Fd := { page := 0x9, off := 0x150, hi := 4, lo := 4, acc := .RO, cls := .RO, reset := 0, n1 := 16 }
/-- FUS_VGRP_STAT.CHOSEN [07]. -/
def FUS_VGRP_STAT_CHOSEN : Fd := { page := 0x9, off := 0x150, hi := 12, lo := 8, acc := .RO, cls := .RO, reset := 0, n1 := 16 }
/-- FUS_OBJ_SEL.OBJ [07]. -/
def FUS_OBJ_SEL_OBJ : Fd := { page := 0x9, off := 0x160, hi := 2, lo := 0, acc := .RW, cls := .L, reset := 1, chk := (.u 1 7), grd := .max 3 }
/-- FUS_TGT_TIMEOUT.TGT_TIMEOUT [07]. -/
def FUS_TGT_TIMEOUT_TGT_TIMEOUT : Fd := { page := 0x9, off := 0x164, hi := 31, lo := 0, acc := .RW, cls := .B, reset := 1084227584, n1 := 8, chk := (.f 0x3f000000 0x42700000 false false) }
/-- FUS_TGT_QR.TGT_QR [07]. -/
def FUS_TGT_QR_TGT_QR : Fd := { page := 0x9, off := 0x168, hi := 31, lo := 0, acc := .RW, cls := .B, reset := 1008981770, n1 := 8, chk := .fin }
/-- FUS_OBJ_STAT.INIT [07]. -/
def FUS_OBJ_STAT_INIT : Fd := { page := 0x9, off := 0x16c, hi := 0, lo := 0, acc := .RO, cls := .RO, reset := 0, n1 := 8 }
/-- FUS_OBJ_STAT.VALID [07]. -/
def FUS_OBJ_STAT_VALID : Fd := { page := 0x9, off := 0x16c, hi := 1, lo := 1, acc := .RO, cls := .RO, reset := 0, n1 := 8 }
/-- FUS_OBJ_STAT.HDG_FROM_COURSE [07]. -/
def FUS_OBJ_STAT_HDG_FROM_COURSE : Fd := { page := 0x9, off := 0x16c, hi := 2, lo := 2, acc := .RO, cls := .RO, reset := 0, n1 := 8 }
/-- FUS_OBJ_STAT.AGE [07]. -/
def FUS_OBJ_STAT_AGE : Fd := { page := 0x9, off := 0x16c, hi := 31, lo := 16, acc := .RO, cls := .RO, reset := 0, n1 := 8 }
/-- CTL_DEADLINE.D [08]. -/
def CTL_DEADLINE_D : Fd := { page := 0xa, off := 0x40, hi := 6, lo := 0, acc := .RW, cls := .B, reset := 80, chk := (.u 50 90) }
/-- CTL_HOR.N [08]. -/
def CTL_HOR_N : Fd := { page := 0xa, off := 0x44, hi := 4, lo := 0, acc := .RW, cls := .B, reset := 20, chk := (.u 2 20) }
/-- CTL_HOR.HSTEP [08]. -/
def CTL_HOR_HSTEP : Fd := { page := 0xa, off := 0x44, hi := 15, lo := 8, acc := .RW, cls := .B, reset := 10, chk := (.u 1 50) }
/-- CTL_STAT.OUTCOME [08]. -/
def CTL_STAT_OUTCOME : Fd := { page := 0xa, off := 0x48, hi := 2, lo := 0, acc := .RO, cls := .RO, reset := 0 }
/-- CTL_STAT.FALLBACK [08]. -/
def CTL_STAT_FALLBACK : Fd := { page := 0xa, off := 0x48, hi := 3, lo := 3, acc := .RO, cls := .RO, reset := 0 }
/-- CTL_STAT.SHIFT_RUN [08]. -/
def CTL_STAT_SHIFT_RUN : Fd := { page := 0xa, off := 0x48, hi := 5, lo := 4, acc := .RO, cls := .RO, reset := 0 }
/-- CTL_STAT.SOLVED_RUN [08]. -/
def CTL_STAT_SOLVED_RUN : Fd := { page := 0xa, off := 0x48, hi := 7, lo := 6, acc := .RO, cls := .RO, reset := 0 }
/-- CTL_STAT.N_USED [08]. -/
def CTL_STAT_N_USED : Fd := { page := 0xa, off := 0x48, hi := 12, lo := 8, acc := .RO, cls := .RO, reset := 0 }
/-- CTL_STAT.WIND_FF [08]. -/
def CTL_STAT_WIND_FF : Fd := { page := 0xa, off := 0x48, hi := 13, lo := 13, acc := .RO, cls := .RO, reset := 0 }
/-- CTL_Q_SURGE.V [08]. -/
def CTL_Q_SURGE_V : Fd := { page := 0xa, off := 0x60, hi := 31, lo := 0, acc := .RW, cls := .B, reset := 1065353216, chk := (.f 0x0 0x49742400 false false) }
/-- CTL_Q_SWAY.V [08]. -/
def CTL_Q_SWAY_V : Fd := { page := 0xa, off := 0x64, hi := 31, lo := 0, acc := .RW, cls := .B, reset := 1065353216, chk := (.f 0x0 0x49742400 false false) }
/-- CTL_Q_HDG.V [08]. -/
def CTL_Q_HDG_V : Fd := { page := 0xa, off := 0x68, hi := 31, lo := 0, acc := .RW, cls := .B, reset := 1120403456, chk := (.f 0x0 0x4cbebc20 false false) }
/-- CTL_Q_U.V [08]. -/
def CTL_Q_U_V : Fd := { page := 0xa, off := 0x6c, hi := 31, lo := 0, acc := .RW, cls := .B, reset := 1092616192, chk := (.f 0x0 0x49742400 false false) }
/-- CTL_Q_V.V [08]. -/
def CTL_Q_V_V : Fd := { page := 0xa, off := 0x70, hi := 31, lo := 0, acc := .RW, cls := .B, reset := 1092616192, chk := (.f 0x0 0x49742400 false false) }
/-- CTL_Q_R.V [08]. -/
def CTL_Q_R_V : Fd := { page := 0xa, off := 0x74, hi := 31, lo := 0, acc := .RW, cls := .B, reset := 1148846080, chk := (.f 0x0 0x4cbebc20 false false) }
/-- CTL_R_F.V [08]. -/
def CTL_R_F_V : Fd := { page := 0xa, off := 0x78, hi := 31, lo := 0, acc := .RW, cls := .B, reset := 1036831949, chk := (.f 0x38d1b717 0x461c4000 false false) }
/-- CTL_R_DF.V [08]. -/
def CTL_R_DF_V : Fd := { page := 0xa, off := 0x7c, hi := 31, lo := 0, acc := .RW, cls := .B, reset := 1065353216, chk := (.f 0x0 0x461c4000 false false) }
/-- CTL_Q_TERM.V [08]. -/
def CTL_Q_TERM_V : Fd := { page := 0xa, off := 0x80, hi := 31, lo := 0, acc := .RW, cls := .B, reset := 1092616192, chk := (.f 0x3f800000 0x447a0000 false false) }
/-- CTL_TRANSFER_GAIN.V [08]. -/
def CTL_TRANSFER_GAIN_V : Fd := { page := 0xa, off := 0x84, hi := 31, lo := 0, acc := .RW, cls := .B, reset := 1082130432, chk := (.f 0x3f800000 0x42c80000 false false) }
/-- CTL_W_TAU.V [08]. -/
def CTL_W_TAU_V : Fd := { page := 0xa, off := 0x88, hi := 31, lo := 0, acc := .RW, cls := .B, reset := 1120403456, chk := (.f 0x3c23d70a 0x49742400 false false) }
/-- CTL_WIND_FF.V [08]. -/
def CTL_WIND_FF_V : Fd := { page := 0xa, off := 0x8c, hi := 31, lo := 0, acc := .RW, cls := .B, reset := 1065353216, chk := (.f 0x0 0x3f800000 false false) }
/-- CTL_WIND_AF.V [08]. -/
def CTL_WIND_AF_V : Fd := { page := 0xa, off := 0x90, hi := 31, lo := 0, acc := .RW, cls := .B, reset := 0, chk := (.f 0x0 0x461c4000 false false) }
/-- CTL_WIND_AL.V [08]. -/
def CTL_WIND_AL_V : Fd := { page := 0xa, off := 0x94, hi := 31, lo := 0, acc := .RW, cls := .B, reset := 0, chk := (.f 0x0 0x47c35000 false false) }
/-- CTL_ERR_POS.V [08]. -/
def CTL_ERR_POS_V : Fd := { page := 0xa, off := 0x98, hi := 31, lo := 0, acc := .RW, cls := .B, reset := 1077936128, chk := (.f 0x3dcccccd 0x42c80000 false false) }
/-- CTL_ERR_HDG.V [08]. -/
def CTL_ERR_HDG_V : Fd := { page := 0xa, off := 0x9c, hi := 31, lo := 0, acc := .RW, cls := .B, reset := 1028443341, chk := (.f 0x3a83126f 0x3f000000 false false) }
/-- CTL_WIND_SEL.IDX [08]. -/
def CTL_WIND_SEL_IDX : Fd := { page := 0xa, off := 0xa0, hi := 4, lo := 0, acc := .RW, cls := .L, reset := 0, chk := (.u 0 18) }
/-- CTL_WIND_CX.V [08]. -/
def CTL_WIND_CX_V : Fd := { page := 0xa, off := 0xa4, hi := 31, lo := 0, acc := .RW, cls := .B, reset := 0, n1 := 19, chk := (.f 0xc0a00000 0x40a00000 false false) }
/-- CTL_WIND_CY.V [08]. -/
def CTL_WIND_CY_V : Fd := { page := 0xa, off := 0xa8, hi := 31, lo := 0, acc := .RW, cls := .B, reset := 0, n1 := 19, chk := (.f 0xc0a00000 0x40a00000 false false) }
/-- CTL_WIND_CN.V [08]. -/
def CTL_WIND_CN_V : Fd := { page := 0xa, off := 0xac, hi := 31, lo := 0, acc := .RW, cls := .B, reset := 0, n1 := 19, chk := (.f 0xc0a00000 0x40a00000 false false) }
/-- CTL_FB_KP_X.V [08]. -/
def CTL_FB_KP_X_V : Fd := { page := 0xa, off := 0xc0, hi := 31, lo := 0, acc := .RW, cls := .B, reset := 1028443341, chk := (.f 0x0 0x41200000 false false) }
/-- CTL_FB_KP_Y.V [08]. -/
def CTL_FB_KP_Y_V : Fd := { page := 0xa, off := 0xc4, hi := 31, lo := 0, acc := .RW, cls := .B, reset := 1028443341, chk := (.f 0x0 0x41200000 false false) }
/-- CTL_FB_KP_N.V [08]. -/
def CTL_FB_KP_N_V : Fd := { page := 0xa, off := 0xc8, hi := 31, lo := 0, acc := .RW, cls := .B, reset := 1073741824, chk := (.f 0x0 0x42c80000 false false) }
/-- CTL_FB_KD_X.V [08]. -/
def CTL_FB_KD_X_V : Fd := { page := 0xa, off := 0xcc, hi := 31, lo := 0, acc := .RW, cls := .B, reset := 1056964608, chk := (.f 0x0 0x42c80000 false false) }
/-- CTL_FB_KD_Y.V [08]. -/
def CTL_FB_KD_Y_V : Fd := { page := 0xa, off := 0xd0, hi := 31, lo := 0, acc := .RW, cls := .B, reset := 1056964608, chk := (.f 0x0 0x42c80000 false false) }
/-- CTL_FB_KD_N.V [08]. -/
def CTL_FB_KD_N_V : Fd := { page := 0xa, off := 0xd4, hi := 31, lo := 0, acc := .RW, cls := .B, reset := 1101004800, chk := (.f 0x0 0x447a0000 false false) }
/-- CTL_FB_KI_X.V [08]. -/
def CTL_FB_KI_X_V : Fd := { page := 0xa, off := 0xd8, hi := 31, lo := 0, acc := .RW, cls := .B, reset := 981668463, chk := (.f 0x0 0x3f800000 false false) }
/-- CTL_FB_KI_Y.V [08]. -/
def CTL_FB_KI_Y_V : Fd := { page := 0xa, off := 0xdc, hi := 31, lo := 0, acc := .RW, cls := .B, reset := 981668463, chk := (.f 0x0 0x3f800000 false false) }
/-- CTL_FB_KI_N.V [08]. -/
def CTL_FB_KI_N_V : Fd := { page := 0xa, off := 0xe0, hi := 31, lo := 0, acc := .RW, cls := .B, reset := 1008981770, chk := (.f 0x0 0x41200000 false false) }
/-- CTL_FB_ILIM.V [08]. -/
def CTL_FB_ILIM_V : Fd := { page := 0xa, off := 0xe4, hi := 31, lo := 0, acc := .RW, cls := .B, reset := 1050253722, chk := (.f 0x0 0x3f800000 false false) }
/-- CTL_ERR_ALONG.V [08]. -/
def CTL_ERR_ALONG_V : Fd := { page := 0xa, off := 0x100, hi := 31, lo := 0, acc := .RO, cls := .RO, reset := 0 }
/-- CTL_ERR_ACROSS.V [08]. -/
def CTL_ERR_ACROSS_V : Fd := { page := 0xa, off := 0x104, hi := 31, lo := 0, acc := .RO, cls := .RO, reset := 0 }
/-- CTL_ERR_HDG_NOW.V [08]. -/
def CTL_ERR_HDG_NOW_V : Fd := { page := 0xa, off := 0x108, hi := 31, lo := 0, acc := .RO, cls := .RO, reset := 0 }
/-- CTL_TAU_X.V [08]. -/
def CTL_TAU_X_V : Fd := { page := 0xa, off := 0x10c, hi := 31, lo := 0, acc := .RO, cls := .RO, reset := 0 }
/-- CTL_TAU_Y.V [08]. -/
def CTL_TAU_Y_V : Fd := { page := 0xa, off := 0x110, hi := 31, lo := 0, acc := .RO, cls := .RO, reset := 0 }
/-- CTL_TAU_N.V [08]. -/
def CTL_TAU_N_V : Fd := { page := 0xa, off := 0x114, hi := 31, lo := 0, acc := .RO, cls := .RO, reset := 0 }
/-- CTL_FB_CNT.ENTRIES [08]. -/
def CTL_FB_CNT_ENTRIES : Fd := { page := 0xa, off := 0x118, hi := 15, lo := 0, acc := .RO, cls := .RO, reset := 0 }
/-- CTL_FB_CNT.SHIFTED [08]. -/
def CTL_FB_CNT_SHIFTED : Fd := { page := 0xa, off := 0x118, hi := 31, lo := 16, acc := .RO, cls := .RO, reset := 0 }
/-- ALC_THR_SEL.THR [08]. -/
def ALC_THR_SEL_THR : Fd := { page := 0xb, off := 0x40, hi := 3, lo := 0, acc := .RW, cls := .L, reset := 0, grd := .max 7 }
/-- ALC_THR_CTL.EN [08]. -/
def ALC_THR_CTL_EN : Fd := { page := 0xb, off := 0x44, hi := 0, lo := 0, acc := .RW, cls := .B, reset := 1, n1 := 16 }
/-- ALC_THR_CTL.MODEL [08]. -/
def ALC_THR_CTL_MODEL : Fd := { page := 0xb, off := 0x44, hi := 1, lo := 1, acc := .RW, cls := .B, reset := 0, n1 := 16 }
/-- ALC_THR_CTL.DEPLOY_EN [08]. -/
def ALC_THR_CTL_DEPLOY_EN : Fd := { page := 0xb, off := 0x44, hi := 2, lo := 2, acc := .RW, cls := .B, reset := 0, n1 := 16 }
/-- ALC_THR_CTL.DEPLOY_DIN [08]. -/
def ALC_THR_CTL_DEPLOY_DIN : Fd := { page := 0xb, off := 0x44, hi := 7, lo := 3, acc := .RW, cls := .B, reset := 0, n1 := 16 }
/-- ALC_THR_CTL.READY_SRC [08]. -/
def ALC_THR_CTL_READY_SRC : Fd := { page := 0xb, off := 0x44, hi := 9, lo := 8, acc := .RW, cls := .B, reset := 0, n1 := 16, chk := (.u 0 2) }
/-- ALC_THR_CTL.READY_DIN [08]. -/
def ALC_THR_CTL_READY_DIN : Fd := { page := 0xb, off := 0x44, hi := 14, lo := 10, acc := .RW, cls := .B, reset := 0, n1 := 16 }
/-- ALC_THR_W.V [08]. -/
def ALC_THR_W_V : Fd := { page := 0xb, off := 0x48, hi := 31, lo := 0, acc := .RW, cls := .B, reset := 1065353216, n1 := 16, chk := (.f 0x3dcccccd 0x42c80000 false false) }
/-- ALC_THR_DERATE.V [08]. -/
def ALC_THR_DERATE_V : Fd := { page := 0xb, off := 0x4c, hi := 31, lo := 0, acc := .RW, cls := .B, reset := 1065353216, n1 := 16, chk := (.f 0x0 0x3f800000 false false) }
/-- ALC_THR_K_POS.V [08]. -/
def ALC_THR_K_POS_V : Fd := { page := 0xb, off := 0x50, hi := 31, lo := 0, acc := .RW, cls := .B, reset := 0, n1 := 16, chk := .fin }
/-- ALC_THR_K_NEG.V [08]. -/
def ALC_THR_K_NEG_V : Fd := { page := 0xb, off := 0x54, hi := 31, lo := 0, acc := .RW, cls := .B, reset := 0, n1 := 16, chk := .fin }
/-- ALC_THR_N_CONST.V [08]. -/
def ALC_THR_N_CONST_V : Fd := { page := 0xb, off := 0x58, hi := 31, lo := 0, acc := .RW, cls := .B, reset := 0, n1 := 16, chk := .fin }
/-- ALC_THR_F_RATE.V [08]. -/
def ALC_THR_F_RATE_V : Fd := { page := 0xb, off := 0x5c, hi := 31, lo := 0, acc := .RW, cls := .B, reset := 1045220557, n1 := 16, chk := (.f 0x3c23d70a 0x41200000 false false) }
/-- ALC_THR_RUD.V [08]. -/
def ALC_THR_RUD_V : Fd := { page := 0xb, off := 0x60, hi := 31, lo := 0, acc := .RW, cls := .B, reset := 1053609165, n1 := 16, chk := (.f 0x3d4ccccd 0x3f800000 false false) }
/-- ALC_THR_RUD_MAX.V [08]. -/
def ALC_THR_RUD_MAX_V : Fd := { page := 0xb, off := 0x64, hi := 31, lo := 0, acc := .RW, cls := .B, reset := 1058642330, n1 := 16, chk := (.f 0x3dcccccd 0x3f800000 false false) }
/-- ALC_THR_STAT.AVAIL [08]. -/
def ALC_THR_STAT_AVAIL : Fd := { page := 0xb, off := 0x68, hi := 0, lo := 0, acc := .RO, cls := .RO, reset := 0, n1 := 16 }
/-- ALC_THR_STAT.LOST_CAUSE [08]. -/
def ALC_THR_STAT_LOST_CAUSE : Fd := { page := 0xb, off := 0x68, hi := 3, lo := 1, acc := .RO, cls := .RO, reset := 0, n1 := 16 }
/-- ALC_THR_STAT.RECOVERING [08]. -/
def ALC_THR_STAT_RECOVERING : Fd := { page := 0xb, off := 0x68, hi := 4, lo := 4, acc := .RO, cls := .RO, reset := 0, n1 := 16 }
/-- ALC_THR_STAT.SAT [08]. -/
def ALC_THR_STAT_SAT : Fd := { page := 0xb, off := 0x68, hi := 5, lo := 5, acc := .RO, cls := .RO, reset := 0, n1 := 16 }
/-- ALC_THR_STAT.SECTOR [08]. -/
def ALC_THR_STAT_SECTOR : Fd := { page := 0xb, off := 0x68, hi := 6, lo := 6, acc := .RO, cls := .RO, reset := 0, n1 := 16 }
/-- ALC_THR_STAT.AHEAD [08]. -/
def ALC_THR_STAT_AHEAD : Fd := { page := 0xb, off := 0x68, hi := 7, lo := 7, acc := .RO, cls := .RO, reset := 0, n1 := 16 }
/-- ALC_THR_FX.V [08]. -/
def ALC_THR_FX_V : Fd := { page := 0xb, off := 0x6c, hi := 31, lo := 0, acc := .RO, cls := .RO, reset := 0, n1 := 16 }
/-- ALC_THR_FY.V [08]. -/
def ALC_THR_FY_V : Fd := { page := 0xb, off := 0x70, hi := 31, lo := 0, acc := .RO, cls := .RO, reset := 0, n1 := 16 }
/-- ALC_THR_AZ.V [08]. -/
def ALC_THR_AZ_V : Fd := { page := 0xb, off := 0x74, hi := 31, lo := 0, acc := .RO, cls := .RO, reset := 0, n1 := 16 }
/-- ALC_MASK.AVAIL [08]. -/
def ALC_MASK_AVAIL : Fd := { page := 0xb, off := 0x80, hi := 15, lo := 0, acc := .RO, cls := .RO, reset := 0 }
/-- ALC_STAT.NO_SPAN [08]. -/
def ALC_STAT_NO_SPAN : Fd := { page := 0xb, off := 0x84, hi := 0, lo := 0, acc := .RO, cls := .RO, reset := 0 }
/-- ALC_STAT.LOSSES [08]. -/
def ALC_STAT_LOSSES : Fd := { page := 0xb, off := 0x84, hi := 31, lo := 16, acc := .RO, cls := .RO, reset := 0 }
/-- ALC_SPAN_TOL.V [08]. -/
def ALC_SPAN_TOL_V : Fd := { page := 0xb, off := 0x88, hi := 31, lo := 0, acc := .RW, cls := .B, reset := 1036831949, chk := (.f 0x3c23d70a 0x3f000000 false false) }
/-- ALC_F_DEAD.V [08]. -/
def ALC_F_DEAD_V : Fd := { page := 0xb, off := 0x8c, hi := 31, lo := 0, acc := .RW, cls := .B, reset := 1148846080, chk := (.f 0x0 0x47c35000 false false) }
/-- ALC_RECOVER.TIME [08]. -/
def ALC_RECOVER_TIME : Fd := { page := 0xb, off := 0x90, hi := 7, lo := 0, acc := .RW, cls := .B, reset := 10, chk := (.u 1 255) }
/-- ALC_AVAIL_X.V [08]. -/
def ALC_AVAIL_X_V : Fd := { page := 0xb, off := 0xa0, hi := 31, lo := 0, acc := .RO, cls := .RO, reset := 0 }
/-- ALC_AVAIL_Y.V [08]. -/
def ALC_AVAIL_Y_V : Fd := { page := 0xb, off := 0xa4, hi := 31, lo := 0, acc := .RO, cls := .RO, reset := 0 }
/-- ALC_AVAIL_N.V [08]. -/
def ALC_AVAIL_N_V : Fd := { page := 0xb, off := 0xa8, hi := 31, lo := 0, acc := .RO, cls := .RO, reset := 0 }
/-- ALC_SIGMA_MIN.V [08]. -/
def ALC_SIGMA_MIN_V : Fd := { page := 0xb, off := 0xac, hi := 31, lo := 0, acc := .RO, cls := .RO, reset := 0 }
/-- GNS0_RX_CFG.GPS_EN [04]. -/
def GNS0_RX_CFG_GPS_EN : Fd := { page := 0xc, off := 0x40, hi := 0, lo := 0, acc := .RW, cls := .B, reset := 1 }
/-- GNS0_RX_CFG.GAL_EN [04]. -/
def GNS0_RX_CFG_GAL_EN : Fd := { page := 0xc, off := 0x40, hi := 1, lo := 1, acc := .RW, cls := .B, reset := 1 }
/-- GNS0_RX_CFG.BDS_EN [04]. -/
def GNS0_RX_CFG_BDS_EN : Fd := { page := 0xc, off := 0x40, hi := 2, lo := 2, acc := .RW, cls := .B, reset := 1 }
/-- GNS0_RX_CFG.GLO_EN [04]. -/
def GNS0_RX_CFG_GLO_EN : Fd := { page := 0xc, off := 0x40, hi := 3, lo := 3, acc := .RW, cls := .B, reset := 1 }
/-- GNS0_RX_CFG.QZS_EN [04]. -/
def GNS0_RX_CFG_QZS_EN : Fd := { page := 0xc, off := 0x40, hi := 4, lo := 4, acc := .RW, cls := .B, reset := 1 }
/-- GNS0_RX_CFG.SBAS_EN [04]. -/
def GNS0_RX_CFG_SBAS_EN : Fd := { page := 0xc, off := 0x40, hi := 5, lo := 5, acc := .RW, cls := .B, reset := 1 }
/-- GNS0_RX_CFG.UP_PLAN [04]. -/
def GNS0_RX_CFG_UP_PLAN : Fd := { page := 0xc, off := 0x40, hi := 8, lo := 8, acc := .RW, cls := .S, reset := 0 }
/-- GNS0_RX_CFG.ANT_B_EN [04]. -/
def GNS0_RX_CFG_ANT_B_EN : Fd := { page := 0xc, off := 0x40, hi := 9, lo := 9, acc := .RW, cls := .S, reset := 1, grd := .max 0 }
/-- GNS0_RX_CFG.LO_BAND_EN [04]. -/
def GNS0_RX_CFG_LO_BAND_EN : Fd := { page := 0xc, off := 0x40, hi := 10, lo := 10, acc := .RW, cls := .S, reset := 1 }
/-- GNS0_RX_CFG.XTRK_EN [04]. -/
def GNS0_RX_CFG_XTRK_EN : Fd := { page := 0xc, off := 0x40, hi := 11, lo := 11, acc := .RW, cls := .B, reset := 1 }
/-- GNS0_SIG_EN.SIG [04]. -/
def GNS0_SIG_EN_SIG : Fd := { page := 0xc, off := 0x44, hi := 11, lo := 0, acc := .RW, cls := .B, reset := 4095 }
/-- GNS0_ACQ_CFG.BANK_USE [04]. -/
def GNS0_ACQ_CFG_BANK_USE : Fd := { page := 0xc, off := 0x48, hi := 0, lo := 0, acc := .RW, cls := .B, reset := 1 }
/-- GNS0_ACQ_CFG.PFA_EXP [04]. -/
def GNS0_ACQ_CFG_PFA_EXP : Fd := { page := 0xc, off := 0x48, hi := 3, lo := 1, acc := .RW, cls := .B, reset := 6, chk := (.u 3 7) }
/-- GNS0_ACQ_CFG.DOPP_SPAN [04]. -/
def GNS0_ACQ_CFG_DOPP_SPAN : Fd := { page := 0xc, off := 0x48, hi := 7, lo := 4, acc := .RW, cls := .B, reset := 5, chk := (.u 5 15) }
/-- GNS0_ACQ_CFG.DWELL_BANK [04]. -/
def GNS0_ACQ_CFG_DWELL_BANK : Fd := { page := 0xc, off := 0x48, hi := 15, lo := 8, acc := .RW, cls := .B, reset := 200, chk := (.u 4 200) }
/-- GNS0_ACQ_CFG.DWELL_SER [04]. -/
def GNS0_ACQ_CFG_DWELL_SER : Fd := { page := 0xc, off := 0x48, hi := 20, lo := 16, acc := .RW, cls := .B, reset := 20, chk := (.u 2 20) }
/-- GNS0_ACQ_STAT.ENGINE [04]. -/
def GNS0_ACQ_STAT_ENGINE : Fd := { page := 0xc, off := 0x4c, hi := 0, lo := 0, acc := .RO, cls := .RO, reset := 0 }
/-- GNS0_ACQ_STAT.BANK_FAULT [04]. -/
def GNS0_ACQ_STAT_BANK_FAULT : Fd := { page := 0xc, off := 0x4c, hi := 1, lo := 1, acc := .RO, cls := .RO, reset := 0 }
/-- GNS0_ACQ_STAT.BANK_OFF [04]. -/
def GNS0_ACQ_STAT_BANK_OFF : Fd := { page := 0xc, off := 0x4c, hi := 2, lo := 2, acc := .RO, cls := .RO, reset := 0 }
/-- GNS0_ACQ_STAT.QUEUE [04]. -/
def GNS0_ACQ_STAT_QUEUE : Fd := { page := 0xc, off := 0x4c, hi := 15, lo := 8, acc := .RO, cls := .RO, reset := 0 }
/-- GNS0_ACQ_STAT.DETECTS [04]. -/
def GNS0_ACQ_STAT_DETECTS : Fd := { page := 0xc, off := 0x4c, hi := 31, lo := 16, acc := .RO, cls := .RO, reset := 0 }
/-- GNS0_TRK_CFG.PLL_BW [04]. -/
def GNS0_TRK_CFG_PLL_BW : Fd := { page := 0xc, off := 0x50, hi := 5, lo := 0, acc := .RW, cls := .B, reset := 15, chk := (.u 2 40) }
/-- GNS0_TRK_CFG.FLL_BW [04]. -/
def GNS0_TRK_CFG_FLL_BW : Fd := { page := 0xc, off := 0x50, hi := 11, lo := 6, acc := .RW, cls := .B, reset := 10, chk := (.u 1 40) }
/-- GNS0_TRK_CFG.DLL_BW [04]. -/
def GNS0_TRK_CFG_DLL_BW : Fd := { page := 0xc, off := 0x50, hi := 18, lo := 12, acc := .RW, cls := .B, reset := 10, chk := (.u 1 100) }
/-- GNS0_TRK_CFG.EL_SPACING [04]. -/
def GNS0_TRK_CFG_EL_SPACING : Fd := { page := 0xc, off := 0x50, hi := 25, lo := 19, acc := .RW, cls := .B, reset := 20, chk := (.u 5 100) }
/-- GNS0_TRK_CFG2.CN0_LOSS_P [04]. -/
def GNS0_TRK_CFG2_CN0_LOSS_P : Fd := { page := 0xc, off := 0x54, hi := 7, lo := 0, acc := .RW, cls := .B, reset := 12, chk := (.u 8 30) }
/-- GNS0_TRK_CFG2.CN0_LOSS_D [04]. -/
def GNS0_TRK_CFG2_CN0_LOSS_D : Fd := { page := 0xc, off := 0x54, hi := 15, lo := 8, acc := .RW, cls := .B, reset := 12, chk := (.u 8 30) }
/-- GNS0_TRK_CFG2.TCOH_PILOT [04]. -/
def GNS0_TRK_CFG2_TCOH_PILOT : Fd := { page := 0xc, off := 0x54, hi := 22, lo := 16, acc := .RW, cls := .B, reset := 20, chk := (.u 1 100) }
/-- GNS0_TRK_CFG2.TCOH_DATA_BIT [04]. -/
def GNS0_TRK_CFG2_TCOH_DATA_BIT : Fd := { page := 0xc, off := 0x54, hi := 23, lo := 23, acc := .RW, cls := .B, reset := 1 }
/-- GNS0_TRK_CFG2.VEVL_SPACING [04]. -/
def GNS0_TRK_CFG2_VEVL_SPACING : Fd := { page := 0xc, off := 0x54, hi := 31, lo := 24, acc := .RW, cls := .B, reset := 100, chk := (.u 20 150) }
/-- GNS0_ELEV_MASK.MASK [04]. -/
def GNS0_ELEV_MASK_MASK : Fd := { page := 0xc, off := 0x58, hi := 31, lo := 0, acc := .RW, cls := .B, reset := 1035122882, chk := (.f 0x0 0x3f060aa6 false false) }
/-- GNS0_PATH_SEL.PATH [04]. -/
def GNS0_PATH_SEL_PATH : Fd := { page := 0xc, off := 0x60, hi := 1, lo := 0, acc := .RW, cls := .L, reset := 0, grd := .max 1 }
/-- GNS0_PATH_SEL.NOTCH [04]. -/
def GNS0_PATH_SEL_NOTCH : Fd := { page := 0xc, off := 0x60, hi := 5, lo := 4, acc := .RW, cls := .L, reset := 0 }
/-- GNS0_AGC_CFG.MODE [04]. -/
def GNS0_AGC_CFG_MODE : Fd := { page := 0xc, off := 0x64, hi := 0, lo := 0, acc := .RW, cls := .B, reset := 0, n1 := 4 }
/-- GNS0_AGC_CFG.FIXED_GAIN [04]. -/
def GNS0_AGC_CFG_FIXED_GAIN : Fd := { page := 0xc, off := 0x64, hi := 14, lo := 8, acc := .RW, cls := .B, reset := 60, n1 := 4, chk := (.u 0 120) }
/-- GNS0_AGC_CFG.TARGET [04]. -/
def GNS0_AGC_CFG_TARGET : Fd := { page := 0xc, off := 0x64, hi := 19, lo := 16, acc := .RW, cls := .B, reset := 10, n1 := 4, chk := (.u 4 15) }
/-- GNS0_AGC_STAT.GAIN [04]. -/
def GNS0_AGC_STAT_GAIN : Fd := { page := 0xc, off := 0x68, hi := 6, lo := 0, acc := .RO, cls := .RO, reset := 0, n1 := 4 }
/-- GNS0_AGC_STAT.CLIP [04]. -/
def GNS0_AGC_STAT_CLIP : Fd := { page := 0xc, off := 0x68, hi := 15, lo := 8, acc := .RO, cls := .RO, reset := 0, n1 := 4 }
/-- GNS0_AGC_STAT.FAULT_OPEN [04]. -/
def GNS0_AGC_STAT_FAULT_OPEN : Fd := { page := 0xc, off := 0x68, hi := 16, lo := 16, acc := .RO, cls := .RO, reset := 0, n1 := 4 }
/-- GNS0_AGC_STAT.FAULT_OVERLOAD [04]. -/
def GNS0_AGC_STAT_FAULT_OVERLOAD : Fd := { page := 0xc, off := 0x68, hi := 17, lo := 17, acc := .RO, cls := .RO, reset := 0, n1 := 4 }
/-- GNS0_AGC_STAT.PATH_FAULT [04]. -/
def GNS0_AGC_STAT_PATH_FAULT : Fd := { page := 0xc, off := 0x68, hi := 18, lo := 18, acc := .RO, cls := .RO, reset := 0, n1 := 4 }
/-- GNS0_JAM.JI [04]. -/
def GNS0_JAM_JI : Fd := { page := 0xc, off := 0x6c, hi := 7, lo := 0, acc := .RO, cls := .RO, reset := 0, n1 := 4 }
/-- GNS0_JAM.DG [04]. -/
def GNS0_JAM_DG : Fd := { page := 0xc, off := 0x6c, hi := 15, lo := 8, acc := .RO, cls := .RO, reset := 0, n1 := 4 }
/-- GNS0_JAM.DN [04]. -/
def GNS0_JAM_DN : Fd := { page := 0xc, off := 0x6c, hi := 23, lo := 16, acc := .RO, cls := .RO, reset := 0, n1 := 4 }
/-- GNS0_JAM.NOTCH_LOSS [04]. -/
def GNS0_JAM_NOTCH_LOSS : Fd := { page := 0xc, off := 0x6c, hi := 31, lo := 24, acc := .RO, cls := .RO, reset := 0, n1 := 4 }
/-- GNS0_JAM_REF.G_REF [04]. -/
def GNS0_JAM_REF_G_REF : Fd := { page := 0xc, off := 0x70, hi := 6, lo := 0, acc := .RW, cls := .B, reset := 0, n1 := 4 }
/-- GNS0_JAM_REF.N_REF [04]. -/
def GNS0_JAM_REF_N_REF : Fd := { page := 0xc, off := 0x70, hi := 15, lo := 8, acc := .RW, cls := .B, reset := 0, n1 := 4 }
/-- GNS0_JAM_REF.CAL [04]. -/
def GNS0_JAM_REF_CAL : Fd := { page := 0xc, off := 0x70, hi := 31, lo := 31, acc := .WO, cls := .L, reset := 0, n1 := 4, act := true }
/-- GNS0_JAM_THR.WARN [04]. -/
def GNS0_JAM_THR_WARN : Fd := { page := 0xc, off := 0x74, hi := 7, lo := 0, acc := .RW, cls := .B, reset := 40, n1 := 4 }
/-- GNS0_JAM_THR.HIGH [04]. -/
def GNS0_JAM_THR_HIGH : Fd := { page := 0xc, off := 0x74, hi := 15, lo := 8, acc := .RW, cls := .B, reset := 100, n1 := 4 }
/-- GNS0_NOTCH_CFG.EN [04]. -/
def GNS0_NOTCH_CFG_EN : Fd := { page := 0xc, off := 0x78, hi := 0, lo := 0, acc := .RW, cls := .B, reset := 1, n1 := 4 }
/-- GNS0_NOTCH_CFG.WIDTH [04]. -/
def GNS0_NOTCH_CFG_WIDTH : Fd := { page := 0xc, off := 0x78, hi := 2, lo := 1, acc := .RW, cls := .B, reset := 1, n1 := 4 }
/-- GNS0_NOTCH_CFG.THR [04]. -/
def GNS0_NOTCH_CFG_THR : Fd := { page := 0xc, off := 0x78, hi := 12, lo := 8, acc := .RW, cls := .B, reset := 12, n1 := 4, chk := (.u 6 30) }
/-- GNS0_NOTCH_CFG.HOLD [04]. -/
def GNS0_NOTCH_CFG_HOLD : Fd := { page := 0xc, off := 0x78, hi := 23, lo := 16, acc := .RW, cls := .B, reset := 10, n1 := 4, chk := (.u 1 255) }
/-- GNS0_NOTCH_STAT.STATE [04]. -/
def GNS0_NOTCH_STAT_STATE : Fd := { page := 0xc, off := 0x7c, hi := 1, lo := 0, acc := .RO, cls := .RO, reset := 0, n1 := 4, n2 := 4 }
/-- GNS0_NOTCH_STAT.DEPTH [04]. -/
def GNS0_NOTCH_STAT_DEPTH : Fd := { page := 0xc, off := 0x7c, hi := 15, lo := 8, acc := .RO, cls := .RO, reset := 0, n1 := 4, n2 := 4 }
/-- GNS0_NOTCH_STAT.FREQ [04]. -/
def GNS0_NOTCH_STAT_FREQ : Fd := { page := 0xc, off := 0x7c, hi := 31, lo := 16, acc := .RO, cls := .RO, reset := 0, n1 := 4, n2 := 4 }
/-- GNS0_CHN_SEL.CHN [04]. -/
def GNS0_CHN_SEL_CHN : Fd := { page := 0xc, off := 0x80, hi := 7, lo := 0, acc := .RW, cls := .L, reset := 0, chk := (.u 0 191), grd := .max 95 }
/-- GNS0_CHN_STAT.STATE [04]. -/
def GNS0_CHN_STAT_STATE : Fd := { page := 0xc, off := 0x84, hi := 2, lo := 0, acc := .RO, cls := .RO, reset := 0, n1 := 192 }
/-- GNS0_CHN_STAT.HALF_CYC [04]. -/
def GNS0_CHN_STAT_HALF_CYC : Fd := { page := 0xc, off := 0x84, hi := 3, lo := 3, acc := .RO, cls := .RO, reset := 0, n1 := 192 }
/-- GNS0_CHN_STAT.SIG [04]. -/
def GNS0_CHN_STAT_SIG : Fd := { page := 0xc, off := 0x84, hi := 7, lo := 4, acc := .RO, cls := .RO, reset := 0, n1 := 192 }
/-- GNS0_CHN_STAT.SV [04]. -/
def GNS0_CHN_STAT_SV : Fd := { page := 0xc, off := 0x84, hi := 15, lo := 8, acc := .RO, cls := .RO, reset := 0, n1 := 192 }
/-- GNS0_CHN_STAT.PATH [04]. -/
def GNS0_CHN_STAT_PATH : Fd := { page := 0xc, off := 0x84, hi := 18, lo := 16, acc := .RO, cls := .RO, reset := 0, n1 := 192 }
/-- GNS0_CHN_STAT.SIDE_PEAK [04]. -/
def GNS0_CHN_STAT_SIDE_PEAK : Fd := { page := 0xc, off := 0x84, hi := 23, lo := 20, acc := .RO, cls := .RO, reset := 0, n1 := 192 }
/-- GNS0_CHN_STAT.SLIPS [04]. -/
def GNS0_CHN_STAT_SLIPS : Fd := { page := 0xc, off := 0x84, hi := 31, lo := 24, acc := .RO, cls := .RO, reset := 0, n1 := 192 }
/-- GNS0_CHN_CN0.CN0 [04]. -/
def GNS0_CHN_CN0_CN0 : Fd := { page := 0xc, off := 0x88, hi := 9, lo := 0, acc := .RO, cls := .RO, reset := 0, n1 := 192 }
/-- GNS0_CHN_DOPP.DOPP [04]. -/
def GNS0_CHN_DOPP_DOPP : Fd := { page := 0xc, off := 0x8c, hi := 31, lo := 0, acc := .RO, cls := .RO, reset := 0, n1 := 192 }
/-- GNS0_CHN_COUNT.TRACKING [04]. -/
def GNS0_CHN_COUNT_TRACKING : Fd := { page := 0xc, off := 0x90, hi := 7, lo := 0, acc := .RO, cls := .RO, reset := 0 }
/-- GNS0_CHN_COUNT.PARTNER [04]. -/
def GNS0_CHN_COUNT_PARTNER : Fd := { page := 0xc, off := 0x90, hi := 15, lo := 8, acc := .RO, cls := .RO, reset := 0 }
/-- GNS0_CHN_COUNT.FREE [04]. -/
def GNS0_CHN_COUNT_FREE : Fd := { page := 0xc, off := 0x90, hi := 23, lo := 16, acc := .RO, cls := .RO, reset := 0 }
/-- GNS0_XTRK_STAT.RX_ACTIVE [04]. -/
def GNS0_XTRK_STAT_RX_ACTIVE : Fd := { page := 0xc, off := 0x94, hi := 0, lo := 0, acc := .RO, cls := .RO, reset := 0 }
/-- GNS0_XTRK_STAT.TX_ACTIVE [04]. -/
def GNS0_XTRK_STAT_TX_ACTIVE : Fd := { page := 0xc, off := 0x94, hi := 1, lo := 1, acc := .RO, cls := .RO, reset := 0 }
/-- GNS0_XTRK_STAT.GAP [04]. -/
def GNS0_XTRK_STAT_GAP : Fd := { page := 0xc, off := 0x94, hi := 15, lo := 8, acc := .RO, cls := .RO, reset := 0 }
/-- GNS0_XTRK_STAT.BLOCK_ERR [04]. -/
def GNS0_XTRK_STAT_BLOCK_ERR : Fd := { page := 0xc, off := 0x94, hi := 31, lo := 16, acc := .RO, cls := .RO, reset := 0 }
/-- GNS1_SOL_CFG.RATE [05]. -/
def GNS1_SOL_CFG_RATE : Fd := { page := 0xd, off := 0x40, hi := 2, lo := 0, acc := .RW, cls := .B, reset := 3, chk := (.u 0 4) }
/-- GNS1_SOL_CFG.DUAL_FREQ [05]. -/
def GNS1_SOL_CFG_DUAL_FREQ : Fd := { page := 0xd, off := 0x40, hi := 3, lo := 3, acc := .RW, cls := .B, reset := 1 }
/-- GNS1_SOL_CFG.SBAS_CORR [05]. -/
def GNS1_SOL_CFG_SBAS_CORR : Fd := { page := 0xd, off := 0x40, hi := 4, lo := 4, acc := .RW, cls := .B, reset := 1 }
/-- GNS1_SOL_CFG.ISB_PRIOR_USE [05]. -/
def GNS1_SOL_CFG_ISB_PRIOR_USE : Fd := { page := 0xd, off := 0x40, hi := 5, lo := 5, acc := .RW, cls := .B, reset := 1 }
/-- GNS1_SOL_CFG.XTRK_USE [05]. -/
def GNS1_SOL_CFG_XTRK_USE : Fd := { page := 0xd, off := 0x40, hi := 6, lo := 6, acc := .RW, cls := .B, reset := 1 }
/-- GNS1_SOL_CFG.RESID_THR [05]. -/
def GNS1_SOL_CFG_RESID_THR : Fd := { page := 0xd, off := 0x40, hi := 15, lo := 8, acc := .RW, cls := .B, reset := 50, chk := (.u 20 100) }
/-- GNS1_SOL_CFG.MAX_EXCL [05]. -/
def GNS1_SOL_CFG_MAX_EXCL : Fd := { page := 0xd, off := 0x40, hi := 18, lo := 16, acc := .RW, cls := .B, reset := 3, chk := (.u 0 5) }
/-- GNS1_RTK_CFG.RTK_EN [05]. -/
def GNS1_RTK_CFG_RTK_EN : Fd := { page := 0xd, off := 0x44, hi := 0, lo := 0, acc := .RW, cls := .B, reset := 0 }
/-- GNS1_RTK_CFG.PORT_KIND [05]. -/
def GNS1_RTK_CFG_PORT_KIND : Fd := { page := 0xd, off := 0x44, hi := 1, lo := 1, acc := .RW, cls := .B, reset := 0 }
/-- GNS1_RTK_CFG.PORT [05]. -/
def GNS1_RTK_CFG_PORT : Fd := { page := 0xd, off := 0x44, hi := 5, lo := 2, acc := .RW, cls := .B, reset := 0, chk := (.u 0 11) }
/-- GNS1_RTK_CFG.AGE_MAX [05]. -/
def GNS1_RTK_CFG_AGE_MAX : Fd := { page := 0xd, off := 0x44, hi := 11, lo := 6, acc := .RW, cls := .B, reset := 10, chk := (.u 1 60) }
/-- GNS1_RTK_CFG.RATIO_THR [05]. -/
def GNS1_RTK_CFG_RATIO_THR : Fd := { page := 0xd, off := 0x44, hi := 19, lo := 12, acc := .RW, cls := .B, reset := 30, chk := (.u 15 100) }
/-- GNS1_RTK_CFG.STATION [05]. -/
def GNS1_RTK_CFG_STATION : Fd := { page := 0xd, off := 0x44, hi := 31, lo := 20, acc := .RW, cls := .B, reset := 4095 }
/-- GNS1_RTK_UDP.UDP_PORT [05]. -/
def GNS1_RTK_UDP_UDP_PORT : Fd := { page := 0xd, off := 0x48, hi := 15, lo := 0, acc := .RW, cls := .B, reset := 0 }
/-- GNS1_RTK_STAT.STATION [05]. -/
def GNS1_RTK_STAT_STATION : Fd := { page := 0xd, off := 0x4c, hi := 11, lo := 0, acc := .RO, cls := .RO, reset := 0 }
/-- GNS1_RTK_STAT.AGE [05]. -/
def GNS1_RTK_STAT_AGE : Fd := { page := 0xd, off := 0x4c, hi := 23, lo := 12, acc := .RO, cls := .RO, reset := 0 }
/-- GNS1_RTK_STAT.FIX [05]. -/
def GNS1_RTK_STAT_FIX : Fd := { page := 0xd, off := 0x4c, hi := 25, lo := 24, acc := .RO, cls := .RO, reset := 0 }
/-- GNS1_RTCM_CNT.ACCEPTED [05]. -/
def GNS1_RTCM_CNT_ACCEPTED : Fd := { page := 0xd, off := 0x50, hi := 15, lo := 0, acc := .RO, cls := .RO, reset := 0 }
/-- GNS1_RTCM_CNT.IGNORED [05]. -/
def GNS1_RTCM_CNT_IGNORED : Fd := { page := 0xd, off := 0x50, hi := 31, lo := 16, acc := .RO, cls := .RO, reset := 0 }
/-- GNS1_RTCM_ERR.CRC_FAIL [05]. -/
def GNS1_RTCM_ERR_CRC_FAIL : Fd := { page := 0xd, off := 0x54, hi := 15, lo := 0, acc := .RO, cls := .RO, reset := 0 }
/-- GNS1_HDG_CFG.ATT_EN [05]. -/
def GNS1_HDG_CFG_ATT_EN : Fd := { page := 0xd, off := 0x58, hi := 0, lo := 0, acc := .RW, cls := .B, reset := 1 }
/-- GNS1_HDG_CFG.BASE_TOL [05]. -/
def GNS1_HDG_CFG_BASE_TOL : Fd := { page := 0xd, off := 0x58, hi := 15, lo := 8, acc := .RW, cls := .B, reset := 5, chk := (.u 1 50) }
/-- GNS1_HDG_CFG.FIX_MIN_SV [05]. -/
def GNS1_HDG_CFG_FIX_MIN_SV : Fd := { page := 0xd, off := 0x58, hi := 19, lo := 16, acc := .RW, cls := .B, reset := 5, chk := (.u 4 10) }
/-- GNS1_ATT_STAT.MODE [05]. -/
def GNS1_ATT_STAT_MODE : Fd := { page := 0xd, off := 0x5c, hi := 1, lo := 0, acc := .RO, cls := .RO, reset := 0 }
/-- GNS1_ATT_STAT.BASE_FAIL [05]. -/
def GNS1_ATT_STAT_BASE_FAIL : Fd := { page := 0xd, off := 0x5c, hi := 3, lo := 3, acc := .RO, cls := .RO, reset := 0 }
/-- GNS1_ATT_STAT.ANTS [05]. -/
def GNS1_ATT_STAT_ANTS : Fd := { page := 0xd, off := 0x5c, hi := 7, lo := 4, acc := .RO, cls := .RO, reset := 0 }
/-- GNS1_ATT_STAT.NSV [05]. -/
def GNS1_ATT_STAT_NSV : Fd := { page := 0xd, off := 0x5c, hi := 15, lo := 8, acc := .RO, cls := .RO, reset := 0 }
/-- GNS1_SOL_STAT.TYPE [05]. -/
def GNS1_SOL_STAT_TYPE : Fd := { page := 0xd, off := 0x60, hi := 2, lo := 0, acc := .RO, cls := .RO, reset := 0 }
/-- GNS1_SOL_STAT.ANT [05]. -/
def GNS1_SOL_STAT_ANT : Fd := { page := 0xd, off := 0x60, hi := 4, lo := 3, acc := .RO, cls := .RO, reset := 0 }
/-- GNS1_SOL_STAT.NSV [05]. -/
def GNS1_SOL_STAT_NSV : Fd := { page := 0xd, off := 0x60, hi := 15, lo := 8, acc := .RO, cls := .RO, reset := 0 }
/-- GNS1_SOL_STAT.EXCL [05]. -/
def GNS1_SOL_STAT_EXCL : Fd := { page := 0xd, off := 0x60, hi := 23, lo := 16, acc := .RO, cls := .RO, reset := 0 }
/-- GNS1_ISB_SEL.SYS [05]. -/
def GNS1_ISB_SEL_SYS : Fd := { page := 0xd, off := 0x68, hi := 2, lo := 0, acc := .RW, cls := .L, reset := 1, chk := (.u 1 4) }
/-- GNS1_ISB_SEL.ESTIMATED [05]. -/
def GNS1_ISB_SEL_ESTIMATED : Fd := { page := 0xd, off := 0x68, hi := 3, lo := 3, acc := .RO, cls := .RO, reset := 0 }
/-- GNS1_ISB_SEL.BCAST_VALID [05]. -/
def GNS1_ISB_SEL_BCAST_VALID : Fd := { page := 0xd, off := 0x68, hi := 4, lo := 4, acc := .RO, cls := .RO, reset := 0 }
/-- GNS1_ISB.V [05]. -/
def GNS1_ISB_V : Fd := { page := 0xd, off := 0x6c, hi := 31, lo := 0, acc := .RO, cls := .RO, reset := 0, n1 := 5 }
/-- GNS1_ISB_BCAST.V [05]. -/
def GNS1_ISB_BCAST_V : Fd := { page := 0xd, off := 0x70, hi := 31, lo := 0, acc := .RO, cls := .RO, reset := 0, n1 := 5 }
/-- GNS1_ISB_SIGMA.SIGMA [05]. -/
def GNS1_ISB_SIGMA_SIGMA : Fd := { page := 0xd, off := 0x74, hi := 15, lo := 0, acc := .RW, cls := .B, reset := 10, chk := (.u 1 10000) }
/-- GNS1_POS_REC.W [05]. -/
def GNS1_POS_REC_W : Fd := { page := 0xd, off := 0x100, hi := 31, lo := 0, acc := .RO, cls := .RO, reset := 0, cnt := 16, stride := 4 }
/-- GNS1_ATT_REC.W [05]. -/
def GNS1_ATT_REC_W : Fd := { page := 0xd, off := 0x140, hi := 31, lo := 0, acc := .RO, cls := .RO, reset := 0, cnt := 16, stride := 4 }
/-- GNS2_PPS_CFG.MODE [05]. -/
def GNS2_PPS_CFG_MODE : Fd := { page := 0xe, off := 0x40, hi := 1, lo := 0, acc := .RW, cls := .B, reset := 1, chk := (.u 0 2) }
/-- GNS2_PPS_CFG.POL [05]. -/
def GNS2_PPS_CFG_POL : Fd := { page := 0xe, off := 0x40, hi := 2, lo := 2, acc := .RW, cls := .B, reset := 0 }
/-- GNS2_PPS_CFG.WIDTH [05]. -/
def GNS2_PPS_CFG_WIDTH : Fd := { page := 0xe, off := 0x40, hi := 26, lo := 8, acc := .RW, cls := .B, reset := 100000, chk := (.u 1 500000) }
/-- GNS2_PPS_ADV.ADV [05]. -/
def GNS2_PPS_ADV_ADV : Fd := { page := 0xe, off := 0x44, hi := 31, lo := 0, acc := .RW, cls := .B, reset := 0, chk := (.s (-100000) 100000) }
/-- GNS2_ANT_DELAY.DELAY_U0A [05]. -/
def GNS2_ANT_DELAY_DELAY_U0A : Fd := { page := 0xe, off := 0x48, hi := 15, lo := 0, acc := .RW, cls := .B, reset := 0, chk := (.u 0 10000) }
/-- GNS2_ANT_DELAY.DELAY_U0B [05]. -/
def GNS2_ANT_DELAY_DELAY_U0B : Fd := { page := 0xe, off := 0x48, hi := 31, lo := 16, acc := .RW, cls := .B, reset := 0, chk := (.u 0 10000), grd := .max 0 }
/-- GNS2_TIME_CFG.STEP_INHIBIT [05]. -/
def GNS2_TIME_CFG_STEP_INHIBIT : Fd := { page := 0xe, off := 0x4c, hi := 0, lo := 0, acc := .RW, cls := .B, reset := 0 }
/-- GNS2_TIME_CFG.HOLD_DELAY [05]. -/
def GNS2_TIME_CFG_HOLD_DELAY : Fd := { page := 0xe, off := 0x4c, hi := 11, lo := 8, acc := .RW, cls := .B, reset := 1, chk := (.u 1 10) }
/-- GNS2_HOLD_LIMIT.LIMIT [05]. -/
def GNS2_HOLD_LIMIT_LIMIT : Fd := { page := 0xe, off := 0x50, hi := 31, lo := 0, acc := .RW, cls := .B, reset := 10000, chk := (.u 100 10000000) }
/-- GNS2_OSC_U0.V [05]. -/
def GNS2_OSC_U0_V : Fd := { page := 0xe, off := 0x54, hi := 31, lo := 0, acc := .RW, cls := .B, reset := 1065353216, chk := (.f 0x3c23d70a 0x447a0000 false false) }
/-- GNS2_OSC_DRIFT.V [05]. -/
def GNS2_OSC_DRIFT_V : Fd := { page := 0xe, off := 0x58, hi := 31, lo := 0, acc := .RW, cls := .B, reset := 1065353216, chk := (.f 0x3a83126f 0x447a0000 false false) }
/-- GNS2_TIME_STAT.STATE [05]. -/
def GNS2_TIME_STAT_STATE : Fd := { page := 0xe, off := 0x5c, hi := 1, lo := 0, acc := .RO, cls := .RO, reset := 0 }
/-- GNS2_TIME_STAT.STEP_PENDING [05]. -/
def GNS2_TIME_STAT_STEP_PENDING : Fd := { page := 0xe, off := 0x5c, hi := 2, lo := 2, acc := .RO, cls := .RO, reset := 0 }
/-- GNS2_TIME_STAT.LIMIT_PASSED [05]. -/
def GNS2_TIME_STAT_LIMIT_PASSED : Fd := { page := 0xe, off := 0x5c, hi := 3, lo := 3, acc := .RO, cls := .RO, reset := 0 }
/-- GNS2_EST_ERR.V [05]. -/
def GNS2_EST_ERR_V : Fd := { page := 0xe, off := 0x60, hi := 31, lo := 0, acc := .RO, cls := .RO, reset := 0 }
/-- GNS2_OFFSET.V [05]. -/
def GNS2_OFFSET_V : Fd := { page := 0xe, off := 0x64, hi := 31, lo := 0, acc := .RO, cls := .RO, reset := 0 }
/-- GNS2_HOLD_START_LO.V [05]. -/
def GNS2_HOLD_START_LO_V : Fd := { page := 0xe, off := 0x68, hi := 31, lo := 0, acc := .RO, cls := .RO, reset := 0 }
/-- GNS2_HOLD_START_HI.V [05]. -/
def GNS2_HOLD_START_HI_V : Fd := { page := 0xe, off := 0x6c, hi := 31, lo := 0, acc := .RO, cls := .RO, reset := 0 }
/-- GNS2_TP_MSG.W [05]. -/
def GNS2_TP_MSG_W : Fd := { page := 0xe, off := 0x80, hi := 31, lo := 0, acc := .RO, cls := .RO, reset := 0, cnt := 8, stride := 4 }
/-- GNS2_KEEP_STAT.ALM [05]. -/
def GNS2_KEEP_STAT_ALM : Fd := { page := 0xe, off := 0xa0, hi := 0, lo := 0, acc := .RO, cls := .RO, reset := 0 }
/-- GNS2_KEEP_STAT.EPH [05]. -/
def GNS2_KEEP_STAT_EPH : Fd := { page := 0xe, off := 0xa0, hi := 1, lo := 1, acc := .RO, cls := .RO, reset := 0 }
/-- GNS2_KEEP_STAT.POS [05]. -/
def GNS2_KEEP_STAT_POS : Fd := { page := 0xe, off := 0xa0, hi := 2, lo := 2, acc := .RO, cls := .RO, reset := 0 }
/-- GNS2_KEEP_STAT.TIME [05]. -/
def GNS2_KEEP_STAT_TIME : Fd := { page := 0xe, off := 0xa0, hi := 3, lo := 3, acc := .RO, cls := .RO, reset := 0 }
/-- GNS2_KEEP_STAT.EPH_COUNT [05]. -/
def GNS2_KEEP_STAT_EPH_COUNT : Fd := { page := 0xe, off := 0xa0, hi := 15, lo := 8, acc := .RO, cls := .RO, reset := 0 }
/-- GNS2_KEEP_STAT.AGE [05]. -/
def GNS2_KEEP_STAT_AGE : Fd := { page := 0xe, off := 0xa0, hi := 31, lo := 16, acc := .RO, cls := .RO, reset := 0 }
/-- GNS2_UTC.TAI_UTC [05]. -/
def GNS2_UTC_TAI_UTC : Fd := { page := 0xe, off := 0xa4, hi := 15, lo := 0, acc := .RO, cls := .RO, reset := 0 }
/-- GNS2_UTC.LEAP_PENDING [05]. -/
def GNS2_UTC_LEAP_PENDING : Fd := { page := 0xe, off := 0xa4, hi := 16, lo := 16, acc := .RO, cls := .RO, reset := 0 }
/-- GNS2_UTC.LEAP_NEG [05]. -/
def GNS2_UTC_LEAP_NEG : Fd := { page := 0xe, off := 0xa4, hi := 17, lo := 17, acc := .RO, cls := .RO, reset := 0 }
/-- GNS2_ANT_DELAY2.DELAY_U1A [05]. -/
def GNS2_ANT_DELAY2_DELAY_U1A : Fd := { page := 0xe, off := 0xa8, hi := 15, lo := 0, acc := .RW, cls := .B, reset := 0, chk := (.u 0 10000) }
/-- GNS2_ANT_DELAY2.DELAY_U1B [05]. -/
def GNS2_ANT_DELAY2_DELAY_U1B : Fd := { page := 0xe, off := 0xa8, hi := 31, lo := 16, acc := .RW, cls := .B, reset := 0, chk := (.u 0 10000), grd := .max 0 }
/-- SRC_SEL.SRC [06]. -/
def SRC_SEL_SRC : Fd := { page := 0xf, off := 0x40, hi := 4, lo := 0, acc := .RW, cls := .L, reset := 0, grd := .max 15 }
/-- SRC_STAT.STATE [06]. -/
def SRC_STAT_STATE : Fd := { page := 0xf, off := 0x44, hi := 1, lo := 0, acc := .RO, cls := .RO, reset := 0, n1 := 32 }
/-- SRC_STAT.SENDER_TIME [06]. -/
def SRC_STAT_SENDER_TIME : Fd := { page := 0xf, off := 0x44, hi := 2, lo := 2, acc := .RO, cls := .RO, reset := 0, n1 := 32 }
/-- SRC_STAT.PROJECTED [06]. -/
def SRC_STAT_PROJECTED : Fd := { page := 0xf, off := 0x44, hi := 3, lo := 3, acc := .RO, cls := .RO, reset := 0, n1 := 32 }
/-- SRC_STAT.RECORDS [06]. -/
def SRC_STAT_RECORDS : Fd := { page := 0xf, off := 0x44, hi := 31, lo := 16, acc := .RO, cls := .RO, reset := 0, n1 := 32 }
/-- SRC_ERR.PARSE [06]. -/
def SRC_ERR_PARSE : Fd := { page := 0xf, off := 0x48, hi := 15, lo := 0, acc := .RO, cls := .RO, reset := 0, n1 := 32 }
/-- SRC_ERR.RATE [06]. -/
def SRC_ERR_RATE : Fd := { page := 0xf, off := 0x48, hi := 31, lo := 16, acc := .RO, cls := .RO, reset := 0, n1 := 32 }
/-- SRC_LAST_LO.V [06]. -/
def SRC_LAST_LO_V : Fd := { page := 0xf, off := 0x4c, hi := 31, lo := 0, acc := .RO, cls := .RO, reset := 0, n1 := 32 }
/-- SRC_LAST_HI.V [06]. -/
def SRC_LAST_HI_V : Fd := { page := 0xf, off := 0x50, hi := 31, lo := 0, acc := .RO, cls := .RO, reset := 0, n1 := 32 }
/-- SRC_SCALE.SCALE [06]. -/
def SRC_SCALE_SCALE : Fd := { page := 0xf, off := 0x54, hi := 31, lo := 0, acc := .RW, cls := .B, reset := 1065353216, n1 := 32, chk := .fin }
/-- SRC_OFFSET.OFFSET [06]. -/
def SRC_OFFSET_OFFSET : Fd := { page := 0xf, off := 0x58, hi := 31, lo := 0, acc := .RW, cls := .B, reset := 0, n1 := 32, chk := .fin }
/-- SRC_AUX.AIN_X [06]. -/
def SRC_AUX_AIN_X : Fd := { page := 0xf, off := 0x5c, hi := 3, lo := 0, acc := .RW, cls := .B, reset := 0, n1 := 32 }
/-- SRC_AUX.AIN_Y [06]. -/
def SRC_AUX_AIN_Y : Fd := { page := 0xf, off := 0x5c, hi := 7, lo := 4, acc := .RW, cls := .B, reset := 0, n1 := 32 }
/-- SRC_QUEUE.DEPTH [06]. -/
def SRC_QUEUE_DEPTH : Fd := { page := 0xf, off := 0x70, hi := 9, lo := 0, acc := .RO, cls := .RO, reset := 0 }
/-- SRC_QUEUE.MAX [06]. -/
def SRC_QUEUE_MAX : Fd := { page := 0xf, off := 0x70, hi := 25, lo := 16, acc := .RO, cls := .RO, reset := 0 }
/-- SRC_OVERFLOW.COUNT [06]. -/
def SRC_OVERFLOW_COUNT : Fd := { page := 0xf, off := 0x74, hi := 15, lo := 0, acc := .RO, cls := .RO, reset := 0 }
/-- SRC_OVERFLOW.LAST_SRC [06]. -/
def SRC_OVERFLOW_LAST_SRC : Fd := { page := 0xf, off := 0x74, hi := 20, lo := 16, acc := .RO, cls := .RO, reset := 0 }
/-- SRC_WATCH.WATCH [06]. -/
def SRC_WATCH_WATCH : Fd := { page := 0xf, off := 0x78, hi := 4, lo := 0, acc := .RW, cls := .L, reset := 0, grd := .max 15 }
/-- SRC_REC.W [06]. -/
def SRC_REC_W : Fd := { page := 0xf, off := 0x100, hi := 31, lo := 0, acc := .RO, cls := .RO, reset := 0, cnt := 16, stride := 4, n1 := 32 }
/-- FLT_MOD_CFG.EN [06]. -/
def FLT_MOD_CFG_EN : Fd := { page := 0x10, off := 0x40, hi := 0, lo := 0, acc := .RW, cls := .B, reset := 0, cnt := 4, stride := 4 }
/-- FLT_MOD_CFG.SCAN [06]. -/
def FLT_MOD_CFG_SCAN : Fd := { page := 0x10, off := 0x40, hi := 1, lo := 1, acc := .RW, cls := .B, reset := 0, cnt := 4, stride := 4 }
/-- FLT_MOD_CFG.SEL [06]. -/
def FLT_MOD_CFG_SEL : Fd := { page := 0x10, off := 0x40, hi := 2, lo := 2, acc := .RW, cls := .B, reset := 0, cnt := 4, stride := 4 }
/-- FLT_MOD_CFG.DWELL [06]. -/
def FLT_MOD_CFG_DWELL : Fd := { page := 0x10, off := 0x40, hi := 15, lo := 8, acc := .RW, cls := .B, reset := 16, cnt := 4, stride := 4, chk := (.u 1 255) }
/-- FLT_MOD_CFG.RATE [06]. -/
def FLT_MOD_CFG_RATE : Fd := { page := 0x10, off := 0x40, hi := 27, lo := 16, acc := .RW, cls := .B, reset := 1000, cnt := 4, stride := 4, chk := (.u 10 4000) }
/-- FLT_IN_CFG.RANGE [06]. -/
def FLT_IN_CFG_RANGE : Fd := { page := 0x10, off := 0x50, hi := 0, lo := 0, acc := .RW, cls := .B, reset := 0, cnt := 8, stride := 4 }
/-- FLT_GAIN.V [06]. -/
def FLT_GAIN_V : Fd := { page := 0x10, off := 0x70, hi := 31, lo := 0, acc := .RW, cls := .B, reset := 1065353216, cnt := 8, stride := 4, chk := .fin }
/-- FLT_OFFSET.V [06]. -/
def FLT_OFFSET_V : Fd := { page := 0x10, off := 0x90, hi := 31, lo := 0, acc := .RW, cls := .B, reset := 0, cnt := 8, stride := 4, chk := .fin }
/-- FLT_SETTLE.COUNT [06]. -/
def FLT_SETTLE_COUNT : Fd := { page := 0x10, off := 0xb0, hi := 7, lo := 0, acc := .RO, cls := .RO, reset := 0, cnt := 4, stride := 4 }
/-- FLT_SETTLE.H [06]. -/
def FLT_SETTLE_H : Fd := { page := 0x10, off := 0xb0, hi := 11, lo := 8, acc := .RO, cls := .RO, reset := 0, cnt := 4, stride := 4 }
/-- FLT_GDELAY.V [06]. -/
def FLT_GDELAY_V : Fd := { page := 0x10, off := 0xc0, hi := 31, lo := 0, acc := .RO, cls := .RO, reset := 0, cnt := 4, stride := 4 }
/-- FLT_RATIO_FRAC.V [06]. -/
def FLT_RATIO_FRAC_V : Fd := { page := 0x10, off := 0xd0, hi := 31, lo := 0, acc := .RO, cls := .RO, reset := 0, cnt := 4, stride := 8 }
/-- FLT_RATIO_INT.V [06]. -/
def FLT_RATIO_INT_V : Fd := { page := 0x10, off := 0xd4, hi := 31, lo := 0, acc := .RO, cls := .RO, reset := 0, cnt := 4, stride := 8 }
/-- FLT_STAT.VALID [06]. -/
def FLT_STAT_VALID : Fd := { page := 0x10, off := 0xf0, hi := 7, lo := 0, acc := .RO, cls := .RO, reset := 0 }
/-- FLT_STAT.OVERRANGE [06]. -/
def FLT_STAT_OVERRANGE : Fd := { page := 0x10, off := 0xf0, hi := 15, lo := 8, acc := .RO, cls := .RO, reset := 0 }
/-- FLT_STAT.SELECTED [06]. -/
def FLT_STAT_SELECTED : Fd := { page := 0x10, off := 0xf0, hi := 19, lo := 16, acc := .RO, cls := .RO, reset := 0 }
/-- FLT_APLL.COUNT [06]. -/
def FLT_APLL_COUNT : Fd := { page := 0x10, off := 0xf4, hi := 23, lo := 0, acc := .RO, cls := .RO, reset := 0 }
/-- SIO_PORT_SEL.PORT [06]. -/
def SIO_PORT_SEL_PORT : Fd := { page := 0x12, off := 0x40, hi := 3, lo := 0, acc := .RW, cls := .L, reset := 0, chk := (.u 0 11) }
/-- SIO_CFG.PORT_EN [06]. -/
def SIO_CFG_PORT_EN : Fd := { page := 0x12, off := 0x44, hi := 0, lo := 0, acc := .RW, cls := .S, reset := 0, n1 := 12 }
/-- SIO_CFG.RATE [06]. -/
def SIO_CFG_RATE : Fd := { page := 0x12, off := 0x44, hi := 3, lo := 1, acc := .RW, cls := .S, reset := 0, n1 := 12, chk := (.u 0 5) }
/-- SIO_CFG.CKSUM_REQ [06]. -/
def SIO_CFG_CKSUM_REQ : Fd := { page := 0x12, off := 0x44, hi := 4, lo := 4, acc := .RW, cls := .S, reset := 1, n1 := 12 }
/-- SIO_STAT.LINES [06]. -/
def SIO_STAT_LINES : Fd := { page := 0x12, off := 0x48, hi := 15, lo := 0, acc := .RO, cls := .RO, reset := 0, n1 := 12 }
/-- SIO_STAT.BREAK [06]. -/
def SIO_STAT_BREAK : Fd := { page := 0x12, off := 0x48, hi := 16, lo := 16, acc := .RO, cls := .RO, reset := 0, n1 := 12 }
/-- SIO_ERR.CKSUM [06]. -/
def SIO_ERR_CKSUM : Fd := { page := 0x12, off := 0x4c, hi := 7, lo := 0, acc := .RO, cls := .RO, reset := 0, n1 := 12 }
/-- SIO_ERR.FRAMING [06]. -/
def SIO_ERR_FRAMING : Fd := { page := 0x12, off := 0x4c, hi := 15, lo := 8, acc := .RO, cls := .RO, reset := 0, n1 := 12 }
/-- SIO_ERR.OVERLONG [06]. -/
def SIO_ERR_OVERLONG : Fd := { page := 0x12, off := 0x4c, hi := 23, lo := 16, acc := .RO, cls := .RO, reset := 0, n1 := 12 }
/-- SIO_ERR.UNMATCHED [06]. -/
def SIO_ERR_UNMATCHED : Fd := { page := 0x12, off := 0x4c, hi := 31, lo := 24, acc := .RO, cls := .RO, reset := 0, n1 := 12 }
/-- SIO_450_CNT.ACCEPTED [06]. -/
def SIO_450_CNT_ACCEPTED : Fd := { page := 0x12, off := 0x60, hi := 15, lo := 0, acc := .RO, cls := .RO, reset := 0 }
/-- SIO_450_CNT.REJECTED [06]. -/
def SIO_450_CNT_REJECTED : Fd := { page := 0x12, off := 0x60, hi := 31, lo := 16, acc := .RO, cls := .RO, reset := 0 }
/-- LOP_SEL.CH [11]. -/
def LOP_SEL_CH : Fd := { page := 0x13, off := 0x40, hi := 4, lo := 0, acc := .RW, cls := .L, reset := 0, grd := .max 15 }
/-- LOP_CH_CFG.RATE [11]. -/
def LOP_CH_CFG_RATE : Fd := { page := 0x13, off := 0x44, hi := 2, lo := 0, acc := .RW, cls := .S, reset := 0, n1 := 32, chk := (.u 0 4) }
/-- LOP_CH_CFG.USE [11]. -/
def LOP_CH_CFG_USE : Fd := { page := 0x13, off := 0x44, hi := 3, lo := 3, acc := .RW, cls := .S, reset := 0, n1 := 32 }
/-- LOP_CH_CFG.FB_SRC [11]. -/
def LOP_CH_CFG_FB_SRC : Fd := { page := 0x13, off := 0x44, hi := 6, lo := 4, acc := .RW, cls := .S, reset := 0, n1 := 32, chk := (.u 0 4) }
/-- LOP_CH_CFG.FB_DIFF [11]. -/
def LOP_CH_CFG_FB_DIFF : Fd := { page := 0x13, off := 0x44, hi := 7, lo := 7, acc := .RW, cls := .S, reset := 0, n1 := 32 }
/-- LOP_CH_CFG.FB_PORT [11]. -/
def LOP_CH_CFG_FB_PORT : Fd := { page := 0x13, off := 0x44, hi := 12, lo := 8, acc := .RW, cls := .S, reset := 0, n1 := 32 }
/-- LOP_CH_CFG.OUT_KIND [11]. -/
def LOP_CH_CFG_OUT_KIND : Fd := { page := 0x13, off := 0x44, hi := 14, lo := 13, acc := .RW, cls := .S, reset := 0, n1 := 32 }
/-- LOP_CH_CFG.OUT_PORT [11]. -/
def LOP_CH_CFG_OUT_PORT : Fd := { page := 0x13, off := 0x44, hi := 19, lo := 15, acc := .RW, cls := .S, reset := 0, n1 := 32 }
/-- LOP_CH_CFG.WRAP [11]. -/
def LOP_CH_CFG_WRAP : Fd := { page := 0x13, off := 0x44, hi := 20, lo := 20, acc := .RW, cls := .S, reset := 0, n1 := 32 }
/-- LOP_CH_CFG.SP_INTERP [11]. -/
def LOP_CH_CFG_SP_INTERP : Fd := { page := 0x13, off := 0x44, hi := 21, lo := 21, acc := .RW, cls := .S, reset := 0, n1 := 32 }
/-- LOP_CH_CFG.PL_MODEL [11]. -/
def LOP_CH_CFG_PL_MODEL : Fd := { page := 0x13, off := 0x44, hi := 23, lo := 22, acc := .RW, cls := .S, reset := 0, n1 := 32, chk := (.u 0 2) }
/-- LOP_CH_CFG.FAULT_ACT [11]. -/
def LOP_CH_CFG_FAULT_ACT : Fd := { page := 0x13, off := 0x44, hi := 24, lo := 24, acc := .RW, cls := .S, reset := 0, n1 := 32 }
/-- LOP_CH_PHASE.PHASE [11]. -/
def LOP_CH_PHASE_PHASE : Fd := { page := 0x13, off := 0x48, hi := 15, lo := 0, acc := .RW, cls := .S, reset := 0, n1 := 32 }
/-- LOP_CH_CTL.BANK [11]. -/
def LOP_CH_CTL_BANK : Fd := { page := 0x13, off := 0x4c, hi := 0, lo := 0, acc := .RW, cls := .B, reset := 0, n1 := 32 }
/-- LOP_CH_CTL.CLR [11]. -/
def LOP_CH_CTL_CLR : Fd := { page := 0x13, off := 0x4c, hi := 1, lo := 1, acc := .WO, cls := .L, reset := 0, n1 := 32, act := true }
/-- LOP_CH_STAT.STATE [11]. -/
def LOP_CH_STAT_STATE : Fd := { page := 0x13, off := 0x50, hi := 2, lo := 0, acc := .RO, cls := .RO, reset := 0, n1 := 32 }
/-- LOP_CH_STAT.BANK_ACT [11]. -/
def LOP_CH_STAT_BANK_ACT : Fd := { page := 0x13, off := 0x50, hi := 3, lo := 3, acc := .RO, cls := .RO, reset := 0, n1 := 32 }
/-- LOP_CH_STAT.AW [11]. -/
def LOP_CH_STAT_AW : Fd := { page := 0x13, off := 0x50, hi := 4, lo := 4, acc := .RO, cls := .RO, reset := 0, n1 := 32 }
/-- LOP_CH_STAT.SAT [11]. -/
def LOP_CH_STAT_SAT : Fd := { page := 0x13, off := 0x50, hi := 5, lo := 5, acc := .RO, cls := .RO, reset := 0, n1 := 32 }
/-- LOP_CH_STAT.SWAP_CLAMP [11]. -/
def LOP_CH_STAT_SWAP_CLAMP : Fd := { page := 0x13, off := 0x50, hi := 6, lo := 6, acc := .RO, cls := .RO, reset := 0, n1 := 32 }
/-- LOP_CH_STAT.READY [11]. -/
def LOP_CH_STAT_READY : Fd := { page := 0x13, off := 0x50, hi := 7, lo := 7, acc := .RO, cls := .RO, reset := 0, n1 := 32 }
/-- LOP_CH_STAT.CAUSE [11]. -/
def LOP_CH_STAT_CAUSE : Fd := { page := 0x13, off := 0x50, hi := 10, lo := 8, acc := .RO, cls := .RO, reset := 0, n1 := 32 }
/-- LOP_CH_STAT.PL_FAILS [11]. -/
def LOP_CH_STAT_PL_FAILS : Fd := { page := 0x13, off := 0x50, hi := 15, lo := 12, acc := .RO, cls := .RO, reset := 0, n1 := 32 }
/-- LOP_CH_STAT.FAULTS [11]. -/
def LOP_CH_STAT_FAULTS : Fd := { page := 0x13, off := 0x50, hi := 31, lo := 16, acc := .RO, cls := .RO, reset := 0, n1 := 32 }
/-- LOP_FB_SCALE.V [11]. -/
def LOP_FB_SCALE_V : Fd := { page := 0x13, off := 0x54, hi := 31, lo := 0, acc := .RW, cls := .S, reset := 1065353216, n1 := 32, chk := .fin }
/-- LOP_FB_OFFSET.V [11]. -/
def LOP_FB_OFFSET_V : Fd := { page := 0x13, off := 0x58, hi := 31, lo := 0, acc := .RW, cls := .S, reset := 0, n1 := 32, chk := .fin }
/-- LOP_FB_MIN.V [11]. -/
def LOP_FB_MIN_V : Fd := { page := 0x13, off := 0x5c, hi := 31, lo := 0, acc := .RW, cls := .S, reset := 4286578687, n1 := 32, chk := .fin }
/-- LOP_FB_MAX.V [11]. -/
def LOP_FB_MAX_V : Fd := { page := 0x13, off := 0x60, hi := 31, lo := 0, acc := .RW, cls := .S, reset := 2139095039, n1 := 32, chk := .fin }
/-- LOP_FB_TF.V [11]. -/
def LOP_FB_TF_V : Fd := { page := 0x13, off := 0x64, hi := 31, lo := 0, acc := .RW, cls := .S, reset := 0, n1 := 32, chk := (.f 0x0 0x3f800000 false false) }
/-- LOP_OUT_MIN.V [11]. -/
def LOP_OUT_MIN_V : Fd := { page := 0x13, off := 0x68, hi := 31, lo := 0, acc := .RW, cls := .S, reset := 3212836864, n1 := 32, chk := (.f 0xbf800000 0x3f800000 false false) }
/-- LOP_OUT_MAX.V [11]. -/
def LOP_OUT_MAX_V : Fd := { page := 0x13, off := 0x6c, hi := 31, lo := 0, acc := .RW, cls := .S, reset := 1065353216, n1 := 32, chk := .fin }
/-- LOP_OUT_RATE.V [11]. -/
def LOP_OUT_RATE_V : Fd := { page := 0x13, off := 0x70, hi := 31, lo := 0, acc := .RW, cls := .S, reset := 1092616192, n1 := 32, chk := (.f 0x3c23d70a 0x461c4000 false false) }
/-- LOP_RAMP_RATE.V [11]. -/
def LOP_RAMP_RATE_V : Fd := { page := 0x13, off := 0x74, hi := 31, lo := 0, acc := .RW, cls := .B, reset := 1045220557, n1 := 32, chk := (.f 0x0 0x7f7fffff true false) }
/-- LOP_OL_GAIN.V [11]. -/
def LOP_OL_GAIN_V : Fd := { page := 0x13, off := 0x78, hi := 31, lo := 0, acc := .RW, cls := .B, reset := 0, n1 := 32, chk := .fin }
/-- LOP_PL_K.V [11]. -/
def LOP_PL_K_V : Fd := { page := 0x13, off := 0x7c, hi := 31, lo := 0, acc := .RW, cls := .B, reset := 1065353216, n1 := 32, chk := .fin }
/-- LOP_PL_TAU.V [11]. -/
def LOP_PL_TAU_V : Fd := { page := 0x13, off := 0x80, hi := 31, lo := 0, acc := .RW, cls := .B, reset := 1036831949, n1 := 32, chk := (.f 0x3a83126f 0x42c80000 false false) }
/-- LOP_PL_DB.V [11]. -/
def LOP_PL_DB_V : Fd := { page := 0x13, off := 0x84, hi := 31, lo := 0, acc := .RW, cls := .B, reset := 0, n1 := 32, chk := (.f 0x0 0x3f000000 false false) }
/-- LOP_PL_THR.V [11]. -/
def LOP_PL_THR_V : Fd := { page := 0x13, off := 0x88, hi := 31, lo := 0, acc := .RW, cls := .B, reset := 1065353216, n1 := 32, chk := .fin }
/-- LOP_PL_WINDOW.V [11]. -/
def LOP_PL_WINDOW_V : Fd := { page := 0x13, off := 0x8c, hi := 31, lo := 0, acc := .RW, cls := .B, reset := 1045220557, n1 := 32, chk := (.f 0x3c23d70a 0x41200000 false false) }
/-- LOP_PL_CNT.PL_COUNT [11]. -/
def LOP_PL_CNT_PL_COUNT : Fd := { page := 0x13, off := 0x90, hi := 3, lo := 0, acc := .RW, cls := .B, reset := 3, n1 := 32, chk := (.u 1 15) }
/-- LOP_PL_CNT.FB_AGE_MAX [11]. -/
def LOP_PL_CNT_FB_AGE_MAX : Fd := { page := 0x13, off := 0x90, hi := 23, lo := 8, acc := .RW, cls := .S, reset := 1000, n1 := 32, chk := (.u 50 65535) }
/-- LOP_SP_MIN.V [11]. -/
def LOP_SP_MIN_V : Fd := { page := 0x13, off := 0x94, hi := 31, lo := 0, acc := .RW, cls := .S, reset := 4286578687, n1 := 32, chk := .fin }
/-- LOP_SP_MAX.V [11]. -/
def LOP_SP_MAX_V : Fd := { page := 0x13, off := 0x98, hi := 31, lo := 0, acc := .RW, cls := .S, reset := 2139095039, n1 := 32, chk := .fin }
/-- LOP_KP_A.V [11]. -/
def LOP_KP_A_V : Fd := { page := 0x13, off := 0xa0, hi := 31, lo := 0, acc := .RW, cls := .L, reset := 0, n1 := 32, chk := .fin }
/-- LOP_KI_A.V [11]. -/
def LOP_KI_A_V : Fd := { page := 0x13, off := 0xa4, hi := 31, lo := 0, acc := .RW, cls := .L, reset := 0, n1 := 32, chk := .fin }
/-- LOP_KD_A.V [11]. -/
def LOP_KD_A_V : Fd := { page := 0x13, off := 0xa8, hi := 31, lo := 0, acc := .RW, cls := .L, reset := 0, n1 := 32, chk := .fin }
/-- LOP_TF_A.V [11]. -/
def LOP_TF_A_V : Fd := { page := 0x13, off := 0xac, hi := 31, lo := 0, acc := .RW, cls := .L, reset := 0, n1 := 32, chk := (.f 0x0 0x3f800000 false false) }
/-- LOP_KFF_A.V [11]. -/
def LOP_KFF_A_V : Fd := { page := 0x13, off := 0xb0, hi := 31, lo := 0, acc := .RW, cls := .L, reset := 0, n1 := 32, chk := .fin }
/-- LOP_KV_A.V [11]. -/
def LOP_KV_A_V : Fd := { page := 0x13, off := 0xb4, hi := 31, lo := 0, acc := .RW, cls := .L, reset := 0, n1 := 32, chk := .fin }
/-- LOP_I_MIN_A.V [11]. -/
def LOP_I_MIN_A_V : Fd := { page := 0x13, off := 0xb8, hi := 31, lo := 0, acc := .RW, cls := .L, reset := 0, n1 := 32, chk := (.f 0xbf800000 0x0 false false) }
/-- LOP_I_MAX_A.V [11]. -/
def LOP_I_MAX_A_V : Fd := { page := 0x13, off := 0xbc, hi := 31, lo := 0, acc := .RW, cls := .L, reset := 0, n1 := 32, chk := (.f 0x0 0x3f800000 false false) }
/-- LOP_KP_B.V [11]. -/
def LOP_KP_B_V : Fd := { page := 0x13, off := 0xc0, hi := 31, lo := 0, acc := .RW, cls := .L, reset := 0, n1 := 32, chk := .fin }
/-- LOP_KI_B.V [11]. -/
def LOP_KI_B_V : Fd := { page := 0x13, off := 0xc4, hi := 31, lo := 0, acc := .RW, cls := .L, reset := 0, n1 := 32, chk := .fin }
/-- LOP_KD_B.V [11]. -/
def LOP_KD_B_V : Fd := { page := 0x13, off := 0xc8, hi := 31, lo := 0, acc := .RW, cls := .L, reset := 0, n1 := 32, chk := .fin }
/-- LOP_TF_B.V [11]. -/
def LOP_TF_B_V : Fd := { page := 0x13, off := 0xcc, hi := 31, lo := 0, acc := .RW, cls := .L, reset := 0, n1 := 32, chk := (.f 0x0 0x3f800000 false false) }
/-- LOP_KFF_B.V [11]. -/
def LOP_KFF_B_V : Fd := { page := 0x13, off := 0xd0, hi := 31, lo := 0, acc := .RW, cls := .L, reset := 0, n1 := 32, chk := .fin }
/-- LOP_KV_B.V [11]. -/
def LOP_KV_B_V : Fd := { page := 0x13, off := 0xd4, hi := 31, lo := 0, acc := .RW, cls := .L, reset := 0, n1 := 32, chk := .fin }
/-- LOP_I_MIN_B.V [11]. -/
def LOP_I_MIN_B_V : Fd := { page := 0x13, off := 0xd8, hi := 31, lo := 0, acc := .RW, cls := .L, reset := 0, n1 := 32, chk := (.f 0xbf800000 0x0 false false) }
/-- LOP_I_MAX_B.V [11]. -/
def LOP_I_MAX_B_V : Fd := { page := 0x13, off := 0xdc, hi := 31, lo := 0, acc := .RW, cls := .L, reset := 0, n1 := 32, chk := (.f 0x0 0x3f800000 false false) }
/-- LOP_SP.V [11]. -/
def LOP_SP_V : Fd := { page := 0x13, off := 0xe0, hi := 31, lo := 0, acc := .RO, cls := .RO, reset := 0, n1 := 32 }
/-- LOP_SP_EFF.V [11]. -/
def LOP_SP_EFF_V : Fd := { page := 0x13, off := 0xe4, hi := 31, lo := 0, acc := .RO, cls := .RO, reset := 0, n1 := 32 }
/-- LOP_FB.V [11]. -/
def LOP_FB_V : Fd := { page := 0x13, off := 0xe8, hi := 31, lo := 0, acc := .RO, cls := .RO, reset := 0, n1 := 32 }
/-- LOP_OUT.V [11]. -/
def LOP_OUT_V : Fd := { page := 0x13, off := 0xec, hi := 31, lo := 0, acc := .RO, cls := .RO, reset := 0, n1 := 32 }
/-- LOP_INT.V [11]. -/
def LOP_INT_V : Fd := { page := 0x13, off := 0xf0, hi := 31, lo := 0, acc := .RO, cls := .RO, reset := 0, n1 := 32 }
/-- LOP_PL_RES.V [11]. -/
def LOP_PL_RES_V : Fd := { page := 0x13, off := 0xf4, hi := 31, lo := 0, acc := .RO, cls := .RO, reset := 0, n1 := 32 }
/-- LOP_FF.V [11]. -/
def LOP_FF_V : Fd := { page := 0x13, off := 0xf8, hi := 31, lo := 0, acc := .RO, cls := .RO, reset := 0, n1 := 32 }
/-- LOP_LOAD.EVALS [11]. -/
def LOP_LOAD_EVALS : Fd := { page := 0x13, off := 0x200, hi := 18, lo := 0, acc := .RO, cls := .RO, reset := 0 }
/-- LOP_LOAD.PEAK [11]. -/
def LOP_LOAD_PEAK : Fd := { page := 0x13, off := 0x200, hi := 31, lo := 24, acc := .RO, cls := .RO, reset := 0 }
/-- LOP_RUNMASK.ON [11]. -/
def LOP_RUNMASK_ON : Fd := { page := 0x13, off := 0x204, hi := 31, lo := 0, acc := .RO, cls := .RO, reset := 0 }
/-- LOP_FAULTMASK.FAULT [11]. -/
def LOP_FAULTMASK_FAULT : Fd := { page := 0x13, off := 0x208, hi := 31, lo := 0, acc := .RO, cls := .RO, reset := 0 }
/-- AOU_SEL.OUT [12]. -/
def AOU_SEL_OUT : Fd := { page := 0x14, off := 0x40, hi := 4, lo := 0, acc := .RW, cls := .L, reset := 0 }
/-- AOU_CFG.FAIL [12]. -/
def AOU_CFG_FAIL : Fd := { page := 0x14, off := 0x44, hi := 0, lo := 0, acc := .RW, cls := .S, reset := 0, n1 := 32 }
/-- AOU_CFG.HOST_EN [12]. -/
def AOU_CFG_HOST_EN : Fd := { page := 0x14, off := 0x44, hi := 1, lo := 1, acc := .RW, cls := .B, reset := 0, n1 := 32 }
/-- AOU_CFG.PWM_MODE [12]. -/
def AOU_CFG_PWM_MODE : Fd := { page := 0x14, off := 0x44, hi := 2, lo := 2, acc := .RW, cls := .S, reset := 0, n1 := 32 }
/-- AOU_CFG.PWM_POL [12]. -/
def AOU_CFG_PWM_POL : Fd := { page := 0x14, off := 0x44, hi := 3, lo := 3, acc := .RW, cls := .S, reset := 0, n1 := 32 }
/-- AOU_CFG.DIR_DOUT [12]. -/
def AOU_CFG_DIR_DOUT : Fd := { page := 0x14, off := 0x44, hi := 8, lo := 4, acc := .RW, cls := .S, reset := 0, n1 := 32 }
/-- AOU_GAIN.GAIN [12]. -/
def AOU_GAIN_GAIN : Fd := { page := 0x14, off := 0x48, hi := 31, lo := 0, acc := .RW, cls := .S, reset := 1065353216, n1 := 32, chk := .fin }
/-- AOU_OFFSET.OFFSET [12]. -/
def AOU_OFFSET_OFFSET : Fd := { page := 0x14, off := 0x4c, hi := 31, lo := 0, acc := .RW, cls := .S, reset := 0, n1 := 32, chk := .fin }
/-- AOU_PERIOD.PERIOD [12]. -/
def AOU_PERIOD_PERIOD : Fd := { page := 0x14, off := 0x50, hi := 23, lo := 0, acc := .RW, cls := .S, reset := 250000, n1 := 32, chk := (.u 2500 2500000) }
/-- AOU_HOST.HOST [12]. -/
def AOU_HOST_HOST : Fd := { page := 0x14, off := 0x54, hi := 31, lo := 0, acc := .RW, cls := .B, reset := 0, n1 := 32, chk := (.f 0xbf800000 0x3f800000 false false) }
/-- AOU_CODE.CODE [12]. -/
def AOU_CODE_CODE : Fd := { page := 0x14, off := 0x58, hi := 31, lo := 0, acc := .RO, cls := .RO, reset := 0, n1 := 32 }
/-- AOU_STAT.FAIL_ACT [12]. -/
def AOU_STAT_FAIL_ACT : Fd := { page := 0x14, off := 0x60, hi := 0, lo := 0, acc := .RO, cls := .RO, reset := 0, n1 := 32 }
/-- AOU_STAT.CLAMPED [12]. -/
def AOU_STAT_CLAMPED : Fd := { page := 0x14, off := 0x60, hi := 1, lo := 1, acc := .RO, cls := .RO, reset := 0, n1 := 32 }
/-- AOU_STAT.BOUND [12]. -/
def AOU_STAT_BOUND : Fd := { page := 0x14, off := 0x60, hi := 2, lo := 2, acc := .RO, cls := .RO, reset := 0, n1 := 32 }
/-- AOU_STAT.CH [12]. -/
def AOU_STAT_CH : Fd := { page := 0x14, off := 0x60, hi := 7, lo := 3, acc := .RO, cls := .RO, reset := 0, n1 := 32 }
/-- PFG_SEL.AXIS [12]. -/
def PFG_SEL_AXIS : Fd := { page := 0x15, off := 0x40, hi := 2, lo := 0, acc := .RW, cls := .L, reset := 0, grd := .max 3 }
/-- PFG_CFG.MODE [12]. -/
def PFG_CFG_MODE : Fd := { page := 0x15, off := 0x44, hi := 0, lo := 0, acc := .RW, cls := .S, reset := 0, n1 := 8 }
/-- PFG_CFG.STEP_WIDTH [12]. -/
def PFG_CFG_STEP_WIDTH : Fd := { page := 0x15, off := 0x44, hi := 12, lo := 1, acc := .RW, cls := .S, reset := 25, n1 := 8, chk := (.u 25 2500) }
/-- PFG_CFG.DIR_SETUP [12]. -/
def PFG_CFG_DIR_SETUP : Fd := { page := 0x15, off := 0x44, hi := 24, lo := 13, acc := .RW, cls := .S, reset := 25, n1 := 8, chk := (.u 25 2500) }
/-- PFG_CFG.DIR_POL [12]. -/
def PFG_CFG_DIR_POL : Fd := { page := 0x15, off := 0x44, hi := 25, lo := 25, acc := .RW, cls := .S, reset := 0, n1 := 8 }
/-- PFG_CFG.FAIL [12]. -/
def PFG_CFG_FAIL : Fd := { page := 0x15, off := 0x44, hi := 26, lo := 26, acc := .RW, cls := .S, reset := 0, n1 := 8 }
/-- PFG_IO.LIM_POS [12]. -/
def PFG_IO_LIM_POS : Fd := { page := 0x15, off := 0x48, hi := 4, lo := 0, acc := .RW, cls := .S, reset := 0, n1 := 8 }
/-- PFG_IO.LIM_POS_EN [12]. -/
def PFG_IO_LIM_POS_EN : Fd := { page := 0x15, off := 0x48, hi := 5, lo := 5, acc := .RW, cls := .S, reset := 0, n1 := 8 }
/-- PFG_IO.LIM_NEG [12]. -/
def PFG_IO_LIM_NEG : Fd := { page := 0x15, off := 0x48, hi := 10, lo := 6, acc := .RW, cls := .S, reset := 0, n1 := 8 }
/-- PFG_IO.LIM_NEG_EN [12]. -/
def PFG_IO_LIM_NEG_EN : Fd := { page := 0x15, off := 0x48, hi := 11, lo := 11, acc := .RW, cls := .S, reset := 0, n1 := 8 }
/-- PFG_IO.HOME [12]. -/
def PFG_IO_HOME : Fd := { page := 0x15, off := 0x48, hi := 16, lo := 12, acc := .RW, cls := .S, reset := 0, n1 := 8 }
/-- PFG_IO.HOME_EN [12]. -/
def PFG_IO_HOME_EN : Fd := { page := 0x15, off := 0x48, hi := 17, lo := 17, acc := .RW, cls := .S, reset := 0, n1 := 8 }
/-- PFG_IO.EN_DOUT [12]. -/
def PFG_IO_EN_DOUT : Fd := { page := 0x15, off := 0x48, hi := 22, lo := 18, acc := .RW, cls := .S, reset := 0, n1 := 8 }
/-- PFG_IO.EN_DOUT_EN [12]. -/
def PFG_IO_EN_DOUT_EN : Fd := { page := 0x15, off := 0x48, hi := 23, lo := 23, acc := .RW, cls := .S, reset := 0, n1 := 8 }
/-- PFG_V_MAX.V_MAX [12]. -/
def PFG_V_MAX_V_MAX : Fd := { page := 0x15, off := 0x4c, hi := 31, lo := 0, acc := .RW, cls := .B, reset := 1176256512, n1 := 8, chk := .fin }
/-- PFG_A_MAX.A_MAX [12]. -/
def PFG_A_MAX_A_MAX : Fd := { page := 0x15, off := 0x50, hi := 31, lo := 0, acc := .RW, cls := .B, reset := 1184645120, n1 := 8, chk := (.f 0x0 0x7f7fffff true false) }
/-- PFG_D_MAX.D_MAX [12]. -/
def PFG_D_MAX_D_MAX : Fd := { page := 0x15, off := 0x54, hi := 31, lo := 0, acc := .RW, cls := .B, reset := 1184645120, n1 := 8, chk := (.f 0x0 0x7f7fffff true false) }
/-- PFG_TARGET.TARGET [12]. -/
def PFG_TARGET_TARGET : Fd := { page := 0x15, off := 0x58, hi := 31, lo := 0, acc := .RW, cls := .B, reset := 0, n1 := 8 }
/-- PFG_CTL.STOP [12]. -/
def PFG_CTL_STOP : Fd := { page := 0x15, off := 0x5c, hi := 0, lo := 0, acc := .WO, cls := .L, reset := 0, n1 := 8, act := true }
/-- PFG_CTL.SOFT_STOP [12]. -/
def PFG_CTL_SOFT_STOP : Fd := { page := 0x15, off := 0x5c, hi := 1, lo := 1, acc := .WO, cls := .L, reset := 0, n1 := 8, act := true }
/-- PFG_CTL.HOME [12]. -/
def PFG_CTL_HOME : Fd := { page := 0x15, off := 0x5c, hi := 2, lo := 2, acc := .WO, cls := .L, reset := 0, n1 := 8, act := true }
/-- PFG_CTL.CLR_CHATTER [12]. -/
def PFG_CTL_CLR_CHATTER : Fd := { page := 0x15, off := 0x5c, hi := 3, lo := 3, acc := .WO, cls := .L, reset := 0, n1 := 8, act := true }
/-- PFG_POS.POS [12]. -/
def PFG_POS_POS : Fd := { page := 0x15, off := 0x60, hi := 31, lo := 0, acc := .RO, cls := .RO, reset := 0, n1 := 8 }
/-- PFG_RATE.RATE [12]. -/
def PFG_RATE_RATE : Fd := { page := 0x15, off := 0x64, hi := 31, lo := 0, acc := .RO, cls := .RO, reset := 0, n1 := 8 }
/-- PFG_STAT.PHASE [12]. -/
def PFG_STAT_PHASE : Fd := { page := 0x15, off := 0x68, hi := 2, lo := 0, acc := .RO, cls := .RO, reset := 0, n1 := 8 }
/-- PFG_STAT.POS_VALID [12]. -/
def PFG_STAT_POS_VALID : Fd := { page := 0x15, off := 0x68, hi := 3, lo := 3, acc := .RO, cls := .RO, reset := 0, n1 := 8 }
/-- PFG_STAT.LIMIT_DEFERRED [12]. -/
def PFG_STAT_LIMIT_DEFERRED : Fd := { page := 0x15, off := 0x68, hi := 4, lo := 4, acc := .RO, cls := .RO, reset := 0, n1 := 8 }
/-- PFG_STAT.LIM_POS_ACT [12]. -/
def PFG_STAT_LIM_POS_ACT : Fd := { page := 0x15, off := 0x68, hi := 5, lo := 5, acc := .RO, cls := .RO, reset := 0, n1 := 8 }
/-- PFG_STAT.LIM_NEG_ACT [12]. -/
def PFG_STAT_LIM_NEG_ACT : Fd := { page := 0x15, off := 0x68, hi := 6, lo := 6, acc := .RO, cls := .RO, reset := 0, n1 := 8 }
/-- PFG_STAT.CHATTER [12]. -/
def PFG_STAT_CHATTER : Fd := { page := 0x15, off := 0x68, hi := 7, lo := 7, acc := .RO, cls := .RO, reset := 0, n1 := 8 }
/-- PFG_STAT.HOMING_FAIL [12]. -/
def PFG_STAT_HOMING_FAIL : Fd := { page := 0x15, off := 0x68, hi := 8, lo := 8, acc := .RO, cls := .RO, reset := 0, n1 := 8 }
/-- PFG_STAT.COMPARE_BEHIND [12]. -/
def PFG_STAT_COMPARE_BEHIND : Fd := { page := 0x15, off := 0x68, hi := 9, lo := 9, acc := .RO, cls := .RO, reset := 0, n1 := 8 }
/-- PFG_STAT.ARMED [12]. -/
def PFG_STAT_ARMED : Fd := { page := 0x15, off := 0x68, hi := 10, lo := 10, acc := .RO, cls := .RO, reset := 0, n1 := 8 }
/-- PFG_STAT.DIR [12]. -/
def PFG_STAT_DIR : Fd := { page := 0x15, off := 0x68, hi := 11, lo := 11, acc := .RO, cls := .RO, reset := 0, n1 := 8 }
/-- PFG_STAT.DIR_CHANGE [12]. -/
def PFG_STAT_DIR_CHANGE : Fd := { page := 0x15, off := 0x68, hi := 12, lo := 12, acc := .W1C, cls := .W1C, reset := 0, n1 := 8 }
/-- PFG_STAT.MOVE_REFUSED [12]. -/
def PFG_STAT_MOVE_REFUSED : Fd := { page := 0x15, off := 0x68, hi := 13, lo := 13, acc := .RO, cls := .RO, reset := 0, n1 := 8 }
/-- PFG_STAT.FAIL_ACT [12]. -/
def PFG_STAT_FAIL_ACT : Fd := { page := 0x15, off := 0x68, hi := 14, lo := 14, acc := .RO, cls := .RO, reset := 0, n1 := 8 }
/-- PFG_HOME.DIR [12]. -/
def PFG_HOME_DIR : Fd := { page := 0x15, off := 0x6c, hi := 0, lo := 0, acc := .RW, cls := .B, reset := 0, n1 := 8 }
/-- PFG_HOME.IDX [12]. -/
def PFG_HOME_IDX : Fd := { page := 0x15, off := 0x6c, hi := 1, lo := 1, acc := .RW, cls := .B, reset := 0, n1 := 8 }
/-- PFG_HOME.IDX_PORT [12]. -/
def PFG_HOME_IDX_PORT : Fd := { page := 0x15, off := 0x6c, hi := 5, lo := 2, acc := .RW, cls := .B, reset := 0, n1 := 8, grd := .max 7 }
/-- PFG_HOME_VEL.HOME_VEL [12]. -/
def PFG_HOME_VEL_HOME_VEL : Fd := { page := 0x15, off := 0x70, hi := 31, lo := 0, acc := .RW, cls := .B, reset := 1157234688, n1 := 8, chk := .fin }
/-- PFG_HOME_SLOW.HOME_SLOW [12]. -/
def PFG_HOME_SLOW_HOME_SLOW : Fd := { page := 0x15, off := 0x74, hi := 31, lo := 0, acc := .RW, cls := .B, reset := 1137180672, n1 := 8, chk := .fin }
/-- PFG_HOME_BACKOFF.BACKOFF [12]. -/
def PFG_HOME_BACKOFF_BACKOFF : Fd := { page := 0x15, off := 0x78, hi := 31, lo := 0, acc := .RW, cls := .B, reset := 100, n1 := 8 }
/-- PFG_HOME_POS.HOME_POS [12]. -/
def PFG_HOME_POS_HOME_POS : Fd := { page := 0x15, off := 0x7c, hi := 31, lo := 0, acc := .RW, cls := .B, reset := 0, n1 := 8 }
/-- PFG_HOME_MAX.HOME_MAX [12]. -/
def PFG_HOME_MAX_HOME_MAX : Fd := { page := 0x15, off := 0x80, hi := 31, lo := 0, acc := .RW, cls := .B, reset := 2147483647, n1 := 8 }
/-- PFG_CMP.CMP [12]. -/
def PFG_CMP_CMP : Fd := { page := 0x15, off := 0x84, hi := 31, lo := 0, acc := .RW, cls := .B, reset := 0, n1 := 8 }
/-- PFG_CMP_CTL.ARM [12]. -/
def PFG_CMP_CTL_ARM : Fd := { page := 0x15, off := 0x88, hi := 0, lo := 0, acc := .RW, cls := .B, reset := 0, n1 := 8 }
/-- PFG_CMP_CTL.CMP_IMMEDIATE [12]. -/
def PFG_CMP_CTL_CMP_IMMEDIATE : Fd := { page := 0x15, off := 0x88, hi := 1, lo := 1, acc := .RW, cls := .B, reset := 0, n1 := 8 }
/-- PFG_CMP_CTL.PULSE_DOUT [12]. -/
def PFG_CMP_CTL_PULSE_DOUT : Fd := { page := 0x15, off := 0x88, hi := 6, lo := 2, acc := .RW, cls := .B, reset := 0, n1 := 8 }
/-- PFG_CMP_CTL.PULSE_EN [12]. -/
def PFG_CMP_CTL_PULSE_EN : Fd := { page := 0x15, off := 0x88, hi := 7, lo := 7, acc := .RW, cls := .B, reset := 0, n1 := 8 }
/-- PFG_CMP_CTL.PULSE_W [12]. -/
def PFG_CMP_CTL_PULSE_W : Fd := { page := 0x15, off := 0x88, hi := 23, lo := 8, acc := .RW, cls := .B, reset := 10, n1 := 8, chk := (.u 1 65535) }
/-- PFG_CMP_TIME_LO.V [12]. -/
def PFG_CMP_TIME_LO_V : Fd := { page := 0x15, off := 0x8c, hi := 31, lo := 0, acc := .RO, cls := .RO, reset := 0, n1 := 8 }
/-- PFG_CMP_TIME_HI.V [12]. -/
def PFG_CMP_TIME_HI_V : Fd := { page := 0x15, off := 0x90, hi := 31, lo := 0, acc := .RO, cls := .RO, reset := 0, n1 := 8 }
/-- ENC_SSI_SEL.PORT [12]. -/
def ENC_SSI_SEL_PORT : Fd := { page := 0x16, off := 0x40, hi := 3, lo := 0, acc := .RW, cls := .L, reset := 0, grd := .max 7 }
/-- ENC_SSI_CFG.EN [12]. -/
def ENC_SSI_CFG_EN : Fd := { page := 0x16, off := 0x44, hi := 0, lo := 0, acc := .RW, cls := .S, reset := 0, n1 := 16 }
/-- ENC_SSI_CFG.DIV [12]. -/
def ENC_SSI_CFG_DIV : Fd := { page := 0x16, off := 0x44, hi := 10, lo := 1, acc := .RW, cls := .S, reset := 100, n1 := 16, chk := (.u 10 1000) }
/-- ENC_SSI_CFG.LEN [12]. -/
def ENC_SSI_CFG_LEN : Fd := { page := 0x16, off := 0x44, hi := 16, lo := 11, acc := .RW, cls := .S, reset := 25, n1 := 16, chk := (.u 10 32) }
/-- ENC_SSI_CFG.START [12]. -/
def ENC_SSI_CFG_START : Fd := { page := 0x16, off := 0x44, hi := 18, lo := 17, acc := .RW, cls := .S, reset := 1, n1 := 16, chk := (.u 0 2) }
/-- ENC_SSI_CFG.ERR_BIT [12]. -/
def ENC_SSI_CFG_ERR_BIT : Fd := { page := 0x16, off := 0x44, hi := 19, lo := 19, acc := .RW, cls := .S, reset := 0, n1 := 16 }
/-- ENC_SSI_CFG.GRAY [12]. -/
def ENC_SSI_CFG_GRAY : Fd := { page := 0x16, off := 0x44, hi := 20, lo := 20, acc := .RW, cls := .S, reset := 0, n1 := 16 }
/-- ENC_SSI_CFG.CRC [12]. -/
def ENC_SSI_CFG_CRC : Fd := { page := 0x16, off := 0x44, hi := 22, lo := 21, acc := .RW, cls := .S, reset := 0, n1 := 16, chk := (.u 0 2) }
/-- ENC_SSI_MONO.MONO [12]. -/
def ENC_SSI_MONO_MONO : Fd := { page := 0x16, off := 0x48, hi := 7, lo := 0, acc := .RW, cls := .S, reset := 20, n1 := 16, chk := (.u 1 255) }
/-- ENC_SSI_WORD.WORD [12]. -/
def ENC_SSI_WORD_WORD : Fd := { page := 0x16, off := 0x4c, hi := 31, lo := 0, acc := .RO, cls := .RO, reset := 0, n1 := 16 }
/-- ENC_SSI_STAT.FAIL [12]. -/
def ENC_SSI_STAT_FAIL : Fd := { page := 0x16, off := 0x50, hi := 0, lo := 0, acc := .RO, cls := .RO, reset := 0, n1 := 16 }
/-- ENC_SSI_STAT.CAUSE [12]. -/
def ENC_SSI_STAT_CAUSE : Fd := { page := 0x16, off := 0x50, hi := 2, lo := 1, acc := .RO, cls := .RO, reset := 0, n1 := 16 }
/-- ENC_SSI_STAT.OVERRUN [12]. -/
def ENC_SSI_STAT_OVERRUN : Fd := { page := 0x16, off := 0x50, hi := 15, lo := 8, acc := .RO, cls := .RO, reset := 0, n1 := 16 }
/-- ENC_SSI_STAT.FAILS [12]. -/
def ENC_SSI_STAT_FAILS : Fd := { page := 0x16, off := 0x50, hi := 31, lo := 16, acc := .RO, cls := .RO, reset := 0, n1 := 16 }
/-- ENC_QD_SEL.PORT [12]. -/
def ENC_QD_SEL_PORT : Fd := { page := 0x16, off := 0x60, hi := 3, lo := 0, acc := .RW, cls := .L, reset := 0, grd := .max 7 }
/-- ENC_QD_CFG.EN [12]. -/
def ENC_QD_CFG_EN : Fd := { page := 0x16, off := 0x64, hi := 0, lo := 0, acc := .RW, cls := .S, reset := 0, n1 := 16 }
/-- ENC_QD_CFG.FILT [12]. -/
def ENC_QD_CFG_FILT : Fd := { page := 0x16, off := 0x64, hi := 4, lo := 1, acc := .RW, cls := .S, reset := 1, n1 := 16, chk := (.u 1 15) }
/-- ENC_QD_CFG.DIR_INV [12]. -/
def ENC_QD_CFG_DIR_INV : Fd := { page := 0x16, off := 0x64, hi := 5, lo := 5, acc := .RW, cls := .S, reset := 0, n1 := 16 }
/-- ENC_QD_CFG.IDX_MODE [12]. -/
def ENC_QD_CFG_IDX_MODE : Fd := { page := 0x16, off := 0x64, hi := 7, lo := 6, acc := .RW, cls := .S, reset := 0, n1 := 16, chk := (.u 0 2) }
/-- ENC_QD_CFG.ILL_LIMIT [12]. -/
def ENC_QD_CFG_ILL_LIMIT : Fd := { page := 0x16, off := 0x64, hi := 31, lo := 16, acc := .RW, cls := .B, reset := 10, n1 := 16 }
/-- ENC_QD_COUNT.COUNT [12]. -/
def ENC_QD_COUNT_COUNT : Fd := { page := 0x16, off := 0x68, hi := 31, lo := 0, acc := .RO, cls := .RO, reset := 0, n1 := 16 }
/-- ENC_QD_IDX.IDX [12]. -/
def ENC_QD_IDX_IDX : Fd := { page := 0x16, off := 0x6c, hi := 31, lo := 0, acc := .RO, cls := .RO, reset := 0, n1 := 16 }
/-- ENC_QD_STAT.ILLEGAL [12]. -/
def ENC_QD_STAT_ILLEGAL : Fd := { page := 0x16, off := 0x70, hi := 0, lo := 0, acc := .W1C, cls := .W1C, reset := 0, n1 := 16 }
/-- ENC_QD_STAT.ENC_FAULT [12]. -/
def ENC_QD_STAT_ENC_FAULT : Fd := { page := 0x16, off := 0x70, hi := 1, lo := 1, acc := .RO, cls := .RO, reset := 0, n1 := 16 }
/-- ENC_QD_STAT.DIR [12]. -/
def ENC_QD_STAT_DIR : Fd := { page := 0x16, off := 0x70, hi := 2, lo := 2, acc := .RO, cls := .RO, reset := 0, n1 := 16 }
/-- ENC_QD_STAT.DIR_CHANGE [12]. -/
def ENC_QD_STAT_DIR_CHANGE : Fd := { page := 0x16, off := 0x70, hi := 3, lo := 3, acc := .W1C, cls := .W1C, reset := 0, n1 := 16 }
/-- ENC_QD_STAT.COMPARE_BEHIND [12]. -/
def ENC_QD_STAT_COMPARE_BEHIND : Fd := { page := 0x16, off := 0x70, hi := 4, lo := 4, acc := .RO, cls := .RO, reset := 0, n1 := 16 }
/-- ENC_QD_STAT.ARMED [12]. -/
def ENC_QD_STAT_ARMED : Fd := { page := 0x16, off := 0x70, hi := 5, lo := 5, acc := .RO, cls := .RO, reset := 0, n1 := 16 }
/-- ENC_QD_STAT.IDX_SEEN [12]. -/
def ENC_QD_STAT_IDX_SEEN : Fd := { page := 0x16, off := 0x70, hi := 6, lo := 6, acc := .W1C, cls := .W1C, reset := 0, n1 := 16 }
/-- ENC_QD_STAT.ILL_COUNT [12]. -/
def ENC_QD_STAT_ILL_COUNT : Fd := { page := 0x16, off := 0x70, hi := 31, lo := 16, acc := .RO, cls := .RO, reset := 0, n1 := 16 }
/-- ENC_QD_CMP.CMP [12]. -/
def ENC_QD_CMP_CMP : Fd := { page := 0x16, off := 0x74, hi := 31, lo := 0, acc := .RW, cls := .B, reset := 0, n1 := 16 }
/-- ENC_QD_CMP_CTL.ARM [12]. -/
def ENC_QD_CMP_CTL_ARM : Fd := { page := 0x16, off := 0x78, hi := 0, lo := 0, acc := .RW, cls := .B, reset := 0, n1 := 16 }
/-- ENC_QD_CMP_CTL.CMP_IMMEDIATE [12]. -/
def ENC_QD_CMP_CTL_CMP_IMMEDIATE : Fd := { page := 0x16, off := 0x78, hi := 1, lo := 1, acc := .RW, cls := .B, reset := 0, n1 := 16 }
/-- ENC_QD_CMP_CTL.PULSE_DOUT [12]. -/
def ENC_QD_CMP_CTL_PULSE_DOUT : Fd := { page := 0x16, off := 0x78, hi := 6, lo := 2, acc := .RW, cls := .B, reset := 0, n1 := 16 }
/-- ENC_QD_CMP_CTL.PULSE_EN [12]. -/
def ENC_QD_CMP_CTL_PULSE_EN : Fd := { page := 0x16, off := 0x78, hi := 7, lo := 7, acc := .RW, cls := .B, reset := 0, n1 := 16 }
/-- ENC_QD_CMP_CTL.PULSE_W [12]. -/
def ENC_QD_CMP_CTL_PULSE_W : Fd := { page := 0x16, off := 0x78, hi := 23, lo := 8, acc := .RW, cls := .B, reset := 10, n1 := 16, chk := (.u 1 65535) }
/-- ENC_QD_CMP_TIME_LO.V [12]. -/
def ENC_QD_CMP_TIME_LO_V : Fd := { page := 0x16, off := 0x7c, hi := 31, lo := 0, acc := .RO, cls := .RO, reset := 0, n1 := 16 }
/-- ENC_QD_CMP_TIME_HI.V [12]. -/
def ENC_QD_CMP_TIME_HI_V : Fd := { page := 0x16, off := 0x80, hi := 31, lo := 0, acc := .RO, cls := .RO, reset := 0, n1 := 16 }
/-- ENC_EMU_SEL.OUT [12]. -/
def ENC_EMU_SEL_OUT : Fd := { page := 0x16, off := 0x90, hi := 2, lo := 0, acc := .RW, cls := .L, reset := 0, grd := .max 3 }
/-- ENC_EMU_CFG.EN [12]. -/
def ENC_EMU_CFG_EN : Fd := { page := 0x16, off := 0x94, hi := 0, lo := 0, acc := .RW, cls := .S, reset := 0, n1 := 8 }
/-- ENC_EMU_CFG.SRC_KIND [12]. -/
def ENC_EMU_CFG_SRC_KIND : Fd := { page := 0x16, off := 0x94, hi := 1, lo := 1, acc := .RW, cls := .S, reset := 0, n1 := 8 }
/-- ENC_EMU_CFG.SRC [12]. -/
def ENC_EMU_CFG_SRC : Fd := { page := 0x16, off := 0x94, hi := 5, lo := 2, acc := .RW, cls := .S, reset := 0, n1 := 8 }
/-- ENC_EMU_CFG.IDX_PASS [12]. -/
def ENC_EMU_CFG_IDX_PASS : Fd := { page := 0x16, off := 0x94, hi := 6, lo := 6, acc := .RW, cls := .S, reset := 0, n1 := 8 }
/-- ENC_EMU_CFG.MIN_GAP [12]. -/
def ENC_EMU_CFG_MIN_GAP : Fd := { page := 0x16, off := 0x94, hi := 15, lo := 8, acc := .RW, cls := .S, reset := 4, n1 := 8, chk := (.u 4 255) }
/-- ENC_EMU_RATIO.M [12]. -/
def ENC_EMU_RATIO_M : Fd := { page := 0x16, off := 0x98, hi := 15, lo := 0, acc := .RW, cls := .S, reset := 1, n1 := 8, chk := (.u 1 65535) }
/-- ENC_EMU_RATIO.N [12]. -/
def ENC_EMU_RATIO_N : Fd := { page := 0x16, off := 0x98, hi := 31, lo := 16, acc := .RW, cls := .S, reset := 1, n1 := 8, chk := (.u 1 65535) }
/-- ENC_EMU_STAT.PENDING [12]. -/
def ENC_EMU_STAT_PENDING : Fd := { page := 0x16, off := 0x9c, hi := 4, lo := 0, acc := .RO, cls := .RO, reset := 0, n1 := 8 }
/-- ENC_EMU_STAT.OVERRUNS [12]. -/
def ENC_EMU_STAT_OVERRUNS : Fd := { page := 0x16, off := 0x9c, hi := 31, lo := 16, acc := .RO, cls := .RO, reset := 0, n1 := 8 }
/-- DIO_DIN_RAW.RAW [12]. -/
def DIO_DIN_RAW_RAW : Fd := { page := 0x17, off := 0x40, hi := 31, lo := 0, acc := .RO, cls := .RO, reset := 0 }
/-- DIO_DIN.DIN [12]. -/
def DIO_DIN_DIN : Fd := { page := 0x17, off := 0x44, hi := 31, lo := 0, acc := .RO, cls := .RO, reset := 0 }
/-- DIO_DIN_POL.POL [12]. -/
def DIO_DIN_POL_POL : Fd := { page := 0x17, off := 0x48, hi := 31, lo := 0, acc := .RW, cls := .S, reset := 0 }
/-- DIO_DEB_SEL.IN [12]. -/
def DIO_DEB_SEL_IN : Fd := { page := 0x17, off := 0x4c, hi := 4, lo := 0, acc := .RW, cls := .L, reset := 0 }
/-- DIO_DEB.DEB [12]. -/
def DIO_DEB_DEB : Fd := { page := 0x17, off := 0x50, hi := 13, lo := 0, acc := .RW, cls := .S, reset := 100, n1 := 32, chk := (.u 10 10000) }
/-- DIO_DIN_IRQ_EN.IRQ_EN [12]. -/
def DIO_DIN_IRQ_EN_IRQ_EN : Fd := { page := 0x17, off := 0x54, hi := 31, lo := 0, acc := .RW, cls := .L, reset := 0 }
/-- DIO_DOUT.DOUT [12]. -/
def DIO_DOUT_DOUT : Fd := { page := 0x17, off := 0x58, hi := 31, lo := 0, acc := .RW, cls := .L, reset := 0 }
/-- DIO_DOUT_FAIL.FAIL [12]. -/
def DIO_DOUT_FAIL_FAIL : Fd := { page := 0x17, off := 0x5c, hi := 31, lo := 0, acc := .RW, cls := .S, reset := 0 }
/-- DIO_DOUT_STAT.LEVEL [12]. -/
def DIO_DOUT_STAT_LEVEL : Fd := { page := 0x17, off := 0x60, hi := 31, lo := 0, acc := .RO, cls := .RO, reset := 0 }
/-- CAN_NBT.NBRP [13]. -/
def CAN_NBT_NBRP : Fd := { page := 0x18, off := 0x40, hi := 8, lo := 0, acc := .RW, cls := .S, reset := 1, chk := (.u 1 511) }
/-- CAN_NBT.NTSEG1 [13]. -/
def CAN_NBT_NTSEG1 : Fd := { page := 0x18, off := 0x40, hi := 17, lo := 9, acc := .RW, cls := .S, reset := 63, chk := (.u 2 256) }
/-- CAN_NBT.NTSEG2 [13]. -/
def CAN_NBT_NTSEG2 : Fd := { page := 0x18, off := 0x40, hi := 24, lo := 18, acc := .RW, cls := .S, reset := 16, chk := (.u 2 127) }
/-- CAN_NBT.NSJW [13]. -/
def CAN_NBT_NSJW : Fd := { page := 0x18, off := 0x40, hi := 31, lo := 25, acc := .RW, cls := .S, reset := 16, chk := (.u 1 127) }
/-- CAN_DBT.DBRP [13]. -/
def CAN_DBT_DBRP : Fd := { page := 0x18, off := 0x44, hi := 4, lo := 0, acc := .RW, cls := .S, reset := 1, chk := (.u 1 31) }
/-- CAN_DBT.DTSEG1 [13]. -/
def CAN_DBT_DTSEG1 : Fd := { page := 0x18, off := 0x44, hi := 9, lo := 5, acc := .RW, cls := .S, reset := 6, chk := (.u 1 31) }
/-- CAN_DBT.DTSEG2 [13]. -/
def CAN_DBT_DTSEG2 : Fd := { page := 0x18, off := 0x44, hi := 13, lo := 10, acc := .RW, cls := .S, reset := 3, chk := (.u 1 15) }
/-- CAN_DBT.DSJW [13]. -/
def CAN_DBT_DSJW : Fd := { page := 0x18, off := 0x44, hi := 17, lo := 14, acc := .RW, cls := .S, reset := 3, chk := (.u 1 15) }
/-- CAN_DBT.TDC_EN [13]. -/
def CAN_DBT_TDC_EN : Fd := { page := 0x18, off := 0x44, hi := 18, lo := 18, acc := .RW, cls := .S, reset := 1 }
/-- CAN_DBT.TDCO [13]. -/
def CAN_DBT_TDCO : Fd := { page := 0x18, off := 0x44, hi := 25, lo := 19, acc := .RW, cls := .S, reset := 7 }
/-- CAN_MODE.FD_EN [13]. -/
def CAN_MODE_FD_EN : Fd := { page := 0x18, off := 0x48, hi := 0, lo := 0, acc := .RW, cls := .S, reset := 1 }
/-- CAN_MODE.BRS_EN [13]. -/
def CAN_MODE_BRS_EN : Fd := { page := 0x18, off := 0x48, hi := 1, lo := 1, acc := .RW, cls := .S, reset := 1 }
/-- CAN_MODE.NISO [13]. -/
def CAN_MODE_NISO : Fd := { page := 0x18, off := 0x48, hi := 2, lo := 2, acc := .RW, cls := .S, reset := 0 }
/-- CAN_MODE.LISTEN [13]. -/
def CAN_MODE_LISTEN : Fd := { page := 0x18, off := 0x48, hi := 3, lo := 3, acc := .RW, cls := .S, reset := 0 }
/-- CAN_MODE.LOOPBACK [13]. -/
def CAN_MODE_LOOPBACK : Fd := { page := 0x18, off := 0x48, hi := 4, lo := 4, acc := .RW, cls := .S, reset := 0 }
/-- CAN_MODE.DAR [13]. -/
def CAN_MODE_DAR : Fd := { page := 0x18, off := 0x48, hi := 5, lo := 5, acc := .RW, cls := .S, reset := 0 }
/-- CAN_MODE.AUTO_RECOV [13]. -/
def CAN_MODE_AUTO_RECOV : Fd := { page := 0x18, off := 0x48, hi := 6, lo := 6, acc := .RW, cls := .S, reset := 1 }
/-- CAN_PSTAT.STATE [13]. -/
def CAN_PSTAT_STATE : Fd := { page := 0x18, off := 0x4c, hi := 1, lo := 0, acc := .RO, cls := .RO, reset := 0 }
/-- CAN_PSTAT.WARN [13]. -/
def CAN_PSTAT_WARN : Fd := { page := 0x18, off := 0x4c, hi := 2, lo := 2, acc := .RO, cls := .RO, reset := 0 }
/-- CAN_PSTAT.LEC [13]. -/
def CAN_PSTAT_LEC : Fd := { page := 0x18, off := 0x4c, hi := 5, lo := 3, acc := .RO, cls := .RO, reset := 0 }
/-- CAN_PSTAT.TEC [13]. -/
def CAN_PSTAT_TEC : Fd := { page := 0x18, off := 0x4c, hi := 15, lo := 8, acc := .RO, cls := .RO, reset := 0 }
/-- CAN_PSTAT.REC [13]. -/
def CAN_PSTAT_REC : Fd := { page := 0x18, off := 0x4c, hi := 22, lo := 16, acc := .RO, cls := .RO, reset := 0 }
/-- CAN_PSTAT.PXE [13]. -/
def CAN_PSTAT_PXE : Fd := { page := 0x18, off := 0x4c, hi := 23, lo := 23, acc := .RO, cls := .RO, reset := 0 }
/-- CAN_PSTAT.TDCV [13]. -/
def CAN_PSTAT_TDCV : Fd := { page := 0x18, off := 0x4c, hi := 30, lo := 24, acc := .RO, cls := .RO, reset := 0 }
/-- CAN_CMD.RESTART [13]. -/
def CAN_CMD_RESTART : Fd := { page := 0x18, off := 0x50, hi := 0, lo := 0, acc := .WO, cls := .L, reset := 0, act := true }
/-- CAN_CMD.PUT [13]. -/
def CAN_CMD_PUT : Fd := { page := 0x18, off := 0x50, hi := 1, lo := 1, acc := .WO, cls := .L, reset := 0, act := true }
/-- CAN_TSC.TSC [13]. -/
def CAN_TSC_TSC : Fd := { page := 0x18, off := 0x54, hi := 31, lo := 0, acc := .RO, cls := .RO, reset := 0 }
/-- CAN_TXREQ.REQ [13]. -/
def CAN_TXREQ_REQ : Fd := { page := 0x18, off := 0x60, hi := 31, lo := 0, acc := .WO, cls := .L, reset := 0, cnt := 2, stride := 4, act := true }
/-- CAN_TXPEND.PEND [13]. -/
def CAN_TXPEND_PEND : Fd := { page := 0x18, off := 0x68, hi := 31, lo := 0, acc := .RO, cls := .RO, reset := 0, cnt := 2, stride := 4 }
/-- CAN_TXCANCEL.BUF [13]. -/
def CAN_TXCANCEL_BUF : Fd := { page := 0x18, off := 0x70, hi := 5, lo := 0, acc := .WO, cls := .L, reset := 0, act := true }
/-- CAN_TXLOG_STAT.FILL [13]. -/
def CAN_TXLOG_STAT_FILL : Fd := { page := 0x18, off := 0x74, hi := 5, lo := 0, acc := .RO, cls := .RO, reset := 0 }
/-- CAN_TXLOG_STAT.GET [13]. -/
def CAN_TXLOG_STAT_GET : Fd := { page := 0x18, off := 0x74, hi := 12, lo := 8, acc := .RO, cls := .RO, reset := 0 }
/-- CAN_TXLOG_STAT.PUT_BUSY [13]. -/
def CAN_TXLOG_STAT_PUT_BUSY : Fd := { page := 0x18, off := 0x74, hi := 31, lo := 16, acc := .RO, cls := .RO, reset := 0 }
/-- CAN_TXLOG_ACK.IDX [13]. -/
def CAN_TXLOG_ACK_IDX : Fd := { page := 0x18, off := 0x78, hi := 4, lo := 0, acc := .WO, cls := .L, reset := 0, act := true }
/-- CAN_LATE_MAX.LATE_MAX [13]. -/
def CAN_LATE_MAX_LATE_MAX : Fd := { page := 0x18, off := 0x7c, hi := 15, lo := 0, acc := .RW, cls := .S, reset := 100, grd := .max 0 }
/-- CAN_RXF_CFG.WM [13]. -/
def CAN_RXF_CFG_WM : Fd := { page := 0x18, off := 0x80, hi := 6, lo := 0, acc := .RW, cls := .L, reset := 1, cnt := 2, stride := 12, chk := (.u 1 64) }
/-- CAN_RXF_CFG.OVERWRITE [13]. -/
def CAN_RXF_CFG_OVERWRITE : Fd := { page := 0x18, off := 0x80, hi := 7, lo := 7, acc := .RW, cls := .S, reset := 0, cnt := 2, stride := 12 }
/-- CAN_RXF_STAT.FILL [13]. -/
def CAN_RXF_STAT_FILL : Fd := { page := 0x18, off := 0x84, hi := 6, lo := 0, acc := .RO, cls := .RO, reset := 0, cnt := 2, stride := 12 }
/-- CAN_RXF_STAT.GET [13]. -/
def CAN_RXF_STAT_GET : Fd := { page := 0x18, off := 0x84, hi := 13, lo := 8, acc := .RO, cls := .RO, reset := 0, cnt := 2, stride := 12 }
/-- CAN_RXF_STAT.PUT [13]. -/
def CAN_RXF_STAT_PUT : Fd := { page := 0x18, off := 0x84, hi := 21, lo := 16, acc := .RO, cls := .RO, reset := 0, cnt := 2, stride := 12 }
/-- CAN_RXF_STAT.LOST [13]. -/
def CAN_RXF_STAT_LOST : Fd := { page := 0x18, off := 0x84, hi := 31, lo := 24, acc := .RO, cls := .RO, reset := 0, cnt := 2, stride := 12 }
/-- CAN_RXF_ACK.IDX [13]. -/
def CAN_RXF_ACK_IDX : Fd := { page := 0x18, off := 0x88, hi := 5, lo := 0, acc := .WO, cls := .L, reset := 0, cnt := 2, stride := 12, act := true }
/-- CAN_RX_CNT.NOMATCH [13]. -/
def CAN_RX_CNT_NOMATCH : Fd := { page := 0x18, off := 0x98, hi := 15, lo := 0, acc := .RO, cls := .RO, reset := 0 }
/-- CAN_RX_CNT.REMOTE [13]. -/
def CAN_RX_CNT_REMOTE : Fd := { page := 0x18, off := 0x98, hi := 31, lo := 16, acc := .RO, cls := .RO, reset := 0 }
/-- CAN_MRAM_SEL.REGION [13]. -/
def CAN_MRAM_SEL_REGION : Fd := { page := 0x18, off := 0xa0, hi := 2, lo := 0, acc := .RW, cls := .L, reset := 0, chk := (.u 0 4) }
/-- CAN_MRAM_SEL.INDEX [13]. -/
def CAN_MRAM_SEL_INDEX : Fd := { page := 0x18, off := 0xa0, hi := 13, lo := 8, acc := .RW, cls := .L, reset := 0 }
/-- CAN_DB_SNAP.SNAP [13]. -/
def CAN_DB_SNAP_SNAP : Fd := { page := 0x18, off := 0xa4, hi := 31, lo := 0, acc := .WO, cls := .L, reset := 0, cnt := 2, stride := 4, act := true }
/-- CAN_DB_NEW.NEW [13]. -/
def CAN_DB_NEW_NEW : Fd := { page := 0x18, off := 0xac, hi := 31, lo := 0, acc := .W1C, cls := .W1C, reset := 0, cnt := 2, stride := 4 }
/-- CAN_DB_IRQ_EN.EN [13]. -/
def CAN_DB_IRQ_EN_EN : Fd := { page := 0x18, off := 0xb4, hi := 31, lo := 0, acc := .RW, cls := .L, reset := 0, cnt := 2, stride := 4 }
/-- CAN_FLT_CFG.BASE [13]. -/
def CAN_FLT_CFG_BASE : Fd := { page := 0x18, off := 0xc0, hi := 10, lo := 0, acc := .RW, cls := .S, reset := 0 }
/-- CAN_FLT_CFG.COUNT [13]. -/
def CAN_FLT_CFG_COUNT : Fd := { page := 0x18, off := 0xc0, hi := 19, lo := 11, acc := .RW, cls := .S, reset := 0, chk := (.u 0 256) }
/-- CAN_FLT_CFG.NOMATCH_STD [13]. -/
def CAN_FLT_CFG_NOMATCH_STD : Fd := { page := 0x18, off := 0xc0, hi := 21, lo := 20, acc := .RW, cls := .S, reset := 2, chk := (.u 0 2) }
/-- CAN_FLT_CFG.NOMATCH_XTD [13]. -/
def CAN_FLT_CFG_NOMATCH_XTD : Fd := { page := 0x18, off := 0xc0, hi := 23, lo := 22, acc := .RW, cls := .S, reset := 2, chk := (.u 0 2) }
/-- CAN_FLT_SEL.ENTRY [13]. -/
def CAN_FLT_SEL_ENTRY : Fd := { page := 0x18, off := 0xc4, hi := 7, lo := 0, acc := .RW, cls := .L, reset := 0 }
/-- CAN_FLT_KEY.KEY [13]. -/
def CAN_FLT_KEY_KEY : Fd := { page := 0x18, off := 0xc8, hi := 28, lo := 0, acc := .RW, cls := .L, reset := 0, n1 := 256, act := true }
/-- CAN_FLT_SPAN.SPAN [13]. -/
def CAN_FLT_SPAN_SPAN : Fd := { page := 0x18, off := 0xcc, hi := 28, lo := 0, acc := .RW, cls := .L, reset := 0, n1 := 256, act := true }
/-- CAN_FLT_CTRL.CONTROL [13]. -/
def CAN_FLT_CTRL_CONTROL : Fd := { page := 0x18, off := 0xd0, hi := 13, lo := 0, acc := .RW, cls := .L, reset := 0, n1 := 256, act := true }
/-- CAN_SB_CFG.EN [13]. -/
def CAN_SB_CFG_EN : Fd := { page := 0x18, off := 0xe0, hi := 0, lo := 0, acc := .RW, cls := .B, reset := 0 }
/-- CAN_SB_CFG.ROLE [13]. -/
def CAN_SB_CFG_ROLE : Fd := { page := 0x18, off := 0xe0, hi := 2, lo := 1, acc := .RW, cls := .B, reset := 2, chk := (.u 0 2) }
/-- CAN_SB_CFG.ALIGN [13]. -/
def CAN_SB_CFG_ALIGN : Fd := { page := 0x18, off := 0xe0, hi := 3, lo := 3, acc := .RW, cls := .B, reset := 1 }
/-- CAN_SB_CFG.NROW_LOG2 [13]. -/
def CAN_SB_CFG_NROW_LOG2 : Fd := { page := 0x18, off := 0xe0, hi := 6, lo := 4, acc := .RW, cls := .B, reset := 0, chk := (.u 0 6) }
/-- CAN_SB_CFG.NCOL_M1 [13]. -/
def CAN_SB_CFG_NCOL_M1 : Fd := { page := 0x18, off := 0xe0, hi := 11, lo := 7, acc := .RW, cls := .B, reset := 0 }
/-- CAN_SB_CFG.REF_BUF [13]. -/
def CAN_SB_CFG_REF_BUF : Fd := { page := 0x18, off := 0xe0, hi := 17, lo := 12, acc := .RW, cls := .B, reset := 0 }
/-- CAN_SB_LEN.BC_LEN [13]. -/
def CAN_SB_LEN_BC_LEN : Fd := { page := 0x18, off := 0xe4, hi := 15, lo := 0, acc := .RW, cls := .B, reset := 10000, chk := (.u 200 20000) }
/-- CAN_SB_LEN.REF_OFS [13]. -/
def CAN_SB_LEN_REF_OFS : Fd := { page := 0x18, off := 0xe4, hi := 31, lo := 16, acc := .RW, cls := .B, reset := 7920 }
/-- CAN_SB_COL_SEL.COL [13]. -/
def CAN_SB_COL_SEL_COL : Fd := { page := 0x18, off := 0xe8, hi := 4, lo := 0, acc := .RW, cls := .L, reset := 0 }
/-- CAN_SB_COL.START [13]. -/
def CAN_SB_COL_START : Fd := { page := 0x18, off := 0xec, hi := 15, lo := 0, acc := .RW, cls := .B, reset := 0, n1 := 32 }
/-- CAN_SB_COL.TOL [13]. -/
def CAN_SB_COL_TOL : Fd := { page := 0x18, off := 0xec, hi := 31, lo := 16, acc := .RW, cls := .B, reset := 10 }
/-- CAN_SB_CELL_SEL.ROW [13]. -/
def CAN_SB_CELL_SEL_ROW : Fd := { page := 0x18, off := 0xf0, hi := 5, lo := 0, acc := .RW, cls := .L, reset := 0 }
/-- CAN_SB_CELL_SEL.COL [13]. -/
def CAN_SB_CELL_SEL_COL : Fd := { page := 0x18, off := 0xf0, hi := 12, lo := 8, acc := .RW, cls := .L, reset := 0 }
/-- CAN_SB_CELL.TYPE [13]. -/
def CAN_SB_CELL_TYPE : Fd := { page := 0x18, off := 0xf4, hi := 2, lo := 0, acc := .RW, cls := .B, reset := 0, n1 := 64, n2 := 32, chk := (.u 0 5) }
/-- CAN_SB_CELL.BUF [13]. -/
def CAN_SB_CELL_BUF : Fd := { page := 0x18, off := 0xf4, hi := 8, lo := 3, acc := .RW, cls := .B, reset := 0, n1 := 64, n2 := 32 }
/-- CAN_SB_STAT.STATE [13]. -/
def CAN_SB_STAT_STATE : Fd := { page := 0x18, off := 0xf8, hi := 1, lo := 0, acc := .RO, cls := .RO, reset := 0 }
/-- CAN_SB_STAT.CYCLE [13]. -/
def CAN_SB_STAT_CYCLE : Fd := { page := 0x18, off := 0xf8, hi := 7, lo := 2, acc := .RO, cls := .RO, reset := 0 }
/-- CAN_SB_STAT.REF_MISS [13]. -/
def CAN_SB_STAT_REF_MISS : Fd := { page := 0x18, off := 0xf8, hi := 15, lo := 8, acc := .RO, cls := .RO, reset := 0 }
/-- CAN_SB_STAT.WIN_MISS [13]. -/
def CAN_SB_STAT_WIN_MISS : Fd := { page := 0x18, off := 0xf8, hi := 23, lo := 16, acc := .RO, cls := .RO, reset := 0 }
/-- CAN_SB_STAT.RXCHK_MISS [13]. -/
def CAN_SB_STAT_RXCHK_MISS : Fd := { page := 0x18, off := 0xf8, hi := 31, lo := 24, acc := .RO, cls := .RO, reset := 0 }
/-- CAN_SB_OCC.EMPTY_RUN [13]. -/
def CAN_SB_OCC_EMPTY_RUN : Fd := { page := 0x18, off := 0xfc, hi := 7, lo := 0, acc := .RO, cls := .RO, reset := 0 }
/-- CAN_SB_OCC.OCC [13]. -/
def CAN_SB_OCC_OCC : Fd := { page := 0x18, off := 0xfc, hi := 8, lo := 8, acc := .RO, cls := .RO, reset := 0 }
/-- CAN_SB_OCC.CMD_ACTIVE [13]. -/
def CAN_SB_OCC_CMD_ACTIVE : Fd := { page := 0x18, off := 0xfc, hi := 9, lo := 9, acc := .RO, cls := .RO, reset := 0 }
/-- CAN_SLOT_SEL.SLOT [13]. -/
def CAN_SLOT_SEL_SLOT : Fd := { page := 0x18, off := 0x100, hi := 4, lo := 0, acc := .RW, cls := .L, reset := 0 }
/-- CAN_SLOT_CFG.EN [13]. -/
def CAN_SLOT_CFG_EN : Fd := { page := 0x18, off := 0x104, hi := 0, lo := 0, acc := .RW, cls := .S, reset := 0, n1 := 32 }
/-- CAN_SLOT_CFG.BUF [13]. -/
def CAN_SLOT_CFG_BUF : Fd := { page := 0x18, off := 0x104, hi := 6, lo := 1, acc := .RW, cls := .S, reset := 0, n1 := 32 }
/-- CAN_SLOT_CFG.OFS [13]. -/
def CAN_SLOT_CFG_OFS : Fd := { page := 0x18, off := 0x104, hi := 12, lo := 7, acc := .RW, cls := .S, reset := 0, n1 := 32 }
/-- CAN_SLOT_CFG.FMT [13]. -/
def CAN_SLOT_CFG_FMT : Fd := { page := 0x18, off := 0x104, hi := 14, lo := 13, acc := .RW, cls := .S, reset := 0, n1 := 32, chk := (.u 0 2) }
/-- CAN_SLOT_CFG.VALUE [13]. -/
def CAN_SLOT_CFG_VALUE : Fd := { page := 0x18, off := 0x104, hi := 15, lo := 15, acc := .RW, cls := .S, reset := 0, n1 := 32 }
/-- CAN_SLOT_CFG.FAIL [13]. -/
def CAN_SLOT_CFG_FAIL : Fd := { page := 0x18, off := 0x104, hi := 16, lo := 16, acc := .RW, cls := .S, reset := 0, n1 := 32 }
/-- CAN_SLOT_SCALE.SCALE [13]. -/
def CAN_SLOT_SCALE_SCALE : Fd := { page := 0x18, off := 0x108, hi := 31, lo := 0, acc := .RW, cls := .S, reset := 1065353216, n1 := 32, chk := .fin }
/-- CAN_STS_SEL.SLOT [13]. -/
def CAN_STS_SEL_SLOT : Fd := { page := 0x18, off := 0x110, hi := 4, lo := 0, acc := .RW, cls := .L, reset := 0 }
/-- CAN_STS_CFG.EN [13]. -/
def CAN_STS_CFG_EN : Fd := { page := 0x18, off := 0x114, hi := 0, lo := 0, acc := .RW, cls := .S, reset := 0, n1 := 32 }
/-- CAN_STS_CFG.DB [13]. -/
def CAN_STS_CFG_DB : Fd := { page := 0x18, off := 0x114, hi := 6, lo := 1, acc := .RW, cls := .S, reset := 0, n1 := 32 }
/-- CAN_STS_CFG.OFS [13]. -/
def CAN_STS_CFG_OFS : Fd := { page := 0x18, off := 0x114, hi := 12, lo := 7, acc := .RW, cls := .S, reset := 0, n1 := 32 }
/-- CAN_STS_CFG.FMT [13]. -/
def CAN_STS_CFG_FMT : Fd := { page := 0x18, off := 0x114, hi := 14, lo := 13, acc := .RW, cls := .S, reset := 0, n1 := 32, chk := (.u 0 2) }
/-- CAN_STS_CFG.THR [13]. -/
def CAN_STS_CFG_THR : Fd := { page := 0x18, off := 0x114, hi := 18, lo := 15, acc := .RW, cls := .S, reset := 0, n1 := 32 }
/-- CAN_STS_CFG.READY_BYTE [13]. -/
def CAN_STS_CFG_READY_BYTE : Fd := { page := 0x18, off := 0x114, hi := 24, lo := 19, acc := .RW, cls := .S, reset := 0, n1 := 32 }
/-- CAN_STS_CFG.READY_BIT [13]. -/
def CAN_STS_CFG_READY_BIT : Fd := { page := 0x18, off := 0x114, hi := 27, lo := 25, acc := .RW, cls := .S, reset := 0, n1 := 32 }
/-- CAN_STS_CFG.READY_EN [13]. -/
def CAN_STS_CFG_READY_EN : Fd := { page := 0x18, off := 0x114, hi := 28, lo := 28, acc := .RW, cls := .S, reset := 0, n1 := 32 }
/-- CAN_STS_SCALE.SCALE [13]. -/
def CAN_STS_SCALE_SCALE : Fd := { page := 0x18, off := 0x118, hi := 31, lo := 0, acc := .RW, cls := .S, reset := 1065353216, n1 := 32, chk := .fin }
/-- CAN_ELEM.W [13]. -/
def CAN_ELEM_W : Fd := { page := 0x18, off := 0x400, hi := 31, lo := 0, acc := .RW, cls := .L, reset := 0, cnt := 20, stride := 4, act := true }
/-- E2E_SEL.CTX [13]. -/
def E2E_SEL_CTX : Fd := { page := 0x20, off := 0x40, hi := 3, lo := 0, acc := .RW, cls := .L, reset := 0 }
/-- E2E_CFG.EN [13]. -/
def E2E_CFG_EN : Fd := { page := 0x20, off := 0x44, hi := 0, lo := 0, acc := .RW, cls := .B, reset := 0, n1 := 16 }
/-- E2E_CFG.DIR [13]. -/
def E2E_CFG_DIR : Fd := { page := 0x20, off := 0x44, hi := 1, lo := 1, acc := .RW, cls := .B, reset := 0, n1 := 16 }
/-- E2E_CFG.CRC32 [13]. -/
def E2E_CFG_CRC32 : Fd := { page := 0x20, off := 0x44, hi := 2, lo := 2, acc := .RW, cls := .B, reset := 0, n1 := 16 }
/-- E2E_CFG.CNT8 [13]. -/
def E2E_CFG_CNT8 : Fd := { page := 0x20, off := 0x44, hi := 3, lo := 3, acc := .RW, cls := .B, reset := 0, n1 := 16 }
/-- E2E_CFG.STREAM [13]. -/
def E2E_CFG_STREAM : Fd := { page := 0x20, off := 0x44, hi := 4, lo := 4, acc := .RW, cls := .B, reset := 0, n1 := 16 }
/-- E2E_CFG.STRIP [13]. -/
def E2E_CFG_STRIP : Fd := { page := 0x20, off := 0x44, hi := 5, lo := 5, acc := .RW, cls := .B, reset := 1, n1 := 16 }
/-- E2E_CFG.DROP_BAD [13]. -/
def E2E_CFG_DROP_BAD : Fd := { page := 0x20, off := 0x44, hi := 6, lo := 6, acc := .RW, cls := .B, reset := 1, n1 := 16 }
/-- E2E_CFG.XTD [13]. -/
def E2E_CFG_XTD : Fd := { page := 0x20, off := 0x44, hi := 7, lo := 7, acc := .RW, cls := .B, reset := 0, n1 := 16 }
/-- E2E_CFG.CHANNEL [13]. -/
def E2E_CFG_CHANNEL : Fd := { page := 0x20, off := 0x44, hi := 10, lo := 8, acc := .RW, cls := .B, reset := 0, n1 := 16, grd := .max 3 }
/-- E2E_ID.ID [13]. -/
def E2E_ID_ID : Fd := { page := 0x20, off := 0x48, hi := 28, lo := 0, acc := .RW, cls := .B, reset := 0, n1 := 16 }
/-- E2E_LAYOUT.DATA_ID [13]. -/
def E2E_LAYOUT_DATA_ID : Fd := { page := 0x20, off := 0x4c, hi := 15, lo := 0, acc := .RW, cls := .B, reset := 0, n1 := 16 }
/-- E2E_LAYOUT.PLEN [13]. -/
def E2E_LAYOUT_PLEN : Fd := { page := 0x20, off := 0x4c, hi := 21, lo := 16, acc := .RW, cls := .B, reset := 1, n1 := 16, chk := (.u 1 60) }
/-- E2E_LAYOUT.CNT_POS [13]. -/
def E2E_LAYOUT_CNT_POS : Fd := { page := 0x20, off := 0x4c, hi := 27, lo := 22, acc := .RW, cls := .B, reset := 0, n1 := 16 }
/-- E2E_RX.PAD [13]. -/
def E2E_RX_PAD : Fd := { page := 0x20, off := 0x50, hi := 7, lo := 0, acc := .RW, cls := .B, reset := 204, n1 := 16 }
/-- E2E_RX.MAX_DELTA [13]. -/
def E2E_RX_MAX_DELTA : Fd := { page := 0x20, off := 0x50, hi := 15, lo := 8, acc := .RW, cls := .B, reset := 2, n1 := 16, chk := (.u 2 255) }
/-- E2E_RX.TIMEOUT [13]. -/
def E2E_RX_TIMEOUT : Fd := { page := 0x20, off := 0x50, hi := 31, lo := 16, acc := .RW, cls := .B, reset := 100, n1 := 16, chk := (.u 1 65535) }
/-- E2E_RUN.RUN_CRC [13]. -/
def E2E_RUN_RUN_CRC : Fd := { page := 0x20, off := 0x54, hi := 31, lo := 0, acc := .RW, cls := .L, reset := 65535, n1 := 16, act := true }
/-- E2E_RUN_CNT.COUNT [13]. -/
def E2E_RUN_CNT_COUNT : Fd := { page := 0x20, off := 0x58, hi := 7, lo := 0, acc := .RW, cls := .L, reset := 0, n1 := 16, act := true }
/-- E2E_STAT.RESULT [13]. -/
def E2E_STAT_RESULT : Fd := { page := 0x20, off := 0x5c, hi := 2, lo := 0, acc := .RO, cls := .RO, reset := 0, n1 := 16 }
/-- E2E_STAT.BAD [13]. -/
def E2E_STAT_BAD : Fd := { page := 0x20, off := 0x5c, hi := 23, lo := 16, acc := .RO, cls := .RO, reset := 0, n1 := 16 }
/-- E2E_STAT.GOOD [13]. -/
def E2E_STAT_GOOD : Fd := { page := 0x20, off := 0x5c, hi := 31, lo := 24, acc := .RO, cls := .RO, reset := 0, n1 := 16 }
/-- TIM_SNAP.SNAP [14]. -/
def TIM_SNAP_SNAP : Fd := { page := 0x21, off := 0x40, hi := 0, lo := 0, acc := .WO, cls := .L, reset := 0, act := true }
/-- TIM_TB_SEL.TB [14]. -/
def TIM_TB_SEL_TB : Fd := { page := 0x21, off := 0x44, hi := 1, lo := 0, acc := .RW, cls := .L, reset := 0 }
/-- TIM_TB_NS.NS [14]. -/
def TIM_TB_NS_NS : Fd := { page := 0x21, off := 0x48, hi := 31, lo := 0, acc := .RO, cls := .RO, reset := 0, n1 := 4 }
/-- TIM_TB_SEC_LO.SEC_LO [14]. -/
def TIM_TB_SEC_LO_SEC_LO : Fd := { page := 0x21, off := 0x4c, hi := 31, lo := 0, acc := .RO, cls := .RO, reset := 0, n1 := 4 }
/-- TIM_TB_SEC_HI.SEC_HI [14]. -/
def TIM_TB_SEC_HI_SEC_HI : Fd := { page := 0x21, off := 0x50, hi := 15, lo := 0, acc := .RO, cls := .RO, reset := 0, n1 := 4 }
/-- TIM_TB_INC.FRAC [14]. -/
def TIM_TB_INC_FRAC : Fd := { page := 0x21, off := 0x54, hi := 31, lo := 0, acc := .RW, cls := .B, reset := 0, n1 := 4 }
/-- TIM_TB_INC_INT.INT [14]. -/
def TIM_TB_INC_INT_INT : Fd := { page := 0x21, off := 0x58, hi := 2, lo := 0, acc := .RW, cls := .B, reset := 4, n1 := 4, chk := (.u 3 4) }
/-- TIM_SRV_CFG.MODE [14]. -/
def TIM_SRV_CFG_MODE : Fd := { page := 0x21, off := 0x5c, hi := 1, lo := 0, acc := .RW, cls := .B, reset := 0, n1 := 4, chk := (.u 0 2) }
/-- TIM_SRV_CFG.SRC [14]. -/
def TIM_SRV_CFG_SRC : Fd := { page := 0x21, off := 0x5c, hi := 4, lo := 2, acc := .RW, cls := .B, reset := 0, n1 := 4 }
/-- TIM_SRV_KP.KP [14]. -/
def TIM_SRV_KP_KP : Fd := { page := 0x21, off := 0x60, hi := 31, lo := 0, acc := .RW, cls := .B, reset := 1028443341, n1 := 4, chk := (.f 0x0 0x42c80000 false false) }
/-- TIM_SRV_KI.KI [14]. -/
def TIM_SRV_KI_KI : Fd := { page := 0x21, off := 0x64, hi := 31, lo := 0, acc := .RW, cls := .B, reset := 981668463, n1 := 4, chk := (.f 0x0 0x41200000 false false) }
/-- TIM_SRV_SLEW.SLEW_MAX [14]. -/
def TIM_SRV_SLEW_SLEW_MAX : Fd := { page := 0x21, off := 0x68, hi := 31, lo := 0, acc := .RW, cls := .B, reset := 1148846080, n1 := 4, chk := (.f 0x3f800000 0x47c35000 false false) }
/-- TIM_SRV_FMAX.FREQ_MAX [14]. -/
def TIM_SRV_FMAX_FREQ_MAX : Fd := { page := 0x21, off := 0x6c, hi := 31, lo := 0, acc := .RW, cls := .B, reset := 1203982336, n1 := 4, chk := (.f 0x3f800000 0x47c35000 false false) }
/-- TIM_SRV_LOCK.THR [14]. -/
def TIM_SRV_LOCK_THR : Fd := { page := 0x21, off := 0x70, hi := 15, lo := 0, acc := .RW, cls := .B, reset := 100, n1 := 4, chk := (.u 1 65535) }
/-- TIM_SRV_LOCK.TIMEOUT [14]. -/
def TIM_SRV_LOCK_TIMEOUT : Fd := { page := 0x21, off := 0x70, hi := 23, lo := 16, acc := .RW, cls := .B, reset := 5, n1 := 4, chk := (.u 1 255) }
/-- TIM_SRV_OFS_IN.OFS_IN [14]. -/
def TIM_SRV_OFS_IN_OFS_IN : Fd := { page := 0x21, off := 0x74, hi := 31, lo := 0, acc := .WO, cls := .L, reset := 0, n1 := 4, act := true }
/-- TIM_SRV_STAT.STATE [14]. -/
def TIM_SRV_STAT_STATE : Fd := { page := 0x21, off := 0x78, hi := 1, lo := 0, acc := .RO, cls := .RO, reset := 0, n1 := 4 }
/-- TIM_SRV_STAT.SRC_ACT [14]. -/
def TIM_SRV_STAT_SRC_ACT : Fd := { page := 0x21, off := 0x78, hi := 4, lo := 2, acc := .RO, cls := .RO, reset := 0, n1 := 4 }
/-- TIM_SRV_STAT.P_CLAMP [14]. -/
def TIM_SRV_STAT_P_CLAMP : Fd := { page := 0x21, off := 0x78, hi := 5, lo := 5, acc := .RO, cls := .RO, reset := 0, n1 := 4 }
/-- TIM_SRV_STAT.Y_CLAMP [14]. -/
def TIM_SRV_STAT_Y_CLAMP : Fd := { page := 0x21, off := 0x78, hi := 6, lo := 6, acc := .RO, cls := .RO, reset := 0, n1 := 4 }
/-- TIM_SRV_STAT.UPDATES [14]. -/
def TIM_SRV_STAT_UPDATES : Fd := { page := 0x21, off := 0x78, hi := 31, lo := 16, acc := .RO, cls := .RO, reset := 0, n1 := 4 }
/-- TIM_SRV_OFS.OFS [14]. -/
def TIM_SRV_OFS_OFS : Fd := { page := 0x21, off := 0x7c, hi := 31, lo := 0, acc := .RO, cls := .RO, reset := 0, n1 := 4 }
/-- TIM_SRV_Y.Y [14]. -/
def TIM_SRV_Y_Y : Fd := { page := 0x21, off := 0x80, hi := 31, lo := 0, acc := .RO, cls := .RO, reset := 0, n1 := 4 }
/-- TIM_SRV_I.I [14]. -/
def TIM_SRV_I_I : Fd := { page := 0x21, off := 0x84, hi := 31, lo := 0, acc := .RO, cls := .RO, reset := 0, n1 := 4 }
/-- TIM_STEP_LO.STEP_LO [14]. -/
def TIM_STEP_LO_STEP_LO : Fd := { page := 0x21, off := 0x90, hi := 31, lo := 0, acc := .RW, cls := .L, reset := 0 }
/-- TIM_STEP_HI.STEP_HI [14]. -/
def TIM_STEP_HI_STEP_HI : Fd := { page := 0x21, off := 0x94, hi := 31, lo := 0, acc := .RW, cls := .L, reset := 0 }
/-- TIM_STEP_CTL.GO [14]. -/
def TIM_STEP_CTL_GO : Fd := { page := 0x21, off := 0x98, hi := 0, lo := 0, acc := .WO, cls := .L, reset := 0, act := true }
/-- TIM_STEP_CTL.TB [14]. -/
def TIM_STEP_CTL_TB : Fd := { page := 0x21, off := 0x98, hi := 2, lo := 1, acc := .RW, cls := .L, reset := 1 }
/-- TIM_PPSIN_CFG.EN [14]. -/
def TIM_PPSIN_CFG_EN : Fd := { page := 0x21, off := 0xa0, hi := 0, lo := 0, acc := .RW, cls := .B, reset := 0 }
/-- TIM_PPSIN_CFG.POL [14]. -/
def TIM_PPSIN_CFG_POL : Fd := { page := 0x21, off := 0xa0, hi := 1, lo := 1, acc := .RW, cls := .B, reset := 0 }
/-- TIM_PPSIN_CFG.DELAY [14]. -/
def TIM_PPSIN_CFG_DELAY : Fd := { page := 0x21, off := 0xa0, hi := 31, lo := 16, acc := .RW, cls := .B, reset := 0 }
/-- TIM_PPSIN_STAT.EDGES [14]. -/
def TIM_PPSIN_STAT_EDGES : Fd := { page := 0x21, off := 0xa4, hi := 15, lo := 0, acc := .RO, cls := .RO, reset := 0 }
/-- TIM_PPSIN_STAT.AMBIG [14]. -/
def TIM_PPSIN_STAT_AMBIG : Fd := { page := 0x21, off := 0xa4, hi := 23, lo := 16, acc := .RO, cls := .RO, reset := 0 }
/-- TIM_PPSIN_STAT.PRESENT [14]. -/
def TIM_PPSIN_STAT_PRESENT : Fd := { page := 0x21, off := 0xa4, hi := 24, lo := 24, acc := .RO, cls := .RO, reset := 0 }
/-- TIM_PPSIN_T_LO.T_LO [14]. -/
def TIM_PPSIN_T_LO_T_LO : Fd := { page := 0x21, off := 0xa8, hi := 31, lo := 0, acc := .RO, cls := .RO, reset := 0 }
/-- TIM_PPSIN_T_HI.T_HI [14]. -/
def TIM_PPSIN_T_HI_T_HI : Fd := { page := 0x21, off := 0xac, hi := 31, lo := 0, acc := .RO, cls := .RO, reset := 0 }
/-- TIM_NOW_LO.NOW_LO [14]. -/
def TIM_NOW_LO_NOW_LO : Fd := { page := 0x21, off := 0xc0, hi := 31, lo := 0, acc := .RO, cls := .RO, reset := 0 }
/-- TIM_NOW_HI.NOW_HI [14]. -/
def TIM_NOW_HI_NOW_HI : Fd := { page := 0x21, off := 0xc4, hi := 31, lo := 0, acc := .RO, cls := .RO, reset := 0 }
/-- ETH_CFG.TX_EN [14]. -/
def ETH_CFG_TX_EN : Fd := { page := 0x22, off := 0x40, hi := 0, lo := 0, acc := .RW, cls := .S, reset := 0 }
/-- ETH_CFG.RX_EN [14]. -/
def ETH_CFG_RX_EN : Fd := { page := 0x22, off := 0x40, hi := 1, lo := 1, acc := .RW, cls := .S, reset := 0 }
/-- ETH_CFG.PROMISC [14]. -/
def ETH_CFG_PROMISC : Fd := { page := 0x22, off := 0x40, hi := 2, lo := 2, acc := .RW, cls := .S, reset := 0 }
/-- ETH_CFG.TS_TB [14]. -/
def ETH_CFG_TS_TB : Fd := { page := 0x22, off := 0x40, hi := 4, lo := 3, acc := .RW, cls := .S, reset := 0 }
/-- ETH_MAC_LO.MAC_LO [14]. -/
def ETH_MAC_LO_MAC_LO : Fd := { page := 0x22, off := 0x44, hi := 31, lo := 0, acc := .RW, cls := .S, reset := 0 }
/-- ETH_MAC_HI.MAC_HI [14]. -/
def ETH_MAC_HI_MAC_HI : Fd := { page := 0x22, off := 0x48, hi := 15, lo := 0, acc := .RW, cls := .S, reset := 0 }
/-- ETH_PTP_CFG.PTP_EN [14]. -/
def ETH_PTP_CFG_PTP_EN : Fd := { page := 0x22, off := 0x4c, hi := 0, lo := 0, acc := .RW, cls := .B, reset := 0 }
/-- ETH_PTP_CFG.ONE_STEP_EN [14]. -/
def ETH_PTP_CFG_ONE_STEP_EN : Fd := { page := 0x22, off := 0x4c, hi := 1, lo := 1, acc := .RW, cls := .B, reset := 0 }
/-- ETH_PTP_CFG.DOM1 [14]. -/
def ETH_PTP_CFG_DOM1 : Fd := { page := 0x22, off := 0x4c, hi := 15, lo := 8, acc := .RW, cls := .B, reset := 0 }
/-- ETH_PTP_CFG.DOM2 [14]. -/
def ETH_PTP_CFG_DOM2 : Fd := { page := 0x22, off := 0x4c, hi := 23, lo := 16, acc := .RW, cls := .B, reset := 1 }
/-- ETH_CORR.RX [14]. -/
def ETH_CORR_RX : Fd := { page := 0x22, off := 0x50, hi := 15, lo := 0, acc := .RW, cls := .S, reset := 0 }
/-- ETH_CORR.TX [14]. -/
def ETH_CORR_TX : Fd := { page := 0x22, off := 0x50, hi := 31, lo := 16, acc := .RW, cls := .S, reset := 0 }
/-- ETH_LINK.LINK [14]. -/
def ETH_LINK_LINK : Fd := { page := 0x22, off := 0x54, hi := 0, lo := 0, acc := .RO, cls := .RO, reset := 0 }
/-- ETH_LINK.AN_DONE [14]. -/
def ETH_LINK_AN_DONE : Fd := { page := 0x22, off := 0x54, hi := 1, lo := 1, acc := .RO, cls := .RO, reset := 0 }
/-- ETH_LINK.BAD_MODE [14]. -/
def ETH_LINK_BAD_MODE : Fd := { page := 0x22, off := 0x54, hi := 2, lo := 2, acc := .RO, cls := .RO, reset := 0 }
/-- ETH_CNT.RX_OK [14]. -/
def ETH_CNT_RX_OK : Fd := { page := 0x22, off := 0x58, hi := 15, lo := 0, acc := .RO, cls := .RO, reset := 0 }
/-- ETH_CNT.RX_DROP [14]. -/
def ETH_CNT_RX_DROP : Fd := { page := 0x22, off := 0x58, hi := 31, lo := 16, acc := .RO, cls := .RO, reset := 0 }
/-- ETH_ERR.FCS [14]. -/
def ETH_ERR_FCS : Fd := { page := 0x22, off := 0x5c, hi := 7, lo := 0, acc := .RO, cls := .RO, reset := 0 }
/-- ETH_ERR.SHORT [14]. -/
def ETH_ERR_SHORT : Fd := { page := 0x22, off := 0x5c, hi := 15, lo := 8, acc := .RO, cls := .RO, reset := 0 }
/-- ETH_ERR.LONG [14]. -/
def ETH_ERR_LONG : Fd := { page := 0x22, off := 0x5c, hi := 23, lo := 16, acc := .RO, cls := .RO, reset := 0 }
/-- ETH_ERR.IP [14]. -/
def ETH_ERR_IP : Fd := { page := 0x22, off := 0x5c, hi := 31, lo := 24, acc := .RO, cls := .RO, reset := 0 }
/-- ETH_GRP_SEL.GRP [14]. -/
def ETH_GRP_SEL_GRP : Fd := { page := 0x22, off := 0x60, hi := 3, lo := 0, acc := .RW, cls := .L, reset := 0 }
/-- ETH_GRP_ADDR.ADDR [14]. -/
def ETH_GRP_ADDR_ADDR : Fd := { page := 0x22, off := 0x64, hi := 31, lo := 0, acc := .RW, cls := .B, reset := 0, n1 := 16 }
/-- ETH_GRP_CFG.PORT [14]. -/
def ETH_GRP_CFG_PORT : Fd := { page := 0x22, off := 0x68, hi := 15, lo := 0, acc := .RW, cls := .B, reset := 0, n1 := 16 }
/-- ETH_GRP_CFG.EN [14]. -/
def ETH_GRP_CFG_EN : Fd := { page := 0x22, off := 0x68, hi := 16, lo := 16, acc := .RW, cls := .B, reset := 0, n1 := 16 }
/-- ETH_GRP_CFG.HOST_COPY [14]. -/
def ETH_GRP_CFG_HOST_COPY : Fd := { page := 0x22, off := 0x68, hi := 17, lo := 17, acc := .RW, cls := .B, reset := 0, n1 := 16 }
/-- ETH_TXQ_SEL.QUEUE [14]. -/
def ETH_TXQ_SEL_QUEUE : Fd := { page := 0x22, off := 0x70, hi := 2, lo := 0, acc := .RW, cls := .L, reset := 0 }
/-- ETH_TXQ_CFG.EN [14]. -/
def ETH_TXQ_CFG_EN : Fd := { page := 0x22, off := 0x74, hi := 0, lo := 0, acc := .RW, cls := .S, reset := 1, n1 := 8 }
/-- ETH_TXQ_CFG.TB [14]. -/
def ETH_TXQ_CFG_TB : Fd := { page := 0x22, off := 0x74, hi := 2, lo := 1, acc := .RW, cls := .S, reset := 0, n1 := 8 }
/-- ETH_TXQ_CFG.LATE_ACT [14]. -/
def ETH_TXQ_CFG_LATE_ACT : Fd := { page := 0x22, off := 0x74, hi := 3, lo := 3, acc := .RW, cls := .B, reset := 0, n1 := 8 }
/-- ETH_TXQ_CFG.LATE_MAX [14]. -/
def ETH_TXQ_CFG_LATE_MAX : Fd := { page := 0x22, off := 0x74, hi := 31, lo := 16, acc := .RW, cls := .B, reset := 100, n1 := 8 }
/-- ETH_TXQ_STAT.FILL [14]. -/
def ETH_TXQ_STAT_FILL : Fd := { page := 0x22, off := 0x78, hi := 4, lo := 0, acc := .RO, cls := .RO, reset := 0, n1 := 8 }
/-- ETH_TXQ_STAT.MISSED [14]. -/
def ETH_TXQ_STAT_MISSED : Fd := { page := 0x22, off := 0x78, hi := 15, lo := 8, acc := .RO, cls := .RO, reset := 0, n1 := 8 }
/-- ETH_TXQ_STAT.REFUSED [14]. -/
def ETH_TXQ_STAT_REFUSED : Fd := { page := 0x22, off := 0x78, hi := 23, lo := 16, acc := .RO, cls := .RO, reset := 0, n1 := 8 }
/-- ETH_TX_PUSH.BUF [14]. -/
def ETH_TX_PUSH_BUF : Fd := { page := 0x22, off := 0x80, hi := 6, lo := 0, acc := .WO, cls := .L, reset := 0, act := true }
/-- ETH_TX_PUSH.QUEUE [14]. -/
def ETH_TX_PUSH_QUEUE : Fd := { page := 0x22, off := 0x80, hi := 10, lo := 8, acc := .WO, cls := .L, reset := 0, act := true }
/-- ETH_TX_PUSH.LAUNCH [14]. -/
def ETH_TX_PUSH_LAUNCH : Fd := { page := 0x22, off := 0x80, hi := 11, lo := 11, acc := .WO, cls := .L, reset := 0, act := true }
/-- ETH_TX_PUSH.ONE_STEP [14]. -/
def ETH_TX_PUSH_ONE_STEP : Fd := { page := 0x22, off := 0x80, hi := 12, lo := 12, acc := .WO, cls := .L, reset := 0, act := true }
/-- ETH_TXC.BUF [14]. -/
def ETH_TXC_BUF : Fd := { page := 0x22, off := 0x84, hi := 6, lo := 0, acc := .RO, cls := .RO, reset := 0 }
/-- ETH_TXC.RESULT [14]. -/
def ETH_TXC_RESULT : Fd := { page := 0x22, off := 0x84, hi := 9, lo := 8, acc := .RO, cls := .RO, reset := 0 }
/-- ETH_TXC.VALID [14]. -/
def ETH_TXC_VALID : Fd := { page := 0x22, off := 0x84, hi := 31, lo := 31, acc := .RO, cls := .RO, reset := 0 }
/-- ETH_RX_FREE.BUF [14]. -/
def ETH_RX_FREE_BUF : Fd := { page := 0x22, off := 0x88, hi := 6, lo := 0, acc := .WO, cls := .L, reset := 0, act := true }
/-- ETH_RX_POP.BUF [14]. -/
def ETH_RX_POP_BUF : Fd := { page := 0x22, off := 0x8c, hi := 6, lo := 0, acc := .RO, cls := .RO, reset := 0 }
/-- ETH_RX_POP.VALID [14]. -/
def ETH_RX_POP_VALID : Fd := { page := 0x22, off := 0x8c, hi := 31, lo := 31, acc := .RO, cls := .RO, reset := 0 }
/-- ETH_MDIO.DATA [14]. -/
def ETH_MDIO_DATA : Fd := { page := 0x22, off := 0x90, hi := 15, lo := 0, acc := .RW, cls := .L, reset := 0, act := true }
/-- ETH_MDIO.REG [14]. -/
def ETH_MDIO_REG : Fd := { page := 0x22, off := 0x90, hi := 20, lo := 16, acc := .RW, cls := .L, reset := 0, act := true }
/-- ETH_MDIO.PHY [14]. -/
def ETH_MDIO_PHY : Fd := { page := 0x22, off := 0x90, hi := 25, lo := 21, acc := .RW, cls := .L, reset := 0, act := true }
/-- ETH_MDIO.OP [14]. -/
def ETH_MDIO_OP : Fd := { page := 0x22, off := 0x90, hi := 27, lo := 26, acc := .RW, cls := .L, reset := 0, act := true }
/-- ETH_MDIO.BUSY [14]. -/
def ETH_MDIO_BUSY : Fd := { page := 0x22, off := 0x90, hi := 31, lo := 31, acc := .RO, cls := .RO, reset := 0 }
/-- NDL_CFG.EN [15]. -/
def NDL_CFG_EN : Fd := { page := 0x26, off := 0x40, hi := 0, lo := 0, acc := .RW, cls := .S, reset := 1 }
/-- NDL_CFG.LANES [15]. -/
def NDL_CFG_LANES : Fd := { page := 0x26, off := 0x40, hi := 1, lo := 1, acc := .RW, cls := .S, reset := 1, grd := .max 0 }
/-- NDL_ASYM.ASYM [15]. -/
def NDL_ASYM_ASYM : Fd := { page := 0x26, off := 0x44, hi := 15, lo := 0, acc := .RW, cls := .B, reset := 0 }
/-- NDL_STAT.LINK [15]. -/
def NDL_STAT_LINK : Fd := { page := 0x26, off := 0x48, hi := 0, lo := 0, acc := .RO, cls := .RO, reset := 0 }
/-- NDL_STAT.LANE0 [15]. -/
def NDL_STAT_LANE0 : Fd := { page := 0x26, off := 0x48, hi := 1, lo := 1, acc := .RO, cls := .RO, reset := 0 }
/-- NDL_STAT.LANE1 [15]. -/
def NDL_STAT_LANE1 : Fd := { page := 0x26, off := 0x48, hi := 2, lo := 2, acc := .RO, cls := .RO, reset := 0 }
/-- NDL_STAT.TRAINING [15]. -/
def NDL_STAT_TRAINING : Fd := { page := 0x26, off := 0x48, hi := 3, lo := 3, acc := .RO, cls := .RO, reset := 0 }
/-- NDL_STAT.ID_CLASH [15]. -/
def NDL_STAT_ID_CLASH : Fd := { page := 0x26, off := 0x48, hi := 4, lo := 4, acc := .RO, cls := .RO, reset := 0 }
/-- NDL_STAT.GRADE_MISMATCH [15]. -/
def NDL_STAT_GRADE_MISMATCH : Fd := { page := 0x26, off := 0x48, hi := 5, lo := 5, acc := .RO, cls := .RO, reset := 0 }
/-- NDL_STAT.PARTNER_ID [15]. -/
def NDL_STAT_PARTNER_ID : Fd := { page := 0x26, off := 0x48, hi := 6, lo := 6, acc := .RO, cls := .RO, reset := 0 }
/-- NDL_STAT.PARTNER_GRADE [15]. -/
def NDL_STAT_PARTNER_GRADE : Fd := { page := 0x26, off := 0x48, hi := 7, lo := 7, acc := .RO, cls := .RO, reset := 0 }
/-- NDL_STAT.TRAININGS [15]. -/
def NDL_STAT_TRAININGS : Fd := { page := 0x26, off := 0x48, hi := 31, lo := 16, acc := .RO, cls := .RO, reset := 0 }
/-- NDL_DELAY.DELAY [15]. -/
def NDL_DELAY_DELAY : Fd := { page := 0x26, off := 0x4c, hi := 15, lo := 0, acc := .RO, cls := .RO, reset := 0 }
/-- NDL_OFS.OFS [15]. -/
def NDL_OFS_OFS : Fd := { page := 0x26, off := 0x50, hi := 31, lo := 0, acc := .RO, cls := .RO, reset := 0 }
/-- NDL_ERR.CRC [15]. -/
def NDL_ERR_CRC : Fd := { page := 0x26, off := 0x54, hi := 15, lo := 0, acc := .RO, cls := .RO, reset := 0 }
/-- NDL_ERR.DOWNS [15]. -/
def NDL_ERR_DOWNS : Fd := { page := 0x26, off := 0x54, hi := 23, lo := 16, acc := .RO, cls := .RO, reset := 0 }
/-- NDL_ERR.LANE_DOWNS [15]. -/
def NDL_ERR_LANE_DOWNS : Fd := { page := 0x26, off := 0x54, hi := 31, lo := 24, acc := .RO, cls := .RO, reset := 0 }
/-- NDL_LOAD.XTRK [15]. -/
def NDL_LOAD_XTRK : Fd := { page := 0x26, off := 0x58, hi := 7, lo := 0, acc := .RO, cls := .RO, reset := 0 }
/-- NDL_LOAD.MIRROR [15]. -/
def NDL_LOAD_MIRROR : Fd := { page := 0x26, off := 0x58, hi := 15, lo := 8, acc := .RO, cls := .RO, reset := 0 }
/-- PAIR_CFG.TAKE_EN [15]. -/
def PAIR_CFG_TAKE_EN : Fd := { page := 0x27, off := 0x40, hi := 0, lo := 0, acc := .RW, cls := .B, reset := 1 }
/-- PAIR_CFG.TAKE_PERIOD [15]. -/
def PAIR_CFG_TAKE_PERIOD : Fd := { page := 0x27, off := 0x40, hi := 10, lo := 1, acc := .RW, cls := .B, reset := 24, chk := (.u 1 720) }
/-- PAIR_CFG.SEEK [15]. -/
def PAIR_CFG_SEEK : Fd := { page := 0x27, off := 0x40, hi := 15, lo := 11, acc := .RW, cls := .B, reset := 5, chk := (.u 1 30) }
/-- PAIR_CFG.RELAY_MS [15]. -/
def PAIR_CFG_RELAY_MS : Fd := { page := 0x27, off := 0x40, hi := 23, lo := 16, acc := .RW, cls := .B, reset := 20, chk := (.u 1 255) }
/-- PAIR_CFG.TAKE_CHECK [15]. -/
def PAIR_CFG_TAKE_CHECK : Fd := { page := 0x27, off := 0x40, hi := 28, lo := 24, acc := .RW, cls := .B, reset := 10, chk := (.u 2 31) }
/-- PAIR_CTL.TAKE_NOW [15]. -/
def PAIR_CTL_TAKE_NOW : Fd := { page := 0x27, off := 0x44, hi := 0, lo := 0, acc := .WO, cls := .L, reset := 0, act := true }
/-- PAIR_CTL.CLR_TAKE_FAIL [15]. -/
def PAIR_CTL_CLR_TAKE_FAIL : Fd := { page := 0x27, off := 0x44, hi := 1, lo := 1, acc := .WO, cls := .L, reset := 0, act := true }
/-- PAIR_CTL.STILL [15]. -/
def PAIR_CTL_STILL : Fd := { page := 0x27, off := 0x44, hi := 2, lo := 2, acc := .WO, cls := .L, reset := 0, act := true }
/-- PAIR_CTL.RELINQUISH [15]. -/
def PAIR_CTL_RELINQUISH : Fd := { page := 0x27, off := 0x44, hi := 3, lo := 3, acc := .WO, cls := .L, reset := 0, lock := true, act := true }
/-- PAIR_STAT.STATE [15]. -/
def PAIR_STAT_STATE : Fd := { page := 0x27, off := 0x48, hi := 2, lo := 0, acc := .RO, cls := .RO, reset := 0 }
/-- PAIR_STAT.UNIT_ID [15]. -/
def PAIR_STAT_UNIT_ID : Fd := { page := 0x27, off := 0x48, hi := 3, lo := 3, acc := .RO, cls := .RO, reset := 0 }
/-- PAIR_STAT.COMMANDS [15]. -/
def PAIR_STAT_COMMANDS : Fd := { page := 0x27, off := 0x48, hi := 4, lo := 4, acc := .RO, cls := .RO, reset := 0 }
/-- PAIR_STAT.ROLE_OUT [15]. -/
def PAIR_STAT_ROLE_OUT : Fd := { page := 0x27, off := 0x48, hi := 5, lo := 5, acc := .RO, cls := .RO, reset := 0 }
/-- PAIR_STAT.HB_IN [15]. -/
def PAIR_STAT_HB_IN : Fd := { page := 0x27, off := 0x48, hi := 6, lo := 6, acc := .RO, cls := .RO, reset := 0 }
/-- PAIR_STAT.HB_OUT [15]. -/
def PAIR_STAT_HB_OUT : Fd := { page := 0x27, off := 0x48, hi := 7, lo := 7, acc := .RO, cls := .RO, reset := 0 }
/-- PAIR_STAT.LINK [15]. -/
def PAIR_STAT_LINK : Fd := { page := 0x27, off := 0x48, hi := 8, lo := 8, acc := .RO, cls := .RO, reset := 0 }
/-- PAIR_STAT.IMAGE_EQ [15]. -/
def PAIR_STAT_IMAGE_EQ : Fd := { page := 0x27, off := 0x48, hi := 9, lo := 9, acc := .RO, cls := .RO, reset := 0 }
/-- PAIR_STAT.TAKE_READY [15]. -/
def PAIR_STAT_TAKE_READY : Fd := { page := 0x27, off := 0x48, hi := 10, lo := 10, acc := .RO, cls := .RO, reset := 0 }
/-- PAIR_STAT.TAKE_FAIL [15]. -/
def PAIR_STAT_TAKE_FAIL : Fd := { page := 0x27, off := 0x48, hi := 11, lo := 11, acc := .RO, cls := .RO, reset := 0 }
/-- PAIR_STAT.HOST_TRUNC [15]. -/
def PAIR_STAT_HOST_TRUNC : Fd := { page := 0x27, off := 0x48, hi := 12, lo := 12, acc := .RO, cls := .RO, reset := 0 }
/-- PAIR_STAT.CAUSE [15]. -/
def PAIR_STAT_CAUSE : Fd := { page := 0x27, off := 0x48, hi := 19, lo := 16, acc := .RO, cls := .RO, reset := 0 }
/-- PAIR_CONT.ACCEPTED [15]. -/
def PAIR_CONT_ACCEPTED : Fd := { page := 0x27, off := 0x4c, hi := 15, lo := 0, acc := .RO, cls := .RO, reset := 0 }
/-- PAIR_CONT.MISSED [15]. -/
def PAIR_CONT_MISSED : Fd := { page := 0x27, off := 0x4c, hi := 23, lo := 16, acc := .RO, cls := .RO, reset := 0 }
/-- PAIR_CONT.CUT_MISS [15]. -/
def PAIR_CONT_CUT_MISS : Fd := { page := 0x27, off := 0x4c, hi := 31, lo := 24, acc := .RO, cls := .RO, reset := 0 }
/-- PAIR_HOST_LEN.LEN [15]. -/
def PAIR_HOST_LEN_LEN : Fd := { page := 0x27, off := 0x50, hi := 17, lo := 0, acc := .RW, cls := .B, reset := 0, chk := (.u 0 180224) }
/-- PAIR_DIV_POS.DIV_POS [15]. -/
def PAIR_DIV_POS_DIV_POS : Fd := { page := 0x27, off := 0x54, hi := 31, lo := 0, acc := .RW, cls := .B, reset := 1056964608, chk := (.f 0x3c23d70a 0x42c80000 false false) }
/-- PAIR_DIV_HDG.DIV_HDG [15]. -/
def PAIR_DIV_HDG_DIV_HDG : Fd := { page := 0x27, off := 0x58, hi := 31, lo := 0, acc := .RW, cls := .B, reset := 1008981770, chk := (.f 0x38d1b717 0x3f000000 false false) }
/-- PAIR_TAKE_STAT.DUE [15]. -/
def PAIR_TAKE_STAT_DUE : Fd := { page := 0x27, off := 0x5c, hi := 0, lo := 0, acc := .RO, cls := .RO, reset := 0 }
/-- PAIR_TAKE_STAT.DEFER [15]. -/
def PAIR_TAKE_STAT_DEFER : Fd := { page := 0x27, off := 0x5c, hi := 3, lo := 1, acc := .RO, cls := .RO, reset := 0 }
/-- PAIR_TAKE_STAT.COUNT [15]. -/
def PAIR_TAKE_STAT_COUNT : Fd := { page := 0x27, off := 0x5c, hi := 31, lo := 16, acc := .RO, cls := .RO, reset := 0 }
/-- PAIR_NEXT_TAKE_LO.NEXT_LO [15]. -/
def PAIR_NEXT_TAKE_LO_NEXT_LO : Fd := { page := 0x27, off := 0x60, hi := 31, lo := 0, acc := .RO, cls := .RO, reset := 0 }
/-- PAIR_NEXT_TAKE_HI.NEXT_HI [15]. -/
def PAIR_NEXT_TAKE_HI_NEXT_HI : Fd := { page := 0x27, off := 0x64, hi := 31, lo := 0, acc := .RO, cls := .RO, reset := 0 }
/-- PAIR_GLB_SEL.CH [15]. -/
def PAIR_GLB_SEL_CH : Fd := { page := 0x27, off := 0x70, hi := 2, lo := 0, acc := .RW, cls := .L, reset := 0 }
/-- PAIR_GLB_CH.EN [15]. -/
def PAIR_GLB_CH_EN : Fd := { page := 0x27, off := 0x74, hi := 0, lo := 0, acc := .RW, cls := .B, reset := 0, n1 := 8 }
/-- PAIR_GLB_CH.BUF [15]. -/
def PAIR_GLB_CH_BUF : Fd := { page := 0x27, off := 0x74, hi := 6, lo := 1, acc := .RW, cls := .B, reset := 0, n1 := 8 }
/-- PAIR_GLB_CH.DB_FIRST [15]. -/
def PAIR_GLB_CH_DB_FIRST : Fd := { page := 0x27, off := 0x74, hi := 12, lo := 7, acc := .RW, cls := .B, reset := 0, n1 := 8 }
/-- PAIR_GLB_CH.N_ACK [15]. -/
def PAIR_GLB_CH_N_ACK : Fd := { page := 0x27, off := 0x74, hi := 18, lo := 13, acc := .RW, cls := .B, reset := 0, n1 := 8 }
/-- PAIR_GLB_CTL.GO [15]. -/
def PAIR_GLB_CTL_GO : Fd := { page := 0x27, off := 0x78, hi := 0, lo := 0, acc := .WO, cls := .L, reset := 0, act := true }
/-- PAIR_GLB_CTL.TIMEOUT [15]. -/
def PAIR_GLB_CTL_TIMEOUT : Fd := { page := 0x27, off := 0x78, hi := 31, lo := 16, acc := .RW, cls := .B, reset := 100, chk := (.u 1 65535) }
/-- PAIR_GLB_STAT.STATE [15]. -/
def PAIR_GLB_STAT_STATE : Fd := { page := 0x27, off := 0x7c, hi := 2, lo := 0, acc := .RO, cls := .RO, reset := 0 }
/-- PAIR_GLB_STAT.TIME [15]. -/
def PAIR_GLB_STAT_TIME : Fd := { page := 0x27, off := 0x7c, hi := 31, lo := 8, acc := .RO, cls := .RO, reset := 0 }
/-- PAIR_STILL_STAT.DONE [15]. -/
def PAIR_STILL_STAT_DONE : Fd := { page := 0x27, off := 0x80, hi := 0, lo := 0, acc := .RO, cls := .RO, reset := 0 }
/-- PAIR_STILL_STAT.REFUSED [15]. -/
def PAIR_STILL_STAT_REFUSED : Fd := { page := 0x27, off := 0x80, hi := 1, lo := 1, acc := .RO, cls := .RO, reset := 0 }
/-- PAIR_STILL_STAT.COST [15]. -/
def PAIR_STILL_STAT_COST : Fd := { page := 0x27, off := 0x80, hi := 31, lo := 16, acc := .RO, cls := .RO, reset := 0 }
/-- PAIR_STILL_T_LO.T_LO [15]. -/
def PAIR_STILL_T_LO_T_LO : Fd := { page := 0x27, off := 0x84, hi := 31, lo := 0, acc := .RO, cls := .RO, reset := 0 }
/-- PAIR_STILL_T_HI.T_HI [15]. -/
def PAIR_STILL_T_HI_T_HI : Fd := { page := 0x27, off := 0x88, hi := 31, lo := 0, acc := .RO, cls := .RO, reset := 0 }
/-- SAF_STAT.STATE_A [16]. -/
def SAF_STAT_STATE_A : Fd := { page := 0x28, off := 0x40, hi := 2, lo := 0, acc := .RO, cls := .RO, reset := 0 }
/-- SAF_STAT.STATE_B [16]. -/
def SAF_STAT_STATE_B : Fd := { page := 0x28, off := 0x40, hi := 5, lo := 3, acc := .RO, cls := .RO, reset := 0 }
/-- SAF_STAT.KEY [16]. -/
def SAF_STAT_KEY : Fd := { page := 0x28, off := 0x40, hi := 6, lo := 6, acc := .RO, cls := .RO, reset := 0 }
/-- SAF_STAT.IMAGE_DIFF [16]. -/
def SAF_STAT_IMAGE_DIFF : Fd := { page := 0x28, off := 0x40, hi := 7, lo := 7, acc := .RO, cls := .RO, reset := 0 }
/-- SAF_STAT.RESET_STUCK [16]. -/
def SAF_STAT_RESET_STUCK : Fd := { page := 0x28, off := 0x40, hi := 8, lo := 8, acc := .RO, cls := .RO, reset := 0 }
/-- SAF_STAT.SRST_CLOSED [16]. -/
def SAF_STAT_SRST_CLOSED : Fd := { page := 0x28, off := 0x40, hi := 9, lo := 9, acc := .RO, cls := .RO, reset := 0 }
/-- SAF_STAT.SRST [16]. -/
def SAF_STAT_SRST : Fd := { page := 0x28, off := 0x40, hi := 10, lo := 10, acc := .RO, cls := .RO, reset := 0 }
/-- SAF_STAT.FAULT_CAUSE [16]. -/
def SAF_STAT_FAULT_CAUSE : Fd := { page := 0x28, off := 0x40, hi := 15, lo := 12, acc := .RO, cls := .RO, reset := 0 }
/-- SAF_IN_LEVEL.A_BY_A [16]. -/
def SAF_IN_LEVEL_A_BY_A : Fd := { page := 0x28, off := 0x44, hi := 7, lo := 0, acc := .RO, cls := .RO, reset := 0 }
/-- SAF_IN_LEVEL.B_BY_A [16]. -/
def SAF_IN_LEVEL_B_BY_A : Fd := { page := 0x28, off := 0x44, hi := 15, lo := 8, acc := .RO, cls := .RO, reset := 0 }
/-- SAF_IN_LEVEL.A_BY_B [16]. -/
def SAF_IN_LEVEL_A_BY_B : Fd := { page := 0x28, off := 0x44, hi := 23, lo := 16, acc := .RO, cls := .RO, reset := 0 }
/-- SAF_IN_LEVEL.B_BY_B [16]. -/
def SAF_IN_LEVEL_B_BY_B : Fd := { page := 0x28, off := 0x44, hi := 31, lo := 24, acc := .RO, cls := .RO, reset := 0 }
/-- SAF_IN_STAT.CLOSED [16]. -/
def SAF_IN_STAT_CLOSED : Fd := { page := 0x28, off := 0x48, hi := 7, lo := 0, acc := .RO, cls := .RO, reset := 0 }
/-- SAF_IN_STAT.DISC [16]. -/
def SAF_IN_STAT_DISC : Fd := { page := 0x28, off := 0x48, hi := 15, lo := 8, acc := .RO, cls := .RO, reset := 0 }
/-- SAF_IN_STAT.STARTUP_PEND [16]. -/
def SAF_IN_STAT_STARTUP_PEND : Fd := { page := 0x28, off := 0x48, hi := 23, lo := 16, acc := .RO, cls := .RO, reset := 255 }
/-- SAF_IN_STAT.DISC_RUN [16]. -/
def SAF_IN_STAT_DISC_RUN : Fd := { page := 0x28, off := 0x48, hi := 31, lo := 24, acc := .RO, cls := .RO, reset := 0 }
/-- SAF_OUT_STAT.ON_A [16]. -/
def SAF_OUT_STAT_ON_A : Fd := { page := 0x28, off := 0x4c, hi := 3, lo := 0, acc := .RO, cls := .RO, reset := 0 }
/-- SAF_OUT_STAT.ON_B [16]. -/
def SAF_OUT_STAT_ON_B : Fd := { page := 0x28, off := 0x4c, hi := 7, lo := 4, acc := .RO, cls := .RO, reset := 0 }
/-- SAF_OUT_STAT.FB_A [16]. -/
def SAF_OUT_STAT_FB_A : Fd := { page := 0x28, off := 0x4c, hi := 11, lo := 8, acc := .RO, cls := .RO, reset := 0 }
/-- SAF_OUT_STAT.FB_B [16]. -/
def SAF_OUT_STAT_FB_B : Fd := { page := 0x28, off := 0x4c, hi := 15, lo := 12, acc := .RO, cls := .RO, reset := 0 }
/-- SAF_OUT_STAT.OUT_FAULT [16]. -/
def SAF_OUT_STAT_OUT_FAULT : Fd := { page := 0x28, off := 0x4c, hi := 19, lo := 16, acc := .RO, cls := .RO, reset := 0 }
/-- SAF_OUT_STAT.RESTART_WAIT [16]. -/
def SAF_OUT_STAT_RESTART_WAIT : Fd := { page := 0x28, off := 0x4c, hi := 23, lo := 20, acc := .RO, cls := .RO, reset := 0 }
/-- SAF_CNT.DEMANDS [16]. -/
def SAF_CNT_DEMANDS : Fd := { page := 0x28, off := 0x50, hi := 15, lo := 0, acc := .RO, cls := .RO, reset := 0 }
/-- SAF_CNT.RESETS [16]. -/
def SAF_CNT_RESETS : Fd := { page := 0x28, off := 0x50, hi := 23, lo := 16, acc := .RO, cls := .RO, reset := 0 }
/-- SAF_CNT.UNLOCK_FAIL [16]. -/
def SAF_CNT_UNLOCK_FAIL : Fd := { page := 0x28, off := 0x50, hi := 31, lo := 24, acc := .RO, cls := .RO, reset := 0 }
/-- SAF_UNLOCK.UNLOCK [16]. -/
def SAF_UNLOCK_UNLOCK : Fd := { page := 0x28, off := 0x60, hi := 31, lo := 0, acc := .WO, cls := .L, reset := 0, act := true }
/-- SAF_CFG_CRC_A.CRC_A [16]. -/
def SAF_CFG_CRC_A_CRC_A : Fd := { page := 0x28, off := 0x64, hi := 31, lo := 0, acc := .RO, cls := .RO, reset := 0 }
/-- SAF_CFG_CRC_B.CRC_B [16]. -/
def SAF_CFG_CRC_B_CRC_B : Fd := { page := 0x28, off := 0x68, hi := 31, lo := 0, acc := .RO, cls := .RO, reset := 0 }
/-- SAF_IN_CFG.EN [16]. -/
def SAF_IN_CFG_EN : Fd := { page := 0x28, off := 0x100, hi := 0, lo := 0, acc := .RW, cls := .S, reset := 0, cnt := 8, stride := 4 }
/-- SAF_IN_CFG.KIND [16]. -/
def SAF_IN_CFG_KIND : Fd := { page := 0x28, off := 0x100, hi := 1, lo := 1, acc := .RW, cls := .S, reset := 0, cnt := 8, stride := 4 }
/-- SAF_IN_CFG.STARTUP_TEST [16]. -/
def SAF_IN_CFG_STARTUP_TEST : Fd := { page := 0x28, off := 0x100, hi := 2, lo := 2, acc := .RW, cls := .S, reset := 1, cnt := 8, stride := 4 }
/-- SAF_IN_CFG.DISC_TIME [16]. -/
def SAF_IN_CFG_DISC_TIME : Fd := { page := 0x28, off := 0x100, hi := 14, lo := 8, acc := .RW, cls := .S, reset := 10, cnt := 8, stride := 4, chk := (.u 1 100) }
/-- SAF_OUT_CFG.EN [16]. -/
def SAF_OUT_CFG_EN : Fd := { page := 0x28, off := 0x120, hi := 0, lo := 0, acc := .RW, cls := .S, reset := 0, cnt := 4, stride := 4 }
/-- SAF_OUT_CFG.RESTART [16]. -/
def SAF_OUT_CFG_RESTART : Fd := { page := 0x28, off := 0x120, hi := 1, lo := 1, acc := .RW, cls := .S, reset := 1, cnt := 4, stride := 4 }
/-- SAF_OUT_CFG.TP_EN [16]. -/
def SAF_OUT_CFG_TP_EN : Fd := { page := 0x28, off := 0x120, hi := 2, lo := 2, acc := .RW, cls := .S, reset := 1, cnt := 4, stride := 4 }
/-- SAF_OUT_CFG.MAP [16]. -/
def SAF_OUT_CFG_MAP : Fd := { page := 0x28, off := 0x120, hi := 15, lo := 8, acc := .RW, cls := .S, reset := 0, cnt := 4, stride := 4 }
/-- SAF_TP_CFG.TP_WIDTH [16]. -/
def SAF_TP_CFG_TP_WIDTH : Fd := { page := 0x28, off := 0x130, hi := 4, lo := 0, acc := .RW, cls := .S, reset := 5, chk := (.u 1 20) }
/-- SAF_TP_CFG.TP_PERIOD [16]. -/
def SAF_TP_CFG_TP_PERIOD : Fd := { page := 0x28, off := 0x130, hi := 25, lo := 16, acc := .RW, cls := .S, reset := 10, chk := (.u 1 600) }
/-- SAF_CFG_CRC_EXP.EXP [16]. -/
def SAF_CFG_CRC_EXP_EXP : Fd := { page := 0x28, off := 0x13c, hi := 31, lo := 0, acc := .RW, cls := .S, reset := 0 }
/-- EVT_CFG.REPEAT_WIN [17]. -/
def EVT_CFG_REPEAT_WIN : Fd := { page := 0x29, off := 0x40, hi := 7, lo := 0, acc := .RW, cls := .B, reset := 10 }
/-- EVT_CFG.WM [17]. -/
def EVT_CFG_WM : Fd := { page := 0x29, off := 0x40, hi := 15, lo := 8, acc := .RW, cls := .B, reset := 1, chk := (.u 1 255) }
/-- EVT_HEAD_SEQ.SEQ [17]. -/
def EVT_HEAD_SEQ_SEQ : Fd := { page := 0x29, off := 0x44, hi := 31, lo := 0, acc := .RO, cls := .RO, reset := 0 }
/-- EVT_HEAD_SLOT.SLOT [17]. -/
def EVT_HEAD_SLOT_SLOT : Fd := { page := 0x29, off := 0x48, hi := 16, lo := 0, acc := .RO, cls := .RO, reset := 0 }
/-- EVT_CORNER.COUNT [17]. -/
def EVT_CORNER_COUNT : Fd := { page := 0x29, off := 0x4c, hi := 12, lo := 0, acc := .RO, cls := .RO, reset := 0 }
/-- EVT_QUEUE.DEPTH [17]. -/
def EVT_QUEUE_DEPTH : Fd := { page := 0x29, off := 0x50, hi := 11, lo := 0, acc := .RO, cls := .RO, reset := 0 }
/-- EVT_QUEUE.MAX [17]. -/
def EVT_QUEUE_MAX : Fd := { page := 0x29, off := 0x50, hi := 27, lo := 16, acc := .RO, cls := .RO, reset := 0 }
/-- EVT_LOST.COUNT [17]. -/
def EVT_LOST_COUNT : Fd := { page := 0x29, off := 0x54, hi := 15, lo := 0, acc := .RO, cls := .RO, reset := 0 }
/-- EVT_ACK.SEQ [17]. -/
def EVT_ACK_SEQ : Fd := { page := 0x29, off := 0x58, hi := 31, lo := 0, acc := .WO, cls := .L, reset := 0, act := true }
/-- EVT_BAD.BAD [17]. -/
def EVT_BAD_BAD : Fd := { page := 0x29, off := 0x5c, hi := 15, lo := 0, acc := .RO, cls := .RO, reset := 0 }
/-- EVT_HOST_P0.P0 [17]. -/
def EVT_HOST_P0_P0 : Fd := { page := 0x29, off := 0x60, hi := 31, lo := 0, acc := .RW, cls := .L, reset := 0 }
/-- EVT_HOST_P12.P1 [17]. -/
def EVT_HOST_P12_P1 : Fd := { page := 0x29, off := 0x64, hi := 15, lo := 0, acc := .RW, cls := .L, reset := 0 }
/-- EVT_HOST_P12.P2 [17]. -/
def EVT_HOST_P12_P2 : Fd := { page := 0x29, off := 0x64, hi := 31, lo := 16, acc := .RW, cls := .L, reset := 0 }
/-- EVT_HOST_CODE.CODE [17]. -/
def EVT_HOST_CODE_CODE : Fd := { page := 0x29, off := 0x68, hi := 11, lo := 0, acc := .WO, cls := .L, reset := 0, act := true }
/-- EVT_HOST_CODE.P3 [17]. -/
def EVT_HOST_CODE_P3 : Fd := { page := 0x29, off := 0x68, hi := 23, lo := 16, acc := .WO, cls := .L, reset := 0, act := true }
/-- EVT_CAT_SEL.CODE [17]. -/
def EVT_CAT_SEL_CODE : Fd := { page := 0x29, off := 0x70, hi := 11, lo := 0, acc := .RW, cls := .L, reset := 0 }
/-- EVT_CAT_NAME0.NAME [17]. -/
def EVT_CAT_NAME0_NAME : Fd := { page := 0x29, off := 0x74, hi := 31, lo := 0, acc := .RO, cls := .RO, reset := 0 }
/-- EVT_CAT_NAME1.NAME [17]. -/
def EVT_CAT_NAME1_NAME : Fd := { page := 0x29, off := 0x78, hi := 31, lo := 0, acc := .RO, cls := .RO, reset := 0 }
/-- EVT_CAT_FMT.FMT [17]. -/
def EVT_CAT_FMT_FMT : Fd := { page := 0x29, off := 0x7c, hi := 15, lo := 0, acc := .RO, cls := .RO, reset := 0 }
/-- EVT_CAT_FMT.WIDE [17]. -/
def EVT_CAT_FMT_WIDE : Fd := { page := 0x29, off := 0x7c, hi := 16, lo := 16, acc := .RO, cls := .RO, reset := 0 }
/-- EVT_CAT_FMT.PERMANENT [17]. -/
def EVT_CAT_FMT_PERMANENT : Fd := { page := 0x29, off := 0x7c, hi := 17, lo := 17, acc := .RO, cls := .RO, reset := 0 }
/-- EVT_CAT_FMT.CONTINUED [17]. -/
def EVT_CAT_FMT_CONTINUED : Fd := { page := 0x29, off := 0x7c, hi := 18, lo := 18, acc := .RO, cls := .RO, reset := 0 }
/-- EVT_CAT_NAME2.NAME [17]. -/
def EVT_CAT_NAME2_NAME : Fd := { page := 0x29, off := 0x80, hi := 31, lo := 0, acc := .RO, cls := .RO, reset := 0, cnt := 4, stride := 4 }
/-- LIF_THR_SEL.THR [17]. -/
def LIF_THR_SEL_THR : Fd := { page := 0x2a, off := 0x40, hi := 3, lo := 0, acc := .RW, cls := .L, reset := 0 }
/-- LIF_THR_RUN.RUN [17]. -/
def LIF_THR_RUN_RUN : Fd := { page := 0x2a, off := 0x44, hi := 31, lo := 0, acc := .RO, cls := .RO, reset := 0, n1 := 16 }
/-- LIF_THR_STARTS.STARTS [17]. -/
def LIF_THR_STARTS_STARTS : Fd := { page := 0x2a, off := 0x48, hi := 31, lo := 0, acc := .RO, cls := .RO, reset := 0, n1 := 16 }
/-- LIF_THR_AZ.AZ [17]. -/
def LIF_THR_AZ_AZ : Fd := { page := 0x2a, off := 0x4c, hi := 31, lo := 0, acc := .RO, cls := .RO, reset := 0, n1 := 16 }
/-- LIF_THR_ENERGY.ENERGY [17]. -/
def LIF_THR_ENERGY_ENERGY : Fd := { page := 0x2a, off := 0x50, hi := 31, lo := 0, acc := .RO, cls := .RO, reset := 0, n1 := 16 }
/-- LIF_DEV_ON.DEV_ON [17]. -/
def LIF_DEV_ON_DEV_ON : Fd := { page := 0x2a, off := 0x60, hi := 31, lo := 0, acc := .RO, cls := .RO, reset := 0 }
/-- LIF_POWERUPS.POWERUPS [17]. -/
def LIF_POWERUPS_POWERUPS : Fd := { page := 0x2a, off := 0x64, hi := 31, lo := 0, acc := .RO, cls := .RO, reset := 0 }
/-- LIF_TAKES.TAKES [17]. -/
def LIF_TAKES_TAKES : Fd := { page := 0x2a, off := 0x68, hi := 31, lo := 0, acc := .RO, cls := .RO, reset := 0 }
/-- LIF_RESETS.RESETS [17]. -/
def LIF_RESETS_RESETS : Fd := { page := 0x2a, off := 0x6c, hi := 31, lo := 0, acc := .RO, cls := .RO, reset := 0 }
/-- LIF_HOLDS.HOLDS [17]. -/
def LIF_HOLDS_HOLDS : Fd := { page := 0x2a, off := 0x70, hi := 31, lo := 0, acc := .RO, cls := .RO, reset := 0 }
/-- LIF_WEAR.MAX_PCT [17]. -/
def LIF_WEAR_MAX_PCT : Fd := { page := 0x2a, off := 0x74, hi := 7, lo := 0, acc := .RO, cls := .RO, reset := 0 }
/-- LIF_WEAR.PAGE [17]. -/
def LIF_WEAR_PAGE : Fd := { page := 0x2a, off := 0x74, hi := 14, lo := 8, acc := .RO, cls := .RO, reset := 0 }
/-- LIF_GEN.GEN [17]. -/
def LIF_GEN_GEN : Fd := { page := 0x2a, off := 0x78, hi := 31, lo := 0, acc := .RO, cls := .RO, reset := 0 }
/-- LIF_STAT.COPY [17]. -/
def LIF_STAT_COPY : Fd := { page := 0x2a, off := 0x7c, hi := 1, lo := 0, acc := .RO, cls := .RO, reset := 0 }
/-- LIF_STAT.VALID [17]. -/
def LIF_STAT_VALID : Fd := { page := 0x2a, off := 0x7c, hi := 4, lo := 2, acc := .RO, cls := .RO, reset := 0 }
/-- LIF_STAT.DEFERRED [17]. -/
def LIF_STAT_DEFERRED : Fd := { page := 0x2a, off := 0x7c, hi := 5, lo := 5, acc := .RO, cls := .RO, reset := 0 }
/-- LIF_PRESET_SEL.THR [17]. -/
def LIF_PRESET_SEL_THR : Fd := { page := 0x2a, off := 0x80, hi := 3, lo := 0, acc := .RW, cls := .L, reset := 0 }
/-- LIF_PRESET_SEL.CNT [17]. -/
def LIF_PRESET_SEL_CNT : Fd := { page := 0x2a, off := 0x80, hi := 6, lo := 4, acc := .RW, cls := .L, reset := 0 }
/-- LIF_PRESET_VAL.VAL [17]. -/
def LIF_PRESET_VAL_VAL : Fd := { page := 0x2a, off := 0x84, hi := 31, lo := 0, acc := .RW, cls := .L, reset := 0 }
/-- LIF_PRESET_CTL.GO [17]. -/
def LIF_PRESET_CTL_GO : Fd := { page := 0x2a, off := 0x88, hi := 0, lo := 0, acc := .WO, cls := .L, reset := 0, lock := true, act := true }
/-- LIF_UTC_DATE.DAY [17]. -/
def LIF_UTC_DATE_DAY : Fd := { page := 0x2a, off := 0x90, hi := 7, lo := 0, acc := .RO, cls := .RO, reset := 0 }
/-- LIF_UTC_DATE.MONTH [17]. -/
def LIF_UTC_DATE_MONTH : Fd := { page := 0x2a, off := 0x90, hi := 11, lo := 8, acc := .RO, cls := .RO, reset := 0 }
/-- LIF_UTC_DATE.YEAR [17]. -/
def LIF_UTC_DATE_YEAR : Fd := { page := 0x2a, off := 0x90, hi := 27, lo := 16, acc := .RO, cls := .RO, reset := 0 }
/-- LIF_UTC_TIME.SEC [17]. -/
def LIF_UTC_TIME_SEC : Fd := { page := 0x2a, off := 0x94, hi := 5, lo := 0, acc := .RO, cls := .RO, reset := 0 }
/-- LIF_UTC_TIME.MIN [17]. -/
def LIF_UTC_TIME_MIN : Fd := { page := 0x2a, off := 0x94, hi := 13, lo := 8, acc := .RO, cls := .RO, reset := 0 }
/-- LIF_UTC_TIME.HOUR [17]. -/
def LIF_UTC_TIME_HOUR : Fd := { page := 0x2a, off := 0x94, hi := 20, lo := 16, acc := .RO, cls := .RO, reset := 0 }
/-- LIF_UTC_TIME.VALID [17]. -/
def LIF_UTC_TIME_VALID : Fd := { page := 0x2a, off := 0x94, hi := 31, lo := 31, acc := .RO, cls := .RO, reset := 0 }
/-- LIF_TAI_UTC.TAI_UTC [17]. -/
def LIF_TAI_UTC_TAI_UTC : Fd := { page := 0x2a, off := 0x98, hi := 15, lo := 0, acc := .RO, cls := .RO, reset := 0 }
/-- LIF_LEAP_SEL.ENTRY [17]. -/
def LIF_LEAP_SEL_ENTRY : Fd := { page := 0x2a, off := 0xa0, hi := 5, lo := 0, acc := .RW, cls := .L, reset := 0 }
/-- LIF_LEAP_SEL.COUNT [17]. -/
def LIF_LEAP_SEL_COUNT : Fd := { page := 0x2a, off := 0xa0, hi := 14, lo := 8, acc := .RO, cls := .RO, reset := 0 }
/-- LIF_LEAP_T_LO.T_LO [17]. -/
def LIF_LEAP_T_LO_T_LO : Fd := { page := 0x2a, off := 0xa4, hi := 31, lo := 0, acc := .RW, cls := .L, reset := 0, n1 := 64, act := true }
/-- LIF_LEAP_T_HI.T_HI [17]. -/
def LIF_LEAP_T_HI_T_HI : Fd := { page := 0x2a, off := 0xa8, hi := 31, lo := 0, acc := .RW, cls := .L, reset := 0, n1 := 64, act := true }
/-- LIF_LEAP_OFS.OFS [17]. -/
def LIF_LEAP_OFS_OFS : Fd := { page := 0x2a, off := 0xac, hi := 15, lo := 0, acc := .RW, cls := .L, reset := 0, n1 := 64, act := true }
/-- LIF_LEAP_OFS.LEARNED_LATE [17]. -/
def LIF_LEAP_OFS_LEARNED_LATE : Fd := { page := 0x2a, off := 0xac, hi := 16, lo := 16, acc := .RO, cls := .RO, reset := 0, n1 := 64 }
/-- LIF_LEAP_CTL.ADD [17]. -/
def LIF_LEAP_CTL_ADD : Fd := { page := 0x2a, off := 0xb0, hi := 0, lo := 0, acc := .WO, cls := .L, reset := 0, lock := true, act := true }
/-- HLD_VMIN.VMIN [17]. -/
def HLD_VMIN_VMIN : Fd := { page := 0x2b, off := 0x40, hi := 31, lo := 0, acc := .RW, cls := .B, reset := 1073741824, chk := (.f 0x3f000000 0x40533333 false false) }
/-- HLD_EFF.EFF [17]. -/
def HLD_EFF_EFF : Fd := { page := 0x2b, off := 0x44, hi := 31, lo := 0, acc := .RW, cls := .B, reset := 1062836634, chk := (.f 0x3e99999a 0x3f800000 false false) }
/-- HLD_E_REQ.E_REQ [17]. -/
def HLD_E_REQ_E_REQ : Fd := { page := 0x2b, off := 0x48, hi := 31, lo := 0, acc := .RW, cls := .B, reset := 1002740646, chk := (.f 0x3bc49ba6 0x3dcccccd false false) }
/-- HLD_CTL.MEASURE [17]. -/
def HLD_CTL_MEASURE : Fd := { page := 0x2b, off := 0x4c, hi := 0, lo := 0, acc := .WO, cls := .L, reset := 0, act := true }
/-- HLD_STAT.HOLD_LOW [17]. -/
def HLD_STAT_HOLD_LOW : Fd := { page := 0x2b, off := 0x50, hi := 0, lo := 0, acc := .RO, cls := .RO, reset := 1 }
/-- HLD_STAT.MEAS_FAIL [17]. -/
def HLD_STAT_MEAS_FAIL : Fd := { page := 0x2b, off := 0x50, hi := 1, lo := 1, acc := .RO, cls := .RO, reset := 0 }
/-- HLD_STAT.MEASURING [17]. -/
def HLD_STAT_MEASURING : Fd := { page := 0x2b, off := 0x50, hi := 2, lo := 2, acc := .RO, cls := .RO, reset := 0 }
/-- HLD_STAT.SEGMENT [17]. -/
def HLD_STAT_SEGMENT : Fd := { page := 0x2b, off := 0x50, hi := 3, lo := 3, acc := .RO, cls := .RO, reset := 0 }
/-- HLD_STAT.FAIL_RUN [17]. -/
def HLD_STAT_FAIL_RUN : Fd := { page := 0x2b, off := 0x50, hi := 5, lo := 4, acc := .RO, cls := .RO, reset := 0 }
/-- HLD_V.V [17]. -/
def HLD_V_V : Fd := { page := 0x2b, off := 0x54, hi := 31, lo := 0, acc := .RO, cls := .RO, reset := 0 }
/-- HLD_C.C [17]. -/
def HLD_C_C : Fd := { page := 0x2b, off := 0x58, hi := 31, lo := 0, acc := .RO, cls := .RO, reset := 0 }
/-- HLD_E.E [17]. -/
def HLD_E_E : Fd := { page := 0x2b, off := 0x5c, hi := 31, lo := 0, acc := .RO, cls := .RO, reset := 0 }
/-- HLD_DV_PRE.DV_PRE [17]. -/
def HLD_DV_PRE_DV_PRE : Fd := { page := 0x2b, off := 0x60, hi := 31, lo := 0, acc := .RO, cls := .RO, reset := 0 }
/-- HLD_DV_STEP.DV_STEP [17]. -/
def HLD_DV_STEP_DV_STEP : Fd := { page := 0x2b, off := 0x64, hi := 31, lo := 0, acc := .RO, cls := .RO, reset := 0 }
/-- HLD_DEFER.DEFERRED [17]. -/
def HLD_DEFER_DEFERRED : Fd := { page := 0x2b, off := 0x68, hi := 15, lo := 0, acc := .RO, cls := .RO, reset := 0 }
/-- GRT_CFG.EN [18]. -/
def GRT_CFG_EN : Fd := { page := 0x2c, off := 0x40, hi := 0, lo := 0, acc := .RW, cls := .B, reset := 1 }
/-- GRT_CFG.PASS_TIME [18]. -/
def GRT_CFG_PASS_TIME : Fd := { page := 0x2c, off := 0x40, hi := 6, lo := 1, acc := .RW, cls := .B, reset := 6, chk := (.u 1 48) }
/-- GRT_CFG.CLASS_EN [18]. -/
def GRT_CFG_CLASS_EN : Fd := { page := 0x2c, off := 0x40, hi := 13, lo := 8, acc := .RW, cls := .B, reset := 63 }
/-- GRT_STAT.ACTIVE [18]. -/
def GRT_STAT_ACTIVE : Fd := { page := 0x2c, off := 0x44, hi := 0, lo := 0, acc := .RO, cls := .RO, reset := 0 }
/-- GRT_STAT.LATE [18]. -/
def GRT_STAT_LATE : Fd := { page := 0x2c, off := 0x44, hi := 1, lo := 1, acc := .RO, cls := .RO, reset := 0 }
/-- GRT_STAT.COVERAGE [18]. -/
def GRT_STAT_COVERAGE : Fd := { page := 0x2c, off := 0x44, hi := 15, lo := 8, acc := .RO, cls := .RO, reset := 0 }
/-- GRT_STAT.PASSES [18]. -/
def GRT_STAT_PASSES : Fd := { page := 0x2c, off := 0x44, hi := 31, lo := 16, acc := .RO, cls := .RO, reset := 0 }
/-- GRT_CLASS_SEL.CLASS [18]. -/
def GRT_CLASS_SEL_CLASS : Fd := { page := 0x2c, off := 0x48, hi := 2, lo := 0, acc := .RW, cls := .L, reset := 0 }
/-- GRT_CLASS.TOTAL [18]. -/
def GRT_CLASS_TOTAL : Fd := { page := 0x2c, off := 0x4c, hi := 7, lo := 0, acc := .RO, cls := .RO, reset := 0 }
/-- GRT_CLASS.TESTED [18]. -/
def GRT_CLASS_TESTED : Fd := { page := 0x2c, off := 0x4c, hi := 15, lo := 8, acc := .RO, cls := .RO, reset := 0 }
/-- GRT_CLASS.LAST_PASS [18]. -/
def GRT_CLASS_LAST_PASS : Fd := { page := 0x2c, off := 0x4c, hi := 23, lo := 16, acc := .RO, cls := .RO, reset := 0 }
/-- GRT_CLASS.FAULTS [18]. -/
def GRT_CLASS_FAULTS : Fd := { page := 0x2c, off := 0x4c, hi := 31, lo := 24, acc := .RO, cls := .RO, reset := 0 }
/-- GRT_LAST_FAULT.CLASS [18]. -/
def GRT_LAST_FAULT_CLASS : Fd := { page := 0x2c, off := 0x50, hi := 2, lo := 0, acc := .RO, cls := .RO, reset := 0 }
/-- GRT_LAST_FAULT.ITEM [18]. -/
def GRT_LAST_FAULT_ITEM : Fd := { page := 0x2c, off := 0x50, hi := 15, lo := 8, acc := .RO, cls := .RO, reset := 0 }
/-- GRT_LAST_FAULT.CODE [18]. -/
def GRT_LAST_FAULT_CODE : Fd := { page := 0x2c, off := 0x50, hi := 31, lo := 16, acc := .RO, cls := .RO, reset := 0 }
/-- GRT_PASS_LEN.SECONDS [18]. -/
def GRT_PASS_LEN_SECONDS : Fd := { page := 0x2c, off := 0x54, hi := 31, lo := 0, acc := .RO, cls := .RO, reset := 0 }

end Sys2Proof.F

namespace Sys2Proof.Machine

open Sys2Proof.F

/-- Fields of page SYS [18]. -/
def fieldsSYS : List Fd :=
  [SYS_ID_VENDOR, SYS_ID_PART, SYS_GRADE_GRADE, SYS_GRADE_SILICON, SYS_UID_LO_UID, SYS_UID_HI_UID, SYS_RST_CAUSE_CAUSE, SYS_RST_CTL_KEY, SYS_BOOT_STAT, SYS_BOOT_FALLBACK, SYS_UC_VER_VERSION, SYS_UC_FLOOR_FLOOR, SYS_UC_LEN_LEN, SYS_UC_CTL_START, SYS_UC_STAT_PHASE, SYS_UC_STAT_REFUSE, SYS_TEMP_TEMP, SYS_TEMP_WARN_WARN]
/-- Fields of page PWR [18]. -/
def fieldsPWR : List Fd :=
  [PWR_DOM_REQ_COURSE, PWR_DOM_REQ_NDL, PWR_DOM_REQ_PCIE, PWR_DOM_STAT_ON, PWR_PGOOD_PGOOD, PWR_FAULT_FAULT, PWR_RAIL_SEL_RAIL, PWR_RAIL_V_V, PWR_RAIL_STAT_WARN, PWR_PFAIL_PFAIL]
/-- Fields of page CLK [18]. -/
def fieldsCLK : List Fd :=
  [CLK_STAT_REF25, CLK_STAT_REF_OK, CLK_STAT_SERREF_OK, CLK_STAT_PCIEREF_OK, CLK_STAT_LOCK, CLK_STAT_BCLK_ACT, CLK_STAT_MPLL_HOLD, CLK_PLL_SEL_PLL, CLK_PLL_CNT_LOSSES, CLK_PLL_CNT_LAST_US]
/-- Fields of page IRQ [19]. -/
def fieldsIRQ : List Fd :=
  [IRQ_SUM_SUM, IRQ_ROUTE_SEL_SRC, IRQ_ROUTE_PIN, IRQ_ROUTE_PIN_EN, IRQ_ROUTE_VEC, IRQ_ROUTE_VEC_EN, IRQ_SRC_INFO_PAGE, IRQ_SRC_INFO_BIT, IRQ_SRC_INFO_PRESENT, IRQ_PIN_CFG_EN, IRQ_PIN_CFG_OD, IRQ_PIN_CFG_LEVEL, IRQ_EOI_VEC, IRQ_VEC_STAT_PEND]
/-- Fields of page HST [19]. -/
def fieldsHST : List Fd :=
  [HST_STAT_PCIE_UP, HST_STAT_WIDTH, HST_STAT_SPEED, HST_STAT_BME, HST_STAT_MSIX_EN, HST_STAT_SPI_ACTIVE, HST_SPI_CFG_DUMMY, HST_SPI_CFG_CRC_EN, HST_ERR_PARTIAL, HST_ERR_UNMAPPED, HST_ERR_SPI_CRC, HST_ERR_SPI_ABORT, HST_LAST_ERR_ADDR, HST_LAST_ERR_PORT, HST_LAST_ERR_KIND, HST_TIMEOUT_MS, HST_SCRATCH_SCRATCH]
/-- Fields of page MDE [03]. -/
def fieldsMDE : List Fd :=
  [MDE_REQ_MODE, MDE_REQ_AUTO_HDG, MDE_REQ_FOLLOW_OBJ, MDE_STATUS_MODE, MDE_STATUS_AUTO_HDG, MDE_STATUS_DSTATE, MDE_STATUS_DORM_HOST, MDE_STATUS_FALLBACK, MDE_STATUS_CUT_REALIGN, MDE_STATUS_MOVING, MDE_STATUS_LIMIT_DEFERRED, MDE_STATUS_SP_OVERRUN, MDE_STATUS_FOLLOW_OBJ, MDE_RESULT_MODE, MDE_RESULT_CODE, MDE_RESULT_COUNT, MDE_DEV_CTL_GO, MDE_DEV_CTL_HOLD, MDE_HOLD_CAUSE_CAUSE, MDE_SP_CTL_TURN_DIR, MDE_SP_CTL_STOP, MDE_SP_NORTH_V, MDE_SP_EAST_V, MDE_SP_HEADING_V, MDE_V_MAX_V, MDE_A_MAX_V, MDE_D_MAX_V, MDE_J_MAX_V, MDE_R_MAX_V, MDE_RA_MAX_V, MDE_RD_MAX_V, MDE_RJ_MAX_V, MDE_JOY_X_V, MDE_JOY_Y_V, MDE_JOY_N_V, MDE_REL_ALONG_V, MDE_REL_ACROSS_V, MDE_REL_HEADING_V, MDE_THR_SEL_THR, MDE_LEVER_AZ_V] ++
  [MDE_LEVER_THRUST_V, MDE_POSLOSS_TIME_V, MDE_FOLLOW_LOSS_TIME_V, MDE_WAKE_AT_LO_V, MDE_WAKE_AT_HI_V, MDE_DORM_CFG_REFRESH, MDE_DORM_CFG_WAKE_PIN, MDE_DORM_CFG_WAKE_TIMER, MDE_PRF_NORTH_V, MDE_PRF_EAST_V, MDE_PRF_HEADING_V, MDE_PRF_REM_V]
/-- Fields of page CFG [02]. -/
def fieldsCFG : List Fd :=
  [CFG_LOAD_CTL_START, CFG_LOAD_CTL_ABORT, CFG_LOAD_LEN_LEN, CFG_LOAD_STAT_PHASE, CFG_LOAD_STAT_STRUCT, CFG_LOAD_STAT_DEFERRED, CFG_LOAD_STAT_REFUSE, CFG_LOAD_STAT_SECTION, CFG_LOAD_RECORD_RECORD, CFG_ACTIVE_VALID, CFG_ACTIVE_SLOT, CFG_ACTIVE_OVERLAY, CFG_ACTIVE_ID_ID, CFG_ACTIVE_REV_REV, CFG_OVERLAY_REV_REV, CFG_POLICY_SIG_REQ, CFG_POLICY_ROLLBACK_OK, CFG_CUTINS_COUNT, CFG_KEY_SEL_KEY, CFG_KEY_SEL_WORD, CFG_KEY_DATA_DATA, CFG_KEY_STAT_SET]
/-- Fields of page MSN [10]. -/
def fieldsMSN : List Fd :=
  [MSN_CFG_RESERVE_TILES, MSN_CFG_RESERVE_BANKS, MSN_CFG_ROTATE, MSN_CFG_REEVAL_EN, MSN_CFG_OVR_LIMIT, MSN_STAT_TILES_BUSY, MSN_STAT_TILES_FREE, MSN_STAT_TILES_FAULTY, MSN_STAT_TILES_SUSPECT, MSN_STAT_BANKS_FREE, MSN_STAT_BANKS_FAULTY, MSN_STAT_SPARE_LOW, MSN_STAT_UNPLACED, MSN_EXCL_COURSE, MSN_COUNT_TILE_FAULTS, MSN_COUNT_MIGRATIONS, MSN_JOB_SEL_JOB, MSN_JOB_STAT_STATE, MSN_JOB_STAT_RESTARTED, MSN_JOB_STAT_PINNED, MSN_JOB_STAT_PIN_BROKEN, MSN_JOB_STAT_MOVES, MSN_JOB_STAT_OVERRUNS, MSN_JOB_TIME_LAST, MSN_JOB_TIME_MAX, MSN_JOB_PIN_COURSE, MSN_JOB_PIN_EN, MSN_DIAG_CTL_EN, MSN_DIAG_TILE_SEL_TILE, MSN_DIAG_TILE_STATE, MSN_DIAG_TILE_JOBS, MSN_DIAG_TILE_SHARE, MSN_DIAG_JOB_TILE0, MSN_DIAG_JOB_TILE1, MSN_DIAG_JOB_BANK, MSN_DIAG_EXCL_TILE, MSN_DIAG_CLR_TILE, MSN_DIAG_CLR_CLEAR, MSN_DIAG_BANK_SEL_BANK, MSN_DIAG_BANK_STATE] ++
  [MSN_DIAG_BANK_USE, MSN_DIAG_BANK_CE_COUNT]
/-- Fields of page SLV [09]. -/
def fieldsSLV : List Fd :=
  [SLV_CFG_MAX_ITER, SLV_CFG_REFACT, SLV_CFG_WARM_EN, SLV_FEAS_TOL_V, SLV_OPT_TOL_V, SLV_REG_DELTA_V, SLV_STAT_OUTCOME, SLV_STAT_REASON, SLV_STAT_COLD, SLV_STAT_WARM_REJECT, SLV_STAT_REGULARISED, SLV_STAT_RUNNING, SLV_STAT_ITERS, SLV_SIZE_VARS, SLV_SIZE_ACTIVE, SLV_TIME_SOLVE, SLV_TIME_ASM, SLV_VIOL_VIOL, SLV_PIVOT_COL, SLV_PIVOT_REG_RUN, SLV_PIVOT_COUNT, SLV_CAUSE_CAUSE, SLV_CAUSE_THR, SLV_CAUSE_JOINT, SLV_SIG0_VARS, SLV_SIG0_N_USED, SLV_SIG0_APP, SLV_SIG0_MASK, SLV_SIG1_ROWS, SLV_SIG1_ASTERN, SLV_CNT_WARM_REJECT, SLV_CNT_COLD, SLV_CNT2_PIVOT_SMALL, SLV_CNT2_ABANDONED, SLV_NUM_SQRT_NEG, SLV_APP_CFG_HOLD_NE, SLV_APP_CFG_HOLD_D, SLV_APP_CFG_FF_EN, SLV_APP_CFG_NEWTON, SLV_APP_DAMP_V] ++
  [SLV_APP_MOVE_N_V, SLV_APP_MOVE_E_V, SLV_APP_MOVE_D_V, SLV_APP_TGT_N_V, SLV_APP_TGT_E_V, SLV_APP_TGT_D_V, SLV_APP_ERR_V, SLV_APP_STAT_ACTIVE, SLV_APP_STAT_LIMIT, SLV_APP_STAT_SINGULAR, SLV_APP_STAT_OVERRUNS, SLV_APP_REACT_X_V, SLV_APP_REACT_Y_V, SLV_APP_REACT_N_V, SLV_JNT_SEL_JNT, SLV_JNT_Q_V, SLV_JNT_QD_V, SLV_JNT_TAU_V, SLV_AZ_SEL_THR, SLV_AZ_CFG_FF_EN, SLV_AZ_J_J, SLV_AZ_FRIC_FRIC, SLV_AZ_TAU_TAU]
/-- Fields of page FUS [07]. -/
def fieldsFUS : List Fd :=
  [FUS_CFG_WF_EN, FUS_CFG_CUR_EN, FUS_CFG_TRIM_EN, FUS_CFG_ORG_AUTO, FUS_CFG_ORG_SET, FUS_CFG_PRED_COUNT, FUS_STAT_OWN_VALID, FUS_STAT_POS_VALID, FUS_STAT_HDG_VALID, FUS_STAT_DR, FUS_STAT_RERUN, FUS_STAT_REF_DISAGREE, FUS_STAT_NREF_ACC, FUS_STAT_POS_AGE, FUS_REW_STAT_LAST_DEPTH, FUS_REW_STAT_MAX_DEPTH, FUS_REW_STAT_SPAN, FUS_LATE_DROP_COUNT, FUS_LATE_DROP_LAST_SRC, FUS_LOG_RECORDS, FUS_LOG_EVICT, FUS_ADD_X_V, FUS_ADD_Y_V, FUS_ADD_N_V, FUS_TD_X_V, FUS_TD_Y_V, FUS_TD_N_V, FUS_WF_W0_V, FUS_WF_ZETA_V, FUS_Q_VEL_V, FUS_Q_BIAS_F_V, FUS_Q_BIAS_M_V, FUS_Q_CUR_V, FUS_Q_TRIM_V, FUS_Q_WF_V, FUS_Q_WFH_V, FUS_FREEZE_TIME_V, FUS_FREEZE_EPS_V, FUS_VAR_WINDOW_V, FUS_VAR_LIMIT_V] ++
  [FUS_PRED_GATE_V, FUS_MEDIAN_LIMIT_V, FUS_DRIFT_TAU_V, FUS_DRIFT_LIMIT_V, FUS_RECOVER_TIME_V, FUS_POS_SIG_MAX_V, FUS_HDG_SIG_MAX_V, FUS_CLK_TAU_V, FUS_CLK_RATE_MAX_V, FUS_CLK_INIT_V, FUS_ORG_LAT_LO_V, FUS_ORG_LAT_HI_V, FUS_ORG_LON_LO_V, FUS_ORG_LON_HI_V, FUS_ORG_STAT_SET, FUS_ORG_STAT_FAR, FUS_ORG_STAT_GEN, FUS_SRC_SEL_SRC, FUS_SRC_CFG_USE, FUS_SRC_CFG_TIME_SRC, FUS_SRC_SIGMA_SIGMA, FUS_SRC_LAT_LAT, FUS_SRC_STAT_REF, FUS_SRC_STAT_REASON, FUS_SRC_STAT_TIME_SUSPECT, FUS_SRC_STAT_CLK_INIT, FUS_SRC_STAT_PRED_FAILS, FUS_SRC_STAT_FUSED, FUS_SRC_OFS_OFS, FUS_SRC_RATE_RATE, FUS_SRC_RESID_RESID, FUS_SRC_WEIGHT_WEIGHT, FUS_VGRP_SEL_GRP, FUS_VGRP_LIMIT_LIMIT, FUS_VGRP_LIMIT2_LIMIT2, FUS_VGRP_TIME_TIME, FUS_VGRP_STAT_MEMBERS, FUS_VGRP_STAT_USED, FUS_VGRP_STAT_DISAGREE, FUS_VGRP_STAT_CHOSEN] ++
  [FUS_OBJ_SEL_OBJ, FUS_TGT_TIMEOUT_TGT_TIMEOUT, FUS_TGT_QR_TGT_QR, FUS_OBJ_STAT_INIT, FUS_OBJ_STAT_VALID, FUS_OBJ_STAT_HDG_FROM_COURSE, FUS_OBJ_STAT_AGE]
/-- Fields of page CTL [08]. -/
def fieldsCTL : List Fd :=
  [CTL_DEADLINE_D, CTL_HOR_N, CTL_HOR_HSTEP, CTL_STAT_OUTCOME, CTL_STAT_FALLBACK, CTL_STAT_SHIFT_RUN, CTL_STAT_SOLVED_RUN, CTL_STAT_N_USED, CTL_STAT_WIND_FF, CTL_Q_SURGE_V, CTL_Q_SWAY_V, CTL_Q_HDG_V, CTL_Q_U_V, CTL_Q_V_V, CTL_Q_R_V, CTL_R_F_V, CTL_R_DF_V, CTL_Q_TERM_V, CTL_TRANSFER_GAIN_V, CTL_W_TAU_V, CTL_WIND_FF_V, CTL_WIND_AF_V, CTL_WIND_AL_V, CTL_ERR_POS_V, CTL_ERR_HDG_V, CTL_WIND_SEL_IDX, CTL_WIND_CX_V, CTL_WIND_CY_V, CTL_WIND_CN_V, CTL_FB_KP_X_V, CTL_FB_KP_Y_V, CTL_FB_KP_N_V, CTL_FB_KD_X_V, CTL_FB_KD_Y_V, CTL_FB_KD_N_V, CTL_FB_KI_X_V, CTL_FB_KI_Y_V, CTL_FB_KI_N_V, CTL_FB_ILIM_V, CTL_ERR_ALONG_V] ++
  [CTL_ERR_ACROSS_V, CTL_ERR_HDG_NOW_V, CTL_TAU_X_V, CTL_TAU_Y_V, CTL_TAU_N_V, CTL_FB_CNT_ENTRIES, CTL_FB_CNT_SHIFTED]
/-- Fields of page ALC [08]. -/
def fieldsALC : List Fd :=
  [ALC_THR_SEL_THR, ALC_THR_CTL_EN, ALC_THR_CTL_MODEL, ALC_THR_CTL_DEPLOY_EN, ALC_THR_CTL_DEPLOY_DIN, ALC_THR_CTL_READY_SRC, ALC_THR_CTL_READY_DIN, ALC_THR_W_V, ALC_THR_DERATE_V, ALC_THR_K_POS_V, ALC_THR_K_NEG_V, ALC_THR_N_CONST_V, ALC_THR_F_RATE_V, ALC_THR_RUD_V, ALC_THR_RUD_MAX_V, ALC_THR_STAT_AVAIL, ALC_THR_STAT_LOST_CAUSE, ALC_THR_STAT_RECOVERING, ALC_THR_STAT_SAT, ALC_THR_STAT_SECTOR, ALC_THR_STAT_AHEAD, ALC_THR_FX_V, ALC_THR_FY_V, ALC_THR_AZ_V, ALC_MASK_AVAIL, ALC_STAT_NO_SPAN, ALC_STAT_LOSSES, ALC_SPAN_TOL_V, ALC_F_DEAD_V, ALC_RECOVER_TIME, ALC_AVAIL_X_V, ALC_AVAIL_Y_V, ALC_AVAIL_N_V, ALC_SIGMA_MIN_V]
/-- Fields of page GNS0 [04]. -/
def fieldsGNS0 : List Fd :=
  [GNS0_RX_CFG_GPS_EN, GNS0_RX_CFG_GAL_EN, GNS0_RX_CFG_BDS_EN, GNS0_RX_CFG_GLO_EN, GNS0_RX_CFG_QZS_EN, GNS0_RX_CFG_SBAS_EN, GNS0_RX_CFG_UP_PLAN, GNS0_RX_CFG_ANT_B_EN, GNS0_RX_CFG_LO_BAND_EN, GNS0_RX_CFG_XTRK_EN, GNS0_SIG_EN_SIG, GNS0_ACQ_CFG_BANK_USE, GNS0_ACQ_CFG_PFA_EXP, GNS0_ACQ_CFG_DOPP_SPAN, GNS0_ACQ_CFG_DWELL_BANK, GNS0_ACQ_CFG_DWELL_SER, GNS0_ACQ_STAT_ENGINE, GNS0_ACQ_STAT_BANK_FAULT, GNS0_ACQ_STAT_BANK_OFF, GNS0_ACQ_STAT_QUEUE, GNS0_ACQ_STAT_DETECTS, GNS0_TRK_CFG_PLL_BW, GNS0_TRK_CFG_FLL_BW, GNS0_TRK_CFG_DLL_BW, GNS0_TRK_CFG_EL_SPACING, GNS0_TRK_CFG2_CN0_LOSS_P, GNS0_TRK_CFG2_CN0_LOSS_D, GNS0_TRK_CFG2_TCOH_PILOT, GNS0_TRK_CFG2_TCOH_DATA_BIT, GNS0_TRK_CFG2_VEVL_SPACING, GNS0_ELEV_MASK_MASK, GNS0_PATH_SEL_PATH, GNS0_PATH_SEL_NOTCH, GNS0_AGC_CFG_MODE, GNS0_AGC_CFG_FIXED_GAIN, GNS0_AGC_CFG_TARGET, GNS0_AGC_STAT_GAIN, GNS0_AGC_STAT_CLIP, GNS0_AGC_STAT_FAULT_OPEN, GNS0_AGC_STAT_FAULT_OVERLOAD] ++
  [GNS0_AGC_STAT_PATH_FAULT, GNS0_JAM_JI, GNS0_JAM_DG, GNS0_JAM_DN, GNS0_JAM_NOTCH_LOSS, GNS0_JAM_REF_G_REF, GNS0_JAM_REF_N_REF, GNS0_JAM_REF_CAL, GNS0_JAM_THR_WARN, GNS0_JAM_THR_HIGH, GNS0_NOTCH_CFG_EN, GNS0_NOTCH_CFG_WIDTH, GNS0_NOTCH_CFG_THR, GNS0_NOTCH_CFG_HOLD, GNS0_NOTCH_STAT_STATE, GNS0_NOTCH_STAT_DEPTH, GNS0_NOTCH_STAT_FREQ, GNS0_CHN_SEL_CHN, GNS0_CHN_STAT_STATE, GNS0_CHN_STAT_HALF_CYC, GNS0_CHN_STAT_SIG, GNS0_CHN_STAT_SV, GNS0_CHN_STAT_PATH, GNS0_CHN_STAT_SIDE_PEAK, GNS0_CHN_STAT_SLIPS, GNS0_CHN_CN0_CN0, GNS0_CHN_DOPP_DOPP, GNS0_CHN_COUNT_TRACKING, GNS0_CHN_COUNT_PARTNER, GNS0_CHN_COUNT_FREE, GNS0_XTRK_STAT_RX_ACTIVE, GNS0_XTRK_STAT_TX_ACTIVE, GNS0_XTRK_STAT_GAP, GNS0_XTRK_STAT_BLOCK_ERR]
/-- Fields of page GNS1 [05]. -/
def fieldsGNS1 : List Fd :=
  [GNS1_SOL_CFG_RATE, GNS1_SOL_CFG_DUAL_FREQ, GNS1_SOL_CFG_SBAS_CORR, GNS1_SOL_CFG_ISB_PRIOR_USE, GNS1_SOL_CFG_XTRK_USE, GNS1_SOL_CFG_RESID_THR, GNS1_SOL_CFG_MAX_EXCL, GNS1_RTK_CFG_RTK_EN, GNS1_RTK_CFG_PORT_KIND, GNS1_RTK_CFG_PORT, GNS1_RTK_CFG_AGE_MAX, GNS1_RTK_CFG_RATIO_THR, GNS1_RTK_CFG_STATION, GNS1_RTK_UDP_UDP_PORT, GNS1_RTK_STAT_STATION, GNS1_RTK_STAT_AGE, GNS1_RTK_STAT_FIX, GNS1_RTCM_CNT_ACCEPTED, GNS1_RTCM_CNT_IGNORED, GNS1_RTCM_ERR_CRC_FAIL, GNS1_HDG_CFG_ATT_EN, GNS1_HDG_CFG_BASE_TOL, GNS1_HDG_CFG_FIX_MIN_SV, GNS1_ATT_STAT_MODE, GNS1_ATT_STAT_BASE_FAIL, GNS1_ATT_STAT_ANTS, GNS1_ATT_STAT_NSV, GNS1_SOL_STAT_TYPE, GNS1_SOL_STAT_ANT, GNS1_SOL_STAT_NSV, GNS1_SOL_STAT_EXCL, GNS1_ISB_SEL_SYS, GNS1_ISB_SEL_ESTIMATED, GNS1_ISB_SEL_BCAST_VALID, GNS1_ISB_V, GNS1_ISB_BCAST_V, GNS1_ISB_SIGMA_SIGMA, GNS1_POS_REC_W, GNS1_ATT_REC_W]
/-- Fields of page GNS2 [05]. -/
def fieldsGNS2 : List Fd :=
  [GNS2_PPS_CFG_MODE, GNS2_PPS_CFG_POL, GNS2_PPS_CFG_WIDTH, GNS2_PPS_ADV_ADV, GNS2_ANT_DELAY_DELAY_U0A, GNS2_ANT_DELAY_DELAY_U0B, GNS2_TIME_CFG_STEP_INHIBIT, GNS2_TIME_CFG_HOLD_DELAY, GNS2_HOLD_LIMIT_LIMIT, GNS2_OSC_U0_V, GNS2_OSC_DRIFT_V, GNS2_TIME_STAT_STATE, GNS2_TIME_STAT_STEP_PENDING, GNS2_TIME_STAT_LIMIT_PASSED, GNS2_EST_ERR_V, GNS2_OFFSET_V, GNS2_HOLD_START_LO_V, GNS2_HOLD_START_HI_V, GNS2_TP_MSG_W, GNS2_KEEP_STAT_ALM, GNS2_KEEP_STAT_EPH, GNS2_KEEP_STAT_POS, GNS2_KEEP_STAT_TIME, GNS2_KEEP_STAT_EPH_COUNT, GNS2_KEEP_STAT_AGE, GNS2_UTC_TAI_UTC, GNS2_UTC_LEAP_PENDING, GNS2_UTC_LEAP_NEG, GNS2_ANT_DELAY2_DELAY_U1A, GNS2_ANT_DELAY2_DELAY_U1B]
/-- Fields of page SRC [06]. -/
def fieldsSRC : List Fd :=
  [SRC_SEL_SRC, SRC_STAT_STATE, SRC_STAT_SENDER_TIME, SRC_STAT_PROJECTED, SRC_STAT_RECORDS, SRC_ERR_PARSE, SRC_ERR_RATE, SRC_LAST_LO_V, SRC_LAST_HI_V, SRC_SCALE_SCALE, SRC_OFFSET_OFFSET, SRC_AUX_AIN_X, SRC_AUX_AIN_Y, SRC_QUEUE_DEPTH, SRC_QUEUE_MAX, SRC_OVERFLOW_COUNT, SRC_OVERFLOW_LAST_SRC, SRC_WATCH_WATCH, SRC_REC_W]
/-- Fields of page FLT [06]. -/
def fieldsFLT : List Fd :=
  [FLT_MOD_CFG_EN, FLT_MOD_CFG_SCAN, FLT_MOD_CFG_SEL, FLT_MOD_CFG_DWELL, FLT_MOD_CFG_RATE, FLT_IN_CFG_RANGE, FLT_GAIN_V, FLT_OFFSET_V, FLT_SETTLE_COUNT, FLT_SETTLE_H, FLT_GDELAY_V, FLT_RATIO_FRAC_V, FLT_RATIO_INT_V, FLT_STAT_VALID, FLT_STAT_OVERRANGE, FLT_STAT_SELECTED, FLT_APLL_COUNT]
/-- Fields of page SIO [06]. -/
def fieldsSIO : List Fd :=
  [SIO_PORT_SEL_PORT, SIO_CFG_PORT_EN, SIO_CFG_RATE, SIO_CFG_CKSUM_REQ, SIO_STAT_LINES, SIO_STAT_BREAK, SIO_ERR_CKSUM, SIO_ERR_FRAMING, SIO_ERR_OVERLONG, SIO_ERR_UNMATCHED, SIO_450_CNT_ACCEPTED, SIO_450_CNT_REJECTED]
/-- Fields of page LOP [11]. -/
def fieldsLOP : List Fd :=
  [LOP_SEL_CH, LOP_CH_CFG_RATE, LOP_CH_CFG_USE, LOP_CH_CFG_FB_SRC, LOP_CH_CFG_FB_DIFF, LOP_CH_CFG_FB_PORT, LOP_CH_CFG_OUT_KIND, LOP_CH_CFG_OUT_PORT, LOP_CH_CFG_WRAP, LOP_CH_CFG_SP_INTERP, LOP_CH_CFG_PL_MODEL, LOP_CH_CFG_FAULT_ACT, LOP_CH_PHASE_PHASE, LOP_CH_CTL_BANK, LOP_CH_CTL_CLR, LOP_CH_STAT_STATE, LOP_CH_STAT_BANK_ACT, LOP_CH_STAT_AW, LOP_CH_STAT_SAT, LOP_CH_STAT_SWAP_CLAMP, LOP_CH_STAT_READY, LOP_CH_STAT_CAUSE, LOP_CH_STAT_PL_FAILS, LOP_CH_STAT_FAULTS, LOP_FB_SCALE_V, LOP_FB_OFFSET_V, LOP_FB_MIN_V, LOP_FB_MAX_V, LOP_FB_TF_V, LOP_OUT_MIN_V, LOP_OUT_MAX_V, LOP_OUT_RATE_V, LOP_RAMP_RATE_V, LOP_OL_GAIN_V, LOP_PL_K_V, LOP_PL_TAU_V, LOP_PL_DB_V, LOP_PL_THR_V, LOP_PL_WINDOW_V, LOP_PL_CNT_PL_COUNT] ++
  [LOP_PL_CNT_FB_AGE_MAX, LOP_SP_MIN_V, LOP_SP_MAX_V, LOP_KP_A_V, LOP_KI_A_V, LOP_KD_A_V, LOP_TF_A_V, LOP_KFF_A_V, LOP_KV_A_V, LOP_I_MIN_A_V, LOP_I_MAX_A_V, LOP_KP_B_V, LOP_KI_B_V, LOP_KD_B_V, LOP_TF_B_V, LOP_KFF_B_V, LOP_KV_B_V, LOP_I_MIN_B_V, LOP_I_MAX_B_V, LOP_SP_V, LOP_SP_EFF_V, LOP_FB_V, LOP_OUT_V, LOP_INT_V, LOP_PL_RES_V, LOP_FF_V, LOP_LOAD_EVALS, LOP_LOAD_PEAK, LOP_RUNMASK_ON, LOP_FAULTMASK_FAULT]
/-- Fields of page AOU [12]. -/
def fieldsAOU : List Fd :=
  [AOU_SEL_OUT, AOU_CFG_FAIL, AOU_CFG_HOST_EN, AOU_CFG_PWM_MODE, AOU_CFG_PWM_POL, AOU_CFG_DIR_DOUT, AOU_GAIN_GAIN, AOU_OFFSET_OFFSET, AOU_PERIOD_PERIOD, AOU_HOST_HOST, AOU_CODE_CODE, AOU_STAT_FAIL_ACT, AOU_STAT_CLAMPED, AOU_STAT_BOUND, AOU_STAT_CH]
/-- Fields of page PFG [12]. -/
def fieldsPFG : List Fd :=
  [PFG_SEL_AXIS, PFG_CFG_MODE, PFG_CFG_STEP_WIDTH, PFG_CFG_DIR_SETUP, PFG_CFG_DIR_POL, PFG_CFG_FAIL, PFG_IO_LIM_POS, PFG_IO_LIM_POS_EN, PFG_IO_LIM_NEG, PFG_IO_LIM_NEG_EN, PFG_IO_HOME, PFG_IO_HOME_EN, PFG_IO_EN_DOUT, PFG_IO_EN_DOUT_EN, PFG_V_MAX_V_MAX, PFG_A_MAX_A_MAX, PFG_D_MAX_D_MAX, PFG_TARGET_TARGET, PFG_CTL_STOP, PFG_CTL_SOFT_STOP, PFG_CTL_HOME, PFG_CTL_CLR_CHATTER, PFG_POS_POS, PFG_RATE_RATE, PFG_STAT_PHASE, PFG_STAT_POS_VALID, PFG_STAT_LIMIT_DEFERRED, PFG_STAT_LIM_POS_ACT, PFG_STAT_LIM_NEG_ACT, PFG_STAT_CHATTER, PFG_STAT_HOMING_FAIL, PFG_STAT_COMPARE_BEHIND, PFG_STAT_ARMED, PFG_STAT_DIR, PFG_STAT_DIR_CHANGE, PFG_STAT_MOVE_REFUSED, PFG_STAT_FAIL_ACT, PFG_HOME_DIR, PFG_HOME_IDX, PFG_HOME_IDX_PORT] ++
  [PFG_HOME_VEL_HOME_VEL, PFG_HOME_SLOW_HOME_SLOW, PFG_HOME_BACKOFF_BACKOFF, PFG_HOME_POS_HOME_POS, PFG_HOME_MAX_HOME_MAX, PFG_CMP_CMP, PFG_CMP_CTL_ARM, PFG_CMP_CTL_CMP_IMMEDIATE, PFG_CMP_CTL_PULSE_DOUT, PFG_CMP_CTL_PULSE_EN, PFG_CMP_CTL_PULSE_W, PFG_CMP_TIME_LO_V, PFG_CMP_TIME_HI_V]
/-- Fields of page ENC [12]. -/
def fieldsENC : List Fd :=
  [ENC_SSI_SEL_PORT, ENC_SSI_CFG_EN, ENC_SSI_CFG_DIV, ENC_SSI_CFG_LEN, ENC_SSI_CFG_START, ENC_SSI_CFG_ERR_BIT, ENC_SSI_CFG_GRAY, ENC_SSI_CFG_CRC, ENC_SSI_MONO_MONO, ENC_SSI_WORD_WORD, ENC_SSI_STAT_FAIL, ENC_SSI_STAT_CAUSE, ENC_SSI_STAT_OVERRUN, ENC_SSI_STAT_FAILS, ENC_QD_SEL_PORT, ENC_QD_CFG_EN, ENC_QD_CFG_FILT, ENC_QD_CFG_DIR_INV, ENC_QD_CFG_IDX_MODE, ENC_QD_CFG_ILL_LIMIT, ENC_QD_COUNT_COUNT, ENC_QD_IDX_IDX, ENC_QD_STAT_ILLEGAL, ENC_QD_STAT_ENC_FAULT, ENC_QD_STAT_DIR, ENC_QD_STAT_DIR_CHANGE, ENC_QD_STAT_COMPARE_BEHIND, ENC_QD_STAT_ARMED, ENC_QD_STAT_IDX_SEEN, ENC_QD_STAT_ILL_COUNT, ENC_QD_CMP_CMP, ENC_QD_CMP_CTL_ARM, ENC_QD_CMP_CTL_CMP_IMMEDIATE, ENC_QD_CMP_CTL_PULSE_DOUT, ENC_QD_CMP_CTL_PULSE_EN, ENC_QD_CMP_CTL_PULSE_W, ENC_QD_CMP_TIME_LO_V, ENC_QD_CMP_TIME_HI_V, ENC_EMU_SEL_OUT, ENC_EMU_CFG_EN] ++
  [ENC_EMU_CFG_SRC_KIND, ENC_EMU_CFG_SRC, ENC_EMU_CFG_IDX_PASS, ENC_EMU_CFG_MIN_GAP, ENC_EMU_RATIO_M, ENC_EMU_RATIO_N, ENC_EMU_STAT_PENDING, ENC_EMU_STAT_OVERRUNS]
/-- Fields of page DIO [12]. -/
def fieldsDIO : List Fd :=
  [DIO_DIN_RAW_RAW, DIO_DIN_DIN, DIO_DIN_POL_POL, DIO_DEB_SEL_IN, DIO_DEB_DEB, DIO_DIN_IRQ_EN_IRQ_EN, DIO_DOUT_DOUT, DIO_DOUT_FAIL_FAIL, DIO_DOUT_STAT_LEVEL]
/-- Fields of page CAN [13]. -/
def fieldsCAN : List Fd :=
  [CAN_NBT_NBRP, CAN_NBT_NTSEG1, CAN_NBT_NTSEG2, CAN_NBT_NSJW, CAN_DBT_DBRP, CAN_DBT_DTSEG1, CAN_DBT_DTSEG2, CAN_DBT_DSJW, CAN_DBT_TDC_EN, CAN_DBT_TDCO, CAN_MODE_FD_EN, CAN_MODE_BRS_EN, CAN_MODE_NISO, CAN_MODE_LISTEN, CAN_MODE_LOOPBACK, CAN_MODE_DAR, CAN_MODE_AUTO_RECOV, CAN_PSTAT_STATE, CAN_PSTAT_WARN, CAN_PSTAT_LEC, CAN_PSTAT_TEC, CAN_PSTAT_REC, CAN_PSTAT_PXE, CAN_PSTAT_TDCV, CAN_CMD_RESTART, CAN_CMD_PUT, CAN_TSC_TSC, CAN_TXREQ_REQ, CAN_TXPEND_PEND, CAN_TXCANCEL_BUF, CAN_TXLOG_STAT_FILL, CAN_TXLOG_STAT_GET, CAN_TXLOG_STAT_PUT_BUSY, CAN_TXLOG_ACK_IDX, CAN_LATE_MAX_LATE_MAX, CAN_RXF_CFG_WM, CAN_RXF_CFG_OVERWRITE, CAN_RXF_STAT_FILL, CAN_RXF_STAT_GET, CAN_RXF_STAT_PUT] ++
  [CAN_RXF_STAT_LOST, CAN_RXF_ACK_IDX, CAN_RX_CNT_NOMATCH, CAN_RX_CNT_REMOTE, CAN_MRAM_SEL_REGION, CAN_MRAM_SEL_INDEX, CAN_DB_SNAP_SNAP, CAN_DB_NEW_NEW, CAN_DB_IRQ_EN_EN, CAN_FLT_CFG_BASE, CAN_FLT_CFG_COUNT, CAN_FLT_CFG_NOMATCH_STD, CAN_FLT_CFG_NOMATCH_XTD, CAN_FLT_SEL_ENTRY, CAN_FLT_KEY_KEY, CAN_FLT_SPAN_SPAN, CAN_FLT_CTRL_CONTROL, CAN_SB_CFG_EN, CAN_SB_CFG_ROLE, CAN_SB_CFG_ALIGN, CAN_SB_CFG_NROW_LOG2, CAN_SB_CFG_NCOL_M1, CAN_SB_CFG_REF_BUF, CAN_SB_LEN_BC_LEN, CAN_SB_LEN_REF_OFS, CAN_SB_COL_SEL_COL, CAN_SB_COL_START, CAN_SB_COL_TOL, CAN_SB_CELL_SEL_ROW, CAN_SB_CELL_SEL_COL, CAN_SB_CELL_TYPE, CAN_SB_CELL_BUF, CAN_SB_STAT_STATE, CAN_SB_STAT_CYCLE, CAN_SB_STAT_REF_MISS, CAN_SB_STAT_WIN_MISS, CAN_SB_STAT_RXCHK_MISS, CAN_SB_OCC_EMPTY_RUN, CAN_SB_OCC_OCC, CAN_SB_OCC_CMD_ACTIVE] ++
  [CAN_SLOT_SEL_SLOT, CAN_SLOT_CFG_EN, CAN_SLOT_CFG_BUF, CAN_SLOT_CFG_OFS, CAN_SLOT_CFG_FMT, CAN_SLOT_CFG_VALUE, CAN_SLOT_CFG_FAIL, CAN_SLOT_SCALE_SCALE, CAN_STS_SEL_SLOT, CAN_STS_CFG_EN, CAN_STS_CFG_DB, CAN_STS_CFG_OFS, CAN_STS_CFG_FMT, CAN_STS_CFG_THR, CAN_STS_CFG_READY_BYTE, CAN_STS_CFG_READY_BIT, CAN_STS_CFG_READY_EN, CAN_STS_SCALE_SCALE, CAN_ELEM_W]
/-- Fields of page E2E [13]. -/
def fieldsE2E : List Fd :=
  [E2E_SEL_CTX, E2E_CFG_EN, E2E_CFG_DIR, E2E_CFG_CRC32, E2E_CFG_CNT8, E2E_CFG_STREAM, E2E_CFG_STRIP, E2E_CFG_DROP_BAD, E2E_CFG_XTD, E2E_CFG_CHANNEL, E2E_ID_ID, E2E_LAYOUT_DATA_ID, E2E_LAYOUT_PLEN, E2E_LAYOUT_CNT_POS, E2E_RX_PAD, E2E_RX_MAX_DELTA, E2E_RX_TIMEOUT, E2E_RUN_RUN_CRC, E2E_RUN_CNT_COUNT, E2E_STAT_RESULT, E2E_STAT_BAD, E2E_STAT_GOOD]
/-- Fields of page TIM [14]. -/
def fieldsTIM : List Fd :=
  [TIM_SNAP_SNAP, TIM_TB_SEL_TB, TIM_TB_NS_NS, TIM_TB_SEC_LO_SEC_LO, TIM_TB_SEC_HI_SEC_HI, TIM_TB_INC_FRAC, TIM_TB_INC_INT_INT, TIM_SRV_CFG_MODE, TIM_SRV_CFG_SRC, TIM_SRV_KP_KP, TIM_SRV_KI_KI, TIM_SRV_SLEW_SLEW_MAX, TIM_SRV_FMAX_FREQ_MAX, TIM_SRV_LOCK_THR, TIM_SRV_LOCK_TIMEOUT, TIM_SRV_OFS_IN_OFS_IN, TIM_SRV_STAT_STATE, TIM_SRV_STAT_SRC_ACT, TIM_SRV_STAT_P_CLAMP, TIM_SRV_STAT_Y_CLAMP, TIM_SRV_STAT_UPDATES, TIM_SRV_OFS_OFS, TIM_SRV_Y_Y, TIM_SRV_I_I, TIM_STEP_LO_STEP_LO, TIM_STEP_HI_STEP_HI, TIM_STEP_CTL_GO, TIM_STEP_CTL_TB, TIM_PPSIN_CFG_EN, TIM_PPSIN_CFG_POL, TIM_PPSIN_CFG_DELAY, TIM_PPSIN_STAT_EDGES, TIM_PPSIN_STAT_AMBIG, TIM_PPSIN_STAT_PRESENT, TIM_PPSIN_T_LO_T_LO, TIM_PPSIN_T_HI_T_HI, TIM_NOW_LO_NOW_LO, TIM_NOW_HI_NOW_HI]
/-- Fields of page ETH [14]. -/
def fieldsETH : List Fd :=
  [ETH_CFG_TX_EN, ETH_CFG_RX_EN, ETH_CFG_PROMISC, ETH_CFG_TS_TB, ETH_MAC_LO_MAC_LO, ETH_MAC_HI_MAC_HI, ETH_PTP_CFG_PTP_EN, ETH_PTP_CFG_ONE_STEP_EN, ETH_PTP_CFG_DOM1, ETH_PTP_CFG_DOM2, ETH_CORR_RX, ETH_CORR_TX, ETH_LINK_LINK, ETH_LINK_AN_DONE, ETH_LINK_BAD_MODE, ETH_CNT_RX_OK, ETH_CNT_RX_DROP, ETH_ERR_FCS, ETH_ERR_SHORT, ETH_ERR_LONG, ETH_ERR_IP, ETH_GRP_SEL_GRP, ETH_GRP_ADDR_ADDR, ETH_GRP_CFG_PORT, ETH_GRP_CFG_EN, ETH_GRP_CFG_HOST_COPY, ETH_TXQ_SEL_QUEUE, ETH_TXQ_CFG_EN, ETH_TXQ_CFG_TB, ETH_TXQ_CFG_LATE_ACT, ETH_TXQ_CFG_LATE_MAX, ETH_TXQ_STAT_FILL, ETH_TXQ_STAT_MISSED, ETH_TXQ_STAT_REFUSED, ETH_TX_PUSH_BUF, ETH_TX_PUSH_QUEUE, ETH_TX_PUSH_LAUNCH, ETH_TX_PUSH_ONE_STEP, ETH_TXC_BUF, ETH_TXC_RESULT] ++
  [ETH_TXC_VALID, ETH_RX_FREE_BUF, ETH_RX_POP_BUF, ETH_RX_POP_VALID, ETH_MDIO_DATA, ETH_MDIO_REG, ETH_MDIO_PHY, ETH_MDIO_OP, ETH_MDIO_BUSY]
/-- Fields of page NDL [15]. -/
def fieldsNDL : List Fd :=
  [NDL_CFG_EN, NDL_CFG_LANES, NDL_ASYM_ASYM, NDL_STAT_LINK, NDL_STAT_LANE0, NDL_STAT_LANE1, NDL_STAT_TRAINING, NDL_STAT_ID_CLASH, NDL_STAT_GRADE_MISMATCH, NDL_STAT_PARTNER_ID, NDL_STAT_PARTNER_GRADE, NDL_STAT_TRAININGS, NDL_DELAY_DELAY, NDL_OFS_OFS, NDL_ERR_CRC, NDL_ERR_DOWNS, NDL_ERR_LANE_DOWNS, NDL_LOAD_XTRK, NDL_LOAD_MIRROR]
/-- Fields of page PAIR [15]. -/
def fieldsPAIR : List Fd :=
  [PAIR_CFG_TAKE_EN, PAIR_CFG_TAKE_PERIOD, PAIR_CFG_SEEK, PAIR_CFG_RELAY_MS, PAIR_CFG_TAKE_CHECK, PAIR_CTL_TAKE_NOW, PAIR_CTL_CLR_TAKE_FAIL, PAIR_CTL_STILL, PAIR_CTL_RELINQUISH, PAIR_STAT_STATE, PAIR_STAT_UNIT_ID, PAIR_STAT_COMMANDS, PAIR_STAT_ROLE_OUT, PAIR_STAT_HB_IN, PAIR_STAT_HB_OUT, PAIR_STAT_LINK, PAIR_STAT_IMAGE_EQ, PAIR_STAT_TAKE_READY, PAIR_STAT_TAKE_FAIL, PAIR_STAT_HOST_TRUNC, PAIR_STAT_CAUSE, PAIR_CONT_ACCEPTED, PAIR_CONT_MISSED, PAIR_CONT_CUT_MISS, PAIR_HOST_LEN_LEN, PAIR_DIV_POS_DIV_POS, PAIR_DIV_HDG_DIV_HDG, PAIR_TAKE_STAT_DUE, PAIR_TAKE_STAT_DEFER, PAIR_TAKE_STAT_COUNT, PAIR_NEXT_TAKE_LO_NEXT_LO, PAIR_NEXT_TAKE_HI_NEXT_HI, PAIR_GLB_SEL_CH, PAIR_GLB_CH_EN, PAIR_GLB_CH_BUF, PAIR_GLB_CH_DB_FIRST, PAIR_GLB_CH_N_ACK, PAIR_GLB_CTL_GO, PAIR_GLB_CTL_TIMEOUT, PAIR_GLB_STAT_STATE] ++
  [PAIR_GLB_STAT_TIME, PAIR_STILL_STAT_DONE, PAIR_STILL_STAT_REFUSED, PAIR_STILL_STAT_COST, PAIR_STILL_T_LO_T_LO, PAIR_STILL_T_HI_T_HI]
/-- Fields of page SAF [16]. -/
def fieldsSAF : List Fd :=
  [SAF_STAT_STATE_A, SAF_STAT_STATE_B, SAF_STAT_KEY, SAF_STAT_IMAGE_DIFF, SAF_STAT_RESET_STUCK, SAF_STAT_SRST_CLOSED, SAF_STAT_SRST, SAF_STAT_FAULT_CAUSE, SAF_IN_LEVEL_A_BY_A, SAF_IN_LEVEL_B_BY_A, SAF_IN_LEVEL_A_BY_B, SAF_IN_LEVEL_B_BY_B, SAF_IN_STAT_CLOSED, SAF_IN_STAT_DISC, SAF_IN_STAT_STARTUP_PEND, SAF_IN_STAT_DISC_RUN, SAF_OUT_STAT_ON_A, SAF_OUT_STAT_ON_B, SAF_OUT_STAT_FB_A, SAF_OUT_STAT_FB_B, SAF_OUT_STAT_OUT_FAULT, SAF_OUT_STAT_RESTART_WAIT, SAF_CNT_DEMANDS, SAF_CNT_RESETS, SAF_CNT_UNLOCK_FAIL, SAF_UNLOCK_UNLOCK, SAF_CFG_CRC_A_CRC_A, SAF_CFG_CRC_B_CRC_B, SAF_IN_CFG_EN, SAF_IN_CFG_KIND, SAF_IN_CFG_STARTUP_TEST, SAF_IN_CFG_DISC_TIME, SAF_OUT_CFG_EN, SAF_OUT_CFG_RESTART, SAF_OUT_CFG_TP_EN, SAF_OUT_CFG_MAP, SAF_TP_CFG_TP_WIDTH, SAF_TP_CFG_TP_PERIOD, SAF_CFG_CRC_EXP_EXP]
/-- Fields of page EVT [17]. -/
def fieldsEVT : List Fd :=
  [EVT_CFG_REPEAT_WIN, EVT_CFG_WM, EVT_HEAD_SEQ_SEQ, EVT_HEAD_SLOT_SLOT, EVT_CORNER_COUNT, EVT_QUEUE_DEPTH, EVT_QUEUE_MAX, EVT_LOST_COUNT, EVT_ACK_SEQ, EVT_BAD_BAD, EVT_HOST_P0_P0, EVT_HOST_P12_P1, EVT_HOST_P12_P2, EVT_HOST_CODE_CODE, EVT_HOST_CODE_P3, EVT_CAT_SEL_CODE, EVT_CAT_NAME0_NAME, EVT_CAT_NAME1_NAME, EVT_CAT_FMT_FMT, EVT_CAT_FMT_WIDE, EVT_CAT_FMT_PERMANENT, EVT_CAT_FMT_CONTINUED, EVT_CAT_NAME2_NAME]
/-- Fields of page LIF [17]. -/
def fieldsLIF : List Fd :=
  [LIF_THR_SEL_THR, LIF_THR_RUN_RUN, LIF_THR_STARTS_STARTS, LIF_THR_AZ_AZ, LIF_THR_ENERGY_ENERGY, LIF_DEV_ON_DEV_ON, LIF_POWERUPS_POWERUPS, LIF_TAKES_TAKES, LIF_RESETS_RESETS, LIF_HOLDS_HOLDS, LIF_WEAR_MAX_PCT, LIF_WEAR_PAGE, LIF_GEN_GEN, LIF_STAT_COPY, LIF_STAT_VALID, LIF_STAT_DEFERRED, LIF_PRESET_SEL_THR, LIF_PRESET_SEL_CNT, LIF_PRESET_VAL_VAL, LIF_PRESET_CTL_GO, LIF_UTC_DATE_DAY, LIF_UTC_DATE_MONTH, LIF_UTC_DATE_YEAR, LIF_UTC_TIME_SEC, LIF_UTC_TIME_MIN, LIF_UTC_TIME_HOUR, LIF_UTC_TIME_VALID, LIF_TAI_UTC_TAI_UTC, LIF_LEAP_SEL_ENTRY, LIF_LEAP_SEL_COUNT, LIF_LEAP_T_LO_T_LO, LIF_LEAP_T_HI_T_HI, LIF_LEAP_OFS_OFS, LIF_LEAP_OFS_LEARNED_LATE, LIF_LEAP_CTL_ADD]
/-- Fields of page HLD [17]. -/
def fieldsHLD : List Fd :=
  [HLD_VMIN_VMIN, HLD_EFF_EFF, HLD_E_REQ_E_REQ, HLD_CTL_MEASURE, HLD_STAT_HOLD_LOW, HLD_STAT_MEAS_FAIL, HLD_STAT_MEASURING, HLD_STAT_SEGMENT, HLD_STAT_FAIL_RUN, HLD_V_V, HLD_C_C, HLD_E_E, HLD_DV_PRE_DV_PRE, HLD_DV_STEP_DV_STEP, HLD_DEFER_DEFERRED]
/-- Fields of page GRT [18]. -/
def fieldsGRT : List Fd :=
  [GRT_CFG_EN, GRT_CFG_PASS_TIME, GRT_CFG_CLASS_EN, GRT_STAT_ACTIVE, GRT_STAT_LATE, GRT_STAT_COVERAGE, GRT_STAT_PASSES, GRT_CLASS_SEL_CLASS, GRT_CLASS_TOTAL, GRT_CLASS_TESTED, GRT_CLASS_LAST_PASS, GRT_CLASS_FAULTS, GRT_LAST_FAULT_CLASS, GRT_LAST_FAULT_ITEM, GRT_LAST_FAULT_CODE, GRT_PASS_LEN_SECONDS]

/-- Block of a page: the number of its first page and how many pages it has; none for a reserved page [19 R554, R564]. -/
def pageBlock (p : Nat) : Option (Nat × Nat) :=
  if 0x10 ≤ p && p ≤ 0x11 then some (0x10, 2)
  else if 0x18 ≤ p && p ≤ 0x1F then some (0x18, 8)
  else if 0x22 ≤ p && p ≤ 0x25 then some (0x22, 4)
  else if p ≤ 0x2C then some (p, 1)
  else none

/-- Fields of the block whose first page is `b`. -/
def blockFields (b : Nat) : List Fd :=
  match b with
  | 0x0 => fieldsSYS
  | 0x1 => fieldsPWR
  | 0x2 => fieldsCLK
  | 0x3 => fieldsIRQ
  | 0x4 => fieldsHST
  | 0x5 => fieldsMDE
  | 0x6 => fieldsCFG
  | 0x7 => fieldsMSN
  | 0x8 => fieldsSLV
  | 0x9 => fieldsFUS
  | 0xa => fieldsCTL
  | 0xb => fieldsALC
  | 0xc => fieldsGNS0
  | 0xd => fieldsGNS1
  | 0xe => fieldsGNS2
  | 0xf => fieldsSRC
  | 0x10 => fieldsFLT
  | 0x12 => fieldsSIO
  | 0x13 => fieldsLOP
  | 0x14 => fieldsAOU
  | 0x15 => fieldsPFG
  | 0x16 => fieldsENC
  | 0x17 => fieldsDIO
  | 0x18 => fieldsCAN
  | 0x20 => fieldsE2E
  | 0x21 => fieldsTIM
  | 0x22 => fieldsETH
  | 0x26 => fieldsNDL
  | 0x27 => fieldsPAIR
  | 0x28 => fieldsSAF
  | 0x29 => fieldsEVT
  | 0x2a => fieldsLIF
  | 0x2b => fieldsHLD
  | 0x2c => fieldsGRT
  | _ => []

/-- A window of a page: its offsets, the select field, and the second select field [19 R556]. -/
structure Win where
  /-- first offset -/
  lo : Nat
  /-- last offset -/
  hi : Nat
  /-- select field -/
  sel : Fd
  /-- second select field -/
  sel2 : Option Fd := none

/-- Windows of the block whose first page is `b`. -/
def blockWins (b : Nat) : List Win :=
  match b with
  | 0x3 => [{ lo := 0x64, hi := 0x68, sel := IRQ_ROUTE_SEL_SRC }]
  | 0x5 => [{ lo := 0xb4, hi := 0xb8, sel := MDE_THR_SEL_THR }]
  | 0x7 => [{ lo := 0x54, hi := 0x5c, sel := MSN_JOB_SEL_JOB }]
  | 0x8 => [{ lo := 0xc4, hi := 0xcc, sel := SLV_JNT_SEL_JNT }, { lo := 0xe4, hi := 0xf0, sel := SLV_AZ_SEL_THR }]
  | 0x9 => [{ lo := 0x104, hi := 0x120, sel := FUS_SRC_SEL_SRC }, { lo := 0x144, hi := 0x150, sel := FUS_VGRP_SEL_GRP }, { lo := 0x164, hi := 0x16c, sel := FUS_OBJ_SEL_OBJ }]
  | 0xa => [{ lo := 0xa4, hi := 0xac, sel := CTL_WIND_SEL_IDX }]
  | 0xb => [{ lo := 0x44, hi := 0x74, sel := ALC_THR_SEL_THR }]
  | 0xc => [{ lo := 0x64, hi := 0x78, sel := GNS0_PATH_SEL_PATH }, { lo := 0x7c, hi := 0x7c, sel := GNS0_PATH_SEL_PATH, sel2 := some GNS0_PATH_SEL_NOTCH }, { lo := 0x84, hi := 0x8c, sel := GNS0_CHN_SEL_CHN }]
  | 0xd => [{ lo := 0x6c, hi := 0x70, sel := GNS1_ISB_SEL_SYS }]
  | 0xf => [{ lo := 0x44, hi := 0x5c, sel := SRC_SEL_SRC }, { lo := 0x100, hi := 0x13c, sel := SRC_SEL_SRC }]
  | 0x12 => [{ lo := 0x44, hi := 0x4c, sel := SIO_PORT_SEL_PORT }]
  | 0x13 => [{ lo := 0x44, hi := 0xf8, sel := LOP_SEL_CH }]
  | 0x14 => [{ lo := 0x44, hi := 0x60, sel := AOU_SEL_OUT }]
  | 0x15 => [{ lo := 0x44, hi := 0x90, sel := PFG_SEL_AXIS }]
  | 0x16 => [{ lo := 0x44, hi := 0x50, sel := ENC_SSI_SEL_PORT }, { lo := 0x64, hi := 0x80, sel := ENC_QD_SEL_PORT }, { lo := 0x94, hi := 0x9c, sel := ENC_EMU_SEL_OUT }]
  | 0x17 => [{ lo := 0x50, hi := 0x50, sel := DIO_DEB_SEL_IN }]
  | 0x18 => [{ lo := 0xec, hi := 0xec, sel := CAN_SB_COL_SEL_COL }, { lo := 0xf4, hi := 0xf4, sel := CAN_SB_CELL_SEL_ROW, sel2 := some CAN_SB_CELL_SEL_COL }, { lo := 0x104, hi := 0x108, sel := CAN_SLOT_SEL_SLOT }, { lo := 0x114, hi := 0x118, sel := CAN_STS_SEL_SLOT }, { lo := 0xc8, hi := 0xd0, sel := CAN_FLT_SEL_ENTRY }]
  | 0x20 => [{ lo := 0x44, hi := 0x5c, sel := E2E_SEL_CTX }]
  | 0x21 => [{ lo := 0x48, hi := 0x8c, sel := TIM_TB_SEL_TB }]
  | 0x22 => [{ lo := 0x64, hi := 0x68, sel := ETH_GRP_SEL_GRP }, { lo := 0x74, hi := 0x78, sel := ETH_TXQ_SEL_QUEUE }]
  | 0x27 => [{ lo := 0x74, hi := 0x74, sel := PAIR_GLB_SEL_CH }]
  | 0x2a => [{ lo := 0x44, hi := 0x50, sel := LIF_THR_SEL_THR }, { lo := 0xa4, hi := 0xac, sel := LIF_LEAP_SEL_ENTRY }]
  | _ => []

end Sys2Proof.Machine
end

