-- ==== Sys2Proof/Machine/State.lean ====
section
/-! DEFINITION. The whole state of the device as plain data, its reset value, and the reasons for which a step can stop. Each field's docstring names the file of spec/ (by its number) and the rule that gives it. -/

namespace Sys2Proof.Machine

/-! ### State of 02_vessel_description.md -/

/-- SYSTEM record of the vessel description. -/
structure SysRec where
  /-- 0 = 50 Hz, 1 = 100 Hz, 2 = 200 Hz [02 R43] -/
  rate : Nat := 1
  /-- 0 single unit, 1 pair [02 R43] -/
  pair : Nat := 0
  /-- THRUSTER record count [02 R43] -/
  thrusters : Nat := 0
  /-- OBJECT record count [02 R43] -/
  targets : Nat := 0
  /-- hull length, m [02 R43] -/
  length : F32 := ⟨0⟩
  /-- beam, m [02 R43] -/
  beam : F32 := ⟨0⟩
  /-- draught, m [02 R43] -/
  draught : F32 := ⟨0⟩
  /-- mass, kg [02 R43] -/
  mass : F32 := ⟨0⟩
  /-- yaw inertia, kg·m² [02 R43] -/
  izz : F32 := ⟨0⟩
  deriving DecidableEq, Repr, Inhabited

/-- THRUSTER record. -/
structure ThrRec where
  /-- thruster number [02 R43] -/
  id : Nat := 0
  /-- 0 tunnel, 1 azimuth, 2 retractable azimuth, 3 propeller with rudder [02 R43] -/
  kind : Nat := 0
  /-- 0 CAN, 1 analog, 2 PWM, 3 step/direction [02 R43] -/
  drive : Nat := 0
  /-- drive channel [02 R43] -/
  channel : Nat := 0
  /-- position forward of the centre of gravity, m [02 R43] -/
  x : F32 := ⟨0⟩
  /-- position to starboard, m [02 R43] -/
  y : F32 := ⟨0⟩
  /-- position down, m [02 R43] -/
  z : F32 := ⟨0⟩
  /-- force direction at azimuth 0, rad [02 R43] -/
  azZero : F32 := ⟨0⟩
  /-- rated power, W [02 R43] -/
  pRated : F32 := ⟨0⟩
  /-- azimuth loop channel, 0xFF none [02 R43] -/
  loopAz : Nat := 255
  /-- shaft-speed loop channel, 0xFF none [02 R43] -/
  loopRpm : Nat := 255
  /-- pitch loop channel, 0xFF none [02 R43] -/
  loopPitch : Nat := 255
  /-- [0] controllable pitch, [1] reversible, [2] azimuth feedback on SSI [02 R43] -/
  flags : Nat := 0
  /-- SSI or quadrature port, 0xFF none [02 R43] -/
  encPort : Nat := 255
  deriving DecidableEq, Repr, Inhabited

/-- THRUSTER_LIMITS record. -/
structure LimRec where
  /-- thruster number [02 R43] -/
  id : Nat := 0
  /-- number of forbidden sectors, 0–2 [02 R43] -/
  sectors : Nat := 0
  /-- greatest forward force, N [02 R43] -/
  fMaxPos : F32 := ⟨0⟩
  /-- greatest reverse force, N [02 R43] -/
  fMaxNeg : F32 := ⟨0⟩
  /-- azimuth rate limit, rad/s [02 R43] -/
  azRate : F32 := ⟨0⟩
  /-- sector 0 start, rad [02 R43] -/
  s0a : F32 := ⟨0⟩
  /-- sector 0 end, rad [02 R43] -/
  s0b : F32 := ⟨0⟩
  /-- sector 1 start, rad [02 R43] -/
  s1a : F32 := ⟨0⟩
  /-- sector 1 end, rad [02 R43] -/
  s1b : F32 := ⟨0⟩
  deriving DecidableEq, Repr, Inhabited

/-- SENSOR record: a mounting. -/
structure SensorRec where
  /-- sensor number [02 R43] -/
  id : Nat := 0
  /-- 0 internal antenna, 1 gyro, 2 MRU, 3 wind, 4 taut-wire, 5 external GNSS, 6 other reference [02 R43] -/
  kind : Nat := 0
  /-- unit 0 or 1, 0xFF both [02 R43] -/
  unit : Nat := 255
  /-- KIND 0: antenna A 0, B 1 [02 R43] -/
  ant : Nat := 0
  /-- lever arm x, m [02 R43] -/
  x : F32 := ⟨0⟩
  /-- lever arm y, m [02 R43] -/
  y : F32 := ⟨0⟩
  /-- lever arm z, m [02 R43] -/
  z : F32 := ⟨0⟩
  /-- mounting roll, rad [02 R43] -/
  roll : F32 := ⟨0⟩
  /-- mounting pitch, rad [02 R43] -/
  pitch : F32 := ⟨0⟩
  /-- mounting yaw, rad [02 R43] -/
  yaw : F32 := ⟨0⟩
  deriving DecidableEq, Repr, Inhabited

/-- SOURCE record. -/
structure SourceRec where
  /-- source number [02 R43] -/
  id : Nat := 0
  /-- 0 UART, 1 IEC 61162-450, 2 CAN, 3 analog, 4 SSI, 5 internal GNSS [02 R43] -/
  portKind : Nat := 0
  /-- port number of the kind [02 R43] -/
  port : Nat := 0
  /-- mounting used for projection [02 R43] -/
  sensor : Nat := 0
  /-- sentence or frame format code [02 R43] -/
  format : Nat := 0
  /-- [0] sender time present, [1] member of a vote group [02 R43] -/
  flags : Nat := 0
  /-- nominal period, s [02 R43] -/
  period : F32 := ⟨0⟩
  /-- timeout, s [02 R43] -/
  timeout : F32 := ⟨0⟩
  /-- vote group 0–15 [02 R43] -/
  voteGroup : Nat := 0
  /-- object measured, 0 own vessel [02 R43] -/
  object : Nat := 0
  /-- talker, CAN identifier or UDP port [02 R43] -/
  matchV : Nat := 0
  /-- PORT_KIND 1: two talker characters [02 R43] -/
  talker : Nat := 0
  deriving DecidableEq, Repr, Inhabited

/-- OBJECT record: a target. -/
structure ObjRec where
  /-- object 1–7 [02 R43] -/
  id : Nat := 0
  /-- 0 vessel, 1 floating structure [02 R43] -/
  kind : Nat := 0
  /-- length, m [02 R43] -/
  length : F32 := ⟨0⟩
  /-- acceleration noise, m/s² [02 R43] -/
  accNoise : F32 := ⟨0⟩
  deriving DecidableEq, Repr, Inhabited

/-- APPENDAGE record: the base or one joint. -/
structure AppRec where
  /-- 0 base, 1–6 joints [02 R43] -/
  joint : Nat := 0
  /-- 0xFF base, 0 revolute, 1 prismatic [02 R43] -/
  type : Nat := 255
  /-- loop channel of the joint [02 R43] -/
  loop : Nat := 255
  /-- A, ALPHA, D, THETA, Q_MIN, Q_MAX, QD_MAX, MASS, COM_X, COM_Y, COM_Z, IXX, IYY, IZZ in this order [02 R43] -/
  p : List F32 := []
  deriving DecidableEq, Repr, Inhabited

/-- A register-image record: page, INDEX (0xFFFF none), offset, value. -/
structure RegRec where
  /-- page number [02 R44] -/
  page : Nat := 0
  /-- value of the select register, 0xFFFF none [02 R44] -/
  index : Nat := 0xFFFF
  /-- register offset [02 R44] -/
  off : Nat := 0
  /-- value written [02 R44] -/
  val : Nat := 0
  deriving DecidableEq, Repr, Inhabited

/-- One section in force: its type and the facts R54 compares, and its records. -/
structure Section where
  /-- section type 0x01–0x0F [02 R41] -/
  type : Nat := 0
  /-- LENGTH of the section [02 R37] -/
  len : Nat := 0
  /-- SEC_CRC of the section [02 R37] -/
  crc : Nat := 0
  /-- register-image records of the section, in record order (empty for a typed section) [02 R44] -/
  recs : List RegRec := []
  deriving DecidableEq, Repr, Inhabited

/-- A parsed vessel description: what an image says. -/
structure Descr where
  /-- IMAGE_ID of the full image [02 R36] -/
  imageId : Nat := 0
  /-- REVISION of the full image [02 R36] -/
  rev : Nat := 0
  /-- IMAGE_LEN of the full image [02 R36] -/
  fullLen : Nat := 0
  /-- a tuning image is in force [02 R42] -/
  overlay : Bool := false
  /-- REVISION of the tuning image, 0 without one [02 R42] -/
  overlayRev : Nat := 0
  /-- sections in force, ascending type [02 R42] -/
  sections : List Section := []
  /-- SYSTEM record [02 R43] -/
  sys : SysRec := {}
  /-- THRUSTER records [02 R43] -/
  thr : List ThrRec := []
  /-- THRUSTER_LIMITS records [02 R43] -/
  lim : List LimRec := []
  /-- SENSOR records [02 R43] -/
  sensors : List SensorRec := []
  /-- SOURCE records [02 R43] -/
  sources : List SourceRec := []
  /-- OBJECT records [02 R43] -/
  objects : List ObjRec := []
  /-- APPENDAGE records [02 R43] -/
  app : List AppRec := []
  deriving DecidableEq, Repr, Inhabited

/-- One MRAM slot: a full image and at most one tuning image. -/
structure Slot where
  /-- bytes of the full image, empty for none [02 R51] -/
  full : List Byte := []
  /-- bytes of the tuning image, empty for none [02 R51] -/
  tuning : List Byte := []
  deriving DecidableEq, Repr, Inhabited

/-- CFG_LOAD_STAT.PHASE. -/
inductive LoadPhase where
  | idle | checking | writing | pending | done | refused | aborted
  deriving DecidableEq, Repr, Inhabited

/-- State of block CFG (page 0x06). -/
structure CfgSt where
  /-- CFG_LOAD_STAT.PHASE [02 R47] -/
  phase : LoadPhase := .idle
  /-- CFG_LOAD_STAT.STRUCT [02 R54] -/
  structDiff : Bool := false
  /-- CFG_LOAD_STAT.DEFERRED [02 R50] -/
  deferred : Bool := false
  /-- CFG_LOAD_STAT.REFUSE [02 R49] -/
  refuse : Nat := 0
  /-- CFG_LOAD_STAT.SECTION [02 R49] -/
  section_ : Nat := 0
  /-- CFG_LOAD_RECORD.RECORD [02 R49] -/
  record : Nat := 0
  /-- length of the load in hand [02 R46] -/
  len : Nat := 0
  /-- the safety unlock sequence was completed before START [02 R57] -/
  unlocked : Bool := false
  /-- the load in hand has a SAFETY_MAP other than the one in force [16 R485] -/
  safetyDiff : Bool := false
  /-- bytes of the checked image in hand [02 R50] -/
  image : List Byte := []
  /-- what the checked image would put in force [02 R48] -/
  next : Descr := {}
  /-- the image in hand is a tuning image [02 R36] -/
  tuningLoad : Bool := false
  /-- description in force, none while CFG_ACTIVE.VALID = 0 [02 R61] -/
  active : Option Descr := none
  /-- active slot, CFG_ACTIVE.SLOT [02 R52] -/
  slot : Nat := 0
  /-- active-slot record as MRAM holds it [02 R52, 17 R512] -/
  slotRec : Nat := 0
  /-- the active-slot record waits for a segment [17 R513] -/
  slotDue : Bool := false
  /-- slot that the load in hand was written to [02 R50] -/
  loadSlot : Nat := 0
  /-- sections that differ by the image that cuts in at the present cut [02 R56] -/
  cutDiff : List Nat := []
  /-- MRAM slot 0 [02 R51] -/
  slot0 : Slot := {}
  /-- MRAM slot 1 [02 R51] -/
  slot1 : Slot := {}
  /-- CFG_CUTINS [02 R52] -/
  cutins : Nat := 0
  /-- key words staged for each slot, 16 words each [02 CFG_KEY_DATA] -/
  keyStage : List Nat := List.replicate 32 0
  /-- public keys stored in MRAM, none when the slot is empty [02 R40] -/
  keys : List (Option (List Nat)) := [none, none]
  deriving DecidableEq, Repr, Inhabited

/-! ### State of 03_modes_setpoints.md -/

/-- Device state. -/
inductive DState where
  | reset | boot | load | ready | run | safeHold
  deriving DecidableEq, Repr, Inhabited

/-- DORMANT levels and the descent between them. -/
inductive DormLevel where
  | none | hostLevel | descent | asleep | refresh | waking
  deriving DecidableEq, Repr, Inhabited

/-- Control-cycle sequencer. -/
structure CycleSt where
  /-- cuts are made [01 R15, 03 R66] -/
  running : Bool := false
  /-- cycle period in force, ns of TB0 [01 R15] -/
  periodNs : Nat := 10000000
  /-- free-running tick of the last cut [01 R16] -/
  cutTick : Nat := 0
  /-- tick at which the present cut was followed by a correction, and TB0 in ns at the last cut [01 R15] -/
  cutTb0 : Nat := 0
  /-- TB0 instant of the next cut, ns [01 R15 R29] -/
  nextCut : Nat := 0
  /-- a first cut is due at nextCut, on a second boundary [03 R95] -/
  firstPending : Bool := false
  /-- CUT_REALIGN flag [01 R30] -/
  realign : Bool := false
  /-- offset still to be worked off, ns, signed: positive lengthens [01 R29] -/
  realignLeft : Int := 0
  /-- State records of this cycle are out [01 R20] -/
  stateOut : Bool := false
  /-- this cycle's deadline outcome is settled [01 R25] -/
  deadlineDone : Bool := false
  /-- this cycle's continuity set is taken [01 R25] -/
  setTaken : Bool := false
  /-- appendage sub-cycles started in this cycle [01 R16] -/
  subDone : Nat := 0
  /-- sequence number of cuts since the cycle started [01 R16] -/
  cutNo : Nat := 0
  deriving DecidableEq, Repr, Inhabited

/-- State of block MDE (page 0x05). -/
structure MdeSt where
  /-- device state, MDE_STATUS.DSTATE [03 R64] -/
  dstate : DState := .reset
  /-- active mode, MDE_STATUS.MODE [03 R69] -/
  mode : Mode := .harbour
  /-- AUTO_HDG in force [03 R71] -/
  autoHdg : Bool := false
  /-- followed object in force in FOLLOW [03 R71] -/
  followObj : Nat := 0
  /-- MDE_RESULT.MODE [03 R72] -/
  resMode : Nat := 0
  /-- MDE_RESULT.CODE [03 R75] -/
  resCode : Nat := 0
  /-- MDE_RESULT.COUNT [03 R72] -/
  resCount : Nat := 0
  /-- MDE_REQ has been written since the last COMMIT: that commit will carry a request [03 R70] -/
  reqShadow : Bool := false
  /-- the commit in the buffer carries a request [03 R70] -/
  reqBuf : Bool := false
  /-- MDE_HOLD_CAUSE.CAUSE [03 R67] -/
  holdCause : Nat := 0
  /-- DORMANT level, MDE_STATUS.DORM_HOST [03 R91] -/
  dorm : DormLevel := .none
  /-- CFG_LOAD_STAT phase kept at the entry into DORMANT is held in cfg itself [03 R94] -/
  wakeHarbour : Bool := false
  /-- TB3 seconds of the last satellite refresh [03 R93] -/
  refreshAt : Nat := 0
  /-- TB3 seconds at which the refresh in hand began [05 R163] -/
  refreshFrom : Nat := 0
  /-- profile generator [03 R82] -/
  prof : Profile := {}
  /-- time at which the followed object's record ceased to be valid, ticks; none while valid [03 R78] -/
  followLostAt : Option Nat := none
  /-- control cycle [01 R16] -/
  cyc : CycleSt := {}
  deriving DecidableEq, Repr, Inhabited

/-! ### State of 04_gnss_signals.md -/

/-- State of a notch filter. -/
inductive NotchState where
  | free | locked | hold
  deriving DecidableEq, Repr, Inhabited

/-- One notch filter of an own path. -/
structure Notch where
  /-- GNS0_NOTCH_STAT.STATE [04 R107] -/
  st : NotchState := .free
  /-- GNS0_NOTCH_STAT.FREQ, signed kHz from the LO [04 R107] -/
  freq : Int := 0
  /-- GNS0_NOTCH_STAT.DEPTH, dB [04 R108] -/
  depth : Nat := 0
  /-- power of the line it sits on, dB above the median bin [04 R107] -/
  power : Nat := 0
  /-- epochs of HOLD left [04 R108] -/
  holdLeft : Nat := 0
  deriving DecidableEq, Repr, Inhabited

/-- One own RF path. -/
structure RfPath where
  /-- GNS0_AGC_STAT.GAIN, 0.5 dB units [04 R104] -/
  gain : Nat := 0
  /-- GNS0_AGC_STAT.CLIP, 1/256 units [04 R105] -/
  clip : Nat := 0
  /-- noise floor, 0.25 dB units [04 R110] -/
  noise : Nat := 0
  /-- gains of the last 10 epochs, newest first [04 R110] -/
  gains : List Nat := []
  /-- epochs for which the FAULT_OPEN condition has held [04 R105] -/
  openFor : Nat := 0
  /-- epochs for which the FAULT_OVERLOAD condition has held [04 R105] -/
  overFor : Nat := 0
  /-- epochs without the FAULT_OPEN condition [04 R105] -/
  openClear : Nat := 0
  /-- epochs without the FAULT_OVERLOAD condition [04 R105] -/
  overClear : Nat := 0
  /-- FAULT_OPEN [04 R105] -/
  faultOpen : Bool := false
  /-- FAULT_OVERLOAD [04 R105] -/
  faultOver : Bool := false
  /-- four notches in cascade [04 R107] -/
  notches : List Notch := List.replicate 4 {}
  /-- candidate bins of the monitor: kHz offset and epochs in a row [04 R107] -/
  cands : List (Int × Nat) := []
  /-- GNS0_JAM.JI [04 R110] -/
  ji : Nat := 0
  /-- GNS0_JAM.DG [04 R110] -/
  dg : Nat := 0
  /-- GNS0_JAM.DN [04 R110] -/
  dn : Nat := 0
  /-- GNS0_JAM.NOTCH_LOSS, 0.1 dB [04 R109] -/
  notchLoss : Nat := 0
  /-- JAM_WARN is in force [04 R111] -/
  warn : Bool := false
  /-- JAM_HIGH is in force [04 R111] -/
  high : Bool := false
  /-- 10 ms evaluations in a row at or above WARN [04 R111] -/
  warnUp : Nat := 0
  /-- evaluations in a row below WARN − 8 [04 R111] -/
  warnDn : Nat := 0
  /-- evaluations in a row at or above HIGH [04 R111] -/
  highUp : Nat := 0
  /-- evaluations in a row below HIGH − 8 [04 R111] -/
  highDn : Nat := 0
  /-- sums of gain and noise over the calibration, and their count [04 R112] -/
  calG : Nat := 0
  /-- sum of the noise floor over the calibration [04 R112] -/
  calN : Nat := 0
  /-- epochs summed [04 R112] -/
  calCnt : Nat := 0
  deriving DecidableEq, Repr, Inhabited

/-- State of a tracking channel. -/
inductive ChState where
  | idle | pullIn | fll | pll | coast
  deriving DecidableEq, Repr, Inhabited

/-- One tracking channel. -/
structure Channel where
  /-- GNS0_CHN_STAT.STATE [04 R125] -/
  st : ChState := .idle
  /-- state before COAST [04 R125] -/
  prev : ChState := .idle
  /-- GNS0_CHN_STAT.HALF_CYC [04 R127] -/
  halfCyc : Bool := false
  /-- GNS0_CHN_STAT.SIG [04 R98] -/
  sig : Nat := 0
  /-- GNS0_CHN_STAT.SV [04 R123] -/
  sv : Nat := 0
  /-- GNS0_CHN_STAT.PATH [04 R102] -/
  path : Nat := 0
  /-- class of need of R128, 1–5 [04 R128] -/
  need : Nat := 5
  /-- GNS0_CHN_STAT.SIDE_PEAK [04 R126] -/
  sidePeak : Nat := 0
  /-- GNS0_CHN_STAT.SLIPS [04 R125] -/
  slips : Nat := 0
  /-- GNS0_CHN_CN0, 0.1 dB-Hz [04 R125] -/
  cn0 : Nat := 0
  /-- GNS0_CHN_DOPP, binary32 Hz [04 CHN_DOPP] -/
  dopp : F32 := ⟨0⟩
  /-- epochs since the present state was entered [04 R125] -/
  age : Nat := 0
  /-- epochs for which the leaving condition has held [04 R125] -/
  cond : Nat := 0
  /-- epochs for which very early or very late exceeds prompt [04 R126] -/
  side : Nat := 0
  /-- epochs for which code measurements stay invalid [04 R126] -/
  codeInval : Nat := 0
  /-- the symbol sign is fixed by a preamble [04 R127] -/
  symSync : Bool := false
  /-- assigned by handover, not by a detection [04 R118] -/
  handover : Bool := false
  deriving DecidableEq, Repr, Inhabited

/-- One acquisition request. -/
structure AcqReq where
  /-- class 1 reacquisition, 2 predicted, 3 sky search [04 R116] -/
  cls : Nat := 3
  /-- signal code [04 R98] -/
  sig : Nat := 0
  /-- satellite number [04 R116] -/
  sv : Nat := 0
  /-- path [04 R102] -/
  path : Nat := 0
  /-- elevation of a predicted satellite, rad: highest first in class 2 [04 R116] -/
  elev : F32 := ⟨0⟩
  /-- epoch at which the signal was lost, class 1 [04 R116] -/
  lostAt : Nat := 0
  deriving DecidableEq, Repr, Inhabited

/-- The search in hand. -/
structure Search where
  /-- the request served [04 R115] -/
  req : AcqReq := {}
  /-- index in the dwell ladder [04 R115 R119] -/
  step : Nat := 0
  /-- on the serial engine [04 R120] -/
  serial : Bool := false
  /-- cells masked [04 R115] -/
  masked : List Nat := []
  /-- channel to which its detection was handed [04 R115] -/
  chn : Option Nat := none
  /-- cell of that detection [04 R115] -/
  cell : Nat := 0
  deriving DecidableEq, Repr, Inhabited

/-- Cross-tracking receive state of one partner path. -/
structure XtrkPath where
  /-- epoch of the block being received [04 R131, 15 R454] -/
  epoch : Nat := 0
  /-- fragments received of that block, bit per fragment [15 R454] -/
  frags : Nat := 0
  /-- a fragment of it failed the link check [04 R131] -/
  bad : Bool := false
  /-- blocks of the path arrive, with less than 20 missing in a row [04 R130 R131] -/
  active : Bool := false
  /-- the block of the present epoch is complete [04 R131] -/
  whole : Bool := false
  /-- consecutive missing blocks [04 R131] -/
  missing : Nat := 0
  deriving DecidableEq, Repr, Inhabited

/-- State of block GNS0 (page 0x0C). -/
structure Gns0St where
  /-- epochs since the receiver started [04 R103] -/
  epoch : Nat := 0
  /-- own paths 0–3 [04 R102] -/
  paths : List RfPath := List.replicate 4 {}
  /-- tracking channels [04 R123] -/
  chans : List Channel := List.replicate 192 {}
  /-- search requests waiting, in the order of service [04 R116] -/
  queue : List AcqReq := []
  /-- search in hand [04 R115] -/
  search : Option Search := none
  /-- GNS0_ACQ_STAT.BANK_FAULT [04 R120] -/
  bankFault : Bool := false
  /-- GNS0_ACQ_STAT.BANK_OFF [04 R120] -/
  bankOff : Bool := true
  /-- GNS0_ACQ_STAT.DETECTS [04 R115] -/
  detects : Nat := 0
  /-- calibration in hand [04 R112] -/
  cal : Bool := false
  /-- epochs of calibration done [04 R112] -/
  calEpochs : Nat := 0
  /-- partner paths 4–7 [04 R131] -/
  xt : List XtrkPath := List.replicate 4 {}
  /-- GNS0_XTRK_STAT.RX_ACTIVE [04 R130] -/
  rxActive : Bool := false
  /-- GNS0_XTRK_STAT.TX_ACTIVE [04 R130] -/
  txActive : Bool := false
  /-- GNS0_XTRK_STAT.GAP [04 R131] -/
  gap : Nat := 0
  /-- GNS0_XTRK_STAT.BLOCK_ERR [04 R131] -/
  blockErr : Nat := 0
  deriving DecidableEq, Repr, Inhabited

/-! ### State of 05_gnss_solution_time.md -/

/-- A satellite as GNS1 knows it. -/
structure SatInfo where
  /-- satellite system, 0 GPS, 1 Galileo, 2 BeiDou, 3 GLONASS, 4 QZSS, 5 SBAS [04 R98] -/
  sys : Nat := 0
  /-- satellite number [04 R123] -/
  sv : Nat := 0
  /-- elevation, rad, binary32 [04 R128] -/
  elev : F32 := ⟨0⟩
  /-- ephemeris held, with the TB3 second it was decoded [05 R161] -/
  eph : Option Nat := none
  /-- almanac held [05 R161] -/
  alm : Bool := false
  deriving DecidableEq, Repr, Inhabited

/-- RTK state of GNS1. -/
structure RtkSt where
  /-- reference station position held from 1005 or 1006 [05 R144] -/
  pos : Bool := false
  /-- station ID in use [05 R144] -/
  station : Nat := 0
  /-- a station ID is in use [05 R144] -/
  known : Bool := false
  /-- TB0 ns of the newest MSM epoch received [05 R144] -/
  msmAt : Option Nat := none
  /-- ambiguities fixed [05 R145] -/
  fixed : Bool := false
  /-- float ambiguities held: RTK has begun [05 R144] -/
  running : Bool := false
  /-- consecutive epochs with the ratio at or above RATIO_THR [05 R145] -/
  good : Nat := 0
  /-- consecutive epochs with the ratio below [05 R145] -/
  bad : Nat := 0
  /-- CORR_STALE has been raised for the present outage [05 R144] -/
  stale : Bool := false
  /-- payload of the newest 1005 or 1006 message [05 R143] -/
  base : List Byte := []
  /-- payloads of the newest MSM messages, by message number [05 R143] -/
  msm : List (Nat × List Byte) := []
  /-- satellites with fixed ambiguities in the last epoch [05 R145] -/
  fixN : Nat := 0
  deriving DecidableEq, Repr, Inhabited

/-- State of block GNS1 (page 0x0D). -/
structure Gns1St where
  /-- GNS1_SOL_STAT.TYPE [05 R141] -/
  type : Nat := 0
  /-- GNS1_SOL_STAT.ANT [05 R142] -/
  ant : Nat := 0
  /-- GNS1_SOL_STAT.NSV [05 R141] -/
  nsv : Nat := 0
  /-- GNS1_SOL_STAT.EXCL [05 R140] -/
  excl : Nat := 0
  /-- TB0 ns of the last solution epoch computed [05 R137] -/
  lastEpoch : Nat := 0
  /-- RTK [05 R144] -/
  rtk : RtkSt := {}
  /-- GNS1_RTCM_CNT.ACCEPTED [05 R143] -/
  rtcmAcc : Nat := 0
  /-- GNS1_RTCM_CNT.IGNORED [05 R143] -/
  rtcmIgn : Nat := 0
  /-- GNS1_RTCM_ERR.CRC_FAIL [05 R143] -/
  rtcmErr : Nat := 0
  /-- GNS1_ATT_STAT.MODE [05 R147] -/
  attMode : Nat := 0
  /-- GNS1_ATT_STAT.BASE_FAIL [05 R146] -/
  baseFail : Bool := false
  /-- GNS1_ATT_STAT.ANTS [05 R147] -/
  ants : Nat := 0
  /-- GNS1_ATT_STAT.NSV [05 R147] -/
  attNsv : Nat := 0
  /-- inter-system offsets by system 0–4, binary32 s [05 R139, GNS1_ISB] -/
  isb : List F32 := List.replicate 5 ⟨0⟩
  /-- systems whose offset was estimated in the last epoch, bit per system [05 R139] -/
  isbEst : Nat := 0
  /-- broadcast offsets by system, binary32 s, none when not held [05 R139, GNS1_ISB_BCAST] -/
  isbBcast : List (Option F32) := List.replicate 5 none
  /-- latest POS record, 16 words [05 R151, GNS1_POS_REC] -/
  posRec : List Word := List.replicate 16 0
  /-- latest ATT record, 16 words [05 R151, GNS1_ATT_REC] -/
  attRec : List Word := List.replicate 16 0
  /-- ionosphere parameters decoded [05 R161] -/
  iono : List F32 := []
  /-- satellites known [05 R161] -/
  sats : List SatInfo := []
  deriving DecidableEq, Repr, Inhabited

/-- Time state of TB0. -/
inductive TimeState where
  | unsync | locked | holdover | slewing
  deriving DecidableEq, Repr, Inhabited

/-- Data kept by the always-on domain for a hot start. -/
structure KeptData where
  /-- almanacs kept [05 R161] -/
  alm : Bool := false
  /-- satellites with kept ephemerides [05 R161] -/
  eph : Nat := 0
  /-- TB3 second of the newest kept ephemeris [05 R164] -/
  ephAt : Nat := 0
  /-- kept position and velocity: latitude, longitude, height, north, east, down velocity [05 R161] -/
  pos : Option (List F64) := none
  /-- kept TB0 less TB3, ns [05 R161] -/
  ofs : Option Int := none
  /-- oscillator model: rms offset E0, ns [05 R153 R161] -/
  e0 : Nat := 0
  /-- kept inter-system offsets [05 R161] -/
  isb : List F32 := []
  /-- kept ionosphere parameters [05 R161] -/
  iono : List F32 := []
  /-- kept TAI − UTC, s [05 R161] -/
  taiUtc : Int := 0
  /-- TB3 seconds at the last refresh, none when nothing is kept [05 R161] -/
  at_ : Option Nat := none
  deriving DecidableEq, Repr, Inhabited

/-- State of block GNS2 (page 0x0E). -/
structure Gns2St where
  /-- GNS2_TIME_STAT.STATE [05 R152] -/
  st : TimeState := .unsync
  /-- TB0 instant of a pending step, ns: a second boundary [05 R154] -/
  stepAt : Option Nat := none
  /-- offset by which the pending step acts, ns [05 R154] -/
  stepOfs : Int := 0
  /-- offsets of the last solutions taken under the large-offset case, newest first [05 R154] -/
  cand : List Int := []
  /-- offsets are held back from the servo [05 R154] -/
  held : Bool := false
  /-- GNS2_OFFSET, signed ns [05 R586] -/
  offset : Int := 0
  /-- the last measured offset in ps, θ of R159 [05 R159] -/
  theta : Int := 0
  /-- TB0 ns at which θ was taken [05 R159] -/
  thetaAt : Nat := 0
  /-- offsets that fed the servo in the last 60 s: tick and ns, newest first [05 R153] -/
  hist : List (Nat × Int) := []
  /-- tick of the last solution of type CODE or better [05 R152] -/
  lastSol : Option Nat := none
  /-- GNS2_HOLD_START, TB0 ns [05 R153] -/
  holdStart : Nat := 0
  /-- t at which the holdover model started, s, for a model continued from a wake [05 R164] -/
  holdBase : Nat := 0
  /-- E0 of the present holdover, ns [05 R153] -/
  e0 : Nat := 0
  /-- GNS2_EST_ERR, ns [05 R153] -/
  estErr : Nat := 0
  /-- HOLD_LIMIT raised in this holdover, GNS2_TIME_STAT.LIMIT_PASSED [05 R153] -/
  limitPassed : Bool := false
  /-- last second number pulsed [05 R158] -/
  pulsed : Option Nat := none
  /-- PPS_OUT is in its pulse, with the tick at which it ends [05 R158] -/
  pulseEnd : Option Nat := none
  /-- second numbers passed over or suppressed up to this one [05 R158 R160] -/
  skipTo : Nat := 0
  /-- level of PPS_OUT [05 R158] -/
  pps : Bool := false
  /-- QERR of the last pulse, ps [05 R159] -/
  qerr : Int := 0
  /-- a step was made since the last pulse [05 R160] -/
  stepped : Bool := false
  /-- a pulse was suppressed and the next message must say so [05 R160] -/
  suppressed : Bool := false
  /-- second whose message has been issued [05 R160] -/
  msgFor : Option Nat := none
  /-- GNS2_TP_MSG0–7 [05 R160] -/
  tpMsg : List Word := List.replicate 8 0
  /-- message count [05 R160] -/
  seq : Nat := 0
  /-- TAI − UTC decoded, s [05 R160, GNS2_UTC] -/
  taiUtc : Int := 0
  /-- leap second announced [05 R160] -/
  leapPending : Bool := false
  /-- announced leap second is negative [05 GNS2_UTC] -/
  leapNeg : Bool := false
  /-- kept data [05 R161] -/
  kept : KeptData := {}
  deriving DecidableEq, Repr, Inhabited

/-! ### State of 06_sensor_sources.md -/

/-- A source record. -/
structure SrcRecord where
  /-- SOURCE_ID [06 R169] -/
  id : Nat := 0
  /-- KIND of its SENSOR record [06 R169] -/
  kind : Nat := 0
  /-- FORMAT [06 R169] -/
  format : Nat := 0
  /-- FLAGS [06 R169] -/
  flags : Nat := 0
  /-- SEQ [06 R169] -/
  seq : Nat := 0
  /-- STAMP, TB0 ns [06 R171] -/
  stamp : Nat := 0
  /-- SENDER, ns [06 R172 R173] -/
  sender : Nat := 0
  /-- VALUES, eight words [06 R170] -/
  values : List Word := List.replicate 8 0
  /-- QUAL [06 R175] -/
  qual : Nat := 0
  /-- SIGMA [06 R176] -/
  sigma : F32 := ⟨0⟩
  /-- arrival stamp, TB0 ns [01 R17] -/
  arrival : Nat := 0
  /-- an internal POS record's horizontal standard deviation, which fusion uses beside SIGMA [07 R219] -/
  posSigma : F32 := ⟨0⟩
  /-- what steps of TB0 since its arrival add to a fusion instant taken from SENDER, ns [07 R214] -/
  senderAdd : Int := 0
  deriving DecidableEq, Repr, Inhabited

/-- State of a source. -/
inductive SrcState where
  | unused | waiting | active | timedOut
  deriving DecidableEq, Repr, Inhabited

/-- One source of SRC. -/
structure SourceSt where
  /-- SRC_STAT.STATE [06 R167] -/
  st : SrcState := .unused
  /-- SRC_STAT.RECORDS [06 R169] -/
  records : Nat := 0
  /-- SRC_ERR.PARSE [06 R176 R178] -/
  parse : Nat := 0
  /-- SRC_ERR.RATE [06 R167] -/
  rate : Nat := 0
  /-- tick of the last valid record, or of the entry into WAITING [06 R167] -/
  validTick : Nat := 0
  /-- STAMP of the last valid record, TB0 ns, none before the first [06 R167] -/
  lastValid : Option Nat := none
  /-- latest record, SRC_REC [06 R169] -/
  last : SrcRecord := {}
  /-- unwrapped count of the sender's microsecond counter, and its last value [06 R173] -/
  unwrap : Option (Nat × Nat) := none
  /-- times an unwrap has started again [06 R173] -/
  restarts : Nat := 0
  /-- last sequence byte of a binary frame [06 R178] -/
  seqByte : Option Nat := none
  /-- NO_ATTITUDE has been raised since a projected record [06 R192] -/
  noAtt : Bool := false
  deriving DecidableEq, Repr, Inhabited

/-- An entry of the attitude line. -/
structure AttEntry where
  /-- instant of the cut, TB0 ns [06 R192] -/
  at_ : Nat := 0
  /-- heading, rad [06 R192] -/
  h : F32 := ⟨0⟩
  /-- pitch, rad [06 R192] -/
  p : F32 := ⟨0⟩
  /-- roll, rad [06 R192] -/
  r : F32 := ⟨0⟩
  /-- heading rate, rad/s [06 R192] -/
  hd : F32 := ⟨0⟩
  /-- pitch rate, rad/s [06 R192] -/
  pd : F32 := ⟨0⟩
  /-- roll rate, rad/s [06 R192] -/
  rd : F32 := ⟨0⟩
  deriving DecidableEq, Repr, Inhabited

/-- A kept GST value of a port and talker. -/
structure GstEntry where
  /-- port kind 0 UART, 1 MAC [06 R176] -/
  portKind : Nat := 0
  /-- port [06 R176] -/
  port : Nat := 0
  /-- two talker characters [06 R176] -/
  talker : Nat := 0
  /-- horizontal standard deviation, m [06 R176] -/
  sigma : F32 := ⟨0⟩
  /-- STAMP of the GST line, TB0 ns [06 R176] -/
  at_ : Nat := 0
  deriving DecidableEq, Repr, Inhabited

/-- A taut-wire word that waits for its wire-angle samples. -/
structure TautWait where
  /-- source number [06 R181] -/
  src : Nat := 0
  /-- request instant, TB0 ns [06 R181] -/
  at_ : Nat := 0
  /-- SSI word [06 R181] -/
  word : Nat := 0
  deriving DecidableEq, Repr, Inhabited

/-- A sample of an analog input kept for interpolation: instant and value. -/
structure AinSample where
  /-- STAMP, TB0 ns [06 R183] -/
  at_ : Nat := 0
  /-- engineering value [06 R180] -/
  v : F32 := ⟨0⟩
  deriving DecidableEq, Repr, Inhabited

/-- An analog pair sample that waits for the second input's later neighbour. -/
structure PairWait where
  /-- source number [06 R180] -/
  src : Nat := 0
  /-- instant of the PORT sample, TB0 ns [06 R180] -/
  at_ : Nat := 0
  /-- V0 [06 R180] -/
  v0 : F32 := ⟨0⟩
  /-- flags of the PORT sample [06 R187] -/
  flags : Nat := 0
  deriving DecidableEq, Repr, Inhabited

/-- State of block SRC (page 0x0F). -/
structure SrcSt where
  /-- sources 0–31 [06 R167] -/
  srcs : List SourceSt := List.replicate 32 {}
  /-- record queue, oldest first [06 R168] -/
  queue : List SrcRecord := []
  /-- SRC_QUEUE.MAX [06 SRC_QUEUE] -/
  maxDepth : Nat := 0
  /-- SRC_OVERFLOW.COUNT [06 R168] -/
  overflow : Nat := 0
  /-- SRC_OVERFLOW.LAST_SRC [06 R168] -/
  lastOver : Nat := 0
  /-- attitude line, newest first [06 R192] -/
  att : List AttEntry := []
  /-- kept GST values [06 R176] -/
  gst : List GstEntry := []
  /-- taut-wire words waiting [06 R181] -/
  taut : List TautWait := []
  /-- analog pairs waiting [06 R180] -/
  pairs : List PairWait := []
  /-- latest samples of each analog input, newest first [06 R180] -/
  ain : List (List AinSample) := List.replicate 16 []
  deriving DecidableEq, Repr, Inhabited

/-- One sigma-delta modulator chain. -/
structure FltMod where
  /-- input selected, 1 = input 2m + 1 [06 R186] -/
  sel : Nat := 0
  /-- valid samples delivered in the present turn [06 R186] -/
  turn : Nat := 0
  /-- output samples still withheld, 0 when settled [06 R184] -/
  settle : Nat := 0
  /-- FLTn_RATIO as 32.32 fixed point [06 R188] -/
  ratio : Nat := 0
  /-- next output instant, TB0 ns [06 R183] -/
  nextOut : Nat := 0
  deriving DecidableEq, Repr, Inhabited

/-- State of pages FLT0 and FLT1. -/
structure FltSt where
  /-- modulators 0–7, four per page [06 R182] -/
  mods : List FltMod := List.replicate 8 {}
  /-- FLTn_STAT.VALID of inputs 0–15 [06 R184] -/
  valid : Nat := 0
  /-- FLTn_STAT.OVERRANGE of inputs 0–15 [06 R187] -/
  ovr : Nat := 0
  /-- FLTn_APLL.COUNT, 0 before the first count [06 R188] -/
  apll : Nat := 0
  deriving DecidableEq, Repr, Inhabited

/-- One serial port of SIO. -/
structure SioPort where
  /-- SIO_STAT.LINES [06 R174] -/
  lines : Nat := 0
  /-- SIO_STAT.BREAK [06 SIO_STAT] -/
  brk : Bool := false
  /-- SIO_ERR.CKSUM [06 R174] -/
  cksum : Nat := 0
  /-- SIO_ERR.FRAMING [06 SIO_ERR] -/
  framing : Nat := 0
  /-- SIO_ERR.OVERLONG [06 R174] -/
  overlong : Nat := 0
  /-- SIO_ERR.UNMATCHED [06 R174] -/
  unmatched : Nat := 0
  /-- interrupt kinds already raised since the last accepted line, one bit each [06 R196] -/
  raised : Nat := 0
  deriving DecidableEq, Repr, Inhabited

/-- State of block SIO (page 0x12). -/
structure SioSt where
  /-- ports 0–11 [06 R174] -/
  ports : List SioPort := List.replicate 12 {}
  /-- SIO_450_CNT.ACCEPTED [06 R177] -/
  acc450 : Nat := 0
  /-- SIO_450_CNT.REJECTED [06 R177] -/
  rej450 : Nat := 0
  deriving DecidableEq, Repr, Inhabited

/-! ### State of 07_fusion.md -/

/-- Inputs of the own-vessel model held over an interval. -/
structure FusInputs where
  /-- thrust in surge, sway and yaw [07 R203] -/
  thr : List F64 := [⟨0⟩, ⟨0⟩, ⟨0⟩]
  /-- wind in surge, sway and yaw [07 R203] -/
  wind : List F64 := [⟨0⟩, ⟨0⟩, ⟨0⟩]
  deriving DecidableEq, Repr, Inhabited

/-- Class of a position reference. -/
inductive RefState where
  | notRef | accepted | rejected | excluded
  deriving DecidableEq, Repr, Inhabited

/-- Reason of a rejection. -/
inductive RefReason where
  | none | freeze | variance | median | drift | prediction | vote | probation
  deriving DecidableEq, Repr, Inhabited

/-- A position sample kept for the quality tests: instant, raw values and departure from the prediction. -/
structure RefSample where
  /-- fusion instant, TB0 ns [07 R215] -/
  at_ : Nat := 0
  /-- raw values of the record: metres in the local frame, or range and raw measurements [07 R215] -/
  raw : List F64 := []
  /-- north of the sample [07 R215] -/
  n : F64 := ⟨0⟩
  /-- east of the sample [07 R215] -/
  e : F64 := ⟨0⟩
  /-- departure from the filter's prediction, north and east [07 R215] -/
  dn : F64 := ⟨0⟩
  /-- departure east [07 R215] -/
  de : F64 := ⟨0⟩
  deriving DecidableEq, Repr, Inhabited

/-- Fusion state of one source. -/
structure FusSrc where
  /-- FUS_SRC_STAT.REF [07 R217] -/
  ref : RefState := .notRef
  /-- FUS_SRC_STAT.REASON [07 R217] -/
  reason : RefReason := .none
  /-- FUS_SRC_STAT.TIME_SUSPECT [07 R212] -/
  suspect : Bool := false
  /-- FUS_SRC_STAT.PRED_FAILS [07 R216] -/
  predFails : Nat := 0
  /-- cut time at which PRED_COUNT was reached, TB0 ns [07 R218] -/
  predAt : Option Nat := none
  /-- FUS_SRC_STAT.FUSED [07 SRC_STAT] -/
  fused : Nat := 0
  /-- TB0 ns of the last fused record [07 R207] -/
  fusedAt : Option Nat := none
  /-- clock estimate o, s [07 R211] -/
  ofs : F64 := ⟨0⟩
  /-- clock rate rho [07 R211] -/
  rho : F64 := ⟨0⟩
  /-- mean residual of the last 1 s, s [07 R211] -/
  resid : F64 := ⟨0⟩
  /-- residuals of the last 1 s with their STAMPs [07 R211] -/
  ress : List (Nat × F64) := []
  /-- STAMP of the previous record with sender time [07 R211] -/
  clkPrev : Option Nat := none
  /-- STAMP of the first record with sender time after WAITING [07 R211] -/
  clkFirst : Option Nat := none
  /-- the next record with sender time sets o to d [07 R211] -/
  clkSet : Bool := true
  /-- TB0 ns since when |resid| has stayed within T/2 [07 R212] -/
  quietAt : Option Nat := none
  /-- TB0 ns since when a rejected reference has passed every test [07 R217] -/
  passAt : Option Nat := none
  /-- latched reference point, north and east [07 R206] -/
  latch : Option (F64 × F64) := none
  /-- samples of the quality tests, newest first [07 R215] -/
  samples : List RefSample := []
  /-- low-passed departure from the median, north [07 R215] -/
  devN : F64 := ⟨0⟩
  /-- low-passed departure from the median, east [07 R215] -/
  devE : F64 := ⟨0⟩
  /-- s of the variance test [07 R215 R219] -/
  sdev : F64 := ⟨0⟩
  /-- FUS_SRC_WEIGHT [07 R219] -/
  weight : F32 := ⟨0⟩
  /-- excluded by its vote group [07 R220] -/
  voteOut : Bool := false
  /-- TB0 ns since when its deviation has been beyond the limit, or within it while excluded [07 R220] -/
  voteAt : Option Nat := none
  /-- latest sample of a voted class [07 R220] -/
  latest : Option SrcRecord := none
  deriving DecidableEq, Repr, Inhabited

/-- State of one vote group. -/
structure VoteGrp where
  /-- FUS_VGRP_STAT.MEMBERS [07 R220] -/
  members : Nat := 0
  /-- FUS_VGRP_STAT.USED [07 R220] -/
  used : Nat := 0
  /-- FUS_VGRP_STAT.DISAGREE [07 R220] -/
  disagree : Bool := false
  /-- FUS_VGRP_STAT.CHOSEN [07 R220] -/
  chosen : Nat := 0
  /-- last group value, by component [07 R220] -/
  value : List F32 := []
  deriving DecidableEq, Repr, Inhabited

/-- A measurement ready for fusion. -/
structure Meas where
  /-- fusion instant t_f, TB0 ns [07 R197] -/
  tf : Nat := 0
  /-- the record [06 R169] -/
  r : SrcRecord := {}
  deriving DecidableEq, Repr, Inhabited

/-- Quality-test and vote state held in a snapshot. -/
structure QualSnap where
  /-- reference state by source [07 R221] -/
  refs : List RefState := []
  /-- vote exclusion by source [07 R221] -/
  voteOut : List Bool := []
  /-- TIME_SUSPECT by source [07 R224] -/
  suspect : List Bool := []
  deriving DecidableEq, Repr, Inhabited

/-- Snapshot of a cut in the rewind buffer. -/
structure Snapshot where
  /-- the cut, TB0 ns [07 R221] -/
  at_ : Nat := 0
  /-- own-vessel estimate at the cut [07 R221] -/
  own : Est := {}
  /-- target estimates at the cut [07 R221] -/
  tgts : List Est := []
  /-- inputs of the interval that follows [07 R221] -/
  inputs : FusInputs := {}
  /-- inputs from a handover within the interval on, with its TB0 ns [07 R203] -/
  next : Option (Nat × FusInputs) := none
  /-- quality-test and vote state [07 R221] -/
  qual : QualSnap := {}
  deriving DecidableEq, Repr, Inhabited

/-- A rerun in progress. -/
structure Rerun where
  /-- object rerun [07 R209 R223] -/
  obj : Nat := 0
  /-- depth c − j [07 R198] -/
  depth : Nat := 0
  /-- earliest cut from which it replays, TB0 ns [07 R223] -/
  from_ : Nat := 0
  /-- replayed intervals and records, for the bound of R225 [07 R225] -/
  cost : Nat := 0
  /-- the tick at which it started [07 R225] -/
  started : Nat := 0
  /-- late records that it fuses [07 R223] -/
  late : List Meas := []
  deriving DecidableEq, Repr, Inhabited

/-- Target bookkeeping beside its filter. -/
structure TgtSt where
  /-- VALID [07 R210] -/
  valid : Bool := false
  /-- TB0 ns of the last position update [07 R210] -/
  posAt : Option Nat := none
  /-- TB0 ns of the last fused heading record [07 R210] -/
  hdgAt : Option Nat := none
  /-- HDG_FROM_COURSE [07 R210] -/
  fromCourse : Bool := false
  /-- sources fused since the last State record [07 R227] -/
  mask : Nat := 0
  /-- REWOUND in the next record, with its depth [07 R226] -/
  rewound : Nat := 0
  /-- late records waiting for a running rerun [07 R225] -/
  waiting : List Meas := []
  /-- rerun in progress [07 R209 R225] -/
  rerun : Option Rerun := none
  /-- heading has been set from a heading record or from the course [07 R210] -/
  hdgSet : Bool := false
  deriving DecidableEq, Repr, Inhabited

/-- State of block FUS (page 0x09). -/
structure FusSt where
  /-- present own-vessel estimate [07 R202] -/
  own : Est := {}
  /-- present target estimates, objects 1–7 [07 R208] -/
  tgts : List Est := List.replicate 7 {}
  /-- target bookkeeping [07 R210] -/
  tgt : List TgtSt := List.replicate 7 {}
  /-- inputs held since the last handover [07 R203] -/
  inputs : FusInputs := {}
  /-- sources 0–31 [07 R217] -/
  srcs : List FusSrc := List.replicate 32 {}
  /-- vote groups 0–15 [07 R220] -/
  grps : List VoteGrp := List.replicate 16 {}
  /-- snapshots, newest first [07 R221] -/
  snaps : List Snapshot := []
  /-- measurement log, newest first [07 R221] -/
  log : List Meas := []
  /-- FUS_LOG.EVICT [07 R221] -/
  evict : Nat := 0
  /-- own-vessel rerun in progress [07 R225] -/
  rerun : Option Rerun := none
  /-- own late records waiting for a running rerun [07 R225] -/
  waiting : List Meas := []
  /-- depth for the next State record, 0 none [07 R226] -/
  rewound : Nat := 0
  /-- FUS_REW_STAT.LAST_DEPTH [07 REW_STAT] -/
  lastDepth : Nat := 0
  /-- FUS_REW_STAT.MAX_DEPTH [07 REW_STAT] -/
  maxDepth : Nat := 0
  /-- snapshots inside the window, FUS_REW_STAT.SPAN [07 R221] -/
  span : Nat := 0
  /-- FUS_LATE_DROP.COUNT [07 R222] -/
  lateDrop : Nat := 0
  /-- FUS_LATE_DROP.LAST_SRC [07 R222] -/
  lateSrc : Nat := 0
  /-- POS_VALID [07 R207] -/
  posValid : Bool := false
  /-- HDG_VALID [07 R207] -/
  hdgValid : Bool := false
  /-- REF_DISAGREE [07 R215 R217] -/
  disagree : Bool := false
  /-- TB0 ns of the last fused position reference, or of the entry into RUN [07 R207] -/
  posAt : Nat := 0
  /-- TB0 ns of the last fused heading record [07 R207] -/
  hdgAt : Option Nat := none
  /-- TB0 ns of the last fused velocity record [07 R204] -/
  velAt : Option Nat := none
  /-- first valid absolute position and heading taken up before initialisation [07 R207] -/
  initPos : Option Meas := none
  /-- first valid heading taken up before initialisation [07 R207] -/
  initHdg : Option Meas := none
  /-- origin in force: latitude, rad binary64 [07 R200, FUS_ORG_LAT] -/
  lat0 : F64 := ⟨0⟩
  /-- origin in force: longitude, rad binary64 [07 R200, FUS_ORG_LON] -/
  lon0 : F64 := ⟨0⟩
  /-- FUS_ORG_STAT.SET [07 R201] -/
  orgSet : Bool := false
  /-- FUS_ORG_STAT.FAR [07 R200] -/
  far : Bool := false
  /-- FUS_ORG_STAT.GEN [07 R201] -/
  orgGen : Nat := 0
  /-- ORIGIN_MOVED for the next record of each object, bit per object [07 R201] -/
  orgMoved : Nat := 0
  /-- sensor kinds whose every own-vessel source is absent, bit per kind [07 R213] -/
  kindLost : Nat := 0
  /-- position references fused since the last record [07 R227] -/
  nref : Nat := 0
  /-- sources fused since the last record [07 R227] -/
  refMask : Nat := 0
  /-- cycle count since the entry into RUN, SEQ of the State record [07 R227] -/
  seq : Nat := 0
  /-- latest State records, objects 0–7, 32 words each [07 R227] -/
  recs : List (List Word) := List.replicate 8 []
  /-- ring of the last 64 cycles: slot, then objects, newest first [07 R227] -/
  ring : List (Nat × List (List Word)) := []
  deriving DecidableEq, Repr, Inhabited

/-! ### State of 08_control_allocation.md -/

/-- State of block ALC (page 0x0B). -/
structure AlcSt where
  /-- thrusters 0–15 [08 R234] -/
  thr : List ThrSt := List.replicate 16 {}
  /-- ALC_STAT.NO_SPAN [08 R237] -/
  noSpan : Bool := false
  /-- ALC_STAT.LOSSES [08 ALC_STAT] -/
  losses : Nat := 0
  /-- ALC_AVAIL_X, _Y, _N [08 R238] -/
  avail : List F64 := [⟨0⟩, ⟨0⟩, ⟨0⟩]
  /-- ALC_SIGMA_MIN [08 R237] -/
  sigmaMin : F64 := ⟨0⟩
  /-- what R237 was last evaluated on: mask, F_pos and AHEAD of each thruster [08 R237] -/
  spanKey : List Nat := []
  deriving DecidableEq, Repr, Inhabited

/-! ### State of 09_solver.md -/

/-- How far the solve job of the cycle has got. -/
inductive SolveStage where
  | idle | running | converged | limit | limitInfeasible
  deriving DecidableEq, Repr, Inhabited

/-- Inputs of the problem as the assembly stage takes them. -/
structure Problem where
  /-- mode whose cost is used [08 R243] -/
  mode : Nat := 0
  /-- AUTO_HDG [08 R243] -/
  autoHdg : Bool := false
  /-- cycle period, ns [08 R239] -/
  periodNs : Nat := 0
  /-- signature [09 R276] -/
  sig : Signature := {}
  /-- initial state propagated to the deadline: n, e, ψ, u, v, r [08 R241] -/
  x0 : List F64 := []
  /-- bias, trim and current held over the horizon [08 R240] -/
  held : List F64 := []
  /-- wind force, surge, sway, yaw [08 R240 R247] -/
  wind : List F64 := []
  /-- appendage reaction in TRANSFER [08 R243] -/
  react : List F64 := []
  /-- references at the end of each step: north, east, heading and their rates [08 R242] -/
  refs : List (List F64) := []
  /-- demanded body force in JOYSTICK [08 R243] -/
  demand : List F64 := []
  /-- available force of each row [08 R238] -/
  avail : List F64 := []
  /-- weights of page CTL in register order [08 R242] -/
  weights : List F32 := []
  /-- present azimuth of each thruster, rad [08 R245] -/
  az : List F64 := []
  /-- thrusters whose azimuth lies inside a sector, bit per thruster [08 R245] -/
  inSector : Nat := 0
  /-- previous forces f₋₁ [08 R242] -/
  fPrev : List Force := []
  /-- F_pos and F_neg of each thruster [08 R230] -/
  fLim : List (F64 × F64) := []
  /-- active set of the start, empty when cold [09 R277] -/
  start : List (Nat × Nat) := []
  /-- data of each available thruster: number, then kind, position, AZ_ZERO, F_MAX_POS, F_RATE, AZ_RATE_MAX, weight, RUD, AHEAD [08 R230 R242 R244] -/
  thr : List (Nat × List F64) := []
  /-- forbidden sectors by thruster: start and end [08 R244] -/
  sectors : List (Nat × F64 × F64) := []
  /-- coefficients of the prediction model [08 R240] -/
  model : List F64 := []
  /-- length of each step, s [08 R239] -/
  steps : List F64 := []
  /-- MAX_ITER, REFACT and the bits of the three tolerances [09 R268 R269 R270 R274] -/
  tol : List Nat := []
  deriving DecidableEq, Repr, Inhabited

/-- State of block SLV (page 0x08). -/
structure SlvSt where
  /-- stage of this cycle's solve [09 R260] -/
  stage : SolveStage := .idle
  /-- the solve job ran this cycle [09 R279] -/
  ran : Bool := false
  /-- this is the first cycle of a thrust mode [09 R278] -/
  first : Bool := false
  /-- the problem in hand [09 R263] -/
  problem : Problem := {}
  /-- the last complete iterate or result of this solve [09 R268] -/
  result : Option Solution := none
  /-- the solution that the previous outcome selected [09 R277 R281] -/
  prev : Option Solution := none
  /-- its signature, of the last solve [09 R276] -/
  sig : Signature := {}
  /-- tick at which the solve started [09 SLV_TIME] -/
  startTick : Nat := 0
  /-- SLV_STAT.OUTCOME [09 R279] -/
  outcome : Nat := 0
  /-- SLV_STAT.REASON [09 R279] -/
  reason : Nat := 0
  /-- SLV_STAT.COLD [09 R278] -/
  cold : Bool := false
  /-- SLV_STAT.WARM_REJECT [09 R278] -/
  warmReject : Bool := false
  /-- SLV_STAT.REGULARISED [09 R274] -/
  regularised : Bool := false
  /-- SLV_STAT.ITERS [09 SLV_STAT] -/
  iters : Nat := 0
  /-- SLV_SIZE.ACTIVE [09 SLV_SIZE] -/
  active : Nat := 0
  /-- SLV_TIME.SOLVE, µs [09 SLV_TIME] -/
  solveUs : Nat := 0
  /-- SLV_TIME.ASM, µs [09 SLV_TIME] -/
  asmUs : Nat := 0
  /-- SLV_VIOL [09 SLV_VIOL] -/
  viol : F32 := ⟨0⟩
  /-- SLV_PIVOT.COL [09 R274] -/
  pivotCol : Nat := 0
  /-- SLV_PIVOT.COUNT [09 SLV_PIVOT] -/
  pivotCnt : Nat := 0
  /-- small pivots of the solve before, for PIVOT_SMALL [09 R288] -/
  pivotPrev : Nat := 0
  /-- consecutive regularised cycles [09 R275] -/
  regRun : Nat := 0
  /-- SLV_CAUSE.CAUSE [09 R275] -/
  cause : Nat := 0
  /-- SLV_CAUSE.THR [09 R275] -/
  causeThr : Nat := 0
  /-- SLV_CAUSE.JOINT [09 R275] -/
  causeJoint : Nat := 0
  /-- SLV_CNT.WARM_REJECT [09 SLV_CNT] -/
  cntReject : Nat := 0
  /-- SLV_CNT.COLD [09 SLV_CNT] -/
  cntCold : Nat := 0
  /-- SLV_CNT2.PIVOT_SMALL [09 SLV_CNT2] -/
  cntPivot : Nat := 0
  /-- SLV_CNT2.ABANDONED [09 R280] -/
  cntAband : Nat := 0
  /-- SLV_NUM.SQRT_NEG [09 R273] -/
  sqrtNeg : Nat := 0
  /-- azimuth rate of the previous handover by thruster [09 R282] -/
  azRate : List F32 := List.replicate 16 ⟨0⟩
  /-- SLV_AZ_TAU by thruster [09 R282] -/
  azTau : List F32 := List.replicate 16 ⟨0⟩
  /-- joints 1–6 [09 R285] -/
  joints : List JointSt := List.replicate 6 {}
  /-- heading, pitch and roll rates of the last sub-cycle, none before one [09 R286] -/
  ratePrev : Option (List F64) := none
  /-- appendage tip target: north, east, down, none before the first sub-cycle [09 R284] -/
  tgt : Option (List F64) := none
  /-- target relative to the vessel's low-frequency pose, for axes not held [09 R284] -/
  tgtRel : List F64 := [⟨0⟩, ⟨0⟩, ⟨0⟩]
  /-- SLV_APP_ERR [09 R285] -/
  appErr : F32 := ⟨0⟩
  /-- SLV_APP_STAT.LIMIT [09 R285] -/
  appLimit : Nat := 0
  /-- SLV_APP_STAT.SINGULAR [09 R285] -/
  singular : Bool := false
  /-- SLV_APP_STAT.OVERRUNS [09 R287] -/
  overruns : Nat := 0
  /-- SLV_APP_REACT: X, Y, N [09 R286] -/
  react : List F32 := [⟨0⟩, ⟨0⟩, ⟨0⟩]
  /-- a sub-cycle job is in hand [09 R287] -/
  subRunning : Bool := false
  deriving DecidableEq, Repr, Inhabited

/-! ### State of 10_placement.md -/

/-- State of a compute tile. -/
inductive TileState where
  | free | busy | grout | suspect | faulty | off
  deriving DecidableEq, Repr, Inhabited

/-- One compute tile. -/
structure Tile where
  /-- MSN_DIAG_TILE.STATE [10 R301 R303] -/
  st : TileState := .free
  /-- overruns among the last 100 runs: a queue of run results, newest first [10 R303] -/
  runs : List Bool := []
  /-- TB0 ns since when it has carried jobs without a Grout test [10 R305] -/
  since : Nat := 0
  /-- it carried jobs at the last cut [10 R305] -/
  carried : Bool := false
  deriving DecidableEq, Repr, Inhabited

/-- State of a shared bank. -/
inductive BankState where
  | free | inUse | grout | suspect | faulty | moving
  deriving DecidableEq, Repr, Inhabited

/-- One shared SRAM bank. -/
structure Bank where
  /-- MSN_DIAG_BANK.STATE [10 R304] -/
  st : BankState := .free
  /-- MSN_DIAG_BANK.USE: workspace row 1–6, 0 none [10 R290] -/
  use : Nat := 0
  /-- MSN_DIAG_BANK.CE_COUNT [10 R304] -/
  ce : Nat := 0
  /-- TB0 ns of the corrected errors of the last hour [10 R304] -/
  errs : List Nat := []
  /-- TB0 ns since when its workspace has stayed in place [10 R305] -/
  since : Nat := 0
  /-- bank to which its workspace is being copied [10 R300] -/
  copyTo : Option Nat := none
  /-- the copy has completed and switches at the next cut [10 R300] -/
  copied : Bool := false
  deriving DecidableEq, Repr, Inhabited

/-- One job of the catalogue. -/
structure Job where
  /-- tiles that carry it, empty when unplaced or not needed [10 R294] -/
  tiles : List Nat := []
  /-- the description and settings need it [10 R292] -/
  needed : Bool := false
  /-- moving at the next cut: its new tiles [10 R299] -/
  moving : Option (List Nat) := none
  /-- the cut of its migration has passed: an epoch-driven job switches at the next epoch [10 R299] -/
  moveDue : Bool := false
  /-- MSN_JOB_STAT.RESTARTED [10 R302 R304] -/
  restarted : Bool := false
  /-- MSN_JOB_STAT.PIN_BROKEN [10 R308] -/
  pinBroken : Bool := false
  /-- MSN_JOB_STAT.MOVES [10 JOB_STAT] -/
  moves : Nat := 0
  /-- MSN_JOB_STAT.OVERRUNS [10 R303] -/
  overruns : Nat := 0
  /-- the last run was an overrun [10 R311] -/
  lastOver : Bool := false
  /-- MSN_JOB_TIME.LAST, µs [10 JOB_TIME] -/
  lastUs : Nat := 0
  /-- MSN_JOB_TIME.MAX, µs [10 JOB_TIME] -/
  maxUs : Nat := 0
  /-- UNPLACED has been raised for the present lack of a tile [10 R295] -/
  unplaced : Bool := false
  /-- its run of the present cycle was lost to a fault and not restarted in time [10 R302] -/
  lost : Bool := false
  deriving DecidableEq, Repr, Inhabited

/-- State of block MSN (page 0x07). -/
structure MsnSt where
  /-- tiles 0–11 [10 R289] -/
  tiles : List Tile := List.replicate 12 {}
  /-- banks 0–39 [10 R289] -/
  banks : List Bank := List.replicate 40 {}
  /-- jobs 0–14 [10 R292] -/
  jobs : List Job := List.replicate 15 {}
  /-- MSN_STAT.SPARE_LOW [10 R296] -/
  spareLow : Bool := false
  /-- MSN_COUNT.TILE_FAULTS [10 MSN_COUNT] -/
  tileFaults : Nat := 0
  /-- MSN_COUNT.MIGRATIONS [10 MSN_COUNT] -/
  migrations : Nat := 0
  /-- a full placement has been made since the entry into RUN [10 R297] -/
  placed : Bool := false
  /-- jobs moved at this cut, which a re-evaluation leaves alone [10 R298] -/
  movedNow : List Nat := []
  /-- a fault move fell in this cycle [10 R298] -/
  faultMove : Bool := false
  deriving DecidableEq, Repr, Inhabited

/-! ### State of 11_loop_engine.md -/

/-- State of block LOP (page 0x13). -/
structure LopSt where
  /-- channels 0–31 [11 R312] -/
  ch : List LoopCh := List.replicate 32 {}
  deriving DecidableEq, Repr, Inhabited

/-! ### State of 12_actuator_io.md -/

/-- One DAC or PWM output. -/
structure AnOut where
  /-- DAC code as a signed value, or PWM high time in ticks, AOU_CODE [12 R339 R340] -/
  code : Int := 0
  /-- duty latched and not yet taken by a PWM period: high time and direction level [12 R340] -/
  next : Option (Nat × Bool) := none
  /-- AOU_STAT.FAIL_ACT [12 R337] -/
  fail : Bool := false
  /-- AOU_STAT.CLAMPED [12 R339] -/
  clamped : Bool := false
  /-- held at its last value after a take, until this tick [15 R456] -/
  relayHold : Option Nat := none
  deriving DecidableEq, Repr, Inhabited

/-- State of block AOU (page 0x14). -/
structure AouSt where
  /-- outputs 0–15 DAC, 16–31 PWM [12 R335] -/
  outs : List AnOut := List.replicate 32 {}
  deriving DecidableEq, Repr, Inhabited

/-- State of block PFG (page 0x15). -/
structure PfgSt where
  /-- axes 0–7 [12 R335] -/
  axes : List StepAxis := List.replicate 8 {}
  deriving DecidableEq, Repr, Inhabited

/-- One SSI port. -/
structure SsiPort where
  /-- tick of the request that brought the last good word [12 R352, 11 R317] -/
  wordTick : Option Nat := none
  /-- last good word, ENC_SSI_WORD [12 R351] -/
  word : Nat := 0
  /-- a good word has been read since the last request: valid for R317 [12 R352] -/
  valid : Bool := false
  /-- FAIL: last word failed [12 R352] -/
  fail : Bool := false
  /-- CAUSE: 0 none, 1 CRC, 2 line, 3 error bit [12 R352] -/
  cause : Nat := 0
  /-- OVERRUN [12 R352] -/
  overrun : Nat := 0
  /-- FAILS [12 SSI_STAT] -/
  fails : Nat := 0
  /-- a good word has come since the last failure [12 R352] -/
  good : Bool := true
  /-- tick at which the frame and its MONO time end [12 R351] -/
  busyTill : Option Nat := none
  /-- request instant of the frame in hand, TB0 ns [12 R352] -/
  reqAt : Option Nat := none
  /-- tick of the request of the frame in hand [12 R352] -/
  reqTick : Nat := 0
  deriving DecidableEq, Repr, Inhabited

/-- One quadrature port. -/
structure QdPort where
  /-- count, signed, wraps, ENC_QD_COUNT [12 R353] -/
  count : Int := 0
  /-- filtered A and B [12 R353] -/
  ab : Nat := 0
  /-- latched count, ENC_QD_IDX [12 R355] -/
  idx : Int := 0
  /-- ILLEGAL [12 R354] -/
  illegal : Bool := false
  /-- the last transition was illegal [12 R354] -/
  lastIll : Bool := false
  /-- ENC_FAULT [12 R354] -/
  fault : Bool := false
  /-- DIR [12 R356] -/
  dir : Bool := false
  /-- an edge has been counted since EN [12 R356] -/
  moved : Bool := false
  /-- DIR_CHANGE [12 R356] -/
  dirChange : Bool := false
  /-- IDX_SEEN [12 R355] -/
  idxSeen : Bool := false
  /-- the first index after EN has come [12 R355] -/
  firstIdx : Bool := false
  /-- ILL_COUNT [12 R354] -/
  illCount : Nat := 0
  /-- illegal transitions in each of the last 1,000 ms, newest first, trailing zeros left off [12 R354] -/
  illWin : List Nat := []
  /-- milliseconds for which the number in the window has been 0 [12 R354] -/
  zeroMs : Nat := 0
  /-- tick of the last counted edge [12 R358] -/
  edgeTick : Option Nat := none
  /-- compare [12 R358] -/
  cmp : Compare := {}
  deriving DecidableEq, Repr, Inhabited

/-- One encoder-emulation output. -/
structure EmuOut where
  /-- accumulator [12 R357] -/
  acc : Nat := 0
  /-- edges waiting, oldest first: true = forward [12 R357] -/
  queue : List Bool := []
  /-- OVERRUNS [12 R357] -/
  overruns : Nat := 0
  /-- phase of the emitted quadrature pair A, B [12 R357] -/
  phase : Nat := 0
  /-- level of EMUn_Z [12 R357] -/
  z : Bool := false
  /-- tick of the last edge out [12 R357] -/
  lastTick : Option Nat := none
  deriving DecidableEq, Repr, Inhabited

/-- State of block ENC (page 0x16). -/
structure EncSt where
  /-- SSI ports 0–15 [12 R351] -/
  ssi : List SsiPort := List.replicate 16 {}
  /-- quadrature ports 0–15 [12 R353] -/
  qd : List QdPort := List.replicate 16 {}
  /-- emulation outputs 0–7 [12 R357] -/
  emu : List EmuOut := List.replicate 8 {}
  deriving DecidableEq, Repr, Inhabited

/-- One digital input. -/
structure Din where
  /-- raw level at the last 10 µs sample, DIO_DIN_RAW [12 R347] -/
  raw : Bool := false
  /-- samples for which the raw level has held steady [12 R347] -/
  steady : Nat := 0
  /-- debounced level before polarity [12 R347] -/
  deb : Bool := false
  /-- sample numbers of the raw edges of the last 50 ms, newest first [12 R348] -/
  edges : List Nat := []
  deriving DecidableEq, Repr, Inhabited

/-- State of block DIO (page 0x17). -/
structure DioSt where
  /-- digital inputs 0–31 [12 R347] -/
  din : List Din := List.replicate 32 {}
  /-- number of 10 µs samples taken [12 R347] -/
  sampleNo : Nat := 0
  /-- levels driven on DOUT0–31, DIO_DOUT_STAT [12 R337] -/
  level : Nat := 0
  /-- levels that functions drive, for the bits they own [12 DIO registers] -/
  func : Nat := 0
  /-- the digital outputs are in their fail states [12 R337] -/
  fail : Bool := false
  deriving DecidableEq, Repr, Inhabited

/-! ### State of 13_can.md -/

/-- An 80-byte element of a message RAM: four header words and the data bytes. -/
structure CanElem where
  /-- FRAME word [13 R369] -/
  frame : Nat := 0
  /-- IDENT word [13 R369] -/
  ident : Nat := 0
  /-- third word: LAUNCH_LO or TS [13 R369] -/
  w2 : Nat := 0
  /-- fourth word: LAUNCH_HI, E2E result, or TB0 stamp [13 R369] -/
  w3 : Nat := 0
  /-- data bytes 0 to 63, missing bytes read 0 [13 R369] -/
  data : List Byte := []
  deriving DecidableEq, Repr, Inhabited

/-- A receive FIFO. -/
structure RxFifo where
  /-- elements by index [13 R368] -/
  elems : List CanElem := List.replicate 64 {}
  /-- FILL [13 R371] -/
  fill : Nat := 0
  /-- GET [13 R371] -/
  get : Nat := 0
  /-- PUT [13 R371] -/
  put : Nat := 0
  /-- LOST [13 R371] -/
  lost : Nat := 0
  deriving DecidableEq, Repr, Inhabited

/-- State of a channel's Storyboard. -/
inductive SbState where
  | off | sync | run
  deriving DecidableEq, Repr, Inhabited

/-- Fault confinement state of a channel. -/
inductive CanErr where
  | active | passive | busOff | integrating
  deriving DecidableEq, Repr, Inhabited

/-- The Storyboard window in progress. -/
structure SbWin where
  /-- column of the window [13 R383] -/
  col : Nat := 0
  /-- cell TYPE [13 R383] -/
  type : Nat := 0
  /-- cell BUF [13 R383] -/
  buf : Nat := 0
  /-- frame copied at the window start, still to be sent [13 R387] -/
  frame : Option CanElem := none
  /-- its frame was sent, or an occupying frame completed [13 R386 R387] -/
  done : Bool := false
  /-- CMD or EXCL frame failed and is not retried, or it was cancelled [13 R386] -/
  dead : Bool := false
  /-- RXCHK buffer has stored a frame [13 R388] -/
  stored : Bool := false
  deriving DecidableEq, Repr, Inhabited

/-- A frame in transmission, past its start of frame. -/
structure CanTx where
  /-- TX buffer [13 R380] -/
  buf : Nat := 0
  /-- the frame as it is sent, protection applied [13 R396] -/
  elem : CanElem := {}
  /-- 0 a host request, 1 the frame of the window in progress, 2 the reference [13 R378 R384 R386] -/
  kind : Nat := 0
  /-- transmit context applied, with its running value after the frame [13 R396 R397] -/
  ctx : Option (Nat × Nat) := none
  deriving DecidableEq, Repr, Inhabited

/-- One CAN channel (pages 0x18–0x1F). -/
structure CanCh where
  /-- TX buffers 0–63 [13 R368] -/
  tx : List CanElem := List.replicate 64 {}
  /-- staging copy of the TX window [13 R370] -/
  stage : CanElem := {}
  /-- pending requests, bit per buffer, CANn_TXPEND [13 R378] -/
  pend : Nat := 0
  /-- pending requests held for their launch, bit per buffer [13 R381] -/
  launchHold : Nat := 0
  /-- launch time of a pending launch, TB0 ns, by buffer [13 R381 R382] -/
  launchAt : List (Nat × Nat) := []
  /-- frame in transmission, past SOF [13 R380] -/
  sending : Option CanTx := none
  /-- a cancel came after SOF of that transmission [13 R380] -/
  cancelLate : Bool := false
  /-- transmit log entries by index [13 R368] -/
  log : List CanElem := List.replicate 32 {}
  /-- TXLOG FILL [13 R378] -/
  logFill : Nat := 0
  /-- TXLOG GET [13 R378] -/
  logGet : Nat := 0
  /-- PUT_BUSY [13 R370] -/
  putBusy : Nat := 0
  /-- RX FIFO 0 [13 R371] -/
  fifo0 : RxFifo := {}
  /-- RX FIFO 1 [13 R371] -/
  fifo1 : RxFifo := {}
  /-- dedicated buffers 0–63 [13 R376] -/
  db : List CanElem := List.replicate 64 {}
  /-- shadow copies [13 R376] -/
  shadow : List CanElem := List.replicate 64 {}
  /-- DB_NEW, bit per buffer [13 R376] -/
  dbNew : Nat := 0
  /-- TB0 ns of the last store in each buffer, none before one [13 R392] -/
  dbAt : List (Option Nat) := List.replicate 64 none
  /-- basic cycles since the last accepted store in each buffer, saturating at 255 [13 R392] -/
  dbAge : List Nat := List.replicate 64 255
  /-- RX_CNT.NOMATCH [13 R374] -/
  noMatch : Nat := 0
  /-- RX_CNT.REMOTE [13 R364] -/
  remote : Nat := 0
  /-- PSTAT.STATE [13 R393] -/
  err : CanErr := .active
  /-- PSTAT.LEC [13 PSTAT] -/
  lec : Nat := 0
  /-- TEC [13 R393] -/
  tec : Nat := 0
  /-- REC [13 R393] -/
  recErr : Nat := 0
  /-- PXE [13 R394] -/
  pxe : Bool := false
  /-- TDCV [13 R366] -/
  tdcv : Nat := 0
  /-- bus-off recovery sequence has begun [13 R393] -/
  recovering : Bool := false
  /-- SB_STAT.STATE [13 R389] -/
  sb : SbState := .off
  /-- SB_STAT.CYCLE [13 R384] -/
  cycle : Nat := 0
  /-- REF_MISS [13 R389] -/
  refMiss : Nat := 0
  /-- WIN_MISS [13 R386] -/
  winMiss : Nat := 0
  /-- RXCHK_MISS [13 R388] -/
  rxchkMiss : Nat := 0
  /-- EMPTY_RUN [13 R387] -/
  emptyRun : Nat := 0
  /-- OCC [13 R387] -/
  occ : Bool := false
  /-- a CMD window of the present basic cycle was occupied [13 R387] -/
  occNow : Bool := false
  /-- the reference of the present basic cycle arrived or was launched [15 R443] -/
  refOk : Bool := false
  /-- the channel is time master from its last basic cycle on [13 R384, 15 R446] -/
  master : Bool := false
  /-- tick of the last launch of a reference, or SOF of the last received one [13 R385] -/
  refTick : Option Nat := none
  /-- references launched since the last cut [13 R385] -/
  refJ : Nat := 0
  /-- window in progress [13 R386] -/
  win : Option SbWin := none
  /-- Storyboard columns opened in this basic cycle [13 R383] -/
  colNext : Nat := 0
  deriving DecidableEq, Repr, Inhabited

/-- One entry of the filter pool. -/
structure FltEntry where
  /-- index in the pool [13 R372] -/
  idx : Nat := 0
  /-- KEY [13 R373] -/
  key : Nat := 0
  /-- SPAN [13 R373] -/
  span : Nat := 0
  /-- CONTROL: KIND, EXT, DEST, BUF [13 R373] -/
  control : Nat := 0
  deriving DecidableEq, Repr, Inhabited

/-- State of the CAN channels and their filter and schedule memory. -/
structure CanSt where
  /-- channels 0–7 [13 R364] -/
  ch : List CanCh := List.replicate 8 {}
  /-- filter pool entries in effect, rising index, absent entries off [13 R372] -/
  pool : List FltEntry := []
  /-- KEY and SPAN written and waiting for a FLT_CTRL write, by channel and entry [13 R375] -/
  staged : List (Nat × FltEntry) := []
  deriving DecidableEq, Repr, Inhabited

/-- One end-to-end context. -/
structure E2eCtx where
  /-- running value, E2E_RUN [13 R397] -/
  run : Nat := 0xFFFF
  /-- counter, E2E_RUN_CNT [13 R396] -/
  cnt : Nat := 0
  /-- RESULT: the last result [13 R398] -/
  result : Nat := 0
  /-- BAD [13 E2E_STAT] -/
  bad : Nat := 0
  /-- GOOD [13 E2E_STAT] -/
  good : Nat := 0
  /-- the next good frame is INIT [13 R398] -/
  init : Bool := true
  /-- a fault has come since the last good frame [13 R398] -/
  faulted : Bool := false
  /-- STREAM: waiting for a frame with counter 0 [13 R398] -/
  resync : Bool := false
  /-- tick of the last frame, or of the enable [13 R398] -/
  lastTick : Nat := 0
  /-- NO_NEW already given for the present gap [13 R398] -/
  noNew : Bool := false
  deriving DecidableEq, Repr, Inhabited

/-- State of block E2E (page 0x20). -/
structure E2eSt where
  /-- contexts 0–15 [13 R395] -/
  ctx : List E2eCtx := List.replicate 16 {}
  deriving DecidableEq, Repr, Inhabited

/-! ### State of 14_time_network.md -/

/-- State of a servo. -/
inductive SrvState where
  | off | acquiring | locked | holdover
  deriving DecidableEq, Repr, Inhabited

/-- The servo of one time base. -/
structure Servo where
  /-- TIM_SRV_STAT.STATE of TB1 and TB2 [14 R413] -/
  state : SrvState := .off
  /-- i, ppb, TIM_SRV_I [14 R411] -/
  i : F32 := ⟨0⟩
  /-- p, ppb [14 R411] -/
  p : F32 := ⟨0⟩
  /-- y, ppb, TIM_SRV_Y [14 R411] -/
  y : F32 := ⟨0⟩
  /-- last offset, ns, TIM_SRV_OFS [14 R411] -/
  ofs : Int := 0
  /-- TIM_SRV_STAT.UPDATES [14 R411] -/
  updates : Nat := 0
  /-- TIM_SRV_STAT.P_CLAMP [14 R411] -/
  pClamp : Bool := false
  /-- TIM_SRV_STAT.Y_CLAMP [14 R411] -/
  yClamp : Bool := false
  /-- TB3 time of the previous update, ns; none where the next update skips the integral [14 R411] -/
  lastAt : Option Nat := none
  /-- TB3 time of the last offset or servo start, ns, from which TIMEOUT runs [14 R413] -/
  lastOfs : Nat := 0
  /-- consecutive offsets within THR, saturating at 4 [14 R413] -/
  good : Nat := 0
  /-- consecutive offsets beyond THR, saturating at 4 [14 R413] -/
  bad : Nat := 0
  deriving DecidableEq, Repr, Inhabited

/-- A time base. -/
structure TimeBase where
  /-- seconds [14 R404] -/
  sec : Nat := 0
  /-- nanoseconds below 10⁹ [14 R404] -/
  ns : Nat := 0
  /-- fraction, 2⁻³² ns [14 R404] -/
  frac : Nat := 0
  /-- increment per 250 MHz tick, integer part, ns [14 R404] -/
  incInt : Nat := 4
  /-- increment per 250 MHz tick, fraction, 2⁻³² ns [14 R404] -/
  incFrac : Nat := 0
  deriving DecidableEq, Repr, Inhabited

/-- Page TIM: the four bases and their servos. -/
structure TimSt where
  /-- the bases TB0, TB1, TB2, TB3 [14 R403] -/
  tb : List TimeBase := List.replicate 4 {}
  /-- the servos of TB0, TB1 and TB2 (TB3 has none running) [14 R409] -/
  srv : List Servo := List.replicate 4 {}
  /-- the bases latched by the last SNAP [14 R407] -/
  snap : List TimeBase := List.replicate 4 {}
  /-- TIM_PPSIN_STAT.EDGES [14 R410] -/
  ppsEdges : Nat := 0
  /-- TIM_PPSIN_STAT.AMBIG [14 R410] -/
  ppsAmbig : Nat := 0
  /-- last PPS_IN edge in the four bases, ns [14 R410] -/
  ppsT : List Nat := [0, 0, 0, 0]
  /-- tick of the last PPS_IN edge, none before one [14 R410] -/
  ppsAt : Option Nat := none
  /-- PPSIN_LOST has been raised since the last edge [14 R410] -/
  ppsLost : Bool := false
  /-- TB0 second of the last latch of TB0 less TB1 and TB0 less TB2 [14 R409] -/
  secLatched : Nat := 0
  deriving DecidableEq, Repr, Inhabited

/-- A frame in a transmit queue. -/
structure TxFrame where
  /-- buffer [14 R418] -/
  buf : Nat := 0
  /-- LAUNCH flag of the push [14 R418] -/
  launch : Bool := false
  /-- ONE_STEP flag of the push [14 R418] -/
  oneStep : Bool := false
  /-- launch time in the queue's base, ns, with steps added [14 R408 R416] -/
  time : Nat := 0
  /-- judged late and sent as soon as possible (LATE_ACT = 1) [14 R423] -/
  late : Bool := false
  deriving DecidableEq, Repr, Inhabited

/-- One Ethernet MAC. -/
structure EthSt where
  /-- ETHn_LINK.LINK [14 R415] -/
  link : Bool := false
  /-- ETHn_LINK.AN_DONE [14 R415] -/
  anDone : Bool := false
  /-- ETHn_LINK.BAD_MODE [14 R415] -/
  badMode : Bool := false
  /-- ETHn_CNT.RX_OK [14 R415] -/
  rxOk : Nat := 0
  /-- ETHn_CNT.RX_DROP [14 R417] -/
  rxDrop : Nat := 0
  /-- ETHn_ERR.FCS [14 R415] -/
  errFcs : Nat := 0
  /-- ETHn_ERR.SHORT [14 R415] -/
  errShort : Nat := 0
  /-- ETHn_ERR.LONG [14 R415] -/
  errLong : Nat := 0
  /-- ETHn_ERR.IP [14 R424] -/
  errIp : Nat := 0
  /-- buffers given by ETHn_RX_FREE, oldest first [14 R417] -/
  free : List Nat := []
  /-- filled buffers not yet popped, oldest first [14 R417] -/
  filled : List Nat := []
  /-- the eight transmit queues, head first [14 R422] -/
  queues : List (List TxFrame) := List.replicate 8 []
  /-- frame in transmission, with its queue [14 R422] -/
  sending : Option (Nat × TxFrame) := none
  /-- completions (buffer, result) not yet popped, oldest first [14 R418] -/
  txc : List (Nat × Nat) := []
  /-- ETHn_TXQ_STAT.MISSED by queue [14 R423] -/
  missed : List Nat := List.replicate 8 0
  /-- ETHn_TXQ_STAT.REFUSED by queue [14 R418] -/
  refused : List Nat := List.replicate 8 0
  /-- ETHn_MDIO.DATA [14 MDIO] -/
  mdioData : Nat := 0
  /-- ETHn_MDIO.REG [14 MDIO] -/
  mdioReg : Nat := 0
  /-- ETHn_MDIO.PHY [14 MDIO] -/
  mdioPhy : Nat := 0
  /-- ETHn_MDIO.OP [14 MDIO] -/
  mdioOp : Nat := 0
  /-- ETHn_MDIO.BUSY [14 MDIO] -/
  mdioBusy : Bool := false
  deriving DecidableEq, Repr, Inhabited

/-! ### State of 15_redundancy.md -/

/-- The Ndodric link (page NDL). -/
structure NdlSt where
  /-- NDL_STAT.LINK [15 R433] -/
  link : Bool := false
  /-- NDL_STAT.LANE0 and LANE1, lanes in use [15 R433] -/
  lane0 : Bool := false
  /-- NDL_STAT.LANE1 [15 R433] -/
  lane1 : Bool := false
  /-- NDL_STAT.TRAINING [15 R433] -/
  training : Bool := false
  /-- NDL_STAT.ID_CLASH [15 R431] -/
  idClash : Bool := false
  /-- NDL_STAT.GRADE_MISMATCH [15 R431] -/
  gradeMismatch : Bool := false
  /-- NDL_STAT.PARTNER_ID [15 R433] -/
  partnerId : Nat := 0
  /-- NDL_STAT.PARTNER_GRADE [15 R433] -/
  partnerGrade : Nat := 0
  /-- NDL_STAT.TRAININGS [15 R433] -/
  trainings : Nat := 0
  /-- NDL_DELAY, ns [15 R437] -/
  delay : Nat := 0
  /-- NDL_OFS, ns [15 R437] -/
  ofs : Int := 0
  /-- NDL_ERR.CRC [15 R434] -/
  crc : Nat := 0
  /-- the frame before was good, so that the next CRC failure raises CRC_ERR [15 R460] -/
  lastGood : Bool := true
  /-- NDL_ERR.DOWNS [15 NDL] -/
  downs : Nat := 0
  /-- NDL_ERR.LANE_DOWNS [15 NDL] -/
  laneDowns : Nat := 0
  /-- NDL_LOAD.XTRK, % [15 R454] -/
  loadXtrk : Nat := 0
  /-- NDL_LOAD.MIRROR, % [15 R454] -/
  loadMirror : Nat := 0
  /-- tick of the last link down, from which training restarts after 1 ms [15 R433] -/
  downAt : Option Nat := none
  /-- tick of the last frame sent [15 R433] -/
  lastTx : Nat := 0
  /-- sequence number of the next frame sent [15 R432] -/
  seq : Nat := 0
  /-- active image identity of the partner's last HELLO or set [15 R433 R452] -/
  partnerImage : Nat × Nat := (0, 0)
  /-- pending image identity of the partner's last HELLO or set, none without one [15 R433 R452] -/
  partnerPending : Option (Nat × Nat) := none
  /-- the partner commands, by its last HELLO, cut part or RELINQUISH [15 R430 R433] -/
  partnerCommands : Bool := false
  /-- t1, t2, t3 of the exchange in hand, TB0 ns [15 R437] -/
  t1 : Nat := 0
  /-- t2 on the standby [15 R437] -/
  t2 : Nat := 0
  /-- t3 of the last reply [15 R437] -/
  t3 : Nat := 0
  /-- t4 stamped by the primary [15 R437] -/
  t4 : Nat := 0
  /-- an exchange has completed, so that the next TIME frame gives an offset [15 R437] -/
  exchanged : Bool := false
  deriving DecidableEq, Repr, Inhabited

/-- Pair states. -/
inductive PState where
  | single | seeking | primSyncing | primSynced | primAlone | stbySyncing | stbySynced | degraded
  deriving DecidableEq, Repr, Inhabited

/-- State of a global operation. -/
inductive GlbState where
  | idle | waiting | running | done | refused | timeout
  deriving DecidableEq, Repr, Inhabited

/-- A take in progress. -/
structure TakeSt where
  /-- this unit takes command by the take (else it gives it) [15 R456] -/
  gaining : Bool := false
  /-- TAKE_ACK received [15 R455] -/
  acked : Bool := false
  /-- the flag of R457: give-back without its own check [15 R457] -/
  giveBack : Bool := false
  /-- SEQ of the take's cut [15 R456] -/
  seq : Nat := 0
  /-- deadline of the take has passed at this unit [15 R456] -/
  handed : Bool := false
  deriving DecidableEq, Repr, Inhabited

/-- Page PAIR. -/
structure PairSt where
  /-- UNIT_ID ball read at reset [15 R427] -/
  unitId : Nat := 0
  /-- PAIR_STAT.STATE [15 R429] -/
  state : PState := .single
  /-- PAIR_STAT.CAUSE [15 R430] -/
  cause : Nat := 0
  /-- HB_OUT level [15 R438] -/
  hbOut : Bool := false
  /-- tick of the last permit renewal, none without a permit [15 R438] -/
  permit : Option Nat := none
  /-- TB3 time of the last HB_OUT toggle, ns [15 R438] -/
  hbOutAt : Nat := 0
  /-- HB_IN alive [15 R438] -/
  hbIn : Bool := false
  /-- tick of the last HB_IN edge [15 R438] -/
  hbInAt : Option Nat := none
  /-- edges in a row spaced 400–600 µs, saturating at 3 [15 R438] -/
  hbInRun : Nat := 0
  /-- ROLE_OUT asserted; ROLE_OUT_N is its inverse [15 R440] -/
  roleOut : Bool := false
  /-- outputs enabled [12 R336] -/
  outputs : Bool := false
  /-- commanding awaits its first handover, which enables the outputs [15 R446] -/
  awaitHandover : Bool := false
  /-- tick at which the unit entered SEEKING [15 R430] -/
  seekAt : Nat := 0
  /-- a reference or CMD frame from another sender was seen since SEEKING began [15 R430] -/
  seekHeard : Bool := false
  /-- tick from which all of R443 hold, none while one fails [15 R443] -/
  silentAt : Option Nat := none
  /-- latest accepted continuity set or the last taken [15 R450 R451] -/
  set : Option ContSet := none
  /-- fragments of the bulk part in reception [15 R451] -/
  bulkFrags : List Nat := []
  /-- a fragment of it failed its CRC [15 R451] -/
  bulkBad : Bool := false
  /-- set accepted in the present cycle [15 R451] -/
  bulkDone : Bool := false
  /-- consecutive accepted sets, saturating at 100 [15 R430] -/
  runOk : Nat := 0
  /-- consecutive missed cut parts [15 R430] -/
  cutRun : Nat := 0
  /-- SEQ that the primary's cycle has by the last cut part [15 R451] -/
  seqOwn : Nat := 0
  /-- a bulk part is expected in the present cycle [15 R451] -/
  bulkDue : Bool := false
  /-- consecutive missed bulk parts [15 R430] -/
  runMiss : Nat := 0
  /-- PAIR_CONT.ACCEPTED [15 R451] -/
  accepted : Nat := 0
  /-- PAIR_CONT.MISSED [15 R451] -/
  missed : Nat := 0
  /-- PAIR_CONT.CUT_MISS [15 R449] -/
  cutMiss : Nat := 0
  /-- PAIR_STAT.IMAGE_EQ [15 R452] -/
  imageEq : Bool := false
  /-- PAIR_STAT.HOST_TRUNC [15 R450] -/
  hostTrunc : Bool := false
  /-- last accepted cut part [15 R449] -/
  cutPart : Option CutPart := none
  /-- TB0 ns of the last accepted cut part [15 R446] -/
  cutPartAt : Nat := 0
  /-- the cut part of this cycle has been received [15 R449] -/
  cutPartGot : Bool := false
  /-- STOP or zero force is applied after a take-over on old commands [15 R446] -/
  stale : Bool := false
  /-- divergent sets in a row by object [15 R453] -/
  divRun : List Nat := List.replicate 8 0
  /-- the partner is STANDBY_SYNCED, by its last HELLO or TIME_REPLY [15 R430] -/
  partnerSynced : Bool := false
  /-- the partner is TAKE_READY, by its last HELLO or TIME_REPLY [15 R455] -/
  partnerReady : Bool := false
  /-- PAIR_NEXT_TAKE, TB3 ns [15 R455] -/
  nextTake : Nat := 0
  /-- TAKE_NOW written since the last second boundary [15 R455] -/
  takeNow : Bool := false
  /-- PAIR_TAKE_STAT.DUE [15 R455] -/
  due : Bool := false
  /-- PAIR_TAKE_STAT.DEFER [15 R455] -/
  defer : Nat := 0
  /-- PAIR_TAKE_STAT.COUNT [15 R456] -/
  takes : Nat := 0
  /-- TAKE_FAIL latched [15 R457] -/
  takeFail : Bool := false
  /-- take in progress [15 R456] -/
  take : Option TakeSt := none
  /-- loop states of TAKE_LOOPS received [15 R456] -/
  takeLoops : List LoopCh := []
  /-- TAKE_CHECK cycles left, 0 with no check running [15 R457] -/
  checkLeft : Nat := 0
  /-- a check of R457 has failed [15 R457] -/
  checkBad : Bool := false
  /-- tick at which the relay hold ends, none without one [15 R456] -/
  relayEnd : Option Nat := none
  /-- PAIR_GLB_STAT.STATE [15 R459] -/
  glb : GlbState := .idle
  /-- PAIR_GLB_STAT.TIME, µs [15 R459] -/
  glbTime : Nat := 0
  /-- tick of PAIR_GLB_CTL.GO [15 R459] -/
  glbAt : Nat := 0
  /-- TB0 ns at which the broadcast frames were requested [15 R459] -/
  glbStart : Nat := 0
  /-- PAIR_STILL_STAT.DONE [15 R458] -/
  stillDone : Bool := false
  /-- PAIR_STILL_STAT.REFUSED [15 R458] -/
  stillRefused : Bool := false
  /-- PAIR_STILL_STAT.COST, ns [15 R458] -/
  stillCost : Nat := 0
  /-- PAIR_STILL_T, TB0 ns [15 R458] -/
  stillT : Nat := 0
  /-- tick of the STILL request in hand, none without one; with true when this unit asked [15 R458] -/
  stillReq : Option (Nat × Bool) := none
  /-- own Still capture, at 0x0503_0000 [15 R458] -/
  stillOwn : Option StillSet := none
  /-- partner's Still capture, at 0x0503_0800 [15 R458] -/
  stillPartner : Option StillSet := none
  deriving DecidableEq, Repr, Inhabited

/-- Reset values of the words 0x100 to 0x13C of page SAF, in address order [16, SAF registers]. -/
def safCfgReset : List Nat :=
  [0xA04, 0xA04, 0xA04, 0xA04, 0xA04, 0xA04, 0xA04, 0xA04, 6, 6, 6, 6, 0xA0005, 0, 0, 0]

/-! ### State of 16_safety.md -/

/-- States of the safety island, codes of R482. -/
inductive SafMode where
  | init | run | config | cfgBad | halt
  deriving DecidableEq, Repr, Inhabited

/-- One safety input. -/
structure SafIn where
  /-- line A level as SAF-A's filter shows it [16 R466] -/
  aByA : Bool := false
  /-- line B level by SAF-A [16 R466] -/
  bByA : Bool := false
  /-- line A level by SAF-B [16 R466] -/
  aByB : Bool := false
  /-- line B level by SAF-B [16 R466] -/
  bByB : Bool := false
  /-- DISCREPANCY latched [16 R469] -/
  disc : Bool := false
  /-- discrepancy timer of SAF-A: tick of its start [16 R469] -/
  runA : Option Nat := none
  /-- discrepancy timer of SAF-B: tick of its start [16 R469] -/
  runB : Option Nat := none
  /-- STARTUP_PEND [16 R472] -/
  pend : Bool := true
  /-- in its start-up test the input has been seen open on both lines [16 R472] -/
  seenOpen : Bool := false
  /-- the test of R473 passed since the DISCREPANCY latch [16 R473] -/
  passed : Bool := false
  deriving DecidableEq, Repr, Inhabited

/-- One safety output. -/
structure SafOut where
  /-- SOUTn_A commanded high [16 R479] -/
  onA : Bool := false
  /-- SOUTn_B commanded high [16 R479] -/
  onB : Bool := false
  /-- SOUTFBn_A level [16 R478] -/
  fbA : Bool := false
  /-- SOUTFBn_B level [16 R478] -/
  fbB : Bool := false
  /-- OUT_FAULT latched [16 R478] -/
  fault : Bool := false
  /-- an accepted release has come since the conditions last failed [16 R479] -/
  armed : Bool := false
  /-- tick of channel A's last test pulse [16 R478] -/
  pulseA : Nat := 0
  /-- tick of channel B's last test pulse [16 R478] -/
  pulseB : Nat := 0
  deriving DecidableEq, Repr, Inhabited

/-- The safety island (page SAF). -/
structure SafSt where
  /-- state of SAF-A [16 R482] -/
  stA : SafMode := .init
  /-- state of SAF-B [16 R482] -/
  stB : SafMode := .init
  /-- SAF_KEY_N asserted after filtering [16 R483] -/
  key : Bool := false
  /-- IMAGE_DIFF [16 R486] -/
  imageDiff : Bool := false
  /-- RESET_STUCK [16 R476] -/
  stuck : Bool := false
  /-- SRST_CLOSED [16 R477] -/
  srstClosed : Bool := false
  /-- SRST filtered level, asserted [16 R474] -/
  srst : Bool := false
  /-- tick of the filtered assertion of SRST in hand [16 R474] -/
  srstAt : Option Nat := none
  /-- FAULT_CAUSE [16 SAF_STAT] -/
  cause : Nat := 0
  /-- inputs SIN0–SIN7 [16 R463] -/
  ins : List SafIn := List.replicate 8 {}
  /-- outputs SOUT0–SOUT3 [16 R463] -/
  outs : List SafOut := List.replicate 4 {}
  /-- DEMANDS [16 SAF_CNT] -/
  demands : Nat := 0
  /-- RESETS [16 SAF_CNT] -/
  resets : Nat := 0
  /-- UNLOCK_FAIL [16 SAF_CNT] -/
  unlockFail : Nat := 0
  /-- tick of an accepted first unlock write [16 R483] -/
  unlockAt : Option Nat := none
  /-- SAF_CFG_CRC_A [16 R484] -/
  crcA : Nat := 0
  /-- SAF_CFG_CRC_B [16 R484] -/
  crcB : Nat := 0
  /-- configuration copy of SAF-A, words 0x100–0x13C [16 R484] -/
  cfgA : List Nat := safCfgReset
  /-- configuration copy of SAF-B [16 R484] -/
  cfgB : List Nat := safCfgReset
  /-- consecutive loops with a disagreement beyond the allowance [16 R481] -/
  disagree : Nat := 0
  /-- consecutive missed exchanges [16 R481] -/
  missedEx : Nat := 0
  /-- SAF-A supply good [16 R481] -/
  goodA : Bool := true
  /-- SAF-B supply good [16 R481] -/
  goodB : Bool := true
  deriving DecidableEq, Repr, Inhabited

/-! ### State of 17_recorder_lifetime.md -/

/-- A recorder record (its CRC is a function of the other fields). -/
structure EvRec where
  /-- SEQ [17 R490] -/
  seq : Nat := 0
  /-- TIME, TB0 ns [17 R491] -/
  time : Nat := 0
  /-- AGE, µs modulo 2⁴⁸ [17 R491] -/
  age : Nat := 0
  /-- event code [17 R489] -/
  code : Nat := 0
  /-- CONT [17 R495] -/
  cont : Bool := false
  /-- TIME_INVALID [17 R491] -/
  invalid : Bool := false
  /-- PRE_STEP [17 R499] -/
  preStep : Bool := false
  /-- P0 [17 R489] -/
  p0 : Nat := 0
  /-- P1 [17 R489] -/
  p1 : Nat := 0
  /-- P2 [17 R489] -/
  p2 : Nat := 0
  /-- P3 [17 R489] -/
  p3 : Nat := 0
  /-- REPEAT [17 R498] -/
  rpt : Nat := 0
  /-- the record has the PERMANENT attribute [17 R496] -/
  perm : Bool := false
  deriving DecidableEq, Repr, Inhabited

/-- Page EVT. -/
structure EvtSt where
  /-- the Reel: filled slots (slot, record), slots rising [17 R496] -/
  reel : List (Nat × EvRec) := []
  /-- the Cornerstone, slot 0 first [17 R496] -/
  corner : List EvRec := []
  /-- slots whose record fails its CRC: (area, slot) [17 R503] -/
  torn : List (Nat × Nat) := []
  /-- queued records, oldest first [17 R500] -/
  queue : List EvRec := []
  /-- tick at which the oldest queued record entered [17 R500] -/
  queueAt : Option Nat := none
  /-- SEQ of the next record [17 R490] -/
  nextSeq : Nat := 0
  /-- EVT_HEAD_SEQ [17 R504] -/
  headSeq : Nat := 0
  /-- EVT_HEAD_SLOT [17 R504] -/
  headSlot : Nat := 0
  /-- a committed record exists [17 R490] -/
  hasHead : Bool := false
  /-- repeats merged into the newest committed record and not yet written to its word at 0x18 [17 R500] -/
  rptPend : Nat := 0
  /-- EVT_QUEUE.MAX [17 EVT] -/
  maxDepth : Nat := 0
  /-- EVT_LOST [17 R501] -/
  lost : Nat := 0
  /-- records dropped since the last RECORDS_LOST record [17 R501] -/
  lostNow : Nat := 0
  /-- EVT_BAD [17 R503] -/
  bad : Nat := 0
  /-- last value of EVT_ACK [17 R504] -/
  ack : Nat := 0
  /-- the last evaluation of D found it below WM [17 R504] -/
  below : Bool := true
  /-- tick of the last CLOCK_STEP record and its TIME S, for events of the same tick [17 R499] -/
  stepAt : Option (Nat × Nat) := none
  /-- recording has stopped at the supply-fail warning [17 R514] -/
  stopped : Bool := false
  deriving DecidableEq, Repr, Inhabited

/-- Counters of a thruster in the lifetime store, with their fractions. -/
structure ThrLife where
  /-- RUN, s [17 R505] -/
  run : Nat := 0
  /-- fraction of RUN, ns [17 R505] -/
  runFrac : Nat := 0
  /-- STARTS [17 R505] -/
  starts : Nat := 0
  /-- AZ, 1/16 revolution [17 R505] -/
  az : Nat := 0
  /-- fraction of AZ, rad [17 R505] -/
  azFrac : F64 := ⟨0⟩
  /-- ENERGY, kWh [17 R505] -/
  energy : Nat := 0
  /-- fraction of ENERGY, W·s [17 R505] -/
  energyFrac : F64 := ⟨0⟩
  deriving DecidableEq, Repr, Inhabited

/-- An entry of the leap table. -/
structure LeapEntry where
  /-- TAI time from which it applies, ns [17 R509] -/
  time : Nat := 0
  /-- TAI − UTC, s [17 R509] -/
  ofs : Int := 0
  /-- LEARNED_LATE [17 R509] -/
  late : Bool := false
  deriving DecidableEq, Repr, Inhabited

/-- What the lifetime store holds and commits. -/
structure LifeData where
  /-- thruster counters [17 R505] -/
  thr : List ThrLife := List.replicate 16 {}
  /-- DEV_ON, s [17 R505] -/
  devOn : Nat := 0
  /-- POWERUPS [17 R505] -/
  powerups : Nat := 0
  /-- RESETS [17 R505] -/
  resets : Nat := 0
  /-- HOLDS [17 R505] -/
  holds : Nat := 0
  /-- TAKES [17 R505] -/
  takes : Nat := 0
  /-- committed TB3 value, ns [17 R506] -/
  tb3 : Nat := 0
  /-- leap table, oldest entry first [17 R509] -/
  leaps : List LeapEntry := []
  /-- wear map: segment writes by 64 KiB page [17 R515] -/
  wear : List Nat := List.replicate 128 0
  deriving DecidableEq, Repr, Inhabited

/-- A copy of the lifetime store. -/
structure LifeCopy where
  /-- generation [17 R506] -/
  gen : Nat := 0
  /-- its CRC is good [17 R506] -/
  good : Bool := false
  /-- its content [17 R506] -/
  data : LifeData := {}
  deriving DecidableEq, Repr, Inhabited

/-- Page LIF. -/
structure LifSt where
  /-- the running counters, leap table and wear map [17 R505] -/
  live : LifeData := {}
  /-- copies A, B and C in MRAM [17 R506] -/
  copies : List LifeCopy := List.replicate 3 {}
  /-- LIF_GEN [17 LIF] -/
  gen : Nat := 0
  /-- LIF_STAT.COPY [17 LIF] -/
  copy : Nat := 0
  /-- LIF_STAT.VALID [17 LIF] -/
  valid : Nat := 0
  /-- a commit is due [17 R506] -/
  due : Bool := false
  /-- LIF_STAT.DEFERRED [17 LIF] -/
  deferred : Bool := false
  /-- TB3 time of the last commit, ns [17 R506] -/
  lastAt : Nat := 0
  /-- preset waiting for the next commit: thruster, counter, value [17 R508] -/
  preset : Option (Nat × Nat × Nat) := none
  /-- staged leap entry of LIF_LEAP_T and LIF_LEAP_OFS [17 R509] -/
  stage : LeapEntry := {}
  /-- pages whose WEAR_WARN has been given [17 R515] -/
  warned : List Nat := []
  /-- TB3 second up to which DEV_ON has counted [17 R505] -/
  devSec : Nat := 0
  /-- thrusters that were ready at the last cut [17 R505] -/
  readyWas : List Bool := List.replicate 16 false
  /-- measured azimuths at the last cut, none before the first [17 R505] -/
  azWas : List (Option F64) := List.replicate 16 none
  deriving DecidableEq, Repr, Inhabited

/-- Page HLD. -/
structure HldSt where
  /-- HOLD_LOW [17 R512] -/
  low : Bool := true
  /-- MEAS_FAIL [17 R511] -/
  measFail : Bool := false
  /-- MEASURING [17 R511] -/
  measuring : Bool := false
  /-- tick of the step start of the measurement [17 R511] -/
  measAt : Nat := 0
  /-- tick until 1 ms after the last measurement step, within which no segment starts [17 R512] -/
  quietTo : Nat := 0
  /-- a measurement waits for the running segment's end [17 R511] -/
  measDue : Bool := false
  /-- SEGMENT [17 R512] -/
  segment : Bool := false
  /-- FAIL_RUN [17 R511] -/
  failRun : Nat := 0
  /-- V [17 R512] -/
  v : F32 := ⟨0⟩
  /-- C [17 R511] -/
  c : F32 := ⟨0⟩
  /-- E [17 R512] -/
  e : F32 := ⟨0⟩
  /-- DV_PRE [17 R511] -/
  dvPre : F32 := ⟨0⟩
  /-- DV_STEP [17 R511] -/
  dvStep : F32 := ⟨0⟩
  /-- HLD_DEFER [17 HLD] -/
  deferred : Nat := 0
  /-- the recorder's waiting segment has been counted as deferred [17 HLD] -/
  evtWait : Bool := false
  /-- MRAM power-good has held since this tick, none while it is lost [18 R522] -/
  mramGood : Option Nat := some 0
  deriving DecidableEq, Repr, Inhabited

/-! ### State of 18_power_clocks_test.md -/

/-- A microcode slot of MRAM. -/
structure UcSlot where
  /-- bytes of the image [18 R530] -/
  bytes : List Byte := []
  deriving DecidableEq, Repr, Inhabited

/-- Phase of a microcode update. -/
inductive UcPhase where
  | idle | checking | writing | done | refused
  deriving DecidableEq, Repr, Inhabited

/-- Page SYS, with what AON keeps of resets. -/
structure SysSt where
  /-- 0 TW816, 1 TW812 [18 SYS_GRADE] -/
  grade : Nat := 0
  /-- SYS_RST_CAUSE.CAUSE, kept in AON [18 R525] -/
  cause : Nat := 0
  /-- SYS_BOOT.STAT [18 R531] -/
  bootStat : Nat := 0
  /-- SYS_BOOT.FALLBACK [18 R531] -/
  fallback : Bool := false
  /-- SYS_UC_VER [18 SYS] -/
  ucVer : Nat := 0
  /-- SYS_UC_FLOOR [18 R531] -/
  ucFloor : Nat := 0
  /-- microcode slots 0 and 1 [18 R529] -/
  ucSlots : List UcSlot := [{}, {}]
  /-- active microcode slot [18 R531] -/
  ucActive : Nat := 0
  /-- SYS_UC_STAT.PHASE [18 R532] -/
  ucPhase : UcPhase := .idle
  /-- SYS_UC_STAT.REFUSE [18 R532] -/
  ucRefuse : Nat := 0
  /-- SYS_TEMP, °C [18 R536] -/
  temp : F32 := ⟨0⟩
  /-- the last reading was at or above SYS_TEMP_WARN and has not fallen 5 °C below it [18 R536] -/
  hot : Bool := false
  /-- a thermal trip holds the device in RESET until all sensors read below 105 °C [18 R528] -/
  tripped : Bool := false
  /-- the always-on domain was powered up since the last POWER_ON record [17 R496] -/
  aonLost : Bool := true
  /-- the last run ended with a final segment [17 R514] -/
  finalSeg : Bool := false
  /-- a supply-fail sequence is running: tick of its start [18 R524] -/
  pfailAt : Option Nat := none
  /-- filtered PFAIL_N asserted, PWR_PFAIL [18 R524] -/
  pfail : Bool := false
  deriving DecidableEq, Repr, Inhabited

/-- Page PWR. -/
structure PwrSt where
  /-- PWR_DOM_STAT.ON by domain code [18 R519] -/
  on : Nat := 0
  /-- PWR_PGOOD by domain code [18 R522] -/
  pgood : Nat := 0
  /-- PWR_FAULT latched [18 R522] -/
  fault : Nat := 0
  /-- tick of the last power-good assertion by domain [18 R521] -/
  goodAt : List Nat := List.replicate 16 0
  /-- PWR_RAIL_V by rail, V [18 PWR_RAIL_V] -/
  railV : List F32 := List.replicate 17 ⟨0⟩
  /-- PWR_RAIL_STAT.WARN [18 R522] -/
  railWarn : Nat := 0
  deriving DecidableEq, Repr, Inhabited

/-- Page CLK. -/
structure ClkSt where
  /-- REFSEL ball at reset: 25 MHz [18 R533] -/
  ref25 : Bool := false
  /-- REFCLK present [18 R535] -/
  refOk : Bool := false
  /-- SERREF present [18 R535] -/
  serOk : Bool := false
  /-- PCIe REFCLK present [18 R535] -/
  pcieOk : Bool := false
  /-- CLK_STAT.LOCK in its order [18 R534] -/
  lock : Nat := 0
  /-- fabric on BCLK [18 R534] -/
  bclk : Bool := false
  /-- MPLL_HOLD [18 R535] -/
  mpllHold : Bool := false
  /-- CLK_PLL_CNT.LOSSES by PLL [18 CLK] -/
  losses : List Nat := List.replicate 8 0
  /-- CLK_PLL_CNT.LAST_US by PLL [18 CLK] -/
  lastUs : List Nat := List.replicate 8 0
  /-- tick of the present loss by PLL [18 R534] -/
  lostAt : List (Option Nat) := List.replicate 8 none
  /-- tick of the last re-lock by PLL, 0 before one [18 R534] -/
  relockAt : List Nat := List.replicate 8 0
  deriving DecidableEq, Repr, Inhabited

/-- Grout's counts of a class. -/
structure GrtClass where
  /-- items tested in the pass in hand [18 R539] -/
  tested : List Nat := []
  /-- LAST_PASS [18 GRT_CLASS] -/
  lastPass : Nat := 0
  /-- FAULTS [18 R540] -/
  faults : Nat := 0
  deriving DecidableEq, Repr, Inhabited

/-- A step of Grout in progress. -/
structure GrtStep where
  /-- class [18 R537] -/
  cls : Nat := 0
  /-- item [18 R537] -/
  item : Nat := 0
  /-- step number in the item [18 R537] -/
  step : Nat := 0
  /-- it is the repeat of a failed step [18 R540] -/
  again : Bool := false
  deriving DecidableEq, Repr, Inhabited

/-- Page GRT. -/
structure GrtSt where
  /-- steps running (a CONV step runs beside others) [18 R538] -/
  running : List GrtStep := []
  /-- items begun and not finished: (class, item, steps done) [18 R538] -/
  begun : List (Nat × Nat × Nat) := []
  /-- GRT_STAT.LATE [18 R539] -/
  late : Bool := false
  /-- GRT_STAT.PASSES [18 GRT] -/
  passes : Nat := 0
  /-- TB3 time of the pass start, ns [18 R539] -/
  passAt : Nat := 0
  /-- items carried to the head of this pass: (class, item) [18 R539] -/
  carried : List (Nat × Nat) := []
  /-- the SAF comparisons of the pass all agreed [18 R539] -/
  safOk : Bool := true
  /-- per-class counts [18 GRT_CLASS] -/
  classes : List GrtClass := List.replicate 6 {}
  /-- GRT_LAST_FAULT: class, item, code [18 R540] -/
  lastFault : Nat × Nat × Nat := (0, 0, 0)
  /-- GRT_PASS_LEN, s [18 GRT] -/
  passLen : Nat := 0
  /-- tiles that owe a full test ahead of the schedule [18 R539] -/
  owed : List Nat := []
  deriving DecidableEq, Repr, Inhabited

/-! ### State of 19_host_registers.md -/

/-- Page HST. -/
structure HstSt where
  /-- PCIE_UP [19 HST_STAT] -/
  up : Bool := false
  /-- WIDTH [19 HST_STAT] -/
  width : Nat := 0
  /-- SPEED [19 HST_STAT] -/
  speed : Nat := 0
  /-- Bus Master Enable [19 HST_STAT] -/
  bme : Bool := false
  /-- MSI-X enabled [19 HST_STAT] -/
  msix : Bool := false
  /-- MSI-X Function Mask [19 R548 R566] -/
  fnMask : Bool := false
  /-- tick of the last quad-SPI transfer, none before one [19 HST_STAT] -/
  spiAt : Option Nat := none
  /-- PARTIAL [19 R549] -/
  errPartial : Nat := 0
  /-- UNMAPPED [19 R546] -/
  unmapped : Nat := 0
  /-- SPI_CRC [19 R552] -/
  spiCrc : Nat := 0
  /-- SPI_ABORT [19 R552] -/
  spiAbort : Nat := 0
  /-- HST_LAST_ERR: address, port, kind [19 R546] -/
  lastErr : Nat × Nat × Nat := (0, 0, 0)
  /-- tick of the last access or entry into RUN [19 R567] -/
  lastAt : Nat := 0
  /-- HOST_TIMEOUT has been raised since the last access [19 R567] -/
  timedOut : Bool := false
  /-- SPI settings taken at the last CS_N assertion: DUMMY, CRC_EN [19 HST_SPI_CFG] -/
  spiCfg : Nat × Bool := (0x20, false)
  /-- MSI-X table: address low, address high, data, vector control, by vector [19 R548] -/
  table : List (Nat × Nat × Nat × Nat) := List.replicate 32 (0, 0, 0, 1)
  /-- pending-bit array [19 R566] -/
  pba : Nat := 0
  /-- latched words: (port, key of the latch, value) [19 R553 R10] -/
  latches : List (Nat × Nat × Nat) := []
  /-- staged low words of writable pairs: (port, key, value) [00 R10] -/
  staged : List (Nat × Nat × Nat) := []
  deriving DecidableEq, Repr, Inhabited

/-- Page IRQ: the interrupt sources of every page. -/
structure IrqSt where
  /-- IRQ_RAW by page [19 R563] -/
  raw : List Nat := List.replicate 64 0
  /-- vectors pending at the last evaluation, so that a message goes out on the change [19 R566] -/
  pend : Nat := 0
  deriving DecidableEq, Repr, Inhabited

/-! ### The whole device -/

/-- What leaves the device in a command, at a port, a bus, a link or a pin. It is the model's own record of the last command (log 12). -/
inductive Output where
  /-- a read answered at a port: address and data [19 R550] -/
  | read (port : Port) (addr data : Nat)
  /-- the CRC that follows a word read over quad-SPI [19 R551] -/
  | spiCrc (crc : Nat)
  /-- an MSI-X message of a vector: address and data [19 R566] -/
  | msix (vec addr data : Nat)
  /-- a frame sent on a CAN channel, with its transmit buffer [13 R378] -/
  | can (ch buf : Nat) (e : CanElem)
  /-- a frame sent on a MAC, bytes from the destination address [14 R418] -/
  | eth (n : Nat) (bytes : List Byte)
  /-- an MDIO access started: MAC, operation, PHY, register, data [14 MDIO] -/
  | mdio (n op phy reg data : Nat)
  /-- a frame of the Ndodric link: type by the order of R434 and its words [15 R434] -/
  | ndl (type : Nat) (words : List Nat)
  /-- a pin edge: pin name by number of the model's list and its level -/
  | pin (pin : Nat) (level : Bool)
  /-- outputs of a loop channel latched: channel and u [12 R339] -/
  | latch (ch : Nat) (u : F32)
  deriving DecidableEq, Repr

/-- The header of one page and its commit state [19 R554]. -/
structure PageHdr where
  /-- CTL.EN [19 R555] -/
  en : Bool := true
  /-- CTL.FREEZE [19 R561] -/
  freeze : Bool := false
  /-- STAT.COMMIT_PEND [19 R558] -/
  pend : Bool := false
  /-- commit buffer, by field key [19 R558] -/
  buf : List (Nat × Nat) := []
  /-- STAT.CFG_REJECTED [19 R557] -/
  rejected : Bool := false
  /-- CFG_GEN [19 R558] -/
  gen : Nat := 0
  /-- CFG_ERR.OFFSET [19 R557] -/
  errOff : Nat := 0
  /-- CFG_ERR.REASON [19 R557] -/
  errReason : Nat := 0
  /-- CFG_ERR.COUNT [19 R557] -/
  errCount : Nat := 0
  /-- tick at which the lock opened, none while it is closed [19 R562] -/
  lockAt : Option Nat := none
  /-- IRQ_EN [19 R563] -/
  irqEn : Nat := 0
  deriving DecidableEq, Repr, Inhabited

/-- The writable registers: active values and shadow copies that differ from their reset or active value, by field key (log 14), and the page headers. -/
structure Regs where
  /-- active values other than reset values, keys rising [19 R556] -/
  act : List (Nat × Nat) := []
  /-- shadow copies other than active values, keys rising [19 R556] -/
  shd : List (Nat × Nat) := []
  /-- headers of pages 0x00 to 0x3F [19 R554] -/
  hdr : List PageHdr := List.replicate 64 {}
  deriving DecidableEq, Repr, Inhabited

/-- Every block of the device, and what the model adds: the tick count, the outputs of the last command and the count of free values. -/
structure Dev where
  /-- 250 MHz timer ticks since the start of the model [14 R404] -/
  now : Nat := 0
  /-- free values taken so far (log 5) -/
  free : Nat := 0
  /-- what left the device in the last command (log 12) -/
  out : List Output := []
  /-- page SYS [18] -/
  sys : SysSt := {}
  /-- page PWR [18] -/
  pwr : PwrSt := {}
  /-- page CLK [18] -/
  clk : ClkSt := {}
  /-- page IRQ [19] -/
  irq : IrqSt := {}
  /-- page HST [19] -/
  hst : HstSt := {}
  /-- page MDE [03] -/
  mde : MdeSt := {}
  /-- page CFG [02] -/
  cfg : CfgSt := {}
  /-- page MSN [10] -/
  msn : MsnSt := {}
  /-- page SLV [09] -/
  slv : SlvSt := {}
  /-- page FUS [07] -/
  fus : FusSt := {}
  /-- page CTL [08] -/
  ctl : CtlSt := {}
  /-- page ALC [08] -/
  alc : AlcSt := {}
  /-- page GNS0 [04] -/
  gns0 : Gns0St := {}
  /-- page GNS1 [05] -/
  gns1 : Gns1St := {}
  /-- page GNS2 [05] -/
  gns2 : Gns2St := {}
  /-- page SRC [06] -/
  src : SrcSt := {}
  /-- pages FLT0 and FLT1 [06] -/
  flt : FltSt := {}
  /-- page SIO [06] -/
  sio : SioSt := {}
  /-- page LOP [11] -/
  lop : LopSt := {}
  /-- page AOU [12] -/
  aou : AouSt := {}
  /-- page PFG [12] -/
  pfg : PfgSt := {}
  /-- page ENC [12] -/
  enc : EncSt := {}
  /-- page DIO [12] -/
  dio : DioSt := {}
  /-- pages CAN0 to CAN7 [13] -/
  can : CanSt := {}
  /-- page E2E [13] -/
  e2e : E2eSt := {}
  /-- page TIM [14] -/
  tim : TimSt := {}
  /-- pages ETH0 to ETH3 [14] -/
  eth : List EthSt := List.replicate 4 {}
  /-- page NDL [15] -/
  ndl : NdlSt := {}
  /-- page PAIR [15] -/
  pair : PairSt := {}
  /-- page SAF [16] -/
  saf : SafSt := {}
  /-- page EVT [17] -/
  evt : EvtSt := {}
  /-- page LIF [17] -/
  lif : LifSt := {}
  /-- page HLD [17] -/
  hld : HldSt := {}
  /-- page GRT [18] -/
  grt : GrtSt := {}
  deriving DecidableEq, Repr, Inhabited

/-- The state of the model: the device, its registers, the bytes of its memory windows, and the queue of waiting commands. -/
structure State where
  /-- the blocks -/
  dev : Dev := {}
  /-- the registers -/
  regs : Regs := {}
  /-- the writable memory windows: bytes other than 0, addresses rising (log 4) -/
  mem : List Host.Cell := []
  /-- commands that wait, first in first out (log 1) -/
  pending : List Instr := []
  /-- what FREEZE captured, by page: the registers and the blocks as they stood [19 R561] -/
  frozen : List (Nat × Regs × Dev) := []
  deriving DecidableEq, Repr, Inhabited

/-- Reasons for which the machine would stop with a fault. -/
inductive Fault where
  /-- No command raises it: the spec gives the device no behaviour that ends its run, and what goes wrong is an effect on the state. Safe. -/
  | unreached
  deriving DecidableEq, Repr

/-- Reasons for which a command has no meaning. -/
inductive Refusal where
  /-- Raised by `exec` for a command whose meaning has not been written; the string is its mnemonic. Safe: the model stops where the device goes on. -/
  | notModelled (mnemonic : String)
  deriving DecidableEq, Repr

/-- The pages that have an S-class field, whose EN resets to 0 [19 R555]. -/
def staticPages : List Nat := [0xc, 0x12, 0x13, 0x14, 0x15, 0x16, 0x17, 0x18, 0x19, 0x1a, 0x1b, 0x1c, 0x1d, 0x1e, 0x1f, 0x22, 0x23, 0x24, 0x25, 0x26, 0x28]

/-- Page headers at reset: EN is 1 on a page without an S-class field [19 R555]; reserved pages hold zeros. -/
def hdrReset : List PageHdr :=
  (List.range 64).map fun p => { en := !(staticPages.contains p) && decide (p ≤ 0x2C) }

/-- The machine right after reset: device state RESET, every register at its reset value, the always-on domain just powered (log 3). -/
def State.reset : State := { regs := { hdr := hdrReset } }

end Sys2Proof.Machine
end

