-- ==== Sys2Proof/Machine/Ops.lean ====
section
/-! DEFINITION. The shared operations of the machine: lists, registers, memory bytes, time bases, interrupts, recorder entries, CRCs. -/

namespace Sys2Proof.Machine

/-! ### Lists and numbers -/

/-- `l` with `f` applied to element `i`; `l` where there is none. -/
def modAt {α : Type} : List α → Nat → (α → α) → List α
  | [], _, _ => []
  | a :: l, 0, f => f a :: l
  | a :: l, i + 1, f => a :: modAt l i f

/-- Element `i`, or `d`. -/
def nth {α : Type} (l : List α) (i : Nat) (d : α) : α := l.getD i d

/-- Element `i` of a list of a type with a default element. -/
def at' {α : Type} [Inhabited α] (l : List α) (i : Nat) : α := l.getD i default

/-- `f` at each index and element. -/
def mapI {α β : Type} (f : Nat → α → β) (l : List α) : List β := l.zipIdx.map fun (a, i) => f i a

/-- Fold of `f` over the numbers below `n`, rising. -/
def foldN {α : Type} (n : Nat) (f : Nat → α → α) (a : α) : α := (List.range n).foldl (fun a i => f i a) a

/-- A Bool as a bit. -/
def b2n (b : Bool) : Nat := if b then 1 else 0

/-- Bits `hi` to `lo` of `v`. -/
def bits (v hi lo : Nat) : Nat := v / 2 ^ lo % 2 ^ (hi + 1 - lo)

/-- Bit `i` of `v`. -/
def bit (v i : Nat) : Bool := v.testBit i

/-- `v` with bit `i` set or cleared. -/
def setBit (v i : Nat) (b : Bool) : Nat :=
  if v.testBit i = b then v else if b then v + 2 ^ i else v - 2 ^ i

/-- Number of set bits below bit `n`. -/
def popcount (n v : Nat) : Nat := (List.range n).countP fun i => v.testBit i

/-- The bit map of a list of Bools, element 0 in bit 0. -/
def bitMap (l : List Bool) : Nat := l.foldr (fun b n => 2 * n + b2n b) 0

/-- `v` as an unsigned number of `n` bits (two's complement for a negative one). -/
def wrapU (n : Nat) (v : Int) : Nat := (v % (2 ^ n : Int)).toNat

/-- The signed number of `n` bits that `v` spells. -/
def wrapS (n : Nat) (v : Int) : Int :=
  let u : Int := v % 2 ^ n
  if u < 2 ^ (n - 1) then u else u - 2 ^ n

/-- A wrapping counter of `n` bits, one up. -/
def wrapInc (n c : Nat) : Nat := (c + 1) % 2 ^ n

/-- A saturating counter of `n` bits, one up. -/
def satInc (n c : Nat) : Nat := if c + 1 < 2 ^ n then c + 1 else 2 ^ n - 1

/-- Little-endian bytes of `v`, `n` of them [00 R6]. -/
def leBytes (n v : Nat) : List Byte := (List.range n).map fun i => BitVec.ofNat 8 (v / 256 ^ i)

/-- The number that little-endian bytes spell [00 R6]. -/
def leNat (l : List Byte) : Nat := l.foldr (fun b n => 256 * n + b.toNat) 0

/-- The number that big-endian bytes spell. -/
def beNat (l : List Byte) : Nat := l.foldl (fun n b => 256 * n + b.toNat) 0

/-- Big-endian bytes of `v`. -/
def beBytes (n v : Nat) : List Byte := (leBytes n v).reverse

/-- `n` bytes of `l` from offset `o`, missing bytes 0. -/
def slice (l : List Byte) (o n : Nat) : List Byte :=
  let t := (l.drop o).take n
  t ++ List.replicate (n - t.length) 0

/-- Little-endian field of `n` bytes at offset `o`. -/
def leAt (l : List Byte) (o n : Nat) : Nat := leNat (slice l o n)

/-- `l` with the bytes `b` written from offset `o`. -/
def putBytes (l : List Byte) (o : Nat) (b : List Byte) : List Byte :=
  slice l 0 o ++ b ++ l.drop (o + b.length)

/-! ### Sparse lists in canonical form -/

/-- The value at `k`, or `d`. -/
def sget {α : Type} (l : List (Nat × α)) (k : Nat) (d : α) : α :=
  match l with
  | [] => d
  | (a, v) :: t => if a = k then v else sget t k d

/-- `l` with the entry at `k` taken out. -/
def sdel {α : Type} (l : List (Nat × α)) (k : Nat) : List (Nat × α) :=
  l.filter fun e => !(e.1 == k)

/-- `l`, keys rising, with an entry for `k` put in its place. (log 14) -/
def sins {α : Type} (l : List (Nat × α)) (k : Nat) (v : α) : List (Nat × α) :=
  match l with
  | [] => [(k, v)]
  | (a, w) :: t => if k < a then (k, v) :: (a, w) :: t else if k = a then (k, v) :: t else (a, w) :: sins t k v

/-- `l` with `v` at `k`, where an entry equal to `d` is not listed. (log 14) -/
def sput {α : Type} [DecidableEq α] (l : List (Nat × α)) (k : Nat) (v d : α) : List (Nat × α) :=
  if v = d then sdel l k else sins l k v

/-- Keys strictly rising. -/
def rising : List Nat → Bool
  | a :: b :: t => decide (a < b) && rising (b :: t)
  | _ => true

/-- Canonical form of a memory: addresses rising and no byte equal to 0, which an unlisted address reads as. (log 4) -/
def Memory.wf (m : List Host.Cell) : Bool := rising (m.map Prod.fst) && m.all fun c => !(c.2 == 0)

/-- The byte at an address. (log 4) -/
def Memory.read (m : List Host.Cell) (a : Nat) : Byte := sget m a 0

/-- A byte written. (log 4) -/
def Memory.write (m : List Host.Cell) (a : Nat) (b : Byte) : List Host.Cell := sput m a b 0

/-- `n` bytes from address `a`. -/
def Memory.readBytes (m : List Host.Cell) (a n : Nat) : List Byte := (List.range n).map fun i => Memory.read m (a + i)

/-- Bytes written from address `a`. -/
def Memory.writeBytes (m : List Host.Cell) (a : Nat) : List Byte → List Host.Cell
  | [] => m
  | b :: t => Memory.writeBytes (Memory.write m a b) (a + 1) t

/-! ### Registers -/

/-- Key of a field's value: page, offset, low bit and window index. (log 14) -/
def Fd.key (f : Fd) (inst arr i j : Nat) : Nat :=
  (((f.page + inst) * 4096 + f.off + arr * f.stride) * 32 + f.lo) * 8192 + (i * f.n2 + j)

/-- The page of a key. -/
def keyPage (k : Nat) : Nat := k / (8192 * 32 * 4096)
/-- The offset of a key within its page. -/
def keyOff (k : Nat) : Nat := k / (8192 * 32) % 4096
/-- The window index of a key. -/
def keyIdx (k : Nat) : Nat := k % 8192

/-- Width of a field. -/
def Fd.width (f : Fd) : Nat := f.hi + 1 - f.lo

/-- Reset value of a field at window index `i`: IRQ_ROUTE.VEC has the source number divided by 8 [19 IRQ]. -/
def Fd.rst (f : Fd) (i : Nat) : Nat :=
  if f.page = 3 && f.off = 0x64 && f.lo = 8 then i / 8 else f.reset

/-- Active value of a field [19 R556]. -/
def Regs.get (r : Regs) (f : Fd) (inst : Nat := 0) (arr : Nat := 0) (i : Nat := 0) (j : Nat := 0) : Nat :=
  sget r.act (f.key inst arr i j) (f.rst i)

/-- Active value at window index `i`. -/
def Regs.at (r : Regs) (f : Fd) (i : Nat) : Nat := r.get f 0 0 i 0

/-- Active value on page number `inst` of the block, at window index `i`. -/
def Regs.on (r : Regs) (f : Fd) (inst : Nat) (i : Nat := 0) : Nat := r.get f inst 0 i 0

/-- A one-bit field is set. -/
def Regs.bit (r : Regs) (f : Fd) (i : Nat := 0) (inst : Nat := 0) : Bool := r.get f inst 0 i 0 == 1

/-- A binary32 field. -/
def Regs.f32 (r : Regs) (f : Fd) (i : Nat := 0) (inst : Nat := 0) (arr : Nat := 0) : F32 := F32.ofBits (r.get f inst arr i 0)

/-- A binary32 field as binary64. -/
def Regs.f64 (r : Regs) (f : Fd) (i : Nat := 0) (inst : Nat := 0) (arr : Nat := 0) : F64 := (r.f32 f i inst arr).to64

/-- A signed field. -/
def Regs.int (r : Regs) (f : Fd) (i : Nat := 0) (inst : Nat := 0) : Int := wrapS f.width (r.get f inst 0 i 0)

/-- The active value of a field set. (log 14) -/
def Regs.put (r : Regs) (f : Fd) (v : Nat) (inst : Nat := 0) (arr : Nat := 0) (i : Nat := 0) (j : Nat := 0) : Regs :=
  { r with act := sput r.act (f.key inst arr i j) (v % 2 ^ f.width) (f.rst i) }

/-- The shadow value of a field: its shadow copy, or its active value [19 R556]. -/
def Regs.shadow (r : Regs) (f : Fd) (inst : Nat := 0) (arr : Nat := 0) (i : Nat := 0) (j : Nat := 0) : Nat :=
  sget r.shd (f.key inst arr i j) (r.get f inst arr i j)

/-- The shadow copy of a field written. (log 14) -/
def Regs.putShadow (r : Regs) (f : Fd) (v : Nat) (inst : Nat := 0) (arr : Nat := 0) (i : Nat := 0) (j : Nat := 0) : Regs :=
  { r with shd := sins r.shd (f.key inst arr i j) (v % 2 ^ f.width) }

/-- Header of a page. -/
def Regs.head (r : Regs) (p : Nat) : PageHdr := at' r.hdr p

/-- Header of a page changed. -/
def Regs.modHead (r : Regs) (p : Nat) (f : PageHdr → PageHdr) : Regs := { r with hdr := modAt r.hdr p f }

/-- CTL.EN of a page. -/
def Regs.en (r : Regs) (p : Nat) : Bool := (r.head p).en

/-- Active values set from a list of keys and values; `rst` gives the reset value of a key. -/
def Regs.apply (r : Regs) (l : List (Nat × Nat)) (rst : Nat → Nat) : Regs :=
  { r with act := l.foldl (fun a e => sput a e.1 e.2 (rst e.1)) r.act }

/-- The field and its window index that a key names, among the fields of its page. -/
def keyField (k : Nat) : Option Fd :=
  match pageBlock (keyPage k) with
  | none => none
  | some (b, _) =>
    (blockFields b).find? fun f =>
      f.lo == k / 8192 % 32 && decide (f.off ≤ keyOff k) &&
        (List.range f.cnt).any fun a => f.off + a * f.stride == keyOff k

/-- Reset value of a key. -/
def keyReset (k : Nat) : Nat :=
  match keyField k with
  | none => 0
  | some f => f.rst (keyIdx k / f.n2)

/-- The lock of a page is open [19 R562]: it closes 100 ms after it opened. -/
def Regs.lockOpen (r : Regs) (p now : Nat) : Bool :=
  match (r.head p).lockAt with
  | none => false
  | some t => decide (now < t + 25000000)

/-- A rejection recorded on a page [19 R557]. -/
def Regs.reject (r : Regs) (p off reason : Nat) : Regs :=
  r.modHead p fun h =>
    if h.rejected then { h with errCount := satInc 8 h.errCount }
    else { h with rejected := true, errOff := off, errReason := reason, errCount := satInc 8 h.errCount }

/-! ### Time -/

/-- Nanoseconds in a second. -/
def nsPerSec : Nat := 1000000000

/-- A base's 64-bit nanosecond form [14 R404]. -/
def TimeBase.total (t : TimeBase) : Nat := t.sec * nsPerSec + t.ns

/-- A base one 250 MHz tick later [14 R404]. -/
def TimeBase.tick (t : TimeBase) : TimeBase :=
  let fr := t.frac + t.incFrac
  let ns := t.ns + t.incInt + fr / 2 ^ 32
  if ns < nsPerSec then { t with ns := ns, frac := fr % 2 ^ 32 }
  else { t with sec := (t.sec + 1) % 2 ^ 48, ns := ns - nsPerSec, frac := fr % 2 ^ 32 }

/-- A base stepped by a signed number of nanoseconds [14 R408]. -/
def TimeBase.step (t : TimeBase) (d : Int) : TimeBase :=
  let v := wrapU 78 ((t.total : Int) + d)
  { t with sec := v / nsPerSec % 2 ^ 48, ns := v % nsPerSec }

/-- Base `i`. -/
def Dev.tb (d : Dev) (i : Nat) : TimeBase := at' d.tim.tb i
/-- TB0 in nanoseconds. -/
def Dev.tb0 (d : Dev) : Nat := (d.tb 0).total
/-- TB3 in nanoseconds. -/
def Dev.tb3 (d : Dev) : Nat := (d.tb 3).total
/-- Base `i` changed. -/
def Dev.modTb (d : Dev) (i : Nat) (f : TimeBase → TimeBase) : Dev :=
  { d with tim := { d.tim with tb := modAt d.tim.tb i f } }

/-- Ticks in a number of microseconds. -/
def ticksUs (n : Nat) : Nat := 250 * n
/-- Ticks in a number of milliseconds. -/
def ticksMs (n : Nat) : Nat := 250000 * n
/-- Ticks in a number of seconds. -/
def ticksS (n : Nat) : Nat := 250000000 * n

/-- The device is a TW812 [00 R1]. -/
def Dev.tw812 (d : Dev) : Bool := d.sys.grade == 1

/-! ### Free values -/

/-- Count one free value (log 5). -/
def Dev.takeFree (d : Dev) : Dev := { d with free := d.free + 1 }

/-! ### Outputs and interrupts -/

/-- Something leaves the device. (log 12, 105) -/
def emit (o : Output) (d : Dev) : Dev := { d with out := d.out ++ [o] }

/-- Event source `b` of page `p` sets its IRQ_RAW bit [19 R563]. -/
def raise (p b : Nat) (d : Dev) : Dev :=
  { d with irq := { d.irq with raw := modAt d.irq.raw p fun v => setBit v b true } }

/-- `raise` under a condition. -/
def raiseIf (c : Bool) (p b : Nat) (d : Dev) : Dev := if c then raise p b d else d

/-- The condition's branch of a change of the device. -/
def onlyIf (c : Bool) (f : Dev → Dev) (d : Dev) : Dev := if c then f d else d

/-- Pages with interrupt sources: page, first global number, count [19 R564]. -/
def irqPages : List (Nat × Nat × Nat) :=
  [(0x00, 0, 6), (0x01, 6, 8), (0x02, 14, 6), (0x04, 20, 4), (0x05, 24, 8), (0x06, 32, 6), (0x07, 38, 8),
   (0x08, 46, 8), (0x09, 54, 12), (0x0A, 66, 6), (0x0B, 72, 6), (0x0C, 78, 8), (0x0D, 86, 8), (0x0E, 94, 6),
   (0x0F, 100, 8), (0x10, 108, 4), (0x12, 112, 4), (0x13, 116, 8), (0x14, 124, 2), (0x15, 126, 8)] ++
  [(0x16, 134, 8), (0x17, 142, 2), (0x18, 144, 6), (0x19, 150, 6), (0x1A, 156, 6), (0x1B, 162, 6), (0x1C, 168, 6),
   (0x1D, 174, 6), (0x1E, 180, 6), (0x1F, 186, 6), (0x20, 192, 4), (0x21, 196, 8), (0x22, 204, 4), (0x23, 208, 4),
   (0x24, 212, 4), (0x25, 216, 4), (0x26, 220, 6), (0x27, 226, 8), (0x28, 234, 8), (0x29, 242, 4), (0x2A, 246, 2),
   (0x2B, 248, 4), (0x2C, 252, 4)]

/-- A page's instances that a TW812 lacks [00 R2]. -/
def pageAbsent (d : Dev) (p : Nat) : Bool :=
  decide (0x2D ≤ p) ||
    (d.tw812 && ((decide (0x1C ≤ p) && decide (p ≤ 0x1F)) || (decide (0x24 ≤ p) && decide (p ≤ 0x25))))

/-- Number of interrupt sources of a page. -/
def irqCount (p : Nat) : Nat :=
  match irqPages.find? (fun e => e.1 == p) with
  | none => 0
  | some (_, _, c) => c

/-- IRQ_STAT of a page: its raw bits that are enabled [19 R563]; 0 for an absent page [00 R4]. -/
def irqStat (r : Regs) (d : Dev) (p : Nat) : Nat :=
  if pageAbsent d p then 0 else (at' d.irq.raw p) &&& (r.head p).irqEn

/-- Global numbers of the sources whose IRQ_STAT bit is set. -/
def irqActive (r : Regs) (d : Dev) : List Nat :=
  irqPages.flatMap fun (p, g, c) =>
    let st := irqStat r d p
    if st = 0 then [] else ((List.range c).filter fun b => st.testBit b).map (g + ·)

/-- Pending vectors, one bit each [19 R566]. -/
def vecPend (r : Regs) (d : Dev) : Nat :=
  (irqActive r d).foldl (fun v g => if r.bit F.IRQ_ROUTE_VEC_EN g then setBit v (r.at F.IRQ_ROUTE_VEC g % 32) true else v) 0

/-- Levels of INT0_N to INT3_N, 1 asserted [19 R565]. -/
def intPins (r : Regs) (d : Dev) : Nat :=
  if d.mde.dstate = .reset then 0
  else
    ((irqActive r d).foldl (fun v g => if r.bit F.IRQ_ROUTE_PIN_EN g then setBit v (r.at F.IRQ_ROUTE_PIN g) true else v) 0)
      &&& r.get F.IRQ_PIN_CFG_EN

/-- A vector's message goes out, or its pending bit is set while it is masked; nothing while MSI-X or Bus Master Enable is off [19 R547 R566]. -/
def sendVec (v : Nat) (d : Dev) : Dev :=
  let e := d.hst.table.getD v (0, 0, 0, 1)
  if !(d.hst.msix) || !(d.hst.bme) then d
  else if e.2.2.2.testBit 0 || d.hst.fnMask then { d with hst := { d.hst with pba := setBit d.hst.pba v true } }
  else emit (.msix v (e.1 + e.2.1 * 2 ^ 32) e.2.2.1) d

/-- Messages for the vectors that have become pending since the last evaluation [19 R566]. (log 105) -/
def settle (r : Regs) (d : Dev) : Dev :=
  let p := vecPend r d
  let d' := foldN 32 (fun v a => if p.testBit v && !(d.irq.pend.testBit v) then sendVec v a else a) d
  let pba := foldN 32 (fun v a => if p.testBit v then a else setBit a v false) d'.hst.pba
  { d' with irq := { d'.irq with pend := p }, hst := { d'.hst with pba := pba } }

/-! ### Recorder entries -/

/-- Every event that the manual names. -/
inductive Ev where
  | powerOn | clockStep | tbStep | recordsLost | badRecord | holdLow | holdMeasFail | lifPreset | leapAdded | wearWarn
  | cornerstoneFull
  | safeHold | modeChange | modeRefused | dormantEnter | cfgCutIn | cfgRefused | cfgSlotFallback | ucFallback | pwrRail
  | clkLost | grtPass | grtFault | hostTimeout | cutRealign
  | gnssPathFault | gnssJam
  | srcTimeout | srcLateDrop | fltApllRate | filterReset | refReject | refRecover | timeSuspect | timeRecover | kindLost
  | posErr | hdgErr | thrLost | fallback | slvPersistReg | msnTileFault | msnUnplaced | msnJobRestart
  | loopFault | loopSwap | pfgStop
  | e2eFault
  | pairState | pairTakeover | pairTakeFail | pairReseed
  | safImageDiff | safConfigLost | safDemand | safOutput | safLatch | safClear | safReset | safState
  deriving DecidableEq, Repr

/-- Range of a code: lowest code and size, and the event's place in it [17 R493]. (log 11) -/
def Ev.place : Ev → Nat × Nat × Nat
  | .powerOn => (1, 0xFF, 0) | .clockStep => (1, 0xFF, 1) | .tbStep => (1, 0xFF, 2) | .recordsLost => (1, 0xFF, 3)
  | .badRecord => (1, 0xFF, 4) | .holdLow => (1, 0xFF, 5) | .holdMeasFail => (1, 0xFF, 6) | .lifPreset => (1, 0xFF, 7)
  | .leapAdded => (1, 0xFF, 8) | .wearWarn => (1, 0xFF, 9) | .cornerstoneFull => (1, 0xFF, 10)
  | .safeHold => (0x100, 256, 0) | .modeChange => (0x100, 256, 1) | .modeRefused => (0x100, 256, 2)
  | .dormantEnter => (0x100, 256, 3) | .cfgCutIn => (0x100, 256, 4) | .cfgRefused => (0x100, 256, 5)
  | .cfgSlotFallback => (0x100, 256, 6) | .ucFallback => (0x100, 256, 7) | .pwrRail => (0x100, 256, 8)
  | .clkLost => (0x100, 256, 9) | .grtPass => (0x100, 256, 10) | .grtFault => (0x100, 256, 11)
  | .hostTimeout => (0x100, 256, 12) | .cutRealign => (0x100, 256, 13)
  | .gnssPathFault => (0x200, 256, 0) | .gnssJam => (0x200, 256, 1)
  | .srcTimeout => (0x300, 256, 0) | .srcLateDrop => (0x300, 256, 1) | .fltApllRate => (0x300, 256, 2)
  | .filterReset => (0x300, 256, 3) | .refReject => (0x300, 256, 4) | .refRecover => (0x300, 256, 5)
  | .timeSuspect => (0x300, 256, 6) | .timeRecover => (0x300, 256, 7) | .kindLost => (0x300, 256, 8)
  | .posErr => (0x400, 256, 6) | .hdgErr => (0x400, 256, 7)
  | .thrLost => (0x400, 256, 0) | .fallback => (0x400, 256, 1) | .slvPersistReg => (0x400, 256, 2)
  | .msnTileFault => (0x400, 256, 3) | .msnUnplaced => (0x400, 256, 4) | .msnJobRestart => (0x400, 256, 5)
  | .loopFault => (0x500, 256, 0) | .loopSwap => (0x500, 256, 1) | .pfgStop => (0x500, 256, 2)
  | .e2eFault => (0x600, 256, 0)
  | .pairState => (0x700, 256, 0) | .pairTakeover => (0x700, 256, 1) | .pairTakeFail => (0x700, 256, 2)
  | .pairReseed => (0x700, 256, 3)
  | .safImageDiff => (0x800, 256, 0) | .safConfigLost => (0x800, 256, 1) | .safDemand => (0x800, 256, 2)
  | .safOutput => (0x800, 256, 3) | .safLatch => (0x800, 256, 4) | .safClear => (0x800, 256, 5)
  | .safReset => (0x800, 256, 6) | .safState => (0x800, 256, 7)

/-- Code of an event: fixed by R494 for its own blocks; elsewhere the device's own choice within its range, one code each [17 R493 R494 R589] (log 11). -/
def Ev.code (e : Ev) : Nat :=
  let (lo, n, i) := e.place
  if lo = 1 then 1 + i else lo + (i + Config.evtOfs lo) % n

/-- Events whose code is PERMANENT in every record [17 R496]; POWER_ON and the island's state events depend on the record. -/
def Ev.permanent : Ev → Bool
  | .clockStep | .tbStep | .lifPreset | .leapAdded | .cfgCutIn | .cfgSlotFallback | .safeHold | .pairTakeover
  | .pairTakeFail | .msnTileFault => true
  | _ => false

/-- Parameters of an event. -/
structure Par where
  /-- P0 -/
  p0 : Nat := 0
  /-- P1 -/
  p1 : Nat := 0
  /-- P2 -/
  p2 : Nat := 0
  /-- P3 -/
  p3 : Nat := 0
  deriving DecidableEq, Repr

/-- A 64-bit parameter across P0 to P2 [17 R489]. -/
def Par.wide (v p3 : Nat) : Par := { p0 := v % 2 ^ 32, p1 := v / 2 ^ 32 % 2 ^ 16, p2 := v / 2 ^ 48 % 2 ^ 16, p3 := p3 % 256 }

/-- The newest record of the Reel, queued or committed, with repeats that wait [17 R498]. -/
def EvtSt.newest (e : EvtSt) : Option EvRec :=
  match e.queue.getLast? with
  | some r => some r
  | none =>
    if e.hasHead then
      match e.reel.find? (fun p => p.1 == e.headSlot) with
      | some (_, r) => some { r with rpt := r.rpt + e.rptPend }
      | none => none
    else none

/-- Append one record to the queue with the next SEQ [17 R490]. -/
def EvtSt.push (e : EvtSt) (now : Nat) (r : EvRec) : EvtSt :=
  { e with
    queue := e.queue ++ [{ r with seq := e.nextSeq }]
    nextSeq := (e.nextSeq + 1) % 2 ^ 32
    queueAt := if e.queue.isEmpty then some now else e.queueAt
    maxDepth := max e.maxDepth (e.queue.length + 1) }

/-- One more drop at a full queue [17 R501]. -/
def EvtSt.drop (e : EvtSt) : EvtSt := { e with lost := wrapInc 16 e.lost, lostNow := e.lostNow + 1 }

/-- TIME, PRE_STEP of a record that enters now [17 R491 R499]. -/
def Dev.evTime (d : Dev) : Nat × Bool :=
  match d.evt.stepAt with
  | some (t, s) => if t = d.now then (s, true) else (d.tb0, false)
  | none => (d.tb0, false)

/-- AGE now [17 R491]. -/
def Dev.age (d : Dev) : Nat := d.tb3 / 1000 % 2 ^ 48

/-- A record of code `c` that enters now, before it has its SEQ. -/
def Dev.mkRec (d : Dev) (c : Nat) (p : Par) (perm : Bool) : EvRec :=
  { time := d.evTime.1 % 2 ^ 64, age := d.age, code := c, invalid := d.gns2.st == .unsync, preStep := d.evTime.2,
    p0 := p.p0 % 2 ^ 32, p1 := p.p1 % 2 ^ 16, p2 := p.p2 % 2 ^ 16, p3 := p.p3 % 256, perm := perm }

/-- Two records merge by R498, with REPEAT_WIN `win` in seconds. -/
def mergeable (win : Nat) (old new : EvRec) : Bool :=
  old.code == new.code && old.p0 == new.p0 && old.p1 == new.p1 && old.p2 == new.p2 && old.p3 == new.p3 &&
    decide (old.rpt < 255) && !(new.perm) && !(old.perm) && !(old.cont) && decide (win ≠ 0) &&
    decide ((new.age + 2 ^ 48 - old.age) % 2 ^ 48 ≤ win * 1000000)

/-- After a drop, the first free queue slot takes a RECORDS_LOST record ahead of any other event [17 R501]. -/
def lostRecord (d : Dev) : Dev :=
  if d.evt.lostNow = 0 ∨ d.evt.stopped ∨ 2048 ≤ d.evt.queue.length then d
  else
    raise 0x29 1 { d with evt := { d.evt.push d.now (d.mkRec Ev.recordsLost.code { p0 := d.evt.lostNow } false) with lostNow := 0 } }

/-- A record enters the recorder: merged, queued or dropped [17 R490 R498 R500 R501]; nothing enters after the supply-fail warning [17 R514]. -/
def enter (win : Nat) (r : EvRec) (more : List EvRec) (d : Dev) : Dev :=
  if d.evt.stopped then d
  else
    let d := lostRecord d
    let merges := d.evt.lostNow == 0 && more.isEmpty &&
      (match d.evt.newest with | some o => mergeable win o r | none => false)
    if merges then
      match d.evt.queue.getLast? with
      | some o => { d with evt := { d.evt with queue := d.evt.queue.dropLast ++ [{ o with rpt := o.rpt + 1 }] } }
      | none => { d with evt := { d.evt with rptPend := d.evt.rptPend + 1 } }
    else if d.evt.queue.length + more.length + 1 ≤ 2048 then
      { d with evt := (r :: more).foldl (fun e x => e.push d.now x) d.evt }
    else { d with evt := d.evt.drop }

/-- A block enters an event [17 R489 R492]. -/
def record (r : Regs) (e : Ev) (p : Par) (d : Dev) : Dev :=
  enter (r.get F.EVT_CFG_REPEAT_WIN) (d.mkRec e.code p e.permanent) [] d

/-- A block enters an event whose items need one continuation record [17 R495]. -/
def recordCont (r : Regs) (e : Ev) (p q : Par) (d : Dev) : Dev :=
  enter (r.get F.EVT_CFG_REPEAT_WIN) (d.mkRec e.code p e.permanent)
    [{ d.mkRec 0xFFF q e.permanent with cont := true }] d

/-- A block enters an event whose PERMANENT attribute depends on the record [17 R496]. -/
def recordPerm (r : Regs) (e : Ev) (p : Par) (perm : Bool) (d : Dev) : Dev :=
  enter (r.get F.EVT_CFG_REPEAT_WIN) (d.mkRec e.code p perm) [] d

/-! ### CRCs -/

/-- One bit of a reflected CRC of `w` bits with reflected polynomial `poly`. -/
def crcReflBit (poly c : Nat) : Nat := if c % 2 = 1 then (c / 2) ^^^ poly else c / 2

/-- One byte of a reflected CRC. -/
def crcReflByte (poly c : Nat) (b : Byte) : Nat :=
  foldN 8 (fun _ c => crcReflBit poly c) (c ^^^ b.toNat)

/-- CRC-32 of 02 R39: polynomial 0x04C1_1DB7 reflected, initial and final all ones. -/
def crc32 (l : List Byte) : Nat := (l.foldl (crcReflByte 0xEDB88320) 0xFFFFFFFF) ^^^ 0xFFFFFFFF

/-- One bit of a CRC of `w` bits, most significant bit first. -/
def crcMsbBit (w poly : Nat) (c : Nat) (b : Bool) : Nat :=
  let t := c.testBit (w - 1) != b
  let s := c * 2 % 2 ^ w
  if t then s ^^^ poly else s

/-- The bits of a byte, most significant first. -/
def byteBits (b : Byte) : List Bool := (List.range 8).map fun i => b.toNat.testBit (7 - i)

/-- A CRC of `w` bits over bytes, most significant bit first. -/
def crcMsb (w poly init : Nat) (l : List Byte) : Nat := (l.flatMap byteBits).foldl (crcMsbBit w poly) init

/-! ### The timer tick -/

/-- The bases that advance on a tick: TB3 always, the others but at the asleep level of DORMANT [14 R404 R405] (log 15). -/
def Dev.tickBases (d : Dev) : Dev :=
  let asleep := d.mde.dorm == .asleep || d.mde.dorm == .refresh
  { d with
    now := d.now + 1
    tim := { d.tim with tb := mapI (fun i t => if asleep && decide (i ≠ 3) then t else t.tick) d.tim.tb } }

/-- What left in the command before is cleared (log 12). -/
def Dev.quiet (d : Dev) : Dev := { d with out := [] }

/-- One 250 MHz timer tick of a block with nothing to do (log 1). -/
def timerTick (s : State) : State := { s with dev := s.dev.tickBases.quiet }

/-! ### Outcomes -/

/-- The device's state after a command, with the messages it causes; what left in the command before is cleared. -/
def State.ok (s : State) : Host.Outcome State Fault Refusal := .next { s with dev := settle s.regs s.dev }

/-- A command that changes only the blocks: the registers, the memory windows and the queue stay. -/
def onDev (s : State) (f : Regs → Dev → Dev) : Host.Outcome State Fault Refusal :=
  State.ok { s with dev := f s.regs s.dev.quiet }

/-- A command that changes the blocks and the registers. -/
def onRegs (s : State) (f : Regs → Dev → Regs × Dev) : Host.Outcome State Fault Refusal :=
  let x := f s.regs s.dev.quiet
  State.ok { s with regs := x.1, dev := x.2 }

/-- Byte strings written to the memory windows, in order. -/
def Memory.writeAll (m : List Host.Cell) (l : List (Nat × List Byte)) : List Host.Cell :=
  l.foldl (fun m w => Memory.writeBytes m w.1 w.2) m

/-- A command that changes the blocks and writes byte strings to the memory windows. -/
def onMem (s : State) (f : Regs → List Host.Cell → Dev → List (Nat × List Byte) × Dev) : Host.Outcome State Fault Refusal :=
  let x := f s.regs s.mem s.dev.quiet
  State.ok { s with mem := Memory.writeAll s.mem x.1, dev := x.2 }

end Sys2Proof.Machine
end

