-- ==== Sys2Proof/Machine/Operands.lean ====
section
/-! DEFINITION. Operand forms that commands share: what a commit buffer holds for an index, which loop channel is bound to an output or a port, and the description in force. -/

namespace Sys2Proof.Machine

/-! ### The description in force -/

/-- The description in force, an empty one while CFG_ACTIVE.VALID = 0 [02 R61]. -/
def Dev.descr (d : Dev) : Descr := d.cfg.active.getD {}

/-- SYSTEM.PAIR = 0: a single unit [02 R43]. -/
def Dev.single (d : Dev) : Bool := d.descr.sys.pair == 0

/-- The cuts of this state are counted and made: device state RUN [03 R66]. -/
def Dev.running (d : Dev) : Bool := d.mde.dstate == .run

/-- Outputs may be enabled: RUN, and the primary role with its outputs enabled or SYSTEM.PAIR = 0 [12 R336, 15 R446]. -/
def Dev.outsOn (d : Dev) : Bool := d.running && (d.single || d.pair.outputs)

/-- The unit holds the primary role. -/
def Dev.isPrimary (d : Dev) : Bool :=
  match d.pair.state with
  | .primSyncing | .primSynced | .primAlone => true
  | _ => false

/-- The unit commands [13 R387]. -/
def Dev.commands (d : Dev) : Bool := d.running && (d.single || d.isPrimary)

/-- A mode in which the loops leave OFF [11 R320]. -/
def Mode.loopsOn (m : Mode) : Bool :=
  match m with
  | .manual | .joystick | .autopos | .follow | .transfer => true
  | .dormant | .harbour => false

/-! ### Binding of outputs and ports -/

/-- Loop channel bound to output `port` of OUT_KIND `kind`: the lowest in use that names it [12 R335]. -/
def boundOut (r : Regs) (kind port : Nat) : Option Nat :=
  (List.range 32).find? fun c =>
    r.bit F.LOP_CH_CFG_USE c && r.at F.LOP_CH_CFG_OUT_KIND c == kind && r.at F.LOP_CH_CFG_OUT_PORT c == port

/-- Loop channel bound to feedback port `port` of FB_SRC `src` [12 R335]. -/
def boundFb (r : Regs) (src port : Nat) : Option Nat :=
  (List.range 32).find? fun c =>
    r.bit F.LOP_CH_CFG_USE c && r.at F.LOP_CH_CFG_FB_SRC c == src && r.at F.LOP_CH_CFG_FB_PORT c == port

/-- Loop channel bound to output `n` of page AOU: 0 to 15 DAC, 16 to 31 PWM. -/
def boundAou (r : Regs) (n : Nat) : Option Nat := boundOut r (n / 16) (n % 16)

/-! ### Commit buffers -/

/-- The register offset and window index of a key lie in a window at `lo` to `hi` with index `i`. -/
def keyInWin (lo hi i k : Nat) : Bool := decide (lo ≤ keyOff k) && decide (keyOff k ≤ hi) && decide (keyIdx k = i)

/-- The values of a page's commit buffer that `sel` chooses come into force: they leave the buffer, and COMMIT_PEND clears and CFG_GEN advances when none is left [19 R558 R588]. A shadow copy equal to its new active value is dropped. -/
def applyCommit (r : Regs) (p : Nat) (sel : Nat → Bool) : Regs × List (Nat × Nat) :=
  let h := r.head p
  if h.pend then
    let now := h.buf.filter fun e => sel e.1
    let rest := h.buf.filter fun e => !(sel e.1)
    let r' := { r.apply now keyReset with shd := r.shd.filter fun e => !(now.contains e) }
    (r'.modHead p fun h =>
      if rest.isEmpty then { h with buf := [], pend := false, gen := wrapInc 32 h.gen } else { h with buf := rest }, now)
  else (r, [])

/-- The key list holds field `f` at index `i`. -/
def hasField (l : List (Nat × Nat)) (f : Fd) (i : Nat) : Bool := l.any fun e => e.1 == f.key 0 0 i 0

/-- A one-bit command field that clears itself: its active value back to 0. -/
def Regs.clearBit (r : Regs) (f : Fd) (i : Nat := 0) : Regs := r.put f 0 0 0 i 0

/-- A shadow copy that follows its active value again. -/
def Regs.dropShadow (r : Regs) (f : Fd) (i : Nat := 0) : Regs := { r with shd := sdel r.shd (f.key 0 0 i 0) }

/-- A field set by the device, active value and shadow copy. -/
def Regs.setBoth (r : Regs) (f : Fd) (v : Nat) (i : Nat := 0) : Regs := (r.put f v 0 0 i).dropShadow f i

/-- Loop channel state changed. -/
def modLop (i : Nat) (f : LoopCh → LoopCh) (d : Dev) : Dev := { d with lop := { d.lop with ch := modAt d.lop.ch i f } }
/-- Loop channel `i`. -/
def Dev.loop (d : Dev) (i : Nat) : LoopCh := at' d.lop.ch i
/-- An analog output changed. -/
def modAou (i : Nat) (f : AnOut → AnOut) (d : Dev) : Dev := { d with aou := { d.aou with outs := modAt d.aou.outs i f } }
/-- Analog output `i`. -/
def Dev.anOut (d : Dev) (i : Nat) : AnOut := at' d.aou.outs i
/-- A step axis changed. -/
def modAxis (i : Nat) (f : StepAxis → StepAxis) (d : Dev) : Dev := { d with pfg := { d.pfg with axes := modAt d.pfg.axes i f } }
/-- Step axis `i`. -/
def Dev.axis (d : Dev) (i : Nat) : StepAxis := at' d.pfg.axes i
/-- An SSI port changed. -/
def modSsi (i : Nat) (f : SsiPort → SsiPort) (d : Dev) : Dev := { d with enc := { d.enc with ssi := modAt d.enc.ssi i f } }
/-- SSI port `i`. -/
def Dev.ssi (d : Dev) (i : Nat) : SsiPort := at' d.enc.ssi i
/-- A quadrature port changed. -/
def modQd (i : Nat) (f : QdPort → QdPort) (d : Dev) : Dev := { d with enc := { d.enc with qd := modAt d.enc.qd i f } }
/-- Quadrature port `i`. -/
def Dev.qd (d : Dev) (i : Nat) : QdPort := at' d.enc.qd i
/-- An emulation output changed. -/
def modEmu (i : Nat) (f : EmuOut → EmuOut) (d : Dev) : Dev := { d with enc := { d.enc with emu := modAt d.enc.emu i f } }
/-- Emulation output `i`. -/
def Dev.emu (d : Dev) (i : Nat) : EmuOut := at' d.enc.emu i

/-- The counters of the lifetime store changed. -/
def modLife (f : LifeData → LifeData) (d : Dev) : Dev := { d with lif := { d.lif with live := f d.lif.live } }

/-- A check of R457 fails on the unit that has taken command, while the checks run [15 R457]. -/
def checkFail (d : Dev) : Dev :=
  if d.pair.checkLeft ≠ 0 ∧ d.isPrimary then { d with pair := { d.pair with checkBad := true } } else d

/-- Loop channel `c` is in RAMP, RUN or OPEN: it drives its output [11 R319, 12 R336]. -/
def LoopState.drives (s : LoopState) : Bool :=
  match s with
  | .ramp | .run | .open_ => true
  | .off | .fault => false

/-- Level of digital input `n`: debounced, after polarity [12 DIO_DIN]. -/
def dinLevel (r : Regs) (d : Dev) (n : Nat) : Bool :=
  (at' d.dio.din n).deb != bit (r.get F.DIO_DIN_POL_POL) n

/-! ### Power, clocks and schedules -/

/-- A domain that lost its power-good has had it back for `t` ticks [18 R522]. -/
def domainHeld (d : Dev) (dom t : Nat) : Bool :=
  d.pwr.pgood.testBit dom && (decide (at' d.pwr.goodAt dom = 0) || decide (at' d.pwr.goodAt dom + t ≤ d.now))

/-- A PLL is locked, and has been for `t` ticks since its last loss [18 R534]. -/
def pllHeld (d : Dev) (pll t : Nat) : Bool :=
  d.clk.lock.testBit pll && (decide (at' d.clk.relockAt pll = 0) || decide (at' d.clk.relockAt pll + t ≤ d.now))

/-- Start of column `k` in µs after the reference [13 R383]. -/
def sbStart (r : Regs) (n k : Nat) : Nat := r.on F.CAN_SB_COL_START n k
/-- Columns in use. -/
def sbCols (r : Regs) (n : Nat) : Nat := r.on F.CAN_SB_CFG_NCOL_M1 n + 1
/-- Basic cycles of the matrix. -/
def sbRows (r : Regs) (n : Nat) : Nat := 2 ^ r.on F.CAN_SB_CFG_NROW_LOG2 n
/-- TYPE and BUF of a cell. -/
def sbCell (r : Regs) (n row col : Nat) : Nat × Nat := (r.get F.CAN_SB_CELL_TYPE n 0 row col, r.get F.CAN_SB_CELL_BUF n 0 row col)

/-! ### Pins that the model reports -/

/-- HB_OUT -/
def pinHbOut : Nat := 0
/-- ROLE_OUT -/
def pinRole : Nat := 1
/-- PPS_OUT -/
def pinPps : Nat := 2
/-- STEPn -/
def pinStep (i : Nat) : Nat := 16 + i
/-- EMUn_A -/
def pinEmuA (i : Nat) : Nat := 32 + i
/-- EMUn_B -/
def pinEmuB (i : Nat) : Nat := 48 + i
/-- EMUn_Z -/
def pinEmuZ (i : Nat) : Nat := 64 + i
/-- SOUTn of channel A or B -/
def pinSout (i : Nat) : Nat := 80 + i

end Sys2Proof.Machine
end

