-- ==== Sys2Proof/Machine/Actuator.lean ====
section
/-! DEFINITION. Actuator outputs and position feedback: pages AOU, PFG, ENC and DIO [12]. -/

namespace Sys2Proof.Machine

/-! ### Digital outputs -/

/-- Digital outputs that a function drives: axis enables, sign outputs of PWM_MODE 1 and compare pulses [12 DIO registers]. -/
def dioOwned (r : Regs) (d : Dev) : Nat :=
  let v := foldN 8 (fun i v => if r.bit F.PFG_IO_EN_DOUT_EN i then setBit v (r.at F.PFG_IO_EN_DOUT i) true else v) 0
  let v := foldN 16 (fun i v => if r.bit F.AOU_CFG_PWM_MODE (16 + i) then setBit v (r.at F.AOU_CFG_DIR_DOUT (16 + i)) true else v) v
  let v := foldN 8 (fun i v =>
    let v := if r.bit F.PFG_CMP_CTL_PULSE_EN i then setBit v (r.at F.PFG_CMP_CTL_PULSE_DOUT i) true else v
    if (d.axis i).cmp.pulseEnd.isSome then setBit v (d.axis i).cmp.dout true else v) v
  foldN 16 (fun i v =>
    let v := if r.bit F.ENC_QD_CMP_CTL_PULSE_EN i then setBit v (r.at F.ENC_QD_CMP_CTL_PULSE_DOUT i) true else v
    if (d.qd i).cmp.pulseEnd.isSome then setBit v (d.qd i).cmp.dout true else v) v

/-- The digital outputs are driven: by their functions or by DIO_DOUT while enabled, and by DIO_DOUT_FAIL from the entry into the fail state [12 R336 R337]. -/
def dioDrive (r : Regs) (d : Dev) : Dev :=
  if d.outsOn && r.en 0x17 then
    let own := dioOwned r d
    let host := r.get F.DIO_DOUT_DOUT
    { d with dio := { d.dio with level := (own &&& d.dio.func) ||| (host &&& (2 ^ 32 - 1 - own)), fail := false } }
  else if d.dio.fail then d
  else { d with dio := { d.dio with level := d.dio.level &&& (2 ^ 32 - 1 - r.get F.DIO_DOUT_FAIL_FAIL), fail := true } }

/-- A function sets the level of a digital output that it owns. -/
def dioFunc (r : Regs) (n : Nat) (level : Bool) (d : Dev) : Dev :=
  dioDrive r { d with dio := { d.dio with func := setBit d.dio.func n level } }

/-! ### DAC and PWM outputs -/

/-- x of an output for a loop output u [12 R339]. (log 94) -/
def aouX (r : Regs) (n : Nat) (u : F32) : F32 := ((r.f32 F.AOU_GAIN_GAIN n).mul u).add (r.f32 F.AOU_OFFSET_OFFSET n)

/-- DAC code of x and whether it was clamped [12 R339]; halves round to even (log 9). -/
def dacCode (x : F32) : Int × Bool :=
  if x.lt (F32.ofInt (-2)) then (-32768, true)
  else if (F32.ofInt 2).lt x then (32767, true)
  else
    let v := (x.mul (F32.ofInt 32768)).round
    if v < -32768 then (-32768, true) else if v > 32767 then (32767, true) else (v, false)

/-- High time of x on a PWM output, the level of DIR_DOUT, and whether the duty was clamped [12 R340]. (log 94) -/
def pwmDuty (r : Regs) (n : Nat) (x : F32) : Nat × Bool × Bool :=
  let per := r.at F.AOU_PERIOD_PERIOD n
  let a := if r.bit F.AOU_CFG_PWM_MODE n then x.abs else x
  let duty := a.clamp F32.zero F32.one
  let high := ((duty.mul (F32.ofInt per)).round).toNat
  (if r.bit F.AOU_CFG_PWM_POL n then per - high else high, F32.zero.le x, a.lt F32.zero || F32.one.lt a)

/-- The pending duty of a PWM output comes into force [12 R340]. -/
def pwmTake (r : Regs) (n : Nat) (d : Dev) : Dev :=
  match (d.anOut n).next with
  | none => d
  | some (h, dir) =>
    let d := modAou n (fun o => { o with code := h, next := none }) d
    if r.bit F.AOU_CFG_PWM_MODE n then dioFunc r (r.at F.AOU_CFG_DIR_DOUT n) dir d else d

/-- A period of a PWM output starts on this tick [12 R340]. -/
def pwmStarts (r : Regs) (n : Nat) (d : Dev) : Bool := d.now % r.at F.AOU_PERIOD_PERIOD n == 0

/-- The value of u is put on an output, with no judgement of a clamp. -/
def aouPut (r : Regs) (n : Nat) (u : F32) (d : Dev) : Dev × Bool :=
  let x := aouX r n u
  if n < 16 then
    let (c, cl) := dacCode x
    (modAou n (fun o => { o with code := c }) d, cl)
  else
    let (h, dir, cl) := pwmDuty r n x
    let d := modAou n (fun o => { o with next := some (h, dir) }) d
    (if pwmStarts r n d then pwmTake r n d else d, cl)

/-- An enabled output latches u: code or duty, CLAMPED, and CLAMP at the first clamped latch [12 R339 R340]. -/
def aouLatch (r : Regs) (n : Nat) (u : F32) (d : Dev) : Dev :=
  let was := (d.anOut n).clamped
  let (d, cl) := aouPut r n u d
  raiseIf (cl && !was) 0x14 1 (modAou n (fun o => { o with clamped := cl, fail := false, relayHold := none }) d)

/-- An output enters its fail state [12 R337]. -/
def aouFail (r : Regs) (n : Nat) (d : Dev) : Dev :=
  if (d.anOut n).fail then d
  else
    let d := if r.bit F.AOU_CFG_FAIL n then (aouPut r n F32.zero d).1 else d
    raise 0x14 0 (modAou n (fun o => { o with fail := true, relayHold := none }) d)

/-- Output `n` of page AOU is absent on the grade [12 R335]. -/
def aouAbsent (d : Dev) (n : Nat) : Bool := d.tw812 && decide (8 ≤ n % 16)

/-- Step axis `i` is absent on the grade [12 R335]. -/
def axisAbsent (d : Dev) (i : Nat) : Bool := d.tw812 && decide (4 ≤ i)

/-- An output is enabled by R336. -/
def aouEnabled (r : Regs) (d : Dev) (n : Nat) : Bool :=
  d.outsOn && r.en 0x14 && !(aouAbsent d n) &&
    (match boundAou r n with
     | some c => (d.loop c).st.drives
     | none => r.bit F.AOU_CFG_HOST_EN n && !(d.mde.mode == .dormant))

/-- An unbound output that is enabled follows AOU_HOST [12 R339]. -/
def aouHost (r : Regs) (n : Nat) (d : Dev) : Dev :=
  if (boundAou r n).isNone && aouEnabled r d n then aouLatch r n (r.f32 F.AOU_HOST_HOST n) d else d

/-! ### Position compare -/

/-- What a compare does when it fires: time latched, ARMED and COMPARE_BEHIND cleared, output pulse started [12 R359]. -/
def Compare.fire (c : Compare) (d : Dev) : Compare :=
  { c with armed := false, behind := false, time := d.tb0,
           pulseEnd := if c.pulseEn then some (d.now + ticksUs c.pulseW) else c.pulseEnd }

/-- The position going from `p` to `q` reaches or crosses `c` [12 R358]; a count that wraps by one step only reaches it. -/
def crosses (p q c : Int) : Bool :=
  decide (q = c) ||
    (decide (q - p < 2 ^ 31) && decide (p - q < 2 ^ 31) &&
      ((decide (p < c) && decide (c < q)) || (decide (q < c) && decide (c < p))))

/-- The arming of a compare at present position `p` with the direction of motion, none at rest: the compare, and whether it fires at once [12 R358]. -/
def Compare.arm (c : Compare) (pos : Int) (pulseEn : Bool) (dout pulseW : Nat) (imm : Bool) (p : Int) (mov : Option Bool) : Compare × Bool :=
  let c := { c with armed := true, behind := false, c := pos, pulseEn := pulseEn, dout := dout, pulseW := pulseW }
  if p = pos then (c, true)
  else
    let behind := match mov with | none => false | some up => if up then decide (pos < p) else decide (p < pos)
    ({ c with behind := behind }, behind && imm)

/-- A compare of a step axis fires. -/
def axisFire (r : Regs) (i : Nat) (d : Dev) : Dev :=
  let c := (d.axis i).cmp
  let d := raise 0x15 6 (modAxis i (fun a => { a with cmp := c.fire d }) d)
  if c.pulseEn then dioFunc r c.dout true d else d

/-- A compare of a quadrature port fires. -/
def qdFire (r : Regs) (i : Nat) (d : Dev) : Dev :=
  let c := (d.qd i).cmp
  let d := raise 0x16 5 (modQd i (fun q => { q with cmp := c.fire d }) d)
  if c.pulseEn then dioFunc r c.dout true d else d

/-- The position of an axis has gone from `p` to its present value: its compare is judged. -/
def axisJudge (r : Regs) (i : Nat) (p : Int) (d : Dev) : Dev :=
  let a := d.axis i
  if a.cmp.armed && crosses p a.pos a.cmp.c then axisFire r i d else d

/-- The count of a port has gone from `p` to its present value: its compare is judged. -/
def qdJudge (r : Regs) (i : Nat) (p : Int) (d : Dev) : Dev :=
  let q := d.qd i
  if q.cmp.armed && crosses p q.count q.cmp.c then qdFire r i d else d

/-! ### Encoder emulation -/

/-- An emulation output takes one input edge in the direction `fwd` [12 R357]. -/
def emuEdge (r : Regs) (i : Nat) (fwd : Bool) (d : Dev) : Dev :=
  let e := d.emu i
  let m := r.at F.ENC_EMU_RATIO_M i
  let acc := e.acc + r.at F.ENC_EMU_RATIO_N i
  if acc < m then modEmu i (fun e => { e with acc := acc }) d
  else if e.queue.length < 16 then modEmu i (fun e => { e with acc := acc - m, queue := e.queue ++ [fwd] }) d
  else raise 0x16 7 (modEmu i (fun e => { e with acc := acc - m, overruns := wrapInc 16 e.overruns }) d)

/-- An emulation output takes its edges from source `src` of kind `axis`. -/
def emuFrom (r : Regs) (axis : Bool) (src i : Nat) : Bool :=
  r.bit F.ENC_EMU_CFG_EN i && r.en 0x16 && (r.bit F.ENC_EMU_CFG_SRC_KIND i == axis) && r.at F.ENC_EMU_CFG_SRC i == src

/-- An edge of a port or a pulse of an axis reaches the emulation outputs that take it. -/
def emuFeed (r : Regs) (axis : Bool) (src : Nat) (fwd : Bool) (d : Dev) : Dev :=
  foldN 8 (fun i d => if emuFrom r axis src i then emuEdge r i fwd d else d) d

/-- Phase of a quadrature pair after a step forward (A leads B) or back: bit 0 A, bit 1 B. -/
def quadNext (ph : Nat) (fwd : Bool) : Nat :=
  match ph, fwd with
  | 0, true => 1 | 1, true => 3 | 3, true => 2 | _, true => 0
  | 0, false => 2 | 2, false => 3 | 3, false => 1 | _, false => 0

/-- EMU_EDGE_OUT: the oldest waiting edge leaves once the gap has passed [12 R357]. -/
def emuOut (out : Nat) (r : Regs) (d : Dev) : Dev :=
  let e := d.emu out
  let gap := match e.lastTick with | none => true | some t => decide (5 * r.at F.ENC_EMU_CFG_MIN_GAP out ≤ 2 * (d.now - t))
  match e.queue with
  | [] => d
  | fwd :: rest =>
    if gap && decide (out < 8) then
      let ph := quadNext e.phase fwd
      let d := modEmu out (fun e => { e with queue := rest, phase := ph, lastTick := some d.now }) d
      if bit e.phase 0 != bit ph 0 then emit (.pin (pinEmuA out) (bit ph 0)) d else emit (.pin (pinEmuB out) (bit ph 1)) d
    else d

/-! ### Step/direction axes -/

/-- A step axis is enabled by R336. -/
def pfgEnabled (r : Regs) (d : Dev) (i : Nat) : Bool :=
  d.outsOn && r.en 0x15 && !(axisAbsent d i) &&
    (match boundOut r 2 i with
     | some c => (d.loop c).st.drives
     | none => !(d.mde.mode == .dormant))

/-- The axis enable output, where the axis has one [12 R337]. -/
def axisEnable (r : Regs) (i : Nat) (on : Bool) (d : Dev) : Dev :=
  let d := modAxis i (fun a => { a with enOut := on }) d
  if r.bit F.PFG_IO_EN_DOUT_EN i then dioFunc r (r.at F.PFG_IO_EN_DOUT i) on d else d

/-- A limit of an axis is asserted: positive or negative [12 R349]. -/
def limitOn (r : Regs) (d : Dev) (i : Nat) (pos : Bool) : Bool :=
  if pos then r.bit F.PFG_IO_LIM_POS_EN i && dinLevel r d (r.at F.PFG_IO_LIM_POS i)
  else r.bit F.PFG_IO_LIM_NEG_EN i && dinLevel r d (r.at F.PFG_IO_LIM_NEG i)

/-- Why an axis stopped, as PFG_STOP carries it: numbered in the order of R346 (log 20). -/
inductive StopCause where
  | command | failState | limit | chatter | homing
  deriving DecidableEq, Repr

/-- Number of a stop cause (log 20). -/
def StopCause.num (c : StopCause) : Nat :=
  match c with
  | .command => 1 | .failState => 2 | .limit => 3 | .chatter => 4 | .homing => 5

/-- An axis is mid-move: its rate is not 0 or a pulse is due [12 R346]. -/
def StepAxis.midMove (a : StepAxis) : Bool := !(a.rate.isZero) || decide (a.due ≠ 0)

/-- An axis with its motion ended: no rate, no pulse due, no move or homing in hand. -/
def StepAxis.halted (a : StepAxis) : StepAxis :=
  { a with rate := F32.zero, phase := 0, due := 0, frac := F64.zero, moving := false, after := none, homing := .none, deferred := false }

/-- A stop of an axis [12 R346]; at rest it ends a homing with STOPPED and nothing else [12 R350]. (log 20) -/
def axisStop (r : Regs) (i : Nat) (c : StopCause) (d : Dev) : Dev :=
  let a := d.axis i
  if a.midMove then
    record r .pfgStop { p0 := i, p1 := c.num }
      (raise 0x15 1 (modAxis i (fun a => { a.halted with posValid := false }) d))
  else raiseIf (!(a.homing == .none)) 0x15 1 (modAxis i StepAxis.halted d)

/-- A step axis enters its fail state [12 R337]. (log 94) -/
def pfgFail (r : Regs) (i : Nat) (d : Dev) : Dev :=
  if (d.axis i).fail then d
  else
    let d := axisStop r i .failState d
    let d := if r.bit F.PFG_CFG_FAIL i then axisEnable r i false d else d
    raise 0x14 0 (modAxis i (fun a => { a with fail := true }) d)

/-- Whole steps to the rest point from speed `v` under deceleration `dec`, with a fraction `fr` of a step done: rounded up (log 21). -/
def restSteps (v dec fr : F64) : Int :=
  let s := ((v.mul v).div (F64.two.mul dec)).add fr
  let f := s.floor
  if (F64.ofInt f).lt s then f + 1 else f

/-- A position move starts from rest towards `t` under the limits now active [12 R342 R345]. -/
def moveStart (r : Regs) (i : Nat) (t : Int) (d : Dev) : Dev :=
  modAxis i (fun a => { a with
    target := t, moving := true, after := none, deferred := false, phase := 1,
    aUse := r.f32 F.PFG_A_MAX_A_MAX i, dUse := r.f32 F.PFG_D_MAX_D_MAX i }) d

/-- A committed PFG_TARGET [12 R343 R344]. -/
def moveTo (r : Regs) (i : Nat) (t : Int) (d : Dev) : Dev :=
  let a := d.axis i
  if r.bit F.PFG_CFG_MODE i && pfgEnabled r d i && !(a.chatter) then
    if !(a.posValid) then modAxis i (fun a => { a with refused := true }) d
    else
      let d := modAxis i (fun a => { a with refused := false }) d
      if !(a.midMove) then moveStart r i t d
      else
        let up := !(a.rate.isNeg)
        let ahead := if up then t - (a.pos + a.due) else (a.pos + a.due) - t
        let stop := restSteps a.rate.to64.abs a.dUse.to64 a.frac
        if stop ≤ ahead ∧ a.after.isNone then modAxis i (fun a => { a with target := t, phase := 2 }) d
        else modAxis i (fun a => { a with after := some t }) d
  else d

/-- PFG_CTL.SOFT_STOP: the target becomes the rest point [12 R344]. -/
def softStop (i : Nat) (d : Dev) : Dev :=
  modAxis i (fun a =>
    if a.moving && a.midMove then
      let n := restSteps a.rate.to64.abs a.dUse.to64 a.frac
      { a with target := if a.rate.isNeg then a.pos + a.due - n else a.pos + a.due + n, after := none }
    else a) d

/-- Length of a rate update, s [12 R341]. (log 21) -/
def stepDt : F64 := F64.ofRatio 1 100000

/-- The magnitude `v` after one update towards `want` with acceleration `acc` and deceleration `dec`. (log 21) -/
def approachRate (v want acc dec : F64) : F64 :=
  if v.lt want then F64.min want (v.add (acc.mul stepDt)) else F64.max want (v.sub (dec.mul stepDt))

/-- The signed rate `v` after one update towards the demand `want`: a sign change goes through zero under the deceleration [12 R342]. -/
def approachSigned (v want acc dec : F64) : F64 :=
  if v.isZero || want.isZero || (v.isNeg == want.isNeg) then
    let m := approachRate v.abs want.abs acc dec
    if (if v.isZero then want.isNeg else v.isNeg) then m.neg else m
  else
    let m := approachRate v.abs F64.zero acc dec
    if v.isNeg then m.neg else m

/-- An axis moves on at the signed rate for one update: whole steps become due, `cap` bounds them [12 R341 R342]. (log 21) -/
def StepAxis.advance (a : StepAxis) (rate : F64) (cap : Option Nat) : StepAxis :=
  let p := a.frac.add (rate.abs.mul stepDt)
  let n := p.floor.toNat
  let n' := match cap with | none => n | some c => min n c
  let fr := if n' < n then F64.zero else p.sub (F64.ofInt n)
  { a with rate := rate.to32, frac := if rate.isZero then F64.zero else fr,
           due := if rate.isNeg then a.due - n' else a.due + n' }

/-- The limits in use of a position move: lowered values come into use at the first update at which the stopping distance allows it, a raised A_MAX at once [12 R345, 03 R87 R88]. -/
def StepAxis.limits (a : StepAxis) (aMax dMax : F32) (v rem : F64) : StepAxis :=
  let lowD := dMax.lt a.dUse
  let lowA := aMax.lt a.aUse
  let dl := if lowD then dMax else a.dUse
  let a := if a.aUse.lt aMax then { a with aUse := aMax } else a
  if lowD || lowA then
    if ((v.mul v).div (F64.two.mul dl.to64)).le rem then
      { a with dUse := dl, aUse := if lowA then aMax else a.aUse, deferred := false }
    else { a with deferred := true }
  else { a with deferred := false }

/-- One update of a position move [12 R342 R344 R345]. (log 21) -/
def moveUpdate (r : Regs) (i : Nat) (d : Dev) : Dev :=
  let a := d.axis i
  let at_ := a.pos + a.due
  let vmax := r.f64 F.PFG_V_MAX_V_MAX i
  match a.after with
  | some t =>
    if !(a.midMove) then moveStart r i t d
    else
      let v := approachRate a.rate.to64.abs F64.zero a.aUse.to64 a.dUse.to64
      modAxis i (fun a => { a.advance (if a.rate.isNeg then v.neg else v) none with phase := 3 }) d
  | none =>
    if a.target = at_ then
      let a' := { a with rate := F32.zero, frac := F64.zero }
      if a.due = 0 then
        raise 0x15 0 (modAxis i (fun _ => { a' with moving := false, phase := 0, deferred := false }) d)
      else modAxis i (fun _ => a') d
    else
      let up := decide (at_ < a.target)
      if limitOn r d i up then d
      else
        let n := (a.target - at_).natAbs
        let rem := (F64.ofInt n).sub a.frac
        let v := a.rate.to64.abs
        let a := a.limits (r.f32 F.PFG_A_MAX_A_MAX i) (r.f32 F.PFG_D_MAX_D_MAX i) v rem
        let dec := a.dUse.to64
        let stopping := rem.le ((v.mul v).div (F64.two.mul dec)) || a.phase == 3
        let v' := if stopping then F64.min v (((F64.two.mul dec).mul rem).sqrt) else approachRate v vmax a.aUse.to64 dec
        let ph := if stopping then 3 else if v.lt v' then 1 else 2
        modAxis i (fun _ => { a.advance (if up then v' else v'.neg) (some n) with phase := ph }) d

/-- One update of a velocity axis towards its demand [12 R342 R349]. (log 21) -/
def velocityUpdate (r : Regs) (i : Nat) (d : Dev) : Dev :=
  let a := d.axis i
  let want := if (boundOut r 2 i).isSome then a.u.to64.mul (r.f64 F.PFG_V_MAX_V_MAX i) else F64.zero
  let want := if !(want.isZero) && limitOn r d i (!(want.isNeg)) then F64.zero else want
  let v := approachSigned a.rate.to64 want (r.f64 F.PFG_A_MAX_A_MAX i) (r.f64 F.PFG_D_MAX_D_MAX i)
  modAxis i (fun a => { a.advance v none with phase := if v.isZero && want.isZero then 0 else 5 }) d

/-! ### Homing -/

/-- Homing ends in HOMING_FAIL [12 R350]. -/
def homingFails (r : Regs) (i : Nat) (d : Dev) : Dev :=
  raise 0x15 5 (axisStop r i .homing (modAxis i (fun a => { a with homingFail := true }) d))

/-- The home input reads 1. -/
def homeOn (r : Regs) (d : Dev) (i : Nat) : Bool :=
  r.bit F.PFG_IO_HOME_EN i && dinLevel r d (r.at F.PFG_IO_HOME i)

/-- One update of an axis in homing: it runs at `v` towards `up`, or to rest. -/
def homeRun (r : Regs) (i : Nat) (up : Bool) (v : F64) (d : Dev) : Dev :=
  let a := d.axis i
  let want := if up then v else v.neg
  modAxis i (fun a' => { a'.advance (approachSigned a.rate.to64 want (r.f64 F.PFG_A_MAX_A_MAX i) (r.f64 F.PFG_D_MAX_D_MAX i)) none with phase := 4 }) d

/-- The direction in which an axis travels, none at rest. -/
def StepAxis.travels (a : StepAxis) : Option Bool :=
  if !(a.rate.isZero) then some (!(a.rate.isNeg)) else if a.due = 0 then none else some (decide (0 < a.due))

/-- Homing comes to rest after its latch: the position is set [12 R350]. -/
def homed (r : Regs) (i : Nat) (d : Dev) : Dev :=
  let a := d.axis i
  let p := wrapS 32 (r.int F.PFG_HOME_POS_HOME_POS i + (a.pos - a.latch.getD a.pos))
  axisJudge r i a.pos (raise 0x15 4 (modAxis i (fun a => { a.halted with pos := p, posValid := true }) d))

/-- One update of the homing sequence [12 R350]. -/
def homeUpdate (r : Regs) (i : Nat) (d : Dev) : Dev :=
  let a := d.axis i
  let dirUp := !(r.bit F.PFG_HOME_DIR i)
  let fast := r.f64 F.PFG_HOME_VEL_HOME_VEL i
  let slow := r.f64 F.PFG_HOME_SLOW_HOME_SLOW i
  let hit := match a.travels with | some u => limitOn r d i u | none => false
  if r.at F.PFG_HOME_MAX_HOME_MAX i < a.travel then homingFails r i d
  else
    match a.homing with
    | .none => d
    | .search =>
      if homeOn r d i then modAxis i (fun a => { a with homing := .clearRest }) d
      else if limitOn r d i a.homePos then
        let d := modAxis i (fun a => { a with rate := F32.zero, due := 0, frac := F64.zero, limitsMet := a.limitsMet + 1, homePos := !(a.homePos) }) d
        if a.limitsMet + 1 = 2 then homingFails r i d else d
      else homeRun r i a.homePos fast d
    | .clearRest =>
      if hit then homingFails r i d
      else if a.midMove then homeRun r i true F64.zero d
      else modAxis i (fun a => { a with homing := .clear }) d
    | .clear =>
      if hit then homingFails r i d
      else if homeOn r d i then homeRun r i (!dirUp) slow d
      else modAxis i (fun a => { a with homing := .backoff, homeCnt := r.at F.PFG_HOME_BACKOFF_BACKOFF i }) d
    | .backoff =>
      if hit then homingFails r i d
      else if 0 < a.homeCnt then homeRun r i (!dirUp) slow d
      else modAxis i (fun a => { a with homing := .approach, homeCnt := 0, latch := none }) d
    | .approach =>
      if hit then homingFails r i d
      else if homeOn r d i && a.travels == some dirUp && a.homeCnt = 0 then
        if r.bit F.PFG_HOME_IDX i then modAxis i (fun a => { a with homeCnt := -1 }) d
        else modAxis i (fun a => { a with latch := some a.rawEdge, homing := .rest }) d
      else homeRun r i dirUp slow d
    | .rest => if a.midMove then homeRun r i true F64.zero d else homed r i d

/-- PFG_CTL.HOME: homing starts from rest [12 R350]. (log 95) -/
def homeStart (r : Regs) (i : Nat) (d : Dev) : Dev :=
  let a := d.axis i
  if a.midMove || a.chatter || !(a.homing == .none) || !(pfgEnabled r d i) then d
  else
    modAxis i (fun a => { a with
      homing := .search, posValid := false, limitsMet := 0, homingFail := false, travel := 0, latch := none,
      homePos := !(r.bit F.PFG_HOME_DIR i), phase := 4, moving := false, after := none }) d

/-- STEP_RATE_UPDATE: the 10 µs update of an axis [12 R341 to R350]. -/
def stepRate (i : Nat) (r : Regs) (d : Dev) : Dev :=
  if d.now % 2500 ≠ 0 ∨ 8 ≤ i then d
  else if !(pfgEnabled r d i) then d
  else
    let d := axisEnable r i true (modAxis i (fun a => { a with fail := false }) d)
    let a := d.axis i
    if a.chatter then d
    else if !(a.homing == .none) then homeUpdate r i d
    else if (match a.travels with | some u => limitOn r d i u | none => false) then axisStop r i .limit d
    else if r.bit F.PFG_CFG_MODE i then (if a.moving then moveUpdate r i d else d)
    else velocityUpdate r i d

/-- STEP_PULSE: one due pulse leaves, at the spacing R341 gives [12 R341 R349 R356 R358]. -/
def stepPulse (i : Nat) (r : Regs) (d : Dev) : Dev :=
  let a := d.axis i
  let up := decide (0 < a.due)
  let w := r.at F.PFG_CFG_STEP_WIDTH i
  let gap := match a.pulseAt with
    | none => true
    | some t => decide (t + 2 * w + (if a.dir = up then 0 else r.at F.PFG_CFG_DIR_SETUP i) ≤ d.now)
  if a.due = 0 || 8 ≤ i || !gap || a.chatter || a.fail || limitOn r d i up then d
  else
    let p := a.pos
    let rev := a.pulsed && (a.dir != up)
    let d := modAxis i (fun a => { a with
      pos := wrapS 32 (if up then p + 1 else p - 1), due := if up then a.due - 1 else a.due + 1,
      dir := up, pulsed := true, dirChange := a.dirChange || rev, pulseAt := some d.now,
      dirPin := up != r.bit F.PFG_CFG_DIR_POL i, travel := a.travel + 1,
      homeCnt := if a.homing == .backoff && up == r.bit F.PFG_HOME_DIR i then a.homeCnt - 1 else a.homeCnt }) d
    emit (.pin (pinStep i) true) (axisJudge r i p (emuFeed r true i up (raiseIf rev 0x15 7 d)))

/-- Committed fields of an axis have come into force: a target starts its move and ARM its compare [12 R343 R358]. -/
def pfgApplied (i : Nat) (keys : List (Nat × Nat)) (r : Regs) (d : Dev) : Regs × Dev :=
  let d := if hasField keys F.PFG_TARGET_TARGET i then moveTo r i (r.int F.PFG_TARGET_TARGET i) d else d
  if r.bit F.PFG_CMP_CTL_ARM i then
    let a := d.axis i
    let (c, now) := a.cmp.arm (r.int F.PFG_CMP_CMP i) (r.bit F.PFG_CMP_CTL_PULSE_EN i) (r.at F.PFG_CMP_CTL_PULSE_DOUT i)
      (r.at F.PFG_CMP_CTL_PULSE_W i) (r.bit F.PFG_CMP_CTL_CMP_IMMEDIATE i) a.pos
      (if a.rate.isZero then none else some (!(a.rate.isNeg)))
    let d := modAxis i (fun a => { a with cmp := c }) d
    (r.clearBit F.PFG_CMP_CTL_ARM i, dioDrive r (if now then axisFire r i d else d))
  else (r, dioDrive r d)

/-- Committed fields of a quadrature port have come into force [12 R358]. -/
def qdApplied (i : Nat) (r : Regs) (d : Dev) : Regs × Dev :=
  if r.bit F.ENC_QD_CMP_CTL_ARM i then
    let q := d.qd i
    let (c, now) := q.cmp.arm (r.int F.ENC_QD_CMP_CMP i) (r.bit F.ENC_QD_CMP_CTL_PULSE_EN i) (r.at F.ENC_QD_CMP_CTL_PULSE_DOUT i)
      (r.at F.ENC_QD_CMP_CTL_PULSE_W i) (r.bit F.ENC_QD_CMP_CTL_CMP_IMMEDIATE i) q.count
      (match q.edgeTick with | some t => if d.now ≤ t + ticksMs 1 then some q.dir else none | none => none)
    let d := modQd i (fun q => { q with cmp := c }) d
    (r.clearBit F.ENC_QD_CMP_CTL_ARM i, dioDrive r (if now then qdFire r i d else d))
  else (r, dioDrive r d)

/-! ### Digital inputs -/

/-- An axis names input `n` as a limit. -/
def limitOf (r : Regs) (i n : Nat) : Bool :=
  (r.bit F.PFG_IO_LIM_POS_EN i && r.at F.PFG_IO_LIM_POS i == n) || (r.bit F.PFG_IO_LIM_NEG_EN i && r.at F.PFG_IO_LIM_NEG i == n)

/-- Input `n` is a limit of some axis. -/
def isLimit (r : Regs) (n : Nat) : Bool := (List.range 8).any fun i => limitOf r i n

/-- Debounce time of input `n` in 10 µs samples: 1 ms for a limit [12 R347]. -/
def debTime (r : Regs) (n : Nat) : Nat := if isLimit r n then 100 else r.at F.DIO_DEB_DEB n

/-- One raw sample of an input [12 R347 R348]. -/
def Din.sample (x : Din) (raw : Bool) (no deb : Nat) : Din :=
  let ch := raw != x.raw
  let steady := if ch then 0 else min (x.steady + 1) 16383
  { raw := raw, steady := steady, deb := if deb ≤ steady then raw else x.deb,
    edges := (if ch then [no] else []) ++ x.edges.filter (fun e => decide (no < e + 5000)) }

/-- An input shows more than 8 raw edges within 50 ms [12 R348]. -/
def Din.chatters (x : Din) : Bool := decide (8 < x.edges.length)

/-- What an input's sample causes: interrupts, limits, chatter and the raw home edge [12 R347 R348 R350 R363]. -/
def dinSample1 (r : Regs) (n : Nat) (raw : Bool) (d : Dev) : Dev :=
  let x := at' d.dio.din n
  let y := x.sample raw d.dio.sampleNo (debTime r n)
  let irq := bit (r.get F.DIO_DIN_IRQ_EN_IRQ_EN) n
  let d := { d with dio := { d.dio with din := modAt d.dio.din n fun _ => y } }
  let d := raiseIf (irq && (y.deb != x.deb)) 0x17 0 d
  let d := raiseIf (irq && (y.raw != x.raw) && y.raw == y.deb && x.raw != x.deb) 0x17 1 d
  let rise := y.deb != x.deb && dinLevel r d n
  let d := foldN 8 (fun i d =>
    let a := d.axis i
    let d := raiseIf (rise && limitOf r i n && a.midMove) 0x15 2 d
    let d := if y.raw != x.raw && r.bit F.PFG_IO_HOME_EN i && r.at F.PFG_IO_HOME i == n
      then modAxis i (fun a => { a with rawEdge := a.pos }) d else d
    if limitOf r i n && y.chatters && !(a.chatter) then
      modAxis i (fun a => { a with chatter := true }) (axisStop r i .chatter (raise 0x15 3 d))
    else d) d
  d

/-- DIN_SAMPLE: the raw levels of all inputs at a 10 µs sample [12 R347]; DIO samples whatever its EN holds [19 R555]. -/
def dinSample (raw : Nat) (r : Regs) (d : Dev) : Dev :=
  if d.now % 2500 ≠ 0 ∨ d.mde.dstate = .reset then d
  else foldN 32 (fun n d => dinSample1 r n (bit raw n) d) { d with dio := { d.dio with sampleNo := d.dio.sampleNo + 1 } }

/-- PFG_CTL.CLR_CHATTER, ignored while an input still chatters [12 R348]. -/
def clrChatter (r : Regs) (i : Nat) (d : Dev) : Dev :=
  if (List.range 32).any fun n => limitOf r i n && (at' d.dio.din n).chatters then d
  else modAxis i (fun a => { a with chatter := false }) d

/-! ### SSI ports -/

/-- Bits of an SSI frame of a port. -/
def ssiBits (r : Regs) (i : Nat) : Nat :=
  r.at F.ENC_SSI_CFG_START i + r.at F.ENC_SSI_CFG_LEN i + r.at F.ENC_SSI_CFG_ERR_BIT i +
    (match r.at F.ENC_SSI_CFG_CRC i with | 0 => 0 | 1 => 6 | _ => 8)

/-- A request at an SSI port: a frame starts, or the request is skipped [12 R351 R352]. -/
def ssiAsk (r : Regs) (i : Nat) (d : Dev) : Dev :=
  let p := d.ssi i
  if !(r.bit F.ENC_SSI_CFG_EN i) || !(r.en 0x16) then d
  else if (match p.busyTill with | some t => decide (d.now < t) | none => false) then
    modSsi i (fun p => { p with overrun := wrapInc 8 p.overrun, valid := false }) d
  else
    let ticks := (ssiBits r i * r.at F.ENC_SSI_CFG_DIV i * 5 + 1) / 2 + ticksUs (r.at F.ENC_SSI_MONO_MONO i)
    modSsi i (fun p => { p with busyTill := some (d.now + ticks), reqAt := some d.tb0, reqTick := d.now, valid := false }) d

/-- Gray code to binary [12 R351]. -/
def grayToBin (g : Nat) : Nat :=
  foldN 32 (fun i v => v ^^^ (g >>> i)) 0

/-- The number that bits spell, most significant first. -/
def bitsNat (l : List Bool) : Nat := l.foldl (fun n b => 2 * n + b2n b) 0

/-- Checks of an SSI frame: the word, or the cause of its failure [12 R351 R352]; CRC before line before error bit (log 22). -/
def ssiCheck (r : Regs) (i : Nat) (l : List Bool) (lineHigh : Bool) : Nat × Nat :=
  let st := r.at F.ENC_SSI_CFG_START i
  let len := r.at F.ENC_SSI_CFG_LEN i
  let data := (l.drop st).take len
  let rest := l.drop (st + len)
  let err := r.bit F.ENC_SSI_CFG_ERR_BIT i
  let crc := bitsNat (rest.drop (b2n err))
  let v := bitsNat data
  let crcOk := match r.at F.ENC_SSI_CFG_CRC i with
    | 0 => true
    | 1 => data.foldl (crcMsbBit 6 3) 0 == crc
    | _ => data.foldl (crcMsbBit 8 7) 0 == crc
  let cause := if !crcOk then 1 else if !lineHigh then 2 else if err && !(rest.headD false) then 3 else 0
  (if r.bit F.ENC_SSI_CFG_GRAY i then grayToBin v else v, cause)

/-- A frame of an SSI port completes: its word is checked and stored, or fails [12 R352]. (log 22) -/
def ssiDone (r : Regs) (i : Nat) (l : List Bool) (lineHigh : Bool) (d : Dev) : Dev :=
  let (w, cause) := ssiCheck r i l lineHigh
  if cause = 0 then
    modSsi i (fun p => { p with word := w, valid := true, wordTick := some p.reqTick, fail := false, cause := 0, good := true, reqAt := none }) d
  else
    raiseIf ((d.ssi i).good) 0x16 6
      (modSsi i (fun p => { p with fail := true, cause := cause, fails := wrapInc 16 p.fails, good := false, valid := false, reqAt := none }) d)

/-- An SSI frame of the port is in hand and as long as the port's settings give. -/
def ssiFits (r : Regs) (i : Nat) (l : List Bool) (d : Dev) : Bool :=
  decide (i < 16) && (d.ssi i).reqAt.isSome && l.length == ssiBits r i

/-- A TB0 multiple of a period of `per` ns, counted from a second boundary, lies in the last `back` ns up to TB0 time `at_` [06 R181]. -/
def multipleIn (per back at_ : Nat) : Bool :=
  let t := at_ % nsPerSec
  decide (t < back) || (decide (0 < per) && t / per != (t - back) / per)

/-- SSI_REQUEST: an unbound port that feeds a source requests at the TB0 multiples of the source's period [06 R181, 12 R352]. -/
def ssiRequest (port : Nat) (r : Regs) (d : Dev) : Dev :=
  let src := d.descr.sources.any fun s =>
    s.portKind == 4 && s.port == port && multipleIn ((s.period.to64.mul (F64.ofInt nsPerSec)).round.toNat) 4 d.tb0
  if port < 16 ∧ (boundFb r 1 port).isNone ∧ src then ssiAsk r port d else d

/-! ### Quadrature ports -/

/-- The count moves by one step. -/
def qdCount (r : Regs) (i : Nat) (up : Bool) (ab : Nat) (d : Dev) : Dev :=
  let q := d.qd i
  let rev := q.moved && (q.dir != up)
  let d := modQd i (fun q => { q with
    count := wrapS 32 (if up then q.count + 1 else q.count - 1), ab := ab, dir := up, moved := true,
    dirChange := q.dirChange || rev, lastIll := false, edgeTick := some d.now }) d
  qdJudge r i q.count (emuFeed r false i up (raiseIf rev 0x16 4 d))

/-- Both lines changed at once: the count stays [12 R354]. -/
def qdIllegal (i ab : Nat) (d : Dev) : Dev :=
  raiseIf (!((d.qd i).lastIll)) 0x16 0
    (modQd i (fun q => { q with
      ab := ab, illCount := wrapInc 16 q.illCount, illegal := true, lastIll := true,
      illWin := match q.illWin with | [] => [1] | n :: t => (n + 1) :: t }) d)

/-- QD_TRANSITION: the filtered levels of A (bit 0) and B (bit 1) become `ab` [12 R353 R354]. -/
def qdEdge (port ab : Nat) (r : Regs) (d : Dev) : Dev :=
  let q := d.qd port
  let ab := ab % 4
  if !(r.bit F.ENC_QD_CFG_EN port) || !(r.en 0x16) || 16 ≤ port || q.ab == ab then d
  else if quadNext q.ab true == ab then qdCount r port (!(r.bit F.ENC_QD_CFG_DIR_INV port)) ab d
  else if quadNext q.ab false == ab then qdCount r port (r.bit F.ENC_QD_CFG_DIR_INV port) ab d
  else qdIllegal port ab d

/-- An index edge reaches the axes whose homing waits for it [12 R350]. -/
def homeIndex (r : Regs) (port : Nat) (d : Dev) : Dev :=
  foldN 8 (fun i d =>
    let a := d.axis i
    if a.homing == .approach && a.homeCnt < 0 && r.at F.PFG_HOME_IDX_PORT i == port then
      modAxis i (fun a => { a with latch := some a.pos, homing := .rest, homeCnt := 0 }) d
    else d) d

/-- QD_INDEX: a rising edge of Z [12 R355 R357]. -/
def qdIndex (port : Nat) (r : Regs) (d : Dev) : Dev :=
  if !(r.bit F.ENC_QD_CFG_EN port) || !(r.en 0x16) || 16 ≤ port then d
  else
    let q := d.qd port
    let toZero := match r.at F.ENC_QD_CFG_IDX_MODE port with | 0 => false | 1 => !(q.firstIdx) | _ => true
    let d := modQd port (fun q => { q with idx := q.count, idxSeen := true, firstIdx := true, count := if toZero then 0 else q.count }) d
    let d := qdJudge r port q.count (raise 0x16 3 d)
    let d := foldN 8 (fun i d =>
      if emuFrom r false port i && r.bit F.ENC_EMU_CFG_IDX_PASS i then emit (.pin (pinEmuZ i) true) (modEmu i (fun e => { e with z := true }) d)
      else d) d
    homeIndex r port d

/-- QD_ILLEGAL_WINDOW: a 1 ms step of the window of the last second [12 R354]. -/
def qdWindow (port : Nat) (r : Regs) (d : Dev) : Dev :=
  if d.now % 250000 ≠ 0 ∨ 16 ≤ port then d
  else
    let q := d.qd port
    let n := q.illWin.sum
    let quiet := if n = 0 then min (q.zeroMs + 1) 1000 else 0
    let trip := decide (r.at F.ENC_QD_CFG_ILL_LIMIT port < n)
    let clear := q.fault && quiet == 1000
    let win := ((0 :: q.illWin).take 1000)
    let win := if win.all (· == 0) then [] else win
    let d := modQd port (fun q => { q with illWin := win, zeroMs := quiet, fault := trip || (q.fault && !clear) }) d
    raiseIf clear 0x16 2 (raiseIf (trip && !(q.fault)) 0x16 1 d)

/-- CMP_PULSE_END: the output pulse of a compare ends [12 R359]. -/
def cmpPulseEnd (axis : Bool) (i : Nat) (r : Regs) (d : Dev) : Dev :=
  let c := if axis then (d.axis i).cmp else (d.qd i).cmp
  match c.pulseEnd with
  | some t =>
    if t ≤ d.now then
      let d := if axis then modAxis i (fun a => { a with cmp := { a.cmp with pulseEnd := none } }) d
        else modQd i (fun q => { q with cmp := { q.cmp with pulseEnd := none } }) d
      dioFunc r c.dout false d
    else d
  | none => d

/-! ### All outputs at once -/

/-- Every output that R336 does not enable enters its fail state, unless it is held through a take [12 R336 R337, 15 R456]. -/
def failOutputs (r : Regs) (d : Dev) : Dev :=
  let d := foldN 32 (fun n d => if aouEnabled r d n || aouAbsent d n || (d.anOut n).relayHold.isSome then d else aouFail r n d) d
  let d := foldN 8 (fun i d => if pfgEnabled r d i || axisAbsent d i then d else pfgFail r i d) d
  dioDrive r d

/-- Unbound outputs that R336 has just enabled leave their fail states. (log 80) -/
def enableOutputs (r : Regs) (d : Dev) : Dev :=
  dioDrive r (foldN 32 (fun n d => aouHost r n d) d)

/-- The outputs at the levels of R338: 0 V and logic 0. -/
def outputsAtReset (d : Dev) : Dev :=
  { d with aou := {}, pfg := {}, dio := { d.dio with level := 0, func := 0, fail := false } }

/-! ### Meanings -/

/-- PWM_PERIOD_START [12 R340]. -/
def pwmPeriodStart (out : Nat) (r : Regs) (d : Dev) : Dev :=
  if 16 ≤ out ∧ out < 32 ∧ pwmStarts r out d then pwmTake r out d else d

/-- PWM_PERIOD_START [12 R340]. -/
def execPwmPeriodStart (out : Nat) (s : State) : Host.Outcome State Fault Refusal := onDev s (pwmPeriodStart out)

/-- STEP_RATE_UPDATE [12 R341]. -/
def execStepRateUpdate (axis : Nat) (s : State) : Host.Outcome State Fault Refusal := onDev s (stepRate axis)

/-- STEP_PULSE [12 R341]. -/
def execStepPulse (axis : Nat) (s : State) : Host.Outcome State Fault Refusal := onDev s (stepPulse axis)

/-- PFG_STOP: PFG_CTL.STOP of the selected axis [12 R346]. -/
def execPfgStop (s : State) : Host.Outcome State Fault Refusal :=
  onDev s fun r d => axisStop r (r.get F.PFG_SEL_AXIS) .command d

/-- PFG_SOFT_STOP: PFG_CTL.SOFT_STOP of the selected axis [12 R344]. -/
def execPfgSoftStop (s : State) : Host.Outcome State Fault Refusal :=
  onDev s fun r d => softStop (r.get F.PFG_SEL_AXIS) d

/-- PFG_HOME: PFG_CTL.HOME of the selected axis [12 R350]. -/
def execPfgHome (s : State) : Host.Outcome State Fault Refusal :=
  onDev s fun r d => homeStart r (r.get F.PFG_SEL_AXIS) d

/-- PFG_CLR_CHATTER: PFG_CTL.CLR_CHATTER of the selected axis [12 R348]. -/
def execPfgClrChatter (s : State) : Host.Outcome State Fault Refusal :=
  onDev s fun r d => clrChatter r (r.get F.PFG_SEL_AXIS) d

/-- DIN_SAMPLE [12 R347]. -/
def execDinSample (raw : Nat) (s : State) : Host.Outcome State Fault Refusal := onDev s (dinSample raw)

/-- QD_TRANSITION [12 R353]. -/
def execQdTransition (port ab : Nat) (s : State) : Host.Outcome State Fault Refusal := onDev s (qdEdge port ab)

/-- QD_INDEX [12 R355]. -/
def execQdIndex (port : Nat) (s : State) : Host.Outcome State Fault Refusal := onDev s (qdIndex port)

/-- QD_ILLEGAL_WINDOW [12 R354]. -/
def execQdIllegalWindow (port : Nat) (s : State) : Host.Outcome State Fault Refusal := onDev s (qdWindow port)

/-- EMU_EDGE_OUT [12 R357]. -/
def execEmuEdgeOut (out : Nat) (s : State) : Host.Outcome State Fault Refusal := onDev s (emuOut out)

/-- CMP_PULSE_END [12 R359]. -/
def execCmpPulseEnd (axis : Bool) (unit : Nat) (s : State) : Host.Outcome State Fault Refusal := onDev s (cmpPulseEnd axis unit)

/-- SSI_REQUEST [12 R352]. -/
def execSsiRequest (port : Nat) (s : State) : Host.Outcome State Fault Refusal := onDev s (ssiRequest port)

end Sys2Proof.Machine
end

