-- ==== Sys2Proof/Machine/Maths.lean ====
section
/-! DEFINITION. Arithmetic that several blocks share: angles, vectors and small matrices, in binary64 unless a rule names binary32 (log 9). -/

namespace Sys2Proof.Machine

/-- An angle wrapped to [-pi, pi). -/
def wrapPi (x : F64) : F64 :=
  if F64.pi.neg.le x && x.lt F64.pi then x
  else
    let n := ((x.add F64.pi).div F64.twoPi).floor
    let y := x.sub (F64.twoPi.mul (F64.ofInt n))
    if y.lt F64.pi.neg then F64.pi.neg else if y.lt F64.pi then y else F64.pi.neg

/-- An angle wrapped to [0, 2 pi). -/
def wrapTwoPi (x : F64) : F64 :=
  let n := (x.div F64.twoPi).floor
  let y := x.sub (F64.twoPi.mul (F64.ofInt n))
  if y.lt F64.zero then F64.zero else if y.lt F64.twoPi then y else F64.zero

/-- Pi in binary32. -/
def piF32 : F32 := ⟨0x40490FDB⟩

/-- A binary32 angle wrapped to [-pi, pi) in binary32 [11 R316]. -/
def wrapPi32 (x : F32) : F32 :=
  if piF32.neg.le x && x.lt piF32 then x
  else
    let p := piF32.to64
    let n := ((x.to64.add p).div (F64.two.mul p)).floor
    (x.to64.sub ((F64.two.mul p).mul (F64.ofInt n))).to32

/-- Length of a plane vector. -/
def hypot (x y : F64) : F64 := ((x.mul x).add (y.mul y)).sqrt

/-- Milliseconds, microseconds and other decimal fractions as binary64: n / d. -/
def frac (n : Int) (d : Nat) : F64 := F64.ofRatio n d

/-- Nanoseconds as seconds. -/
def secOfNs (n : Int) : F64 := F64.ofRatio n 1000000000

/-- Seconds as nanoseconds, rounded to nearest. -/
def nsOfSec (s : F64) : Int := (s.mul (F64.ofInt 1000000000)).round

/-- Degrees to radians. -/
def radOfDeg (x : F64) : F64 := (x.mul F64.pi).div (F64.ofInt 180)

/-! ### Vectors and rotations in binary32 [06 R190] -/

/-- A vector of three binary32 values. -/
structure V3 where
  /-- first component -/
  x : F32 := F32.zero
  /-- second component -/
  y : F32 := F32.zero
  /-- third component -/
  z : F32 := F32.zero
  deriving DecidableEq, Repr, Inhabited

/-- A matrix of three rows. -/
structure M3 where
  /-- first row -/
  a : V3 := {}
  /-- second row -/
  b : V3 := {}
  /-- third row -/
  c : V3 := {}
  deriving DecidableEq, Repr, Inhabited

/-- Sum of vectors. -/
def V3.add (u v : V3) : V3 := ⟨u.x.add v.x, u.y.add v.y, u.z.add v.z⟩
/-- Negated vector. -/
def V3.neg (u : V3) : V3 := ⟨u.x.neg, u.y.neg, u.z.neg⟩
/-- Difference of vectors. -/
def V3.sub (u v : V3) : V3 := u.add v.neg
/-- A vector times a number. -/
def V3.scale (k : F32) (u : V3) : V3 := ⟨k.mul u.x, k.mul u.y, k.mul u.z⟩
/-- Inner product, terms added in order. -/
def V3.dot (u v : V3) : F32 := ((u.x.mul v.x).add (u.y.mul v.y)).add (u.z.mul v.z)
/-- Cross product. -/
def V3.cross (u v : V3) : V3 :=
  ⟨(u.y.mul v.z).sub (u.z.mul v.y), (u.z.mul v.x).sub (u.x.mul v.z), (u.x.mul v.y).sub (u.y.mul v.x)⟩
/-- Length of a vector. -/
def V3.norm (u : V3) : F32 := (u.dot u).sqrt
/-- Matrix times vector. -/
def M3.app (m : M3) (v : V3) : V3 := ⟨m.a.dot v, m.b.dot v, m.c.dot v⟩
/-- Transpose. -/
def M3.tr (m : M3) : M3 := ⟨⟨m.a.x, m.b.x, m.c.x⟩, ⟨m.a.y, m.b.y, m.c.y⟩, ⟨m.a.z, m.b.z, m.c.z⟩⟩
/-- Matrix product. -/
def M3.mul (m n : M3) : M3 :=
  let t := n.tr
  ⟨⟨m.a.dot t.a, m.a.dot t.b, m.a.dot t.c⟩, ⟨m.b.dot t.a, m.b.dot t.b, m.b.dot t.c⟩, ⟨m.c.dot t.a, m.c.dot t.b, m.c.dot t.c⟩⟩

/-- Sine of a binary32 angle (log 8). -/
def sin32 (a : F32) : F32 := (Config.sin a.to64).to32
/-- Cosine of a binary32 angle (log 8). -/
def cos32 (a : F32) : F32 := (Config.cos a.to64).to32
/-- Tangent of a binary32 angle (log 8). -/
def tan32 (a : F32) : F32 := (Config.tan a.to64).to32
/-- Angle of (x, y) with y first (log 8). -/
def atan2F32 (y x : F32) : F32 := (Config.atan2 y.to64 x.to64).to32

/-- Inverse sine in binary32 (log 8). -/
def asin32 (a : F32) : F32 := (Config.asin a.to64).to32

/-- Rotation about x [06 R190]. -/
def rotX (a : F32) : M3 := ⟨⟨F32.one, F32.zero, F32.zero⟩, ⟨F32.zero, cos32 a, (sin32 a).neg⟩, ⟨F32.zero, sin32 a, cos32 a⟩⟩
/-- Rotation about y [06 R190]. -/
def rotY (a : F32) : M3 := ⟨⟨cos32 a, F32.zero, sin32 a⟩, ⟨F32.zero, F32.one, F32.zero⟩, ⟨(sin32 a).neg, F32.zero, cos32 a⟩⟩
/-- Rotation about z [06 R190]. -/
def rotZ (a : F32) : M3 := ⟨⟨cos32 a, (sin32 a).neg, F32.zero⟩, ⟨sin32 a, cos32 a, F32.zero⟩, ⟨F32.zero, F32.zero, F32.one⟩⟩
/-- Cz(yaw) Cy(pitch) Cx(roll) [06 R190]. -/
def rotZYX (yaw pitch roll : F32) : M3 := ((rotZ yaw).mul (rotY pitch)).mul (rotX roll)

/-- The two words of a binary64 value, low word first [00 R6]. -/
def f64Words (x : F64) : List Word := [BitVec.ofNat 32 (x.nat % 2 ^ 32), BitVec.ofNat 32 (x.nat / 2 ^ 32)]
/-- The word of a binary32 value. -/
def f32Word (x : F32) : Word := x.bits
/-- The binary32 value of a word. -/
def wordF32 (w : Word) : F32 := ⟨w⟩
/-- The binary64 value of two words, low word first. -/
def wordsF64 (lo hi : Word) : F64 := F64.ofBits (lo.toNat + 2 ^ 32 * hi.toNat)

end Sys2Proof.Machine
end

