-- ==== Sys2Proof/Machine/Loop.lean ====
section
/-! DEFINITION. The local loop engine: page LOP, and the outputs that its channels drive [11]. -/

namespace Sys2Proof.Machine

/-! ### Settings of a channel -/

/-- Sample period of a channel, ticks [11 R312]. -/
def loopPeriod (r : Regs) (c : Nat) : Nat :=
  match r.at F.LOP_CH_CFG_RATE c with
  | 0 => 250000 | 1 => 125000 | 2 => 50000 | 3 => 25000 | _ => 12500

/-- Evaluations per second of RATE [11 R312]. -/
def loopHz (rate : Nat) : Nat :=
  match rate with
  | 0 => 1000 | 1 => 2000 | 2 => 5000 | 3 => 10000 | _ => 20000

/-- This tick is a sample instant of the channel [11 R312]. -/
def loopDue (r : Regs) (d : Dev) (c : Nat) : Bool :=
  decide (c < 32) && r.bit F.LOP_CH_CFG_USE c && r.en 0x13 && !(d.mde.dstate == .reset) && !(d.mde.dstate == .boot) &&
    !(d.tw812 && decide (16 ≤ c)) && d.now % loopPeriod r c == 250 * r.at F.LOP_CH_PHASE_PHASE c

/-- The settings that a sample uses, binary32 [11 LOP registers]. -/
structure LoopCfg where
  /-- WRAP -/
  wrap : Bool
  /-- SP_INTERP -/
  interp : Bool
  /-- FB_SRC -/
  src : Nat
  /-- FAULT_ACT -/
  open_ : Bool
  /-- PL_MODEL -/
  model : Nat
  /-- sample period, ticks -/
  period : Nat
  /-- sample period, s -/
  ts : F32
  /-- OUT_MIN -/
  outMin : F32
  /-- OUT_MAX -/
  outMax : F32
  /-- OUT_RATE -/
  outRate : F32
  /-- RAMP_RATE -/
  rampRate : F32
  /-- OL_GAIN -/
  olGain : F32
  /-- PL_K -/
  plK : F32
  /-- PL_TAU -/
  plTau : F32
  /-- PL_DB -/
  plDb : F32
  /-- PL_THR -/
  plThr : F32
  /-- PL_WINDOW in ticks, rounded -/
  plWin : Nat
  /-- PL_COUNT -/
  plCount : Nat
  /-- SP_MIN -/
  spMin : F32
  /-- SP_MAX -/
  spMax : F32
  deriving DecidableEq, Repr

/-- Settings of channel `c`. -/
def loopCfg (r : Regs) (c : Nat) : LoopCfg :=
  { wrap := r.bit F.LOP_CH_CFG_WRAP c, interp := r.bit F.LOP_CH_CFG_SP_INTERP c, src := r.at F.LOP_CH_CFG_FB_SRC c,
    open_ := r.bit F.LOP_CH_CFG_FAULT_ACT c, model := r.at F.LOP_CH_CFG_PL_MODEL c, period := loopPeriod r c,
    ts := F32.ofRatio (loopPeriod r c) 250000000,
    outMin := r.f32 F.LOP_OUT_MIN_V c, outMax := r.f32 F.LOP_OUT_MAX_V c, outRate := r.f32 F.LOP_OUT_RATE_V c,
    rampRate := r.f32 F.LOP_RAMP_RATE_V c, olGain := r.f32 F.LOP_OL_GAIN_V c, plK := r.f32 F.LOP_PL_K_V c,
    plTau := r.f32 F.LOP_PL_TAU_V c, plDb := r.f32 F.LOP_PL_DB_V c, plThr := r.f32 F.LOP_PL_THR_V c,
    plWin := ((r.f64 F.LOP_PL_WINDOW_V c).mul (F64.ofInt 250000000)).round.toNat,
    plCount := r.at F.LOP_PL_CNT_PL_COUNT c, spMin := r.f32 F.LOP_SP_MIN_V c, spMax := r.f32 F.LOP_SP_MAX_V c }

/-- A coefficient bank [11 R324]. -/
structure LoopBank where
  /-- KP -/
  kp : F32
  /-- KI -/
  ki : F32
  /-- KD -/
  kd : F32
  /-- TF -/
  tf : F32
  /-- KFF -/
  kff : F32
  /-- KV -/
  kv : F32
  /-- I_MIN -/
  iMin : F32
  /-- I_MAX -/
  iMax : F32
  deriving DecidableEq, Repr

/-- Bank A or B of channel `c`. -/
def loopBank (r : Regs) (c b : Nat) : LoopBank :=
  if b = 0 then
    { kp := r.f32 F.LOP_KP_A_V c, ki := r.f32 F.LOP_KI_A_V c, kd := r.f32 F.LOP_KD_A_V c, tf := r.f32 F.LOP_TF_A_V c,
      kff := r.f32 F.LOP_KFF_A_V c, kv := r.f32 F.LOP_KV_A_V c, iMin := r.f32 F.LOP_I_MIN_A_V c, iMax := r.f32 F.LOP_I_MAX_A_V c }
  else
    { kp := r.f32 F.LOP_KP_B_V c, ki := r.f32 F.LOP_KI_B_V c, kd := r.f32 F.LOP_KD_B_V c, tf := r.f32 F.LOP_TF_B_V c,
      kff := r.f32 F.LOP_KFF_B_V c, kv := r.f32 F.LOP_KV_B_V c, iMin := r.f32 F.LOP_I_MIN_B_V c, iMax := r.f32 F.LOP_I_MAX_B_V c }

/-! ### Feedback -/

/-- A port's value at a sample: raw value, invalid or too old, and ENC_FAULT [11 R315 R317]. -/
structure PortVal where
  /-- raw value -/
  raw : F32 := F32.zero
  /-- too old, or marked invalid by its port -/
  stale : Bool := true
  /-- ENC_FAULT on the port -/
  fault : Bool := false
  deriving DecidableEq, Repr

/-- The value of a channel's feedback port now [11 R315 R317]. -/
def loopPort (r : Regs) (d : Dev) (c : Nat) : PortVal :=
  let age := r.at F.LOP_PL_CNT_FB_AGE_MAX c
  let p := r.at F.LOP_CH_CFG_FB_PORT c
  match r.at F.LOP_CH_CFG_FB_SRC c with
  | 1 =>
    let s := d.ssi p
    { raw := F32.ofInt s.word,
      stale := !(s.valid) || (match s.wordTick with | some t => decide (ticksUs age < d.now - t) | none => true) }
  | 2 => { raw := F32.ofInt (d.qd p).count, stale := false, fault := (d.qd p).fault }
  | 3 =>
    match (at' d.src.ain p).find? (fun a => decide (a.at_ ≤ d.tb0)) with
    | some a => { raw := a.v, stale := !(bit d.flt.valid p) || decide (1000 * age < d.tb0 - a.at_) }
    | none => {}
  | 4 =>
    match (d.loop c).can with
    | some (v, t) => { raw := v, stale := decide (1000 * age < d.tb0 - t) }
    | none => {}
  | _ => { stale := false }

/-- A sample's feedback: y, its filter state, and the staleness cause of R331, 0 when fresh and in range [11 R316 R317]. -/
def LoopCh.feedback (ch : LoopCh) (r : Regs) (c : Nat) (k : LoopCfg) (v : PortVal) : LoopCh × Nat :=
  let scaled := ((r.f32 F.LOP_FB_SCALE_V c).mul v.raw).add (r.f32 F.LOP_FB_OFFSET_V c)
  let wrapIf := fun x => if k.wrap then wrapPi32 x else x
  if k.src = 0 then (ch, 0)
  else if v.stale || v.fault then ({ ch with y := ch.good }, if v.stale then 1 else 3)
  else
    let diff := r.bit F.LOP_CH_CFG_FB_DIFF c
    let tf := r.f32 F.LOP_FB_TF_V c
    let a := if tf.isZero then F32.zero else tf.div (tf.add k.ts)
    let dv := match ch.scaledPrev with | some p => (wrapIf (scaled.sub p)).div k.ts | none => F32.zero
    let f := (a.mul ch.diffF).add ((F32.one.sub a).mul dv)
    let y := if diff then f else wrapIf scaled
    let y := if diff && k.wrap then wrapPi32 y else y
    let out := y.lt (r.f32 F.LOP_FB_MIN_V c) || (r.f32 F.LOP_FB_MAX_V c).lt y
    ({ ch with y := y, good := if out then ch.good else y, scaledPrev := some scaled, diffF := f }, if out then 2 else 0)

/-! ### Steps of a sample -/

/-- What a sample raises: FB_FAULT, PLAUS_FAULT, FB_RECOVER, SWAPPED, RAMP_DONE, SAT, OPEN_LOOP, SP_CLAMP in the order of R334. -/
structure LoopEv where
  /-- FB_FAULT -/
  fbFault : Bool := false
  /-- PLAUS_FAULT -/
  plaus : Bool := false
  /-- FB_RECOVER -/
  recover : Bool := false
  /-- SWAPPED -/
  swapped : Bool := false
  /-- RAMP_DONE -/
  rampDone : Bool := false
  /-- SAT -/
  sat : Bool := false
  /-- OPEN_LOOP -/
  openLoop : Bool := false
  /-- SP_CLAMP -/
  spClamp : Bool := false
  deriving DecidableEq, Repr

/-- A set-point clamped, or wrapped on an angular channel [11 R318]. -/
def LoopCfg.limitSp (k : LoopCfg) (x : F32) : F32 := if k.wrap then wrapPi32 x else x.clamp k.spMin k.spMax

/-- Entry into RAMP [11 R328]. -/
def LoopCh.toRamp (ch : LoopCh) : LoopCh :=
  { ch with st := .ramp, re := ch.y, i := F32.zero, d := F32.zero, u := F32.zero, ym := F32.zero, vm := F32.zero,
            winN := 0, winStale := false, plFails := 0, stale := 0, fresh := 0, cause := 0, aw := false, sat := false,
            hand := if ch.gotHand then ch.hand else { ch.hand with r := ch.y } }

/-- Leaving OFF, or a restart of R59: OPEN without feedback, RAMP otherwise [11 R320]. -/
def LoopCh.start (ch : LoopCh) (k : LoopCfg) : LoopCh :=
  if k.src = 0 then { ch with st := .open_, u := F32.zero, stale := 0, fresh := 0, cause := 0, winN := 0, plFails := 0 } else ch.toRamp

/-- OFF: integrator, derivative and model states cleared, no counts [11 R320]; a standby keeps what its sets load [15 R451]. -/
def LoopCh.turnOff (ch : LoopCh) (keep : Bool) : LoopCh :=
  let ch := { ch with st := .off, drive := false, gotHand := false, stale := 0, fresh := 0, winN := 0, winStale := false, plFails := 0,
                      cause := 0, clr := false, restart := false, sat := false }
  if keep then ch
  else { ch with i := F32.zero, d := F32.zero, ym := F32.zero, vm := F32.zero, u := F32.zero, aw := false }

/-- A CLR at a sample: it clears a latched plausibility fault unless the feedback is bad [11 R333]. (log 94) -/
def LoopCh.applyClr (ch : LoopCh) (bad : Nat) : LoopCh × Bool :=
  if ch.clr && ch.st == .fault && ch.cause == 4 && bad == 0 then ({ ch.toRamp with clr := false }, true)
  else ({ ch with clr := false }, false)

/-- A swap or cut-in of coefficients at a sample [11 R324 R325 R326]. -/
def LoopCh.applySwap (ch : LoopCh) (bank : Nat) (b : LoopBank) : LoopCh × Bool :=
  let sw := ch.bank != bank
  if sw || ch.swapDue then
    let i := ch.i.clamp b.iMin b.iMax
    ({ ch with bank := bank, i := i, swapClamp := !(i == ch.i), swapDue := false }, sw)
  else (ch, false)

/-- A new handover taken by a sample [11 R318]. -/
def LoopCh.takeHand (ch : LoopCh) (k : LoopCfg) (now : Nat) : LoopCh × Bool :=
  match ch.handed with
  | none => (ch, false)
  | some h =>
    let x := k.limitSp h.r
    let cl := !(k.wrap) && !(x == h.r)
    ({ ch with hand := { h with r := x }, handed := none, handTick := now, gotHand := !(ch.st == .off), spClamp := cl }, cl && !(ch.spClamp))

/-- One step of the soft-start ramp [11 R328]. (log 94) -/
def LoopCh.rampStep (ch : LoopCh) (k : LoopCfg) : LoopCh × Bool :=
  let m := k.rampRate.mul k.ts
  let e := ch.hand.r.sub ch.re
  let e := if k.wrap then wrapPi32 e else e
  let e := if k.wrap && e == piF32.neg then e.abs else e
  if e.abs.le m then ({ ch with re := ch.hand.r, st := .run }, true)
  else
    let re := if e.isNeg then ch.re.sub m else ch.re.add m
    ({ ch with re := if k.wrap then wrapPi32 re else re }, false)

/-- Effective set-point outside RAMP [11 R318]. -/
def LoopCh.setRe (ch : LoopCh) (k : LoopCfg) (now : Nat) : LoopCh :=
  if k.interp then
    let dt := F32.ofRatio (now - ch.handTick : Nat) 250000000
    { ch with re := k.limitSp (ch.hand.r.add (ch.hand.rd.mul dt)) }
  else { ch with re := ch.hand.r }

/-- Deadband of the actuator model [11 R329]. -/
def deadband (u db : F32) : F32 :=
  if u.abs.le db then F32.zero else if u.isNeg then u.add db else u.sub db

/-- The actuator model over one sample period with u held [11 R329]. -/
def LoopCh.modelStep (ch : LoopCh) (k : LoopCfg) : LoopCh :=
  let ex := (Config.exp ((k.ts.to64.div k.plTau.to64).neg)).to32
  let kd := k.plK.mul (deadband ch.u k.plDb)
  if k.model = 1 then
    { ch with ym := (ch.ym.mul ex).add (kd.mul (F32.one.sub ex)) }
  else
    { ch with ym := (ch.ym.add (kd.mul k.ts)).add (((ch.vm.sub kd).mul k.plTau).mul (F32.one.sub ex)),
              vm := (ch.vm.mul ex).add (kd.mul (F32.one.sub ex)) }

/-- The plausibility window at a sample: model, residual and failing windows [11 R329 R330]. -/
def LoopCh.plaus (ch : LoopCh) (k : LoopCfg) (bad : Nat) : LoopCh :=
  if k.model = 0 then ch
  else if ch.winN = 0 then { ch with ym := ch.y, winN := 1, winStale := bad != 0 }
  else
    let ch := ch.modelStep k
    let ch := { ch with winStale := ch.winStale || bad != 0 }
    if ch.winN * k.period < k.plWin then { ch with winN := ch.winN + 1 }
    else
      let e := ch.y.sub ch.ym
      let e := if k.wrap then wrapPi32 e else e
      let fails := if ch.winStale then 0 else if k.plThr.lt e.abs then min (ch.plFails + 1) 15 else 0
      { ch with res := e, plFails := fails, ym := ch.y, winN := 1, winStale := bad != 0 }

/-- Terms of the control law at a sample: e, p, new d, ff [11 R321]. -/
def LoopCh.terms (ch : LoopCh) (k : LoopCfg) (b : LoopBank) (yPrev : F32) : F32 × F32 × F32 × F32 :=
  let e := ch.re.sub ch.y
  let e := if k.wrap then wrapPi32 e else e
  let a := if b.tf.isZero then F32.zero else b.tf.div (b.tf.add k.ts)
  let dy := ch.y.sub yPrev
  let dy := if k.wrap then wrapPi32 dy else dy
  let dn := (a.mul ch.d).sub ((((F32.one.sub a).mul b.kd).mul dy).div k.ts)
  (e, b.kp.mul e, dn, (b.kff.mul ch.hand.ff).add (b.kv.mul ch.hand.rd))

/-- The output rate limit [11 R321]. -/
def LoopCfg.rateLimit (k : LoopCfg) (u prev : F32) : F32 :=
  let m := k.outRate.mul k.ts
  u.clamp (prev.sub m) (prev.add m)

/-- Anti-windup after a sample's raw output [11 R322]. -/
def LoopCh.antiWindup (ch : LoopCh) (k : LoopCfg) (e raw : F32) : LoopCh :=
  let inside := k.outMin.le raw && raw.le k.outMax
  let off := inside || e.isZero || (if ch.awPos then e.isNeg else !(e.isNeg))
  let aw := ch.aw && !off
  if aw then { ch with aw := true }
  else if k.outMax.lt raw && F32.zero.lt e then { ch with aw := true, awPos := true }
  else if raw.lt k.outMin && e.lt F32.zero then { ch with aw := true, awPos := false }
  else { ch with aw := false }

/-- The control law of RAMP and RUN [11 R321]. -/
def LoopCh.law (ch : LoopCh) (k : LoopCfg) (b : LoopBank) (yPrev : F32) : LoopCh × Bool :=
  let (e, p, dn, ff) := ch.terms k b yPrev
  let raw := ((p.add ch.i).add dn).add ff
  let u := k.rateLimit (raw.clamp k.outMin k.outMax) ch.u
  let sat := k.outMax.lt raw || raw.lt k.outMin
  let was := ch.sat
  let ch := { ch.antiWindup k e raw with d := dn, u := u, sat := sat, drive := true }
  (if ch.aw then ch else { ch with i := (ch.i.add ((b.ki.mul k.ts).mul e)).clamp b.iMin b.iMax }, sat && !was)

/-- The open-loop law [11 R323]. -/
def LoopCh.openLaw (ch : LoopCh) (k : LoopCfg) (b : LoopBank) : LoopCh :=
  let u := ((k.olGain.mul ch.re).add (b.kff.mul ch.hand.ff)).clamp k.outMin k.outMax
  { ch with u := k.rateLimit u ch.u, sat := false, drive := true }

/-- Recovery from a feedback fault after 100 fresh samples [11 R333]. -/
def LoopCh.recovers (ch : LoopCh) (k : LoopCfg) (b : LoopBank) (bad : Nat) (yPrev : F32) (now : Nat) : LoopCh × Bool :=
  if (ch.st == .fault || ch.st == .open_) && decide (1 ≤ ch.cause) && decide (ch.cause ≤ 3) then
    let n := if bad = 0 then ch.fresh + 1 else 0
    if n < 100 then ({ ch with fresh := n }, false)
    else if ch.st == .fault then (ch.toRamp, true)
    else
      let ch := ch.setRe k now
      let (_, p, _, ff) := ch.terms k b yPrev
      let i := (((ch.u.sub p).sub ch.d).sub ff).clamp b.iMin b.iMax
      ({ ch with st := .run, i := i, fresh := 0, stale := 0, cause := 0, winN := 0, plFails := 0 }, true)
  else (ch, false)

/-- Feedback and plausibility faults at a sample in RAMP or RUN [11 R330 R331 R332]. -/
def LoopCh.faultsNow (ch : LoopCh) (k : LoopCfg) (bad : Nat) : LoopCh × LoopEv :=
  let n := if bad = 0 then 0 else ch.stale + 1
  let ch := { ch with stale := n }
  if 4 * k.plCount ≤ n then
    ({ ch with st := if k.open_ then .open_ else .fault, cause := bad, fresh := 0, faults := wrapInc 16 ch.faults },
     { fbFault := true, openLoop := k.open_ })
  else if k.model ≠ 0 ∧ k.plCount ≤ ch.plFails then
    ({ ch with st := .fault, cause := 4, faults := wrapInc 16 ch.faults }, { plaus := true })
  else (ch, {})

/-- A sample of a channel that is on: the changes in the order of R327, the faults, then the law of its state. (log 94) -/
def LoopCh.sampleOn (ch : LoopCh) (k : LoopCfg) (bank : Nat) (b : LoopBank) (bad : Nat) (yPrev : F32) (now : Nat) : LoopCh × LoopEv :=
  let ch := if ch.st == .off && !(ch.takeOver) then ch.start k else if ch.restart then ch.start k else ch
  let ch := { ch with restart := false, takeOver := false }
  let (ch, e1) := ch.applyClr bad
  let (ch, e2) := ch.applySwap bank b
  let (ch, e3) := ch.takeHand k now
  let (ch, e4) := ch.recovers k b bad yPrev now
  let (ch, e5) := if ch.st == .ramp then ch.rampStep k else (ch.setRe k now, false)
  let on := ch.st == .ramp || ch.st == .run
  let ch := if on then ch.plaus k bad else ch
  let (ch, f) := if on then ch.faultsNow k bad else (ch, {})
  let (ch, e6) := match ch.st with
    | .ramp | .run => ch.law k b yPrev
    | .open_ => (ch.openLaw k b, false)
    | _ => ({ ch with drive := false, sat := false }, false)
  (ch, { f with recover := e1 || e4, swapped := e2, rampDone := e5, sat := e6, spClamp := e3 })

/-- A sample of a channel in OFF: it goes on reading its feedback and takes new coefficients [11 R320 R326]. -/
def LoopCh.sampleOff (ch : LoopCh) (k : LoopCfg) (bank : Nat) (b : LoopBank) (standby : Bool) (now : Nat) : LoopCh × LoopEv :=
  let ch := ch.turnOff standby
  let (ch, e2) := ch.applySwap bank b
  let (ch, e3) := ch.takeHand k now
  (ch, { swapped := e2, spClamp := e3 })

/-! ### The sample -/

/-- The committed values that a channel's sample brings into force: its own, and those of the output and the port bound to it [02 R34, 11 R326]. -/
def loopCommits (c : Nat) (r : Regs) (d : Dev) : Regs × Dev :=
  let (r, _) := applyCommit r 0x13 fun k => decide (keyIdx k = c)
  let ch := d.loop c
  let r := r.apply ch.coefWait keyReset
  let d := modLop c (fun ch => { ch with coefWait := [] }) d
  let port := r.at F.LOP_CH_CFG_OUT_PORT c
  let (r, d) := match r.at F.LOP_CH_CFG_OUT_KIND c with
    | 0 => ((applyCommit r 0x14 fun k => decide (keyIdx k = port)).1, d)
    | 1 => ((applyCommit r 0x14 fun k => decide (keyIdx k = 16 + port)).1, d)
    | 2 =>
      let (r, l) := applyCommit r 0x15 fun k => decide (keyIdx k = port)
      if l.isEmpty then (r, d) else pfgApplied port l r d
    | _ => (r, d)
  if r.at F.LOP_CH_CFG_FB_SRC c = 2 then
    let q := r.at F.LOP_CH_CFG_FB_PORT c
    let (r, l) := applyCommit r 0x16 (keyInWin 0x64 0x80 q)
    if l.isEmpty then (r, d) else qdApplied q r d
  else (r, d)

/-- The loops of this unit are out of OFF: RUN, a mode of R320, and the unit commands [11 R319 R320, 15 R451]. -/
def Dev.loopsOn (d : Dev) : Bool := d.commands && d.mde.mode.loopsOn

/-- What a sample raises and records [11 R324 R332 R334]. -/
def loopReport (r : Regs) (c : Nat) (ch : LoopCh) (e : LoopEv) (d : Dev) : Dev :=
  let d := raiseIf e.fbFault 0x13 0 d
  let d := raiseIf e.plaus 0x13 1 d
  let d := raiseIf e.recover 0x13 2 d
  let d := raiseIf e.swapped 0x13 3 d
  let d := raiseIf e.rampDone 0x13 4 d
  let d := raiseIf e.sat 0x13 5 d
  let d := raiseIf e.openLoop 0x13 6 d
  let d := raiseIf e.spClamp 0x13 7 d
  let d := if e.swapped then record r .loopSwap { p0 := c, p1 := ch.bank } d else d
  if e.fbFault || e.plaus then record r .loopFault { p0 := c, p1 := ch.cause } d else d

/-- LOOP_SAMPLE after its commits [11 R315 to R333]. -/
def loopRun (c : Nat) (r : Regs) (d : Dev) : Dev :=
  let k := loopCfg r c
  let ch0 := d.loop c
  let (ch, bad) := ch0.feedback r c k (loopPort r d c)
  let d := if k.src = 1 ∧ boundFb r 1 (r.at F.LOP_CH_CFG_FB_PORT c) = some c then ssiAsk r (r.at F.LOP_CH_CFG_FB_PORT c) d else d
  let bank := r.at F.LOP_CH_CTL_BANK c
  let b := loopBank r c bank
  let (ch, e) := if d.loopsOn then ch.sampleOn k bank b bad ch0.y d.now
    else ch.sampleOff k bank b (d.running && !(d.commands)) d.now
  let was := !(ch0.st == .off) || !(ch.st == .off)
  let ch := if was then { ch with pend := some (d.now + 500) } else ch
  let d := onlyIf (ch.st == .fault && ch0.st != .fault && !((at' d.pair.takeLoops c).st == .fault)) checkFail d
  loopReport r c ch e (modLop c (fun _ => ch) d)

/-- LOOP_SAMPLE [11 R312]. (log 94) -/
def loopSample (c : Nat) (r : Regs) (d : Dev) : Regs × Dev :=
  if loopDue r d c then
    let (r, d) := loopCommits c r d
    (r, loopRun c r d)
  else (r, d)

/-! ### Command slots of CAN, and the latch -/

/-- Bytes of a command slot's value [13 R391]. (log 50) -/
def slotBytes (fmt : Nat) (x : F32) : List Byte :=
  let v := if (F32.ofInt (2 ^ 33)).lt x.abs then (if x.isNeg then -(2 ^ 33) else 2 ^ 33) else x.round
  match fmt with
  | 0 => leBytes 2 (wrapU 16 (max (-32768) (min 32767 v)))
  | 1 => leBytes 4 (wrapU 32 (max (-2147483648) (min 2147483647 v)))
  | _ => leBytes 4 x.nat

/-- Channel whose page enables command slot `s` [13 R391]. -/
def slotOf (r : Regs) (s : Nat) : Option Nat :=
  (List.range 8).find? fun n => r.bit F.CAN_SLOT_CFG_EN s n

/-- A value written to a command slot: into its transmit buffer [13 R391]. (log 50) -/
def slotWrite (r : Regs) (s : Nat) (v : F32) (d : Dev) : Dev :=
  match slotOf r s with
  | none => d
  | some n =>
    let x := (r.f32 F.CAN_SLOT_SCALE_SCALE s n).mul v
    let b := slotBytes (r.on F.CAN_SLOT_CFG_FMT n s) x
    let o := r.on F.CAN_SLOT_CFG_OFS n s
    { d with can := { d.can with ch := modAt d.can.ch n fun h =>
        { h with tx := modAt h.tx (r.on F.CAN_SLOT_CFG_BUF n s) fun e => { e with data := (putBytes e.data o b).take 64 } } } }

/-- A command slot takes the handed set-point rather than u [13 R391]. -/
def slotTakesSp (r : Regs) (s : Nat) : Bool :=
  match slotOf r s with
  | none => false
  | some n => r.bit F.CAN_SLOT_CFG_VALUE s n

/-- A command slot enters its fail state [13 R391, 12 R337]. -/
def slotFail (r : Regs) (s : Nat) (d : Dev) : Dev :=
  match slotOf r s with
  | none => d
  | some n => if r.bit F.CAN_SLOT_CFG_FAIL s n then slotWrite r s F32.zero d else d

/-- The output of channel `c` latches: its output, axis or slot follows u, or enters its fail state [01 R33, 12 R337 R339]. -/
def latchOut (r : Regs) (c : Nat) (d : Dev) : Dev :=
  let ch := d.loop c
  let p := r.at F.LOP_CH_CFG_OUT_PORT c
  match r.at F.LOP_CH_CFG_OUT_KIND c with
  | 0 => if aouEnabled r d p then aouLatch r p ch.u d else aouFail r p d
  | 1 => if aouEnabled r d (16 + p) then aouLatch r (16 + p) ch.u d else aouFail r (16 + p) d
  | 2 => if pfgEnabled r d p then modAxis p (fun a => { a with u := ch.u }) d else pfgFail r p d
  | _ =>
    if d.outsOn && ch.drive then (if slotTakesSp r p then d else slotWrite r p ch.u d) else slotFail r p d

/-- OUTPUT_LATCH: 2.000 µs after its sample [01 R32 R33]. -/
def outputLatch (c : Nat) (r : Regs) (d : Dev) : Dev :=
  match (d.loop c).pend with
  | some t =>
    if t ≤ d.now ∧ c < 32 then
      let d := latchOut r c (modLop c (fun ch => { ch with pend := none }) d)
      if (d.loop c).drive && d.outsOn then emit (.latch c (d.loop c).u) d else d
    else d
  | none => d

/-- Every channel into OFF at once, its pending latch dropped [03 R67, 11 R320]. -/
def loopsOff (d : Dev) : Dev :=
  { d with lop := { d.lop with ch := d.lop.ch.map fun ch => { ch.turnOff false with pend := none } } }

/-- Every output, axis and command slot of this unit enters its fail state where R336 does not enable it. -/
def failAll (r : Regs) (d : Dev) : Dev :=
  foldN 32 (fun c d =>
    if r.bit F.LOP_CH_CFG_USE c && r.at F.LOP_CH_CFG_OUT_KIND c == 3 && !(d.outsOn && (d.loop c).st.drives)
    then slotFail r (r.at F.LOP_CH_CFG_OUT_PORT c) d else d) (failOutputs r d)

/-- A set-point handed to channel `c`, used from its next sample; a slot of VALUE 1 takes it at once [01 R22, 11 R315, 13 R391]. -/
def handTo (r : Regs) (c : Nat) (h : Handed) (d : Dev) : Dev :=
  let d := modLop c (fun ch => { ch with handed := some h }) d
  if r.at F.LOP_CH_CFG_OUT_KIND c = 3 ∧ slotTakesSp r (r.at F.LOP_CH_CFG_OUT_PORT c) ∧ d.outsOn ∧ (d.loop c).st.drives
  then slotWrite r (r.at F.LOP_CH_CFG_OUT_PORT c) h.r d else d

/-! ### Meanings -/

/-- LOOP_SAMPLE [11 R321]. -/
def execLoopSample (ch : Nat) (s : State) : Host.Outcome State Fault Refusal := onRegs s (loopSample ch)

/-- OUTPUT_LATCH [01 R33]. -/
def execOutputLatch (ch : Nat) (s : State) : Host.Outcome State Fault Refusal := onDev s (outputLatch ch)

/-- LOOP_FAULT_CLR: LOP_CH_CTL.CLR of the selected channel, used at its next sample [11 R333]. -/
def execLoopFaultClr (s : State) : Host.Outcome State Fault Refusal :=
  onDev s fun r d => modLop (r.get F.LOP_SEL_CH) (fun ch => { ch with clr := true }) d

end Sys2Proof.Machine
end

