-- ==== Sys2Proof/Machine/Roles.lean ====
section
/-! DEFINITION. Device states, pair states and roles: what taking, giving and losing command does, SAFE_HOLD, and the heartbeat [03 R64 to R68, 15 R427 to R446]. -/

namespace Sys2Proof.Machine

/-! ### The Ndodric link's frames -/

/-- Frame types in the order of R434 [15 R434]. (log 23) -/
inductive NdlType where
  | hello | keepalive | time | timeReply | relinquish | takeAck | stepAnnounce | stillReq | stillData | cutPart | takeLoops | xtrk | bulk
  deriving DecidableEq, Repr

/-- Number of a frame type: its place in R434 (log 23). -/
def NdlType.num (t : NdlType) : Nat :=
  match t with
  | .hello => 0 | .keepalive => 1 | .time => 2 | .timeReply => 3 | .relinquish => 4 | .takeAck => 5 | .stepAnnounce => 6
  | .stillReq => 7 | .stillData => 8 | .cutPart => 9 | .takeLoops => 10 | .xtrk => 11 | .bulk => 12

/-- A frame leaves on the link [15 R432 R433]. (log 23) -/
def ndlSend (t : NdlType) (words : List Nat) (d : Dev) : Dev :=
  emit (.ndl t.num words) { d with ndl := { d.ndl with lastTx := d.now, seq := wrapInc 16 d.ndl.seq } }

/-- A frame's check on arrival: a failed frame is counted, with CRC_ERR at the first after a good one [15 R434 R460]. -/
def ndlFrame (ok : Bool) (d : Dev) : Dev :=
  if ok then { d with ndl := { d.ndl with lastGood := true } }
  else raiseIf d.ndl.lastGood 0x26 3 { d with ndl := { d.ndl with lastGood := false, crc := wrapInc 16 d.ndl.crc } }

/-- The link as this chapter counts it: a grade mismatch is a link down [15 R431]. -/
def Dev.linkUp (d : Dev) : Bool := d.ndl.link && !(d.ndl.gradeMismatch)

/-! ### Device and pair states -/

/-- The device state changes [03 R64 R97]. -/
def setDState (st : DState) (d : Dev) : Dev :=
  if d.mde.dstate = st then d else raise 5 7 { d with mde := { d.mde with dstate := st } }

/-- Code of a pair state [15 R429]. -/
def PState.code (s : PState) : Nat :=
  match s with
  | .single => 0 | .seeking => 1 | .primSyncing => 2 | .primSynced => 3 | .primAlone => 4 | .stbySyncing => 5 | .stbySynced => 6
  | .degraded => 7

/-- Role of a pair state: 0 none, 1 primary, 2 standby [15 R429]. -/
def PState.role (s : PState) : Nat :=
  match s with
  | .single | .seeking => 0
  | .primSyncing | .primSynced | .primAlone => 1
  | .stbySyncing | .stbySynced | .degraded => 2

/-- PAIR_NEXT_TAKE set a period from now [15 R455]. -/
def nextTakeFromNow (r : Regs) (d : Dev) : Dev :=
  { d with pair := { d.pair with nextTake := (d.tb3 + r.get F.PAIR_CFG_TAKE_PERIOD * 3600 * nsPerSec) % 2 ^ 64 } }

/-- A change of pair state, with its cause, interrupt and event [15 R430]. -/
def pairTo (r : Regs) (st : PState) (cause : Nat) (d : Dev) : Dev :=
  if d.pair.state = st then d
  else
    let role := d.pair.state.role != st.role
    let d := { d with pair := { d.pair with state := st, cause := cause,
                                            runOk := if st == .stbySyncing then 0 else d.pair.runOk,
                                            runMiss := if st == .stbySyncing then 0 else d.pair.runMiss,
                                            cutRun := if st == .stbySyncing then 0 else d.pair.cutRun,
                                            silentAt := none } }
    let d := if st == .primSynced then nextTakeFromNow r d else d
    record r .pairState { p0 := st.code, p1 := cause } (raise 0x27 (if role then 0 else 3) d)

/-- ROLE_OUT changes [15 R440]. (log 80) -/
def setRole (b : Bool) (d : Dev) : Dev :=
  if d.pair.roleOut = b then d else emit (.pin pinRole b) { d with pair := { d.pair with roleOut := b } }

/-- The primary stops commanding: outputs into their fail states, ROLE_OUT dropped, RELINQUISH sent while the link is up [15 R441]; `st` is where it goes. -/
def stopCommanding (r : Regs) (st : PState) (cause : Nat) (d : Dev) : Dev :=
  let d := { d with pair := { d.pair with outputs := false, awaitHandover := false, take := none, checkLeft := 0, checkBad := false, relayEnd := none } }
  let d := pairTo r st cause d
  let d := failAll r (setRole false d)
  if d.linkUp then ndlSend .relinquish [] d else d

/-- The state of a unit in RUN that has given command up [15 R441]. -/
def Dev.standbyState (d : Dev) : PState := if d.linkUp then .stbySyncing else .degraded

/-- A primary relinquishes in RUN [15 R441]. -/
def relinquish (r : Regs) (cause : Nat) (d : Dev) : Dev :=
  if d.isPrimary then stopCommanding r d.standbyState cause d else d

/-- A commanding unit with UNIT_ID 1 that sees the bus commanded by another yields [15 R444]. -/
def yieldRole (r : Regs) (d : Dev) : Dev :=
  if d.isPrimary && d.running && d.pair.unitId == 1 then stopCommanding r d.standbyState 5 d else d

/-- The heartbeat permit lapses; HB_OUT keeps its level [15 R438]. -/
def dropPermit (d : Dev) : Dev := { d with pair := { d.pair with permit := none } }

/-- A unit leaves RUN: no pair state, no role, no permit [15 R428 R441]. -/
def leaveRoles (r : Regs) (d : Dev) : Dev :=
  let d := if d.isPrimary then stopCommanding r .single d.pair.cause d else pairTo r .single d.pair.cause d
  setRole false (dropPermit { d with pair := { d.pair with outputs := false, awaitHandover := false, take := none, checkLeft := 0, relayEnd := none } })

/-- SAFE_HOLD is entered from RUN with a cause, and counted [03 R67, 17 R505]. (log 56) -/
def safeHold (r : Regs) (cause : Nat) (d : Dev) : Dev :=
  if d.mde.dstate = .run then
    let d := modLife (fun l => { l with holds := satInc 32 l.holds }) (loopsOff (setDState .safeHold d))
    let d := { d with mde := { d.mde with
      mode := .harbour, autoHdg := false, followObj := 0, holdCause := cause,
      cyc := { d.mde.cyc with running := false, firstPending := false, realign := false, realignLeft := 0 } } }
    record r .safeHold { p0 := cause } (failAll r (leaveRoles r d))
  else d

/-- A transmit context takes counter and running value `v`, where the set has them. -/
def ctxFromSet (r : Regs) (i : Nat) (c : E2eCtx) (v : Option (Nat × Nat)) : E2eCtx :=
  match v with
  | some (n, x) => if r.bit F.E2E_CFG_DIR i then c else { c with cnt := n, run := x }
  | none => c

/-- E2E transmit contexts take the counters and running values of the set, which the frames seen since have advanced [15 R446]. -/
def e2eFromSet (r : Regs) (d : Dev) : Dev :=
  match d.pair.set with
  | some st => { d with e2e := { d.e2e with ctx := mapI (fun i (c : E2eCtx) => ctxFromSet r i c st.e2e[i]?) d.e2e.ctx } }
  | none => d

/-- A unit takes command [15 R446]: it commands from now, and its first handover enables its outputs. A unit that leaves SEEKING for a primary state takes over from no one, and raises no TAKEOVER. -/
def takeCommand (r : Regs) (cause : Nat) (d : Dev) : Dev :=
  if d.ndl.idClash then d
  else
    let standby := d.pair.state.role == 2
    let d := pairTo r (if d.linkUp then .primSyncing else .primAlone) cause d
    let old := match d.pair.cutPart with | some _ => decide (d.pair.cutPartAt + nsPerSec < d.tb0) | none => false
    let gains := match d.pair.take with | some t => t.gaining | none => false
    let d := { d with pair := { d.pair with
      awaitHandover := true, stale := standby && old, take := if gains then d.pair.take else none
      checkLeft := if gains then d.pair.checkLeft else 0 } }
    let d := if standby then e2eFromSet r d else d
    let d := if standby && !(d.pair.imageEq) then { d with slv := { d.slv with first := true, prev := none } } else d
    if standby then record r .pairTakeover { p0 := cause } (raise 0x27 1 d) else d

/-! ### Outputs of a new primary -/

/-- A loop channel takes the state of a set: OFF channels start by R328 [15 R446]. -/
def loopFromSet (r : Regs) (d : Dev) (c : Nat) (l : LoopCh) : Dev :=
  if l.st == .off then d
  else
    let d := modLop c (fun ch => { ch with
      st := l.st, bank := l.bank, aw := l.aw, awPos := l.awPos, i := l.i, d := l.d, u := l.u, re := l.re, y := l.y,
      takeOver := true, gotHand := true }) d
    if r.bit F.LOP_CH_CFG_USE c then latchOut r c d else d

/-- Each axis takes position and validity from a set; one that moved there is no longer valid [15 R446]. -/
def axisFromSet (i : Nat) (a : StepAxis) (d : Dev) : Dev :=
  modAxis i (fun b => { b with pos := a.pos, posValid := a.posValid && a.rate.isZero }) d

/-- Outputs are enabled at the first handover after a unit takes command [15 R440 R446]. -/
def enableFirst (r : Regs) (loops : List LoopCh) (d : Dev) : Dev :=
  let d := { d with pair := { d.pair with outputs := true, awaitHandover := false } }
  let d := if d.pair.imageEq then (loops.zipIdx).foldl (fun d (l, c) => loopFromSet r d c l) d else d
  let d := match d.pair.set with
    | some st => if d.pair.imageEq then (st.axes.zipIdx).foldl (fun d (a, i) => axisFromSet i a d) d else d
    | none => d
  setRole true (enableOutputs r d)

/-! ### Entry into RUN -/

/-- What a unit in SEEKING does once the link is up [15 R430 R431]. -/
def seekByLink (r : Regs) (d : Dev) : Dev :=
  if d.pair.state == .seeking && d.linkUp then
    if d.ndl.idClash then pairTo r .degraded 10 d
    else if d.ndl.partnerCommands then pairTo r .stbySyncing 1 d
    else if d.pair.unitId = 0 then takeCommand r 1 d
    else pairTo r .stbySyncing 1 d
  else d

/-- The next TB0 instant at a multiple of the cycle period [01 R15]. -/
def Dev.nextMultiple (d : Dev) : Nat := (d.tb0 / d.mde.cyc.periodNs + 1) * d.mde.cyc.periodNs

/-- The control cycle starts: its first cut is the next multiple of the period [01 R15]. -/
def startCycle (d : Dev) : Dev :=
  { d with mde := { d.mde with cyc := { d.mde.cyc with
      running := true, nextCut := d.nextMultiple, firstPending := false, realign := false, realignLeft := 0, cutNo := 0,
      stateOut := true, deadlineDone := true, setTaken := true, subDone := 4 } } }

/-- Roles at an entry into RUN, or at the first cut after a wake [15 R429 R430]. -/
def enterRoles (r : Regs) (d : Dev) : Dev :=
  if d.single then { d with pair := { d.pair with state := .single } }
  else seekByLink r (pairTo r .seeking 0 { d with pair := { d.pair with seekAt := d.now, seekHeard := false, hbInRun := d.pair.hbInRun } })

/-- Entry into RUN, mode HARBOUR [03 R64]. -/
def enterRun (r : Regs) (d : Dev) : Dev :=
  let d := setDState .run { d with mde := { d.mde with mode := .harbour, dorm := .none }, fus := { d.fus with posAt := d.tb0, seq := 0, orgSet := d.fus.orgSet && !(r.bit F.FUS_CFG_ORG_AUTO) } }
  enableOutputs r (failAll r (enterRoles r (startCycle d)))

/-! ### Meanings -/

/-- DEV_GO: MDE_DEV_CTL.GO, ignored but in READY with a valid description [03 R65]. -/
def devGo (r : Regs) (d : Dev) : Dev :=
  if d.mde.dstate == .ready && d.cfg.active.isSome then enterRun r d else d

/-- DEV_GO [03 R65]. -/
def execDevGo (s : State) : Host.Outcome State Fault Refusal := onDev s devGo

/-- DEV_HOLD: MDE_DEV_CTL.HOLD, accepted with LOCK in RUN [03 R67]. -/
def devHold (r : Regs) (d : Dev) : Regs × Dev :=
  if !(r.lockOpen 5 d.now) then (r.reject 5 0x4C 2, d)
  else if !(d.running) then (r.reject 5 0x4C 7, d)
  else (r, safeHold r 1 d)

/-- DEV_HOLD [03 R67]. -/
def execDevHold (s : State) : Host.Outcome State Fault Refusal := onRegs s devHold

/-- UNCORRECTABLE_MEMORY_ERROR in the Storyboard or the filter and message RAMs [03 R67]; a rewind-buffer error comes by BANK_ERROR. -/
def execUncorrectableMemoryError (where_ : Nat) (s : State) : Host.Outcome State Fault Refusal :=
  onDev s fun r d => if where_ < 3 then safeHold r 3 d else d

/-- PAIR_RELINQUISH: PAIR_CTL.RELINQUISH, accepted with LOCK [15 R441]. -/
def pairRelinquish (r : Regs) (d : Dev) : Regs × Dev :=
  if !(r.lockOpen 0x27 d.now) then (r.reject 0x27 0x44 2, d) else (r, relinquish r 12 d)

/-- PAIR_RELINQUISH [15 R441]. -/
def execPairRelinquish (s : State) : Host.Outcome State Fault Refusal := onRegs s pairRelinquish

/-- RELINQUISH_RX: a synchronising or synchronised standby takes command [15 R442]; take-over rules rest while no cuts are made [15 R445]. -/
def relinquishRx (r : Regs) (d : Dev) : Dev :=
  let d := { d with ndl := { d.ndl with partnerCommands := false } }
  if d.running && d.mde.cyc.running && d.linkUp && (d.pair.state == .stbySyncing || d.pair.state == .stbySynced) then takeCommand r 3 d else d

/-- RELINQUISH_RX [15 R442]. -/
def execRelinquishRx (s : State) : Host.Outcome State Fault Refusal := onDev s relinquishRx

/-- HB_TOGGLE: every 500 µs of TB3 while the permit holds [15 R438]. -/
def hbToggle (_ : Regs) (d : Dev) : Dev :=
  if d.pair.permit.isSome && decide (d.pair.hbOutAt + 500000 ≤ d.tb3) then
    emit (.pin pinHbOut (!(d.pair.hbOut))) { d with pair := { d.pair with hbOut := !(d.pair.hbOut), hbOutAt := d.tb3 } }
  else d

/-- HB_TOGGLE [15 R438]. -/
def execHbToggle (s : State) : Host.Outcome State Fault Refusal := onDev s hbToggle

/-- Ticks in 1.5 cycle periods [15 R438]. -/
def Dev.permitTicks (d : Dev) : Nat := d.mde.cyc.periodNs * 3 / 8

/-- HB_PERMIT_LAPSE: 1.5 T after the last renewal [15 R438 R439]. -/
def hbPermitLapse (r : Regs) (d : Dev) : Dev :=
  match d.pair.permit with
  | some t => if t + d.permitTicks ≤ d.now then relinquish r 13 (dropPermit d) else d
  | none => d

/-- HB_PERMIT_LAPSE [15 R439]. -/
def execHbPermitLapse (s : State) : Host.Outcome State Fault Refusal := onDev s hbPermitLapse

/-- A channel has an enabled CMD cell [15 R443]. -/
def hasCmd (r : Regs) (n : Nat) : Bool :=
  r.on F.CAN_SB_CFG_EN n == 1 &&
    (List.range (sbRows r n)).any fun i => (List.range (sbCols r n)).any fun j => (sbCell r n i j).1 == 1

/-- The three conditions of R443 hold now; take-over rules rest while no cuts are made [15 R443 R445]. -/
def silentNow (r : Regs) (d : Dev) : Bool :=
  d.running && d.mde.cyc.running && d.pair.state.role == 2 && !(d.pair.hbIn) && !(d.linkUp) &&
    (List.range 8).all fun n => !(hasCmd r n) || decide (0 < (at' d.can.ch n).emptyRun)

/-- Since when the conditions of R443 have held together [15 R443]. -/
def silentWatch (r : Regs) (d : Dev) : Dev :=
  { d with pair := { d.pair with silentAt := if silentNow r d then some (d.pair.silentAt.getD d.now) else none } }

/-- HB_IN_EDGE: alive after three edges spaced 400 to 600 µs [15 R438]. -/
def hbInEdge (r : Regs) (d : Dev) : Dev :=
  let near := match d.pair.hbInAt with | some t => decide (ticksUs 400 ≤ d.now - t) && decide (d.now - t ≤ ticksUs 600) | none => false
  let n := if near then min (d.pair.hbInRun + 1) 3 else 1
  silentWatch r { d with pair := { d.pair with hbInAt := some d.now, hbInRun := n, hbIn := d.pair.hbIn || n == 3 } }

/-- HB_IN_EDGE [15 R438]. -/
def execHbInEdge (s : State) : Host.Outcome State Fault Refusal := onDev s hbInEdge

/-- PARTNER_LOST: link down and HB_IN stopped [15 R461]. -/
def partnerLost (before : Bool) (d : Dev) : Dev := raiseIf (!before && !(d.linkUp) && !(d.pair.hbIn)) 0x27 2 d

/-- The partner is lost: link down and HB_IN stopped. -/
def Dev.lost (d : Dev) : Bool := !(d.linkUp) && !(d.pair.hbIn)

/-- HB_IN_STOP: no edge for 1.2 ms [15 R438]. -/
def hbInStop (r : Regs) (d : Dev) : Dev :=
  let due := match d.pair.hbInAt with | some t => decide (t + 300000 ≤ d.now) | none => true
  if due then silentWatch r (partnerLost d.lost { d with pair := { d.pair with hbIn := false, hbInRun := 0 } }) else d

/-- HB_IN_STOP [15 R438]. -/
def execHbInStop (s : State) : Host.Outcome State Fault Refusal := onDev s hbInStop

/-- SEEK_TIMEOUT: SEEK without the link [15 R430]. (log 80) -/
def seekTimeout (r : Regs) (d : Dev) : Dev :=
  if d.pair.state == .seeking && !(d.linkUp) && decide (d.pair.seekAt + ticksS (r.get F.PAIR_CFG_SEEK) ≤ d.now) then
    if !(d.pair.seekHeard) && (d.pair.unitId == 0 || !(d.pair.hbIn)) then takeCommand r 11 d
    else pairTo r .degraded 11 d
  else d

/-- SEEK_TIMEOUT [15 R430]. -/
def execSeekTimeout (s : State) : Host.Outcome State Fault Refusal := onDev s seekTimeout

end Sys2Proof.Machine
end

