-- ==== Sys2Proof/Machine/Time.lean ====
section
/-! DEFINITION. Time bases and their servos, and device time from satellites: pages TIM and GNS2 [05 R152 to R166, 14 R403 to R414]. -/

namespace Sys2Proof.Machine

/-! ### Bases and servos -/

/-- The main die runs: it is out of RESET and BOOT. -/
def Dev.awake (d : Dev) : Bool := !(d.mde.dstate == .reset) && !(d.mde.dstate == .boot)

/-- Servo of base `i`. -/
def Dev.srv (d : Dev) (i : Nat) : Servo := at' d.tim.srv i
/-- Servo of base `i` changed. -/
def modSrv (i : Nat) (f : Servo → Servo) (d : Dev) : Dev := { d with tim := { d.tim with srv := modAt d.tim.srv i f } }

/-- The TB0 servo follows the partner unit [14 R409]. -/
def Dev.followsPartner (d : Dev) : Bool := d.running && (d.pair.state == .stbySyncing || d.pair.state == .stbySynced)

/-- MODE in effect on a base: in the standby states TB0 runs as with MODE = 1 [14 R409]. -/
def srvMode (r : Regs) (d : Dev) (i : Nat) : Nat := if i = 0 && d.followsPartner then 1 else r.at F.TIM_SRV_CFG_MODE i

/-- Source in use on a base: 5 for the partner unit [14 R409]. -/
def srvSrc (r : Regs) (d : Dev) (i : Nat) : Nat := if i = 0 && d.followsPartner then 5 else r.at F.TIM_SRV_CFG_SRC i

/-- The increment of a correction y in ppb, in 2⁻³² ns, rounded [14 R411]. -/
def incOf (y : F64) : Nat :=
  (((F64.one.sub (y.mul (frac 1 1000000000))).mul (F64.ofInt (4 * 2 ^ 32))).round).toNat

/-- The increment of a base set [14 R404]. -/
def TimeBase.setInc (t : TimeBase) (v : Nat) : TimeBase := { t with incInt := v / 2 ^ 32, incFrac := v % 2 ^ 32 }

/-- FREQ_MAX, and SLEW_MAX of a base: at most 50 ppb for TB0 [14 R411]. -/
def slewMax (r : Regs) (i : Nat) : F64 :=
  let s := r.f64 F.TIM_SRV_SLEW_SLEW_MAX i
  if i = 0 then F64.min s (F64.ofInt 50) else s

/-- A servo update by an offset of `ps` picoseconds [14 R411]. (log 89) -/
def servoUpdate (r : Regs) (i : Nat) (ps : Int) (d : Dev) : Dev :=
  let s := d.srv i
  let th := F64.ofRatio ps 1000
  let fm := r.f64 F.TIM_SRV_FMAX_FREQ_MAX i
  let sm := slewMax r i
  let i' := match s.lastAt with
    | none => s.i.to64
    | some t =>
      let tau := F64.clamp (secOfNs ((d.tb3 : Int) - t)) (frac 1 1000) (F64.ofInt 16)
      F64.clamp (s.i.to64.add (((r.f64 F.TIM_SRV_KI_KI i).mul th).mul tau)) fm.neg fm
  let p0 := (r.f64 F.TIM_SRV_KP_KP i).mul th
  let p := F64.clamp p0 sm.neg sm
  let y0 := i'.add p
  let y := F64.clamp y0 fm.neg fm
  let pc := !(p == p0)
  let yc := !(y == y0)
  let d := modSrv i (fun s => { s with
    i := i'.to32, p := p.to32, y := y.to32, ofs := wrapS 32 (ps / 1000), updates := wrapInc 16 s.updates,
    pClamp := pc, yClamp := yc, lastAt := some d.tb3, lastOfs := d.tb3 }) d
  let d := d.modTb i fun t => t.setInc (incOf y)
  raiseIf yc 0x21 3 (raiseIf (pc && !(s.pClamp)) 0x21 7 d)

/-- The lock state of TB1 or TB2 after an offset of `ns` [14 R413]. -/
def lockJudge (r : Regs) (i : Nat) (ns : Int) (d : Dev) : Dev :=
  let s := d.srv i
  let ok := decide (ns.natAbs ≤ r.at F.TIM_SRV_LOCK_THR i)
  let g := if ok then min (s.good + 1) 4 else 0
  let b := if ok then 0 else min (s.bad + 1) 4
  let st : SrvState := if g = 4 then .locked else if b = 4 then .acquiring else if s.state == .locked then .locked else .acquiring
  let d := modSrv i (fun s => { s with good := g, bad := b, state := st }) d
  raiseIf (s.state == .locked && !(st == .locked)) 0x21 1 (raiseIf (!(s.state == .locked) && st == .locked) 0x21 0 d)

/-- An offset of TB1 or TB2 from its source [14 R409 R413]. -/
def baseOffset (r : Regs) (i : Nat) (ns : Int) (d : Dev) : Dev :=
  if srvMode r d i = 1 then lockJudge r i ns (servoUpdate r i (1000 * ns) d) else d

/-- A servo enters HOLDOVER: its next update is a first one [14 R411 R413]. (log 89) -/
def servoHold (i : Nat) (d : Dev) : Dev :=
  let s := d.srv i
  let d := modSrv i (fun s => { s with state := .holdover, lastAt := none, good := 0, bad := 0 }) d
  raise 0x21 2 (raiseIf (s.state == .locked) 0x21 1 d)

/-! ### GNS2: the state of TB0 -/

/-- Root mean square of the offsets of the last 60 s, ns [05 R153]. -/
def ofsRms (h : List (Nat × Int)) : Nat :=
  if h.isEmpty then 0
  else
    let s : Nat := h.foldl (fun (a : Nat) e => a + e.2.natAbs * e.2.natAbs) 0
    (((F64.ofRatio s h.length).sqrt).round).toNat

/-- A change of the TB0 state, with the interrupts of GNS2 and TIM [05 R166, 14 R412 R425]. -/
def setTime (st : TimeState) (d : Dev) : Dev :=
  let old := d.gns2.st
  let d := { d with gns2 := { d.gns2 with st := st } }
  let d := raiseIf (st == .locked && (old == .holdover || old == .slewing)) 0x0E 2 d
  let d := raiseIf (st == .locked && !(old == .locked)) 0x21 0 d
  raiseIf (old == .locked && !(st == .locked)) 0x21 1 d

/-- An offset feeds the TB0 servo and its rms [05 R152 R153]. -/
def tb0Feed (r : Regs) (ps : Int) (d : Dev) : Dev :=
  let h := (d.now, ps / 1000) :: d.gns2.hist.filter fun e => decide (d.now < e.1 + ticksS 60)
  let d := { d with gns2 := { d.gns2 with hist := h, held := false, cand := [], estErr := ofsRms h } }
  servoUpdate r 0 ps d

/-- The first TB0 second boundary at least 100 ms ahead, ns [05 R154]. -/
def Dev.stepBoundary (d : Dev) : Nat := ((d.tb0 + 100000000 + nsPerSec - 1) / nsPerSec) * nsPerSec

/-- Three offsets agree within 100 ns [05 R154]. -/
def agree3 (l : List Int) : Bool :=
  match l with
  | [a, b, c] => decide ((a - b).natAbs ≤ 100) && decide ((b - c).natAbs ≤ 100) && decide ((a - c).natAbs ≤ 100)
  | _ => false

/-- An offset held back: three that agree set a step, announced to a synchronising partner [05 R154 R156 R157]. (log 24) -/
def tb0Hold (ns : Int) (d : Dev) : Dev :=
  let c := (ns :: d.gns2.cand).take 3
  let d := { d with gns2 := { d.gns2 with cand := c, held := true } }
  if agree3 c && d.gns2.stepAt.isNone then
    let s := d.stepBoundary
    let d := { d with gns2 := { d.gns2 with stepAt := some s, stepOfs := ns } }
    if d.isPrimary && d.linkUp then ndlSend .stepAnnounce [s, wrapU 64 ns] d else d
  else d

/-- GNS2 judges an offset of TB0, in ps [05 R152 R154 R156, 14 R412]. In LOCKED an offset above 1 µs is judged by R154 as in SLEWING (log 24). -/
def tb0Offset (r : Regs) (ps : Int) (d : Dev) : Dev :=
  if srvMode r d 0 ≠ 1 then d
  else
    let ns := ps / 1000
    let inhibit := r.bit F.GNS2_TIME_CFG_STEP_INHIBIT && !(d.followsPartner)
    let d := { d with gns2 := { d.gns2 with offset := ns, theta := ps, thetaAt := d.tb0, lastSol := some d.now } }
    let d := modSrv 0 (fun s => { s with ofs := wrapS 32 ns, lastOfs := d.tb3 }) d
    match d.gns2.st with
    | .unsync => tb0Hold ns d
    | .locked => if ns.natAbs ≤ 1000 then tb0Feed r ps d else if inhibit then tb0Feed r ps (setTime .slewing d) else tb0Hold ns d
    | _ =>
      if ns.natAbs ≤ 20 then tb0Feed r ps (setTime .locked { d with gns2 := { d.gns2 with stepAt := none } })
      else if ns.natAbs ≤ 1000 || inhibit then tb0Feed r ps (setTime .slewing { d with gns2 := { d.gns2 with stepAt := none } })
      else tb0Hold ns d

/-- The estimated error of a holdover after `t` seconds, ns [05 R153]. -/
def holdErr (r : Regs) (e0 t : Nat) : F64 :=
  let u := r.f64 F.GNS2_OSC_U0_V
  let dr := (r.f64 F.GNS2_OSC_DRIFT_V).div (F64.ofInt 3600)
  let tf := F64.ofInt t
  ((F64.ofInt e0).add (u.mul tf)).add (((F64.half.mul dr).mul tf).mul tf)

/-- Entry into HOLDOVER, with any pending step cancelled [05 R152 R153 R154]. (log 89) -/
def tb0Holdover (d : Dev) : Dev :=
  let d := { d with gns2 := { d.gns2 with stepAt := none, cand := [], held := false } }
  let d := modSrv 0 (fun s => { s with lastAt := none }) d
  match d.gns2.st with
  | .locked | .slewing =>
    let e0 := ofsRms d.gns2.hist
    let d := { d with gns2 := { d.gns2 with holdStart := d.tb0, holdBase := 0, e0 := e0, estErr := e0, limitPassed := false } }
    raise 0x21 2 (raise 0x0E 1 (setTime .holdover d))
  | _ => d

/-- Ticks without an offset after which TB0 enters HOLDOVER [05 R152, 14 R414]. -/
def tb0Timeout (r : Regs) (d : Dev) : Nat :=
  ticksS (if srvSrc r d 0 = 1 then r.get F.GNS2_TIME_CFG_HOLD_DELAY else r.at F.TIM_SRV_LOCK_TIMEOUT 0)

/-- No offset of TB0 has come for its timeout. -/
def tb0Silent (r : Regs) (d : Dev) : Bool :=
  match d.gns2.lastSol with
  | some t => decide (t + tb0Timeout r d ≤ d.now)
  | none => true

/-! ### Steps -/

/-- Pending launches in base `b` move by `dt` ns: on the CAN channels for TB0, and in the Ethernet queues of that base [14 R408]. -/
def shiftLaunches (r : Regs) (b : Nat) (dt : Int) (d : Dev) : Dev :=
  let mv := fun (t : Nat) => wrapU 64 ((t : Int) + dt)
  let d := if b = 0 then
      { d with can := { d.can with ch := d.can.ch.map fun (c : CanCh) => { c with launchAt := c.launchAt.map fun e => (e.1, mv e.2) } } }
    else d
  { d with eth := mapI (fun n (e : EthSt) =>
      { e with queues := mapI (fun q l => if r.on F.ETH_TXQ_CFG_TB n q = b then l.map fun (f : TxFrame) => { f with time := mv f.time } else l) e.queues }) d.eth }

/-- The cuts after TB0 has moved by `dt`: the next one keeps its instant, and the shorter way back to the multiples is worked off later [01 R29]. (log 53) -/
def realignCuts (dt : Int) (d : Dev) : Dev :=
  let c := d.mde.cyc
  let next := wrapU 80 ((c.nextCut : Int) + dt)
  let off := next % c.periodNs
  let left : Int := if off = 0 then 0 else if 2 * off < c.periodNs then -(off : Int) else (c.periodNs : Int) - off
  let c := { c with cutTb0 := wrapU 80 ((c.cutTb0 : Int) + dt), nextCut := next }
  { d with mde := { d.mde with cyc := if c.running then { c with realignLeft := left } else c } }

/-- Second number of the next pulse after the last one pulsed or passed over [05 R158]. -/
def Dev.nextPulse (r : Regs) (d : Dev) : Nat :=
  let adv := r.int F.GNS2_PPS_ADV_ADV
  let s := (((d.tb0 : Int) + adv) / nsPerSec).toNat + 1
  let s := match d.gns2.pulsed with | some p => max s (p + 1) | none => s
  max s (d.gns2.skipTo + 1)

/-- TB0 ns at which the pulse of second `s` starts [05 R158]. -/
def pulseTime (r : Regs) (s : Nat) : Int := (s : Int) * nsPerSec - r.int F.GNS2_PPS_ADV_ADV

/-- The first output instant of a chain at `f` Hz after TB0 time `t`: a second boundary plus n / f, in ns rounded down [06 R183]. -/
def gridAfter (f t : Nat) : Nat :=
  let s := t / nsPerSec
  let n := (t % nsPerSec) * f / nsPerSec + 1
  let x := s * nsPerSec + n * nsPerSec / f
  if t < x then x else s * nsPerSec + (n + 1) * nsPerSec / f

/-- Output rate of modulator `m`, Hz [06 FLT MOD_CFG]. -/
def fltRate (r : Regs) (m : Nat) : Nat := r.get F.FLT_MOD_CFG_RATE (m / 4) (m % 4)

/-- After a TB0 step the first output instant of each chain lies on the new grid [06 R189]. -/
def regrid (r : Regs) (d : Dev) : Dev :=
  { d with flt := { d.flt with mods := mapI (fun m (x : FltMod) => { x with nextOut := gridAfter (fltRate r m) d.tb0 }) d.flt.mods } }

/-- Every stored TB0 instant of sources and fusion after a step: snapshots, logs, samples, the attitude line, records that wait, and every clock estimate [07 R214]. (log 89) -/
def shiftStamps (dt : Int) (d : Dev) : Dev :=
  let mv := fun (t : Nat) => wrapU 64 ((t : Int) + dt)
  let mo := fun (t : Option Nat) => t.map mv
  let rec_ := fun (x : SrcRecord) => { x with stamp := mv x.stamp, arrival := mv x.arrival, senderAdd := x.senderAdd + dt }
  let ms := fun (m : Meas) => { m with tf := mv m.tf, r := rec_ m.r }
  let rr := fun (x : Rerun) => { x with from_ := mv x.from_, late := x.late.map ms }
  let fs := fun (x : FusSrc) => { x with
    predAt := mo x.predAt, fusedAt := mo x.fusedAt, ofs := x.ofs.add (secOfNs dt), ress := x.ress.map fun e => (mv e.1, e.2)
    clkPrev := mo x.clkPrev, clkFirst := mo x.clkFirst, quietAt := mo x.quietAt, passAt := mo x.passAt, voteAt := mo x.voteAt
    samples := x.samples.map fun (s : RefSample) => { s with at_ := mv s.at_ }, latest := x.latest.map rec_ }
  let tg := fun (x : TgtSt) => { x with
    posAt := mo x.posAt, hdgAt := mo x.hdgAt, waiting := x.waiting.map ms, rerun := x.rerun.map rr }
  { d with
    fus := { d.fus with
      srcs := d.fus.srcs.map fs, tgt := d.fus.tgt.map tg
      snaps := d.fus.snaps.map fun (s : Snapshot) => { s with at_ := mv s.at_, next := s.next.map fun e => (mv e.1, e.2) }
      log := d.fus.log.map ms, waiting := d.fus.waiting.map ms, rerun := d.fus.rerun.map rr
      posAt := mv d.fus.posAt, hdgAt := mo d.fus.hdgAt, velAt := mo d.fus.velAt
      initPos := d.fus.initPos.map ms, initHdg := d.fus.initHdg.map ms }
    src := { d.src with
      queue := d.src.queue.map rec_, att := d.src.att.map fun (e : AttEntry) => { e with at_ := mv e.at_ }
      srcs := d.src.srcs.map fun (s : SourceSt) => { s with lastValid := mo s.lastValid }
      gst := d.src.gst.map fun (e : GstEntry) => { e with at_ := mv e.at_ }
      taut := d.src.taut.map fun (e : TautWait) => { e with at_ := mv e.at_ }
      pairs := d.src.pairs.map fun (e : PairWait) => { e with at_ := mv e.at_ }
      ain := d.src.ain.map fun l => l.map fun (e : AinSample) => { e with at_ := mv e.at_ } } }

/-- A step of TB0 by `dt` ns on this tick; its record enters with the time before the step [05 R155 R160, 14 R408 R412, 17 R494 R499]. (log 89) -/
def stepTb0 (r : Regs) (dt : Int) (d : Dev) : Dev :=
  let old := d.tb0
  let kind := if d.gns2.st == .unsync then 1 else if d.followsPartner then 2 else if srvSrc r d 0 ≠ 1 then 3 else 0
  let d := record r .clockStep (Par.wide ((d.tb 0).step dt).total kind) d
  let d := { d with evt := { d.evt with stepAt := some (d.now, old) } }
  let d := d.modTb 0 fun t => t.step dt
  let new := d.tb0
  let fm := r.f64 F.TIM_SRV_FMAX_FREQ_MAX 0
  let y := F64.clamp (d.srv 0).i.to64 fm.neg fm
  let d := modSrv 0 (fun s => { s with p := F32.zero, y := y.to32, lastAt := none }) d
  let d := d.modTb 0 fun t => t.setInc (incOf y)
  let d := regrid r (realignCuts dt (shiftStamps dt (shiftLaunches r 0 dt d)))
  let passed := if old < new then new / nsPerSec else d.gns2.skipTo
  let d := { d with gns2 := { d.gns2 with
    stepAt := none, cand := [], held := false, stepped := true, skipTo := max d.gns2.skipTo passed, thetaAt := wrapU 64 ((d.gns2.thetaAt : Int) + dt) } }
  let s := Dev.nextPulse r d
  let near := decide (pulseTime r s - (d.tb0 : Int) < 200000000)
  let d := if near then { d with gns2 := { d.gns2 with skipTo := s, suppressed := true } } else d
  raise 0x21 4 (raise 0x0E 3 d)

/-! ### Pulses -/

/-- TB0 in 2⁻³² ns. -/
def TimeBase.fine (t : TimeBase) : Nat := t.total * 2 ^ 32 + t.frac

/-- Increment of a base in 2⁻³² ns. -/
def TimeBase.inc (t : TimeBase) : Nat := t.incInt * 2 ^ 32 + t.incFrac

/-- The servo's estimate of TB0's fractional frequency error: what the integral says less what is corrected (log 25) [05 R159]. -/
def Dev.freqErr (d : Dev) : F64 := ((d.srv 0).i.to64.sub (d.srv 0).y.to64).mul (frac 1 1000000000)

/-- QERR of the pulse of second `s` whose edge falls at `edge`, 2⁻³² ns of TB0; in ps [05 R159]. (log 25) -/
def qerrOf (r : Regs) (d : Dev) (s : Nat) (edge : Nat) : Int :=
  let e : Int := ((edge : Int) * 1000) / 2 ^ 32
  let ref0 : Int := pulseTime r s * 1000
  if d.gns2.st == .holdover then e - ref0
  else
    let dt := ((s : Int) * nsPerSec - d.gns2.thetaAt)
    let drift := (((d.freqErr).mul (F64.ofInt dt)).mul (F64.ofInt 1000)).round
    e - (ref0 + d.gns2.theta + drift)

/-- The edge of the pulse of second `s` as the present increment predicts it, 2⁻³² ns of TB0. -/
def predictEdge (r : Regs) (d : Dev) (s : Nat) : Nat :=
  let t := d.tb 0
  let due := (pulseTime r s).toNat * 2 ^ 32
  if due ≤ t.fine then t.fine else t.fine + ((due - t.fine + t.inc - 1) / t.inc) * t.inc

/-- GNS2_PPS_CFG.MODE allows a pulse now [05 R158]. -/
def ppsAllowed (r : Regs) (d : Dev) : Bool :=
  match r.get F.GNS2_PPS_CFG_MODE with
  | 0 => false
  | 1 =>
    (match d.gns2.st with
     | .locked | .slewing => true
     | .holdover => decide (d.gns2.estErr ≤ r.get F.GNS2_HOLD_LIMIT_LIMIT)
     | .unsync => false)
  | _ => true

/-- PPS_PULSE [05 R158 R159]: on the first tick at which TB0 has reached the pulse instant of a second not yet pulsed. -/
def ppsPulse (r : Regs) (d : Dev) : Dev :=
  let adv := r.int F.GNS2_PPS_ADV_ADV
  let s := (((d.tb0 : Int) + adv) / nsPerSec).toNat
  let past := (d.tb0 : Int) - pulseTime r s
  let fresh := (match d.gns2.pulsed with | some p => decide (p < s) | none => true) && decide (d.gns2.skipTo < s)
  if d.awake && ppsAllowed r d && fresh && decide (past < 5) then
    let lvl := !(r.bit F.GNS2_PPS_CFG_POL)
    emit (.pin pinPps lvl) { d with gns2 := { d.gns2 with
      pulsed := some s, pps := lvl, pulseEnd := some (d.now + ticksUs (r.get F.GNS2_PPS_CFG_WIDTH)),
      qerr := qerrOf r d s (d.tb 0).fine, stepped := false } }
  else d

/-- PPS_PULSE_END [05 R158]. -/
def ppsPulseEnd (r : Regs) (d : Dev) : Dev :=
  match d.gns2.pulseEnd with
  | some t =>
    if t ≤ d.now then
      emit (.pin pinPps (r.bit F.GNS2_PPS_CFG_POL)) { d with gns2 := { d.gns2 with pulseEnd := none, pps := r.bit F.GNS2_PPS_CFG_POL } }
    else d
  | none => d

/-- Number of a TB0 state [05 TIME_STAT]. -/
def TimeState.code (s : TimeState) : Nat :=
  match s with | .unsync => 0 | .locked => 1 | .holdover => 2 | .slewing => 3

/-- Seconds since the present holdover began, 0 outside HOLDOVER [05 R160]. -/
def Dev.holdAge (d : Dev) : Nat :=
  if d.gns2.st == .holdover then d.gns2.holdBase + (d.tb0 - d.gns2.holdStart) / nsPerSec else 0

/-- The 32 bytes of the time message of second `s` [05 R160]. -/
def tpBytes (r : Regs) (d : Dev) (s : Nat) : List Byte :=
  let g := d.gns2
  let q := qerrOf r d s (predictEdge r d s)
  let flags := b2n (g.st == .holdover) + 2 * b2n g.stepped + 4 * b2n g.leapPending + 8 * b2n g.suppressed
    + 16 * b2n (r.bit F.GNS2_TIME_CFG_STEP_INHIBIT && !(d.followsPartner))
  leBytes 8 (s * nsPerSec) ++ leBytes 4 (wrapU 32 q) ++ leBytes 4 (min g.estErr (2 ^ 32 - 1)) ++ leBytes 2 (wrapU 16 g.taiUtc)
    ++ leBytes 1 g.st.code ++ leBytes 1 flags ++ leBytes 4 d.holdAge ++ leBytes 4 (d.freqErr.to32).nat ++ leBytes 2 g.seq ++ leBytes 2 0

/-- TP_MSG: between 990 and 200 ms before the next pulse, once for it [05 R160]. -/
def tpMsg (r : Regs) (d : Dev) : Dev :=
  let s := Dev.nextPulse r d
  let left := pulseTime r s - (d.tb0 : Int)
  if d.awake && ppsAllowed r d && decide (200000000 ≤ left) && decide (left ≤ 990000000) && d.gns2.msgFor != some s then
    let b := tpBytes r d s
    raise 0x0E 0 { d with gns2 := { d.gns2 with
      tpMsg := (List.range 8).map fun i => BitVec.ofNat 32 (leAt b (4 * i) 4), msgFor := some s, seq := wrapInc 16 d.gns2.seq, suppressed := false } }
  else d

/-! ### Kept data -/

/-- Position and velocity of a POS record: latitude, longitude, height, north, east, down velocity [05 R151]. -/
def posOf (w : List Word) : List F64 :=
  wordsF64 (at' w 4) (at' w 5) :: wordsF64 (at' w 6) (at' w 7) :: [8, 9, 10, 11].map fun i => (wordF32 (at' w i)).to64

/-- The data of the always-on domain renewed from the running device [05 R161]; taken at each cut out of DORMANT. -/
def keepData (d : Dev) : Dev :=
  let g := d.gns1
  let eph := g.sats.countP fun s => s.eph.isSome
  let newest := g.sats.foldl (fun m s => max m (s.eph.getD 0)) 0
  { d with gns2 := { d.gns2 with kept := { d.gns2.kept with
      alm := d.gns2.kept.alm || g.sats.any (fun s => s.alm), eph := eph, ephAt := newest,
      pos := if g.type = 0 then d.gns2.kept.pos else some (posOf g.posRec),
      ofs := if d.gns2.st == .unsync then d.gns2.kept.ofs else some ((d.tb0 : Int) - d.tb3),
      e0 := ofsRms d.gns2.hist, isb := g.isb, iono := g.iono, taiUtc := d.gns2.taiUtc, at_ := some (d.tb3 / nsPerSec) } } }

/-- TB0 restored at a wake or a reset from TB3 and the kept offset, with the state its error estimate gives [05 R164, 18 R527]. (log 15) -/
def restoreTb0 (r : Regs) (d : Dev) : Dev :=
  match d.gns2.kept.ofs, d.gns2.kept.at_ with
  | some o, some t =>
    let v := wrapU 78 ((d.tb3 : Int) + o)
    let d := d.modTb 0 fun b => { b with sec := v / nsPerSec % 2 ^ 48, ns := v % nsPerSec, frac := 0 }
    let age := d.tb3 / nsPerSec - t
    let e := holdErr r d.gns2.kept.e0 age
    let ok := e.le (F64.ofInt 1000000)
    { d with gns2 := { d.gns2 with
        st := if ok then .holdover else .unsync, holdStart := d.tb0, holdBase := age, e0 := d.gns2.kept.e0,
        estErr := (e.round).toNat, limitPassed := false, stepAt := none, cand := [], held := false, lastSol := none, hist := [],
        taiUtc := d.gns2.kept.taiUtc } }
  | _, _ =>
    let d := d.modTb 0 fun b => { b with sec := 0, ns := 0, frac := 0 }
    { d with gns2 := { d.gns2 with st := .unsync, stepAt := none, cand := [], held := false, lastSol := none, hist := [] } }

/-! ### Meanings: GNS2 -/

/-- HOLDOVER_ENTRY: no solution for HOLD_DELAY, or no offset for TIMEOUT where another source is in use [05 R152, 14 R414]. -/
def holdoverEntry (r : Regs) (d : Dev) : Dev :=
  if d.awake && srvMode r d 0 == 1 && tb0Silent r d then tb0Holdover d else d

/-- HOLDOVER_ENTRY [05 R152]. -/
def execHoldoverEntry (s : State) : Host.Outcome State Fault Refusal := onDev s holdoverEntry

/-- HOLDOVER_ERR_UPDATE: each second of a holdover [05 R153]. -/
def holdoverErr (r : Regs) (d : Dev) : Dev :=
  if d.gns2.st == .holdover && decide ((d.tb0 - d.gns2.holdStart) % nsPerSec < 5) then
    let e := ((holdErr r d.gns2.e0 d.holdAge).round).toNat
    let ovr := decide (r.get F.GNS2_HOLD_LIMIT_LIMIT < e)
    let first := ovr && !(d.gns2.limitPassed)
    raiseIf first 0x0E 4 { d with gns2 := { d.gns2 with estErr := min e (2 ^ 32 - 1), limitPassed := d.gns2.limitPassed || ovr } }
  else d

/-- HOLDOVER_ERR_UPDATE [05 R153]. -/
def execHoldoverErrUpdate (s : State) : Host.Outcome State Fault Refusal := onDev s holdoverErr

/-- CLOCK_STEP: TB0 reaches the step second [05 R155]. -/
def clockStep (r : Regs) (d : Dev) : Dev :=
  match d.gns2.stepAt with
  | some s => if s ≤ d.tb0 ∧ d.awake then setTime .locked (stepTb0 r (-(d.gns2.stepOfs)) d) else d
  | none => d

/-- CLOCK_STEP [05 R155]. -/
def execClockStep (s : State) : Host.Outcome State Fault Refusal := onDev s clockStep

/-- PPS_PULSE [05 R158]. -/
def execPpsPulse (s : State) : Host.Outcome State Fault Refusal := onDev s ppsPulse

/-- PPS_PULSE_END [05 R158]. -/
def execPpsPulseEnd (s : State) : Host.Outcome State Fault Refusal := onDev s ppsPulseEnd

/-- TP_MSG [05 R160]. -/
def execTpMsg (s : State) : Host.Outcome State Fault Refusal := onDev s tpMsg

/-- DORMANT_REFRESH: at the asleep level, REFRESH hours after the last [03 R93, 05 R163]. -/
def dormantRefresh (r : Regs) (d : Dev) : Dev :=
  let h := r.get F.MDE_DORM_CFG_REFRESH
  if d.mde.dorm == .asleep && decide (h ≠ 0) && decide (d.mde.refreshAt + 3600 * h ≤ d.tb3 / nsPerSec) then
    { d with mde := { d.mde with dorm := .refresh, refreshFrom := d.tb3 / nsPerSec }, pwr := { d.pwr with on := d.pwr.on ||| 0x28, pgood := d.pwr.pgood ||| 0x28 } }
  else d

/-- DORMANT_REFRESH [05 R163]. -/
def execDormantRefresh (s : State) : Host.Outcome State Fault Refusal := onDev s dormantRefresh

/-- KEPT_DATA_DISCARD: 30 days after the last refresh [05 R161]. -/
def keptDiscard (_ : Regs) (d : Dev) : Dev :=
  match d.gns2.kept.at_ with
  | some t => if t + 2592000 ≤ d.tb3 / nsPerSec then { d with gns2 := { d.gns2 with kept := {} } } else d
  | none => d

/-- KEPT_DATA_DISCARD [05 R161]. -/
def execKeptDataDiscard (s : State) : Host.Outcome State Fault Refusal := onDev s keptDiscard

/-! ### Meanings: TIM -/

/-- TIM_SNAP [14 R407]. -/
def execTimSnap (s : State) : Host.Outcome State Fault Refusal :=
  onDev s fun _ d => { d with tim := { d.tim with snap := d.tim.tb } }

/-- TIM_STEP_GO: TIM_STEP_CTL.GO steps TB1 or TB2, and is rejected for TB0 and TB3 [14 R408]. -/
def timStepGo (r : Regs) (d : Dev) : Regs × Dev :=
  let b := r.get F.TIM_STEP_CTL_TB
  if b = 1 ∨ b = 2 then
    let dt := wrapS 64 (r.get F.TIM_STEP_LO_STEP_LO + 2 ^ 32 * r.get F.TIM_STEP_HI_STEP_HI : Nat)
    let old := (d.tb b).total
    let d := shiftLaunches r b dt (d.modTb b fun t => t.step dt)
    (r, recordCont r .tbStep (Par.wide old b) (Par.wide (wrapU 64 dt) 0) (raise 0x21 4 d))
  else (r.reject 0x21 0x98 3, d)

/-- TIM_STEP_GO [14 R408]. -/
def execTimStepGo (s : State) : Host.Outcome State Fault Refusal := onRegs s timStepGo

/-- SRV_OFS_IN: a host offset for the selected base, discarded under any other source [14 R409]. (log 89) -/
def srvOfsIn (v : Nat) (r : Regs) (d : Dev) : Dev :=
  let b := r.get F.TIM_TB_SEL_TB
  let ns := wrapS 32 v
  if srvSrc r d b ≠ 0 ∨ 3 ≤ b then d
  else if b = 0 then tb0Offset r (1000 * ns) d
  else baseOffset r b ns d

/-- SRV_OFS_IN [14 R411]. -/
def execSrvOfsIn (v : Nat) (s : State) : Host.Outcome State Fault Refusal := onDev s (srvOfsIn v)

/-- Offset of a base's time from the nearest whole second, less the cable delay [14 R409 R410]. -/
def ppsOffset (t delay : Nat) : Int :=
  let x : Int := (t : Int) - delay
  let f := x % nsPerSec
  if 2 * f < nsPerSec then f else f - nsPerSec

/-- A PPS_IN offset of one base, discarded beyond 0.45 s [14 R410]. -/
def ppsTo (r : Regs) (b : Nat) (d : Dev) : Dev :=
  if srvSrc r d b = 2 ∧ srvMode r d b = 1 then
    let o := ppsOffset (d.tb b).total (r.get F.TIM_PPSIN_CFG_DELAY)
    if 450000000 < o.natAbs then { d with tim := { d.tim with ppsAmbig := wrapInc 8 d.tim.ppsAmbig } }
    else if b = 0 then tb0Offset r (1000 * o) d
    else baseOffset r b o d
  else d

/-- PPSIN_EDGE [14 R410]. -/
def ppsinEdge (r : Regs) (d : Dev) : Dev :=
  if r.bit F.TIM_PPSIN_CFG_EN && d.awake then
    let d := raise 0x21 5 { d with tim := { d.tim with
      ppsEdges := wrapInc 16 d.tim.ppsEdges, ppsT := d.tim.tb.map TimeBase.total, ppsAt := some d.now, ppsLost := false } }
    ppsTo r 2 (ppsTo r 1 (ppsTo r 0 d))
  else d

/-- PPSIN_EDGE [14 R410]. -/
def execPpsinEdge (s : State) : Host.Outcome State Fault Refusal := onDev s ppsinEdge

/-- PPSIN_LOST: no edge for 2 s [14 R410]. -/
def ppsinLost (r : Regs) (d : Dev) : Dev :=
  let due := match d.tim.ppsAt with | some t => decide (t + ticksS 2 ≤ d.now) | none => decide (ticksS 2 ≤ d.now)
  if r.bit F.TIM_PPSIN_CFG_EN && due && !(d.tim.ppsLost) then raise 0x21 6 { d with tim := { d.tim with ppsLost := true } } else d

/-- PPSIN_LOST [14 R410]. -/
def execPpsinLost (s : State) : Host.Outcome State Fault Refusal := onDev s ppsinLost

/-- SERVO_HOLDOVER: no offset for TIM_SRV_LOCK.TIMEOUT [14 R413 R414]. -/
def servoHoldover (tb : Nat) (r : Regs) (d : Dev) : Dev :=
  if srvMode r d tb ≠ 1 then d
  else if tb = 0 then (if srvSrc r d 0 ≠ 1 ∧ tb0Silent r d then tb0Holdover d else d)
  else if tb < 3 ∧ !((d.srv tb).state == .holdover) ∧ !((d.srv tb).state == .off) ∧
      (d.srv tb).lastOfs + r.at F.TIM_SRV_LOCK_TIMEOUT tb * nsPerSec ≤ d.tb3 then servoHold tb d
  else d

/-- SERVO_HOLDOVER [14 R413]. -/
def execServoHoldover (tb : Nat) (s : State) : Host.Outcome State Fault Refusal := onDev s (servoHoldover tb)

/-- TB_SECOND_LATCH: TB0 less TB1 or TB2 at the tick of a TB0 second boundary [14 R409]. -/
def tbSecondLatch (r : Regs) (d : Dev) : Dev :=
  let sec := d.tb0 / nsPerSec
  if d.awake && decide (d.tb0 % nsPerSec < 5) && sec != d.tim.secLatched then
    let d := { d with tim := { d.tim with secLatched := sec } }
    match srvSrc r d 0 with
    | 3 => tb0Offset r (1000 * ((d.tb0 : Int) - (d.tb 1).total)) d
    | 4 => tb0Offset r (1000 * ((d.tb0 : Int) - (d.tb 2).total)) d
    | _ => d
  else d

/-- TB_SECOND_LATCH [14 R409]. -/
def execTbSecondLatch (s : State) : Host.Outcome State Fault Refusal := onDev s tbSecondLatch

/-- Committed TIM fields of base `b` have come into force: a change of MODE or SRC starts, stops or restarts its servo, and MODE 0 takes TIM_TB_INC [14 R411 R414]. (log 89) -/
def timApplied (b : Nat) (keys : List (Nat × Nat)) (r : Regs) (d : Dev) : Dev :=
  let changed := hasField keys F.TIM_SRV_CFG_MODE b || hasField keys F.TIM_SRV_CFG_SRC b
  let m := srvMode r d b
  let d := if changed then
      let st : SrvState := match m with | 0 => .off | 1 => .acquiring | _ => .holdover
      let d := modSrv b (fun s => { s with lastAt := none, lastOfs := d.tb3, good := 0, bad := 0, state := st }) d
      if b = 0 ∧ m ≠ 1 then tb0Holdover d else d
    else d
  if m = 0 then d.modTb b fun t => { t with incInt := r.at F.TIM_TB_INC_INT_INT b, incFrac := r.at F.TIM_TB_INC_FRAC b } else d

end Sys2Proof.Machine
end

