-- ==== Sys2Proof/Machine/Source.lean ====
section
/-! DEFINITION. Sensor sources: pages SRC, FLT and SIO. Records are parsed, stamped, projected and queued for fusion [06]. -/

namespace Sys2Proof.Machine

/-! ### Sources -/

/-- A source changed. -/
def modSource (i : Nat) (f : SourceSt → SourceSt) (d : Dev) : Dev := { d with src := { d.src with srcs := modAt d.src.srcs i f } }
/-- Source `i`. -/
def Dev.source (d : Dev) (i : Nat) : SourceSt := at' d.src.srcs i
/-- SOURCE record of source `i` in force, none when it is UNUSED [06 R167]. -/
def Dev.sourceRec (d : Dev) (i : Nat) : Option SourceRec := d.descr.sources.find? fun s => s.id == i
/-- SENSOR record of a source. -/
def Dev.sensorOf (d : Dev) (s : SourceRec) : SensorRec := (d.descr.sensors.find? fun m => m.id == s.sensor).getD {}
/-- SENSOR record of antenna `a` of unit `u` [02 R43, 05 R142]. -/
def Dev.antennaOf (d : Dev) (u a : Nat) : Option SensorRec :=
  d.descr.sensors.find? fun m => m.kind == 0 && (m.unit == u || m.unit == 255) && m.ant == a
/-- The antenna's mounting, zeros without one. -/
def Dev.antenna (d : Dev) (u a : Nat) : SensorRec := (d.antennaOf u a).getD {}
/-- A binary32 number of seconds as nanoseconds, rounded. -/
def nsOf32 (x : F32) : Nat := ((x.to64.mul (F64.ofInt nsPerSec)).round).toNat
/-- A number of seconds as timer ticks, rounded. -/
def ticksOf32 (x : F32) : Nat := ((x.to64.mul (F64.ofInt 250000000)).round).toNat

/-- Value classes of a record [06 R170]. -/
inductive SrcClass where
  | position | taut | posref | heading | attitude | rate | motion | wind | velEarth | velBody | analog
  deriving DecidableEq, Repr

/-- Class of a format; an analog source of sensor kind 3 is of class wind [06 R170 R180]. -/
def classOf (format kind : Nat) : SrcClass :=
  match format with
  | 0x0001 | 0x0010 | 0x0011 => .position
  | 0x0002 => .attitude
  | 0x0014 => .velEarth
  | 0x0015 | 0x0016 | 0x0201 => .heading
  | 0x0017 => .rate
  | 0x0018 | 0x0203 => .wind
  | 0x0019 => .velBody
  | 0x0202 | 0x0110 => .motion
  | 0x0204 => .posref
  | 0x0401 => .taut
  | _ => if kind = 3 then .wind else .analog

/-- The class needs the attitude line [06 R191]. -/
def SrcClass.needsAtt (c : SrcClass) : Bool :=
  match c with
  | .position | .taut | .posref | .velEarth | .velBody => true
  | _ => false

/-! ### Projection, in binary32 -/

/-- Attitude at an instant with the body angular rate. -/
structure AttNow where
  /-- C_nb -/
  c : M3
  /-- body angular rate -/
  w : V3

/-- Body angular rate from the rates of heading, pitch and roll [06 R190]. -/
def bodyRate (p rl hd pd rd : F32) : V3 :=
  ⟨rd.sub (hd.mul (sin32 p)),
   (pd.mul (cos32 rl)).add ((hd.mul (sin32 rl)).mul (cos32 p)),
   ((hd.mul (cos32 rl)).mul (cos32 p)).sub (pd.mul (sin32 rl))⟩

/-- Attitude at TB0 instant `t` from the attitude line, none where R192 gives none. -/
def Dev.attAt (d : Dev) (t : Nat) : Option AttNow :=
  match d.src.att.find? (fun e => decide (e.at_ ≤ t)) with
  | none => none
  | some e =>
    if 4 * d.mde.cyc.periodNs < t - e.at_ then none
    else
      let dt := F32.ofRatio (t - e.at_ : Nat) nsPerSec
      let h := e.h.add (e.hd.mul dt)
      let p := e.p.add (e.pd.mul dt)
      let rl := e.r.add (e.rd.mul dt)
      some ⟨rotZYX h p rl, bodyRate p rl e.hd e.pd e.rd⟩

/-- Lever arm of a mounting. -/
def SensorRec.arm (m : SensorRec) : V3 := ⟨m.x, m.y, m.z⟩
/-- C_bs of a mounting [06 R190]. -/
def SensorRec.rot (m : SensorRec) : M3 := rotZYX m.yaw m.pitch m.roll

/-- Word `i` of a list as binary32. -/
def wf (v : List Word) (i : Nat) : F32 := ⟨at' v i⟩
/-- The words of binary32 values. -/
def words (l : List F32) : List Word := l.map F32.bits
/-- Eight words, zeros where there is no value [06 R170]. -/
def words8 (l : List Word) : List Word := (l ++ List.replicate (8 - l.length) 0).take 8

/-- u of a taut-wire: (tan αx, tan αy, 1) normalised [06 R191]. -/
def wireDir (ax ay : F32) : V3 :=
  let u : V3 := ⟨tan32 ax, tan32 ay, F32.one⟩
  let n := u.norm
  ⟨u.x.div n, u.y.div n, u.z.div n⟩

/-- VALUES of a record and whether it was projected [06 R170 R191]. `v` holds what the sensor gave: LAT, LON, HGT; L, αx, αy; x, y; HEADING, RATE, PITCH, ROLL; RATE; ROLL, PITCH, HEAVE; ANGLE, SPEED; VN, VE or VX, VY; V0, V1. -/
def project (c : SrcClass) (m : SensorRec) (a : Option AttNow) (v : List Word) : List Word × Bool :=
  let r := m.arm
  match c, a with
  | .position, some a =>
    let p := (a.c.app r).neg
    (words8 (slice4 v ++ [at' v 4] ++ words [p.x, p.y, p.z]), true)
  | .position, none => (words8 (v.take 5), false)
  | .taut, some a =>
    let w := a.c.app (m.rot.app (wireDir (wf v 1) (wf v 2)))
    let p := ((V3.scale (wf v 0) w).neg).sub (a.c.app r)
    (words8 (words [p.x, p.y, p.z, wf v 0, wf v 1, wf v 2]), true)
  | .taut, none => (words8 (words [F32.zero, F32.zero, F32.zero, wf v 0, wf v 1, wf v 2]), false)
  | .posref, a? =>
    let x := wf v 0
    let y := wf v 1
    let l := ((x.mul x).add (y.mul y)).sqrt
    match a? with
    | some a =>
      let p := (a.c.app (r.add (m.rot.app ⟨x, y, F32.zero⟩))).neg
      (words8 (words [p.x, p.y, p.z, l, x, y]), true)
    | none => (words8 (words [F32.zero, F32.zero, F32.zero, l, x, y]), false)
  | .heading, _ =>
    (words8 (words [wrapPi32 ((wf v 0).sub m.yaw), (m.rot.app ⟨F32.zero, F32.zero, wf v 1⟩).z, F32.zero, F32.zero]), true)
  | .rate, _ => (words8 (words [(m.rot.app ⟨F32.zero, F32.zero, wf v 0⟩).z]), true)
  | .motion, _ =>
    let t := ((rotY (wf v 1)).mul (rotX (wf v 0))).mul m.rot.tr
    let pitch := (asin32 t.c.x).neg
    let roll := atan2F32 t.c.y t.c.z
    (words8 (words [roll, pitch, ((wf v 2).sub (t.app r).z).add m.z]), true)
  | .wind, _ => (words8 (words [wrapPi32 ((wf v 0).add m.yaw), wf v 1]), true)
  | .velEarth, some a =>
    let p := (V3.mk (wf v 0) (wf v 1) F32.zero).sub (a.c.app (a.w.cross r))
    (words8 (words [p.x, p.y]), true)
  | .velBody, some a =>
    let p := (m.rot.app ⟨wf v 0, wf v 1, F32.zero⟩).sub (a.w.cross r)
    (words8 (words [p.x, p.y]), true)
  | .velEarth, none => (words8 [], false)
  | .velBody, none => (words8 [], false)
  | .attitude, _ => (words8 v, false)
  | .analog, _ => (words8 v, false)
where
  /-- LAT and LON. -/
  slice4 (v : List Word) : List Word := (List.range 4).map fun i => at' v i

/-! ### Delivery -/

/-- A parse or frame error of a source [06 R176 R178 R194]. -/
def srcParseErr (i : Nat) (d : Dev) : Dev := raise 0x0F 2 (modSource i (fun s => { s with parse := wrapInc 16 s.parse }) d)

/-- A valid record of a source: its interval is judged and the source becomes ACTIVE [06 R167]. -/
def srcValid (r : Regs) (s : SourceRec) (stamp : Nat) (d : Dev) : Dev :=
  let x := d.source s.id
  let per : Int := nsOf32 s.period
  let bad := match x.lastValid with
    | none => false
    | some t => decide (2 * ((stamp : Int) - t) < per) || decide (2 * per < (stamp : Int) - t)
  let d := if bad then raise 0x0F 3 (modSource s.id (fun x => { x with rate := wrapInc 16 x.rate }) d) else d
  let back := x.st == .timedOut
  let d := modSource s.id (fun x => { x with st := .active, validTick := d.now, lastValid := some stamp }) d
  if back then record r .srcTimeout { p0 := s.id, p1 := 1 } (raise 0x0F 1 d) else d

/-- A record enters the queue, or is discarded at a full queue [06 R168 R169]. (log 90) -/
def srcQueue (r : Regs) (x : SrcRecord) (d : Dev) : Dev :=
  if 512 ≤ d.src.queue.length then
    raise 0x0F 4 { d with src := { d.src with overflow := wrapInc 16 d.src.overflow, lastOver := x.id } }
  else
    let x := { x with seq := (d.source x.id).records }
    let d := modSource x.id (fun s => { s with records := wrapInc 16 s.records, last := x }) d
    let d := { d with src := { d.src with queue := d.src.queue ++ [x], maxDepth := max d.src.maxDepth (d.src.queue.length + 1) } }
    raiseIf (r.get F.SRC_WATCH_WATCH == x.id) 0x0F 7 d

/-- A record of a source becomes available: it is projected, judged and queued [06 R167 to R169, R191 to R193]. (log 90) -/
def srcDeliver (r : Regs) (x : RawRecord) (d : Dev) : Dev :=
  match d.sourceRec x.src with
  | none => d
  | some s =>
    if (d.source x.src).st == .unused || d.mde.mode == .dormant then d
    else
      let m := match x.ant with | some (u, a) => d.antenna u a | none => d.sensorOf s
      let c := classOf s.format m.kind
      let a := if c.needsAtt then d.attAt x.stamp else none
      let (v, proj) := project c m a x.values
      let lost := c.needsAtt && !proj
      let d := raiseIf (lost && !((d.source x.src).noAtt)) 0x0F 5 d
      let d := if c.needsAtt then modSource x.src (fun s => { s with noAtt := !proj }) d else d
      let sender := if bit s.flags 0 then x.sender else none
      let fl := setBit (setBit (x.flags % 64) 1 sender.isSome) 2 proj
      let y : SrcRecord := {
        id := x.src, kind := m.kind, format := s.format, flags := fl, stamp := x.stamp % 2 ^ 64,
        sender := (sender.getD 0) % 2 ^ 64, values := v, qual := x.qual % 2 ^ 32,
        sigma := if bit fl 4 then x.sigma else F32.zero, arrival := x.arrival, posSigma := x.posSigma }
      let d := if bit fl 0 then srcValid r s x.stamp d else d
      srcQueue r y d

/-- SOURCE_RECORD [06 R168]. -/
def execSourceRecord (x : RawRecord) (s : State) : Host.Outcome State Fault Refusal := onDev s fun r d => srcDeliver r x d

/-- SOURCE_TIMEOUT: no valid record for TIMEOUT in ACTIVE or WAITING; a latched reference point goes with it [06 R167, 07 R206]. -/
def sourceTimeout (i : Nat) (r : Regs) (d : Dev) : Dev :=
  match d.sourceRec i with
  | none => d
  | some s =>
    let x := d.source i
    if !(d.mde.mode == .dormant) && (x.st == .active || x.st == .waiting) && decide (x.validTick + ticksOf32 s.timeout ≤ d.now) then
      let d := { d with fus := { d.fus with srcs := modAt d.fus.srcs i fun x => { x with latch := none } } }
      record r .srcTimeout { p0 := i } (raise 0x0F 0 (modSource i (fun x => { x with st := .timedOut }) d))
    else d

/-- SOURCE_TIMEOUT [06 R167]. -/
def execSourceTimeout (src : Nat) (s : State) : Host.Outcome State Fault Refusal := onDev s (sourceTimeout src)

/-! ### Sender time -/

/-- A time of day of UTC in ns as TAI ns, with the date that puts it nearest to `stamp` [06 R172]. -/
def taiOfDay (tod : Nat) (taiUtc : Int) (stamp : Nat) : Nat :=
  let day : Int := 86400 * nsPerSec
  let off : Int := tod + taiUtc * nsPerSec
  let k := ((stamp : Int) - off + day / 2) / day
  (k * day + off).toNat

/-- The 32-bit microsecond counter of a binary frame unwrapped; none where the unwrap starts again [06 R173]. (log 90) -/
def srcUnwrap (i : Nat) (raw : Nat) (d : Dev) : Dev × Option Nat :=
  match (d.source i).unwrap with
  | none => (modSource i (fun s => { s with unwrap := some (0, raw) }) d, some 0)
  | some (acc, last) =>
    let adv := (raw + 2 ^ 32 - last) % 2 ^ 32
    if adv = 0 ∨ 60000000 < adv then
      (raise 0x0F 6 (modSource i (fun s => { s with unwrap := some (0, raw), restarts := wrapInc 16 s.restarts }) d), none)
    else (modSource i (fun s => { s with unwrap := some (acc + adv, raw) }) d, some (1000 * (acc + adv)))

/-! ### Binary frames [06 R178] -/

/-- Signed little-endian field of four bytes. -/
def leS4 (b : List Byte) (o : Nat) : Int := wrapS 32 (leAt b o 4 : Nat)

/-- A number of `n / d` units as binary32. -/
def unit32 (n : Int) (d : Nat) : F32 := (F64.ofRatio n d).to32

/-- What a binary frame says. -/
structure FrameIn where
  /-- class values -/
  vals : List F32
  /-- status byte -/
  status : Nat
  /-- sequence byte -/
  seq : Nat
  /-- stated standard deviation -/
  sigma : Option F32 := none

/-- Length of a binary payload by its format. -/
def frameLen (fmt : Nat) : Nat :=
  match fmt with
  | 0x0201 => 16 | 0x0202 => 20 | 0x0203 => 12 | 0x0204 => 20 | _ => 20

/-- The fields of a binary payload. -/
def readFrame (fmt : Nat) (b : List Byte) : FrameIn :=
  match fmt with
  | 0x0201 =>
    { vals := [((F64.twoPi.mul (F64.ofInt (leAt b 4 4 : Nat))).div (F64.ofInt (2 ^ 32))).to32, unit32 (leS4 b 8) 10000000],
      status := leAt b 12 1, seq := leAt b 13 1 }
  | 0x0203 =>
    { vals := [((F64.twoPi.mul (F64.ofInt (leAt b 4 2 : Nat))).div (F64.ofInt 65536)).to32, unit32 (leAt b 6 2 : Nat) 100],
      status := leAt b 8 1, seq := leAt b 9 1 }
  | 0x0204 =>
    { vals := [unit32 (leS4 b 4) 10000, unit32 (leS4 b 8) 10000], status := leAt b 16 1, seq := leAt b 17 1,
      sigma := some (unit32 (leAt b 12 4 : Nat) 10000) }
  | _ =>
    { vals := [unit32 (leS4 b 4) 100000000, unit32 (leS4 b 8) 100000000, unit32 (leS4 b 12) 100000],
      status := leAt b 16 1, seq := leAt b 17 1 }

/-- A binary payload reaches a source with its stamp [06 R173 R178]. -/
def srcFrame (r : Regs) (s : SourceRec) (b : List Byte) (stamp : Nat) (d : Dev) : Dev :=
  if (d.source s.id).st == .unused then d
  else if b.length < frameLen s.format then srcParseErr s.id d
  else
    let f := readFrame s.format b
    let gap := match (d.source s.id).seqByte with | some q => f.seq != (q + 1) % 256 | none => false
    let d := if gap then srcParseErr s.id d else d
    let d := modSource s.id (fun s => { s with seqByte := some f.seq }) d
    let (d, sender) := srcUnwrap s.id (leAt b 0 4) d
    srcDeliver r {
      src := s.id, arrival := d.tb0, stamp := stamp, sender := sender, values := words f.vals,
      sigma := f.sigma.getD F32.zero, flags := f.status % 2 + (if f.sigma.isSome then 16 else 0) } d

/-- A CAN frame, checked and stripped, reaches the sources that match it [06 R179]. -/
def srcCan (r : Regs) (ch id : Nat) (ext : Bool) (data : List Byte) (sof : Nat) (d : Dev) : Dev :=
  d.descr.sources.foldl (fun d s =>
    if s.portKind == 2 && s.port == ch && s.matchV % 2 ^ 29 == id && bit s.matchV 29 == ext then srcFrame r s data sof d else d) d

/-! ### IEC 61162 lines [06 R174 to R177] -/

/-- Bytes split at a separator. -/
def splitAt (c : Byte) (l : List Byte) : List (List Byte) :=
  l.foldr (fun b acc => if b = c then [] :: acc else match acc with | [] => [[b]] | h :: t => (b :: h) :: t) [[]]

/-- A decimal digit. -/
def digitOf (b : Byte) : Option Nat := if 48 ≤ b.toNat ∧ b.toNat ≤ 57 then some (b.toNat - 48) else none

/-- An unsigned decimal: its digits as a number and the number of places after the point. -/
def decGo : List Byte → Nat → Option Nat → Option (Nat × Nat)
  | [], v, k => some (v, k.getD 0)
  | b :: t, v, k =>
    if b.toNat = 46 then (match k with | none => decGo t v (some 0) | some _ => none)
    else match digitOf b with
      | some n => decGo t (10 * v + n) (k.map (· + 1))
      | none => none

/-- A decimal field: `m / 10^k`, none for a null or malformed one. -/
def parseDec (l : List Byte) : Option (Int × Nat) :=
  match l with
  | [] => none
  | b :: t =>
    if b.toNat = 45 then (if t.isEmpty then none else (decGo t 0 none).map fun (v, k) => (-(v : Int), k))
    else (decGo (b :: t) 0 none).map fun (v, k) => ((v : Int), k)

/-- A decimal as binary64. -/
def decVal (x : Int × Nat) : F64 := F64.ofRatio x.1 (10 ^ x.2)

/-- Field `i` of a sentence as binary64. -/
def fieldVal (f : List (List Byte)) (i : Nat) : Option F64 := (parseDec (at' f i)).map decVal

/-- First character of field `i`, 0 for a null field. -/
def fieldChr (f : List (List Byte)) (i : Nat) : Nat :=
  match (at' f i) with | [] => 0 | b :: _ => b.toNat

/-- Degrees and minutes dddmm.mmm as radians, with the hemisphere letter that makes it negative. -/
def fieldAngle (f : List (List Byte)) (i : Nat) (minus : Nat) : Option F64 :=
  match parseDec (at' f i), fieldChr f (i + 1) with
  | some (m, k), c =>
    if c = 0 then none
    else
      let one : Int := 10 ^ k
      let deg := m / (100 * one)
      let min := m - 100 * one * deg
      let v := radOfDeg (F64.ofRatio (deg * 60 * one + min) (60 * 10 ^ k))
      some (if c = minus then v.neg else v)
  | none, _ => none

/-- Time of day hhmmss.ss in ns; second 60 only while a leap second is pending [06 R172]. -/
def fieldTime (leap : Bool) (l : List Byte) : Option Nat :=
  match parseDec l with
  | some (m, k) =>
    let one : Int := 10 ^ k
    let hms := m / one
    let sub := m - hms * one
    let h := hms / 10000
    let mi := hms / 100 % 100
    let sec := hms % 100
    if m < 0 ∨ 24 ≤ h ∨ 60 ≤ mi ∨ 61 ≤ sec ∨ (sec = 60 ∧ leap = false) then none
    else some ((h * 3600 + mi * 60 + sec) * nsPerSec + sub * nsPerSec / one).toNat
  | none => none

/-- Knots to m/s [06 R176]. -/
def knots (x : F64) : F64 := (x.mul (F64.ofInt 1852)).div (F64.ofInt 3600)

/-- What a sentence gives a source. -/
structure SentIn where
  /-- class values as words -/
  vals : List Word
  /-- SENDER_OK -/
  ok : Bool
  /-- QUAL -/
  qual : Nat := 0
  /-- MWV with reference T -/
  theo : Bool := false

/-- LAT, LON and HGT words of a position sentence: latitude from field 1, longitude from field 3, altitude and separation from `h`. -/
def posVals (f : List (List Byte)) (h : Nat) (sep : Nat) : Option (List Word) :=
  match fieldAngle f 1 83, fieldAngle f 3 87, fieldVal f h, fieldVal f sep with
  | some la, some lo, some a, some g => some (f64Words la ++ f64Words lo ++ [(a.add g).to32.bits])
  | _, _, _, _ => none

/-- QUAL of a position sentence [06 R175]. -/
def posQual (q : Nat) (f : List (List Byte)) : Nat :=
  let n := match parseDec (at' f 6) with | some (v, k) => (v / 10 ^ k).toNat | none => 0
  let h := match fieldVal f 7 with | some v => ((v.mul (F64.ofInt 100)).round).toNat | none => 0
  q % 256 + 256 * (min n 255) + 65536 * (min h 65535)

/-- The fields of a sentence of format `fmt`; none for a null field that the class needs [06 R175 R176]. The fields' places in a sentence are those of IEC 61162-1 (log 26). -/
def readSentence (fmt : Nat) (f : List (List Byte)) : Option SentIn :=
  match fmt with
  | 0x0010 =>
    let q := match parseDec (at' f 5) with | some (v, _) => v.toNat | none => 0
    (posVals f 8 10).map fun v => { vals := v, ok := decide (1 ≤ q ∧ q ≤ 5) || q == 8, qual := posQual q f }
  | 0x0011 =>
    let m := fieldChr f 5
    (posVals f 8 9).map fun v => { vals := v, ok := decide (m ≠ 78), qual := posQual m f }
  | 0x0014 =>
    match fieldVal f 0, fieldVal f 4 with
    | some c, some v =>
      let a := radOfDeg c
      let v := knots v
      let m := fieldChr f 8
      some { vals := words [(v.mul (Config.cos a)).to32, (v.mul (Config.sin a)).to32], ok := decide (m ≠ 78), qual := m }
    | _, _ => none
  | 0x0015 => (fieldVal f 0).map fun h => { vals := words [(radOfDeg h).to32], ok := true }
  | 0x0016 =>
    (fieldVal f 0).map fun h => { vals := words [(radOfDeg h).to32], ok := fieldChr f 1 == 65, qual := fieldChr f 1 }
  | 0x0017 =>
    (fieldVal f 0).map fun v => { vals := words [((radOfDeg v).div (F64.ofInt 60)).to32], ok := fieldChr f 1 == 65 }
  | 0x0018 =>
    match fieldVal f 0, fieldVal f 2 with
    | some a, some v =>
      let u := fieldChr f 3
      let sp := if u = 78 then some (knots v) else if u = 75 then some ((v.mul (F64.ofInt 10)).div (F64.ofInt 36))
        else if u = 77 then some v else none
      sp.map fun v => { vals := words [(radOfDeg a).to32, v.to32], ok := fieldChr f 4 == 65, qual := u, theo := fieldChr f 1 == 84 }
    | _, _ => none
  | 0x0019 =>
    match fieldVal f 3, fieldVal f 4 with
    | some x, some y => some { vals := words [(knots x).to32, (knots y).to32], ok := fieldChr f 5 == 65 }
    | _, _ => none
  | _ => none

/-- FORMAT of a sentence formatter, by its three characters; 0 for one that is not parsed [06 R175]. -/
def formatOf (id : Nat) : Nat :=
  match id with
  | 0x474741 => 0x10 | 0x474E53 => 0x11 | 0x475354 => 0x13 | 0x565447 => 0x14 | 0x484454 => 0x15
  | 0x544853 => 0x16 | 0x524F54 => 0x17 | 0x4D5756 => 0x18 | 0x564257 => 0x19 | _ => 0

/-- What a line is. -/
inductive LineIn where
  | overlong | cksum | noCksum | other
  | sent (talker fmt : Nat) (fields : List (List Byte))

/-- A hexadecimal digit. -/
def hexOf (b : Byte) : Option Nat :=
  if 48 ≤ b.toNat ∧ b.toNat ≤ 57 then some (b.toNat - 48)
  else if 65 ≤ b.toNat ∧ b.toNat ≤ 70 then some (b.toNat - 55)
  else if 97 ≤ b.toNat ∧ b.toNat ≤ 102 then some (b.toNat - 87)
  else none

/-- The checksum of IEC 61162: exclusive or of the characters (log 26). -/
def xorSum (l : List Byte) : Nat := l.foldl (fun c b => c ^^^ b.toNat) 0

/-- The characters after `*` spell the checksum of those before it. (log 26) -/
def sumGood (body ck : List Byte) : Bool :=
  match ck with
  | [a, b] => (match hexOf a, hexOf b with | some x, some y => 16 * x + y == xorSum body | _, _ => false)
  | _ => false

/-- A leading tag block between two backslashes, and what follows it. -/
def tagBlock (l : List Byte) : Option (List Byte) × List Byte :=
  match l with
  | b :: t =>
    if b.toNat = 92 then
      let tag := t.takeWhile fun c => decide (c.toNat ≠ 92)
      (some tag, (t.drop tag.length).drop 1)
    else (none, l)
  | [] => (none, [])

/-- A line after its tag block, its end included [06 R174]. (log 90) -/
def readLine (needSum : Bool) (l : List Byte) : LineIn :=
  let body := l.take (l.length - 2)
  let ends := (l.drop (l.length - 2)).map BitVec.toNat == [13, 10]
  match body with
  | b :: t =>
    if 82 < l.length then .overlong
    else
      let text := t.takeWhile fun c => decide (c.toNat ≠ 42)
      let ck := t.drop text.length
      if !(ck.isEmpty) && !(sumGood text (ck.drop 1)) then .cksum
      else if ck.isEmpty && needSum then .noCksum
      else if b.toNat ≠ 36 ∨ !ends then .other
      else
        match splitAt 44 text with
        | [a, c, x, y, z] :: fields =>
          let f := formatOf (beNat [x, y, z])
          if a.toNat = 80 ∨ f = 0 then .other else .sent (a.toNat + 256 * c.toNat) f fields
        | _ => .other
  | [] => .other

/-- Talker that a source accepts on its port: MATCH of a UART, TALKER of an IEC 61162-450 source; 0 for any [06 R175]. -/
def SourceRec.talkerOk (s : SourceRec) (t : Nat) : Bool :=
  let w := if s.portKind == 1 then s.talker else s.matchV % 65536
  w == 0 || w == t

/-- A source takes sentences of format `fmt` and talker `t`. A GST line goes to the position sources that it serves (log 27). -/
def SourceRec.takes (s : SourceRec) (fmt t : Nat) : Bool :=
  s.talkerOk t && (s.format == fmt || (fmt == 0x13 && (s.format == 0x10 || s.format == 0x11)))

/-- A kept GST value for the port and talker of a position line, taken out [06 R176]. (log 27) -/
def takeGst (kind port talker stamp : Nat) (d : Dev) : Option F32 × Dev :=
  let hit := fun (e : GstEntry) => e.portKind == kind && e.port == port && e.talker == talker
  match d.src.gst.find? hit with
  | none => (none, d)
  | some e =>
    let d := { d with src := { d.src with gst := d.src.gst.filter fun e => !(hit e) } }
    (if stamp ≤ e.at_ + 2 * nsPerSec then some e.sigma else none, d)

/-- A sentence reaches one source that takes it [06 R172 R175 R176]. `c` is a sender time that the tag block gives. (log 27) -/
def srcSentence (r : Regs) (s : SourceRec) (fmt : Nat) (f : List (List Byte)) (stamp : Nat) (c : Option Nat) (sigma : Option F32) (d : Dev) : Dev :=
  if (d.source s.id).st == .unused || s.format != fmt then d
  else
    match readSentence fmt f with
    | none => srcParseErr s.id d
    | some x =>
      let timed := fmt == 0x10 || fmt == 0x11
      let tod := if timed then fieldTime d.gns2.leapPending (at' f 0) else none
      let sender := if d.gns2.taiUtc = 0 then none
        else match tod with
          | some t => some (taiOfDay t d.gns2.taiUtc stamp)
          | none => c.map fun u => ((u : Int) * nsPerSec + d.gns2.taiUtc * nsPerSec).toNat
      let sg := if timed then sigma else none
      srcDeliver r {
      src := s.id, arrival := d.tb0, stamp := stamp, sender := sender, values := x.vals, qual := x.qual,
        sigma := sg.getD F32.zero, flags := b2n x.ok + (if sg.isSome then 16 else 0) + (if x.theo then 32 else 0) } d

/-- A sentence of a port reaches every source of `l`; a GST line is kept [06 R175 R176]. -/
def srcLine (r : Regs) (l : List SourceRec) (kind port talker fmt : Nat) (f : List (List Byte)) (stamp : Nat) (c : Option Nat) (d : Dev) : Dev :=
  if fmt = 0x13 then
    match fieldVal f 5, fieldVal f 6 with
    | some a, some b =>
      let e : GstEntry := { portKind := kind, port := port, talker := talker, sigma := (hypot a b).to32, at_ := stamp }
      let rest := d.src.gst.filter fun e => !(e.portKind == kind && e.port == port && e.talker == talker)
      { d with src := { d.src with gst := e :: rest } }
    | _, _ => l.foldl (fun d s => srcParseErr s.id d) d
  else
    let (sg, d) := if fmt = 0x10 ∨ fmt = 0x11 then takeGst kind port talker stamp d else (none, d)
    l.foldl (fun d s => srcSentence r s fmt f stamp c sg d) d

/-! ### Serial ports -/

/-- A serial port changed. -/
def modSio (i : Nat) (f : SioPort → SioPort) (d : Dev) : Dev := { d with sio := { d.sio with ports := modAt d.sio.ports i f } }

/-- A discarded line of kind `k` raises its interrupt when it is the first on the port since an accepted line [06 R196]. -/
def sioBad (i k : Nat) (f : SioPort → SioPort) (d : Dev) : Dev :=
  let first := !(bit (at' d.sio.ports i).raised k)
  raiseIf first 0x12 k (modSio i (fun p => { f p with raised := setBit p.raised k true }) d)

/-- An accepted line. -/
def sioGood (i : Nat) (d : Dev) : Dev := modSio i (fun p => { p with lines := wrapInc 16 p.lines, raised := 0 }) d

/-- A frame of format 0x0110 on a UART: its payload, none where its CRC is wrong [06 R178]. -/
def uartFrame (b : List Byte) : Option (List Byte) :=
  let p := slice b 3 20
  if b.length < 25 ∨ (at' b 2).toNat ≠ 20 then none
  else if crcMsb 16 0x1021 0xFFFF (slice b 2 21) = leAt b 23 2 then some p else none

/-- SIO_LINE: a line or a binary frame is complete on port `i`; characters of zeros with a framing error are a line held in break until the next good one (log 51) [06 R174 to R178]. (log 91) -/
def sioLine (i : Nat) (bytes : List Byte) (startAt : Nat) (framing : Bool) (r : Regs) (d : Dev) : Dev :=
  if 12 ≤ i ∨ !(r.en 0x12) ∨ !(r.bit F.SIO_CFG_PORT_EN i) then d
  else if framing then
    sioBad i 1 (fun p => { p with framing := wrapInc 8 p.framing, brk := !(bytes.isEmpty) && bytes.all fun (b : Byte) => b == 0 }) d
  else
    let d := if (at' d.sio.ports i).brk then modSio i (fun p => { p with brk := false }) d else d
    let mine := d.descr.sources.filter fun s => s.portKind == 0 && s.port == i
    let bin := mine.filter fun s => s.format == 0x0110
    if (bytes.take 2).map BitVec.toNat == [0xA5, 0x5A] && !(bin.isEmpty) then
      match uartFrame bytes with
      | none => bin.foldl (fun d s => srcParseErr s.id d) d
      | some p => bin.foldl (fun d s => srcFrame r s p startAt d) (sioGood i d)
    else
      match readLine (r.bit F.SIO_CFG_CKSUM_REQ i) (tagBlock bytes).2 with
      | .overlong => sioBad i 2 (fun p => { p with overlong := wrapInc 8 p.overlong }) d
      | .cksum => sioBad i 0 (fun p => { p with cksum := wrapInc 8 p.cksum }) d
      | .noCksum => d
      | .other => sioBad i 3 (fun p => { p with unmatched := wrapInc 8 p.unmatched }) d
      | .sent talker fmt f =>
        let l := mine.filter fun s => s.takes fmt talker
        if l.isEmpty then sioBad i 3 (fun p => { p with unmatched := wrapInc 8 p.unmatched }) d
        else srcLine r l 0 i talker fmt f startAt none (sioGood i d)

/-- SIO_LINE [06 R174]. -/
def execSioLine (port : Nat) (bytes : List Byte) (startAt : Nat) (framing : Bool) (s : State) : Host.Outcome State Fault Refusal :=
  onDev s (sioLine port bytes startAt framing)

/-! ### IEC 61162-450 -/

/-- A tag block in hand: c: and the number that s: ends in. -/
structure TagIn where
  /-- c: in UTC seconds -/
  c : Option Nat := none
  /-- trailing decimal number of s: -/
  s : Option Nat := none

/-- The decimal number that a text ends in. (log 90) -/
def trailingNum (l : List Byte) : Option Nat :=
  let t := (l.reverse.takeWhile fun b => (digitOf b).isSome).reverse
  if t.isEmpty then none else some (t.foldl (fun n b => 10 * n + (b.toNat - 48)) 0)

/-- A tag block's fields; none where its checksum is wrong [06 R177]. (log 26, 90) -/
def readTag (l : List Byte) : Option TagIn :=
  let text := l.takeWhile fun c => decide (c.toNat ≠ 42)
  if !(sumGood text ((l.drop text.length).drop 1)) then none
  else
    some ((splitAt 44 text).foldl (fun t p =>
      match p with
      | k :: _ :: v =>
        if k.toNat = 99 then { t with c := (parseDec v).map fun x => (x.1 / 10 ^ x.2).toNat }
        else if k.toNat = 115 then { t with s := trailingNum v }
        else t
      | _ => t) {})

/-- The lines of a datagram, each with its end. (log 26, 90) -/
def datagramLines (l : List Byte) : List (List Byte) :=
  ((splitAt 10 l).dropLast).map fun x => x ++ [10]

/-- An IEC 61162-450 datagram to a UDP port that sources use [06 R177]. -/
def iec450 (mac udp : Nat) (bytes : List Byte) (stamp : Nat) (r : Regs) (d : Dev) : Dev :=
  let l := d.descr.sources.filter fun s => s.portKind == 1 && s.port == mac && s.matchV % 65536 == udp
  if l.isEmpty then d
  else
    let lines := datagramLines (bytes.drop 6)
    let head := (bytes.take 6).map BitVec.toNat == [0x55, 0x64, 0x50, 0x62, 0x43, 0]
    let tagsOk := lines.all fun x => match (tagBlock x).1 with | some t => (readTag t).isSome | none => true
    if !head || !tagsOk then { d with sio := { d.sio with rej450 := wrapInc 16 d.sio.rej450 } }
    else
      let d := { d with sio := { d.sio with acc450 := wrapInc 16 d.sio.acc450 } }
      (lines.foldl (fun (t, d) x =>
        let (tb, rest) := tagBlock x
        let t : TagIn := match tb with | some b => (readTag b).getD {} | none => t
        match readLine true rest with
        | .sent talker fmt f =>
          let l := l.filter fun s => s.takes fmt talker && (s.matchV / 65536 == 0xFFFF || t.s == some (s.matchV / 65536))
          (t, if l.isEmpty then d else srcLine r l 1 mac talker fmt f stamp t.c d)
        | _ => (t, d)) (({} : TagIn), d)).2

/-- IEC450_DATAGRAM: a datagram of an enabled group entry [06 R177, 14 R424]. -/
def execIec450Datagram (mac group udp : Nat) (bytes : List Byte) (stamp : Nat) (s : State) : Host.Outcome State Fault Refusal :=
  onDev s fun r d =>
    if r.en (0x22 + mac) && decide (group < 16) && r.on F.ETH_GRP_CFG_EN mac group == 1 && r.on F.ETH_GRP_CFG_PORT mac group == udp then
      iec450 mac udp bytes stamp r d
    else d

/-! ### Analog chain -/

/-- Half-band stages for an output rate: the largest number up to 6 with 768 kHz / 2^H at least 4 f_out [06 R182]. -/
def halfBands (f : Nat) : Nat := foldN 6 (fun i h => if 4 * f * 2 ^ (i + 1) ≤ 768000 then i + 1 else h) 0

/-- Withheld output samples: 20 µs and the impulse lengths, rounded up [06 R184]: 16 / f_out, and 29 samples of 6.144 MHz with 23 (2^H - 1) of 768 kHz. -/
def settleCount (f : Nat) : Nat := 16 + (f * (15188 + 18400 * (2 ^ halfBands f - 1)) + 614399999) / 614400000

/-- Total group delay in ns, rounded [06 R182 R183]. -/
def groupDelay (f : Nat) : Nat :=
  let n := 14000000000 * f + 88000000000 * (2 ^ halfBands f - 1) * f + 49152000000000000
  let q := 6144000 * f
  if f = 0 then 0 else (n + q / 2) / q

/-- The resampler ratio f_in / f_out in 32.32 fixed point, rounded, for a count of modulator samples [06 R188]. -/
def fltRatio (count f : Nat) : Nat :=
  let q := 2 ^ (3 + halfBands f) * f
  if f = 0 then 0 else (count * 2 ^ 32 + q / 2) / q

/-- Modulator `m` enabled. -/
def fltOn (r : Regs) (m : Nat) : Bool := r.get F.FLT_MOD_CFG_EN (m / 4) (m % 4) == 1
/-- Modulator `m` changed. -/
def modMod (m : Nat) (f : FltMod → FltMod) (d : Dev) : Dev := { d with flt := { d.flt with mods := modAt d.flt.mods m f } }
/-- Modulator `m`. -/
def Dev.modulator (d : Dev) (m : Nat) : FltMod := at' d.flt.mods m

/-- The selected input of modulator `m` starts a settle [06 R184]. -/
def fltResettle (r : Regs) (m : Nat) (d : Dev) : Dev :=
  let d := modMod m (fun x => { x with settle := settleCount (fltRate r m), turn := 0 }) d
  { d with flt := { d.flt with valid := setBit (setBit d.flt.valid (2 * m) false) (2 * m + 1) false } }

/-- Committed fields of modulator `m` have come into force: its input by SEL, its ratio, its grid and a resettle of the input selected [06 R184 R186]. -/
def fltApplied (m : Nat) (fresh : Bool) (r : Regs) (d : Dev) : Dev :=
  let f := fltRate r m
  let c := if d.flt.apll = 0 then 6144000 else d.flt.apll
  if fltOn r m then
    let scan := r.get F.FLT_MOD_CFG_SCAN (m / 4) (m % 4) == 1
    let sel := r.get F.FLT_MOD_CFG_SEL (m / 4) (m % 4)
    let d := modMod m (fun x => { x with sel := if scan then x.sel else sel, ratio := fltRatio c f, nextOut := gridAfter f d.tb0 }) d
    if fresh then fltResettle r m d else d
  else
    let d := modMod m (fun x => { x with settle := 0, turn := 0, ratio := 0 }) d
    { d with flt := { d.flt with valid := setBit (setBit d.flt.valid (2 * m) false) (2 * m + 1) false } }

/-- The value of an input at an instant between its two nearest samples, none before the later one is there [06 R180 R181]. -/
def ainAt (d : Dev) (i t : Nat) : Option F32 :=
  let l := at' d.src.ain i
  match (l.filter fun e => decide (t ≤ e.at_)).getLast? with
  | none => none
  | some b =>
    if b.at_ = t then some b.v
    else match l.find? fun e => decide (e.at_ < t) with
      | none => some b.v
      | some a =>
        let k := F32.ofRatio (t - a.at_ : Nat) (b.at_ - a.at_)
        some (a.v.add (k.mul (b.v.sub a.v)))

/-- Analog pairs whose second value has become known [06 R180]. (log 91) -/
def settlePairs (r : Regs) (d : Dev) : Dev :=
  let ready := fun (w : PairWait) => match d.sourceRec w.src with
    | some s => ainAt d (s.port + 1) w.at_
    | none => some F32.zero
  let go := d.src.pairs
  let d := { d with src := { d.src with pairs := go.filter fun w => (ready w).isNone } }
  go.foldl (fun d w => match ready w with
    | some v1 => srcDeliver r { src := w.src, arrival := d.tb0, stamp := w.at_, values := words [w.v0, v1], flags := w.flags } d
    | none => d) d

/-- Taut-wire words whose wire angles have become known [06 R181]. -/
def settleTaut (r : Regs) (d : Dev) : Dev :=
  let ready := fun (w : TautWait) =>
    match ainAt d (r.at F.SRC_AUX_AIN_X w.src) w.at_, ainAt d (r.at F.SRC_AUX_AIN_Y w.src) w.at_ with
    | some x, some y => some (x, y)
    | _, _ => none
  let go := d.src.taut
  let d := { d with src := { d.src with taut := go.filter fun w => (ready w).isNone } }
  go.foldl (fun d w => match ready w with
    | some (x, y) =>
      let l := ((r.f32 F.SRC_SCALE_SCALE w.src).mul (F32.ofInt w.word)).add (r.f32 F.SRC_OFFSET_OFFSET w.src)
      srcDeliver r { src := w.src, arrival := d.tb0, stamp := w.at_, values := words [l, x, y], flags := 1 } d
    | none => d) d

/-- A sample of an input reaches its sources [06 R180]. (log 91) -/
def ainDeliver (r : Regs) (i t : Nat) (v : F32) (ovr : Bool) (d : Dev) : Dev :=
  let d := { d with src := { d.src with ain := modAt d.src.ain i fun (l : List AinSample) => (AinSample.mk t v :: l).take 64 } }
  let fl := 1 + 8 * b2n ovr
  let d := d.descr.sources.foldl (fun d s =>
    if s.portKind == 3 && s.port == i && !((d.source s.id).st == .unused) then
      if s.format == 0x0302 then { d with src := { d.src with pairs := d.src.pairs ++ [{ src := s.id, at_ := t, v0 := v, flags := fl }] } }
      else srcDeliver r {
      src := s.id, arrival := d.tb0, stamp := t, values := words [v], flags := fl } d
    else d) d
  settleTaut r (settlePairs r d)

/-- ANALOG_SAMPLE: the chain of input `i` has computed the sample of its output instant; `code` is the filtered input in volts [06 R183 to R187]. -/
def analogSample (i : Nat) (code : F32) (ovr : Bool) (r : Regs) (d : Dev) : Dev :=
  let m := i / 2
  let x := d.modulator m
  if 16 ≤ i ∨ !(fltOn r m) ∨ !(d.clk.lock.testBit 4) ∨ x.sel ≠ i % 2 ∨ d.tb0 < x.nextOut + groupDelay (fltRate r m) then d
  else
    let t := x.nextOut
    let d := modMod m (fun x => { x with nextOut := gridAfter (fltRate r m) t }) d
    if x.settle ≠ 0 then modMod m (fun x => { x with settle := x.settle - 1 }) d
    else if !(bit d.flt.valid i) then d
    else
      let d := raiseIf (ovr && !(bit d.flt.ovr i)) 0x10 1 d
      let d := { d with flt := { d.flt with ovr := setBit d.flt.ovr i ovr } }
      let d := modMod m (fun x => { x with turn := x.turn + 1 }) d
      let v := ((r.get F.FLT_GAIN_V (i / 8) (i % 8) |> F32.ofBits).mul code).add (r.get F.FLT_OFFSET_V (i / 8) (i % 8) |> F32.ofBits)
      ainDeliver r i t v ovr d

/-- ANALOG_SAMPLE [06 R183]. -/
def execAnalogSample (input : Nat) (code : F32) (ovr : Bool) (s : State) : Host.Outcome State Fault Refusal :=
  onDev s (analogSample input code ovr)

/-- FLT_SETTLED: the settle time of the selected input has passed [06 R184 R195]. -/
def fltSettled (i : Nat) (r : Regs) (d : Dev) : Dev :=
  let x := d.modulator (i / 2)
  if i < 16 ∧ fltOn r (i / 2) ∧ d.clk.lock.testBit 4 ∧ x.sel = i % 2 ∧ x.settle = 0 ∧ !(bit d.flt.valid i) then
    raise 0x10 0 { d with flt := { d.flt with valid := setBit d.flt.valid i true } }
  else d

/-- FLT_SETTLED [06 R184]. -/
def execFltSettled (input : Nat) (s : State) : Host.Outcome State Fault Refusal := onDev s (fltSettled input)

/-- SCAN_SWITCH: after DWELL valid samples the modulator takes its other input, which settles [06 R186]. -/
def scanSwitch (m : Nat) (r : Regs) (d : Dev) : Dev :=
  let x := d.modulator m
  if m < 8 ∧ fltOn r m ∧ r.get F.FLT_MOD_CFG_SCAN (m / 4) (m % 4) = 1 ∧ r.get F.FLT_MOD_CFG_DWELL (m / 4) (m % 4) ≤ x.turn then
    raise 0x10 3 (fltResettle r m (modMod m (fun x => { x with sel := 1 - x.sel }) d))
  else d

/-- SCAN_SWITCH [06 R186]. -/
def execScanSwitch (m : Nat) (s : State) : Host.Outcome State Fault Refusal := onDev s (scanSwitch m)

/-- FLT_RATIO_UPDATE: the modulator samples of the past TB0 second give the ratio [06 R188]. -/
def fltRatioUpdate (count : Nat) (r : Regs) (d : Dev) : Dev :=
  if !(d.awake) ∨ 5 ≤ d.tb0 % nsPerSec then d
  else
    let c := count % 2 ^ 24
    let d := { d with flt := { d.flt with apll := c } }
    let d := foldN 8 (fun m d => if fltOn r m then modMod m (fun x => { x with ratio := fltRatio c (fltRate r m) }) d else d) d
    if 6144000 < 10000 * (((c : Int) - 6144000).natAbs) then record r .fltApllRate { p0 := c } (raise 0x10 2 d) else d

/-- FLT_RATIO_UPDATE [06 R188]. -/
def execFltRatioUpdate (count : Nat) (s : State) : Host.Outcome State Fault Refusal := onDev s (fltRatioUpdate count)

/-! ### SSI words -/

/-- A good word of an SSI port reaches its taut-wire sources: those whose request instant, a multiple of PERIOD, falls on the request, or within the loop's sample period before it on a bound port [06 R181]. (log 91) -/
def ssiToSources (r : Regs) (port at_ : Nat) (d : Dev) : Dev :=
  let back := match boundFb r 1 port with | some c => 4 * loopTicks r c | none => 4
  let d := d.descr.sources.foldl (fun d s =>
    if s.portKind == 4 && s.port == port && !((d.source s.id).st == .unused) && multipleIn (nsOf32 s.period) back at_ then
      { d with src := { d.src with taut := d.src.taut ++ [{ src := s.id, at_ := at_, word := (d.ssi port).word }] } }
    else d) d
  settleTaut r d
where
  /-- Sample period of a loop channel in ticks [11 R312]. -/
  loopTicks (r : Regs) (c : Nat) : Nat :=
    match r.at F.LOP_CH_CFG_RATE c with
    | 0 => 250000 | 1 => 125000 | 2 => 50000 | 3 => 25000 | _ => 12500

/-- SSI_WORD_DONE: the frame in hand of a port has come in whole; its word is checked, stored and taken by the sources [12 R351, 06 R181]. -/
def ssiWordDone (port : Nat) (bits : List Bool) (lineHigh : Bool) (r : Regs) (d : Dev) : Dev :=
  if ssiFits r port bits d then
    let at_ := ((d.ssi port).reqAt).getD 0
    let d := ssiDone r port bits lineHigh d
    if (d.ssi port).valid then ssiToSources r port at_ d else d
  else d

/-- SSI_WORD_DONE [12 R351]. -/
def execSsiWordDone (port : Nat) (bits : List Bool) (lineHigh : Bool) (s : State) : Host.Outcome State Fault Refusal :=
  onDev s (ssiWordDone port bits lineHigh)

end Sys2Proof.Machine
end

