-- ==== Sys2Proof/Machine/Can.lean ====
section
/-! DEFINITION. The CAN channels, their filter list and Storyboard, and the end-to-end unit: pages CAN0 to CAN7 and E2E [13]. -/

namespace Sys2Proof.Machine

/-! ### Elements and timing -/

/-- A channel changed. -/
def modCan (n : Nat) (f : CanCh → CanCh) (d : Dev) : Dev := { d with can := { d.can with ch := modAt d.can.ch n f } }
/-- Channel `n`. -/
def Dev.canCh (d : Dev) (n : Nat) : CanCh := at' d.can.ch n
/-- The channel is present and its page enabled. -/
def canOn (r : Regs) (d : Dev) (n : Nat) : Bool := decide (n < 8) && !(pageAbsent d (0x18 + n)) && r.en (0x18 + n)

/-- Data bytes of a DLC [13 R369]. -/
def dlcLen (fd : Bool) (dlc : Nat) : Nat :=
  if dlc ≤ 8 then dlc
  else if fd then nth [12, 16, 20, 24, 32, 48, 64] (dlc - 9) 64
  else 8

/-- The smallest DLC that holds `n` bytes. -/
def lenDlc (fd : Bool) (n : Nat) : Nat := ((List.range 16).find? fun c => decide (n ≤ dlcLen fd c)).getD 15

/-- Identifier of an element: 29 bits and whether it is extended. -/
def CanElem.id (e : CanElem) : Nat × Bool := if bit e.frame 0 then (e.ident % 2 ^ 29, true) else (e.ident % 2 ^ 11, false)
/-- FD format. -/
def CanElem.isFd (e : CanElem) : Bool := bit e.frame 1
/-- Bit rate switch. -/
def CanElem.isBrs (e : CanElem) : Bool := bit e.frame 2 && bit e.frame 1
/-- Data length. -/
def CanElem.len (e : CanElem) : Nat := dlcLen e.isFd (bits e.frame 7 4)
/-- Data bytes of the frame. -/
def CanElem.bytes (e : CanElem) : List Byte := slice e.data 0 e.len
/-- Arbitration order: the lower wins, a standard identifier before an extended one of equal leading bits [13 R378]. -/
def CanElem.prio (e : CanElem) : Nat := if e.id.2 then 2 * e.id.1 + 1 else 2 * (e.id.1 * 2 ^ 18)

/-- Nominal and data-phase bits of the bound of a frame [13 R379]. -/
def canBits (e : CanElem) : Nat × Nat :=
  let n := e.len
  if e.isFd then
    let nb := if e.id.2 then 57 else 34
    let db := 32 + 8 * n + (5 + 8 * n) / 4 + (if 16 < n then 5 else 0)
    if e.isBrs then (nb, db) else (nb + db, 0)
  else if e.id.2 then (67 + 8 * n + (53 + 8 * n) / 4, 0)
  else (47 + 8 * n + (33 + 8 * n) / 4, 0)

/-- Nominal and data bit times in periods of 80 MHz [13 R365]. -/
def canBitTimes (r : Regs) (n : Nat) : Nat × Nat :=
  (r.on F.CAN_NBT_NBRP n * (1 + r.on F.CAN_NBT_NTSEG1 n + r.on F.CAN_NBT_NTSEG2 n),
   r.on F.CAN_DBT_DBRP n * (1 + r.on F.CAN_DBT_DTSEG1 n + r.on F.CAN_DBT_DTSEG2 n))

/-- Bound of a frame's duration in timer ticks, rounded up [13 R379]: 25/8 ticks to a period of 80 MHz. -/
def canBound (r : Regs) (n : Nat) (e : CanElem) : Nat :=
  let (nb, db) := canBits e
  let (tn, td) := canBitTimes r n
  ((nb * tn + db * td) * 25 + 7) / 8

/-- The frame as the channel's mode allows it: FD and bit rate switch only where enabled (log 30). -/
def canMode (r : Regs) (n : Nat) (e : CanElem) : CanElem :=
  let f := if r.on F.CAN_MODE_FD_EN n = 1 then e.frame else setBit e.frame 1 false
  { e with frame := if r.on F.CAN_MODE_BRS_EN n = 1 ∧ bit f 1 then f else setBit f 2 false }

/-! ### End-to-end protection -/

/-- Options of a context [13 R395]. -/
structure E2eOpt where
  /-- CRC32 -/
  crc32 : Bool
  /-- CNT8 -/
  cnt8 : Bool
  /-- STREAM -/
  stream : Bool
  /-- STRIP -/
  strip : Bool
  /-- DROP_BAD -/
  drop : Bool
  /-- DATA_ID -/
  dataId : Nat
  /-- PLEN -/
  plen : Nat
  /-- CNT_POS -/
  pos : Nat
  /-- PAD -/
  pad : Nat
  /-- MAX_DELTA -/
  maxDelta : Nat

/-- Settings of context `i` in force. -/
def e2eOpt (r : Regs) (i : Nat) : E2eOpt :=
  {
    crc32 := r.bit F.E2E_CFG_CRC32 i, cnt8 := r.bit F.E2E_CFG_CNT8 i, stream := r.bit F.E2E_CFG_STREAM i,
    strip := r.bit F.E2E_CFG_STRIP i, drop := r.bit F.E2E_CFG_DROP_BAD i, dataId := r.at F.E2E_LAYOUT_DATA_ID i,
    plen := r.at F.E2E_LAYOUT_PLEN i, pos := r.at F.E2E_LAYOUT_CNT_POS i, pad := r.at F.E2E_RX_PAD i, maxDelta := r.at F.E2E_RX_MAX_DELTA i }

/-- The enabled context of a direction that covers an identifier on a channel [13 R395]. -/
def e2eFor (r : Regs) (tx : Bool) (n : Nat) (id : Nat × Bool) : Option Nat :=
  (List.range 16).find? fun i =>
    r.bit F.E2E_CFG_EN i && r.bit F.E2E_CFG_DIR i != tx && r.at F.E2E_CFG_CHANNEL i == n && r.at F.E2E_ID_ID i == id.1 && r.bit F.E2E_CFG_XTD i == id.2

/-- Initial value of the CRC. -/
def E2eOpt.init (o : E2eOpt) : Nat := if o.crc32 then 0xFFFFFFFF else 0xFFFF
/-- Bytes taken into a CRC value. (log 16) -/
def E2eOpt.feed (o : E2eOpt) (v : Nat) (l : List Byte) : Nat :=
  if o.crc32 then l.foldl (crcReflByte 0xEDB88320) v else crcMsb 16 0x1021 (v % 65536) l
/-- The value a frame carries: CRC-32 has its final exclusive or [02 R39]. (log 16) -/
def E2eOpt.carried (o : E2eOpt) (v : Nat) : Nat := if o.crc32 then v ^^^ 0xFFFFFFFF else v
/-- Width of the CRC field in bytes. -/
def E2eOpt.width (o : E2eOpt) : Nat := if o.crc32 then 4 else 2
/-- Modulus of the counter. -/
def E2eOpt.modulus (o : E2eOpt) : Nat := if o.cnt8 then 256 else 16
/-- Counter that bytes carry. -/
def E2eOpt.count (o : E2eOpt) (b : List Byte) : Nat := (at' b o.pos).toNat % o.modulus
/-- Value before the protected bytes of a frame with counter `c`: FRAME starts anew, STREAM goes on from `run` [13 R397]. (log 16) -/
def E2eOpt.start (o : E2eOpt) (run c : Nat) : Nat :=
  let id := beBytes 2 o.dataId
  if o.stream then (if c = 0 then o.feed run id else run) else o.feed o.init id

/-- The data of a frame with protection applied, and the running value after it [13 R396 R397]. (log 16) -/
def e2eApply (o : E2eOpt) (c : E2eCtx) (b : List Byte) : List Byte × Nat :=
  let cnt := c.cnt % o.modulus
  let old := (at' b o.pos).toNat
  let b1 := putBytes b o.pos [BitVec.ofNat 8 (if o.cnt8 then cnt else old / 16 * 16 + cnt)]
  let v := o.feed (o.start c.run cnt) (slice b1 0 o.plen)
  let body := slice b1 0 o.plen ++ leBytes o.width (o.carried v)
  (body ++ List.replicate (b.length - body.length) (BitVec.ofNat 8 o.pad), v)

/-- A context changed. -/
def modCtx (i : Nat) (f : E2eCtx → E2eCtx) (d : Dev) : Dev := { d with e2e := { d.e2e with ctx := modAt d.e2e.ctx i f } }
/-- Context `i`. -/
def Dev.ctx (d : Dev) (i : Nat) : E2eCtx := at' d.e2e.ctx i

/-- Result of a received frame under a context, with the running value after it [13 R398]. (log 18) -/
def e2eCheck (o : E2eOpt) (c : E2eCtx) (b : List Byte) : Nat × Nat :=
  let n := o.count b
  let run := if o.stream && c.resync && n == 0 then o.init else c.run
  let v := o.feed (o.start run n) (slice b 0 o.plen)
  let good := decide (o.plen + o.width ≤ b.length) && leAt b o.plen o.width == o.carried v && !(o.stream && c.resync && n != 0)
  let dl := (n + o.modulus - c.cnt % o.modulus) % o.modulus
  let res := if !good then 5 else if c.init then 2 else if dl = 0 then 3 else if dl = 1 then 0 else if dl ≤ o.maxDelta then 1 else 4
  (res, v)

/-- A received frame is judged by context `i` [13 R398 R402]. (log 18) -/
def e2eReceive (r : Regs) (i : Nat) (b : List Byte) (d : Dev) : Dev × Nat :=
  let o := e2eOpt r i
  let c := d.ctx i
  let (res, v) := e2eCheck o c b
  let ok := decide (res ≤ 2)
  let d := modCtx i (fun c => { c with
    result := res, lastTick := d.now, noNew := false,
    bad := if ok then c.bad else wrapInc 8 c.bad, good := if ok then wrapInc 8 c.good else c.good,
    cnt := if res = 5 then c.cnt else o.count b, init := c.init && res == 5, run := if res = 5 then c.run else v,
    resync := o.stream && (res == 5), faulted := !ok }) d
  let d := raiseIf (ok && c.faulted) 0x20 3 (raiseIf (res == 3 || res == 4) 0x20 1 (raiseIf (res == 5) 0x20 0 d))
  (if res = 4 ∨ res = 5 then record r .e2eFault { p0 := i, p1 := res } d else d, res)

/-- A standby that sees a frame of a transmit context complete advances the counter and running value of its set [15 R446]. -/
def e2eWatch (r : Regs) (n : Nat) (id : Nat × Bool) (b : List Byte) (d : Dev) : Dev :=
  match e2eFor r true n id, d.pair.set with
  | some i, some st =>
    if d.commands then d
    else
      let o := e2eOpt r i
      let up := fun (x : Nat × Nat) => ((x.1 + 1) % o.modulus, o.feed (o.start x.2 (o.count b)) (slice b 0 o.plen))
      { d with pair := { d.pair with set := some { st with e2e := modAt st.e2e i up } } }
  | _, _ => d

/-- E2E_TIMEOUT: no frame within TIMEOUT [13 R398]. -/
def e2eTimeout (i : Nat) (r : Regs) (d : Dev) : Dev :=
  let c := d.ctx i
  if i < 16 ∧ r.bit F.E2E_CFG_EN i ∧ r.bit F.E2E_CFG_DIR i ∧ !c.noNew ∧ c.lastTick + ticksMs (r.at F.E2E_RX_TIMEOUT i) ≤ d.now then
    raise 0x20 2 (modCtx i (fun c => { c with result := 6, bad := wrapInc 8 c.bad, init := true, faulted := true, noNew := true }) d)
  else d

/-- E2E_TIMEOUT [13 R398]. -/
def execE2eTimeout (ctx : Nat) (s : State) : Host.Outcome State Fault Refusal := onDev s (e2eTimeout ctx)

/-- E2E_RUN_WRITE: the running value of the selected context, while the context is disabled [13 R397]. -/
def e2eRunWrite (v : Nat) (r : Regs) (d : Dev) : Regs × Dev :=
  let i := r.get F.E2E_SEL_CTX
  if r.bit F.E2E_CFG_EN i then (r.reject 0x20 0x54 7, d) else (r, modCtx i (fun c => { c with run := v % 2 ^ 32 }) d)

/-- E2E_RUN_WRITE [13 R397]. -/
def execE2eRunWrite (v : Nat) (s : State) : Host.Outcome State Fault Refusal := onRegs s (e2eRunWrite v)

/-- A write of E2E_RUN_CNT, under the rule of E2E_RUN [13 R397]. -/
def e2eCntWrite (v : Nat) (r : Regs) (d : Dev) : Regs × Dev :=
  let i := r.get F.E2E_SEL_CTX
  if r.bit F.E2E_CFG_EN i then (r.reject 0x20 0x58 7, d) else (r, modCtx i (fun c => { c with cnt := v % 256 }) d)

/-- Committed fields of context `i` have come into force: an enabled one expects its first frame [13 R398 R399]. -/
def e2eApplied (i : Nat) (d : Dev) : Dev := modCtx i (fun c => { c with init := true, resync := false, faulted := false, noNew := false, lastTick := d.now }) d

/-! ### Error states -/

/-- A change of the error counters, with the states of ISO 11898-1 (log 31) [13 R393]. -/
def canErrors (n : Nat) (tec rec_ : Nat) (d : Dev) : Dev :=
  let c := d.canCh n
  let st : CanErr := if c.err == .busOff || decide (256 ≤ tec) then .busOff else if 128 ≤ tec ∨ 128 ≤ rec_ then .passive else .active
  let warn := fun t q => decide (96 ≤ t ∨ 96 ≤ q)
  let ch := c.err != st || warn c.tec c.recErr != warn tec rec_
  let off := st == .busOff && c.err != .busOff
  let d := modCan n (fun c => { c with tec := min tec 255, recErr := min rec_ 128, err := st }) d
  let d := if off then
      modCan n (fun c => { c with
        sending := none, cancelLate := false, recovering := false,
        sb := if c.sb == .run && !c.master then .sync else c.sb, win := c.win.map fun w => { w with dead := true } }) d
    else d
  raiseIf ch (0x18 + n) 2 d

/-! ### Transmission -/

/-- A transmit-log entry; at a full log the oldest one is dropped (log 32) [13 R369 R378]. -/
def canLog (n : Nat) (e : CanElem) (buf outcome : Nat) (late : Bool) (sof : Option Nat) (d : Dev) : Dev :=
  let (w2, w3) := match sof with
    | some t => (((inBase3 d t) / 1000 % 2 ^ 32).toNat, t % 2 ^ 32)
    | none => (0, 0)
  let x : CanElem := { frame := e.frame % 8 + 16 * bits e.frame 7 4 + 256 * bits e.frame 15 8 + 2 ^ 16 * outcome + 2 ^ 19 * b2n late + 2 ^ 24 * buf,
                       ident := e.ident % 2 ^ 29, w2 := w2, w3 := w3 }
  raise (0x18 + n) 1 (modCan n (fun c =>
    let full := decide (32 ≤ c.logFill)
    { c with
             log := modAt c.log ((c.logGet + c.logFill) % 32) fun _ => x,
             logGet := if full then (c.logGet + 1) % 32 else c.logGet, logFill := if full then 32 else c.logFill + 1 }) d)
where
  /-- TB3 time of a TB0 instant. -/
  inBase3 (d : Dev) (t : Nat) : Int := (d.tb3 : Int) + t - d.tb0

/-- A copy of a TX buffer at frame start, with its transmit context applied [13 R387 R396]. (log 30) -/
def canCopy (r : Regs) (n : Nat) (e : CanElem) (d : Dev) : CanElem × Option (Nat × Nat) :=
  let e := canMode r n e
  match e2eFor r true n e.id with
  | none => ({ e with data := e.bytes }, none)
  | some i =>
    let (b, v) := e2eApply (e2eOpt r i) (d.ctx i) e.bytes
    ({ e with data := b }, some (i, v))

/-- The channel may drive the bus [13 R367 R389 R393]. -/
def canMayDrive (r : Regs) (n : Nat) (d : Dev) : Bool :=
  let c := d.canCh n
  canOn r d n && c.err != .busOff && r.on F.CAN_MODE_LISTEN n == 0 && c.sb != .sync &&
    pllHeld d 5 (11 * (canBitTimes r n).1 * 25 / 8) && d.pwr.on.testBit 13

/-- A frame put in transmission (log 33). -/
def canDrive (r : Regs) (n : Nat) (buf kind : Nat) (e : CanElem) (d : Dev) : Dev :=
  let (x, ctx) := canCopy r n e d
  modCan n (fun c => { c with sending := some { buf := buf, elem := x, kind := kind, ctx := ctx }, cancelLate := false }) d

/-- Tick at which the window of a column ends [13 R383 R385]. -/
def sbEnd (r : Regs) (n col : Nat) (ref : Nat) : Nat :=
  ref + 250 * (if col + 1 < sbCols r n then sbStart r n (col + 1) else r.on F.CAN_SB_LEN_BC_LEN n)

/-- The unit sends its CMD windows: it commands, and its first handover after taking command is done [13 R387, 15 R446]. -/
def Dev.sendsCmd (d : Dev) : Bool := d.commands && !(d.pair.awaitHandover)

/-- The next frame that may start now: the window's own, or the host buffer of lowest identifier whose bound fits [13 R378 R386]. (log 33) -/
def canStart (r : Regs) (n : Nat) (d : Dev) : Dev :=
  let c := d.canCh n
  if c.sending.isSome || !(canMayDrive r n d) then d
  else
    let room := match c.win, c.refTick with
      | some w, some t => sbEnd r n w.col t - d.now
      | _, _ => 0
    let fits := fun (e : CanElem) => decide (canBound r n (canMode r n e) ≤ room)
    let host := fun (free : Bool) =>
      let l := (List.range 64).filter fun b => bit c.pend b && !(bit c.launchHold b) && (!free || fits (at' c.tx b))
      l.foldl (fun (m : Option Nat) b => match m with
        | none => some b
        | some a => if (at' c.tx b).prio < (at' c.tx a).prio then some b else some a) none
    match c.sb, c.win with
    | .off, _ => (match host false with | some b => canDrive r n b 0 (at' c.tx b) d | none => d)
    | .run, some w =>
      if w.type = 4 then (match host true with | some b => canDrive r n b 0 (at' c.tx b) d | none => d)
      else match w.frame with
        | some e => if w.done || w.dead || !(fits e) then d else canDrive r n w.buf 1 e d
        | none => d
    | _, _ => d

/-- A host request leaves the pending set. -/
def canUnpend (n b : Nat) (d : Dev) : Dev :=
  modCan n (fun c => { c with pend := setBit c.pend b false, launchHold := setBit c.launchHold b false, launchAt := c.launchAt.filter fun e => !(e.1 == b) }) d

/-- CAN_TXREQ: host buffers become pending; one with LAUNCH on a TW816 is held for its time, or missed at once [13 R378 R381]. -/
def canTxreq (n hi v : Nat) (r : Regs) (d : Dev) : Dev :=
  if !(canOn r d n) then d
  else
    let d := foldN 32 (fun i d =>
      let b := 32 * (hi % 2) + i
      let c := d.canCh n
      let e : CanElem := at' c.tx b
      if !(bit v i) || bit c.pend b then d
      else if bit e.frame 16 && !(d.tw812) then
        let t := e.w2 + 2 ^ 32 * e.w3
        if t + 1000 * r.on F.CAN_LATE_MAX_LATE_MAX n < d.tb0 then raise (0x18 + n) 5 (canLog n e b 2 false none d)
        else modCan n (fun c => { c with pend := setBit c.pend b true, launchHold := setBit c.launchHold b true, launchAt := sins c.launchAt b t }) d
      else modCan n (fun c => { c with pend := setBit c.pend b true }) d) d
    canStart r n d

/-- CAN_TXREQ [13 R378]. -/
def execCanTxreq (ch hi v : Nat) (s : State) : Host.Outcome State Fault Refusal := onDev s (canTxreq ch hi v)

/-- CAN_TXCANCEL: before its start of frame a request is removed; after it the attempt goes on and the entry says so [13 R380]. -/
def canTxcancel (n v : Nat) (r : Regs) (d : Dev) : Dev :=
  let b := v % 64
  let c := d.canCh n
  if !(canOn r d n) then d
  else match c.sending with
    | some t => if t.buf = b ∧ t.kind ≠ 2 then modCan n (fun c => { c with cancelLate := true }) d else drop b c d
    | none => drop b c d
where
  /-- A request not yet on the bus is removed, or the frame of the window in progress is. -/
  drop (b : Nat) (c : CanCh) (d : Dev) : Dev :=
    if bit c.pend b then canLog n (at' c.tx b) b 1 false none (canUnpend n b d)
    else match c.win with
      | some w =>
        if w.buf = b ∧ w.frame.isSome ∧ !w.done then
          canLog n (at' c.tx b) b 1 false none (modCan n (fun c => { c with win := some { w with frame := none, dead := true } }) d)
        else d
      | none => d

/-- CAN_TXCANCEL [13 R380]. -/
def execCanTxcancel (ch v : Nat) (s : State) : Host.Outcome State Fault Refusal := onDev s (canTxcancel ch v)

/-- CAN_PUT: the staging copy into buffer INDEX, unless its request is pending or its frame in transmission [13 R370]. -/
def canPut (n : Nat) (r : Regs) (d : Dev) : Dev :=
  let c := d.canCh n
  let b := r.on F.CAN_MRAM_SEL_INDEX n
  let busy := bit c.pend b || (match c.sending with | some t => t.buf == b | none => false)
  if 8 ≤ n ∨ pageAbsent d (0x18 + n) then d
  else if busy then modCan n (fun c => { c with putBusy := wrapInc 16 c.putBusy }) d
  else modCan n (fun c => { c with tx := modAt c.tx b fun _ => { c.stage with data := c.stage.bytes } }) d

/-- CAN_PUT [13 R370]. -/
def execCanPut (ch : Nat) (s : State) : Host.Outcome State Fault Refusal := onDev s (canPut ch)

/-- CAN_RESTART: bus-off recovery may begin [13 R393]. -/
def execCanRestart (ch : Nat) (s : State) : Host.Outcome State Fault Refusal :=
  onDev s fun r d => if canOn r d ch ∧ (d.canCh ch).err == .busOff then modCan ch (fun c => { c with recovering := true }) d else d

/-- BUS_OFF_RECOVERED: 128 occurrences of 11 recessive bits, observed at once with AUTO_RECOV, else after RESTART [13 R393]. -/
def busOffRecovered (n : Nat) (r : Regs) (d : Dev) : Dev :=
  let c := d.canCh n
  if c.err == .busOff && (c.recovering || r.on F.CAN_MODE_AUTO_RECOV n == 1) && canOn r d n then
    canStart r n (raise (0x18 + n) 2 (modCan n (fun c => { c with err := .active, tec := 0, recErr := 0, recovering := false }) d))
  else d

/-- BUS_OFF_RECOVERED [13 R393]. -/
def execBusOffRecovered (ch : Nat) (s : State) : Host.Outcome State Fault Refusal := onDev s (busOffRecovered ch)

/-- LAUNCH_DUE: TB0 has reached a held launch, which is now requested [13 R381]. -/
def launchDue (n b : Nat) (r : Regs) (d : Dev) : Dev :=
  let c := d.canCh n
  if canOn r d n ∧ bit c.launchHold b ∧ sget c.launchAt b 0 ≤ d.tb0 then
    canStart r n (modCan n (fun c => { c with launchHold := setBit c.launchHold b false }) d)
  else d

/-- LAUNCH_DUE [13 R381]. -/
def execLaunchDue (ch buf : Nat) (s : State) : Host.Outcome State Fault Refusal := onDev s (launchDue ch buf)

/-- LAUNCH_LATE: a launch whose start of frame has not been driven by launch + LATE_MAX is withdrawn [13 R381]. -/
def launchLate (n b : Nat) (r : Regs) (d : Dev) : Dev :=
  let c := d.canCh n
  let isLaunch := c.launchAt.any fun e => e.1 == b
  let away := match c.sending with | some t => t.buf == b && t.kind == 0 | none => false
  if canOn r d n ∧ bit c.pend b ∧ isLaunch ∧ !away ∧ sget c.launchAt b 0 + 1000 * r.on F.CAN_LATE_MAX_LATE_MAX n < d.tb0 then
    raise (0x18 + n) 5 (canLog n (at' c.tx b) b 2 false none (canUnpend n b d))
  else d

/-- LAUNCH_LATE [13 R381]. -/
def execLaunchLate (ch buf : Nat) (s : State) : Host.Outcome State Fault Refusal := onDev s (launchLate ch buf)

/-! ### Reception -/

/-- A value at a byte of a status slot's frame in its format [13 R392]. -/
def stsValue (fmt : Nat) (b : List Byte) (o : Nat) : F32 :=
  match fmt with
  | 0 => F32.ofInt (wrapS 16 (leAt b o 2 : Nat))
  | 1 => F32.ofInt (wrapS 32 (leAt b o 4 : Nat))
  | _ => F32.ofBits (leAt b o 4)

/-- Channel whose page enables status slot `s`. -/
def stsOf (r : Regs) (s : Nat) : Option Nat := (List.range 8).find? fun n => r.on F.CAN_STS_CFG_EN n s == 1

/-- Status slots and loop channels take a store in dedicated buffer `b` [13 R392, 11 R315]. -/
def stsStore (r : Regs) (n b : Nat) (e : CanElem) (d : Dev) : Dev :=
  foldN 32 (fun s d =>
    if stsOf r s = some n ∧ r.on F.CAN_STS_CFG_DB n s = b then
      let v := (r.f32 F.CAN_STS_SCALE_SCALE s n).mul (stsValue (r.on F.CAN_STS_CFG_FMT n s) e.data (r.on F.CAN_STS_CFG_OFS n s))
      foldN 32 (fun c d =>
        if r.bit F.LOP_CH_CFG_USE c && r.at F.LOP_CH_CFG_FB_SRC c == 4 && r.at F.LOP_CH_CFG_FB_PORT c == s then
          modLop c (fun ch => { ch with can := some (v, d.tb0) }) d
        else d) d
    else d) d

/-- A frame stored in a dedicated buffer; `ok` says that no context finds fault with it [13 R376 R392]. -/
def dbStore (r : Regs) (n b : Nat) (e : CanElem) (ok : Bool) (d : Dev) : Dev :=
  let d := modCan n (fun c => { c with
    db := modAt c.db b fun _ => e, dbNew := setBit c.dbNew b true, dbAt := modAt c.dbAt b fun _ => some d.tb0,
    dbAge := if ok then modAt c.dbAge b fun _ => 0 else c.dbAge,
    win := c.win.map fun w => if w.type = 5 ∧ w.buf = b then { w with stored := true } else w }) d
  stsStore r n b e (raiseIf (bit (r.get F.CAN_DB_IRQ_EN_EN n (b / 32)) (b % 32)) (0x18 + n) 0 d)

/-- A receive FIFO takes an element, or loses one when it is full [13 R371]; the Bool says that one was lost. -/
def RxFifo.store (f : RxFifo) (ovr : Bool) (e : CanElem) : RxFifo × Bool :=
  let full := decide (64 ≤ f.fill)
  if full && !ovr then ({ f with lost := wrapInc 8 f.lost }, true)
  else
    ({ f with elems := modAt f.elems f.put fun _ => e, put := (f.put + 1) % 64, get := if full then (f.get + 1) % 64 else f.get,
              fill := if full then 64 else f.fill + 1, lost := if full then wrapInc 8 f.lost else f.lost }, full)

/-- A frame stored in RX FIFO `k` [13 R371 R401]. -/
def fifoStore (r : Regs) (n k : Nat) (e : CanElem) (d : Dev) : Dev :=
  let c := d.canCh n
  let (f, lost) := (if k = 0 then c.fifo0 else c.fifo1).store (r.get F.CAN_RXF_CFG_OVERWRITE n k == 1) e
  let d := modCan n (fun c => if k = 0 then { c with fifo0 := f } else { c with fifo1 := f }) d
  raiseIf lost (0x18 + n) 3 (raiseIf (!lost && f.fill == r.get F.CAN_RXF_CFG_WM n k) (0x18 + n) 0 d)

/-- A filter entry matches an identifier [13 R373]. -/
def FltEntry.hits (e : FltEntry) (id : Nat × Bool) : Bool :=
  bit e.control 2 == id.2 &&
    (match e.control % 4 with
     | 0 => false
     | 1 => decide (e.key ≤ id.1) && decide (id.1 ≤ e.span)
     | 2 => id.1 == e.key || id.1 == e.span
     | _ => id.1 &&& e.span == e.key &&& e.span)

/-- The first entry of a channel's list that matches: its index and entry [13 R374]. -/
def fltFind (r : Regs) (n : Nat) (id : Nat × Bool) (d : Dev) : Option (Nat × FltEntry) :=
  let base := r.on F.CAN_FLT_CFG_BASE n
  (d.can.pool.find? fun e => decide (base ≤ e.idx) && decide (e.idx < base + r.on F.CAN_FLT_CFG_COUNT n) && e.hits id).map fun e => (e.idx - base, e)

/-- RX element of a frame [13 R369 R377]; `chk` holds context, result, counter and length of a check. (log 17) -/
def rxElem (f : CanFrame) (rule : Nat) (ts : Nat) (chk : Option (Nat × Nat × Nat × Nat)) (data : List Byte) : CanElem :=
  { frame := b2n f.ext + 2 * b2n f.fd + 4 * b2n (f.fd && f.brs) + 8 * b2n f.esi + 16 * lenDlc f.fd f.data.length + 2 ^ 16 * rule,
    ident := f.id, w2 := ts,
    w3 := (match chk with | some (i, res, cnt, len) => i + 16 * res + 128 + 256 * cnt + 2 ^ 16 * len | none => 0), data := data }

/-- A received data frame: checked, taken by sources, and stored or rejected by the filter list [13 R374 R398, 06 R179]. (log 17) -/
def canReceive (r : Regs) (n : Nat) (f : CanFrame) (sof : Nat) (d : Dev) : Dev :=
  let id := (f.id, f.ext)
  let d := e2eWatch r n id f.data d
  let ctx := e2eFor r false n id
  let (d, chk) := match ctx with
    | some i => let (d, res) := e2eReceive r i f.data d; (d, some (i, res))
    | none => (d, none)
  let ok := match chk with | some (_, res) => decide (res ≤ 2) | none => true
  let d := match chk with
    | some (i, _) => if ok then srcCan r n f.id f.ext (f.data.take (e2eOpt r i).plen) sof d else d
    | none => srcCan r n f.id f.ext f.data sof d
  let drop := match chk with | some (i, _) => !ok && (e2eOpt r i).drop | none => false
  let (rule, dest, buf, none_) := match fltFind r n id d with
    | some (k, e) => (k, bits e.control 6 4, bits e.control 13 8, false)
    | none => (0xFF, (let x := if f.ext then r.on F.CAN_FLT_CFG_NOMATCH_XTD n else r.on F.CAN_FLT_CFG_NOMATCH_STD n; if x ≤ 1 then x else 3), 0, true)
  let d := if none_ then modCan n (fun c => { c with noMatch := wrapInc 16 c.noMatch }) d else d
  if drop then d
  else
    let ts := ((((d.tb3 : Int) + sof - d.tb0) / 1000) % 2 ^ 32).toNat
    let strip := match chk with | some (i, _) => (e2eOpt r i).strip | none => false
    let (info, data) := match chk with
      | some (i, res) =>
        let o := e2eOpt r i
        (some (i, res, o.count f.data, if strip then o.plen else 0), if strip then f.data.take o.plen else f.data)
      | none => (none, f.data)
    let e := rxElem f rule ts info data
    match dest with
    | 0 => fifoStore r n 0 e d
    | 1 => fifoStore r n 1 e d
    | 2 => dbStore r n buf e ok d
    | _ => d

/-! ### The Storyboard -/

/-- The unit is time master of the channel [13 R384]. -/
def sbIsMaster (r : Regs) (n : Nat) (d : Dev) : Bool :=
  match r.on F.CAN_SB_CFG_ROLE n with
  | 0 => true
  | 1 => false
  | _ => d.commands

/-- A channel that is no longer master follows, from SYNC [13 R384 R389]. -/
def sbRole (r : Regs) (n : Nat) (d : Dev) : Dev :=
  if (d.canCh n).master && !(sbIsMaster r n d) then
    modCan n (fun c => { c with master := false, sb := if c.sb == .run then .sync else c.sb }) d
  else d

/-- A committed Storyboard set comes into force whole: a new NROW starts at count 0, EN = 0 stops, EN = 1 starts in SYNC [13 R390]. -/
def sbApply (r : Regs) (n : Nat) (d : Dev) : Regs × Dev :=
  let rows := r.on F.CAN_SB_CFG_NROW_LOG2 n
  let p := (r.head (0x18 + n)).pend
  let (r', _) := applyCommit r (0x18 + n) fun _ => true
  if !p then (r, d)
  else
    let on := r'.on F.CAN_SB_CFG_EN n == 1
    (r', modCan n (fun c => { c with
      cycle := if r'.on F.CAN_SB_CFG_NROW_LOG2 n = rows then c.cycle else sbRows r' n - 1,
      sb := if !on then .off else if c.sb == .off then .sync else c.sb,
      win := if on then c.win else none, refTick := if on then c.refTick else none,
      master := on && c.master }) d)

/-- The CMD windows of a basic cycle are judged at the end of its last one [13 R387, 15 R443]. -/
def sbJudge (r : Regs) (n : Nat) (col : Nat) (d : Dev) : Dev :=
  let c := d.canCh n
  let row := c.cycle % sbRows r n
  let last := (List.range (sbCols r n)).all fun k => decide (k ≤ col) || (sbCell r n row k).1 != 1
  if (sbCell r n row col).1 = 1 ∧ last then
    let empty := !(c.refOk && c.occNow)
    silentWatch r (modCan n (fun c => { c with emptyRun := if empty then min 255 (c.emptyRun + 1) else 0, occ := !empty && !(d.commands) }) d)
  else d

/-- A window ends: its frame is missed, its receive buffer empty, or its CMD windows judged [13 R386 R387 R388]. -/
def sbClose (r : Regs) (n : Nat) (d : Dev) : Dev :=
  let c := d.canCh n
  match c.win with
  | none => d
  | some w =>
    let onBus := match c.sending with | some t => t.kind == 1 | none => false
    let missed := w.frame.isSome && !w.done && !onBus && c.sb == .run
    let d := if missed then
        raise (0x18 + n) 4 (canLog n (w.frame.getD {}) w.buf 3 false none (modCan n (fun c => { c with winMiss := wrapInc 8 c.winMiss }) d))
      else d
    let d := if w.type = 5 ∧ !w.stored ∧ c.sb == .run then
        raise (0x18 + n) 4 (modCan n (fun c => { c with rxchkMiss := wrapInc 8 c.rxchkMiss }) d)
      else d
    let d := onlyIf ((missed || (w.type == 5 && !w.stored && c.sb == .run)) && hasCmd r n) checkFail d
    let d := if w.type = 1 ∧ w.done then modCan n (fun c => { c with occNow := true }) d else d
    sbJudge r n w.col (modCan n (fun c => { c with win := none }) d)

/-- A new basic cycle begins at tick `t` with count `k` [13 R384 R385]. -/
def sbBegin (n k t : Nat) (ok : Bool) (d : Dev) : Dev :=
  modCan n (fun c => { c with
    cycle := k, refTick := some t, colNext := 0, occNow := false, refOk := ok, win := none,
    dbAge := c.dbAge.map fun a => min 255 (a + 1) }) d

/-- The instant of the next reference has come: under ALIGN cut + REF_OFS + j BC_LEN, else BC_LEN after the last [13 R385]. -/
def sbDue (r : Regs) (n : Nat) (d : Dev) : Bool :=
  let c := d.canCh n
  let len := r.on F.CAN_SB_LEN_BC_LEN n
  if r.on F.CAN_SB_CFG_ALIGN n = 1 then
    let cy := d.mde.cyc
    cy.running && decide (c.refJ * (1000 * len) < cy.periodNs) &&
      decide (cy.cutTick + 250 * (r.on F.CAN_SB_LEN_REF_OFS n + c.refJ * len) ≤ d.now)
  else match c.refTick with
    | some t => decide (t + 250 * len ≤ d.now)
    | none => true

/-- SB_REF_LAUNCH: a basic cycle ends and the next begins; a committed set comes in, and a master sends the reference. A follower in SYNC keeps the windows of its own cut in the same way, and sends nothing [13 R384 R385 R389 R390]. (log 96) -/
def sbRefLaunch (n : Nat) (r : Regs) (d : Dev) : Regs × Dev :=
  let d := sbRole r n d
  let c := d.canCh n
  if !(canOn r d n) || c.sb == .off || !(sbDue r n d) then (r, d)
  else if sbIsMaster r n d then
    let d := sbClose r n d
    let (r, d) := sbApply r n d
    if (d.canCh n).sb == .off then (r, d)
    else
      let fresh := !((d.canCh n).master)
      let k := if fresh && c.refTick.isNone then 0 else ((d.canCh n).cycle + 1) % sbRows r n
      let d := modCan n (fun c => { c with sb := .run, master := true, refJ := c.refJ + 1 }) (sbBegin n k d.now true d)
      let b := r.on F.CAN_SB_CFG_REF_BUF n
      let e : CanElem := at' (d.canCh n).tx b
      let e := { e with data := putBytes e.data 0 [BitVec.ofNat 8 (k % 64)] }
      if canMayDrive r n d && (d.canCh n).sending.isNone then (r, canDrive r n b 2 e d) else (r, d)
  else if c.sb == .sync && r.on F.CAN_SB_CFG_ALIGN n == 1 then
    let d := sbClose r n d
    (r, modCan n (fun c => { c with refJ := c.refJ + 1 }) (sbBegin n ((c.cycle + 1) % sbRows r n) d.now false d))
  else (r, d)

/-- SB_REF_LAUNCH [13 R385]. -/
def execSbRefLaunch (ch : Nat) (s : State) : Host.Outcome State Fault Refusal := onRegs s (sbRefLaunch ch)

/-! ### Global operations [15 R459] -/

/-- Channels in the operation: enabled in their PAIR_GLB_CH windows. -/
def glbChannels (r : Regs) : List Nat := (List.range 8).filter fun n => r.bit F.PAIR_GLB_CH_EN n

/-- Cost of a channel, ticks: its frame, and each acknowledgement with three bit times; the length of an acknowledgement is open (log 5) [15 R459]. (log 96) -/
def glbCost (r : Regs) (n : Nat) (d : Dev) : Nat :=
  canBound r n (canMode r n (at' (d.canCh n).tx (r.at F.PAIR_GLB_CH_BUF n)))
    + r.at F.PAIR_GLB_CH_N_ACK n * (Config.freeNat d.free (0x15459 + n) + (3 * (canBitTimes r n).1 * 25 + 7) / 8)

/-- The channel is within a FREE window whose remainder is at least its cost; without a Storyboard it is free throughout (log 39). -/
def glbFits (r : Regs) (d : Dev) (n : Nat) : Bool :=
  let c := d.canCh n
  match c.sb, c.win, c.refTick with
  | .off, _, _ => canMayDrive r n d
  | .run, some w, some t => w.type == 4 && decide (glbCost r n d ≤ sbEnd r n w.col t - d.now)
  | _, _, _ => false

/-- A waiting operation starts once every channel has its window: each sends its buffer [15 R459]. -/
def glbTry (r : Regs) (d : Dev) : Dev :=
  let l := glbChannels r
  if d.pair.glb == .waiting && l.all (glbFits r d) then
    l.foldl (fun d n => canTxreq n (r.at F.PAIR_GLB_CH_BUF n / 32) (2 ^ (r.at F.PAIR_GLB_CH_BUF n % 32)) r d)
      { d with pair := { d.pair with glb := .running, glbStart := d.tb0 }, free := d.free + 1 }
  else d

/-- SB_WINDOW_START: the next column of the basic cycle opens and its frame is taken up [13 R383 R386 R387]. -/
def sbWindowStart (n : Nat) (r : Regs) (d : Dev) : Dev :=
  let d := sbRole r n d
  let c := d.canCh n
  match c.refTick with
  | none => d
  | some t =>
    let k := c.colNext
    if !(canOn r d n) || c.sb == .off || decide (sbCols r n ≤ k) || decide (d.now < t + 250 * sbStart r n k) then d
    else
      let d := sbClose r n d
      let (ty, b) := sbCell r n (c.cycle % sbRows r n) k
      let live := c.sb == .run && c.refOk
      let ty := if live || ty == 1 then ty else 0
      let sends := live && (ty == 2 || ty == 3 || (ty == 1 && d.sendsCmd))
      let d := modCan n (fun c => { c with
        colNext := k + 1, win := some { col := k, type := ty, buf := b, frame := if sends then some (at' c.tx b) else none } }) d
      glbTry r (canStart r n d)

/-- SB_WINDOW_START [13 R387]. -/
def execSbWindowStart (ch : Nat) (s : State) : Host.Outcome State Fault Refusal := onDev s (sbWindowStart ch)

/-- SB_WINDOW_END [13 R388]. -/
def sbWindowEnd (n : Nat) (r : Regs) (d : Dev) : Dev :=
  let c := d.canCh n
  match c.win, c.refTick with
  | some w, some t => if sbEnd r n w.col t ≤ d.now then sbClose r n d else d
  | _, _ => d

/-- SB_WINDOW_END [13 R388]. -/
def execSbWindowEnd (ch : Nat) (s : State) : Host.Outcome State Fault Refusal := onDev s (sbWindowEnd ch)

/-- A follower's reference is missing or out of tolerance [13 R389]. -/
def sbMiss (n : Nat) (d : Dev) : Dev :=
  raise (0x18 + n) 4 (modCan n (fun c => { c with refMiss := wrapInc 8 c.refMiss, sb := .sync }) d)

/-- SB_REF_MISS: a basic cycle whose reference does not arrive; its CMD windows are still judged, as empty [13 R389, 15 R443]. -/
def sbRefMiss (n : Nat) (r : Regs) (d : Dev) : Dev :=
  let d := sbRole r n d
  let c := d.canCh n
  match c.refTick with
  | some t =>
    let due := t + 250 * r.on F.CAN_SB_LEN_BC_LEN n
    if canOn r d n ∧ c.sb == .run ∧ !c.master ∧ due + 250 * r.on F.CAN_SB_COL_TOL n 0 < d.now then
      sbBegin n ((c.cycle + 1) % sbRows r n) due false (sbMiss n (sbClose r n d))
    else d
  | none => d

/-- SB_REF_MISS [13 R389]. -/
def execSbRefMiss (ch : Nat) (s : State) : Host.Outcome State Fault Refusal := onDev s (sbRefMiss ch)

/-- A follower receives the reference [13 R384 R389 R390]. (log 96) -/
def sbReference (n : Nat) (f : CanFrame) (sof : Nat) (r : Regs) (d : Dev) : Regs × Dev :=
  let c := d.canCh n
  let tick := d.now - (d.tb0 - sof) / 4
  let late := match c.refTick with
    | some t =>
      let due := t + 250 * r.on F.CAN_SB_LEN_BC_LEN n
      decide (due + 250 * r.on F.CAN_SB_COL_TOL n 0 < tick) || decide (tick + 250 * r.on F.CAN_SB_COL_TOL n 0 < due)
    | none => false
  if c.sb == .run && late then (r, sbMiss n (sbClose r n d))
  else
    let (r, d) := sbApply r n (sbClose r n d)
    if (d.canCh n).sb == .off then (r, d)
    else (r, modCan n (fun c => { c with sb := .run }) (sbBegin n ((at' f.data 0).toNat % 64) tick true d))

/-- Identifiers of the CMD buffers of a channel. -/
def sbCmdIds (r : Regs) (n : Nat) (d : Dev) : List (Nat × Bool) :=
  (List.range (sbRows r n)).flatMap fun i => (List.range (sbCols r n)).filterMap fun j =>
    let (ty, b) := sbCell r n i j
    if ty = 1 then some (at' (d.canCh n).tx b).id else none

/-- The Storyboard sees a frame of another node complete: occupied windows, the yield of a commanding unit, the reference [13 R384 R387, 15 R444]. -/
def sbSee (n : Nat) (f : CanFrame) (sof : Nat) (r : Regs) (d : Dev) : Regs × Dev :=
  let d := sbRole r n d
  let c := d.canCh n
  if c.sb == .off then (r, d)
  else
    let id := (f.id, f.ext)
    let ref := (at' c.tx (r.on F.CAN_SB_CFG_REF_BUF n)).id == id
    let d := modCan n (fun c => { c with win := c.win.map fun w => if w.type = 1 ∧ (at' c.tx w.buf).id = id then { w with done := true } else w }) d
    let d := if d.commands && (ref || (sbCmdIds r n d).contains id) then yieldRole r d else d
    let d := sbRole r n d
    if ref && !(sbIsMaster r n d) then sbReference n f sof r d else (r, d)

/-- The references of a cycle count from its cut [13 R385]. -/
def canAtCut (d : Dev) : Dev := { d with can := { d.can with ch := d.can.ch.map fun (c : CanCh) => { c with refJ := 0 } } }

/-! ### Frames -/

/-- CAN_FRAME_RX: a frame of another node has ended, or failed with an error code of PSTAT.LEC; 7 stands for a protocol exception [13 R364 R374 R377 R393 R394]. -/
def canFrameRx (n : Nat) (f : CanFrame) (sof : Nat) (err : Option Nat) (r : Regs) (d : Dev) : Regs × Dev :=
  if !(canOn r d n) || (d.canCh n).err == .busOff then (r, d)
  else
    let c := d.canCh n
    match if f.fd && r.on F.CAN_MODE_FD_EN n != 1 then some 2 else err with
    | some e =>
      if e = 7 then (r, modCan n (fun c => { c with pxe := true }) d)
      else (r, canErrors n c.tec (c.recErr + 1) (modCan n (fun c => { c with lec := e % 7 }) d))
    | none =>
      let d := canErrors n c.tec (if 128 ≤ c.recErr then 127 else c.recErr - 1) (modCan n (fun c => { c with lec := 0 }) d)
      if f.rtr then (r, modCan n (fun c => { c with remote := wrapInc 16 c.remote }) d)
      else
        let (r', d) := sbSee n f sof r d
        (r', canStart r' n (canReceive r' n f sof d))

/-- CAN_FRAME_RX [13 R374]. -/
def execCanFrameRx (ch : Nat) (f : CanFrame) (sof : Nat) (err : Option Nat) (s : State) : Host.Outcome State Fault Refusal :=
  onRegs s (canFrameRx ch f sof err)

/-- The frame of an element as a receiver sees it. -/
def CanElem.toFrame (e : CanElem) : CanFrame :=
  { id := e.id.1, ext := e.id.2, fd := e.isFd, brs := e.isBrs, data := e.data }

/-- A frame of this channel was sent whole [13 R377 R378 R380 R384 R386 R396]. (log 31) -/
def canSent (r : Regs) (n : Nat) (t : CanTx) (sof : Nat) (d : Dev) : Dev :=
  let c := d.canCh n
  let d := emit (.can n t.buf t.elem) (modCan n (fun c => { c with sending := none, cancelLate := false, lec := 0 }) d)
  let d := canErrors n (c.tec - 1) c.recErr d
  let d := match t.ctx with
    | some (i, v) => modCtx i (fun x => { x with cnt := (x.cnt + 1) % (e2eOpt r i).modulus, run := if (e2eOpt r i).stream then v else x.run }) d
    | none => d
  let d := match t.kind with
    | 0 => canLog n t.elem t.buf 0 c.cancelLate (some sof) (canUnpend n t.buf d)
    | 1 => modCan n (fun c => { c with win := c.win.map fun w => if w.buf = t.buf then { w with done := true } else w }) d
    | _ => modCan n (fun c => { c with refTick := some (d.now - (d.tb0 - sof) / 4) }) d
  if r.on F.CAN_MODE_LOOPBACK n = 1 then canReceive r n t.elem.toFrame sof d else d

/-- An attempt ended without success: retried, or at its end [13 R367 R380 R386]. (log 31, 96) -/
def canNotSent (r : Regs) (n : Nat) (t : CanTx) (d : Dev) : Dev :=
  let c := d.canCh n
  let d := modCan n (fun c => { c with sending := none, cancelLate := false }) d
  match t.kind with
  | 0 => if c.cancelLate || r.on F.CAN_MODE_DAR n == 1 then canLog n t.elem t.buf 1 false none (canUnpend n t.buf d) else d
  | 1 =>
    if c.cancelLate then canLog n t.elem t.buf 1 false none (modCan n (fun c => { c with win := c.win.map fun w => { w with frame := none, dead := true } }) d)
    else modCan n (fun c => { c with win := c.win.map fun w => if w.type = 3 then w else { w with dead := true } }) d
  | _ => d

/-- The transmitter delay of a frame in FD form, which only the pins can tell: a free value (log 5) [13 R366]. (log 96) -/
def tdcMeasure (r : Regs) (n : Nat) (t : CanTx) (d : Dev) : Dev :=
  if t.elem.isFd && r.on F.CAN_DBT_TDC_EN n == 1 then modCan n (fun c => { c with tdcv := Config.freeNat d.free (0x0D00 + n) % 128 }) d.takeFree else d

/-- CAN_FRAME_TX_END: the attempt in hand ends; `sof` is the TB0 time of its start of frame [13 R378]. -/
def canFrameTxEnd (n : Nat) (e : TxEnd) (sof : Nat) (r : Regs) (d : Dev) : Dev :=
  match (d.canCh n).sending with
  | none => d
  | some t =>
    let c := d.canCh n
    let d := match e with
      | .sent => canSent r n t sof (tdcMeasure r n t d)
      | .lost => canNotSent r n t d
      | .failed lec =>
        let tec := if c.err == .passive && lec == 3 then c.tec else c.tec + 8
        let d := canErrors n tec c.recErr (modCan n (fun c => { c with lec := lec % 7 }) (canNotSent r n t (tdcMeasure r n t d)))
        onlyIf ((d.canCh n).err == .busOff && hasCmd r n) checkFail d
    canStart r n d

/-- CAN_FRAME_TX_END [13 R378]. -/
def execCanFrameTxEnd (ch : Nat) (e : TxEnd) (sof : Nat) (s : State) : Host.Outcome State Fault Refusal := onDev s (canFrameTxEnd ch e sof)

/-! ### Host commands on stored frames -/

/-- DB_SNAP: the marked dedicated buffers into their shadows [13 R376]. -/
def dbSnap (n hi v : Nat) (d : Dev) : Dev :=
  if 8 ≤ n ∨ pageAbsent d (0x18 + n) then d
  else
    foldN 32 (fun i d =>
      let b := 32 * (hi % 2) + i
      if bit v i then modCan n (fun c => { c with shadow := modAt c.shadow b fun _ => at' c.db b, dbNew := setBit c.dbNew b false }) d else d) d

/-- DB_SNAP [13 R376]. -/
def execDbSnap (ch hi v : Nat) (s : State) : Host.Outcome State Fault Refusal := onDev s fun _ d => dbSnap ch hi v d

/-- Elements up to index `i` freed. -/
def RxFifo.ack (f : RxFifo) (i : Nat) : RxFifo :=
  let k := (i + 64 - f.get) % 64
  if k < f.fill then { f with get := (i + 1) % 64, fill := f.fill - (k + 1) } else f

/-- RXF_ACK: the elements up to the index written are free [13 R371]. -/
def execRxfAck (ch fifo v : Nat) (s : State) : Host.Outcome State Fault Refusal :=
  onDev s fun _ d => modCan ch (fun c => if fifo = 0 then { c with fifo0 := c.fifo0.ack (v % 64) } else { c with fifo1 := c.fifo1.ack (v % 64) }) d

/-- TXLOG_ACK: the log entries up to the index written are free [13 R378]. -/
def execTxlogAck (ch v : Nat) (s : State) : Host.Outcome State Fault Refusal :=
  onDev s fun _ d => modCan ch (fun c =>
    let k := (v % 32 + 32 - c.logGet) % 32
    if k < c.logFill then { c with logGet := (v % 32 + 1) % 32, logFill := c.logFill - (k + 1) } else c) d

/-- The staged KEY and SPAN of a filter entry, those in effect where none is staged. -/
def fltStaged (d : Dev) (n i : Nat) : FltEntry :=
  match d.can.staged.find? fun e => e.1 == n && e.2.idx == i with
  | some e => e.2
  | none => (d.can.pool.find? fun e => e.idx == i).getD { idx := i }

/-- The pool with an entry put in its place. -/
def poolPut (l : List FltEntry) (e : FltEntry) : List FltEntry :=
  match l with
  | [] => [e]
  | a :: t => if e.idx < a.idx then e :: a :: t else if e.idx = a.idx then e :: t else a :: poolPut t e

/-- FLT_CTRL_WRITE: the selected filter entry takes effect with KEY and SPAN; DEST 4 to 7 is refused [13 R373 R375]. -/
def fltCtrlWrite (n v : Nat) (r : Regs) (d : Dev) : Regs × Dev :=
  if 4 ≤ bits v 6 4 then (r.reject (0x18 + n) 0xD0 3, d)
  else
    let i := r.on F.CAN_FLT_CFG_BASE n + r.on F.CAN_FLT_SEL_ENTRY n
    if 2048 ≤ i ∨ pageAbsent d (0x18 + n) then (r, d)
    else
      let e := { fltStaged d n i with control := v &&& 0x3F77 }
      (r, { d with can := { d.can with pool := poolPut d.can.pool e, staged := d.can.staged.filter fun x => !(x.1 == n && x.2.idx == i) } })

/-- FLT_CTRL_WRITE [13 R375]. -/
def execFltCtrlWrite (ch v : Nat) (s : State) : Host.Outcome State Fault Refusal := onRegs s (fltCtrlWrite ch v)

end Sys2Proof.Machine
end

