-- ==== Sys2Proof/Machine/Fields.lean ====
section
/-! DEFINITION. Registers by address: the fields at an offset, the window they lie in, and the checks that a value of a field has to pass [19 R554 to R557, 00 R3 R7]. -/

namespace Sys2Proof.Machine

/-- A field found at an address: its page's instance and which copy of the register it is. -/
structure Place where
  /-- the field -/
  fd : Fd
  /-- instance of the page -/
  inst : Nat := 0
  /-- copy of the register -/
  arr : Nat := 0
  deriving DecidableEq, Repr

/-- Which copy of a field's register lies at an offset. -/
def Fd.copyAt (f : Fd) (off : Nat) : Option Nat :=
  if f.cnt ≤ 1 then (if f.off = off then some 0 else none)
  else if f.off ≤ off ∧ (off - f.off) % f.stride = 0 ∧ (off - f.off) / f.stride < f.cnt then some ((off - f.off) / f.stride)
  else none

/-- The fields of the register at an offset of a page. -/
def placesAt (p off : Nat) : List Place :=
  match pageBlock p with
  | none => []
  | some (b, _) =>
    (blockFields b).filterMap fun (f : Fd) => (f.copyAt off).map fun a => { fd := f, inst := p - b, arr := a }

/-- Key of a field at window indices; a field outside the window has one value. -/
def Place.key (x : Place) (i j : Nat) : Nat :=
  x.fd.key x.inst x.arr (if x.fd.n1 = 1 then 0 else i) (if x.fd.n2 = 1 then 0 else j)

/-- The field's own index in the window. -/
def Place.idx (x : Place) (i : Nat) : Nat := if x.fd.n1 = 1 then 0 else i

/-- Active value at window indices. -/
def Place.get (x : Place) (r : Regs) (i j : Nat) : Nat :=
  r.get x.fd x.inst x.arr (x.idx i) (if x.fd.n2 = 1 then 0 else j)

/-- Shadow value at window indices. -/
def Place.shadow (x : Place) (r : Regs) (i j : Nat) : Nat :=
  r.shadow x.fd x.inst x.arr (x.idx i) (if x.fd.n2 = 1 then 0 else j)

/-- Active value set. -/
def Place.put (x : Place) (r : Regs) (i j v : Nat) : Regs :=
  r.put x.fd v x.inst x.arr (x.idx i) (if x.fd.n2 = 1 then 0 else j)

/-- Shadow copy written. -/
def Place.putShadow (x : Place) (r : Regs) (i j v : Nat) : Regs :=
  r.putShadow x.fd v x.inst x.arr (x.idx i) (if x.fd.n2 = 1 then 0 else j)

/-- The window that an offset lies in. -/
def winAt (p off : Nat) : Option Win :=
  match pageBlock p with
  | none => none
  | some (b, _) => (blockWins b).find? fun (w : Win) => decide (w.lo ≤ off) && decide (off ≤ w.hi)

/-- The register at an offset is a select register. -/
def isSelect (p off : Nat) : Bool :=
  match pageBlock p with
  | none => false
  | some (b, _) => (blockWins b).any fun (w : Win) => w.sel.off == off || (match w.sel2 with | some s => s.off == off | none => false)

/-- The indices that the select registers of an offset hold. -/
def selected (r : Regs) (p off : Nat) : Nat × Nat :=
  match pageBlock p, winAt p off with
  | some (b, _), some w => (r.on w.sel (p - b), match w.sel2 with | some s => r.on s (p - b) | none => 0)
  | _, _ => (0, 0)

/-- The indices that a word written to the select register gives. -/
def Win.indices (w : Win) (v : Nat) : Nat × Nat :=
  (bits v w.sel.hi w.sel.lo, match w.sel2 with | some s => bits v s.hi s.lo | none => 0)

/-- Value of a field in a word. -/
def Fd.of (f : Fd) (w : Nat) : Nat := bits w f.hi f.lo

/-- The field takes writes. -/
def Fd.writable (f : Fd) : Bool := !(f.acc == .RO)

/-- A binary32 value lies in bounds given by their bits. -/
def f32In (v lo hi : Nat) (loOpen hiOpen : Bool) : Bool :=
  let x := F32.ofBits v
  let a := F32.ofBits lo
  let b := F32.ofBits hi
  x.isFin && (if loOpen then a.lt x else a.le x) && (if hiOpen then x.lt b else x.le b)

/-- A value passes a field's range [19 R557, 00 R7]. -/
def Chk.ok (c : Chk) (width v : Nat) : Bool :=
  match c with
  | .any => true
  | .u lo hi => decide (lo ≤ v) && decide (v ≤ hi)
  | .s lo hi => decide (lo ≤ wrapS width v) && decide (wrapS width v ≤ hi)
  | .f lo hi a b => f32In v lo hi a b
  | .fin => (F32.ofBits v).isFin

/-- A value selects only what the grade has [00 R3]. -/
def Grd.ok (g : Grd) (v : Nat) : Bool :=
  match g with
  | .all => true
  | .max n => decide (v ≤ n)
  | .mask m => v &&& m == v

/-- A value's range holds. -/
def Fd.inRange (f : Fd) (v : Nat) : Bool := f.chk.ok f.width v

/-- A value suits the grade. -/
def Fd.onGrade (f : Fd) (d : Dev) (v : Nat) : Bool := !(d.tw812) || f.grd.ok v

/-- V_MAX at most min(2 000 000, 250 000 000 / (2 STEP_WIDTH)) steps/s, and not negative [12 R341]. -/
def vMaxOk (v width : Nat) : Bool :=
  let x := F32.ofBits v
  x.isFin && !(x.lt F32.zero) && x.to64.le (F64.min (F64.ofInt 2000000) (F64.ofRatio 125000000 (max width 1)))

/-- LOP_CH_CFG names a port or an output that a TW812 lacks [00 R3, 12 R335]. -/
def lopOff812 (w : Nat) : Bool :=
  let fb := F.LOP_CH_CFG_FB_PORT.of w
  let o := F.LOP_CH_CFG_OUT_PORT.of w
  (match F.LOP_CH_CFG_FB_SRC.of w with
   | 1 | 2 => decide (8 ≤ fb) && decide (fb < 16)
   | _ => false) ||
  (match F.LOP_CH_CFG_OUT_KIND.of w with
   | 0 | 1 => decide (8 ≤ o) && decide (o < 16)
   | 2 => decide (4 ≤ o) && decide (o < 8)
   | _ => false)

/-- The rules of single registers on a whole word: 0, or the reason of R557. `width` is the STEP_WIDTH that goes with V_MAX. -/
def wordRule (d : Dev) (p off w width : Nat) : Nat :=
  if p = 0x15 ∧ off = 0x4C then (if vMaxOk w width then 0 else 3)
  else if p = 0x16 ∧ off = 0x98 then (if bits w 31 16 ≤ bits w 15 0 then 0 else 3)
  else if p = 0x14 ∧ off = 0x40 then (if d.tw812 ∧ 8 ≤ w % 16 then 4 else 0)
  else if p = 0x13 ∧ off = 0x44 then (if d.tw812 && lopOff812 w then 4 else 0)
  else if p = 0x27 ∧ off = 0x74 then (if bits w 12 7 + bits w 18 13 ≤ 64 then 0 else 3)
  else 0

/-- Pages whose boundary is the cut [02 R34]. -/
def cutPages : List Nat := [5, 7, 8, 9, 0xA, 0xB, 0xF, 0x26, 0x27, 0x29, 0x2A, 0x2B]

/-- Pages of the map. -/
def allPages : List Nat := List.range 0x2D

/-- Entries of a key list that belong to a page. -/
def ofPage (p : Nat) (l : List (Nat × Nat)) : List (Nat × Nat) := l.filter fun (e : Nat × Nat) => keyPage e.1 == p

end Sys2Proof.Machine
end

