-- ==== Sys2Proof/Machine/Island.lean ====
section
/-! DEFINITION. The safety island: page SAF, its two channels, inputs, outputs and configuration [16]. -/

namespace Sys2Proof.Machine

/-! ### Configuration words, 0x100 to 0x13C -/

/-- Word `i` of a channel's copy. -/
def SafSt.word (s : SafSt) (chB : Bool) (i : Nat) : Nat := nth (if chB then s.cfgB else s.cfgA) i 0
/-- Input in use. -/
def SafSt.inEn (s : SafSt) (chB : Bool) (i : Nat) : Bool := bit (s.word chB i) 0
/-- KIND = 1: antivalent. -/
def SafSt.anti (s : SafSt) (chB : Bool) (i : Nat) : Bool := bit (s.word chB i) 1
/-- STARTUP_TEST. -/
def SafSt.tested (s : SafSt) (i : Nat) : Bool := bit (s.word false i) 2
/-- DISC_TIME in ticks. -/
def SafSt.discTicks (s : SafSt) (i : Nat) : Nat := ticksMs (5 * bits (s.word false i) 14 8)
/-- Output in use. -/
def SafSt.outEn (s : SafSt) (chB : Bool) (o : Nat) : Bool := bit (s.word chB (8 + o)) 0
/-- RESTART = 1: enabled after SRST. -/
def SafSt.restart (s : SafSt) (chB : Bool) (o : Nat) : Bool := bit (s.word chB (8 + o)) 1
/-- TP_EN. -/
def SafSt.tpEn (s : SafSt) (o : Nat) : Bool := bit (s.word false (8 + o)) 2
/-- MAP. -/
def SafSt.map (s : SafSt) (chB : Bool) (o : Nat) : Nat := bits (s.word chB (8 + o)) 15 8
/-- CRC-32 of R484 over the words at 0x100 to 0x138 of a copy. -/
def safCrc (cfg : List Nat) : Nat := crc32 ((List.range 15).flatMap fun i => leBytes 4 (nth cfg i 0))

/-! ### Inputs -/

/-- Input `i`. -/
def SafSt.input (s : SafSt) (i : Nat) : SafIn := at' s.ins i
/-- Output `o`. -/
def SafSt.output (s : SafSt) (o : Nat) : SafOut := at' s.outs o
/-- Line A in the level of the closed position, as a channel sees it [16 R467]. -/
def SafSt.lineA (s : SafSt) (chB : Bool) (i : Nat) : Bool := if chB then (s.input i).aByB else (s.input i).aByA
/-- Line B in the level of the closed position, as a channel sees it [16 R467]. -/
def SafSt.lineB (s : SafSt) (chB : Bool) (i : Nat) : Bool := (if chB then (s.input i).bByB else (s.input i).bByA) != s.anti chB i
/-- Both lines closed in a channel's view. -/
def SafSt.bothClosed (s : SafSt) (chB : Bool) (i : Nat) : Bool := s.lineA chB i && s.lineB chB i
/-- Both lines open in both views. -/
def SafSt.allOpen (s : SafSt) (i : Nat) : Bool := !(s.lineA false i) && !(s.lineB false i) && !(s.lineA true i) && !(s.lineB true i)
/-- Both lines closed in both views. -/
def SafSt.allClosed (s : SafSt) (i : Nat) : Bool := s.bothClosed false i && s.bothClosed true i
/-- The input counts as closed in a channel [16 R467 R471]. -/
def SafSt.closed (s : SafSt) (chB : Bool) (i : Nat) : Bool := s.inEn chB i && s.bothClosed chB i && !((s.input i).disc)
/-- The input counts as closed in both channels, SAF_IN_STAT.CLOSED. -/
def SafSt.counts (s : SafSt) (i : Nat) : Bool := s.closed false i && s.closed true i

/-- The island changed. -/
def modSaf (f : SafSt → SafSt) (d : Dev) : Dev := { d with saf := f d.saf }
/-- An input changed. -/
def modSafIn (i : Nat) (f : SafIn → SafIn) (d : Dev) : Dev := modSaf (fun s => { s with ins := modAt s.ins i f }) d
/-- An output changed. -/
def modSafOut (o : Nat) (f : SafOut → SafOut) (d : Dev) : Dev := modSaf (fun s => { s with outs := modAt s.outs o f }) d

/-! ### Outputs -/

/-- The conditions of R479 but the release, in a channel. -/
def SafSt.allows (s : SafSt) (chB : Bool) (o : Nat) : Bool :=
  (if chB then s.stB else s.stA) == .run && s.outEn chB o && !((s.output o).fault) &&
    (List.range 8).all fun i => !(bit (s.map chB o) i) || (s.closed chB i && !((s.input i).pend))

/-- An output's pins set by R479: conditions that fail take the enabling away; the read-backs follow the pins (log 34). -/
def safDrive (r : Regs) (o : Nat) (d : Dev) : Dev :=
  let s := d.saf
  let x := s.output o
  let both := s.allows false o && s.allows true o
  let armed := x.armed && both
  let a := s.allows false o && (!(s.restart false o) || armed)
  let b := s.allows true o && (!(s.restart true o) || armed)
  let was := x.onA && x.onB
  let d := modSafOut o (fun x => { x with
    armed := armed, onA := a, onB := b, fbA := if a = x.onA then x.fbA else a, fbB := if b = x.onB then x.fbB else b,
    pulseA := if a && !x.onA then d.now else x.pulseA, pulseB := if b && !x.onB then d.now else x.pulseB }) d
  let d := if a != x.onA then emit (.pin (pinSout o) a) d else d
  let d := if b != x.onB then emit (.pin (pinSout (4 + o)) b) d else d
  let d := raiseIf (was && !(a && b)) 0x28 1 d
  if was != (a && b) then record r .safOutput { p0 := o, p1 := b2n (a && b) } d else d

/-- All outputs set by R479. -/
def safEval (r : Regs) (d : Dev) : Dev := foldN 4 (safDrive r) d

/-! ### Inputs change -/

/-- Discrepancy timers of an input after a change of its lines [16 R469]. (log 108) -/
def safTimers (i : Nat) (d : Dev) : Dev :=
  let s := d.saf
  let run := fun chB (old : Option Nat) => if s.inEn chB i && s.lineA chB i != s.lineB chB i then some (old.getD d.now) else none
  modSafIn i (fun x => { x with runA := run false x.runA, runB := run true x.runB }) d

/-- Progress of the start-up test of an input [16 R472 R473]. -/
def safTest (r : Regs) (i : Nat) (d : Dev) : Dev :=
  let s := d.saf
  let x := s.input i
  if !x.pend then d
  else if s.allOpen i then modSafIn i (fun x => { x with seenOpen := true }) d
  else if s.allClosed i && x.seenOpen then
    record r .safClear { p0 := i, p1 := 1 } (raise 0x28 3 (modSafIn i (fun x => { x with pend := false, passed := true, seenOpen := false }) d))
  else d

/-- An input that counted closed opens: a demand [16 R468 R488]. -/
def safDemand (r : Regs) (i : Nat) (was : Bool) (d : Dev) : Dev :=
  if was && !(d.saf.counts i) then
    record r .safDemand { p0 := i } (raise 0x28 0 (modSaf (fun s => { s with demands := wrapInc 16 s.demands }) d))
  else d

/-- A filtered line of an input takes a new level in one channel [16 R466 R468]. -/
def safLine (r : Regs) (i : Nat) (f : SafIn → SafIn) (d : Dev) : Dev :=
  let was := d.saf.counts i
  let d := modSafIn i f d
  safEval r (safTest r i (safTimers i (safDemand r i was d)))

/-- SRST takes a new filtered level; a release ends RESET_STUCK and SRST_CLOSED, and such a press is not judged [16 R474 R476 R477]. -/
def safSrst (level : Bool) (d : Dev) : Dev :=
  if d.saf.srst = level then d
  else if level then modSaf (fun s => { s with srst := true, srstAt := some d.now }) d
  else modSaf (fun s => { s with srst := false, srstAt := if s.stuck || s.srstClosed then none else s.srstAt, stuck := false, srstClosed := false }) d

/-- SAF_KEY_N after its filter: a release within an unlock sequence ends it [16 R483]. (log 19) -/
def safKey (level : Bool) (d : Dev) : Dev :=
  let lost := !level && d.saf.unlockAt.isSome
  modSaf (fun s => { s with
    key := level, unlockAt := if lost then none else s.unlockAt, unlockFail := if lost then wrapInc 8 s.unlockFail else s.unlockFail }) d

/-- SAF_INPUT_CHANGE [16 R463 R466 R468]. -/
def safInputChange (p : SafPin) (chB level : Bool) (r : Regs) (d : Dev) : Dev :=
  match p with
  | .lineA n => safLine r n (fun x => if chB then { x with aByB := level } else { x with aByA := level }) d
  | .lineB n => safLine r n (fun x => if chB then { x with bByB := level } else { x with bByA := level }) d
  | .srst => safSrst level d
  | .key => safKey level d

/-- SAF_INPUT_CHANGE [16 R468]. -/
def execSafInputChange (pin : SafPin) (chB level : Bool) (s : State) : Host.Outcome State Fault Refusal :=
  onDev s (safInputChange pin chB level)

/-- DISCREPANCY: a channel's timer has reached DISC_TIME, by a clock within 5 % and 0.5 ms of sampling [16 R469 R470 R473]. (log 108) -/
def safDiscrepancy (i : Nat) (chB : Bool) (r : Regs) (d : Dev) : Dev :=
  let x := d.saf.input i
  match (if chB then x.runB else x.runA) with
  | none => d
  | some t =>
    if i < 8 ∧ !x.disc ∧ 95 * d.saf.discTicks i ≤ 100 * (d.now - t) + 100 * 125000 then
      let d := modSafIn i (fun x => { x with disc := true, pend := true, seenOpen := false, passed := false }) d
      safEval r (record r .safLatch { p0 := i, p1 := 0 } (raise 0x28 2 d))
    else d

/-- DISCREPANCY [16 R469]. -/
def execDiscrepancy (input : Nat) (chB : Bool) (s : State) : Host.Outcome State Fault Refusal := onDev s (safDiscrepancy input chB)

/-! ### Reset button -/

/-- A press of `ns` nanoseconds by a channel's clock is accepted by it [16 R474]. -/
def pressOk (ns : Nat) : Bool := decide (50000000 ≤ ns ∧ ns ≤ 5000000000)

/-- An input's DISCREPANCY clears at an accepted release [16 R475]. -/
def safClearIn (r : Regs) (i : Nat) (d : Dev) : Dev :=
  if (d.saf.input i).disc && d.saf.allClosed i && (d.saf.input i).passed && !((d.saf.input i).pend) then
    record r .safClear { p0 := i } (modSafIn i (fun x => { x with disc := false, passed := false }) d)
  else d

/-- An output's OUT_FAULT clears at an accepted release while its four pins read low [16 R475]. -/
def safClearOut (r : Regs) (o : Nat) (d : Dev) : Dev :=
  let x := d.saf.output o
  if x.fault && !x.onA && !x.onB && !x.fbA && !x.fbB then record r .safClear { p0 := o, p1 := 2 } (modSafOut o (fun x => { x with fault := false }) d)
  else d

/-- An output with RESTART = 1 is enabled at an accepted release when its conditions hold [16 R475]. -/
def safArm (o : Nat) (d : Dev) : Dev :=
  if d.saf.allows false o && d.saf.allows true o then modSafOut o (fun x => { x with armed := true }) d else d

/-- SRST_RELEASE: both channels have judged a released press of the lengths given [16 R474 R475]. (log 107) -/
def srstRelease (nsA nsB : Nat) (r : Regs) (d : Dev) : Dev :=
  if d.saf.srstAt.isNone ∨ d.saf.srst then d
  else
    let d := modSaf (fun s => { s with srstAt := none }) d
    if pressOk nsA && pressOk nsB && d.saf.stA != .halt then
      let d := foldN 4 safArm (foldN 4 (safClearOut r) (foldN 8 (safClearIn r) d))
      let d := modSaf (fun s => { s with resets := wrapInc 8 s.resets }) d
      safEval r (record r .safReset {} (raise 0x28 4 d))
    else d

/-- SRST_RELEASE [16 R475]. -/
def execSrstRelease (nsA nsB : Nat) (s : State) : Host.Outcome State Fault Refusal := onDev s (srstRelease nsA nsB)

/-- RESET_STUCK: a press is held past 5 s by a channel's clock, 5 % allowed [16 R476]. -/
def resetStuck (_ : Regs) (d : Dev) : Dev :=
  match d.saf.srstAt with
  | some t =>
    if d.saf.srst ∧ !d.saf.stuck ∧ !d.saf.srstClosed ∧ t + ticksMs 4750 ≤ d.now then raise 0x28 5 (modSaf (fun s => { s with stuck := true }) d) else d
  | none => d

/-- RESET_STUCK [16 R476]. -/
def execResetStuck (s : State) : Host.Outcome State Fault Refusal := onDev s resetStuck

/-! ### Test pulses -/

/-- An output's read-back has failed twice: OUT_FAULT, both pins off [16 R478]. (log 34) -/
def outFault (r : Regs) (o : Nat) (chB : Bool) (d : Dev) : Dev :=
  if o < 4 ∧ d.saf.outEn chB o ∧ !((d.saf.output o).fault) ∧ d.saf.stA == .run then
    let x := d.saf.output o
    let d := modSafOut o (fun x => { x with fault := true }) d
    let d := safDrive r o (record r .safLatch { p0 := o, p1 := 1 } (raise 0x28 6 d))
    modSafOut o (fun y => if chB then { y with fbB := if x.onB then false else true } else { y with fbA := if x.onA then false else true }) d
  else d

/-- TEST_PULSE: a channel's own pin of an output that is on goes low for TP_WIDTH, TP_PERIOD after its last pulse by a clock within 5 %, and its read-back is compared [16 R478]. (log 34, 107) -/
def testPulse (o : Nat) (chB ok : Bool) (r : Regs) (d : Dev) : Dev :=
  let x := d.saf.output o
  let on := if chB then x.onB else x.onA
  let last := if chB then x.pulseB else x.pulseA
  if o < 4 ∧ on ∧ d.saf.tpEn o ∧ last + ticksS (bits (d.saf.word chB 12) 25 16) * 95 / 100 ≤ d.now then
    let p := pinSout (o + 4 * b2n chB)
    let d := modSafOut o (fun x => if chB then { x with pulseB := d.now } else { x with pulseA := d.now }) d
    let d := emit (.pin p true) (emit (.pin p false) d)
    if ok then d else outFault r o chB d
  else d

/-- TEST_PULSE [16 R478]. -/
def execTestPulse (out : Nat) (chB ok : Bool) (s : State) : Host.Outcome State Fault Refusal := onDev s (testPulse out chB ok)

/-- SOUTFB_MISMATCH: the static comparison fails on two consecutive samples [16 R478]. -/
def execSoutfbMismatch (out : Nat) (chB : Bool) (s : State) : Host.Outcome State Fault Refusal := onDev s fun r d => outFault r out chB d

/-! ### States of the island -/

/-- Number of an island state [16 R482]. -/
def SafMode.code (m : SafMode) : Nat :=
  match m with | .init => 0 | .run => 1 | .config => 2 | .cfgBad => 3 | .halt => 4

/-- Both channels enter a state, with its event [16 R482 R487 R488]. -/
def safTo (r : Regs) (m : SafMode) (d : Dev) : Dev :=
  let d := modSaf (fun s => { s with stA := m, stB := m, unlockAt := none }) d
  let d := raiseIf (m == .halt || m == .cfgBad) 0x28 7 (record r .safState { p0 := m.code, p1 := d.saf.cause } d)
  safEval r d

/-- SAF_EXCHANGE: the channels exchange at a loop of SAF-B; CHANNEL_FAULT enters HALT [16 R481]. -/
def safExchange (x : SafExch) (r : Regs) (d : Dev) : Dev :=
  if d.saf.stA == .halt then d
  else
    let d := modSaf (fun s => { s with
      goodA := x.goodA, goodB := x.goodB, missedEx := if x.ok then 0 else min 3 (s.missedEx + 1),
      disagree := if x.ok && x.disagree then min 2 (s.disagree + 1) else if x.ok then 0 else s.disagree }) d
    let s := d.saf
    let cause := if s.disagree = 2 then 1 else if !x.clockOk then 2 else if !x.goodA || !x.goodB then 3 else if s.missedEx = 3 then 4 else 0
    if cause = 0 then d else safTo r .halt (modSaf (fun s => { s with cause := cause }) d)

/-- SAF_EXCHANGE [16 R481]. -/
def execSafExchange (x : SafExch) (s : State) : Host.Outcome State Fault Refusal := onDev s (safExchange x)

/-- An input's start-up test after INIT or CONFIG [16 R472]. -/
def safStartup (i : Nat) (d : Dev) : Dev :=
  let o := d.saf.allOpen i
  modSafIn i (fun x => { x with pend := d.saf.tested i || x.disc, seenOpen := o, passed := false }) d

/-- INIT or CONFIG ends with the CRC check [16 R484]. -/
def safCheck (r : Regs) (d : Dev) : Dev :=
  let s := d.saf
  let a := safCrc s.cfgA
  let b := safCrc s.cfgB
  let good := a == s.word false 15 && b == s.word true 15
  let d := modSaf (fun s => { s with crcA := a, crcB := b, cause := if good then 0 else 5 }) d
  let d := foldN 8 safTimers (foldN 8 safStartup d)
  safTo r (if good then .run else .cfgBad) d

/-- A word written to both copies. -/
def safPut (i v : Nat) (d : Dev) : Dev :=
  modSaf (fun s => { s with cfgA := modAt s.cfgA i fun _ => v % 2 ^ 32, cfgB := modAt s.cfgB i fun _ => v % 2 ^ 32 }) d

/-- Bits that a configuration word holds; reserved bits read 0 [16 SAF registers]. -/
def safMask (i : Nat) : Nat :=
  if i < 8 then 0x7F07 else if i < 12 then 0xFF07 else if i = 12 then 0x03FF001F else if i = 15 then 0xFFFFFFFF else 0

/-- The active SAFETY_MAP written to an island in INIT, in record order [16 R486]. -/
def safWriteMap (r : Regs) (d : Dev) : Dev :=
  let recs : List RegRec := match d.cfg.active with
    | some a => (match a.sections.find? fun (s : Section) => s.type == 0x0D with | some s => s.recs | none => [])
    | none => []
  if d.saf.stA == .init then
    recs.foldl (fun d x =>
      if x.page = 0x28 ∧ 0x100 ≤ x.off ∧ x.off ≤ 0x13C ∧ d.saf.stA == .init then
        let i := (x.off - 0x100) / 4
        let d := safPut i (x.val &&& safMask i) d
        if i = 15 then safCheck r d else d
      else d) d
  else d

/-- In LOAD a running island keeps its configuration, and a differing one is reported [16 R486]. -/
def safCompare (r : Regs) (d : Dev) : Dev :=
  let exp := match d.cfg.active with
    | some a => (match a.sections.find? fun (s : Section) => s.type == 0x0D with
      | some s => (s.recs.find? fun (x : RegRec) => x.off == 0x13C).map RegRec.val
      | none => none)
    | none => none
  match exp with
  | some e =>
    if d.saf.stA == .run && (d.saf.crcA != e || d.saf.crcB != e) then
      record r .safImageDiff {} (modSaf (fun s => { s with imageDiff := true }) d)
    else d
  | none => d

/-- A load in hand ends as an ABORT would end it [02 CFG_LOAD_CTL, 16 R485]. -/
def abortLoad (d : Dev) : Dev :=
  { d with cfg := { d.cfg with phase := .aborted, deferred := false, unlocked := false, safetyDiff := false, image := [], next := {} } }

/-- A load is CHECKING, WRITING or PENDING. -/
def LoadPhase.inHand (p : LoadPhase) : Bool :=
  match p with
  | .checking | .writing | .pending => true
  | _ => false

/-- The island leaves CONFIG: its own check, and the end of a load that needs it there [16 R484 R485]. -/
def safLeaveConfig (r : Regs) (d : Dev) : Dev :=
  let d := safCheck r d
  if d.cfg.phase.inHand && d.cfg.safetyDiff then record r .safConfigLost {} (abortLoad d) else d

/-- SAF_CONFIG_EXIT: SAF_KEY_N is released, or 0 is written to SAF_UNLOCK, in CONFIG [16 R484]. -/
def safConfigExit (key : Bool) (r : Regs) (d : Dev) : Dev :=
  if d.saf.stA == .config && (!key || !(d.saf.key)) then safLeaveConfig r d else d

/-- SAF_CONFIG_EXIT [16 R484]. -/
def execSafConfigExit (key : Bool) (s : State) : Host.Outcome State Fault Refusal := onDev s (safConfigExit key)

/-- SAF_CRC_EXP_WRITE: in INIT the check follows; in CONFIG the word is kept; elsewhere the write is rejected [16 R482 R484 R487]. -/
def safCrcExpWrite (v : Nat) (r : Regs) (d : Dev) : Regs × Dev :=
  match d.saf.stA with
  | .init => (r, safCheck r (safPut 15 v d))
  | .config => (r, safPut 15 v d)
  | _ => (r.reject 0x28 0x13C 7, d)

/-- SAF_CRC_EXP_WRITE [16 R484]. -/
def execSafCrcExpWrite (v : Nat) (s : State) : Host.Outcome State Fault Refusal := onRegs s (safCrcExpWrite v)

/-- A failed unlock sequence [16 R483]. (log 19) -/
def unlockFails (d : Dev) : Dev := modSaf (fun s => { s with unlockAt := none, unlockFail := wrapInc 8 s.unlockFail }) d

/-- SAF_UNLOCK_FIRST: 0x0000_5AFE with the key asserted, in RUN or CFG_BAD [16 R483]. (log 19) -/
def safUnlockFirst (v : Nat) (_ : Regs) (d : Dev) : Dev :=
  if v = 0x5AFE ∧ d.saf.key ∧ (d.saf.stA == .run || d.saf.stA == .cfgBad) then modSaf (fun s => { s with unlockAt := some d.now }) d
  else unlockFails d

/-- SAF_UNLOCK_FIRST [16 R483]. -/
def execSafUnlockFirst (v : Nat) (s : State) : Host.Outcome State Fault Refusal := onDev s (safUnlockFirst v)

/-- SAF_UNLOCK_SECOND: 0x0000_C0DE within 100 ms with the key still asserted enters CONFIG [16 R483]. (log 19) -/
def safUnlockSecond (v : Nat) (r : Regs) (d : Dev) : Dev :=
  match d.saf.unlockAt with
  | some t => if v = 0xC0DE ∧ d.saf.key ∧ d.now ≤ t + ticksMs 100 then safTo r .config d else unlockFails d
  | none => unlockFails d

/-- SAF_UNLOCK_SECOND [16 R483]. -/
def execSafUnlockSecond (v : Nat) (s : State) : Host.Outcome State Fault Refusal := onDev s (safUnlockSecond v)

/-- SAF_UNLOCK_TIMEOUT: no second write within 100 ms [16 R483]. (log 19) -/
def safUnlockTimeout (_ : Regs) (d : Dev) : Dev :=
  match d.saf.unlockAt with
  | some t => if t + ticksMs 100 < d.now then unlockFails d else d
  | none => d

/-- SAF_UNLOCK_TIMEOUT [16 R483]. -/
def execSafUnlockTimeout (s : State) : Host.Outcome State Fault Refusal := onDev s safUnlockTimeout

/-- SAF_POWER_UP: both SAF domains power up; the island is in INIT, SRST is checked, and a device out of reset writes the active SAFETY_MAP [16 R472 R477 R482 R486]. -/
def safPowerUp (srst : Bool) (r : Regs) (d : Dev) : Dev :=
  let d := { d with saf := { srst := srst, srstClosed := srst } }
  let d := foldN 8 safStartup d
  let d := record r .safState { p0 := 0 } (raiseIf srst 0x28 5 d)
  match d.mde.dstate with
  | .load | .ready | .run | .safeHold => safWriteMap r d
  | _ => d

/-- SAF_POWER_UP [16 R482]. -/
def execSafPowerUp (srst : Bool) (s : State) : Host.Outcome State Fault Refusal := onDev s (safPowerUp srst)

end Sys2Proof.Machine
end

