-- ==== Sys2Proof/Machine/Recorder.lean ====
section
/-! DEFINITION. The event recorder, the lifetime store and the hold-up: pages EVT, LIF and HLD [17]. -/

namespace Sys2Proof.Machine

/-! ### Segments -/

/-- A segment may start: enough energy, no measurement step nor 1 ms after one, and MRAM power good for 10 ms [17 R512, 18 R522]. -/
def segOk (r : Regs) (d : Dev) : Bool :=
  (r.f32 F.HLD_E_REQ_E_REQ).le d.hld.e && !(d.hld.measuring && decide (d.hld.measAt ≤ d.now)) && decide (d.hld.quietTo ≤ d.now) &&
    (match d.hld.mramGood with | some t => t == 0 || decide (t + ticksMs 10 ≤ d.now) | none => false)

/-- The MRAM is powered: not at the asleep level of DORMANT, where R92 lets nothing wait [17 R513]. -/
def Dev.mramOn (d : Dev) : Bool := !(d.mde.dorm == .asleep) && !(d.mde.dorm == .refresh) && !(d.mde.dstate == .reset)

/-- Areas of the MRAM die, for its wear [17 R515]. (log 35) -/
inductive Area where
  | corner | reel | life | slot | microcode | marks
  deriving DecidableEq, Repr

/-- Number of an area. -/
def Area.num (a : Area) : Nat :=
  match a with | .corner => 0 | .reel => 1 | .life => 2 | .slot => 3 | .microcode => 4 | .marks => 5

/-- Pages of the die that a segment writes, each once (log 35). -/
def wearPages (l : List (Area × Nat)) : List Nat := (l.map fun x => Config.mramPage x.1.num x.2 % 128).eraseDups

/-- One segment write of a page; half the rating warns once [17 R515]. -/
def wearOne (r : Regs) (d : Dev) (p : Nat) : Dev :=
  let d := modLife (fun l => { l with wear := modAt l.wear p (satInc 32) }) d
  if nth d.lif.live.wear p 0 = 500000000 ∧ !(d.lif.warned.contains p) then
    record r .wearWarn { p0 := 500000000, p1 := p } (raise 0x2A 1 { d with lif := { d.lif with warned := p :: d.lif.warned } })
  else d

/-- A segment counted on every page it writes [17 R515]. (log 35) -/
def wearSeg (r : Regs) (l : List (Area × Nat)) (d : Dev) : Dev := (wearPages l).foldl (wearOne r) d

/-- A segment that cannot start is counted once in HLD_DEFER [17 HLD]. (log 60, 99) -/
def deferSeg (already : Bool) (d : Dev) : Dev :=
  if already then d else { d with hld := { d.hld with deferred := wrapInc 16 d.hld.deferred } }

/-! ### Recorder -/

/-- Slots of the Reel. -/
def reelSlots : Nat := 131072

/-- One record committed: to the Reel after the newest, and to the Cornerstone while it has a free slot [17 R496]. (log 98) -/
def commitRec (e : EvtSt) (x : EvRec) : EvtSt :=
  let slot := if e.hasHead then (e.headSlot + 1) % reelSlots else 0
  { e with
    reel := sins e.reel slot x
    torn := e.torn.filter fun (t : Nat × Nat) => !(t.1 == 1 && t.2 == slot)
    corner := if x.perm && decide (e.corner.length < 4096) then e.corner ++ [x] else e.corner
    headSeq := x.seq, headSlot := slot, hasHead := true }

/-- The repeats that wait are written to the newest committed record [17 R500]. (log 98) -/
def EvtSt.flushRepeat (e : EvtSt) : EvtSt :=
  if e.rptPend = 0 then e
  else { e with reel := e.reel.map fun (x : Nat × EvRec) => if x.1 = e.headSlot then (x.1, { x.2 with rpt := x.2.rpt + e.rptPend }) else x, rptPend := 0 }

/-- D of R504. -/
def EvtSt.backlog (e : EvtSt) : Nat := (e.headSeq + 2 ^ 32 - e.ack % 2 ^ 32) % 2 ^ 32

/-- An evaluation of D: NEW_RECORDS when it has risen to WM [17 R504]. (log 98) -/
def evtEvaluate (r : Regs) (d : Dev) : Dev :=
  let up := decide (r.get F.EVT_CFG_WM ≤ d.evt.backlog)
  raiseIf (up && d.evt.below) 0x29 0 { d with evt := { d.evt with below := !up } }

/-- Pages of the areas that a commit of the queue writes. -/
def EvtSt.segAreas (old new : EvtSt) : List (Area × Nat) :=
  (if old.rptPend = 0 then [] else [(Area.reel, old.headSlot / 2048)]) ++
    (List.range old.queue.length).map (fun i => (Area.reel, (new.headSlot + reelSlots - i) % reelSlots / 2048)) ++
    (List.range (new.corner.length - old.corner.length)).map fun i => (Area.corner, (old.corner.length + i) / 2048)

/-- Every queued record committed in SEQ order in one segment, with what follows from it [17 R496 R500 R504]. -/
def commitQueue (r : Regs) (d : Dev) : Dev :=
  let old := d.evt
  let e := old.queue.foldl commitRec old.flushRepeat
  let d := { d with evt := { e with queue := [], queueAt := none }, hld := { d.hld with evtWait := false } }
  let full := decide (old.corner.length < 4096) && decide (e.corner.length = 4096)
  let d := lostRecord (evtEvaluate r d)
  let d := onlyIf full (fun d => record r .cornerstoneFull {} (raise 0x29 2 d)) d
  wearSeg r (old.segAreas e) d

/-- Records or repeats wait for the MRAM. (log 98) -/
def EvtSt.waits (e : EvtSt) : Bool := !(e.queue.isEmpty) || decide (e.rptPend ≠ 0)

/-- The queue is due: 64 records, 10 ms after the oldest, or repeats alone [17 R500]. -/
def EvtSt.due (e : EvtSt) (now : Nat) : Bool :=
  decide (64 ≤ e.queue.length) || (match e.queueAt with | some t => decide (t + ticksMs 10 ≤ now) | none => false) ||
    (e.queue.isEmpty && decide (e.rptPend ≠ 0))

/-- EVT_COMMIT [17 R500 R512]. (log 98) -/
def evtCommit (r : Regs) (d : Dev) : Dev :=
  if d.evt.waits && d.evt.due d.now && d.mramOn then
    if segOk r d then commitQueue r d
    else deferSeg d.hld.evtWait { d with hld := { d.hld with evtWait := true } }
  else d

/-- EVT_COMMIT [17 R500]. -/
def execEvtCommit (s : State) : Host.Outcome State Fault Refusal := onDev s evtCommit

/-- RECORDS_LOST [17 R501]. -/
def execRecordsLost (s : State) : Host.Outcome State Fault Refusal := onDev s fun _ d => lostRecord d

/-- EVT_HOST_CODE: a host record of a code from 0xF00 to 0xFFE [17 R502]. -/
def evtHostCode (v : Nat) (r : Regs) (d : Dev) : Regs × Dev :=
  let c := bits v 11 0
  if 0xF00 ≤ c ∧ c ≤ 0xFFE then
    let p : Par := { p0 := r.get F.EVT_HOST_P0_P0, p1 := r.get F.EVT_HOST_P12_P1, p2 := r.get F.EVT_HOST_P12_P2, p3 := bits v 23 16 }
    (r, enter (r.get F.EVT_CFG_REPEAT_WIN) (d.mkRec c p false) [] d)
  else (r.reject 0x29 0x68 3, d)

/-- EVT_HOST_CODE [17 R502]. -/
def execEvtHostCode (v : Nat) (s : State) : Host.Outcome State Fault Refusal := onRegs s (evtHostCode v)

/-- EVT_ACK [17 R504]. -/
def execEvtAck (v : Nat) (s : State) : Host.Outcome State Fault Refusal :=
  onDev s fun r d => evtEvaluate r { d with evt := { d.evt with ack := v % 2 ^ 32 } }

/-- A SEQ comes before another [17 R490]. -/
def seqBefore (a b : Nat) : Bool :=
  let x := (b + 2 ^ 32 - a % 2 ^ 32) % 2 ^ 32
  decide (1 ≤ x) && decide (x < 2 ^ 31)

/-- The Reel record of good CRC whose SEQ comes last [17 R503]. -/
def EvtSt.last (e : EvtSt) : Option (Nat × EvRec) :=
  e.reel.foldl (fun (o : Option (Nat × EvRec)) (x : Nat × EvRec) =>
    if e.torn.contains (1, x.1) then o
    else match o with
      | none => some x
      | some y => if seqBefore y.2.seq x.2.seq then some x else o) none

/-- The scan of both areas in BOOT: SEQ goes on from the newest record, and torn slots are recorded [17 R503]. -/
def bootScan (r : Regs) (d : Dev) : Dev :=
  let e := d.evt
  let e := match e.last with
    | some (s, x) => { e with hasHead := true, headSlot := s, headSeq := x.seq, nextSeq := (x.seq + 1) % 2 ^ 32 }
    | none => { e with hasHead := false, headSlot := 0, headSeq := 0, nextSeq := 0 }
  let d := { d with evt := { e with bad := e.torn.length % 2 ^ 16 } }
  e.torn.foldl (fun d (t : Nat × Nat) => record r .badRecord { p0 := t.2, p3 := t.1 } (raise 0x29 3 d)) d

/-! ### Lifetime store -/

/-- DEV_ON counts the seconds of TB3 [17 R505]. -/
def countDevOn (d : Dev) : Dev :=
  let s := d.tb3 / nsPerSec
  let d' := modLife (fun l => { l with devOn := min (l.devOn + (s - d.lif.devSec)) (2 ^ 32 - 1) }) d
  { d' with lif := { d'.lif with devSec := max s d.lif.devSec } }

/-- A counter of a thruster: 0 RUN, 1 STARTS, 2 AZ, 3 ENERGY [17 LIF_PRESET_SEL]. -/
def ThrLife.get (t : ThrLife) (c : Nat) : Nat :=
  match c with | 0 => t.run | 1 => t.starts | 2 => t.az | _ => t.energy

/-- A counter of a thruster set. -/
def ThrLife.set (t : ThrLife) (c v : Nat) : ThrLife :=
  match c with | 0 => { t with run := v } | 1 => { t with starts := v } | 2 => { t with az := v } | _ => { t with energy := v }

/-- The waiting preset is set, with its record [17 R508]. (log 99) -/
def applyPreset (r : Regs) (d : Dev) : Dev :=
  match d.lif.preset with
  | none => d
  | some (t, c, v) =>
    let old := (nth d.lif.live.thr t {}).get c
    let d := modLife (fun l => { l with thr := modAt l.thr t fun (x : ThrLife) => x.set c v }) d
    recordCont r .lifPreset (Par.wide old (t + 16 * c)) (Par.wide v 0) { d with lif := { d.lif with preset := none } }

/-- The next copy takes the store: copies A, B and C in rotation [17 R506]. -/
def commitLife (r : Regs) (d : Dev) : Dev :=
  let d := applyPreset r (countDevOn d)
  let n := if d.lif.gen = 0 then 0 else (d.lif.copy + 1) % 3
  let d := wearSeg r [(.life, n)] d
  let g := (d.lif.gen + 1) % 2 ^ 32
  let x : LifeData := { d.lif.live with tb3 := d.tb3 }
  { d with lif := { d.lif with
      live := x, gen := g, copy := n, due := false, deferred := false, lastAt := d.tb3,
      copies := modAt d.lif.copies n fun _ => { gen := g, good := true, data := x } } }

/-- A commit of the store is asked for [17 R506]. -/
def askLife (d : Dev) : Dev := { d with lif := { d.lif with due := true } }

/-- LIF_COMMIT: every 60 s of TB3, or when asked for [17 R506 R512]. (log 99) -/
def lifCommit (r : Regs) (d : Dev) : Dev :=
  if (d.lif.due || decide (d.lif.lastAt + 60 * nsPerSec ≤ d.tb3)) && d.mramOn then
    if segOk r d then commitLife r d
    else deferSeg d.lif.deferred { d with lif := { d.lif with deferred := true } }
  else d

/-- LIF_COMMIT [17 R506]. -/
def execLifCommit (s : State) : Host.Outcome State Fault Refusal := onDev s lifCommit

/-- LIF_PRESET: LIF_PRESET_CTL.GO with LOCK [17 R508]. -/
def lifPreset (r : Regs) (d : Dev) : Regs × Dev :=
  let c := r.get F.LIF_PRESET_SEL_CNT
  if !(r.lockOpen 0x2A d.now) then (r.reject 0x2A 0x88 2, d)
  else if 3 < c then (r.reject 0x2A 0x88 3, d)
  else (r, askLife { d with lif := { d.lif with preset := some (r.get F.LIF_PRESET_SEL_THR, c, r.get F.LIF_PRESET_VAL_VAL) } })

/-- LIF_PRESET [17 R508]. -/
def execLifPreset (s : State) : Host.Outcome State Fault Refusal := onRegs s lifPreset

/-- An entry added to the leap table, with its record; a full table of 64 entries takes none (log 36) [17 R509]. -/
def leapPut (r : Regs) (e : LeapEntry) (d : Dev) : Dev :=
  if 64 ≤ d.lif.live.leaps.length then d
  else
    let d := askLife (modLife (fun l => { l with leaps := l.leaps ++ [e] }) d)
    record r .leapAdded (Par.wide (e.time % 2 ^ 64) (wrapU 7 e.ofs + 128 * b2n e.late)) (raise 0x2A 0 d)

/-- LEAP_ADD: LIF_LEAP_CTL.ADD with LOCK [17 R509]. (log 36, 88) -/
def leapAdd (r : Regs) (d : Dev) : Regs × Dev :=
  let e := d.lif.stage
  let later := match d.lif.live.leaps.getLast? with | some x => decide (x.time < e.time) | none => true
  if !(r.lockOpen 0x2A d.now) then (r.reject 0x2A 0xB0 2, d)
  else if !later || decide (64 ≤ d.lif.live.leaps.length) then (r.reject 0x2A 0xB0 3, d)
  else (r, leapPut r { e with late := false } d)

/-- LEAP_ADD [17 R509]. -/
def execLeapAdd (s : State) : Host.Outcome State Fault Refusal := onRegs s leapAdd

/-- The value of TAI − UTC in force at a TAI time: that of the last entry begun [17 R509]. -/
def LifeData.leapAt (l : LifeData) (t : Nat) : Int :=
  l.leaps.foldl (fun (o : Int) (e : LeapEntry) => if e.time ≤ t then e.ofs else o) 0

/-- In BOOT the copy with the highest generation and a good CRC is used; without one the counters start from zero [17 R506]. -/
def lifeBoot (d : Dev) : Dev :=
  let l := d.lif
  let best := foldN 3 (fun i (o : Option Nat) =>
    let c := at' l.copies i
    if c.good && (match o with | some j => decide ((at' l.copies j).gen < c.gen) | none => true) then some i else o) none
  let valid := foldN 3 (fun i (v : Nat) => setBit v i (at' l.copies i).good) 0
  match best with
  | some i =>
    let c := at' l.copies i
    { d with lif := { l with live := c.data, gen := c.gen, copy := i, valid := valid } }
  | none => { d with lif := { l with valid := 0 } }

/-! ### Hold-up -/

/-- HOLD_MEASURE: at power-up, every 60 s of TB3, or on HLD_CTL.MEASURE; during a segment it waits for its end [17 R511]. (log 99) -/
def holdMeasure (_ : Regs) (d : Dev) : Dev :=
  if d.hld.measuring then d
  else if d.hld.segment then { d with hld := { d.hld with measDue := true } }
  else { d with hld := { d.hld with measuring := true, measDue := false, measAt := d.now + ticksMs 2 } }

/-- HOLD_MEASURE [17 R511]. -/
def execHoldMeasure (s : State) : Host.Outcome State Fault Refusal := onDev s holdMeasure

/-- Value in millionths, as a parameter. -/
def micro (x : F32) : Nat := ((x.to64.mul (F64.ofInt 1000000)).round).toNat

/-- HOLD_MEASURE_DONE: C from the three means, or a failure below 2 mV; computed in binary64 [17 R511]. (log 99) -/
def holdMeasureDone (v0 v1 v2 : F32) (r : Regs) (d : Dev) : Dev :=
  if !(d.hld.measuring) then d
  else
    let pre := v1.to64.sub v0.to64
    let stp := v2.to64.sub v1.to64
    let x := pre.sub stp
    let d := { d with hld := { d.hld with measuring := false, quietTo := d.now + ticksMs 1, dvPre := pre.to32, dvStep := stp.to32 } }
    if (frac 2 1000).le x then
      raise 0x2B 2 { d with hld := { d.hld with measFail := false, failRun := 0, c := ((frac 1 10000).div x).to32 } }
    else
      let n := min (d.hld.failRun + 1) 2
      let c := if n = 2 then F32.zero else d.hld.c
      record r .holdMeasFail { p0 := micro c, p3 := n } (raise 0x2B 3 { d with hld := { d.hld with measFail := true, failRun := n, c := c } })

/-- HOLD_MEASURE_DONE [17 R511]. -/
def execHoldMeasureDone (v0 v1 v2 : F32) (s : State) : Host.Outcome State Fault Refusal := onDev s (holdMeasureDone v0 v1 v2)

/-- The available energy at a node voltage, computed in binary64 [17 R512]. (log 99) -/
def holdEnergy (r : Regs) (c v : F32) : F32 :=
  let vm := r.f64 F.HLD_VMIN_VMIN
  let x := v.to64
  if vm.lt x then (((F64.half.mul c.to64).mul ((x.mul x).sub (vm.mul vm))).mul (r.f64 F.HLD_EFF_EFF)).to32 else F32.zero

/-- The active-slot record is committed in one segment, or waits for one [02 R52, 17 R512 R513]. -/
def commitMark (r : Regs) (d : Dev) : Dev :=
  if d.cfg.slotRec = d.cfg.slot then { d with cfg := { d.cfg with slotDue := false } }
  else if segOk r d then wearSeg r [(Area.marks, 0)] { d with cfg := { d.cfg with slotRec := d.cfg.slot, slotDue := false } }
  else deferSeg d.cfg.slotDue { d with cfg := { d.cfg with slotDue := true } }

/-- HOLD_ENERGY_UPDATE: every 1 ms; HOLD_LOW follows E, with a record at each change; an active-slot record that waits may be made [17 R512 R513]. -/
def holdUpdate (v : F32) (r : Regs) (d : Dev) : Dev :=
  let e := holdEnergy r d.hld.c v
  let low := !((r.f32 F.HLD_E_REQ_E_REQ).le e)
  let was := d.hld.low
  let d := { d with hld := { d.hld with v := v, e := e, low := low } }
  let d := if d.cfg.slotDue then commitMark r d else d
  if low = was then d
  else record r .holdLow { p0 := micro e, p3 := b2n low } (raise 0x2B (if low then 0 else 1) d)

/-- HOLD_ENERGY_UPDATE [17 R512]. -/
def execHoldEnergyUpdate (v : F32) (s : State) : Host.Outcome State Fault Refusal := onDev s (holdUpdate v)

/-! ### The final segment -/

/-- One segment with every queued record and one lifetime copy, when the energy stands behind it; after the warning nothing enters [17 R514]. (log 99) -/
def finalSegment (r : Regs) (d : Dev) : Dev :=
  let d := { d with evt := { d.evt with stopped := true } }
  if segOk r d then
    let d := commitLife r (commitQueue r d)
    { d with sys := { d.sys with finalSeg := true } }
  else { d with sys := { d.sys with finalSeg := false } }

end Sys2Proof.Machine
end

