-- ==== Sys2Proof/Machine/CfgLoad.lean ====
section
/-! DEFINITION. The vessel description: how an image is laid out, read and checked, and the loader of page CFG up to the slot write [02]. -/

namespace Sys2Proof.Machine

/-! ### Layout -/

/-- The staging window [02 R46]. -/
def stagingBase : Nat := 0x03000000

/-- `n` raised to an 8-byte boundary. -/
def align8 (n : Nat) : Nat := (n + 7) / 8 * 8

/-- A header [02 R36]. -/
structure ImgHdr where
  /-- IMAGE_LEN -/
  len : Nat
  /-- SECTION_COUNT -/
  count : Nat
  /-- KIND -/
  kind : Nat
  /-- GRADE -/
  grade : Nat
  /-- IMAGE_ID -/
  id : Nat
  /-- REVISION -/
  rev : Nat
  /-- BASE_ID -/
  baseId : Nat
  /-- BASE_REV -/
  baseRev : Nat
  /-- CRC_OFFSET -/
  crcOff : Nat
  /-- SIG_OFFSET -/
  sigOff : Nat
  /-- KEY_INDEX -/
  key : Nat
  deriving DecidableEq, Repr

/-- The header of an image [02 R36]. -/
def imgHdr (b : List Byte) : ImgHdr :=
  { len := leAt b 0x08 4, count := leAt b 0x0C 2, kind := leAt b 0x0E 1, grade := leAt b 0x0F 1, id := leAt b 0x10 4,
    rev := leAt b 0x14 4, baseId := leAt b 0x18 4, baseRev := leAt b 0x1C 4, crcOff := leAt b 0x24 4,
    sigOff := leAt b 0x28 4, key := leAt b 0x2C 1 }

/-- A directory entry [02 R37]. -/
structure DirEnt where
  /-- TYPE -/
  type : Nat
  /-- COUNT -/
  count : Nat
  /-- OFFSET -/
  off : Nat
  /-- LENGTH -/
  len : Nat
  /-- SEC_CRC -/
  crc : Nat
  deriving DecidableEq, Repr

/-- The directory of an image [02 R37 R38]. -/
def imgDir (b : List Byte) : List DirEnt :=
  (List.range (min (leAt b 0x0C 2) 15)).map fun i =>
    let o := 64 + 16 * i
    { type := leAt b o 2, count := leAt b (o + 2) 2, off := leAt b (o + 4) 4, len := leAt b (o + 8) 4, crc := leAt b (o + 12) 4 }

/-- Record size of a section type [02 R41]. -/
def recSize (t : Nat) : Nat := if t ≤ 5 then 32 else if t = 6 then 16 else if t = 7 then 64 else 12

/-- Record limit of a section type [02 R41]. -/
def recMax (t : Nat) : Nat :=
  match t with
  | 1 => 1 | 2 => 16 | 3 => 16 | 4 => 32 | 5 => 32 | 6 => 7 | 7 => 7 | 0x0D => 1024 | _ => 8192

/-- A tuning section [02 R41]. -/
def isTuning (t : Nat) : Bool := [3, 0xA, 0xC, 0xE, 0xF].contains t

/-- Bytes of record `i` of a section. -/
def DirEnt.item (e : DirEnt) (b : List Byte) (i : Nat) : List Byte := slice b (e.off + i * recSize e.type) (recSize e.type)

/-- The records of a section. -/
def DirEnt.recs (e : DirEnt) (b : List Byte) : List (List Byte) := (List.range (min e.count 8192)).map (e.item b)

/-- binary32 at an offset. -/
def f32At (b : List Byte) (o : Nat) : F32 := F32.ofBits (leAt b o 4)

/-! ### Records -/

/-- SYSTEM record [02 R43]. -/
def readSys (b : List Byte) : SysRec :=
  { rate := leAt b 0 1, pair := leAt b 1 1, thrusters := leAt b 2 1, targets := leAt b 3 1, length := f32At b 4,
    beam := f32At b 8, draught := f32At b 12, mass := f32At b 16, izz := f32At b 20 }

/-- THRUSTER record [02 R43]. -/
def readThr (b : List Byte) : ThrRec :=
  { id := leAt b 0 1, kind := leAt b 1 1, drive := leAt b 2 1, channel := leAt b 3 1, x := f32At b 4, y := f32At b 8,
    z := f32At b 12, azZero := f32At b 16, pRated := f32At b 20, loopAz := leAt b 24 1, loopRpm := leAt b 25 1,
    loopPitch := leAt b 26 1, flags := leAt b 27 1, encPort := leAt b 28 1 }

/-- THRUSTER_LIMITS record [02 R43]. -/
def readLim (b : List Byte) : LimRec :=
  { id := leAt b 0 1, sectors := leAt b 1 1, fMaxPos := f32At b 4, fMaxNeg := f32At b 8, azRate := f32At b 12,
    s0a := f32At b 16, s0b := f32At b 20, s1a := f32At b 24, s1b := f32At b 28 }

/-- SENSOR record [02 R43]. -/
def readSensor (b : List Byte) : SensorRec :=
  { id := leAt b 0 1, kind := leAt b 1 1, unit := leAt b 2 1, ant := leAt b 3 1, x := f32At b 4, y := f32At b 8,
    z := f32At b 12, roll := f32At b 16, pitch := f32At b 20, yaw := f32At b 24 }

/-- SOURCE record [02 R43]. -/
def readSource (b : List Byte) : SourceRec :=
  { id := leAt b 0 1, portKind := leAt b 1 1, port := leAt b 2 1, sensor := leAt b 3 1, format := leAt b 4 2,
    flags := leAt b 6 2, period := f32At b 8, timeout := f32At b 12, voteGroup := leAt b 16 1, object := leAt b 17 1,
    matchV := leAt b 20 4, talker := leAt b 24 2 }

/-- OBJECT record [02 R43]. -/
def readObj (b : List Byte) : ObjRec := { id := leAt b 0 1, kind := leAt b 1 1, length := f32At b 4, accNoise := f32At b 8 }

/-- APPENDAGE record [02 R43]. -/
def readApp (b : List Byte) : AppRec :=
  { joint := leAt b 0 1, type := leAt b 1 1, loop := leAt b 2 1, p := (List.range 14).map fun i => f32At b (4 + 4 * i) }

/-- Register-image record [02 R44]. -/
def readReg (b : List Byte) : RegRec := { page := leAt b 0 1, index := leAt b 2 2, off := leAt b 4 2, val := leAt b 8 4 }

/-- A section and its records' bytes. -/
structure RawSec where
  /-- TYPE -/
  type : Nat
  /-- LENGTH -/
  len : Nat
  /-- SEC_CRC -/
  crc : Nat
  /-- records -/
  recs : List (List Byte)
  deriving DecidableEq, Repr

/-- The sections of an image, none of an empty one. -/
def rawSecs (b : List Byte) : List RawSec :=
  (imgDir b).map fun e => { type := e.type, len := e.len, crc := e.crc, recs := e.recs b }

/-- The sections in force with a full image and an overlay: each section of the overlay replaces the one of its type [02 R42]. (log 61) -/
def overlaySecs (full tuning : List Byte) : List RawSec :=
  let t := rawSecs tuning
  (List.range 16).filterMap fun k =>
    match t.find? fun (s : RawSec) => s.type == k with
    | some s => some s
    | none => (rawSecs full).find? fun (s : RawSec) => s.type == k

/-- Records of a type among sections. -/
def recsOf (l : List RawSec) (t : Nat) : List (List Byte) :=
  match l.find? fun (s : RawSec) => s.type == t with
  | some s => s.recs
  | none => []

/-- The description that a full image and an overlay, empty for none, put in force [02 R42]. -/
def describe (full tuning : List Byte) : Descr :=
  let l := overlaySecs full tuning
  let h := imgHdr full
  { imageId := h.id, rev := h.rev, fullLen := h.len, overlay := !(tuning.isEmpty)
    overlayRev := if tuning.isEmpty then 0 else (imgHdr tuning).rev
    sections := l.map fun (s : RawSec) => { type := s.type, len := s.len, crc := s.crc, recs := if 8 ≤ s.type then s.recs.map readReg else [] }
    sys := ((recsOf l 1).map readSys).headD {}, thr := (recsOf l 2).map readThr, lim := (recsOf l 3).map readLim
    sensors := (recsOf l 4).map readSensor, sources := (recsOf l 5).map readSource, objects := (recsOf l 6).map readObj
    app := (recsOf l 7).map readApp }

/-- Register records of a section in force. -/
def Descr.regs (a : Descr) (t : Nat) : List RegRec :=
  match a.sections.find? fun (s : Section) => s.type == t with
  | some s => s.recs
  | none => []

/-! ### Checks -/

/-- A refusal: code, directory index (0xFF the header) and record index [02 R49]. -/
structure Refuse where
  /-- code of the refusal table -/
  code : Nat
  /-- directory index -/
  sec : Nat := 0xFF
  /-- record index -/
  idx : Nat := 0
  deriving DecidableEq, Repr

/-- A check that passes or refuses. -/
def need (ok : Bool) (code : Nat) (sec : Nat := 0xFF) (idx : Nat := 0) : Option Refuse :=
  if ok then none else some { code := code, sec := sec, idx := idx }

/-- The first refusal of a list of checks. -/
def firstOf (l : List (Option Refuse)) : Option Refuse := l.findSome? id

/-- All bytes from `o` up to `e` are 0. -/
def zeros (b : List Byte) (o e : Nat) : Bool := (slice b o (e - o)).all fun x => x == 0

/-- Checks of the header, lengths and IMAGE_CRC [02 R36 R38 R48]. (log 61) -/
def chkHeader (b : List Byte) (loadLen : Nat) : Option Refuse :=
  let h := imgHdr b
  let pad := align8 (h.crcOff + 4)
  if !(leAt b 0 4 == 0x44565754) then some { code := 1 }
  else if !(leAt b 4 2 == 1 && leAt b 6 2 == 64 && leAt b 0x20 4 == 64 && decide (1 ≤ h.count) && decide (h.count ≤ 15) &&
       decide (h.kind ≤ 1) && decide (h.grade ≤ 1) && decide (h.key ≤ 1) && (h.kind == 1 || (h.baseId == 0 && h.baseRev == 0)) &&
       zeros b 0x2D 0x30 && zeros b 0x38 0x3C && leAt b 0x3C 4 == crc32 (slice b 0 0x3C)) then some { code := 2 }
  else if !(h.len == loadLen && decide (h.len ≤ 0x100000) &&
       (if h.sigOff = 0 then h.len == pad else h.sigOff == pad && h.len == pad + 72)) then some { code := 3 }
  else need (leAt b h.crcOff 4 == crc32 (slice b 0 h.crcOff)) 4

/-- Check of the signature [02 R40 R48]. (log 10) -/
def chkSig (b : List Byte) (keys : List (Option (List Nat))) (sigReq : Bool) : Option Refuse :=
  let h := imgHdr b
  if h.sigOff = 0 then need (!sigReq) 5
  else
    match keys.getD h.key none with
    | none => some { code := 6 }
    | some k =>
      let s := slice b h.sigOff 72
      need (beNat (slice s 0 4) == 0x53494731 && beNat (slice s 4 2) == 1 && beNat (slice s 6 2) == 64 &&
        Config.sigOk k (slice b 0 (h.crcOff + 4)) (slice s 8 64)) 7

/-- Revision and base checks against what is in force [02 R42 R48 R51]. `base` is the description with which a tuning image goes. -/
def chkRev (b : List Byte) (active : Option Descr) (skipRev : Bool) : Option Refuse :=
  let h := imgHdr b
  if h.kind = 0 then need (skipRev || (match active with | some a => decide (a.rev < h.rev) | none => true)) 8
  else
    match active with
    | none => some { code := 9 }
    | some a => firstOf
      [need (a.imageId == h.baseId && a.rev == h.baseRev) 9,
       need (skipRev || !(a.overlay) || decide (a.overlayRev < h.rev)) 8,
       need (decide (a.fullLen + h.len ≤ 0x100000)) 0x14]

/-- Placement of the directory and sections [02 R38 R41]. (log 61) -/
def chkDir (b : List Byte) : Option Refuse :=
  let h := imgHdr b
  let dir := imgDir b
  let step := fun (x : Option Refuse × Nat × Nat) (ie : DirEnt × Nat) =>
    let e := ie.1
    let ok := decide (x.2.2 < e.type) && decide (e.type ≤ 15) && decide (e.count ≤ recMax e.type) && e.len == e.count * recSize e.type &&
      e.off % 8 == 0 && decide (x.2.1 ≤ e.off) && decide (e.off + e.len ≤ h.crcOff) && zeros b x.2.1 e.off
    match x.1 with
    | some r => (some r, x.2)
    | none => (need ok 0xA ie.2, e.off + e.len, e.type)
  let start := 64 + 16 * h.count
  if h.crcOff < start then some { code := 0xA }
  else
    let x := dir.zipIdx.foldl step (none, start, 0)
    firstOf [x.1, need (zeros b x.2.1 h.crcOff && zeros b (h.crcOff + 4) (align8 (h.crcOff + 4))) 0xA]

/-- Section CRCs and required sections [02 R37 R42]. (log 61) -/
def chkSecs (b : List Byte) : Option Refuse :=
  let h := imgHdr b
  let dir := imgDir b
  firstOf
    (dir.zipIdx.map (fun (e, i) => need (crc32 (slice b e.off e.len) == e.crc) 0xB i) ++
      (if h.kind = 0 then [need ([1, 2, 4, 5].all fun t => dir.any fun (e : DirEnt) => e.type == t && decide (1 ≤ e.count)) 0xC]
       else dir.zipIdx.map fun (e, i) => need (isTuning e.type) 0xC i))

/-- A finite angle in [-pi, pi) [00 R9, 02 R43]. (log 61) -/
def angleOk (x : F32) : Bool := x.isFin && (F64.pi.neg).le x.to64 && x.to64.lt F64.pi

/-- Words of a record from one offset to another are finite. -/
def finiteAt (b : List Byte) (o n : Nat) : Bool := (List.range n).all fun i => (f32At b (o + 4 * i)).isFin

/-- A loop channel, or none. -/
def loopOk (v : Nat) : Bool := decide (v ≤ 31) || v == 0xFF

/-- The formats of a port kind [02 R43]. -/
def kindFormats (k : Nat) : List Nat :=
  let s := [0x10, 0x11, 0x13, 0x14, 0x15, 0x16, 0x17, 0x18, 0x19]
  match k with
  | 0 => 0x110 :: s | 1 => s | 2 => [0x201, 0x202, 0x203, 0x204] | 3 => [0x301, 0x302] | 4 => [0x401] | 5 => [1, 2] | _ => []

/-- The highest port of a port kind [02 R43]. -/
def kindPorts (k format : Nat) : Nat :=
  match k with
  | 0 => 11 | 1 => 3 | 2 => 7 | 3 => if format = 0x302 then 14 else 15 | 4 => 15 | _ => 0

/-- The ranges of a SOURCE record [02 R43]. -/
def sourceOk (s : SourceRec) : Bool :=
  decide (s.id ≤ 31) && decide (s.portKind ≤ 5) && (kindFormats s.portKind).contains s.format &&
    decide (s.port ≤ kindPorts s.portKind s.format) && decide (s.flags ≤ 3) && s.period.isFin && s.timeout.isFin &&
    decide (s.voteGroup ≤ 15) && decide (s.object ≤ 7) && (decide (s.portKind < 3) || s.matchV == 0) &&
    (!(s.portKind == 0) || decide (s.matchV < 2 ^ 16)) &&
    (!(s.portKind == 2) || (decide (s.matchV < 2 ^ 30) && (bit s.matchV 29 || decide (s.matchV % 2 ^ 29 ≤ 0x7FF)))) &&
    (s.portKind == 1 || s.talker == 0)

/-- The ranges of a typed record of type `t`; `nThr` and `nObj` are the counts of THRUSTER and OBJECT records [02 R43]. (log 61) -/
def typedOk (t : Nat) (b : List Byte) (nThr nObj : Nat) : Bool :=
  match t with
  | 1 =>
    let s := readSys b
    decide (s.rate ≤ 2) && decide (s.pair ≤ 1) && s.thrusters == nThr && s.targets == nObj && finiteAt b 4 5 &&
      F32.zero.lt s.mass && zeros b 24 32
  | 2 =>
    let r := readThr b
    decide (r.id ≤ 15) && decide (r.id < nThr) && decide (r.kind ≤ 3) && decide (r.drive ≤ 3) &&
      decide (r.channel ≤ (if r.drive = 0 ∨ r.drive = 3 then 7 else 15)) && finiteAt b 4 5 && angleOk r.azZero &&
      loopOk r.loopAz && loopOk r.loopRpm && loopOk r.loopPitch && decide (r.flags ≤ 7) &&
      (decide (r.encPort ≤ 15) || r.encPort == 0xFF) && zeros b 29 32
  | 3 =>
    let r := readLim b
    decide (r.id ≤ 15) && decide (r.sectors ≤ 2) && zeros b 2 4 && finiteAt b 4 7 && angleOk r.s0a && angleOk r.s0b &&
      angleOk r.s1a && angleOk r.s1b
  | 4 =>
    let r := readSensor b
    decide (r.id ≤ 31) && decide (r.kind ≤ 6) &&
      (if r.kind = 0 then decide (r.unit ≤ 1) && decide (r.ant ≤ 1) else (decide (r.unit ≤ 1) || r.unit == 0xFF) && r.ant == 0) &&
      finiteAt b 4 6 && angleOk r.roll && angleOk r.pitch && angleOk r.yaw && zeros b 28 32
  | 5 => sourceOk (readSource b) && zeros b 18 20 && zeros b 26 32
  | 6 =>
    let r := readObj b
    decide (1 ≤ r.id) && decide (r.id ≤ 7) && decide (r.kind ≤ 1) && zeros b 2 4 && finiteAt b 4 2 && zeros b 12 16
  | _ =>
    let r := readApp b
    zeros b 3 4 && zeros b 60 64 && finiteAt b 4 14 &&
      (if r.joint = 0 then r.type == 0xFF && loopOk r.loop && angleOk (f32At b 16) && (r.p.drop 4).all F32.isZero
       else decide (r.joint ≤ 6) && decide (r.type ≤ 1) && decide (r.loop ≤ 31))

/-- A typed record names only what a TW812 has [00 R5, 02 R43 R48]. Values beyond every grade are left to the record check. -/
def typedOn812 (t : Nat) (b : List Byte) : Bool :=
  let inR := fun (v lo hi : Nat) => decide (lo ≤ v) && decide (v ≤ hi)
  match t with
  | 1 => !((readSys b).rate == 2)
  | 2 =>
    let r := readThr b
    !(inR r.id 8 15 || inR r.loopAz 16 31 || inR r.loopRpm 16 31 || inR r.loopPitch 16 31 || inR r.encPort 8 15 ||
      (match r.drive with | 0 => inR r.channel 4 7 | 1 => inR r.channel 8 15 | 2 => inR r.channel 8 15 | 3 => inR r.channel 4 7 | _ => false))
  | 3 => !(inR (readLim b).id 8 15)
  | 4 => let r := readSensor b; !(r.kind == 0 && r.ant == 1)
  | 5 =>
    let r := readSource b
    !(inR r.id 16 31 || inR r.object 4 7 ||
      (match r.portKind with | 1 => inR r.port 2 3 | 2 => inR r.port 4 7 | 4 => inR r.port 8 15 | _ => false))
  | 6 => !(inR (readObj b).id 4 7)
  | 7 => !(inR (readApp b).loop 16 31)
  | _ => true

/-! ### Register-image records -/

/-- Pages of a register-image section [02 R41]. -/
def secPages (t : Nat) : List Nat :=
  match t with
  | 0x8 => [0x12, 0x22, 0x23, 0x24, 0x25, 0x21, 0x0C, 0x0D, 0x0E, 0x10, 0x11, 0x0F, 0x26, 0x27]
  | 0x9 => [0x18, 0x19, 0x1A, 0x1B, 0x1C, 0x1D, 0x1E, 0x1F, 0x20]
  | 0xA => [0x18, 0x19, 0x1A, 0x1B, 0x1C, 0x1D, 0x1E, 0x1F]
  | 0xB => [0x13, 0x14, 0x15, 0x16, 0x17]
  | 0xC => [0x13]
  | 0xD => [0x28]
  | 0xE => [0x0A, 0x0B, 0x08, 0x07, 0x05]
  | 0xF => [0x09, 0x0F, 0x10, 0x11, 0x0D]
  | _ => []

/-- The section that alone holds a register: STORYBOARD or LOOP_COEF; 0 for any other register [02 R45]. -/
def ownerSec (p off : Nat) : Nat :=
  if 0x18 ≤ p ∧ p ≤ 0x1F then (if [0xE0, 0xE4, 0xEC, 0xF4].contains off then 0xA else 0)
  else if p = 0x13 then (if off = 0x4C ∨ (0xA0 ≤ off ∧ off ≤ 0xDC) then 0xC else 0)
  else 0

/-- An INDEX lies in the range of a window on some grade, with nothing in bits of its select register without a field [02 R45]. (log 61) -/
def indexOk (p off idx : Nat) : Bool :=
  match pageBlock p, winAt p off with
  | some (b, _), some w =>
    let x := w.indices idx
    let used := (placesAt p w.sel.off).foldl (fun m (q : Place) => m ||| ((2 ^ q.fd.width - 1) * 2 ^ q.fd.lo)) 0
    decide (p < 0x2D) && decide (b ≤ p) && idx &&& used == idx &&
      (placesAt p off).all fun (q : Place) => decide (x.1 < max q.fd.n1 1) && (q.fd.n2 == 1 || decide (x.2 < q.fd.n2))
  | _, _ => false

/-- A register-image record keeps R44 and R45; `b` are its bytes. (log 61) -/
def regFieldOk (t : Nat) (b : List Byte) : Bool :=
  let x := readReg b
  let l := (placesAt x.page x.off).filter fun (q : Place) => q.fd.writable
  leAt b 1 1 == 0 && leAt b 6 2 == 0 && x.off % 4 == 0 && decide (0x40 ≤ x.off) && decide (x.off ≤ 0x7FC) &&
    (secPages t).contains x.page && !(l.isEmpty) && !(isSelect x.page x.off) &&
    (match winAt x.page x.off with
     | some _ => !(x.index == 0xFFFF) && indexOk x.page x.off x.index
     | none => x.index == 0xFFFF) &&
    (l.all fun (q : Place) => q.fd.cls == .B || q.fd.cls == .L || (!(isTuning t) && q.fd.cls == .S)) &&
    (let o := ownerSec x.page x.off; o == 0 && t != 0xA && t != 0xC || o == t) && !(t == 0xC && x.off == 0x4C && bit x.val 1)

/-- STEP_WIDTH that a list of records gives an axis, its reset value without one [12 R341]. -/
def imageStepWidth (l : List RegRec) (axis : Nat) : Nat :=
  match (l.filter fun (x : RegRec) => x.page == 0x15 && x.off == F.PFG_CFG_STEP_WIDTH.off && x.index == axis).getLast? with
  | some x => F.PFG_CFG_STEP_WIDTH.of x.val
  | none => F.PFG_CFG_STEP_WIDTH.reset

/-- Every field of the record's value is in its range [00 R7, 02 R48]. -/
def regValueOk (d : Dev) (l : List RegRec) (x : RegRec) : Bool :=
  ((placesAt x.page x.off).all fun (q : Place) => !(q.fd.writable) || q.fd.inRange (q.fd.of x.val)) &&
    wordRule d x.page x.off x.val (imageStepWidth l x.index) != 3

/-- The record's page, index and value lie within a TW812 [00 R3 R5, 02 R45, 12 R335]. -/
def regOn812 (d : Dev) (x : RegRec) : Bool :=
  !(pageAbsent d x.page) &&
    (match winAt x.page x.off with
     | none => true
     | some w => w.sel.onGrade d (w.indices x.index).1 && (match w.sel2 with | some s => s.onGrade d (w.indices x.index).2 | none => true) &&
       !(x.page == 0x14 && decide (8 ≤ x.index % 16) && decide (x.index < 32))) &&
    (placesAt x.page x.off).all (fun (q : Place) => !(q.fd.writable) || q.fd.onGrade d (q.fd.of x.val)) &&
    !(x.page == 0x13 && x.off == 0x44 && lopOff812 x.val)

/-- The grade step of the checks [02 R48]. -/
def chkGrade (d : Dev) (b : List Byte) : Option Refuse :=
  if !(d.tw812) then none
  else
    firstOf (need ((imgHdr b).grade == 0) 0xD ::
      (imgDir b).zipIdx.flatMap fun (e, i) => (e.recs b).zipIdx.map fun (x, n) =>
        need (if e.type < 8 then typedOn812 e.type x else regOn812 d (readReg x)) 0xD i n)

/-- What must be unique in a section: its number, and the register of a register record [02 R43 R45]. -/
def recKey (t : Nat) (b : List Byte) : Nat := if t < 8 then leAt b 0 1 else leAt b 0 6

/-- A record repeats an earlier one's number, antenna or register [02 R43 R45]. -/
def repeats (t : Nat) (before : List (List Byte)) (b : List Byte) : Bool :=
  before.any fun x =>
    (t != 1 && recKey t x == recKey t b) ||
      (t == 4 && leAt x 1 1 == 0 && leAt b 1 1 == 0 && leAt x 2 2 == leAt b 2 2)

/-- LOP_CH_CFG of a channel that LOOP records give; 0, its reset value, without one. -/
def lopCfgOf (l : List RegRec) (c : Nat) : Nat :=
  match (l.filter fun (x : RegRec) => x.page == 0x13 && x.off == 0x44 && x.index == c).getLast? with
  | some x => x.val
  | none => 0

/-- The sum of RATE over channels in use is at most 320,000 [11 R313]. -/
def rateSumOk (l : List RegRec) : Bool :=
  decide ((List.range 32).foldl (fun n c =>
    let v := lopCfgOf l c
    if F.LOP_CH_CFG_USE.of v = 1 then n + nth [1000, 2000, 5000, 10000, 20000] (F.LOP_CH_CFG_RATE.of v) 0 else n) 0 ≤ 320000)

/-- The record checks in directory and record order [02 R43 R44 R45 R48, 11 R313]. (log 61) -/
def chkRecords (d : Dev) (b : List Byte) : Option Refuse :=
  let dir := imgDir b
  let count := fun t => match dir.find? fun (e : DirEnt) => e.type == t with | some e => e.count | none => 0
  firstOf (dir.zipIdx.map fun (e, i) =>
    let rs := e.recs b
    let regs := rs.map readReg
    firstOf
      (rs.zipIdx.map (fun (x, n) =>
        if e.type < 8 then need (typedOk e.type x (count 2) (count 6) && !(repeats e.type (rs.take n) x)) 0xE i n
        else firstOf [need (regFieldOk e.type x) 0xF i n,
          need (regValueOk d regs (readReg x) && !(repeats e.type (rs.take n) x) &&
            (e.type != 0xB || rateSumOk (regs.take (n + 1)))) 0xE i n])))

/-! ### Cross-references -/

/-- Bit 0 of a register that a section's records set for an index. -/
def enabledIn (l : List RegRec) (page off index : Nat) : Bool :=
  l.any fun (x : RegRec) => x.page == page && x.off == off && x.index == index && bit x.val 0

/-- The first loop of a thruster whose OUT_KIND is `k`. -/
def driveLoop (l : List RegRec) (r : ThrRec) (k : Nat) : Option Nat :=
  ([r.loopAz, r.loopRpm, r.loopPitch].filter fun c => c != 0xFF).find? fun c => F.LOP_CH_CFG_OUT_KIND.of (lopCfgOf l c) == k

/-- What a THRUSTER record names exists [02 R585]. -/
def thrRefsOk (a : Descr) (r : ThrRec) : Bool :=
  let lop := a.regs 0xB
  let can := a.regs 9
  let loops := [r.loopAz, r.loopRpm, r.loopPitch].filter fun c => c != 0xFF
  loops.all (fun c => F.LOP_CH_CFG_USE.of (lopCfgOf lop c) == 1) &&
    (r.encPort == 0xFF || (if bit r.flags 2 then enabledIn lop 0x16 0x44 r.encPort else enabledIn lop 0x16 0x64 r.encPort)) &&
    (match r.drive with
     | 0 =>
       can.any (fun (x : RegRec) => x.page == 0x18 + r.channel) &&
         loops.all fun c =>
           let v := lopCfgOf lop c
           F.LOP_CH_CFG_OUT_KIND.of v != 3 || enabledIn can (0x18 + r.channel) 0x104 (F.LOP_CH_CFG_OUT_PORT.of v)
     | k =>
       match driveLoop lop r (k - 1) with
       | some c => F.LOP_CH_CFG_OUT_PORT.of (lopCfgOf lop c) == r.channel
       | none => false)

/-- Cross-reference checks over the sections in force after the load [02 R585]. (log 61) -/
def chkRefs (b : List Byte) (a : Descr) : Option Refuse :=
  let dir := imgDir b
  let at_ := fun t => dir.findIdx fun (e : DirEnt) => e.type == t
  let sec := fun t => if at_ t < dir.length then at_ t else 0xFF
  firstOf
    (a.thr.zipIdx.map (fun (r, n) => need (thrRefsOk a r) 0x10 (sec 2) n) ++
     a.lim.zipIdx.map (fun (r, n) => need (a.thr.any fun (x : ThrRec) => x.id == r.id) 0x10 (sec 3) n) ++
     a.sources.zipIdx.map (fun (r, n) =>
       need (a.sensors.any (fun (x : SensorRec) => x.id == r.sensor) && (r.object == 0 || a.objects.any fun (x : ObjRec) => x.id == r.object))
         0x10 (sec 5) n) ++
     a.app.zipIdx.map fun (r, n) =>
       need ((r.joint == 0 && r.loop == 0xFF) || F.LOP_CH_CFG_USE.of (lopCfgOf (a.regs 0xB) r.loop) == 1) 0x10 (sec 7) n)

/-! ### Differences -/

/-- Length and CRC of a section in force. -/
def Descr.sec (a : Descr) (t : Nat) : Option (Nat × Nat) :=
  (a.sections.find? fun (s : Section) => s.type == t).map fun (s : Section) => (s.len, s.crc)

/-- The section types that differ between two descriptions [02 R54]. (log 62) -/
def diffSecs (old : Option Descr) (new : Descr) : List Nat :=
  (List.range 16).filter fun t => (old.getD {}).sec t != new.sec t

/-- The modes in which an image with these differing sections cuts in [02 R54]. (log 62) -/
def cutsInto (diff : List Nat) (m : Mode) : Bool :=
  if diff.any [1, 2, 9, 0xB, 0xD].contains then m == .dormant || m == .harbour
  else if diff.any [4, 5, 6, 7, 8].contains then m == .dormant || m == .harbour || m == .manual
  else true

/-- The load in hand is WRITING or PENDING, or cuts in at this cut, and cannot cut in in mode `m` [02 R56]. -/
def Dev.loadBars (d : Dev) (m : Mode) : Bool :=
  !(cutsInto d.cfg.cutDiff m) || (match d.cfg.phase with | .writing | .pending => true | _ => false) && !(cutsInto (diffSecs d.cfg.active d.cfg.next) m)

/-! ### The loader -/

/-- The slot with an index. -/
def CfgSt.slotAt (c : CfgSt) (i : Nat) : Slot := if i = 0 then c.slot0 else c.slot1

/-- The full image in force, as the active slot holds it. -/
def Dev.fullBytes (d : Dev) : List Byte := (d.cfg.slotAt d.cfg.slot).full

/-- What an image would put in force: a full image alone, a tuning image over the active full image [02 R42]. -/
def Dev.wouldBe (d : Dev) (b : List Byte) : Descr :=
  if (imgHdr b).kind = 0 then describe b [] else describe d.fullBytes b

/-- The staged bytes of a load, at least a header's. -/
def stagedImage (m : List Host.Cell) (len : Nat) : List Byte := Memory.readBytes m stagingBase (max 64 (min len 0x100000))

/-- CFG_LOAD_CTL.START: the checks begin; refused while a load is in hand [02 R46 R47 R57, 16 R485]. (log 61) -/
def cfgLoadStart (r : Regs) (m : List Host.Cell) (d : Dev) : Regs × Dev :=
  if d.cfg.phase.inHand || d.mde.dstate == .reset || d.mde.dstate == .boot then (r.reject 6 0x40 7, d)
  else
    let len := r.get F.CFG_LOAD_LEN_LEN
    let b := stagedImage m len
    (r, { d with cfg := { d.cfg with
      phase := .checking, structDiff := false, deferred := false, refuse := 0, section_ := 0, record := 0, len := len
      unlocked := d.saf.stA == .config, safetyDiff := (diffSecs d.cfg.active (d.wouldBe b)).contains 0xD, image := [], next := {} } })

/-- A command that reads the memory windows and changes registers and blocks. -/
def onRegsMem (s : State) (f : Regs → List Host.Cell → Dev → Regs × Dev) : Host.Outcome State Fault Refusal :=
  let x := f s.regs s.mem s.dev.quiet
  State.ok { s with regs := x.1, dev := x.2 }

/-- CFG_LOAD_START [02 R46]. -/
def execCfgLoadStart (s : State) : Host.Outcome State Fault Refusal := onRegsMem s cfgLoadStart

/-- CFG_LOAD_ABORT: a load in hand ends, the active slot unchanged [02 CFG_LOAD_CTL]. -/
def execCfgLoadAbort (s : State) : Host.Outcome State Fault Refusal :=
  onDev s fun _ d => if d.cfg.phase.inHand then abortLoad d else d

/-- A refusal [02 R49]. -/
def refuseLoad (r : Regs) (x : Refuse) (d : Dev) : Dev :=
  record r .cfgRefused { p0 := x.code, p1 := x.sec, p2 := x.idx }
    (raise 6 1 { d with cfg := { d.cfg with
      phase := .refused, refuse := x.code, section_ := x.sec, record := x.idx, deferred := false, unlocked := false
      safetyDiff := false, image := [], next := {} } })

/-- A write to the staging window: stored, and during CHECKING the load is refused [02 R46 R63]. -/
def stagingTouched (addr : Nat) (b : Byte) (r : Regs) (_ : List Host.Cell) (d : Dev) : List (Nat × List Byte) × Dev :=
  let w := if stagingBase ≤ addr ∧ addr < stagingBase + 0x100000 then [(addr, [b])] else []
  if !(w.isEmpty) && d.cfg.phase == .checking then (w, refuseLoad r { code := 0x13 } (raise 6 4 d)) else (w, d)

/-- STAGING_TOUCHED [02 R46]. -/
def execStagingTouched (addr : Nat) (b : Byte) (s : State) : Host.Outcome State Fault Refusal := onMem s (stagingTouched addr b)

/-- The checks of R48 up to the cross-references. -/
def chkImage (r : Regs) (d : Dev) (active : Option Descr) (skipRev : Bool) (len : Nat) (b : List Byte) (next : Descr) : Option Refuse :=
  match chkHeader b len with
  | some x => some x
  | none =>
    match firstOf [chkSig b d.cfg.keys (r.bit F.CFG_POLICY_SIG_REQ), chkRev b active skipRev, chkDir b] with
    | some x => some x
    | none => firstOf [chkSecs b, chkGrade d b, chkRecords d b, chkRefs b next]

/-- The safety-map and mode checks [02 R54 R55 R57]. -/
def chkCutIn (d : Dev) (b : List Byte) (next : Descr) : Option Refuse :=
  let diff := diffSecs d.cfg.active next
  let at_ := (imgDir b).findIdx fun (e : DirEnt) => e.type == 0xD
  firstOf [need (!(diff.contains 0xD) || d.cfg.unlocked) 0x11 (if at_ < (imgDir b).length then at_ else 0xFF),
    need (d.mde.dstate == .ready || cutsInto diff d.mde.mode) 0x12]

/-- CFG_CHECKS_DONE: refused, or the slot write begins [02 R48 R49 R50]. (log 61) -/
def cfgChecksDone (r : Regs) (m : List Host.Cell) (d : Dev) : Dev :=
  if d.cfg.phase == .checking then
    let b := stagedImage m d.cfg.len
    let next := d.wouldBe b
    match chkImage r d d.cfg.active (r.bit F.CFG_POLICY_ROLLBACK_OK) d.cfg.len b next with
    | some x => refuseLoad r x d
    | none =>
      let diff := diffSecs d.cfg.active next
      let d := { d with cfg := { d.cfg with structDiff := diff.any fun t => !(isTuning t) } }
      match chkCutIn d b next with
      | some x => refuseLoad r x d
      | none => { d with cfg := { d.cfg with
          phase := .writing, image := b, next := next, tuningLoad := (imgHdr b).kind == 1, safetyDiff := diff.contains 0xD } }
  else d

/-- CFG_CHECKS_DONE [02 R48]. -/
def execCfgChecksDone (s : State) : Host.Outcome State Fault Refusal :=
  onMem s fun r m d => ([], cfgChecksDone r m d)

/-- A key word written: staged, and stored in MRAM with word 15, in READY with LOCK [02 CFG_KEY_DATA]. -/
def cfgKeyDataWrite (v : Nat) (r : Regs) (d : Dev) : Regs × Dev :=
  if !(r.lockOpen 6 d.now) then (r.reject 6 0x6C 2, d)
  else if !(d.mde.dstate == .ready) then (r.reject 6 0x6C 7, d)
  else
    let k := r.get F.CFG_KEY_SEL_KEY
    let w := r.get F.CFG_KEY_SEL_WORD
    let st := modAt d.cfg.keyStage (16 * k + w) fun _ => v % 2 ^ 32
    let keys := if w = 15 then modAt d.cfg.keys k (fun _ => some ((st.drop (16 * k)).take 16)) else d.cfg.keys
    (r, { d with cfg := { d.cfg with keyStage := st, keys := keys } })

/-- CFG_KEY_DATA_WRITE [02 CFG_KEY_DATA]. -/
def execCfgKeyDataWrite (v : Nat) (s : State) : Host.Outcome State Fault Refusal := onRegs s (cfgKeyDataWrite v)

end Sys2Proof.Machine
end

