-- ==== Sys2Proof/Machine/Ethernet.lean ====
section
/-! DEFINITION. The Ethernet MACs: pages ETH0 to ETH3 and their packet memory [14 R415 to R426]. The places of fields in Ethernet, IPv4, UDP and PTP headers are those of their standards (log 28). -/

namespace Sys2Proof.Machine

/-- A MAC changed. -/
def modEth (n : Nat) (f : EthSt → EthSt) (d : Dev) : Dev := { d with eth := modAt d.eth n f }
/-- MAC `n`. -/
def Dev.mac (d : Dev) (n : Nat) : EthSt := at' d.eth n
/-- The MAC is present and its page enabled. -/
def ethOn (r : Regs) (d : Dev) (n : Nat) : Bool := decide (n < 4) && !(pageAbsent d (0x22 + n)) && r.en (0x22 + n)
/-- First address of a packet buffer [14 R416]. -/
def bufAddr (n b : Nat) : Nat := 0x04000000 + 0x40000 * n + 0x800 * b
/-- Device address of a register of page ETHn. -/
def ethAddr (n off : Nat) : Nat := (0x22 + n) * 4096 + off

/-! ### Reading frames -/

/-- Big-endian field of a frame. -/
def beAt (l : List Byte) (o n : Nat) : Nat := beNat (slice l o n)
/-- The frame carries one VLAN tag. (log 28) -/
def vlanTagged (f : List Byte) : Bool := beAt f 12 2 == 0x8100
/-- Offset of the EtherType after at most one tag. -/
def typeAt (f : List Byte) : Nat := if vlanTagged f then 16 else 12
/-- The frame carries more than one VLAN tag [14 R415]. -/
def doubleTagged (f : List Byte) : Bool := vlanTagged f && beAt f 16 2 == 0x8100

/-- A PTP event message in a frame: its offset, whether it lies in IPv4 and in IPv6 [14 R420]. -/
structure PtpAt where
  /-- offset of the PTP header -/
  ofs : Nat
  /-- it lies in an IPv4 datagram -/
  v4 : Bool := false
  /-- it lies in an IPv6 datagram -/
  v6 : Bool := false

/-- A PTP header of version 2 and messageType 0 to 3 lies at the place. (log 28) -/
def ptpHeader (f : List Byte) (p : PtpAt) : Option PtpAt :=
  if beAt f (p.ofs + 1) 1 % 16 = 2 ∧ beAt f p.ofs 1 % 16 ≤ 3 ∧ p.ofs + 34 ≤ f.length then some p else none

/-- The PTP event message of a frame [14 R420]. (log 28) -/
def ptpOf (f : List Byte) : Option PtpAt :=
  let t := typeAt f
  match beAt f t 2 with
  | 0x88F7 => ptpHeader f { ofs := t + 2 }
  | 0x0800 =>
    if beAt f (t + 2) 1 = 0x45 ∧ beAt f (t + 8) 2 % 2 ^ 14 = 0 ∧ beAt f (t + 11) 1 = 17 ∧ beAt f (t + 24) 2 = 319 then
      ptpHeader f { ofs := t + 30, v4 := true }
    else none
  | 0x86DD =>
    if beAt f (t + 8) 1 = 17 ∧ beAt f (t + 44) 2 = 319 then ptpHeader f { ofs := t + 50, v6 := true } else none
  | _ => none

/-- Ones' complement sum of 16-bit words. (log 28) -/
def sum16 (l : List Byte) : Nat :=
  let s := foldN ((l.length + 1) / 2) (fun i a => a + beAt l (2 * i) 2) 0
  let s := s % 65536 + s / 65536
  s % 65536 + s / 65536

/-- A UDP datagram over IPv4 in a frame, as far as R424 looks. -/
structure UdpIn where
  /-- destination address -/
  dst : Nat
  /-- it is a fragment -/
  frag : Bool
  /-- destination port -/
  port : Nat
  /-- both checksums hold, or the UDP one is 0 -/
  good : Bool
  /-- payload -/
  payload : List Byte

/-- The UDP datagram of a frame [14 R424]. (log 28) -/
def udpOf (f : List Byte) : Option UdpIn :=
  let o := typeAt f + 2
  if beAt f (o - 2) 2 ≠ 0x0800 ∨ beAt f o 1 / 16 ≠ 4 ∨ beAt f (o + 9) 1 ≠ 17 then none
  else
    let h := 4 * (beAt f o 1 % 16)
    let u := o + h
    let len := beAt f (u + 4) 2
    let seg := slice f u len
    let pseudo := slice f (o + 12) 8 ++ [0, 17] ++ beBytes 2 len
    some { dst := beAt f (o + 16) 4, frag := decide (beAt f (o + 6) 2 % 2 ^ 14 ≠ 0), port := beAt f (u + 2) 2,
           good := sum16 (slice f o h) == 0xFFFF && decide (8 ≤ len ∧ u + len ≤ f.length) &&
             (beAt f (u + 6) 2 == 0 || sum16 (pseudo ++ seg) == 0xFFFF),
           payload := (slice f u len).drop 8 }

/-- The enabled group entries of a MAC, by number [14 R424]. -/
def groupsOf (r : Regs) (n : Nat) : List Nat := (List.range 16).filter fun g => r.on F.ETH_GRP_CFG_EN n g == 1

/-- The MAC takes frames to this destination address [14 R415]. -/
def ethAccepts (r : Regs) (n : Nat) (dst : Nat) : Bool :=
  let own := beNat ((leBytes 4 (r.on F.ETH_MAC_LO_MAC_LO n)) ++ leBytes 2 (r.on F.ETH_MAC_HI_MAC_HI n))
  r.on F.ETH_CFG_PROMISC n == 1 || dst == own || dst == 0xFFFFFFFFFFFF ||
    (r.on F.ETH_PTP_CFG_PTP_EN n == 1 && (dst == 0x011B19000000 || dst == 0x0180C200000E)) ||
    (groupsOf r n).any fun g => dst == 0x01005E000000 + r.on F.ETH_GRP_ADDR_ADDR n g % 2 ^ 23

/-! ### Stamps and headers -/

/-- An instant of TB0 in base `b`, ns. -/
def inBase (d : Dev) (b at_ : Nat) : Int := ((d.tb b).total : Int) + at_ - d.tb0

/-- TS1: a stamp of TB0 in the base of ETHn_CFG.TS_TB, 0 where that is none [14 R416]. -/
def ts1 (r : Regs) (d : Dev) (n : Nat) (ts0 : Int) : Nat :=
  let b := r.on F.ETH_CFG_TS_TB n
  if b = 0 then 0 else wrapU 64 (inBase d b 0 + ts0)

/-- Header bytes 0x10 to 0x27 of a buffer: stamps and PTP fields [14 R416 R420]. -/
def stampBytes (f : List Byte) (p : Option PtpAt) (ts0 : Int) (t1 : Nat) : List Byte :=
  let pt := match p with
    | some q => leBytes 2 q.ofs ++ leBytes 1 (beAt f q.ofs 1 % 16) ++ leBytes 1 (beAt f (q.ofs + 4) 1) ++ leBytes 2 (beAt f (q.ofs + 30) 2)
    | none => leBytes 2 0xFFFF ++ leBytes 1 0xFF ++ leBytes 1 0 ++ leBytes 2 0
  leBytes 8 (wrapU 64 ts0) ++ leBytes 8 t1 ++ pt ++ leBytes 2 0

/-! ### Reception -/

/-- A frame stored in the oldest free buffer, or dropped [14 R417]. -/
def ethStore (r : Regs) (n : Nat) (f : List Byte) (ts0 : Int) (toSrc host : Bool) (d : Dev) : List (Nat × List Byte) × Dev :=
  match (d.mac n).free with
  | [] => ([], modEth n (fun e => { e with rxDrop := wrapInc 16 e.rxDrop }) d)
  | b :: rest =>
    let p := ptpOf f
    let flags := b2n p.isSome + 2 * b2n (vlanTagged f) + 8 * b2n toSrc + 16 * b2n host
    let a := bufAddr n b
    let d := raiseIf ((d.mac n).filled.isEmpty) (0x22 + n) 0 d
    ([(a, leBytes 2 f.length ++ leBytes 2 flags ++ leBytes 4 0), (a + 0x10, stampBytes f p ts0 (ts1 r d n ts0)), (a + 0x40, f)],
     modEth n (fun e => { e with free := rest, filled := e.filled ++ [b] }) d)

/-- An accepted frame goes to SRC, to the host, to both, or fails the checks of a group entry [14 R417 R424]. -/
def ethTake (r : Regs) (n : Nat) (f : List Byte) (ts0 : Int) (d : Dev) : List (Nat × List Byte) × Dev :=
  let bad := modEth n (fun e => { e with errIp := wrapInc 8 e.errIp }) d
  match udpOf f with
  | none => ethStore r n f ts0 false false d
  | some u =>
    let addr := (groupsOf r n).filter fun g => r.on F.ETH_GRP_ADDR_ADDR n g == u.dst
    let hits := addr.filter fun g => r.on F.ETH_GRP_CFG_PORT n g == u.port
    if !(addr.isEmpty) && u.frag then ([], bad)
    else if hits.isEmpty then ethStore r n f ts0 false false d
    else if !(u.good) then ([], bad)
    else
      let d := iec450 n u.port u.payload (wrapU 64 ts0) r d
      if hits.any fun g => r.on F.ETH_GRP_CFG_HOST_COPY n g == 1 then ethStore r n f ts0 true true d else ([], d)

/-- ETH_RX_FRAME: a frame without its FCS has come in; `good` is the FCS check and `at_` the instant of its timestamp point at the pins, TB0 ns [14 R415 R417 R419]. -/
def ethRxFrame (n : Nat) (f : List Byte) (good : Bool) (at_ : Nat) (r : Regs) (_ : List Host.Cell) (d : Dev) : List (Nat × List Byte) × Dev :=
  if !(ethOn r d n) ∨ !((d.mac n).link) ∨ r.on F.ETH_CFG_RX_EN n ≠ 1 then ([], d)
  else if !good then ([], modEth n (fun e => { e with errFcs := wrapInc 8 e.errFcs }) d)
  else if f.length < 60 then ([], modEth n (fun e => { e with errShort := wrapInc 8 e.errShort }) d)
  else if 1518 < f.length then ([], modEth n (fun e => { e with errLong := wrapInc 8 e.errLong }) d)
  else if doubleTagged f || !(ethAccepts r n (beAt f 0 6)) then ([], d)
  else ethTake r n f ((at_ : Int) - wrapS 16 (r.on F.ETH_CORR_RX n)) (modEth n (fun e => { e with rxOk := wrapInc 16 e.rxOk }) d)

/-- ETH_RX_FRAME [14 R417]. -/
def execEthRxFrame (n : Nat) (bytes : List Byte) (good : Bool) (at_ : Nat) (s : State) : Host.Outcome State Fault Refusal :=
  onMem s (ethRxFrame n bytes good at_)

/-- ETH_RX_FREE: a buffer given to the MAC [14 R417]. -/
def execEthRxFree (n v : Nat) (s : State) : Host.Outcome State Fault Refusal :=
  onDev s fun _ d => if n < 4 ∧ !(pageAbsent d (0x22 + n)) then modEth n (fun e => { e with free := e.free ++ [v % 128] }) d else d

/-- ETH_RX_POP: a read takes one filled buffer [14 R417]. -/
def ethRxPop (port : Port) (n : Nat) (_ : Regs) (d : Dev) : Dev :=
  match (d.mac n).filled with
  | [] => emit (.read port (ethAddr n 0x8C) 0) d
  | b :: t => emit (.read port (ethAddr n 0x8C) (2 ^ 31 + b)) (modEth n (fun e => { e with filled := t }) d)

/-- ETH_RX_POP [14 R417]. -/
def execEthRxPop (port : Port) (n : Nat) (s : State) : Host.Outcome State Fault Refusal := onDev s (ethRxPop port n)

/-! ### Transmission -/

/-- A completion of a buffer [14 R418 R426]. -/
def ethComplete (n b res : Nat) (d : Dev) : Dev :=
  raiseIf ((d.mac n).txc.isEmpty) (0x22 + n) 1 (modEth n (fun e => { e with txc := e.txc ++ [(b, res)] }) d)

/-- Launch base of a queue. -/
def queueTb (r : Regs) (n q : Nat) : Nat := r.on F.ETH_TXQ_CFG_TB n q
/-- Head of a queue. -/
def Dev.txHead (d : Dev) (n q : Nat) : Option TxFrame := (at' (d.mac n).queues q).head?
/-- Present time of a queue's base. -/
def queueNow (r : Regs) (d : Dev) (n q : Nat) : Nat := (d.tb (queueTb r n q)).total

/-- A launch frame would have its egress stamp after LAUNCH + LATE_MAX if it started now [14 R423]. -/
def txLate (r : Regs) (d : Dev) (n q : Nat) (x : TxFrame) : Bool :=
  decide (x.time + r.on F.ETH_TXQ_CFG_LATE_MAX n q < queueNow r d n q + 64)

/-- The head of a queue may start: a plain frame, a late one, or a launch frame whose time less 64 ns of preamble has come [14 R422]. -/
def txEligible (r : Regs) (d : Dev) (n q : Nat) (x : TxFrame) : Bool :=
  r.on F.ETH_TXQ_CFG_EN n q == 1 &&
    (!x.launch || x.late || (decide (x.time ≤ queueNow r d n q + 64) && !(txLate r d n q x)))

/-- Transmission time of a frame in ns [14 R422]. -/
def txTime (m : List Host.Cell) (n : Nat) (x : TxFrame) : Nat := (max 60 (leNat (Memory.readBytes m (bufAddr n x.buf) 2)) + 24) * 8

/-- The frame would end after the launch instant at the head of another queue: of any queue for a plain frame, of a higher one for a launch frame [14 R422 R423]. -/
def txBlocked (r : Regs) (m : List Host.Cell) (d : Dev) (n q : Nat) (x : TxFrame) : Bool :=
  (List.range 8).any fun k =>
    match d.txHead n k with
    | some y => k != q && y.launch && !y.late && !(txLate r d n k y) && (!(x.launch && !x.late) || decide (q < k)) &&
        decide (y.time < queueNow r d n k + txTime m n x)
    | none => false

/-- At a frame boundary the MAC starts the frame of the highest queue that may start [14 R422]. -/
def ethStart (r : Regs) (m : List Host.Cell) (n : Nat) (d : Dev) : Dev :=
  if (d.mac n).sending.isSome || !((d.mac n).link) || r.on F.ETH_CFG_TX_EN n != 1 || !(ethOn r d n) then d
  else
    let q := ((List.range 8).reverse).find? fun q =>
      match d.txHead n q with
      | some x => txEligible r d n q x && !(txBlocked r m d n q x)
      | none => false
    match q with
    | none => d
    | some q =>
      match d.txHead n q with
      | none => d
      | some x => modEth n (fun e => { e with sending := some (q, x), queues := modAt e.queues q (List.drop 1) }) d

/-- Every frame that waits completes with RESULT 2 while the link is down [14 R423]. (log 97) -/
def ethFlush (n : Nat) (d : Dev) : Dev :=
  let e := d.mac n
  let l := (match e.sending with | some (_, x) => [x] | none => []) ++ (e.queues.reverse.flatten)
  let d := modEth n (fun e => { e with sending := none, queues := List.replicate 8 [] }) d
  l.foldl (fun d x => ethComplete n x.buf 2 d) d

/-- ETH_TX_PUSH: a frame is queued, or discarded at a full or disabled queue [14 R418]. (log 97) -/
def ethTxPush (n v : Nat) (r : Regs) (m : List Host.Cell) (d : Dev) : Dev :=
  let b := v % 128
  let q := bits v 10 8
  if !(ethOn r d n) then d
  else if 16 ≤ (at' (d.mac n).queues q).length ∨ r.on F.ETH_TXQ_CFG_EN n q ≠ 1 then
    modEth n (fun e => { e with refused := modAt e.refused q (wrapInc 8) }) d
  else
    let x : TxFrame := { buf := b, launch := bit v 11, oneStep := bit v 12, time := leNat (Memory.readBytes m (bufAddr n b + 8) 8) }
    let d := modEth n (fun e => { e with queues := modAt e.queues q (· ++ [x]) }) d
    if (d.mac n).link then ethStart r m n d else ethFlush n d

/-- ETH_TX_PUSH [14 R418]. -/
def execEthTxPush (n v : Nat) (s : State) : Host.Outcome State Fault Refusal := onMem s fun r m d => ([], ethTxPush n v r m d)

/-- Base of a PTP domain on a MAC [14 R421]. -/
def domainTb (r : Regs) (n dom : Nat) : Nat :=
  if dom = r.on F.ETH_PTP_CFG_DOM1 n then 1 else if dom = r.on F.ETH_PTP_CFG_DOM2 n then 2 else 0

/-- correctionField with an amount in 2⁻¹⁶ ns added. (log 28) -/
def addCorrection (f : List Byte) (o : Nat) (v : Int) : List Byte :=
  putBytes f (o + 8) (beBytes 8 (wrapU 64 ((beAt f (o + 8) 8 : Int) + v)))

/-- The one-step change of a frame that leaves, none where R421 makes none. `egress` is the stamp in the mapped base and `fr` its fraction in 2⁻¹⁶ ns. -/
def oneStep (f : List Byte) (p : PtpAt) (egress : Int) (fr req : Nat) : Option (List Byte) :=
  let done := match beAt f p.ofs 1 % 16 with
    | 0 =>
      let e := egress.toNat
      some (addCorrection (putBytes f (p.ofs + 34) (beBytes 6 (e / nsPerSec) ++ beBytes 4 (e % nsPerSec))) p.ofs fr)
    | 3 => some (addCorrection f p.ofs ((egress - req) * 65536))
    | _ => none
  if p.v6 then none else if p.v4 then done.map fun f => putBytes f (p.ofs - 2) [0, 0] else done

/-- ETH_TX_DONE: the frame in transmission has left, its timestamp point at `at_` TB0 ns at the pins; it is stamped, changed where one-step applies, and completed [14 R418 to R421]. (log 97) -/
def ethTxDone (n at_ : Nat) (r : Regs) (m : List Host.Cell) (d : Dev) : List (Nat × List Byte) × Dev :=
  match (d.mac n).sending with
  | none => ([], d)
  | some (_, x) =>
    let a := bufAddr n x.buf
    let len := leNat (Memory.readBytes m a 2)
    let f := Memory.readBytes m (a + 0x40) (min len 1518)
    let f := f ++ List.replicate (60 - f.length) 0
    let ts0 := (at_ : Int) + wrapS 16 (r.on F.ETH_CORR_TX n)
    let p := ptpOf f
    let req := leNat (Memory.readBytes m (a + 0x28) 8)
    let one := match p with
      | some q =>
        let b := domainTb r n (beAt f (q.ofs + 4) 1)
        if x.oneStep && r.on F.ETH_PTP_CFG_ONE_STEP_EN n == 1 then oneStep f q (inBase d b 0 + ts0) ((d.tb b).frac / 65536) req else none
      | none => none
    let res := if x.oneStep && one.isNone then 3 else 0
    let flags := b2n p.isSome + 2 * b2n (vlanTagged f) + 4 * b2n one.isSome
    let w := [(a + 2, leBytes 2 flags), (a + 0x10, stampBytes f p ts0 (ts1 r d n ts0))]
    let d := emit (.eth n (one.getD f)) (modEth n (fun e => { e with sending := none }) d)
    (w, ethStart r m n (ethComplete n x.buf res d))

/-- ETH_TX_DONE [14 R418]. -/
def execEthTxDone (n at_ : Nat) (s : State) : Host.Outcome State Fault Refusal := onMem s (ethTxDone n at_)

/-- ETH_LAUNCH_DUE: the base of queue `q` has reached its head frame's LAUNCH less the preamble time, and the MAC starts what may start [14 R422]. -/
def ethLaunchDue (n q : Nat) (r : Regs) (m : List Host.Cell) (d : Dev) : Dev :=
  match d.txHead n q with
  | some x => if x.launch ∧ q < 8 ∧ x.time ≤ queueNow r d n q + 64 then ethStart r m n d else d
  | none => d

/-- ETH_LAUNCH_DUE [14 R422]. -/
def execEthLaunchDue (n q : Nat) (s : State) : Host.Outcome State Fault Refusal := onMem s fun r m d => ([], ethLaunchDue n q r m d)

/-- ETH_LAUNCH_LATE: the head frame of queue `q` cannot start in time; it is withdrawn, or sent as soon as it can be [14 R423]. -/
def ethLaunchLate (n q : Nat) (r : Regs) (m : List Host.Cell) (d : Dev) : Dev :=
  match d.txHead n q with
  | some x =>
    if ethOn r d n ∧ x.launch ∧ !x.late ∧ txLate r d n q x then
      let d := raise (0x22 + n) 2 (modEth n (fun e => { e with missed := modAt e.missed q (wrapInc 8) }) d)
      if r.on F.ETH_TXQ_CFG_LATE_ACT n q = 1 then
        ethStart r m n (modEth n (fun e => { e with queues := modAt e.queues q fun l => modAt l 0 fun x => { x with late := true } }) d)
      else ethStart r m n (ethComplete n x.buf 1 (modEth n (fun e => { e with queues := modAt e.queues q (List.drop 1) }) d))
    else d
  | none => d

/-- ETH_LAUNCH_LATE [14 R423]. -/
def execEthLaunchLate (n q : Nat) (s : State) : Host.Outcome State Fault Refusal := onMem s fun r m d => ([], ethLaunchLate n q r m d)

/-- ETH_TXC_POP: a read takes one completion [14 R418]. -/
def ethTxcPop (port : Port) (n : Nat) (_ : Regs) (d : Dev) : Dev :=
  match (d.mac n).txc with
  | [] => emit (.read port (ethAddr n 0x84) 0) d
  | (b, res) :: t => emit (.read port (ethAddr n 0x84) (2 ^ 31 + 256 * res + b)) (modEth n (fun e => { e with txc := t }) d)

/-- ETH_TXC_POP [14 R418]. -/
def execEthTxcPop (port : Port) (n : Nat) (s : State) : Host.Outcome State Fault Refusal := onDev s (ethTxcPop port n)

/-- ETH_LINK_CHANGE: auto-negotiation ends, or the link is lost [14 R415 R426]. -/
def ethLinkChange (n : Nat) (done full : Bool) (r : Regs) (m : List Host.Cell) (d : Dev) : Dev :=
  if ethOn r d n then
    let up := done && full
    let was := (d.mac n).link
    let d := modEth n (fun e => { e with anDone := done, link := up, badMode := done && !full }) d
    let d := raiseIf (up != was) (0x22 + n) 3 d
    if up then ethStart r m n d else ethFlush n d
  else d

/-- ETH_LINK_CHANGE [14 R415]. -/
def execEthLinkChange (n : Nat) (done full : Bool) (s : State) : Host.Outcome State Fault Refusal :=
  onMem s fun r m d => ([], ethLinkChange n done full r m d)

/-! ### MDIO -/

/-- A write of ETHn_MDIO starts a clause 22 access of operation `op`; while one is in progress it has no effect (log 29) [14 MDIO]. -/
def mdioStart (op n v : Nat) (d : Dev) : Dev :=
  if 4 ≤ n ∨ pageAbsent d (0x22 + n) ∨ (d.mac n).mdioBusy then d
  else
    let dat := v % 65536
    let reg := bits v 20 16
    let phy := bits v 25 21
    emit (.mdio n op phy reg dat) (modEth n (fun e => { e with mdioData := dat, mdioReg := reg, mdioPhy := phy, mdioOp := op, mdioBusy := true }) d)

/-- MDIO_WRITE [14 ETHn_MDIO]. -/
def execMdioWrite (n v : Nat) (s : State) : Host.Outcome State Fault Refusal := onDev s fun _ d => mdioStart 1 n v d

/-- MDIO_READ [14 ETHn_MDIO]. -/
def execMdioRead (n v : Nat) (s : State) : Host.Outcome State Fault Refusal := onDev s fun _ d => mdioStart 2 n v d

/-- MDIO_DONE: the access ends and BUSY clears; a read brings its data [14 ETHn_MDIO]. -/
def mdioDone (n data : Nat) (d : Dev) : Dev :=
  if (d.mac n).mdioBusy then modEth n (fun e => { e with mdioBusy := false, mdioData := if e.mdioOp = 2 then data % 65536 else e.mdioData }) d
  else d

/-- MDIO_DONE [14 ETHn_MDIO]. -/
def execMdioDone (n data : Nat) (s : State) : Host.Outcome State Fault Refusal := onDev s fun _ d => mdioDone n data d

end Sys2Proof.Machine
end

