-- ==== Sys2Proof/Machine/Placement.lean ====
section
/-! DEFINITION. Mason: tiles, banks, jobs, where each job is placed, and what faults of them do: page MSN [10]. -/

namespace Sys2Proof.Machine

/-! ### Pools and jobs -/

/-- Tiles of the grade [10 R289]. -/
def Dev.tileCount (d : Dev) : Nat := if d.tw812 then 6 else 12

/-- Shared banks of the grade [10 R289]. -/
def Dev.bankCount (d : Dev) : Nat := if d.tw812 then 26 else 40

/-- Tile `t`. -/
def Dev.tile (d : Dev) (t : Nat) : Tile := at' d.msn.tiles t
/-- Job `j`. -/
def Dev.job (d : Dev) (j : Nat) : Job := at' d.msn.jobs j
/-- Bank `b`. -/
def Dev.bank (d : Dev) (b : Nat) : Bank := at' d.msn.banks b
/-- A tile changed. -/
def modTile (t : Nat) (f : Tile → Tile) (d : Dev) : Dev := { d with msn := { d.msn with tiles := modAt d.msn.tiles t f } }
/-- A job changed. -/
def modJob (j : Nat) (f : Job → Job) (d : Dev) : Dev := { d with msn := { d.msn with jobs := modAt d.msn.jobs j f } }
/-- A bank changed. -/
def modBank (b : Nat) (f : Bank → Bank) (d : Dev) : Dev := { d with msn := { d.msn with banks := modAt d.msn.banks b f } }

/-- The active description and the settings call for a job [10 R292]. -/
def jobNeeded (r : Regs) (d : Dev) (j : Nat) : Bool :=
  match j with
  | 0 | 1 | 5 => d.running
  | 2 | 3 => !(d.descr.thr.isEmpty)
  | 4 => !(d.descr.app.isEmpty)
  | 6 => r.bit F.GNS1_HDG_CFG_ATT_EN
  | 7 => d.descr.sys.pair == 1 && r.bit F.GNS0_RX_CFG_XTRK_EN
  | k => d.descr.objects.any fun (o : ObjRec) => o.id == k - 7

/-- Share of a shared job, in thousandths of a tile [10 R292]. -/
def jobShare (d : Dev) (j : Nat) : Nat :=
  let cyc := fun n => n * nth [5, 10, 20] d.descr.sys.rate 10
  match j with
  | 5 => 40
  | 6 => 20
  | 7 => if d.tw812 then 150 else 300
  | 4 => cyc 2
  | _ => cyc 1

/-- Order in which jobs are placed: FALLBACK, OWN_FILTER, REFTEST, SOLVE, APPENDAGE, GNSS_SOL, GNSS_ATT, TGT1 to TGT7, XTRK_POST [10 R295]. -/
def placeOrder : List Nat := [3, 0, 1, 2, 4, 5, 6, 8, 9, 10, 11, 12, 13, 14, 7]

/-- The host has excluded a course, or a tile in the diagnostics [10 R307 R310]. -/
def hostExcludes (r : Regs) (t : Nat) : Bool :=
  bit (r.get F.MSN_EXCL_COURSE) (t / 3) || (r.bit F.MSN_DIAG_CTL_EN && bit (r.get F.MSN_DIAG_EXCL_TILE) t)

/-- A tile may carry jobs: neither FAULTY, SUSPECT, OFF nor excluded, and owing no test [10 R294 R303, 18 R521]. -/
def tileUsable (r : Regs) (d : Dev) (t : Nat) : Bool :=
  decide (t < d.tileCount) && !(hostExcludes r t) && !(d.grt.owed.contains t) &&
    (match (d.tile t).st with | .free | .busy | .grout => true | _ => false)

/-- Tiles that may carry jobs. -/
def usableTiles (r : Regs) (d : Dev) : List Nat := (List.range 12).filter (tileUsable r d)

/-- Course to which a job is pinned [10 R307]. (log 82) -/
def pinOf (r : Regs) (j : Nat) : Option Nat := if r.bit F.MSN_JOB_PIN_EN j then some (r.at F.MSN_JOB_PIN_COURSE j) else none

/-! ### The search for a placement -/

/-- A placement: each placed job with its tiles. -/
abbrev Plc := List (Nat × List Nat)

/-- Tiles of a job in a placement. -/
def Plc.of (p : Plc) (j : Nat) : List Nat := sget p j []

/-- What a search is given: the usable tiles, the pins in force, the shares and the present placement. -/
structure PlaceIn where
  /-- usable tiles -/
  tiles : List Nat
  /-- pin of a job -/
  pin : Nat → Option Nat
  /-- share of a job -/
  share : Nat → Nat
  /-- present tiles of a job -/
  now : Nat → List Nat

/-- A pin admits a tile. -/
def PlaceIn.admits (x : PlaceIn) (j t : Nat) : Bool := match x.pin j with | some c => t / 3 == c | none => true

/-- Shared jobs onto tiles under a cap, the present tile first, then in number order [10 R293 R294]. -/
def PlaceIn.assign (x : PlaceIn) (cap : Nat) (ok : Nat → Nat → Bool) (tiles : List Nat) : List Nat → List (Nat × Nat) → Option Plc
  | [], _ => some []
  | j :: js, load =>
    let order := (tiles.filter fun t => (x.now j).contains t) ++ tiles.filter fun t => !((x.now j).contains t)
    order.findSome? fun t =>
      if ok j t && decide (sget load t 0 + x.share j ≤ cap) then
        (x.assign cap ok tiles js (sins load t (sget load t 0 + x.share j))).map fun p => (j, [t]) :: p
      else none

/-- Pairs of usable tiles of one course. -/
def PlaceIn.pairs (x : PlaceIn) : List (List Nat) :=
  x.tiles.flatMap fun a => (x.tiles.filter fun b => decide (a < b) && a / 3 == b / 3 && x.admits 2 a).map fun b => [a, b]

/-- Every choice of tiles for SOLVE and OWN_FILTER, as far as the jobs are placed. -/
def PlaceIn.heads (x : PlaceIn) (jobs : List Nat) : List Plc :=
  let s : List Plc := if jobs.contains 2 then x.pairs.map fun p => [(2, p)] else [[]]
  s.flatMap fun p =>
    if jobs.contains 0 then (x.tiles.filter fun t => !((p.of 2).contains t) && x.admits 0 t).map fun t => p ++ [(0, [t])] else [p]

/-- A shared job may stand on a tile beside a choice for SOLVE: its pin, and FALLBACK off SOLVE's course [10 R294]. -/
def PlaceIn.sharedOk (x : PlaceIn) (h : Plc) (j t : Nat) : Bool := x.admits j t && (j != 3 || (h.of 2).all fun a => a / 3 != t / 3)

/-- Shared jobs among the jobs. -/
def sharedOf (jobs : List Nat) : List Nat := jobs.filter fun j => j != 0 && j != 2

/-- Some placement of the jobs keeps the hard rules. -/
def PlaceIn.feasible (x : PlaceIn) (jobs : List Nat) : Bool :=
  (x.heads jobs).any fun h =>
    let rest := x.tiles.filter fun t => !(h.any fun (e : Nat × List Nat) => e.2.contains t)
    (x.assign 500 (x.sharedOk h) rest (sharedOf jobs) []).isSome

/-- Sublists of a list. -/
def subsets : List Nat → List (List Nat)
  | [] => [[]]
  | a :: l => let s := subsets l; s ++ s.map (a :: ·)

/-- Every placement the search weighs: for each choice of SOLVE, OWN_FILTER and the tiles of the shared jobs, at 30 % and at 50 %. -/
def PlaceIn.all (x : PlaceIn) (jobs : List Nat) : List Plc :=
  (x.heads jobs).flatMap fun h =>
    let rest := x.tiles.filter fun t => !(h.any fun (e : Nat × List Nat) => e.2.contains t)
    (subsets rest).flatMap fun s =>
      match x.assign 300 (x.sharedOk h) s (sharedOf jobs) [] with
      | some p => [h ++ p]
      | none => (match x.assign 500 (x.sharedOk h) s (sharedOf jobs) [] with | some p => [h ++ p] | none => [])

/-- Tiles that carry a job. -/
def Plc.used (p : Plc) : List Nat := (p.flatMap Prod.snd).eraseDups

/-- Jobs that a placement moves from where they are. -/
def PlaceIn.moved (x : PlaceIn) (p : Plc) : List Nat := (p.filter fun (e : Nat × List Nat) => !((x.now e.1).isEmpty) && x.now e.1 != e.2).map Prod.fst

/-- The rank of a placement, lower first, by the order of R296 [10 R296]. (log 82) -/
def PlaceIn.rank (x : PlaceIn) (tw812 : Bool) (reserve : Nat) (p : Plc) : List Nat :=
  let used := p.used
  let shared := ((p.filter fun (e : Nat × List Nat) => e.1 != 0 && e.1 != 2).flatMap Prod.snd).eraseDups
  let load := fun t => (p.filter fun (e : Nat × List Nat) => e.1 != 0 && e.1 != 2 && e.2.contains t).foldl (fun n (e : Nat × List Nat) => n + x.share e.1) 0
  let whole := (List.range 4).any fun c => [3 * c, 3 * c + 1, 3 * c + 2].all fun t => x.tiles.contains t && !(used.contains t)
  [b2n (!tw812 && !whole), b2n (decide (x.tiles.length - used.length < reserve)), b2n (shared.any fun t => decide (300 < load t)),
   shared.length, (x.moved p).length]

/-- Lexicographic order. (log 82) -/
def lexLt : List Nat → List Nat → Bool
  | a :: l, b :: m => decide (a < b) || (a == b && lexLt l m)
  | _, _ => false

/-- The first of the best placements by a rank. (log 82) -/
def bestBy (rank : Plc → List Nat) (l : List Plc) : Option Plc :=
  (l.foldl (fun (o : Option (Plc × List Nat)) p =>
    let k := rank p
    match o with | none => some (p, k) | some (q, m) => if lexLt k m then some (p, k) else some (q, m)) none).map Prod.fst

/-- What the search is given from the state; `broken` are the jobs whose pins give way. (log 82) -/
def placeIn (r : Regs) (d : Dev) (broken : List Nat) : PlaceIn :=
  { tiles := usableTiles r d, pin := fun j => if broken.contains j then none else pinOf r j, share := jobShare d, now := fun j => (d.job j).tiles }

/-- A fault has hit the course to which a job is pinned [10 R308]. -/
def pinHit (r : Regs) (d : Dev) (j : Nat) : Bool :=
  match pinOf r j with
  | some c => [3 * c, 3 * c + 1, 3 * c + 2].any fun t => match (d.tile t).st with | .faulty | .suspect => true | _ => false
  | none => false

/-- The needed jobs that can be placed, in the order of R295, and those of them whose pin gives way [10 R295 R308]. -/
def placeable (r : Regs) (d : Dev) : List Nat × List Nat :=
  (placeOrder.filter fun j => jobNeeded r d j).foldl (fun (s : List Nat × List Nat) j =>
    if (placeIn r d s.2).feasible (s.1 ++ [j]) then (s.1 ++ [j], s.2)
    else if pinHit r d j && (placeIn r d (j :: s.2)).feasible (s.1 ++ [j]) then (s.1 ++ [j], j :: s.2)
    else s) ([], [])

/-- The best placement of the needed jobs; jobs in `stay` are moved only when they must be [10 R294 to R297 R302]. -/
def placement (r : Regs) (d : Dev) (stay : List Nat) : Plc × List Nat :=
  let s := placeable r d
  let x := placeIn r d s.2
  let rank := fun p => ((x.moved p).filter fun j => stay.contains j).length :: x.rank d.tw812 (r.get F.MSN_CFG_RESERVE_TILES) p
  ((bestBy rank (x.all s.1)).getD [], s.2)

/-! ### Placements in force -/

/-- Jobs on a tile, by index. -/
def Dev.jobsOn (d : Dev) (t : Nat) : List Nat := (List.range 15).filter fun j => (d.job j).tiles.contains t

/-- Banks that hold nothing. -/
def Dev.freeBanks (d : Dev) : List Nat :=
  (List.range d.bankCount).filter fun b => match (d.bank b).st with | .free | .grout => true | _ => false

/-- Tile states follow the jobs; a Grout step on a tile that a job takes is abandoned [01 R26, 10 R306]. -/
def settleTiles (d : Dev) : Dev :=
  let d := foldN 12 (fun t d =>
    let busy := !((d.jobsOn t).isEmpty)
    match (d.tile t).st with
    | .free => if busy then modTile t (fun x => { x with st := .busy, since := d.tb0, runs := [] }) d else d
    | .busy => if busy then d else modTile t (fun x => { x with st := .free }) d
    | .grout => if busy then modTile t (fun x => { x with st := .busy, since := d.tb0, runs := [] }) d else d
    | _ => d) d
  { d with grt := { d.grt with
      running := d.grt.running.filter (fun (g : GrtStep) => !(g.cls == 0 && (d.tile g.item).st == .busy)),
      begun := d.grt.begun.filter (fun (g : Nat × Nat × Nat) => !(g.1 == 0 && (d.tile g.2.1).st == .busy)) } }

/-- SPARE_LOW of R296 [10 R296]. -/
def spareCheck (r : Regs) (d : Dev) : Dev :=
  let x := placeIn r d []
  let p : Plc := ((List.range 15).filter fun j => !((d.job j).tiles.isEmpty)).map fun j => (j, (d.job j).tiles)
  let k := x.rank d.tw812 (r.get F.MSN_CFG_RESERVE_TILES) p
  let low := (k.take 2).any (· == 1) || decide (d.freeBanks.length < r.get F.MSN_CFG_RESERVE_BANKS)
  raiseIf (low && !(d.msn.spareLow)) 7 6 { d with msn := { d.msn with spareLow := low } }

/-- A needed job has become UNPLACED, or a job its pin: their interrupts and events [10 R295 R308]. -/
def settleJobs (r : Regs) (broken : List Nat) (d : Dev) : Dev :=
  foldN 15 (fun j d =>
    let x := d.job j
    let un := x.needed && x.tiles.isEmpty
    let pb := broken.contains j && !(x.tiles.isEmpty)
    let d := modJob j (fun x => { x with unplaced := un, pinBroken := pb }) d
    let d := raiseIf (pb && !(x.pinBroken)) 7 5 d
    if un && !(x.unplaced) then record r .msnUnplaced { p0 := j } (raise 7 4 d) else d) d

/-- A placement comes into force; `fault` marks the moves of R302, which count in MOVES. SAFE_HOLD follows when FALLBACK finds no tile [03 R67, 10 R295 R302]. (log 82) -/
def takePlacement (r : Regs) (x : Plc × List Nat) (fault : Bool) (d : Dev) : Dev :=
  let d := foldN 15 (fun j d =>
    let old := (d.job j).tiles
    let new := x.1.of j
    modJob j (fun y => { y with
      needed := jobNeeded r d j, tiles := new, moving := none, moveDue := false,
      moves := if fault && !(old.isEmpty) && !(new.isEmpty) && old != new then wrapInc 8 y.moves else y.moves }) d) d
  let d := spareCheck r (settleJobs r x.2 (settleTiles d))
  if (d.job 3).unplaced then safeHold r 2 d else d

/-- A full placement from scratch [10 R297]. -/
def fullPlacement (r : Regs) (d : Dev) : Dev :=
  let d := takePlacement r (placement r d []) false d
  { d with msn := { d.msn with placed := true } }

/-- A job's place no longer suits: it has no tile though needed, or a tile that it may not use, or it is needed no more [10 R294]. -/
def jobDisplaced (r : Regs) (d : Dev) (j : Nat) : Bool :=
  let x := d.job j
  if jobNeeded r d j then
    (x.tiles.isEmpty && !(x.unplaced)) || x.tiles.any (fun t => !(tileUsable r d t)) ||
      (match pinOf r j with | some c => !(x.pinBroken) && x.tiles.any (fun t => t / 3 != c) | none => false)
  else !(x.tiles.isEmpty)

/-- Jobs are placed again that have to be: others stay where they can [10 R302 R303]. -/
def replaceJobs (r : Regs) (fault : Bool) (d : Dev) : Dev :=
  let bad := (List.range 15).filter (jobDisplaced r d)
  if bad.isEmpty then d
  else takePlacement r (placement r d ((List.range 15).filter fun j => !(bad.contains j))) fault d

/-- An own or target filter's rerun is in progress [10 R299]. -/
def rerunOn (d : Dev) (j : Nat) : Bool :=
  j == 0 && d.fus.rerun.isSome || (decide (8 ≤ j) && (at' d.fus.tgt (j - 8)).rerun.isSome)

/-- A planned migration takes effect [10 R299]. -/
def migrate (j : Nat) (d : Dev) : Dev :=
  match (d.job j).moving with
  | none => d
  | some t =>
    let d := modJob j (fun x => { x with tiles := t, moving := none, moveDue := false, moves := wrapInc 8 x.moves }) d
    { d with msn := { d.msn with migrations := wrapInc 16 d.msn.migrations, movedNow := j :: d.msn.movedNow } }

/-- The planned migrations of a cut: epoch-driven jobs wait for their epoch, filters for the end of a rerun [10 R299 R311]. (log 82) -/
def migrateAtCut (d : Dev) : Dev :=
  let due := (List.range 15).filter fun j => (d.job j).moving.isSome && !(rerunOn d j)
  let d' := due.foldl (fun d j => if 5 ≤ j ∧ j ≤ 7 then modJob j (fun x => { x with moveDue := true }) d else migrate j d) d
  raiseIf (!(due.isEmpty)) 7 7 (settleTiles d')

/-- The epoch-driven jobs whose cut has passed switch at an epoch [10 R299]. -/
def migrateAtEpoch (d : Dev) : Dev :=
  if [5, 6, 7].any fun j => (d.job j).moveDue then
    settleTiles ([5, 6, 7].foldl (fun d j => if (d.job j).moveDue then migrate j d else d) d)
  else d

/-- A tile whose jobs the rotation calls away: it has carried jobs for longer than ROTATE without a test [10 R305]. (log 83) -/
def rotateTile (r : Regs) (d : Dev) : Option Nat :=
  if r.bit F.GRT_CFG_EN then
    (List.range 12).find? fun t =>
      (d.tile t).st == .busy && decide ((d.tile t).since + r.get F.MSN_CFG_ROTATE * 300 * nsPerSec < d.tb0)
  else none

/-- Planned moves of a re-evaluation: at most two jobs, to a placement that ranks higher, or to free the tile that the rotation names [10 R298 R305]. (log 82) -/
def planMoves (r : Regs) (d : Dev) : List (Nat × List Nat) :=
  let s := placeable r d
  let x := placeIn r d s.2
  let k := fun p => x.rank d.tw812 (r.get F.MSN_CFG_RESERVE_TILES) p
  let present : Plc := s.1.map fun j => (j, (d.job j).tiles)
  let okMove := fun (p : Plc) =>
    let m := x.moved p
    decide (m.length ≤ 2) && m.all fun j => !(d.msn.movedNow.contains j)
  let away := fun (p : Plc) => match rotateTile r d with | some t => !(p.used.contains t) | none => false
  let fewer := fun (p : Plc) => match rotateTile r d with
    | some t => p.countP fun (e : Nat × List Nat) => e.2.contains t
    | none => 0
  let l := (x.all s.1).filter okMove
  let rot := bestBy (fun p => fewer p :: k p) (l.filter fun p => decide (fewer p < fewer present))
  let up := bestBy k (l.filter fun p => lexLt ((k p).take 4) ((k present).take 4))
  let pick := match rot with | some p => some p | none => up
  match pick with
  | some p => if away p || !(rot.isSome) || decide (fewer p < fewer present) then (x.moved p).map fun j => (j, p.of j) else []
  | none => []

/-! ### Banks -/

/-- Banks of each workspace row of R290 [10 R290]. -/
def wsSizes (tw812 : Bool) : List Nat := if tw812 then [2, 6, 2, 1, 1, 2] else [2, 6, 4, 1, 2, 4]

/-- The workspaces laid on the lowest banks, in table order [10 R290]. -/
def initBanks (d : Dev) : Dev :=
  let rows := (wsSizes d.tw812).zipIdx.flatMap fun (n, i) => List.replicate n (i + 1)
  { d with msn := { d.msn with banks := (List.range 40).map fun b =>
      { st := if b < rows.length then .inUse else .free, use := nth rows b 0, since := d.tb0 } } }

/-- A copy of a bank's workspace to a free bank begins, or waits for one [10 R300]. -/
def startCopy (b : Nat) (d : Dev) : Dev :=
  if (d.bank b).use = 0 ∨ (d.bank b).copyTo.isSome then d
  else
    match d.freeBanks.find? fun c => c != b with
    | some c => modBank c (fun x => { x with st := .moving }) (modBank b (fun x => { x with copyTo := some c, copied := false }) d)
    | none => d

/-- A workspace whose copy is complete switches bank; the old bank is left SUSPECT, or free [10 R300]. (log 83) -/
def switchBank (b : Nat) (d : Dev) : Dev :=
  let x := d.bank b
  match x.copyTo with
  | some c =>
    if x.copied then
      let d := modBank c (fun y => { y with st := .inUse, use := x.use, since := d.tb0 }) d
      modBank b (fun y => { y with st := if y.st == .suspect then .suspect else .free, use := 0, copyTo := none, copied := false }) d
    else d
  | none => d

/-- Bank work at a cut: completed copies switch, and suspect banks start theirs [10 R300 R304]. -/
def banksAtCut (d : Dev) : Dev :=
  let d := foldN 40 switchBank d
  foldN 40 (fun b d => if (d.bank b).st == .suspect then startCopy b d else d) d

/-- A bank's workspace called away by the rotation, one at a re-evaluation [10 R305]. (log 83) -/
def rotateBank (r : Regs) (d : Dev) : Dev :=
  if r.bit F.GRT_CFG_EN then
    match (List.range 40).find? fun b =>
      (d.bank b).st == .inUse && (d.bank b).copyTo.isNone && decide ((d.bank b).since + r.get F.MSN_CFG_ROTATE * 300 * nsPerSec < d.tb0) with
    | some b => startCopy b d
    | none => d
  else d

/-! ### The cut -/

/-- Mason's work at a cut: a full placement at the first cut of RUN and at a cut-in; the re-evaluation on a second boundary [10 R297 R298]. -/
def placeAtCut (cutIn second : Bool) (r : Regs) (d : Dev) : Dev :=
  let d := { d with msn := { d.msn with movedNow := [] } }
  let d := banksAtCut d
  if cutIn || !(d.msn.placed) then fullPlacement r d
  else
    let fault := d.msn.faultMove
    let d := replaceJobs r false (migrateAtCut { d with msn := { d.msn with faultMove := false } })
    if second && !fault && r.bit F.MSN_CFG_REEVAL_EN then
      let d := rotateBank r d
      spareCheck r ((planMoves r d).foldl (fun d (e : Nat × List Nat) => modJob e.1 (fun x => { x with moving := some e.2 }) d) d)
    else spareCheck r d

/-- A commit of page MSN would leave FALLBACK, OWN_FILTER or SOLVE unplaceable on the tiles usable at the cut [10 R307]. (log 82) -/
def pinsRefused (r : Regs) (d : Dev) : Bool :=
  let p := (placeable r d).1
  [3, 0, 2].any fun j => jobNeeded r d j && !(p.contains j)

/-! ### Runs -/

/-- The horizon in use [08 R239]. -/
def horizon (r : Regs) (d : Dev) : Nat := if d.mde.cyc.periodNs = 5000000 then min (r.get F.CTL_HOR_N) 10 else r.get F.CTL_HOR_N

/-- Bound of a run, µs [07 R225, 09 R261, 10 R292]. (log 83) -/
def jobBound (r : Regs) (d : Dev) (j : Nat) : Nat :=
  match j with
  | 0 => 300 + (match d.fus.rerun with | some x => x.cost | none => 0)
  | 1 => 100
  | 2 =>
    let m := popcount 16 (foldN 16 (fun i v => setBit v i (at' d.alc.thr i).avail) 0)
    let n := horizon r d
    20 + (3 * n * m + 1) / 2 + n * (3 + (12 + 2 * m) ^ 3 / 7000 + 1) + r.get F.SLV_CFG_MAX_ITER * (4 + (9 * n + 9) / 10)
  | 3 => 50
  | 4 => 40
  | 5 => 2000
  | 6 => 1000
  | 7 => 300
  | k => 60 + 2 * (at' d.fus.tgt (k - 8)).waiting.length

/-- A run of a job ends within its bound; its length is open (log 5) [10 JOB_TIME]. (log 83) -/
def ranJob (r : Regs) (j : Nat) (d : Dev) : Dev :=
  let us := Config.freeNat d.free 0x0A % (jobBound r d j + 1)
  let d := (d.job j).tiles.foldl (fun d t => modTile t (fun x => { x with runs := (false :: x.runs).take 100 }) d) d.takeFree
  modJob j (fun x => { x with lastUs := us % 2 ^ 16, maxUs := max x.maxUs (us % 2 ^ 16), lastOver := false }) d

/-- The present cycle has time left before a point, in thousandths of the period, for `us` more microseconds. -/
def fitsBefore (d : Dev) (milli us : Nat) : Bool :=
  decide ((d.now - d.mde.cyc.cutTick) * 4 + 1000 * us ≤ d.mde.cyc.periodNs / 1000 * milli)

/-- A run in hand is lost with its tile and starts again [10 R302]. -/
def restartRun (r : Regs) (j : Nat) (d : Dev) : Dev :=
  let d := modJob j (fun x => { x with restarted := true }) d
  match j with
  | 2 => if d.slv.ran && !(d.mde.cyc.deadlineDone) then { d with slv := { d.slv with stage := .running, result := none, startTick := d.now } } else d
  | 3 => d
  | 4 => if d.slv.subRunning then modJob j (fun x => { x with lost := true }) d else d
  | 5 | 6 | 7 | 1 => d
  | _ => if !(d.mde.cyc.stateOut) && !(fitsBefore d 150 (50 + jobBound r d j)) then modJob j (fun x => { x with lost := true }) d else d

/-- Tiles become FAULTY: their runs are abandoned, their jobs placed again and restarted [10 R301 R302]. (log 83) -/
def faultTiles (r : Regs) (ts : List Nat) (d : Dev) : Dev :=
  let ts := ts.filter fun t => decide (t < d.tileCount) && !((d.tile t).st == .faulty) && !((d.tile t).st == .off)
  if ts.isEmpty then d
  else
    let hit := (List.range 15).filter fun j => (d.job j).tiles.any ts.contains
    let d := ts.foldl (fun d t => modTile t (fun x => { x with st := .faulty, runs := [] }) d) d
    let d := { d with msn := { d.msn with tileFaults := (d.msn.tileFaults + ts.length) % 2 ^ 16, faultMove := true },
                      grt := { d.grt with owed := d.grt.owed.filter fun t => !(ts.contains t),
                                          running := d.grt.running.filter fun (g : GrtStep) => !(g.cls == 0 && ts.contains g.item),
                                          begun := d.grt.begun.filter fun (g : Nat × Nat × Nat) => !(g.1 == 0 && ts.contains g.2.1) } }
    let d := record r .msnTileFault { p0 := foldN 15 (fun j m => setBit m j (hit.contains j)) 0 } (raise 7 1 d)
    if hit.isEmpty then spareCheck r d
    else
      let d := hit.foldl (fun d j => restartRun r j d) d
      raise 7 0 (replaceJobs r true d)

/-- TILE_FAULT: an uncorrectable error in a tile's SRAM, or a run at four times its bound [10 R301 R302]. -/
def execTileFault (tile : Nat) (s : State) : Host.Outcome State Fault Refusal := onDev s fun r d => faultTiles r [tile] d

/-- JOB_OVERRUN: a run of `us` microseconds that exceeds its bound by more than 25 % [10 R303]. -/
def jobOverrun (j us : Nat) (r : Regs) (d : Dev) : Dev :=
  if 4 * us ≤ 5 * jobBound r d j ∨ (d.job j).tiles.isEmpty then d
  else
    let first := !((d.job j).lastOver)
    let d := modJob j (fun x => { x with overruns := wrapInc 16 x.overruns, lastOver := true, lastUs := us % 2 ^ 16, maxUs := max x.maxUs (us % 2 ^ 16) }) d
    let d := raiseIf first 7 3 d
    (d.job j).tiles.foldl (fun d t =>
      let runs := (true :: (d.tile t).runs).take 100
      let d := modTile t (fun x => { x with runs := runs }) d
      if r.get F.MSN_CFG_OVR_LIMIT ≤ runs.countP id then
        { modTile t (fun x => { x with st := .suspect, runs := [] }) d with grt := { d.grt with owed := if d.grt.owed.contains t then d.grt.owed else d.grt.owed ++ [t] } }
      else d) d

/-- JOB_OVERRUN [10 R303]. -/
def execJobOverrun (job us : Nat) (s : State) : Host.Outcome State Fault Refusal := onDev s (jobOverrun job us)

/-! ### Bank errors -/

/-- A job starts again from its initial state [10 R304]. -/
def restartJob (r : Regs) (j : Nat) (d : Dev) : Dev :=
  let d := record r .msnJobRestart { p0 := j } (modJob j (fun x => { x with restarted := true }) d)
  match j with
  | 0 => { d with fus := { d.fus with own := {}, rerun := none, waiting := [], initPos := none, initHdg := none, snaps := [] } }
  | 1 => { d with fus := { d.fus with srcs := d.fus.srcs.map fun (s : FusSrc) =>
      { s with samples := [], predFails := 0, predAt := none, passAt := none, devN := ⟨0⟩, devE := ⟨0⟩, sdev := ⟨0⟩,
               ref := if s.ref == .accepted then .rejected else s.ref, reason := if s.ref == .accepted then .probation else s.reason } } }
  | 2 => { d with slv := { d.slv with stage := .idle, ran := false, result := none, prev := none } }
  | 3 => { d with ctl := { d.ctl with fbValid := false, integ := [⟨0⟩, ⟨0⟩, ⟨0⟩] } }
  | 4 => { d with slv := { d.slv with subRunning := false, joints := List.replicate 6 {} } }
  | 5 => { d with gns1 := { d.gns1 with rtk := {}, type := 0 } }
  | 6 => { d with gns1 := { d.gns1 with attMode := 0 } }
  | 7 => { d with gns0 := { d.gns0 with xt := List.replicate 4 {} } }
  | k => { d with fus := { d.fus with tgts := modAt d.fus.tgts (k - 8) (fun _ => {}), tgt := modAt d.fus.tgt (k - 8) (fun x => { x with waiting := [] }) } }

/-- A bank becomes FAULTY; its workspace goes to a free bank [10 R304]. (log 83) -/
def faultBank (b : Nat) (d : Dev) : Dev :=
  let x := d.bank b
  let d := modBank b (fun y => { y with st := .faulty, use := 0, copyTo := none, copied := false }) d
  let dest := match x.copyTo with | some c => some c | none => d.freeBanks.head?
  let d := match dest with
    | some c => if x.use = 0 then d else modBank c (fun y => { y with st := .inUse, use := x.use, since := d.tb0 }) d
    | none => d
  raise 7 2 d

/-- BANK_ERROR: a corrected error counts towards SUSPECT; an uncorrectable one acts on what the bank holds, `active` telling which buffer of job `job` it hit [10 R304]. -/
def bankError (b : Nat) (uncorr : Bool) (j : Nat) (active : Bool) (r : Regs) (d : Dev) : Dev :=
  if d.bankCount ≤ b ∨ (d.bank b).st == .faulty then d
  else if uncorr then
    let use := (d.bank b).use
    let d := if use = 2 then safeHold r 3 d
      else if (use = 3 ∧ j = 2) ∨ (use = 6 ∧ j ≠ 2) then (if active then restartJob r j d else restartRun r j d)
      else d
    faultBank b d
  else
    let l := d.tb0 :: (d.bank b).errs.filter fun t => decide (d.tb0 < t + 3600 * nsPerSec)
    let d := modBank b (fun x => { x with ce := satInc 16 x.ce, errs := l }) d
    if 16 < l.length then
      startCopy b (modBank b (fun x => { x with st := if x.st == .moving then x.st else .suspect }) d)
    else d

/-- BANK_ERROR [10 R304]. -/
def execBankError (bank : Nat) (uncorr : Bool) (job : Nat) (active : Bool) (s : State) : Host.Outcome State Fault Refusal :=
  onDev s (bankError bank uncorr job active)

/-- BANK_COPY_DONE: the copy is complete; the workspace switches at the next cut [10 R300]. -/
def execBankCopyDone (bank : Nat) (s : State) : Host.Outcome State Fault Refusal :=
  onDev s fun _ d => if (d.bank bank).copyTo.isSome then modBank bank (fun x => { x with copied := true }) d else d

/-- MSN_DIAG_CLR: a FAULTY tile becomes SUSPECT and owes a full test; discarded while the diagnostics are off [10 R301 R303 R310]. -/
def msnDiagClr (v : Nat) (r : Regs) (d : Dev) : Dev :=
  let t := v % 16
  if r.bit F.MSN_DIAG_CTL_EN && bit v 4 && (d.tile t).st == .faulty && decide (t < d.tileCount) then
    { modTile t (fun x => { x with st := .suspect, runs := [] }) d with grt := { d.grt with owed := if d.grt.owed.contains t then d.grt.owed else d.grt.owed ++ [t] } }
  else d

/-- MSN_DIAG_CLR [10 R301]. -/
def execMsnDiagClr (v : Nat) (s : State) : Host.Outcome State Fault Refusal := onDev s (msnDiagClr v)

end Sys2Proof.Machine
end

