-- ==== Sys2Proof/Machine/Gnss.lean ====
section
/-! DEFINITION. Satellite signals: AGC, path faults, notches, the jamming indicator, acquisition, tracking channels and cross-tracking [04 R98 to R136]. -/

namespace Sys2Proof.Machine

/-- An own path changed. -/
def modPath (p : Nat) (f : RfPath → RfPath) (d : Dev) : Dev := { d with gns0 := { d.gns0 with paths := modAt d.gns0.paths p f } }
/-- Own path `p`. -/
def Dev.path (d : Dev) (p : Nat) : RfPath := at' d.gns0.paths p
/-- A tracking channel changed. -/
def modChan (c : Nat) (f : Channel → Channel) (d : Dev) : Dev := { d with gns0 := { d.gns0 with chans := modAt d.gns0.chans c f } }
/-- Tracking channel `c`. -/
def Dev.chan (d : Dev) (c : Nat) : Channel := at' d.gns0.chans c
/-- A partner path changed. -/
def modXt (i : Nat) (f : XtrkPath → XtrkPath) (d : Dev) : Dev := { d with gns0 := { d.gns0 with xt := modAt d.gns0.xt i f } }

/-- Own paths of the grade [04 R102]. -/
def ownPaths (d : Dev) : Nat := if d.tw812 then 2 else 4
/-- Tracking channels of the grade [04 R123]. -/
def chanCount (d : Dev) : Nat := if d.tw812 then 96 else 192

/-- The receiver runs: page GNS0 enabled, the device out of RESET and BOOT, and not in DORMANT, or called out of it [03 R69 R95]. -/
def gnssRuns (r : Regs) (d : Dev) : Bool :=
  r.en 0xC && !(d.mde.dstate == .reset) && !(d.mde.dstate == .boot) && (d.mde.dorm == .none || d.mde.wakeHarbour)

/-- An own path is enabled [04 GNS0_RX_CFG]. -/
def pathEnabled (r : Regs) (d : Dev) (p : Nat) : Bool :=
  decide (p < ownPaths d) && (p % 2 == 0 || r.bit F.GNS0_RX_CFG_LO_BAND_EN) && (decide (p < 2) || r.bit F.GNS0_RX_CFG_ANT_B_EN)

/-- A path is declared faulted [04 R105]. -/
def RfPath.faulted (x : RfPath) : Bool := x.faultOpen || x.faultOver

/-- Own paths are not treated as faulted for want of power or clock [18 R522 R534]. -/
def pathsPowered (d : Dev) : Bool := domainHeld d 3 (ticksS 1) && domainHeld d 5 (ticksS 1) && pllHeld d 3 (ticksMs 10)

/-- A path that channels and searches may use: an own path that is enabled and not faulted, or a partner path whose blocks arrive [04 R106 R131]. -/
def pathUp (r : Regs) (d : Dev) (p : Nat) : Bool :=
  if p < 4 then pathEnabled r d p && !((d.path p).faulted) && pathsPowered d else (at' d.gns0.xt (p - 4)).active

/-! ### Signals -/

/-- System of a signal: 0 GPS, 1 Galileo, 2 BeiDou, 3 GLONASS, 4 QZSS, 5 SBAS [04 R98]. -/
def sigSys (g : Nat) : Nat := at' [0, 0, 0, 1, 1, 2, 2, 2, 3, 4, 4, 5] g
/-- Signals with a pilot component [04 R98]. -/
def sigPilot (g : Nat) : Bool := [1, 2, 3, 4, 6, 7, 10].contains g
/-- Signals replicated as BOC(1,1) [04 R98]. -/
def sigBoc (g : Nat) : Bool := [1, 3, 6].contains g
/-- Signals of the lower band [04 R98]. -/
def sigLower (g : Nat) : Bool := [2, 4, 7, 10].contains g

/-- The enable bit of a system [04 GNS0_RX_CFG]. -/
def sysEnabled (r : Regs) (s : Nat) : Bool :=
  match s with
  | 0 => r.bit F.GNS0_RX_CFG_GPS_EN
  | 1 => r.bit F.GNS0_RX_CFG_GAL_EN
  | 2 => r.bit F.GNS0_RX_CFG_BDS_EN
  | 3 => r.bit F.GNS0_RX_CFG_GLO_EN
  | 4 => r.bit F.GNS0_RX_CFG_QZS_EN
  | _ => r.bit F.GNS0_RX_CFG_SBAS_EN

/-- A signal is enabled, and the window of its path receives it: B1I in plan 0 only [04 R98 R100]. -/
def sigEnabled (r : Regs) (g : Nat) : Bool :=
  (r.get F.GNS0_SIG_EN_SIG).testBit g && sysEnabled r (sigSys g) && (g != 5 || !(r.bit F.GNS0_RX_CFG_UP_PLAN))

/-- Enabled signals of a system that a path carries, in code order [04 R98 R102]. -/
def sigsOn (r : Regs) (sys p : Nat) : List Nat :=
  (List.range 12).filter fun g => sigSys g == sys && sigLower g == (p % 2 == 1) && sigEnabled r g

/-- Class of need of a signal on a path [04 R128]. -/
def needClass (r : Regs) (g p : Nat) : Nat :=
  if (sigsOn r (sigSys g) p).head? == some g then
    (if p = 0 then 1 else if p = 2 then 2 else if p % 2 = 0 then 3 else 4)
  else 5

/-! ### AGC and faults of a path -/

/-- The next gain in automatic mode: towards the target, by at most 3 dB, within 0 to 60 dB [04 R104]. (log 37) -/
def agcNext (gain rms target : Nat) : Nat :=
  let n := min (Config.agcStep gain rms target) 6
  if rms = 64 * target then gain else if rms < 64 * target then min (gain + n) 120 else gain - n

/-- One epoch of a path's AGC, its noise floor and the conditions of R105 [04 R104 R105]. -/
def agcEpoch (r : Regs) (p : Nat) (m : PathMeas) (x : RfPath) : RfPath :=
  let openC := x.gain == 120 && decide (m.noise + 24 ≤ r.at F.GNS0_JAM_REF_N_REF p)
  let overC := x.gain == 0 && decide (128 < m.clip)
  let gain := if r.bit F.GNS0_AGC_CFG_MODE p then r.at F.GNS0_AGC_CFG_FIXED_GAIN p else agcNext x.gain m.rms (r.at F.GNS0_AGC_CFG_TARGET p)
  { x with
    gain := gain, clip := m.clip, noise := m.noise, gains := (gain :: x.gains).take 10
    openFor := if openC then x.openFor + 1 else 0, openClear := if openC then 0 else x.openClear + 1
    overFor := if overC then x.overFor + 1 else 0, overClear := if overC then 0 else x.overClear + 1 }

/-! ### Notches -/

/-- Half of a notch's 3 dB width, kHz [04 GNS0_NOTCH_CFG]. -/
def notchHalf (r : Regs) (p : Nat) : Int := at' [25, 50, 100, 250] (r.at F.GNS0_NOTCH_CFG_WIDTH p)

/-- The strongest line of a spectrum within a notch's width of a frequency. -/
def lineNear (half : Int) (bins : List (Int × Nat)) (f : Int) : Option (Int × Nat) :=
  bins.foldl (fun (b : Option (Int × Nat)) (x : Int × Nat) =>
    if (x.1 - f).natAbs ≤ half.natAbs then
      (match b with | some y => if y.2 < x.2 then some x else b | none => some x)
    else b) none

/-- A notch keeps to its line, holds after it, and becomes free [04 R108]. (log 84) -/
def notchEpoch (r : Regs) (p : Nat) (bins : List (Int × Nat)) (n : Notch) : Notch :=
  let back := match lineNear (notchHalf r p) bins n.freq with
    | some x => if r.at F.GNS0_NOTCH_CFG_THR p ≤ x.2 + 3 then some x else none
    | none => none
  match n.st, back with
  | .free, _ => n
  | _, some (f, w) => { n with st := .locked, freq := f, power := w }
  | .locked, none => { n with st := .hold, holdLeft := 10 * r.at F.GNS0_NOTCH_CFG_HOLD p }
  | .hold, none => if n.holdLeft ≤ 1 then {} else { n with holdLeft := n.holdLeft - 1 }

/-- A notch placed on a line; its depth is at least 40 dB and otherwise open [04 R108] (log 5). (log 84) -/
def notchOn (free : Nat) (f : Int) (w : Nat) : Notch :=
  { st := .locked, freq := f, power := w, depth := max 40 (Config.freeNat free 0x04108 % 256) }

/-- The weakest LOCKED notch. -/
def weakest (l : List Notch) : Option (Nat × Nat) :=
  (l.zipIdx).foldl (fun (b : Option (Nat × Nat)) (n, i) =>
    if n.st == .locked then (match b with | some (_, w) => if n.power < w then some (i, n.power) else b | none => some (i, n.power)) else b) none

/-- One candidate assigned: to a FREE notch, else to the weakest LOCKED one when 3 dB stronger, else to none [04 R107]. -/
def notchAssign (free : Nat) (half : Int) (l : List Notch) (c : Int × Nat) : List Notch :=
  if l.any (fun n => n.st != .free && decide ((n.freq - c.1).natAbs ≤ half.natAbs)) then l
  else
    match l.findIdx? (fun n => n.st == .free) with
    | some i => modAt l i fun _ => notchOn free c.1 c.2
    | none =>
      match weakest l with
      | some (i, w) => if w + 3 ≤ c.2 then modAt l i (fun _ => notchOn free c.1 c.2) else l
      | none => l

/-- Candidates in order of power, strongest first. -/
def byPower (l : List (Int × Nat)) : List (Int × Nat) := l.foldl (fun a x => a.takeWhile (fun y => decide (x.2 ≤ y.2)) ++ x :: a.dropWhile (fun y => decide (x.2 ≤ y.2))) []

/-- One epoch of a path's monitor and notches [04 R107 R108 R109]. -/
def notchesEpoch (r : Regs) (p : Nat) (m : PathMeas) (d : Dev) : Dev :=
  let x := d.path p
  let thr := r.at F.GNS0_NOTCH_CFG_THR p
  let seen := (m.bins.filter fun b => decide (thr ≤ b.2)).map fun b =>
    (b.1, min 3 ((match x.cands.find? (fun c => c.1 == b.1) with | some c => c.2 | none => 0) + 1))
  let ready := byPower (m.bins.filter fun b => seen.contains (b.1, 3))
  let old := x.notches
  let kept := old.map (notchEpoch r p m.bins)
  let new := if r.bit F.GNS0_NOTCH_CFG_EN p then ready.foldl (notchAssign d.free (notchHalf r p)) kept else old.map fun _ => {}
  let changed := (old.zip new).any fun e => e.1.st != e.2.st || (e.1.st == .locked && e.1.depth != e.2.depth)
  let loss := if new.any (fun n => n.st != .free) then m.loss else 0
  raiseIf changed 0xC 2 (modPath p (fun y => { y with cands := seen, notches := new, notchLoss := loss }) d.takeFree)

/-! ### Tracking channels -/

/-- Enters a state. -/
def Channel.to (c : Channel) (st : ChState) : Channel := { c with st := st, age := 0, cond := 0 }

/-- A cycle slip is counted and HALF_CYC cleared [04 R125 R127]. -/
def Channel.slip (c : Channel) : Channel := { c with slips := wrapInc 8 c.slips, halfCyc := false, symSync := false }

/-- C/N0 below the loss threshold of the signal's kind, in 0.1 dB-Hz [04 R125]. -/
def belowLoss (r : Regs) (c : Channel) (m : ChMeas) : Bool :=
  decide (m.cn0 < 10 * (if sigPilot c.sig then r.get F.GNS0_TRK_CFG2_CN0_LOSS_P else r.get F.GNS0_TRK_CFG2_CN0_LOSS_D))

/-- The state machine of a channel over one epoch [04 R125]. (log 86) -/
def chanState (low : Bool) (m : ChMeas) (c : Channel) : Channel :=
  let c := { c with age := c.age + 1 }
  match c.st with
  | .idle => c
  | .pullIn => if 20 ≤ c.age ∧ m.freqErr < 500 then c.to .fll else c
  | .fll =>
    if low then { c.to .coast with prev := .fll }
    else
      let n := if 700 ≤ m.lock ∧ 220 ≤ m.cn0 then c.cond + 1 else 0
      if 50 ≤ n then c.to .pll else { c with cond := n }
  | .pll =>
    if low then { c.to .coast with prev := .pll }
    else
      let n := if m.lock < 400 then c.cond + 1 else 0
      if 200 ≤ n then (c.to .fll).slip else { c with cond := n }
  | .coast => if low then c else if c.prev == .pll then (c.to .fll).slip else c.to .fll

/-- Side peaks of a BOC(1,1) signal [04 R126]. -/
def chanSide (m : ChMeas) (c : Channel) : Channel :=
  let n := if sigBoc c.sig && m.side && c.st != .idle then c.side + 1 else 0
  if 20 ≤ n then { c with side := 0, sidePeak := min 15 (c.sidePeak + 1), codeInval := 100 }
  else { c with side := n, codeInval := c.codeInval - 1 }

/-- HALF_CYC on a pilot in PLL, and on data once the symbol sign is fixed [04 R127]. -/
def chanHalf (m : ChMeas) (c : Channel) : Channel :=
  if c.st == .idle then c
  else if sigPilot c.sig then { c with halfCyc := c.st == .pll }
  else { c with symSync := c.symSync || m.sync, halfCyc := c.symSync || m.sync }

/-- A channel's epoch: its dump, its state machine and its measures [04 R123 to R127]. (log 86) -/
def chanEpoch (r : Regs) (missing : Bool) (m : ChMeas) (c : Channel) : Channel :=
  if c.st == .idle then c
  else chanHalf m (chanSide m (chanState (missing || belowLoss r c m) m { c with cn0 := m.cn0, dopp := m.dopp }))

/-- A channel tracks in FLL or PLL. -/
def Channel.tracking (c : Channel) : Bool := c.st == .fll || c.st == .pll

/-- Channels on a path are released [04 R106 R131]. -/
def releasePath (p : Nat) (d : Dev) : Dev :=
  { d with gns0 := { d.gns0 with chans := d.gns0.chans.map fun c => if c.st != .idle && c.path == p then {} else c } }

/-- Searches on an own path are dropped [04 R106]. -/
def dropSearches (p : Nat) (d : Dev) : Dev :=
  { d with gns0 := { d.gns0 with
      queue := d.gns0.queue.filter fun q => q.path != p
      search := match d.gns0.search with | some s => if s.req.path = p then none else some s | none => none } }

/-- A channel for a need of a class: the first IDLE one, else the tracking channel of the lowest class below it [04 R128]. (log 85) -/
def chanFor (d : Dev) (need : Nat) : Option Nat :=
  let l := (d.gns0.chans.take (chanCount d)).zipIdx
  match l.find? (fun (e : Channel × Nat) => e.1.st == .idle) with
  | some e => some e.2
  | none =>
    (l.foldl (fun (b : Option (Nat × Nat)) (e : Channel × Nat) =>
      if e.1.tracking && decide (need < e.1.need) then
        (match b with | some (w, _) => if w < e.1.need then some (e.1.need, e.2) else b | none => some (e.1.need, e.2))
      else b) none).map Prod.snd

/-- A channel is assigned and starts pull-in [04 R115 R118]. (log 85) -/
def assignChan (c g sv p need : Nat) (handover : Bool) (d : Dev) : Dev :=
  modChan c (fun _ => { st := .pullIn, sig := g, sv := sv, path := p, need := need, handover := handover }) d

/-- A channel holds a signal of a satellite on a path. -/
def onChannel (d : Dev) (g sv p : Nat) : Bool := d.gns0.chans.any fun c => c.st != .idle && c.sig == g && c.sv == sv && c.path == p

/-- A satellite is tracked in FLL or PLL on a path [04 R118]. -/
def satTracked (d : Dev) (sys sv : Nat) : Bool := d.gns0.chans.any fun c => c.tracking && sigSys c.sig == sys && c.sv == sv

/-- A request waits, or is served, for a satellite. -/
def satRequested (d : Dev) (sys sv : Nat) : Bool :=
  d.gns0.queue.any (fun q => sigSys q.sig == sys && q.sv == sv) ||
    (match d.gns0.search with | some s => sigSys s.req.sig == sys && s.req.sv == sv | none => false)

/-! ### Search requests -/

/-- A request comes before another [04 R116]. (log 85) -/
def AcqReq.before (a b : AcqReq) : Bool :=
  if a.cls != b.cls then decide (a.cls < b.cls)
  else if a.cls = 2 then b.elev.lt a.elev
  else if a.cls = 3 then decide (sigSys a.sig < sigSys b.sig) || (sigSys a.sig == sigSys b.sig && decide (a.sv < b.sv))
  else false

/-- A request joins the queue in its place [04 R116]. (log 85) -/
def request (q : AcqReq) (d : Dev) : Dev :=
  if d.gns0.queue.any (fun x => x.sig == q.sig && x.sv == q.sv && x.path == q.path) then d
  else
    { d with gns0 := { d.gns0 with
        queue := d.gns0.queue.takeWhile (fun x => !(q.before x)) ++ q :: d.gns0.queue.dropWhile (fun x => !(q.before x)) } }

/-- A reacquisition request for a lost signal [04 R116 R118 R125]. (log 85) -/
def reacquire (c : Channel) (d : Dev) : Dev := request { cls := 1, sig := c.sig, sv := c.sv, path := c.path, lostAt := d.gns0.epoch } d

/-- The serial engine serves: the bank is off or marked faulty [04 R120]. -/
def Dev.serial (d : Dev) : Bool := d.gns0.bankOff || d.gns0.bankFault

/-- The next search starts when none is in hand [04 R116 R121]. -/
def startSearch (d : Dev) : Dev :=
  match d.gns0.search, d.gns0.queue with
  | none, q :: t => { d with gns0 := { d.gns0 with queue := t, search := some { req := q, serial := d.serial } } }
  | _, _ => d

/-- A search on the bank that is no longer usable starts again on the serial engine [04 R120 R121]. -/
def bankLost (d : Dev) : Dev :=
  match d.gns0.search with
  | some s =>
    if !s.serial && d.serial && s.chn.isNone then { d with gns0 := { d.gns0 with search := some { s with serial := true, step := 0, masked := [] } } } else d
  | none => d

/-- Grout gives the bank back to a waiting request [04 R122, 01 R26]. (log 85) -/
def bankTaken (d : Dev) : Dev :=
  if d.gns0.queue.isEmpty then d else { d with grt := { d.grt with running := d.grt.running.filter fun s => s.cls != 2 } }

/-- A search whose detection reached FLL ends, counted; one whose channel is gone resumes [04 R115]. (log 85) -/
def settleSearch (d : Dev) : Dev :=
  match d.gns0.search with
  | some s =>
    match s.chn with
    | some c =>
      let ch := d.chan c
      if ch.sig == s.req.sig && ch.sv == s.req.sv && ch.path == s.req.path && ch.st != .idle then
        (if ch.st == .pullIn then d else { d with gns0 := { d.gns0 with search := none, detects := wrapInc 16 d.gns0.detects } })
      else { d with gns0 := { d.gns0 with search := some { s with chn := none } } }
    | none => d
  | none => d

/-! ### Needs of the sky -/

/-- Paths in the order of R128. -/
def pathOrder : List Nat := [0, 2, 4, 6, 1, 3, 5, 7]

/-- A satellite lies at or above the mask, as far as its elevation is known [04 R128]. -/
def skyUp (r : Regs) (s : SkySat) : Bool := !s.predicted || (r.f32 F.GNS0_ELEV_MASK_MASK).le s.elev

/-- Needs of the satellites of a class: satellite, signal and path [04 R128]. -/
def needsOf (r : Regs) (d : Dev) (sky : List SkySat) (cls : Nat) : List (SkySat × Nat × Nat) :=
  (pathOrder.filter (pathUp r d)).flatMap fun p =>
    (sky.filter (skyUp r)).flatMap fun s =>
      ((sigsOn r s.sys p).filter fun g => needClass r g p == cls).map fun g => (s, g, p)

/-- A need met: by handover from a tracked signal, or by a search on an own path [04 R116 R118 R132]. -/
def meetNeed (r : Regs) (d : Dev) (n : SkySat × Nat × Nat) : Dev :=
  let (s, g, p) := n
  if onChannel d g s.sv p then d
  else if satTracked d s.sys s.sv then
    (if d.gns0.queue.any (fun q => q.sig == g && q.sv == s.sv && q.path == p) then d
     else match chanFor d (needClass r g p) with
       | some c => assignChan c g s.sv p (needClass r g p) true d
       | none => d)
  else if p < 4 ∧ !(satRequested d s.sys s.sv) then
    request { cls := if s.predicted then 2 else 3, sig := g, sv := s.sv, path := p, elev := s.elev } d
  else d

/-- Channels whose path, signal or satellite is no longer wanted are released [04 R106 R128]. (log 85) -/
def releaseUnwanted (r : Regs) (sky : List SkySat) (d : Dev) : Dev :=
  { d with gns0 := { d.gns0 with
      chans := d.gns0.chans.map fun c =>
        if c.st == .idle then c
        else if pathUp r d c.path && sigEnabled r c.sig && !(sky.any fun s => s.sys == sigSys c.sig && s.sv == c.sv && !(skyUp r s)) then c
        else {}
      queue := d.gns0.queue.filter fun q => pathUp r d q.path && sigEnabled r q.sig && (q.cls != 1 || decide (d.gns0.epoch < q.lostAt + 30000))
      search := match d.gns0.search with
        | some s => if pathUp r d s.req.path && sigEnabled r s.req.sig then some s else none
        | none => none } }

/-! ### Cross-tracking -/

/-- The pair is synchronised over the link [15 R429]. -/
def Dev.pairSynced (d : Dev) : Bool := d.linkUp && (d.pair.state == .primSynced || d.pair.state == .stbySynced)

/-- Cross-tracking blocks of the own paths leave, eleven fragments each; the samples are not part of the model [04 R130, 15 R454]. (log 85) -/
def xtrkSend (r : Regs) (d : Dev) : Dev :=
  let on := r.bit F.GNS0_RX_CFG_XTRK_EN && d.pairSynced
  let ps := if on then (List.range 4).filter (pathUp r d) else []
  let lanes := b2n d.ndl.lane0 + b2n d.ndl.lane1
  let d := { d with gns0 := { d.gns0 with txActive := !ps.isEmpty },
                    ndl := { d.ndl with loadXtrk := min 255 (ps.length * 41272 * 800 / (6050000 * max 1 lanes)) } }
  ps.foldl (fun d p => foldN 11 (fun f d => ndlSend .xtrk [p, f, 40920, d.tb0] d) d) d

/-- A partner path at an epoch: its block is there and its dumps are taken, or it is missing and counted; the twentieth in a row loses the path [04 R131, 10 R295]. -/
def xtrkPath (i : Nat) (d : Dev) : Dev :=
  let x := at' d.gns0.xt i
  if !x.active then d
  else if x.whole && !((d.job 7).tiles.isEmpty) then modXt i (fun x => { x with whole := false, missing := 0 }) d
  else
    let d := { d with gns0 := { d.gns0 with gap := satInc 8 d.gns0.gap } }
    if 20 ≤ x.missing + 1 then raise 0xC 6 (releasePath (i + 4) (modXt i (fun x => { x with active := false, missing := 0 }) d))
    else modXt i (fun x => { x with missing := x.missing + 1 }) d

/-- With the link down, or as DEGRADED_STANDBY, the partner's paths are released [04 R132]. -/
def xtrkDown (d : Dev) : Dev :=
  if d.linkUp && d.pair.state != .degraded then d
  else if d.gns0.xt.any (fun x => x.active) || d.gns0.txActive then
    let d := foldN 4 (fun i d => releasePath (i + 4) (modXt i (fun _ => {}) d)) d
    raise 0xC 6 { d with gns0 := { d.gns0 with txActive := false } }
  else d

/-- Blocks of the partner arrive [04 GNS0_XTRK_STAT]. -/
def settleRx (d : Dev) : Dev := { d with gns0 := { d.gns0 with rxActive := d.gns0.xt.any fun x => x.active } }

/-! ### The epoch -/

/-- One own path's epoch, with the sums of a calibration [04 R104 R105 R107 R112]. -/
def pathEpoch (r : Regs) (ms : List PathMeas) (p : Nat) (d : Dev) : Dev :=
  if pathEnabled r d p then
    let m := at' ms p
    let d := notchesEpoch r p m (modPath p (agcEpoch r p m) d)
    if d.gns0.cal then modPath p (fun x => { x with calG := x.calG + x.gain, calN := x.calN + x.noise, calCnt := x.calCnt + 1 }) d else d
  else d

/-- One channel's epoch; FIRST_LOCK when it reaches FLL alone [04 R125 R136]. -/
def chansEpoch (r : Regs) (ms : List ChMeas) (miss : Nat → Bool) (d : Dev) : Dev :=
  ms.foldl (fun d m =>
    let c := d.chan m.chn
    let c' := chanEpoch r (miss c.path) m c
    let first := c.st == .pullIn && c'.st == .fll && !(d.gns0.chans.any Channel.tracking)
    raiseIf first 0xC 7 (modChan m.chn (fun _ => c') d)) d

/-- GNSS_EPOCH [04 R103]. (log 86) -/
def gnssEpoch (ps : List PathMeas) (cs : List ChMeas) (sky : List SkySat) (r : Regs) (d : Dev) : Dev :=
  if !(gnssRuns r d) then d
  else
    let bank := r.bit F.GNS0_ACQ_CFG_BANK_USE
    let d := migrateAtEpoch d
    let d := if (d.job 7).tiles.isEmpty then d else ranJob r 7 d
    let d := { d with
      gns0 := { d.gns0 with epoch := d.gns0.epoch + 1, bankOff := !bank, calEpochs := if d.gns0.cal then d.gns0.calEpochs + 1 else d.gns0.calEpochs }
      pwr := { d.pwr with on := setBit d.pwr.on 4 bank } }
    let d := foldN (ownPaths d) (pathEpoch r ps) d
    let xt := d.gns0.xt
    let d := settleRx (xtrkDown (foldN 4 xtrkPath d))
    let d := chansEpoch r cs (fun p => decide (4 ≤ p) && !((at' xt (p - 4)).whole)) d
    let d := settleSearch (bankLost (releaseUnwanted r sky d))
    let d := foldN 5 (fun k d => (needsOf r d sky (k + 1)).foldl (meetNeed r) d) d
    xtrkSend r (startSearch (bankTaken d))

/-- GNSS_EPOCH [04 R103]. -/
def execGnssEpoch (paths : List PathMeas) (chans : List ChMeas) (sky : List SkySat) (s : State) : Host.Outcome State Fault Refusal :=
  onDev s (gnssEpoch paths chans sky)

/-! ### Jamming indicator -/

/-- GNSS_JAM's event [04 R111]. -/
def jamEvent (r : Regs) (p : Nat) (d : Dev) : Dev :=
  let x := d.path p
  record r .gnssJam { p0 := p, p1 := x.ji, p2 := x.dg, p3 := x.dn } d

/-- The indicator of a path [04 R110]. -/
def jamPath (r : Regs) (p : Nat) (d : Dev) : Dev :=
  let x := d.path p
  let n := max 1 x.gains.length
  let dg := 2 * (r.at F.GNS0_JAM_REF_G_REF p * n - x.gains.foldl (· + ·) 0) / n
  let dn := x.noise - r.at F.GNS0_JAM_REF_N_REF p
  let ji := min 255 (max dg dn)
  let w := r.at F.GNS0_JAM_THR_WARN p
  let h := r.at F.GNS0_JAM_THR_HIGH p
  let y := { x with
    dg := min 255 dg, dn := min 255 dn, ji := ji
    warnUp := if w ≤ ji then x.warnUp + 1 else 0, warnDn := if ji + 8 < w then x.warnDn + 1 else 0
    highUp := if h ≤ ji then x.highUp + 1 else 0, highDn := if ji + 8 < h then x.highDn + 1 else 0 }
  let warn := if y.warn then decide (y.warnDn < 100) else decide (10 ≤ y.warnUp)
  let high := if y.high then decide (y.highDn < 100) else decide (10 ≤ y.highUp)
  let d := modPath p (fun _ => { y with warn := warn, high := high }) d
  let d := if warn != y.warn then jamEvent r p (raiseIf warn 0xC 0 d) else d
  if high != y.high then jamEvent r p (raiseIf high 0xC 1 d) else d

/-- JAM_EVAL [04 R110 R111]. -/
def jamEval (r : Regs) (d : Dev) : Dev :=
  if gnssRuns r d then foldN (ownPaths d) (fun p d => if pathEnabled r d p then jamPath r p d else d) d else d

/-- JAM_EVAL [04 R110]. -/
def execJamEval (s : State) : Host.Outcome State Fault Refusal := onDev s jamEval

/-- JAM_CAL: a calibration of all own paths starts [04 R112]. -/
def jamCal (_ : Regs) (d : Dev) : Dev :=
  { d with gns0 := { d.gns0 with
      cal := true, calEpochs := 0, paths := d.gns0.paths.map fun x => { x with calG := 0, calN := 0, calCnt := 0 } } }

/-- JAM_CAL [04 R112]. -/
def execJamCal (s : State) : Host.Outcome State Fault Refusal := onDev s jamCal

/-- JAM_CAL_DONE: after 10 s the references are the means, to the nearest unit [04 R112] (log 38). -/
def jamCalDone (r : Regs) (d : Dev) : Regs × Dev :=
  if d.gns0.cal && decide (10000 ≤ d.gns0.calEpochs) then
    (foldN (ownPaths d) (fun p r =>
      let x := d.path p
      if x.calCnt = 0 then r
      else (r.put F.GNS0_JAM_REF_G_REF ((2 * x.calG + x.calCnt) / (2 * x.calCnt)) 0 0 p).put F.GNS0_JAM_REF_N_REF
             (min 255 ((2 * x.calN + x.calCnt) / (2 * x.calCnt))) 0 0 p) r,
     { d with gns0 := { d.gns0 with cal := false } })
  else (r, d)

/-- JAM_CAL_DONE [04 R112]. -/
def execJamCalDone (s : State) : Host.Outcome State Fault Refusal := onRegs s jamCalDone

/-! ### Path faults -/

/-- PATH_FAULT: FAULT_OVERLOAD (`over`) or FAULT_OPEN of a path is declared, or cleared after 5 s [04 R105 R106]. -/
def pathFault (p : Nat) (ovr : Bool) (r : Regs) (d : Dev) : Dev :=
  let x := d.path p
  let y := if ovr then { x with faultOver := if x.faultOver then decide (x.overClear < 5000) else decide (100 ≤ x.overFor) }
    else { x with faultOpen := if x.faultOpen then decide (x.openClear < 5000) else decide (1000 ≤ x.openFor) }
  if y = x then d
  else
    let d := record r .gnssPathFault { p0 := p, p1 := b2n y.faultOpen + 2 * b2n y.faultOver } (raise 0xC 3 (modPath p (fun _ => y) d))
    if y.faulted then dropSearches p (releasePath p d) else d

/-- PATH_FAULT [04 R105]. -/
def execPathFault (path : Nat) (ovr : Bool) (s : State) : Host.Outcome State Fault Refusal := onDev s (pathFault path ovr)

/-! ### Acquisition -/

/-- The dwell ladder of the engine in use, ms [04 R115 R119]. -/
def ladder (r : Regs) (serial : Bool) : List Nat :=
  if serial then [2, 5, 20].filter fun t => decide (t ≤ r.get F.GNS0_ACQ_CFG_DWELL_SER)
  else [4, 16, 64, 200].filter fun t => decide (t ≤ r.get F.GNS0_ACQ_CFG_DWELL_BANK)

/-- The search in hand ends without result, or moves to its next dwell step; a request of a higher class takes the engine first [04 R115 R116]. -/
def searchOn (r : Regs) (s : Search) (d : Dev) : Dev :=
  match d.gns0.queue with
  | q :: t =>
    if q.cls < s.req.cls then
      let d := { d with gns0 := { d.gns0 with queue := t, search := some { req := q, serial := d.serial } } }
      request s.req d
    else if s.step + 1 < (ladder r s.serial).length then { d with gns0 := { d.gns0 with search := some { s with step := s.step + 1 } } }
    else startSearch { d with gns0 := { d.gns0 with search := none } }
  | [] =>
    if s.step + 1 < (ladder r s.serial).length then { d with gns0 := { d.gns0 with search := some { s with step := s.step + 1 } } }
    else { d with gns0 := { d.gns0 with search := none } }

/-- ACQ_PASS_DONE: the strongest cell above threshold, if any; a masked one is no detection [04 R115]. (log 85) -/
def acqPassDone (cell : Option Nat) (r : Regs) (d : Dev) : Dev :=
  match d.gns0.search with
  | some s =>
    if !(gnssRuns r d) || s.chn.isSome then d
    else
      match cell with
      | some c =>
        if s.masked.contains c then searchOn r s d
        else
          match chanFor d (needClass r s.req.sig s.req.path) with
          | some n =>
            assignChan n s.req.sig s.req.sv s.req.path (needClass r s.req.sig s.req.path) false
              { d with gns0 := { d.gns0 with search := some { s with chn := some n, cell := c } } }
          | none => d
      | none => searchOn r s d
  | none => d

/-- ACQ_PASS_DONE [04 R115]. -/
def execAcqPassDone (cell : Option Nat) (s : State) : Host.Outcome State Fault Refusal := onDev s (acqPassDone cell)

/-- PULL_IN_TIMEOUT: no FLL within 50 ms; the cell is masked, or a failed handover asks for reacquisition [04 R115 R118 R125]. -/
def pullInTimeout (n : Nat) (_ : Regs) (d : Dev) : Dev :=
  let c := d.chan n
  if c.st == .pullIn && decide (50 ≤ c.age) then
    let d := modChan n (fun _ => {}) d
    if c.handover then reacquire c d
    else
      match d.gns0.search with
      | some s => if s.chn = some n then { d with gns0 := { d.gns0 with search := some { s with chn := none, masked := s.cell :: s.masked } } } else d
      | none => d
  else d

/-- PULL_IN_TIMEOUT [04 R125]. -/
def execPullInTimeout (chn : Nat) (s : State) : Host.Outcome State Fault Refusal := onDev s (pullInTimeout chn)

/-- COAST_TIMEOUT: 1 s in COAST [04 R125]. -/
def coastTimeout (n : Nat) (_ : Regs) (d : Dev) : Dev :=
  let c := d.chan n
  if c.st == .coast && decide (1000 ≤ c.age) then reacquire c (raise 0xC 5 (modChan n (fun _ => {}) d)) else d

/-- COAST_TIMEOUT [04 R125]. -/
def execCoastTimeout (chn : Nat) (s : State) : Host.Outcome State Fault Refusal := onDev s (coastTimeout chn)

/-! ### Cross-tracking blocks -/

/-- XTRK_FRAME: a fragment of a partner path arrives; a block is whole when all eleven have [04 R131, 15 R454]. (log 85) -/
def xtrkFrame (p frag epoch : Nat) (ok : Bool) (r : Regs) (d : Dev) : Dev :=
  if !(d.linkUp) then d
  else if !ok then
    let bad := (at' d.gns0.xt p).bad && (at' d.gns0.xt p).epoch == epoch
    let d := modXt p (fun x => { x with bad := true, epoch := epoch, frags := 0 }) (ndlFrame false d)
    if bad then d else { d with gns0 := { d.gns0 with blockErr := wrapInc 16 d.gns0.blockErr } }
  else
    let d := ndlFrame true d
    if !(gnssRuns r d) || decide (ownPaths d ≤ p) then d
    else
      let x := at' d.gns0.xt p
      let y := if x.epoch = epoch ∧ (x.frags ≠ 0 ∨ x.bad) then x else { x with epoch := epoch, frags := 0, bad := false }
      let y := { y with frags := setBit y.frags frag true }
      let whole := !y.bad && y.frags == 0x7FF
      settleRx (modXt p (fun _ => { y with whole := x.whole || whole, active := x.active || whole, frags := if whole then 0 else y.frags }) d)

/-- XTRK_FRAME [15 R454]. -/
def execXtrkFrame (path frag epoch : Nat) (ok : Bool) (s : State) : Host.Outcome State Fault Refusal :=
  onDev s (xtrkFrame path frag epoch ok)

end Sys2Proof.Machine
end

