-- ==== Sys2Proof/Machine/Free.lean ====
section
/-! DEFINITION. Numerics whose result the spec names but whose arithmetic it does not give: functions without a body over what goes into them, so that nothing can be proved of their values (log 8). The first argument counts free values, for what depends on earlier runs too. -/

namespace Sys2Proof

open Machine

/-! ### Satellite solutions [05 R138 to R148] -/

/-- What goes into one least-squares pass. -/
structure PassIn where
  /-- observations of the pass -/
  obs : List SatObs := []
  /-- ionosphere-free combinations where both bands are tracked -/
  dual : Bool := false
  /-- SBAS corrections applied -/
  sbas : Bool := false
  /-- broadcast offsets used as priors, by system -/
  priors : List (Nat × F32) := []
  /-- standard deviation of the priors, ns -/
  priorSigma : Nat := 0
  /-- ionosphere parameters -/
  iono : List F32 := []
  /-- base data of an RTK pass: station message and MSM messages -/
  rtk : Option (List Byte × List (Nat × List Byte)) := none
  deriving DecidableEq, Repr, Inhabited

/-- What one pass gives. -/
structure PassOut where
  /-- latitude, rad -/
  lat : F64 := ⟨0⟩
  /-- longitude, rad -/
  lon : F64 := ⟨0⟩
  /-- ellipsoidal height, m -/
  hgt : F32 := ⟨0⟩
  /-- velocity north, east, down, m/s -/
  vn : F32 := ⟨0⟩
  /-- east -/
  ve : F32 := ⟨0⟩
  /-- down -/
  vd : F32 := ⟨0⟩
  /-- standard deviation north, m -/
  sigN : F32 := ⟨0⟩
  /-- east -/
  sigE : F32 := ⟨0⟩
  /-- down -/
  sigD : F32 := ⟨0⟩
  /-- PDOP, 0.01 units -/
  pdop : Nat := 0
  /-- receiver clock offset, TB0 less GNSS-derived TAI, ps -/
  clk : Int := 0
  /-- estimated offset by system, s -/
  isb : List F32 := []
  /-- place of the observation with the largest normalised residual -/
  worst : Nat := 0
  /-- its normalised residual -/
  resid : F32 := ⟨0⟩
  /-- ratio of the second-best to the best integer candidate's residual norm -/
  ratio : F32 := ⟨0⟩
  /-- satellites with fixed ambiguities -/
  fixN : Nat := 0
  deriving DecidableEq, Repr, Inhabited

/-- A least-squares pass, with its RTK part where it has one. (log 8) -/
opaque Config.gnssPass : Nat → PassIn → PassOut

/-- What goes into the attitude fix. -/
structure AttIn where
  /-- antennas, the reference first, with their lever arms -/
  ants : List (Nat × F32 × F32 × F32) := []
  /-- carrier observations of the upper band at those antennas -/
  obs : List SatObs := []
  deriving DecidableEq, Repr, Inhabited

/-- What the attitude fix gives. -/
structure AttOut where
  /-- fixed length from the reference to each antenna, m, in order -/
  len : List F32 := []
  /-- own A-B length, m -/
  lenAB : F32 := ⟨0⟩
  /-- heading, rad -/
  hdg : F32 := ⟨0⟩
  /-- pitch, rad -/
  pitch : F32 := ⟨0⟩
  /-- roll, rad -/
  roll : F32 := ⟨0⟩
  /-- standard deviations of heading, pitch and roll outside the conditions of R150, rad -/
  sig : List F32 := []
  deriving DecidableEq, Repr, Inhabited

/-- The attitude fix over its baselines. (log 8) -/
opaque Config.attFix : Nat → AttIn → AttOut

/-! ### Filters [07 R199 R202] -/

/-- The covariance that white noises of given spectral densities (first argument, squared, by state) add over a step with transition matrix and length: the spec gives the densities and not the discrete form. (log 8, 92) -/
opaque Config.procNoise : List F64 → List (List F64) → F64 → List (List F64)

/-! ### The control problem [08 R238, 09 R260 to R275] -/

/-- The force set of one available thruster, for the available forces. -/
structure ForceSet where
  /-- body force and moment of one newton of each variable: X, Y, N -/
  cols : List (List F64) := []
  /-- greatest and least thrust of a tunnel -/
  lim : Option (F64 × F64) := none
  /-- corners of the set of a thruster with two variables, in order -/
  corners : List (F64 × F64) := []
  /-- forbidden sectors, as directions in the body frame -/
  sectors : List (F64 × F64) := []
  deriving DecidableEq, Repr, Inhabited

/-- The smaller of the largest force in the positive and in the negative sense of a row (0 X, 1 Y, 2 N) that force sets give with the other two rows zero: the exact extremes of R238 over these sets. (log 72) -/
opaque Config.availForce : List ForceSet → Nat → F64

/-- What the kernels give for an active set: the minimiser of the cost over the model with the active rows as equalities, in scaled variables, and the rows' multipliers [09 R266 R268]. -/
structure KktPoint where
  /-- scaled force variables by step -/
  z : List (List F32) := []
  /-- multipliers of the active rows, in their order -/
  mult : List F32 := []
  /-- KKT columns of the small pivots replaced, in order -/
  cols : List Nat := []
  /-- the factor it results from holds a replaced pivot -/
  reg : Bool := false
  /-- square roots of negative inputs -/
  sqrtNeg : Nat := 0
  deriving DecidableEq, Repr, Inhabited

/-- The direction that the kernels give when a row is added: the change of variables and multipliers up to the full step, at which the row holds with equality [09 R268]. -/
structure KktStep where
  /-- change of the scaled variables by step -/
  dz : List (List F32) := []
  /-- change of the multipliers of the active rows, in their order -/
  dm : List F32 := []
  /-- multiplier of the added row after the full step -/
  add : F32 := ⟨0⟩
  /-- a small pivot was found in the update itself -/
  small : Bool := false
  /-- KKT columns of the small pivots replaced, in order -/
  cols : List Nat := []
  /-- the factor of the new iterate holds a replaced pivot -/
  reg : Bool := false
  /-- square roots of negative inputs -/
  sqrtNeg : Nat := 0
  deriving DecidableEq, Repr, Inhabited

/-- An iterate of the active-set run [09 R268 R269]. -/
structure QpIter where
  /-- scaled force variables by step -/
  z : List (List F32) := []
  /-- active rows as (step, row) with their multipliers, in row order -/
  act : List ((Nat × Nat) × F32) := []
  /-- updates made -/
  upd : Nat := 0
  /-- updates since the last full factorisation -/
  since : Nat := 0
  /-- the update before found a small pivot, so a full factorisation comes before the next -/
  forced : Bool := false
  /-- the factor it results from holds a replaced pivot -/
  reg : Bool := false
  /-- small pivots replaced so far -/
  pivots : Nat := 0
  /-- KKT column of the last of them -/
  col : Nat := 0
  /-- active rows of each step in the matrix of that column -/
  acts : List Nat := []
  /-- square roots of negative inputs so far -/
  sqrtNeg : Nat := 0
  /-- time from the start by which it is complete at the latest, ns -/
  ns : Nat := 0
  deriving DecidableEq, Repr, Inhabited

/-- The kernels' point for an active set after a number of updates: the cost, the model and the order of R265 are the problem's, and the arithmetic of its sums is not given. (log 8, 73) -/
opaque Config.kktPoint : Problem → Nat → List (Nat × Nat) → KktPoint

/-- The kernels' direction from an iterate when a row is added. (log 8, 73) -/
opaque Config.kktStep : Problem → QpIter → Nat × Nat → KktStep

/-- How a solve ends when it is left to run [09 R268 R270]. -/
structure SolveEnd where
  /-- it stopped at MAX_ITER updates, not converged -/
  limit : Bool := false
  /-- the converged solution, or the last complete iterate -/
  sol : Solution := {}
  /-- updates made -/
  iters : Nat := 0
  /-- small pivots replaced -/
  pivots : Nat := 0
  /-- KKT column of the last of them -/
  col : Nat := 0
  /-- active rows of each step in the matrix of that column -/
  acts : List Nat := []
  /-- square roots of negative inputs -/
  sqrtNeg : Nat := 0
  deriving DecidableEq, Repr, Inhabited

/-- What a solve has at the deadline when it has not ended by then. -/
structure SolveAt where
  /-- a full factorisation is in progress -/
  factor : Bool := false
  /-- the last complete iterate -/
  iterate : Option Solution := none
  /-- updates made -/
  iters : Nat := 0
  /-- small pivots replaced -/
  pivots : Nat := 0
  /-- KKT column of the last of them -/
  col : Nat := 0
  /-- active rows of each step in the matrix of that column -/
  acts : List Nat := []
  /-- square roots of negative inputs -/
  sqrtNeg : Nat := 0
  deriving DecidableEq, Repr, Inhabited

/-! ### Layouts that the spec does not give [15 R450 R458] -/

/-- A byte of the device part of a continuity set, by its offset: R450 gives each part its place and size, and not the layout inside it. (log 81) -/
opaque Config.contByte : ContSet → Nat → Byte

/-- A byte of a Still set, by its offset: R458 gives its size and contents, and not their places. (log 81) -/
opaque Config.stillByte : StillSet → Nat → Byte

end Sys2Proof
end

