-- ==== Sys2Proof/Machine/Kalman.lean ====
section
/-! DEFINITION. The filters of fusion: matrices, propagation in steps, scalar updates, the own-vessel model and the target model [07 R199, R202 to R208], all in binary64. -/

namespace Sys2Proof.Machine

/-! ### Vectors and matrices -/

/-- Sum of vectors. -/
def vAdd (a b : List F64) : List F64 := List.zipWith F64.add a b
/-- Difference of vectors. -/
def vSub (a b : List F64) : List F64 := List.zipWith F64.sub a b
/-- A vector times a number. -/
def vScale (k : F64) (a : List F64) : List F64 := a.map k.mul
/-- Inner product, terms added in order. -/
def vDot (a b : List F64) : F64 := (List.zipWith F64.mul a b).foldl F64.add F64.zero
/-- Transpose. -/
def mTr (a : List (List F64)) : List (List F64) :=
  match a with
  | [] => []
  | r :: _ => (List.range r.length).map fun j => a.map fun x => x.getD j F64.zero
/-- Matrix product. -/
def mMul (a b : List (List F64)) : List (List F64) := let t := mTr b; a.map fun r => t.map (vDot r)
/-- Sum of matrices. -/
def mAdd (a b : List (List F64)) : List (List F64) := List.zipWith vAdd a b
/-- Difference of matrices. -/
def mSub (a b : List (List F64)) : List (List F64) := List.zipWith vSub a b
/-- A matrix times a number. -/
def mScale (k : F64) (a : List (List F64)) : List (List F64) := a.map (vScale k)
/-- Matrix times vector. -/
def mVec (a : List (List F64)) (v : List F64) : List F64 := a.map fun r => vDot r v
/-- Diagonal matrix. -/
def mDiag (v : List F64) : List (List F64) := mapI (fun i x => (List.range v.length).map fun j => if i = j then x else F64.zero) v
/-- Identity. -/
def mId (n : Nat) : List (List F64) := mDiag (List.replicate n F64.one)
/-- Outer product. -/
def outer (a b : List F64) : List (List F64) := a.map fun x => vScale x b
/-- Component `i`. -/
def vc (v : List F64) (i : Nat) : F64 := v.getD i F64.zero
/-- Element of a matrix. -/
def mc (m : List (List F64)) (i j : Nat) : F64 := vc (m.getD i []) j
/-- A vector of length `n` with the given components. -/
def sparse (n : Nat) (l : List (Nat × F64)) : List F64 := (List.range n).map fun i => (l.find? fun e => e.1 == i).elim F64.zero Prod.snd
/-- Row and column `i` of a covariance replaced: zero but for its variance. -/
def setVar (i : Nat) (v : F64) (m : List (List F64)) : List (List F64) :=
  mapI (fun a r => mapI (fun b x => if a = i && b = i then v else if a = i || b = i then F64.zero else x) r) m

/-! ### Propagation [07 R199] -/

/-- A filter's model: rates of the states, their Jacobian, and the noise densities. -/
structure Model where
  /-- rates -/
  f : List F64 → List F64
  /-- Jacobian -/
  jac : List F64 → List (List F64)
  /-- noise densities by state -/
  q : List F64
  /-- states held at 0 -/
  held : List Nat := []

/-- States held at 0, with their covariance [07 R204]. -/
def Model.hold (m : Model) (e : Est) : Est :=
  m.held.foldl (fun (e : Est) i => { e with x := modAt e.x i (fun _ => F64.zero), p := setVar i F64.zero e.p }) e

/-- Fourth-order Runge-Kutta over a step. -/
def rk4 (f : List F64 → List F64) (h : F64) (x : List F64) : List F64 :=
  let k1 := f x
  let k2 := f (vAdd x (vScale (h.div F64.two) k1))
  let k3 := f (vAdd x (vScale (h.div F64.two) k2))
  let k4 := f (vAdd x (vScale h k3))
  let s := vAdd (vAdd k1 (vScale F64.two k2)) (vAdd (vScale F64.two k3) k4)
  vAdd x (vScale (h.div (F64.ofInt 6)) s)

/-- One step of states and covariance [07 R199]. -/
def Model.step (m : Model) (h : F64) (e : Est) : Est :=
  let n := e.x.length
  let fm := m.jac e.x
  let phi := mAdd (mAdd (mId n) (mScale h fm)) (mScale ((h.mul h).div F64.two) (mMul fm fm))
  m.hold { e with x := rk4 m.f h e.x, p := mAdd (mMul (mMul phi e.p) (mTr phi)) (Config.procNoise m.q phi h) }

/-- From `t0` to `t1` (TB0 ns) in equal steps of at most T/4 [07 R199]. -/
def Model.propagate (m : Model) (period t0 t1 : Nat) (e : Est) : Est :=
  if t1 ≤ t0 || !e.init then e
  else
    let n := (4 * (t1 - t0) + period - 1) / max 1 period
    let h := (secOfNs (t1 - t0 : Nat)).div (F64.ofInt (max 1 n))
    foldN (max 1 n) (fun _ e => m.step h e) e

/-! ### Updates [07 R199] -/

/-- One scalar measurement: its innovation at a state, and its row. -/
structure Scalar where
  /-- innovation at a state -/
  nu : List F64 → F64
  /-- row of the measurement at a state -/
  row : List F64 → List F64
  /-- noise variance -/
  r : F64

/-- A scalar update in Joseph form. -/
def Est.update (e : Est) (m : Scalar) : Est :=
  let h := m.row e.x
  let ph := mVec e.p h
  let s := (vDot h ph).add m.r
  let k := vScale (F64.one.div s) ph
  let a := mSub (mId e.x.length) (outer k h)
  { e with x := vAdd e.x (vScale (m.nu e.x) k), p := mAdd (mMul (mMul a e.p) (mTr a)) (mScale m.r (outer k k)) }

/-- d² of two components with their innovation covariance [07 R216]. -/
def gateSq (e : Est) (a b : Scalar) (rab : F64) : F64 :=
  let ha := a.row e.x
  let hb := b.row e.x
  let pb := mVec e.p hb
  let saa := (vDot ha (mVec e.p ha)).add a.r
  let sbb := (vDot hb pb).add b.r
  let sab := (vDot ha pb).add rab
  let det := (saa.mul sbb).sub (sab.mul sab)
  let na := a.nu e.x
  let nb := b.nu e.x
  ((((na.mul na).mul sbb).sub ((F64.two.mul (na.mul nb)).mul sab)).add ((nb.mul nb).mul saa)).div det

/-! ### The own-vessel model [07 R202] -/

/-- Coefficients of the own-vessel model with its inputs. -/
structure OwnPar where
  /-- m_X -/
  mX : F64
  /-- m_Y -/
  mY : F64
  /-- I_N -/
  iN : F64
  /-- T_X -/
  tX : F64
  /-- T_Y -/
  tY : F64
  /-- T_N -/
  tN : F64
  /-- ω0 -/
  w0 : F64
  /-- ζ -/
  zeta : F64
  /-- thrust and wind in surge -/
  fx : F64 := F64.zero
  /-- in sway -/
  fy : F64 := F64.zero
  /-- in yaw -/
  fn : F64 := F64.zero

/-- The coefficients in force [07 R202]. -/
def ownPar (r : Regs) (d : Dev) : OwnPar :=
  let s := d.descr.sys
  let k := fun (f : Fd) => F64.one.add (r.f64 f)
  { mX := s.mass.to64.mul (k F.FUS_ADD_X_V), mY := s.mass.to64.mul (k F.FUS_ADD_Y_V), iN := s.izz.to64.mul (k F.FUS_ADD_N_V)
    tX := r.f64 F.FUS_TD_X_V, tY := r.f64 F.FUS_TD_Y_V, tN := r.f64 F.FUS_TD_N_V, w0 := r.f64 F.FUS_WF_W0_V, zeta := r.f64 F.FUS_WF_ZETA_V }

/-- The coefficients with inputs [07 R203]. -/
def OwnPar.with (p : OwnPar) (i : FusInputs) : OwnPar :=
  { p with fx := (vc i.thr 0).add (vc i.wind 0), fy := (vc i.thr 1).add (vc i.wind 1), fn := (vc i.thr 2).add (vc i.wind 2) }

/-- Rates of the eighteen states [07 R202]. -/
def ownRates (p : OwnPar) (x : List F64) : List F64 :=
  let c := Config.cos (vc x 2)
  let s := Config.sin (vc x 2)
  let u := vc x 3
  let v := vc x 4
  let k := F64.one.add (vc x 15)
  let wave := fun (i : Nat) => ((p.w0.mul p.w0).mul (vc x i)).neg.sub (((F64.two.mul p.zeta).mul p.w0).mul (vc x (i + 1)))
  [ ((u.mul c).sub (v.mul s)).add (vc x 16), ((u.mul s).add (v.mul c)).add (vc x 17), vc x 5,
    (u.neg.div p.tX).add (((p.fx.add ((vc x 6).mul c)).add ((vc x 7).mul s)).div (k.mul p.mX)),
    (v.neg.div p.tY).add (((p.fy.sub ((vc x 6).mul s)).add ((vc x 7).mul c)).div (k.mul p.mY)),
    ((vc x 5).neg.div p.tN).add ((p.fn.add (vc x 8)).div (k.mul p.iN)),
    F64.zero, F64.zero, F64.zero ] ++
  [ vc x 10, wave 9, vc x 12, wave 11, vc x 14, wave 13, F64.zero, F64.zero, F64.zero ]

/-- Jacobian of the rates. -/
def ownJac (p : OwnPar) (x : List F64) : List (List F64) :=
  let c := Config.cos (vc x 2)
  let s := Config.sin (vc x 2)
  let u := vc x 3
  let v := vc x 4
  let bn := vc x 6
  let be := vc x 7
  let k := F64.one.add (vc x 15)
  let kx := k.mul p.mX
  let ky := k.mul p.mY
  let kn := k.mul p.iN
  let fX := (p.fx.add (bn.mul c)).add (be.mul s)
  let fY := (p.fy.sub (bn.mul s)).add (be.mul c)
  let fN := p.fn.add (vc x 8)
  let z := sparse 18 []
  let wv := fun (i : Nat) => sparse 18 [(i, (p.w0.mul p.w0).neg), (i + 1, ((F64.two.mul p.zeta).mul p.w0).neg)]
  let one := fun (i : Nat) => sparse 18 [(i, F64.one)]
  [ sparse 18 [(2, ((u.mul s).add (v.mul c)).neg), (3, c), (4, s.neg), (16, F64.one)],
    sparse 18 [(2, (u.mul c).sub (v.mul s)), (3, s), (4, c), (17, F64.one)],
    one 5,
    sparse 18 [(2, ((be.mul c).sub (bn.mul s)).div kx), (3, (F64.one.div p.tX).neg), (6, c.div kx), (7, s.div kx), (15, (fX.div (k.mul kx)).neg)],
    sparse 18 [(2, ((bn.mul c).add (be.mul s)).neg.div ky), (4, (F64.one.div p.tY).neg), (6, s.neg.div ky), (7, c.div ky), (15, (fY.div (k.mul ky)).neg)],
    sparse 18 [(5, (F64.one.div p.tN).neg), (8, F64.one.div kn), (15, (fN.div (k.mul kn)).neg)],
    z, z, z ] ++
  [ one 10, wv 9, one 12, wv 11, one 14, wv 13, z, z, z ]

/-- Noise densities of the states; Q_CUR is 0 while no velocity record has been fused for 60 s [07 R202 R204]. (log 92) -/
def ownNoise (r : Regs) (cur : Bool) : List F64 :=
  let v := r.f64 F.FUS_Q_VEL_V
  let bf := r.f64 F.FUS_Q_BIAS_F_V
  let c := if cur then r.f64 F.FUS_Q_CUR_V else F64.zero
  let w := r.f64 F.FUS_Q_WF_V
  let z := F64.zero
  [z, z, z, v, v, v.div (F64.ofInt 10), bf, bf, r.f64 F.FUS_Q_BIAS_M_V, z, w, z, w, z, r.f64 F.FUS_Q_WFH_V, r.f64 F.FUS_Q_TRIM_V, c, c]

/-- States that the configuration holds at 0 [07 R204]. -/
def ownHeld (r : Regs) : List Nat :=
  (if r.bit F.FUS_CFG_WF_EN then [] else [9, 10, 11, 12, 13, 14]) ++ (if r.bit F.FUS_CFG_TRIM_EN then [] else [15]) ++
    (if r.bit F.FUS_CFG_CUR_EN then [] else [16, 17])

/-- The own-vessel model with inputs. -/
def ownModel (r : Regs) (d : Dev) (i : FusInputs) : Model :=
  let p := (ownPar r d).with i
  let cur := match d.fus.velAt with | some t => decide (d.tb0 < t + 60 * nsPerSec) | none => false
  { f := ownRates p, jac := ownJac p, q := ownNoise r cur, held := ownHeld r }

/-! ### The target model [07 R208] -/

/-- Rates of the seven states N, E, v_N, v_E, ψ, r, a. -/
def tgtRates (x : List F64) : List F64 :=
  let vn := vc x 2
  let ve := vc x 3
  let w := vc x 5
  let s := hypot vn ve
  let slow := s.lt (frac 1 10)
  let an := if slow then F64.zero else ((vc x 6).mul vn).div s
  let ae := if slow then F64.zero else ((vc x 6).mul ve).div s
  [vn, ve, an.sub (w.mul ve), ae.add (w.mul vn), w, F64.zero, F64.zero]

/-- Jacobian of the rates. -/
def tgtJac (x : List F64) : List (List F64) :=
  let vn := vc x 2
  let ve := vc x 3
  let w := vc x 5
  let a := vc x 6
  let s := hypot vn ve
  let slow := s.lt (frac 1 10)
  let s3 := (s.mul s).mul s
  let g := fun (v : F64) => if slow then F64.zero else v
  let cross := g (((a.mul vn).mul ve).div s3)
  let z := sparse 7 []
  [ sparse 7 [(2, F64.one)], sparse 7 [(3, F64.one)],
    sparse 7 [(2, g (((a.mul ve).mul ve).div s3)), (3, cross.neg.sub w), (5, ve.neg), (6, g (vn.div s))],
    sparse 7 [(2, w.sub cross), (3, g (((a.mul vn).mul vn).div s3)), (5, vn), (6, g (ve.div s))],
    sparse 7 [(5, F64.one)], z, z ]

/-- The model of target `o`, 1 to 7. -/
def tgtModel (r : Regs) (d : Dev) (o : Nat) : Model :=
  let acc := ((d.descr.objects.find? fun x => x.id == o).getD {}).accNoise.to64
  let z := F64.zero
  { f := tgtRates, jac := tgtJac, q := [z, z, z, z, z, r.f64 F.FUS_TGT_QR_TGT_QR o, acc] }

end Sys2Proof.Machine
end

