-- ==== Sys2Proof/Machine/Fusion.lean ====
section
/-! DEFINITION. Fusion: fusion instants, sender clocks, quality tests, votes, the filters' updates and reruns, the local frame and the State records: page FUS [07 R197 to R228]. -/

namespace Sys2Proof.Machine

/-- Fusion state of source `i` changed. -/
def modFus (i : Nat) (f : FusSrc → FusSrc) (d : Dev) : Dev := { d with fus := { d.fus with srcs := modAt d.fus.srcs i f } }
/-- Fusion state of source `i`. -/
def Dev.fsrc (d : Dev) (i : Nat) : FusSrc := at' d.fus.srcs i
/-- Target `o` (1 to 7) changed beside its filter. -/
def modTgt (o : Nat) (f : TgtSt → TgtSt) (d : Dev) : Dev := { d with fus := { d.fus with tgt := modAt d.fus.tgt (o - 1) f } }
/-- Target `o` beside its filter. -/
def Dev.tgt (d : Dev) (o : Nat) : TgtSt := at' d.fus.tgt (o - 1)
/-- Estimate of target `o`. -/
def Dev.tgtEst (d : Dev) (o : Nat) : Est := at' d.fus.tgts (o - 1)
/-- Estimate of target `o` changed. -/
def setTgtEst (o : Nat) (e : Est) (d : Dev) : Dev := { d with fus := { d.fus with tgts := modAt d.fus.tgts (o - 1) fun _ => e } }
/-- The cycle period in seconds. -/
def Dev.cycleSec (d : Dev) : F64 := secOfNs d.mde.cyc.periodNs
/-- Objects that the description names as targets. -/
def Dev.targets (d : Dev) : List Nat := (d.descr.objects.map fun (o : ObjRec) => o.id).filter fun o => decide (1 ≤ o) && decide (o ≤ 7)

/-! ### The local frame [07 R200 R201] -/

/-- Semi-major axis of WGS 84, m (log 42). -/
def wgsA : F64 := F64.ofInt 6378137
/-- First eccentricity squared of WGS 84. (log 42) -/
def wgsE2 : F64 := let f := F64.ofRatio 1000000000 298257223563; f.mul (F64.two.sub f)

/-- Meridian and prime-vertical radii at a latitude. (log 42) -/
def radii (lat : F64) : F64 × F64 :=
  let s := Config.sin lat
  let w := F64.one.sub (wgsE2.mul (s.mul s))
  let q := w.sqrt
  ((wgsA.mul (F64.one.sub wgsE2)).div (w.mul q), wgsA.div q)

/-- Metres north and east of the origin [07 R200]. (log 42) -/
def Dev.toLocal (d : Dev) (lat lon : F64) : F64 × F64 :=
  let (m, n) := radii d.fus.lat0
  ((lat.sub d.fus.lat0).mul m, ((wrapPi (lon.sub d.fus.lon0)).mul n).mul (Config.cos d.fus.lat0))

/-- Latitude and longitude of a point of the frame. (log 42) -/
def Dev.fromLocal (d : Dev) (n e : F64) : F64 × F64 :=
  let (m, p) := radii d.fus.lat0
  (d.fus.lat0.add (n.div m), wrapPi (d.fus.lon0.add (e.div (p.mul (Config.cos d.fus.lat0)))))

/-- Position components of an estimate less a shift. -/
def Est.shift (n e : F64) (x : Est) : Est := { x with x := modAt (modAt x.x 0 fun v => v.sub n) 1 fun v => v.sub e }

/-- The origin moves: every estimate, snapshot, latched point and sample goes to the new frame [07 R201]. -/
def moveOrigin (lat lon : F64) (d : Dev) : Dev :=
  let (n, e) := d.toLocal lat lon
  let pt := fun (p : F64 × F64) => (p.1.sub n, p.2.sub e)
  let f := { d.fus with
    lat0 := lat, lon0 := lon, orgSet := true, orgGen := wrapInc 16 d.fus.orgGen, orgMoved := 255
    own := d.fus.own.shift n e, tgts := d.fus.tgts.map (Est.shift n e)
    snaps := d.fus.snaps.map fun (s : Snapshot) => { s with own := s.own.shift n e, tgts := s.tgts.map (Est.shift n e) }
    srcs := d.fus.srcs.map fun (x : FusSrc) => { x with
      latch := x.latch.map pt, samples := x.samples.map fun (s : RefSample) => { s with n := s.n.sub n, e := s.e.sub e } } }
  raise 9 11 { d with fus := f }

/-- The first origin [07 R201]. -/
def setOrigin (lat lon : F64) (d : Dev) : Dev :=
  if d.fus.own.init || d.fus.tgts.any (fun (e : Est) => e.init) then moveOrigin lat lon d
  else raise 9 11 { d with fus := { d.fus with lat0 := lat, lon0 := lon, orgSet := true } }

/-- A committed origin or ORG_SET at a cut, refused outside DORMANT, HARBOUR and MANUAL [07 R201]. -/
def originAtCut (r : Regs) (keys : List (Nat × Nat)) (d : Dev) : Regs × Dev :=
  let any := fun (f : Fd) => hasField keys f 0
  let auto := r.bit F.FUS_CFG_ORG_AUTO
  let given := any F.FUS_ORG_LAT_LO_V || any F.FUS_ORG_LAT_HI_V || any F.FUS_ORG_LON_LO_V || any F.FUS_ORG_LON_HI_V
  let set := r.bit F.FUS_CFG_ORG_SET && any F.FUS_CFG_ORG_SET
  let ok := match d.mde.mode with | .dormant | .harbour | .manual => true | _ => false
  let r := r.clearBit F.FUS_CFG_ORG_SET
  if !auto && given then
    if !ok then (r.reject 9 0xE0 7, d)
    else
      (r, moveOrigin (F64.ofBits (r.get F.FUS_ORG_LAT_LO_V + 2 ^ 32 * r.get F.FUS_ORG_LAT_HI_V))
        (F64.ofBits (r.get F.FUS_ORG_LON_LO_V + 2 ^ 32 * r.get F.FUS_ORG_LON_HI_V)) d)
  else if auto && set then
    if !ok then (r.reject 9 0x40 7, d)
    else if d.fus.own.init then let p := d.fromLocal (vc d.fus.own.x 0) (vc d.fus.own.x 1); (r, moveOrigin p.1 p.2 d)
    else (r, d)
  else (r, d)

/-! ### Measurements -/

/-- Class of a record. -/
def SrcRecord.cls (x : SrcRecord) : SrcClass := classOf x.format x.kind
/-- A position or relative-position class. -/
def SrcClass.isPos (c : SrcClass) : Bool := match c with | .position | .taut | .posref => true | _ => false
/-- Value `i` of a record as binary64. -/
def SrcRecord.val (x : SrcRecord) (i : Nat) : F64 := (wf x.values i).to64
/-- The record holds what the filters need: it is valid, and projected where its class is projected (log 43). -/
def SrcRecord.usable (x : SrcRecord) : Bool := bit x.flags 0 && (!(x.cls.needsAtt) || bit x.flags 2)

/-- Absolute position of a record in the frame [07 R200]. -/
def Dev.absNE (d : Dev) (x : SrcRecord) : F64 × F64 :=
  let p := d.toLocal (wordsF64 (at' x.values 0) (at' x.values 1)) (wordsF64 (at' x.values 2) (at' x.values 3))
  (p.1.add (x.val 5), p.2.add (x.val 6))

/-- Measured vector of a relative position. -/
def SrcRecord.relNE (x : SrcRecord) : F64 × F64 := (x.val 0, x.val 1)

/-- Position that a reference gives of the own vessel [07 R200 R206]. -/
def Dev.refNE (d : Dev) (x : SrcRecord) : Option (F64 × F64) :=
  if x.cls == .position then (if d.fus.orgSet then some (d.absNE x) else none)
  else (d.fsrc x.id).latch.map fun p => (p.1.add (x.val 0), p.2.add (x.val 1))

/-- Vote group of a source that has the vote flag [02 R43]. -/
def voteGroupOf (s : SourceRec) : Option Nat := if bit s.flags 1 then some s.voteGroup else none

/-- Noise standard deviation of a fused record [07 R219 R220]. -/
def sigmaMeas (r : Regs) (d : Dev) (x : SrcRecord) : F64 :=
  let a := r.f64 F.FUS_SRC_SIGMA_SIGMA x.id
  let b := F64.max a (F64.max x.sigma.to64 x.posSigma.to64)
  let s := if x.cls.isPos then F64.max b (d.fsrc x.id).sdev else b
  match (d.sourceRec x.id).bind voteGroupOf with
  | some g => if x.cls == .heading then s.mul (F64.ofInt (max 1 (at' d.fus.grps g).used : Nat)).sqrt else s
  | none => s

/-- Scalars of a position of object 0. -/
def ownPosScalars (z : F64 × F64) (v : F64) : List Scalar :=
  [ ⟨fun x => z.1.sub ((vc x 0).add (vc x 9)), fun _ => sparse 18 [(0, F64.one), (9, F64.one)], v⟩,
    ⟨fun x => z.2.sub ((vc x 1).add (vc x 11)), fun _ => sparse 18 [(1, F64.one), (11, F64.one)], v⟩ ]

/-- The scalar of a yaw rate. -/
def rateScalar (z v : F64) : Scalar :=
  ⟨fun x => z.sub ((vc x 5).add (vc x 14)), fun _ => sparse 18 [(5, F64.one), (14, F64.one)], v⟩

/-- Earth velocity that the state gives, with its rows [07 R205]. -/
def earthVel (x : List F64) : F64 × F64 :=
  let c := Config.cos (vc x 2)
  let s := Config.sin (vc x 2)
  (((((vc x 3).mul c).sub ((vc x 4).mul s)).add (vc x 16)).add (vc x 10), ((((vc x 3).mul s).add ((vc x 4).mul c)).add (vc x 17)).add (vc x 12))

/-- Scalars of a velocity over ground in the earth frame. -/
def velEarthScalars (zn ze v : F64) : List Scalar :=
  let row := fun (east : Bool) (x : List F64) =>
    let c := Config.cos (vc x 2)
    let s := Config.sin (vc x 2)
    if east then sparse 18 [(2, ((vc x 3).mul c).sub ((vc x 4).mul s)), (3, s), (4, c), (12, F64.one), (17, F64.one)]
    else sparse 18 [(2, (((vc x 3).mul s).add ((vc x 4).mul c)).neg), (3, c), (4, s.neg), (10, F64.one), (16, F64.one)]
  [⟨fun x => zn.sub (earthVel x).1, row false, v⟩, ⟨fun x => ze.sub (earthVel x).2, row true, v⟩]

/-- Scalars of a velocity over ground along the body axes: the earth velocity turned by -ψ. -/
def velBodyScalars (zx zy v : F64) : List Scalar :=
  let drift := fun (x : List F64) => ((vc x 16).add (vc x 10), (vc x 17).add (vc x 12))
  let row := fun (y : Bool) (x : List F64) =>
    let c := Config.cos (vc x 2)
    let s := Config.sin (vc x 2)
    let (a, b) := drift x
    if y then sparse 18 [(2, ((a.mul c).add (b.mul s)).neg), (4, F64.one), (10, s.neg), (12, c), (16, s.neg), (17, c)]
    else sparse 18 [(2, (b.mul c).sub (a.mul s)), (3, F64.one), (10, c), (12, s), (16, c), (17, s)]
  let h := fun (y : Bool) (x : List F64) =>
    let c := Config.cos (vc x 2)
    let s := Config.sin (vc x 2)
    let (a, b) := drift x
    if y then ((vc x 4).sub (a.mul s)).add (b.mul c) else ((vc x 3).add (a.mul c)).add (b.mul s)
  [⟨fun x => zx.sub (h false x), row false, v⟩, ⟨fun x => zy.sub (h true x), row true, v⟩]

/-- What a record measures of object 0 [07 R205]. -/
def ownScalars (r : Regs) (d : Dev) (x : SrcRecord) : List Scalar :=
  let s := sigmaMeas r d x
  let v := s.mul s
  match x.cls with
  | .position | .taut | .posref => (match d.refNE x with | some z => ownPosScalars z v | none => [])
  | .heading =>
    ⟨fun e => wrapPi ((x.val 0).sub ((vc e 2).add (vc e 13))), fun _ => sparse 18 [(2, F64.one), (13, F64.one)], v⟩ ::
      (if x.format = 0x0201 then [rateScalar (x.val 1) v] else [])
  | .attitude => [⟨fun e => wrapPi ((x.val 0).sub ((vc e 2).add (vc e 13))), fun _ => sparse 18 [(2, F64.one), (13, F64.one)], v⟩]
  | .rate => [rateScalar (x.val 0) v]
  | .velEarth => velEarthScalars (x.val 0) (x.val 1) v
  | .velBody => velBodyScalars (x.val 0) (x.val 1) v
  | .motion | .wind | .analog => []

/-! ### Updates over an interval -/

/-- What became of a measurement in an update. -/
structure Fused where
  /-- the measurement -/
  m : Meas
  /-- it was fused -/
  fused : Bool
  /-- it passed its prediction test -/
  pass : Bool

/-- In order of fusion instant, then of source [07 R198]. -/
def measSort (l : List Meas) : List Meas :=
  let before := fun (a b : Meas) => decide (a.tf < b.tf) || (a.tf == b.tf && decide (a.r.id < b.r.id))
  l.foldl (fun acc x => acc.takeWhile (fun y => !(before x y)) ++ x :: acc.dropWhile (fun y => !(before x y))) []

/-- Measurements fused in order from `t0`, and the estimate brought to `t1`. -/
def fuseOver (prop : Nat → Nat → Est → Est) (upd : Meas → Est → Est × Bool × Bool) (t0 t1 : Nat) (l : List Meas) (e : Est) : Est × List Fused :=
  let (t, e, out) := (measSort l).foldl (fun (a : Nat × Est × List Fused) m =>
    let e := prop a.1 m.tf a.2.1
    let (e, f, p) := upd m e
    (max a.1 m.tf, e, a.2.2 ++ [⟨m, f, p⟩])) (t0, e, [])
  (prop t t1 e, out)

/-- Object 0 from `t0` to `t1` within the interval after a snapshot, with the inputs of that interval [07 R203 R223]. -/
def ownProp (r : Regs) (d : Dev) (s : Snapshot) (t0 t1 : Nat) (e : Est) : Est :=
  let p := d.mde.cyc.periodNs
  match s.next with
  | some (t, i) =>
    let a := (ownModel r d s.inputs).propagate p t0 (min t t1) e
    (ownModel r d i).propagate p (max t t0) t1 a
  | none => (ownModel r d s.inputs).propagate p t0 t1 e

/-- One measurement of object 0: the prediction test of a reference, then the update where it may be fused [07 R205 R216]. -/
def ownUpdate (r : Regs) (d : Dev) (may : Nat → Bool) (m : Meas) (e : Est) : Est × Bool × Bool :=
  let l := ownScalars r d m.r
  match m.r.cls.isPos, l with
  | true, [a, b] =>
    let pass := (gateSq e a b F64.zero).le (r.f64 F.FUS_PRED_GATE_V)
    if pass && may m.r.id then ((e.update a).update b, true, true) else (e, false, pass)
  | _, _ => if may m.r.id && !l.isEmpty then (l.foldl Est.update e, true, true) else (e, false, true)

/-- The newest snapshot at or before an instant. (log 44) -/
def Dev.snapAt (d : Dev) (t : Nat) : Option Snapshot := d.fus.snaps.find? fun (s : Snapshot) => decide (s.at_ ≤ t)

/-- Object 0's estimate at an instant: the snapshot before it, propagated (log 44). -/
def Dev.ownAt (r : Regs) (d : Dev) (t : Nat) : Est :=
  match d.snapAt t with
  | some s => ownProp r d s s.at_ t s.own
  | none => d.fus.own

/-! ### Sender clocks [07 R211 R212] -/

/-- A change of TIME_SUSPECT [07 R212]. -/
def setSuspect (r : Regs) (i : Nat) (b : Bool) (d : Dev) : Dev :=
  if (d.fsrc i).suspect = b then d
  else
    let d := modFus i (fun x => { x with suspect := b, quietAt := none }) d
    record r (if b then .timeSuspect else .timeRecover) { p0 := i } (raise 9 (if b then 4 else 5) d)

/-- The clock estimator of a source takes a record with sender time [07 R211]. (log 92) -/
def clockStepOf (r : Regs) (x : SrcRecord) (d : Dev) : Dev :=
  let f := d.fsrc x.id
  let off := secOfNs ((x.stamp : Int) - x.sender)
  match f.clkPrev with
  | some t =>
    if f.clkSet then modFus x.id (fun f => { f with ofs := off, clkPrev := some x.stamp, clkSet := false, ress := [], resid := F64.zero }) d
    else if x.stamp ≤ t then d
    else
      let dt := secOfNs ((x.stamp : Int) - t)
      let tau := r.f64 F.FUS_CLK_TAU_V
      let p := f.ofs.add (f.rho.mul dt)
      let res := off.sub p
      let k := dt.div tau
      let lim := r.f64 F.FUS_CLK_RATE_MAX_V
      let rho := F64.clamp (f.rho.add (((F64.min F64.one (k.mul k)).mul res).div dt)) lim.neg lim
      let ress := ((x.stamp, res) :: f.ress).filter fun (e : Nat × F64) => decide (x.stamp < e.1 + nsPerSec)
      let resid := (ress.foldl (fun (s : F64) (e : Nat × F64) => s.add e.2) F64.zero).div (F64.ofInt (max 1 ress.length : Nat))
      let d := modFus x.id (fun f => { f with
        ofs := p.add ((F64.min F64.one (F64.two.mul k)).mul res), rho := rho, clkPrev := some x.stamp, ress := ress, resid := resid }) d
      let a := resid.abs
      let per := d.cycleSec
      if per.lt a then setSuspect r x.id true (modFus x.id (fun f => { f with quietAt := none }) d)
      else if a.le (per.div F64.two) then
        let q := f.quietAt.getD x.stamp
        let d := modFus x.id (fun f => { f with quietAt := some q }) d
        if f.suspect && decide (q + 30 * nsPerSec ≤ x.stamp) then setSuspect r x.id false d else d
      else modFus x.id (fun f => { f with quietAt := none }) d
  | none => modFus x.id (fun f => { f with ofs := off, rho := F64.zero, clkPrev := some x.stamp, clkSet := false, ress := [], resid := F64.zero }) d

/-- A source is within FUS_CLK_INIT of its first record after WAITING [07 R211]. (log 92) -/
def clkInit (r : Regs) (d : Dev) (i stamp : Nat) : Bool :=
  match (d.fsrc i).clkFirst with | some t => decide (stamp < t + nsOf32 (r.f32 F.FUS_CLK_INIT_V)) | none => true

/-- Fusion instant of a record [07 R197]. -/
def fusionInstant (r : Regs) (d : Dev) (x : SrcRecord) : Nat :=
  let lat : Int := nsOf32 (r.f32 F.FUS_SRC_LAT_LAT x.id)
  let plain : Int := (x.stamp : Int) - lat
  let src := r.at F.FUS_SRC_CFG_TIME_SRC x.id
  let t : Int :=
    if !(bit x.flags 1) || clkInit r d x.id x.stamp || src = 0 then plain
    else if src = 1 then (x.sender : Int) + x.senderAdd
    else (x.sender : Int) + nsOfSec (d.fsrc x.id).ofs - lat
  (min t x.stamp).toNat

/-! ### Taking records up -/

/-- Raw values of a reference's record: metres of the frame, or range and raw measurements [07 R215]. -/
def rawOf (d : Dev) (x : SrcRecord) : List F64 :=
  if x.cls == .position then
    let p := d.toLocal (wordsF64 (at' x.values 0) (at' x.values 1)) (wordsF64 (at' x.values 2) (at' x.values 3))
    [p.1, p.2, x.val 4]
  else [x.val 3, x.val 4, x.val 5]

/-- A reference's sample joins those of the quality tests, with its departure from the prediction [07 R215]. -/
def addSample (r : Regs) (x : SrcRecord) (tf : Nat) (d : Dev) : Dev :=
  match d.refNE x with
  | none => d
  | some (n, e) =>
    let own := d.ownAt r tf
    let dn := if own.init then n.sub ((vc own.x 0).add (vc own.x 9)) else F64.zero
    let de := if own.init then e.sub ((vc own.x 1).add (vc own.x 11)) else F64.zero
    let s : RefSample := { at_ := tf, raw := rawOf d x, n := n, e := e, dn := dn, de := de }
    modFus x.id (fun f => { f with samples := s :: f.samples.filter fun (y : RefSample) => decide (tf < y.at_ + 61 * nsPerSec) }) d

/-- A latching source takes its reference point at its first valid record, and starts on probation [07 R206 R217]. -/
def latchPoint (r : Regs) (x : SrcRecord) (tf : Nat) (d : Dev) : Dev :=
  if (x.cls == .taut || x.cls == .posref) && (d.fsrc x.id).latch.isNone && d.fus.own.init then
    let own := d.ownAt r tf
    let p := (((vc own.x 0).add (vc own.x 9)).sub (x.val 0), ((vc own.x 1).add (vc own.x 11)).sub (x.val 1))
    modFus x.id (fun f => { f with latch := some p, ref := .rejected, reason := .probation, passAt := none }) d
  else d

/-- A record taken up at a cut: its clock, its instant, the origin, latches and samples; with what may be measured of it [07 R197 R198 R201 R211]. -/
def takeUp (r : Regs) (x : SrcRecord) (d : Dev) : Dev × Option Meas :=
  match d.sourceRec x.id with
  | none => (d, none)
  | some s =>
    let d := modFus x.id (fun f => { f with clkFirst := some (f.clkFirst.getD x.stamp) }) d
    let restart := bit s.flags 0 && !(bit x.flags 1) && decide (0x0200 ≤ x.format ∧ x.format < 0x0300 ∨ x.format = 0x0110)
    let d := if bit x.flags 1 then clockStepOf r x d else if restart then modFus x.id (fun f => { f with clkSet := true }) d else d
    if !(bit x.flags 0) || (d.fsrc x.id).suspect then (d, none)
    else
      let tf := fusionInstant r d x
      let d := modFus x.id (fun f => { f with latest := some x }) d
      let d := if x.cls == .position && !(d.fus.orgSet) && r.bit F.FUS_CFG_ORG_AUTO then
          setOrigin (wordsF64 (at' x.values 0) (at' x.values 1)) (wordsF64 (at' x.values 2) (at' x.values 3)) d
        else d
      let m : Meas := { tf := tf, r := x }
      if s.object ≠ 0 then (d, some m)
      else
        let head := x.cls == .heading || x.cls == .attitude
        let use := r.bit F.FUS_SRC_CFG_USE x.id
        let d := if use && !(d.fus.own.init) then
            { d with fus := { d.fus with
                initPos := if x.cls == .position && d.fus.orgSet then some m else d.fus.initPos
                initHdg := if head then some m else d.fus.initHdg } }
          else d
        let d := if x.usable then latchPoint r x tf d else d
        let d := if x.usable && x.cls.isPos then addSample r x tf d else d
        (d, some m)

/-- All records whose arrival lies in the window that closes [01 R17, 07 R198]. -/
def takeUpAll (r : Regs) (cut : Nat) (d : Dev) : Dev × List Meas :=
  let now := d.src.queue.filter fun (x : SrcRecord) => decide (x.arrival < cut)
  let rest := d.src.queue.filter fun (x : SrcRecord) => !(decide (x.arrival < cut))
  now.foldl (fun (a : Dev × List Meas) x => let (d, m) := takeUp r x a.1; (d, a.2 ++ m.toList)) ({ d with src := { d.src with queue := rest } }, [])

/-- Object of a measurement's source. -/
def Dev.objectOf (d : Dev) (m : Meas) : Nat := match d.sourceRec m.r.id with | some s => s.object | none => 0

/-! ### Initialisation [07 R207] -/

/-- Object 0 is initialised from a position and a heading. -/
def initOwn (r : Regs) (d : Dev) : Dev :=
  match d.fus.initPos, d.fus.initHdg with
  | some p, some h =>
    let z := d.absNE p.r
    let sp := sigmaMeas r d p.r
    let sh := sigmaMeas r d h.r
    let sd := [sp, sp, sh, F64.one, F64.one, frac 1 20, F64.ofInt 100000, F64.ofInt 100000, F64.ofInt 10000000,
      F64.one, F64.half, F64.one, F64.half, frac 1 50, frac 1 100, frac 1 20, F64.half, F64.half]
    let e : Est := { init := true, x := sparse 18 [(0, z.1), (1, z.2), (2, wrapPi (h.r.val 0))], p := mDiag (sd.map fun s => s.mul s) }
    { d with fus := { d.fus with own := e, initPos := none, initHdg := none, hdgAt := some d.tb0 } }
  | _, _ => d

/-! ### Votes [07 R220] -/

/-- Components of a voted class: whether each is an angle. (log 45) -/
def voteComps (c : SrcClass) : List Bool :=
  match c with
  | .heading | .attitude => [true]
  | .motion => [true, true, false]
  | .wind => [true, false]
  | .rate => [false]
  | .velEarth | .velBody | .analog => [false, false]
  | .position | .taut | .posref => []

/-- A member's values brought to the cut: heading with its rate, the others held. -/
def voteVals (cut : Nat) (x : SrcRecord) (tf : Nat) : List F32 :=
  let v := (List.range (voteComps x.cls).length).map fun i => wf x.values i
  if x.cls == .heading && decide (x.format = 0x0201) then
    [wrapPi32 ((wf x.values 0).add ((wf x.values 1).mul (F32.ofRatio ((cut : Int) - tf) nsPerSec)))]
  else v

/-- Difference of two values of a component. -/
def compDiff (angle : Bool) (a b : F32) : F32 := if angle then wrapPi32 (a.sub b) else a.sub b
/-- A value plus a difference. -/
def compAdd (angle : Bool) (a b : F32) : F32 := if angle then wrapPi32 (a.add b) else a.add b
/-- Median of three. -/
def med3 (a b c : F32) : F32 := F32.max (F32.min a b) (F32.min (F32.max a b) c)

/-- Component-wise median of three members. -/
def voteMedian (cs : List Bool) (a b c : List F32) : List F32 :=
  mapI (fun i an =>
    let x := a.getD i F32.zero
    compAdd an x (med3 F32.zero (compDiff an (b.getD i F32.zero) x) (compDiff an (c.getD i F32.zero) x))) cs

/-- Mean of two members. -/
def voteMean (cs : List Bool) (a b : List F32) : List F32 :=
  mapI (fun i an => let x := a.getD i F32.zero; compAdd an x ((compDiff an (b.getD i F32.zero) x).mul ⟨0x3F000000⟩)) cs

/-- A deviation is beyond the group's limits: angles and single values by LIMIT, wind speed by LIMIT2 (log 45). -/
def voteBeyond (r : Regs) (g : Nat) (c : SrcClass) (a b : List F32) : Bool :=
  let lim := r.f32 F.FUS_VGRP_LIMIT_LIMIT g
  let lim2 := r.f32 F.FUS_VGRP_LIMIT2_LIMIT2 g
  ((voteComps c).zipIdx).any fun (e : Bool × Nat) =>
    let dv := (compDiff e.1 (a.getD e.2 F32.zero) (b.getD e.2 F32.zero)).abs
    if c == .wind && e.2 == 1 then lim2.lt dv else if c == .motion && e.2 == 2 then false else lim.lt dv

/-- A member's exclusion follows its deviation for FUS_VGRP_TIME [07 R220]. -/
def voteMember (r : Regs) (g cut : Nat) (beyond : Bool) (f : FusSrc) : FusSrc :=
  if beyond = f.voteOut then { f with voteAt := none }
  else
    let t := f.voteAt.getD cut
    if nsOf32 (r.f32 F.FUS_VGRP_TIME_TIME g) ≤ cut - t then { f with voteOut := beyond, voteAt := none } else { f with voteAt := some t }

/-- The members of a group that are present: a sample no older than 1 s from a source that is not absent [07 R213 R220]. -/
def votePresent (d : Dev) (g cut : Nat) : List (Nat × SrcRecord) :=
  d.descr.sources.filterMap fun (s : SourceRec) =>
    if voteGroupOf s == some g && (d.source s.id).st == .active && !((d.fsrc s.id).suspect) then
      match (d.fsrc s.id).latest with
      | some x => if cut ≤ x.stamp + nsPerSec then some (s.id, x) else none
      | none => none
    else none

/-- One vote group at a cut [07 R220]. -/
def voteGroup (r : Regs) (cut g : Nat) (d : Dev) : Dev :=
  let all := d.descr.sources.filter fun (s : SourceRec) => voteGroupOf s == some g
  if all.isEmpty then d
  else
    let l := votePresent d g cut
    let old := at' d.fus.grps g
    let put := fun (x : VoteGrp) (d : Dev) => { d with fus := { d.fus with grps := modAt d.fus.grps g fun _ => x } }
    let vals := l.map fun (e : Nat × SrcRecord) => (e.1, e.2, voteVals cut e.2 (fusionInstant r d e.2))
    match vals with
    | [] => put { old with members := 0, used := 0, disagree := false } d
    | [(i, _, v)] =>
      put { members := 1, used := 1, value := v } (modFus i (fun f => { f with voteOut := false, voteAt := none }) d)
    | [(i, x, v), (j, _, w)] =>
      if voteBeyond r g x.cls v w then
        let ref := if (x.cls == .heading || x.cls == .attitude) && d.fus.own.init then [(wrapPi ((vc d.fus.own.x 2).add (vc d.fus.own.x 13))).to32]
          else old.value
        let far := fun (v : List F32) => (compDiff ((voteComps x.cls).getD 0 false) (v.getD 0 F32.zero) (ref.getD 0 F32.zero)).abs
        let first := ref.isEmpty || (far v).le (far w)
        let d := modFus i (fun f => { f with voteOut := !first, voteAt := none }) (modFus j (fun f => { f with voteOut := first, voteAt := none }) d)
        raiseIf (!old.disagree) 9 8
          (put { members := 2, used := 1, disagree := true, chosen := if first then i else j, value := if first then v else w } d)
      else
        let d := modFus i (fun f => { f with voteOut := false, voteAt := none }) (modFus j (fun f => { f with voteOut := false, voteAt := none }) d)
        put { members := 2, used := 2, value := voteMean (voteComps x.cls) v w } d
    | (i, x, v) :: (j, _, w) :: (k, _, u) :: _ =>
      let m := voteMedian (voteComps x.cls) v w u
      let d := modFus i (voteMember r g cut (voteBeyond r g x.cls v m)) d
      let d := modFus j (voteMember r g cut (voteBeyond r g x.cls w m)) d
      let d := modFus k (voteMember r g cut (voteBeyond r g x.cls u m)) d
      let out := [i, j, k].countP fun a => (d.fsrc a).voteOut
      put { members := 3, used := 3 - out, value := m } d

/-- The first group whose sources are of a class, with a member present: its value [07 R205 R220]. -/
def votedValue (d : Dev) (c : SrcClass) : Option (List F32) :=
  ((List.range 16).find? fun g =>
    decide ((at' d.fus.grps g).members ≠ 0) &&
      (d.descr.sources.any fun (s : SourceRec) => voteGroupOf s == some g && classOf s.format (d.sensorOf s).kind == c)).map fun g => (at' d.fus.grps g).value

/-! ### Quality tests [07 R215 to R218] -/

/-- A source is a position reference: an own-vessel source of a position class. -/
def isRef (d : Dev) (s : SourceRec) : Bool := decide (s.object = 0) && (classOf s.format (d.sensorOf s).kind).isPos

/-- A source is absent for a reason other than rejection [07 R213]. -/
def absentSrc (d : Dev) (i : Nat) : Bool := (d.fsrc i).suspect || (d.source i).st != .active

/-- Largest less smallest of a list. -/
def spread (l : List F64) : F64 :=
  match l with
  | [] => F64.zero
  | a :: t => (t.foldl F64.max a).sub (t.foldl F64.min a)

/-- Every raw value has changed by less than the limit over FREEZE_TIME. -/
def frozen (r : Regs) (cut : Nat) (l : List RefSample) : Bool :=
  let w := nsOf32 (r.f32 F.FUS_FREEZE_TIME_V)
  let in_ := l.filter fun (s : RefSample) => decide (cut ≤ s.at_ + w)
  let full := l.any fun (s : RefSample) => decide (s.at_ + w ≤ cut)
  full && (List.range 3).all fun k => (spread (in_.map fun (s : RefSample) => vc s.raw k)).lt (r.f64 F.FUS_FREEZE_EPS_V)

/-- Sum of a list. -/
def vSum (l : List F64) : F64 := l.foldl F64.add F64.zero

/-- Variance of a list about its mean. (log 46) -/
def vVar (l : List F64) : F64 :=
  let n := F64.ofInt (max 1 l.length : Nat)
  let m := (vSum l).div n
  (vSum (l.map fun x => (x.sub m).mul (x.sub m))).div n

/-- s of the variance test: over both components together (log 46). -/
def sdevOf (r : Regs) (cut : Nat) (l : List RefSample) : F64 :=
  let w := nsOf32 (r.f32 F.FUS_VAR_WINDOW_V)
  let in_ := l.filter fun (s : RefSample) => decide (cut ≤ s.at_ + w)
  (((vVar (in_.map fun (s : RefSample) => s.dn)).add (vVar (in_.map fun (s : RefSample) => s.de))).div F64.two).sqrt

/-- Estimated velocity over ground, north and east. -/
def groundVel (e : Est) : F64 × F64 :=
  if e.init then
    let c := Config.cos (vc e.x 2)
    let s := Config.sin (vc e.x 2)
    ((((vc e.x 3).mul c).sub ((vc e.x 4).mul s)).add (vc e.x 16), (((vc e.x 3).mul s).add ((vc e.x 4).mul c)).add (vc e.x 17))
  else (F64.zero, F64.zero)

/-- Latest sample of a reference, moved to the cut, when no older than 1 s. -/
def candOf (d : Dev) (cut i : Nat) : Option (F64 × F64) :=
  match (d.fsrc i).samples with
  | s :: _ =>
    if cut ≤ s.at_ + nsPerSec then
      let v := groundVel d.fus.own
      let dt := secOfNs ((cut : Int) - s.at_)
      some (s.n.add (v.1.mul dt), s.e.add (v.2.mul dt))
    else none
  | [] => none

/-- Median of a list. -/
def medianOf (l : List F64) : F64 :=
  let s := l.foldl (fun acc x => acc.takeWhile (fun y => y.le x) ++ x :: acc.dropWhile (fun y => y.le x)) []
  let n := s.length
  if n % 2 = 1 then vc s (n / 2) else ((vc s (n / 2 - 1)).add (vc s (n / 2))).div F64.two

/-- Outcome of a reference's tests at a cut. -/
structure RefTest where
  /-- source -/
  id : Nat
  /-- candidate position, none without a recent sample -/
  cand : Option (F64 × F64)
  /-- first failure by freeze or variance -/
  early : RefReason := .none
  /-- failure by median or drift -/
  late : RefReason := .none

/-- A change of a reference's state with its interrupt and event [07 R217]. -/
def setRefState (r : Regs) (i : Nat) (st : RefState) (why : RefReason) (code : Nat) (d : Dev) : Dev :=
  let d := modFus i (fun f => { f with ref := st, reason := why, passAt := none }) d
  match st with
  | .rejected => record r .refReject { p0 := i, p1 := code } (raise 9 0 d)
  | .accepted => record r .refRecover { p0 := i, p1 := code } (raise 9 1 d)
  | _ => d

/-- Code of a reason [07 FUS_SRC_STAT]. -/
def RefReason.code (x : RefReason) : Nat :=
  match x with
  | .none => 0 | .freeze => 1 | .variance => 2 | .median => 3 | .drift => 4 | .prediction => 5 | .vote => 6 | .probation => 7

/-- Sources enter and leave EXCLUDED [07 R217]. -/
def refPresence (r : Regs) (s : SourceRec) (d : Dev) : Dev :=
  let f := d.fsrc s.id
  if !(isRef d s) then (if f.ref == .notRef then d else modFus s.id (fun f => { f with ref := .notRef, reason := .none }) d)
  else if absentSrc d s.id then modFus s.id (fun f => { f with ref := .excluded, reason := .none, passAt := none }) d
  else if f.ref == .notRef || f.ref == .excluded then setRefState r s.id .rejected .probation 7 d
  else d

/-- Freeze and variance tests of one reference. -/
def testEarly (r : Regs) (cut i : Nat) (d : Dev) : Dev × RefTest :=
  let f := d.fsrc i
  let c := candOf d cut i
  if c.isNone then (d, { id := i, cand := none })
  else
    let s := sdevOf r cut f.samples
    let d := modFus i (fun f => { f with sdev := s }) d
    let e : RefReason := if frozen r cut f.samples then .freeze else if (r.f64 F.FUS_VAR_LIMIT_V).lt s then .variance else .none
    (d, { id := i, cand := c, early := e })

/-- Median and drift tests over the candidates [07 R215]. (log 93) -/
def testLate (r : Regs) (ts : List RefTest) (d : Dev) : Dev × List RefTest :=
  let cand := ts.filterMap fun (t : RefTest) => if t.early == .none then t.cand else none
  let lim := r.f64 F.FUS_MEDIAN_LIMIT_V
  if 3 ≤ cand.length then
    let mn := medianOf (cand.map Prod.fst)
    let me := medianOf (cand.map Prod.snd)
    let k := F64.min F64.one (d.cycleSec.div (r.f64 F.FUS_DRIFT_TAU_V))
    ts.foldl (fun (a : Dev × List RefTest) t =>
      match t.early, t.cand with
      | .none, some (n, e) =>
        let x := n.sub mn
        let y := e.sub me
        let f := a.1.fsrc t.id
        let dn := f.devN.add (k.mul (x.sub f.devN))
        let de := f.devE.add (k.mul (y.sub f.devE))
        let why : RefReason := if lim.lt (hypot x y) then .median else if (r.f64 F.FUS_DRIFT_LIMIT_V).lt (hypot dn de) then .drift else .none
        (modFus t.id (fun f => { f with devN := dn, devE := de }) a.1, a.2 ++ [{ t with late := why }])
      | _, _ => (a.1, a.2 ++ [t])) (d, [])
  else
    let apart := match cand with | [p, q] => lim.lt (hypot (p.1.sub q.1) (p.2.sub q.2)) | _ => false
    let d' := { d with fus := { d.fus with disagree := apart } }
    (raiseIf (apart && !(d.fus.disagree)) 9 2 d', ts)

/-- All ACCEPTED references have reached PRED_COUNT within the same 1 s: the filter has diverged [07 R218]. -/
def diverged (r : Regs) (cut : Nat) (ids : List Nat) (d : Dev) : Bool :=
  let acc := ids.filter fun i => (d.fsrc i).ref == .accepted
  !acc.isEmpty && acc.all fun i =>
    decide (r.get F.FUS_CFG_PRED_COUNT ≤ (d.fsrc i).predFails) && (match (d.fsrc i).predAt with | some t => decide (cut ≤ t + nsPerSec) | none => false)

/-- The filter is set to the candidates [07 R218]. (log 92) -/
def resetFilter (r : Regs) (cand : List (Nat × F64 × F64)) (d : Dev) : Dev :=
  let n := medianOf (cand.map fun c => c.2.1)
  let e := medianOf (cand.map fun c => c.2.2)
  let s2 := cand.map fun c => let s := F64.max (r.f64 F.FUS_SRC_SIGMA_SIGMA c.1) (d.fsrc c.1).sdev; s.mul s
  let v := ((vSum s2).div (F64.ofInt (max 1 cand.length : Nat))).add F64.one
  let o := d.fus.own
  let x := modAt (modAt (modAt (modAt o.x 0 fun _ => n) 1 fun _ => e) 9 fun _ => F64.zero) 11 fun _ => F64.zero
  let d := { d with fus := { d.fus with
    own := { o with x := x, p := setVar 1 v (setVar 0 v o.p) }
    srcs := d.fus.srcs.map fun (f : FusSrc) => { f with predFails := 0, predAt := none } } }
  record r .filterReset {} d

/-- The accept and recover rule for one reference [07 R217]. -/
def acceptRule (r : Regs) (cut : Nat) (t : RefTest) (d : Dev) : Dev :=
  let f := d.fsrc t.id
  if t.cand.isNone then modFus t.id (fun f => { f with passAt := none }) d
  else
    let pred := decide (r.get F.FUS_CFG_PRED_COUNT ≤ f.predFails)
    let why : RefReason := if t.early != .none then t.early else if t.late != .none then t.late else if pred then .prediction else .none
    match f.ref with
    | .accepted => if why == .none then d else setRefState r t.id .rejected why why.code d
    | .rejected =>
      if why != .none then modFus t.id (fun f => { f with passAt := none, reason := if f.reason == .probation then why else f.reason }) d
      else
        let a := f.passAt.getD cut
        if nsOf32 (r.f32 F.FUS_RECOVER_TIME_V) ≤ cut - a then setRefState r t.id .accepted .none 0 d
        else modFus t.id (fun f => { f with passAt := some a }) d
    | _ => d

/-- The first references are accepted when none is: each that passes freeze and variance [07 R217]. -/
def acceptFirst (r : Regs) (ts : List RefTest) (d : Dev) : Dev :=
  if ts.any fun (t : RefTest) => (d.fsrc t.id).ref == .accepted then d
  else ts.foldl (fun d (t : RefTest) =>
    if t.cand.isSome && t.early == .none && (d.fsrc t.id).ref == .rejected then setRefState r t.id .accepted .none 0 d else d) d

/-- The quality tests of a cut [07 R215 to R218]; none while REFTEST is unplaced [10 R295]. -/
def qualityTests (r : Regs) (cut : Nat) (d : Dev) : Dev :=
  let d := d.descr.sources.foldl (fun d s => refPresence r s d) d
  if (d.job 1).tiles.isEmpty then d
  else
    let ids := (d.descr.sources.filter fun (s : SourceRec) => isRef d s && ((d.fsrc s.id).ref == .accepted || (d.fsrc s.id).ref == .rejected)).map fun s => s.id
    let (d, ts) := ids.foldl (fun (a : Dev × List RefTest) i => let (d, t) := testEarly r cut i a.1; (d, a.2 ++ [t])) (d, [])
    let (d, ts) := testLate r ts d
    let cand := ts.filterMap fun (t : RefTest) => if t.early == .none then t.cand.map fun c => (t.id, c) else none
    let d := if diverged r cut ids d && !cand.isEmpty then resetFilter r cand d else d
    ranJob r 1 (acceptFirst r ts (ts.foldl (fun d t => acceptRule r cut t d) d))

/-- Weights of the ACCEPTED references [07 R219]. -/
def refWeights (r : Regs) (d : Dev) : Dev :=
  let w := fun (i : Nat) =>
    match (d.fsrc i).latest with
    | some x => let s := sigmaMeas r d x; F64.one.div (s.mul s)
    | none => F64.zero
  let acc := (List.range 32).filter fun i => (d.fsrc i).ref == .accepted
  let total := vSum (acc.map w)
  { d with fus := { d.fus with srcs := mapI (fun i (f : FusSrc) =>
      { f with weight := if acc.contains i && !total.isZero then ((w i).div total).to32 else F32.zero }) d.fus.srcs } }

/-- KIND_LOST of each sensor kind [07 R213]. -/
def kindsLost (r : Regs) (d : Dev) : Dev :=
  foldN 7 (fun k d =>
    let l := d.descr.sources.filter fun (s : SourceRec) => decide (s.object = 0) && decide ((d.sensorOf s).kind = k)
    let lost := !l.isEmpty && l.all fun (s : SourceRec) => absentSrc d s.id || (d.fsrc s.id).ref == .rejected
    let was := bit d.fus.kindLost k
    let d := { d with fus := { d.fus with kindLost := setBit d.fus.kindLost k lost } }
    if lost && !was then record r .kindLost { p0 := k } (raise 9 3 d) else d) d

/-! ### Bookkeeping of fused records -/

/-- A measurement joins the log; when the log evicts one of a held interval, that interval and all earlier ones leave the window [07 R221]. (log 92) -/
def logMeas (m : Meas) (d : Dev) : Dev :=
  let l := m :: d.fus.log
  if l.length ≤ 32768 then { d with fus := { d.fus with log := l } }
  else
    match l.getLast? with
    | some x =>
      let held := d.fus.snaps.any fun (s : Snapshot) => decide (s.at_ ≤ x.tf)
      { d with fus := { d.fus with
          log := l.dropLast, evict := if held then wrapInc 16 d.fus.evict else d.fus.evict
          snaps := d.fus.snaps.filter fun (s : Snapshot) => decide (x.tf < s.at_) } }
    | none => d

/-- What a fused or refused measurement of object 0 leaves behind [07 R204 R207 R216]. -/
def ownFused (r : Regs) (cut : Nat) (f : Fused) (d : Dev) : Dev :=
  let i := f.m.r.id
  let c := f.m.r.cls
  let d := if !(c.isPos) then d
    else if f.pass then modFus i (fun x => { x with predFails := 0, predAt := none }) d
    else modFus i (fun x => { x with
      predFails := min 255 (x.predFails + 1)
      predAt := if x.predFails + 1 = r.get F.FUS_CFG_PRED_COUNT then some cut else x.predAt }) d
  if !f.fused then d
  else
    let new := !(bit d.fus.refMask i)
    let d := logMeas f.m (modFus i (fun x => { x with fused := wrapInc 16 x.fused, fusedAt := some cut }) d)
    { d with fus := { d.fus with
        refMask := setBit d.fus.refMask i true, nref := if c.isPos && new then d.fus.nref + 1 else d.fus.nref
        posAt := if c.isPos then cut else d.fus.posAt
        hdgAt := if c == .heading || c == .attitude then some cut else d.fus.hdgAt
        velAt := if c == .velEarth || c == .velBody then some cut else d.fus.velAt } }

/-- A record may be fused under the states in force: used, not voted out, and a reference ACCEPTED [07 R215 R220]. (log 92) -/
def mayFuse (r : Regs) (d : Dev) (i : Nat) : Bool :=
  r.bit F.FUS_SRC_CFG_USE i && !((d.fsrc i).voteOut) && !((d.fsrc i).suspect) &&
    (match (d.fsrc i).ref with | .accepted | .notRef => true | _ => false)

/-- A record too old to rewind [07 R222]. (log 92) -/
def lateDrop (r : Regs) (cut : Nat) (m : Meas) (d : Dev) : Dev :=
  let d := { d with fus := { d.fus with lateDrop := wrapInc 16 d.fus.lateDrop, lateSrc := m.r.id } }
  record r .srcLateDrop { p0 := m.r.id, p1 := min 65535 ((cut - m.tf) / 1000000) } (raise 9 6 d)

/-- Depth of a rerun from the snapshot at or before an instant: the intervals from it to the present cut, none outside the window [07 R198]. -/
def depthOf (d : Dev) (cut t : Nat) : Option (Nat × Nat) :=
  let before := d.fus.snaps.filter fun (s : Snapshot) => decide (s.at_ < cut)
  (before.findIdx? fun (s : Snapshot) => decide (s.at_ ≤ t)).map fun k => (k + 1, (at' before k).at_)

/-- Late records split into those inside the window and those dropped. -/
def inWindow (r : Regs) (cut : Nat) (l : List Meas) (d : Dev) : Dev × List Meas :=
  l.foldl (fun (a : Dev × List Meas) m =>
    match depthOf a.1 cut m.tf with
    | some _ => (a.1, a.2 ++ [m])
    | none => (lateDrop r cut m a.1, a.2)) (d, [])

/-- The rerun that late records of an object need, from the earliest snapshot among them [07 R223 R225]. -/
def rerunFor (d : Dev) (cut o : Nat) (l : List Meas) : Option Rerun :=
  match l with
  | [] => none
  | m :: t =>
    let first := t.foldl (fun a (x : Meas) => min a x.tf) m.tf
    (depthOf d cut first).map fun (k, at_) =>
      let n := d.fus.log.countP fun (x : Meas) => decide (at_ ≤ x.tf) && decide (d.objectOf x = o)
      { obj := o, depth := k, from_ := at_, cost := if o = 0 then 4 * k + 2 * (n + l.length) else 2 * (n + l.length), started := d.now, late := l }

/-! ### Object 0 -/

/-- Positions of references follow; validity flags with VALID_LOST [07 R207 R228]. -/
def ownFlags (r : Regs) (cut : Nat) (d : Dev) : Dev :=
  let e := d.fus.own
  let sn := ((mc e.p 0 0).add (F64.two.mul (mc e.p 0 9))).add (mc e.p 9 9)
  let se := ((mc e.p 1 1).add (F64.two.mul (mc e.p 1 11))).add (mc e.p 11 11)
  let sh := (((mc e.p 2 2).add (F64.two.mul (mc e.p 2 13))).add (mc e.p 13 13)).sqrt
  let pos := e.init && ((sn.add se).sqrt).le (r.f64 F.FUS_POS_SIG_MAX_V)
  let fresh := match d.fus.hdgAt with | some t => decide (cut ≤ t + 2 * nsPerSec) | none => false
  let hdg := e.init && fresh && sh.le (r.f64 F.FUS_HDG_SIG_MAX_V)
  let far := e.init && (F64.ofInt 50000).lt (hypot (vc e.x 0) (vc e.x 1))
  let lost := (d.fus.posValid && !pos) || (d.fus.hdgValid && !hdg)
  raiseIf lost 9 9 { d with fus := { d.fus with posValid := pos, hdgValid := hdg, far := far } }

/-- The ordinary update of object 0, from the newest snapshot to the cut, and the start of a rerun [07 R198 R223 R225]. -/
def ownCut (r : Regs) (cut : Nat) (l : List Meas) (d : Dev) : Dev :=
  if !(d.fus.own.init) then initOwn r d
  else
    let l := l.filter fun (m : Meas) => m.r.usable && (m.r.cls.isPos == false || (d.fsrc m.r.id).ref == .accepted || (d.fsrc m.r.id).ref == .rejected)
    match d.fus.snaps with
    | [] => d
    | s :: _ =>
      let now := l.filter fun (m : Meas) => decide (s.at_ ≤ m.tf)
      let late := l.filter fun (m : Meas) => decide (m.tf < s.at_) && mayFuse r d m.r.id
      let (e, out) := fuseOver (ownProp r d s) (ownUpdate r d (mayFuse r d)) s.at_ cut now s.own
      let e := { e with x := modAt e.x 2 wrapPi }
      let d := out.foldl (fun d f => ownFused r cut f d) { d with fus := { d.fus with own := e } }
      let (d, late) := inWindow r cut late d
      if late.isEmpty then d
      else if d.fus.rerun.isSome then { d with fus := { d.fus with waiting := d.fus.waiting ++ late } }
      else { d with fus := { d.fus with rerun := rerunFor d cut 0 late } }

/-! ### Targets [07 R208 R209 R210] -/

/-- Position that a record gives of a target, with the noise that object 0 adds [07 R209]. -/
def tgtNE (r : Regs) (d : Dev) (m : Meas) : Option ((F64 × F64) × (F64 × F64 × F64)) :=
  let z := F64.zero
  match m.r.cls with
  | .position => if d.fus.orgSet then some (d.absNE m.r, (z, z, z)) else none
  | .taut | .posref =>
    let o := d.ownAt r m.tf
    if !o.init then none
    else
      let a := sparse 18 [(0, F64.one), (9, F64.one)]
      let b := sparse 18 [(1, F64.one), (11, F64.one)]
      let v := m.r.relNE
      some ((((vc o.x 0).add (vc o.x 9)).add v.1, ((vc o.x 1).add (vc o.x 11)).add v.2), (vDot a (mVec o.p a), vDot a (mVec o.p b), vDot b (mVec o.p b)))
  | _ => none

/-- One measurement of a target [07 R205 R209 R216]. -/
def tgtUpdate (r : Regs) (d : Dev) (m : Meas) (e : Est) : Est × Bool × Bool :=
  let s := sigmaMeas r d m.r
  let v := s.mul s
  if !(r.bit F.FUS_SRC_CFG_USE m.r.id) || (d.fsrc m.r.id).voteOut then (e, false, true)
  else if m.r.cls.isPos then
    match tgtNE r d m with
    | some (z, nn, ne, ee) =>
      let a : Scalar := ⟨fun x => z.1.sub (vc x 0), fun _ => sparse 7 [(0, F64.one)], v.add nn⟩
      let b : Scalar := ⟨fun x => z.2.sub (vc x 1), fun _ => sparse 7 [(1, F64.one)], v.add ee⟩
      if (gateSq e a b ne).le (r.f64 F.FUS_PRED_GATE_V) then ((e.update a).update b, true, true) else (e, false, false)
    | none => (e, false, true)
  else if m.r.cls == .heading || m.r.cls == .attitude then
    (e.update ⟨fun x => wrapPi ((m.r.val 0).sub (vc x 4)), fun _ => sparse 7 [(4, F64.one)], v⟩, true, true)
  else (e, false, true)

/-- A target is initialised at its first valid position; the variances of ψ, r and a are open (log 5) [07 R210]. (log 92) -/
def tgtInit (r : Regs) (o : Nat) (l : List Meas) (d : Dev) : Dev :=
  match (measSort l).filterMap fun (m : Meas) => if m.r.usable then (tgtNE r d m).map fun z => (m, z) else none with
  | [] => d
  | (m, z, nn, _, ee) :: _ =>
    let s := sigmaMeas r d m.r
    let v := s.mul s
    let open_ := fun (k : Nat) => (Config.freeF64 d.free (0x07210 + k)).abs
    let e : Est := { init := true, x := [z.1, z.2, F64.zero, F64.zero, F64.zero, F64.zero, F64.zero],
                     p := mDiag [v.add nn, v.add ee, F64.ofInt 25, F64.ofInt 25, open_ 0, open_ 1, open_ 2] }
    modTgt o (fun t => { t with valid := true, posAt := some d.tb0, hdgSet := false, fromCourse := false, mask := setBit t.mask m.r.id true }) (setTgtEst o e d.takeFree)

/-- What a fused measurement of a target leaves behind [07 R210 R227]. -/
def tgtFused (cut o : Nat) (f : Fused) (d : Dev) : Dev :=
  let i := f.m.r.id
  let d := if !(f.m.r.cls.isPos) then d else modFus i (fun x => { x with predFails := if f.pass then 0 else min 255 (x.predFails + 1) }) d
  if !f.fused then d
  else
    let d := logMeas f.m (modFus i (fun x => { x with fused := wrapInc 16 x.fused, fusedAt := some cut }) d)
    let pos := f.m.r.cls.isPos
    modTgt o (fun t => { t with
      mask := setBit t.mask i true, posAt := if pos then some cut else t.posAt, valid := t.valid || pos
      hdgAt := if pos then t.hdgAt else some cut }) d

/-- The first heading sets ψ; without a heading source ψ takes the course from 0.5 m/s [07 R210]. -/
def tgtHeading (r : Regs) (o : Nat) (l : List Meas) (d : Dev) : Dev :=
  let e := d.tgtEst o
  let hs := d.descr.sources.any fun (s : SourceRec) => decide (s.object = o) && (let c := classOf s.format (d.sensorOf s).kind; c == .heading || c == .attitude)
  if hs then
    match l.find? fun (m : Meas) => m.r.cls == .heading || m.r.cls == .attitude with
    | some m =>
      if (d.tgt o).hdgSet then d
      else
        let s := sigmaMeas r d m.r
        modTgt o (fun t => { t with hdgSet := true, fromCourse := false }) (setTgtEst o { e with x := modAt e.x 4 (fun _ => wrapPi (m.r.val 0)), p := setVar 4 (s.mul s) e.p } d)
    | none => d
  else if F64.half.le (hypot (vc e.x 2) (vc e.x 3)) then
    modTgt o (fun t => { t with fromCourse := true, hdgSet := true }) (setTgtEst o { e with x := modAt e.x 4 fun _ => Config.atan2 (vc e.x 3) (vc e.x 2) } d)
  else d

/-- A target's cut: initialisation, ordinary update and the start of its own rerun [07 R198 R209 R210]. -/
def tgtCut (r : Regs) (cut : Nat) (all : List Meas) (o : Nat) (d : Dev) : Dev :=
  let l := all.filter fun (m : Meas) => decide (d.objectOf m = o) && m.r.usable
  if (d.job (7 + o)).tiles.isEmpty then d
  else if !((d.tgtEst o).init) then tgtHeading r o l (tgtInit r o l d)
  else
    match d.fus.snaps with
    | [] => d
    | s :: _ =>
      let d := tgtHeading r o l d
      let now := l.filter fun (m : Meas) => decide (s.at_ ≤ m.tf)
      let late := l.filter fun (m : Meas) => decide (m.tf < s.at_)
      let (e, out) := fuseOver (fun a b e => (tgtModel r d o).propagate d.mde.cyc.periodNs a b e) (tgtUpdate r d) s.at_ cut now (d.tgtEst o)
      let d := out.foldl (fun d f => tgtFused cut o f d) (setTgtEst o { e with x := modAt e.x 4 wrapPi } d)
      let (d, late) := inWindow r cut late d
      if late.isEmpty then ranJob r (7 + o) d
      else if (d.tgt o).rerun.isSome then modTgt o (fun t => { t with waiting := t.waiting ++ late }) (ranJob r (7 + o) d)
      else let rr := rerunFor d cut o late; modTgt o (fun t => { t with rerun := rr }) (ranJob r (7 + o) d)

/-! ### The cut -/

/-- Quality-test and vote state as a snapshot keeps it. -/
def qualSnap (d : Dev) : QualSnap :=
  { refs := d.fus.srcs.map fun (f : FusSrc) => f.ref, voteOut := d.fus.srcs.map fun (f : FusSrc) => f.voteOut, suspect := d.fus.srcs.map fun (f : FusSrc) => f.suspect }

/-- The snapshot of a cut enters the rewind buffer [07 R221]. -/
def pushSnapshot (cut : Nat) (d : Dev) : Dev :=
  let s : Snapshot := { at_ := cut, own := d.fus.own, tgts := d.fus.tgts, inputs := d.fus.inputs, qual := qualSnap d }
  let l := (s :: d.fus.snaps).take 256
  { d with fus := { d.fus with snaps := l, span := l.length } }

/-- Fusion's work from a cut: records taken up, votes, tests, ordinary updates and the start of reruns; tile runs stop while the tile clock is unlocked [01 R18, 07 R198, 18 R534]. -/
def fusionCut (r : Regs) (d : Dev) : Dev :=
  let cut := d.tb0
  let (d, ms) := takeUpAll r cut d
  let d := foldN 16 (fun g d => voteGroup r cut g d) d
  if !(d.clk.lock.testBit 1) then d
  else
    let d := qualityTests r cut d
    let d := d.targets.foldl (fun d o => tgtCut r cut ms o d) d
    let own := ms.filter fun (m : Meas) => decide (d.objectOf m = 0)
    let d := if (d.job 0).tiles.isEmpty then d else ranJob r 0 (ownCut r cut own d)
    ownFlags r cut (kindsLost r (refWeights r (pushSnapshot cut d)))

/-! ### Reruns [07 R223 to R226] -/

/-- The intervals of the rewind buffer from an instant on, oldest first, each with the instant at which it ends. -/
def intervalsFrom (d : Dev) (from_ : Nat) : List (Snapshot × Nat) :=
  let l := (d.fus.snaps.filter fun (s : Snapshot) => decide (from_ ≤ s.at_)).reverse
  l.zip ((l.drop 1).map fun (s : Snapshot) => s.at_)

/-- A logged record was fusable under the states of its own time [07 R224]. -/
def QualSnap.may (q : QualSnap) (i : Nat) : Bool :=
  !(q.voteOut.getD i false) && !(q.suspect.getD i false) && (match q.refs.getD i .notRef with | .accepted | .notRef => true | _ => false)

/-- A snapshot's estimate replaced, found by its cut. -/
def putSnapOwn (at_ : Nat) (e : Est) (d : Dev) : Dev :=
  { d with fus := { d.fus with snaps := d.fus.snaps.map fun (s : Snapshot) => if s.at_ = at_ then { s with own := e } else s } }

/-- A snapshot's target estimate replaced. -/
def putSnapTgt (o at_ : Nat) (e : Est) (d : Dev) : Dev :=
  { d with fus := { d.fus with snaps := d.fus.snaps.map fun (s : Snapshot) => if s.at_ = at_ then { s with tgts := modAt s.tgts (o - 1) fun _ => e } else s } }

/-- The replay of object 0 through every held interval from the rerun's snapshot: the new snapshots, the present estimate, and what became of the late records [07 R223]. -/
def replayOwn (r : Regs) (x : Rerun) (d : Dev) : Dev × List Fused :=
  match d.fus.snaps.find? fun (s : Snapshot) => s.at_ == x.from_ with
  | none => (d, [])
  | some s0 =>
    let (d, e, out) := (intervalsFrom d x.from_).foldl (fun (a : Dev × Est × List Fused) iv =>
      let (s, t1) := iv
      let inI := fun (m : Meas) => decide (s.at_ ≤ m.tf) && decide (m.tf < t1)
      let logged := a.1.fus.log.filter fun (m : Meas) => inI m && decide (a.1.objectOf m = 0) && s.qual.may m.r.id
      let late := x.late.filter inI
      let (e, out) := fuseOver (ownProp r a.1 s) (ownUpdate r a.1 fun _ => true) s.at_ t1 (logged ++ late) a.2.1
      let e := { e with x := modAt e.x 2 wrapPi }
      (putSnapOwn t1 e a.1, e, a.2.2 ++ out.filter fun (f : Fused) => x.late.any fun (m : Meas) => decide (m = f.m))) (d, s0.own, [])
    ({ d with fus := { d.fus with own := e } }, out)

/-- The replay of a target [07 R209 R223]. -/
def replayTgt (r : Regs) (o : Nat) (x : Rerun) (d : Dev) : Dev × List Fused :=
  match d.fus.snaps.find? fun (s : Snapshot) => s.at_ == x.from_ with
  | none => (d, [])
  | some s0 =>
    let e0 := at' s0.tgts (o - 1)
    if !e0.init then (d, [])
    else
      let (d, e, out) := (intervalsFrom d x.from_).foldl (fun (a : Dev × Est × List Fused) iv =>
        let (s, t1) := iv
        let inI := fun (m : Meas) => decide (s.at_ ≤ m.tf) && decide (m.tf < t1)
        let logged := a.1.fus.log.filter fun (m : Meas) => inI m && decide (a.1.objectOf m = o)
        let late := x.late.filter inI
        let (e, out) := fuseOver (fun p q e => (tgtModel r a.1 o).propagate a.1.mde.cyc.periodNs p q e) (tgtUpdate r a.1) s.at_ t1 (logged ++ late) a.2.1
        (putSnapTgt o t1 e a.1, e, a.2.2 ++ out.filter fun (f : Fused) => x.late.any fun (m : Meas) => decide (m = f.m))) (d, e0, [])
      (setTgtEst o e d, out)

/-- RERUN_DONE of object 0: the estimate is replaced, and the next rerun starts from what the waiting records need [07 R223 R225 R226]. -/
def ownRerunDone (r : Regs) (x : Rerun) (d : Dev) : Dev :=
  let cut := d.mde.cyc.cutTb0
  let (d, out) := replayOwn r x d
  let d := out.foldl (fun d f => ownFused r cut f d) d
  let d := { d with fus := { d.fus with
    rerun := none, rewound := max d.fus.rewound x.depth, lastDepth := x.depth, maxDepth := max d.fus.maxDepth x.depth } }
  let (d, w) := inWindow r cut d.fus.waiting d
  ownFlags r cut { d with fus := { d.fus with waiting := [], rerun := rerunFor d cut 0 w } }

/-- RERUN_DONE of a target. -/
def tgtRerunDone (r : Regs) (o : Nat) (x : Rerun) (d : Dev) : Dev :=
  let cut := d.mde.cyc.cutTb0
  let (d, out) := replayTgt r o x d
  let d := out.foldl (fun d f => tgtFused cut o f d) d
  let (d, w) := inWindow r cut (d.tgt o).waiting d
  let next := rerunFor d cut o w
  modTgt o (fun t => { t with rerun := next, waiting := [], rewound := max t.rewound x.depth }) d

/-- RERUN_DONE: a rerun of an object has finished [07 R223]. -/
def rerunDone (obj : Nat) (r : Regs) (d : Dev) : Dev :=
  if !(d.mde.cyc.running) || !(d.clk.lock.testBit 1) then d
  else if obj = 0 then (match d.fus.rerun with | some x => ownRerunDone r x d | none => d)
  else match (d.tgt obj).rerun with | some x => tgtRerunDone r obj x d | none => d

/-- RERUN_DONE [07 R223]. -/
def execRerunDone (obj : Nat) (s : State) : Host.Outcome State Fault Refusal := onDev s (rerunDone obj)

/-- TGT_LOST: no position update of a target for FUS_TGT_TIMEOUT [07 R210]. (log 93) -/
def tgtLost (obj : Nat) (r : Regs) (d : Dev) : Dev :=
  let t := d.tgt obj
  let due := match t.posAt with | some a => decide (a + nsOf32 (r.f32 F.FUS_TGT_TIMEOUT_TGT_TIMEOUT obj) ≤ d.tb0) | none => true
  if decide (1 ≤ obj) && t.valid && due then raise 9 10 (modTgt obj (fun t => { t with valid := false }) d) else d

/-- TGT_LOST [07 R210]. -/
def execTgtLost (obj : Nat) (s : State) : Host.Outcome State Fault Refusal := onDev s (tgtLost obj)

/-! ### State records [07 R227] -/

/-- A binary64 as a word of binary32. -/
def w32 (x : F64) : Word := x.to32.bits
/-- A number as a word. -/
def wNat (n : Nat) : Word := BitVec.ofNat 32 n

/-- The first fourteen words of a record. -/
def recHead (obj kind flags depth nref out seq gen : Nat) (n e h sn se sh : F64) : List Word :=
  [wNat (obj + 256 * kind + 65536 * flags), wNat (depth % 65536 + 65536 * min 255 nref), wNat (out % 2 ^ 32), wNat (out / 2 ^ 32 % 2 ^ 32), wNat seq, wNat gen] ++
    f64Words n ++ f64Words e ++ [w32 h, w32 sn, w32 se, w32 sh]

/-- TIME_SUSPECT of any source of an object. -/
def objSuspect (d : Dev) (o : Nat) : Bool := d.descr.sources.any fun (s : SourceRec) => decide (s.object = o) && (d.fsrc s.id).suspect

/-- State record of object 0, its estimate brought to the output instant [07 R227]. -/
def ownRecord (_ : Regs) (d : Dev) (e : Est) : List Word :=
  let x := e.x
  let c := Config.cos (vc x 2)
  let s := Config.sin (vc x 2)
  let sn := (((mc e.p 0 0).add (F64.two.mul (mc e.p 0 9))).add (mc e.p 9 9)).sqrt
  let se := (((mc e.p 1 1).add (F64.two.mul (mc e.p 1 11))).add (mc e.p 11 11)).sqrt
  let sh := (((mc e.p 2 2).add (F64.two.mul (mc e.p 2 13))).add (mc e.p 13 13)).sqrt
  let vel := e.init && ((F64.max (mc e.p 3 3).sqrt (mc e.p 4 4).sqrt)).le (frac 1 5)
  let att := votedValue d .motion
  let wind := votedValue d .wind
  let dr := decide (d.fus.posAt + nsPerSec ≤ d.tb0)
  let fl := bitMap [e.init, d.fus.posValid, d.fus.hdgValid, vel, decide (d.fus.rewound ≠ 0), dr, d.fus.disagree, objSuspect d 0,
    att.isSome, wind.isSome, d.fus.rerun.isSome, bit d.fus.orgMoved 0]
  let m := fun (i : Nat) => (att.getD []).getD i F32.zero
  let w := fun (i : Nat) => (wind.getD []).getD i F32.zero
  recHead 0 0 fl d.fus.rewound d.fus.nref d.tb0 d.fus.seq d.fus.orgGen ((vc x 0).add (vc x 9)) ((vc x 1).add (vc x 11)) (wrapPi ((vc x 2).add (vc x 13))) sn se sh ++
    [w32 (((vc x 3).add (c.mul (vc x 16))).add (s.mul (vc x 17))), w32 (((vc x 4).sub (s.mul (vc x 16))).add (c.mul (vc x 17))), w32 (vc x 5),
     w32 (vc x 6), w32 (vc x 7), w32 (vc x 8), w32 (vc x 16), w32 (vc x 17), w32 (vc x 15), w32 (vc x 9), w32 (vc x 11), w32 (vc x 13),
     (m 0).bits, (m 1).bits, (m 2).bits, (w 0).bits, (w 1).bits, wNat d.fus.refMask]

/-- HDG_VALID of a target [07 R210]. -/
def tgtHdgValid (r : Regs) (d : Dev) (o : Nat) : Bool :=
  let t := d.tgt o
  let e := d.tgtEst o
  let fresh := match t.hdgAt with | some a => decide (d.tb0 < a + nsOf32 (r.f32 F.FUS_TGT_TIMEOUT_TGT_TIMEOUT o)) | none => false
  e.init && (fresh || (t.fromCourse && F64.half.le (hypot (vc e.x 2) (vc e.x 3))))

/-- State record of a target [07 R227]. -/
def tgtRecord (r : Regs) (d : Dev) (o : Nat) (e own : Est) : List Word :=
  let t := d.tgt o
  let x := e.x
  let c := Config.cos (vc x 4)
  let s := Config.sin (vc x 4)
  let dn := ((vc own.x 0).add (vc own.x 9)).sub (vc x 0)
  let de := ((vc own.x 1).add (vc own.x 11)).sub (vc x 1)
  let fl := bitMap [t.valid, t.valid, tgtHdgValid r d o, t.valid, decide (t.rewound ≠ 0), false, false, objSuspect d o, false, false, t.rerun.isSome,
    bit d.fus.orgMoved o]
  let age := match t.posAt with | some a => F32.ofRatio (d.tb0 - a : Nat) nsPerSec | none => F32.zero
  let z := wNat 0
  recHead o 1 fl t.rewound (popcount 32 t.mask) d.tb0 d.fus.seq d.fus.orgGen (vc x 0) (vc x 1) (wrapPi (vc x 4)) (mc e.p 0 0).sqrt (mc e.p 1 1).sqrt (mc e.p 4 4).sqrt ++
    [w32 (vc x 2), w32 (vc x 3), w32 (vc x 5), w32 (vc x 6), w32 (mc e.p 2 2).sqrt, w32 (mc e.p 3 3).sqrt,
     w32 ((dn.mul c).add (de.mul s)), w32 ((de.mul c).sub (dn.mul s)), w32 (wrapPi (((vc own.x 2).add (vc own.x 13)).sub (vc x 4))), age.bits] ++
    List.replicate 7 z ++ [wNat t.mask]

/-- Object 0 brought to the output instant. -/
def ownNow (r : Regs) (d : Dev) : Est :=
  match d.fus.snaps with
  | s :: _ => ownProp r d s s.at_ d.tb0 d.fus.own
  | [] => d.fus.own

/-- A record is written to the latest-cycle window and to the ring [07 R227]. -/
def putRecord (o : Nat) (w : List Word) (d : Dev) : Dev :=
  let slot := d.fus.seq % 64
  let old := match d.fus.ring.find? (fun (e : Nat × List (List Word)) => e.1 == slot) with | some e => e.2 | none => List.replicate 8 []
  { d with fus := { d.fus with
      recs := modAt d.fus.recs o fun _ => w
      ring := ((slot, modAt old o fun _ => w) :: d.fus.ring.filter fun (e : Nat × List (List Word)) => !(e.1 == slot)).take 64
      orgMoved := setBit d.fus.orgMoved o false } }

/-- The attitude line's entry of this cycle: heading and yaw rate of object 0 at the cut, the voted roll and pitch with the rates of their change (log 47) [06 R192, 07 R205]. -/
def pushAttitude (d : Dev) : Dev :=
  match d.fus.snaps with
  | s :: _ =>
    if !(s.own.init) then d
    else
      let m := (votedValue d .motion).getD []
      let p := m.getD 1 F32.zero
      let rl := m.getD 0 F32.zero
      let rate := fun (new : F32) (old : AttEntry → F32) =>
        match d.src.att with
        | a :: _ => if a.at_ < s.at_ then (new.sub (old a)).div (F32.ofRatio (s.at_ - a.at_ : Nat) nsPerSec) else F32.zero
        | [] => F32.zero
      let e : AttEntry := {
        at_ := s.at_, h := (wrapPi ((vc s.own.x 2).add (vc s.own.x 13))).to32, p := p, r := rl
        hd := ((vc s.own.x 5).add (vc s.own.x 14)).to32, pd := rate p fun a => a.p, rd := rate rl fun a => a.r }
      { d with src := { d.src with att := (e :: d.src.att).take 256 } }
  | [] => d

/-- State records of a cycle: object 0 and every target whose update is there [07 R227, 01 R20, 10 R302]. -/
def fusionOutput (r : Regs) (d : Dev) : Dev :=
  let on := d.clk.lock.testBit 1
  let own := ownNow r d
  let d := raiseIf (d.fus.rerun.isSome || d.fus.tgt.any fun (t : TgtSt) => t.rerun.isSome) 9 7 d
  let ran := on && !((d.job 0).tiles.isEmpty) && !((d.job 0).lost)
  let d := if ran then
      let d := putRecord 0 (ownRecord r d own) d
      { d with fus := { d.fus with rewound := 0, nref := 0, refMask := 0 } }
    else d
  let d := d.targets.foldl (fun d o =>
    if on && !((d.job (7 + o)).tiles.isEmpty) && !((d.job (7 + o)).lost) then
      let e := (tgtModel r d o).propagate d.mde.cyc.periodNs (match d.fus.snaps with | s :: _ => s.at_ | [] => d.tb0) d.tb0 (d.tgtEst o)
      modTgt o (fun t => { t with rewound := 0, mask := 0 }) (putRecord o (tgtRecord r d o e own) d)
    else d) d
  pushAttitude d

/-- Inputs of the own-vessel model change at a handover; the interval's snapshot keeps them for reruns [07 R203]. -/
def setInputs (i : FusInputs) (d : Dev) : Dev :=
  { d with fus := { d.fus with
      inputs := i, snaps := match d.fus.snaps with | s :: t => { s with next := some (d.tb0, i) } :: t | [] => [] } }

end Sys2Proof.Machine
end

