-- ==== Sys2Proof/Machine/Profile.lean ====
section
/-! DEFINITION. The set-point profile generator: two axes with limited speed, acceleration, deceleration and jerk [03 R82 to R90]. The state after a step is the reference at the cut of the step's cycle; between cuts each axis follows segments of constant jerk (log 41). -/

namespace Sys2Proof.Machine

/-! ### One axis: segments of constant jerk -/

/-- Distance, speed and acceleration. -/
structure Run where
  /-- distance run -/
  s : F64 := F64.zero
  /-- speed -/
  v : F64 := F64.zero
  /-- acceleration -/
  a : F64 := F64.zero
  /-- time left -/
  t : F64 := F64.zero

/-- A half. -/
def halfOf (x : F64) : F64 := x.div F64.two
/-- Square. -/
def sq (x : F64) : F64 := x.mul x
/-- Cube. -/
def cube (x : F64) : F64 := (x.mul x).mul x

/-- The change of speed from (v, a) to (goal, 0): a ramp of acceleration to a peak within A or D, a hold, and a ramp to 0; segments of jerk and time [03 R86 R87]. An acceleration above its limit comes down at the jerk limit. (log 41) -/
def velPlan (v a goal acc dec j : F64) : List (F64 × F64) :=
  let wind := v.add (halfOf ((a.mul a.abs).div j))
  let up := wind.le goal
  let l := if up then acc else dec
  let b := if up then a else a.neg
  let dv := if up then goal.sub v else v.sub goal
  let k := if up then j else j.neg
  if l.lt b then
    [(k.neg, (b.sub l).div j), (F64.zero, F64.max F64.zero ((dv.sub (halfOf ((sq b).div j))).div l)), (k.neg, l.div j)]
  else
    let p2 := F64.max F64.zero ((j.mul dv).add (halfOf (sq b)))
    if p2.le (sq l) then
      let p := p2.sqrt
      [(k, F64.max F64.zero ((p.sub b).div j)), (k.neg, p.div j)]
    else
      let ramps := ((F64.two.mul (sq l)).sub (sq b)).div (F64.two.mul j)
      [(k, (l.sub b).div j), (F64.zero, F64.max F64.zero ((dv.sub ramps).div l)), (k.neg, l.div j)]

/-- One segment, for as much of the time left as it takes. -/
def Run.seg (x : Run) (e : F64 × F64) : Run :=
  let t := F64.min x.t e.2
  { s := ((x.s.add (x.v.mul t)).add (halfOf (x.a.mul (sq t)))).add ((e.1.mul (cube t)).div (F64.ofInt 6))
    v := (x.v.add (x.a.mul t)).add (halfOf (e.1.mul (sq t)))
    a := x.a.add (e.1.mul t)
    t := x.t.sub t }

/-- Time of a plan. -/
def planTime (l : List (F64 × F64)) : F64 := l.foldl (fun t e => t.add e.2) F64.zero

/-- A plan followed for a time; at its end the speed is the goal and the acceleration 0. (log 41) -/
def runPlan (l : List (F64 × F64)) (v a goal t : F64) : Run :=
  let x := l.foldl Run.seg { v := v, a := a, t := t }
  if (planTime l).le t then { x with s := x.s.add (goal.mul x.t), v := goal, a := F64.zero, t := F64.zero } else x

/-- Distance of the whole plan that brings (v, a) to rest. -/
def restDist (v a d j : F64) : F64 :=
  let l := velPlan v a F64.zero d d j
  (runPlan l v a F64.zero (planTime l)).s

/-- Stopping distance of R85. -/
def stopDist (v a d j : F64) : F64 :=
  if a.lt F64.zero then restDist v a d j
  else
    let w := ((v.mul a).div j).add ((cube a).div (F64.ofInt 3 |>.mul (sq j)))
    let u := v.add (halfOf ((sq a).div j))
    let base := if ((sq d).div j).le u then (halfOf ((sq u).div d)).add (halfOf ((u.mul d).div j)) else u.mul (u.div j).sqrt
    w.add base

/-- The greatest deceleration of the ramp that rests exactly after `rem`, at most `d` [03 R86]. -/
def rampFor (v a rem d j : F64) : F64 :=
  if a.lt F64.zero then
    (foldN 60 (fun _ (e : F64 × F64) =>
      let m := halfOf (e.1.add e.2)
      if (restDist v a m j).le rem then (e.1, m) else (m, e.2)) (F64.zero, d)).2
  else
    let u := v.add (halfOf ((sq a).div j))
    let r1 := rem.sub (((v.mul a).div j).add ((cube a).div (F64.ofInt 3 |>.mul (sq j))))
    let disc := F64.max F64.zero ((sq r1).sub ((cube u).div j))
    if u.le F64.zero then d else F64.min d ((sq u).div (r1.add disc.sqrt))

/-! ### One axis over a cycle -/

/-- The axis's plan from here on. (log 41) -/
def Axis.plan (x : Axis) : List (F64 × F64) :=
  if x.phase == .decel then velPlan x.v x.a F64.zero x.ramp x.ramp x.lim.j else velPlan x.v x.a x.lim.v x.lim.a x.lim.d x.lim.j

/-- One cycle on: the axis, the distance run, and whether it has come to rest at the end of its leg [03 R82 R86]. (log 41) -/
def Axis.advance (t : F64) (x : Axis) : Axis × F64 × Bool :=
  if x.phase == .hold then (x, F64.zero, false)
  else
    let l := x.plan
    let g := if x.phase == .decel then F64.zero else x.lim.v
    let y := runPlan l x.v x.a g t
    if x.phase == .decel && ((planTime l).le t || x.rem.le y.s) then ({ x with v := F64.zero, a := F64.zero, rem := F64.zero }, x.rem, true)
    else ({ x with v := y.v, a := y.a, rem := x.rem.sub y.s }, y.s, false)

/-- Deceleration towards the end of the leg. -/
def Axis.toDecel (x : Axis) : Axis := { x with phase := .decel, ramp := rampFor x.v x.a x.rem x.lim.d x.lim.j }

/-- Deceleration starts at the last cut at which the stopping distance still lies within the distance to go, to 1 nm or 1 nrad [03 R86]. (log 41) -/
def Axis.decide (t : F64) (x : Axis) : Axis :=
  if x.phase != .move then x
  else
    let y := runPlan x.plan x.v x.a x.lim.v t
    let left := x.rem.sub y.s
    if (left.add (frac 1 1000000000)).lt (stopDist y.v y.a x.lim.d x.lim.j) then x.toDecel else x

/-- Committed limits come into use, as far as the move in hand allows [03 R87 R88]. -/
def Axis.takeLimits (c : AxLimits) (x : Axis) : Axis :=
  if x.phase == .hold then { x with lim := c, deferred := false }
  else
    let d := if c.d.lt x.lim.d && (stopDist x.v x.a c.d x.lim.j).le x.rem then c.d else x.lim.d
    let j := if c.j.lt x.lim.j && (stopDist x.v x.a d c.j).le x.rem then c.j else x.lim.j
    let changed := !(d == x.lim.d && j == x.lim.j)
    let y := { x with lim := { v := c.v, a := c.a, d := d, j := j }, deferred := c.d.lt d || c.j.lt j }
    if changed && x.phase == .decel then y.toDecel else y

/-- A new move takes raised limits into use [03 R87]. -/
def Axis.newMove (c : AxLimits) (x : Axis) : Axis := { x with lim := { x.lim with d := F64.max x.lim.d c.d, j := F64.max x.lim.j c.j } }

/-- Distance to the rest point: what is left of the ramp in hand, or the stopping distance [03 R85 R89]. -/
def Axis.toRest (x : Axis) : F64 := if x.phase == .decel then x.rem else stopDist x.v x.a x.lim.d x.lim.j

/-- The axis comes to rest first [03 R89 R90]. -/
def Axis.rest (first : Bool) (x : Axis) : Axis :=
  if x.phase == .decel then { x with restFirst := first }
  else ({ x with rem := x.toRest, restFirst := first } : Axis).toDecel

/-- A leg of a length begins; none when there is nothing to run. -/
def Axis.leg (len : F64) (x : Axis) : Axis :=
  let x := { x with restFirst := false, back := false, rem := len }
  if len.le F64.zero && x.v.isZero && x.a.isZero then { x with phase := .hold } else { x with phase := .move }

/-! ### The heading axis -/

/-- Angle to turn from `h` to `t` in a direction of turn, in [0, 2π). -/
def turnBy (cw : Bool) (h t : F64) : F64 := wrapTwoPi (if cw then t.sub h else h.sub t)

/-- Whether a turn is made clockwise: the shortest way, or as TURN_DIR forces [03 R84]. -/
def clockwise (dir : Nat) (h t : F64) : Bool :=
  match dir with
  | 1 => true
  | 2 => false
  | _ => (turnBy true h t).le F64.pi

/-- One as a turn sign. -/
def turnSign (cw : Bool) : F64 := if cw then F64.one else F64.one.neg

/-! ### The two axes -/

/-- Where the axes start: position, velocity over ground, heading and yaw rate, in the frame of the mode [03 R84]. -/
structure ProfStart where
  /-- north or along -/
  n : F64 := F64.zero
  /-- east or across -/
  e : F64 := F64.zero
  /-- velocity north or along -/
  vn : F64 := F64.zero
  /-- velocity east or across -/
  ve : F64 := F64.zero
  /-- heading -/
  h : F64 := F64.zero
  /-- yaw rate -/
  w : F64 := F64.zero

/-- What the host has committed for the generator. -/
structure ProfCmd where
  /-- linear limits -/
  lin : AxLimits
  /-- heading limits -/
  hdg : AxLimits
  /-- target north or along -/
  n : F64
  /-- target east or across -/
  e : F64
  /-- target heading -/
  h : F64
  /-- TURN_DIR -/
  dir : Nat

/-- A binary32 value as binary64. -/
def Regs.wide (r : Regs) (f : Fd) : F64 := r.f64 f

/-- The commands in force for a mode [03 R80]. -/
def profCmd (r : Regs) (m : Mode) : ProfCmd :=
  let rel := m == .follow
  { lin := { v := r.wide F.MDE_V_MAX_V, a := r.wide F.MDE_A_MAX_V, d := r.wide F.MDE_D_MAX_V, j := r.wide F.MDE_J_MAX_V }
    hdg := { v := r.wide F.MDE_R_MAX_V, a := r.wide F.MDE_RA_MAX_V, d := r.wide F.MDE_RD_MAX_V, j := r.wide F.MDE_RJ_MAX_V }
    n := r.wide (if rel then F.MDE_REL_ALONG_V else F.MDE_SP_NORTH_V)
    e := r.wide (if rel then F.MDE_REL_ACROSS_V else F.MDE_SP_EAST_V)
    h := r.wide (if rel then F.MDE_REL_HEADING_V else F.MDE_SP_HEADING_V)
    dir := r.get F.MDE_SP_CTL_TURN_DIR }

/-- A straight leg of the linear axis to its target. -/
def Profile.runLin (p : Profile) : Profile :=
  let qn := p.tgtN.sub p.refN
  let qe := p.tgtE.sub p.refE
  let l := hypot qn qe
  if l.isZero then { p with lin := p.lin.leg F64.zero } else { p with dirN := qn.div l, dirE := qe.div l, lin := p.lin.leg l }

/-- A turn of the heading axis to its target; a return after an overrun goes the short way [03 R89]. -/
def Profile.runHdg (dir : Nat) (p : Profile) : Profile :=
  let cw := clockwise (if p.hdg.back then 0 else dir) p.refH p.tgtH
  { p with turn := turnSign cw, hdg := p.hdg.leg (turnBy cw p.refH p.tgtH) }

/-- The linear axis one cycle on. -/
def Profile.stepLin (t : F64) (p : Profile) : Profile :=
  let (x, s, rest) := p.lin.advance t
  let p := { p with lin := x, refN := p.refN.add (p.dirN.mul s), refE := p.refE.add (p.dirE.mul s) }
  if !rest then p
  else if x.restFirst then p.runLin
  else { p with refN := p.tgtN, refE := p.tgtE, lin := { p.lin with phase := .hold } }

/-- The heading axis one cycle on. -/
def Profile.stepHdg (t : F64) (dir : Nat) (p : Profile) : Profile :=
  let (x, s, rest) := p.hdg.advance t
  let p := { p with hdg := x, refH := wrapPi (p.refH.add (p.turn.mul s)) }
  if !rest then p
  else if x.restFirst then p.runHdg dir
  else { p with refH := wrapPi p.tgtH, hdg := { p.hdg with phase := .hold } }

/-- The linear axis stops: its target becomes its rest point [03 R90]. -/
def Profile.stopLin (p : Profile) : Profile :=
  if p.lin.phase == .hold then p
  else
    let s := p.lin.toRest
    { p with tgtN := p.refN.add (p.dirN.mul s), tgtE := p.refE.add (p.dirE.mul s), lin := p.lin.rest false }

/-- The heading axis stops [03 R90]. -/
def Profile.stopHdg (p : Profile) : Profile :=
  if p.hdg.phase == .hold then p
  else { p with tgtH := wrapPi (p.refH.add (p.turn.mul p.hdg.toRest)), hdg := p.hdg.rest false }

/-- A committed linear target [03 R83 R89]. -/
def Profile.targetLin (c : ProfCmd) (p : Profile) : Profile :=
  if c.n == p.tgtN && c.e == p.tgtE then p
  else
    let p := { p with tgtN := c.n, tgtE := c.e, moving := true }
    if p.lin.phase == .hold then { p with lin := { p.lin with lim := c.lin } }.runLin
    else
      let x := p.lin.newMove c.lin
      let s := x.toRest
      let qn := c.n.sub p.refN
      let qe := c.e.sub p.refE
      let along := (qn.mul p.dirN).add (qe.mul p.dirE)
      let off := ((qn.mul p.dirE).sub (qe.mul p.dirN)).abs
      let inLine := off.le (frac 1 100) && F64.zero.lt along
      if inLine && s.le along then { p with lin := x }.runLin
      else { p with lin := x.rest true, overrun := p.overrun || inLine }

/-- A committed heading target [03 R83 R84 R89]. -/
def Profile.targetHdg (c : ProfCmd) (p : Profile) : Profile :=
  let h := wrapPi c.h
  if h == p.tgtH then p
  else
    let p := { p with tgtH := h, moving := true }
    if p.hdg.phase == .hold then { p with hdg := { p.hdg with lim := c.hdg, back := false } }.runHdg c.dir
    else
      let x := p.hdg.newMove c.hdg
      let s := x.toRest
      let cw := F64.zero.lt p.turn
      let by_ := turnBy cw p.refH h
      let ahead := clockwise c.dir p.refH h == cw
      if ahead && s.le by_ then { p with hdg := x.leg by_ }
      else { p with hdg := { x.rest true with back := ahead }, overrun := p.overrun || ahead }

/-- Both axes start from an estimate; unless a target is committed at the same cut they stop along their line [03 R84]. -/
def Profile.start (c : ProfCmd) (linear : Bool) (s : ProfStart) (p : Profile) : Profile :=
  let v := hypot s.vn s.ve
  let still := v.isZero || !linear
  let q : Profile := {
    refN := s.n, refE := s.e, refH := wrapPi s.h, tgtN := s.n, tgtE := s.e, tgtH := wrapPi s.h
    dirN := if still then F64.one else s.vn.div v, dirE := if still then F64.zero else s.ve.div v
    turn := turnSign (F64.zero.le s.w)
    lin := { lim := c.lin, v := if still then F64.zero else v, phase := if still then .hold else .move }
    hdg := { lim := c.hdg, v := if linear then s.w.abs else F64.zero, phase := if s.w.isZero || !linear then .hold else .move }
    newLin := p.newLin, newHdg := p.newHdg, stop := p.stop }
  let q := if p.newLin then q else q.stopLin
  let q := if p.newHdg then q else q.stopHdg
  { q with moving := q.lin.phase != .hold || q.hdg.phase != .hold }

/-- LIMIT_DEFERRED of the generator [03 R88]. -/
def Profile.deferred (p : Profile) : Bool := p.lin.deferred || p.hdg.deferred

/-- One profile step: the axes move to this cut, then take what was committed at it. `linear` is false in JOYSTICK, where the heading axis runs alone [03 R80 to R90]. -/
def Profile.step (c : ProfCmd) (linear : Bool) (t : F64) (s : ProfStart) (p : Profile) : Profile :=
  let p := if p.enter then p.start c linear s else (p.stepLin t).stepHdg t c.dir
  let p := { p with lin := p.lin.takeLimits c.lin, hdg := p.hdg.takeLimits c.hdg }
  let p := if p.newLin && linear then p.targetLin c else p
  let p := if p.newHdg then p.targetHdg c else p
  let p := if p.stop then p.stopLin.stopHdg else p
  let p := { p with lin := (p.lin.decide t), hdg := (p.hdg.decide t), enter := false, newLin := false, newHdg := false, stop := false }
  if p.lin.phase == .hold && p.hdg.phase == .hold then { p with overrun := false, moving := false } else p

/-- The reference after `k` more cycles of length `t` with nothing committed, for the solver's horizon [03 R82, 08 R238]. (log 64) -/
def Profile.ahead (dir : Nat) (t : F64) (k : Nat) (p : Profile) : Profile :=
  foldN k (fun _ p =>
    let p := (p.stepLin t).stepHdg t dir
    { p with lin := p.lin.decide t, hdg := p.hdg.decide t }) p

/-- MDE_PRF_REM: the way still to run along the path [03 R82]. -/
def Profile.remaining (p : Profile) : F64 :=
  if p.lin.restFirst then
    p.lin.rem.add (hypot (p.tgtN.sub (p.refN.add (p.dirN.mul p.lin.rem))) (p.tgtE.sub (p.refE.add (p.dirE.mul p.lin.rem))))
  else if p.lin.phase == .hold then F64.zero else p.lin.rem

/-- The profile step of a cycle with its interrupts [03 R83 R87 R89 R97]. (log 41) -/
def profStep (r : Regs) (s : ProfStart) (d : Dev) : Dev :=
  let linear := d.mde.mode != .joystick
  let p := d.mde.prof
  let q := p.step (profCmd r d.mde.mode) linear (secOfNs d.mde.cyc.periodNs) s
  let d := { d with mde := { d.mde with prof := q } }
  let d := raiseIf (p.moving && !p.enter && !q.moving) 5 3 d
  let d := raiseIf (q.deferred && !p.deferred) 5 4 d
  raiseIf (q.overrun && !p.overrun) 5 5 d

end Sys2Proof.Machine
end

