-- ==== Sys2Proof/Machine/Control.lean ====
section
/-! DEFINITION. Thrusters as force producers, their availability and span, wind feed-forward, the errors, and the fall-back controller with its allocator: pages CTL and ALC [08 R229 to R259]. Forces are held in a thruster's own variables: the signed thrust of a tunnel, body axes for an azimuth, the rudder's axes for KIND 3. -/

namespace Sys2Proof.Machine

/-! ### Thrusters as force producers -/

/-- THRUSTER record `i`. -/
def Dev.thrRec (d : Dev) (i : Nat) : Option ThrRec := d.descr.thr.find? fun (t : ThrRec) => t.id == i
/-- THRUSTER record `i`, zeros where there is none. -/
def Dev.thrD (d : Dev) (i : Nat) : ThrRec := (d.thrRec i).getD {}
/-- THRUSTER_LIMITS record `i`, zeros where there is none. (log 63) -/
def Dev.limD (d : Dev) (i : Nat) : LimRec := (d.descr.lim.find? fun (t : LimRec) => t.id == i).getD {}
/-- Thrusters of the description, in ID order. -/
def Dev.thrIds (d : Dev) : List Nat := (List.range 16).filter fun i => (d.thrRec i).isSome
/-- Allocation state of thruster `i`. -/
def Dev.thr (d : Dev) (i : Nat) : ThrSt := at' d.alc.thr i
/-- Allocation state changed. -/
def modThr (i : Nat) (f : ThrSt → ThrSt) (d : Dev) : Dev := { d with alc := { d.alc with thr := modAt d.alc.thr i f } }
/-- Page CTL's state changed. -/
def modCtl (f : CtlSt → CtlSt) (d : Dev) : Dev := { d with ctl := f d.ctl }
/-- Available thrusters, in ID order. -/
def Dev.maskIds (d : Dev) : List Nat := d.thrIds.filter fun i => (d.thr i).avail
/-- ALC_MASK [08 R234]. -/
def Dev.thrMask (d : Dev) : Nat := (List.range 16).foldl (fun v i => setBit v i ((d.thr i).avail && (d.thrRec i).isSome)) 0

/-- A thrust mode [09 R278]. -/
def Mode.thrust (m : Mode) : Bool := match m with | .joystick | .autopos | .follow | .transfer => true | _ => false

/-- F_pos [08 R230]. -/
def fPos (r : Regs) (d : Dev) (i : Nat) : F64 := (d.limD i).fMaxPos.to64.mul (r.f64 F.ALC_THR_DERATE_V i)
/-- F_neg: 0 for a thruster that is not reversible [08 R230]. -/
def fNeg (r : Regs) (d : Dev) (i : Nat) : F64 :=
  if bit (d.thrD i).flags 1 then (d.limD i).fMaxNeg.to64.mul (r.f64 F.ALC_THR_DERATE_V i) else F64.zero
/-- F_REF: the largest F_MAX_POS of the description [08 R242]. -/
def fRef (d : Dev) : F64 := d.descr.thr.foldl (fun m (t : ThrRec) => F64.max m (d.limD t.id).fMaxPos.to64) F64.zero

/-- Number of force variables of a thruster [08 R230]. -/
def thrVars (d : Dev) (i : Nat) : Nat := if (d.thrD i).kind = 0 then 1 else 2

/-- Body force and moment of one newton of each variable: X, Y, N [08 R229 R230]. -/
def thrCols (d : Dev) (i : Nat) : List (List F64) :=
  let t := d.thrD i
  let x := t.x.to64
  let y := t.y.to64
  let col := fun (a b : F64) => [a, b, (x.mul b).sub (y.mul a)]
  let c := Config.cos t.azZero.to64
  let s := Config.sin t.azZero.to64
  match t.kind with
  | 0 => [col c s]
  | 3 => [col c s, col s.neg c]
  | _ => [col F64.one F64.zero, col F64.zero F64.one]

/-- The variables of a force, as many as the thruster has. -/
def Force.vars (d : Dev) (i : Nat) (f : Force) : List F64 := if thrVars d i = 1 then [f.fx] else [f.fx, f.fy]

/-- Body force and moment of a thruster's force [08 R229]. -/
def thrWrench (d : Dev) (i : Nat) (f : Force) : List F64 :=
  (List.zipWith vScale (f.vars d i) (thrCols d i)).foldl vAdd [F64.zero, F64.zero, F64.zero]

/-- Body force of a set of thruster forces. -/
def wrenchOf (d : Dev) (f : Nat → Force) : List F64 := d.thrIds.foldl (fun a i => vAdd a (thrWrench d i (f i))) [F64.zero, F64.zero, F64.zero]

/-- Sign of a number as a factor: 1 for zero and above. -/
def signOf (x : F64) : F64 := if x.lt F64.zero then F64.one.neg else F64.one

/-- K of a thruster for a sense of thrust [08 R231]. -/
def thrK (r : Regs) (i : Nat) (pos : Bool) : F64 := r.f64 (if pos then F.ALC_THR_K_POS_V else F.ALC_THR_K_NEG_V) i

/-- sign(F) √(|F| / K); the value is free where K is not greater than 0, which the register's text rules out before EN is used [08 R231] (log 5). (log 65) -/
def shaftOf (r : Regs) (free i : Nat) (f : F64) : F64 :=
  let k := thrK r i (F64.zero.le f)
  if F64.zero.lt k then (signOf f).mul (f.abs.div k).sqrt else Config.freeF64 free (0x0B00 + i)

/-- A loop channel gives feedback of a quantity. -/
def hasFb (r : Regs) (c : Nat) : Bool := decide (c < 32) && r.bit F.LOP_CH_CFG_USE c && r.at F.LOP_CH_CFG_FB_SRC c != 0

/-- Measured value at a loop channel, or the handed-over set-point without feedback [08 R231]. -/
def measuredAt (r : Regs) (d : Dev) (c : Nat) (handed : F32) : F64 := if hasFb r c then (d.loop c).y.to64 else handed.to64

/-- Measured azimuth or rudder angle [08 R231 R245]. -/
def measuredAz (r : Regs) (d : Dev) (i : Nat) : F64 := measuredAt r d (d.thrD i).loopAz (d.thr i).last.az

/-- A force along an azimuth, or under a rudder angle, in the thruster's own variables [08 R230 R232]. (log 65) -/
def forceOf (r : Regs) (d : Dev) (i : Nat) (f az : F64) : Force :=
  let t := d.thrD i
  match t.kind with
  | 0 => { fx := f }
  | 3 =>
    if F64.zero.lt f then { fx := f, fy := (((r.f64 F.ALC_THR_RUD_V i).mul f).mul az).div (r.f64 F.ALC_THR_RUD_MAX_V i) } else { fx := f }
  | _ => let th := t.azZero.to64.add az; { fx := f.mul (Config.cos th), fy := f.mul (Config.sin th) }

/-- Measured force of a thruster [08 R231, 07 R203]. (log 65) -/
def measuredForce (r : Regs) (d : Dev) (i : Nat) : Force :=
  let t := d.thrD i
  let v := if r.bit F.ALC_THR_CTL_MODEL i then measuredAt r d t.loopPitch (d.thr i).last.pitch else measuredAt r d t.loopRpm (d.thr i).last.rpm
  forceOf r d i ((signOf v).mul ((thrK r i (F64.zero.le v)).mul (v.mul v))) (measuredAz r d i)

/-- Magnitude of a force. -/
def Force.mag (f : Force) : F64 := hypot f.fx f.fy

/-! ### Force sets [08 R230 R232 R244] -/

/-- Corners of a two-variable force set, in order: the 16-sided polygon with one corner on AZ_ZERO, or the rudder envelope. -/
def thrCorners (r : Regs) (d : Dev) (i : Nat) : List (F64 × F64) :=
  let p := fPos r d i
  let t := d.thrD i
  if t.kind = 3 then
    if (d.thr i).ahead then let h := (r.f64 F.ALC_THR_RUD_V i).mul p; [(F64.zero, F64.zero), (p, h.neg), (p, h)]
    else [((fNeg r d i).neg, F64.zero), (F64.zero, F64.zero)]
  else
    (List.range 16).map fun (k : Nat) =>
      let a := t.azZero.to64.add ((F64.pi.mul (F64.ofInt k)).div (F64.ofInt 8))
      (p.mul (Config.cos a), p.mul (Config.sin a))

/-- Sides of a set: each corner with the next. -/
def sidesOf (v : List (F64 × F64)) : List ((F64 × F64) × (F64 × F64)) := v.zip (v.drop 1 ++ v.take 1)

/-- Distance of a point inside a side, negative outside. -/
def sideDist (e : (F64 × F64) × (F64 × F64)) (f : Force) : F64 :=
  let ex := e.2.1.sub e.1.1
  let ey := e.2.2.sub e.1.2
  ((ex.mul (f.fy.sub e.1.2)).sub (ey.mul (f.fx.sub e.1.1))).div (hypot ex ey)

/-- The set has an inside. -/
def thrFlat (r : Regs) (d : Dev) (i : Nat) : Bool := (fPos r d i).le F64.zero || ((d.thrD i).kind == 3 && !((d.thr i).ahead))

/-- A force lies in the thruster's force set. -/
def inSet (r : Regs) (d : Dev) (i : Nat) (f : Force) : Bool :=
  if (d.thrD i).kind = 0 then (fNeg r d i).neg.le f.fx && f.fx.le (fPos r d i)
  else if (d.thrD i).kind = 3 && !((d.thr i).ahead) then (fNeg r d i).neg.le f.fx && f.fx.le F64.zero && f.fy.isZero
  else if thrFlat r d i then f.fx.isZero && f.fy.isZero
  else (sidesOf (thrCorners r d i)).all fun e => F64.zero.le (sideDist e f)

/-- Point of a side nearest to a force. -/
def nearOn (e : (F64 × F64) × (F64 × F64)) (f : Force) : Force :=
  let ex := e.2.1.sub e.1.1
  let ey := e.2.2.sub e.1.2
  let u := ((((f.fx.sub e.1.1).mul ex).add ((f.fy.sub e.1.2).mul ey)).div ((ex.mul ex).add (ey.mul ey))).clamp F64.zero F64.one
  { fx := e.1.1.add (u.mul ex), fy := e.1.2.add (u.mul ey) }

/-- Distance between two forces. -/
def Force.dist (a b : Force) : F64 := hypot (a.fx.sub b.fx) (a.fy.sub b.fy)

/-- Nearest point of the thruster's force set [08 R253]. -/
def toSet (r : Regs) (d : Dev) (i : Nat) (f : Force) : Force :=
  if inSet r d i f then f
  else if (d.thrD i).kind = 0 then { fx := f.fx.clamp (fNeg r d i).neg (fPos r d i) }
  else if (d.thrD i).kind = 3 && !((d.thr i).ahead) then { fx := f.fx.clamp (fNeg r d i).neg F64.zero }
  else if thrFlat r d i then {}
  else
    match (sidesOf (thrCorners r d i)).map fun e => nearOn e f with
    | [] => {}
    | a :: l => l.foldl (fun b c => if (c.dist f).lt (b.dist f) then c else b) a

/-- A force on the boundary of its set, to the feasibility tolerance [08 R259]. (log 67) -/
def onBound (r : Regs) (d : Dev) (i : Nat) (f : Force) : Bool :=
  let tol := (r.f64 F.SLV_FEAS_TOL_V).mul (fRef d)
  if (d.thrD i).kind = 0 then ((fPos r d i).sub f.fx).le tol || (f.fx.add (fNeg r d i)).le tol
  else if thrFlat r d i then true
  else (sidesOf (thrCorners r d i)).any fun e => (sideDist e f).le tol

/-- Forbidden sectors of an azimuth thruster, as azimuths: start and end, clockwise [02 R43]. -/
def thrSectors (d : Dev) (i : Nat) : List (F64 × F64) :=
  let l := d.limD i
  if (d.thrD i).kind = 1 || (d.thrD i).kind = 2 then [(l.s0a.to64, l.s0b.to64), (l.s1a.to64, l.s1b.to64)].take l.sectors else []

/-- The nearer edge of the sector that an azimuth lies inside [08 R245 R253]. -/
def sectorEdge (d : Dev) (i : Nat) (az : F64) : Option F64 :=
  ((thrSectors d i).find? fun (s, e) => F64.zero.lt (wrapTwoPi (az.sub s)) && (wrapTwoPi (az.sub s)).lt (wrapTwoPi (e.sub s))).map fun (s, e) =>
    if (wrapPi (az.sub s)).abs.le (wrapPi (az.sub e)).abs then wrapPi s else wrapPi e

/-! ### Set-points [08 R231 to R233 R249] -/

/-- Set-points of a thrust and an azimuth or rudder angle [08 R231]. (log 65) -/
def shaftSet (r : Regs) (d : Dev) (i : Nat) (f : Force) (thrust az : F64) : ThrSet :=
  let v := (shaftOf r d.free i thrust).to32
  if r.bit F.ALC_THR_CTL_MODEL i then { f := f, az := az.to32, rpm := r.f32 F.ALC_THR_N_CONST_V i, pitch := v }
  else { f := f, az := az.to32, rpm := v, pitch := (d.thr i).last.pitch }

/-- Set-points of a thruster's force [08 R249]. (log 52, 68) -/
def forceSet (r : Regs) (d : Dev) (i : Nat) (f : Force) : ThrSet :=
  let t := d.thrD i
  match t.kind with
  | 0 => shaftSet r d i { fx := f.fx } f.fx F64.zero
  | 3 =>
    let rud := if F64.zero.lt f.fx then ((r.f64 F.ALC_THR_RUD_MAX_V i).mul f.fy).div ((r.f64 F.ALC_THR_RUD_V i).mul f.fx) else F64.zero
    shaftSet r d i f f.fx rud
  | _ =>
    let az := if f.mag.lt (r.f64 F.ALC_F_DEAD_V) then (d.thr i).last.az.to64 else wrapPi ((Config.atan2 f.fy f.fx).sub t.azZero.to64)
    shaftSet r d i f f.mag az

/-- Zero thrust with the azimuth or rudder set-point held [08 R235]. (log 68) -/
def zeroSet (r : Regs) (d : Dev) (i : Nat) : ThrSet := shaftSet r d i {} F64.zero (d.thr i).last.az.to64

/-- Set-points of a lever in MANUAL [08 R233]. -/
def leverSet (r : Regs) (d : Dev) (i : Nat) : ThrSet :=
  let x := r.f64 F.MDE_LEVER_THRUST_V i
  let f := x.mul (if x.lt F64.zero then fNeg r d i else fPos r d i)
  let az := if (d.thrD i).kind = 0 then F64.zero else r.f64 F.MDE_LEVER_AZ_V i
  shaftSet r d i (forceOf r d i f az) f az

/-- Set-points handed to a thruster's loops, and kept as its last [08 R249, 01 R22]; `ff` is the azimuth loop's feed-forward. -/
def handThr (r : Regs) (i : Nat) (s : ThrSet) (ff : F32) (d : Dev) : Dev :=
  let t := d.thrD i
  let give := fun (c : Nat) (v ff : F32) (d : Dev) => if c < 32 then handTo r c { r := v, ff := ff } d else d
  let d := if t.kind = 0 then d else give t.loopAz s.az ff d
  let d := give t.loopRpm s.rpm F32.zero d
  let d := if r.bit F.ALC_THR_CTL_MODEL i then give t.loopPitch s.pitch F32.zero d else d
  modThr i (fun x => { x with last := s, fPrev := s.f }) d.takeFree

/-! ### Availability [08 R234 to R236] -/

/-- The first enabled CAN status slot that names a thruster: its channel and slot [13 R392]. (log 66) -/
def stsSlot (r : Regs) (i : Nat) (ready : Bool) : Option (Nat × Nat) :=
  ((List.range 8).flatMap fun n => (List.range 32).map fun s => (n, s)).find? fun (n, s) =>
    r.on F.CAN_STS_CFG_EN n s == 1 && r.on F.CAN_STS_CFG_THR n s == i && (!ready || r.on F.CAN_STS_CFG_READY_EN n s == 1)

/-- Ready by the CAN status [13 R392]. (log 63, 66) -/
def canReady (r : Regs) (d : Dev) (i : Nat) : Bool :=
  match stsSlot r i true with
  | some (n, s) => ((leAt (at' (at' d.can.ch n).db (r.on F.CAN_STS_CFG_DB n s)).data (r.on F.CAN_STS_CFG_READY_BYTE n s) 1)).testBit (r.on F.CAN_STS_CFG_READY_BIT n s)
  | none => false

/-- A thruster is ready by READY_SRC [03 R74, 08 R234]. (log 63) -/
def thrReady (r : Regs) (d : Dev) (i : Nat) : Bool :=
  let din := dinLevel r d (r.at F.ALC_THR_CTL_READY_DIN i)
  match r.at F.ALC_THR_CTL_READY_SRC i with
  | 0 => din
  | 1 => canReady r d i
  | _ => din && canReady r d i

/-- A CAN drive's status frame has arrived within 3 basic cycles and passed its check [08 R234, 13 R392]. (log 66) -/
def canFresh (r : Regs) (d : Dev) (i : Nat) : Bool :=
  match stsSlot r i false with
  | some (n, s) => decide (nth (at' d.can.ch n).dbAge (r.on F.CAN_STS_CFG_DB n s) 255 ≤ 3)
  | none => false

/-- One of a thruster's loop channels has a feedback plausibility fault [08 R234, 11 R332]. -/
def loopFaulted (r : Regs) (d : Dev) (i : Nat) : Bool :=
  let t := d.thrD i
  [t.loopAz, t.loopRpm, t.loopPitch].any fun c => decide (c < 32) && r.bit F.LOP_CH_CFG_USE c && (d.loop c).cause != 0

/-- First failed condition of R234 other than recovery, 0 none. (log 66) -/
def lostCause (r : Regs) (d : Dev) (i : Nat) : Nat :=
  let t := d.thrD i
  if !(r.bit F.ALC_THR_CTL_EN i) then 1
  else if !(thrReady r d i) then 2
  else if loopFaulted r d i then 3
  else if t.drive = 0 && !(canFresh r d i) then 4
  else if t.kind = 2 && r.bit F.ALC_THR_CTL_DEPLOY_EN i && !(dinLevel r d (r.at F.ALC_THR_CTL_DEPLOY_DIN i)) then 5
  else 0

/-- Availability of one thruster at a cut: loss, recovery and return [08 R234 R235 R236]. (log 63, 66) -/
def availOne (r : Regs) (d : Dev) (i : Nat) : Dev :=
  let x := d.thr i
  let c := lostCause r d i
  if c ≠ 0 then
    let d := modThr i (fun x => { x with avail := false, lostCause := c, recovering := false, okAt := none }) d
    if x.avail then
      record r .thrLost { p0 := i, p1 := c } (raise 0xB 0 { d with alc := { d.alc with losses := wrapInc 16 d.alc.losses } })
    else d
  else if x.avail then modThr i (fun x => { x with lostCause := 0 }) d
  else if !x.known then modThr i (fun x => { x with avail := true, known := true, lostCause := 0, fPrev := {} }) d
  else
    let t := x.okAt.getD d.tb0
    if t + r.get F.ALC_RECOVER_TIME * nsPerSec ≤ d.tb0 then
      raise 0xB 1 (modThr i (fun x => { x with avail := true, lostCause := 0, recovering := false, okAt := none, fPrev := {} }) d)
    else modThr i (fun x => { x with okAt := some t, recovering := true, lostCause := 6 }) d

/-- The mask of a cut [08 R234]. (log 66) -/
def availCut (r : Regs) (d : Dev) : Dev := d.thrIds.foldl (availOne r) d

/-! ### Span and available forces [08 R237 R238] -/

/-- Smallest eigenvalue of a symmetric 3 by 3 matrix, by cyclic Jacobi rotations. (log 67) -/
def minEig3 (m : List (List F64)) : F64 :=
  let rot := fun (p q : Nat) (a : List (List F64)) =>
    let g := mc a p q
    if g.isZero then a
    else
      let th := ((mc a q q).sub (mc a p p)).div (F64.two.mul g)
      let t := (signOf th).div (th.abs.add ((th.mul th).add F64.one).sqrt)
      let c := F64.one.div ((t.mul t).add F64.one).sqrt
      let s := t.mul c
      let j := (List.range 3).map fun i => (List.range 3).map fun k =>
        if i = k then (if i = p || i = q then c else F64.one) else if i = p && k = q then s else if i = q && k = p then s.neg else F64.zero
      mMul (mMul (mTr j) a) j
  let a := foldN 12 (fun _ a => rot 1 2 (rot 0 2 (rot 0 1 a))) m
  F64.min (mc a 0 0) (F64.min (mc a 1 1) (mc a 2 2))

/-- Smallest singular value of a matrix of three rows, given by its columns. (log 67) -/
def sigmaMin (cols : List (List F64)) : F64 :=
  let z := [F64.zero, F64.zero, F64.zero]
  (F64.max F64.zero (minEig3 (cols.foldl (fun a c => mAdd a (outer c c)) [z, z, z]))).sqrt

/-- σ_min(D·B) of the available thrusters [08 R237]. (log 67) -/
def spanSigma (r : Regs) (d : Dev) : F64 :=
  let arm := F64.two.div d.descr.sys.length.to64
  sigmaMin (d.maskIds.flatMap fun i =>
    mapI (fun k c =>
      let s := if (d.thrD i).kind = 3 && k = 1 then (fPos r d i).mul (r.f64 F.ALC_THR_RUD_V i) else fPos r d i
      [s.mul (vc c 0), s.mul (vc c 1), arm.mul (s.mul (vc c 2))]) (thrCols d i))

/-- The available thrusters span three degrees of freedom [08 R237]. (log 67) -/
def spans (r : Regs) (d : Dev) : Bool := (r.f64 F.ALC_SPAN_TOL_V).le (spanSigma r d)

/-- Force set of a thruster as the available forces use it [08 R238]. -/
def forceSetOf (r : Regs) (d : Dev) (i : Nat) : ForceSet :=
  let z := (d.thrD i).azZero.to64
  { cols := thrCols d i
    lim := if (d.thrD i).kind = 0 then some (fPos r d i, fNeg r d i) else none
    corners := if (d.thrD i).kind = 0 then [] else thrCorners r d i
    sectors := (thrSectors d i).map fun (s, e) => (z.add s, z.add e) }

/-- What the span was last evaluated on: mask, F_pos and AHEAD [08 R237]. (log 67) -/
def spanKeyOf (r : Regs) (d : Dev) : List Nat := d.thrMask :: d.maskIds.flatMap fun i => [(fPos r d i).nat, b2n ((d.thr i).ahead)]

/-- A value has changed by more than 1 % [08 R238]. (log 66) -/
def changedBy1 (a b : F64) : Bool := ((a.abs).div (F64.ofInt 100)).lt (b.sub a).abs

/-- The span and the available forces at a cut at which what they rest on has changed [08 R237 R238]. (log 67) -/
def spanCut (r : Regs) (d : Dev) : Dev :=
  let key := spanKeyOf r d
  if key = d.alc.spanKey then d
  else
    let s := spanSigma r d
    let sets := d.maskIds.map (forceSetOf r d)
    let av := [Config.availForce sets 0, Config.availForce sets 1, Config.availForce sets 2]
    let moved := (List.zipWith changedBy1 d.alc.avail av).any id
    let ok := (r.f64 F.ALC_SPAN_TOL_V).le s
    let lost := !ok && !(d.alc.noSpan) && d.mde.mode.thrust
    let back := ok && d.alc.noSpan
    let d := { d with alc := { d.alc with spanKey := key, sigmaMin := s, avail := av, noSpan := if ok then false else d.alc.noSpan || lost } }
    raiseIf moved 0xB 5 (raiseIf back 0xB 3 (raiseIf lost 0xB 2 d))

/-- AHEAD of KIND 3 thrusters and the sectors that present azimuths lie in, at a cut; `first` marks the first cut of a thrust mode [08 R232 R245]. -/
def aheadCut (r : Regs) (d : Dev) : Dev :=
  let first := d.slv.first
  let d := d.thrIds.foldl (fun d i =>
    let t := d.thrD i
    let d := if t.kind = 3 then
        let a := if d.ctl.fbValid && !first then F64.zero.le (at' d.ctl.fbForce i).fx
          else if !(hasFb r t.loopRpm) && !(hasFb r t.loopPitch) then true
          else F64.zero.le (measuredForce r d i).fx
        modThr i (fun x => { x with ahead := a }) d
      else d
    modThr i (fun x => { x with edge := sectorEdge d i (measuredAz r d i) }) d) d
  modCtl (fun c => { c with fbValid := false }) d

/-! ### What a State record says -/

/-- Word of the latest State record of an object as binary32, in binary64. -/
def recF (d : Dev) (o k : Nat) : F64 := (wordF32 ((at' d.fus.recs o).getD k 0)).to64
/-- Two words of a State record as binary64. -/
def recD (d : Dev) (o k : Nat) : F64 := wordsF64 ((at' d.fus.recs o).getD k 0) ((at' d.fus.recs o).getD (k + 1) 0)
/-- Flag of a State record [07 R227]. -/
def recFlag (d : Dev) (o k : Nat) : Bool := ((at' d.fus.recs o).getD 0 0).toNat.testBit (16 + k)

/-- Low-frequency pose and velocity over ground of object 0 in its State record: n, e, ψ, u, v, r [08 R240]. (log 71) -/
def ownLf (d : Dev) : List F64 :=
  [(recD d 0 6).sub (recF d 0 23), (recD d 0 8).sub (recF d 0 24), wrapPi ((recF d 0 10).sub (recF d 0 25)), recF d 0 14, recF d 0 15, recF d 0 16]

/-- A vector of the earth frame turned into body axes at a heading. -/
def toBody (h n e : F64) : F64 × F64 :=
  let c := Config.cos h
  let s := Config.sin h
  ((n.mul c).add (e.mul s), (e.mul c).sub (n.mul s))

/-- A vector in the axes of a heading turned into the earth frame. -/
def toEarth (h a b : F64) : F64 × F64 :=
  let c := Config.cos h
  let s := Config.sin h
  ((a.mul c).sub (b.mul s), (a.mul s).add (b.mul c))

/-! ### Wind [08 R247 R248] -/

/-- A wind coefficient at an angle of 0 to π: linear in the table of 10 degree steps. -/
def windCoef (r : Regs) (f : Fd) (g : F64) : F64 :=
  let x := (g.mul (F64.ofInt 18)).div F64.pi
  let i := (max 0 (min 17 x.floor)).toNat
  let a := r.f64 f i
  let b := r.f64 f (i + 1)
  a.add ((x.sub (F64.ofInt i)).mul (b.sub a))

/-- Wind force of a relative angle and a speed [08 R247]. -/
def windForce (r : Regs) (d : Dev) (g v : F64) : List F64 :=
  let q := (frac 6125 10000).mul (v.mul v)
  let k := (r.f64 F.CTL_WIND_FF_V).mul q
  let a := g.abs
  let s := if g.lt F64.zero then F64.one.neg else F64.one
  let al := r.f64 F.CTL_WIND_AL_V
  [(k.mul (r.f64 F.CTL_WIND_AF_V)).mul (windCoef r F.CTL_WIND_CX_V a), ((k.mul al).mul (windCoef r F.CTL_WIND_CY_V a)).mul s,
   (((k.mul al).mul d.descr.sys.length.to64).mul (windCoef r F.CTL_WIND_CN_V a)).mul s]

/-- Seconds since the last change of WIND_VALID. (log 70) -/
def windFor (d : Dev) : F64 := secOfNs (d.tb0 - d.ctl.windAt : Nat)

/-- The wind force at a State output: held 5 s and ramped down over 10 s without a valid wind, ramped up over 10 s on its return [08 R248]. (log 70) -/
def windStep (r : Regs) (d : Dev) : Dev :=
  let valid := recFlag d 0 9
  let c := d.ctl
  let ten := F64.ofInt 10
  if valid then
    let goal := windForce r d (recF d 0 29) (recF d 0 30)
    if !c.windValid && c.windAt == 0 then modCtl (fun c => { c with wind := goal, windValid := true, windAt := max 1 d.tb0, windFf := true }) d
    else
      let d := if c.windValid then d else modCtl (fun c => { c with windValid := true, windAt := d.tb0, windHeld := c.wind, windRamp := true, windFf := true }) d
      let t := windFor d
      if d.ctl.windRamp && t.lt ten then modCtl (fun c => { c with wind := vAdd c.windHeld (vScale (t.div ten) (vSub goal c.windHeld)) }) d
      else modCtl (fun c => { c with wind := goal, windRamp := false }) d
  else
    let d := if c.windValid then raise 0xA 4 (modCtl (fun c => { c with windValid := false, windAt := d.tb0, windHeld := c.wind, windRamp := false }) d) else d
    let t := (windFor d).sub (F64.ofInt 5)
    if t.le F64.zero then d
    else if t.lt ten then modCtl (fun c => { c with wind := vScale (F64.one.sub (t.div ten)) c.windHeld }) d
    else modCtl (fun c => { c with wind := [F64.zero, F64.zero, F64.zero], windFf := false }) d

/-! ### Errors [08 R251 R252] -/

/-- A reference: position north and east, heading, and their rates. -/
structure CtlRef where
  /-- north -/
  n : F64
  /-- east -/
  e : F64
  /-- heading -/
  h : F64
  /-- velocity north -/
  vn : F64
  /-- velocity east -/
  ve : F64
  /-- yaw rate -/
  w : F64

/-- Profile reference in its own frame. -/
def Profile.ref (p : Profile) : CtlRef :=
  { n := p.refN, e := p.refE, h := p.refH, vn := p.lin.v.mul p.dirN, ve := p.lin.v.mul p.dirE, w := p.hdg.v.mul p.turn }

/-- A reference relative to an object with a pose and motion (N, E, ψ, vN, vE, r), in the earth frame [08 R243 R252]. -/
def CtlRef.on (x : CtlRef) (o : List F64) : CtlRef :=
  let (n, e) := toEarth (vc o 2) x.n x.e
  let (vn, ve) := toEarth (vc o 2) x.vn x.ve
  let w := vc o 5
  { n := (vc o 0).add n, e := (vc o 1).add e, h := wrapPi ((vc o 2).add x.h)
    vn := ((vc o 3).add vn).sub (w.mul e), ve := ((vc o 4).add ve).add (w.mul n), w := w.add x.w }

/-- Pose and motion of a target in its State record: N, E, ψ, vN, vE, r. -/
def tgtNow (d : Dev) (o : Nat) : List F64 := [recD d o 6, recD d o 8, recF d o 10, recF d o 14, recF d o 15, recF d o 16]

/-- Step 0 of the profile as an earth reference [08 R252]. -/
def refNow (d : Dev) : CtlRef :=
  let p := d.mde.prof.ref
  if d.mde.mode == .follow then p.on (tgtNow d d.mde.followObj) else p

/-- Heading control is in use. -/
def Dev.hdgCtl (d : Dev) : Bool := d.mde.mode.thrust && (d.mde.mode != .joystick || d.mde.autoHdg)

/-- Errors in body axes and heading, estimate less reference, and their rates [08 R251 R252]. (log 69, 71) -/
def errorsNow (d : Dev) : List F64 × List F64 :=
  let x := ownLf d
  let h := vc x 2
  let f := refNow d
  let (ex, ey) := toBody h ((vc x 0).sub f.n) ((vc x 1).sub f.e)
  let (vx, vy) := toBody h f.vn f.ve
  let joy := d.mde.mode == .joystick
  let z := fun (v : F64) => if joy then F64.zero else v
  let g := fun (v : F64) => if d.hdgCtl then v else F64.zero
  ([z ex, z ey, g (wrapPi (h.sub f.h))], [z ((vc x 3).sub vx), z ((vc x 4).sub vy), g ((vc x 5).sub f.w)])

/-- POS_ERR and HDG_ERR at a State output [08 R251]. -/
def errFlags (r : Regs) (e : List F64) (d : Dev) : Dev :=
  let pos := d.mde.mode.thrust && d.mde.mode != .joystick && (r.f64 F.CTL_ERR_POS_V).lt (hypot (vc e 0) (vc e 1))
  let hdg := d.hdgCtl && (r.f64 F.CTL_ERR_HDG_V).lt (vc e 2).abs
  let d' := modCtl (fun c => { c with err := e, posErr := pos, hdgErr := hdg }) d
  let d' := raiseIf (pos && !(d.ctl.posErr)) 0xA 2 d'
  let d' := if pos != d.ctl.posErr then record r .posErr { p0 := b2n pos } d' else d'
  let d' := raiseIf (hdg && !(d.ctl.hdgErr)) 0xA 3 d'
  if hdg != d.ctl.hdgErr then record r .hdgErr { p0 := b2n hdg } d' else d'

/-! ### The fall-back controller [08 R252 R253] -/

/-- Demanded body force of the operator in JOYSTICK: zero after a take-over on old commands [08 R243, 15 R446]. -/
def joyDemand (r : Regs) (d : Dev) : List F64 :=
  if d.pair.stale then [F64.zero, F64.zero, F64.zero]
  else List.zipWith F64.mul [r.f64 F.MDE_JOY_X_V, r.f64 F.MDE_JOY_Y_V, r.f64 F.MDE_JOY_N_V] d.alc.avail

/-- Rows that the operator's demand replaces [08 R252]. -/
def Dev.joyRow (d : Dev) (i : Nat) : Bool := d.mde.mode == .joystick && (decide (i < 2) || !(d.mde.autoHdg))

/-- Proportional, derivative and integral gains of a row. -/
def fbGains (r : Regs) (i : Nat) : F64 × F64 × F64 :=
  match i with
  | 0 => (r.f64 F.CTL_FB_KP_X_V, r.f64 F.CTL_FB_KD_X_V, r.f64 F.CTL_FB_KI_X_V)
  | 1 => (r.f64 F.CTL_FB_KP_Y_V, r.f64 F.CTL_FB_KD_Y_V, r.f64 F.CTL_FB_KI_Y_V)
  | _ => (r.f64 F.CTL_FB_KP_N_V, r.f64 F.CTL_FB_KD_N_V, r.f64 F.CTL_FB_KI_N_V)

/-- An integral term clamped to its limit [08 R252]. -/
def clampInt (r : Regs) (d : Dev) (i : Nat) (v : F64) : F64 :=
  let m := (r.f64 F.CTL_FB_ILIM_V).mul (vc d.alc.avail i)
  v.clamp m.neg m

/-- Bias of the State record in body axes, with the moment's [08 R252]. -/
def biasBody (d : Dev) : List F64 :=
  let (x, y) := toBody (vc (ownLf d) 2) (recF d 0 17) (recF d 0 18)
  [x, y, recF d 0 19]

/-- The body force demand and the integral terms of a cycle [08 R252]. -/
def fbLaw (r : Regs) (e ed : List F64) (d : Dev) : List F64 × List F64 :=
  let b := biasBody d
  let joy := joyDemand r d
  let row := fun (i : Nat) =>
    if d.joyRow i then (vc joy i, vc d.ctl.integ i)
    else
      let (kp, kd, ki) := fbGains r i
      let a := vc d.alc.avail i
      let s := clampInt r d i ((vc d.ctl.integ i).add (((a.mul ki).mul (vc e i)).mul d.cycleSec))
      let pd := (a.mul (kp.mul (vc e i))).add (a.mul (kd.mul (vc ed i)))
      ((((pd.neg).sub s).sub (vc b i)).sub (vc d.ctl.wind i), s)
  ([(row 0).1, (row 1).1, (row 2).1], [(row 0).2, (row 1).2, (row 2).2])

/-- Determinant of a 3 by 3 matrix. -/
def det3 (m : List (List F64)) : F64 :=
  let t := fun (i j k l : Nat) => ((mc m 1 i).mul (mc m 2 j)).sub ((mc m 1 k).mul (mc m 2 l))
  (((mc m 0 0).mul (t 1 2 2 1)).sub ((mc m 0 1).mul (t 0 2 2 0))).add ((mc m 0 2).mul (t 0 1 1 0))

/-- Solution of a 3 by 3 system by Cramer's rule, none for a singular one. (log 69) -/
def solve3 (m : List (List F64)) (b : List F64) : Option (List F64) :=
  let dt := det3 m
  if dt.isZero || !dt.isFin then none
  else some ((List.range 3).map fun j => (det3 (mapI (fun i row => modAt row j fun _ => vc b i) m)).div dt)

/-- Weighted least-norm forces of thrusters for a body force; the multipliers are free where the free thrusters do not determine them, since R253 gives no solution there (log 5). (log 69) -/
def leastNorm (r : Regs) (d : Dev) (ids : List Nat) (tau : List F64) : List (Nat × Force) :=
  let w := fun (i : Nat) => r.f64 F.ALC_THR_W_V i
  let z := [F64.zero, F64.zero, F64.zero]
  let m := ids.foldl (fun a i => (thrCols d i).foldl (fun a c => mAdd a (mScale (F64.one.div (w i)) (outer c c))) a) [z, z, z]
  let lam := (solve3 m tau).getD [Config.freeF64 d.free 0x0A0, Config.freeF64 d.free 0x0A1, Config.freeF64 d.free 0x0A2]
  ids.map fun i =>
    let v := (thrCols d i).map fun c => (vDot c lam).div (w i)
    (i, { fx := vc v 0, fy := vc v 1 })

/-- What is left of a body force once some thrusters' forces are fixed. (log 69) -/
def lessForces (d : Dev) (tau : List F64) (l : List (Nat × Force)) : List F64 := l.foldl (fun t (i, f) => vSub t (thrWrench d i f)) tau

/-- The passes of the fall-back allocator: thrusters outside their sets are put at the nearest point and fixed, and the rest solved again, up to three times [08 R253]. (log 69) -/
def fbPasses (r : Regs) (d : Dev) (tau : List F64) : Nat → List Nat → List (Nat × Force) → List (Nat × Force)
  | 0, ids, fixed => fixed ++ (leastNorm r d ids (lessForces d tau fixed)).map fun (i, f) => (i, toSet r d i f)
  | n + 1, ids, fixed =>
    let l := leastNorm r d ids (lessForces d tau fixed)
    let out := l.filter fun (i, f) => !(inSet r d i f)
    if out.isEmpty then fixed ++ l
    else fbPasses r d tau n (ids.filter fun i => !(out.any fun (e : Nat × Force) => e.1 == i)) (fixed ++ out.map fun (i, f) => (i, toSet r d i f))

/-- A value brought towards a goal by at most a step. -/
def stepTo (a goal step : F64) : F64 := a.add ((goal.sub a).clamp step.neg step)

/-- Sector and rate limits on one force of the fall-back allocator [08 R253]. (log 68) -/
def fbLimit (r : Regs) (d : Dev) (i : Nat) (f : Force) : Force :=
  let t := d.thrD i
  let az := t.kind = 1 || t.kind = 2
  let dir := fun (f : Force) => wrapPi ((Config.atan2 f.fy f.fx).sub t.azZero.to64)
  let at_ := fun (m a : F64) => let th := t.azZero.to64.add a; ({ fx := m.mul (Config.cos th), fy := m.mul (Config.sin th) } : Force)
  let f := if az && !(f.mag.isZero) then (match sectorEdge d i (dir f) with | some e => at_ f.mag e | none => f) else f
  let st := ((r.f64 F.ALC_THR_F_RATE_V i).mul (d.limD i).fMaxPos.to64).mul d.cycleSec
  let p := (d.thr i).fPrev
  let f : Force := { fx := stepTo p.fx f.fx st, fy := if t.kind = 0 then F64.zero else stepTo p.fy f.fy st }
  if az && !(f.mag.isZero) then
    let a0 := (d.thr i).last.az.to64
    let da := wrapPi ((dir f).sub a0)
    let lim := (d.limD i).azRate.to64.mul d.cycleSec
    if da.abs.le lim then f else at_ f.mag (a0.add (da.clamp lim.neg lim))
  else f

/-- The fall-back allocator [08 R253]. (log 69) -/
def fbAllocate (r : Regs) (d : Dev) (tau : List F64) : List Force :=
  let l := fbPasses r d tau 3 d.maskIds []
  (List.range 16).map fun i => match l.find? fun (e : Nat × Force) => e.1 == i with | some (_, f) => fbLimit r d i f | none => {}

/-- The fall-back job of a cycle of a thrust mode: it needs its tile [01 R21, 08 R252]. -/
def fbJob (r : Regs) (e ed : List F64) (d : Dev) : Dev :=
  if (d.job 3).tiles.isEmpty || !(d.clk.lock.testBit 1) then d
  else
    let (tau, s) := fbLaw r e ed d
    let f := fbAllocate r d tau
    ranJob r 3 (modCtl (fun c => { c with tauFb := tau, integ := s, fbForce := f, fbValid := true }) d.takeFree)

/-- While the MPC is in control, the integrals are set so that the fall-back demand equals the handed-over body force, then clamped [08 R254]. -/
def setIntegrators (r : Regs) (d : Dev) : Dev :=
  modCtl (fun c => { c with integ := mapI (fun i s =>
    if d.joyRow i then s else clampInt r d i (((vc c.tauFb i).add s).sub (vc c.tau i))) c.integ }) d

/-- CAPABILITY: the handed-over body force is off the fall-back demand by more than 10 % of a row's available force for 30 s [08 R251]. (log 72) -/
def capability (d : Dev) : Dev :=
  let off := (List.range 3).any fun i => ((vc d.alc.avail i).div (F64.ofInt 10)).lt ((vc d.ctl.tau i).sub (vc d.ctl.tauFb i)).abs
  if !off then modCtl (fun c => { c with capAt := none, cap := false }) d
  else
    let t := d.ctl.capAt.getD d.tb0
    let due := !(d.ctl.cap) && decide (t + 30 * nsPerSec ≤ d.tb0)
    raiseIf due 0xA 5 (modCtl (fun c => { c with capAt := some t, cap := c.cap || due }) d)

/-- Leaving the thrust modes ends fall-back and clears what belongs to a run of cycles. (log 63) -/
def leaveThrust (r : Regs) (d : Dev) : Dev :=
  errFlags r [F64.zero, F64.zero, F64.zero] (modCtl (fun c => { c with
    fallback := false, shiftRun := 0, solvedRun := 0, integ := [F64.zero, F64.zero, F64.zero], fbValid := false, capAt := none, cap := false }) d)

/-! ### Handover [08 R249 R250] -/

/-- A thruster's force is handed over: zero thrust outside the mask or with a failed condition, zero force at the edge inside a sector [08 R235 R245 R249 R250]. (log 68) -/
def handForce (r : Regs) (f : Nat → Force) (ff : Nat → F32) (d : Dev) (i : Nat) : Dev :=
  let x := d.thr i
  let s := if !x.avail || lostCause r d i != 0 then zeroSet r d i
    else match x.edge with
      | some e => shaftSet r d i {} F64.zero e
      | none => forceSet r d i (f i)
  let sat := onBound r d i s.f
  let d := handThr r i s (ff i) (modThr i (fun x => { x with sat := sat }) d)
  raiseIf (sat && !x.sat) 0xB 4 d

/-- The inputs of fusion and the reported body force after a handover [07 R203, 08 R249]. -/
def handed (r : Regs) (d : Dev) : Dev :=
  let d := modCtl (fun c => { c with tau := wrenchOf d fun i => (d.thr i).last.f }) d
  setInputs { thr := wrenchOf d (measuredForce r d), wind := d.ctl.wind } d

end Sys2Proof.Machine
end

