-- ==== Sys2Proof/Machine/Qp.lean ====
section
/-! DEFINITION. The active-set run of the solver: the constraint rows of a problem, violations, the start, the iterations, where they end, and how far they have got at the deadline [08 R244 to R246, 09 R260 to R270 R277]. The kernels' linear algebra is `Config.kktPoint` and `Config.kktStep`. -/

namespace Sys2Proof.Machine

/-! ### Constraint rows [08 R232 R244 to R246] -/

/-- A row of the problem in scaled variables: what its thruster's variables at its step and at the step before add up to is at most the bound [08 R244, 09 R264]. -/
structure QpRow where
  /-- step -/
  step : Nat
  /-- number within the step, thruster by thruster -/
  idx : Nat
  /-- first variable of its thruster within a step -/
  ofs : Nat
  /-- coefficients at its step -/
  cur : List F64
  /-- coefficients at the step before -/
  prev : List F64
  /-- bound -/
  bound : F64
  deriving DecidableEq, Repr

/-- KIND of a thruster's data in a problem. -/
def qpKind (l : List F64) : Nat := (vc l 0).floor.toNat

/-- Number of variables of a thruster's data [08 R230]. -/
def qpVars (l : List F64) : Nat := if qpKind l = 0 then 1 else 2

/-- F_REF of a problem, by which its variables are scaled [08 R242, 09 R264]. -/
def qpRef (p : Problem) : F64 := vc p.model 6

/-- Time from the handover to the end of step `k`, s [08 R244]. -/
def qpTime (p : Problem) (k : Nat) : F64 := (p.steps.take (k + 1)).foldl F64.add F64.zero

/-- Half-angles of an azimuth's cone on the falling and the rising side after a time: the reach of the rate, at most a right angle, cut back to the edge of a sector that the side overlaps [08 R244 R245]. (log 74) -/
def coneSides (p : Problem) (i : Nat) (l : List F64) (t : F64) : F64 × F64 :=
  let az := vc p.az i
  let b := F64.min (F64.pi.div F64.two) ((vc l 6).mul t)
  (p.sectors.filter fun (e : Nat × F64 × F64) => e.1 == i).foldl (fun (a : F64 × F64) (e : Nat × F64 × F64) =>
    (F64.min a.1 (wrapTwoPi (az.sub e.2.2)), F64.min a.2 (wrapTwoPi (e.2.1.sub az)))) (b, b)

/-- Inward normals of a cone's two sides, in the body frame: rising side, then falling side [08 R244]. -/
def coneNormals (p : Problem) (i : Nat) (l : List F64) (t : F64) : List (F64 × F64) :=
  let th := (vc l 3).add (vc p.az i)
  let (lo, up) := coneSides p i l t
  let h := F64.pi.div F64.two
  let dir := fun (a : F64) => (Config.cos a, Config.sin a)
  [dir ((th.add up).sub h), dir ((th.sub lo).add h)]

/-- Limit rows of a thruster: tunnel limit, polygon, or rudder envelope, each with its bound in N; inside a sector an azimuth's force is held at zero [08 R232 R244 R245]. (log 74) -/
def limitRows (p : Problem) (i : Nat) (l : List F64) : List (List F64 × F64) :=
  let z := F64.zero
  let o := F64.one
  let (fp, fn) := p.fLim.getD i (z, z)
  match qpKind l with
  | 0 => [([o], fp), ([o.neg], fn)]
  | 3 =>
    let u := vc l 8
    if (vc l 9).isZero then [([o.neg, z], fn), ([o, z], z), ([z, o], z), ([z, o.neg], z)]
    else [([o.neg, z], z), ([o, z], fp), ([u.neg, o], z), ([u.neg, o.neg], z)]
  | _ =>
    let s := F64.pi.div (F64.ofInt 16)
    let b := if p.inSector.testBit i then z else fp.mul (Config.cos s)
    (List.range 16).map fun (k : Nat) =>
      let a := (vc l 3).add (s.mul (F64.ofInt (2 * k + 1)))
      ([Config.cos a, Config.sin a], b)

/-- Corners of a convex set cut by a half-plane through the origin. -/
def clipHalf (n : F64 × F64) (v : List (F64 × F64)) : List (F64 × F64) :=
  let d := fun (a : F64 × F64) => (a.1.mul n.1).add (a.2.mul n.2)
  (sidesOf v).flatMap fun (a, b) =>
    let x := d a
    let y := d b
    let cross := let t := x.div (x.sub y); (a.1.add (t.mul (b.1.sub a.1)), a.2.add (t.mul (b.2.sub a.2)))
    if F64.zero.le x then (if F64.zero.le y then [a] else [a, cross]) else if F64.zero.lt y then [cross] else []

/-- Corners of a thruster's force set at step 0, in N: the limits, for an azimuth within its cone [08 R230 R246]. (log 74) -/
def presentSet (p : Problem) (i : Nat) (l : List F64) : List (F64 × F64) :=
  let z := F64.zero
  let (fp, fn) := p.fLim.getD i (z, z)
  match qpKind l with
  | 0 => [(fn.neg, z), (fp, z)]
  | 3 => if (vc l 9).isZero then [(fn.neg, z), (z, z)] else let h := (vc l 8).mul fp; [(z, z), (fp, h.neg), (fp, h)]
  | _ =>
    if p.inSector.testBit i then [(z, z)]
    else
      let v := (List.range 16).map fun (k : Nat) => let a := (vc l 3).add ((F64.pi.mul (F64.ofInt k)).div (F64.ofInt 8)); (fp.mul (Config.cos a), fp.mul (Config.sin a))
      (coneNormals p i l (qpTime p 0)).foldl (fun v n => clipHalf n v) v

/-- Nearest point of a convex set given by its corners; the origin of an empty list. -/
def nearestOf (v : List (F64 × F64)) (f : Force) : Force :=
  let cross := fun (e : (F64 × F64) × (F64 × F64)) =>
    ((e.2.1.sub e.1.1).mul (f.fy.sub e.1.2)).sub ((e.2.2.sub e.1.2).mul (f.fx.sub e.1.1))
  let near := fun (e : (F64 × F64) × (F64 × F64)) => if e.1 = e.2 then ({ fx := e.1.1, fy := e.1.2 } : Force) else nearOn e f
  if !(v.isEmpty) && (sidesOf v).all fun e => F64.zero.lt (cross e) then f
  else
    match (sidesOf v).map near with
    | [] => {}
    | a :: l => l.foldl (fun b c => if (c.dist f).lt (b.dist f) then c else b) a

/-- Largest change of each variable of a thruster over step `k`, N; at step 0 wide enough to reach the present set from f₋₁ [08 R244 R246]. (log 74) -/
def rateReach (p : Problem) (i : Nat) (l : List F64) (k : Nat) : List F64 :=
  let x := ((vc l 5).mul (vc l 4)).mul (vc p.steps k)
  if k = 0 then
    let f := at' p.fPrev i
    let q := nearestOf (presentSet p i l) (if qpVars l = 1 then { fx := f.fx } else f)
    [F64.max x (q.fx.sub f.fx).abs, F64.max x (q.fy.sub f.fy).abs].take (qpVars l)
  else List.replicate (qpVars l) x

/-- Coefficient 1 or -1 on variable `c` of `n`. -/
def unitRow (n c : Nat) (s : F64) : List F64 := (List.range n).map fun i => if i = c then s else F64.zero

/-- Rate rows of a thruster at step `k`: each variable up, then down; at step 0 against f₋₁ [08 R244]. -/
def rateRows (p : Problem) (i : Nat) (l : List F64) (k : Nat) : List (List F64 × List F64 × F64) :=
  let n := qpVars l
  let f := at' p.fPrev i
  (mapI (fun c x =>
    let y := if c = 0 then f.fx else f.fy
    [F64.one, F64.one.neg].map fun s =>
      if k = 0 then (unitRow n c s, [], x.add (s.mul y)) else (unitRow n c s, unitRow n c s.neg, x)) (rateReach p i l k)).flatten

/-- Rows of one thruster at step `k`, in the order of R244: limits, rates, cone, in scaled variables. (log 74) -/
def thrusterRows (p : Problem) (i : Nat) (l : List F64) (k : Nat) : List (List F64 × List F64 × F64) :=
  let cone := if qpKind l = 1 || qpKind l = 2 then (coneNormals p i l (qpTime p k)).map fun (a, b) => ([a.neg, b.neg], ([] : List F64), F64.zero) else []
  let all : List (List F64 × List F64 × F64) := ((limitRows p i l).map fun (c, b) => (c, ([] : List F64), b)) ++ rateRows p i l k ++ cone
  all.map fun (c, q, b) => (c, q, b.div (qpRef p))

/-- Rows of step `k`: thruster by thruster in ID order [09 R265]. (log 74) -/
def stepRows (p : Problem) (k : Nat) : List QpRow :=
  (p.thr.foldl (fun (a : Nat × List QpRow) (e : Nat × List F64) =>
    (a.1 + qpVars e.2, a.2 ++ mapI (fun j (c, q, b) => { step := k, idx := a.2.length + j, ofs := a.1, cur := c, prev := q, bound := b }) (thrusterRows p e.1 e.2 k))) (0, [])).2

/-- All rows of a problem, in row order. -/
def qpRows (p : Problem) : List QpRow := (List.range p.steps.length).flatMap (stepRows p)

/-! ### Violations [09 R264 R267 R268] -/

/-- Scaled violation of a row at scaled variables, in binary64. -/
def QpRow.viol (w : QpRow) (z : List (List F64)) : F64 :=
  let part := fun (k : Nat) (c : List F64) => vDot c ((z.getD k []).drop w.ofs)
  ((part w.step w.cur).add (if w.step = 0 then F64.zero else part (w.step - 1) w.prev)).sub w.bound

/-- The inactive row with the largest scaled violation, the lowest of equal ones [09 R268]. -/
def worstRow (rows : List QpRow) (act : List (Nat × Nat)) (z : List (List F64)) : Option ((Nat × Nat) × F64) :=
  (rows.filter fun (w : QpRow) => !(act.contains (w.step, w.idx))).foldl (fun (b : Option ((Nat × Nat) × F64)) (w : QpRow) =>
    let v := w.viol z
    match b with
    | some x => if x.2.lt v then some ((w.step, w.idx), v) else b
    | none => some ((w.step, w.idx), v)) none

/-- Largest scaled violation of a point over rows that are not active, 0 where none is violated. (log 74) -/
def violOf (rows : List QpRow) (act : List (Nat × Nat)) (z : List (List F64)) : F32 :=
  match worstRow rows act z with | some x => (F64.max F64.zero x.2).to32 | none => F32.zero

/-- Scaled variables of forces by step and thruster [09 R264]. -/
def scaleSteps (p : Problem) (l : List (List Force)) : List (List F64) :=
  l.map fun fs => p.thr.flatMap fun (e : Nat × List F64) =>
    let f := at' fs e.1
    ([f.fx, f.fy].take (qpVars e.2)).map fun v => v.div (qpRef p)

/-- Forces of scaled variables: 16 thrusters for each step, none outside the mask. -/
def unscaleSteps (p : Problem) (z : List (List F64)) : List (List Force) :=
  z.map fun v =>
    let l := (p.thr.foldl (fun (a : Nat × List (Nat × Force)) (e : Nat × List F64) =>
      let f := fun (c : Nat) => (vc v (a.1 + c)).mul (qpRef p)
      (a.1 + qpVars e.2, a.2 ++ [(e.1, { fx := f 0, fy := if qpVars e.2 = 1 then F64.zero else f 1 })])) (0, [])).2
    (List.range 16).map fun i => match l.find? fun (e : Nat × Force) => e.1 == i with | some (_, f) => f | none => {}

/-! ### Iterations [09 R261 R268 R269 R277] -/

/-- Rows of an active set. -/
def iterRows (x : QpIter) : List (Nat × Nat) := x.act.map Prod.fst
/-- An iterate's variables in binary64. -/
def iterZ (x : QpIter) : List (List F64) := x.z.map fun v => v.map F32.to64
/-- Active rows of each step. -/
def actsOf (p : Problem) (l : List (Nat × Nat)) : List Nat := (List.range p.steps.length).map fun k => l.countP fun (e : Nat × Nat) => e.1 == k

/-- Bound of a full factorisation, ns [09 R261]. -/
def factorNs (p : Problem) (l : List (Nat × Nat)) : Nat :=
  let v := (p.thr.map fun (e : Nat × List F64) => qpVars e.2).foldl (· + ·) 0
  ((actsOf p l).map fun a => 3000 + ((12 + v + a) ^ 3 + 6) / 7).foldl (· + ·) 0
/-- Bound of one update with its step, ns [09 R261]. -/
def updateNs (p : Problem) : Nat := 4000 + 900 * p.steps.length
/-- Bound of the assembly, ns [09 R261]. -/
def assemblyNs (p : Problem) : Nat := 20000 + 1500 * p.steps.length * p.thr.length

/-- What the kernels' small pivots leave on an iterate [09 R273 R274]. -/
def iterNote (x : QpIter) (p : Problem) (cols : List Nat) (reg : Bool) (sq : Nat) : QpIter :=
  { x with
    reg := reg, pivots := x.pivots + cols.length, sqrtNeg := x.sqrtNeg + sq
    col := cols.getLast?.getD x.col, acts := if cols.isEmpty then x.acts else actsOf p (iterRows x) }

/-- A row goes before another: the lower step, then the lower number [09 R265 R268]. -/
def rowBefore (a b : Nat × Nat) : Bool := decide (a.1 < b.1) || (a.1 == b.1 && decide (a.2 < b.2))

/-- A row enters the active set at its place. -/
def putRow (e : (Nat × Nat) × F32) : List ((Nat × Nat) × F32) → List ((Nat × Nat) × F32)
  | [] => [e]
  | a :: l => if rowBefore e.1 a.1 then e :: a :: l else a :: putRow e l

/-- The point of an active set after a number of updates. -/
def pointAt (p : Problem) (x : QpIter) (l : List (Nat × Nat)) : QpIter :=
  let k := Config.kktPoint p x.upd l
  iterNote { x with z := k.z, act := l.zip (k.mult ++ List.replicate l.length F32.zero) } p k.cols k.reg k.sqrtNeg

/-- The start: the full factorisation of the starting active set, then its rows whose first multiplier is negative are dropped one by one, each an update [09 R260 R277]. (log 73) -/
def qpStart (p : Problem) : QpIter :=
  let first := pointAt p { ns := assemblyNs p + factorNs p p.start } p.start
  let bad := (first.act.filter fun (e : (Nat × Nat) × F32) => e.2.lt F32.zero).map Prod.fst
  bad.foldl (fun (x : QpIter) (w : Nat × Nat) =>
    pointAt p { x with upd := x.upd + 1, since := x.since + 1, ns := x.ns + updateNs p } ((iterRows x).filter fun r => r != w)) first

/-- Every active multiplier is at least minus the tolerance, and no inactive row is violated by more than its tolerance [09 R268]. -/
def qpConverged (p : Problem) (rows : List QpRow) (x : QpIter) : Bool :=
  let feas := (F32.ofBits (nth p.tol 2 0)).to64
  let opt := (F32.ofBits (nth p.tol 3 0)).to64
  (match worstRow rows (iterRows x) (iterZ x) with | some w => w.2.le feas | none => true) && x.act.all fun (e : (Nat × Nat) × F32) => opt.neg.le e.2.to64

/-- The active row whose multiplier reaches 0 first on the way to the full step, and the part of the step up to there; the lowest of equal ones [09 R268]. -/
def firstBlocking (act : List ((Nat × Nat) × F32)) (dm : List F32) : Option ((Nat × Nat) × F32) :=
  (act.zip (dm ++ List.replicate act.length F32.zero)).foldl (fun (b : Option ((Nat × Nat) × F32)) e =>
    if (e.1.2.add e.2).lt F32.zero then
      let t := e.1.2.div e.2.neg
      match b with
      | some x => if t.lt x.2 then some (e.1.1, t) else b
      | none => some (e.1.1, t)
    else b) none

/-- One iteration: the most violated row is added, with the full step, or the partial step to the first multiplier that reaches 0, whose row is dropped [09 R268]; a full factorisation is counted when REFACT updates have been made since the last, or when the update found a small pivot [09 R269 R274]. (log 73, 74) -/
def qpIterate (p : Problem) (rows : List QpRow) (x : QpIter) : QpIter :=
  match worstRow rows (iterRows x) (iterZ x) with
  | none => x
  | some (w, _) =>
    let k := Config.kktStep p x w
    let move := fun (t : F32) => List.zipWith (fun (a b : List F32) => List.zipWith (fun u v => u.add (t.mul v)) a b) x.z k.dz
    let mult := fun (t : F32) => List.zipWith (fun (e : (Nat × Nat) × F32) v => (e.1, e.2.add (t.mul v))) x.act (k.dm ++ List.replicate x.act.length F32.zero)
    let again := x.forced || decide (nth p.tol 1 0 ≤ x.since)
    let y : QpIter := { x with
      upd := x.upd + 1, since := if again then 1 else x.since + 1, forced := k.small
      ns := x.ns + updateNs p + (if again then factorNs p (iterRows x) else 0) }
    let y := match firstBlocking x.act k.dm with
      | none => { y with z := move F32.one, act := putRow (w, k.add) (mult F32.one) }
      | some (b, t) => { y with z := move t, act := (mult t).filter fun (e : (Nat × Nat) × F32) => e.1 != b }
    iterNote y p k.cols k.reg k.sqrtNeg

/-- Iterations up to a number of them, or until one has converged. (log 73) -/
def qpLoop (p : Problem) (rows : List QpRow) : Nat → QpIter → QpIter
  | 0, x => x
  | n + 1, x => if qpConverged p rows x then x else qpLoop p rows n (qpIterate p rows x)

/-- The solution of an iterate [09 R268 R274]. -/
def iterSolution (x : QpIter) (p : Problem) (rows : List QpRow) : Solution :=
  { steps := unscaleSteps p (iterZ x), active := (iterRows x), regularised := x.reg, viol := violOf rows (iterRows x) (iterZ x) }

/-- The iterate at which a solve ends when it is left to run: converged, or after MAX_ITER updates [09 R268 R270]. (log 73) -/
def qpLast (p : Problem) : QpIter :=
  let s := qpStart p
  qpLoop p (qpRows p) (nth p.tol 0 0 - s.upd) s

/-- How a solve ends when it is left to run [09 R268 R270]. (log 73) -/
def qpEnd (p : Problem) : SolveEnd :=
  let rows := qpRows p
  let x := qpLast p
  { limit := !(qpConverged p rows x), sol := iterSolution x p rows, iters := x.upd, pivots := x.pivots, col := x.col, acts := x.acts, sqrtNeg := x.sqrtNeg }

/-- The iterate after a number of iterations of a solve. -/
def qpAfter (p : Problem) (n : Nat) : QpIter := qpLoop p (qpRows p) n (qpStart p)

/-- What the bounds of R261 guarantee to be complete by a time, at most `n` iterations: 0 nothing, 1 the assembly, 2 the start, and one more for each iteration [09 R261]. (log 73) -/
def qpSure (p : Problem) (ns n : Nat) : Nat :=
  if ns < assemblyNs p then 0
  else if ns < (qpStart p).ns then 1
  else 2 + (List.range n).countP fun (k : Nat) => decide ((qpAfter p (k + 1)).ns ≤ ns)

/-- How far a solve that has not ended has got by a time: the run times within the bounds are open, so the place it has reached is a free value between what the bounds guarantee and its end; before the start is complete it has no iterate, and a factorisation is in progress in the start and, by a free choice, after an update that found a small pivot [09 R261 R269 R279 R280]. (log 5, 73) -/
def qpAt (free ns : Nat) (p : Problem) : SolveAt :=
  let s := qpStart p
  let n := (qpLast p).upd - s.upd
  let lo := min (qpSure p ns (n - 1)) (n + 1)
  let k := lo + Config.freeNat free 0x0904 % (n + 2 - lo)
  if k ≤ 1 then { factor := k == 1 }
  else
    let x := qpAfter p (k - 2)
    { factor := x.forced && Config.freeNat free 0x0905 % 2 == 1
      iterate := if 0 < x.upd then some (iterSolution x p (qpRows p)) else none
      iters := x.upd, pivots := x.pivots, col := x.col, acts := x.acts, sqrtNeg := x.sqrtNeg }

end Sys2Proof.Machine
end

