-- ==== Sys2Proof/Machine/Solver.lean ====
section
/-! DEFINITION. The solver engine: the problem that a cycle hands to the solve job, the start, how it ends, what the deadline takes, and the jointed bodies [09 R260 to R288]. The active-set run itself is Machine/Qp.lean. -/

namespace Sys2Proof.Machine

/-- Solver state changed. -/
def modSlv (f : SlvSt → SlvSt) (d : Dev) : Dev := { d with slv := f d.slv }

/-! ### The problem [08 R239 to R246, 09 R263 R276] -/

/-- TB0 instant of this cycle's deadline, ns [01 R16]. -/
def deadlineNs (r : Regs) (d : Dev) : Nat := d.mde.cyc.cutTb0 + d.mde.cyc.periodNs / 100 * r.get F.CTL_DEADLINE_D

/-- Length of a prediction step after step 0, ns [08 R239]. -/
def hstepNs (r : Regs) : Nat := r.get F.CTL_HOR_HSTEP * 100000000

/-- TB0 ns from the deadline to the end of step `k` [08 R239]. -/
def stepEnd (r : Regs) (d : Dev) (k : Nat) : Nat := d.mde.cyc.periodNs + k * hstepNs r

/-- Constraint rows of a thruster at one step: limits or polygon or envelope, rates, and a cone [08 R232 R244, 09 R276]. (log 74) -/
def thrRows (d : Dev) (i : Nat) : Nat :=
  match (d.thrD i).kind with
  | 0 => 4
  | 3 => 8
  | _ => 22

/-- The signature of this cycle's problem [09 R276]. (log 74) -/
def signature (r : Regs) (d : Dev) : Signature :=
  let n := horizon r d
  let sum := fun (f : Nat → Nat) => (d.maskIds.map f).foldl (· + ·) 0
  { vars := n * sum (thrVars d), n := n, app := d.mde.mode == .transfer && !(d.descr.app.isEmpty), mask := d.thrMask, rows := n * sum (thrRows d)
    astern := d.maskIds.foldl (fun m i => setBit m i ((d.thrD i).kind == 3 && !((d.thr i).ahead))) 0 }

/-- TB0 instant of the latest State record of an object. -/
def recOut (d : Dev) (o : Nat) : Nat := ((at' d.fus.recs o).getD 2 0).toNat + 2 ^ 32 * ((at' d.fus.recs o).getD 3 0).toNat

/-- A state brought over a time in equal Runge-Kutta steps of at most T/4. -/
def bring (f : List F64 → List F64) (period ns : Nat) (x : List F64) : List F64 :=
  if ns = 0 then x
  else
    let n := (4 * ns + period - 1) / max 1 period
    foldN n (fun _ x => rk4 f ((secOfNs ns).div (F64.ofInt n)) x) x

/-- The state of object 0 at its State record in the states of R202, waves left out [08 R240]. -/
def ownStart (d : Dev) : List F64 :=
  let x := ownLf d
  let (cu, cv) := toBody (vc x 2) (recF d 0 20) (recF d 0 21)
  let z := F64.zero
  [vc x 0, vc x 1, vc x 2, (vc x 3).sub cu, (vc x 4).sub cv, vc x 5, recF d 0 17, recF d 0 18, recF d 0 19, z, z, z, z, z, z, recF d 0 22, recF d 0 20, recF d 0 21]

/-- The initial state at the deadline, with the set-points of the previous handover [08 R241]. -/
def ownAtDeadline (r : Regs) (d : Dev) : List F64 :=
  let p := (ownPar r d).with { thr := wrenchOf d fun i => (d.thr i).last.f, wind := d.ctl.wind }
  (bring (ownRates p) d.mde.cyc.periodNs (deadlineNs r d - recOut d 0) (ownStart d)).take 6

/-- Profile references at the ends of the steps: each cut of the horizon is a whole number of cycles after the deadline [08 R242]. (log 64) -/
def profRefs (r : Regs) (d : Dev) : List CtlRef :=
  let t := secOfNs d.mde.cyc.periodNs
  let dir := r.get F.MDE_SP_CTL_TURN_DIR
  let part := secOfNs (d.mde.cyc.periodNs / 100 * r.get F.CTL_DEADLINE_D : Nat)
  let m := hstepNs r / max 1 d.mde.cyc.periodNs
  let at_ := fun (p : Profile) => ((p.stepLin part).stepHdg part dir).ref
  let p0 := d.mde.prof.ahead dir t 1
  ((List.range (horizon r d - 1)).foldl (fun (a : Profile × List CtlRef) _ => let p := a.1.ahead dir t m; (p, a.2 ++ [at_ p])) (p0, [at_ p0])).2

/-- The followed object at the end of step `k`, with its yaw rate and acceleration held: N, E, ψ, vN, vE, r [08 R243]. -/
def tgtAhead (r : Regs) (d : Dev) (k : Nat) : List F64 :=
  let o := d.mde.followObj
  let t := tgtNow d o
  let x := bring tgtRates d.mde.cyc.periodNs (deadlineNs r d + stepEnd r d k - recOut d o) [vc t 0, vc t 1, vc t 3, vc t 4, vc t 2, vc t 5, recF d o 17]
  [vc x 0, vc x 1, vc x 4, vc x 2, vc x 3, vc x 5]

/-- The references of the steps in the earth frame [08 R242 R243]. -/
def solveRefs (r : Regs) (d : Dev) : List (List F64) :=
  (mapI (fun k (c : CtlRef) => if d.mde.mode == .follow then c.on (tgtAhead r d k) else c) (profRefs r d)).map fun (c : CtlRef) => [c.n, c.e, c.h, c.vn, c.ve, c.w]

/-- Number of a mode, MDE_STATUS.MODE [03 R69]. -/
def Mode.num : Mode → Nat
  | .dormant => 0 | .harbour => 1 | .manual => 2 | .joystick => 3 | .autopos => 4 | .follow => 5 | .transfer => 6

/-- Weights of page CTL, in register order. -/
def ctlWeights : List Fd :=
  [F.CTL_Q_SURGE_V, F.CTL_Q_SWAY_V, F.CTL_Q_HDG_V, F.CTL_Q_U_V, F.CTL_Q_V_V, F.CTL_Q_R_V, F.CTL_R_F_V, F.CTL_R_DF_V, F.CTL_Q_TERM_V, F.CTL_TRANSFER_GAIN_V, F.CTL_W_TAU_V]

/-- Data of a thruster in the problem. -/
def thrData (r : Regs) (d : Dev) (i : Nat) : List F64 :=
  let t := d.thrD i
  [F64.ofInt t.kind, t.x.to64, t.y.to64, t.azZero.to64, (d.limD i).fMaxPos.to64, r.f64 F.ALC_THR_F_RATE_V i, (d.limD i).azRate.to64,
   r.f64 F.ALC_THR_W_V i, r.f64 F.ALC_THR_RUD_V i, F64.ofInt (b2n ((d.thr i).ahead))]

/-- The present azimuths and the sectors they lie in are taken at the cut [08 R245, 09 R263]. -/
def azimuthsCut (r : Regs) (d : Dev) : Dev :=
  modSlv (fun s => { s with problem := { s.problem with
    az := (List.range 16).map (measuredAz r d)
    inSector := (List.range 16).foldl (fun m i => setBit m i ((d.thr i).edge.isSome)) 0 } }) d

/-- The problem of this cycle with a starting active set [09 R263]. (log 73) -/
def problemNow (r : Regs) (d : Dev) (start : List (Nat × Nat)) : Problem :=
  let p := ownPar r d
  { mode := d.mde.mode.num, autoHdg := d.mde.autoHdg, periodNs := d.mde.cyc.periodNs, sig := signature r d
    x0 := ownAtDeadline r d
    held := [recF d 0 17, recF d 0 18, recF d 0 19, recF d 0 22, recF d 0 20, recF d 0 21]
    wind := d.ctl.wind
    react := if d.mde.mode == .transfer then d.slv.react.map F32.to64 else []
    refs := solveRefs r d
    demand := if d.mde.mode == .joystick then joyDemand r d else []
    avail := d.alc.avail
    weights := ctlWeights.map fun (f : Fd) => r.f32 f
    az := d.slv.problem.az, inSector := d.slv.problem.inSector
    fPrev := (List.range 16).map fun i => (d.thr i).fPrev
    fLim := (List.range 16).map fun i => (fPos r d i, fNeg r d i)
    start := start
    thr := d.maskIds.map fun i => (i, thrData r d i)
    sectors := d.maskIds.flatMap fun i => (thrSectors d i).map fun (e : F64 × F64) => (i, e.1, e.2)
    model := [p.mX, p.mY, p.iN, p.tX, p.tY, p.tN, fRef d]
    steps := (List.range (horizon r d)).map fun k => secOfNs (if k = 0 then d.mde.cyc.periodNs else hstepNs r : Nat)
    tol := [r.get F.SLV_CFG_MAX_ITER, r.get F.SLV_CFG_REFACT, (r.f32 F.SLV_FEAS_TOL_V).nat, (r.f32 F.SLV_OPT_TOL_V).nat, (r.f32 F.SLV_REG_DELTA_V).nat] }

/-! ### Start [09 R277 R278] -/

/-- The active set of the solution before, shifted one step: rows of step 0 drop out, and those of the last step also stay [09 R277]. (log 74) -/
def shiftActive (n : Nat) (l : List (Nat × Nat)) : List (Nat × Nat) :=
  (l.filter fun (e : Nat × Nat) => 0 < e.1).map (fun (e : Nat × Nat) => (e.1 - 1, e.2)) ++ l.filter fun (e : Nat × Nat) => e.1 + 1 == n

/-- The solve can run: its tiles, their clock, and the State records it needs [01 R21, 10 R302]. -/
def solveReady (d : Dev) : Bool :=
  let here := fun (o : Nat) => decide ((d.job (7 + o)).tiles ≠ []) && !((d.job (7 + o)).lost)
  d.mde.mode.thrust && !((d.job 2).tiles.isEmpty) && !((d.job 2).lost) && d.clk.lock.testBit 1 &&
    !((d.job 0).tiles.isEmpty) && !((d.job 0).lost) && (d.mde.mode != .follow || here d.mde.followObj)

/-- The solve of a cycle starts, warm or cold; the structure is compared before a warm start only [09 R260 R277 R278]. (log 73, 74) -/
def solveStart (r : Regs) (d : Dev) : Dev :=
  let n := horizon r d
  let d := modCtl (fun c => { c with nUsed := n }) d
  if !(solveReady d) then d
  else
    let sig := signature r d
    let en := r.bit F.SLV_CFG_WARM_EN
    let first := d.slv.first
    let reject := en && !first && sig != d.slv.sig
    let cold := !en || first || reject
    let start := if cold then [] else shiftActive n ((d.slv.prev.getD {}).active)
    let asm := Config.freeNat d.free 0x0901 % (20 + (3 * n * d.maskIds.length + 1) / 2 + 1)
    let p := problemNow r d start
    let d := modSlv (fun s => { s with
      stage := .running, ran := true, first := false, problem := p, result := none, sig := sig, startTick := d.now, cold := cold, warmReject := reject
      asmUs := asm, cntCold := if cold then wrapInc 16 s.cntCold else s.cntCold, cntReject := if reject then wrapInc 16 s.cntReject else s.cntReject }) d.takeFree
    raiseIf reject 8 2 d

/-! ### Small pivots [09 R273 to R275] -/

/-- What a column of the KKT matrix stands for [09 R265]. -/
inductive KktCol where
  | model | force (v : Nat) | row
  deriving DecidableEq, Repr

/-- The column of a matrix with `v` force variables and given active rows in each step. -/
def kktCol (v : Nat) : List Nat → Nat → KktCol
  | [], _ => .model
  | a :: l, c =>
    if c < 6 then .model
    else if c < 6 + v then .force (c - 6)
    else if c < 12 + v then .model
    else if c < 12 + v + a then .row
    else kktCol v l (c - (12 + v + a))

/-- CAUSE and THR of a column [09 R275]. -/
def pivotCause (r : Regs) (d : Dev) (acts : List Nat) (col : Nat) : Nat × Nat :=
  let ids := d.maskIds.flatMap fun i => List.replicate (thrVars d i) i
  match kktCol ids.length acts col with
  | .force v => (if d.alc.noSpan || d.alc.sigmaMin.lt (F64.two.mul (r.f64 F.ALC_SPAN_TOL_V)) then 1 else 2, ids.getD v 0)
  | .row => (3, 0)
  | .model => (4, 0)

/-- What a solve leaves in the counters when it ends or is abandoned [09 R273 R274 R288]. -/
def noteSolve (r : Regs) (iters pivots col : Nat) (acts : List Nat) (sqrtNeg us : Nat) (d : Dev) : Dev :=
  let first := decide (0 < pivots) && d.slv.pivotPrev == 0
  let (cause, thr) := pivotCause r d acts col
  let d := modSlv (fun s => { s with
    iters := iters, pivotCnt := pivots, pivotPrev := pivots, cntPivot := (s.cntPivot + pivots) % 2 ^ 16, sqrtNeg := (s.sqrtNeg + sqrtNeg) % 2 ^ 16, solveUs := us
    pivotCol := if pivots = 0 then s.pivotCol else col
    cause := if pivots = 0 then s.cause else cause, causeThr := if pivots = 0 then s.causeThr else thr, causeJoint := if pivots = 0 then s.causeJoint else 0 }) d
  raiseIf first 8 3 d

/-- The run times of a solve that ended, in its job's registers [10 JOB_TIME]. (log 73) -/
def solveTimed (us : Nat) (d : Dev) : Dev :=
  let d := (d.job 2).tiles.foldl (fun d t => modTile t (fun x => { x with runs := (false :: x.runs).take 100 }) d) d
  modJob 2 (fun x => { x with lastUs := us % 2 ^ 16, maxUs := max x.maxUs (us % 2 ^ 16), lastOver := false }) d

/-- Scaled violation within SLV_FEAS_TOL. -/
def feasible (r : Regs) (s : Solution) : Bool := s.viol.le (r.f32 F.SLV_FEAS_TOL_V)

/-- SOLVE_CONVERGED: the solve ends `us` microseconds after its start, by convergence or at MAX_ITER; an end at the deadline's clock edge or after it is not used [09 R270 R280]. (log 73) -/
def solveConverged (us : Nat) (r : Regs) (d : Dev) : Dev :=
  let dl := d.mde.cyc.cutTick + d.mde.cyc.periodNs / 400 * r.get F.CTL_DEADLINE_D
  if !(d.mde.cyc.running) || d.slv.stage != .running || d.mde.cyc.deadlineDone || decide (dl ≤ d.now) || (d.job 2).tiles.isEmpty ||
      !(d.clk.lock.testBit 1) || decide (d.now < d.slv.startTick + 250 * us) then d
  else
    let e := qpEnd d.slv.problem
    let stage := if !e.limit then SolveStage.converged else if feasible r e.sol then .limit else .limitInfeasible
    solveTimed us (noteSolve r e.iters e.pivots e.col e.acts e.sqrtNeg us (modSlv (fun s => { s with stage := stage, result := some e.sol }) d))

/-- SOLVE_CONVERGED [09 R270]. -/
def execSolveConverged (us : Nat) (s : State) : Host.Outcome State Fault Refusal := onDev s (solveConverged us)

/-! ### The deadline [09 R279 R281] -/

/-- The shifted solution: each step takes the next one's forces, the last repeats, and thrusters outside the mask have none; f₋₁ over every step where no earlier solution exists [09 R281]. Its violation is that of this cycle's rows, and a free value where none were assembled (log 5). (log 74) -/
def shiftedSolution (r : Regs) (d : Dev) : Solution :=
  let n := horizon r d
  let p := d.slv.problem
  let keep := fun (l : List Force) => mapI (fun i (f : Force) => if (d.thr i).avail then f else {}) l
  let viol := fun (l : List (List Force)) => if d.slv.ran then violOf (qpRows p) [] (scaleSteps p l) else Config.freeF32 d.free 0x0902
  match d.slv.prev with
  | none =>
    let l := List.replicate n (keep ((List.range 16).map fun i => (d.thr i).fPrev))
    { steps := l, viol := viol l }
  | some s =>
    let m := s.steps.length
    let l := ((s.steps.drop 1) ++ s.steps.drop (m - 1)).map keep
    { s with steps := l, active := shiftActive m s.active, viol := viol l }

/-- Outcome, REASON and the solution taken at the deadline, and what an unfinished solve leaves [09 R279 R280]. (log 74) -/
def deadlineOutcome (r : Regs) (d : Dev) : Nat × Nat × Solution × Dev :=
  let shifted := fun (c : Nat) (d : Dev) => (3, c, shiftedSolution r d, d.takeFree)
  match d.slv.stage, d.slv.result with
  | .converged, some s => (1, 1, s, d)
  | .limit, some s => (2, 3, s, d)
  | .limitInfeasible, _ => shifted 6 d
  | .running, _ =>
    if (d.job 2).tiles.isEmpty || !(d.clk.lock.testBit 1) then shifted 7 d
    else
      let ns := (d.now - d.slv.startTick) * 4
      let a := qpAt d.free ns d.slv.problem
      let d := solveTimed (ns / 1000) (noteSolve r a.iters a.pivots a.col a.acts a.sqrtNeg (ns / 1000 % 2 ^ 16) d.takeFree)
      if a.factor then shifted 4 (raise 8 5 (modSlv (fun s => { s with cntAband := wrapInc 16 s.cntAband }) d))
      else match a.iterate with
        | some s => if feasible r s then (2, 2, s, d) else shifted 5 d
        | none => shifted 5 d
  | _, _ => shifted 7 d

/-- The regularisation run: PERSIST_REG at every tenth consecutive regularised cycle; a singular appendage counts as one of cause 5, whose joint the spec does not single out (log 5) [09 R275 R285]. -/
def regularisedRun (r : Regs) (reg : Bool) (d : Dev) : Dev :=
  let n := if reg then d.slv.regRun + 1 else 0
  let d := modSlv (fun s => { s with regularised := reg, regRun := n }) d
  if n != 0 && n % 10 == 0 then record r .slvPersistReg { p0 := d.slv.pivotCol, p1 := d.slv.cause } (raise 8 4 d) else d

/-- The outcome of the cycle is shown and kept for the next [09 R275 R277 R279]. (log 73) -/
def takeOutcome (r : Regs) (outcome reason : Nat) (s : Solution) (d : Dev) : Dev :=
  let sing := d.slv.singular && d.mde.mode == .transfer
  let d := if sing && !s.regularised then
      modSlv (fun x => { x with cause := 5, causeThr := 0, causeJoint := 1 + Config.freeNat d.free 0x0903 % max 1 (d.descr.app.length - 1) }) d.takeFree
    else d
  let d := modSlv (fun x => { x with outcome := outcome, reason := reason, prev := some s, active := s.active.length, viol := s.viol, stage := .idle, result := none }) d
  let d := modCtl (fun c => { c with outcome := outcome, shifted := if outcome = 3 then wrapInc 16 c.shifted else c.shifted }) d
  let d := raiseIf (outcome == 2) 8 0 (raiseIf (outcome == 3) 8 1 d)
  regularisedRun r (s.regularised || sing) d

/-! ### Azimuth feed-forward [09 R282] -/

/-- The azimuth of a force; a small one keeps `a` [08 R249]. -/
def azOf (r : Regs) (d : Dev) (i : Nat) (f : Force) (a : F64) : F64 :=
  if f.mag.lt (r.f64 F.ALC_F_DEAD_V) then a else wrapPi ((Config.atan2 f.fy f.fx).sub (d.thrD i).azZero.to64)

/-- Torque feed-forward of an available azimuth thruster from the solution taken [09 R282]. -/
def azFeed (r : Regs) (s : Solution) (d : Dev) (i : Nat) : Dev :=
  let t := d.thrD i
  if !((t.kind = 1 || t.kind = 2) && (d.thr i).avail && r.bit F.SLV_AZ_CFG_FF_EN i) then modSlv (fun x => { x with azTau := modAt x.azTau i fun _ => F32.zero }) d
  else
    let a0 := azOf r d i (at' (at' s.steps 0) i) (d.thr i).last.az.to64
    let a1 := azOf r d i (at' (at' s.steps 1) i) a0
    let lim := (d.limD i).azRate.to64
    let rate := ((wrapPi (a1.sub a0)).div (secOfNs (hstepNs r))).clamp lim.neg lim
    let acc := (rate.sub (at' d.slv.azRate i).to64).div (secOfNs d.mde.cyc.periodNs)
    let fr := (r.f64 F.SLV_AZ_FRIC_FRIC i).mul (if rate.isZero then F64.zero else signOf rate)
    let tau := ((r.f64 F.SLV_AZ_J_J i).mul acc).add fr
    modSlv (fun x => { x with azTau := modAt x.azTau i (fun _ => tau.to32), azRate := modAt x.azRate i fun _ => rate.to32 }) d

/-! ### Jointed bodies [09 R283 R286] -/

/-- Joint records, in order. -/
def Dev.jointRecs (d : Dev) : List AppRec := (List.range 6).filterMap fun i => d.descr.app.find? fun (a : AppRec) => a.joint == i + 1
/-- Parameter of a joint record. -/
def AppRec.at (a : AppRec) (k : Nat) : F64 := (at' a.p k).to64
/-- Base record's parameters: x, y, z and yaw. -/
def baseRec (d : Dev) (k : Nat) : F64 := ((d.descr.app.find? fun (a : AppRec) => a.joint == 0).elim F64.zero fun (a : AppRec) => a.at k)

/-- Cross product. -/
def cross (a b : List F64) : List F64 :=
  let t := fun (i j : Nat) => ((vc a i).mul (vc b j)).sub ((vc a j).mul (vc b i))
  [t 1 2, t 2 0, t 0 1]

/-- Column `i` of a matrix. -/
def mCol (m : List (List F64)) (i : Nat) : List F64 := m.map fun (l : List F64) => vc l i

/-- Matrix product that the recursions of the appendage use. -/
def rot3 (c s : F64) : List (List F64) := [[c, s.neg, F64.zero], [s, c, F64.zero], [F64.zero, F64.zero, F64.one]]

/-- Body axes in the earth frame from heading, pitch and roll [06 R190]. -/
def bodyAxes (h p rl : F64) : List (List F64) :=
  let ry := let c := Config.cos p; let s := Config.sin p; [[c, F64.zero, s], [F64.zero, F64.one, F64.zero], [s.neg, F64.zero, c]]
  let rx := let c := Config.cos rl; let s := Config.sin rl; [[F64.one, F64.zero, F64.zero], [F64.zero, c, s.neg], [F64.zero, s, c]]
  mMul (mMul (rot3 (Config.cos h) (Config.sin h)) ry) rx

/-- The vessel as a sub-cycle sees it. -/
structure AppPose where
  /-- centre of gravity: north, east, down -/
  cg : List F64
  /-- body axes in the earth frame -/
  axes : List (List F64)
  /-- low-frequency position and heading: n, e, ψ -/
  lf : List F64
  /-- acceleration of the centre of gravity by the waves -/
  acc : List F64
  /-- rates of heading, pitch and roll -/
  rates : List F64
  /-- pitch and roll -/
  att : List F64

/-- Pose at TB0 instant `t`: the latest State record with its low-frequency and wave velocities, the newest attitude entry with its rates, heave held; wave velocities are those of the present estimate, since the record holds none [09 R285 R286]. (log 71) -/
def poseAt (r : Regs) (d : Dev) (t : Nat) : AppPose :=
  let dt := secOfNs ((t : Int) - (recOut d 0 : Int))
  let x := ownLf d
  let w := d.fus.own.x
  let (vn, ve) := toEarth (vc x 2) (vc x 3) (vc x 4)
  let n := (vc x 0).add (vn.mul dt)
  let e := (vc x 1).add (ve.mul dt)
  let h := (vc x 2).add ((vc x 5).mul dt)
  let a : AttEntry := at' d.src.att 0
  let da := secOfNs ((t : Int) - (a.at_ : Int))
  let p := a.p.to64.add (a.pd.to64.mul da)
  let rl := a.r.to64.add (a.rd.to64.mul da)
  let wf := bring (ownRates (ownPar r d)) d.mde.cyc.periodNs (t - (match d.fus.snaps with | s :: _ => s.at_ | [] => t)) w
  let rates := ownRates (ownPar r d) wf
  { cg := [(n.add (recF d 0 23)).add ((vc w 10).mul dt), (e.add (recF d 0 24)).add ((vc w 12).mul dt), recF d 0 28]
    axes := bodyAxes (wrapPi ((h.add (recF d 0 25)).add ((vc w 14).mul dt))) p rl
    lf := [n, e, wrapPi h], acc := [vc rates 10, vc rates 12, F64.zero], rates := [a.hd.to64, a.pd.to64, a.rd.to64], att := [p, rl] }

/-- A frame of the chain: axes and origin in the earth frame. -/
structure ChainFrame where
  /-- axes, as columns -/
  m : List (List F64)
  /-- origin -/
  o : List F64

/-- The base frame [09 R283]. (log 75) -/
def baseFrame (d : Dev) (p : AppPose) : ChainFrame :=
  let c := Config.cos (baseRec d 3)
  let s := Config.sin (baseRec d 3)
  let z := F64.zero
  { m := mMul p.axes [[c, s, z], [s, c.neg, z], [z, z, F64.one.neg]], o := vAdd p.cg (mVec p.axes [baseRec d 0, baseRec d 1, baseRec d 2]) }

/-- The frame after a joint at position `q` [09 R283]. -/
def ChainFrame.next (f : ChainFrame) (a : AppRec) (q : F64) : ChainFrame :=
  let th := if a.type = 0 then (a.at 3).add q else a.at 3
  let dd := if a.type = 0 then a.at 2 else (a.at 2).add q
  let c := Config.cos th
  let s := Config.sin th
  let ca := Config.cos (a.at 1)
  let sa := Config.sin (a.at 1)
  let rx := [[F64.one, F64.zero, F64.zero], [F64.zero, ca, sa.neg], [F64.zero, sa, ca]]
  { m := mMul f.m (mMul (rot3 c s) rx), o := vAdd f.o (mVec f.m [(a.at 0).mul c, (a.at 0).mul s, dd]) }

/-- The base frame and the frame of every joint. -/
def chainOf (d : Dev) (p : AppPose) (q : List F64) : List ChainFrame :=
  ((d.jointRecs.zip q).foldl (fun (a : ChainFrame × List ChainFrame) (j : AppRec × F64) => let f := a.1.next j.1 j.2; (f, a.2 ++ [f]))
    (baseFrame d p, [baseFrame d p])).2

/-- The tip: the origin of the last frame. -/
def tipOf (l : List ChainFrame) : List F64 := ((l.getLast?).map ChainFrame.o).getD [F64.zero, F64.zero, F64.zero]

/-- Columns of the tip's Jacobian in earth axes [09 R285]. -/
def tipJac (js : List AppRec) (l : List ChainFrame) : List (List F64) :=
  let tip := tipOf l
  List.zipWith (fun (a : AppRec) (f : ChainFrame) => if a.type = 0 then cross (mCol f.m 2) (vSub tip f.o) else mCol f.m 2) js l

/-- Smallest singular value of a matrix of three rows and as many columns as there are joints. -/
def smallestSv (cols : List (List F64)) : F64 :=
  match cols with
  | [a] => (vDot a a).sqrt
  | [a, b] =>
    let z := F64.zero
    (F64.max F64.zero (minEig3 [[vDot a a, vDot a b, z], [vDot a b, vDot b b, z], [z, z, (vDot a a).add (vDot b b)]])).sqrt
  | _ => sigmaMin cols

/-- One damped Newton step towards a target [09 R285]. -/
def newtonStep (d : Dev) (js : List AppRec) (p : AppPose) (damp : F64) (tgt q : List F64) : List F64 :=
  let l := chainOf d p q
  let cols := tipJac js l
  let z := F64.zero
  let jj := cols.foldl (fun a c => mAdd a (outer c c)) (mScale (damp.mul damp) (mId 3))
  let y := (solve3 jj (vSub tgt (tipOf l))).getD [z, z, z]
  List.zipWith (fun x c => x.add (vDot c y)) q cols

/-- Joint motion and base wrench: torques or forces of the joints, and force and moment of the chain on its base in earth axes at the base's origin [09 R286]. (log 75) -/
def chainDynamics (d : Dev) (js : List AppRec) (p : AppPose) (acc rates : List F64) (q qd qdd : List F64) : List F64 × List F64 × List F64 :=
  let l := chainOf d p q
  let f0 := baseFrame d p
  let cp := Config.cos (vc p.att 0)
  let sp := Config.sin (vc p.att 0)
  let cr := Config.cos (vc p.att 1)
  let sr := Config.sin (vc p.att 1)
  let turn := fun (v : List F64) =>
    let h := vc v 0
    let pd := vc v 1
    mVec p.axes [(vc v 2).sub (h.mul sp), (pd.mul cr).add (h.mul (sr.mul cp)), (h.mul (cr.mul cp)).sub (pd.mul sr)]
  let w0 := turn p.rates
  let al0 := turn rates
  let arm := vSub f0.o p.cg
  let g := [F64.zero, F64.zero, frac 980665 100000]
  let a0 := vSub (vAdd (vAdd acc (cross al0 arm)) (cross w0 (cross w0 arm))) g
  let fwd := (List.range js.length).foldl (fun (s : (List F64 × List F64 × List F64) × List (List F64 × List F64)) i =>
    let ((w, al, a), out) := s
    let j : AppRec := at' js i
    let fp := l.getD i f0
    let fn := l.getD (i + 1) f0
    let z := mCol fp.m 2
    let zv := vScale (vc qd i) z
    let za := vScale (vc qdd i) z
    let rv := vSub fn.o fp.o
    let (w', al') := if j.type = 0 then (vAdd w zv, vAdd (vAdd al za) (cross w zv)) else (w, al)
    let a1 := vAdd (vAdd a (cross al' rv)) (cross w' (cross w' rv))
    let a' := if j.type = 0 then a1 else vAdd (vAdd a1 (vScale F64.two (cross w' zv))) za
    let c := mVec fn.m [j.at 8, j.at 9, j.at 10]
    let ac := vAdd (vAdd a' (cross al' c)) (cross w' (cross w' c))
    let iw := fun (v : List F64) => mVec fn.m (List.zipWith F64.mul [j.at 11, j.at 12, j.at 13] (mVec (mTr fn.m) v))
    ((w', al', a'), out ++ [(vScale (j.at 7) ac, vAdd (iw al') (cross w' (iw w')))])) ((w0, al0, a0), [])
  let zero := [F64.zero, F64.zero, F64.zero]
  let back := (List.range js.length).foldr (fun i (s : (List F64 × List F64) × List F64) =>
    let ((f, n), tau) := s
    let j : AppRec := at' js i
    let fp := l.getD i f0
    let fn := l.getD (i + 1) f0
    let (fi, ni) := fwd.2.getD i (zero, zero)
    let c := mVec fn.m [j.at 8, j.at 9, j.at 10]
    let n' := vAdd (vAdd ni n) (vAdd (cross (vSub (vAdd fn.o c) fp.o) fi) (cross (vSub fn.o fp.o) f))
    let f' := vAdd fi f
    ((f', n'), vDot (if j.type = 0 then n' else f') (mCol fp.m 2) :: tau)) ((zero, zero), [])
  (back.2, vScale F64.one.neg back.1.1, vScale F64.one.neg back.1.2)

/-- The base wrench in body axes at the centre of gravity: X, Y and N [09 R286]. (log 75) -/
def reaction (d : Dev) (p : AppPose) (f n : List F64) : List F32 :=
  let b := mVec (mTr p.axes) f
  let m := mVec (mTr p.axes) n
  let x := baseRec d 0
  let y := baseRec d 1
  [(vc b 0).to32, (vc b 1).to32, (((vc m 2).add (x.mul (vc b 1))).sub (y.mul (vc b 0))).to32]

/-! ### Appendage sub-cycles [09 R284 R285 R287] -/

/-- Measured position of a joint, or its last set-point without feedback. -/
def jointMeasured (r : Regs) (d : Dev) (i : Nat) (a : AppRec) : F32 := (measuredAt r d a.loop (at' d.slv.joints i).q).to32

/-- Joints set to their measured positions at rest. -/
def jointsAtRest (r : Regs) (d : Dev) : List JointSt :=
  mapI (fun i (j : JointSt) => match d.jointRecs[i]? with
    | some a => let q := jointMeasured r d i a; { j with q := q, qd := F32.zero, tau := F32.zero, qNext := q, qdNext := F32.zero, tauNext := F32.zero }
    | none => j) d.slv.joints

/-- Joint `i` is handed its next position, speed and feed-forward [09 R285]. -/
def handJoint (r : Regs) (i : Nat) (d : Dev) : Dev :=
  match d.jointRecs[i]? with
  | none => d
  | some a =>
    let j := at' d.slv.joints i
    let d := modSlv (fun s => { s with joints := modAt s.joints i fun j => { j with q := j.qNext, qd := j.qdNext, tau := j.tauNext } }) d
    if a.loop < 32 then handTo r a.loop { r := j.qNext, rd := j.qdNext, ff := j.tauNext } d else d

/-- Every joint is handed what stands in it. -/
def handJoints (r : Regs) (d : Dev) : Dev := (List.range d.jointRecs.length).foldl (fun d i => handJoint r i d) d

/-- Leaving TRANSFER hands the measured joint positions at zero speed [03 R77]. -/
def leaveTransfer (r : Regs) (d : Dev) : Dev :=
  let d := handJoints r (modSlv (fun s => { s with joints := jointsAtRest r d }) d)
  modSlv (fun s => { s with tgt := none, ratePrev := none, appLimit := 0, singular := false, subRunning := false }) d

/-- A sub-cycle abandoned at the start of the next one: each joint goes on at its speed [09 R287]. -/
def coastJoints (d : Dev) : Dev :=
  let t := secOfNs (d.mde.cyc.periodNs / 4 : Nat)
  modSlv (fun s => { s with
    joints := mapI (fun i (j : JointSt) => match d.jointRecs[i]? with
      | some a => { j with qNext := ((j.q.to64.add (j.qd.to64.mul t)).clamp (a.at 4) (a.at 5)).to32, qdNext := (j.qd.to64.clamp (a.at 6).neg (a.at 6)).to32, tauNext := j.tau }
      | none => j) s.joints
    overruns := satInc 8 s.overruns }) d

/-- The tip target for a pose: fixed in the earth frame, or on axes not held to the low-frequency pose, whose height is fixed too [09 R284]. (log 64) -/
def targetNow (r : Regs) (p : AppPose) (tgt rel : List F64) : List F64 :=
  if r.bit F.SLV_APP_CFG_HOLD_NE then tgt
  else
    let (n, e) := toEarth (vc p.lf 2) (vc rel 0) (vc rel 1)
    [(vc p.lf 0).add n, (vc p.lf 1).add e, vc tgt 2]

/-- A target relative to the low-frequency pose. -/
def targetRel (p : AppPose) (tgt : List F64) : List F64 :=
  let (a, b) := toBody (vc p.lf 2) ((vc tgt 0).sub (vc p.lf 0)) ((vc tgt 1).sub (vc p.lf 1))
  [a, b, vc tgt 2]

/-- The tip target is latched at the first sub-cycle of TRANSFER, from the measured joints and the vessel's pose at that cut [09 R284]. -/
def latchTarget (r : Regs) (d : Dev) : Dev :=
  let p := poseAt r d d.mde.cyc.cutTb0
  let js := jointsAtRest r d
  let tip := tipOf (chainOf d p (js.map fun (j : JointSt) => j.q.to64))
  modSlv (fun s => { s with joints := js, tgt := some tip, tgtRel := targetRel p tip, ratePrev := none }) d

/-- One appendage sub-cycle, `k` of 0 to 3: the joints are handed what the one before computed, and the next motion is computed [09 R285 R286]. -/
def appSub (r : Regs) (k : Nat) (d : Dev) : Dev :=
  let firstSub := d.slv.tgt.isNone
  let done := d.slv.subRunning && !((d.job 4).lost)
  let d := if firstSub then latchTarget r d else handJoints r (if done then d else raise 8 7 (coastJoints d))
  let d := modSlv (fun s => { s with subRunning := false }) (modJob 4 (fun j => { j with lost := false }) d)
  if (d.job 4).tiles.isEmpty || !(d.clk.lock.testBit 1) then d
  else
    let js := d.jointRecs
    let n := js.length
    let tq := secOfNs (d.mde.cyc.periodNs / 4 : Nat)
    let p := poseAt r d (d.mde.cyc.cutTb0 + (k + 1) * (d.mde.cyc.periodNs / 4))
    let tgt := targetNow r p (d.slv.tgt.getD []) d.slv.tgtRel
    let j0 := d.slv.joints.take n
    let q0 := j0.map fun (j : JointSt) => j.q.to64
    let qd0 := j0.map fun (j : JointSt) => j.qd.to64
    let damp := r.f64 F.SLV_APP_DAMP_V
    let steps := r.get F.SLV_APP_CFG_NEWTON
    let qLast := foldN (steps - 1) (fun _ q => newtonStep d js p damp tgt q) q0
    let sv := smallestSv (tipJac js (chainOf d p qLast))
    let q := newtonStep d js p damp tgt qLast
    let raw := vScale (F64.one.div tq) (vSub q q0)
    let qd := List.zipWith (fun (a : AppRec) v => v.clamp (a.at 6).neg (a.at 6)) js raw
    let free := vAdd q0 (vScale tq qd)
    let qn := List.zipWith (fun (a : AppRec) v => v.clamp (a.at 4) (a.at 5)) js free
    let lim := (List.range n).foldl (fun m i => setBit m i (vc raw i != vc qd i || vc free i != vc qn i)) 0
    let newLim := (List.range n).any fun i => bit lim i && !(bit d.slv.appLimit i)
    let e := vSub tgt (tipOf (chainOf d p qn))
    let qdd := vScale (F64.one.div tq) (vSub qd qd0)
    let racc := match d.slv.ratePrev with | some old => vScale (F64.one.div tq) (vSub p.rates old) | none => [F64.zero, F64.zero, F64.zero]
    let (tau, f, m) := chainDynamics d js p p.acc racc qn qd qdd
    let ff := r.bit F.SLV_APP_CFG_FF_EN
    let d := modSlv (fun s => { s with
      joints := mapI (fun i (j : JointSt) => if i < n then
        { j with qNext := (vc qn i).to32, qdNext := (vc qd i).to32, tauNext := if ff then (vc tau i).to32 else F32.zero } else j) s.joints
      tgt := some tgt, tgtRel := targetRel p tgt, appErr := (vDot e e).sqrt.to32, appLimit := lim, singular := sv.lt (frac 1 100)
      react := if k = 0 then reaction d p f m else s.react, ratePrev := some p.rates, subRunning := true }) d
    ranJob r 4 (raiseIf newLim 8 6 d)

/-- Committed moves of the tip are added to the target at the cut, and the registers then read 0 [09 R284]. (log 75) -/
def appMoves (r : Regs) (d : Dev) : Regs × Dev :=
  let mv := [r.f64 F.SLV_APP_MOVE_N_V, r.f64 F.SLV_APP_MOVE_E_V, r.f64 F.SLV_APP_MOVE_D_V]
  if mv.all F64.isZero then (r, d)
  else
    let z := fun (r : Regs) (f : Fd) => r.setBoth f 0
    let r' := z (z (z r F.SLV_APP_MOVE_N_V) F.SLV_APP_MOVE_E_V) F.SLV_APP_MOVE_D_V
    match d.slv.tgt with
    | some t => let t := vAdd t mv; (r', modSlv (fun s => { s with tgt := some t, tgtRel := targetRel (poseAt r d d.mde.cyc.cutTb0) t }) d)
    | none => (r', d)

/-- APPENDAGE_SUBCYCLE: sub-cycles 1 to 3 at the quarters of the cycle; sub-cycle 0 starts with the cut [01 R16, 09 R285]. -/
def appendageSubcycle (r : Regs) (d : Dev) : Dev :=
  let c := d.mde.cyc
  if !c.running || d.mde.mode != .transfer || decide (4 ≤ c.subDone) || decide (d.now < c.cutTick + c.subDone * (c.periodNs / 16)) then d
  else
    let d := appSub r c.subDone d
    { d with mde := { d.mde with cyc := { d.mde.cyc with subDone := c.subDone + 1 } } }

/-- APPENDAGE_SUBCYCLE [09 R285]. -/
def execAppendageSubcycle (s : State) : Host.Outcome State Fault Refusal := onDev s appendageSubcycle

end Sys2Proof.Machine
end

