-- ==== Sys2Proof/Machine/Modes.lean ====
section
/-! DEFINITION. Vessel modes: automatic changes, requests, operator commands, and the entry into and exit from DORMANT [03 R69 to R81, R91 to R96, R587]. -/

namespace Sys2Proof.Machine

/-- The mode that a number of MDE_REQ.MODE names. -/
def modeOf : Nat → Mode
  | 0 => .dormant | 2 => .manual | 3 => .joystick | 4 => .autopos | 5 => .follow | 6 => .transfer | _ => .harbour

/-- MDE state changed. -/
def modMde (f : MdeSt → MdeSt) (d : Dev) : Dev := { d with mde := f d.mde }
/-- Profile generator changed. -/
def modProf (f : Profile → Profile) (d : Dev) : Dev := modMde (fun m => { m with prof := f m.prof }) d
/-- Control-cycle state changed. -/
def modCyc (f : CycleSt → CycleSt) (d : Dev) : Dev := modMde (fun m => { m with cyc := f m.cyc }) d

/-! ### Flags that the modes look at [03 R74] -/

/-- Position of object 0 valid. -/
def posOk (d : Dev) : Bool := recFlag d 0 1
/-- Heading of object 0 valid. -/
def hdgOk (d : Dev) : Bool := recFlag d 0 2
/-- An object is configured and its State record valid. -/
def tgtOk (d : Dev) (o : Nat) : Bool := d.targets.contains o && recFlag d o 0
/-- A loop channel is ready: RUN or RAMP [11 R319]. -/
def loopReady (d : Dev) (c : Nat) : Bool := (d.loop c).st == .run || (d.loop c).st == .ramp

/-! ### A change of mode -/

/-- The mode in force changes, with what begins and ends with it; `cause` is 0 for a request, 1 for an automatic change, 2 for the primary's [03 R69 R73 R77 R84 R97, 09 R278]. -/
def changeMode (m : Mode) (auto : Bool) (obj cause : Nat) (r : Regs) (d : Dev) : Regs × Dev :=
  let old := d.mde.mode
  let oldObj := d.mde.followObj
  let d := if old.thrust && !m.thrust then leaveThrust r d else d
  let d := if old == .transfer && m != .transfer then leaveTransfer r d else d
  let d := if m.thrust && !old.thrust then modSlv (fun s => { s with first := true, prev := none }) d else d
  let fresh := (m == .autopos || m == .follow || m == .transfer) && (m != old || obj != oldObj)
  let d := if fresh then modProf (fun p => { p with enter := true }) d else d
  let d := modMde (fun x => { x with mode := m, autoHdg := auto, followObj := obj, followLostAt := none }) d
  let d := raiseIf (cause == 1) 5 2 (raise 5 0 d)
  let d := record r .modeChange { p0 := m.num, p1 := old.num, p2 := b2n auto, p3 := cause } d
  ((r.putShadow F.MDE_REQ_MODE m.num).putShadow F.MDE_REQ_AUTO_HDG (b2n auto), d)

/-- AUTO_HDG becomes 1 in JOYSTICK: the heading target is the estimated heading unless one is committed at the same cut, and the heading axis starts there [03 R81]. (log 63) -/
def joyHeading (keys : List (Nat × Nat)) (r : Regs) (d : Dev) : Regs × Dev :=
  let r := if hasField keys F.MDE_SP_HEADING_V 0 then r else r.setBoth F.MDE_SP_HEADING_V (wrapTwoPi (recF d 0 10)).to32.nat
  (r, modProf (fun p => { p with enter := true, newHdg := true }) d)

/-- An automatic change into JOYSTICK: the force demand is zero, but for one committed at this cut [03 R79]. (log 63) -/
def joyZero (keys : List (Nat × Nat)) (r : Regs) : Regs :=
  [F.MDE_JOY_X_V, F.MDE_JOY_Y_V, F.MDE_JOY_N_V].foldl (fun r (f : Fd) => if hasField keys f 0 then r.dropShadow f else r.setBoth f 0) r

/-! ### Automatic changes [03 R78 R79] -/

/-- The followed object's record: since when it has not been valid. -/
def followWatch (d : Dev) : Dev :=
  if d.mde.mode != .follow then d
  else modMde (fun m => { m with followLostAt := if recFlag d m.followObj 0 then none else some (m.followLostAt.getD d.now) }) d

/-- No position reference has been fused for MDE_POSLOSS_TIME [03 R78, 07 R207]. -/
def posLost (r : Regs) (d : Dev) : Bool := decide (d.fus.posAt + nsOf32 (r.f32 F.MDE_POSLOSS_TIME_V) ≤ d.tb0)

/-- The followed object's record has not been valid for MDE_FOLLOW_LOSS_TIME. -/
def followLost (r : Regs) (d : Dev) : Bool :=
  match d.mde.followLostAt with
  | some t => decide (t + ticksOf32 (r.f32 F.MDE_FOLLOW_LOSS_TIME_V) ≤ d.now)
  | none => false

/-- The change that the device makes itself at a cut: the topmost row of R78 that applies. -/
def autoStep (keys : List (Nat × Nat)) (r : Regs) (d : Dev) : Regs × Dev :=
  let d := followWatch d
  let joy := fun (a : Bool) (r : Regs) (d : Dev) =>
    let (r, d) := changeMode .joystick a 0 1 (joyZero keys r) d
    if a then joyHeading keys r d else (r, d)
  match d.mde.mode with
  | .joystick => if d.mde.autoHdg && !(hdgOk d) then joy false r d else (r, d)
  | .autopos | .follow | .transfer =>
    if !(hdgOk d) then joy false r d
    else if posLost r d then joy true r d
    else if d.mde.mode == .follow && followLost r d then
      let (r, d) := changeMode .autopos false 0 1 r d
      (r, modProf (fun p => { p with stop := true }) d)
    else (r, d)
  | _ => (r, d)

/-! ### Requests [03 R71 R72 R74 to R76] -/

/-- Transitions of R74. (log 62) -/
def allowed : Mode → Mode → Bool
  | .harbour, .dormant | .dormant, .harbour | .harbour, .manual | .manual, .harbour => true
  | .manual, .joystick | .autopos, .joystick | .follow, .joystick => true
  | .manual, .autopos | .joystick, .autopos | .follow, .autopos | .transfer, .autopos => true
  | .autopos, .follow | .autopos, .transfer => true
  | .joystick, .manual | .autopos, .manual | .follow, .manual | .transfer, .manual => true
  | _, _ => false

/-- Joints of the description are ready, and there are some [03 R74]. -/
def jointsReady (d : Dev) : Bool := !(d.jointRecs.isEmpty) && d.jointRecs.all fun (a : AppRec) => loopReady d a.loop

/-- The code of the first precondition that fails, in the order of R75; 0 when none does. -/
def firstCode (l : List (Bool × Nat)) : Nat := ((l.find? fun (e : Bool × Nat) => e.1).map Prod.snd).getD 0

/-- The result code of a request in a state that makes cuts [03 R71 R74 R75 R76]. -/
def requestCode (r : Regs) (d : Dev) (m : Mode) (auto : Bool) (obj : Nat) : Nat :=
  let cur := d.mde.mode
  if !(d.running) then 1
  else if !(d.commands) then 2
  else if m == cur then
    if cur == .joystick && auto != d.mde.autoHdg then firstCode [(d.loadBars m, 4), (auto && !(hdgOk d), 6)]
    else if cur == .follow && obj != d.mde.followObj then firstCode [(d.loadBars m, 4), (!(tgtOk d obj), 9)]
    else 0
  else if !(allowed cur m) then 3
  else if m == .manual && cur.thrust then 0
  else
    let toHdg := m == .autopos || m == .follow || (m == .joystick && auto)
    let toPos := m == .autopos || m == .follow
    let noThr := (m == .manual && !(d.thrIds.any (thrReady r d))) || ((m == .joystick || m == .autopos) && !(spans r d))
    firstCode [(d.loadBars m, 4), (toHdg && !(hdgOk d), 6), (toPos && !(posOk d), 7), (noThr, 8), (m == .follow && !(tgtOk d obj), 9),
      (m == .transfer && !(jointsReady d), 10), (m == .transfer && d.ctl.fallback, 11)]

/-- The result of a request is written; a refusal restores the shadow copy of MDE_REQ.MODE [03 R72]. -/
def requestResult (m : Mode) (code : Nat) (r : Regs) (d : Dev) : Regs × Dev :=
  let d := modMde (fun x => { x with resMode := m.num, resCode := code, resCount := wrapInc 16 x.resCount }) d
  if code = 0 then (r, d)
  else (r.putShadow F.MDE_REQ_MODE d.mde.mode.num, record r .modeRefused { p0 := m.num, p3 := code } (raise 5 1 d))

/-- What is asked for: mode, AUTO_HDG and FOLLOW_OBJ as committed. -/
def asked (r : Regs) : Mode × Bool × Nat := (modeOf (r.get F.MDE_REQ_MODE), r.bit F.MDE_REQ_AUTO_HDG, r.get F.MDE_REQ_FOLLOW_OBJ)

/-- A committed request is decided at a cut [03 R71 R72]. -/
def requestStep (want : Mode × Bool × Nat) (keys : List (Nat × Nat)) (r : Regs) (d : Dev) : Regs × Dev :=
  let (m, auto, obj) := want
  let code := requestCode r d m auto obj
  let (r, d) := requestResult m code r d
  let a := m == .joystick && auto
  let o := if m == .follow then obj else 0
  if code != 0 || (m == d.mde.mode && a == d.mde.autoHdg && o == d.mde.followObj) then (r, d)
  else
    let newHdg := a && !(d.mde.autoHdg)
    let (r, d) := changeMode m a o 0 r d
    if newHdg then joyHeading keys r d else (r, d)

/-! ### Operator commands [03 R80 R90] -/

/-- Commands committed at a cut, in the mode that results: targets for the generator, and STOP, which clears itself. -/
def commandStep (keys : List (Nat × Nat)) (r : Regs) (d : Dev) : Regs × Dev :=
  let has := fun (f : Fd) => hasField keys f 0
  let m := d.mde.mode
  let lin := (m == .autopos || m == .transfer) && (has F.MDE_SP_NORTH_V || has F.MDE_SP_EAST_V) ||
    m == .follow && (has F.MDE_REL_ALONG_V || has F.MDE_REL_ACROSS_V)
  let hdg := (m == .autopos || m == .transfer || m == .joystick && d.mde.autoHdg) && has F.MDE_SP_HEADING_V || m == .follow && has F.MDE_REL_HEADING_V
  let stop := r.bit F.MDE_SP_CTL_STOP
  let uses := m == .autopos || m == .transfer || m == .follow
  let d := modProf (fun p => { p with newLin := p.newLin || lin, newHdg := p.newHdg || hdg, stop := p.stop || (stop && uses) }) d
  (if stop then r.setBoth F.MDE_SP_CTL_STOP 0 else r, d)

/-! ### DORMANT [03 R91 R95 R96, 15 R438 R439 R445] -/

/-- The cut that enters DORMANT: no further cuts, the permit lapses and with it the role, and the descent begins. (log 63) -/
def enterDormant (r : Regs) (d : Dev) : Dev :=
  let d := modCyc (fun c => { c with running := false, firstPending := false, realign := false, realignLeft := 0 })
    (modMde (fun m => { m with dorm := .descent }) d)
  let d := failAll r (relinquish r 13 (dropPermit d))
  record r .dormantEnter {} (askLife { d with pair := { d.pair with outputs := false, awaitHandover := false, take := none, checkLeft := 0 } })

/-- HARBOUR is asked for at the host level: time is restored unless it never stopped, and the first cut follows on the first TB0 second boundary at least 100 ms later; a descent stops [03 R94 R95]. -/
def wakeHarbourNow (r : Regs) (d : Dev) : Dev :=
  let d := if d.mde.dorm == .hostLevel && d.mde.cyc.cutNo == 0 then restoreTb0 r d else d
  let at_ := ((d.tb0 + 100000000 + nsPerSec - 1) / nsPerSec) * nsPerSec
  modCyc (fun c => { c with firstPending := true, nextCut := at_ }) (modMde (fun m => { m with dorm := .hostLevel, wakeHarbour := true }) d)

/-- The first cut after a wake: the mode becomes HARBOUR and roles are settled [03 R95, 15 R429]. -/
def firstCutAfterWake (r : Regs) (d : Dev) : Regs × Dev :=
  let d := modCyc (fun c => { c with running := true, firstPending := false })
    (modMde (fun m => { m with dorm := .none, wakeHarbour := false }) d)
  let (r, d) := changeMode .harbour false 0 0 r d
  (r, enableOutputs r (failAll r (enterRoles r d)))

/-! ### Page MDE in states that make no cuts [03 R66 R95, R587] -/

/-- No cut will come that could decide an MDE commit. -/
def mdeNoCut (d : Dev) : Bool := !(d.running) || (d.mde.mode == .dormant && !(d.mde.wakeHarbour))

/-- A request is decided at once where no cuts are made [03 R587]. -/
def mdeDecideNow (r : Regs) (d : Dev) : Regs × Dev :=
  let (m, _, _) := asked r
  if !(d.running) then requestResult m 1 r d
  else
    let code := match m with | .dormant => 0 | .harbour => (if d.cfg.active.isSome then 0 else 5) | _ => 3
    let (r, d) := requestResult m code r d
    (r, if m == .harbour && code == 0 then wakeHarbourNow r d else d)

/-- An MDE commit where no cuts are made: commands and limits come into force, and a request is decided [03 R587]. -/
def mdeCommitNow (r : Regs) (d : Dev) : Regs × Dev :=
  let (r, _) := applyCommit r 5 fun _ => true
  let req := d.mde.reqBuf
  let d := modMde (fun m => { m with reqBuf := false }) d
  if req then mdeDecideNow r d else (r, d)

/-! ### Step 2 of a cut for page MDE [03 R70] -/

/-- Automatic changes, the request, and the commands, in that order; a standby refuses a request with ROLE and takes its mode from the primary [03 R70 R79]. (log 62) -/
def modesCut (keys : List (Nat × Nat)) (r : Regs) (d : Dev) : Regs × Dev :=
  let want := asked r
  let req := d.mde.reqBuf
  let d := modMde (fun m => { m with reqBuf := false }) d
  let (r, d) := if d.commands then autoStep keys r d else (r, d)
  let (r, d) := if req then requestStep want keys r d else (r, d)
  commandStep keys r d

end Sys2Proof.Machine
end

