-- ==== Sys2Proof/Machine/Link.lean ====
section
/-! DEFINITION. The Ndodric link and what the two units do over it beside the continuity set: pair time, silent take-over, takes asked for, the Still and global operations [15 R430 to R437, R443, R454 to R459]. -/

namespace Sys2Proof.Machine

/-! ### Pair states by what is known of the partner -/

/-- This unit is TAKE_READY: STANDBY_SYNCED with no TAKE_FAIL [15 PAIR_STAT]. (log 79) -/
def Dev.takeReady (d : Dev) : Bool := d.pair.state == .stbySynced && !(d.pair.takeFail)

/-- A standby enters or leaves STANDBY_SYNCED, a primary follows its partner [15 R430]. (log 40) -/
def syncJudge (r : Regs) (d : Dev) : Dev :=
  match d.pair.state with
  | .stbySyncing =>
    if d.gns2.st == .locked && d.pair.imageEq && decide (100 ≤ d.pair.runOk) && d.linkUp then pairTo r .stbySynced 0 d else d
  | .stbySynced =>
    if !(d.pair.imageEq) then pairTo r .stbySyncing 7 d
    else if 3 ≤ max d.pair.runMiss d.pair.cutRun then pairTo r .stbySyncing 8 d
    else if !(d.gns2.st == .locked) then pairTo r .stbySyncing 9 d
    else d
  | .primSyncing => if d.pair.partnerSynced && d.linkUp then pairTo r .primSynced 0 d else d
  | .primSynced => if d.pair.partnerSynced then d else pairTo r .primSyncing 0 d
  | _ => d

/-- What comes of a link that is up [15 R430 R431 R444]. (log 80) -/
def linkRules (r : Regs) (d : Dev) : Dev :=
  if d.single || !(d.running) then d
  else if d.ndl.idClash then
    (if d.isPrimary then stopCommanding r .degraded 10 d else pairTo r .degraded 10 d)
  else if !(d.linkUp) then d
  else
    match d.pair.state with
    | .seeking => seekByLink r d
    | .primAlone => if d.ndl.partnerCommands && d.pair.unitId == 1 then stopCommanding r .stbySyncing 5 d else pairTo r .primSyncing 1 d
    | .primSyncing | .primSynced => if d.ndl.partnerCommands && d.pair.unitId == 1 then stopCommanding r .stbySyncing 5 d else d
    | .degraded => if d.ndl.partnerCommands then pairTo r .stbySyncing 1 d else d
    | _ => d

/-! ### The link -/

/-- The link may run: page and link enabled, domain NDL on, the SerDes PLL locked [15 R433, 18 R519 R534]. -/
def ndlOn (r : Regs) (d : Dev) : Bool :=
  d.awake && r.en 0x26 && r.bit F.NDL_CFG_EN && d.pwr.on.testBit 11 && domainHeld d 11 (ticksUs 200) && d.clk.lock.testBit 6

/-- The link goes down [15 R430 R433 R460 R461]. -/
def linkLost (r : Regs) (d : Dev) : Dev :=
  if !(d.ndl.link) then { d with ndl := { d.ndl with training := false } }
  else
    let before := d.lost
    let d := raise 0x26 1 { d with
      ndl := { d.ndl with link := false, lane0 := false, lane1 := false, training := false, downs := wrapInc 8 d.ndl.downs,
                          downAt := some d.now, exchanged := false, partnerCommands := false, ofs := 0 }
      pair := { d.pair with partnerSynced := false, partnerReady := false, bulkFrags := [], bulkBad := false } }
    let d := match d.pair.state with
      | .primSyncing | .primSynced => pairTo r .primAlone 2 d
      | .stbySyncing | .stbySynced => pairTo r .degraded 2 d
      | _ => d
    silentWatch r (partnerLost before d)

/-- NDL_HELLO: both HELLOs are in, and the link is up [15 R431 R433]. (log 40) -/
def ndlHello (h : Hello) (r : Regs) (d : Dev) : Dev :=
  if !(ndlOn r d) then d
  else
    let clash := h.unitId == d.pair.unitId
    let grade := h.grade != d.sys.grade
    let up := !(d.ndl.link)
    let two := r.bit F.NDL_CFG_LANES && !(d.tw812) && decide (h.lanes = 2)
    let d := raiseIf (grade && !(d.ndl.gradeMismatch)) 0x26 5 (raiseIf (clash && !(d.ndl.idClash)) 0x26 4 (raiseIf up 0x26 0 d))
    let d := { d with
      ndl := { d.ndl with
        link := true, training := false, downAt := none, lane0 := if up then true else d.ndl.lane0, lane1 := if up then two else d.ndl.lane1,
        idClash := d.ndl.idClash || clash, gradeMismatch := grade, partnerId := h.unitId, partnerGrade := h.grade,
        partnerImage := h.image, partnerPending := h.pending, partnerCommands := h.commands, lastGood := true,
        trainings := if up then wrapInc 16 d.ndl.trainings else d.ndl.trainings, exchanged := if up then false else d.ndl.exchanged }
      pair := { d.pair with partnerSynced := h.synced, partnerReady := h.ready } }
    let d := if up then ndlSend .hello [d.pair.unitId, d.sys.grade, d.descr.imageId, d.descr.rev, b2n d.commands] d else d
    silentWatch r (syncJudge r (linkRules r d))

/-- NDL_HELLO [15 R433]. -/
def execNdlHello (h : Hello) (s : State) : Host.Outcome State Fault Refusal := onDev s (ndlHello h)

/-- NDL_LINK_DOWN: no valid frame for 50 µs, or more than 16 failed within 1 ms, the last of them with this command [15 R433]. (log 80) -/
def ndlLinkDown (crc : Bool) (r : Regs) (d : Dev) : Dev := linkLost r (if crc && d.ndl.link then ndlFrame false d else d)

/-- NDL_LINK_DOWN [15 R433]. -/
def execNdlLinkDown (crc : Bool) (s : State) : Host.Outcome State Fault Refusal := onDev s (ndlLinkDown crc)

/-- NDL_RETRAIN: training starts again 1 ms after a link down, and at once where the link was never up [15 R433]. (log 80) -/
def ndlRetrain (r : Regs) (d : Dev) : Dev :=
  let due := match d.ndl.downAt with | some t => decide (t + ticksMs 1 ≤ d.now) | none => true
  if ndlOn r d && !(d.ndl.link) && due then { d with ndl := { d.ndl with training := true, downAt := none } } else d

/-- NDL_RETRAIN [15 R433]. -/
def execNdlRetrain (s : State) : Host.Outcome State Fault Refusal := onDev s ndlRetrain

/-- NDL_LANE_DOWN: one of two lanes is lost and the link continues on the other [15 R433]. -/
def ndlLaneDown (lane : Nat) (_ : Regs) (d : Dev) : Dev :=
  if d.ndl.link && d.ndl.lane0 && d.ndl.lane1 && !(d.tw812) then
    raise 0x26 2 { d with ndl := { d.ndl with
      lane0 := decide (lane ≠ 0), lane1 := decide (lane = 0), laneDowns := wrapInc 8 d.ndl.laneDowns } }
  else d

/-- NDL_LANE_DOWN [15 R433]. -/
def execNdlLaneDown (lane : Nat) (s : State) : Host.Outcome State Fault Refusal := onDev s (ndlLaneDown lane)

/-- KEEPALIVE: 10 µs without another frame [15 R433]. -/
def keepalive (_ : Regs) (d : Dev) : Dev :=
  if d.ndl.link && decide (d.ndl.lastTx + ticksUs 10 ≤ d.now) then ndlSend .keepalive [] d else d

/-- KEEPALIVE [15 R433]. -/
def execKeepalive (s : State) : Host.Outcome State Fault Refusal := onDev s keepalive

/-! ### Pair time -/

/-- TIME_FRAME: the standby stamps and answers it, and forms the offset and delay of the exchange whose t4 it carries [15 R437]. (log 40) -/
def timeFrame (t1 t4 t2 t3 : Nat) (r : Regs) (d : Dev) : Dev :=
  if !(d.linkUp && d.followsPartner) then d
  else
    let n := d.ndl
    let d := ndlFrame true d
    let d := if n.exchanged then
        let out : Int := (n.t2 : Int) - n.t1
        let back : Int := (t4 : Int) - n.t3
        let ps : Int := 500 * (out - back) + 500 * r.int F.NDL_ASYM_ASYM
        tb0Offset r ps { d with ndl := { d.ndl with ofs := wrapS 32 (ps / 1000), delay := (((out + back) / 2).toNat) % 2 ^ 16 } }
      else d
    let d := { d with ndl := { d.ndl with t1 := t1, t2 := t2, t3 := t3, t4 := t4, exchanged := true } }
    syncJudge r (ndlSend .timeReply [t2, t3, b2n (d.pair.state == .stbySynced), b2n d.takeReady] d)

/-- TIME_FRAME [15 R437]. -/
def execTimeFrame (t1 t4 t2 t3 : Nat) (s : State) : Host.Outcome State Fault Refusal := onDev s (timeFrame t1 t4 t2 t3)

/-- TIME_REPLY: the primary stamps its arrival and learns how far the standby is (log 40) [15 R430 R437]. -/
def timeReply (t2 t3 t4 : Nat) (synced ready : Bool) (r : Regs) (d : Dev) : Dev :=
  if !(d.linkUp && d.isPrimary) then d
  else
    let d := ndlFrame true { d with
      ndl := { d.ndl with t2 := t2, t3 := t3, t4 := t4 }, pair := { d.pair with partnerSynced := synced, partnerReady := ready } }
    syncJudge r d

/-- TIME_REPLY [15 R437]. -/
def execTimeReply (t2 t3 t4 : Nat) (synced ready : Bool) (s : State) : Host.Outcome State Fault Refusal :=
  onDev s (timeReply t2 t3 t4 synced ready)

/-- STEP_ANNOUNCE: the standby sets the same step [05 R157]. -/
def stepAnnounce (second : Nat) (ofs : Int) (_ : Regs) (d : Dev) : Dev :=
  if d.linkUp && d.followsPartner then { d with gns2 := { d.gns2 with stepAt := some second, stepOfs := ofs } } else d

/-- STEP_ANNOUNCE [05 R157]. -/
def execStepAnnounce (second : Nat) (ofs : Int) (s : State) : Host.Outcome State Fault Refusal := onDev s (stepAnnounce second ofs)

/-! ### Taking command, and takes -/

/-- SILENT_TAKEOVER: the conditions of R443 have held together for 3 ms [15 R443]. -/
def silentTakeover (r : Regs) (d : Dev) : Dev :=
  let d := silentWatch r d
  match d.pair.silentAt with
  | some t => if t + ticksMs 3 ≤ d.now then takeCommand r 4 d else d
  | none => d

/-- SILENT_TAKEOVER [15 R443]. -/
def execSilentTakeover (s : State) : Host.Outcome State Fault Refusal := onDev s silentTakeover

/-- TAKE_NOW: PAIR_CTL.TAKE_NOW asks for a take at the next second boundary [15 R455]. -/
def execTakeNow (s : State) : Host.Outcome State Fault Refusal :=
  onDev s fun _ d => { d with pair := { d.pair with takeNow := true } }

/-- CLR_TAKE_FAIL [15 R457]. -/
def execClrTakeFail (s : State) : Host.Outcome State Fault Refusal :=
  onDev s fun _ d => { d with pair := { d.pair with takeFail := false } }

/-- RELAY_HOLD_END: the held DAC and PWM outputs of the old primary enter their fail states [15 R456]. -/
def relayHoldEnd (r : Regs) (d : Dev) : Dev :=
  match d.pair.relayEnd with
  | some t =>
    if t ≤ d.now then
      let d := { d with pair := { d.pair with relayEnd := none } }
      foldN 32 (fun n d => match (d.anOut n).relayHold with
        | some _ => aouFail r n (modAou n (fun a => { a with relayHold := none }) d)
        | none => d) d
    else d
  | none => d

/-- RELAY_HOLD_END [15 R456]. -/
def execRelayHoldEnd (s : State) : Host.Outcome State Fault Refusal := onDev s relayHoldEnd

/-! ### Still -/

/-- The status words of a Still set: PAIR_STAT and NDL_STAT bits that show role and link [15 R458]. -/
def Dev.stillStatus (d : Dev) : Nat × Nat :=
  (d.pair.state.code + 8 * d.pair.unitId + 16 * b2n d.commands + 32 * b2n d.pair.roleOut, b2n d.ndl.link + 2 * b2n d.ndl.lane0 + 4 * b2n d.ndl.lane1)

/-- The Still set of this unit now [15 R458]. -/
def Dev.stillSet (d : Dev) : StillSet :=
  { tc := d.pair.stillT, tbs := (List.range 4).map fun i => (d.tb i).total,
    states := d.fus.recs.map fun (l : List Word) => l.map fun w => w.toNat,
    thr := d.alc.thr.map fun t => (t.last.f.fx.to32, t.last.f.fy.to32, t.last.az),
    loops := d.lop.ch.map fun (c : LoopCh) => (c.hand.r, c.y, c.u), status := d.stillStatus }

/-- A Still is done once both captures can be read: cost in ns, saturating [15 R458]. -/
def stillEnd (d : Dev) : Dev :=
  match d.pair.stillReq, d.pair.stillOwn, d.pair.stillPartner with
  | some (t, true), some _, some _ =>
    raise 0x27 7 { d with pair := { d.pair with stillDone := true, stillReq := none, stillCost := min 65535 (4 * (d.now - t)) } }
  | _, _, _ => d

/-- STILL: PAIR_CTL.STILL in a synchronised pair; refused otherwise [15 R458]. -/
def still (_ : Regs) (d : Dev) : Dev :=
  if d.linkUp && (d.pair.state == .primSynced || d.pair.state == .stbySynced) then
    let tc := d.tb0 + d.ndl.delay + 200
    ndlSend .stillReq [tc] { d with pair := { d.pair with
      stillDone := false, stillRefused := false, stillT := tc, stillReq := some (d.now, true), stillOwn := none, stillPartner := none } }
  else { d with pair := { d.pair with stillDone := false, stillRefused := true } }

/-- STILL [15 R458]. -/
def execStill (s : State) : Host.Outcome State Fault Refusal := onDev s still

/-- STILL_REQ: the partner sets its capture tick, on its own TB0 [15 R458]. -/
def execStillReq (tc : Nat) (s : State) : Host.Outcome State Fault Refusal :=
  onDev s fun _ d =>
    if d.linkUp then { d with pair := { d.pair with stillT := tc, stillReq := some (d.now, false), stillOwn := none } } else d

/-- STILL_CAPTURE: TB0 reaches the capture tick; the partner's capture goes back in STILL_DATA [15 R458]. -/
def stillCapture (_ : Regs) (d : Dev) : Dev :=
  match d.pair.stillReq with
  | some (_, mine) =>
    if d.pair.stillT ≤ d.tb0 ∧ d.pair.stillOwn.isNone then
      let d := { d with pair := { d.pair with stillOwn := some d.stillSet } }
      if mine then stillEnd d else ndlSend .stillData [d.pair.stillT] { d with pair := { d.pair with stillReq := none } }
    else d
  | none => d

/-- STILL_CAPTURE [15 R458]. -/
def execStillCapture (s : State) : Host.Outcome State Fault Refusal := onDev s stillCapture

/-- STILL_DATA: the requester receives the partner's capture [15 R458]. -/
def execStillData (c : StillSet) (s : State) : Host.Outcome State Fault Refusal :=
  onDev s fun _ d =>
    match d.pair.stillReq with
    | some (_, true) => stillEnd { d with pair := { d.pair with stillPartner := some c } }
    | _ => d

/-! ### Global operations -/

/-- A global operation ends [15 R459 R461]. -/
def glbEnd (st : GlbState) (d : Dev) : Dev :=
  raise 0x27 7 { d with pair := { d.pair with glb := st, glbTime := min (2 ^ 24 - 1) ((d.now - d.pair.glbAt) / 250) } }

/-- GLOBAL_GO: PAIR_GLB_CTL.GO on the commanding unit; a standby's request reads REFUSED [15 R459]. -/
def globalGo (r : Regs) (d : Dev) : Dev :=
  if d.pair.glb == .waiting || d.pair.glb == .running then d
  else
    let d := { d with pair := { d.pair with glbAt := d.now, glbTime := 0 } }
    if d.commands then glbTry r { d with pair := { d.pair with glb := .waiting } } else glbEnd .refused d

/-- GLOBAL_GO [15 R459]. -/
def execGlobalGo (s : State) : Host.Outcome State Fault Refusal := onDev s globalGo

/-- Every dedicated buffer of the operation has stored a frame since it started [15 R459]. -/
def glbAcked (r : Regs) (d : Dev) : Bool :=
  (glbChannels r).all fun n =>
    (List.range (r.at F.PAIR_GLB_CH_N_ACK n)).all fun i =>
      match at' (d.canCh n).dbAt (r.at F.PAIR_GLB_CH_DB_FIRST n + i) with
      | some t => decide (d.pair.glbStart ≤ t)
      | none => false

/-- GLOBAL_DONE [15 R459]. -/
def execGlobalDone (s : State) : Host.Outcome State Fault Refusal :=
  onDev s fun r d => if d.pair.glb == .running && glbAcked r d then glbEnd .done d else d

/-- GLOBAL_TIMEOUT: TIMEOUT ms after GO, an operation still waiting reads REFUSED and a running one TIMEOUT [15 R459]. -/
def execGlobalTimeout (s : State) : Host.Outcome State Fault Refusal :=
  onDev s fun r d =>
    if decide (d.now < d.pair.glbAt + ticksMs (r.get F.PAIR_GLB_CTL_TIMEOUT)) then d
    else
      match d.pair.glb with
      | .waiting => glbEnd .refused d
      | .running => glbEnd .timeout d
      | _ => d

end Sys2Proof.Machine
end

