-- ==== Sys2Proof/Machine/Reset.lean ====
section
/-! DEFINITION. Resets, the boot loader, microcode updates, supply fail, thermal trip and the levels of DORMANT: page SYS, and the power-down of page MDE [03 R91 to R96, 18 R523 to R532, R536]. -/

namespace Sys2Proof.Machine

/-! ### Resets -/

/-- What a command that resets the device changes: blocks, registers and memory windows. -/
def onState (s : State) (f : State → State) : Host.Outcome State Fault Refusal := State.ok (f { s with dev := s.dev.quiet })

/-- DORMANT settings, which the always-on domain keeps through a reset [18 R526]. -/
def dormFields : List Fd :=
  [F.MDE_DORM_CFG_REFRESH, F.MDE_DORM_CFG_WAKE_PIN, F.MDE_DORM_CFG_WAKE_TIMER, F.MDE_WAKE_AT_LO_V, F.MDE_WAKE_AT_HI_V]

/-- Registers after a reset: reset values, but for the DORMANT settings. -/
def keepRegs (r : Regs) : Regs := dormFields.foldl (fun (a : Regs) f => a.put f (r.get f)) { hdr := hdrReset }

/-- What MRAM keeps of page CFG: slots, the active-slot record and keys [18 R526]. -/
def CfgSt.mram (c : CfgSt) : CfgSt := { slot := c.slotRec, slotRec := c.slotRec, slot0 := c.slot0, slot1 := c.slot1, keys := c.keys }

/-- The blocks after a reset of the main die: MRAM, the safety island, the always-on domain and the fuses keep what they hold; every register, queue and buffer is at its reset value [18 R526]. -/
def coreReset (cause : Nat) (d : Dev) : Dev :=
  { now := d.now, free := d.free, out := d.out,
    sys := { grade := d.sys.grade, cause := cause, ucFloor := d.sys.ucFloor, ucSlots := d.sys.ucSlots, ucActive := d.sys.ucActive,
             tripped := d.sys.tripped, aonLost := d.sys.aonLost, finalSeg := d.sys.finalSeg, pfail := d.sys.pfail },
    pwr := { on := 7, pgood := 7 },
    mde := { refreshAt := d.mde.refreshAt },
    cfg := d.cfg.mram,
    gns2 := { kept := d.gns2.kept },
    tim := { tb := [{}, {}, {}, d.tb 3] },
    pair := { unitId := d.pair.unitId },
    saf := d.saf,
    evt := { reel := d.evt.reel, corner := d.evt.corner, torn := d.evt.torn },
    lif := { copies := d.lif.copies } }

/-- Causes for which the final segment is made before the reset [18 R526]. -/
def finalFirst (cause : Nat) : Bool := [3, 4, 6, 7].contains cause

/-- The device resets: a primary relinquishes, the outputs go to their levels at reset, and the queued records are committed first or lost [18 R525 R526]. -/
def resetDev (r : Regs) (cause : Nat) (d : Dev) : Dev :=
  let d := if d.running then leaveRoles r d else d
  let d := if finalFirst cause && d.mramOn then finalSegment r d
    else if cause = 2 then d else { d with sys := { d.sys with finalSeg := false } }
  coreReset cause d

/-- The whole state reset with a cause [18 R526]. (log 4) -/
def resetState (cause : Nat) (s : State) : State :=
  { s with dev := resetDev s.regs cause s.dev, regs := keepRegs s.regs, mem := [], frozen := [] }

/-- A command that changes the blocks and may end in a reset of a cause. -/
def onReset (s : State) (f : Regs → Dev → Dev × Option Nat) : Host.Outcome State Fault Refusal :=
  onState s fun s =>
    let x := f s.regs s.dev
    match x.2 with
    | some c => resetState c { s with dev := x.1 }
    | none => { s with dev := x.1 }

/-- RESET_N_ASSERT [18 R525]. -/
def execResetNAssert (s : State) : Host.Outcome State Fault Refusal := onState s (resetState 1)

/-- WATCHDOG_EXPIRE: the supervisor runs on the main die out of RESET [18 R525]. -/
def execWatchdogExpire (s : State) : Host.Outcome State Fault Refusal :=
  onReset s fun _ d => (d, if d.mde.dstate == .reset then none else some 5)

/-- HOST_RESET: 0x0000_B007 written to SYS_RST_CTL, with LOCK [18 R525, 19 R562]. -/
def execHostReset (s : State) : Host.Outcome State Fault Refusal :=
  onState s fun s => if s.regs.lockOpen 0 s.dev.now then resetState 4 s else { s with regs := s.regs.reject 0 0x54 2 }

/-- The TB3 value from which TB3 restarts, ns: the larger of the lifetime copy in use and the newest record's AGE [17 R507]. -/
def Dev.committedTb3 (d : Dev) : Nat :=
  let l := (lifeBoot d).lif.live.tb3
  match d.evt.last with
  | some (_, x) => max l (x.age * 1000)
  | none => l

/-- AON_POWER_UP: the always-on domain has lost what it held, and TB3 restarts [14 R405, 17 R507, 18 R526]. (log 4, 100) -/
def aonPowerUp (s : State) : State :=
  let d := resetDev s.regs 0 s.dev
  let t := d.committedTb3
  { s with
    regs := { hdr := hdrReset }, mem := [], frozen := []
    dev := { d with
      mde := {}, gns2 := {}, sys := { d.sys with aonLost := true, finalSeg := s.dev.sys.finalSeg, tripped := false }
      tim := { tb := [{}, {}, {}, { sec := t / nsPerSec % 2 ^ 48, ns := t % nsPerSec }] } } }

/-- AON_POWER_UP [14 R405]. -/
def execAonPowerUp (s : State) : Host.Outcome State Fault Refusal := onState s aonPowerUp

/-! ### Leaving RESET -/

/-- Domains that are on in BOOT and beyond while nothing has switched them off [18 R520]. (log 100) -/
def domainsOn (r : Regs) (d : Dev) : Nat :=
  let m := if d.tw812 then 0xFEFF - 0x200 else 0xFFFF
  setBit m 4 (r.bit F.GNS0_ACQ_CFG_BANK_USE)

/-- RESET_RELEASE: rails, REFCLK, PFAIL_N and RESET_N have been good for 2 ms; UNIT_ID and REFSEL are read [15 R427, 18 R523 R528 R533]. (log 101) -/
def resetRelease (unitId refsel : Bool) (r : Regs) (d : Dev) : Dev :=
  if d.mde.dstate == .reset && d.mde.dorm == .none && !(d.sys.tripped) && d.sys.pfailAt.isNone then
    setDState .boot { d with
      sys := { d.sys with pfail := false }
      pwr := { d.pwr with on := domainsOn r d, pgood := domainsOn r d }
      clk := { d.clk with ref25 := refsel, refOk := true, serOk := true, pcieOk := true }
      pair := { d.pair with unitId := b2n unitId } }
  else d

/-- RESET_RELEASE [18 R523]. -/
def execResetRelease (unitId refsel : Bool) (s : State) : Host.Outcome State Fault Refusal := onDev s (resetRelease unitId refsel)

/-! ### Microcode -/

/-- Fields of a microcode header [18 R530]. -/
structure UcHdr where
  /-- IMAGE_LEN -/
  len : Nat
  /-- VERSION -/
  ver : Nat
  /-- GRADE -/
  grade : Nat
  /-- KEY_INDEX -/
  key : Nat
  /-- LEVEL -/
  level : Nat
  /-- CODE_LEN -/
  codeLen : Nat
  /-- CRC_OFFSET -/
  crcOff : Nat
  /-- SIG_OFFSET -/
  sigOff : Nat
  deriving DecidableEq, Repr

/-- The header of a microcode image. -/
def ucHdr (b : List Byte) : UcHdr :=
  { len := leAt b 8 4, ver := leAt b 0xC 4, grade := leAt b 0x10 1, key := leAt b 0x11 1, level := leAt b 0x12 2,
    codeLen := leAt b 0x14 4, crcOff := leAt b 0x18 4, sigOff := leAt b 0x1C 4 }

/-- A signature block in the form of 02 R40 over the message `m`, under key `k` [02 R40, 18 R530]. (log 10) -/
def sigBlockOk (k : List Nat) (m s : List Byte) : Bool :=
  beNat (slice s 0 4) == 0x53494731 && beNat (slice s 4 2) == 1 && beNat (slice s 6 2) == 64 && Config.sigOk k m (slice s 8 64)

/-- The refusal code of a microcode image, none where it passes; `len` is its announced length [18 R530 R531 R532]. (log 102) -/
def ucCheck (d : Dev) (b : List Byte) (len : Nat) : Option Nat :=
  let h := ucHdr b
  if !(leAt b 0 4 == 0x43555754 && leAt b 4 2 == 1 && leAt b 6 2 == 64 && zeros b 0x20 0x3C && leAt b 0x3C 4 == crc32 (slice b 0 0x3C)) then some 1
  else if !(h.len == len && decide (h.len ≤ 0x100000)) then some 2
  else if !(h.crcOff == 64 + h.codeLen && decide (h.crcOff + 4 ≤ h.len) && leAt b h.crcOff 4 == crc32 (slice b 0 h.crcOff)) then some 3
  else if !(h.sigOff == align8 (h.crcOff + 4) && h.len == h.sigOff + 72 && decide (h.key ≤ 1) &&
      sigBlockOk (Config.romKey h.key) (slice b 0 (h.crcOff + 4)) (slice b h.sigOff 72)) then some 4
  else if h.level < d.sys.ucFloor then some 5
  else if h.grade ≠ 0 ∧ !(h.grade == 1 && !(d.tw812)) then some 6
  else none

/-- Bytes of a microcode slot. -/
def Dev.ucBytes (d : Dev) (i : Nat) : List Byte := (at' d.sys.ucSlots i).bytes

/-- A microcode slot passes the loader's checks [18 R531]. -/
def ucSlotOk (d : Dev) (i : Nat) : Bool := (ucCheck d (d.ucBytes i) (d.ucBytes i).length).isNone && !((d.ucBytes i).isEmpty)

/-- The slot that boots: the active one, or else the other [18 R531]. -/
def ucPick (d : Dev) : Option Nat :=
  if ucSlotOk d d.sys.ucActive then some d.sys.ucActive
  else if ucSlotOk d (1 - d.sys.ucActive) then some (1 - d.sys.ucActive)
  else none

/-- Base of the microcode staging window [18 R532]. -/
def ucStaging : Nat := 0x03100000

/-- UC_UPDATE_START: SYS_UC_CTL.START, rejected while an update is in hand [18 R532]. -/
def ucUpdateStart (r : Regs) (d : Dev) : Regs × Dev :=
  match d.sys.ucPhase with
  | .checking | .writing => (r.reject 0 0x68 7, d)
  | _ => if d.mde.dstate == .reset then (r, d) else (r, { d with sys := { d.sys with ucPhase := .checking, ucRefuse := 0 } })

/-- UC_UPDATE_START [18 R532]. -/
def execUcUpdateStart (s : State) : Host.Outcome State Fault Refusal := onRegs s ucUpdateStart

/-- The slot that an update writes: the one that does not run [18 R532]. (log 102) -/
def Dev.ucTarget (d : Dev) : Nat :=
  match d.sys.bootStat with
  | 1 => 1
  | 2 => 0
  | _ => 1 - d.sys.ucActive

/-- UC_UPDATE_DONE: the staged image is checked; a good one is written to the slot that does not run, and waits there for energy [18 R532]. -/
def ucUpdateDone (r : Regs) (m : List Host.Cell) (d : Dev) : Dev :=
  if d.sys.ucPhase == .checking || d.sys.ucPhase == .writing then
    let len := r.get F.SYS_UC_LEN_LEN
    let b := Memory.readBytes m ucStaging (max 64 (min len 0x100000))
    match ucCheck d b len with
    | some c => raise 0 1 { d with sys := { d.sys with ucPhase := .refused, ucRefuse := c } }
    | none =>
      if segOk r d then
        let t := d.ucTarget
        let d := wearSeg r ((List.range 16).map fun i => (Area.microcode, 16 * t + i)) d
        raise 0 0 { d with sys := { d.sys with ucPhase := .done, ucSlots := modAt d.sys.ucSlots t (fun _ => { bytes := b }), ucActive := t } }
      else deferSeg (d.sys.ucPhase == .writing) { d with sys := { d.sys with ucPhase := .writing } }
  else d

/-- UC_UPDATE_DONE [18 R532]. -/
def execUcUpdateDone (s : State) : Host.Outcome State Fault Refusal := onMem s fun r m d => ([], ucUpdateDone r m d)

/-! ### Boot -/

/-- PLLs whose reference is present lock [18 R529 R534]. -/
def bootLocks (d : Dev) : Nat := (if d.clk.refOk then 0x3F else 0) + (if d.clk.serOk then 0x40 else 0) + (if d.clk.pcieOk then 0x80 else 0)

/-- Time after a reset: TB0 from TB3 and the kept offset, or from 0 without one [05 R164, 14 R405 R406, 18 R527]. -/
def bootTime (r : Regs) (d : Dev) : Dev :=
  let d := restoreTb0 r d
  { d with lif := { d.lif with devSec := d.tb3 / nsPerSec, lastAt := d.tb3 }, grt := { d.grt with passAt := d.tb3 } }

/-- The POWER_ON record, PERMANENT after a loss of always-on power only [17 R494 R496]. (log 99) -/
def powerOn (r : Regs) (d : Dev) : Dev :=
  let p : Par := { p0 := d.lif.live.powerups, p1 := b2n (d.evt.hasHead && !(d.sys.finalSeg)), p3 := d.sys.cause }
  let d := recordPerm r .powerOn p d.sys.aonLost d
  { d with sys := { d.sys with aonLost := false, finalSeg := false } }

/-- The lifetime counters of this start [17 R505]. (log 99) -/
def countStart (d : Dev) : Dev :=
  if d.sys.cause = 0 ∨ d.sys.cause = 8 then modLife (fun l => { l with powerups := satInc 32 l.powerups }) d
  else modLife (fun l => { l with resets := satInc 32 l.resets }) d

/-- Tiles of courses that the grade lacks are off [10 R289]. -/
def initTiles (d : Dev) : Dev :=
  { d with msn := { d.msn with tiles := mapI (fun t (x : Tile) => if t < d.tileCount then x else { x with st := .off }) d.msn.tiles } }

/-- BOOT: PLLs, SRAM, the loader, the recorder's scan and the lifetime store; then LOAD. With no valid microcode the device stays in BOOT [17 R503 R506, 18 R529 R531]. -/
def boot (r : Regs) (d : Dev) : Dev :=
  if !(d.mde.dstate == .boot) || d.sys.bootStat == 3 then d
  else
    let l := bootLocks d
    let d := { d with clk := { d.clk with lock := l, bclk := !(l.testBit 0), mpllHold := !(l.testBit 2) } }
    match ucPick d with
    | none => { d with sys := { d.sys with bootStat := 3 } }
    | some i =>
      let h := ucHdr (d.ucBytes i)
      let fb := i != d.sys.ucActive
      let d := { d with sys := { d.sys with
        bootStat := i + 1, fallback := fb, ucActive := i, ucVer := h.ver, ucFloor := max d.sys.ucFloor h.level } }
      let d := powerOn r (countStart (bootScan r (bootTime r (lifeBoot d))))
      let d := if fb then record r .ucFallback { p0 := i } (raise 0 2 d) else d
      let d := setDState .load (initTiles (initBanks d))
      raise 0 5 d

/-- BOOT [18 R529]. -/
def execBoot (s : State) : Host.Outcome State Fault Refusal := onDev s boot

/-! ### Supply fail and temperature -/

/-- SUPPLY_FAIL: PFAIL_N asserted for 20 µs; recording stops, the unit leaves RUN, its outputs fail, and the final segment is made on the energy there is [17 R514, 18 R524]. (log 100) -/
def supplyFail (r : Regs) (d : Dev) : Dev :=
  if d.sys.pfailAt.isSome then d
  else if d.mde.dstate == .reset then { d with sys := { d.sys with pfail := true } }
  else
    let d := raise 1 3 { d with evt := { d.evt with stopped := true } }
    let d := if d.running then failAll r (leaveRoles r d) else d
    let seg := segOk r d && d.mramOn
    let d := if seg then finalSegment r d else { d with sys := { d.sys with finalSeg := false } }
    let d := setDState .reset d
    { d with
      sys := { d.sys with pfail := true, pfailAt := some d.now }
      hld := { d.hld with segment := seg }
      mde := { d.mde with mode := .harbour, dorm := .none, cyc := { d.mde.cyc with running := false, firstPending := false } } }

/-- SUPPLY_FAIL [18 R524]. -/
def execSupplyFail (s : State) : Host.Outcome State Fault Refusal := onDev s supplyFail

/-- FINAL_SEGMENT_DONE: the segment has ended, or 10 µs have passed without one; reset with cause 2 [18 R524]. -/
def execFinalSegmentDone (s : State) : Host.Outcome State Fault Refusal :=
  onReset s fun _ d =>
    match d.sys.pfailAt with
    | some t => (d, if d.hld.segment || decide (t + ticksUs 10 ≤ d.now) then some 2 else none)
    | none => (d, none)

/-- The highest of the sensors' readings. -/
def hottest : List F32 → F32
  | [] => F32.zero
  | t :: l => l.foldl F32.max t

/-- THERMAL_READ: the warnings, the trip, and its end [18 R525 R528 R536]. -/
def thermalRead (ts : List F32) (r : Regs) (d : Dev) : Dev × Option Nat :=
  let top := hottest ts
  let below105 := ts.all fun t => t.lt (F32.ofInt 105)
  if d.mde.dorm == .asleep || d.mde.dorm == .refresh then (d, none)
  else if d.mde.dstate == .reset then ({ d with sys := { d.sys with tripped := d.sys.tripped && !below105 } }, none)
  else if ts.any (fun t => (F32.ofInt 125).le t) then ({ d with sys := { d.sys with tripped := true } }, some 6)
  else
    let w := r.f32 F.SYS_TEMP_WARN_WARN
    let up := !(d.sys.hot) && w.le top
    let down := d.sys.hot && top.le (w.sub (F32.ofInt 5))
    (raiseIf down 0 4 (raiseIf up 0 3 { d with sys := { d.sys with temp := top, hot := (d.sys.hot || up) && !down } }), none)

/-- THERMAL_READ [18 R536]. -/
def execThermalRead (temps : List F32) (s : State) : Host.Outcome State Fault Refusal := onReset s (thermalRead temps)

/-! ### DORMANT -/

/-- The batches in hand at the entry into DORMANT are committed: the queue, the lifetime copy, and a slot write [03 R91 R92]. -/
def batchesDone (d : Dev) : Bool :=
  !(d.evt.waits) && !(d.lif.due) && !(d.cfg.phase == .writing) && !(d.cfg.phase == .checking) && !(d.cfg.slotDue) && !(d.sys.ucPhase == .writing)

/-- DORMANT_ASLEEP: the main die is held in reset; the load state and the hot-start data are kept [03 R91 R92]. (log 4) -/
def dormantAsleep (s : State) : State :=
  let d := s.dev
  if d.mde.dorm == .descent && batchesDone d then
    let k := coreReset d.sys.cause { d with sys := { d.sys with finalSeg := false } }
    { s with
      regs := keepRegs s.regs, mem := [], frozen := []
      dev := { k with mde := { k.mde with mode := .dormant, dorm := .asleep }, cfg := { d.cfg with keyStage := List.replicate 32 0, active := none, cutins := 0, slot := d.cfg.slotRec } } }
  else s

/-- DORMANT_ASLEEP [03 R91]. -/
def execDormantAsleep (s : State) : Host.Outcome State Fault Refusal := onState s dormantAsleep

/-- The wake source is enabled, and the timer has reached its time [03 R94]. -/
def wakeOk (pin : Bool) (r : Regs) (d : Dev) : Bool :=
  if pin then r.bit F.MDE_DORM_CFG_WAKE_PIN
  else r.bit F.MDE_DORM_CFG_WAKE_TIMER && decide (r.get F.MDE_WAKE_AT_LO_V + 2 ^ 32 * r.get F.MDE_WAKE_AT_HI_V ≤ d.tb3)

/-- WAKE: from the asleep level through BOOT and LOAD; before it, the descent stops at the host level [03 R93 R94]. (log 101) -/
def wake (pin : Bool) (r : Regs) (d : Dev) : Dev :=
  if !(wakeOk pin r d) then d
  else
    match d.mde.dorm with
    | .descent => { d with mde := { d.mde with dorm := .hostLevel } }
    | .asleep | .refresh =>
      setDState .boot { d with
        sys := { d.sys with cause := 8 }
        mde := { d.mde with dorm := .waking }
        pwr := { d.pwr with on := domainsOn r d, pgood := domainsOn r d }
        clk := { d.clk with refOk := true, serOk := true, pcieOk := true } }
    | _ => d

/-- WAKE [03 R94]. -/
def execWake (pin : Bool) (s : State) : Host.Outcome State Fault Refusal := onDev s (wake pin)

end Sys2Proof.Machine
end

