-- ==== Sys2Proof/Machine/Power.lean ====
section
/-! DEFINITION. Power domains, rails, clocks and Grout, and the PCIe endpoint's link: pages PWR, CLK and GRT [18 R519 to R522, R533 to R541, 19 R568]. -/

namespace Sys2Proof.Machine

/-! ### The PCIe endpoint -/

/-- Page HST and the endpoint as a hot reset or link-down leaves them: the page at its reset values, the link down; quad-SPI's own transfer settings stay [18 R528]. -/
def hstDown (r : Regs) (d : Dev) : Regs × Dev :=
  let off := fun (l : List (Nat × Nat)) => l.filter fun (e : Nat × Nat) => keyPage e.1 != 4
  let r' := { r with act := off r.act, shd := off r.shd, hdr := modAt r.hdr 4 fun _ => at' hdrReset 4 }
  let up := d.hst.up
  let d := { d with
    irq := { d.irq with raw := modAt d.irq.raw 4 fun _ => 0 }
    hst := { spiCfg := d.hst.spiCfg, spiAt := d.hst.spiAt, lastAt := d.hst.lastAt, timedOut := d.hst.timedOut,
             latches := d.hst.latches.filter (fun (e : Nat × Nat × Nat) => e.1 == 1), staged := d.hst.staged.filter (fun (e : Nat × Nat × Nat) => e.1 == 1) } }
  (r', raiseIf up 4 0 d)

/-- PCIE_HOT_RESET: a hot reset or link-down of the PCIe link, which is up or has been [18 R528]. -/
def execPcieHotReset (linkDown : Bool) (s : State) : Host.Outcome State Fault Refusal :=
  onRegs s fun r d => if d.mde.dstate == .reset || (linkDown && !(d.hst.up)) then (r, d) else hstDown r d

/-- PCIE_LINK_UP: training completes; the width and speed codes of HST_STAT follow [19 R568]. -/
def pcieLinkUp (width speed : Nat) (_ : Regs) (d : Dev) : Dev :=
  if d.mde.dstate == .reset || !(d.pwr.on.testBit 12) || !(domainHeld d 12 (ticksUs 200)) || !(d.clk.lock.testBit 7) || d.hst.up then d
  else raise 4 0 { d with hst := { d.hst with up := true, width := width % 4, speed := speed % 4 } }

/-- PCIE_LINK_UP [19 R568]. -/
def execPcieLinkUp (width speed : Nat) (s : State) : Host.Outcome State Fault Refusal := onDev s (pcieLinkUp width speed)

/-! ### Rails and domains -/

/-- Domains that a rail feeds [18 R519, PWR_RAIL_SEL]. -/
def railDomains (rail : Nat) : List Nat :=
  match rail with
  | 0 => [4, 5, 10]
  | 1 => [6] | 2 => [7] | 3 => [8] | 4 => [9]
  | 5 => [10]
  | 6 | 7 => [11, 12]
  | 8 => [3]
  | 9 | 10 => [14]
  | 11 | 12 => [13]
  | 13 => [15]
  | 14 => [1] | 15 => [2] | 16 => [0]
  | _ => []

/-- Nominal value of a rail in 10 mV; none for VDD_AON, for which the spec gives none [20 R572]. (log 100) -/
def railNominal (rail : Nat) : Option Nat :=
  match rail with
  | 0 | 1 | 2 | 3 | 4 => some 80
  | 5 => some 85
  | 6 => some 100
  | 7 | 8 | 9 | 11 | 13 => some 180
  | 10 | 12 | 14 | 15 => some 330
  | _ => none

/-- A rail's value lies more than 5 % below nominal [18 R522]. -/
def railLow (rail : Nat) (v : F32) : Bool :=
  match railNominal rail with
  | some n => v.to64.lt (F64.ofRatio (95 * n) 10000)
  | none => true

/-- Every own path treated as faulted: its channels and searches are released [04 R106, 18 R522 R534]. -/
def pathsLost (d : Dev) : Dev := foldN 4 (fun p d => dropSearches p (releasePath p d)) d

/-- The correlator bank is marked faulty: the search in hand starts again on the serial engine [04 R120 R121]. -/
def bankFaulty (d : Dev) : Dev :=
  let hit := match d.gns0.search with | some s => !s.serial && s.chn.isNone && !(d.serial) | none => false
  raiseIf hit 0xC 4 (bankLost { d with gns0 := { d.gns0 with bankFault := true } })

/-- What a domain's loss of power-good does, beside the reset of R525 [18 R522]. -/
def domainLost (r : Regs) (dom : Nat) (d : Dev) : Regs × Dev :=
  match dom with
  | 3 | 5 => (r, pathsLost d)
  | 4 => (r, bankFaulty d)
  | 6 | 7 | 8 | 9 => (r, faultTiles r [3 * (dom - 6), 3 * (dom - 6) + 1, 3 * (dom - 6) + 2] d)
  | 11 => (r, linkLost r d)
  | 12 => hstDown r d
  | 15 => (r, raise 1 7 { d with hld := { d.hld with mramGood := none } })
  | _ => (r, d)

/-- A reading of a rail: its warning, set once and cleared by a reading that is good again [18 R522 R543]. (log 100) -/
def railWarn (rail : Nat) (v : F32) (lost : Bool) (r : Regs) (d : Dev) : Dev :=
  let low := lost || railLow rail v
  let was := bit d.pwr.railWarn rail
  let d := { d with pwr := { d.pwr with railV := modAt d.pwr.railV rail (fun _ => v), railWarn := setBit d.pwr.railWarn rail low } }
  if low && !was then record r .pwrRail { p0 := v.nat, p1 := rail } (raise 1 4 d)
  else raiseIf (was && !low) 1 5 d

/-- RAIL_FAULT: a rail that feeds a domain which is on falls below its warning level, or drops the power-good of its domains [18 R522]. (log 100) -/
def railFault (rail : Nat) (v : F32) (lost : Bool) (s : State) : State :=
  let d := s.dev
  let doms := (railDomains rail).filter fun x => d.pwr.on.testBit x
  if doms.isEmpty then s
  else
    let d := railWarn rail v lost s.regs d
    if !lost then { s with dev := d }
    else
      let hit := doms.filter fun x => d.pwr.pgood.testBit x
      let d := { d with pwr := { d.pwr with
        pgood := hit.foldl (fun m x => setBit m x false) d.pwr.pgood, fault := hit.foldl (fun m x => setBit m x true) d.pwr.fault } }
      let d := raiseIf (!(hit.isEmpty)) 1 2 d
      let x := hit.foldl (fun (x : Regs × Dev) dom => domainLost x.1 dom x.2) (s.regs, d)
      let s := { s with regs := x.1, dev := x.2 }
      if d.mde.dstate == .reset then s
      else if hit.contains 0 then resetState 0 s
      else if hit.any fun x => [10, 13, 14].contains x then resetState 3 s
      else s

/-- RAIL_FAULT [18 R522]. -/
def execRailFault (rail : Nat) (v : F32) (powerGoodLost : Bool) (s : State) : Host.Outcome State Fault Refusal :=
  onState s (railFault rail v powerGoodLost)

/-- Tiles of a course just switched on owe a full test, and read GROUT until then [18 R521]. -/
def courseUp (c : Nat) (d : Dev) : Dev :=
  [3 * c, 3 * c + 1, 3 * c + 2].foldl (fun d t =>
    if (d.tile t).st == .off && decide (t < d.tileCount) then
      { modTile t (fun x => { x with st := .grout, runs := [] }) d with grt := { d.grt with owed := if d.grt.owed.contains t then d.grt.owed else d.grt.owed ++ [t] } }
    else d) d

/-- DOMAIN_UP: the power-good of a domain that is on asserts [18 R521 R522]. -/
def domainUp (dom : Nat) (_ : Regs) (d : Dev) : Dev :=
  if 16 ≤ dom ∨ !(d.pwr.on.testBit dom) ∨ d.pwr.pgood.testBit dom then d
  else
    let d := raise 1 0 { d with pwr := { d.pwr with pgood := setBit d.pwr.pgood dom true, goodAt := modAt d.pwr.goodAt dom fun _ => d.now } }
    match dom with
    | 4 => { d with gns0 := { d.gns0 with bankFault := decide ((at' d.grt.classes 2).faults ≠ 0) } }
    | 6 | 7 | 8 | 9 => courseUp (dom - 6) d
    | 15 => { d with hld := { d.hld with mramGood := some d.now } }
    | _ => d

/-- DOMAIN_UP [18 R521]. -/
def execDomainUp (dom : Nat) (s : State) : Host.Outcome State Fault Refusal := onDev s (domainUp dom)

/-- PWR_DOM_REQ as it stands: courses, NDL, PCIE. -/
def domReq (r : Regs) (d : Dev) : Nat :=
  (if d.tw812 then r.get F.PWR_DOM_REQ_COURSE % 4 else r.get F.PWR_DOM_REQ_COURSE) + 16 * r.get F.PWR_DOM_REQ_NDL + 32 * r.get F.PWR_DOM_REQ_PCIE

/-- A change of one bit of PWR_DOM_REQ is accepted [18 R521]. -/
def domOk (port : Port) (r : Regs) (d : Dev) (i : Nat) (on : Bool) : Bool :=
  if i = 5 then port == .qspi
  else if on then true
  else if i = 4 then d.single || d.cfg.active.isNone
  else bit (r.get F.MSN_EXCL_COURSE) i && [3 * i, 3 * i + 1, 3 * i + 2].all fun t => (d.jobsOn t).isEmpty

/-- Domain code of a bit of PWR_DOM_REQ [18 R519]. -/
def reqDomain (i : Nat) : Nat := if i = 4 then 11 else if i = 5 then 12 else 6 + i

/-- A domain that the host switches on or off [18 R521]. (log 100) -/
def domSwitch (i : Nat) (on : Bool) (x : Regs × Dev) : Regs × Dev :=
  let r := x.1
  let d := x.2
  let dom := reqDomain i
  if on then (r, { d with pwr := { d.pwr with on := setBit d.pwr.on dom true } })
  else
    let d := raise 1 1 { d with pwr := { d.pwr with on := setBit d.pwr.on dom false, pgood := setBit d.pwr.pgood dom false } }
    match i with
    | 4 => (r, linkLost r d)
    | 5 => hstDown r d
    | _ => (r, [3 * i, 3 * i + 1, 3 * i + 2].foldl (fun d t =>
        { modTile t (fun x => { x with st := .off, runs := [] }) d with
          grt := { d.grt with owed := d.grt.owed.filter (fun y => y != t),
                              running := d.grt.running.filter (fun (g : GrtStep) => !(g.cls == 0 && g.item == t)),
                              begun := d.grt.begun.filter (fun (g : Nat × Nat × Nat) => !(g.1 == 0 && g.2.1 == t)) } }) d)

/-- PWR_DOM_REQ_WRITE: every change asked for is accepted, or the write is rejected; bits of absent courses are discarded [18 R521, 19 R557]. -/
def pwrDomReqWrite (port : Port) (v : Nat) (r : Regs) (d : Dev) : Regs × Dev :=
  let old := domReq r d
  let new := if d.tw812 then v % 64 - bits v 3 2 * 4 else v % 64
  let diff := (List.range 6).filter fun i => bit old i != bit new i
  if d.mde.dstate == .reset then (r, d)
  else if diff.all fun i => domOk port r d i (bit new i) then
    let r := ((r.put F.PWR_DOM_REQ_COURSE (new % 16)).put F.PWR_DOM_REQ_NDL (bits new 4 4)).put F.PWR_DOM_REQ_PCIE (bits new 5 5)
    diff.foldl (fun x i => domSwitch i (bit new i) x) (r, d)
  else (r.reject 1 0x40 7, raise 1 6 d)

/-- PWR_DOM_REQ_WRITE [18 R521]. -/
def execPwrDomReqWrite (port : Port) (v : Nat) (s : State) : Host.Outcome State Fault Refusal := onRegs s (pwrDomReqWrite port v)

/-! ### Clocks -/

/-- Every CAN channel ends its frame and sends nothing while BPLL is unlocked [18 R534]. -/
def canStop (d : Dev) : Dev :=
  { d with can := { d.can with ch := d.can.ch.map fun (c : CanCh) => { c with sending := none, cancelLate := false, win := c.win.map fun (w : SbWin) => { w with dead := true } } } }

/-- Every Ethernet link goes down [18 R534, 14 R423]. -/
def ethDown (r : Regs) (d : Dev) : Dev :=
  foldN 4 (fun n d =>
    if ethOn r d n && (d.mac n).link then
      ethFlush n (raise (0x22 + n) 3 (modEth n (fun e => { e with link := false, anDone := false, badMode := false }) d))
    else d) d

/-- One PLL loses lock, with its effect [18 R534]. (log 101) -/
def pllLost (pll : Nat) (x : Regs × Dev) : Regs × Dev :=
  let r := x.1
  let d := x.2
  if 8 ≤ pll ∨ !(d.clk.lock.testBit pll) then x
  else
    let d := raise 2 0 { d with clk := { d.clk with
      lock := setBit d.clk.lock pll false, losses := modAt d.clk.losses pll (wrapInc 16), lostAt := modAt d.clk.lostAt pll fun _ => some d.now } }
    match pll with
    | 0 => (r, { d with clk := { d.clk with bclk := true } })
    | 2 => (r, { d with clk := { d.clk with mpllHold := true } })
    | 3 => (r, pathsLost d)
    | 4 => (r, { d with flt := { d.flt with valid := 0 } })
    | 5 => (r, canStop d)
    | 6 => (r, ethDown r (linkLost r d))
    | 7 => hstDown r d
    | _ => (r, d)

/-- PLL_LOCK_LOST [18 R534]. -/
def execPllLockLost (pll : Nat) (s : State) : Host.Outcome State Fault Refusal :=
  onRegs s fun r d => if d.mde.dstate == .reset then (r, d) else pllLost pll (r, d)

/-- PLL_LOCK_REGAINED: a PLL whose reference is present re-locks, and its effect ends [18 R534]. -/
def pllRegained (pll : Nat) (r : Regs) (d : Dev) : Dev :=
  if d.mde.dstate == .reset ∨ 8 ≤ pll ∨ d.clk.lock.testBit pll ∨ !((bootLocks d).testBit pll) then d
  else
    let us := match at' d.clk.lostAt pll with | some t => min ((d.now - t) / 250) 65535 | none => 0
    let d := raise 2 1 { d with clk := { d.clk with
      lock := setBit d.clk.lock pll true, lastUs := modAt d.clk.lastUs pll (fun _ => us), lostAt := modAt d.clk.lostAt pll (fun _ => none),
      relockAt := modAt d.clk.relockAt pll fun _ => d.now } }
    match pll with
    | 0 => { d with clk := { d.clk with bclk := false } }
    | 2 => { d with clk := { d.clk with mpllHold := false } }
    | 4 => foldN 8 (fun m d => if fltOn r m then fltResettle r m d else d) d
    | _ => d

/-- PLL_LOCK_REGAINED [18 R534]. -/
def execPllLockRegained (pll : Nat) (s : State) : Host.Outcome State Fault Refusal := onDev s (pllRegained pll)

/-- PLLs on a reference input: 0 REFCLK, 1 SERREF, 2 PCIe REFCLK [18 R534]. (log 101) -/
def refPlls (input : Nat) : List Nat := match input with | 0 => [0, 1, 2, 3, 4, 5] | 1 => [6] | _ => [7]

/-- A reference input is present. (log 101) -/
def refHas (d : Dev) (input : Nat) : Bool := match input with | 0 => d.clk.refOk | 1 => d.clk.serOk | _ => d.clk.pcieOk

/-- Presence of a reference input set. -/
def setRef (input : Nat) (b : Bool) (d : Dev) : Dev :=
  match input with
  | 0 => { d with clk := { d.clk with refOk := b } }
  | 1 => { d with clk := { d.clk with serOk := b } }
  | _ => { d with clk := { d.clk with pcieOk := b } }

/-- REFCLK_LOST: no edge for 1 µs; the PLLs on the input lose lock [18 R535]. (log 101) -/
def refclkLost (input : Nat) (r : Regs) (d : Dev) : Regs × Dev :=
  if d.mde.dstate == .reset ∨ 3 ≤ input ∨ !(refHas d input) then (r, d)
  else
    let d := record r .clkLost { p0 := input } (raise 2 (match input with | 0 => 2 | 1 => 4 | _ => 5) (setRef input false d))
    (refPlls input).foldl (fun x p => pllLost p x) (r, d)

/-- REFCLK_LOST [18 R535]. -/
def execRefclkLost (input : Nat) (s : State) : Host.Outcome State Fault Refusal := onRegs s (refclkLost input)

/-- REFCLK_BACK: edges return on an input that was lost [18 R544]. (log 101) -/
def refclkBack (input : Nat) (_ : Regs) (d : Dev) : Dev :=
  if d.mde.dstate == .reset ∨ 3 ≤ input ∨ refHas d input then d else raise 2 3 (setRef input true d)

/-- REFCLK_BACK [18 R544]. -/
def execRefclkBack (input : Nat) (s : State) : Host.Outcome State Fault Refusal := onDev s (refclkBack input)

/-- MPLL_HOLD_TIMEOUT: MPLL has not re-locked within 100 ms of its loss [18 R534 R535]. -/
def execMpllHoldTimeout (s : State) : Host.Outcome State Fault Refusal :=
  onReset s fun _ d =>
    match at' d.clk.lostAt 2 with
    | some t => (d, if !(d.mde.dstate == .reset) && !(d.clk.lock.testBit 2) && decide (t + ticksMs 100 ≤ d.now) then some 7 else none)
    | none => (d, none)

/-! ### Grout -/

/-- Items of a class [18 R537]. -/
def grtItems (tw812 : Bool) (cls : Nat) : Nat :=
  if tw812 then at' [6, 26, 12, 16, 20, 1] cls else at' [12, 40, 24, 24, 24, 1] cls

/-- Steps of an item of a class [18 R537]. -/
def grtSteps (cls : Nat) : Nat := at' [80, 8, 2, 1, 1, 1] cls

/-- Length of a step of a class, µs [18 R537]. -/
def grtStepUs (cls : Nat) : Nat := at' [150, 82, 1000, 50000, 10, 5] cls

/-- Classes that the settings count [18 R541]. -/
def grtClassOn (r : Regs) (cls : Nat) : Bool := bit (r.get F.GRT_CFG_CLASS_EN) cls

/-- Number of items of the classes below `cls` that count. -/
def grtBefore (r : Regs) (d : Dev) (cls : Nat) : Nat :=
  foldN cls (fun c n => if grtClassOn r c then n + grtItems d.tw812 c else n) 0

/-- K of R539. -/
def grtTotal (r : Regs) (d : Dev) : Nat := grtBefore r d 6

/-- An item has been tested in the pass in hand. -/
def grtTested (d : Dev) (cls item : Nat) : Bool := (at' d.grt.classes cls).tested.contains item

/-- Length of a pass, ns [18 GRT_CFG]. -/
def grtPassNs (r : Regs) : Nat := r.get F.GRT_CFG_PASS_TIME * 3600 * nsPerSec

/-- A test of an item is due: owed ahead of the schedule, carried to the head of the pass, or past its place in it [18 R539]. -/
def grtDue (r : Regs) (d : Dev) (cls item : Nat) : Bool :=
  let i := grtBefore r d cls + item
  (cls == 0 && d.grt.owed.contains item) ||
    (!(grtTested d cls item) && (d.grt.carried.contains (cls, item) || decide (d.grt.passAt + i * grtPassNs r / grtTotal r d ≤ d.tb3))) ||
    cls == 5

/-- The need of a class is met for an item [18 R537]. -/
def grtFree (d : Dev) (cls item : Nat) : Bool :=
  match cls with
  | 0 => (match (d.tile item).st with | .free | .grout | .suspect => true | _ => false)
  | 1 => (match (d.bank item).st with | .free | .grout => true | .suspect => (d.bank item).use == 0 | _ => false)
  | 2 => d.gns0.queue.isEmpty && d.gns0.search.isNone && !(d.gns0.bankOff) && d.pwr.pgood.testBit 4
  | 4 => !(d.mde.cyc.running) || decide (95 * d.mde.cyc.periodNs ≤ 100 * (d.tb0 + d.mde.cyc.periodNs - d.mde.cyc.nextCut))
  | _ => true

/-- The step ends before the next cut; a CONV step may run across cuts [18 R538]. -/
def grtFits (d : Dev) (cls : Nat) : Bool :=
  cls == 3 || !(d.mde.cyc.running) || decide (d.tb0 + 1000 * grtStepUs cls ≤ d.mde.cyc.nextCut)

/-- Steps already done of an item. -/
def grtDone (d : Dev) (cls item : Nat) : Nat :=
  match d.grt.begun.find? fun (g : Nat × Nat × Nat) => g.1 == cls && g.2.1 == item with
  | some g => g.2.2
  | none => 0

/-- GROUT_STEP_START: the next step of an item that is due, idle and done before the next cut; one step at a time, with CONV beside it [18 R537 R538 R541]. (log 102) -/
def groutStart (cls item : Nat) (r : Regs) (d : Dev) : Dev :=
  let busy := d.grt.running.any fun (g : GrtStep) => (g.cls == 3) == (cls == 3)
  if d.awake && r.bit F.GRT_CFG_EN && decide (cls < 6) && grtClassOn r cls && decide (item < grtItems d.tw812 cls) && !busy &&
      grtDue r d cls item && grtFree d cls item && grtFits d cls then
    let d := { d with grt := { d.grt with running := d.grt.running ++ [{ cls := cls, item := item, step := grtDone d cls item }] } }
    match cls with
    | 0 => modTile item (fun x => { x with st := if x.st == .suspect then .suspect else .grout }) d
    | 1 => modBank item (fun x => { x with st := if x.st == .suspect then .suspect else .grout }) d
    | _ => d
  else d

/-- GROUT_STEP_START [18 R538]. -/
def execGroutStepStart (cls item : Nat) (s : State) : Host.Outcome State Fault Refusal := onDev s (groutStart cls item)

/-- The step in hand of a class and what it leaves running. -/
def dropStep (cls : Nat) (d : Dev) : Dev := { d with grt := { d.grt with running := d.grt.running.filter fun (g : GrtStep) => g.cls != cls } }

/-- An item given back after its test, or after a step that was abandoned: a tile that owes no test and a bank are free again [18 R538 R539]. -/
def grtGiveBack (cls item : Nat) (d : Dev) : Dev :=
  match cls with
  | 0 => if d.grt.owed.contains item then d else modTile item (fun x => { x with st := if x.st == .grout || x.st == .suspect then .free else x.st }) d
  | 1 => modBank item (fun x => { x with st := if x.st == .grout then .free else x.st }) d
  | _ => d

/-- An item's test is complete [10 R303 R305, 18 R539]. -/
def grtPassed (cls item : Nat) (d : Dev) : Dev :=
  let owed := cls == 0 && d.grt.owed.contains item
  let d := { d with grt := { d.grt with
    begun := d.grt.begun.filter (fun (g : Nat × Nat × Nat) => !(g.1 == cls && g.2.1 == item)), carried := d.grt.carried.filter (fun x => x != (cls, item)),
    owed := if cls = 0 then d.grt.owed.filter (fun t => t != item) else d.grt.owed,
    classes := modAt d.grt.classes cls fun (c : GrtClass) => { c with tested := if c.tested.contains item then c.tested else c.tested ++ [item] } } }
  raiseIf owed 0x2C 3 (grtGiveBack cls item d)

/-- A confirmed fault acts [18 R537 R540]. (log 102) -/
def grtFault (r : Regs) (cls item code : Nat) (d : Dev) : Dev :=
  let owed := cls == 0 && d.grt.owed.contains item
  let d := { d with grt := { d.grt with
    begun := d.grt.begun.filter (fun (g : Nat × Nat × Nat) => !(g.1 == cls && g.2.1 == item)), carried := d.grt.carried.filter (fun x => x != (cls, item)),
    safOk := d.grt.safOk && cls != 5, lastFault := (cls, item, code % 2 ^ 16),
    classes := modAt d.grt.classes cls fun (c : GrtClass) =>
      { c with faults := satInc 8 c.faults, tested := if cls = 5 ∨ c.tested.contains item then c.tested else c.tested ++ [item] } } }
  let d := match cls with
    | 0 => faultTiles r [item] d
    | 1 => faultBank item d
    | 2 => bankFaulty d
    | _ => d
  record r .grtFault { p0 := cls, p1 := 0xFF, p2 := code } (raise 0x2C 2 (raiseIf owed 0x2C 3 d))

/-- GROUT_STEP_DONE: a pass leads to the next step or ends the item; a failure is repeated at once, and confirmed by the repeat [18 R540]. -/
def groutDone (cls : Nat) (pass : Bool) (code : Nat) (r : Regs) (d : Dev) : Dev :=
  match d.grt.running.find? fun (g : GrtStep) => g.cls == cls with
  | none => d
  | some g =>
    if pass then
      let d := dropStep cls d
      if g.step + 1 < grtSteps cls then
        { d with grt := { d.grt with
          begun := d.grt.begun.filter (fun (x : Nat × Nat × Nat) => !(x.1 == cls && x.2.1 == g.item)) ++ [(cls, g.item, g.step + 1)] } }
      else if cls = 5 ∧ !(d.grt.safOk) then d
      else grtPassed cls g.item d
    else if g.again then grtFault r cls g.item code (dropStep cls d)
    else { d with grt := { d.grt with running := d.grt.running.map fun (x : GrtStep) => if x.cls = cls then { x with again := true } else x } }

/-- GROUT_STEP_DONE [18 R540]. -/
def execGroutStepDone (cls : Nat) (pass : Bool) (code : Nat) (s : State) : Host.Outcome State Fault Refusal := onDev s (groutDone cls pass code)

/-- Steps still running at a cut are abandoned, CONV apart; their items are given back, and repeated later [01 R26, 18 R538]. (log 102) -/
def groutAtCut (d : Dev) : Dev :=
  let l := d.grt.running.filter fun (g : GrtStep) => g.cls != 3
  let d := { d with grt := { d.grt with running := d.grt.running.filter fun (g : GrtStep) => g.cls == 3 } }
  l.foldl (fun d (g : GrtStep) =>
    match g.cls with
    | 0 => if d.grt.owed.contains g.item then d else modTile g.item (fun x => { x with st := if x.st == .grout then .free else x.st }) d
    | 1 => modBank g.item (fun x => { x with st := if x.st == .grout then .free else x.st }) d
    | _ => d) d

/-- Items tested in the pass in hand. -/
def grtCount (r : Regs) (d : Dev) : Nat := foldN 6 (fun c n => if grtClassOn r c then n + (at' d.grt.classes c).tested.length else n) 0

/-- Coverage of the pass in hand, % [18 GRT_STAT]. -/
def grtCoverage (r : Regs) (d : Dev) : Nat := if grtTotal r d = 0 then 100 else 100 * grtCount r d / grtTotal r d

/-- GROUT_PASS_END: coverage is reported and untested items go to the head of the next pass [18 R539]. -/
def groutPassEnd (r : Regs) (d : Dev) : Dev :=
  if d.awake && r.bit F.GRT_CFG_EN && decide (d.grt.passAt + grtPassNs r ≤ d.tb3) then
    let left := (List.range 6).flatMap fun c =>
      if grtClassOn r c then ((List.range (grtItems d.tw812 c)).filter fun i => !(grtTested d c i)).map fun i => (c, i) else []
    let late := !(left.isEmpty)
    let cov := grtCoverage r d
    let d := { d with grt := { d.grt with
      late := late, passes := wrapInc 16 d.grt.passes, passLen := (d.tb3 - d.grt.passAt) / nsPerSec % 2 ^ 32, passAt := d.tb3, carried := left, safOk := true,
      classes := d.grt.classes.map fun (c : GrtClass) => { c with lastPass := c.tested.length, tested := [] } } }
    if late then record r .grtPass { p0 := cov } (raise 0x2C 1 d) else raise 0x2C 0 d
  else d

/-- GROUT_PASS_END [18 R539]. -/
def execGroutPassEnd (s : State) : Host.Outcome State Fault Refusal := onDev s groutPassEnd

end Sys2Proof.Machine
end

