-- ==== Sys2Proof/Machine/View.lean ====
section
/-! DEFINITION. What the registers read: the value of every field that the device drives, page by page (the RO and W1C rows of the register tables, and the RW rows that do not read their own write). Each view lists fields with their values for window indices `i` and `j` and register copy `a`; `live` holds the select registers that lie outside a window. -/

namespace Sys2Proof.Machine

/-- Fields with the values that they read; a value is taken modulo its field's width. -/
abbrev Vals := List (Fd × Nat)

/-- A signed value in `n` bits. -/
def sBits (n : Nat) (v : Int) : Nat := wrapU n v
/-- Saturated to `n` bits. -/
def satTo (n v : Nat) : Nat := min v (2 ^ n - 1)
/-- A binary64 value as the binary32 register shows it [00 R7]. -/
def f32Of (x : F64) : Nat := x.to32.nat
/-- Element of a list of binary64 values as the register shows it. -/
def f32At' (l : List F64) (i : Nat) : Nat := f32Of (l.getD i F64.zero)

/-! ### SYS, PWR, CLK, IRQ, HST -/

/-- SYS_UC_STAT.PHASE. -/
def UcPhase.code (p : UcPhase) : Nat :=
  match p with
  | .idle => 0 | .checking => 1 | .writing => 2 | .done => 3 | .refused => 4

/-- Page SYS [18 SYS registers]. -/
def viewSys (d : Dev) : Vals :=
  [(F.SYS_ID_VENDOR, 0x484B), (F.SYS_ID_PART, if d.tw812 then 0x0812 else 0x0816), (F.SYS_GRADE_GRADE, d.sys.grade), (F.SYS_GRADE_SILICON, 1),
   (F.SYS_UID_LO_UID, Config.uid), (F.SYS_UID_HI_UID, Config.uid / 2 ^ 32), (F.SYS_RST_CAUSE_CAUSE, d.sys.cause), (F.SYS_BOOT_STAT, d.sys.bootStat),
   (F.SYS_BOOT_FALLBACK, b2n d.sys.fallback), (F.SYS_UC_VER_VERSION, d.sys.ucVer), (F.SYS_UC_FLOOR_FLOOR, d.sys.ucFloor),
   (F.SYS_UC_STAT_PHASE, d.sys.ucPhase.code), (F.SYS_UC_STAT_REFUSE, d.sys.ucRefuse), (F.SYS_TEMP_TEMP, d.sys.temp.nat)]

/-- Page PWR; PWR_DOM_REQ reads 0 for the courses that the grade lacks [18 PWR registers, R519 R521]. -/
def viewPwr (live r : Regs) (d : Dev) : Vals :=
  [(F.PWR_DOM_REQ_COURSE, domReq r d), (F.PWR_DOM_STAT_ON, d.pwr.on), (F.PWR_PGOOD_PGOOD, d.pwr.pgood), (F.PWR_FAULT_FAULT, d.pwr.fault),
   (F.PWR_RAIL_V_V, (at' d.pwr.railV (live.get F.PWR_RAIL_SEL_RAIL)).nat), (F.PWR_RAIL_STAT_WARN, d.pwr.railWarn), (F.PWR_PFAIL_PFAIL, b2n d.sys.pfail)]

/-- Page CLK [18 CLK registers]. -/
def viewClk (live : Regs) (d : Dev) : Vals :=
  let p := live.get F.CLK_PLL_SEL_PLL
  [(F.CLK_STAT_REF25, b2n d.clk.ref25), (F.CLK_STAT_REF_OK, b2n d.clk.refOk), (F.CLK_STAT_SERREF_OK, b2n d.clk.serOk), (F.CLK_STAT_PCIEREF_OK, b2n d.clk.pcieOk),
   (F.CLK_STAT_LOCK, d.clk.lock), (F.CLK_STAT_BCLK_ACT, b2n d.clk.bclk), (F.CLK_STAT_MPLL_HOLD, b2n d.clk.mpllHold),
   (F.CLK_PLL_CNT_LOSSES, at' d.clk.losses p), (F.CLK_PLL_CNT_LAST_US, at' d.clk.lastUs p)]

/-- Page and bit of a global interrupt source [19 R564]. -/
def sourcePlace (g : Nat) : Nat × Nat :=
  match irqPages.find? fun (e : Nat × Nat × Nat) => decide (e.2.1 ≤ g) && decide (g < e.2.1 + e.2.2) with
  | some (p, lo, _) => (p, g - lo)
  | none => (0, 0)

/-- Page IRQ [19 R564 R565 R566, IRQ registers]. -/
def viewIrq (r : Regs) (d : Dev) (i a : Nat) : Vals :=
  let x := sourcePlace i
  [(F.IRQ_SUM_SUM, (irqActive r d).foldl (fun v g => if g / 32 = a then setBit v (g % 32) true else v) 0),
   (F.IRQ_SRC_INFO_PAGE, x.1), (F.IRQ_SRC_INFO_BIT, x.2), (F.IRQ_SRC_INFO_PRESENT, b2n (!(pageAbsent d x.1))),
   (F.IRQ_PIN_CFG_LEVEL, intPins r d), (F.IRQ_VEC_STAT_PEND, vecPend r d)]

/-- Page HST [19 HST registers]. -/
def viewHst (d : Dev) : Vals :=
  let h := d.hst
  let act := match h.spiAt with | some t => decide (d.now < t + ticksMs 1) | none => false
  [(F.HST_STAT_PCIE_UP, b2n h.up), (F.HST_STAT_WIDTH, h.width), (F.HST_STAT_SPEED, h.speed), (F.HST_STAT_BME, b2n h.bme), (F.HST_STAT_MSIX_EN, b2n h.msix),
   (F.HST_STAT_SPI_ACTIVE, b2n act), (F.HST_ERR_PARTIAL, h.errPartial), (F.HST_ERR_UNMAPPED, h.unmapped), (F.HST_ERR_SPI_CRC, h.spiCrc),
   (F.HST_ERR_SPI_ABORT, h.spiAbort), (F.HST_LAST_ERR_ADDR, h.lastErr.1), (F.HST_LAST_ERR_PORT, h.lastErr.2.1), (F.HST_LAST_ERR_KIND, h.lastErr.2.2)]

/-! ### MDE, CFG, MSN, SLV -/

/-- MDE_STATUS.DSTATE. -/
def DState.code (s : DState) : Nat :=
  match s with
  | .reset => 0 | .boot => 1 | .load => 2 | .ready => 3 | .run => 4 | .safeHold => 5

/-- The mode uses the set-point profile [03 R82]. -/
def Dev.profiles (d : Dev) : Bool :=
  match d.mde.mode with
  | .autopos | .follow | .transfer => true
  | .joystick => d.mde.autoHdg
  | _ => false

/-- Page MDE [03 MDE registers]. -/
def viewMde (d : Dev) : Vals :=
  let m := d.mde
  let p := m.prof
  let use := d.profiles
  let host := m.dorm == .hostLevel || m.dorm == .descent
  [(F.MDE_STATUS_MODE, m.mode.num), (F.MDE_STATUS_AUTO_HDG, b2n m.autoHdg), (F.MDE_STATUS_DSTATE, m.dstate.code), (F.MDE_STATUS_DORM_HOST, b2n host),
   (F.MDE_STATUS_FALLBACK, b2n d.ctl.fallback), (F.MDE_STATUS_CUT_REALIGN, b2n m.cyc.realign),
   (F.MDE_STATUS_MOVING, b2n (use && (p.lin.phase != .hold || p.hdg.phase != .hold))),
   (F.MDE_STATUS_LIMIT_DEFERRED, b2n (use && (p.lin.deferred || p.hdg.deferred))), (F.MDE_STATUS_SP_OVERRUN, b2n (use && p.overrun)),
   (F.MDE_STATUS_FOLLOW_OBJ, if m.mode == .follow then m.followObj else 0),
   (F.MDE_RESULT_MODE, m.resMode), (F.MDE_RESULT_CODE, m.resCode), (F.MDE_RESULT_COUNT, m.resCount), (F.MDE_HOLD_CAUSE_CAUSE, m.holdCause),
   (F.MDE_PRF_NORTH_V, f32Of p.refN), (F.MDE_PRF_EAST_V, f32Of p.refE), (F.MDE_PRF_HEADING_V, f32Of p.refH), (F.MDE_PRF_REM_V, f32Of p.remaining)]

/-- CFG_LOAD_STAT.PHASE. -/
def LoadPhase.code (p : LoadPhase) : Nat :=
  match p with
  | .idle => 0 | .checking => 1 | .writing => 2 | .pending => 3 | .done => 4 | .refused => 5 | .aborted => 6

/-- Page CFG [02 CFG registers]. -/
def viewCfg (live : Regs) (d : Dev) : Vals :=
  let c := d.cfg
  let a := c.active.getD {}
  [(F.CFG_LOAD_STAT_PHASE, c.phase.code), (F.CFG_LOAD_STAT_STRUCT, b2n c.structDiff), (F.CFG_LOAD_STAT_DEFERRED, b2n c.deferred), (F.CFG_LOAD_STAT_REFUSE, c.refuse),
   (F.CFG_LOAD_STAT_SECTION, c.section_), (F.CFG_LOAD_RECORD_RECORD, c.record), (F.CFG_ACTIVE_VALID, b2n c.active.isSome), (F.CFG_ACTIVE_SLOT, c.slot),
   (F.CFG_ACTIVE_OVERLAY, b2n a.overlay), (F.CFG_ACTIVE_ID_ID, a.imageId), (F.CFG_ACTIVE_REV_REV, a.rev), (F.CFG_OVERLAY_REV_REV, a.overlayRev),
   (F.CFG_CUTINS_COUNT, c.cutins), (F.CFG_KEY_DATA_DATA, at' c.keyStage (16 * live.get F.CFG_KEY_SEL_KEY + live.get F.CFG_KEY_SEL_WORD)),
   (F.CFG_KEY_STAT_SET, bitMap (c.keys.map Option.isSome))]

/-- MSN_DIAG_TILE.STATE. -/
def TileState.code (s : TileState) : Nat :=
  match s with
  | .free => 0 | .busy => 1 | .grout => 2 | .suspect => 3 | .faulty => 4 | .off => 5

/-- MSN_DIAG_BANK.STATE. -/
def BankState.code (s : BankState) : Nat :=
  match s with
  | .free => 0 | .inUse => 1 | .grout => 2 | .suspect => 3 | .faulty => 4 | .moving => 5

/-- Workspace row of R290 in which a job keeps its state: the solver workspace for SOLVE, cross-tracking staging for XTRK_POST, the row of the other jobs for the rest [10 R290]. -/
def jobWorkspace (j : Nat) : Nat := if j = 2 then 3 else if j = 7 then 5 else 6

/-- Tiles of the grade in a state. -/
def tilesIn (d : Dev) (f : TileState → Bool) : Nat := (d.msn.tiles.take d.tileCount).countP fun (t : Tile) => f t.st
/-- Banks of the grade in a state. -/
def banksIn (d : Dev) (f : BankState → Bool) : Nat := (d.msn.banks.take d.bankCount).countP fun (b : Bank) => f b.st

/-- MSN_JOB_STAT.STATE [10 MSN registers]. -/
def jobState (d : Dev) (j : Nat) : Nat :=
  let x := d.job j
  if !x.needed then 0 else if x.moving.isSome || x.moveDue then 2 else if x.tiles.isEmpty then 3 else 1

/-- The diagnostic registers of page MSN, which read 0 while MSN_DIAG_CTL.EN = 0 [10 R310]. (log 106) -/
def viewMsnDiag (live : Regs) (d : Dev) : Vals :=
  let t := live.get F.MSN_DIAG_TILE_SEL_TILE
  let j := live.get F.MSN_JOB_SEL_JOB
  let b := live.get F.MSN_DIAG_BANK_SEL_BANK
  let jobs := d.jobsOn t
  let share := jobs.foldl (fun n k => n + if k = 0 ∨ k = 2 then 1000 else jobShare d k) 0
  let bank := ((List.range d.bankCount).find? fun k => (d.bank k).use == jobWorkspace j).getD 0x3F
  let tile := fun n => (d.job j).tiles.getD n 0xF
  let on := if t < d.tileCount then 1 else 0
  let have_ := if b < d.bankCount then 1 else 0
  let v : Vals :=
    [(F.MSN_DIAG_TILE_STATE, on * (d.tile t).st.code), (F.MSN_DIAG_TILE_JOBS, on * jobs.foldl (fun v k => setBit v k true) 0), (F.MSN_DIAG_TILE_SHARE, on * (share / 10)),
     (F.MSN_DIAG_JOB_TILE0, tile 0), (F.MSN_DIAG_JOB_TILE1, if j = 2 then tile 1 else 0xF), (F.MSN_DIAG_JOB_BANK, bank),
     (F.MSN_DIAG_BANK_STATE, have_ * (d.bank b).st.code), (F.MSN_DIAG_BANK_USE, have_ * (d.bank b).use), (F.MSN_DIAG_BANK_CE_COUNT, have_ * (d.bank b).ce)]
  if live.bit F.MSN_DIAG_CTL_EN then v else v.map fun (e : Fd × Nat) => (e.1, 0)

/-- Page MSN [10 MSN registers]. (log 106) -/
def viewMsn (live r : Regs) (d : Dev) (i : Nat) : Vals :=
  let x := d.job i
  [(F.MSN_STAT_TILES_BUSY, tilesIn d (· == .busy)), (F.MSN_STAT_TILES_FREE, tilesIn d fun s => s == .free || s == .grout), (F.MSN_STAT_TILES_FAULTY, tilesIn d (· == .faulty)),
   (F.MSN_STAT_TILES_SUSPECT, tilesIn d (· == .suspect)), (F.MSN_STAT_BANKS_FREE, banksIn d (· == .free)), (F.MSN_STAT_BANKS_FAULTY, banksIn d (· == .faulty)),
   (F.MSN_STAT_SPARE_LOW, b2n d.msn.spareLow), (F.MSN_STAT_UNPLACED, b2n ((List.range 15).any fun j => jobState d j == 3)),
   (F.MSN_COUNT_TILE_FAULTS, d.msn.tileFaults), (F.MSN_COUNT_MIGRATIONS, d.msn.migrations),
   (F.MSN_JOB_STAT_STATE, jobState d i), (F.MSN_JOB_STAT_RESTARTED, b2n x.restarted), (F.MSN_JOB_STAT_PINNED, b2n ((pinOf r i).isSome && !x.pinBroken)),
   (F.MSN_JOB_STAT_PIN_BROKEN, b2n x.pinBroken), (F.MSN_JOB_STAT_MOVES, x.moves), (F.MSN_JOB_STAT_OVERRUNS, x.overruns),
   (F.MSN_JOB_TIME_LAST, satTo 16 x.lastUs), (F.MSN_JOB_TIME_MAX, satTo 16 x.maxUs)] ++ viewMsnDiag live d

/-- Page SLV [09 SLV registers]. (log 106) -/
def viewSlv (d : Dev) (i : Nat) : Vals :=
  let s := d.slv
  let j : JointSt := if i = 0 then {} else at' s.joints (i - 1)
  let t := s.tgt.getD [F64.zero, F64.zero, F64.zero]
  [(F.SLV_STAT_OUTCOME, s.outcome), (F.SLV_STAT_REASON, s.reason), (F.SLV_STAT_COLD, b2n s.cold), (F.SLV_STAT_WARM_REJECT, b2n s.warmReject),
   (F.SLV_STAT_REGULARISED, b2n s.regularised), (F.SLV_STAT_RUNNING, b2n (s.stage == .running)), (F.SLV_STAT_ITERS, satTo 16 s.iters),
   (F.SLV_SIZE_VARS, s.sig.vars), (F.SLV_SIZE_ACTIVE, s.active), (F.SLV_TIME_SOLVE, satTo 16 s.solveUs), (F.SLV_TIME_ASM, satTo 16 s.asmUs), (F.SLV_VIOL_VIOL, s.viol.nat),
   (F.SLV_PIVOT_COL, s.pivotCol), (F.SLV_PIVOT_REG_RUN, satTo 4 s.regRun), (F.SLV_PIVOT_COUNT, satTo 12 s.pivotCnt),
   (F.SLV_CAUSE_CAUSE, s.cause), (F.SLV_CAUSE_THR, s.causeThr), (F.SLV_CAUSE_JOINT, s.causeJoint),
   (F.SLV_SIG0_VARS, s.sig.vars), (F.SLV_SIG0_N_USED, s.sig.n), (F.SLV_SIG0_APP, b2n s.sig.app), (F.SLV_SIG0_MASK, s.sig.mask),
   (F.SLV_SIG1_ROWS, s.sig.rows), (F.SLV_SIG1_ASTERN, s.sig.astern), (F.SLV_CNT_WARM_REJECT, s.cntReject), (F.SLV_CNT_COLD, s.cntCold),
   (F.SLV_CNT2_PIVOT_SMALL, s.cntPivot), (F.SLV_CNT2_ABANDONED, s.cntAband), (F.SLV_NUM_SQRT_NEG, s.sqrtNeg)] ++
  [(F.SLV_APP_TGT_N_V, f32At' t 0), (F.SLV_APP_TGT_E_V, f32At' t 1), (F.SLV_APP_TGT_D_V, f32At' t 2), (F.SLV_APP_ERR_V, s.appErr.nat),
   (F.SLV_APP_STAT_ACTIVE, b2n s.subRunning), (F.SLV_APP_STAT_LIMIT, s.appLimit), (F.SLV_APP_STAT_SINGULAR, b2n s.singular), (F.SLV_APP_STAT_OVERRUNS, s.overruns),
   (F.SLV_APP_REACT_X_V, (at' s.react 0).nat), (F.SLV_APP_REACT_Y_V, (at' s.react 1).nat), (F.SLV_APP_REACT_N_V, (at' s.react 2).nat),
   (F.SLV_JNT_Q_V, j.q.nat), (F.SLV_JNT_QD_V, j.qd.nat), (F.SLV_JNT_TAU_V, j.tau.nat), (F.SLV_AZ_TAU_TAU, (at' s.azTau i).nat)]

/-! ### FUS, CTL, ALC -/

/-- Age in 0.1 s units, saturating at 16 bits. -/
def tenths (from_ now : Nat) : Nat := satTo 16 ((now - from_) / 100000000)

/-- FUS_SRC_STAT.REF. -/
def RefState.code (s : RefState) : Nat :=
  match s with
  | .notRef => 0 | .accepted => 1 | .rejected => 2 | .excluded => 3

/-- Page FUS [07 FUS registers]. -/
def viewFus (r : Regs) (d : Dev) (i : Nat) : Vals :=
  let f := d.fus
  let s := d.fsrc i
  let g := at' f.grps i
  let late := d.fus.tgt.any fun (t : TgtSt) => t.rerun.isSome
  let own := decide (i = 0)
  let t := d.tgt i
  [(F.FUS_STAT_OWN_VALID, b2n f.own.init), (F.FUS_STAT_POS_VALID, b2n f.posValid), (F.FUS_STAT_HDG_VALID, b2n f.hdgValid),
   (F.FUS_STAT_DR, b2n (decide (f.posAt + nsPerSec ≤ d.tb0))), (F.FUS_STAT_RERUN, b2n (f.rerun.isSome || late)), (F.FUS_STAT_REF_DISAGREE, b2n f.disagree),
   (F.FUS_STAT_NREF_ACC, f.srcs.countP fun (x : FusSrc) => x.ref == .accepted && !x.voteOut), (F.FUS_STAT_POS_AGE, tenths f.posAt d.tb0),
   (F.FUS_REW_STAT_LAST_DEPTH, f.lastDepth), (F.FUS_REW_STAT_MAX_DEPTH, f.maxDepth), (F.FUS_REW_STAT_SPAN, f.snaps.length),
   (F.FUS_LATE_DROP_COUNT, f.lateDrop), (F.FUS_LATE_DROP_LAST_SRC, f.lateSrc), (F.FUS_LOG_RECORDS, min f.log.length 32768), (F.FUS_LOG_EVICT, f.evict),
   (F.FUS_ORG_LAT_LO_V, f.lat0.nat), (F.FUS_ORG_LAT_HI_V, f.lat0.nat / 2 ^ 32), (F.FUS_ORG_LON_LO_V, f.lon0.nat), (F.FUS_ORG_LON_HI_V, f.lon0.nat / 2 ^ 32),
   (F.FUS_ORG_STAT_SET, b2n f.orgSet), (F.FUS_ORG_STAT_FAR, b2n f.far), (F.FUS_ORG_STAT_GEN, f.orgGen)] ++
  [(F.FUS_SRC_STAT_REF, s.ref.code), (F.FUS_SRC_STAT_REASON, if s.voteOut then 6 else s.reason.code), (F.FUS_SRC_STAT_TIME_SUSPECT, b2n s.suspect),
   (F.FUS_SRC_STAT_CLK_INIT, b2n (match s.clkFirst with | some t => decide (d.tb0 < t + nsOf32 (r.f32 F.FUS_CLK_INIT_V)) | none => false)),
   (F.FUS_SRC_STAT_PRED_FAILS, satTo 8 s.predFails), (F.FUS_SRC_STAT_FUSED, s.fused), (F.FUS_SRC_OFS_OFS, f32Of s.ofs), (F.FUS_SRC_RATE_RATE, f32Of s.rho),
   (F.FUS_SRC_RESID_RESID, f32Of s.resid), (F.FUS_SRC_WEIGHT_WEIGHT, s.weight.nat),
   (F.FUS_VGRP_STAT_MEMBERS, g.members), (F.FUS_VGRP_STAT_USED, g.used), (F.FUS_VGRP_STAT_DISAGREE, b2n g.disagree), (F.FUS_VGRP_STAT_CHOSEN, g.chosen),
   (F.FUS_OBJ_STAT_INIT, b2n (if own then f.own.init else (d.tgtEst i).init)), (F.FUS_OBJ_STAT_VALID, b2n (if own then f.own.init else t.valid)),
   (F.FUS_OBJ_STAT_HDG_FROM_COURSE, b2n (!own && t.fromCourse)),
   (F.FUS_OBJ_STAT_AGE, if own then tenths f.posAt d.tb0 else match t.posAt with | some a => tenths a d.tb0 | none => 0)]

/-- Page CTL [08 CTL registers]. -/
def viewCtl (d : Dev) : Vals :=
  let c := d.ctl
  [(F.CTL_STAT_OUTCOME, c.outcome), (F.CTL_STAT_FALLBACK, b2n c.fallback), (F.CTL_STAT_SHIFT_RUN, min c.shiftRun 3), (F.CTL_STAT_SOLVED_RUN, min c.solvedRun 2),
   (F.CTL_STAT_N_USED, c.nUsed), (F.CTL_STAT_WIND_FF, b2n c.windFf), (F.CTL_ERR_ALONG_V, f32At' c.err 0), (F.CTL_ERR_ACROSS_V, f32At' c.err 1),
   (F.CTL_ERR_HDG_NOW_V, f32At' c.err 2), (F.CTL_TAU_X_V, f32At' c.tau 0), (F.CTL_TAU_Y_V, f32At' c.tau 1), (F.CTL_TAU_N_V, f32At' c.tau 2),
   (F.CTL_FB_CNT_ENTRIES, c.fbEntries), (F.CTL_FB_CNT_SHIFTED, c.shifted)]

/-- Body-frame force that the set-points last handed to a thruster stand for [08 ALC_THR_FX, ALC_THR_FY]. -/
def thrBodyForce (d : Dev) (i : Nat) : F64 × F64 :=
  let w := thrWrench d i (d.thr i).last.f
  (w.getD 0 F64.zero, w.getD 1 F64.zero)

/-- Page ALC [08 ALC registers]. -/
def viewAlc (d : Dev) (i : Nat) : Vals :=
  let t := d.thr i
  let b := thrBodyForce d i
  [(F.ALC_THR_STAT_AVAIL, b2n t.avail), (F.ALC_THR_STAT_LOST_CAUSE, t.lostCause), (F.ALC_THR_STAT_RECOVERING, b2n t.recovering), (F.ALC_THR_STAT_SAT, b2n t.sat),
   (F.ALC_THR_STAT_SECTOR, b2n t.edge.isSome), (F.ALC_THR_STAT_AHEAD, b2n t.ahead), (F.ALC_THR_FX_V, f32Of b.1), (F.ALC_THR_FY_V, f32Of b.2), (F.ALC_THR_AZ_V, t.last.az.nat),
   (F.ALC_MASK_AVAIL, d.thrMask), (F.ALC_STAT_NO_SPAN, b2n d.alc.noSpan), (F.ALC_STAT_LOSSES, d.alc.losses),
   (F.ALC_AVAIL_X_V, f32At' d.alc.avail 0), (F.ALC_AVAIL_Y_V, f32At' d.alc.avail 1), (F.ALC_AVAIL_N_V, f32At' d.alc.avail 2), (F.ALC_SIGMA_MIN_V, f32Of d.alc.sigmaMin)]

/-! ### GNS0, GNS1, GNS2 -/

/-- GNS0_NOTCH_STAT.STATE. -/
def NotchState.code (s : NotchState) : Nat := match s with | .free => 0 | .locked => 1 | .hold => 2
/-- GNS0_CHN_STAT.STATE. -/
def ChState.code (s : ChState) : Nat := match s with | .idle => 0 | .pullIn => 1 | .fll => 2 | .pll => 3 | .coast => 4

/-- Page GNS0 [04 GNS0 registers]. -/
def viewGns0 (d : Dev) (i j : Nat) : Vals :=
  let g := d.gns0
  let p := d.path i
  let n := at' p.notches j
  let c := d.chan i
  let chans := g.chans.take (chanCount d)
  let tracks := fun (c : Channel) => c.st == .fll || c.st == .pll
  [(F.GNS0_ACQ_STAT_ENGINE, b2n d.serial), (F.GNS0_ACQ_STAT_BANK_FAULT, b2n g.bankFault), (F.GNS0_ACQ_STAT_BANK_OFF, b2n g.bankOff),
   (F.GNS0_ACQ_STAT_QUEUE, satTo 8 g.queue.length), (F.GNS0_ACQ_STAT_DETECTS, g.detects),
   (F.GNS0_AGC_STAT_GAIN, p.gain), (F.GNS0_AGC_STAT_CLIP, p.clip), (F.GNS0_AGC_STAT_FAULT_OPEN, b2n p.faultOpen), (F.GNS0_AGC_STAT_FAULT_OVERLOAD, b2n p.faultOver),
   (F.GNS0_AGC_STAT_PATH_FAULT, b2n (p.faultOpen || p.faultOver)), (F.GNS0_JAM_JI, satTo 8 p.ji), (F.GNS0_JAM_DG, satTo 8 p.dg), (F.GNS0_JAM_DN, satTo 8 p.dn),
   (F.GNS0_JAM_NOTCH_LOSS, satTo 8 p.notchLoss), (F.GNS0_NOTCH_STAT_STATE, n.st.code), (F.GNS0_NOTCH_STAT_DEPTH, n.depth), (F.GNS0_NOTCH_STAT_FREQ, sBits 16 n.freq),
   (F.GNS0_CHN_STAT_STATE, c.st.code), (F.GNS0_CHN_STAT_HALF_CYC, b2n c.halfCyc), (F.GNS0_CHN_STAT_SIG, c.sig), (F.GNS0_CHN_STAT_SV, c.sv), (F.GNS0_CHN_STAT_PATH, c.path),
   (F.GNS0_CHN_STAT_SIDE_PEAK, satTo 4 c.sidePeak), (F.GNS0_CHN_STAT_SLIPS, c.slips), (F.GNS0_CHN_CN0_CN0, satTo 10 c.cn0), (F.GNS0_CHN_DOPP_DOPP, c.dopp.nat)] ++
  [(F.GNS0_CHN_COUNT_TRACKING, chans.countP fun c => tracks c && decide (c.path < 4)), (F.GNS0_CHN_COUNT_PARTNER, chans.countP fun c => tracks c && decide (4 ≤ c.path)),
   (F.GNS0_CHN_COUNT_FREE, chans.countP fun c => c.st == .idle), (F.GNS0_XTRK_STAT_RX_ACTIVE, b2n g.rxActive), (F.GNS0_XTRK_STAT_TX_ACTIVE, b2n g.txActive),
   (F.GNS0_XTRK_STAT_GAP, satTo 8 g.gap), (F.GNS0_XTRK_STAT_BLOCK_ERR, g.blockErr)]

/-- Page GNS1 [05 GNS1 registers]. -/
def viewGns1 (live : Regs) (d : Dev) (i a : Nat) : Vals :=
  let g := d.gns1
  let s := live.get F.GNS1_ISB_SEL_SYS
  [(F.GNS1_RTK_STAT_STATION, if g.rtk.known then g.rtk.station else 0), (F.GNS1_RTK_STAT_AGE, match g.rtk.msmAt with | some t => satTo 12 ((d.tb0 - t) / 100000000) | none => 0),
   (F.GNS1_RTK_STAT_FIX, if g.rtk.fixed then 2 else if g.rtk.running then 1 else 0), (F.GNS1_RTCM_CNT_ACCEPTED, g.rtcmAcc), (F.GNS1_RTCM_CNT_IGNORED, g.rtcmIgn),
   (F.GNS1_RTCM_ERR_CRC_FAIL, g.rtcmErr), (F.GNS1_ATT_STAT_MODE, g.attMode), (F.GNS1_ATT_STAT_BASE_FAIL, b2n g.baseFail), (F.GNS1_ATT_STAT_ANTS, g.ants),
   (F.GNS1_ATT_STAT_NSV, g.attNsv), (F.GNS1_SOL_STAT_TYPE, g.type), (F.GNS1_SOL_STAT_ANT, g.ant), (F.GNS1_SOL_STAT_NSV, g.nsv), (F.GNS1_SOL_STAT_EXCL, g.excl),
   (F.GNS1_ISB_SEL_ESTIMATED, b2n (bit g.isbEst s)), (F.GNS1_ISB_SEL_BCAST_VALID, b2n (g.isbBcast.getD s none).isSome),
   (F.GNS1_ISB_V, (at' g.isb i).nat), (F.GNS1_ISB_BCAST_V, ((g.isbBcast.getD i none).getD F32.zero).nat),
   (F.GNS1_POS_REC_W, (at' g.posRec a).toNat), (F.GNS1_ATT_REC_W, (at' g.attRec a).toNat)]

/-- Page GNS2 [05 GNS2 registers]. (log 106) -/
def viewGns2 (d : Dev) (a : Nat) : Vals :=
  let g := d.gns2
  let k := g.kept
  [(F.GNS2_TIME_STAT_STATE, g.st.code), (F.GNS2_TIME_STAT_STEP_PENDING, b2n g.stepAt.isSome), (F.GNS2_TIME_STAT_LIMIT_PASSED, b2n g.limitPassed),
   (F.GNS2_EST_ERR_V, satTo 32 g.estErr), (F.GNS2_OFFSET_V, sBits 32 g.offset), (F.GNS2_HOLD_START_LO_V, g.holdStart), (F.GNS2_HOLD_START_HI_V, g.holdStart / 2 ^ 32),
   (F.GNS2_TP_MSG_W, (at' g.tpMsg a).toNat), (F.GNS2_KEEP_STAT_ALM, b2n k.alm), (F.GNS2_KEEP_STAT_EPH, b2n (decide (k.eph ≠ 0))), (F.GNS2_KEEP_STAT_POS, b2n k.pos.isSome),
   (F.GNS2_KEEP_STAT_TIME, b2n k.ofs.isSome), (F.GNS2_KEEP_STAT_EPH_COUNT, satTo 8 k.eph),
   (F.GNS2_KEEP_STAT_AGE, match k.at_ with | some t => satTo 16 ((d.tb3 / nsPerSec - t) / 3600) | none => 0),
   (F.GNS2_UTC_TAI_UTC, sBits 16 g.taiUtc), (F.GNS2_UTC_LEAP_PENDING, b2n g.leapPending), (F.GNS2_UTC_LEAP_NEG, b2n g.leapNeg)]

/-! ### SRC, FLT, SIO -/

/-- SRC_STAT.STATE. -/
def SrcState.code (s : SrcState) : Nat := match s with | .unused => 0 | .waiting => 1 | .active => 2 | .timedOut => 3

/-- The sixteen words of a source record [06 R169]. -/
def SrcRecord.words (x : SrcRecord) : List Nat :=
  [x.id % 256 + 2 ^ 8 * (x.kind % 256) + 2 ^ 16 * (x.format % 2 ^ 16), x.flags % 2 ^ 16 + 2 ^ 16 * (x.seq % 2 ^ 16),
   x.stamp % 2 ^ 32, x.stamp / 2 ^ 32 % 2 ^ 32, x.sender % 2 ^ 32, x.sender / 2 ^ 32 % 2 ^ 32] ++
  (List.range 8).map (fun i => (at' x.values i).toNat) ++ [x.qual % 2 ^ 32, x.sigma.nat]

/-- Page SRC [06 SRC registers]. -/
def viewSrc (d : Dev) (i a : Nat) : Vals :=
  let s := d.source i
  let t := s.lastValid.getD 0
  [(F.SRC_STAT_STATE, s.st.code), (F.SRC_STAT_SENDER_TIME, b2n (bit s.last.flags 1)), (F.SRC_STAT_PROJECTED, b2n (bit s.last.flags 2)), (F.SRC_STAT_RECORDS, s.records),
   (F.SRC_ERR_PARSE, s.parse), (F.SRC_ERR_RATE, s.rate), (F.SRC_LAST_LO_V, t), (F.SRC_LAST_HI_V, t / 2 ^ 32), (F.SRC_QUEUE_DEPTH, d.src.queue.length),
   (F.SRC_QUEUE_MAX, d.src.maxDepth), (F.SRC_OVERFLOW_COUNT, d.src.overflow), (F.SRC_OVERFLOW_LAST_SRC, d.src.lastOver), (F.SRC_REC_W, at' s.last.words a)]

/-- Page FLT0 or FLT1: modulator `a` of the page [06 FLT registers]. -/
def viewFlt (r : Regs) (d : Dev) (n a : Nat) : Vals :=
  let m := 4 * n + a
  let f := fltRate r m
  let x := d.modulator m
  let sel := (List.range 4).foldl (fun v k => setBit v k ((d.modulator (4 * n + k)).sel == 1)) 0
  [(F.FLT_SETTLE_COUNT, settleCount f), (F.FLT_SETTLE_H, halfBands f), (F.FLT_GDELAY_V, groupDelay f), (F.FLT_RATIO_FRAC_V, x.ratio), (F.FLT_RATIO_INT_V, x.ratio / 2 ^ 32),
   (F.FLT_STAT_VALID, bits d.flt.valid (8 * n + 7) (8 * n)), (F.FLT_STAT_OVERRANGE, bits d.flt.ovr (8 * n + 7) (8 * n)), (F.FLT_STAT_SELECTED, sel), (F.FLT_APLL_COUNT, d.flt.apll)]

/-- Page SIO [06 SIO registers]. -/
def viewSio (d : Dev) (i : Nat) : Vals :=
  let p := at' d.sio.ports i
  [(F.SIO_STAT_LINES, p.lines), (F.SIO_STAT_BREAK, b2n p.brk), (F.SIO_ERR_CKSUM, p.cksum), (F.SIO_ERR_FRAMING, p.framing), (F.SIO_ERR_OVERLONG, p.overlong),
   (F.SIO_ERR_UNMATCHED, p.unmatched), (F.SIO_450_CNT_ACCEPTED, d.sio.acc450), (F.SIO_450_CNT_REJECTED, d.sio.rej450)]

/-! ### LOP, AOU, PFG, ENC, DIO -/

/-- LOP_CH_STAT.STATE. -/
def LoopState.code (s : LoopState) : Nat := match s with | .off => 0 | .ramp => 1 | .run => 2 | .open_ => 3 | .fault => 4

/-- Channels in use that sample on the tick `t` µs into each millisecond [11 R312]. -/
def loopsAt (r : Regs) (t : Nat) : Nat :=
  (List.range 32).countP fun c => r.bit F.LOP_CH_CFG_USE c && 250 * t % loopPeriod r c == 250 * r.at F.LOP_CH_PHASE_PHASE c

/-- Most channels that share one tick: every period divides 1 ms [11 LOP_LOAD]. -/
def loopPeak (r : Regs) : Nat := foldN 1000 (fun t m => max m (loopsAt r t)) 0

/-- Bit map of the channels in a state. -/
def loopMap (d : Dev) (f : LoopState → Bool) : Nat := bitMap (d.lop.ch.map fun (c : LoopCh) => f c.st)

/-- Page LOP [11 LOP registers]. -/
def viewLop (r : Regs) (d : Dev) (i : Nat) : Vals :=
  let c := d.loop i
  let evals := foldN 32 (fun c n => if r.bit F.LOP_CH_CFG_USE c then n + loopHz (r.at F.LOP_CH_CFG_RATE c) else n) 0
  [(F.LOP_CH_STAT_STATE, c.st.code), (F.LOP_CH_STAT_BANK_ACT, c.bank), (F.LOP_CH_STAT_AW, b2n c.aw), (F.LOP_CH_STAT_SAT, b2n c.sat), (F.LOP_CH_STAT_SWAP_CLAMP, b2n c.swapClamp),
   (F.LOP_CH_STAT_READY, b2n (loopReady d i)), (F.LOP_CH_STAT_CAUSE, c.cause), (F.LOP_CH_STAT_PL_FAILS, satTo 4 c.plFails), (F.LOP_CH_STAT_FAULTS, c.faults),
   (F.LOP_SP_V, c.hand.r.nat), (F.LOP_SP_EFF_V, c.re.nat), (F.LOP_FB_V, c.y.nat), (F.LOP_OUT_V, c.u.nat), (F.LOP_INT_V, c.i.nat), (F.LOP_PL_RES_V, c.res.nat), (F.LOP_FF_V, c.hand.ff.nat),
   (F.LOP_LOAD_EVALS, evals), (F.LOP_LOAD_PEAK, loopPeak r), (F.LOP_RUNMASK_ON, loopMap d LoopState.drives), (F.LOP_FAULTMASK_FAULT, loopMap d fun s => s == .open_ || s == .fault)]

/-- Page AOU [12 AOU registers]. -/
def viewAou (r : Regs) (d : Dev) (i : Nat) : Vals :=
  let o := d.anOut i
  let b := boundAou r i
  [(F.AOU_CODE_CODE, sBits 32 o.code), (F.AOU_STAT_FAIL_ACT, b2n o.fail), (F.AOU_STAT_CLAMPED, b2n o.clamped), (F.AOU_STAT_BOUND, b2n b.isSome), (F.AOU_STAT_CH, b.getD 0)]

/-- Page PFG [12 PFG registers]. -/
def viewPfg (r : Regs) (d : Dev) (i : Nat) : Vals :=
  let a := d.axis i
  [(F.PFG_POS_POS, sBits 32 a.pos), (F.PFG_RATE_RATE, a.rate.nat), (F.PFG_STAT_PHASE, a.phase), (F.PFG_STAT_POS_VALID, b2n a.posValid), (F.PFG_STAT_LIMIT_DEFERRED, b2n a.deferred),
   (F.PFG_STAT_LIM_POS_ACT, b2n (limitOn r d i true)), (F.PFG_STAT_LIM_NEG_ACT, b2n (limitOn r d i false)), (F.PFG_STAT_CHATTER, b2n a.chatter),
   (F.PFG_STAT_HOMING_FAIL, b2n a.homingFail), (F.PFG_STAT_COMPARE_BEHIND, b2n a.cmp.behind), (F.PFG_STAT_ARMED, b2n a.cmp.armed), (F.PFG_STAT_DIR, b2n a.dir),
   (F.PFG_STAT_DIR_CHANGE, b2n a.dirChange), (F.PFG_STAT_MOVE_REFUSED, b2n a.refused), (F.PFG_STAT_FAIL_ACT, b2n a.fail),
   (F.PFG_CMP_TIME_LO_V, a.cmp.time), (F.PFG_CMP_TIME_HI_V, a.cmp.time / 2 ^ 32)]

/-- Page ENC [12 ENC registers]. -/
def viewEnc (d : Dev) (i : Nat) : Vals :=
  let s := d.ssi i
  let q := d.qd i
  let e := d.emu i
  [(F.ENC_SSI_WORD_WORD, s.word), (F.ENC_SSI_STAT_FAIL, b2n s.fail), (F.ENC_SSI_STAT_CAUSE, s.cause), (F.ENC_SSI_STAT_OVERRUN, s.overrun), (F.ENC_SSI_STAT_FAILS, s.fails),
   (F.ENC_QD_COUNT_COUNT, sBits 32 q.count), (F.ENC_QD_IDX_IDX, sBits 32 q.idx), (F.ENC_QD_STAT_ILLEGAL, b2n q.illegal), (F.ENC_QD_STAT_ENC_FAULT, b2n q.fault),
   (F.ENC_QD_STAT_DIR, b2n q.dir), (F.ENC_QD_STAT_DIR_CHANGE, b2n q.dirChange), (F.ENC_QD_STAT_COMPARE_BEHIND, b2n q.cmp.behind), (F.ENC_QD_STAT_ARMED, b2n q.cmp.armed),
   (F.ENC_QD_STAT_IDX_SEEN, b2n q.idxSeen), (F.ENC_QD_STAT_ILL_COUNT, q.illCount), (F.ENC_QD_CMP_TIME_LO_V, q.cmp.time), (F.ENC_QD_CMP_TIME_HI_V, q.cmp.time / 2 ^ 32),
   (F.ENC_EMU_STAT_PENDING, e.queue.length), (F.ENC_EMU_STAT_OVERRUNS, e.overruns)]

/-- Page DIO [12 DIO registers]. -/
def viewDio (r : Regs) (d : Dev) : Vals :=
  [(F.DIO_DIN_RAW_RAW, bitMap (d.dio.din.map fun (x : Din) => x.raw)), (F.DIO_DIN_DIN, bitMap ((List.range 32).map (dinLevel r d))), (F.DIO_DOUT_STAT_LEVEL, d.dio.level)]

/-! ### CAN, E2E, TIM, ETH -/

/-- CANn_PSTAT.STATE. -/
def CanErr.code (s : CanErr) : Nat := match s with | .active => 0 | .passive => 1 | .busOff => 2 | .integrating => 3
/-- CANn_SB_STAT.STATE. -/
def SbState.code (s : SbState) : Nat := match s with | .off => 0 | .sync => 1 | .run => 2

/-- Word `a` of an element: header words, then data [13 R369]. -/
def CanElem.wordAt (e : CanElem) (a : Nat) : Nat :=
  match a with
  | 0 => e.frame | 1 => e.ident | 2 => e.w2 | 3 => e.w3
  | _ => leAt e.data (4 * (a - 4)) 4

/-- The element of the window: by region and index; the log's entries are headers alone [13 R368 R370]. -/
def canWindow (r : Regs) (d : Dev) (n : Nat) : CanElem :=
  let c := d.canCh n
  let i := r.on F.CAN_MRAM_SEL_INDEX n
  match r.on F.CAN_MRAM_SEL_REGION n with
  | 0 => c.stage
  | 1 => { at' c.log (i % 32) with data := [] }
  | 2 => at' c.fifo0.elems i
  | 3 => at' c.fifo1.elems i
  | 4 => at' c.shadow i
  | _ => {}

/-- Page CANn [13 CAN registers]. -/
def viewCan (live r : Regs) (d : Dev) (n i a : Nat) : Vals :=
  let c := d.canCh n
  let f := if a = 0 then c.fifo0 else c.fifo1
  let e := fltStaged d n (r.on F.CAN_FLT_CFG_BASE n + i)
  let x := (d.can.pool.find? fun (e : FltEntry) => e.idx == r.on F.CAN_FLT_CFG_BASE n + i).getD {}
  [(F.CAN_PSTAT_STATE, c.err.code), (F.CAN_PSTAT_WARN, b2n (decide (96 ≤ c.tec) || decide (96 ≤ c.recErr))), (F.CAN_PSTAT_LEC, c.lec), (F.CAN_PSTAT_TEC, satTo 8 c.tec),
   (F.CAN_PSTAT_REC, satTo 7 c.recErr), (F.CAN_PSTAT_PXE, b2n c.pxe), (F.CAN_PSTAT_TDCV, c.tdcv), (F.CAN_TSC_TSC, d.tb3 / 1000), (F.CAN_TXPEND_PEND, c.pend / 2 ^ (32 * a)),
   (F.CAN_TXLOG_STAT_FILL, c.logFill), (F.CAN_TXLOG_STAT_GET, c.logGet), (F.CAN_TXLOG_STAT_PUT_BUSY, c.putBusy),
   (F.CAN_RXF_STAT_FILL, f.fill), (F.CAN_RXF_STAT_GET, f.get), (F.CAN_RXF_STAT_PUT, f.put), (F.CAN_RXF_STAT_LOST, f.lost),
   (F.CAN_RX_CNT_NOMATCH, c.noMatch), (F.CAN_RX_CNT_REMOTE, c.remote), (F.CAN_DB_NEW_NEW, c.dbNew / 2 ^ (32 * a)),
   (F.CAN_FLT_KEY_KEY, e.key), (F.CAN_FLT_SPAN_SPAN, e.span), (F.CAN_FLT_CTRL_CONTROL, x.control),
   (F.CAN_SB_STAT_STATE, c.sb.code), (F.CAN_SB_STAT_CYCLE, c.cycle), (F.CAN_SB_STAT_REF_MISS, c.refMiss), (F.CAN_SB_STAT_WIN_MISS, c.winMiss), (F.CAN_SB_STAT_RXCHK_MISS, c.rxchkMiss),
   (F.CAN_SB_OCC_EMPTY_RUN, satTo 8 c.emptyRun), (F.CAN_SB_OCC_OCC, b2n c.occ), (F.CAN_SB_OCC_CMD_ACTIVE, b2n d.sendsCmd), (F.CAN_ELEM_W, (canWindow live d n).wordAt a)]

/-- Page E2E [13 E2E registers]. -/
def viewE2e (d : Dev) (i : Nat) : Vals :=
  let c := d.ctx i
  [(F.E2E_RUN_RUN_CRC, c.run), (F.E2E_RUN_CNT_COUNT, c.cnt), (F.E2E_STAT_RESULT, c.result), (F.E2E_STAT_BAD, c.bad), (F.E2E_STAT_GOOD, c.good)]

/-- TIM_SRV_STAT.STATE. -/
def SrvState.code (s : SrvState) : Nat := match s with | .off => 0 | .acquiring => 1 | .locked => 2 | .holdover => 3

/-- Servo state as TIM_SRV_STAT shows it: TB0 follows GNS2's state, and a servo in mode 0 reads off [14 R413]. (log 106) -/
def servoState (r : Regs) (d : Dev) (i : Nat) : Nat :=
  if srvMode r d i = 0 then 0
  else if i = 0 && srvSrc r d 0 == 1 then (match d.gns2.st with | .locked => 2 | .holdover => 3 | .unsync | .slewing => 1)
  else (d.srv i).state.code

/-- Page TIM [14 TIM registers]. -/
def viewTim (live r : Regs) (d : Dev) (i : Nat) : Vals :=
  let t := at' d.tim.snap i
  let s := d.srv i
  let pps := at' d.tim.ppsT (live.get F.TIM_TB_SEL_TB)
  [(F.TIM_TB_NS_NS, t.ns), (F.TIM_TB_SEC_LO_SEC_LO, t.sec), (F.TIM_TB_SEC_HI_SEC_HI, t.sec / 2 ^ 32), (F.TIM_TB_INC_FRAC, (d.tb i).incFrac), (F.TIM_TB_INC_INT_INT, (d.tb i).incInt),
   (F.TIM_SRV_STAT_STATE, servoState r d i),
   (F.TIM_SRV_STAT_SRC_ACT, if srvMode r d i = 0 then 0 else srvSrc r d i), (F.TIM_SRV_STAT_P_CLAMP, b2n s.pClamp), (F.TIM_SRV_STAT_Y_CLAMP, b2n s.yClamp), (F.TIM_SRV_STAT_UPDATES, s.updates),
   (F.TIM_SRV_OFS_OFS, sBits 32 s.ofs), (F.TIM_SRV_Y_Y, s.y.nat), (F.TIM_SRV_I_I, s.i.nat),
   (F.TIM_PPSIN_STAT_EDGES, d.tim.ppsEdges), (F.TIM_PPSIN_STAT_AMBIG, d.tim.ppsAmbig),
   (F.TIM_PPSIN_STAT_PRESENT, b2n (match d.tim.ppsAt with | some t => decide (d.now < t + ticksS 2) | none => false)),
   (F.TIM_PPSIN_T_LO_T_LO, pps), (F.TIM_PPSIN_T_HI_T_HI, pps / 2 ^ 32), (F.TIM_NOW_LO_NOW_LO, d.tb0), (F.TIM_NOW_HI_NOW_HI, d.tb0 / 2 ^ 32)]

/-- Page ETHn [14 ETH registers]. -/
def viewEth (d : Dev) (n i : Nat) : Vals :=
  let e := d.mac n
  let c := e.txc.head?.getD (0, 0)
  [(F.ETH_LINK_LINK, b2n e.link), (F.ETH_LINK_AN_DONE, b2n e.anDone), (F.ETH_LINK_BAD_MODE, b2n e.badMode), (F.ETH_CNT_RX_OK, e.rxOk), (F.ETH_CNT_RX_DROP, e.rxDrop),
   (F.ETH_ERR_FCS, e.errFcs), (F.ETH_ERR_SHORT, e.errShort), (F.ETH_ERR_LONG, e.errLong), (F.ETH_ERR_IP, e.errIp),
   (F.ETH_TXQ_STAT_FILL, (at' e.queues i).length), (F.ETH_TXQ_STAT_MISSED, at' e.missed i), (F.ETH_TXQ_STAT_REFUSED, at' e.refused i),
   (F.ETH_TXC_BUF, c.1), (F.ETH_TXC_RESULT, c.2), (F.ETH_TXC_VALID, b2n (!(e.txc.isEmpty))), (F.ETH_RX_POP_BUF, e.filled.headD 0), (F.ETH_RX_POP_VALID, b2n (!(e.filled.isEmpty))),
   (F.ETH_MDIO_DATA, e.mdioData), (F.ETH_MDIO_REG, e.mdioReg), (F.ETH_MDIO_PHY, e.mdioPhy), (F.ETH_MDIO_OP, e.mdioOp), (F.ETH_MDIO_BUSY, b2n e.mdioBusy)]

/-! ### NDL, PAIR, SAF -/

/-- Page NDL [15 NDL registers]. -/
def viewNdl (d : Dev) : Vals :=
  let n := d.ndl
  [(F.NDL_STAT_LINK, b2n n.link), (F.NDL_STAT_LANE0, b2n n.lane0), (F.NDL_STAT_LANE1, b2n n.lane1), (F.NDL_STAT_TRAINING, b2n n.training), (F.NDL_STAT_ID_CLASH, b2n n.idClash),
   (F.NDL_STAT_GRADE_MISMATCH, b2n n.gradeMismatch), (F.NDL_STAT_PARTNER_ID, n.partnerId), (F.NDL_STAT_PARTNER_GRADE, n.partnerGrade), (F.NDL_STAT_TRAININGS, n.trainings),
   (F.NDL_DELAY_DELAY, satTo 16 n.delay), (F.NDL_OFS_OFS, if d.isPrimary then 0 else sBits 32 n.ofs), (F.NDL_ERR_CRC, n.crc), (F.NDL_ERR_DOWNS, n.downs), (F.NDL_ERR_LANE_DOWNS, n.laneDowns),
   (F.NDL_LOAD_XTRK, n.loadXtrk), (F.NDL_LOAD_MIRROR, n.loadMirror)]

/-- PAIR_GLB_STAT.STATE. -/
def GlbState.code (s : GlbState) : Nat := match s with | .idle => 0 | .waiting => 1 | .running => 2 | .done => 3 | .refused => 4 | .timeout => 5

/-- Page PAIR [15 PAIR registers]. -/
def viewPair (d : Dev) : Vals :=
  let p := d.pair
  [(F.PAIR_STAT_STATE, p.state.code), (F.PAIR_STAT_UNIT_ID, p.unitId), (F.PAIR_STAT_COMMANDS, b2n d.commands), (F.PAIR_STAT_ROLE_OUT, b2n p.roleOut), (F.PAIR_STAT_HB_IN, b2n p.hbIn),
   (F.PAIR_STAT_HB_OUT, b2n p.permit.isSome), (F.PAIR_STAT_LINK, b2n d.ndl.link), (F.PAIR_STAT_IMAGE_EQ, b2n p.imageEq), (F.PAIR_STAT_TAKE_READY, b2n d.takeReady),
   (F.PAIR_STAT_TAKE_FAIL, b2n p.takeFail), (F.PAIR_STAT_HOST_TRUNC, b2n p.hostTrunc), (F.PAIR_STAT_CAUSE, p.cause), (F.PAIR_CONT_ACCEPTED, p.accepted), (F.PAIR_CONT_MISSED, p.missed),
   (F.PAIR_CONT_CUT_MISS, p.cutMiss), (F.PAIR_TAKE_STAT_DUE, b2n p.due), (F.PAIR_TAKE_STAT_DEFER, p.defer), (F.PAIR_TAKE_STAT_COUNT, p.takes),
   (F.PAIR_NEXT_TAKE_LO_NEXT_LO, p.nextTake), (F.PAIR_NEXT_TAKE_HI_NEXT_HI, p.nextTake / 2 ^ 32), (F.PAIR_GLB_STAT_STATE, p.glb.code), (F.PAIR_GLB_STAT_TIME, satTo 24 p.glbTime),
   (F.PAIR_STILL_STAT_DONE, b2n p.stillDone), (F.PAIR_STILL_STAT_REFUSED, b2n p.stillRefused), (F.PAIR_STILL_STAT_COST, satTo 16 p.stillCost),
   (F.PAIR_STILL_T_LO_T_LO, p.stillT), (F.PAIR_STILL_T_HI_T_HI, p.stillT / 2 ^ 32)]

/-- Bit map over the eight safety inputs. -/
def safMap8 (f : Nat → Bool) : Nat := bitMap ((List.range 8).map f)
/-- Bit map over the four safety outputs. -/
def safMap4 (f : Nat → Bool) : Nat := bitMap ((List.range 4).map f)

/-- Page SAF: the configuration words read SAF-A's copy [16 SAF registers, R484]. -/
def viewSaf (d : Dev) (a : Nat) : Vals :=
  let s := d.saf
  let waits := fun o => s.outEn false o && s.restart false o && s.allows false o && s.allows true o && !((s.output o).onA)
  [(F.SAF_STAT_STATE_A, s.stA.code), (F.SAF_STAT_STATE_B, s.stB.code), (F.SAF_STAT_KEY, b2n s.key), (F.SAF_STAT_IMAGE_DIFF, b2n s.imageDiff), (F.SAF_STAT_RESET_STUCK, b2n s.stuck),
   (F.SAF_STAT_SRST_CLOSED, b2n s.srstClosed), (F.SAF_STAT_SRST, b2n s.srst), (F.SAF_STAT_FAULT_CAUSE, s.cause),
   (F.SAF_IN_LEVEL_A_BY_A, safMap8 fun i => (s.input i).aByA), (F.SAF_IN_LEVEL_B_BY_A, safMap8 fun i => (s.input i).bByA), (F.SAF_IN_LEVEL_A_BY_B, safMap8 fun i => (s.input i).aByB),
   (F.SAF_IN_LEVEL_B_BY_B, safMap8 fun i => (s.input i).bByB), (F.SAF_IN_STAT_CLOSED, safMap8 s.counts), (F.SAF_IN_STAT_DISC, safMap8 fun i => (s.input i).disc),
   (F.SAF_IN_STAT_STARTUP_PEND, safMap8 fun i => (s.input i).pend), (F.SAF_IN_STAT_DISC_RUN, safMap8 fun i => (s.input i).runA.isSome || (s.input i).runB.isSome),
   (F.SAF_OUT_STAT_ON_A, safMap4 fun o => (s.output o).onA), (F.SAF_OUT_STAT_ON_B, safMap4 fun o => (s.output o).onB), (F.SAF_OUT_STAT_FB_A, safMap4 fun o => (s.output o).fbA),
   (F.SAF_OUT_STAT_FB_B, safMap4 fun o => (s.output o).fbB), (F.SAF_OUT_STAT_OUT_FAULT, safMap4 fun o => (s.output o).fault), (F.SAF_OUT_STAT_RESTART_WAIT, safMap4 waits),
   (F.SAF_CNT_DEMANDS, s.demands), (F.SAF_CNT_RESETS, s.resets), (F.SAF_CNT_UNLOCK_FAIL, s.unlockFail), (F.SAF_CFG_CRC_A_CRC_A, s.crcA), (F.SAF_CFG_CRC_B_CRC_B, s.crcB)] ++
  [F.SAF_IN_CFG_EN, F.SAF_IN_CFG_KIND, F.SAF_IN_CFG_STARTUP_TEST, F.SAF_IN_CFG_DISC_TIME].map (fun (f : Fd) => (f, f.of (s.word false a))) ++
  [F.SAF_OUT_CFG_EN, F.SAF_OUT_CFG_RESTART, F.SAF_OUT_CFG_TP_EN, F.SAF_OUT_CFG_MAP].map (fun (f : Fd) => (f, f.of (s.word false (8 + a)))) ++
  [F.SAF_TP_CFG_TP_WIDTH, F.SAF_TP_CFG_TP_PERIOD].map (fun (f : Fd) => (f, f.of (s.word false 12))) ++ [(F.SAF_CFG_CRC_EXP_EXP, s.word false 15)]

/-! ### EVT, LIF, HLD, GRT -/

/-- The events of the catalogue with their names [17 R494 R589]. -/
def evNames : List (Ev × String) :=
  [(.powerOn, "POWER_ON"), (.clockStep, "CLOCK_STEP"), (.tbStep, "TB_STEP"), (.recordsLost, "RECORDS_LOST"), (.badRecord, "BAD_RECORD"), (.holdLow, "HOLD_LOW"),
   (.holdMeasFail, "HOLD_MEAS_FAIL"), (.lifPreset, "LIF_PRESET"), (.leapAdded, "LEAP_ADDED"), (.wearWarn, "WEAR_WARN"), (.cornerstoneFull, "CORNERSTONE_FULL")] ++
  [(.safeHold, "SAFE_HOLD"), (.modeChange, "MODE_CHANGE"), (.modeRefused, "MODE_REFUSED"), (.dormantEnter, "DORMANT_ENTER"), (.cfgCutIn, "CFG_CUT_IN"), (.cfgRefused, "CFG_REFUSED"),
   (.cfgSlotFallback, "CFG_SLOT_FALLBACK"), (.ucFallback, "UC_FALLBACK"), (.pwrRail, "PWR_RAIL"), (.clkLost, "CLK_LOST"), (.grtPass, "GRT_PASS"), (.grtFault, "GRT_FAULT"),
   (.hostTimeout, "HOST_TIMEOUT"), (.cutRealign, "CUT_REALIGN"), (.gnssPathFault, "GNSS_PATH_FAULT"), (.gnssJam, "GNSS_JAM")] ++
  [(.srcTimeout, "SRC_TIMEOUT"), (.srcLateDrop, "SRC_LATE_DROP"), (.fltApllRate, "FLT_APLL_RATE"), (.filterReset, "FILTER_RESET"), (.refReject, "REF_REJECT"), (.refRecover, "REF_RECOVER"),
   (.timeSuspect, "TIME_SUSPECT"), (.timeRecover, "TIME_RECOVER"), (.kindLost, "KIND_LOST"), (.posErr, "POS_ERR"), (.hdgErr, "HDG_ERR"), (.thrLost, "THR_LOST"), (.fallback, "FALLBACK"),
   (.slvPersistReg, "SLV_PERSIST_REG"), (.msnTileFault, "MSN_TILE_FAULT"), (.msnUnplaced, "MSN_UNPLACED"), (.msnJobRestart, "MSN_JOB_RESTART")] ++
  [(.loopFault, "LOOP_FAULT"), (.loopSwap, "LOOP_SWAP"), (.pfgStop, "PFG_STOP"), (.e2eFault, "E2E_FAULT"), (.pairState, "PAIR_STATE"), (.pairTakeover, "PAIR_TAKEOVER"),
   (.pairTakeFail, "PAIR_TAKE_FAIL"), (.pairReseed, "PAIR_RESEED"), (.safImageDiff, "SAF_IMAGE_DIFF"), (.safConfigLost, "SAF_CONFIG_LOST"), (.safDemand, "SAF_DEMAND"),
   (.safOutput, "SAF_OUTPUT"), (.safLatch, "SAF_LATCH"), (.safClear, "SAF_CLEAR"), (.safReset, "SAF_RESET"), (.safState, "SAF_STATE")]

/-- EVT_CAT_FMT.FMT of the events of R494: P0 in the lowest four bits, 1 unsigned, 4 an index [17 R494]. -/
def ownFmt (e : Ev) : Option Nat :=
  match e with
  | .powerOn => some 0x1011 | .clockStep => some 0x1111 | .tbStep => some 0x4111 | .recordsLost => some 1 | .badRecord => some 0x4004
  | .holdLow => some 0x1001 | .holdMeasFail => some 0x1001 | .lifPreset => some 0x4111 | .leapAdded => some 0x1111 | .wearWarn => some 0x41 | .cornerstoneFull => some 0
  | _ => none

/-- Events whose P0 to P2 are one 64-bit value [17 R494]. (log 11) -/
def Ev.wide (e : Ev) : Bool := match e with | .clockStep | .tbStep | .lifPreset | .leapAdded => true | _ => false
/-- Events that continuation records follow [17 R494 R495]. -/
def Ev.continued (e : Ev) : Bool := match e with | .tbStep | .lifPreset => true | _ => false
/-- Events of which some records are permanent [17 R496]. -/
def Ev.mayBePermanent (e : Ev) : Bool := e.permanent || e == .powerOn || e == .safState

/-- Four characters of a name from `o`, the first in the lowest byte; NUL beyond the name [17 R589]. -/
def nameWord (s : String) (o : Nat) : Nat :=
  (List.range 4).foldr (fun k n => 256 * n + ((s.toList.getD (o + k) (Char.ofNat 0)).toNat)) 0

/-- Page EVT [17 EVT registers]. (log 106) -/
def viewEvt (live : Regs) (d : Dev) (a : Nat) : Vals :=
  let e := d.evt
  let code := live.get F.EVT_CAT_SEL_CODE
  let x := evNames.find? fun (p : Ev × String) => p.1.code == code
  let name := match x with | some p => p.2 | none => ""
  let fmt := match x with | some p => (ownFmt p.1).getD (Config.evtFmt code) | none => 0
  let has := fun (f : Ev → Bool) => b2n (match x with | some p => f p.1 | none => false)
  [(F.EVT_HEAD_SEQ_SEQ, e.headSeq), (F.EVT_HEAD_SLOT_SLOT, e.headSlot), (F.EVT_CORNER_COUNT, e.corner.length), (F.EVT_QUEUE_DEPTH, e.queue.length), (F.EVT_QUEUE_MAX, e.maxDepth),
   (F.EVT_LOST_COUNT, e.lost), (F.EVT_BAD_BAD, e.bad), (F.EVT_CAT_NAME0_NAME, nameWord name 0), (F.EVT_CAT_NAME1_NAME, nameWord name 4), (F.EVT_CAT_NAME2_NAME, nameWord name (8 + 4 * a)),
   (F.EVT_CAT_FMT_FMT, fmt), (F.EVT_CAT_FMT_WIDE, has Ev.wide), (F.EVT_CAT_FMT_PERMANENT, has Ev.mayBePermanent), (F.EVT_CAT_FMT_CONTINUED, has Ev.continued)]

/-- Day, month and year of a number of days since 1970-01-01, Gregorian. (log 89) -/
def civil (days : Nat) : Nat × Nat × Nat :=
  let z := days + 719468
  let era := z / 146097
  let doe := z % 146097
  let yoe := (doe - doe / 1460 + doe / 36524 - doe / 146096) / 365
  let doy := doe - (365 * yoe + yoe / 4 - yoe / 100)
  let mp := (5 * doy + 2) / 153
  let m := if mp < 10 then mp + 3 else mp - 9
  (doy - (153 * mp + 2) / 5 + 1, m, yoe + 400 * era + if m ≤ 2 then 1 else 0)

/-- UTC seconds that the calendar shows, and whether it is second 60: the last second before an entry with a larger offset is the inserted one [17 R509]. -/
def utcNow (d : Dev) : Nat × Bool :=
  let ofs := d.lif.live.leapAt d.tb0
  let leap := d.lif.live.leaps.any fun (e : LeapEntry) => decide (d.tb0 < e.time) && decide (e.time ≤ d.tb0 + nsPerSec) && decide (ofs < e.ofs)
  let u := ((d.tb0 / nsPerSec : Nat) - ofs).toNat
  if leap then (u - 1, true) else (u, false)

/-- Page LIF [17 LIF registers]; DEV_ON includes the seconds not yet counted. (log 106) -/
def viewLif (live : Regs) (d : Dev) (i : Nat) : Vals :=
  let l := d.lif
  let t := at' l.live.thr i
  let up := if d.mde.dstate == .reset then 0 else d.tb3 / nsPerSec - l.devSec
  let wear := foldN 128 (fun p m => if at' l.live.wear m < at' l.live.wear p then p else m) 0
  let u := utcNow d
  let day := civil (u.1 / 86400)
  let n := live.get F.LIF_LEAP_SEL_ENTRY
  let e := at' l.live.leaps n
  [(F.LIF_THR_RUN_RUN, t.run), (F.LIF_THR_STARTS_STARTS, t.starts), (F.LIF_THR_AZ_AZ, t.az), (F.LIF_THR_ENERGY_ENERGY, t.energy),
   (F.LIF_DEV_ON_DEV_ON, satTo 32 (l.live.devOn + up)), (F.LIF_POWERUPS_POWERUPS, l.live.powerups), (F.LIF_TAKES_TAKES, l.live.takes), (F.LIF_RESETS_RESETS, l.live.resets),
   (F.LIF_HOLDS_HOLDS, l.live.holds), (F.LIF_WEAR_MAX_PCT, satTo 8 (at' l.live.wear wear / 10000000)), (F.LIF_WEAR_PAGE, wear), (F.LIF_GEN_GEN, l.gen), (F.LIF_STAT_COPY, l.copy),
   (F.LIF_STAT_VALID, l.valid), (F.LIF_STAT_DEFERRED, b2n l.deferred), (F.LIF_UTC_DATE_DAY, day.1), (F.LIF_UTC_DATE_MONTH, day.2.1), (F.LIF_UTC_DATE_YEAR, day.2.2),
   (F.LIF_UTC_TIME_SEC, if u.2 then 60 else u.1 % 60), (F.LIF_UTC_TIME_MIN, u.1 / 60 % 60), (F.LIF_UTC_TIME_HOUR, u.1 / 3600 % 24), (F.LIF_UTC_TIME_VALID, b2n (d.gns2.st != .unsync)),
   (F.LIF_TAI_UTC_TAI_UTC, sBits 16 (l.live.leapAt d.tb0)), (F.LIF_LEAP_SEL_COUNT, l.live.leaps.length),
   (F.LIF_LEAP_T_LO_T_LO, e.time), (F.LIF_LEAP_T_HI_T_HI, e.time / 2 ^ 32), (F.LIF_LEAP_OFS_OFS, sBits 16 e.ofs), (F.LIF_LEAP_OFS_LEARNED_LATE, b2n e.late)]

/-- Page HLD [17 HLD registers]. -/
def viewHld (d : Dev) : Vals :=
  let h := d.hld
  [(F.HLD_STAT_HOLD_LOW, b2n h.low), (F.HLD_STAT_MEAS_FAIL, b2n h.measFail), (F.HLD_STAT_MEASURING, b2n h.measuring), (F.HLD_STAT_SEGMENT, b2n h.segment), (F.HLD_STAT_FAIL_RUN, min h.failRun 2),
   (F.HLD_V_V, h.v.nat), (F.HLD_C_C, h.c.nat), (F.HLD_E_E, h.e.nat), (F.HLD_DV_PRE_DV_PRE, h.dvPre.nat), (F.HLD_DV_STEP_DV_STEP, h.dvStep.nat), (F.HLD_DEFER_DEFERRED, h.deferred)]

/-- Page GRT [18 GRT registers]. -/
def viewGrt (live r : Regs) (d : Dev) : Vals :=
  let g := d.grt
  let c := live.get F.GRT_CLASS_SEL_CLASS
  let k := at' g.classes c
  let f := g.lastFault
  let hide := decide (f.1 < 2) && f != (0, 0, 0) && !(live.bit F.MSN_DIAG_CTL_EN)
  [(F.GRT_STAT_ACTIVE, b2n (!(g.running.isEmpty))), (F.GRT_STAT_LATE, b2n g.late), (F.GRT_STAT_COVERAGE, grtCoverage r d), (F.GRT_STAT_PASSES, g.passes),
   (F.GRT_CLASS_TOTAL, if c < 6 then grtItems d.tw812 c else 0), (F.GRT_CLASS_TESTED, k.tested.length), (F.GRT_CLASS_LAST_PASS, k.lastPass), (F.GRT_CLASS_FAULTS, satTo 8 k.faults),
   (F.GRT_LAST_FAULT_CLASS, f.1), (F.GRT_LAST_FAULT_ITEM, if hide then 0xFF else f.2.1), (F.GRT_LAST_FAULT_CODE, f.2.2), (F.GRT_PASS_LEN_SECONDS, g.passLen)]

/-! ### A page -/

/-- What the fields of a page read that the device drives: block `b`, instance `n`, window indices, register copy. -/
def viewBlock (live r : Regs) (d : Dev) (b n i j a : Nat) : Vals :=
  match b with
  | 0x00 => viewSys d
  | 0x01 => viewPwr live r d
  | 0x02 => viewClk live d
  | 0x03 => viewIrq r d i a
  | 0x04 => viewHst d
  | 0x05 => viewMde d
  | 0x06 => viewCfg live d
  | 0x07 => viewMsn live r d i
  | 0x08 => viewSlv d i
  | 0x09 => viewFus r d i
  | 0x0A => viewCtl d
  | 0x0B => viewAlc d i
  | 0x0C => viewGns0 d i j
  | 0x0D => viewGns1 live d i a
  | 0x0E => viewGns2 d a
  | 0x0F => viewSrc d i a
  | 0x10 => viewFlt r d n a
  | 0x12 => viewSio d i
  | 0x13 => viewLop r d i
  | 0x14 => viewAou r d i
  | 0x15 => viewPfg r d i
  | 0x16 => viewEnc d i
  | 0x17 => viewDio r d
  | 0x18 => viewCan live r d n i a
  | 0x20 => viewE2e d i
  | 0x21 => viewTim live r d i
  | 0x22 => viewEth d n i
  | 0x26 => viewNdl d
  | 0x27 => viewPair d
  | 0x28 => viewSaf d a
  | 0x29 => viewEvt live d a
  | 0x2A => viewLif live d i
  | 0x2B => viewHld d
  | 0x2C => viewGrt live r d
  | _ => []

end Sys2Proof.Machine
end

