-- ==== Sys2Proof/Machine/HostIf.lean ====
section
/-! DEFINITION. The host's accesses: reads and writes of registers and memory windows over both ports, latches, FREEZE, the page header, LOCK, and the commit protocol [19]. -/

namespace Sys2Proof.Machine

/-! ### Changes of the whole state -/

/-- The blocks changed. -/
def devS (f : Regs → Dev → Dev) (s : State) : State := { s with dev := f s.regs s.dev }
/-- Registers and blocks changed. -/
def regS (f : Regs → Dev → Regs × Dev) (s : State) : State :=
  let x := f s.regs s.dev
  { s with regs := x.1, dev := x.2 }
/-- Memory windows and blocks changed. -/
def memS (f : Regs → List Host.Cell → Dev → List (Nat × List Byte) × Dev) (s : State) : State :=
  let x := f s.regs s.mem s.dev
  { s with mem := Memory.writeAll s.mem x.1, dev := x.2 }
/-- Registers and blocks changed, by what the memory windows hold. -/
def regMemS (f : Regs → List Host.Cell → Dev → Regs × Dev) (s : State) : State :=
  let x := f s.regs s.mem s.dev
  { s with regs := x.1, dev := x.2 }

/-! ### Ports -/

/-- HST_LAST_ERR.PORT [19 HST registers]. -/
def portNum (p : Port) : Nat := match p with | .pcie => 0 | .qspi => 1

/-- Ranges of the device address map [19 R546]. -/
inductive Region where
  | regs | latest | ring | recorder | staging | ucode | packet | cont | still | unmapped
  deriving DecidableEq, Repr

/-- The range that an address lies in [19 R546]. -/
def region (a : Nat) : Region :=
  if a < 0x40000 then .regs
  else if 0x01000000 ≤ a ∧ a < 0x01000400 then .latest
  else if 0x01010000 ≤ a ∧ a < 0x01020000 then .ring
  else if 0x02000000 ≤ a ∧ a < 0x02420000 then .recorder
  else if 0x03000000 ≤ a ∧ a < 0x03100000 then .staging
  else if 0x03100000 ≤ a ∧ a < 0x03200000 then .ucode
  else if 0x04000000 ≤ a ∧ a < 0x04100000 then .packet
  else if 0x05000000 ≤ a ∧ a < 0x05030000 then .cont
  else if 0x05030000 ≤ a ∧ a < 0x05031000 then .still
  else .unmapped

/-- The device serves an access: nothing in RESET and at the asleep level; in BOOT page SYS, and the microcode staging window without valid microcode; PCIe only with its link up [18 R528 R529 R531]. (log 103) -/
def serves (d : Dev) (p : Port) (a : Nat) : Bool :=
  (p == .qspi || d.hst.up) && !(d.mde.dorm == .asleep) && !(d.mde.dorm == .refresh) &&
    (match d.mde.dstate with
     | .reset => false
     | .boot => decide (a < 0x1000) || (d.sys.bootStat == 3 && region a == .ucode)
     | _ => true)

/-- An access has arrived [19 R567, HST_STAT.SPI_ACTIVE]. (log 103) -/
def touch (p : Port) (d : Dev) : Dev :=
  { d with hst := { d.hst with lastAt := d.now, timedOut := false, spiAt := if p == .qspi then some d.now else d.hst.spiAt } }

/-- An error of a port kept in HST_LAST_ERR [19 R546 R549 R552]. -/
def hstErr (p : Port) (kind a : Nat) (d : Dev) : Dev := { d with hst := { d.hst with lastErr := (a % 2 ^ 27, portNum p, kind) } }

/-- An access outside the map [19 R546 R568]. -/
def unmappedAccess (p : Port) (a : Nat) (d : Dev) : Dev :=
  raise 4 1 (hstErr p 2 a { d with hst := { d.hst with unmapped := wrapInc 8 d.hst.unmapped } })

/-! ### Latches [00 R10, 19 R553] -/

/-- The offsets that a read of a register latches: the other half of a 64-bit time, or the rest of a record [00 R10, 05 06 07 17]. (log 103) -/
def latchedBy (b off : Nat) : List Nat :=
  match b, off with
  | 0x05, 0xD0 => [0xD4]
  | 0x09, 0xE0 => [0xE4]
  | 0x09, 0xE8 => [0xEC]
  | 0x0D, 0x100 => (List.range 15).map fun i => 0x104 + 4 * i
  | 0x0D, 0x140 => (List.range 15).map fun i => 0x144 + 4 * i
  | 0x0E, 0x68 => [0x6C]
  | 0x0E, 0x80 => (List.range 7).map fun i => 0x84 + 4 * i
  | 0x0F, 0x4C => [0x50]
  | 0x0F, 0x100 => (List.range 15).map fun i => 0x104 + 4 * i
  | 0x15, 0x8C => [0x90]
  | 0x16, 0x7C => [0x80]
  | 0x20, 0x54 => [0x58]
  | 0x21, 0x90 => [0x94]
  | 0x21, 0xA8 => [0xAC]
  | 0x21, 0xC0 => [0xC4]
  | 0x27, 0x60 => [0x64]
  | 0x27, 0x84 => [0x88]
  | 0x29, 0x44 => [0x48]
  | 0x2A, 0x90 => [0x94]
  | 0x2A, 0xA4 => [0xA8]
  | _, _ => []

/-- Registers whose read has a side effect, or is one of a latching set: FREEZE does not capture them [19 R561]. -/
def readActs (b off : Nat) : Bool :=
  !((latchedBy b off).isEmpty) || (b == 0x07 && off == 0x54) || (b == 0x18 && off == 0x4C) ||
    (b == 0x22 && (off == 0x84 || off == 0x8C)) ||
    (b == 0x0D && decide (0x100 ≤ off) && decide (off < 0x180)) || (b == 0x0F && decide (0x100 ≤ off) && decide (off < 0x140)) ||
    (b == 0x0E && (off == 0x6C || (decide (0x80 ≤ off) && decide (off < 0xA0)))) ||
    [(0x05, 0xD4), (0x09, 0xE4), (0x09, 0xEC), (0x0F, 0x50), (0x15, 0x90), (0x16, 0x80), (0x20, 0x58), (0x21, 0x94), (0x21, 0xAC),
     (0x21, 0xC4), (0x27, 0x64), (0x27, 0x88), (0x29, 0x48), (0x2A, 0x94), (0x2A, 0xA8)].contains (b, off)

/-- What a port's latch of an address holds. (log 103) -/
def latchOf (d : Dev) (p : Port) (a : Nat) : Option Nat :=
  (d.hst.latches.find? fun (e : Nat × Nat × Nat) => e.1 == portNum p && e.2.1 == a).map fun e => e.2.2

/-- A port's latch of an address set. (log 103) -/
def latchPut (p : Port) (a v : Nat) (d : Dev) : Dev :=
  { d with hst := { d.hst with
      latches := (d.hst.latches.filter fun (e : Nat × Nat × Nat) => !(e.1 == portNum p && e.2.1 == a)) ++ [(portNum p, a, v)] } }

/-! ### Reading registers [19 R554 R556 R561] -/

/-- A word of a page header [19 R554 R563]. (log 103) -/
def headWord (r : Regs) (d : Dev) (p off : Nat) : Nat :=
  match pageBlock p with
  | none => 0
  | some (b, _) =>
    let h := r.head p
    let en := if p = 0x28 then d.saf.stA == .run else h.en
    let m := 2 ^ irqCount p
    match off with
    | 0x00 => 1 + (p - b) * 2 ^ 16 + b * 2 ^ 24
    | 0x04 => b2n en + 256 * b2n h.freeze
    | 0x08 => b2n en + 2 * b2n h.pend + 4 * b2n h.rejected + 16 * (if p = 0x28 then d.saf.stA.code else b2n en)
    | 0x0C => h.gen
    | 0x10 => h.errOff + 2 ^ 16 * h.errReason + 2 ^ 24 * h.errCount
    | 0x14 => 2 ^ 16 * b2n (r.lockOpen p d.now)
    | 0x20 => at' d.irq.raw p % m
    | 0x24 => h.irqEn % m
    | 0x28 => irqStat r d p % m
    | _ => 0

/-- A value among those of a view. -/
def Vals.look (l : Vals) (f : Fd) : Option Nat :=
  (l.find? fun (e : Fd × Nat) => e.1.off == f.off && e.1.lo == f.lo).map fun e => e.2 % 2 ^ f.width

/-- What a field reads: `now` are the values that the device drives, `cap` those of RO fields, captured or not. -/
def fieldRead (r : Regs) (now cap : Vals) (sh : Bool) (i j : Nat) (x : Place) : Nat :=
  match x.fd.acc with
  | .WO => 0
  | .RO => (cap.look x.fd).getD x.fd.reset
  | .W1C => (now.look x.fd).getD x.fd.reset
  | .RW =>
    let v := (now.look x.fd).getD (x.get r i j)
    if sh && x.fd.cls == .B then sget r.shd (x.key i j) v else v

/-- A word of a page's block registers, in the active or the shadow view [19 R556 R561]. -/
def blockWord (s : State) (p off : Nat) (sh : Bool) : Nat :=
  match pageBlock p, placesAt p off with
  | some (b, _), x :: t =>
    let (i, j) := selected s.regs p off
    let now := viewBlock s.regs s.regs s.dev b (p - b) i j x.arr
    let cap :=
      if (s.regs.head p).freeze && !(readActs b off) then
        match s.frozen.find? fun (e : Nat × Regs × Dev) => e.1 == p with
        | some (_, r, d) => viewBlock s.regs r d b (p - b) i j x.arr
        | none => now
      else now
    (x :: t).foldl (fun w (y : Place) => w + 2 ^ y.fd.lo * fieldRead s.regs now cap sh i j y) 0
  | _, _ => 0

/-- Side effects of a read beside its latches: read-clears and pops [10 R303, 13 CANn_PSTAT, 14 R417 R418]. -/
def readEffect (port : Port) (b n off : Nat) (s : State) : State :=
  match b, off with
  | 0x07, 0x54 => devS (fun r d => modJob (r.get F.MSN_JOB_SEL_JOB) (fun x => { x with restarted := false }) d) s
  | 0x18, 0x4C => devS (fun _ d => modCan n (fun c => { c with pxe := false }) d) s
  | 0x22, 0x84 => devS (fun r d => { ethTxcPop port n r d with out := d.out }) s
  | 0x22, 0x8C => devS (fun r d => { ethRxPop port n r d with out := d.out }) s
  | _, _ => s

/-- A read of a register page: the word, and the state after it [00 R2 R10 R11, 19 R556]. (log 103) -/
def regRead (port : Port) (p off : Nat) (s : State) : Nat × State :=
  match pageBlock p with
  | none => (0, s)
  | some (b, _) =>
    if pageAbsent s.dev p then (0, s)
    else if 0x840 ≤ off then (blockWord s p (off - 0x800) true, s)
    else if 0x800 ≤ off then (0, s)
    else if off < 0x40 then (headWord s.regs s.dev p off, s)
    else
      match latchOf s.dev port (p * 4096 + off) with
      | some v => (v, s)
      | none =>
        let v := blockWord s p off false
        let l := (latchedBy b off).map fun o => (o, blockWord s p o false)
        (v, readEffect port b (p - b) off (devS (fun _ d => l.foldl (fun d e => latchPut port (p * 4096 + e.1) e.2 d) d) s))

/-! ### Reading memory windows [19 R546] -/

/-- The bytes of a recorder record [17 R489]. -/
def EvRec.bytes (e : EvRec) : List Byte :=
  let b := leBytes 4 e.seq ++ leBytes 8 e.time ++ leBytes 6 e.age ++
    leBytes 2 (e.code % 4096 + 4096 * b2n e.cont + 8192 * b2n e.invalid + 16384 * b2n e.preStep) ++
    leBytes 4 e.p0 ++ leBytes 2 e.p1 ++ leBytes 2 e.p2 ++ leBytes 1 e.p3 ++ leBytes 1 e.rpt
  b ++ leBytes 2 (crcMsb 16 0x1021 0xFFFF b)

/-- A word of the recorder window: Cornerstone slots, then Reel slots [17 R504]. -/
def recorderWord (d : Dev) (a : Nat) : Nat :=
  let n := (a - 0x02000000) / 32
  let e := if n < 4096 then d.evt.corner[n]? else (d.evt.reel.find? fun (x : Nat × EvRec) => x.1 == n - 4096).map fun x => x.2
  match e with
  | some e => leAt e.bytes (a % 32) 4
  | none => 0

/-- A byte of the continuity window: the host area of the unit that commands, or the set last taken or accepted [15 PAIR registers, R450]. (log 81) -/
def contByte (d : Dev) (m : List Host.Cell) (a : Nat) : Byte :=
  let o := a - 0x05000000
  if 0x4000 ≤ o ∧ d.commands then Memory.read m a
  else
    match d.pair.set with
    | none => 0
    | some c =>
      if 0x4000 ≤ o then Memory.read c.host a
      else if 0x2C00 ≤ o then 0
      else if o < 4 then at' ([0x54, 0x57, 0x43, 0x53] : List Byte) o
      else Config.contByte c o

/-- A byte of the Still window: the own capture, then the partner's [15 R458]. (log 81) -/
def stillByte (d : Dev) (a : Nat) : Byte :=
  let o := a - 0x05030000
  match (if o < 0x800 then d.pair.stillOwn else d.pair.stillPartner) with
  | some c => Config.stillByte c (o % 0x800)
  | none => 0

/-- Four bytes as a word. -/
def word4 (f : Nat → Byte) (a : Nat) : Nat := leNat ((List.range 4).map fun i => f (a + i))

/-- A word of a memory window. (log 103) -/
def memWord (s : State) (a : Nat) : Nat :=
  match region a with
  | .latest => (at' (at' s.dev.fus.recs (a % 0x400 / 0x80)) (a % 0x80 / 4)).toNat
  | .ring =>
    match s.dev.fus.ring.find? fun (e : Nat × List (List Word)) => e.1 == (a - 0x01010000) / 0x400 with
    | some (_, l) => (at' (at' l (a % 0x400 / 0x80)) (a % 0x80 / 4)).toNat
    | none => 0
  | .recorder => recorderWord s.dev a
  | .staging | .ucode => word4 (Memory.read s.mem) a
  | .packet => if s.dev.tw812 && decide (0x04080000 ≤ a) then 0 else word4 (Memory.read s.mem) a
  | .cont => word4 (contByte s.dev s.mem) a
  | .still => word4 (stillByte s.dev) a
  | _ => 0

/-- Bytes of a record whose first word latches the rest: State records and recorder slots; 0 elsewhere [07 R227, 17 R504]. -/
def recordSize (a : Nat) : Nat :=
  match region a with
  | .latest | .ring => 0x80
  | .recorder => 0x20
  | _ => 0

/-- A read of a memory window: the word, and the state after it. -/
def memRead (port : Port) (a : Nat) (s : State) : Nat × State :=
  let n := recordSize a
  if n = 0 then (memWord s a, s)
  else if a % n = 0 then
    let l := (List.range (n / 4 - 1)).map fun i => (a + 4 * (i + 1), memWord s (a + 4 * (i + 1)))
    (memWord s a, devS (fun _ d => l.foldl (fun d e => latchPut port e.1 e.2 d) d) s)
  else ((latchOf s.dev port a).getD (memWord s a), s)

/-- A read of one word of the device map, answered at its port [19 R546 R549 R550]. -/
def busRead (port : Port) (a : Nat) (s : State) : State :=
  if !(serves s.dev port a) then s
  else
    let s := devS (fun _ d => touch port d) s
    match region a with
    | .regs =>
      let x := regRead port (a / 4096) (a % 4096 / 4 * 4) s
      devS (fun _ d => emit (.read port a x.1) d) x.2
    | .unmapped => devS (fun _ d => emit (.read port a 0) (unmappedAccess port a d)) s
    | _ =>
      let x := memRead port (a / 4 * 4) s
      devS (fun _ d => emit (.read port a x.1) d) x.2

/-! ### The page header [19 R555 R562] -/

/-- What an EN that goes from 1 to 0 does to its block: no function runs, and its outputs are in their fail states [19 R555]. -/
def blockOff (p : Nat) (r : Regs) (d : Dev) : Dev :=
  if p = 0x0C then pathsLost d
  else if p = 0x13 then failAll r (loopsOff d)
  else if p = 0x14 ∨ p = 0x15 ∨ p = 0x17 then failOutputs r d
  else if 0x18 ≤ p ∧ p ≤ 0x1F then
    modCan (p - 0x18) (fun c => { c with sending := none, cancelLate := false, win := none, refTick := none, master := false, sb := .off }) d
  else if 0x22 ≤ p ∧ p ≤ 0x25 then
    ethFlush (p - 0x22) (raiseIf (d.mac (p - 0x22)).link p 3 (modEth (p - 0x22) (fun e => { e with link := false, anDone := false, badMode := false }) d))
  else if p = 0x26 then linkLost r d
  else d

/-- What an EN that goes from 0 to 1 starts [19 R555]. -/
def blockOn (p : Nat) (r : Regs) (d : Dev) : Dev :=
  if p = 0x14 ∨ p = 0x15 ∨ p = 0x17 then enableOutputs r d
  else if 0x18 ≤ p ∧ p ≤ 0x1F then
    modCan (p - 0x18) (fun c => { c with sb := if r.on F.CAN_SB_CFG_EN (p - 0x18) = 1 then .sync else .off }) d
  else if p = 0x26 then { d with ndl := { d.ndl with training := ndlOn r d && !(d.ndl.link) } }
  else d

/-- EN of a page set, with what follows. (log 104) -/
def setEn (p : Nat) (on : Bool) (s : State) : State :=
  if s.regs.en p == on then s
  else
    let s := { s with regs := s.regs.modHead p fun h => { h with en := on } }
    devS (if on then blockOn p else blockOff p) s

/-- A bit rate of 80 MHz divided, above `lim` kbit/s [13 R365]. -/
def rateAbove (brp tq lim : Nat) : Bool := decide (lim * (brp * tq) < 80000)

/-- The bit timing of a channel that a write of EN = 1 refuses [13 R365]. -/
def canTimingBad (r : Regs) (n : Nat) : Bool :=
  let nt := 1 + r.on F.CAN_NBT_NTSEG1 n + r.on F.CAN_NBT_NTSEG2 n
  let dt := 1 + r.on F.CAN_DBT_DTSEG1 n + r.on F.CAN_DBT_DTSEG2 n
  rateAbove (r.on F.CAN_NBT_NBRP n) nt 1000 || rateAbove (r.on F.CAN_DBT_DBRP n) dt 8000 ||
    decide (r.on F.CAN_NBT_NTSEG2 n < r.on F.CAN_NBT_NSJW n) || decide (r.on F.CAN_DBT_DTSEG2 n < r.on F.CAN_DBT_DSJW n) ||
    (rateAbove (r.on F.CAN_DBT_DBRP n) dt 2000 && r.on F.CAN_DBT_TDC_EN n == 0)

/-- LOCK.KEY written: 0x4C4B opens the page's lock, any other value closes it [19 R562]. (log 104) -/
def lockKey (p v : Nat) (s : State) : State :=
  { s with regs := s.regs.modHead p fun h => { h with lockAt := if v % 65536 = 0x4C4B then some s.dev.now else none } }

/-- FREEZE written: 1 captures the RO fields of the page, 0 releases them [19 R561]. (log 103) -/
def freezePage (p : Nat) (on : Bool) (s : State) : State :=
  let rest := s.frozen.filter fun (e : Nat × Regs × Dev) => !(e.1 == p)
  let c : List (Nat × Regs × Dev) := if on then [(p, s.regs, s.dev.quiet)] else []
  { s with regs := s.regs.modHead p (fun h => { h with freeze := on }), frozen := rest ++ c }

/-- STAT.CFG_REJECTED and CFG_ERR cleared [19 R554]. (log 104) -/
def clearRejected (p : Nat) (s : State) : State :=
  { s with regs := s.regs.modHead p fun h => { h with rejected := false, errOff := 0, errReason := 0, errCount := 0 } }

/-! ### Commit and discard [19 R558 R559] -/

/-- The page has B-class fields. -/
def hasB (p : Nat) : Bool :=
  match pageBlock p with
  | none => false
  | some (b, _) => (blockFields b).any fun (f : Fd) => f.cls == .B

/-- The registers as a commit of the page would leave them. (log 104) -/
def committed (r : Regs) (p : Nat) : Regs := r.apply (ofPage p r.shd) keyReset

/-- Filter ranges of an enabled channel overlap another's, or exceed the pool [13 R372]. -/
def fltCfgBad (r : Regs) (n : Nat) : Bool :=
  let lo := fun m => r.on F.CAN_FLT_CFG_BASE m
  let cnt := fun m => r.on F.CAN_FLT_CFG_COUNT m
  decide (2048 < lo n + cnt n) ||
    (List.range 8).any fun m => m != n && r.en (0x18 + m) && decide (0 < cnt n) && decide (0 < cnt m) &&
      decide (lo n < lo m + cnt m) && decide (lo m < lo n + cnt n)

/-- The first of the rules across fields that a commit of a CAN channel breaks: its lowest offset [13 R372 R383 R385 R391]. (log 104) -/
def canConflict (r : Regs) (d : Dev) (n : Nat) : Option Nat :=
  let on := r.on F.CAN_SB_CFG_EN n == 1
  let bc := r.on F.CAN_SB_LEN_BC_LEN n
  let slots := (List.range 32).any fun s => r.on F.CAN_SLOT_CFG_EN n s == 1 &&
    (List.range 8).any fun m => m != n && !(pageAbsent d (0x18 + m)) && r.on F.CAN_SLOT_CFG_EN m s == 1
  if fltCfgBad r n then some 0xC0
  else if on && r.on F.CAN_SB_CFG_ALIGN n == 1 && (d.mde.cyc.periodNs % (1000 * max bc 1) != 0 || decide (bc ≤ r.on F.CAN_SB_LEN_REF_OFS n)) then some 0xE0
  else if on && (List.range (sbCols r n - 1)).any (fun k => decide (sbStart r n (k + 1) ≤ sbStart r n k)) then some 0xE0
  else if slots then some 0x104
  else none

/-- An enabled end-to-end context whose counter lies outside its protected bytes, or whose protected bytes and CRC exceed a buffer bound to it [13 R395]. (log 104) -/
def e2eConflict (r : Regs) (d : Dev) : Option Nat :=
  if (List.range 16).any fun i =>
      r.bit F.E2E_CFG_EN i &&
        (decide (r.at F.E2E_LAYOUT_PLEN i ≤ r.at F.E2E_LAYOUT_CNT_POS i) ||
         (!(r.bit F.E2E_CFG_DIR i) && (d.canCh (r.at F.E2E_CFG_CHANNEL i)).tx.any fun (e : CanElem) =>
           e.id == (r.at F.E2E_ID_ID i, r.bit F.E2E_CFG_XTD i) && !(e == {}) && decide (e.len < r.at F.E2E_LAYOUT_PLEN i + (e2eOpt r i).width)))
  then some 0x44 else none

/-- A base whose increment lies outside 3.999 6 to 4.000 4 ns [14 R404]. (log 104) -/
def incBad (r : Regs) (b : Nat) : Bool :=
  let v := r.at F.TIM_TB_INC_INT_INT b * 2 ^ 32 + r.at F.TIM_TB_INC_FRAC b
  decide (v * 10000 < 39996 * 2 ^ 32) || decide (40004 * 2 ^ 32 < v * 10000)

/-- The lowest offset of a rule across fields or pages that a commit of page `p` breaks; `r` are the registers as it would leave them [19 R558]. (log 104) -/
def conflictAt (r : Regs) (d : Dev) (p : Nat) : Option Nat :=
  if p = 7 then (if pinsRefused r d then some F.MSN_EXCL_COURSE.off else none)
  else if 0x18 ≤ p ∧ p ≤ 0x1F then canConflict r d (p - 0x18)
  else if p = 0x20 then e2eConflict r d
  else if p = 0x21 then (if (List.range 4).any (incBad r) then some 0x54 else none)
  else none

/-- A write of CTL.COMMIT [19 R558, 03 R587]. (log 104) -/
def commitPage (p : Nat) (s : State) : State :=
  let r := s.regs
  if !(hasB p) || pageAbsent s.dev p then s
  else
    match conflictAt (committed r p) s.dev p with
    | some o => { s with regs := r.reject p o 8 }
    | none =>
      let s := { s with regs := r.modHead p fun h => { h with buf := ofPage p r.shd, pend := true } }
      let s := if p = 5 then devS (fun _ d => modMde (fun m => { m with reqBuf := m.reqBuf || m.reqShadow, reqShadow := false }) d) s else s
      if p = 5 && mdeNoCut s.dev then regS mdeCommitNow s
      else if !(r.en p) then { s with regs := (applyCommit s.regs p fun _ => true).1 }
      else s

/-- A write of CTL.DISCARD [19 R559]. -/
def discardPage (p : Nat) (s : State) : State :=
  let r := s.regs
  if pageAbsent s.dev p then s
  else
    let s := { s with regs := ({ r with shd := r.shd.filter fun (e : Nat × Nat) => !(keyPage e.1 == p) }).modHead p fun h => { h with buf := [], pend := false } }
    if p = 5 then devS (fun _ d => modMde (fun m => { m with reqBuf := false, reqShadow := false }) d) s else s

/-- A write of CTL: EN first, then DISCARD or COMMIT, then FREEZE; a rejection of EN discards the write [19 R555 R557 R559]. -/
def ctlWrite (p v : Nat) (s : State) : State :=
  let r := s.regs
  let static := staticPages.contains p
  let mode := s.dev.mde.mode
  if p = 0x28 then s
  else if static && !(bit v 0) && r.en p && !(mode == .dormant) && !(mode == .harbour) then { s with regs := r.reject p 4 7 }
  else if bit v 0 && decide (0x18 ≤ p) && decide (p ≤ 0x1F) && !(r.en p) && canTimingBad r (p - 0x18) then { s with regs := r.reject p 4 3 }
  else
    let s := if static then setEn p (bit v 0) s else s
    let s := if bit v 2 then discardPage p s else if bit v 1 then commitPage p s else s
    freezePage p (bit v 8) s

/-- IRQ_STAT written: each 1 clears its bit of IRQ_RAW, enabled or not [19 R563]. -/
def irqClear (p v : Nat) (d : Dev) : Dev :=
  { d with irq := { d.irq with raw := modAt d.irq.raw p fun x => x - (x &&& v) } }

/-- IRQ_FORCE written: each 1 sets its bit of IRQ_RAW as an event would [19 R563, 00 R4]. -/
def irqForceBits (p v : Nat) (d : Dev) : Dev :=
  { d with irq := { d.irq with raw := modAt d.irq.raw p fun x => x ||| (v % 2 ^ irqCount p) } }

/-- A write to a page header [19 R554]. -/
def headWrite (p off v : Nat) (s : State) : State :=
  match off with
  | 0x04 => ctlWrite p v s
  | 0x08 => if bit v 2 then clearRejected p s else s
  | 0x14 => lockKey p v s
  | 0x24 => { s with regs := s.regs.modHead p fun h => { h with irqEn := v % 2 ^ irqCount p } }
  | 0x28 => devS (fun _ d => irqClear p v d) s
  | 0x2C => devS (fun _ d => irqForceBits p v d) s
  | _ => s

/-! ### Writing registers [19 R556 R557] -/

/-- A rule of a single register that depends on which index is selected: the sources of a base, SLEW_MAX of TB0, and TIM_TB_INC of a servo that runs [14 R409 R411 R414]; 0 or the reason. -/
def timRule (r : Regs) (d : Dev) (off i w : Nat) : Nat :=
  let mode := bits w 1 0
  let src := bits w 4 2
  if (off = 0x54 ∨ off = 0x58) ∧ r.at F.TIM_SRV_CFG_MODE i ≠ 0 then 7
  else if off = 0x5C ∧ ((i = 0 ∧ 4 < src) ∨ ((i = 1 ∨ i = 2) ∧ src ≠ 0 ∧ src ≠ 2) ∨ (i = 3 ∧ (mode ≠ 0 ∨ src ≠ 0))) then 3
  else if off = 0x68 ∧ i = 0 ∧ (F32.ofInt 50).lt (F32.ofBits w) then 3
  else if d.tim.tb.isEmpty then 7
  else 0

/-- The word breaks a rule of the active bank of its channel [11 R324]. -/
def bankActive (d : Dev) (off i : Nat) : Bool :=
  let c := d.loop i
  !(c.st == .off) && ((decide (0xA0 ≤ off) && decide (off ≤ 0xBC) && c.bank == 0) || (decide (0xC0 ≤ off) && decide (off ≤ 0xDC) && c.bank == 1))

/-- Why a write to block registers is rejected: the first reason in the order of R557, or 0. (log 104) -/
def refusal (r : Regs) (d : Dev) (p off i j w : Nat) (l : List Place) : Nat :=
  let lk := l.any fun (x : Place) => x.fd.lock && !(r.lockOpen p d.now) && (x.fd.acc != .WO || x.fd.of w != 0)
  let t := if p = 0x21 then timRule r d off i w else 0
  let wr := wordRule d p off w (r.shadow F.PFG_CFG_STEP_WIDTH 0 0 i)
  if lk then 2
  else if t = 7 then 7
  else if wr = 4 || l.any (fun (x : Place) => !(x.fd.onGrade d (x.fd.of w))) then 4
  else if r.en p && l.any (fun (x : Place) => x.fd.cls == .S && x.fd.of w != x.get r i j) then 1
  else if p = 0x13 && bankActive d off i then 5
  else if t = 3 || wr = 3 || l.any (fun (x : Place) => !(x.fd.inRange (x.fd.of w))) then 3
  else 0

/-- A field of an accepted write: into the shadow copy, into the active value, or nowhere where the write is an action [19 R556]. -/
def storeField (i j w : Nat) (r : Regs) (x : Place) : Regs :=
  match x.fd.cls with
  | .B => x.putShadow r i j (x.fd.of w)
  | .S | .L => if x.fd.act || x.fd.acc != .RW then r else x.put r i j (x.fd.of w)
  | .RO | .W1C => r

/-- The _HI of a writable 64-bit pair, and the _LO that applies it [00 R10]. -/
def pairOf (b off : Nat) : Option (Nat × Bool) :=
  match b, off with
  | 0x05, 0xD0 => some (0xD4, true)
  | 0x09, 0xE0 => some (0xE4, true)
  | 0x09, 0xE8 => some (0xEC, true)
  | 0x21, 0x90 => some (0x94, true)
  | 0x2A, 0xA4 => some (0xA8, true)
  | 0x05, 0xD4 | 0x09, 0xE4 | 0x09, 0xEC | 0x21, 0x94 | 0x2A, 0xA8 => some (off, false)
  | _, _ => none

/-- The value that a port last wrote to a _HI register. (log 103) -/
def stagedHi (d : Dev) (port : Port) (a : Nat) : Option Nat :=
  (d.hst.staged.find? fun (e : Nat × Nat × Nat) => e.1 == portNum port && e.2.1 == a).map fun e => e.2.2

/-- A _HI register written: its value waits for the _LO write of the same port. -/
def stageHi (port : Port) (a v : Nat) (d : Dev) : Dev :=
  { d with hst := { d.hst with
      staged := (d.hst.staged.filter fun (e : Nat × Nat × Nat) => !(e.1 == portNum port && e.2.1 == a)) ++ [(portNum port, a, v)] } }

/-- A word of an element written [13 R369 R370]. -/
def CanElem.setWord (e : CanElem) (a v : Nat) : CanElem :=
  match a with
  | 0 => { e with frame := v }
  | 1 => { e with ident := v }
  | 2 => { e with w2 := v }
  | 3 => { e with w3 := v }
  | _ => { e with data := putBytes (slice e.data 0 64) (4 * (a - 4)) (leBytes 4 v) }

/-- KEY or SPAN of the selected filter entry staged [13 R375]. -/
def fltStage (n : Nat) (f : FltEntry → FltEntry) (r : Regs) (d : Dev) : Dev :=
  let i := r.on F.CAN_FLT_CFG_BASE n + r.on F.CAN_FLT_SEL_ENTRY n
  let e := f (fltStaged d n i)
  { d with can := { d.can with staged := (d.can.staged.filter fun (x : Nat × FltEntry) => !(x.1 == n && x.2.idx == i)) ++ [(n, e)] } }

/-- Actions of the CAN registers [13]. -/
def canAction (n off v : Nat) (s : State) : State :=
  if 0x400 ≤ off then
    devS (fun r d => if r.on F.CAN_MRAM_SEL_REGION n = 0 then modCan n (fun c => { c with stage := c.stage.setWord ((off - 0x400) / 4) v }) d else d) s
  else match off with
  | 0x50 =>
    let s := if bit v 0 then devS (fun r d => if canOn r d n ∧ (d.canCh n).err == .busOff then modCan n (fun c => { c with recovering := true }) d else d) s else s
    if bit v 1 then devS (canPut n) s else s
  | 0x60 => devS (canTxreq n 0 v) s
  | 0x64 => devS (canTxreq n 1 v) s
  | 0x70 => devS (canTxcancel n v) s
  | 0x78 => devS (fun _ d => modCan n (fun c =>
      let k := (v % 32 + 32 - c.logGet) % 32
      if k < c.logFill then { c with logGet := (v % 32 + 1) % 32, logFill := c.logFill - (k + 1) } else c) d) s
  | 0x88 => devS (fun _ d => modCan n (fun c => { c with fifo0 := c.fifo0.ack (v % 64) }) d) s
  | 0x94 => devS (fun _ d => modCan n (fun c => { c with fifo1 := c.fifo1.ack (v % 64) }) d) s
  | 0xA4 => devS (fun _ d => dbSnap n 0 v d) s
  | 0xA8 => devS (fun _ d => dbSnap n 1 v d) s
  | 0xAC => devS (fun _ d => modCan n (fun c => { c with dbNew := c.dbNew - (c.dbNew &&& (v % 2 ^ 32)) }) d) s
  | 0xB0 => devS (fun _ d => modCan n (fun c => { c with dbNew := c.dbNew - (c.dbNew &&& (v % 2 ^ 32 * 2 ^ 32)) }) d) s
  | 0xC8 => devS (fltStage n fun e => { e with key := v % 2 ^ 29 }) s
  | 0xCC => devS (fltStage n fun e => { e with span := v % 2 ^ 29 }) s
  | 0xD0 => regS (fltCtrlWrite n v) s
  | _ => s

/-- Page SAF: the unlock words, and the configuration words, which the island takes in INIT and CONFIG [16 R482 R483 R484]. (log 104) -/
def safWrite (off v : Nat) (s : State) : State :=
  if off = 0x60 then
    devS (fun r d =>
      if v = 0 ∧ d.saf.stA == .config then safConfigExit false r d
      else if d.saf.unlockAt.isSome then safUnlockSecond v r d else safUnlockFirst v r d) s
  else if off = 0x13C then regS (safCrcExpWrite v) s
  else if 0x100 ≤ off ∧ off < 0x13C then
    let l := (placesAt 0x28 off).filter fun (x : Place) => x.fd.writable
    if l.isEmpty then s
    else if !(s.dev.saf.stA == .init || s.dev.saf.stA == .config) then { s with regs := s.regs.reject 0x28 off 7 }
    else if l.any fun (x : Place) => !(x.fd.inRange (x.fd.of v)) then { s with regs := s.regs.reject 0x28 off 3 }
    else devS (fun _ d => let i := (off - 0x100) / 4; safPut i (v &&& safMask i) d) s
  else s

/-- One of several single-bit actions of a register. -/
def ifBit (v i : Nat) (f : State → State) (s : State) : State := if bit v i then f s else s

/-- What an accepted write does beside storing its fields: the registers whose write is an action, and outputs that follow a register at once. -/
def action (port : Port) (b n off v i : Nat) (s : State) : State :=
  match b, off with
  | 0x00, 0x54 => if v % 2 ^ 32 = 0xB007 then resetState 4 s else s
  | 0x00, 0x68 => ifBit v 0 (regS ucUpdateStart) s
  | 0x01, 0x40 => regS (pwrDomReqWrite port v) s
  | 0x01, 0x4C => devS (fun _ d => { d with pwr := { d.pwr with fault := d.pwr.fault - (d.pwr.fault &&& (v % 65536)) } }) s
  | 0x03, 0x70 => devS (fun r d => if (vecPend r d).testBit (v % 32) then sendVec (v % 32) d else d) s
  | 0x05, 0x40 => devS (fun _ d => modMde (fun m => { m with reqShadow := true }) d) s
  | 0x05, 0x4C => ifBit v 1 (regS devHold) (ifBit v 0 (devS devGo) s)
  | 0x06, 0x40 => ifBit v 1 (devS fun _ d => if d.cfg.phase.inHand then abortLoad d else d) (ifBit v 0 (regMemS cfgLoadStart) s)
  | 0x06, 0x6C => regS (cfgKeyDataWrite v) s
  | 0x07, 0x94 => devS (msnDiagClr v) s
  | 0x0C, 0x70 => ifBit v 31 (devS jamCal) s
  | 0x13, 0x4C => ifBit v 1 (devS fun _ d => modLop i (fun ch => { ch with clr := true }) d) s
  | 0x14, _ => devS (fun r d => if (boundAou r i).isSome then d else if aouEnabled r d i then aouHost r i d else aouFail r i d) s
  | 0x15, 0x5C =>
    ifBit v 3 (devS fun r d => clrChatter r i d) (ifBit v 2 (devS fun r d => homeStart r i d)
      (ifBit v 1 (devS fun _ d => softStop i d) (ifBit v 0 (devS fun r d => axisStop r i .command d) s)))
  | 0x15, 0x68 => ifBit v 12 (devS fun _ d => modAxis i (fun a => { a with dirChange := false }) d) s
  | 0x16, 0x70 => devS (fun _ d => modQd i (fun q => { q with
      illegal := q.illegal && !(bit v 0), dirChange := q.dirChange && !(bit v 3), idxSeen := q.idxSeen && !(bit v 6) }) d) s
  | 0x17, _ => devS dioDrive s
  | 0x18, _ => canAction n off v s
  | 0x20, 0x54 => regS (e2eRunWrite v) s
  | 0x20, 0x58 => regS (e2eCntWrite v) s
  | 0x21, 0x40 => ifBit v 0 (devS fun _ d => { d with tim := { d.tim with snap := d.tim.tb } }) s
  | 0x21, 0x74 => devS (srvOfsIn v) s
  | 0x21, 0x98 => ifBit v 0 (regS timStepGo) s
  | 0x22, 0x80 => memS (fun r m d => ([], ethTxPush n v r m d)) s
  | 0x22, 0x88 => devS (fun _ d => modEth n (fun e => { e with free := e.free ++ [v % 128] }) d) s
  | 0x22, 0x90 => if bits v 27 26 = 1 ∨ bits v 27 26 = 2 then devS (fun _ d => mdioStart (bits v 27 26) n v d) s else s
  | 0x27, 0x44 =>
    ifBit v 3 (regS pairRelinquish) (ifBit v 2 (devS still)
      (ifBit v 1 (devS fun _ d => { d with pair := { d.pair with takeFail := false } })
        (ifBit v 0 (devS fun _ d => { d with pair := { d.pair with takeNow := true } }) s)))
  | 0x27, 0x78 => ifBit v 0 (devS globalGo) s
  | 0x29, 0x58 => devS (fun r d => evtEvaluate r { d with evt := { d.evt with ack := v % 2 ^ 32 } }) s
  | 0x29, 0x68 => regS (evtHostCode v) s
  | 0x2A, 0x88 => ifBit v 0 (regS lifPreset) s
  | 0x2A, 0xA4 => devS (fun _ d => { d with lif := { d.lif with stage := { d.lif.stage with
      time := v % 2 ^ 32 + 2 ^ 32 * (stagedHi d port (0x2A * 4096 + 0xA8)).getD (d.lif.stage.time / 2 ^ 32) } } }) s
  | 0x2A, 0xAC => devS (fun _ d => { d with lif := { d.lif with stage := { d.lif.stage with ofs := wrapS 16 v } } }) s
  | 0x2A, 0xB0 => ifBit v 0 (regS leapAdd) s
  | 0x2B, 0x4C => ifBit v 0 (devS holdMeasure) s
  | _, _ => s

/-- The diagnostic registers of page MSN, which are inert while MSN_DIAG_CTL.EN = 0 [10 R310]. -/
def diagReg (p off : Nat) : Bool := p == 7 && decide (0x84 ≤ off) && decide (off ≤ 0x9C)

/-- The binary64 value that a pair of words spells is not a number or infinite: refused where the pair is an engineering value [00 R7]. (log 104) -/
def badPair (b lo hi : Nat) : Bool := b == 9 && !((⟨BitVec.ofNat 64 (lo + 2 ^ 32 * hi)⟩ : F64).isFin)

/-- A write to the block registers of a page: field by field by class, or rejected whole [19 R556 R557]. -/
def blockWrite (port : Port) (p off v : Nat) (s : State) : State :=
  let l := (placesAt p off).filter fun (x : Place) => x.fd.writable
  match pageBlock p with
  | none => s
  | some (b, _) =>
    if p = 0x28 then safWrite off v s
    else if l.isEmpty || (diagReg p off && !(s.regs.bit F.MSN_DIAG_CTL_EN)) then s
    else
      let (i, j) := selected s.regs p off
      match pairOf b off with
      | some (_, false) => devS (fun _ d => stageHi port (p * 4096 + off) v d) s
      | pr =>
        let hi := match pr with
          | some (o, _) =>
            let y := (placesAt p o).headD { fd := F.MDE_WAKE_AT_HI_V }
            some (y, (stagedHi s.dev port (p * 4096 + o)).getD (fieldRead s.regs (viewBlock s.regs s.regs s.dev b (p - b) i j 0) [] true i j y))
          | none => none
        let k := refusal s.regs s.dev p off i j v l
        let bad := match hi with | some (_, h) => badPair b v h | none => false
        if k ≠ 0 then { s with regs := s.regs.reject p off k }
        else if bad then { s with regs := s.regs.reject p off 3 }
        else
          let r := l.foldl (storeField i j v) s.regs
          let r := match hi with | some (y, h) => storeField i j h r y | none => r
          action port b (p - b) off v i { s with regs := r }

/-- A write of a word to a register page [00 R2 R11, 19 R556]. -/
def pageWrite (port : Port) (p off v : Nat) (s : State) : State :=
  if (pageBlock p).isNone || pageAbsent s.dev p || decide (0x800 ≤ off) then s
  else if off < 0x40 then headWrite p off v s
  else blockWrite port p off v s

/-! ### Writing memory windows and words [19 R546 R549] -/

/-- The bytes of a word whose enables are set, with their addresses. -/
def enabledBytes (a v be : Nat) : List (Nat × Byte) :=
  ((List.range 4).filter fun i => be.testBit i).map fun i => (a + i, BitVec.ofNat 8 (v / 256 ^ i))

/-- A byte written to a memory window: accepted, or discarded, by its range [19 R546, 02 R46, 15 PAIR registers]. -/
def byteWrite (x : Nat × Byte) (s : State) : State :=
  let put := { s with mem := Memory.write s.mem x.1 x.2 }
  match region x.1 with
  | .staging => memS (stagingTouched x.1 x.2) s
  | .ucode => put
  | .packet => if s.dev.tw812 && decide (0x04080000 ≤ x.1) then s else put
  | .cont => if 0x05004000 ≤ x.1 ∧ s.dev.commands then put else s
  | _ => s

/-- A write of one word of the device map with its byte enables [19 R546 R549]. -/
def busWrite (port : Port) (a v be : Nat) (s : State) : State :=
  if !(serves s.dev port a) then s
  else
    let s := devS (fun _ d => touch port d) s
    match region a with
    | .regs =>
      if be % 16 = 15 then pageWrite port (a / 4096) (a % 4096 / 4 * 4) (v % 2 ^ 32) s
      else devS (fun _ d => raise 4 1 (hstErr port 1 a { d with hst := { d.hst with errPartial := wrapInc 8 d.hst.errPartial } })) s
    | .unmapped => devS (fun _ d => unmappedAccess port a d) s
    | _ => (enabledBytes (a / 4 * 4) v be).foldl (fun s x => byteWrite x s) s

/-! ### PCIe [19 R547 R548 R566] -/

/-- A word with some bytes replaced. -/
def mergeBytes (old v be : Nat) : Nat :=
  leNat ((List.range 4).map fun i => BitVec.ofNat 8 ((if be.testBit i then v else old) / 256 ^ i))

/-- Messages held back by a mask go out for the vectors that are still pending [19 R566]. (log 105) -/
def unmask (d : Dev) : Dev :=
  foldN 32 (fun v d =>
    if d.hst.pba.testBit v && !(d.hst.fnMask) && !((d.hst.table.getD v (0, 0, 0, 1)).2.2.2.testBit 0) then
      sendVec v { d with hst := { d.hst with pba := setBit d.hst.pba v false } }
    else d) d

/-- A word of the MSI-X table or the pending-bit array [19 R548]. -/
def msixWord (d : Dev) (a : Nat) : Nat :=
  if a < 0x200 then
    let e := d.hst.table.getD (a / 16) (0, 0, 0, 1)
    match a / 4 % 4 with | 0 => e.1 | 1 => e.2.1 | 2 => e.2.2.1 | _ => e.2.2.2
  else if a / 4 = 0x400 then d.hst.pba else 0

/-- A word of the MSI-X table written [19 R548 R566]. (log 105) -/
def msixWrite (a v be : Nat) (d : Dev) : Dev :=
  if a < 0x200 then
    let w := mergeBytes (msixWord d a) v be
    unmask { d with hst := { d.hst with table := modAt d.hst.table (a / 16) fun e =>
      match a / 4 % 4 with
      | 0 => (w, e.2) | 1 => (e.1, w, e.2.2) | 2 => (e.1, e.2.1, w, e.2.2.2) | _ => (e.1, e.2.1, e.2.2.1, w) } }
  else d

/-- A word of the configuration space: identity, command and MSI-X control; the rest is not given (log 48) [19 R547]. -/
def cfgSpaceWord (d : Dev) (a : Nat) : Nat :=
  let w := a / 4 * 4
  if w = 0 then 0x484B + 2 ^ 16 * (if d.tw812 then 0x0812 else 0x0816)
  else if w = 4 then setBit (Config.pcieCfg w) 2 d.hst.bme
  else if w = 8 then Config.pcieCfg w % 256 + 2 ^ 8 * 0x118000
  else if w = Config.msixCap then setBit (setBit (Config.pcieCfg w) 31 d.hst.msix) 30 d.hst.fnMask
  else Config.pcieCfg w

/-- A write to the configuration space: Bus Master Enable, and MSI-X enable and mask; on the enabling of MSI-X each pending vector sends its message (log 48) [19 R547 R550]. -/
def cfgSpaceWrite (a v be : Nat) (d : Dev) : Dev :=
  let w := a / 4 * 4
  let x := mergeBytes (cfgSpaceWord d a) v be
  if w = 4 then { d with hst := { d.hst with bme := bit x 2 } }
  else if w = Config.msixCap then
    let was := d.hst.msix
    let d := { d with hst := { d.hst with msix := bit x 31, fnMask := bit x 30 } }
    if !was && d.hst.msix then foldN 32 (fun i d => if d.irq.pend.testBit i then sendVec i d else d) d else unmask d
  else d

/-- One DW of a PCIe request. -/
def pcieAccess (x : Access) (s : State) : State :=
  match x.space, x.write with
  | .map, true => busWrite .pcie x.addr x.data x.be s
  | .map, false => busRead .pcie x.addr s
  | .msix, true => devS (fun _ d => msixWrite x.addr x.data x.be (touch .pcie d)) s
  | .msix, false => devS (fun _ d => emit (.read .pcie x.addr (msixWord d x.addr)) (touch .pcie d)) s
  | .config, true => devS (fun _ d => cfgSpaceWrite x.addr x.data x.be d) s
  | .config, false => devS (fun _ d => emit (.read .pcie x.addr (cfgSpaceWord d x.addr)) d) s

/-- PCIE_REQUEST: each DW in ascending address order, while the link is up [19 R549]. -/
def pcieRequest (l : List Access) (s : State) : State :=
  l.foldl (fun s x => if s.dev.hst.up && !(s.dev.mde.dstate == .reset) then pcieAccess x s else s) s

/-! ### Quad-SPI [19 R551 R552] -/

/-- CRC-16 of a word of a transfer, over its address, most significant byte first, and its data [19 R551]. -/
def spiCrc (a v : Nat) : Nat := crcMsb 16 0x1021 0xFFFF (beBytes 4 a ++ leBytes 4 v)

/-- A transfer that ends within a word, or has an unknown command or an unaligned address [19 R552]. -/
def spiAbort (a : Nat) (d : Dev) : Dev := hstErr .qspi 4 a { d with hst := { d.hst with spiAbort := wrapInc 8 d.hst.spiAbort } }

/-- The words of a write: from the first whose CRC fails on, all are discarded [19 R552]. -/
def spiWrite (crc : Bool) (a : Nat) : List QspiWord → State → State
  | [], s => s
  | w :: t, s =>
    if crc && w.crc % 65536 != spiCrc a (w.data % 2 ^ 32) then
      devS (fun _ d => raise 4 2 (hstErr .qspi 3 a { d with hst := { d.hst with spiCrc := wrapInc 8 d.hst.spiCrc } })) s
    else spiWrite crc ((a + 4) % 2 ^ 32) t (busWrite .qspi a w.data 15 s)

/-- The last word answered in the command in hand. -/
def lastRead (d : Dev) : Nat := match d.out.getLast? with | some (.read _ _ v) => v | _ => 0

/-- The words of a read, each followed by its CRC with CRC_EN = 1 [19 R551]. -/
def spiRead (crc : Bool) (a : Nat) : List QspiWord → State → State
  | [], s => s
  | _ :: t, s =>
    let s := busRead .qspi a s
    let s := if crc then devS (fun _ d => emit (.spiCrc (spiCrc a (lastRead d))) d) s else s
    spiRead crc ((a + 4) % 2 ^ 32) t s

/-- QSPI_TRANSFER [19 R551 R552]. -/
def qspiTransfer (t : QspiXfer) (s : State) : State :=
  if s.dev.mde.dstate == .reset || s.dev.mde.dorm == .asleep || s.dev.mde.dorm == .refresh then s
  else
    let s := devS (fun r d => { touch .qspi d with hst := { (touch .qspi d).hst with spiCfg := (r.get F.HST_SPI_CFG_DUMMY, r.bit F.HST_SPI_CFG_CRC_EN) } }) s
    let crc := s.dev.hst.spiCfg.2
    let a := t.addr % 2 ^ 32
    if (t.cmd ≠ 0xEB ∧ t.cmd ≠ 0x38) ∨ a % 4 ≠ 0 then devS (fun _ d => spiAbort a d) s
    else
      let s := if t.cmd = 0xEB then spiRead crc a t.words s else spiWrite crc a t.words s
      if t.cut then devS (fun _ d => spiAbort ((a + 4 * t.words.length) % 2 ^ 32) d) s else s

/-! ### Boundaries outside the cut [02 R34, 19 R588] -/

/-- The fields of a commit buffer that belong to an item of page TIM: base 0 to 3; 4 the PPS_IN settings; 8 to 11 the gains and limits of a base whose servo runs [02 R34]. -/
def timItem (r : Regs) (idx k : Nat) : Bool :=
  let o := keyOff k
  let gain := decide (0x60 ≤ o) && decide (o ≤ 0x6C)
  let waits := r.at F.TIM_SRV_CFG_MODE (keyIdx k) == 1
  if idx < 4 then keyIdx k == idx && decide (0x54 ≤ o) && decide (o ≤ 0x70) && !(gain && waits)
  else if idx = 4 then o == 0xA0
  else keyIdx k == idx - 8 && gain

/-- The commit of an output, axis or port, by the window that its registers lie in. -/
def encItem (idx k : Nat) : Bool :=
  if idx < 16 then keyInWin 0x44 0x50 idx k else if idx < 32 then keyInWin 0x64 0x80 (idx - 16) k else keyInWin 0x94 0x9C (idx - 32) k

/-- The item of page ENC is bound to a loop channel [12 R335]. -/
def encBound (r : Regs) (idx : Nat) : Bool :=
  if idx < 16 then (boundFb r 1 idx).isSome else if idx < 32 then (boundFb r 2 (idx - 16)).isSome else false

/-- The commit of a conversion channel of page FLT: its modulator and its two inputs. -/
def fltItem (idx k : Nat) : Bool :=
  let o := keyOff k
  (decide (0x40 ≤ o) && decide (o < 0x50) && (o - 0x40) / 4 == idx) ||
    (decide (0x50 ≤ o) && decide (o < 0xB0) && (o - 0x50) % 0x20 / 8 == idx)

/-- COMMIT_APPLY: the boundary of an item of a page comes, outside the cut [02 R34, 19 R588]. (log 104) -/
def commitApply (p idx : Nat) (r : Regs) (d : Dev) : Regs × Dev :=
  if pageAbsent d p || !((r.head p).pend) || d.mde.dstate == .reset then (r, d)
  else if !(r.en p) then ((applyCommit r p fun _ => true).1, d)
  else if p = 0x14 then
    if (boundAou r idx).isSome then (r, d)
    else
      let (r, _) := applyCommit r p fun k => keyIdx k == idx
      (r, if aouEnabled r d idx then aouHost r idx d else aouFail r idx d)
  else if p = 0x15 then
    if (boundOut r 2 idx).isSome then (r, d)
    else
      let (r, l) := applyCommit r p fun k => keyIdx k == idx
      if l.isEmpty then (r, d) else pfgApplied idx l r d
  else if p = 0x16 then
    if encBound r idx then (r, d)
    else
      let (r, l) := applyCommit r p (encItem idx)
      if l.isEmpty ∨ idx < 16 ∨ 32 ≤ idx then (r, d) else qdApplied (idx - 16) r d
  else if p = 0x10 ∨ p = 0x11 then
    let (r, l) := applyCommit r p (fltItem idx)
    (r, if l.isEmpty then d else fltApplied (4 * (p - 0x10) + idx) true r d)
  else if p = 0x20 then
    let (r, l) := applyCommit r p fun k => keyIdx k == idx
    (r, if l.isEmpty then d else e2eApplied idx d)
  else if p = 0x21 then
    let (r, l) := applyCommit r p (timItem (committed r p) idx)
    (r, if l.isEmpty ∨ 4 ≤ idx then d else timApplied idx l r d)
  else if 0x18 ≤ p ∧ p ≤ 0x1F then (if (d.canCh (p - 0x18)).sb == .off then sbApply r (p - 0x18) d else (r, d))
  else if (0x0C ≤ p ∧ p ≤ 0x0E) ∨ (0x22 ≤ p ∧ p ≤ 0x25) ∨ p = 0x2C then ((applyCommit r p fun _ => true).1, d)
  else (r, d)

/-! ### Meanings -/

/-- A host command on a page, where the device serves the page. -/
def hostPage (p : Nat) (f : State → State) (s : State) : Host.Outcome State Fault Refusal :=
  onState s fun s =>
    if serves s.dev .qspi (p * 4096) && (pageBlock p).isSome && !(pageAbsent s.dev p) then f (devS (fun _ d => { d with hst := { d.hst with lastAt := d.now, timedOut := false } }) s)
    else s

/-- PCIE_REQUEST [19 R549]. -/
def execPcieRequest (accs : List Access) (s : State) : Host.Outcome State Fault Refusal := onState s (pcieRequest accs)

/-- QSPI_TRANSFER [19 R551]. -/
def execQspiTransfer (t : QspiXfer) (s : State) : Host.Outcome State Fault Refusal := onState s (qspiTransfer t)

/-- REGISTER_WRITE [19 R556]. -/
def execRegisterWrite (port : Port) (addr v : Nat) (s : State) : Host.Outcome State Fault Refusal := onState s (busWrite port addr v 15)

/-- COMMIT [19 R558]. -/
def execCommit (page : Nat) (s : State) : Host.Outcome State Fault Refusal := hostPage page (commitPage page) s

/-- COMMIT_APPLY [19 R588]. -/
def execCommitApply (page idx : Nat) (s : State) : Host.Outcome State Fault Refusal := onRegs s (commitApply page idx)

/-- DISCARD [19 R559]. -/
def execDiscard (page : Nat) (s : State) : Host.Outcome State Fault Refusal := hostPage page (discardPage page) s

/-- FREEZE [19 R561]. -/
def execFreeze (page : Nat) (on : Bool) (s : State) : Host.Outcome State Fault Refusal := hostPage page (freezePage page on) s

/-- LOCK_WRITE [19 R562]. -/
def execLockWrite (page v : Nat) (s : State) : Host.Outcome State Fault Refusal := hostPage page (lockKey page v) s

/-- LOCK_EXPIRE: 100 ms after a lock opened [19 R562]. -/
def execLockExpire (page : Nat) (s : State) : Host.Outcome State Fault Refusal :=
  onState s fun s => if s.regs.lockOpen page s.dev.now then s else { s with regs := s.regs.modHead page fun h => { h with lockAt := none } }

/-- CFG_REJECTED_CLEAR [19 R554]. -/
def execCfgRejectedClear (page : Nat) (s : State) : Host.Outcome State Fault Refusal := hostPage page (clearRejected page) s

/-- LATCH_READ [00 R10]. -/
def execLatchRead (port : Port) (addr : Nat) (s : State) : Host.Outcome State Fault Refusal := onState s (busRead port addr)

/-- HOST_TIMEOUT [19 R567]. -/
def hostTimeout (r : Regs) (d : Dev) : Dev :=
  let ms := r.get F.HST_TIMEOUT_MS
  if d.running && ms != 0 && !(d.hst.timedOut) && decide (d.hst.lastAt + ticksMs ms ≤ d.now) then
    record r .hostTimeout {} (raise 4 3 { d with hst := { d.hst with timedOut := true } })
  else d

/-- HOST_TIMEOUT [19 R567]. -/
def execHostTimeout (s : State) : Host.Outcome State Fault Refusal := onDev s hostTimeout

end Sys2Proof.Machine
end

