-- ==== Sys2Proof/Machine/CutIn.lean ====
section
/-! DEFINITION. The cut-in of a vessel description: the slot write, the boot application, and what both put in force [02 R50 to R61, R555]. -/

namespace Sys2Proof.Machine

/-! ### Register records [02 R44 R58] -/

/-- A page written by a description loses what the host had pending on it; SUPERSEDED is recorded where there was something [02 R58, 19 R560]. (log 58) -/
def supersede (p : Nat) (r : Regs) (d : Dev) : Regs × Dev :=
  let h := r.head p
  let own := ofPage p r.shd
  let had := h.pend || !(own.isEmpty)
  let off := match own ++ h.buf with | e :: _ => keyOff e.1 | [] => 0
  let r := ({ r with shd := r.shd.filter fun (e : Nat × Nat) => !(keyPage e.1 == p) }).modHead p fun h => { h with buf := [], pend := false }
  let r := if had then r.reject p off 6 else r
  (r, if p = 5 then modMde (fun m => { m with reqBuf := false, reqShadow := false }) d else d)

/-- The select registers of a windowed register take INDEX [02 R44]. (log 57) -/
def putSelect (x : RegRec) (r : Regs) : Regs :=
  match pageBlock x.page, winAt x.page x.off with
  | some (b, _), some w =>
    let (i, j) := w.indices x.index
    let r := r.put w.sel i (x.page - b)
    match w.sel2 with
    | some s => r.put s j (x.page - b)
    | none => r
  | _, _ => r

/-- The window indices of a record. -/
def RegRec.at_ (x : RegRec) : Nat × Nat :=
  match winAt x.page x.off with
  | some w => w.indices x.index
  | none => (0, 0)

/-- A B-class value comes into force with the cut-in itself: the boundary of its page is the cut, or no function of the page runs [02 R34 R58, 19 R558]. (log 57) -/
def atCutIn (r : Regs) (p : Nat) : Bool := cutPages.contains p || !(r.en p)

/-- A field of a record: S and L fields are written at once, B fields at their boundary [02 R58]. (log 57) -/
def putField (v i j : Nat) (x : RegRec) (r : Regs) (q : Place) : Regs :=
  if q.fd.acc != .RW then r
  else match q.fd.cls with
    | .B =>
      if atCutIn r x.page then q.put r i j v
      else (q.putShadow r i j v).modHead x.page fun h => { h with buf := sins h.buf (q.key i j) (v % 2 ^ q.fd.width), pend := true }
    | .S | .L => if q.fd.act then r else q.put r i j v
    | .RO | .W1C => r

/-- One register record of a section other than SAFETY_MAP and LOOP_COEF. (log 57) -/
def putReg (r : Regs) (x : RegRec) : Regs :=
  let (i, j) := x.at_
  (placesAt x.page x.off).foldl (fun r (q : Place) => putField (q.fd.of x.val) i j x r q) (putSelect x r)

/-- A LOOP_COEF record: a channel that is not OFF takes it at its first sample after the cut, another at once [11 R326]. (log 59) -/
def putCoef (x : Regs × Dev) (c : RegRec) : Regs × Dev :=
  let (r, d) := x
  let r := putSelect c r
  let l := (placesAt c.page c.off).filter fun (q : Place) => q.fd.cls == .B
  if (d.loop c.index).st == .off then (l.foldl (fun r (q : Place) => q.put r c.index 0 (q.fd.of c.val)) r, d)
  else (r, modLop c.index (fun ch => { ch with
    coefWait := ch.coefWait ++ l.map fun (q : Place) => (q.key c.index 0, q.fd.of c.val) }) d)

/-- A SAFETY_MAP record: the island takes configuration in INIT and CONFIG only [16 R482 R486]. -/
def putSafety (r : Regs) (d : Dev) (x : RegRec) : Dev :=
  let i := (x.off - 0x100) / 4
  if x.page = 0x28 ∧ 0x100 ≤ x.off ∧ x.off ≤ 0x13C then
    match d.saf.stA with
    | .init => (fun d => if i = 15 then safCheck r d else d) (safPut i (x.val &&& safMask i) d)
    | .config => safPut i (x.val &&& safMask i) d
    | _ => d
  else d

/-- The records of a section in record order. (log 57) -/
def putSection (a : Descr) (x : Regs × Dev) (t : Nat) : Regs × Dev :=
  let l := a.regs t
  if t = 0x0D then (x.1, l.foldl (putSafety x.1) x.2)
  else if t = 0x0C then l.foldl putCoef x
  else (l.foldl putReg x.1, x.2)

/-- The pages that sections write, each once. -/
def writtenPages (a : Descr) (ts : List Nat) : List Nat :=
  ((ts.flatMap fun t => a.regs t).map fun (x : RegRec) => x.page).eraseDups

/-- CFG_GEN advances for a page whose values are all in force [19 CFG_GEN]. (log 58) -/
def genAfter (r : Regs) (p : Nat) : Regs := if (r.head p).pend then r else r.modHead p fun h => { h with gen := wrapInc 32 h.gen }

/-- EN of a page set to 1 by a description applied in LOAD or READY [19 R555]. -/
def enableWritten (x : Regs × Dev) (p : Nat) : Regs × Dev :=
  if x.1.en p || !(staticPages.contains p) || p = 0x28 then x
  else
    let r := x.1.modHead p fun h => { h with en := true }
    (r, blockOn p r x.2)

/-- The register-image sections `ts` of a description written in ascending order [02 R58, 19 R555]. (log 57) -/
def putSections (a : Descr) (ts : List Nat) (r : Regs) (d : Dev) : Regs × Dev :=
  let ps := (writtenPages a ts).filter fun p => p != 0x28
  let (r, d) := ps.foldl (fun (x : Regs × Dev) p => supersede p x.1 x.2) (r, d)
  let (r, d) := ts.foldl (putSection a) (r, d)
  let r := ps.foldl genAfter r
  let (r, d) := if d.running then (r, d) else ps.foldl enableWritten (r, d)
  (r, if ps.contains 0x17 then dioDrive r d else d)

/-! ### Running blocks [02 R59] -/

/-- Records of a description that a predicate chooses, as compared at a cut-in. -/
def Descr.pick (a : Descr) (ts : List Nat) (p : RegRec → Bool) : List (Nat × Nat × Nat × Nat) :=
  ((ts.flatMap fun t => a.regs t).filter p).map fun (x : RegRec) => (x.page, x.off, x.index, x.val)

/-- A record addresses an output of an OUT_KIND [02 R59]. (log 59) -/
def onOutput (kind port : Nat) (x : RegRec) : Bool :=
  match kind with
  | 0 => x.page == 0x14 && x.index == port
  | 1 => x.page == 0x14 && x.index == 16 + port
  | 2 => x.page == 0x15 && x.index == port
  | _ => decide (0x18 ≤ x.page) && decide (x.page ≤ 0x1F) && decide (0x104 ≤ x.off) && decide (x.off ≤ 0x108) && x.index == port

/-- A record addresses a feedback port of an FB_SRC; a modulator's record addresses both of its inputs [02 R59]. (log 59) -/
def onFeedback (src port : Nat) (x : RegRec) : Bool :=
  let k := port % 8
  match src with
  | 1 => x.page == 0x16 && decide (0x44 ≤ x.off) && decide (x.off ≤ 0x50) && x.index == port
  | 2 => x.page == 0x16 && decide (0x64 ≤ x.off) && decide (x.off ≤ 0x80) && x.index == port
  | 3 => x.page == 0x10 + port / 8 && [0x40 + k / 2 * 4, 0x50 + 4 * k, 0x70 + 4 * k, 0x90 + 4 * k].contains x.off
  | 4 => decide (0x18 ≤ x.page) && decide (x.page ≤ 0x1F) && decide (0x114 ≤ x.off) && decide (x.off ≤ 0x118) && x.index == port
  | _ => false

/-- A record addresses a channel's settings, or the output or the feedback port that LOP_CH_CFG binds it to in registers `r`. (log 59) -/
def boundTo (r : Regs) (c : Nat) (x : RegRec) : Bool :=
  onOutput (r.at F.LOP_CH_CFG_OUT_KIND c) (r.at F.LOP_CH_CFG_OUT_PORT c) x ||
    onFeedback (r.at F.LOP_CH_CFG_FB_SRC c) (r.at F.LOP_CH_CFG_FB_PORT c) x

/-- The configuration of a channel differs: a LOOP record that addresses it, or one that addresses the output or the port it was or is bound to [02 R59]. (log 59) -/
def loopDiffers (old new : Descr) (r0 r1 : Regs) (c : Nat) : Bool :=
  let own := fun (x : RegRec) => x.page == 0x13 && x.index == c
  let bound := fun (x : RegRec) => boundTo r0 c x || boundTo r1 c x
  old.pick [0xB] own != new.pick [0xB] own || old.pick [8, 9, 0xB, 0xF] bound != new.pick [8, 9, 0xB, 0xF] bound

/-- Channels whose configuration differs restart at their next sample out of OFF [02 R59]. (log 59) -/
def restartLoops (old new : Descr) (r0 r1 : Regs) (d : Dev) : Dev :=
  foldN 32 (fun c d =>
    if loopDiffers old new r0 r1 c && !((d.loop c).st == .off) then modLop c (fun ch => { ch with restart := true }) d else d) d

/-- The record of a source and the record of its sensor. -/
def Descr.sourceAt (a : Descr) (i : Nat) : Option (SourceRec × Option SensorRec) :=
  (a.sources.find? fun (s : SourceRec) => s.id == i).map fun s => (s, a.sensors.find? fun (x : SensorRec) => x.id == s.sensor)

/-- A source whose record or sensor differs starts again; its counters run on (log 49) [02 R59, 06 R167]. -/
def restartSources (old new : Descr) (d : Dev) : Dev :=
  foldN 32 (fun i d =>
    if old.sourceAt i == new.sourceAt i then d
    else
      let s := d.source i
      let st : SrcState := if (new.sourceAt i).isSome then .waiting else .unused
      let f := d.fsrc i
      modFus i (fun _ => { fused := f.fused }) (modSource i (fun _ =>
        { st := st, records := s.records, parse := s.parse, rate := s.rate, restarts := s.restarts, validTick := d.now }) d)) d

/-- A target object that is added, changed or removed starts without an estimate [02 R59] (log 49). -/
def restartTargets (old new : Descr) (d : Dev) : Dev :=
  foldN 8 (fun o d =>
    let at_ := fun (a : Descr) => a.objects.find? fun (x : ObjRec) => x.id == o
    if o = 0 || at_ old == at_ new then d else modTgt o (fun _ => {}) (setTgtEst o {} d)) d

/-- Cycle period of a CYCLE_RATE code, ns [02 R43]. -/
def rateNs (rate : Nat) : Nat :=
  match rate with
  | 0 => 20000000 | 1 => 10000000 | _ => 5000000

/-- SYSTEM.PAIR differs in RUN: the unit gives up its role and takes the states of its new kind [15 R428 R429] (log 49). -/
def pairChanged (old new : Descr) (r : Regs) (d : Dev) : Dev :=
  if d.running && old.sys.pair != new.sys.pair then enableOutputs r (enterRoles r (leaveRoles r d)) else d

/-- What a description puts in force: the typed records, the sections `ts`, and what follows for running blocks [02 R53 R58 R59]. (log 49) -/
def install (new : Descr) (ts : List Nat) (r : Regs) (d : Dev) : Regs × Dev :=
  let old := d.descr
  let coef := (diffSecs d.cfg.active new).contains 0xC
  let (r1, d) := putSections new ts r { d with cfg := { d.cfg with active := some new } }
  let d := if coef then foldN 32 (fun c d => modLop c (fun ch => { ch with swapDue := !(ch.st == .off) }) d) d else d
  let d := restartTargets old new (restartSources old new (restartLoops old new r r1 d))
  (r1, pairChanged old new r1 (modCyc (fun c => { c with periodNs := rateNs new.sys.rate }) d))

/-! ### The cut-in [02 R42 R52] -/

/-- Section types that an image carries, and those that an overlay in force carried before it and that return to the full image's, ascending [02 R42 R58]. -/
def applied (b oldTuning : List Byte) : List Nat :=
  let l := (imgDir b).map (fun (e : DirEnt) => e.type) ++ (if (imgHdr b).kind = 1 then (imgDir oldTuning).map fun (e : DirEnt) => e.type else [])
  (List.range 16).filter fun t => decide (8 ≤ t) && l.contains t

/-- The pending image comes into force, and the active-slot record is switched [02 R52]. (log 57) -/
def cutIn (r : Regs) (d : Dev) : Regs × Dev :=
  let new := d.cfg.next
  let diff := diffSecs d.cfg.active new
  let ts := applied d.cfg.image (d.cfg.slotAt d.cfg.slot).tuning
  let (r, d) := install new ts r { d with cfg := { d.cfg with unlocked := false } }
  let d := commitMark r { d with cfg := { d.cfg with
    slot := d.cfg.loadSlot, phase := .done, cutins := wrapInc 32 d.cfg.cutins, cutDiff := diff, safetyDiff := false, image := [], next := {} } }
  (r, record r .cfgCutIn { p0 := new.imageId, p1 := new.rev, p2 := new.overlayRev } (raise 6 2 d))

/-- The pending image cuts in at a cut of the mode in force; a new CYCLE_RATE waits for a second boundary [02 R52 R53 R54 R56]. The answer says whether it did. (log 58) -/
def cutInAtCut (second : Bool) (r : Regs) (d : Dev) : Regs × Dev × Bool :=
  if d.cfg.phase == .pending && cutsInto (diffSecs d.cfg.active d.cfg.next) d.mde.mode then
    if rateNs d.cfg.next.sys.rate != d.mde.cyc.periodNs && !second then (r, d, false)
    else
      let (r, d) := cutIn r d
      (r, d, true)
  else (r, d, false)

/-! ### The slot write [02 R50 R51 R52 R55] -/

/-- CFG_SLOT_WRITTEN: the inactive slot holds the load, once there is energy for its segments; in READY it is applied at once. (log 60) -/
def cfgSlotWritten (r : Regs) (d : Dev) : Regs × Dev :=
  if !(d.cfg.phase == .writing) then (r, d)
  else if !(segOk r d) then
    let d := raiseIf (!(d.cfg.deferred)) 6 5 (deferSeg d.cfg.deferred d)
    (r, { d with cfg := { d.cfg with deferred := true } })
  else
    let t := 1 - d.cfg.slot
    let slot : Slot := if d.cfg.tuningLoad then { full := d.fullBytes, tuning := d.cfg.image } else { full := d.cfg.image }
    let d := wearSeg r ((List.range 16).map fun i => (Area.slot, 16 * t + i)) d
    let d := { d with cfg := { d.cfg with
      slot0 := if t = 0 then slot else d.cfg.slot0, slot1 := if t = 0 then d.cfg.slot1 else slot
      loadSlot := t, deferred := false, phase := .pending } }
    let d := raise 6 0 d
    if d.mde.dstate == .ready then
      let (r, d) := cutIn r d
      (r, { d with cfg := { d.cfg with cutDiff := [] } })
    else (r, d)

/-- CFG_SLOT_WRITTEN [02 R50]. -/
def execCfgSlotWritten (s : State) : Host.Outcome State Fault Refusal := onRegs s cfgSlotWritten

/-! ### Device state LOAD [02 R61] -/

/-- The description of a slot whose images pass the checks of R48, revisions and modes apart [02 R61]. -/
def slotDescr (r : Regs) (d : Dev) (i : Nat) : Option Descr :=
  let s := d.cfg.slotAt i
  let full := describe s.full []
  let both := describe s.full s.tuning
  if (imgHdr s.full).kind = 0 ∧ (chkImage r d none true s.full.length s.full full).isNone then
    if s.tuning.isEmpty then some full
    else if (imgHdr s.tuning).kind = 1 ∧ (chkImage r d (some full) true s.tuning.length s.tuning both).isNone then some both
    else none
  else none

/-- The slot that LOAD uses, and its description: the active one, or else the other [02 R61]. (log 60) -/
def pickSlot (r : Regs) (d : Dev) : Option (Nat × Descr) :=
  match slotDescr r d d.cfg.slot with
  | some a => some (d.cfg.slot, a)
  | none => (slotDescr r d (1 - d.cfg.slot)).map fun a => (1 - d.cfg.slot, a)

/-- Where a unit goes from LOAD: RUN with a valid description, at the host level after a wake; READY without one [03 R64 R94]. -/
def leaveLoad (r : Regs) (d : Dev) : Dev :=
  if d.cfg.active.isNone then setDState .ready (modMde (fun m => { m with mode := .harbour, dorm := .none }) d)
  else if d.mde.dorm == .waking then setDState .run (modMde (fun m => { m with mode := .dormant, dorm := .hostLevel }) d)
  else enterRun r d

/-- LOAD [02 R61, 16 R486]. (log 57, 60) -/
def load (r : Regs) (d : Dev) : Regs × Dev :=
  if !(d.mde.dstate == .load) then (r, d)
  else
    match pickSlot r d with
    | none => (r, leaveLoad r d)
    | some (i, a) =>
      let d := if i = d.cfg.slot then d else record r .cfgSlotFallback { p0 := i } (raise 6 3 { d with cfg := { d.cfg with slot := i } })
      let (r, d) := install a ((List.range 16).filter fun t => decide (8 ≤ t) && t != 0xD) r d
      let d := safCompare r (safWriteMap r d)
      (r, leaveLoad r d)

/-- LOAD [02 R61]. -/
def execLoad (s : State) : Host.Outcome State Fault Refusal := onRegs s load

end Sys2Proof.Machine
end

