-- ==== Sys2Proof/Machine/Pair.lean ====
section
/-! DEFINITION. The continuity set and takes: what the primary takes and sends, what the standby accepts, loads and applies, and the planned role swap [15 R446, R449 to R457]. -/

namespace Sys2Proof.Machine

/-- A standby with the link up. (log 54) -/
def Dev.stbyLinked (d : Dev) : Bool := (d.pair.state == .stbySyncing || d.pair.state == .stbySynced) && d.linkUp

/-- PAIR_CONT and take state changed. -/
def modPair (f : PairSt → PairSt) (d : Dev) : Dev := { d with pair := f d.pair }

/-- Ticks of a hundredth of the cycle period. -/
def Dev.centT (d : Dev) : Nat := d.mde.cyc.periodNs / 400

/-! ### Identities of images [15 R450 R452] -/

/-- IMAGE_ID and REVISION of the active full image. (log 60) -/
def Dev.imageNow (d : Dev) : Nat × Nat := (d.descr.imageId, d.descr.rev)

/-- IMAGE_ID and REVISION of a PENDING image. -/
def Dev.imagePending (d : Dev) : Option (Nat × Nat) :=
  if d.cfg.phase == .pending then some ((imgHdr d.cfg.image).id, (imgHdr d.cfg.image).rev) else none

/-- A standby leaves the cut-in of an image that the primary announces too to the cut part that names it [15 R452]. (log 54) -/
def Dev.cutInWaits (d : Dev) : Bool := d.stbyLinked && d.imagePending.isSome && d.ndl.partnerPending == d.imagePending

/-! ### The cut part [15 R449] -/

/-- MDE commands and profile limits that the cut part carries, STOP apart. (log 76) -/
def cmdFields : List Fd :=
  [F.MDE_SP_CTL_TURN_DIR, F.MDE_SP_NORTH_V, F.MDE_SP_EAST_V, F.MDE_SP_HEADING_V, F.MDE_V_MAX_V, F.MDE_A_MAX_V, F.MDE_D_MAX_V, F.MDE_J_MAX_V,
   F.MDE_R_MAX_V, F.MDE_RA_MAX_V, F.MDE_RD_MAX_V, F.MDE_RJ_MAX_V, F.MDE_JOY_X_V, F.MDE_JOY_Y_V, F.MDE_JOY_N_V, F.MDE_REL_ALONG_V,
   F.MDE_REL_ACROSS_V, F.MDE_REL_HEADING_V, F.MDE_POSLOSS_TIME_V, F.MDE_FOLLOW_LOSS_TIME_V]

/-- Key of the STOP command. -/
def stopKey : Nat := F.MDE_SP_CTL_STOP.key 0 0 0 0

/-- The commands in force, with STOP where it acts at this cut. -/
def cmdsNow (r : Regs) (d : Dev) : List (Nat × Nat) :=
  cmdFields.map (fun (f : Fd) => (f.key 0 0 0 0, r.get f)) ++
    ((List.range 16).flatMap fun i => [F.MDE_LEVER_AZ_V, F.MDE_LEVER_THRUST_V].map fun (f : Fd) => (f.key 0 0 i 0, r.at f i)) ++
    (if d.mde.prof.stop then [(stopKey, 1)] else [])

/-- The cut part of this cut; `was` is the device before step 2 of R18, `cutin` says that an image cut in. -/
def cutPartNow (r : Regs) (was : Dev) (cutin take : Bool) (d : Dev) : CutPart :=
  { seq := d.fus.seq, mode := d.mde.mode, autoHdg := d.mde.autoHdg, followObj := d.mde.followObj, cmds := cmdsNow r d
    result := if d.mde.resCount = was.mde.resCount then 0 else 1 + d.mde.resMode + 8 * d.mde.resCode
    origin := if d.fus.orgGen = was.fus.orgGen then none else some (d.fus.lat0, d.fus.lon0, d.fus.orgGen)
    image := if cutin then was.imagePending else none, take := take }

/-- CUT_PART_SEND: the cut part leaves the primary [15 R449]. (log 76) -/
def sendCutPart (p : CutPart) (d : Dev) : Dev :=
  if d.isPrimary && d.linkUp then
    ndlSend .cutPart ([p.seq, p.mode.num, b2n p.autoHdg, p.followObj, p.result, b2n p.take] ++ p.cmds.map fun (e : Nat × Nat) => e.2) d
  else d

/-- Commands of a cut part come into force on a standby; new targets and STOP reach its generator [15 R449]. (log 76) -/
def partCommands (p : CutPart) (again : Bool) (r0 : Regs) (d : Dev) : Regs × Dev :=
  let r := r0.apply (p.cmds.filter fun (e : Nat × Nat) => e.1 != stopKey) keyReset
  let new := fun (f : Fd) => r.get f != r0.get f
  let fol := p.mode == .follow
  let abs_ := p.mode == .autopos || p.mode == .transfer
  let lin := abs_ && (new F.MDE_SP_NORTH_V || new F.MDE_SP_EAST_V) || fol && (new F.MDE_REL_ALONG_V || new F.MDE_REL_ACROSS_V)
  let hdg := (abs_ || p.mode == .joystick && p.autoHdg) && new F.MDE_SP_HEADING_V || fol && new F.MDE_REL_HEADING_V
  let stop := !again && p.cmds.any fun (e : Nat × Nat) => e.1 == stopKey
  (r, modProf (fun x => { x with newLin := x.newLin || lin, newHdg := x.newHdg || hdg, stop := x.stop || stop }) d)

/-- The mode of a cut part comes into force on a standby; into DORMANT, its cuts stop as well [03 R96, 15 R449]. (log 76) -/
def partMode (p : CutPart) (r : Regs) (d : Dev) : Regs × Dev :=
  if p.mode == d.mde.mode && p.autoHdg == d.mde.autoHdg && p.followObj == d.mde.followObj then (r, d)
  else
    let auto := p.mode == .joystick && p.autoHdg && !(d.mde.autoHdg)
    let tr := p.mode == .transfer && !(d.mde.mode == .transfer)
    let (r, d) := changeMode p.mode p.autoHdg p.followObj 2 r d
    let d := if auto then modProf (fun x => { x with enter := true, newHdg := true }) d else d
    let d := if tr then appSub r 0 d else d
    (r, if p.mode == .dormant then enterDormant r d else d)

/-- A request that the primary decided shows on the standby as well [15 R449]. (log 76) -/
def partResult (p : CutPart) (d : Dev) : Dev :=
  if p.result = 0 then d
  else modMde (fun x => { x with resMode := (p.result - 1) % 8, resCode := (p.result - 1) / 8, resCount := wrapInc 16 x.resCount }) d

/-- An origin that another unit has set is taken with its GEN [15 R449 R453]. -/
def takeOrigin (lat lon : F64) (gen : Nat) (d : Dev) : Dev :=
  if d.fus.orgSet && d.fus.orgGen == gen && d.fus.lat0 == lat && d.fus.lon0 == lon then d
  else
    let d := if d.fus.orgSet then moveOrigin lat lon d else setOrigin lat lon d
    { d with fus := { d.fus with orgGen := gen } }

/-- A cut part applied as the outcome of step 2 of R18 for page MDE [15 R449 R452]. (log 54, 76) -/
def applyCutPart (p : CutPart) (r : Regs) (d : Dev) : Regs × Dev :=
  let (r, d) := if d.imagePending.isSome && p.image == d.imagePending then cutIn r d else (r, d)
  let d := { d with cfg := { d.cfg with cutDiff := [] } }
  let (r, d) := partCommands p false r d
  let (r, d) := partMode p r (partResult p d)
  (r, match p.origin with | some (a, o, g) => takeOrigin a o g d | none => d)

/-- The take flag of a cut part: a standby that is ready answers and will take command at the deadline. While the checks of a take run, the flag gives command back [15 R455 R456 R457]. (log 79) -/
def takeFlag (p : CutPart) (r : Regs) (d : Dev) : Dev :=
  let back := d.pair.checkLeft != 0
  if !p.take || !(d.stbyLinked) || !(back || d.takeReady) then d
  else
    let d := modPair (fun x => { x with take := some { gaining := true, giveBack := back, seq := p.seq }, checkLeft := 0, takeFail := x.takeFail || back }) d
    let d := if back then record r .pairTakeFail { p0 := d.ndl.partnerId } (raise 0x27 5 d) else d
    ndlSend .takeAck [p.seq] d

/-- CUT_PART: accepted by a standby within 20 µs of its own cut [15 R449]. (log 77) -/
def cutPart (p : CutPart) (r : Regs) (d : Dev) : Regs × Dev :=
  if !(d.linkUp) || !(d.running) || d.single then (r, d)
  else
    let d := ndlFrame true d
    if d.isPrimary then (r, d)
    else
      let d := linkRules r { d with ndl := { d.ndl with partnerCommands := true } }
      if d.stbyLinked && d.mde.cyc.running && !(d.pair.cutPartGot) && decide (d.now ≤ d.mde.cyc.cutTick + ticksUs 20) then
        let d := modPair (fun x => { x with cutPart := some p, cutPartAt := d.tb0, cutPartGot := true, cutRun := 0, seqOwn := p.seq }) d
        let (r, d) := applyCutPart p r d
        (r, takeFlag p r d)
      else (r, d)

/-- CUT_PART [15 R449]. -/
def execCutPart (p : CutPart) (s : State) : Host.Outcome State Fault Refusal := onRegs s (cutPart p)

/-- CUT_PART_MISS: no cut part within 20 µs of the cut; the mode and the commands of the one before stay [15 R449]. (log 77) -/
def cutPartMiss (r : Regs) (d : Dev) : Regs × Dev :=
  if d.running && d.stbyLinked && d.mde.cyc.running && !(d.pair.cutPartGot) && decide (d.mde.cyc.cutTick + ticksUs 20 < d.now) then
    let d := syncJudge r (modPair (fun x => { x with cutPartGot := true, cutMiss := wrapInc 8 x.cutMiss, cutRun := min 3 (x.cutRun + 1) }) d)
    match d.pair.cutPart with
    | some p => partCommands p true r d
    | none => (r, d)
  else (r, d)

/-- CUT_PART_MISS [15 R449]. -/
def execCutPartMiss (s : State) : Host.Outcome State Fault Refusal := onRegs s cutPartMiss

/-! ### Taking the set [15 R450] -/

/-- Base of the host area. -/
def hostArea : Nat := 0x05004000

/-- One lane at 200 Hz on a TW816: the host area is cut to 112 KiB [15 R450]. -/
def Dev.truncates (d : Dev) : Bool := !(d.tw812) && d.mde.cyc.periodNs == 5000000 && !(d.ndl.lane0 && d.ndl.lane1)

/-- The continuity set at this instant [15 R450]. -/
def contSet (r : Regs) (m : List Host.Cell) (d : Dev) : ContSet :=
  let len := r.get F.PAIR_HOST_LEN_LEN
  let len := if d.isPrimary && d.linkUp && d.truncates then min len 114688 else len
  { seq := d.fus.seq, unitId := d.pair.unitId, image := d.imageNow, overlay := d.descr.overlayRev, pending := d.imagePending
    takenAt := d.tb0, hostLen := len, profile := d.mde.prof, solution := d.slv.prev, sig := d.slv.sig, ctl := d.ctl, thr := d.alc.thr
    handed := d.lop.ch.map fun (c : LoopCh) => c.handed.getD c.hand
    loops := d.lop.ch, own := d.fus.own, org := (d.fus.lat0, d.fus.lon0), orgGen := (d.fus.orgGen, d.fus.orgSet)
    pose := [recD d 0 6, recD d 0 8, recF d 0 10], latch := d.fus.srcs.map fun (x : FusSrc) => x.latch, tgts := d.fus.tgts
    tip := d.slv.tgt, joints := d.slv.joints, react := d.slv.react, e2e := d.e2e.ctx.map fun (c : E2eCtx) => (c.cnt, c.run), axes := d.pfg.axes
    host := m.filter fun (c : Host.Cell) => decide (hostArea ≤ c.1) && decide (c.1 < hostArea + len) }

/-- Share of the mirror window that a set takes, percent [15 R454]. (log 77) -/
def mirrorLoad (len : Nat) (d : Dev) : Nat :=
  min 255 ((16384 + len) * 16000000 / (6050 * max 1 (b2n d.ndl.lane0 + b2n d.ndl.lane1) * d.mde.cyc.periodNs))

/-- CONTINUITY_SET_TAKE: at 0.90 T, after the deadline outcome; the set leaves for the partner in a pair [01 R25, 15 R450]. -/
def continuityTake (r : Regs) (m : List Host.Cell) (d : Dev) : Dev :=
  let c := d.mde.cyc
  if !(c.running) || c.setTaken || !(c.deadlineDone) || decide (d.now < c.cutTick + 90 * d.centT) then d
  else
    let d := modCyc (fun c => { c with setTaken := true }) d
    if !(d.commands) then d
    else
      let s := contSet r m d
      let d := modPair (fun x => { x with set := some s }) d
      if d.isPrimary && d.linkUp then
        ndlSend .bulk [s.seq, s.hostLen] { d with
          ndl := { d.ndl with loadMirror := mirrorLoad s.hostLen d }, pair := { d.pair with hostTrunc := d.truncates } }
      else d

/-- CONTINUITY_SET_TAKE [15 R450]. -/
def execContinuitySetTake (s : State) : Host.Outcome State Fault Refusal := onMem s fun r m d => ([], continuityTake r m d)

/-! ### Accepting a set [15 R451 R452 R453] -/

/-- The images of a header are this unit's. (log 60) -/
def sameImage (s : ContSet) (d : Dev) : Bool := s.image == d.imageNow && s.overlay == d.descr.overlayRev

/-- Channels in OFF take the values of the set in place of the clearing of R320 [15 R451]. -/
def offFromSet (s : ContSet) (d : Dev) : Dev :=
  (s.loops.zipIdx).foldl (fun d (l, c) =>
    if (d.loop c).st == .off then
      modLop c (fun ch => { ch with i := l.i, d := l.d, u := l.u, re := l.re, aw := l.aw, awPos := l.awPos }) d
    else d) d

/-- Latched reference points are the set's [07 R206, 15 R453]. -/
def latchFromSet (s : ContSet) (d : Dev) : Dev :=
  (s.latch.zipIdx).foldl (fun d (p, i) => if (d.fsrc i).latch = p then d else modFus i (fun f => { f with latch := p }) d) d

/-- The estimates of an object differ by more than PAIR_DIV_POS or PAIR_DIV_HDG. (log 78) -/
def diverges (r : Regs) (dn de dh : F64) : Bool :=
  (r.f64 F.PAIR_DIV_POS_DIV_POS).lt ((dn.mul dn).add (de.mul de)).sqrt || (r.f64 F.PAIR_DIV_HDG_DIV_HDG).lt (wrapPi dh).abs

/-- Object `o` differs from the set: State records of object 0, estimates at the cut of a target [15 R453]. (log 78) -/
def objDiverges (r : Regs) (s : ContSet) (d : Dev) (o : Nat) : Bool :=
  if o = 0 then
    s.pose.length == 3 && recFlag d 0 0 && diverges r ((recD d 0 6).sub (vc s.pose 0)) ((recD d 0 8).sub (vc s.pose 1)) ((recF d 0 10).sub (vc s.pose 2))
  else
    let e := at' s.tgts (o - 1)
    let w := d.tgtEst o
    e.init && w.init && diverges r ((vc w.x 0).sub (vc e.x 0)) ((vc w.x 1).sub (vc e.x 1)) ((vc w.x 4).sub (vc e.x 4))

/-- An object takes the primary's estimate into its snapshot of this cut, and reruns from it [07 R223, 15 R453]. (log 78) -/
def reseed (r : Regs) (s : ContSet) (o : Nat) (d : Dev) : Dev :=
  let at_ := d.mde.cyc.cutTb0
  let x : Rerun := { obj := o, depth := 1, from_ := at_, started := d.now }
  let d := raise 0x27 6 d
  let d :=
    if o = 0 then
      let d := putSnapOwn at_ s.own d
      { d with fus := { d.fus with own := s.own, rerun := some { x with late := match d.fus.rerun with | some y => y.late | none => [] } } }
    else
      let e := at' s.tgts (o - 1)
      modTgt o (fun t => { t with rerun := some { x with late := match t.rerun with | some y => y.late | none => [] } }) (setTgtEst o e (putSnapTgt o at_ e d))
  record r .pairReseed { p0 := o } d

/-- Ten divergent sets in a row reseed an object [15 R453]. (log 78) -/
def divergence (r : Regs) (s : ContSet) (d : Dev) : Dev :=
  (0 :: d.targets).foldl (fun d o =>
    let n := if objDiverges r s d o then at' d.pair.divRun o + 1 else 0
    let d := modPair (fun x => { x with divRun := modAt x.divRun o fun _ => if 10 ≤ n then 0 else n }) d
    if 10 ≤ n then reseed r s o d else d) d

/-- A set accepted: counted and kept; with equal images, origin, latched points and channels in OFF follow it at once [15 R451 R452 R453]. (log 77) -/
def acceptSet (r : Regs) (s : ContSet) (d : Dev) : Dev :=
  let eq := sameImage s d
  let d := { d with
    ndl := { d.ndl with partnerImage := s.image, partnerPending := s.pending, partnerCommands := true }
    pair := { d.pair with
      set := some s, bulkDone := true, imageEq := eq, accepted := wrapInc 16 d.pair.accepted, runOk := min 100 (d.pair.runOk + 1), runMiss := 0 } }
  let d := if eq then
      let d := if s.orgGen.2 then takeOrigin s.org.1 s.org.2 s.orgGen.1 d else d
      divergence r s (latchFromSet s (offFromSet s d))
    else d
  syncJudge r d

/-- A bulk part of the present cycle that is not accepted is counted once [15 R451]. (log 77) -/
def missSet (d : Dev) : Dev :=
  if d.pair.bulkDue && !(d.pair.bulkDone) then
    modPair (fun x => { x with bulkDue := false, missed := wrapInc 8 x.missed, runOk := 0, runMiss := min 3 (x.runMiss + 1) }) d
  else d

/-- BULK_FRAME: a fragment arrives; the set is accepted when all are good, SEQ is that of the cycle and 0.95 T has not passed [15 R451]. (log 77) -/
def bulkFrame (b : BulkIn) (r : Regs) (d : Dev) : Dev :=
  if !(d.linkUp) then d
  else
    let d := ndlFrame b.ok d
    if !(d.running && d.stbyLinked && d.mde.cyc.running) then d
    else
      let l := if b.ok then (if d.pair.bulkFrags.contains b.frag then d.pair.bulkFrags else b.frag :: d.pair.bulkFrags) else d.pair.bulkFrags
      let bad := d.pair.bulkBad || !b.ok
      let d := modPair (fun x => { x with bulkFrags := l, bulkBad := bad }) d
      let late := decide (d.mde.cyc.cutTick + 95 * d.centT < d.now)
      if late || bad || b.seq != d.pair.seqOwn then syncJudge r (missSet d)
      else if (List.range (max 1 b.frags)).all (fun i => l.contains i) && !(d.pair.bulkDone) then
        acceptSet r b.set (modPair (fun x => { x with bulkFrags := [], bulkBad := false }) d)
      else d

/-- BULK_FRAME [15 R451]. -/
def execBulkFrame (b : BulkIn) (s : State) : Host.Outcome State Fault Refusal := onDev s (bulkFrame b)

/-- What a standby loads at a cut from the set of the cycle before: everything but loop channels, axes, E2E contexts and host area; its estimates stay its own [15 R450 R451]. -/
def loadSet (s : ContSet) (d : Dev) : Dev :=
  let c := s.ctl
  let d := modProf (fun _ => s.profile) d
  let d := modSlv (fun x => { x with prev := s.solution, sig := s.sig, tgt := s.tip, joints := s.joints, react := s.react }) d
  let d := modCtl (fun x => { x with
    outcome := c.outcome, shiftRun := c.shiftRun, solvedRun := c.solvedRun, fallback := c.fallback, integ := c.integ, fbValid := c.fbValid
    wind := c.wind, windHeld := c.windHeld, windAt := c.windAt, windValid := c.windValid, windRamp := c.windRamp, windFf := c.windFf, tau := c.tau }) d
  let d := { d with alc := { d.alc with thr := s.thr } }
  (s.handed.zipIdx).foldl (fun d (h, i) => modLop i (fun ch => { ch with hand := h }) d) d

/-- The standby's part of a cut: a set not accepted is counted, an accepted one is loaded, and the next is awaited [15 R451]. (log 54) -/
def standbyCut (r : Regs) (d : Dev) : Dev :=
  let d := if d.stbyLinked then missSet d else d
  let d := match d.pair.set with
    | some s => if d.stbyLinked && d.pair.bulkDone && d.pair.imageEq then loadSet s d else d
    | none => d
  let l := d.stbyLinked
  syncJudge r (modPair (fun x => { x with
    bulkDone := false, bulkDue := l, bulkFrags := [], bulkBad := false, cutPartGot := false, seqOwn := (x.seqOwn + 1) % 2 ^ 32 }) d)

/-! ### Takes [15 R455 R456 R457] -/

/-- The first condition of R455 that fails at a cut, 0 when none does; the answer of the partner is awaited after it. -/
def deferCode (d : Dev) : Nat :=
  let moves := d.pfg.axes.any fun (a : StepAxis) => a.moving || !(a.homing == .none) || !(a.rate.isZero)
  firstCode [(d.mde.mode == .transfer || d.mde.mode == .dormant, 1), (d.ctl.fallback, 2),
    (!(d.pair.state == .primSynced && d.pair.partnerReady), 3), (moves, 4),
    ((match d.cfg.phase with | .writing | .pending => true | _ => false) || d.ndl.partnerPending.isSome, 5), (d.pair.takeFail, 7)]

/-- A take is asked for at a cut: a failed check gives command back at any cut; else a due or requested take on a second boundary. The answer says whether the cut part carries the flag [15 R455 R457]. (log 79) -/
def takeAtCut (second : Bool) (r : Regs) (d : Dev) : Dev × Bool :=
  if !(d.isPrimary) then (modPair (fun x => { x with takeNow := x.takeNow && !second }) d, false)
  else if d.pair.checkBad then
    let d := modPair (fun x => { x with
      take := some { giveBack := true, seq := d.fus.seq }, checkLeft := 0, checkBad := false, takeFail := true }) d
    (record r .pairTakeFail { p0 := d.pair.unitId } (raise 0x27 5 d), d.linkUp)
  else if !second then (d, false)
  else
    let due := r.bit F.PAIR_CFG_TAKE_EN && decide (d.pair.nextTake ≤ d.tb3)
    let want := due || d.pair.takeNow
    let code := deferCode d
    let d := modPair (fun x => { x with due := due, takeNow := false }) d
    if !want then (modPair (fun x => { x with defer := 0 }) d, false)
    else if code ≠ 0 then (modPair (fun x => { x with defer := code }) d, false)
    else (modPair (fun x => { x with defer := 0, take := some { seq := d.fus.seq } }) d, true)

/-- The cycles of the check run down at each cut on both units [15 R457]. (log 79) -/
def checkDown (d : Dev) : Dev :=
  match d.pair.take with
  | some t => if t.handed then modPair (fun x => { x with checkLeft := x.checkLeft - 1 }) d else d
  | none => d

/-- TAKE_ACK: within 20 µs of the cut that carried the flag [15 R455]. (log 79) -/
def takeAck (_ : Regs) (d : Dev) : Dev :=
  match d.pair.take with
  | some t =>
    if !t.gaining && !t.handed && d.linkUp && decide (d.now ≤ d.mde.cyc.cutTick + ticksUs 20) then
      modPair (fun x => { x with take := some { t with acked := true } }) d
    else d
  | none => d

/-- TAKE_ACK [15 R455]. -/
def execTakeAck (s : State) : Host.Outcome State Fault Refusal := onDev s takeAck

/-- The old primary at D: it stops commanding, holds its DAC and PWM outputs for RELAY_MS, and sends the state of its channels [15 R456]. (log 79) -/
def giveByTake (t : TakeSt) (r : Regs) (d : Dev) : Dev :=
  let endAt := d.now + ticksUs 2 + ticksMs (r.get F.PAIR_CFG_RELAY_MS)
  let d := foldN 32 (fun n d => if aouEnabled r d n && !((d.anOut n).fail) then modAou n (fun a => { a with relayHold := some endAt }) d else d) d
  let d := ndlSend .takeLoops ((d.lop.ch.map fun (c : LoopCh) => [c.u.nat, c.i.nat, c.d.nat, c.re.nat]).flatten) d
  let d := modPair (fun x => { x with
    outputs := false, awaitHandover := false, relayEnd := some endAt, take := if t.giveBack then none else some { t with handed := true }
    checkLeft := if t.giveBack then 0 else r.get F.PAIR_CFG_TAKE_CHECK, takeLoops := d.lop.ch }) d
  let d := pairTo r d.standbyState 6 { d with ndl := { d.ndl with partnerCommands := true } }
  failAll r (setRole false d)

/-- The new primary at D: it takes command, and its first handover is this cycle's [15 R446 R456]. (log 79) -/
def gainByTake (t : TakeSt) (r : Regs) (d : Dev) : Dev :=
  let d := takeCommand r 6 d
  modPair (fun x => { x with
    take := if x.awaitHandover then some { t with handed := true } else none, checkBad := false
    checkLeft := if t.giveBack then 0 else r.get F.PAIR_CFG_TAKE_CHECK }) { d with ndl := { d.ndl with partnerCommands := false } }

/-- A take at the deadline of its cycle; without TAKE_ACK it is not made [15 R455 R456]. (log 79) -/
def takeAtDeadline (r : Regs) (d : Dev) : Dev :=
  match d.pair.take with
  | some t =>
    if t.handed || t.seq != (if t.gaining then d.pair.seqOwn else d.fus.seq) then d
    else if t.gaining then (if d.stbyLinked then gainByTake t r d else modPair (fun x => { x with take := none }) d)
    else if t.acked && d.isPrimary then giveByTake t r d
    else modPair (fun x => { x with take := none, defer := 6 }) d
  | none => d

/-- TAKE_LOOPS: the new primary enables its outputs with the state of each channel [15 R440 R446 R456]. (log 79) -/
def takeLoops (loops : List LoopCh) (r : Regs) (d : Dev) : Dev :=
  match d.pair.take with
  | some t =>
    if t.gaining && t.handed && d.linkUp && d.pair.awaitHandover then
      enableFirst r loops (modPair (fun x => { x with takeLoops := loops, take := if t.giveBack then none else x.take }) d)
    else d
  | none => d

/-- TAKE_LOOPS [15 R456]. -/
def execTakeLoops (loops : List LoopCh) (s : State) : Host.Outcome State Fault Refusal := onDev s (takeLoops loops)

/-- TAKE_CHECK_END: the cycles of the check are over and it has passed; both units count the take. A failed check gives command back at the next cut [15 R456 R457]. (log 79) -/
def takeCheckEnd (r : Regs) (d : Dev) : Dev :=
  match d.pair.take with
  | some t =>
    if t.handed && d.pair.checkLeft == 0 && !(d.pair.checkBad) then
      let d := modLife (fun l => { l with takes := satInc 32 l.takes }) (modPair (fun x => { x with
        take := none, due := false, takes := wrapInc 16 x.takes }) d)
      raise 0x27 4 (nextTakeFromNow r d)
    else d
  | none => d

/-- TAKE_CHECK_END [15 R457]. -/
def execTakeCheckEnd (s : State) : Host.Outcome State Fault Refusal := onDev s takeCheckEnd

end Sys2Proof.Machine
end

