-- ==== Sys2Proof/Machine/Cycle.lean ====
section
/-! DEFINITION. The control cycle: the cut, the State output and the deadline, each in the order the spec gives [01 R15 to R31, 08 R254 to R257, 09 R279, 17 R505]. -/

namespace Sys2Proof.Machine

/-! ### Instants of the cycle [01 R15 R29 R30] -/

/-- A cut is due: TB0 has reached its instant [01 R15]. (log 56) -/
def cutIsDue (d : Dev) : Bool :=
  let c := d.mde.cyc
  d.running && (c.running || c.firstPending) && decide (c.nextCut ≤ d.tb0)

/-- What begins afresh at a cut: the cycle's flags, the solve of the cycle before, and what its jobs lost. -/
def beginCycle (d : Dev) : Dev :=
  let d := modCyc (fun c => { c with
    cutTick := d.now, cutTb0 := d.tb0, stateOut := false, deadlineDone := false, setTaken := false, subDone := 1, cutNo := c.cutNo + 1 }) d
  let d := modSlv (fun s => { s with stage := .idle, ran := false, result := none }) d
  let d := (List.range 15).foldl (fun d j => if j = 4 then d else modJob j (fun x => { x with lost := false }) d) d
  { d with fus := { d.fus with seq := wrapInc 32 d.fus.seq } }

/-- The next cut: a period on, and in a realignment at most 0.01 T more or less; each end of a realignment is marked [01 R29 R30]. (log 53) -/
def nextCutAt (r : Regs) (at_ : Nat) (d : Dev) : Dev :=
  let c := d.mde.cyc
  let lim : Int := (c.periodNs / 100 : Nat)
  let s := max (-lim) (min lim c.realignLeft)
  let on := c.realignLeft != 0
  let d := modCyc (fun c => { c with realignLeft := c.realignLeft - s, realign := on, nextCut := (((at_ + c.periodNs : Nat) : Int) + s).toNat }) d
  if on == c.realign then d else record r .cutRealign { p0 := b2n on } (raise 5 6 d)

/-! ### Settings and modes of a cut [01 R18, 03 R70] -/

/-- The commits of the cut's pages come into force together; the keys that they held [02 R34, 19 R560]. (log 58) -/
def commitsCut (r : Regs) : Regs × List (Nat × Nat) :=
  cutPages.foldl (fun (x : Regs × List (Nat × Nat)) p =>
    let (r, l) := applyCommit x.1 p fun _ => true
    (r, x.2 ++ l)) (r, [])

/-- Modes at a cut; the generator of a unit that does not command takes its targets from the cut part alone [03 R70, 15 R449]. -/
def modesAtCut (keys : List (Nat × Nat)) (r : Regs) (d : Dev) : Regs × Dev :=
  let (r, e) := modesCut keys r d
  let p := d.mde.prof
  (r, if d.commands then e else modProf (fun x => { x with newLin := p.newLin, newHdg := p.newHdg, stop := p.stop }) e)

/-- Step 2 of R18: the cut-in, the commits, a mode transition, and what the thrusters bring. The answer says whether an image cut in. -/
def settingsCut (second : Bool) (r : Regs) (d : Dev) : Regs × Dev × Bool :=
  let (r, d, cutin) := if d.cutInWaits then (r, d, false) else cutInAtCut second r d
  let (r, keys) := commitsCut r
  let (r, d) := originAtCut r keys d
  let (r, d) := modesAtCut keys r (availCut r d)
  (r, { d with cfg := { d.cfg with cutDiff := [] } }, cutin)

/-! ### Lifetime counters [17 R505] -/

/-- Whole units in an amount, and what is left of it. -/
def wholeUnits (unit x : F64) : Nat × F64 :=
  let n := (x.div unit).floor.toNat
  (n, x.sub (unit.mul (F64.ofInt n)))

/-- A counter advanced without wrapping. -/
def satAdd (n c k : Nat) : Nat := min (c + k) (2 ^ n - 1)

/-- The counters of one thruster at a cut. (log 52) -/
def countThr (r : Regs) (d : Dev) (i : Nat) : Dev :=
  let t := d.thrD i
  let ready := thrReady r d i
  let was := at' d.lif.readyWas i
  let az := measuredAz r d i
  let turned := if t.kind = 1 || t.kind = 2 then (match at' d.lif.azWas i with | some a => (wrapPi (az.sub a)).abs | none => F64.zero) else F64.zero
  let q := ((measuredForce r d i).mag).div (d.limD i).fMaxPos.to64
  let work := (t.pRated.to64.mul (q.mul q.sqrt)).mul d.cycleSec
  let d := { d with lif := { d.lif with readyWas := modAt d.lif.readyWas i fun _ => ready, azWas := modAt d.lif.azWas i fun _ => some az } }
  modLife (fun l => { l with thr := modAt l.thr i fun c =>
    let ns := if ready then c.runFrac + d.mde.cyc.periodNs else c.runFrac
    let (na, fa) := wholeUnits (F64.pi.div (F64.ofInt 8)) (c.azFrac.add turned)
    let (ne, fe) := wholeUnits (F64.ofInt 3600000) (c.energyFrac.add work)
    { run := satAdd 32 c.run (ns / nsPerSec), runFrac := ns % nsPerSec, starts := if ready && !was then satInc 32 c.starts else c.starts
      az := satAdd 32 c.az na, azFrac := fa, energy := satAdd 32 c.energy ne, energyFrac := fe } }) d

/-- The thruster counters at a cut, in every role. (log 52) -/
def countersCut (r : Regs) (d : Dev) : Dev := d.thrIds.foldl (countThr r) d

/-! ### The cut [01 R18] -/

/-- A PLL of the fabric or the tiles has been unlocked for more than one cycle [03 R67]. -/
def pllGone (d : Dev) : Bool :=
  [0, 1].any fun p => !(d.clk.lock.testBit p) && match at' d.clk.lostAt p with | some t => decide (t + d.mde.cyc.periodNs / 4 < d.now) | none => false

/-- The frames of a cut: time and cut part, in a pair with the link up [15 R437 R449]. -/
def framesCut (p : CutPart) (d : Dev) : Dev :=
  if d.isPrimary && d.linkUp then
    sendCutPart p (ndlSend .time [d.tb0, d.ndl.t4] { d with ndl := { d.ndl with t1 := d.tb0 } })
  else d

/-- The work that a cut starts: thrusters and span, placement, fusion with its reruns, and appendage sub-cycle 0 [01 R16 R18]. (log 53, 58, 102) -/
def workCut (cutin second : Bool) (r : Regs) (d : Dev) : Dev :=
  let d := placeAtCut cutin second r d
  let d := spanCut r (azimuthsCut r (aheadCut r d))
  let d := canAtCut (countersCut r (keepData (fusionCut r d)))
  if d.running && d.mde.mode == .transfer then appSub r 0 d else d

/-- CUT: the steps of R18 at a cut that is due. (log 56) -/
def cut (r : Regs) (d : Dev) : Regs × Dev :=
  if !(cutIsDue d) then (r, d)
  else if pllGone d then (r, safeHold r 4 d)
  else
    let at_ := d.mde.cyc.nextCut
    let second := at_ % nsPerSec == 0
    let (r, d) := if d.mde.cyc.firstPending then firstCutAfterWake r d else (r, d)
    let was := d
    let d := standbyCut r (beginCycle d)
    let (r, d, cutin) := settingsCut second r d
    let (r, d) := appMoves r d
    let (d, take) := takeAtCut second r d
    let d := framesCut (cutPartNow r was cutin take (checkDown d)) (checkDown d)
    let d := groutAtCut (if d.mde.mode == .dormant then enterDormant r (countersCut r (keepData d)) else workCut cutin second r d)
    (r, if d.mde.cyc.running then nextCutAt r at_ d else d)

/-- CUT [01 R18]. (log 53) -/
def execCut (s : State) : Host.Outcome State Fault Refusal := onRegs s cut

/-! ### State output [01 R20 R21] -/

/-- A unit that took command on old commands stops, or demands no force [15 R446]. (log 55, 63) -/
def staleStep (r : Regs) (d : Dev) : Regs × Dev :=
  if !d.pair.stale then (r, d)
  else
    let d := modPair (fun x => { x with stale := false }) d
    match d.mde.mode with
    | .autopos | .follow | .transfer => (r, modProf (fun x => { x with stop := true }) d)
    | .joystick => (joyZero [] r, d)
    | _ => (r, d)

/-- What the profile generator starts from: the low-frequency estimate over ground, or that of the followed object's frame [03 R84]. -/
def profStart (d : Dev) : ProfStart :=
  let x := ownLf d
  let (vn, ve) := toEarth (vc x 2) (vc x 3) (vc x 4)
  if d.mde.mode != .follow then { n := vc x 0, e := vc x 1, vn := vn, ve := ve, h := vc x 2, w := vc x 5 }
  else
    let o := tgtNow d d.mde.followObj
    let (a, b) := toBody (vc o 2) ((vc x 0).sub (vc o 0)) ((vc x 1).sub (vc o 1))
    let (va, vb) := toBody (vc o 2) (vn.sub (vc o 3)) (ve.sub (vc o 4))
    let w := vc o 5
    { n := a, e := b, vn := va.add (w.mul b), ve := vb.sub (w.mul a), h := wrapPi ((vc x 2).sub (vc o 2)), w := (vc x 5).sub w }

/-- The control work of a cycle of a thrust mode, from the State record on [01 R21, 08 R251 R252, 09 R260]. -/
def controlWork (r : Regs) (d : Dev) : Dev :=
  let (e, ed) := errorsNow d
  fbJob r e ed (solveStart r (errFlags r e d))

/-- STATE_OUTPUT: at 0.15 T the State records, then the profile step, the solve's start and the fall-back job [01 R16 R20 R21]. (log 55) -/
def stateOutput (r : Regs) (d : Dev) : Regs × Dev :=
  let c := d.mde.cyc
  if !(d.running && c.running) || c.stateOut || decide (d.now < c.cutTick + 15 * d.centT) then (r, d)
  else
    let (r, d) := staleStep r d
    let d := windStep r (fusionOutput r d)
    let d := if d.profiles then profStep r (profStart d) d else d
    (r, modCyc (fun c => { c with stateOut := true }) (if d.mde.mode.thrust then controlWork r d else d))

/-- STATE_OUTPUT [01 R20]. -/
def execStateOutput (s : State) : Host.Outcome State Fault Refusal := onRegs s stateOutput

/-! ### The deadline [08 R254 to R256, 09 R279] -/

/-- The outcome of a cycle counts towards a change of controller [08 R255 R256]. -/
def countOutcome (outcome : Nat) (r : Regs) (d : Dev) : Dev :=
  let c := d.ctl
  let shift := if outcome = 3 then min 3 (c.shiftRun + 1) else 0
  let solved := if !c.fallback || outcome = 3 then 0 else min 2 (c.solvedRun + 1)
  let d := modCtl (fun c => { c with shiftRun := shift, solvedRun := solved }) d
  if !c.fallback && shift == 3 then
    record r .fallback { p0 := 1 } (raise 0xA 0 (modCtl (fun c => { c with fallback := true, fbEntries := wrapInc 16 c.fbEntries }) d))
  else if c.fallback && solved == 2 then record r .fallback {} (raise 0xA 1 (modCtl (fun c => { c with fallback := false }) d))
  else d

/-- The forces to hand over: the fall-back output while it is in control, f₋₁ where its job gave none, else step 0 of the solution taken [08 R249 R255]. (log 55) -/
def forcesToHand (s : Solution) (d : Dev) (i : Nat) : Force :=
  if d.ctl.fallback then (if d.ctl.fbValid then at' d.ctl.fbForce i else (d.thr i).fPrev) else at' (at' s.steps 0) i

/-- The handover of a thrust mode [08 R249 R254, 09 R282]. (log 52) -/
def handThrust (r : Regs) (s : Solution) (d : Dev) : Dev :=
  let f := forcesToHand s d
  let d := d.thrIds.foldl (fun d i => azFeed r s d i) d
  let ff := fun (i : Nat) => at' d.slv.azTau i
  let d := handed r (d.thrIds.foldl (handForce r f ff) d)
  capability (if d.ctl.fallback || !d.ctl.fbValid then d else setIntegrators r d)

/-- The handover of MANUAL [08 R233]. -/
def handManual (r : Regs) (d : Dev) : Dev :=
  handed r (d.thrIds.foldl (fun d i => handThr r i (leverSet r d i) F32.zero d) d)

/-- A take just made, whose channel states are still to come [15 R456]. (log 55) -/
def takeFresh (d : Dev) : Bool :=
  match d.pair.take with
  | some t => t.gaining && t.handed && t.seq == d.pair.seqOwn
  | none => false

/-- The first handover of a unit that took command enables its outputs [15 R446]. -/
def firstHandover (r : Regs) (d : Dev) : Dev :=
  if d.pair.awaitHandover && !(takeFresh d) then
    enableFirst r (match d.pair.set with | some s => s.loops | none => []) d
  else d

/-- What a deadline hands over in the mode in force; a unit that gave command away at it hands nothing [03 R69, 07 R203]. (log 55, 80) -/
def handover (gave : Bool) (r : Regs) (d : Dev) : Dev :=
  match d.mde.mode with
  | .joystick | .autopos | .follow | .transfer =>
    let (outcome, reason, s, d) := deadlineOutcome r d
    let d := countOutcome outcome r (takeOutcome r outcome reason s d)
    if gave then d else handThrust r s d
  | .manual => if gave then d else handManual r d
  | _ => setInputs { thr := wrenchOf d (measuredForce r d), wind := d.ctl.wind } d

/-- DEADLINE: at D the outcome is decided and the handover made, which renews the heartbeat permit [01 R16 R22, 09 R279, 15 R438]. (log 55) -/
def deadline (r : Regs) (d : Dev) : Dev :=
  let c := d.mde.cyc
  if !(d.running && c.running) || c.deadlineDone || decide (d.now < c.cutTick + r.get F.CTL_DEADLINE_D * d.centT) then d
  else
    let d := modPair (fun x => { x with permit := some d.now }) d
    let e := takeAtDeadline r d
    modCyc (fun c => { c with deadlineDone := true }) (handover (d.isPrimary && !(e.isPrimary)) r (firstHandover r e))

/-- DEADLINE [09 R279]. -/
def execDeadline (s : State) : Host.Outcome State Fault Refusal := onDev s deadline

end Sys2Proof.Machine
end

