-- ==== Sys2Proof/Machine/Flags.lean ====
section
/-! DEFINITION. The interrupt flags as the host clears, forces and acknowledges them [19 R563 R566]; an event raises its flag by `raise` of Ops, and what becomes pending sends its message in `settle`. -/

namespace Sys2Proof.Machine

/-- IRQ_STAT_CLEAR [19 R563]. -/
def execIrqStatClear (page v : Nat) (s : State) : Host.Outcome State Fault Refusal :=
  hostPage page (devS fun _ d => irqClear page v d) s

/-- IRQ_FORCE [19 R563]. -/
def execIrqForce (page v : Nat) (s : State) : Host.Outcome State Fault Refusal :=
  hostPage page (devS fun _ d => irqForceBits page v d) s

/-- IRQ_EOI: the message of a vector that is still pending goes out again [19 R566]. -/
def execIrqEoi (v : Nat) (s : State) : Host.Outcome State Fault Refusal :=
  hostPage 3 (devS fun r d => if (vecPend r d).testBit (v % 32) then sendVec (v % 32) d else d) s

end Sys2Proof.Machine
end

