-- ==== Sys2Proof/Machine/GnssSol.lean ====
section
/-! DEFINITION. Satellite solutions: position, RTK, attitude, the measured offset and navigation data of GNS1, and the refresh of the asleep level [05 R137 to R151, R161 to R163]. -/

namespace Sys2Proof.Machine

/-! ### Antennas and observations -/

/-- Paths of antenna `a`: 0 own A, 1 own B, 2 partner A, 3 partner B [05 R142]. -/
def antPaths (a : Nat) : List Nat := [2 * a, 2 * a + 1]

/-- An antenna without a faulted path: an own one whose enabled paths are up, or a partner one whose blocks arrive [05 R142]. (log 87) -/
def antOk (r : Regs) (d : Dev) (a : Nat) : Bool :=
  if a < 2 then pathUp r d (2 * a) && (!(pathEnabled r d (2 * a + 1)) || pathUp r d (2 * a + 1)) else pathUp r d (2 * a)

/-- The antenna of the position [05 R142]. -/
def posAnt (r : Regs) (d : Dev) : Option Nat :=
  (List.range 4).find? fun a => antOk r d a && (decide (a < 2) || r.bit F.GNS1_SOL_CFG_XTRK_USE)

/-- Unit and antenna, by UNIT_ID, of an antenna number [05 R586]. -/
def antPlace (d : Dev) (a : Nat) : Nat × Nat := (if a < 2 then d.pair.unitId else 1 - d.pair.unitId, a % 2)

/-- The observation that a channel's measurement gives: code in FLL or PLL, carrier in PLL with HALF_CYC [05 R138]. -/
def obsOf (r : Regs) (d : Dev) (m : SatMeas) : Option SatObs :=
  let c := d.chan m.chn
  if c.tracking && c.codeInval == 0 && (r.f32 F.GNS0_ELEV_MASK_MASK).le m.elev then
    some { sig := c.sig, sv := c.sv, path := c.path, cn0 := c.cn0, elev := m.elev, code := m.code,
           carrier := if c.st == .pll && c.halfCyc then some m.carrier else none, dopp := m.dopp }
  else none

/-- Satellites of a list of observations. -/
def satsOf (l : List SatObs) : List (Nat × Nat) := (l.map fun (o : SatObs) => (sigSys o.sig, o.sv)).eraseDups

/-- Systems other than GPS that have measurements and an offset of their own [05 R139]. -/
def offsetSystems (l : List SatObs) : List Nat := [1, 2, 3, 4].filter fun s => l.any fun o => sigSys o.sig == s

/-- Systems whose broadcast offset is used as a prior [05 R139]. -/
def priorsOf (r : Regs) (d : Dev) : List (Nat × F32) :=
  if r.bit F.GNS1_SOL_CFG_ISB_PRIOR_USE then
    [1, 2, 3, 4].filterMap fun s => (at' d.gns1.isbBcast s).map fun v => (s, v)
  else []

/-- Systems with a free offset [05 R139]. -/
def freeSystems (priors : List (Nat × F32)) (l : List SatObs) : List Nat :=
  (offsetSystems l).filter fun s => !(priors.any fun p => p.1 == s)

/-- Without the systems whose free offset has fewer than two satellites [05 R139]. -/
def contributing (priors : List (Nat × F32)) (l : List SatObs) : List SatObs :=
  let bad := (freeSystems priors l).filter fun s => decide (((satsOf l).filter fun (e : Nat × Nat) => e.1 == s).length < 2)
  l.filter fun (o : SatObs) => !(bad.contains (sigSys o.sig))

/-- Satellites enough for the unknowns [05 R141]. -/
def enough (priors : List (Nat × F32)) (l : List SatObs) : Bool :=
  decide (4 + (freeSystems priors l).length ≤ (satsOf l).length)

/-- An observation has its satellite's other band on the same antenna [05 R138]. -/
def hasDual (l : List SatObs) : Bool :=
  l.any fun (a : SatObs) => l.any fun (b : SatObs) => sigSys a.sig == sigSys b.sig && a.sv == b.sv && sigLower a.sig && !(sigLower b.sig)

/-- The passes of an epoch: the worst measurement is excluded while its residual exceeds the threshold, at most `n` times; none when the last pass still holds one [05 R140]. -/
def passes (free : Nat) (thr : F32) (mk : List SatObs → PassIn) (ok : List SatObs → Bool) (cut : List SatObs → List SatObs) :
    Nat → Nat → List SatObs → Option (PassOut × List SatObs × Nat)
  | n, excl, l =>
    if !(ok l) then none
    else
      let o := Config.gnssPass free (mk l)
      if !(thr.lt o.resid) then some (o, l, excl)
      else
        match n with
        | 0 => none
        | n + 1 => passes free thr mk ok cut n (excl + 1) (cut (l.eraseIdx (o.worst % (max 1 l.length))))

/-! ### RTK -/

/-- Age of the corrections, ns of TB0. (log 87) -/
def corrAge (d : Dev) : Option Nat := d.gns1.rtk.msmAt.map fun t => d.tb0 - t

/-- RTK solutions are formed: enabled, a station position held, and the newest MSM epoch no older than AGE_MAX [05 R144]. -/
def rtkOn (r : Regs) (d : Dev) : Bool :=
  r.bit F.GNS1_RTK_CFG_RTK_EN && d.gns1.rtk.pos &&
    (match corrAge d with | some a => decide (a ≤ r.get F.GNS1_RTK_CFG_AGE_MAX * nsPerSec) | none => false)

/-- The ambiguity state after an RTK epoch [05 R145]. -/
def rtkEpoch (r : Regs) (o : PassOut) (slips : Nat) (k : RtkSt) : RtkSt :=
  let ok := (F32.ofRatio (r.get F.GNS1_RTK_CFG_RATIO_THR : Nat) 10).le o.ratio
  let good := if ok then min 5 (k.good + 1) else 0
  let bad := if ok then 0 else min 2 (k.bad + 1)
  let drop := k.fixed && (decide (2 ≤ bad) || decide (k.fixN < 2 * slips))
  let fixed := if k.fixed then !drop else decide (5 ≤ good)
  { k with running := true, fixed := fixed, good := if drop then 0 else good, bad := if drop then 0 else bad, fixN := if fixed then o.fixN else 0, stale := false }

/-- RTK without corrections in force: no ambiguities are held, and CORR_STALE is raised once when the age has passed [05 R144]. -/
def rtkOff (r : Regs) (d : Dev) : Dev :=
  let k := d.gns1.rtk
  let old := r.bit F.GNS1_RTK_CFG_RTK_EN && k.running && k.msmAt.isSome
  let d := { d with gns1 := { d.gns1 with rtk := { k with running := false, fixed := false, good := 0, bad := 0, fixN := 0, stale := k.stale || old } } }
  raiseIf (old && !(k.stale)) 0xD 4 d

/-! ### The POS record -/

/-- POS record of a solution [05 R151]. -/
def posBytes (o : PassOut) (type nsv ant flags excl epoch age station : Nat) : List Byte :=
  leBytes 1 1 ++ leBytes 1 type ++ leBytes 1 nsv ++ leBytes 1 ant ++ leBytes 1 flags ++ leBytes 1 excl ++ leBytes 2 o.pdop ++ leBytes 8 epoch
    ++ leBytes 8 o.lat.nat ++ leBytes 8 o.lon.nat ++ leBytes 4 o.hgt.nat ++ leBytes 4 o.vn.nat ++ leBytes 4 o.ve.nat ++ leBytes 4 o.vd.nat
    ++ leBytes 4 o.sigN.nat ++ leBytes 4 o.sigE.nat ++ leBytes 4 o.sigD.nat ++ leBytes 2 age ++ leBytes 2 station

/-- The sixteen words of a record. -/
def recWords (b : List Byte) : List Word := (List.range 16).map fun i => BitVec.ofNat 32 (leAt b (4 * i) 4)

/-- A solution reaches every internal source of a format [05 R151]. Their quality byte is open (log 5). (log 88) -/
def toSources (r : Regs) (fmt epoch : Nat) (vals : List Word) (ant : Option (Nat × Nat)) (sigma : F32) (d : Dev) : Dev :=
  d.descr.sources.foldl (fun d s =>
    if s.portKind == 5 && s.format == fmt then
      srcDeliver r { src := s.id, arrival := d.tb0, stamp := epoch, values := vals, qual := Config.freeNat d.free 0x05151, flags := 1, ant := ant, posSigma := sigma } d.takeFree
    else d) d

/-- √(SIG_N² + SIG_E²)/√2 of a solution [07 R219]. -/
def posSigmaOf (o : PassOut) : F32 :=
  ((((o.sigN.to64.mul o.sigN.to64).add (o.sigE.to64.mul o.sigE.to64)).sqrt).div F64.two.sqrt).to32

/-- A change of the solution type with its interrupts [05 R165]. -/
def setType (t : Nat) (d : Dev) : Dev :=
  let old := d.gns1.type
  let d := { d with gns1 := { d.gns1 with type := t } }
  let d := raiseIf (old == 0 && t != 0) 0xD 0 d
  let d := raiseIf (old != 0 && t == 0) 0xD 1 d
  let d := raiseIf (old != 4 && t == 4) 0xD 2 d
  raiseIf (old == 4 && t != 4) 0xD 3 d

/-- Cable and front-end delay of an antenna, ns [05 R586]. -/
def antDelay (r : Regs) (p : Nat × Nat) : Nat :=
  match p with
  | (0, 0) => r.get F.GNS2_ANT_DELAY_DELAY_U0A
  | (0, _) => r.get F.GNS2_ANT_DELAY_DELAY_U0B
  | (_, 0) => r.get F.GNS2_ANT_DELAY2_DELAY_U1A
  | (_, _) => r.get F.GNS2_ANT_DELAY2_DELAY_U1B

/-- No position in this epoch [05 R141]. (log 87) -/
def noSolution (excl : Nat) (d : Dev) : Dev :=
  setType 0 { d with gns1 := { d.gns1 with nsv := 0, excl := excl, isbEst := 0, rtk := { d.gns1.rtk with good := 0 } } }

/-- A position solution is taken up: type, record, sources and measured offset [05 R139 to R145, R151, R586]. (log 87) -/
def takeSolution (r : Regs) (ant : Nat) (m : SolMeas) (rtk : Bool) (priors : List (Nat × F32)) (o : PassOut) (l : List SatObs) (excl : Nat) (d : Dev) : Dev :=
  let d := if rtk then { d with gns1 := { d.gns1 with rtk := rtkEpoch r o m.slips d.gns1.rtk } } else rtkOff r d
  let type := if rtk then (if d.gns1.rtk.fixed then 4 else 3)
    else if r.bit F.GNS1_SOL_CFG_SBAS_CORR && m.sbas && l.any (fun (o : SatObs) => o.sig == 0) then 2 else 1
  let nsv := (satsOf l).length
  let used := priors.filter fun (p : Nat × F32) => (offsetSystems l).contains p.1
  let flags := b2n (r.bit F.GNS1_SOL_CFG_DUAL_FREQ && hasDual l) + 2 * b2n (decide (2 ≤ ant)) + 4 * b2n (decide (excl ≠ 0)) + 8 * b2n (!used.isEmpty)
  let age := if rtk then (match corrAge d with | some a => min 0xFFFE (a / 100000000) | none => 0xFFFF) else 0xFFFF
  let station := if rtk then d.gns1.rtk.station else 0xFFFF
  let est := (offsetSystems l).foldl (fun v s => setBit v s true) 0
  let d := { d with gns1 := { d.gns1 with
    ant := ant, nsv := nsv, excl := excl, isbEst := est
    isb := mapI (fun s v => if (offsetSystems l).contains s then o.isb.getD s F32.zero else v) d.gns1.isb
    posRec := recWords (posBytes o type nsv ant flags excl m.at_ age station) } }
  let d := setType type d
  let d := toSources r 1 m.at_ (f64Words o.lat ++ f64Words o.lon ++ [o.hgt.bits]) (some (antPlace d ant)) (posSigmaOf o) d
  if srvSrc r d 0 = 1 then tb0Offset r (o.clk - 1000 * (antDelay r (antPlace d ant) : Int)) d else d

/-- The position of an epoch [05 R137 to R145]. -/
def positionEpoch (r : Regs) (m : SolMeas) (d : Dev) : Dev :=
  match posAnt r d with
  | none => noSolution 0 d
  | some a =>
    let priors := priorsOf r d
    let obs := contributing priors ((m.meas.filterMap (obsOf r d)).filter fun (o : SatObs) => (antPaths a).contains o.path)
    let rtk := rtkOn r d
    let mk := fun (l : List SatObs) => ({
      obs := l, dual := r.bit F.GNS1_SOL_CFG_DUAL_FREQ, sbas := r.bit F.GNS1_SOL_CFG_SBAS_CORR && m.sbas && !rtk, priors := priors,
      priorSigma := r.get F.GNS1_ISB_SIGMA_SIGMA, iono := d.gns1.iono,
      rtk := if rtk then some (d.gns1.rtk.base, d.gns1.rtk.msm) else none } : PassIn)
    let thr := F32.ofRatio (r.get F.GNS1_SOL_CFG_RESID_THR : Nat) 10
    let n := r.get F.GNS1_SOL_CFG_MAX_EXCL
    match passes d.free thr mk (enough priors) (contributing priors) n 0 obs with
    | none =>
      let d := if rtk then d else rtkOff r d
      noSolution 0 d.takeFree
    | some (o, l, excl) => raiseIf (decide (excl ≠ 0)) 0xD 7 (takeSolution r a m rtk priors o l excl d.takeFree)

/-! ### Attitude -/

/-- Satellites tracked in PLL with HALF_CYC on the upper band of an antenna [05 R146]. (log 87) -/
def attSats (d : Dev) (l : List SatObs) (a : Nat) : List (Nat × Nat) :=
  satsOf (l.filter fun (o : SatObs) => o.path == 2 * a && o.carrier.isSome && antHas d a)
where
  /-- The antenna has a SENSOR record, and so a lever arm. -/
  antHas (d : Dev) (a : Nat) : Bool := (d.antennaOf (antPlace d a).1 (antPlace d a).2).isSome

/-- Satellites common to two lists. -/
def common (a b : List (Nat × Nat)) : List (Nat × Nat) := a.filter b.contains

/-- The antennas fixed with a reference [05 R146]. -/
def fixedWith (sats : Nat → List (Nat × Nat)) (min : Nat) (ok : List Nat) (ref : Nat) : List Nat :=
  ref :: ok.filter fun a => a != ref && decide (min ≤ (common (sats ref) (sats a)).length)

/-- The largest set of fixed antennas, its reference first; the lowest reference of equal ones [05 R147]. (log 87) -/
def bestSet (sats : Nat → List (Nat × Nat)) (min : Nat) (ok : List Nat) : List Nat :=
  ok.foldl (fun b ref => let s := fixedWith sats min ok ref; if b.length < s.length ∧ 2 ≤ s.length then s else b) []

/-- Lever arm of an antenna. -/
def antArm (d : Dev) (a : Nat) : V3 := (d.antenna (antPlace d a).1 (antPlace d a).2).arm

/-- Antennas of a list that do not stand on one line. -/
def notInLine (d : Dev) (l : List Nat) : Bool :=
  match l with
  | a :: b :: t => t.any fun c => !((((antArm d b).sub (antArm d a)).cross ((antArm d c).sub (antArm d a))).norm).isZero
  | _ => false

/-- Attitude mode of a set of fixed antennas [05 R147]. -/
def attModeOf (d : Dev) (l : List Nat) : Nat :=
  if l.length < 2 then 0 else if l.length = 2 || !(notInLine d l) then 1 else if l.length = 3 then 2 else 3

/-- Differences of lever arms over all pairs of a set. -/
def pairArms (d : Dev) (l : List Nat) : List V3 := l.flatMap fun a => (l.filter fun b => decide (a < b)).map fun b => (antArm d b).sub (antArm d a)

/-- Longest component by `f` of the fixed baselines. -/
def longest (f : V3 → F64) (l : List V3) : F64 := l.foldl (fun m v => F64.max m (f v)) F64.zero

/-- 0.1°·m / L [05 R148]. -/
def sigmaOf (l : F64) : F32 := ((radOfDeg (frac 1 10)).div l).to32

/-- The figures of R148 apply as far as the device can tell: eight satellites, no jamming on an own path in use, PDOP at most 2.5 [05 R150]. -/
def figuresHold (r : Regs) (d : Dev) (pdop : Nat) : Bool :=
  decide (8 ≤ d.gns1.nsv) && decide (pdop ≤ 250) && (List.range 4).all fun p => !(pathEnabled r d p) || decide ((d.path p).ji = 0)

/-- ATT record [05 R151]. -/
def attBytes (mode nsv ants epoch : Nat) (v : List F32) (base diff : F32) : List Byte :=
  leBytes 1 2 ++ leBytes 1 mode ++ leBytes 1 nsv ++ leBytes 1 ants ++ leBytes 4 0 ++ leBytes 8 epoch ++ (v.flatMap fun x => leBytes 4 x.nat)
    ++ leBytes 4 base.nat ++ leBytes 4 diff.nat ++ List.replicate 16 0

/-- A mode of attitude with ATT_CHANGE at a change [05 R147]. -/
def setAttMode (m : Nat) (d : Dev) : Dev :=
  raiseIf (d.gns1.attMode != m) 0xD 5 { d with gns1 := { d.gns1 with attMode := m } }

/-- No attitude in this epoch. -/
def noAttitude (d : Dev) : Dev := setAttMode 0 { d with gns1 := { d.gns1 with ants := 0, attNsv := 0 } }

/-- The attitude of an epoch [05 R146 R147 R148]. -/
def attitudeEpoch (r : Regs) (m : SolMeas) (d : Dev) : Dev :=
  let l := m.meas.filterMap (obsOf r d)
  let ok := (List.range 4).filter (antOk r d)
  let sats := attSats d l
  let tried := bestSet sats (r.get F.GNS1_HDG_CFG_FIX_MIN_SV) ok
  match tried with
  | [] => noAttitude d
  | ref :: _ =>
    let x : AttIn := { ants := tried.map fun a => (a, (antArm d a).x, (antArm d a).y, (antArm d a).z), obs := l.filter fun (o : SatObs) => o.carrier.isSome && !(sigLower o.sig) }
    let o := Config.attFix d.free x
    let tol := F32.ofRatio (r.get F.GNS1_HDG_CFG_BASE_TOL : Nat) 100
    let bad := (tried.zipIdx).filter fun (e : Nat × Nat) =>
      e.1 != ref && tol.lt (((o.len.getD e.2 F32.zero).sub (((antArm d e.1).sub (antArm d ref)).norm)).abs)
    let set := tried.filter fun a => !(bad.any fun (e : Nat × Nat) => e.1 == a)
    let d := { d.takeFree with gns1 := { d.gns1 with baseFail := !bad.isEmpty } }
    let d := raiseIf (!bad.isEmpty) 0xD 6 d
    let mode := attModeOf d set
    if mode = 0 then noAttitude d
    else
      let arms := pairArms d set
      let lp := longest (fun v => v.x.to64.abs) arms
      let lr := longest (fun v => v.y.to64.abs) arms
      let lh := longest (fun v => hypot v.x.to64 v.y.to64) arms
      let pdop := ((at' d.gns1.posRec 1).toNat) / 2 ^ 16
      let good := figuresHold r d pdop
      let sg := fun (i : Nat) (x : F64) => if good then sigmaOf x else o.sig.getD i F32.one
      let along := lr.le lp
      let two := mode == 1
      let pitch := if two && !along then F32.zero else o.pitch
      let roll := if two && along then F32.zero else o.roll
      let sp := if two && !along then F32.one else sg 1 lp
      let sr := if two && along then F32.one else sg 2 lr
      let nsv := ((sats ref).filter fun s => set.any fun a => a != ref && (sats a).contains s).length
      let ants := set.foldl (fun v a => setBit v a true) 0
      let ab := set.contains 0 && set.contains 1
      let base := if ab then o.lenAB else F32.zero
      let diff := if ab then base.sub (((antArm d 1).sub (antArm d 0)).norm) else F32.zero
      let d := { d with gns1 := { d.gns1 with
        ants := ants, attNsv := nsv
        attRec := recWords (attBytes mode nsv ants m.at_ [o.hdg, pitch, roll, sg 0 lh, sp, sr] base diff) } }
      toSources r 2 m.at_ (words [o.hdg, F32.zero, pitch, roll]) none F32.zero (setAttMode mode d)

/-! ### Navigation data -/

/-- A satellite's entry changed, made when it is new. -/
def modSat (e : Nat × Nat) (f : SatInfo → SatInfo) (l : List SatInfo) : List SatInfo :=
  if l.any fun (s : SatInfo) => s.sys == e.1 && s.sv == e.2 then l.map fun (s : SatInfo) => if s.sys == e.1 && s.sv == e.2 then f s else s
  else l ++ [f { sys := e.1, sv := e.2 }]

/-- A leap second announcement decoded: it enters the table once, and LEAP_PENDING is raised at its first decoding [05 R160 R166, 17 R509]. (log 88) -/
def leapIn (r : Regs) (t : Nat) (o : Int) (d : Dev) : Dev :=
  if d.lif.live.leaps.any (fun (e : LeapEntry) => e.time == t && e.ofs == o) then d
  else
    let d := { d with gns2 := { d.gns2 with leapPending := true, leapNeg := decide (o < d.gns2.taiUtc) } }
    leapPut r { time := t, ofs := o, late := false } (raise 0xE 5 d)

/-- TAI - UTC decoded; a value that the table does not give enters it from now on [17 R509]. -/
def utcIn (r : Regs) (v : Int) (d : Dev) : Dev :=
  let d := { d with gns2 := { d.gns2 with taiUtc := v } }
  if !(d.gns2.st == .unsync) && d.lif.live.leapAt d.tb0 != v then leapPut r { time := d.tb0, ofs := v, late := true } d else d

/-- What navigation messages said [05 R139 R160 R161]. -/
def navIn (r : Regs) (m : SolMeas) (d : Dev) : Dev :=
  let now := d.tb3 / nsPerSec
  let sats := m.alm.foldl (fun l e => modSat e (fun s => { s with alm := true }) l)
    (m.eph.foldl (fun l e => modSat e (fun s => { s with eph := some now }) l) d.gns1.sats)
  let sats := m.meas.foldl (fun l x => let c := d.chan x.chn; if c.tracking then modSat (sigSys c.sig, c.sv) (fun s => { s with elev := x.elev }) l else l) sats
  let d := { d with gns1 := { d.gns1 with
    sats := sats, iono := m.iono.getD d.gns1.iono
    isbBcast := m.isb.foldl (fun l e => modAt l e.1 fun _ => some e.2) d.gns1.isbBcast } }
  let d := match m.leap with | some (t, o) => leapIn r t o d | none => d
  let d := match m.taiUtc with | some v => utcIn r v d | none => d
  let past := match d.lif.live.leaps.getLast? with | some e => decide (e.time ≤ d.tb0) | none => true
  { d with gns2 := { d.gns2 with leapPending := d.gns2.leapPending && !past } }

/-! ### Meanings -/

/-- Solution period, ns [05 GNS1_SOL_CFG]. -/
def solPeriod (r : Regs) : Nat := nsPerSec / at' [1, 2, 5, 10, 20] (min 4 (r.get F.GNS1_SOL_CFG_RATE))

/-- A solution epoch: on a multiple of the solution period, at most 4 ms ago, and not the last one again [05 R137]. -/
def solDue (r : Regs) (m : SolMeas) (d : Dev) : Bool :=
  m.at_ % solPeriod r == 0 && decide (m.at_ ≤ d.tb0) && decide (d.tb0 ≤ m.at_ + 4000000) && m.at_ != d.gns1.lastEpoch

/-- GNSS_SOLUTION: navigation data, then the position and the attitude of the epoch, as far as their jobs are placed and tile runs go on [05 R137, 10 R295, 18 R534]. (log 86) -/
def gnssSolution (m : SolMeas) (r : Regs) (d : Dev) : Dev :=
  if !(gnssRuns r d) || !(r.en 0xD) || !(solDue r m d) then d
  else
    let d := navIn r m { d with gns1 := { d.gns1 with lastEpoch := m.at_ } }
    let run := d.clk.lock.testBit 1
    let d := if run && !((d.job 5).tiles.isEmpty) then ranJob r 5 (positionEpoch r m d) else noSolution 0 d
    if run && r.bit F.GNS1_HDG_CFG_ATT_EN && !((d.job 6).tiles.isEmpty) then ranJob r 6 (attitudeEpoch r m d) else noAttitude d

/-- GNSS_SOLUTION [05 R137]. -/
def execGnssSolution (m : SolMeas) (s : State) : Host.Outcome State Fault Refusal := onDev s (gnssSolution m)

/-- CRC-24Q. -/
def crc24q (l : List Byte) : Nat := crcMsb 24 0x864CFB 0 l

/-- Bits `hi` down of a message: `n` bits from bit `o`, most significant first. -/
def msgBits (b : List Byte) (o n : Nat) : Nat :=
  (List.range n).foldl (fun v i => 2 * v + b2n ((at' b ((o + i) / 8)).toNat.testBit (7 - (o + i) % 8))) 0

/-- MSM messages that GNS1 decodes [05 R143]. -/
def msmTypes : List Nat := [1074, 1077, 1084, 1087, 1094, 1097, 1114, 1117, 1124, 1127]

/-- All ambiguities discarded: RTK starts again from float [05 R144]. -/
def rtkRestart (k : RtkSt) : RtkSt := { k with running := false, fixed := false, good := 0, bad := 0, fixN := 0 }

/-- A message of a station: a station other than before, or other than the one expected, costs all ambiguities [05 R144]. -/
def stationIn (r : Regs) (id : Nat) (k : RtkSt) : RtkSt :=
  let want := r.get F.GNS1_RTK_CFG_STATION
  let k := if (k.known && k.station != id) || (want != 0xFFF && want != id) then rtkRestart k else k
  { k with station := id, known := true }

/-- A valid message of a type that GNS1 decodes [05 R143 R144]. -/
def rtcmIn (r : Regs) (type : Nat) (b : List Byte) (d : Dev) : Dev :=
  let d := { d with gns1 := { d.gns1 with rtcmAcc := wrapInc 16 d.gns1.rtcmAcc } }
  let k := d.gns1.rtk
  if msmTypes.contains type then
    let k := stationIn r (msgBits b 12 12) k
    { d with gns1 := { d.gns1 with rtk := { k with msmAt := some d.tb0, stale := false, msm := sins k.msm type b } } }
  else if type = 1005 ∨ type = 1006 then
    let k := stationIn r (msgBits b 12 12) k
    { d with gns1 := { d.gns1 with rtk := { k with pos := true, base := b } } }
  else d

/-- RTCM_FRAME: a frame at the port of GNS1_RTK_CFG [05 R143]. -/
def rtcmFrame (b : List Byte) (r : Regs) (d : Dev) : Dev :=
  if !(gnssRuns r d) || !(r.en 0xD) || at' b 0 != 0xD3 then d
  else
    let n := msgBits b 14 10
    if b.length < n + 6 then d
    else if crc24q (slice b 0 (n + 3)) != beNat (slice b (n + 3) 3) then
      { d with gns1 := { d.gns1 with rtcmErr := wrapInc 16 d.gns1.rtcmErr } }
    else
      let p := slice b 3 n
      let t := msgBits p 0 12
      if msmTypes.contains t || [1005, 1006, 1007, 1008, 1033].contains t then rtcmIn r t p d
      else { d with gns1 := { d.gns1 with rtcmIgn := wrapInc 16 d.gns1.rtcmIgn } }

/-- RTCM_FRAME [05 R143]. -/
def execRtcmFrame (bytes : List Byte) (s : State) : Host.Outcome State Fault Refusal := onDev s (rtcmFrame bytes)

/-- Kept data after a refresh: ephemerides and almanacs always, and with four satellites position, TB0 less TB3, the oscillator model and the age of it all [05 R163]. -/
def refreshed (m : RefreshMeas) (d : Dev) : KeptData :=
  let k := d.gns2.kept
  let now := d.tb3 / nsPerSec
  let k := { k with
    alm := k.alm || m.alm, eph := if m.eph.isEmpty then k.eph else max k.eph m.eph.eraseDups.length
    ephAt := if m.eph.isEmpty then k.ephAt else now, iono := m.iono.getD k.iono, taiUtc := m.taiUtc.getD k.taiUtc }
  if (satsOf m.obs).length < 4 then k
  else
    let o := Config.gnssPass d.free { obs := m.obs, iono := k.iono }
    { k with
      pos := some (o.lat :: o.lon :: [o.hgt, o.vn, o.ve, o.vd].map F32.to64)
      ofs := some (-(o.clk / 1000)), e0 := Config.freeNat d.free 0x05163, isb := o.isb, at_ := some now }

/-- DORMANT_REFRESH_DONE: six ephemerides are decoded or 120 s have passed; the kept data are renewed and the two domains switched off [03 R93, 05 R163]. (log 86, 89) -/
def dormantRefreshDone (m : RefreshMeas) (_ : Regs) (d : Dev) : Dev :=
  let now := d.tb3 / nsPerSec
  if d.mde.dorm == .refresh && (decide (6 ≤ m.eph.eraseDups.length) || decide (d.mde.refreshFrom + 120 ≤ now)) then
    { d.takeFree with
      gns2 := { d.gns2 with kept := refreshed m d }
      mde := { d.mde with dorm := .asleep, refreshAt := now }
      pwr := { d.pwr with on := 7, pgood := 7 } }
  else d

/-- DORMANT_REFRESH_DONE [05 R163]. -/
def execDormantRefreshDone (m : RefreshMeas) (s : State) : Host.Outcome State Fault Refusal := onDev s (dormantRefreshDone m)

end Sys2Proof.Machine
end

