-- ==== Sys2Proof/Machine/Dispatch.lean ====
section
/-! DEFINITION. One arm for each command: one direct call of its meaning. -/

namespace Sys2Proof.Machine

/-- The effect of a command on everything but the queue. -/
def exec (i : Instr) (s : State) : Host.Outcome State Fault Refusal :=
  match i with
  | .cut => Sys2Proof.Machine.execCut s
  | .dormantAsleep => Sys2Proof.Machine.execDormantAsleep s
  | .rerunDone obj => Sys2Proof.Machine.execRerunDone obj s
  | .stateOutput => Sys2Proof.Machine.execStateOutput s
  | .solveConverged us => Sys2Proof.Machine.execSolveConverged us s
  | .deadline => Sys2Proof.Machine.execDeadline s
  | .appendageSubcycle => Sys2Proof.Machine.execAppendageSubcycle s
  | .continuitySetTake => Sys2Proof.Machine.execContinuitySetTake s
  | .loopSample ch => Sys2Proof.Machine.execLoopSample ch s
  | .outputLatch ch => Sys2Proof.Machine.execOutputLatch ch s
  | .loopFaultClr => Sys2Proof.Machine.execLoopFaultClr s
  | .pwmPeriodStart out => Sys2Proof.Machine.execPwmPeriodStart out s
  | .stepRateUpdate axis => Sys2Proof.Machine.execStepRateUpdate axis s
  | .stepPulse axis => Sys2Proof.Machine.execStepPulse axis s
  | .pfgStop => Sys2Proof.Machine.execPfgStop s
  | .pfgSoftStop => Sys2Proof.Machine.execPfgSoftStop s
  | .pfgHome => Sys2Proof.Machine.execPfgHome s
  | .pfgClrChatter => Sys2Proof.Machine.execPfgClrChatter s
  | .dinSample raw => Sys2Proof.Machine.execDinSample raw s
  | .qdTransition port ab => Sys2Proof.Machine.execQdTransition port ab s
  | .qdIndex port => Sys2Proof.Machine.execQdIndex port s
  | .qdIllegalWindow port => Sys2Proof.Machine.execQdIllegalWindow port s
  | .emuEdgeOut out => Sys2Proof.Machine.execEmuEdgeOut out s
  | .cmpPulseEnd axis unit => Sys2Proof.Machine.execCmpPulseEnd axis unit s
  | .ssiRequest port => Sys2Proof.Machine.execSsiRequest port s
  | .ssiWordDone port bits lineHigh => Sys2Proof.Machine.execSsiWordDone port bits lineHigh s
  | .gnssEpoch paths chans sky => Sys2Proof.Machine.execGnssEpoch paths chans sky s
  | .jamEval => Sys2Proof.Machine.execJamEval s
  | .pathFault path ovr => Sys2Proof.Machine.execPathFault path ovr s
  | .jamCal => Sys2Proof.Machine.execJamCal s
  | .jamCalDone => Sys2Proof.Machine.execJamCalDone s
  | .acqPassDone cell => Sys2Proof.Machine.execAcqPassDone cell s
  | .pullInTimeout chn => Sys2Proof.Machine.execPullInTimeout chn s
  | .coastTimeout chn => Sys2Proof.Machine.execCoastTimeout chn s
  | .xtrkFrame path frag epoch ok => Sys2Proof.Machine.execXtrkFrame path frag epoch ok s
  | .gnssSolution m => Sys2Proof.Machine.execGnssSolution m s
  | .rtcmFrame bytes => Sys2Proof.Machine.execRtcmFrame bytes s
  | .holdoverEntry => Sys2Proof.Machine.execHoldoverEntry s
  | .holdoverErrUpdate => Sys2Proof.Machine.execHoldoverErrUpdate s
  | .clockStep => Sys2Proof.Machine.execClockStep s
  | .ppsPulse => Sys2Proof.Machine.execPpsPulse s
  | .ppsPulseEnd => Sys2Proof.Machine.execPpsPulseEnd s
  | .tpMsg => Sys2Proof.Machine.execTpMsg s
  | .dormantRefresh => Sys2Proof.Machine.execDormantRefresh s
  | .dormantRefreshDone m => Sys2Proof.Machine.execDormantRefreshDone m s
  | .wake pin => Sys2Proof.Machine.execWake pin s
  | .sourceRecord r => Sys2Proof.Machine.execSourceRecord r s
  | .sourceTimeout src => Sys2Proof.Machine.execSourceTimeout src s
  | .sioLine port bytes startAt framing => Sys2Proof.Machine.execSioLine port bytes startAt framing s
  | .iec450Datagram mac group udp bytes stamp => Sys2Proof.Machine.execIec450Datagram mac group udp bytes stamp s
  | .analogSample input code ovr => Sys2Proof.Machine.execAnalogSample input code ovr s
  | .fltSettled input => Sys2Proof.Machine.execFltSettled input s
  | .scanSwitch m => Sys2Proof.Machine.execScanSwitch m s
  | .fltRatioUpdate count => Sys2Proof.Machine.execFltRatioUpdate count s
  | .tgtLost obj => Sys2Proof.Machine.execTgtLost obj s
  | .tileFault tile => Sys2Proof.Machine.execTileFault tile s
  | .jobOverrun job us => Sys2Proof.Machine.execJobOverrun job us s
  | .bankError bank uncorr job active => Sys2Proof.Machine.execBankError bank uncorr job active s
  | .bankCopyDone bank => Sys2Proof.Machine.execBankCopyDone bank s
  | .msnDiagClr v => Sys2Proof.Machine.execMsnDiagClr v s
  | .cfgLoadStart => Sys2Proof.Machine.execCfgLoadStart s
  | .cfgLoadAbort => Sys2Proof.Machine.execCfgLoadAbort s
  | .stagingTouched addr b => Sys2Proof.Machine.execStagingTouched addr b s
  | .cfgChecksDone => Sys2Proof.Machine.execCfgChecksDone s
  | .cfgSlotWritten => Sys2Proof.Machine.execCfgSlotWritten s
  | .cfgKeyDataWrite v => Sys2Proof.Machine.execCfgKeyDataWrite v s
  | .devGo => Sys2Proof.Machine.execDevGo s
  | .devHold => Sys2Proof.Machine.execDevHold s
  | .boot => Sys2Proof.Machine.execBoot s
  | .load => Sys2Proof.Machine.execLoad s
  | .resetRelease unitId refsel => Sys2Proof.Machine.execResetRelease unitId refsel s
  | .resetNAssert => Sys2Proof.Machine.execResetNAssert s
  | .watchdogExpire => Sys2Proof.Machine.execWatchdogExpire s
  | .hostReset => Sys2Proof.Machine.execHostReset s
  | .thermalRead temps => Sys2Proof.Machine.execThermalRead temps s
  | .supplyFail => Sys2Proof.Machine.execSupplyFail s
  | .finalSegmentDone => Sys2Proof.Machine.execFinalSegmentDone s
  | .railFault rail v powerGoodLost => Sys2Proof.Machine.execRailFault rail v powerGoodLost s
  | .domainUp dom => Sys2Proof.Machine.execDomainUp dom s
  | .pwrDomReqWrite port v => Sys2Proof.Machine.execPwrDomReqWrite port v s
  | .pllLockLost pll => Sys2Proof.Machine.execPllLockLost pll s
  | .pllLockRegained pll => Sys2Proof.Machine.execPllLockRegained pll s
  | .refclkLost input => Sys2Proof.Machine.execRefclkLost input s
  | .mpllHoldTimeout => Sys2Proof.Machine.execMpllHoldTimeout s
  | .ucUpdateStart => Sys2Proof.Machine.execUcUpdateStart s
  | .ucUpdateDone => Sys2Proof.Machine.execUcUpdateDone s
  | .groutStepStart cls item => Sys2Proof.Machine.execGroutStepStart cls item s
  | .groutStepDone cls pass code => Sys2Proof.Machine.execGroutStepDone cls pass code s
  | .groutPassEnd => Sys2Proof.Machine.execGroutPassEnd s
  | .canFrameRx ch f sof err => Sys2Proof.Machine.execCanFrameRx ch f sof err s
  | .canFrameTxEnd ch r sof => Sys2Proof.Machine.execCanFrameTxEnd ch r sof s
  | .canTxreq ch hi v => Sys2Proof.Machine.execCanTxreq ch hi v s
  | .canTxcancel ch v => Sys2Proof.Machine.execCanTxcancel ch v s
  | .canPut ch => Sys2Proof.Machine.execCanPut ch s
  | .canRestart ch => Sys2Proof.Machine.execCanRestart ch s
  | .busOffRecovered ch => Sys2Proof.Machine.execBusOffRecovered ch s
  | .dbSnap ch hi v => Sys2Proof.Machine.execDbSnap ch hi v s
  | .rxfAck ch fifo v => Sys2Proof.Machine.execRxfAck ch fifo v s
  | .txlogAck ch v => Sys2Proof.Machine.execTxlogAck ch v s
  | .fltCtrlWrite ch v => Sys2Proof.Machine.execFltCtrlWrite ch v s
  | .launchDue ch buf => Sys2Proof.Machine.execLaunchDue ch buf s
  | .launchLate ch buf => Sys2Proof.Machine.execLaunchLate ch buf s
  | .sbRefLaunch ch => Sys2Proof.Machine.execSbRefLaunch ch s
  | .sbWindowStart ch => Sys2Proof.Machine.execSbWindowStart ch s
  | .sbWindowEnd ch => Sys2Proof.Machine.execSbWindowEnd ch s
  | .sbRefMiss ch => Sys2Proof.Machine.execSbRefMiss ch s
  | .e2eTimeout ctx => Sys2Proof.Machine.execE2eTimeout ctx s
  | .e2eRunWrite v => Sys2Proof.Machine.execE2eRunWrite v s
  | .timSnap => Sys2Proof.Machine.execTimSnap s
  | .timStepGo => Sys2Proof.Machine.execTimStepGo s
  | .srvOfsIn v => Sys2Proof.Machine.execSrvOfsIn v s
  | .ppsinEdge => Sys2Proof.Machine.execPpsinEdge s
  | .ppsinLost => Sys2Proof.Machine.execPpsinLost s
  | .servoHoldover tb => Sys2Proof.Machine.execServoHoldover tb s
  | .ethRxFrame n bytes good at_ => Sys2Proof.Machine.execEthRxFrame n bytes good at_ s
  | .ethTxPush n v => Sys2Proof.Machine.execEthTxPush n v s
  | .ethTxDone n at_ => Sys2Proof.Machine.execEthTxDone n at_ s
  | .ethLaunchLate n q => Sys2Proof.Machine.execEthLaunchLate n q s
  | .ethRxFree n v => Sys2Proof.Machine.execEthRxFree n v s
  | .ethRxPop port n => Sys2Proof.Machine.execEthRxPop port n s
  | .ethTxcPop port n => Sys2Proof.Machine.execEthTxcPop port n s
  | .ethLinkChange n done full => Sys2Proof.Machine.execEthLinkChange n done full s
  | .mdioWrite n v => Sys2Proof.Machine.execMdioWrite n v s
  | .mdioRead n v => Sys2Proof.Machine.execMdioRead n v s
  | .mdioDone n data => Sys2Proof.Machine.execMdioDone n data s
  | .ndlHello h => Sys2Proof.Machine.execNdlHello h s
  | .ndlLinkDown crc => Sys2Proof.Machine.execNdlLinkDown crc s
  | .ndlRetrain => Sys2Proof.Machine.execNdlRetrain s
  | .ndlLaneDown lane => Sys2Proof.Machine.execNdlLaneDown lane s
  | .keepalive => Sys2Proof.Machine.execKeepalive s
  | .timeFrame t1 t4 t2 t3 => Sys2Proof.Machine.execTimeFrame t1 t4 t2 t3 s
  | .timeReply t2 t3 t4 synced ready => Sys2Proof.Machine.execTimeReply t2 t3 t4 synced ready s
  | .stepAnnounce second ofs => Sys2Proof.Machine.execStepAnnounce second ofs s
  | .cutPart p => Sys2Proof.Machine.execCutPart p s
  | .cutPartMiss => Sys2Proof.Machine.execCutPartMiss s
  | .bulkFrame b => Sys2Proof.Machine.execBulkFrame b s
  | .hbToggle => Sys2Proof.Machine.execHbToggle s
  | .hbPermitLapse => Sys2Proof.Machine.execHbPermitLapse s
  | .hbInEdge => Sys2Proof.Machine.execHbInEdge s
  | .hbInStop => Sys2Proof.Machine.execHbInStop s
  | .seekTimeout => Sys2Proof.Machine.execSeekTimeout s
  | .pairRelinquish => Sys2Proof.Machine.execPairRelinquish s
  | .relinquishRx => Sys2Proof.Machine.execRelinquishRx s
  | .silentTakeover => Sys2Proof.Machine.execSilentTakeover s
  | .takeAck => Sys2Proof.Machine.execTakeAck s
  | .takeLoops loops => Sys2Proof.Machine.execTakeLoops loops s
  | .takeCheckEnd => Sys2Proof.Machine.execTakeCheckEnd s
  | .takeNow => Sys2Proof.Machine.execTakeNow s
  | .clrTakeFail => Sys2Proof.Machine.execClrTakeFail s
  | .still => Sys2Proof.Machine.execStill s
  | .stillCapture => Sys2Proof.Machine.execStillCapture s
  | .stillReq tc => Sys2Proof.Machine.execStillReq tc s
  | .stillData d => Sys2Proof.Machine.execStillData d s
  | .globalGo => Sys2Proof.Machine.execGlobalGo s
  | .globalDone => Sys2Proof.Machine.execGlobalDone s
  | .globalTimeout => Sys2Proof.Machine.execGlobalTimeout s
  | .safInputChange pin chB level => Sys2Proof.Machine.execSafInputChange pin chB level s
  | .discrepancy input chB => Sys2Proof.Machine.execDiscrepancy input chB s
  | .srstRelease nsA nsB => Sys2Proof.Machine.execSrstRelease nsA nsB s
  | .resetStuck => Sys2Proof.Machine.execResetStuck s
  | .testPulse out chB ok => Sys2Proof.Machine.execTestPulse out chB ok s
  | .safExchange x => Sys2Proof.Machine.execSafExchange x s
  | .safUnlockFirst v => Sys2Proof.Machine.execSafUnlockFirst v s
  | .safUnlockSecond v => Sys2Proof.Machine.execSafUnlockSecond v s
  | .safUnlockTimeout => Sys2Proof.Machine.execSafUnlockTimeout s
  | .safConfigExit key => Sys2Proof.Machine.execSafConfigExit key s
  | .safCrcExpWrite v => Sys2Proof.Machine.execSafCrcExpWrite v s
  | .evtCommit => Sys2Proof.Machine.execEvtCommit s
  | .recordsLost => Sys2Proof.Machine.execRecordsLost s
  | .evtHostCode v => Sys2Proof.Machine.execEvtHostCode v s
  | .evtAck v => Sys2Proof.Machine.execEvtAck v s
  | .lifCommit => Sys2Proof.Machine.execLifCommit s
  | .lifPreset => Sys2Proof.Machine.execLifPreset s
  | .leapAdd => Sys2Proof.Machine.execLeapAdd s
  | .holdMeasure => Sys2Proof.Machine.execHoldMeasure s
  | .holdMeasureDone v0 v1 v2 => Sys2Proof.Machine.execHoldMeasureDone v0 v1 v2 s
  | .holdEnergyUpdate v => Sys2Proof.Machine.execHoldEnergyUpdate v s
  | .pcieRequest accs => Sys2Proof.Machine.execPcieRequest accs s
  | .qspiTransfer t => Sys2Proof.Machine.execQspiTransfer t s
  | .pcieHotReset linkDown => Sys2Proof.Machine.execPcieHotReset linkDown s
  | .registerWrite port addr v => Sys2Proof.Machine.execRegisterWrite port addr v s
  | .commit page => Sys2Proof.Machine.execCommit page s
  | .commitApply page idx => Sys2Proof.Machine.execCommitApply page idx s
  | .discard page => Sys2Proof.Machine.execDiscard page s
  | .freeze page on => Sys2Proof.Machine.execFreeze page on s
  | .lockWrite page v => Sys2Proof.Machine.execLockWrite page v s
  | .lockExpire page => Sys2Proof.Machine.execLockExpire page s
  | .irqStatClear page v => Sys2Proof.Machine.execIrqStatClear page v s
  | .irqForce page v => Sys2Proof.Machine.execIrqForce page v s
  | .irqEoi v => Sys2Proof.Machine.execIrqEoi v s
  | .cfgRejectedClear page => Sys2Proof.Machine.execCfgRejectedClear page s
  | .latchRead port addr => Sys2Proof.Machine.execLatchRead port addr s
  | .hostTimeout => Sys2Proof.Machine.execHostTimeout s
  | .relayHoldEnd => Sys2Proof.Machine.execRelayHoldEnd s
  | .ethLaunchDue n q => Sys2Proof.Machine.execEthLaunchDue n q s
  | .pcieLinkUp width speed => Sys2Proof.Machine.execPcieLinkUp width speed s
  | .refclkBack input => Sys2Proof.Machine.execRefclkBack input s
  | .soutfbMismatch out chB => Sys2Proof.Machine.execSoutfbMismatch out chB s
  | .safPowerUp srst => Sys2Proof.Machine.execSafPowerUp srst s
  | .aonPowerUp => Sys2Proof.Machine.execAonPowerUp s
  | .tbSecondLatch => Sys2Proof.Machine.execTbSecondLatch s
  | .keptDataDiscard => Sys2Proof.Machine.execKeptDataDiscard s
  | .uncorrectableMemoryError where_ => Sys2Proof.Machine.execUncorrectableMemoryError where_ s

end Sys2Proof.Machine
end

