-- ==== Sys2Proof/Safety.lean ====
section
/-! DEFINITION. What claims say of a step: that it is safe, which invariants a state meets, and which blocks a command leaves alone. -/

namespace Sys2Proof

open Sys2Proof.Machine

/-- The outcome is a next state. -/
def Safe (o : Host.Outcome State Fault Refusal) : Prop := ∃ t, o = .next t

/-- The memory windows are in canonical form. -/
def MemOk (s : State) : Prop := Memory.wf s.mem = true

/-- The writable registers are in canonical form: keys of active values and of shadow copies rise, and there is one header for each page. -/
def RegsOk (s : State) : Prop := rising (s.regs.act.map Prod.fst) = true ∧ rising (s.regs.shd.map Prod.fst) = true ∧ s.regs.hdr.length = 64

/-- A part of the device: a block, or the model's count of free values. -/
inductive Part where
  | free | sys | pwr | clk | irq | hst | mde | cfg | msn | slv | fus | ctl | alc | gns0 | gns1 | gns2 | src | flt | sio | lop | aou | pfg | enc | dio | can | e2e | tim | eth | ndl | pair | saf | evt | lif | hld | grt
  deriving DecidableEq, Repr

/-- Two devices agree on a part. -/
def agreeAt (a b : Dev) (p : Part) : Prop :=
  match p with
  | .free => a.free = b.free
  | .sys => a.sys = b.sys
  | .pwr => a.pwr = b.pwr
  | .clk => a.clk = b.clk
  | .irq => a.irq = b.irq
  | .hst => a.hst = b.hst
  | .mde => a.mde = b.mde
  | .cfg => a.cfg = b.cfg
  | .msn => a.msn = b.msn
  | .slv => a.slv = b.slv
  | .fus => a.fus = b.fus
  | .ctl => a.ctl = b.ctl
  | .alc => a.alc = b.alc
  | .gns0 => a.gns0 = b.gns0
  | .gns1 => a.gns1 = b.gns1
  | .gns2 => a.gns2 = b.gns2
  | .src => a.src = b.src
  | .flt => a.flt = b.flt
  | .sio => a.sio = b.sio
  | .lop => a.lop = b.lop
  | .aou => a.aou = b.aou
  | .pfg => a.pfg = b.pfg
  | .enc => a.enc = b.enc
  | .dio => a.dio = b.dio
  | .can => a.can = b.can
  | .e2e => a.e2e = b.e2e
  | .tim => a.tim = b.tim
  | .eth => a.eth = b.eth
  | .ndl => a.ndl = b.ndl
  | .pair => a.pair = b.pair
  | .saf => a.saf = b.saf
  | .evt => a.evt = b.evt
  | .lif => a.lif = b.lif
  | .hld => a.hld = b.hld
  | .grt => a.grt = b.grt

/-- `t` is `s` but for the parts `l` of the device and what left it: same registers, memory windows, captures, queue and tick count. What a command causes to be pending may always change IRQ and HST, which messages go through [19 R566]. -/
def OnlyParts (l : List Part) (s t : State) : Prop :=
  t.regs = s.regs ∧ t.mem = s.mem ∧ t.frozen = s.frozen ∧ t.pending = s.pending ∧ t.dev.now = s.dev.now ∧
    ∀ p, p ∉ Part.irq :: Part.hst :: l → agreeAt t.dev s.dev p

/-- The host is served on page `p`: the device serves its address, and the page exists on it [18 R528 R529, 00 R2]. -/
def HostServes (d : Dev) (p : Nat) : Prop := serves d .qspi (p * 4096) = true ∧ (pageBlock p).isSome = true ∧ pageAbsent d p = false

/-- Active values alike but for one key. -/
def SameButKey (k : Nat) (a b : Regs) : Prop := ∀ q d, q ≠ k → sget b.act q d = sget a.act q d

/-- `t` is `s` after a reset with cause `k`: the DORMANT settings, TB3, the kept time, the island, UNIT_ID and the queue stay; the working blocks are at their reset values [18 R525 R526]. -/
def ResetFrom (k : Nat) (s t : State) : Prop :=
  t.regs = keepRegs s.regs ∧ t.mem = [] ∧ t.frozen = [] ∧ t.pending = s.pending ∧ t.dev.now = s.dev.now ∧ t.dev.sys.cause = k ∧
    t.dev.mde = { refreshAt := s.dev.mde.refreshAt } ∧ t.dev.tb3 = s.dev.tb3 ∧ t.dev.gns2 = { kept := s.dev.gns2.kept } ∧ t.dev.saf = s.dev.saf ∧
    t.dev.pair = { unitId := s.dev.pair.unitId } ∧ t.dev.evt.queue = [] ∧ t.dev.lop = {} ∧ t.dev.aou = {} ∧ t.dev.pfg = {} ∧ t.dev.dio = {} ∧ t.dev.can = {} ∧
    t.dev.eth = List.replicate 4 {} ∧ t.dev.sio = {} ∧ t.dev.slv = {} ∧ t.dev.irq.raw = ({} : IrqSt).raw

end Sys2Proof
end

