-- ==== Sys2Proof/Certificates/Slice0/Obligations.lean ====
section
/-! DEFINITION. What is claimed of the model, for the provers: one definition for each statement. -/

open Sys2Proof Sys2Proof.Machine

/-! ### CAN channels, their filter list, the Storyboard and end-to-end protection -/

/-- 13 R371 R376 R378 R380: what the host takes or acknowledges of stored frames. -/
def Obligations.CanStoredFramesAcknowledged : Prop :=
  (∀ (s : State) (ch fifo v : Nat), ch < s.dev.can.ch.length →
    let f := if fifo = 0 then (s.dev.canCh ch).fifo0 else (s.dev.canCh ch).fifo1
    let k := (v % 64 + 64 - f.get) % 64
    ∃ t, exec (.rxfAck ch fifo v) s = .next t ∧ OnlyParts [.can] s t ∧
      let g := if fifo = 0 then (t.dev.canCh ch).fifo0 else (t.dev.canCh ch).fifo1
      g.elems = f.elems ∧ g.put = f.put ∧
        (k < f.fill → g.get = (v % 64 + 1) % 64 ∧ g.fill + (k + 1) = f.fill) ∧ (f.fill ≤ k → g = f)) ∧
  (∀ (s : State) (ch v : Nat), ch < s.dev.can.ch.length →
    let c := s.dev.canCh ch
    let k := (v % 32 + 32 - c.logGet) % 32
    ∃ t, exec (.txlogAck ch v) s = .next t ∧ OnlyParts [.can] s t ∧ (t.dev.canCh ch).log = c.log ∧
      (k < c.logFill → (t.dev.canCh ch).logGet = (v % 32 + 1) % 32 ∧ (t.dev.canCh ch).logFill + (k + 1) = c.logFill) ∧
      (c.logFill ≤ k → t.dev.canCh ch = c)) ∧
  (∀ (s : State) (ch hi v i : Nat), ch < 8 → pageAbsent s.dev (0x18 + ch) = false → ch < s.dev.can.ch.length → i < 32 →
    (s.dev.canCh ch).shadow.length = 64 →
    let b := 32 * (hi % 2) + i
    ∃ t, exec (.dbSnap ch hi v) s = .next t ∧ OnlyParts [.can] s t ∧ (t.dev.canCh ch).db = (s.dev.canCh ch).db ∧
      (v.testBit i = true → at' (t.dev.canCh ch).shadow b = at' (s.dev.canCh ch).db b ∧ (t.dev.canCh ch).dbNew.testBit b = false) ∧
      (v.testBit i = false → at' (t.dev.canCh ch).shadow b = at' (s.dev.canCh ch).shadow b))

/-- 13 R370: the staging copy goes into buffer INDEX with the bytes of its length, unless the buffer is pending or on the bus; then only the count of refused copies moves. -/
def Obligations.CanPutFillsAFreeBuffer : Prop :=
  ∀ (s : State) (ch : Nat), ch < 8 → pageAbsent s.dev (0x18 + ch) = false → ch < s.dev.can.ch.length →
    let c := s.dev.canCh ch
    let b := s.regs.on F.CAN_MRAM_SEL_INDEX ch
    b < c.tx.length →
    ∃ t, exec (.canPut ch) s = .next t ∧ OnlyParts [.can] s t ∧
      (c.pend.testBit b = false → (∀ x, c.sending = some x → x.buf ≠ b) →
        at' (t.dev.canCh ch).tx b = { c.stage with data := c.stage.bytes } ∧ (∀ k, k ≠ b → at' (t.dev.canCh ch).tx k = at' c.tx k) ∧
          (t.dev.canCh ch).putBusy = c.putBusy) ∧
      (c.pend.testBit b = true ∨ (∃ x, c.sending = some x ∧ x.buf = b) →
        (t.dev.canCh ch).tx = c.tx ∧ (t.dev.canCh ch).putBusy = (c.putBusy + 1) % 2 ^ 16)

/-- 13 R378 R380 R381: a request makes its buffer pending and a cancel before the start of frame takes it out and logs it; a launch becomes an ordinary request at its time, and is withdrawn when it is late. -/
def Obligations.CanRequestsAndCancels : Prop :=
  (∀ (s : State) (ch hi v i : Nat), canOn s.regs s.dev ch = true → ch < s.dev.can.ch.length → i < 32 → v.testBit i = true →
    (at' (s.dev.canCh ch).tx (32 * (hi % 2) + i)).frame.testBit 16 = false →
    ∃ t, exec (.canTxreq ch hi v) s = .next t ∧ OnlyParts [.can] s t ∧ (t.dev.canCh ch).pend.testBit (32 * (hi % 2) + i) = true) ∧
  (∀ (s : State) (ch v : Nat), canOn s.regs s.dev ch = true → ch < s.dev.can.ch.length → (s.dev.canCh ch).pend.testBit (v % 64) = true →
    (∀ x, (s.dev.canCh ch).sending = some x → x.buf ≠ v % 64) →
    ∃ t, exec (.canTxcancel ch v) s = .next t ∧ OnlyParts [.can] s t ∧ (t.dev.canCh ch).pend.testBit (v % 64) = false ∧
      (t.dev.canCh ch).logFill = min 32 ((s.dev.canCh ch).logFill + 1)) ∧
  (∀ (s : State) (ch buf : Nat), canOn s.regs s.dev ch = true → ch < s.dev.can.ch.length → (s.dev.canCh ch).launchHold.testBit buf = true →
    sget (s.dev.canCh ch).launchAt buf 0 ≤ s.dev.tb0 →
    ∃ t, exec (.launchDue ch buf) s = .next t ∧ OnlyParts [.can] s t ∧ (t.dev.canCh ch).launchHold.testBit buf = false ∧
      (t.dev.canCh ch).pend = (s.dev.canCh ch).pend) ∧
  (∀ (s : State) (ch buf : Nat), canOn s.regs s.dev ch = true → ch < s.dev.can.ch.length → 0x18 + ch < s.dev.irq.raw.length →
    (s.dev.canCh ch).pend.testBit buf = true → (s.dev.canCh ch).launchAt.any (fun e => e.1 == buf) = true →
    (∀ x, (s.dev.canCh ch).sending = some x → x.buf ≠ buf) →
    sget (s.dev.canCh ch).launchAt buf 0 + 1000 * s.regs.on F.CAN_LATE_MAX_LATE_MAX ch < s.dev.tb0 →
    ∃ t, exec (.launchLate ch buf) s = .next t ∧ OnlyParts [.can] s t ∧ (t.dev.canCh ch).pend.testBit buf = false ∧
      (at' t.dev.irq.raw (0x18 + ch)).testBit 5 = true)

/-- 13 R393: RESTART lets a bus-off channel recover, and the end of recovery makes it error active with both counters 0. The error states are those of ISO 11898-1 (the model's reading, log 31). -/
def Obligations.CanBusOffRecovery : Prop :=
  (∀ (s : State) (ch : Nat), canOn s.regs s.dev ch = true → ch < s.dev.can.ch.length → (s.dev.canCh ch).err = .busOff →
    ∃ t, exec (.canRestart ch) s = .next t ∧ OnlyParts [.can] s t ∧ (t.dev.canCh ch).recovering = true ∧ (t.dev.canCh ch).err = .busOff) ∧
  (∀ (s : State) (ch : Nat), canOn s.regs s.dev ch = true → ch < s.dev.can.ch.length → 0x18 + ch < s.dev.irq.raw.length →
    (s.dev.canCh ch).err = .busOff → ((s.dev.canCh ch).recovering = true ∨ s.regs.on F.CAN_MODE_AUTO_RECOV ch = 1) →
    ∃ t, exec (.busOffRecovered ch) s = .next t ∧ OnlyParts [.can] s t ∧ (t.dev.canCh ch).err = .active ∧ (t.dev.canCh ch).tec = 0 ∧
      (t.dev.canCh ch).recErr = 0 ∧ (at' t.dev.irq.raw (0x18 + ch)).testBit 2 = true)

/-- 13 R374 R377 R378 R393: a host frame sent whole leaves the pending set with error code 0, a remote frame received is only counted, and a reception error shows its code. The error counters are those of ISO 11898-1 (the model's reading, log 31). -/
def Obligations.CanFramesOnTheBus : Prop :=
  (∀ (s : State) (ch sof : Nat) (x : CanTx), ch < s.dev.can.ch.length → (s.dev.canCh ch).sending = some x → x.kind = 0 →
    s.regs.on F.CAN_MODE_LOOPBACK ch = 0 →
    ∃ t, exec (.canFrameTxEnd ch .sent sof) s = .next t ∧ t.regs = s.regs ∧ t.mem = s.mem ∧ (t.dev.canCh ch).pend.testBit x.buf = false ∧
      (t.dev.canCh ch).lec = 0 ∧ (t.dev.canCh ch).logFill = min 32 ((s.dev.canCh ch).logFill + 1)) ∧
  (∀ (s : State) (ch sof : Nat) (f : CanFrame), canOn s.regs s.dev ch = true → ch < s.dev.can.ch.length → (s.dev.canCh ch).err ≠ .busOff →
    f.rtr = true → (f.fd = false ∨ s.regs.on F.CAN_MODE_FD_EN ch = 1) →
    ∃ t, exec (.canFrameRx ch f sof none) s = .next t ∧ OnlyParts [.can] s t ∧ (t.dev.canCh ch).remote = ((s.dev.canCh ch).remote + 1) % 2 ^ 16 ∧
      (t.dev.canCh ch).fifo0 = (s.dev.canCh ch).fifo0 ∧ (t.dev.canCh ch).fifo1 = (s.dev.canCh ch).fifo1 ∧ (t.dev.canCh ch).db = (s.dev.canCh ch).db) ∧
  (∀ (s : State) (ch sof e : Nat) (f : CanFrame), canOn s.regs s.dev ch = true → ch < s.dev.can.ch.length → (s.dev.canCh ch).err ≠ .busOff →
    e < 7 → (f.fd = false ∨ s.regs.on F.CAN_MODE_FD_EN ch = 1) →
    ∃ t, exec (.canFrameRx ch f sof (some e)) s = .next t ∧ OnlyParts [.can] s t ∧ (t.dev.canCh ch).lec = e ∧
      (t.dev.canCh ch).recErr = min 128 ((s.dev.canCh ch).recErr + 1))

/-- 13 R375: a write of the control word puts the selected filter entry with its staged KEY and SPAN in the channel's list; a destination of 4 to 7 is rejected with RANGE and the list stays. -/
def Obligations.CanFilterEntryWritten : Prop :=
  ∀ (s : State) (ch v : Nat), ch < 8 → pageAbsent s.dev (0x18 + ch) = false →
    let i := s.regs.on F.CAN_FLT_CFG_BASE ch + s.regs.on F.CAN_FLT_SEL_ENTRY ch
    ∃ t, exec (.fltCtrlWrite ch v) s = .next t ∧ t.mem = s.mem ∧ t.frozen = s.frozen ∧ t.pending = s.pending ∧ t.regs.act = s.regs.act ∧ t.regs.shd = s.regs.shd ∧
      (bits v 6 4 < 4 → i < 2048 → t.regs = s.regs ∧ t.dev.can.ch = s.dev.can.ch ∧
        t.dev.can.pool.find? (fun e => e.idx == i) = some { fltStaged s.dev ch i with control := v &&& 0x3F77 }) ∧
      (4 ≤ bits v 6 4 → t.dev.can = s.dev.can ∧ t.regs = s.regs.reject (0x18 + ch) 0xD0 3)

/-- 13 R385 R386 R387 R388 R389: the Storyboard's basic cycle. A master starts the next cycle with the next count, a column opens at its time, a window closes at its end, and a follower whose reference is missing goes to SYNC and counts it. The follower's start by SB_REF_LAUNCH is the model's reading (log 96). -/
def Obligations.StoryboardBasicCycle : Prop :=
  (∀ (s : State) (ch : Nat), canOn s.regs s.dev ch = true → ch < s.dev.can.ch.length → (s.dev.canCh ch).sb ≠ .off → sbDue s.regs ch s.dev = true →
    sbIsMaster s.regs ch s.dev = true → (s.dev.canCh ch).master = true → (s.dev.canCh ch).win = none → (s.regs.head (0x18 + ch)).pend = false →
    ∃ t, exec (.sbRefLaunch ch) s = .next t ∧ OnlyParts [.can] s t ∧ (t.dev.canCh ch).sb = .run ∧ (t.dev.canCh ch).master = true ∧
      (t.dev.canCh ch).cycle = ((s.dev.canCh ch).cycle + 1) % sbRows s.regs ch ∧ (t.dev.canCh ch).refTick = some s.dev.now ∧ (t.dev.canCh ch).colNext = 0) ∧
  (∀ (s : State) (ch r0 : Nat), canOn s.regs s.dev ch = true → ch < s.dev.can.ch.length → (s.dev.canCh ch).sb = .run → (s.dev.canCh ch).refOk = true →
    ((s.dev.canCh ch).master = true → sbIsMaster s.regs ch s.dev = true) → (s.dev.canCh ch).win = none → (s.dev.canCh ch).refTick = some r0 →
    (s.dev.canCh ch).colNext < sbCols s.regs ch → r0 + 250 * sbStart s.regs ch (s.dev.canCh ch).colNext ≤ s.dev.now → s.dev.pair.glb ≠ .waiting →
    let x := sbCell s.regs ch ((s.dev.canCh ch).cycle % sbRows s.regs ch) (s.dev.canCh ch).colNext
    ∃ t, exec (.sbWindowStart ch) s = .next t ∧ OnlyParts [.can] s t ∧ (t.dev.canCh ch).colNext = (s.dev.canCh ch).colNext + 1 ∧
      ∃ w, (t.dev.canCh ch).win = some w ∧ w.col = (s.dev.canCh ch).colNext ∧ w.type = x.1 ∧ w.buf = x.2) ∧
  (∀ (s : State) (ch r0 : Nat) (w : SbWin), ch < s.dev.can.ch.length → (s.dev.canCh ch).win = some w → (s.dev.canCh ch).refTick = some r0 →
    sbEnd s.regs ch w.col r0 ≤ s.dev.now → w.type ≠ 1 →
    ∃ t, exec (.sbWindowEnd ch) s = .next t ∧ t.regs = s.regs ∧ t.mem = s.mem ∧ (t.dev.canCh ch).win = none) ∧
  (∀ (s : State) (ch r0 : Nat), canOn s.regs s.dev ch = true → ch < s.dev.can.ch.length → (s.dev.canCh ch).sb = .run → (s.dev.canCh ch).master = false →
    (s.dev.canCh ch).win = none → (s.dev.canCh ch).refTick = some r0 →
    r0 + 250 * s.regs.on F.CAN_SB_LEN_BC_LEN ch + 250 * s.regs.on F.CAN_SB_COL_TOL ch 0 < s.dev.now →
    ∃ t, exec (.sbRefMiss ch) s = .next t ∧ OnlyParts [.can] s t ∧ (t.dev.canCh ch).sb = .sync ∧
      (t.dev.canCh ch).refMiss = ((s.dev.canCh ch).refMiss + 1) % 256 ∧ (t.dev.canCh ch).cycle = ((s.dev.canCh ch).cycle + 1) % sbRows s.regs ch)

/-- 13 R397 R398: a receive context without a frame for TIMEOUT reports NO_NEW once, and the running value of a context is written only while the context is disabled. -/
def Obligations.EndToEndContexts : Prop :=
  (∀ (s : State) (i : Nat), i < 16 → i < s.dev.e2e.ctx.length → 0x20 < s.dev.irq.raw.length → s.regs.bit F.E2E_CFG_EN i = true → s.regs.bit F.E2E_CFG_DIR i = true →
    (s.dev.ctx i).noNew = false → (s.dev.ctx i).lastTick + 250000 * s.regs.at F.E2E_RX_TIMEOUT i ≤ s.dev.now →
    ∃ t, exec (.e2eTimeout i) s = .next t ∧ OnlyParts [.e2e] s t ∧ (t.dev.ctx i).result = 6 ∧ (t.dev.ctx i).noNew = true ∧
      (t.dev.ctx i).bad = ((s.dev.ctx i).bad + 1) % 256 ∧ (at' t.dev.irq.raw 0x20).testBit 2 = true) ∧
  (∀ (s : State) (v : Nat), let i := s.regs.get F.E2E_SEL_CTX
    i < s.dev.e2e.ctx.length →
    ∃ t, exec (.e2eRunWrite v) s = .next t ∧ t.mem = s.mem ∧
      (s.regs.bit F.E2E_CFG_EN i = false → t.regs = s.regs ∧ (t.dev.ctx i).run = v % 2 ^ 32 ∧ (t.dev.ctx i).cnt = (s.dev.ctx i).cnt) ∧
      (s.regs.bit F.E2E_CFG_EN i = true → t.dev.e2e = s.dev.e2e ∧ t.regs = s.regs.reject 0x20 0x54 7))


/-! ### The host interface -/

/-- 19 R554 R559 R561 R562: LOCK opens with its key and closes with any other value or after 100 ms; the rejection is cleared; FREEZE captures and releases; DISCARD drops what waits. -/
def Obligations.PageHeaderCommands : Prop :=
  (∀ (s : State) (p v : Nat), HostServes s.dev p → p < s.regs.hdr.length →
    ∃ t, exec (.lockWrite p v) s = .next t ∧ OnlyParts [] { s with regs := t.regs } t ∧ t.regs.act = s.regs.act ∧ t.regs.shd = s.regs.shd ∧
      (v % 65536 = 0x4C4B → ∀ n, t.regs.lockOpen p n = decide (n < s.dev.now + 25000000)) ∧
      (v % 65536 ≠ 0x4C4B → ∀ n, t.regs.lockOpen p n = false) ∧ ∀ q, q ≠ p → t.regs.head q = s.regs.head q) ∧
  (∀ (s : State) (p t0 : Nat), (s.regs.head p).lockAt = some t0 → t0 + 25000000 ≤ s.dev.now →
    ∃ t, exec (.lockExpire p) s = .next t ∧ OnlyParts [] { s with regs := t.regs } t ∧ t.regs.act = s.regs.act ∧ t.regs.shd = s.regs.shd ∧
      t.regs.head p = { s.regs.head p with lockAt := none } ∧ ∀ q, q ≠ p → t.regs.head q = s.regs.head q) ∧
  (∀ (s : State) (p : Nat), HostServes s.dev p → p < s.regs.hdr.length →
    ∃ t, exec (.cfgRejectedClear p) s = .next t ∧ OnlyParts [] { s with regs := t.regs } t ∧ t.regs.act = s.regs.act ∧ t.regs.shd = s.regs.shd ∧
      t.regs.head p = { s.regs.head p with rejected := false, errOff := 0, errReason := 0, errCount := 0 } ∧
      ∀ q, q ≠ p → t.regs.head q = s.regs.head q) ∧
  (∀ (s : State) (p : Nat) (on : Bool), HostServes s.dev p → p < s.regs.hdr.length →
    ∃ t, exec (.freeze p on) s = .next t ∧ OnlyParts [] { s with regs := t.regs, frozen := t.frozen } t ∧ t.regs.act = s.regs.act ∧ t.regs.shd = s.regs.shd ∧
      t.regs.head p = { s.regs.head p with freeze := on } ∧ (∀ q, q ≠ p → t.regs.head q = s.regs.head q) ∧
      (on = true → ∃ d, (p, s.regs, d) ∈ t.frozen ∧ ∀ q, q ≠ .hst → agreeAt d s.dev q) ∧ (on = false → ∀ e ∈ t.frozen, e.1 ≠ p) ∧
      ∀ e, e.1 ≠ p → (e ∈ t.frozen ↔ e ∈ s.frozen)) ∧
  (∀ (s : State) (p : Nat), HostServes s.dev p → p ≠ 5 → p < s.regs.hdr.length →
    ∃ t, exec (.discard p) s = .next t ∧ OnlyParts [] { s with regs := t.regs } t ∧ t.regs.act = s.regs.act ∧
      t.regs.head p = { s.regs.head p with buf := [], pend := false } ∧ (∀ q, q ≠ p → t.regs.head q = s.regs.head q) ∧
      ∀ e, e ∈ t.regs.shd ↔ e ∈ s.regs.shd ∧ keyPage e.1 ≠ p)

/-- 19 R558 R588: a commit buffers every shadow copy of an enabled page, or rejects with CONFLICT at the lowest offset that breaks a rule; the buffered values come into force together at the item's boundary. The reasons and offsets of a rejection follow the model's reading (log 104). -/
def Obligations.CommitBuffersThenApplies : Prop :=
  (∀ (s : State) (p o : Nat), HostServes s.dev p → hasB p = true → conflictAt (committed s.regs p) s.dev p = some o →
    ∃ t, exec (.commit p) s = .next t ∧ OnlyParts [] { s with regs := t.regs } t ∧ t.regs = s.regs.reject p o 8) ∧
  (∀ (s : State) (p : Nat), HostServes s.dev p → hasB p = true → p ≠ 5 → p < s.regs.hdr.length → conflictAt (committed s.regs p) s.dev p = none →
    s.regs.en p = true →
    ∃ t, exec (.commit p) s = .next t ∧ OnlyParts [] { s with regs := t.regs } t ∧ t.regs.act = s.regs.act ∧ t.regs.shd = s.regs.shd ∧
      t.regs.head p = { s.regs.head p with buf := ofPage p s.regs.shd, pend := true } ∧ ∀ q, q ≠ p → t.regs.head q = s.regs.head q) ∧
  (∀ (s : State) (p idx : Nat), p = 0x0C ∨ p = 0x0D ∨ p = 0x0E ∨ p = 0x2C → s.dev.mde.dstate ≠ .reset → p < s.regs.hdr.length →
    (s.regs.head p).pend = true →
    ∃ t, exec (.commitApply p idx) s = .next t ∧ OnlyParts [] { s with regs := t.regs } t ∧ (t.regs.head p).pend = false ∧ (t.regs.head p).buf = [] ∧
      (t.regs.head p).gen = ((s.regs.head p).gen + 1) % 2 ^ 32 ∧ (∀ q, q ≠ p → t.regs.head q = s.regs.head q) ∧
      (∀ k d, (∀ e ∈ (s.regs.head p).buf, e.1 ≠ k) → sget t.regs.act k d = sget s.regs.act k d) ∧
      ∀ k v, (s.regs.head p).buf = [(k, v)] → sget t.regs.act k (keyReset k) = v)

/-- 19 R563 R566: a write of 1 clears a raw interrupt bit, a forced bit sets as an event would, and an end-of-interrupt sends the message of a vector that still has cause. Where a clause leaves the state as it was because the event is not due, that is the model's choice (log 6). -/
def Obligations.InterruptBitsAndMessages : Prop :=
  (∀ (s : State) (p v : Nat), HostServes s.dev p → p < s.dev.irq.raw.length →
    ∃ t, exec (.irqStatClear p v) s = .next t ∧ OnlyParts [] s t ∧
      (∀ i, (at' t.dev.irq.raw p).testBit i = ((at' s.dev.irq.raw p).testBit i && !(v.testBit i))) ∧
      ∀ q, q ≠ p → at' t.dev.irq.raw q = at' s.dev.irq.raw q) ∧
  (∀ (s : State) (p v : Nat), HostServes s.dev p → p < s.dev.irq.raw.length →
    ∃ t, exec (.irqForce p v) s = .next t ∧ OnlyParts [] s t ∧
      (∀ i, (at' t.dev.irq.raw p).testBit i = ((at' s.dev.irq.raw p).testBit i || (v.testBit i && decide (i < irqCount p)))) ∧
      ∀ q, q ≠ p → at' t.dev.irq.raw q = at' s.dev.irq.raw q) ∧
  (∀ (s : State) (v lo hi data : Nat), HostServes s.dev 3 → (vecPend s.regs s.dev).testBit (v % 32) = true → s.dev.hst.msix = true → s.dev.hst.bme = true →
    s.dev.hst.fnMask = false → s.dev.hst.table.getD (v % 32) (0, 0, 0, 1) = (lo, hi, data, 0) →
    ∃ t, exec (.irqEoi v) s = .next t ∧ OnlyParts [] s t ∧ t.dev.irq.raw = s.dev.irq.raw ∧ Output.msix (v % 32) (lo + hi * 2 ^ 32) data ∈ t.dev.out) ∧
  (∀ (s : State), s.dev.running = true → s.regs.get F.HST_TIMEOUT_MS ≠ 0 → s.dev.hst.timedOut = false → 4 < s.dev.irq.raw.length →
    s.dev.hst.lastAt + 250000 * s.regs.get F.HST_TIMEOUT_MS ≤ s.dev.now →
    ∃ t, exec .hostTimeout s = .next t ∧ OnlyParts [.evt] s t ∧ t.dev.hst.timedOut = true ∧ (at' t.dev.irq.raw 4).testBit 3 = true)

/-- 19 R546 R549 R551 R552 R556 R557, 00 R10: register writes, reads and latches, and what both ports carry. What a word without storage reads, and the latch by port and address, follow the model's reading (log 103). Where a clause leaves the state as it was because the event is not due, that is the model's choice (log 6). -/
def Obligations.HostAccesses : Prop :=
  (∀ (s : State) (port : Port) (v : Nat), serves s.dev port 0x4050 = true →
    ∃ t, exec (.registerWrite port 0x4050 v) s = .next t ∧ OnlyParts [] { s with regs := t.regs } t ∧
      t.regs.get F.HST_TIMEOUT_MS = v % 65536 ∧ SameButKey (F.HST_TIMEOUT_MS.key 0 0 0 0) s.regs t.regs ∧ t.regs.shd = s.regs.shd ∧ t.regs.hdr = s.regs.hdr) ∧
  (∀ (s : State) (port : Port) (a v : Nat), serves s.dev port a = true → region a = .unmapped → 4 < s.dev.irq.raw.length →
    ∃ t, exec (.registerWrite port a v) s = .next t ∧ OnlyParts [] s t ∧ t.dev.hst.unmapped = (s.dev.hst.unmapped + 1) % 256 ∧
      t.dev.hst.lastErr = (a % 2 ^ 27, portNum port, 2) ∧ (at' t.dev.irq.raw 4).testBit 1 = true) ∧
  (∀ (s : State) (a v be : Nat), s.dev.hst.up = true → serves s.dev .pcie a = true → region a = .packet → s.dev.tw812 = false → a % 4 = 0 →
    ∃ t, exec (.pcieRequest [{ space := .map, write := true, addr := a, data := v, be := be }]) s = .next t ∧ OnlyParts [] { s with mem := t.mem } t ∧
      (∀ i, i < 4 → be.testBit i = true → Memory.read t.mem (a + i) = BitVec.ofNat 8 (v / 256 ^ i)) ∧
      ∀ b, (∀ i, i < 4 → be.testBit i = true → b ≠ a + i) → Memory.read t.mem b = Memory.read s.mem b) ∧
  (∀ (s : State) (a : Nat) (w : QspiWord), serves s.dev .qspi a = true → region a = .ucode → a % 4 = 0 → a < 2 ^ 32 → s.regs.bit F.HST_SPI_CFG_CRC_EN = false →
    ∃ t, exec (.qspiTransfer { cmd := 0xEB, addr := a, words := [w], cut := false }) s = .next t ∧ OnlyParts [] s t ∧
      Output.read .qspi a (leNat (Memory.readBytes s.mem a 4)) ∈ t.dev.out) ∧
  (∀ (s : State) (w : QspiWord) (l : List QspiWord) (a : Nat), serves s.dev .qspi a = true → a % 4 = 0 → a < 2 ^ 32 → s.regs.bit F.HST_SPI_CFG_CRC_EN = true →
    w.crc % 65536 ≠ spiCrc a (w.data % 2 ^ 32) → 4 < s.dev.irq.raw.length →
    ∃ t, exec (.qspiTransfer { cmd := 0x38, addr := a, words := w :: l, cut := false }) s = .next t ∧ OnlyParts [] s t ∧
      t.dev.hst.spiCrc = (s.dev.hst.spiCrc + 1) % 256 ∧ (at' t.dev.irq.raw 4).testBit 2 = true) ∧
  (∀ (s : State) (port : Port), serves s.dev port (0x21 * 4096 + 0x90) = true → latchOf s.dev port (0x21 * 4096 + 0x90) = none →
    ∃ t, exec (.latchRead port (0x21 * 4096 + 0x90)) s = .next t ∧ OnlyParts [] s t ∧
      latchOf t.dev port (0x21 * 4096 + 0x94) = some (blockWord s 0x21 0x94 false) ∧
      Output.read port (0x21 * 4096 + 0x90) (blockWord s 0x21 0x90 false) ∈ t.dev.out)

/-- 18 R528, 19 R568: a hot reset or link-down puts page HST at its reset values and takes the link down, and training brings it up. Where a clause leaves the state as it was because the event is not due, that is the model's choice (log 6). -/
def Obligations.PcieLinkDownAndUp : Prop :=
  (∀ (s : State) (down : Bool), s.dev.mde.dstate ≠ .reset → (down = false ∨ s.dev.hst.up = true) →
    ∃ t, exec (.pcieHotReset down) s = .next t ∧ OnlyParts [] { s with regs := t.regs } t ∧ t.dev.hst.up = false ∧ t.dev.hst.unmapped = 0 ∧
      t.dev.hst.spiCfg = s.dev.hst.spiCfg ∧ t.regs.get F.HST_TIMEOUT_MS = F.HST_TIMEOUT_MS.reset ∧
      (∀ k d, keyPage k ≠ 4 → sget t.regs.act k d = sget s.regs.act k d) ∧ ∀ q, q ≠ 4 → t.regs.head q = s.regs.head q) ∧
  (∀ (s : State) (w v : Nat), s.dev.mde.dstate ≠ .reset → s.dev.pwr.on.testBit 12 = true → domainHeld s.dev 12 (ticksUs 200) = true → s.dev.clk.lock.testBit 7 = true →
    s.dev.hst.up = false → 4 < s.dev.irq.raw.length →
    ∃ t, exec (.pcieLinkUp w v) s = .next t ∧ OnlyParts [] s t ∧ t.dev.hst.up = true ∧ t.dev.hst.width = w % 4 ∧ t.dev.hst.speed = v % 4 ∧
      (at' t.dev.irq.raw 4).testBit 0 = true)

/-! ### Ethernet MACs -/

/-- 14 R415 R417: an accepted frame that is no UDP datagram goes whole into the oldest free buffer, which becomes the newest filled one; without a buffer it is dropped, and a frame with a bad FCS is only counted. The places of header fields are those of the standards (the model's reading, log 28). -/
def Obligations.EthernetReception : Prop :=
  (∀ (s : State) (n b at_ : Nat) (rest : List Nat) (f : List Byte), ethOn s.regs s.dev n = true → n < s.dev.eth.length → (s.dev.mac n).link = true →
    s.regs.on F.ETH_CFG_RX_EN n = 1 → 60 ≤ f.length → f.length ≤ 1518 → doubleTagged f = false → ethAccepts s.regs n (beAt f 0 6) = true →
    (udpOf f).isNone = true → (s.dev.mac n).free = b :: rest →
    ∃ t, exec (.ethRxFrame n f true at_) s = .next t ∧ OnlyParts [.eth] { s with mem := t.mem } t ∧ (t.dev.mac n).free = rest ∧
      (t.dev.mac n).filled = (s.dev.mac n).filled ++ [b] ∧ (t.dev.mac n).rxOk = ((s.dev.mac n).rxOk + 1) % 2 ^ 16 ∧
      Memory.readBytes t.mem (bufAddr n b + 0x40) f.length = f ∧ leNat (Memory.readBytes t.mem (bufAddr n b) 2) = f.length ∧
      (∀ a, a < bufAddr n b ∨ bufAddr n b + 0x40 + f.length ≤ a → Memory.read t.mem a = Memory.read s.mem a) ∧
      ∀ k, k ≠ n → t.dev.mac k = s.dev.mac k) ∧
  (∀ (s : State) (n at_ : Nat) (f : List Byte), ethOn s.regs s.dev n = true → n < s.dev.eth.length → (s.dev.mac n).link = true →
    s.regs.on F.ETH_CFG_RX_EN n = 1 → 60 ≤ f.length → f.length ≤ 1518 → doubleTagged f = false → ethAccepts s.regs n (beAt f 0 6) = true →
    (udpOf f).isNone = true → (s.dev.mac n).free = [] →
    ∃ t, exec (.ethRxFrame n f true at_) s = .next t ∧ OnlyParts [.eth] s t ∧ (t.dev.mac n).filled = (s.dev.mac n).filled ∧
      (t.dev.mac n).rxDrop = ((s.dev.mac n).rxDrop + 1) % 2 ^ 16) ∧
  (∀ (s : State) (n at_ : Nat) (f : List Byte), ethOn s.regs s.dev n = true → n < s.dev.eth.length → (s.dev.mac n).link = true →
    s.regs.on F.ETH_CFG_RX_EN n = 1 →
    ∃ t, exec (.ethRxFrame n f false at_) s = .next t ∧ OnlyParts [.eth] s t ∧
      t.dev.mac n = { s.dev.mac n with errFcs := ((s.dev.mac n).errFcs + 1) % 256 })

/-- 14 R417 R418: what the host gives the MAC and takes from it, oldest first. -/
def Obligations.EthernetBuffersAndCompletions : Prop :=
  (∀ (s : State) (n v : Nat), n < 4 → pageAbsent s.dev (0x22 + n) = false → n < s.dev.eth.length →
    ∃ t, exec (.ethRxFree n v) s = .next t ∧ OnlyParts [.eth] s t ∧ t.dev.mac n = { s.dev.mac n with free := (s.dev.mac n).free ++ [v % 128] } ∧
      ∀ k, k ≠ n → t.dev.mac k = s.dev.mac k) ∧
  (∀ (s : State) (port : Port) (n : Nat), n < s.dev.eth.length →
    ∃ t, exec (.ethRxPop port n) s = .next t ∧ OnlyParts [.eth] s t ∧
      (∀ b l, (s.dev.mac n).filled = b :: l → t.dev.mac n = { s.dev.mac n with filled := l } ∧ Output.read port ((0x22 + n) * 4096 + 0x8C) (2 ^ 31 + b) ∈ t.dev.out) ∧
      ((s.dev.mac n).filled = [] → t.dev.eth = s.dev.eth ∧ Output.read port ((0x22 + n) * 4096 + 0x8C) 0 ∈ t.dev.out)) ∧
  (∀ (s : State) (port : Port) (n : Nat), n < s.dev.eth.length →
    ∃ t, exec (.ethTxcPop port n) s = .next t ∧ OnlyParts [.eth] s t ∧
      (∀ b x l, (s.dev.mac n).txc = (b, x) :: l →
        t.dev.mac n = { s.dev.mac n with txc := l } ∧ Output.read port ((0x22 + n) * 4096 + 0x84) (2 ^ 31 + 256 * x + b) ∈ t.dev.out) ∧
      ((s.dev.mac n).txc = [] → t.dev.eth = s.dev.eth ∧ Output.read port ((0x22 + n) * 4096 + 0x84) 0 ∈ t.dev.out))

/-- 14 R418 R422 R423 R426: frames join the end of their queue or are refused; a due launch frame starts; a late one is withdrawn with RESULT 1 or kept; a sent one completes with RESULT 0; a lost link flushes all with RESULT 2. RESULT 2 for frames that are pushed or wait while the link is down is the model's reading (log 97). -/
def Obligations.EthernetTransmission : Prop :=
  (∀ (s : State) (n v : Nat), let q := bits v 10 8
    let tm := leNat (Memory.readBytes s.mem (bufAddr n (v % 128) + 8) 8)
    ethOn s.regs s.dev n = true → n < s.dev.eth.length → q < (s.dev.mac n).queues.length → q < (s.dev.mac n).refused.length →
    ∃ t, exec (.ethTxPush n v) s = .next t ∧ OnlyParts [.eth] s t ∧
      ((at' (s.dev.mac n).queues q).length < 16 → s.regs.on F.ETH_TXQ_CFG_EN n q = 1 → (s.dev.mac n).link = true → (s.dev.mac n).sending.isSome = true →
        at' (t.dev.mac n).queues q = at' (s.dev.mac n).queues q ++ [{ buf := v % 128, launch := v.testBit 11, oneStep := v.testBit 12, time := tm }] ∧ (t.dev.mac n).sending = (s.dev.mac n).sending) ∧
      (16 ≤ (at' (s.dev.mac n).queues q).length ∨ s.regs.on F.ETH_TXQ_CFG_EN n q ≠ 1 →
        (t.dev.mac n).queues = (s.dev.mac n).queues ∧ at' (t.dev.mac n).refused q = (at' (s.dev.mac n).refused q + 1) % 256)) ∧
  (∀ (s : State) (n q : Nat) (x : TxFrame), ethOn s.regs s.dev n = true → n < s.dev.eth.length → q < 8 → q < (s.dev.mac n).queues.length →
    (s.dev.mac n).link = true → s.regs.on F.ETH_CFG_TX_EN n = 1 → (s.dev.mac n).sending = none → s.dev.txHead n q = some x → x.launch = true →
    x.time ≤ queueNow s.regs s.dev n q + 64 → txEligible s.regs s.dev n q x = true → (∀ k, k < 8 → k ≠ q → at' (s.dev.mac n).queues k = []) →
    ∃ t, exec (.ethLaunchDue n q) s = .next t ∧ OnlyParts [.eth] s t ∧ (t.dev.mac n).sending = some (q, x) ∧
      at' (t.dev.mac n).queues q = (at' (s.dev.mac n).queues q).drop 1) ∧
  (∀ (s : State) (n q : Nat) (x : TxFrame), ethOn s.regs s.dev n = true → n < s.dev.eth.length → q < (s.dev.mac n).missed.length →
    0x22 + n < s.dev.irq.raw.length → s.dev.txHead n q = some x → x.launch = true → x.late = false → txLate s.regs s.dev n q x = true →
    ∃ t, exec (.ethLaunchLate n q) s = .next t ∧ OnlyParts [.eth] s t ∧ at' (t.dev.mac n).missed q = (at' (s.dev.mac n).missed q + 1) % 256 ∧
      (at' t.dev.irq.raw (0x22 + n)).testBit 2 = true ∧
      (s.regs.on F.ETH_TXQ_CFG_LATE_ACT n q ≠ 1 → (t.dev.mac n).txc = (s.dev.mac n).txc ++ [(x.buf, 1)]) ∧
      (s.regs.on F.ETH_TXQ_CFG_LATE_ACT n q = 1 → (t.dev.mac n).txc = (s.dev.mac n).txc)) ∧
  (∀ (s : State) (n q at_ : Nat) (x : TxFrame), n < s.dev.eth.length → (s.dev.mac n).sending = some (q, x) → x.oneStep = false →
    let a := bufAddr n x.buf
    let f := Memory.readBytes s.mem (a + 0x40) (min (leNat (Memory.readBytes s.mem a 2)) 1518)
    ∃ t, exec (.ethTxDone n at_) s = .next t ∧ OnlyParts [.eth] { s with mem := t.mem } t ∧ (t.dev.mac n).txc = (s.dev.mac n).txc ++ [(x.buf, 0)] ∧
      Output.eth n (f ++ List.replicate (60 - f.length) 0) ∈ t.dev.out ∧
      Memory.readBytes t.mem (a + 0x10) 8 = leBytes 8 (wrapU 64 ((at_ : Int) + wrapS 16 (s.regs.on F.ETH_CORR_TX n))) ∧
      ∀ b, b < a + 2 ∨ a + 0x28 ≤ b → Memory.read t.mem b = Memory.read s.mem b) ∧
  (∀ (s : State) (n : Nat) (done full : Bool), ethOn s.regs s.dev n = true → n < s.dev.eth.length → 0x22 + n < s.dev.irq.raw.length →
    ∃ t, exec (.ethLinkChange n done full) s = .next t ∧ OnlyParts [.eth] s t ∧ (t.dev.mac n).link = (done && full) ∧ (t.dev.mac n).anDone = done ∧
      (t.dev.mac n).badMode = (done && !full) ∧ ((s.dev.mac n).link ≠ (done && full) → (at' t.dev.irq.raw (0x22 + n)).testBit 3 = true) ∧
      ((done && full) = false → (t.dev.mac n).sending = none ∧ (t.dev.mac n).queues = List.replicate 8 [] ∧
        (t.dev.mac n).txc.length = (s.dev.mac n).txc.length + (if (s.dev.mac n).sending.isSome then 1 else 0) + ((s.dev.mac n).queues.map List.length).sum))

/-- 14 ETHn_MDIO: a write starts one clause 22 access, BUSY while it lasts, and its end brings the data of a read. A write during an access is left out here (its lack of effect is the model's reading, log 29). -/
def Obligations.EthernetMdioAccess : Prop :=
  (∀ (s : State) (n v : Nat), n < 4 → pageAbsent s.dev (0x22 + n) = false → n < s.dev.eth.length → (s.dev.mac n).mdioBusy = false →
    ∃ t, exec (.mdioWrite n v) s = .next t ∧ OnlyParts [.eth] s t ∧ (t.dev.mac n).mdioBusy = true ∧ (t.dev.mac n).mdioData = v % 65536 ∧
      Output.mdio n 1 (bits v 25 21) (bits v 20 16) (v % 65536) ∈ t.dev.out) ∧
  (∀ (s : State) (n v : Nat), n < 4 → pageAbsent s.dev (0x22 + n) = false → n < s.dev.eth.length → (s.dev.mac n).mdioBusy = false →
    ∃ t, exec (.mdioRead n v) s = .next t ∧ OnlyParts [.eth] s t ∧ (t.dev.mac n).mdioBusy = true ∧ (t.dev.mac n).mdioOp = 2 ∧
      Output.mdio n 2 (bits v 25 21) (bits v 20 16) (v % 65536) ∈ t.dev.out) ∧
  (∀ (s : State) (n data : Nat), n < s.dev.eth.length → (s.dev.mac n).mdioBusy = true →
    ∃ t, exec (.mdioDone n data) s = .next t ∧ OnlyParts [.eth] s t ∧
      t.dev.mac n = { s.dev.mac n with mdioBusy := false, mdioData := if (s.dev.mac n).mdioOp = 2 then data % 65536 else (s.dev.mac n).mdioData })

/-! ### Time bases and device time -/

/-- 05 R152 R153 R155: TB0 enters HOLDOVER with the rms of its last offsets as its error, that error grows each second, and the clock step moves TB0 alone at its second. That the rms of the last offsets is the error at the start, and what else moves with a step, follow the model's reading (log 89). -/
def Obligations.DeviceTimeHoldoverAndStep : Prop :=
  (∀ (s : State), s.dev.awake = true → srvMode s.regs s.dev 0 = 1 → tb0Silent s.regs s.dev = true → s.dev.gns2.st = .locked → 0x21 < s.dev.irq.raw.length →
    ∃ t, exec .holdoverEntry s = .next t ∧ OnlyParts [.gns2, .tim] s t ∧ t.dev.gns2.st = .holdover ∧ t.dev.gns2.holdStart = s.dev.tb0 ∧
      t.dev.gns2.estErr = ofsRms s.dev.gns2.hist ∧ t.dev.gns2.stepAt = none ∧ t.dev.tim.tb = s.dev.tim.tb ∧
      (at' t.dev.irq.raw 0x0E).testBit 1 = true ∧ (at' t.dev.irq.raw 0x21).testBit 1 = true ∧ (at' t.dev.irq.raw 0x21).testBit 2 = true) ∧
  (∀ (s : State), s.dev.gns2.st = .holdover → (s.dev.tb0 - s.dev.gns2.holdStart) % nsPerSec < 5 → 0x0E < s.dev.irq.raw.length →
    let e := ((holdErr s.regs s.dev.gns2.e0 s.dev.holdAge).round).toNat
    ∃ t, exec .holdoverErrUpdate s = .next t ∧ OnlyParts [.gns2] s t ∧ t.dev.gns2.estErr = min e (2 ^ 32 - 1) ∧ t.dev.gns2.st = .holdover ∧
      (s.regs.get F.GNS2_HOLD_LIMIT_LIMIT < e → t.dev.gns2.limitPassed = true ∧
        (s.dev.gns2.limitPassed = false → (at' t.dev.irq.raw 0x0E).testBit 4 = true))) ∧
  (∀ (s : State) (at_ : Nat), s.dev.gns2.stepAt = some at_ → at_ ≤ s.dev.tb0 → s.dev.awake = true → 0x21 < s.dev.irq.raw.length → 0 < s.dev.tim.tb.length →
    ∃ t, exec .clockStep s = .next t ∧ OnlyParts [.gns2, .evt, .tim, .can, .eth, .mde, .src, .fus, .flt] s t ∧ t.dev.gns2.st = .locked ∧
      t.dev.gns2.stepAt = none ∧ t.dev.tb0 = ((s.dev.tb 0).step (-(s.dev.gns2.stepOfs))).total ∧ (∀ i, i ≠ 0 → t.dev.tb i = s.dev.tb i) ∧
      (at' t.dev.irq.raw 0x0E).testBit 3 = true ∧ (at' t.dev.irq.raw 0x21).testBit 4 = true)

/-- 05 R158 R159 R160: the pulse of a second goes out once at its instant for its width, and the time message about the next pulse is written once beforehand. -/
def Obligations.PulseAndTimeMessage : Prop :=
  (∀ (s : State), let sec := (((s.dev.tb0 : Int) + s.regs.int F.GNS2_PPS_ADV_ADV) / nsPerSec).toNat
    s.dev.awake = true → ppsAllowed s.regs s.dev = true → (∀ p, s.dev.gns2.pulsed = some p → p < sec) → s.dev.gns2.skipTo < sec →
    (s.dev.tb0 : Int) - pulseTime s.regs sec < 5 →
    ∃ t, exec .ppsPulse s = .next t ∧ OnlyParts [.gns2] s t ∧ t.dev.gns2.pulsed = some sec ∧ t.dev.gns2.pps = !(s.regs.bit F.GNS2_PPS_CFG_POL) ∧
      t.dev.gns2.pulseEnd = some (s.dev.now + 250 * s.regs.get F.GNS2_PPS_CFG_WIDTH) ∧ Output.pin 2 (!(s.regs.bit F.GNS2_PPS_CFG_POL)) ∈ t.dev.out ∧
      t.dev.gns2.st = s.dev.gns2.st ∧ t.dev.gns2.stepAt = s.dev.gns2.stepAt) ∧
  (∀ (s : State) (e : Nat), s.dev.gns2.pulseEnd = some e → e ≤ s.dev.now →
    ∃ t, exec .ppsPulseEnd s = .next t ∧ OnlyParts [.gns2] s t ∧
      t.dev.gns2 = { s.dev.gns2 with pulseEnd := none, pps := s.regs.bit F.GNS2_PPS_CFG_POL } ∧ Output.pin 2 (s.regs.bit F.GNS2_PPS_CFG_POL) ∈ t.dev.out) ∧
  (∀ (s : State), let sec := Dev.nextPulse s.regs s.dev
    s.dev.awake = true → ppsAllowed s.regs s.dev = true → 200000000 ≤ pulseTime s.regs sec - (s.dev.tb0 : Int) → pulseTime s.regs sec - (s.dev.tb0 : Int) ≤ 990000000 →
    s.dev.gns2.msgFor ≠ some sec → 0x0E < s.dev.irq.raw.length →
    ∃ t, exec .tpMsg s = .next t ∧ OnlyParts [.gns2] s t ∧ t.dev.gns2.msgFor = some sec ∧ t.dev.gns2.seq = (s.dev.gns2.seq + 1) % 2 ^ 16 ∧
      t.dev.gns2.tpMsg = ((List.range 8).map fun i => BitVec.ofNat 32 (leAt (tpBytes s.regs s.dev sec) (4 * i) 4)) ∧ (at' t.dev.irq.raw 0x0E).testBit 0 = true)

/-- 14 R407 R408: SNAP latches the four bases together; GO steps TB1 or TB2 and no other base, and is rejected for TB0 and TB3. -/
def Obligations.TimeBaseSnapAndStep : Prop :=
  (∀ (s : State), ∃ t, exec .timSnap s = .next t ∧ OnlyParts [.tim] s t ∧ t.dev.tim = { s.dev.tim with snap := s.dev.tim.tb }) ∧
  (∀ (s : State), let b := s.regs.get F.TIM_STEP_CTL_TB
    b = 1 ∨ b = 2 → b < s.dev.tim.tb.length → 0x21 < s.dev.irq.raw.length →
    ∃ t, exec .timStepGo s = .next t ∧ OnlyParts [.tim, .eth, .evt] s t ∧ (at' t.dev.irq.raw 0x21).testBit 4 = true ∧
      t.dev.tb b = (s.dev.tb b).step (wrapS 64 (s.regs.get F.TIM_STEP_LO_STEP_LO + 2 ^ 32 * s.regs.get F.TIM_STEP_HI_STEP_HI : Nat)) ∧
      ∀ i, i ≠ b → t.dev.tb i = s.dev.tb i) ∧
  (∀ (s : State), let b := s.regs.get F.TIM_STEP_CTL_TB
    b ≠ 1 → b ≠ 2 →
    ∃ t, exec .timStepGo s = .next t ∧ OnlyParts [] { s with regs := t.regs } t ∧ t.regs = s.regs.reject 0x21 0x98 3)

/-- 14 R409 R410 R413 R414: an offset reaches a base only from its own source; the fourth good offset in a row locks the base; silence takes it to HOLDOVER. The state read in each mode follows the model's reading (log 24, 89). -/
def Obligations.ServoSourcesAndStates : Prop :=
  (∀ (s : State) (v : Nat), let b := s.regs.get F.TIM_TB_SEL_TB
    (b = 1 ∨ b = 2) → b < s.dev.tim.srv.length → 0x21 < s.dev.irq.raw.length →
    ∃ t, exec (.srvOfsIn v) s = .next t ∧ OnlyParts [.tim] s t ∧
      (s.regs.at F.TIM_SRV_CFG_SRC b ≠ 0 → t.dev.tim = s.dev.tim) ∧
      (s.regs.at F.TIM_SRV_CFG_SRC b = 0 → s.regs.at F.TIM_SRV_CFG_MODE b = 1 →
        (t.dev.srv b).updates = ((s.dev.srv b).updates + 1) % 2 ^ 16 ∧ (t.dev.srv b).lastOfs = s.dev.tb3 ∧
        ((wrapS 32 v).natAbs ≤ s.regs.at F.TIM_SRV_LOCK_THR b → 3 ≤ (s.dev.srv b).good →
          (t.dev.srv b).state = .locked ∧ ((s.dev.srv b).state ≠ .locked → (at' t.dev.irq.raw 0x21).testBit 0 = true)) ∧
        (s.regs.at F.TIM_SRV_LOCK_THR b < (wrapS 32 v).natAbs → 3 ≤ (s.dev.srv b).bad → (t.dev.srv b).state = .acquiring))) ∧
  (∀ (s : State), s.regs.bit F.TIM_PPSIN_CFG_EN = true → s.dev.awake = true → 0x21 < s.dev.irq.raw.length →
    ∃ t, exec .ppsinEdge s = .next t ∧ t.regs = s.regs ∧ t.mem = s.mem ∧ t.dev.tim.ppsEdges = (s.dev.tim.ppsEdges + 1) % 2 ^ 16 ∧
      t.dev.tim.ppsT = s.dev.tim.tb.map TimeBase.total ∧ t.dev.tim.ppsAt = some s.dev.now ∧ (at' t.dev.irq.raw 0x21).testBit 5 = true ∧
      ((∀ b, b < 3 → srvSrc s.regs s.dev b ≠ 2) → OnlyParts [.tim] s t ∧ t.dev.tim.srv = s.dev.tim.srv)) ∧
  (∀ (s : State) (t0 : Nat), s.regs.bit F.TIM_PPSIN_CFG_EN = true → s.dev.tim.ppsAt = some t0 → t0 + 500000000 ≤ s.dev.now → s.dev.tim.ppsLost = false →
    0x21 < s.dev.irq.raw.length →
    ∃ t, exec .ppsinLost s = .next t ∧ OnlyParts [.tim] s t ∧ t.dev.tim = { s.dev.tim with ppsLost := true } ∧ (at' t.dev.irq.raw 0x21).testBit 6 = true) ∧
  (∀ (s : State) (b : Nat), b = 1 ∨ b = 2 → b < s.dev.tim.srv.length → s.regs.at F.TIM_SRV_CFG_MODE b = 1 → 0x21 < s.dev.irq.raw.length →
    ((s.dev.srv b).state = .locked ∨ (s.dev.srv b).state = .acquiring) → (s.dev.srv b).lastOfs + s.regs.at F.TIM_SRV_LOCK_TIMEOUT b * 1000000000 ≤ s.dev.tb3 →
    ∃ t, exec (.servoHoldover b) s = .next t ∧ OnlyParts [.tim] s t ∧ (t.dev.srv b).state = .holdover ∧ (t.dev.srv b).i = (s.dev.srv b).i ∧
      (t.dev.srv b).y = (s.dev.srv b).y ∧ (at' t.dev.irq.raw 0x21).testBit 2 = true) ∧
  (∀ (s : State), s.dev.awake = true → s.dev.tb0 % nsPerSec < 5 → s.dev.tb0 / nsPerSec ≠ s.dev.tim.secLatched →
    ∃ t, exec .tbSecondLatch s = .next t ∧ t.regs = s.regs ∧ t.mem = s.mem ∧ t.dev.tim.secLatched = s.dev.tb0 / nsPerSec ∧
      (srvSrc s.regs s.dev 0 ≠ 3 → srvSrc s.regs s.dev 0 ≠ 4 → OnlyParts [.tim] s t) ∧
      (srvSrc s.regs s.dev 0 = 3 → srvMode s.regs s.dev 0 = 1 → t.dev.gns2.offset = (s.dev.tb0 : Int) - (s.dev.tb 1).total) ∧
      (srvSrc s.regs s.dev 0 = 4 → srvMode s.regs s.dev 0 = 1 → t.dev.gns2.offset = (s.dev.tb0 : Int) - (s.dev.tb 2).total))

/-- 03 R93, 05 R161 R163: the kept data go 30 days after the last refresh, and the asleep level starts a refresh REFRESH hours after the last, with only the domains it needs. The sign of the refresh's offset is left out here (the model's reading, log 89). -/
def Obligations.KeptDataAndRefresh : Prop :=
  (∀ (s : State) (t0 : Nat), s.dev.gns2.kept.at_ = some t0 →
    ∃ t, exec .keptDataDiscard s = .next t ∧ OnlyParts [.gns2] s t ∧
      (t0 + 2592000 ≤ s.dev.tb3 / 1000000000 → t.dev.gns2 = { s.dev.gns2 with kept := {} }) ∧
      (s.dev.tb3 / 1000000000 < t0 + 2592000 → t.dev.gns2 = s.dev.gns2)) ∧
  (∀ (s : State), s.dev.mde.dorm = .asleep → s.regs.get F.MDE_DORM_CFG_REFRESH ≠ 0 →
    s.dev.mde.refreshAt + 3600 * s.regs.get F.MDE_DORM_CFG_REFRESH ≤ s.dev.tb3 / 1000000000 →
    ∃ t, exec .dormantRefresh s = .next t ∧ OnlyParts [.mde, .pwr] s t ∧ t.dev.mde = { s.dev.mde with dorm := .refresh, refreshFrom := s.dev.tb3 / 1000000000 } ∧
      (∀ i, t.dev.pwr.on.testBit i = (s.dev.pwr.on.testBit i || i == 3 || i == 5)))

/-! ### GNSS receiver and solutions -/

/-- 04 R103 R104: an epoch counts one; the gain of an enabled path in automatic mode moves by at most 3 dB, in fixed mode it is the fixed gain. That the gain moves by an opaque step bounded by 3 dB is the model's choice (log 37). -/
def Obligations.GnssEpochGain : Prop :=
  ∀ (s : State) (ps : List PathMeas) (cs : List ChMeas) (sky : List SkySat), gnssRuns s.regs s.dev = true →
    ∃ t, exec (.gnssEpoch ps cs sky) s = .next t ∧ t.regs = s.regs ∧ t.mem = s.mem ∧ t.dev.gns0.epoch = s.dev.gns0.epoch + 1 ∧
      t.dev.gns0.bankOff = !(s.regs.bit F.GNS0_ACQ_CFG_BANK_USE) ∧
      ∀ p, p < s.dev.gns0.paths.length →
        (pathEnabled s.regs s.dev p = false → (t.dev.path p).gain = (s.dev.path p).gain) ∧
        (pathEnabled s.regs s.dev p = true → s.regs.bit F.GNS0_AGC_CFG_MODE p = true → (t.dev.path p).gain = s.regs.at F.GNS0_AGC_CFG_FIXED_GAIN p) ∧
        (pathEnabled s.regs s.dev p = true → s.regs.bit F.GNS0_AGC_CFG_MODE p = false → (s.dev.path p).gain ≤ 120 →
          (t.dev.path p).gain ≤ (s.dev.path p).gain + 6 ∧ (s.dev.path p).gain ≤ (t.dev.path p).gain + 6 ∧ (t.dev.path p).gain ≤ 120)

/-- 04 R105 R106 R110 R111 R112: the jamming indicator with its ten readings of warning, the calibration of its references, and the path fault that releases a path's channels. The rounding of the means is the model's choice (log 38). -/
def Obligations.GnssJammingAndPathFaults : Prop :=
  (∀ (s : State), gnssRuns s.regs s.dev = true → 0x0C < s.dev.irq.raw.length →
    ∃ t, exec .jamEval s = .next t ∧ OnlyParts [.gns0, .evt] s t ∧ ∀ p, p < s.dev.gns0.paths.length → pathEnabled s.regs s.dev p = true →
      let x := s.dev.path p
      let y := t.dev.path p
      let thr := s.regs.at F.GNS0_JAM_THR_WARN p
      y.dn = min 255 (x.noise - s.regs.at F.GNS0_JAM_REF_N_REF p) ∧ y.dn ≤ y.ji ∧ y.dg ≤ y.ji ∧ y.ji ≤ 255 ∧
        (x.warn = false → thr ≤ y.ji → 9 ≤ x.warnUp → y.warn = true ∧ (at' t.dev.irq.raw 0x0C).testBit 0 = true) ∧
        (x.warn = false → y.ji < thr → y.warn = false) ∧ (x.warn = true → thr ≤ y.ji + 8 → y.warn = true)) ∧
  (∀ (s : State), ∃ t, exec .jamCal s = .next t ∧ OnlyParts [.gns0] s t ∧ t.dev.gns0.cal = true ∧ t.dev.gns0.calEpochs = 0 ∧
    ∀ p, (t.dev.path p).calG = 0 ∧ (t.dev.path p).calN = 0 ∧ (t.dev.path p).calCnt = 0 ∧ (t.dev.path p).gain = (s.dev.path p).gain) ∧
  (∀ (s : State), s.dev.gns0.cal = true → 10000 ≤ s.dev.gns0.calEpochs →
    ∃ t, exec .jamCalDone s = .next t ∧ OnlyParts [.gns0] { s with regs := t.regs } t ∧ t.dev.gns0 = { s.dev.gns0 with cal := false } ∧
      (∀ p, p < ownPaths s.dev → let x := s.dev.path p
        x.calCnt ≠ 0 → t.regs.at F.GNS0_JAM_REF_G_REF p = (2 * x.calG + x.calCnt) / (2 * x.calCnt) % 2 ^ F.GNS0_JAM_REF_G_REF.width ∧
          t.regs.at F.GNS0_JAM_REF_N_REF p = min 255 ((2 * x.calN + x.calCnt) / (2 * x.calCnt))) ∧
      ∀ k d, keyPage k ≠ 0x0C → sget t.regs.act k d = sget s.regs.act k d) ∧
  (∀ (s : State) (p : Nat), p < s.dev.gns0.paths.length → 0x0C < s.dev.irq.raw.length → (s.dev.path p).faultOpen = false → 1000 ≤ (s.dev.path p).openFor →
    ∃ t, exec (.pathFault p false) s = .next t ∧ OnlyParts [.gns0, .evt] s t ∧ (t.dev.path p).faultOpen = true ∧ (at' t.dev.irq.raw 0x0C).testBit 3 = true ∧
      (∀ c ∈ t.dev.gns0.chans, c.st ≠ .idle → c.path ≠ p) ∧ ∀ q ∈ t.dev.gns0.queue, q.path ≠ p) ∧
  (∀ (s : State) (p : Nat), p < s.dev.gns0.paths.length → 0x0C < s.dev.irq.raw.length → (s.dev.path p).faultOver = true → (s.dev.path p).faultOpen = false →
    5000 ≤ (s.dev.path p).overClear →
    ∃ t, exec (.pathFault p true) s = .next t ∧ OnlyParts [.gns0, .evt] s t ∧ (t.dev.path p).faultOver = false ∧ t.dev.gns0.chans = s.dev.gns0.chans ∧
      (at' t.dev.irq.raw 0x0C).testBit 3 = true)

/-- 04 R115 R118 R125 R131: a detection puts its search's signal on a channel, a failed pull-in masks the cell, a coasting channel is lost after 1 s and asks for its signal again, and the eleventh fragment makes a block whole. What the receiver hears is the command's operand (the model's choice, log 86). -/
def Obligations.GnssAcquisitionAndLoss : Prop :=
  (∀ (s : State) (x : Search) (c n : Nat), gnssRuns s.regs s.dev = true → s.dev.gns0.search = some x → x.chn = none → x.masked.contains c = false →
    chanFor s.dev (needClass s.regs x.req.sig x.req.path) = some n → n < s.dev.gns0.chans.length →
    ∃ t, exec (.acqPassDone (some c)) s = .next t ∧ OnlyParts [.gns0] s t ∧
      (t.dev.chan n).st = .pullIn ∧ (t.dev.chan n).sig = x.req.sig ∧ (t.dev.chan n).sv = x.req.sv ∧ (t.dev.chan n).path = x.req.path ∧
      t.dev.gns0.search = some { x with chn := some n, cell := c } ∧ ∀ k, k ≠ n → t.dev.chan k = s.dev.chan k) ∧
  (∀ (s : State) (x : Search), gnssRuns s.regs s.dev = true → s.dev.gns0.search = some x → x.chn = none → s.dev.gns0.queue = [] →
    ∃ t, exec (.acqPassDone none) s = .next t ∧ OnlyParts [.gns0] s t ∧
      (x.step + 1 < (ladder s.regs x.serial).length → t.dev.gns0.search = some { x with step := x.step + 1 }) ∧
      ((ladder s.regs x.serial).length ≤ x.step + 1 → t.dev.gns0.search = none)) ∧
  (∀ (s : State) (x : Search) (n : Nat), n < s.dev.gns0.chans.length → (s.dev.chan n).st = .pullIn → 50 ≤ (s.dev.chan n).age →
    (s.dev.chan n).handover = false → s.dev.gns0.search = some x → x.chn = some n →
    ∃ t, exec (.pullInTimeout n) s = .next t ∧ OnlyParts [.gns0] s t ∧ (t.dev.chan n).st = .idle ∧
      t.dev.gns0.search = some { x with chn := none, masked := x.cell :: x.masked }) ∧
  (∀ (s : State) (n : Nat), n < s.dev.gns0.chans.length → (s.dev.chan n).st = .coast → 1000 ≤ (s.dev.chan n).age → 0x0C < s.dev.irq.raw.length →
    ∃ t, exec (.coastTimeout n) s = .next t ∧ OnlyParts [.gns0] s t ∧ (t.dev.chan n).st = .idle ∧ (at' t.dev.irq.raw 0x0C).testBit 5 = true ∧
      ∃ q ∈ t.dev.gns0.queue, q.sig = (s.dev.chan n).sig ∧ q.sv = (s.dev.chan n).sv ∧ q.path = (s.dev.chan n).path) ∧
  (∀ (s : State) (p frag epoch : Nat), let x := at' s.dev.gns0.xt p
    s.dev.linkUp = true → gnssRuns s.regs s.dev = true → p < ownPaths s.dev → p < s.dev.gns0.xt.length → x.epoch = epoch → x.frags ≠ 0 → x.bad = false →
    setBit x.frags frag true = 0x7FF →
    ∃ t, exec (.xtrkFrame p frag epoch true) s = .next t ∧ OnlyParts [.gns0, .ndl] s t ∧ (at' t.dev.gns0.xt p).whole = true ∧
      (at' t.dev.gns0.xt p).active = true ∧ (at' t.dev.gns0.xt p).frags = 0) ∧
  (∀ (s : State) (p frag epoch : Nat), s.dev.linkUp = true → p < s.dev.gns0.xt.length → (at' s.dev.gns0.xt p).bad = false →
    ∃ t, exec (.xtrkFrame p frag epoch false) s = .next t ∧ OnlyParts [.gns0, .ndl] s t ∧ (at' t.dev.gns0.xt p).bad = true ∧ (at' t.dev.gns0.xt p).frags = 0 ∧
      t.dev.gns0.blockErr = (s.dev.gns0.blockErr + 1) % 2 ^ 16 ∧ t.dev.ndl.crc = (s.dev.ndl.crc + 1) % 2 ^ 16)

/-- 05 R137 R143 R163 R165: an epoch is solved once, its type change raises the interrupts that R165 gives, without tile clock there is no solution; RTCM frames are checked and counted; a refresh ends in the asleep level. The solution itself is opaque (the model's choice, log 8). -/
def Obligations.GnssSolutionsAndCorrections : Prop :=
  (∀ (s : State) (m : SolMeas), gnssRuns s.regs s.dev = true → s.regs.en 0x0D = true → solDue s.regs m s.dev = true → 0x0D < s.dev.irq.raw.length →
    ∃ t, exec (.gnssSolution m) s = .next t ∧ t.regs = s.regs ∧ t.mem = s.mem ∧ t.dev.gns1.lastEpoch = m.at_ ∧ t.dev.gns1.type ≤ 4 ∧
      (s.dev.clk.lock.testBit 1 = false → t.dev.gns1.type = 0 ∧ t.dev.gns1.nsv = 0 ∧ t.dev.gns1.attMode = 0) ∧
      (s.dev.gns1.type = 0 → t.dev.gns1.type ≠ 0 → (at' t.dev.irq.raw 0x0D).testBit 0 = true) ∧
      (s.dev.gns1.type ≠ 0 → t.dev.gns1.type = 0 → (at' t.dev.irq.raw 0x0D).testBit 1 = true)) ∧
  (∀ (s : State) (b : List Byte), let n := msgBits b 14 10
    let p := slice b 3 n
    let ty := msgBits p 0 12
    gnssRuns s.regs s.dev = true → s.regs.en 0x0D = true → at' b 0 = 0xD3 → n + 6 ≤ b.length →
    ∃ t, exec (.rtcmFrame b) s = .next t ∧ OnlyParts [.gns1] s t ∧
      (crc24q (slice b 0 (n + 3)) ≠ beNat (slice b (n + 3) 3) → t.dev.gns1 = { s.dev.gns1 with rtcmErr := (s.dev.gns1.rtcmErr + 1) % 2 ^ 16 }) ∧
      (crc24q (slice b 0 (n + 3)) = beNat (slice b (n + 3) 3) → msmTypes.contains ty = true →
        t.dev.gns1.rtcmAcc = (s.dev.gns1.rtcmAcc + 1) % 2 ^ 16 ∧ t.dev.gns1.rtk.msmAt = some s.dev.tb0 ∧ sget t.dev.gns1.rtk.msm ty [] = p) ∧
      (crc24q (slice b 0 (n + 3)) = beNat (slice b (n + 3) 3) → (msmTypes ++ [1005, 1006, 1007, 1008, 1033]).contains ty = false →
        t.dev.gns1 = { s.dev.gns1 with rtcmIgn := (s.dev.gns1.rtcmIgn + 1) % 2 ^ 16 })) ∧
  (∀ (s : State) (m : RefreshMeas), s.dev.mde.dorm = .refresh → 6 ≤ m.eph.eraseDups.length ∨ s.dev.mde.refreshFrom + 120 ≤ s.dev.tb3 / 1000000000 →
    ∃ t, exec (.dormantRefreshDone m) s = .next t ∧ OnlyParts [.free, .gns2, .mde, .pwr] s t ∧ t.dev.mde.dorm = .asleep ∧
      t.dev.mde.refreshAt = s.dev.tb3 / 1000000000 ∧ t.dev.pwr.on = 7 ∧ t.dev.gns2.st = s.dev.gns2.st)

/-! ### Sources, serial ports, the analog chain -/

/-- 06 R167 R168: a record of a source in use joins the end of the queue with its source's count, or is lost at 512; a source without a valid record for TIMEOUT is timed out and its latched reference point goes. -/
def Obligations.SourceRecordsAndTimeouts : Prop :=
  (∀ (s : State) (x : RawRecord) (c : SourceRec), s.dev.sourceRec x.src = some c → x.src < s.dev.src.srcs.length → (s.dev.source x.src).st ≠ .unused →
    s.dev.mde.mode ≠ .dormant → 0x0F < s.dev.irq.raw.length →
    ∃ t, exec (.sourceRecord x) s = .next t ∧ OnlyParts [.src, .evt] s t ∧ (∀ k, k ≠ x.src → t.dev.source k = s.dev.source k) ∧
      (x.flags.testBit 0 = true → (t.dev.source x.src).st = .active ∧ (t.dev.source x.src).validTick = s.dev.now) ∧
      (s.dev.src.queue.length < 512 → (t.dev.source x.src).records = ((s.dev.source x.src).records + 1) % 2 ^ 16 ∧
        ∃ y, t.dev.src.queue = s.dev.src.queue ++ [y] ∧ (t.dev.source x.src).last = y ∧ y.id = x.src ∧ y.stamp = x.stamp % 2 ^ 64 ∧
          y.seq = (s.dev.source x.src).records ∧ y.format = c.format ∧ y.arrival = x.arrival) ∧
      (512 ≤ s.dev.src.queue.length → t.dev.src.queue = s.dev.src.queue ∧ t.dev.src.overflow = (s.dev.src.overflow + 1) % 2 ^ 16 ∧
        (at' t.dev.irq.raw 0x0F).testBit 4 = true)) ∧
  (∀ (s : State) (i : Nat) (c : SourceRec), s.dev.sourceRec i = some c → i < s.dev.src.srcs.length → i < s.dev.fus.srcs.length → s.dev.mde.mode ≠ .dormant →
    ((s.dev.source i).st = .active ∨ (s.dev.source i).st = .waiting) → (s.dev.source i).validTick + ticksOf32 c.timeout ≤ s.dev.now → 0x0F < s.dev.irq.raw.length →
    ∃ t, exec (.sourceTimeout i) s = .next t ∧ OnlyParts [.src, .evt, .fus] s t ∧ t.dev.source i = { s.dev.source i with st := .timedOut } ∧
      (∀ k, k ≠ i → t.dev.source k = s.dev.source k) ∧ (at' t.dev.fus.srcs i).latch = none ∧ (at' t.dev.irq.raw 0x0F).testBit 0 = true)

/-- 06 R174 R175 R177 R196: a line of an enabled port is accepted and counted when a source takes it, and counted by its defect otherwise; a datagram is accepted or rejected whole. The layout of a sentence is that of IEC 61162-1 (the model's reading, log 26). -/
def Obligations.SerialLinesAndDatagrams : Prop :=
  (∀ (s : State) (i start : Nat) (b : List Byte), i < 12 → i < s.dev.sio.ports.length → s.regs.en 0x12 = true → s.regs.bit F.SIO_CFG_PORT_EN i = true →
    0x12 < s.dev.irq.raw.length → (b.take 2).map BitVec.toNat ≠ [0xA5, 0x5A] →
    let p := at' s.dev.sio.ports i
    let l := readLine (s.regs.bit F.SIO_CFG_CKSUM_REQ i) (tagBlock b).2
    ∃ t, exec (.sioLine i b start false) s = .next t ∧ OnlyParts [.sio, .src, .evt] s t ∧ (∀ k, k ≠ i → at' t.dev.sio.ports k = at' s.dev.sio.ports k) ∧
      (∀ a f v, l = .sent a f v → (∃ c ∈ s.dev.descr.sources, c.portKind = 0 ∧ c.port = i ∧ c.takes f a = true) →
        (at' t.dev.sio.ports i).lines = (p.lines + 1) % 2 ^ 16 ∧ (at' t.dev.sio.ports i).raised = 0) ∧
      (l = .cksum → (at' t.dev.sio.ports i).cksum = (p.cksum + 1) % 256 ∧ t.dev.src = s.dev.src ∧ (p.raised.testBit 0 = false → (at' t.dev.irq.raw 0x12).testBit 0 = true)) ∧
      (l = .overlong → (at' t.dev.sio.ports i).overlong = (p.overlong + 1) % 256 ∧ t.dev.src = s.dev.src) ∧
      (l = .other → (at' t.dev.sio.ports i).unmatched = (p.unmatched + 1) % 256 ∧ t.dev.src = s.dev.src)) ∧
  (∀ (s : State) (i start : Nat) (b : List Byte), i < 12 → i < s.dev.sio.ports.length → s.regs.en 0x12 = true → s.regs.bit F.SIO_CFG_PORT_EN i = true →
    ∃ t, exec (.sioLine i b start true) s = .next t ∧ OnlyParts [.sio] s t ∧
      (at' t.dev.sio.ports i).framing = ((at' s.dev.sio.ports i).framing + 1) % 256 ∧ (at' t.dev.sio.ports i).lines = (at' s.dev.sio.ports i).lines) ∧
  (∀ (s : State) (mac g udp stamp : Nat) (b : List Byte), s.regs.en (0x22 + mac) = true → g < 16 → s.regs.on F.ETH_GRP_CFG_EN mac g = 1 →
    s.regs.on F.ETH_GRP_CFG_PORT mac g = udp → (∃ c ∈ s.dev.descr.sources, c.portKind = 1 ∧ c.port = mac ∧ c.matchV % 65536 = udp) →
    let tags := (datagramLines (b.drop 6)).all fun x => match (tagBlock x).1 with | some y => (readTag y).isSome | none => true
    ∃ t, exec (.iec450Datagram mac g udp b stamp) s = .next t ∧ OnlyParts [.sio, .src, .evt] s t ∧ t.dev.sio.ports = s.dev.sio.ports ∧
      ((b.take 6).map BitVec.toNat = [0x55, 0x64, 0x50, 0x62, 0x43, 0] → tags = true → t.dev.sio.acc450 = (s.dev.sio.acc450 + 1) % 2 ^ 16) ∧
      ((b.take 6).map BitVec.toNat ≠ [0x55, 0x64, 0x50, 0x62, 0x43, 0] ∨ tags = false →
        t.dev.sio.rej450 = (s.dev.sio.rej450 + 1) % 2 ^ 16 ∧ t.dev.src = s.dev.src))

/-- 06 R183 R184 R186 R188, 12 R351 R352: withheld samples count a settle down, a valid one enters its input's history, the scan switches after DWELL samples, a count of modulator samples gives the ratios, and a whole SSI word is stored or its failure counted. The order of the causes of a failed SSI word is the model's choice (log 22). -/
def Obligations.AnalogChainAndSsiWords : Prop :=
  (∀ (s : State) (i : Nat) (code : F32) (ovr : Bool), let m := i / 2
    let x := s.dev.modulator m
    i < 16 → m < s.dev.flt.mods.length → i < s.dev.src.ain.length → fltOn s.regs m = true → s.dev.clk.lock.testBit 4 = true → x.sel = i % 2 →
    x.nextOut + groupDelay (fltRate s.regs m) ≤ s.dev.tb0 →
    ∃ t, exec (.analogSample i code ovr) s = .next t ∧ OnlyParts [.flt, .src, .evt] s t ∧
      (t.dev.modulator m).nextOut = gridAfter (fltRate s.regs m) x.nextOut ∧
      (x.settle ≠ 0 → (t.dev.modulator m).settle + 1 = x.settle ∧ t.dev.src = s.dev.src ∧ t.dev.flt.ovr = s.dev.flt.ovr) ∧
      (x.settle = 0 → s.dev.flt.valid.testBit i = true → (t.dev.modulator m).turn = x.turn + 1 ∧ t.dev.flt.ovr.testBit i = ovr ∧
        ∃ v, at' t.dev.src.ain i = ({ at_ := x.nextOut, v := v } :: at' s.dev.src.ain i).take 64)) ∧
  (∀ (s : State) (i : Nat), i < 16 → fltOn s.regs (i / 2) = true → s.dev.clk.lock.testBit 4 = true → (s.dev.modulator (i / 2)).sel = i % 2 →
    (s.dev.modulator (i / 2)).settle = 0 → s.dev.flt.valid.testBit i = false → 0x10 < s.dev.irq.raw.length →
    ∃ t, exec (.fltSettled i) s = .next t ∧ OnlyParts [.flt] s t ∧ t.dev.flt.valid.testBit i = true ∧ t.dev.flt.mods = s.dev.flt.mods ∧
      (at' t.dev.irq.raw 0x10).testBit 0 = true) ∧
  (∀ (s : State) (m : Nat), m < 8 → m < s.dev.flt.mods.length → fltOn s.regs m = true → s.regs.get F.FLT_MOD_CFG_SCAN (m / 4) (m % 4) = 1 →
    s.regs.get F.FLT_MOD_CFG_DWELL (m / 4) (m % 4) ≤ (s.dev.modulator m).turn → 0x10 < s.dev.irq.raw.length →
    ∃ t, exec (.scanSwitch m) s = .next t ∧ OnlyParts [.flt] s t ∧ (t.dev.modulator m).sel = 1 - (s.dev.modulator m).sel ∧ (t.dev.modulator m).turn = 0 ∧
      (t.dev.modulator m).settle = settleCount (fltRate s.regs m) ∧ t.dev.flt.valid.testBit (2 * m) = false ∧ t.dev.flt.valid.testBit (2 * m + 1) = false ∧
      (at' t.dev.irq.raw 0x10).testBit 3 = true) ∧
  (∀ (s : State) (n : Nat), s.dev.awake = true → s.dev.tb0 % nsPerSec < 5 → 0x10 < s.dev.irq.raw.length →
    ∃ t, exec (.fltRatioUpdate n) s = .next t ∧ OnlyParts [.flt, .evt] s t ∧ t.dev.flt.apll = n % 2 ^ 24 ∧
      (∀ m, m < 8 → m < s.dev.flt.mods.length → fltOn s.regs m = true → (t.dev.modulator m).ratio = fltRatio (n % 2 ^ 24) (fltRate s.regs m)) ∧
      (6144614 < n % 2 ^ 24 → (at' t.dev.irq.raw 0x10).testBit 2 = true)) ∧
  (∀ (s : State) (i : Nat) (l : List Bool) (high : Bool), ssiFits s.regs i l s.dev = true → i < s.dev.enc.ssi.length →
    let c := ssiCheck s.regs i l high
    ∃ t, exec (.ssiWordDone i l high) s = .next t ∧ OnlyParts [.enc, .src, .evt] s t ∧ (t.dev.ssi i).reqAt = none ∧
      (c.2 = 0 → (t.dev.ssi i).word = c.1 ∧ (t.dev.ssi i).valid = true ∧ (t.dev.ssi i).fail = false) ∧
      (c.2 ≠ 0 → (t.dev.ssi i).word = (s.dev.ssi i).word ∧ (t.dev.ssi i).valid = false ∧ (t.dev.ssi i).cause = c.2 ∧
        (t.dev.ssi i).fails = ((s.dev.ssi i).fails + 1) % 2 ^ 16 ∧ t.dev.src = s.dev.src))

/-! ### Job placement and fusion -/

/-- 10 R301 R302 R303: a tile fault counts, is recorded, and stays FAULTY until the host clears it; an overrun counts, and the limit of them makes its tile SUSPECT and owed a test. The free run time of a job and the placement's ties do not enter (log 82, 83). Where a clause leaves the state as it was because the event is not due, that is the model's choice (log 6). -/
def Obligations.TileFaultsAndOverruns : Prop :=
  (∀ (s : State) (k : Nat), k < s.dev.tileCount → k < s.dev.msn.tiles.length → (s.dev.tile k).st ≠ .faulty → (s.dev.tile k).st ≠ .off → 7 < s.dev.irq.raw.length →
    ∃ t, exec (.tileFault k) s = .next t ∧ t.regs = s.regs ∧ t.mem = s.mem ∧ (t.dev.tile k).st = .faulty ∧
      t.dev.msn.tileFaults = (s.dev.msn.tileFaults + 1) % 2 ^ 16 ∧ (at' t.dev.irq.raw 7).testBit 1 = true ∧
      ((∃ j, j < 15 ∧ (s.dev.job j).tiles.contains k = true) → (at' t.dev.irq.raw 7).testBit 0 = true) ∧
      ((∀ j, j < 15 → (s.dev.job j).tiles.contains k = false) → OnlyParts [.msn, .grt, .evt] s t ∧ t.dev.msn.jobs = s.dev.msn.jobs)) ∧
  (∀ (s : State) (j us : Nat), j < s.dev.msn.jobs.length → 5 * jobBound s.regs s.dev j < 4 * us → (s.dev.job j).tiles ≠ [] → 7 < s.dev.irq.raw.length →
    ∃ t, exec (.jobOverrun j us) s = .next t ∧ OnlyParts [.msn, .grt] s t ∧ (t.dev.job j).overruns = ((s.dev.job j).overruns + 1) % 2 ^ 16 ∧
      (t.dev.job j).lastUs = us % 2 ^ 16 ∧ ((s.dev.job j).lastOver = false → (at' t.dev.irq.raw 7).testBit 3 = true) ∧
      ∀ k, (s.dev.job j).tiles = [k] → k < s.dev.msn.tiles.length →
        s.regs.get F.MSN_CFG_OVR_LIMIT ≤ ((true :: (s.dev.tile k).runs).take 100).countP id → (t.dev.tile k).st = .suspect ∧ k ∈ t.dev.grt.owed) ∧
  (∀ (s : State) (v : Nat), let k := v % 16
    s.regs.bit F.MSN_DIAG_CTL_EN = true → v.testBit 4 = true → (s.dev.tile k).st = .faulty → k < s.dev.tileCount → k < s.dev.msn.tiles.length →
    ∃ t, exec (.msnDiagClr v) s = .next t ∧ OnlyParts [.msn, .grt] s t ∧ (t.dev.tile k).st = .suspect ∧ k ∈ t.dev.grt.owed ∧ t.dev.msn.jobs = s.dev.msn.jobs) ∧
  (∀ (s : State) (v : Nat), s.regs.bit F.MSN_DIAG_CTL_EN = false →
    ∃ t, exec (.msnDiagClr v) s = .next t ∧ OnlyParts [] s t)

/-- 10 R300 R304, 03 R67: corrected errors of a bank count, more than 16 in an hour make it SUSPECT and move its workspace; an uncorrectable one makes it FAULTY, and takes a running device to SAFE_HOLD where it holds the safety workspace. Which bank is taken among equal ones is the model's reading (log 82). -/
def Obligations.BankErrorsAndCopies : Prop :=
  (∀ (s : State) (b j : Nat) (active : Bool), b < s.dev.bankCount → b < s.dev.msn.banks.length → (s.dev.bank b).st ≠ .faulty →
    let errs := s.dev.tb0 :: (s.dev.bank b).errs.filter fun x => decide (s.dev.tb0 < x + 3600 * nsPerSec)
    ∃ t, exec (.bankError b false j active) s = .next t ∧ OnlyParts [.msn] s t ∧ (t.dev.bank b).ce = min ((s.dev.bank b).ce + 1) (2 ^ 16 - 1) ∧
      (t.dev.bank b).errs = errs ∧ (16 < errs.length → (s.dev.bank b).st ≠ .moving → (t.dev.bank b).st = .suspect) ∧
      (errs.length ≤ 16 → (t.dev.bank b).st = (s.dev.bank b).st)) ∧
  (∀ (s : State) (b j : Nat) (active : Bool), b < s.dev.bankCount → b < s.dev.msn.banks.length → (s.dev.bank b).st ≠ .faulty → (s.dev.bank b).copyTo = none →
    (s.dev.bank b).use ≠ 2 → (s.dev.bank b).use ≠ 3 → (s.dev.bank b).use ≠ 6 → 7 < s.dev.irq.raw.length →
    ∃ t, exec (.bankError b true j active) s = .next t ∧ OnlyParts [.msn] s t ∧ (t.dev.bank b).st = .faulty ∧ (at' t.dev.irq.raw 7).testBit 2 = true) ∧
  (∀ (s : State) (b j : Nat) (active : Bool), b < s.dev.bankCount → b < s.dev.msn.banks.length → (s.dev.bank b).st ≠ .faulty → (s.dev.bank b).use = 2 →
    s.dev.mde.dstate = .run →
    ∃ t, exec (.bankError b true j active) s = .next t ∧ t.regs = s.regs ∧ t.mem = s.mem ∧ t.dev.mde.dstate = .safeHold ∧ t.dev.mde.mode = .harbour ∧ t.dev.mde.holdCause = 3) ∧
  (∀ (s : State) (b : Nat), b < s.dev.msn.banks.length → (s.dev.bank b).copyTo.isSome = true →
    ∃ t, exec (.bankCopyDone b) s = .next t ∧ OnlyParts [.msn] s t ∧ t.dev.bank b = { s.dev.bank b with copied := true } ∧ ∀ k, k ≠ b → t.dev.bank k = s.dev.bank k)

/-- 07 R210 R223 R225: the end of a rerun shows its depth and leaves no late record waiting; a target without a position update is lost. -/
def Obligations.RerunsAndLostTargets : Prop :=
  (∀ (s : State) (x : Rerun), s.dev.mde.cyc.running = true → s.dev.clk.lock.testBit 1 = true → s.dev.fus.rerun = some x →
    ∃ t, exec (.rerunDone 0) s = .next t ∧ OnlyParts [.fus, .evt] s t ∧ t.dev.fus.waiting = [] ∧ t.dev.fus.lastDepth = x.depth ∧
      t.dev.fus.maxDepth = max s.dev.fus.maxDepth x.depth ∧ t.dev.fus.rewound = max s.dev.fus.rewound x.depth ∧
      (s.dev.fus.waiting = [] → t.dev.fus.rerun = none)) ∧
  (∀ (s : State) (o : Nat) (x : Rerun), s.dev.mde.cyc.running = true → s.dev.clk.lock.testBit 1 = true → 1 ≤ o → o - 1 < s.dev.fus.tgt.length →
    (s.dev.tgt o).rerun = some x →
    ∃ t, exec (.rerunDone o) s = .next t ∧ OnlyParts [.fus, .evt] s t ∧ (t.dev.tgt o).waiting = [] ∧ (t.dev.tgt o).rewound = max (s.dev.tgt o).rewound x.depth ∧
      t.dev.fus.own = s.dev.fus.own ∧ ((s.dev.tgt o).waiting = [] → (t.dev.tgt o).rerun = none)) ∧
  (∀ (s : State) (o : Nat), 1 ≤ o → o - 1 < s.dev.fus.tgt.length → (s.dev.tgt o).valid = true → 9 < s.dev.irq.raw.length →
    (∀ a, (s.dev.tgt o).posAt = some a → a + nsOf32 (s.regs.f32 F.FUS_TGT_TIMEOUT_TGT_TIMEOUT o) ≤ s.dev.tb0) →
    ∃ t, exec (.tgtLost o) s = .next t ∧ OnlyParts [.fus] s t ∧ t.dev.tgt o = { s.dev.tgt o with valid := false } ∧ t.dev.fus.own = s.dev.fus.own ∧
      (at' t.dev.irq.raw 9).testBit 10 = true)

/-! ### Configuration images -/

/-- 02 R46 R57 R63: a load starts with its checks unless one is in hand, ABORT ends it with both slots as they were, and a write to the staging window during the checks is stored and refuses the load. -/
def Obligations.ConfigurationLoadControl : Prop :=
  (∀ (s : State), s.dev.cfg.phase.inHand = false → s.dev.mde.dstate ≠ .reset → s.dev.mde.dstate ≠ .boot →
    ∃ t, exec .cfgLoadStart s = .next t ∧ OnlyParts [.cfg] s t ∧ t.dev.cfg.phase = .checking ∧ t.dev.cfg.len = s.regs.get F.CFG_LOAD_LEN_LEN ∧
      t.dev.cfg.unlocked = (s.dev.saf.stA == .config) ∧ t.dev.cfg.active = s.dev.cfg.active ∧ t.dev.cfg.slot = s.dev.cfg.slot) ∧
  (∀ (s : State), s.dev.cfg.phase.inHand = true →
    ∃ t, exec .cfgLoadStart s = .next t ∧ OnlyParts [] { s with regs := t.regs } t ∧ t.regs = s.regs.reject 6 0x40 7) ∧
  (∀ (s : State), s.dev.cfg.phase.inHand = true →
    ∃ t, exec .cfgLoadAbort s = .next t ∧ OnlyParts [.cfg] s t ∧ t.dev.cfg.phase = .aborted ∧ t.dev.cfg.slot0 = s.dev.cfg.slot0 ∧
      t.dev.cfg.slot1 = s.dev.cfg.slot1 ∧ t.dev.cfg.slot = s.dev.cfg.slot ∧ t.dev.cfg.active = s.dev.cfg.active) ∧
  (∀ (s : State) (a : Nat) (b : Byte), 0x03000000 ≤ a → a < 0x03100000 → 6 < s.dev.irq.raw.length →
    ∃ t, exec (.stagingTouched a b) s = .next t ∧ OnlyParts [.cfg, .evt] { s with mem := t.mem } t ∧ Memory.read t.mem a = b ∧
      (∀ k, k ≠ a → Memory.read t.mem k = Memory.read s.mem k) ∧ (s.dev.cfg.phase ≠ .checking → t.dev.cfg = s.dev.cfg) ∧
      (s.dev.cfg.phase = .checking → t.dev.cfg.phase = .refused ∧ t.dev.cfg.refuse = 0x13 ∧ (at' t.dev.irq.raw 6).testBit 1 = true ∧
        (at' t.dev.irq.raw 6).testBit 4 = true))

/-- 02 R48 R49 R50 R52: the first check that fails refuses the load with its code; an image that passes all is written to the inactive slot alone, and the description in force stays until the cut-in. The checks are those of the model's `chkImage`, with the readings of log 61 and the opaque signature of log 10. -/
def Obligations.ConfigurationChecksAndSlots : Prop :=
  (∀ (s : State), s.dev.cfg.phase = .checking → 6 < s.dev.irq.raw.length →
    let b := stagedImage s.mem s.dev.cfg.len
    let bad := chkImage s.regs s.dev s.dev.cfg.active (s.regs.bit F.CFG_POLICY_ROLLBACK_OK) s.dev.cfg.len b (s.dev.wouldBe b)
    ∃ t, exec .cfgChecksDone s = .next t ∧ OnlyParts [.cfg, .evt] s t ∧ t.dev.cfg.active = s.dev.cfg.active ∧ t.dev.cfg.slot0 = s.dev.cfg.slot0 ∧
      t.dev.cfg.slot1 = s.dev.cfg.slot1 ∧ t.dev.cfg.slot = s.dev.cfg.slot ∧
      (∀ x, bad = some x → t.dev.cfg.phase = .refused ∧ t.dev.cfg.refuse = x.code ∧ t.dev.cfg.section_ = x.sec ∧ t.dev.cfg.record = x.idx ∧
        (at' t.dev.irq.raw 6).testBit 1 = true) ∧
      (bad = none → (chkCutIn s.dev b (s.dev.wouldBe b)).isNone = true → t.dev.cfg.phase = .writing ∧ t.dev.cfg.image = b) ∧
      (bad = none → ∀ x, chkCutIn s.dev b (s.dev.wouldBe b) = some x → t.dev.cfg.phase = .refused ∧ t.dev.cfg.refuse = x.code)) ∧
  (∀ (s : State), s.dev.cfg.phase = .writing → s.dev.mde.dstate ≠ .ready → segOk s.regs s.dev = true → s.dev.cfg.slot ≤ 1 → 6 < s.dev.irq.raw.length →
    ∃ t, exec .cfgSlotWritten s = .next t ∧ t.regs = s.regs ∧ t.mem = s.mem ∧ t.dev.cfg.phase = .pending ∧ t.dev.cfg.active = s.dev.cfg.active ∧
      t.dev.cfg.slot = s.dev.cfg.slot ∧ t.dev.cfg.loadSlot = 1 - s.dev.cfg.slot ∧ t.dev.cfg.slotAt s.dev.cfg.slot = s.dev.cfg.slotAt s.dev.cfg.slot ∧
      (s.dev.cfg.tuningLoad = false → t.dev.cfg.slotAt (1 - s.dev.cfg.slot) = { full := s.dev.cfg.image }) ∧
      (s.dev.cfg.tuningLoad = true → t.dev.cfg.slotAt (1 - s.dev.cfg.slot) = { full := s.dev.fullBytes, tuning := s.dev.cfg.image }) ∧
      (at' t.dev.irq.raw 6).testBit 0 = true) ∧
  (∀ (s : State), s.dev.cfg.phase = .writing → segOk s.regs s.dev = false →
    ∃ t, exec .cfgSlotWritten s = .next t ∧ OnlyParts [.cfg, .hld] s t ∧ t.dev.cfg = { s.dev.cfg with deferred := true })

/-- 02 R61, 03 R64: from LOAD a unit takes the description of a slot that passes its checks and goes to RUN, or to READY without one; key words are stored with LOCK open in READY alone. -/
def Obligations.LoadStateAndKeys : Prop :=
  (∀ (s : State), s.dev.mde.dstate = .load → (pickSlot s.regs s.dev).isNone = true → s.dev.cfg.active = none →
    ∃ t, exec .load s = .next t ∧ OnlyParts [.mde] s t ∧ t.dev.mde.dstate = .ready ∧ t.dev.mde.mode = .harbour) ∧
  (∀ (s : State) (i : Nat) (a : Descr), s.dev.mde.dstate = .load → pickSlot s.regs s.dev = some (i, a) → s.dev.mde.dorm ≠ .waking →
    ∃ t, exec .load s = .next t ∧ t.mem = s.mem ∧ t.pending = s.pending ∧ t.dev.mde.dstate = .run ∧ t.dev.mde.mode = .harbour ∧ t.dev.cfg.active = some a ∧
      t.dev.cfg.slot = i) ∧
  (∀ (s : State) (v : Nat), let k := s.regs.get F.CFG_KEY_SEL_KEY
    let w := s.regs.get F.CFG_KEY_SEL_WORD
    s.dev.mde.dstate = .ready → s.regs.lockOpen 6 s.dev.now = true → 16 * k + w < s.dev.cfg.keyStage.length →
    ∃ t, exec (.cfgKeyDataWrite v) s = .next t ∧ OnlyParts [.cfg] s t ∧ at' t.dev.cfg.keyStage (16 * k + w) = v % 2 ^ 32 ∧
      (w ≠ 15 → t.dev.cfg.keys = s.dev.cfg.keys) ∧
      (w = 15 → k < s.dev.cfg.keys.length → at' t.dev.cfg.keys k = some ((t.dev.cfg.keyStage.drop (16 * k)).take 16))) ∧
  (∀ (s : State) (v : Nat), s.regs.lockOpen 6 s.dev.now = false →
    ∃ t, exec (.cfgKeyDataWrite v) s = .next t ∧ OnlyParts [] { s with regs := t.regs } t ∧ t.regs = s.regs.reject 6 0x6C 2)

/-! ### Device states, roles and the link -/

/-- 03 R64 R65 R67: GO takes READY with a description to RUN in HARBOUR with its cuts counted from the next multiple of the period, and does nothing in another state or without a description; HOLD with LOCK open, or an uncorrectable memory error, takes RUN to SAFE_HOLD, which ends the cuts and the role. -/
def Obligations.RunAndSafeHold : Prop :=
  (∀ (s : State), s.dev.mde.dstate = .ready → s.dev.cfg.active.isSome = true →
    ∃ t, exec .devGo s = .next t ∧ t.regs = s.regs ∧ t.mem = s.mem ∧ t.dev.mde.dstate = .run ∧ t.dev.mde.mode = .harbour ∧ t.dev.mde.cyc.running = true ∧
      t.dev.mde.cyc.nextCut = s.dev.nextMultiple ∧ t.dev.cfg = s.dev.cfg) ∧
  (∀ (s : State), s.dev.mde.dstate ≠ .ready ∨ s.dev.cfg.active = none → ∃ t, exec .devGo s = .next t ∧ OnlyParts [] s t) ∧
  (∀ (s : State), s.regs.lockOpen 5 s.dev.now = true → s.dev.mde.dstate = .run →
    ∃ t, exec .devHold s = .next t ∧ t.regs = s.regs ∧ t.mem = s.mem ∧ t.dev.mde.dstate = .safeHold ∧ t.dev.mde.mode = .harbour ∧ t.dev.mde.holdCause = 1 ∧
      t.dev.mde.cyc.running = false ∧ t.dev.pair.state = .single ∧ t.dev.pair.outputs = false ∧ t.dev.pair.permit = none ∧ t.dev.cfg = s.dev.cfg) ∧
  (∀ (s : State), s.regs.lockOpen 5 s.dev.now = false →
    ∃ t, exec .devHold s = .next t ∧ OnlyParts [] { s with regs := t.regs } t ∧ t.regs = s.regs.reject 5 0x4C 2) ∧
  (∀ (s : State) (w : Nat), w < 3 → s.dev.mde.dstate = .run →
    ∃ t, exec (.uncorrectableMemoryError w) s = .next t ∧ t.regs = s.regs ∧ t.mem = s.mem ∧ t.dev.mde.dstate = .safeHold ∧ t.dev.mde.mode = .harbour ∧
      t.dev.mde.holdCause = 3 ∧ t.dev.mde.cyc.running = false ∧ t.dev.pair.state = .single)

/-- 15 R430 R438 R439 R441 R442 R443: who takes and who gives command: a relinquish by the host or by a lapsed permit, a partner's relinquish, silence of link and heartbeat for 3 ms, and the end of SEEKING. -/
def Obligations.CommandGivenAndTaken : Prop :=
  (∀ (s : State), s.regs.lockOpen 0x27 s.dev.now = true → s.dev.isPrimary = true →
    ∃ t, exec .pairRelinquish s = .next t ∧ t.regs = s.regs ∧ t.mem = s.mem ∧ t.dev.pair.state = (if s.dev.linkUp then .stbySyncing else .degraded) ∧
      t.dev.pair.cause = 12 ∧ t.dev.pair.outputs = false ∧ t.dev.pair.roleOut = false ∧ t.dev.mde = s.dev.mde) ∧
  (∀ (s : State), s.regs.lockOpen 0x27 s.dev.now = false →
    ∃ t, exec .pairRelinquish s = .next t ∧ OnlyParts [] { s with regs := t.regs } t ∧ t.regs = s.regs.reject 0x27 0x44 2) ∧
  (∀ (s : State) (p : Nat), s.dev.pair.permit = some p → p + s.dev.permitTicks ≤ s.dev.now →
    ∃ t, exec .hbPermitLapse s = .next t ∧ t.regs = s.regs ∧ t.mem = s.mem ∧ t.dev.pair.permit = none ∧
      (s.dev.isPrimary = true → t.dev.pair.state = (if s.dev.linkUp then .stbySyncing else .degraded) ∧ t.dev.pair.cause = 13 ∧ t.dev.pair.outputs = false) ∧
      (s.dev.isPrimary = false → OnlyParts [.pair] s t)) ∧
  (∀ (s : State), s.dev.mde.dstate = .run → s.dev.mde.cyc.running = true → s.dev.linkUp = true → s.dev.ndl.idClash = false → 0x27 < s.dev.irq.raw.length →
    (s.dev.pair.state = .stbySyncing ∨ s.dev.pair.state = .stbySynced) →
    ∃ t, exec .relinquishRx s = .next t ∧ OnlyParts [.ndl, .pair, .e2e, .slv, .evt] s t ∧ t.dev.pair.state = .primSyncing ∧ t.dev.pair.cause = 3 ∧
      t.dev.pair.awaitHandover = true ∧ t.dev.ndl.partnerCommands = false ∧ (at' t.dev.irq.raw 0x27).testBit 1 = true) ∧
  (∀ (s : State) (t0 : Nat), silentNow s.regs s.dev = true → s.dev.pair.silentAt = some t0 → t0 + 750000 ≤ s.dev.now → s.dev.ndl.idClash = false →
    0x27 < s.dev.irq.raw.length →
    ∃ t, exec .silentTakeover s = .next t ∧ OnlyParts [.pair, .e2e, .slv, .evt] s t ∧ t.dev.pair.state = .primAlone ∧ t.dev.pair.cause = 4 ∧
      t.dev.pair.awaitHandover = true ∧ (at' t.dev.irq.raw 0x27).testBit 1 = true) ∧
  (∀ (s : State), s.dev.pair.state = .seeking → s.dev.linkUp = false → s.dev.pair.seekAt + ticksS (s.regs.get F.PAIR_CFG_SEEK) ≤ s.dev.now → s.dev.ndl.idClash = false →
    ∃ t, exec .seekTimeout s = .next t ∧ OnlyParts [.pair, .evt] s t ∧
      t.dev.pair.state = (if s.dev.pair.seekHeard = false ∧ (s.dev.pair.unitId = 0 ∨ s.dev.pair.hbIn = false) then .primAlone else .degraded) ∧ t.dev.pair.cause = 11)

/-- 15 R438 R461: HB_OUT toggles each 500 µs of TB3 while the permit holds; HB_IN is alive after three edges at the right spacing and not after 1.2 ms of silence, and with the link down as well the partner is lost. Where a clause leaves the state as it was because the event is not due, that is the model's choice (log 6). -/
def Obligations.Heartbeat : Prop :=
  (∀ (s : State), s.dev.pair.permit.isSome = true → s.dev.pair.hbOutAt + 500000 ≤ s.dev.tb3 →
    ∃ t, exec .hbToggle s = .next t ∧ OnlyParts [.pair] s t ∧ t.dev.pair = { s.dev.pair with hbOut := !s.dev.pair.hbOut, hbOutAt := s.dev.tb3 } ∧
      Output.pin 0 (!s.dev.pair.hbOut) ∈ t.dev.out) ∧
  (∀ (s : State), s.dev.pair.permit = none → ∃ t, exec .hbToggle s = .next t ∧ OnlyParts [] s t ∧ (∀ b, Output.pin 0 b ∉ t.dev.out)) ∧
  (∀ (s : State) (t0 : Nat), s.dev.pair.hbInAt = some t0 →
    ∃ t, exec .hbInEdge s = .next t ∧ OnlyParts [.pair] s t ∧ t.dev.pair.hbInAt = some s.dev.now ∧
      (100000 ≤ s.dev.now - t0 → s.dev.now - t0 ≤ 150000 → s.dev.pair.hbInRun = 2 → t.dev.pair.hbIn = true ∧ t.dev.pair.hbInRun = 3) ∧
      (s.dev.now - t0 < 100000 ∨ 150000 < s.dev.now - t0 → t.dev.pair.hbInRun = 1 ∧ t.dev.pair.hbIn = s.dev.pair.hbIn)) ∧
  (∀ (s : State) (t0 : Nat), s.dev.pair.hbInAt = some t0 → t0 + 300000 ≤ s.dev.now → 0x27 < s.dev.irq.raw.length →
    ∃ t, exec .hbInStop s = .next t ∧ OnlyParts [.pair] s t ∧ t.dev.pair.hbIn = false ∧ t.dev.pair.hbInRun = 0 ∧ t.dev.pair.state = s.dev.pair.state ∧
      (s.dev.linkUp = false → s.dev.pair.hbIn = true → (at' t.dev.irq.raw 0x27).testBit 2 = true))

/-- 15 R430 R431 R433: the link comes up with both HELLOs, loses a lane, goes down and trains again; keep-alive frames fill silence. The frames' numbers and the training of a link that has never been up follow the model's reading (log 23, 80). -/
def Obligations.LinkUpAndDown : Prop :=
  (∀ (s : State) (h : Hello), ndlOn s.regs s.dev = true → s.dev.ndl.link = false → 0x26 < s.dev.irq.raw.length →
    ∃ t, exec (.ndlHello h) s = .next t ∧ t.regs = s.regs ∧ t.mem = s.mem ∧ t.dev.ndl.link = true ∧ t.dev.ndl.partnerId = h.unitId ∧
      t.dev.ndl.gradeMismatch = (h.grade != s.dev.sys.grade) ∧ t.dev.ndl.idClash = (s.dev.ndl.idClash || h.unitId == s.dev.pair.unitId) ∧
      t.dev.ndl.trainings = (s.dev.ndl.trainings + 1) % 2 ^ 16 ∧ (at' t.dev.irq.raw 0x26).testBit 0 = true ∧
      (s.dev.mde.dstate = .run → s.dev.single = false → t.dev.ndl.idClash = false → h.grade = s.dev.sys.grade → h.commands = true →
        s.dev.pair.state = .degraded → t.dev.pair.state = .stbySyncing)) ∧
  (∀ (s : State) (crc : Bool), s.dev.ndl.link = true → 0x26 < s.dev.irq.raw.length →
    ∃ t, exec (.ndlLinkDown crc) s = .next t ∧ OnlyParts [.ndl, .pair, .evt] s t ∧ t.dev.ndl.link = false ∧ t.dev.ndl.downs = (s.dev.ndl.downs + 1) % 256 ∧
      t.dev.ndl.downAt = some s.dev.now ∧ (at' t.dev.irq.raw 0x26).testBit 1 = true ∧
      (s.dev.pair.state = .primSyncing ∨ s.dev.pair.state = .primSynced → t.dev.pair.state = .primAlone ∧ t.dev.pair.cause = 2) ∧
      (s.dev.pair.state = .stbySyncing ∨ s.dev.pair.state = .stbySynced → t.dev.pair.state = .degraded ∧ t.dev.pair.cause = 2)) ∧
  (∀ (s : State), ndlOn s.regs s.dev = true → s.dev.ndl.link = false → (∀ t0, s.dev.ndl.downAt = some t0 → t0 + 250000 ≤ s.dev.now) →
    ∃ t, exec .ndlRetrain s = .next t ∧ OnlyParts [.ndl] s t ∧ t.dev.ndl = { s.dev.ndl with training := true, downAt := none }) ∧
  (∀ (s : State) (lane : Nat), s.dev.ndl.link = true → s.dev.ndl.lane0 = true → s.dev.ndl.lane1 = true → s.dev.tw812 = false → 0x26 < s.dev.irq.raw.length →
    ∃ t, exec (.ndlLaneDown lane) s = .next t ∧ OnlyParts [.ndl] s t ∧ t.dev.ndl.link = true ∧ t.dev.ndl.lane0 = decide (lane ≠ 0) ∧
      t.dev.ndl.lane1 = decide (lane = 0) ∧ t.dev.ndl.laneDowns = (s.dev.ndl.laneDowns + 1) % 256 ∧ (at' t.dev.irq.raw 0x26).testBit 2 = true) ∧
  (∀ (s : State), s.dev.ndl.link = true → s.dev.ndl.lastTx + 2500 ≤ s.dev.now →
    ∃ t, exec .keepalive s = .next t ∧ OnlyParts [.ndl] s t ∧ t.dev.ndl.lastTx = s.dev.now ∧ Output.ndl 1 [] ∈ t.dev.out)

/-- 05 R157, 15 R430 R437: pair time: the standby answers each TIME frame and forms offset and delay from the exchange before, the primary learns of the standby's state, and an announced step is set on the standby. That TIME_REPLY tells the primary of the standby's state is the model's reading (log 40). -/
def Obligations.PairTime : Prop :=
  (∀ (s : State) (t1 t4 t2 t3 : Nat), s.dev.linkUp = true → s.dev.followsPartner = true →
    ∃ t, exec (.timeFrame t1 t4 t2 t3) s = .next t ∧ t.regs = s.regs ∧ t.mem = s.mem ∧ t.dev.ndl.t1 = t1 ∧ t.dev.ndl.t2 = t2 ∧ t.dev.ndl.t3 = t3 ∧
      t.dev.ndl.t4 = t4 ∧ t.dev.ndl.exchanged = true ∧ (∃ w, Output.ndl 3 w ∈ t.dev.out) ∧
      (s.dev.ndl.exchanged = true → t.dev.ndl.delay =
        (((((s.dev.ndl.t2 : Int) - s.dev.ndl.t1) + ((t4 : Int) - s.dev.ndl.t3)) / 2).toNat) % 2 ^ 16)) ∧
  (∀ (s : State) (t2 t3 t4 : Nat) (synced ready : Bool), s.dev.linkUp = true → s.dev.isPrimary = true →
    ∃ t, exec (.timeReply t2 t3 t4 synced ready) s = .next t ∧ OnlyParts [.ndl, .pair, .evt] s t ∧ t.dev.ndl.t2 = t2 ∧ t.dev.ndl.t3 = t3 ∧ t.dev.ndl.t4 = t4 ∧
      t.dev.pair.partnerSynced = synced ∧ t.dev.pair.partnerReady = ready ∧
      (s.dev.pair.state = .primSyncing → synced = true → t.dev.pair.state = .primSynced) ∧
      (s.dev.pair.state = .primSynced → synced = false → t.dev.pair.state = .primSyncing)) ∧
  (∀ (s : State) (sec : Nat) (ofs : Int), s.dev.linkUp = true → s.dev.followsPartner = true →
    ∃ t, exec (.stepAnnounce sec ofs) s = .next t ∧ OnlyParts [.gns2] s t ∧ t.dev.gns2 = { s.dev.gns2 with stepAt := some sec, stepOfs := ofs })

/-! ### Pair: continuity, takes, Still, global operations -/

/-- 15 R449 R450 R451: a standby takes the cut part in its 20 µs, counts one that is missing and three in a row desynchronise it; the commanding unit takes its set at 0.90 T, and a complete set of the cycle is accepted while a damaged one is counted. How a missed part is judged is the model's reading (log 77). -/
def Obligations.ContinuityParts : Prop :=
  (∀ (s : State) (p : CutPart), s.dev.single = false → s.dev.mde.dstate = .run → s.dev.stbyLinked = true → s.dev.ndl.idClash = false →
    s.dev.mde.cyc.running = true → s.dev.pair.cutPartGot = false → s.dev.now ≤ s.dev.mde.cyc.cutTick + 5000 →
    ∃ t, exec (.cutPart p) s = .next t ∧ t.mem = s.mem ∧ t.pending = s.pending ∧ t.dev.pair.cutPart = some p ∧ t.dev.pair.cutPartGot = true ∧
      t.dev.pair.seqOwn = p.seq ∧ t.dev.mde.mode = p.mode) ∧
  (∀ (s : State), s.dev.mde.dstate = .run → s.dev.stbyLinked = true → s.dev.mde.cyc.running = true → s.dev.pair.cutPartGot = false →
    s.dev.mde.cyc.cutTick + 5000 < s.dev.now →
    ∃ t, exec .cutPartMiss s = .next t ∧ t.mem = s.mem ∧ t.dev.pair.cutMiss = (s.dev.pair.cutMiss + 1) % 256 ∧ t.dev.pair.cutPartGot = true ∧
      t.dev.mde.mode = s.dev.mde.mode ∧ (s.dev.pair.state = .stbySynced → 2 ≤ s.dev.pair.cutRun → t.dev.pair.state = .stbySyncing)) ∧
  (∀ (s : State), let c := s.dev.mde.cyc
    c.running = true → c.setTaken = false → c.deadlineDone = true → c.cutTick + 90 * s.dev.centT ≤ s.dev.now →
    ∃ t, exec .continuitySetTake s = .next t ∧ OnlyParts [.mde, .pair, .ndl] s t ∧ t.dev.mde.cyc.setTaken = true ∧
      (s.dev.commands = true → t.dev.pair.set = some (contSet s.regs s.mem s.dev)) ∧
      (s.dev.commands = false → t.dev.pair = s.dev.pair) ∧
      (s.dev.commands = true → s.dev.isPrimary = true → s.dev.linkUp = true → ∃ w, Output.ndl 12 w ∈ t.dev.out)) ∧
  (∀ (s : State) (b : BulkIn), s.dev.mde.dstate = .run → s.dev.stbyLinked = true → s.dev.mde.cyc.running = true → b.ok = true → s.dev.pair.bulkBad = false →
    s.dev.pair.bulkDone = false → s.dev.now ≤ s.dev.mde.cyc.cutTick + 95 * s.dev.centT → b.seq = s.dev.pair.seqOwn →
    (∀ i, i < max 1 b.frags → i = b.frag ∨ i ∈ s.dev.pair.bulkFrags) →
    ∃ t, exec (.bulkFrame b) s = .next t ∧ t.regs = s.regs ∧ t.mem = s.mem ∧ t.dev.pair.set = some b.set ∧ t.dev.pair.bulkDone = true ∧
      t.dev.pair.accepted = (s.dev.pair.accepted + 1) % 2 ^ 16 ∧ t.dev.pair.imageEq = sameImage b.set s.dev) ∧
  (∀ (s : State) (b : BulkIn), s.dev.mde.dstate = .run → s.dev.stbyLinked = true → s.dev.mde.cyc.running = true → b.ok = false →
    s.dev.pair.bulkDone = false → s.dev.pair.bulkDue = true →
    ∃ t, exec (.bulkFrame b) s = .next t ∧ OnlyParts [.ndl, .pair, .evt] s t ∧ t.dev.pair.missed = (s.dev.pair.missed + 1) % 256 ∧
      t.dev.pair.set = s.dev.pair.set ∧ t.dev.pair.accepted = s.dev.pair.accepted)

/-- 15 R455 R456 R457: a take is asked for, acknowledged within 20 µs of its cut, handed over with the channels' state, and counted when its check has passed; TAKE_FAIL is cleared by the host, and held outputs fail at the end of RELAY_MS. The instants and the event of a take follow the model's reading (log 79). -/
def Obligations.TakesOfCommand : Prop :=
  (∀ (s : State), ∃ t, exec .takeNow s = .next t ∧ OnlyParts [.pair] s t ∧ t.dev.pair = { s.dev.pair with takeNow := true }) ∧
  (∀ (s : State), ∃ t, exec .clrTakeFail s = .next t ∧ OnlyParts [.pair] s t ∧ t.dev.pair = { s.dev.pair with takeFail := false }) ∧
  (∀ (s : State) (x : TakeSt), s.dev.pair.take = some x → x.gaining = false → x.handed = false → s.dev.linkUp = true →
    s.dev.now ≤ s.dev.mde.cyc.cutTick + 5000 →
    ∃ t, exec .takeAck s = .next t ∧ OnlyParts [.pair] s t ∧ t.dev.pair = { s.dev.pair with take := some { x with acked := true } }) ∧
  (∀ (s : State) (x : TakeSt) (l : List LoopCh), s.dev.pair.take = some x → x.gaining = true → x.handed = true → s.dev.linkUp = true →
    s.dev.pair.awaitHandover = true →
    ∃ t, exec (.takeLoops l) s = .next t ∧ t.regs = s.regs ∧ t.mem = s.mem ∧ t.dev.pair.outputs = true ∧ t.dev.pair.awaitHandover = false ∧
      t.dev.pair.roleOut = true ∧ t.dev.pair.state = s.dev.pair.state) ∧
  (∀ (s : State) (x : TakeSt), s.dev.pair.take = some x → x.handed = true → s.dev.pair.checkLeft = 0 → s.dev.pair.checkBad = false → 0x27 < s.dev.irq.raw.length →
    ∃ t, exec .takeCheckEnd s = .next t ∧ OnlyParts [.pair, .lif] s t ∧ t.dev.pair.take = none ∧ t.dev.pair.takes = (s.dev.pair.takes + 1) % 2 ^ 16 ∧
      t.dev.pair.nextTake = (s.dev.tb3 + s.regs.get F.PAIR_CFG_TAKE_PERIOD * 3600 * 1000000000) % 2 ^ 64 ∧ (at' t.dev.irq.raw 0x27).testBit 4 = true) ∧
  (∀ (s : State) (e : Nat), s.dev.pair.relayEnd = some e → e ≤ s.dev.now →
    ∃ t, exec .relayHoldEnd s = .next t ∧ OnlyParts [.pair, .aou, .dio] s t ∧ t.dev.pair = { s.dev.pair with relayEnd := none } ∧
      (∀ n, n < 32 → n < s.dev.aou.outs.length → (t.dev.anOut n).relayHold = none ∧
        ((s.dev.anOut n).relayHold ≠ none → (t.dev.anOut n).fail = true) ∧ ((s.dev.anOut n).relayHold = none → t.dev.anOut n = s.dev.anOut n)))

/-- 15 R458: a Still is refused outside a synchronised pair; else both units capture at the tick 200 ns after the one-way delay, the partner sends its capture back, and the requester is done once it has both. The bytes of a capture are opaque (the model's choice, log 81). -/
def Obligations.StillCaptures : Prop :=
  (∀ (s : State), let ok := s.dev.linkUp && (s.dev.pair.state == .primSynced || s.dev.pair.state == .stbySynced)
    ∃ t, exec .still s = .next t ∧ OnlyParts [.pair, .ndl] s t ∧ t.dev.pair.stillDone = false ∧
      (ok = true → t.dev.pair.stillT = s.dev.tb0 + s.dev.ndl.delay + 200 ∧ t.dev.pair.stillReq = some (s.dev.now, true) ∧
        Output.ndl 7 [s.dev.tb0 + s.dev.ndl.delay + 200] ∈ t.dev.out) ∧
      (ok = false → t.dev.pair.stillRefused = true ∧ t.dev.pair.stillReq = s.dev.pair.stillReq ∧ t.dev.ndl = s.dev.ndl)) ∧
  (∀ (s : State) (tc : Nat), s.dev.linkUp = true →
    ∃ t, exec (.stillReq tc) s = .next t ∧ OnlyParts [.pair] s t ∧ t.dev.pair = { s.dev.pair with stillT := tc, stillReq := some (s.dev.now, false), stillOwn := none }) ∧
  (∀ (s : State) (at_ : Nat) (mine : Bool), s.dev.pair.stillReq = some (at_, mine) → s.dev.pair.stillT ≤ s.dev.tb0 → s.dev.pair.stillOwn = none →
    ∃ t, exec .stillCapture s = .next t ∧ OnlyParts [.pair, .ndl] s t ∧ t.dev.pair.stillOwn = some s.dev.stillSet ∧
      (mine = false → t.dev.pair.stillReq = none ∧ Output.ndl 8 [s.dev.pair.stillT] ∈ t.dev.out) ∧
      (mine = true → s.dev.pair.stillPartner ≠ none → t.dev.pair.stillDone = true) ∧
      (mine = true → s.dev.pair.stillPartner = none → t.dev.pair.stillReq = some (at_, true))) ∧
  (∀ (s : State) (at_ : Nat) (c : StillSet), s.dev.pair.stillReq = some (at_, true) → 0x27 < s.dev.irq.raw.length →
    ∃ t, exec (.stillData c) s = .next t ∧ OnlyParts [.pair] s t ∧ t.dev.pair.stillPartner = some c ∧
      (s.dev.pair.stillOwn ≠ none → t.dev.pair.stillDone = true ∧ t.dev.pair.stillReq = none ∧ t.dev.pair.stillCost = min 65535 (4 * (s.dev.now - at_)) ∧
        (at' t.dev.irq.raw 0x27).testBit 7 = true))

/-- 15 R459: GO of a global operation starts it on the commanding unit and is refused on a standby; it is done when every acknowledgement has come, and TIMEOUT ms after GO it ends REFUSED or TIMEOUT. The length of the acknowledgements is a free value, and a channel without a Storyboard counts as free (log 39, 96). -/
def Obligations.GlobalOperations : Prop :=
  (∀ (s : State), s.dev.pair.glb ≠ .waiting → s.dev.pair.glb ≠ .running → s.dev.commands = false → 0x27 < s.dev.irq.raw.length →
    ∃ t, exec .globalGo s = .next t ∧ OnlyParts [.pair] s t ∧ t.dev.pair.glb = .refused ∧ t.dev.pair.glbAt = s.dev.now ∧ (at' t.dev.irq.raw 0x27).testBit 7 = true) ∧
  (∀ (s : State), s.dev.pair.glb ≠ .waiting → s.dev.pair.glb ≠ .running → s.dev.commands = true →
    ∃ t, exec .globalGo s = .next t ∧ OnlyParts [.free, .pair, .can] s t ∧ t.dev.pair.glbAt = s.dev.now ∧
      ((glbChannels s.regs).all (glbFits s.regs s.dev) = true → t.dev.pair.glb = .running ∧ t.dev.pair.glbStart = s.dev.tb0) ∧
      ((glbChannels s.regs).all (glbFits s.regs s.dev) = false → t.dev.pair.glb = .waiting ∧ t.dev.can = s.dev.can)) ∧
  (∀ (s : State), s.dev.pair.glb = .running → glbAcked s.regs s.dev = true → 0x27 < s.dev.irq.raw.length →
    ∃ t, exec .globalDone s = .next t ∧ OnlyParts [.pair] s t ∧ t.dev.pair.glb = .done ∧
      t.dev.pair.glbTime = min (2 ^ 24 - 1) ((s.dev.now - s.dev.pair.glbAt) / 250) ∧ (at' t.dev.irq.raw 0x27).testBit 7 = true) ∧
  (∀ (s : State), s.dev.pair.glbAt + 250000 * s.regs.get F.PAIR_GLB_CTL_TIMEOUT ≤ s.dev.now → 0x27 < s.dev.irq.raw.length →
    ∃ t, exec .globalTimeout s = .next t ∧ OnlyParts [.pair] s t ∧
      (s.dev.pair.glb = .waiting → t.dev.pair.glb = .refused ∧ (at' t.dev.irq.raw 0x27).testBit 7 = true) ∧
      (s.dev.pair.glb = .running → t.dev.pair.glb = .timeout ∧ (at' t.dev.irq.raw 0x27).testBit 7 = true))

/-! ### Reset, boot, power, clocks, self-test -/

/-- 18 R524 R525 R526: each cause resets the device with its number: the DORMANT settings, MRAM, TB3, the island and UNIT_ID stay; the queued records are lost with causes 1 and 5; loss of always-on power takes the settings and the kept time too. The values of state without a register after the reset, and the empty windows, are the model's choice (log 2, 4). Where a clause leaves the state as it was because the event is not due, that is the model's choice (log 6). -/
def Obligations.ResetCauses : Prop :=
  (∀ (s : State), ∃ t, exec .resetNAssert s = .next t ∧ ResetFrom 1 s t ∧ t.dev.evt.reel = s.dev.evt.reel ∧ t.dev.evt.corner = s.dev.evt.corner ∧ t.dev.lif.copies = s.dev.lif.copies) ∧
  (∀ (s : State), s.dev.mde.dstate ≠ .reset → ∃ t, exec .watchdogExpire s = .next t ∧ ResetFrom 5 s t ∧ t.dev.evt.reel = s.dev.evt.reel ∧
      t.dev.evt.corner = s.dev.evt.corner ∧ t.dev.lif.copies = s.dev.lif.copies) ∧
  (∀ (s : State), s.regs.lockOpen 0 s.dev.now = true → ∃ t, exec .hostReset s = .next t ∧ ResetFrom 4 s t ∧
      (segOk s.regs s.dev = false → t.dev.evt.reel = s.dev.evt.reel ∧ t.dev.lif.copies = s.dev.lif.copies)) ∧
  (∀ (s : State), s.regs.lockOpen 0 s.dev.now = false → ∃ t, exec .hostReset s = .next t ∧ t.regs = s.regs.reject 0 0x54 2 ∧
      OnlyParts [] { s with regs := t.regs } t) ∧
  (∀ (s : State) (u : Nat), s.dev.mde.dstate ≠ .reset → s.dev.clk.lock.testBit 2 = false → at' s.dev.clk.lostAt 2 = some u → u + 25000000 ≤ s.dev.now →
    ∃ t, exec .mpllHoldTimeout s = .next t ∧ ResetFrom 7 s t) ∧
  (∀ (s : State) (u : Nat), s.dev.sys.pfailAt = some u → (s.dev.hld.segment = true ∨ u + 2500 ≤ s.dev.now) → ∃ t, exec .finalSegmentDone s = .next t ∧ ResetFrom 2 s t) ∧
  (∀ (s : State) (u : Nat), s.dev.sys.pfailAt = some u → s.dev.hld.segment = false → s.dev.now < u + 2500 → ∃ t, exec .finalSegmentDone s = .next t ∧ OnlyParts [] s t) ∧
  (∀ (s : State) (ts : List F32), s.dev.mde.dstate ≠ .reset → s.dev.mde.dorm = .none → (∃ x ∈ ts, (F32.ofInt 125).le x = true) →
    ∃ t, exec (.thermalRead ts) s = .next t ∧ ResetFrom 6 s t ∧ t.dev.sys.tripped = true) ∧
  (∀ (s : State), ∃ t, exec .aonPowerUp s = .next t ∧ t.regs = { hdr := hdrReset } ∧ t.mem = [] ∧ t.frozen = [] ∧ t.pending = s.pending ∧
      t.dev.mde = {} ∧ t.dev.gns2 = {} ∧ t.dev.sys.cause = 0 ∧ t.dev.sys.aonLost = true ∧ t.dev.saf = s.dev.saf ∧ t.dev.evt.reel = s.dev.evt.reel ∧
      t.dev.tb3 = (resetDev s.regs 0 s.dev.quiet).committedTb3 % (2 ^ 48 * 1000000000))

/-- 18 R523 R528 R529 R531 R532, 03 R91 R92 R94: the device leaves RESET into BOOT, boots the first microcode slot that passes, or stays in BOOT; an update is started, refused or written to the slot that does not run; DORMANT falls asleep when nothing waits and a wake source takes it to BOOT. The signature is opaque, and the codes of some inconsistent images are the model's reading (log 10, 102). Where a clause leaves the state as it was because the event is not due, that is the model's choice (log 6). -/
def Obligations.BootMicrocodeAndDormant : Prop :=
  (∀ (s : State) (u rs : Bool), s.dev.mde.dstate = .reset → s.dev.mde.dorm = .none → s.dev.sys.tripped = false → s.dev.sys.pfailAt = none → 5 < s.dev.irq.raw.length →
    ∃ t, exec (.resetRelease u rs) s = .next t ∧ OnlyParts [.sys, .pwr, .clk, .pair, .mde] s t ∧ t.dev.mde = { s.dev.mde with dstate := .boot } ∧
      t.dev.pair = { s.dev.pair with unitId := if u then 1 else 0 } ∧ t.dev.clk.ref25 = rs ∧ t.dev.pwr.on = domainsOn s.regs s.dev ∧ t.dev.pwr.pgood = domainsOn s.regs s.dev ∧
      (at' t.dev.irq.raw 5).testBit 7 = true) ∧
  (∀ (s : State) (u rs : Bool), s.dev.mde.dstate ≠ .reset ∨ s.dev.sys.tripped = true → ∃ t, exec (.resetRelease u rs) s = .next t ∧ OnlyParts [] s t) ∧
  (∀ (s : State), s.dev.mde.dstate = .boot → s.dev.sys.bootStat ≠ 3 → 5 < s.dev.irq.raw.length →
    ∃ t, exec .boot s = .next t ∧ t.regs = s.regs ∧ t.mem = s.mem ∧ t.dev.clk.lock = bootLocks s.dev ∧
      (ucPick s.dev = none → OnlyParts [.sys, .clk] s t ∧ t.dev.sys = { s.dev.sys with bootStat := 3 }) ∧
      (∀ i, ucPick s.dev = some i → t.dev.mde.dstate = .load ∧ t.dev.sys.bootStat = i + 1 ∧ t.dev.sys.ucActive = i ∧
        t.dev.sys.ucFloor = max s.dev.sys.ucFloor (ucHdr (s.dev.ucBytes i)).level ∧ t.dev.sys.fallback = (i != s.dev.sys.ucActive) ∧ (at' t.dev.irq.raw 0).testBit 5 = true)) ∧
  (∀ (s : State), let c := s.dev.sys.ucPhase = .checking ∨ s.dev.sys.ucPhase = .writing
    ∃ t, exec .ucUpdateStart s = .next t ∧
      (c → t.regs = s.regs.reject 0 0x68 7 ∧ OnlyParts [] { s with regs := t.regs } t) ∧
      (¬ c → s.dev.mde.dstate ≠ .reset → OnlyParts [.sys] s t ∧ t.dev.sys = { s.dev.sys with ucPhase := .checking, ucRefuse := 0 })) ∧
  (∀ (s : State), let n := s.regs.get F.SYS_UC_LEN_LEN
    let b := Memory.readBytes s.mem 0x03100000 (max 64 (min n 0x100000))
    s.dev.sys.ucPhase = .checking → 0 < s.dev.irq.raw.length →
    ∃ t, exec .ucUpdateDone s = .next t ∧ OnlyParts [.sys, .hld, .lif, .evt] s t ∧
      (∀ c, ucCheck s.dev.quiet b n = some c → OnlyParts [.sys] s t ∧ t.dev.sys = { s.dev.sys with ucPhase := .refused, ucRefuse := c } ∧ (at' t.dev.irq.raw 0).testBit 1 = true) ∧
      (ucCheck s.dev.quiet b n = none → segOk s.regs s.dev = true → t.dev.sys = { s.dev.sys with ucPhase := .done, ucSlots := modAt s.dev.sys.ucSlots s.dev.ucTarget (fun _ => { bytes := b }), ucActive := s.dev.ucTarget } ∧
        (at' t.dev.irq.raw 0).testBit 0 = true) ∧
      (ucCheck s.dev.quiet b n = none → segOk s.regs s.dev = false → t.dev.sys = { s.dev.sys with ucPhase := .writing })) ∧
  (∀ (s : State), s.dev.mde.dorm = .descent → batchesDone s.dev = true →
    ∃ t, exec .dormantAsleep s = .next t ∧ t.regs = keepRegs s.regs ∧ t.mem = [] ∧ t.pending = s.pending ∧ t.dev.mde.dorm = .asleep ∧ t.dev.mde.mode = .dormant ∧
      t.dev.mde.dstate = .reset ∧ t.dev.cfg.phase = s.dev.cfg.phase ∧ t.dev.cfg.refuse = s.dev.cfg.refuse ∧ t.dev.cfg.record = s.dev.cfg.record ∧ t.dev.gns2.kept = s.dev.gns2.kept ∧ t.dev.tb3 = s.dev.tb3 ∧ t.dev.saf = s.dev.saf) ∧
  (∀ (s : State), s.dev.mde.dorm ≠ .descent ∨ batchesDone s.dev = false → ∃ t, exec .dormantAsleep s = .next t ∧ OnlyParts [] s t) ∧
  (∀ (s : State) (p : Bool), wakeOk p s.regs s.dev = true → ∃ t, exec (.wake p) s = .next t ∧ OnlyParts [.sys, .mde, .pwr, .clk] s t ∧
      (s.dev.mde.dorm = .descent → t.dev.mde = { s.dev.mde with dorm := .hostLevel } ∧ t.dev.sys = s.dev.sys) ∧
      (s.dev.mde.dorm = .asleep → t.dev.mde = { s.dev.mde with dstate := .boot, dorm := .waking } ∧ t.dev.sys = { s.dev.sys with cause := 8 }) ∧
      (s.dev.mde.dorm = .none → OnlyParts [] s t)) ∧
  (∀ (s : State) (p : Bool), wakeOk p s.regs s.dev = false → ∃ t, exec (.wake p) s = .next t ∧ OnlyParts [] s t)

/-- 18 R519 R521 R522 R524 R536: the supply-fail warning stops recording and holds the device in RESET; a low rail warns once and a lost one takes its domains' power-good, with the reset of its table; temperatures warn at the limits; the host switches domains only under the conditions of R521. That the device state reads RESET between the warning and the reset is the model's reading (log 100). -/
def Obligations.PowerAndTemperature : Prop :=
  (∀ (s : State), s.dev.sys.pfailAt = none → s.dev.mde.dstate ≠ .reset → 1 < s.dev.irq.raw.length →
    ∃ t, exec .supplyFail s = .next t ∧ t.regs = s.regs ∧ t.mem = s.mem ∧ t.dev.mde.dstate = .reset ∧ t.dev.mde.mode = .harbour ∧ t.dev.mde.cyc.running = false ∧
      t.dev.sys.pfailAt = some s.dev.now ∧ t.dev.sys.pfail = true ∧ t.dev.evt.stopped = true ∧ (at' t.dev.irq.raw 1).testBit 3 = true ∧
      (s.dev.mde.dstate = .run → t.dev.pair.outputs = false ∧ t.dev.pair.roleOut = false ∧ t.dev.pair.state = .single)) ∧
  (∀ (s : State) (rail : Nat) (v : F32), (∃ x ∈ railDomains rail, s.dev.pwr.on.testBit x = true) → rail < s.dev.pwr.railV.length → 1 < s.dev.irq.raw.length →
    ∃ t, exec (.railFault rail v false) s = .next t ∧ OnlyParts [.pwr, .evt] s t ∧ at' t.dev.pwr.railV rail = v ∧ t.dev.pwr.pgood = s.dev.pwr.pgood ∧
      t.dev.pwr.railWarn.testBit rail = railLow rail v ∧
      (railLow rail v = true → s.dev.pwr.railWarn.testBit rail = false → (at' t.dev.irq.raw 1).testBit 4 = true) ∧
      (railLow rail v = false → t.dev.evt = s.dev.evt)) ∧
  (∀ (s : State) (v : F32), s.dev.mde.dstate ≠ .reset → s.dev.pwr.on.testBit 14 = true → s.dev.pwr.pgood.testBit 14 = true →
    ∃ t, exec (.railFault 9 v true) s = .next t ∧ ResetFrom 3 s t) ∧
  (∀ (s : State) (v : F32), s.dev.pwr.on.testBit 1 = true → s.dev.pwr.pgood.testBit 1 = true → 1 < s.dev.irq.raw.length →
    ∃ t, exec (.railFault 14 v true) s = .next t ∧ OnlyParts [.pwr, .evt] s t ∧ t.dev.pwr.pgood.testBit 1 = false ∧ t.dev.pwr.fault.testBit 1 = true ∧ (at' t.dev.irq.raw 1).testBit 2 = true) ∧
  (∀ (s : State) (n : Nat), n < 16 → s.dev.pwr.on.testBit n = true → s.dev.pwr.pgood.testBit n = false → 1 < s.dev.irq.raw.length →
    ∃ t, exec (.domainUp n) s = .next t ∧ OnlyParts [.pwr, .gns0, .msn, .grt, .hld] s t ∧ t.dev.pwr.on = s.dev.pwr.on ∧ t.dev.pwr.pgood.testBit n = true ∧
      (∀ m, m ≠ n → t.dev.pwr.pgood.testBit m = s.dev.pwr.pgood.testBit m) ∧ (at' t.dev.irq.raw 1).testBit 0 = true ∧ (n = 15 → t.dev.hld.mramGood = some s.dev.now) ∧
      (n ≠ 15 → t.dev.hld = s.dev.hld)) ∧
  (∀ (s : State) (ts : List F32), s.dev.mde.dstate ≠ .reset → s.dev.mde.dorm = .none → (∀ x ∈ ts, (F32.ofInt 125).le x = false) → 0 < s.dev.irq.raw.length →
    let w := s.regs.f32 F.SYS_TEMP_WARN_WARN
    ∃ t, exec (.thermalRead ts) s = .next t ∧ OnlyParts [.sys] s t ∧ t.dev.sys.temp = hottest ts ∧
      (s.dev.sys.hot = false → w.le (hottest ts) = true → t.dev.sys.hot = true ∧ (at' t.dev.irq.raw 0).testBit 3 = true) ∧
      (s.dev.sys.hot = true → (hottest ts).le (w.sub (F32.ofInt 5)) = true → t.dev.sys.hot = false ∧ (at' t.dev.irq.raw 0).testBit 4 = true)) ∧
  (∀ (s : State) (port : Port) (v : Nat), s.dev.mde.dstate ≠ .reset → s.dev.tw812 = false → 1 < s.dev.irq.raw.length →
    (∃ i, i < 6 ∧ (domReq s.regs s.dev).testBit i ≠ (v % 64).testBit i ∧ domOk port s.regs s.dev i ((v % 64).testBit i) = false) →
    ∃ t, exec (.pwrDomReqWrite port v) s = .next t ∧ OnlyParts [] { s with regs := t.regs } t ∧ t.regs = s.regs.reject 1 0x40 7 ∧ (at' t.dev.irq.raw 1).testBit 6 = true) ∧
  (∀ (s : State) (port : Port) (v : Nat), s.dev.mde.dstate ≠ .reset → s.dev.tw812 = false →
    (∀ i, i < 6 → (domReq s.regs s.dev).testBit i ≠ (v % 64).testBit i → domOk port s.regs s.dev i ((v % 64).testBit i) = true ∧ (v % 64).testBit i = true) →
    ∃ t, exec (.pwrDomReqWrite port v) s = .next t ∧ OnlyParts [.pwr] { s with regs := t.regs } t ∧ t.regs.get F.PWR_DOM_REQ_COURSE = v % 16 ∧
      t.regs.get F.PWR_DOM_REQ_NDL = v / 16 % 2 ∧ t.regs.get F.PWR_DOM_REQ_PCIE = v / 32 % 2 ∧ t.dev.pwr.pgood = s.dev.pwr.pgood ∧
      (∀ i, i < 6 → (domReq s.regs s.dev).testBit i ≠ (v % 64).testBit i → t.dev.pwr.on.testBit (reqDomain i) = true))

/-- 18 R534 R535 R537 to R540: a PLL that loses lock is counted and has its effect until it re-locks; a lost reference unlocks its PLLs; a self-test step starts when its item is due, idle and done before the cut, passes or is repeated at once, and a failed repeat is a fault; a pass ends with its coverage. That a lost reference unlocks its PLLs at once, and the order of the Grout, follow the model's reading (log 101, 102). Where a clause leaves the state as it was because the event is not due, that is the model's choice (log 6). -/
def Obligations.ClocksAndSelfTest : Prop :=
  (∀ (s : State) (p : Nat), s.dev.mde.dstate ≠ .reset → p < 5 → p ≠ 3 → s.dev.clk.lock.testBit p = true → p < s.dev.clk.losses.length → p < s.dev.clk.lostAt.length → 2 < s.dev.irq.raw.length →
    ∃ t, exec (.pllLockLost p) s = .next t ∧ OnlyParts [.clk, .flt] s t ∧ (∀ q, t.dev.clk.lock.testBit q = (s.dev.clk.lock.testBit q && q != p)) ∧
      at' t.dev.clk.losses p = (at' s.dev.clk.losses p + 1) % 2 ^ 16 ∧ at' t.dev.clk.lostAt p = some s.dev.now ∧ (at' t.dev.irq.raw 2).testBit 0 = true ∧
      (p = 0 → t.dev.clk.bclk = true) ∧ (p = 2 → t.dev.clk.mpllHold = true) ∧ (p = 4 → t.dev.flt.valid = 0) ∧ (p ≠ 4 → t.dev.flt = s.dev.flt)) ∧
  (∀ (s : State) (p u : Nat), s.dev.mde.dstate ≠ .reset → p < 4 → s.dev.clk.lock.testBit p = false → s.dev.clk.refOk = true → at' s.dev.clk.lostAt p = some u →
    p < s.dev.clk.lastUs.length → p < s.dev.clk.lostAt.length → 2 < s.dev.irq.raw.length →
    ∃ t, exec (.pllLockRegained p) s = .next t ∧ OnlyParts [.clk] s t ∧ (∀ q, t.dev.clk.lock.testBit q = (s.dev.clk.lock.testBit q || q == p)) ∧
      at' t.dev.clk.lastUs p = min ((s.dev.now - u) / 250) 65535 ∧ at' t.dev.clk.lostAt p = none ∧ (at' t.dev.irq.raw 2).testBit 1 = true ∧
      (p = 0 → t.dev.clk.bclk = false) ∧ (p = 2 → t.dev.clk.mpllHold = false)) ∧
  (∀ (s : State) (p : Nat), p < 6 → s.dev.clk.refOk = false → s.dev.clk.lock.testBit p = false → ∃ t, exec (.pllLockRegained p) s = .next t ∧ OnlyParts [] s t) ∧
  (∀ (s : State), s.dev.mde.dstate ≠ .reset → s.dev.clk.refOk = true → 2 < s.dev.irq.raw.length →
    ∃ t, exec (.refclkLost 0) s = .next t ∧ t.regs = s.regs ∧ t.mem = s.mem ∧ t.dev.clk.refOk = false ∧ t.dev.clk.serOk = s.dev.clk.serOk ∧ (∀ p, p < 6 → t.dev.clk.lock.testBit p = false) ∧
      (at' t.dev.irq.raw 2).testBit 2 = true) ∧
  (∀ (s : State), s.dev.mde.dstate ≠ .reset → s.dev.clk.serOk = true → 2 < s.dev.irq.raw.length →
    ∃ t, exec (.refclkLost 1) s = .next t ∧ t.regs = s.regs ∧ t.mem = s.mem ∧ t.dev.clk.serOk = false ∧ t.dev.clk.refOk = s.dev.clk.refOk ∧ t.dev.clk.lock.testBit 6 = false ∧
      (∀ p, p ≠ 6 → t.dev.clk.lock.testBit p = s.dev.clk.lock.testBit p) ∧ (at' t.dev.irq.raw 2).testBit 4 = true) ∧
  (∀ (s : State) (k : Nat), k < 3 → s.dev.mde.dstate ≠ .reset → refHas s.dev k = false → 2 < s.dev.irq.raw.length →
    ∃ t, exec (.refclkBack k) s = .next t ∧ OnlyParts [.clk] s t ∧ refHas t.dev k = true ∧ t.dev.clk.lock = s.dev.clk.lock ∧ (at' t.dev.irq.raw 2).testBit 3 = true) ∧
  (∀ (s : State) (c i : Nat), c < 6 → 2 ≤ c → s.dev.awake = true → s.regs.bit F.GRT_CFG_EN = true → grtClassOn s.regs c = true → i < grtItems s.dev.tw812 c →
    s.dev.grt.running = [] → grtDue s.regs s.dev c i = true → grtFree s.dev c i = true → grtFits s.dev c = true →
    ∃ t, exec (.groutStepStart c i) s = .next t ∧ OnlyParts [.grt] s t ∧ t.dev.grt = { s.dev.grt with running := [{ cls := c, item := i, step := grtDone s.dev c i }] }) ∧
  (∀ (s : State) (c i : Nat), s.regs.bit F.GRT_CFG_EN = false → ∃ t, exec (.groutStepStart c i) s = .next t ∧ OnlyParts [] s t) ∧
  (∀ (s : State) (g : GrtStep) (code : Nat), s.dev.grt.running = [g] → g.again = false →
    ∃ t, exec (.groutStepDone g.cls false code) s = .next t ∧ OnlyParts [.grt] s t ∧ t.dev.grt = { s.dev.grt with running := [{ g with again := true }] }) ∧
  (∀ (s : State) (g : GrtStep) (code : Nat), s.dev.grt.running = [g] → g.again = true → 3 ≤ g.cls → g.cls < s.dev.grt.classes.length → 0x2C < s.dev.irq.raw.length →
    ∃ t, exec (.groutStepDone g.cls false code) s = .next t ∧ OnlyParts [.grt, .evt] s t ∧ t.dev.grt.running = [] ∧ t.dev.grt.lastFault = (g.cls, g.item, code % 2 ^ 16) ∧
      (at' t.dev.grt.classes g.cls).faults = min ((at' s.dev.grt.classes g.cls).faults + 1) 255 ∧ (g.cls = 5 → t.dev.grt.safOk = false) ∧ (at' t.dev.irq.raw 0x2C).testBit 2 = true) ∧
  (∀ (s : State), s.dev.awake = true → s.regs.bit F.GRT_CFG_EN = true → s.dev.grt.passAt + grtPassNs s.regs ≤ s.dev.tb3 → 0x2C < s.dev.irq.raw.length →
    ∃ t, exec .groutPassEnd s = .next t ∧ OnlyParts [.grt, .evt] s t ∧ t.dev.grt.passes = (s.dev.grt.passes + 1) % 2 ^ 16 ∧ t.dev.grt.passAt = s.dev.tb3 ∧
      (∀ c ∈ t.dev.grt.classes, c.tested = []) ∧ (at' t.dev.irq.raw 0x2C).testBit (if t.dev.grt.late = true then 1 else 0) = true ∧
      t.dev.grt.late = !(t.dev.grt.carried.isEmpty))

/-! ### The safety island -/

/-- 16 R466 R468 to R478 R483: a mapped input that opens is a demand and its outputs go off in the channel that sees it; a discrepancy past DISC_TIME latches; an accepted press clears what may clear; test pulses and read-backs latch an output that fails. The read-backs follow the pins, and SRST acts in every state but HALT (the model's reading, log 34, 107). Where a clause leaves the state as it was because the event is not due, that is the model's choice (log 6). -/
def Obligations.IslandInputsAndOutputs : Prop :=
  (∀ (s : State) (n : Nat), n < 8 → s.dev.saf.counts n = true → 0x28 < s.dev.irq.raw.length →
    ∃ t, exec (.safInputChange (.lineA n) false false) s = .next t ∧ OnlyParts [.saf, .evt] s t ∧ t.dev.saf.counts n = false ∧
      t.dev.saf.demands = (s.dev.saf.demands + 1) % 2 ^ 16 ∧ (at' t.dev.irq.raw 0x28).testBit 0 = true ∧
      (∀ o, o < 4 → (s.dev.saf.map false o).testBit n = true → (t.dev.saf.output o).onA = false)) ∧
  (∀ (s : State) (lvl chB : Bool), s.dev.saf.srst ≠ lvl →
    ∃ t, exec (.safInputChange .srst chB lvl) s = .next t ∧ OnlyParts [.saf] s t ∧ t.dev.saf.srst = lvl ∧ t.dev.saf.outs = s.dev.saf.outs ∧ t.dev.saf.ins = s.dev.saf.ins ∧
      (lvl = true → t.dev.saf.srstAt = some s.dev.now) ∧ (lvl = false → t.dev.saf.stuck = false)) ∧
  (∀ (s : State) (n u : Nat), n < 8 → n < s.dev.saf.ins.length → (s.dev.saf.input n).runA = some u → (s.dev.saf.input n).disc = false → 0x28 < s.dev.irq.raw.length →
    95 * s.dev.saf.discTicks n ≤ 100 * (s.dev.now - u) + 12500000 →
    ∃ t, exec (.discrepancy n false) s = .next t ∧ OnlyParts [.saf, .evt] s t ∧ (t.dev.saf.input n).disc = true ∧ (t.dev.saf.input n).pend = true ∧
      (at' t.dev.irq.raw 0x28).testBit 2 = true ∧
      (∀ o, o < 4 → (s.dev.saf.map false o).testBit n = true → (t.dev.saf.output o).onA = false) ∧
      (∀ o, o < 4 → (s.dev.saf.map true o).testBit n = true → (t.dev.saf.output o).onB = false)) ∧
  (∀ (s : State) (n u : Nat), (s.dev.saf.input n).runA = some u → 100 * (s.dev.now - u) + 12500000 < 95 * s.dev.saf.discTicks n → ∃ t, exec (.discrepancy n false) s = .next t ∧ OnlyParts [] s t) ∧
  (∀ (s : State) (a b : Nat), s.dev.saf.srstAt ≠ none → s.dev.saf.srst = false → 50000000 ≤ a → a ≤ 5000000000 → 50000000 ≤ b → b ≤ 5000000000 → s.dev.saf.stA ≠ .halt → 0x28 < s.dev.irq.raw.length →
    ∃ t, exec (.srstRelease a b) s = .next t ∧ OnlyParts [.saf, .evt] s t ∧ t.dev.saf.srstAt = none ∧ t.dev.saf.resets = (s.dev.saf.resets + 1) % 256 ∧
      (at' t.dev.irq.raw 0x28).testBit 4 = true ∧
      (∀ n, n < 8 → (s.dev.saf.input n).disc = true → (t.dev.saf.input n).disc = !(s.dev.saf.allClosed n && (s.dev.saf.input n).passed && !((s.dev.saf.input n).pend)))) ∧
  (∀ (s : State) (a b : Nat), s.dev.saf.srstAt ≠ none → s.dev.saf.srst = false → (a < 50000000 ∨ 5000000000 < a) →
    ∃ t, exec (.srstRelease a b) s = .next t ∧ OnlyParts [.saf] s t ∧ t.dev.saf = { s.dev.saf with srstAt := none }) ∧
  (∀ (s : State) (u : Nat), s.dev.saf.srstAt = some u → s.dev.saf.srst = true → s.dev.saf.stuck = false → s.dev.saf.srstClosed = false → u + 1187500000 ≤ s.dev.now → 0x28 < s.dev.irq.raw.length →
    ∃ t, exec .resetStuck s = .next t ∧ OnlyParts [.saf] s t ∧ t.dev.saf = { s.dev.saf with stuck := true } ∧ (at' t.dev.irq.raw 0x28).testBit 5 = true) ∧
  (∀ (s : State) (o : Nat), o < 4 → o < s.dev.saf.outs.length → (s.dev.saf.output o).onA = true → s.dev.saf.tpEn o = true →
    (s.dev.saf.output o).pulseA + 250000000 * (s.dev.saf.word false 12 / 2 ^ 16 % 2 ^ 10) * 95 / 100 ≤ s.dev.now →
    ∃ t, exec (.testPulse o false true) s = .next t ∧ OnlyParts [.saf] s t ∧ t.dev.saf = { s.dev.saf with outs := modAt s.dev.saf.outs o (fun x => { x with pulseA := s.dev.now }) } ∧
      Output.pin (pinSout o) false ∈ t.dev.out ∧ Output.pin (pinSout o) true ∈ t.dev.out) ∧
  (∀ (s : State) (o : Nat), o < 4 → o < s.dev.saf.outs.length → s.dev.saf.outEn false o = true → (s.dev.saf.output o).fault = false → s.dev.saf.stA = .run → (s.dev.saf.output o).onA = true →
    s.dev.saf.tpEn o = true → (s.dev.saf.output o).pulseA + 250000000 * (s.dev.saf.word false 12 / 2 ^ 16 % 2 ^ 10) * 95 / 100 ≤ s.dev.now → 0x28 < s.dev.irq.raw.length →
    ∃ t, exec (.testPulse o false false) s = .next t ∧ OnlyParts [.saf, .evt] s t ∧ (t.dev.saf.output o).fault = true ∧ (t.dev.saf.output o).onA = false ∧
      (t.dev.saf.output o).onB = false ∧ (at' t.dev.irq.raw 0x28).testBit 6 = true) ∧
  (∀ (s : State) (o : Nat) (chB : Bool), o < 4 → o < s.dev.saf.outs.length → s.dev.saf.outEn chB o = true → (s.dev.saf.output o).fault = false → s.dev.saf.stA = .run → 0x28 < s.dev.irq.raw.length →
    ∃ t, exec (.soutfbMismatch o chB) s = .next t ∧ OnlyParts [.saf, .evt] s t ∧ (t.dev.saf.output o).fault = true ∧ (t.dev.saf.output o).onA = false ∧
      (t.dev.saf.output o).onB = false ∧ (at' t.dev.irq.raw 0x28).testBit 6 = true)

/-- 16 R481 to R485: a failed exchange enters HALT with its cause and every output off; two unlock words with the key held enter CONFIG, any other sequence counts a failure; leaving CONFIG checks both copies' CRC; power-up enters INIT. A wrong word without a first word counts a failure too (the model's reading, log 19). Where a clause leaves the state as it was because the event is not due, that is the model's choice (log 6). -/
def Obligations.IslandChannelsAndConfiguration : Prop :=
  (∀ (s : State) (x : SafExch), s.dev.saf.stA = .halt → ∃ t, exec (.safExchange x) s = .next t ∧ OnlyParts [] s t) ∧
  (∀ (s : State) (x : SafExch), s.dev.saf.stA ≠ .halt → x.ok = true → x.disagree = false → x.clockOk = true → x.goodA = true → x.goodB = true →
    ∃ t, exec (.safExchange x) s = .next t ∧ OnlyParts [.saf] s t ∧ t.dev.saf = { s.dev.saf with goodA := true, goodB := true, missedEx := 0, disagree := 0 }) ∧
  (∀ (s : State) (x : SafExch), s.dev.saf.stA ≠ .halt → s.dev.saf.disagree < 2 → 0x28 < s.dev.irq.raw.length →
    let twice := x.ok && x.disagree && s.dev.saf.disagree == 1
    let late := !x.ok && s.dev.saf.missedEx == 2
    twice = true ∨ x.clockOk = false ∨ x.goodA = false ∨ x.goodB = false ∨ late = true →
    ∃ t, exec (.safExchange x) s = .next t ∧ OnlyParts [.saf, .evt] s t ∧ t.dev.saf.stA = .halt ∧ t.dev.saf.stB = .halt ∧ (at' t.dev.irq.raw 0x28).testBit 7 = true ∧
      t.dev.saf.cause = (if twice = true then 1 else if x.clockOk = false then 2 else if x.goodA = false ∨ x.goodB = false then 3 else 4) ∧
      (∀ o, o < 4 → (t.dev.saf.output o).onA = false ∧ (t.dev.saf.output o).onB = false)) ∧
  (∀ (s : State) (v : Nat), let ok := v = 0x5AFE ∧ s.dev.saf.key = true ∧ (s.dev.saf.stA = .run ∨ s.dev.saf.stA = .cfgBad)
    ∃ t, exec (.safUnlockFirst v) s = .next t ∧ OnlyParts [.saf] s t ∧ (ok → t.dev.saf = { s.dev.saf with unlockAt := some s.dev.now }) ∧
      (¬ ok → t.dev.saf = { s.dev.saf with unlockAt := none, unlockFail := (s.dev.saf.unlockFail + 1) % 256 })) ∧
  (∀ (s : State) (u : Nat), s.dev.saf.unlockAt = some u → s.dev.saf.key = true → s.dev.now ≤ u + 25000000 →
    ∃ t, exec (.safUnlockSecond 0xC0DE) s = .next t ∧ OnlyParts [.saf, .evt] s t ∧ t.dev.saf.stA = .config ∧ t.dev.saf.stB = .config ∧ t.dev.saf.unlockAt = none ∧
      t.dev.saf.cfgA = s.dev.saf.cfgA ∧ t.dev.saf.unlockFail = s.dev.saf.unlockFail ∧ (∀ o, o < 4 → (t.dev.saf.output o).onA = false ∧ (t.dev.saf.output o).onB = false)) ∧
  (∀ (s : State) (v : Nat), s.dev.saf.unlockAt = none ∨ v ≠ 0xC0DE ∨ s.dev.saf.key = false →
    ∃ t, exec (.safUnlockSecond v) s = .next t ∧ OnlyParts [.saf] s t ∧ t.dev.saf = { s.dev.saf with unlockAt := none, unlockFail := (s.dev.saf.unlockFail + 1) % 256 }) ∧
  (∀ (s : State) (chB : Bool), ∃ t, exec (.safInputChange .key chB false) s = .next t ∧ OnlyParts [.saf] s t ∧ t.dev.saf.key = false ∧ t.dev.saf.unlockAt = none ∧
      (s.dev.saf.unlockAt ≠ none → t.dev.saf.unlockFail = (s.dev.saf.unlockFail + 1) % 256) ∧ t.dev.saf.stA = s.dev.saf.stA) ∧
  (∀ (s : State) (u : Nat), s.dev.saf.unlockAt = some u → u + 25000000 < s.dev.now →
    ∃ t, exec .safUnlockTimeout s = .next t ∧ OnlyParts [.saf] s t ∧ t.dev.saf = { s.dev.saf with unlockAt := none, unlockFail := (s.dev.saf.unlockFail + 1) % 256 }) ∧
  (∀ (s : State), s.dev.saf.stA = .config → 0x28 < s.dev.irq.raw.length → let c := s.dev.saf
    ∃ t, exec (.safConfigExit false) s = .next t ∧ OnlyParts [.saf, .evt, .cfg] s t ∧ t.dev.saf.crcA = safCrc c.cfgA ∧ t.dev.saf.crcB = safCrc c.cfgB ∧ t.dev.saf.cfgA = c.cfgA ∧
      (safCrc c.cfgA = c.word false 15 ∧ safCrc c.cfgB = c.word true 15 → t.dev.saf.stA = .run ∧ t.dev.saf.stB = .run ∧ t.dev.saf.cause = 0) ∧
      (safCrc c.cfgA ≠ c.word false 15 → t.dev.saf.stA = .cfgBad ∧ t.dev.saf.stB = .cfgBad ∧ t.dev.saf.cause = 5 ∧ (at' t.dev.irq.raw 0x28).testBit 7 = true) ∧
      (s.dev.cfg.phase.inHand = true → s.dev.cfg.safetyDiff = true → t.dev.cfg.phase = .aborted) ∧ (s.dev.cfg.safetyDiff = false → t.dev.cfg = s.dev.cfg)) ∧
  (∀ (s : State), s.dev.saf.stA ≠ .config ∨ s.dev.saf.key = true → ∃ t, exec (.safConfigExit true) s = .next t ∧ OnlyParts [] s t) ∧
  (∀ (s : State) (v : Nat), 15 < s.dev.saf.cfgA.length → 15 < s.dev.saf.cfgB.length →
    ∃ t, exec (.safCrcExpWrite v) s = .next t ∧ OnlyParts [.saf, .evt] { s with regs := t.regs } t ∧
      (s.dev.saf.stA = .config → t.regs = s.regs ∧ t.dev.saf.stA = .config ∧ t.dev.saf.word false 15 = v % 2 ^ 32 ∧ t.dev.saf.word true 15 = v % 2 ^ 32) ∧
      (s.dev.saf.stA = .init → t.regs = s.regs ∧ t.dev.saf.word false 15 = v % 2 ^ 32 ∧ t.dev.saf.crcA = safCrc s.dev.saf.cfgA ∧
        t.dev.saf.stA = (if safCrc s.dev.saf.cfgA = v % 2 ^ 32 ∧ safCrc s.dev.saf.cfgB = v % 2 ^ 32 then .run else .cfgBad)) ∧
      (s.dev.saf.stA ≠ .config → s.dev.saf.stA ≠ .init → t.regs = s.regs.reject 0x28 0x13C 7 ∧ t.dev.saf = s.dev.saf)) ∧
  (∀ (s : State) (b : Bool), s.dev.mde.dstate = .reset ∨ s.dev.mde.dstate = .boot → 0x28 < s.dev.irq.raw.length →
    ∃ t, exec (.safPowerUp b) s = .next t ∧ OnlyParts [.saf, .evt] s t ∧ t.dev.saf.stA = .init ∧ t.dev.saf.stB = .init ∧ t.dev.saf.srst = b ∧ t.dev.saf.srstClosed = b ∧
      t.dev.saf.cfgA = ({} : SafSt).cfgA ∧ t.dev.saf.outs = ({} : SafSt).outs ∧ (b = true → (at' t.dev.irq.raw 0x28).testBit 5 = true))

/-! ### Recorder, lifetime store, hold-up -/

/-- 17 R490 R496 R498 R500 R501 R502 R504: a due queue is committed in SEQ order to the Reel, and to the Cornerstone where permanent, when a segment may start; host codes enter, merge, or are dropped and counted at a full queue; ACK moves the backlog. -/
def Obligations.EventRecords : Prop :=
  (∀ (s : State) (x : EvRec), s.dev.evt.queue = [x] → s.dev.evt.rptPend = 0 → s.dev.evt.due s.dev.now = true → s.dev.mramOn = true → segOk s.regs s.dev = true →
    let n := if s.dev.evt.hasHead = true then (s.dev.evt.headSlot + 1) % 131072 else 0
    ∃ t, exec .evtCommit s = .next t ∧ OnlyParts [.evt, .hld, .lif] s t ∧ t.dev.evt.reel = sins s.dev.evt.reel n x ∧ t.dev.evt.headSlot = n ∧ t.dev.evt.headSeq = x.seq ∧
      t.dev.evt.corner = (if x.perm = true ∧ s.dev.evt.corner.length < 4096 then s.dev.evt.corner ++ [x] else s.dev.evt.corner) ∧ t.dev.hld.evtWait = false) ∧
  (∀ (s : State), s.dev.evt.queue ≠ [] → s.dev.evt.due s.dev.now = true → s.dev.mramOn = true → segOk s.regs s.dev = true →
    ∃ t, exec .evtCommit s = .next t ∧ OnlyParts [.evt, .hld, .lif] s t ∧ t.dev.evt.headSeq = (s.dev.evt.queue.getLast?.getD default).seq ∧ t.dev.evt.hasHead = true ∧
      (∀ x ∈ t.dev.evt.queue, x.code = Ev.recordsLost.code ∨ x.code = Ev.cornerstoneFull.code ∨ x.code = Ev.wearWarn.code)) ∧
  (∀ (s : State), s.dev.evt.waits = true → s.dev.evt.due s.dev.now = true → s.dev.mramOn = true → segOk s.regs s.dev = false →
    ∃ t, exec .evtCommit s = .next t ∧ OnlyParts [.hld] s t ∧ t.dev.hld.evtWait = true ∧
      t.dev.hld.deferred = (if s.dev.hld.evtWait = true then s.dev.hld.deferred else (s.dev.hld.deferred + 1) % 2 ^ 16)) ∧
  (∀ (s : State), s.dev.evt.lostNow ≠ 0 → s.dev.evt.stopped = false → s.dev.evt.queue.length < 2048 → 0x29 < s.dev.irq.raw.length →
    ∃ t x, exec .recordsLost s = .next t ∧ OnlyParts [.evt] s t ∧ t.dev.evt.queue = s.dev.evt.queue ++ [x] ∧ x.code = 4 ∧ x.p0 = s.dev.evt.lostNow % 2 ^ 32 ∧
      x.seq = s.dev.evt.nextSeq ∧ t.dev.evt.lostNow = 0 ∧ (at' t.dev.irq.raw 0x29).testBit 1 = true) ∧
  (∀ (s : State) (v : Nat), let c := v % 2 ^ 12
    let y := s.dev.mkRec c { p0 := s.regs.get F.EVT_HOST_P0_P0, p1 := s.regs.get F.EVT_HOST_P12_P1, p2 := s.regs.get F.EVT_HOST_P12_P2, p3 := v / 2 ^ 16 % 256 } false
    0xF00 ≤ c → c ≤ 0xFFE → s.dev.evt.stopped = false → s.dev.evt.lostNow = 0 → s.dev.evt.queue.length < 2048 →
    s.dev.evt.newest.any (fun o => mergeable (s.regs.get F.EVT_CFG_REPEAT_WIN) o y) = false →
    ∃ t x, exec (.evtHostCode v) s = .next t ∧ OnlyParts [.evt] s t ∧ t.dev.evt.queue = s.dev.evt.queue ++ [x] ∧ x.code = c ∧ x.seq = s.dev.evt.nextSeq ∧
      x.p0 = s.regs.get F.EVT_HOST_P0_P0 % 2 ^ 32 ∧ x.p1 = s.regs.get F.EVT_HOST_P12_P1 % 2 ^ 16 ∧ x.p2 = s.regs.get F.EVT_HOST_P12_P2 % 2 ^ 16 ∧ x.p3 = v / 2 ^ 16 % 256 ∧
      x.time = s.dev.evTime.1 % 2 ^ 64 ∧ x.age = s.dev.age ∧ x.rpt = 0 ∧ x.perm = false ∧ t.dev.evt.nextSeq = (s.dev.evt.nextSeq + 1) % 2 ^ 32 ∧
      t.dev.evt.reel = s.dev.evt.reel ∧ t.dev.evt.corner = s.dev.evt.corner) ∧
  (∀ (s : State) (v : Nat), let c := v % 2 ^ 12
    0xF00 ≤ c → c ≤ 0xFFE → s.dev.evt.stopped = false → s.dev.evt.lostNow ≠ 0 → s.dev.evt.queue.length < 2047 →
    ∃ t x, exec (.evtHostCode v) s = .next t ∧ OnlyParts [.evt] s t ∧ t.dev.evt.queue.dropLast.dropLast = s.dev.evt.queue ∧ t.dev.evt.queue.length = s.dev.evt.queue.length + 2 ∧
      (at' t.dev.evt.queue s.dev.evt.queue.length).code = 4 ∧ t.dev.evt.queue.getLast? = some x ∧ x.code = c ∧
      x.p0 = s.regs.get F.EVT_HOST_P0_P0 % 2 ^ 32 ∧ x.p1 = s.regs.get F.EVT_HOST_P12_P1 % 2 ^ 16 ∧ x.p2 = s.regs.get F.EVT_HOST_P12_P2 % 2 ^ 16 ∧ x.p3 = v / 2 ^ 16 % 256 ∧
      x.time = s.dev.evTime.1 % 2 ^ 64 ∧ x.age = s.dev.age ∧ x.rpt = 0 ∧ x.perm = false) ∧
  (∀ (s : State) (v : Nat) (o : EvRec), let x := s.dev.mkRec (v % 2 ^ 12) { p0 := s.regs.get F.EVT_HOST_P0_P0, p1 := s.regs.get F.EVT_HOST_P12_P1, p2 := s.regs.get F.EVT_HOST_P12_P2, p3 := v / 2 ^ 16 % 256 } false
    0xF00 ≤ v % 2 ^ 12 → v % 2 ^ 12 ≤ 0xFFE → s.dev.evt.stopped = false → s.dev.evt.lostNow = 0 → s.dev.evt.queue.getLast? = some o → mergeable (s.regs.get F.EVT_CFG_REPEAT_WIN) o x = true →
    ∃ t, exec (.evtHostCode v) s = .next t ∧ OnlyParts [.evt] s t ∧ t.dev.evt = { s.dev.evt with queue := s.dev.evt.queue.dropLast ++ [{ o with rpt := o.rpt + 1 }] }) ∧
  (∀ (s : State) (v : Nat), 0xF00 ≤ v % 2 ^ 12 → v % 2 ^ 12 ≤ 0xFFE → s.dev.evt.stopped = false → 2048 ≤ s.dev.evt.queue.length → s.regs.get F.EVT_CFG_REPEAT_WIN = 0 →
    ∃ t, exec (.evtHostCode v) s = .next t ∧ OnlyParts [.evt] s t ∧ t.dev.evt = { s.dev.evt with lost := (s.dev.evt.lost + 1) % 2 ^ 16, lostNow := s.dev.evt.lostNow + 1 }) ∧
  (∀ (s : State) (v : Nat), v % 2 ^ 12 < 0xF00 ∨ v % 2 ^ 12 = 0xFFF →
    ∃ t, exec (.evtHostCode v) s = .next t ∧ t.regs = s.regs.reject 0x29 0x68 3 ∧ OnlyParts [] { s with regs := t.regs } t) ∧
  (∀ (s : State) (v : Nat), 0x29 < s.dev.irq.raw.length → let left := (s.dev.evt.headSeq + 2 ^ 32 - v % 2 ^ 32) % 2 ^ 32
    let up := decide (s.regs.get F.EVT_CFG_WM ≤ left)
    ∃ t, exec (.evtAck v) s = .next t ∧ OnlyParts [.evt] s t ∧ t.dev.evt = { s.dev.evt with ack := v % 2 ^ 32, below := !up } ∧
      (up = true → s.dev.evt.below = true → (at' t.dev.irq.raw 0x29).testBit 0 = true))

/-- 17 R506 R508 R509: the lifetime store is committed to copies A, B and C in rotation when asked for or after 60 s; a preset and a leap entry need LOCK and good values. That a preset is applied at the lifetime commit is the model's reading (log 99). Where a clause leaves the state as it was because the event is not due, that is the model's choice (log 6). -/
def Obligations.LifetimeStore : Prop :=
  (∀ (s : State), (s.dev.lif.due = true ∨ s.dev.lif.lastAt + 60000000000 ≤ s.dev.tb3) → s.dev.mramOn = true → segOk s.regs s.dev = true → 2 < s.dev.lif.copies.length →
    let n := if s.dev.lif.gen = 0 then 0 else (s.dev.lif.copy + 1) % 3
    ∃ t, exec .lifCommit s = .next t ∧ OnlyParts [.lif, .evt] s t ∧ t.dev.lif.gen = (s.dev.lif.gen + 1) % 2 ^ 32 ∧ t.dev.lif.copy = n ∧ t.dev.lif.due = false ∧
      t.dev.lif.lastAt = s.dev.tb3 ∧ t.dev.lif.live.tb3 = s.dev.tb3 ∧ t.dev.lif.preset = none ∧ at' t.dev.lif.copies n = { gen := t.dev.lif.gen, good := true, data := t.dev.lif.live } ∧
      (∀ m, m ≠ n → at' t.dev.lif.copies m = at' s.dev.lif.copies m) ∧
      (∀ h c v, s.dev.lif.preset = some (h, c, v) → h < s.dev.lif.live.thr.length → (at' t.dev.lif.live.thr h).get c = v)) ∧
  (∀ (s : State), (s.dev.lif.due = true ∨ s.dev.lif.lastAt + 60000000000 ≤ s.dev.tb3) → s.dev.mramOn = true → segOk s.regs s.dev = false →
    ∃ t, exec .lifCommit s = .next t ∧ OnlyParts [.lif, .hld] s t ∧ t.dev.lif = { s.dev.lif with deferred := true } ∧
      t.dev.hld.deferred = (if s.dev.lif.deferred = true then s.dev.hld.deferred else (s.dev.hld.deferred + 1) % 2 ^ 16)) ∧
  (∀ (s : State), s.dev.lif.due = false → s.dev.tb3 < s.dev.lif.lastAt + 60000000000 → ∃ t, exec .lifCommit s = .next t ∧ OnlyParts [] s t) ∧
  (∀ (s : State), let c := s.regs.get F.LIF_PRESET_SEL_CNT
    let lock := s.regs.lockOpen 0x2A s.dev.now
    ∃ t, exec .lifPreset s = .next t ∧ OnlyParts [.lif] { s with regs := t.regs } t ∧
      (lock = false → t.regs = s.regs.reject 0x2A 0x88 2 ∧ t.dev.lif = s.dev.lif) ∧
      (lock = true → 3 < c → t.regs = s.regs.reject 0x2A 0x88 3 ∧ t.dev.lif = s.dev.lif) ∧
      (lock = true → c ≤ 3 → t.regs = s.regs ∧ t.dev.lif = { s.dev.lif with due := true, preset := some (s.regs.get F.LIF_PRESET_SEL_THR, c, s.regs.get F.LIF_PRESET_VAL_VAL) })) ∧
  (∀ (s : State), let old := s.dev.lif.live.leaps
    let good := old.length < 64 ∧ ∀ x, old.getLast? = some x → x.time < s.dev.lif.stage.time
    let lock := s.regs.lockOpen 0x2A s.dev.now
    0x2A < s.dev.irq.raw.length →
    ∃ t, exec .leapAdd s = .next t ∧ OnlyParts [.lif, .evt] { s with regs := t.regs } t ∧
      (lock = false → t.regs = s.regs.reject 0x2A 0xB0 2 ∧ t.dev.lif = s.dev.lif ∧ t.dev.evt = s.dev.evt) ∧
      (lock = true → ¬ good → t.regs = s.regs.reject 0x2A 0xB0 3 ∧ t.dev.lif = s.dev.lif ∧ t.dev.evt = s.dev.evt) ∧
      (lock = true → good → t.regs = s.regs ∧ t.dev.lif.live.leaps = old ++ [{ s.dev.lif.stage with late := false }] ∧ t.dev.lif.due = true ∧ (at' t.dev.irq.raw 0x2A).testBit 0 = true))

/-- 17 R511 R512: a capacitance measurement runs at once or after the segment in hand, keeps segments off for 1 ms after it, and gives C or fails; the available energy follows the node voltage, with an interrupt at each change of HOLD_LOW. The current and the arithmetic follow the model's reading (log 99). Where a clause leaves the state as it was because the event is not due, that is the model's choice (log 6). -/
def Obligations.HoldUpEnergy : Prop :=
  (∀ (s : State), ∃ t, exec .holdMeasure s = .next t ∧ OnlyParts [.hld] s t ∧
      (s.dev.hld.measuring = true → t.dev.hld = s.dev.hld) ∧
      (s.dev.hld.measuring = false → s.dev.hld.segment = true → t.dev.hld = { s.dev.hld with measDue := true }) ∧
      (s.dev.hld.measuring = false → s.dev.hld.segment = false → t.dev.hld = { s.dev.hld with measuring := true, measDue := false, measAt := s.dev.now + 500000 })) ∧
  (∀ (s : State) (a b c : F32), s.dev.hld.measuring = true → 0x2B < s.dev.irq.raw.length → let p := b.to64.sub a.to64
    let q := c.to64.sub b.to64
    ∃ t, exec (.holdMeasureDone a b c) s = .next t ∧ OnlyParts [.hld, .evt] s t ∧ t.dev.hld.measuring = false ∧ t.dev.hld.quietTo = s.dev.now + 250000 ∧
      t.dev.hld.dvPre = p.to32 ∧ t.dev.hld.dvStep = q.to32 ∧
      ((frac 2 1000).le (p.sub q) = true → t.dev.hld.measFail = false ∧ t.dev.hld.c = ((frac 1 10000).div (p.sub q)).to32 ∧ (at' t.dev.irq.raw 0x2B).testBit 2 = true) ∧
      ((frac 2 1000).le (p.sub q) = false → t.dev.hld.measFail = true ∧ (at' t.dev.irq.raw 0x2B).testBit 3 = true ∧
        t.dev.hld.c = (if s.dev.hld.failRun = 0 then s.dev.hld.c else F32.zero))) ∧
  (∀ (s : State) (a b c : F32), s.dev.hld.measuring = false → ∃ t, exec (.holdMeasureDone a b c) s = .next t ∧ OnlyParts [] s t) ∧
  (∀ (s : State) (v : F32), s.dev.cfg.slotDue = false → 0x2B < s.dev.irq.raw.length → let e := holdEnergy s.regs s.dev.hld.c v
    let low := !((s.regs.f32 F.HLD_E_REQ_E_REQ).le e)
    ∃ t, exec (.holdEnergyUpdate v) s = .next t ∧ OnlyParts [.hld, .evt] s t ∧ t.dev.hld = { s.dev.hld with v := v, e := e, low := low } ∧
      (low = s.dev.hld.low → t.dev.evt = s.dev.evt) ∧ (low ≠ s.dev.hld.low → (at' t.dev.irq.raw 0x2B).testBit (if low = true then 0 else 1) = true))

/-! ### Local loops, actuator outputs, position feedback -/

/-- 11 R312 R318 R320 R321 R323 R333, 01 R33, 12 R336 R337 R339: a sample on its instant applies the law of its channel's state; its output latches 2 µs later where it is enabled, and enters its fail state elsewhere; a clear waits for the next sample. The first ramp step and stale feedback follow the model's reading (log 94). Where a clause leaves the state as it was because the event is not due, that is the model's choice (log 6). -/
def Obligations.LocalLoops : Prop :=
  (∀ (s : State) (c : Nat), loopDue s.regs s.dev c = false → ∃ t, exec (.loopSample c) s = .next t ∧ OnlyParts [] s t) ∧
  (∀ (s : State) (c : Nat), loopDue s.regs s.dev c = true → s.dev.loopsOn = false → c < s.dev.lop.ch.length →
    ∃ t, exec (.loopSample c) s = .next t ∧ OnlyParts [.lop, .pfg, .enc, .dio, .evt, .pair] { s with regs := t.regs } t ∧ (t.dev.loop c).st = .off ∧ (t.dev.loop c).drive = false ∧
      ((s.dev.loop c).st ≠ .off → (t.dev.loop c).pend = some (s.dev.now + 500)) ∧
      ((s.dev.running && !s.dev.commands) = false → (t.dev.loop c).u = F32.zero)) ∧
  (∀ (s : State) (c : Nat), let h := s.dev.loop c
    let k := loopCfg s.regs c
    let b := loopBank s.regs c h.bank
    let y := ((s.regs.f32 F.LOP_FB_SCALE_V c).mul (F32.ofInt (s.dev.qd (s.regs.at F.LOP_CH_CFG_FB_PORT c)).count)).add (s.regs.f32 F.LOP_FB_OFFSET_V c)
    let a := if b.tf.isZero = true then F32.zero else b.tf.div (b.tf.add k.ts)
    let p := b.kp.mul (h.hand.r.sub y)
    let d := (a.mul h.d).sub ((((F32.one.sub a).mul b.kd).mul (y.sub h.y)).div k.ts)
    let raw := ((p.add h.i).add d).add ((b.kff.mul h.hand.ff).add (b.kv.mul h.hand.rd))
    loopDue s.regs s.dev c = true → s.dev.loopsOn = true → c < s.dev.lop.ch.length → (∀ p, (s.regs.head p).pend = false) → h.coefWait = [] →
    h.st = .run → h.restart = false → h.handed = none → h.clr = false → h.swapDue = false → h.bank = s.regs.at F.LOP_CH_CTL_BANK c →
    s.regs.at F.LOP_CH_CFG_FB_SRC c = 2 → s.regs.bit F.LOP_CH_CFG_FB_DIFF c = false → s.regs.bit F.LOP_CH_CFG_WRAP c = false → s.regs.bit F.LOP_CH_CFG_SP_INTERP c = false →
    s.regs.at F.LOP_CH_CFG_PL_MODEL c = 0 → 0 < s.regs.at F.LOP_PL_CNT_PL_COUNT c → (s.dev.qd (s.regs.at F.LOP_CH_CFG_FB_PORT c)).fault = false →
    y.lt (s.regs.f32 F.LOP_FB_MIN_V c) = false → (s.regs.f32 F.LOP_FB_MAX_V c).lt y = false →
    ∃ t, exec (.loopSample c) s = .next t ∧ OnlyParts [.lop] s t ∧ (t.dev.loop c).y = y ∧ (t.dev.loop c).u = k.rateLimit (raw.clamp k.outMin k.outMax) h.u ∧
      (t.dev.loop c).d = d ∧ (t.dev.loop c).st = .run ∧ (t.dev.loop c).drive = true ∧ (t.dev.loop c).pend = some (s.dev.now + 500) ∧ (∀ j, j ≠ c → t.dev.loop j = s.dev.loop j)) ∧
  (∀ (s : State) (c : Nat), let h := s.dev.loop c
    let k := loopCfg s.regs c
    loopDue s.regs s.dev c = true → s.dev.loopsOn = true → c < s.dev.lop.ch.length → (∀ p, (s.regs.head p).pend = false) → h.coefWait = [] →
    h.st = .open_ → h.cause = 0 → h.restart = false → h.handed = none → h.swapDue = false → h.bank = s.regs.at F.LOP_CH_CTL_BANK c →
    s.regs.at F.LOP_CH_CFG_FB_SRC c = 0 → s.regs.bit F.LOP_CH_CFG_SP_INTERP c = false →
    ∃ t, exec (.loopSample c) s = .next t ∧ OnlyParts [.lop] s t ∧ (t.dev.loop c).st = .open_ ∧ (t.dev.loop c).drive = true ∧
      (t.dev.loop c).u = k.rateLimit (((k.olGain.mul h.hand.r).add ((loopBank s.regs c h.bank).kff.mul h.hand.ff)).clamp k.outMin k.outMax) h.u ∧
      (t.dev.loop c).pend = some (s.dev.now + 500) ∧ (∀ j, j ≠ c → t.dev.loop j = s.dev.loop j)) ∧
  (∀ (s : State) (c u : Nat), let p := s.regs.at F.LOP_CH_CFG_OUT_PORT c
    c < 32 → (s.dev.loop c).pend = some u → u ≤ s.dev.now → s.regs.at F.LOP_CH_CFG_OUT_KIND c = 0 → p < 16 → p < s.dev.aou.outs.length →
    ∃ t, exec (.outputLatch c) s = .next t ∧ OnlyParts [.lop, .aou] s t ∧ (t.dev.loop c).pend = none ∧
      (aouEnabled s.regs s.dev p = true → (t.dev.anOut p).code = (dacCode (aouX s.regs p (s.dev.loop c).u)).1 ∧ (t.dev.anOut p).fail = false) ∧
      (aouEnabled s.regs s.dev p = false → (t.dev.anOut p).fail = true ∧
        ((s.dev.anOut p).fail = false → (t.dev.anOut p).code = (if s.regs.bit F.AOU_CFG_FAIL p = true then (dacCode (aouX s.regs p F32.zero)).1 else (s.dev.anOut p).code))) ∧
      (∀ n, n ≠ p → t.dev.anOut n = s.dev.anOut n)) ∧
  (∀ (s : State) (c : Nat), (∀ u, (s.dev.loop c).pend = some u → s.dev.now < u) → ∃ t, exec (.outputLatch c) s = .next t ∧ OnlyParts [] s t) ∧
  (∀ (s : State), ∃ t, exec .loopFaultClr s = .next t ∧ OnlyParts [.lop] s t ∧
      t.dev.lop = { s.dev.lop with ch := modAt s.dev.lop.ch (s.regs.get F.LOP_SEL_CH) (fun h => { h with clr := true }) })

/-- 12 R340 to R346 R348 R350: a PWM duty comes into force where its period starts; an axis follows its demand every 10 µs, sends due pulses one step at a time, and stops, homes or goes on by command under the conditions of the chapter. The motion between updates, the order of the stop causes and the offset of an axis follow the model's choice (log 20, 21, 94). Where a clause leaves the state as it was because the event is not due, that is the model's choice (log 6). -/
def Obligations.ActuatorOutputs : Prop :=
  (∀ (s : State) (n h : Nat) (dir : Bool), 16 ≤ n → n < 32 → n < s.dev.aou.outs.length → s.dev.now % s.regs.at F.AOU_PERIOD_PERIOD n = 0 → (s.dev.anOut n).next = some (h, dir) →
    ∃ t, exec (.pwmPeriodStart n) s = .next t ∧ OnlyParts [.aou, .dio] s t ∧ (t.dev.anOut n).code = h ∧ (t.dev.anOut n).next = none ∧ (∀ m, m ≠ n → t.dev.anOut m = s.dev.anOut m) ∧
      (s.regs.bit F.AOU_CFG_PWM_MODE n = false → t.dev.dio = s.dev.dio)) ∧
  (∀ (s : State) (n : Nat), s.dev.now % s.regs.at F.AOU_PERIOD_PERIOD n ≠ 0 ∨ (s.dev.anOut n).next = none → ∃ t, exec (.pwmPeriodStart n) s = .next t ∧ OnlyParts [] s t) ∧
  (∀ (s : State) (i : Nat), let a := s.dev.axis i
    let want := if (boundOut s.regs 2 i).isSome = true then a.u.to64.mul (s.regs.f64 F.PFG_V_MAX_V_MAX i) else F64.zero
    i < 8 → i < s.dev.pfg.axes.length → s.dev.now % 2500 = 0 → pfgEnabled s.regs s.dev i = true → a.chatter = false → a.homing = .none → s.regs.bit F.PFG_CFG_MODE i = false →
    s.regs.bit F.PFG_IO_LIM_POS_EN i = false → s.regs.bit F.PFG_IO_LIM_NEG_EN i = false → s.regs.bit F.PFG_IO_EN_DOUT_EN i = false →
    ∃ t, exec (.stepRateUpdate i) s = .next t ∧ OnlyParts [.pfg] s t ∧ (t.dev.axis i).enOut = true ∧ (t.dev.axis i).fail = false ∧ (t.dev.axis i).pos = a.pos ∧
      (t.dev.axis i).rate = (approachSigned a.rate.to64 want (s.regs.f64 F.PFG_A_MAX_A_MAX i) (s.regs.f64 F.PFG_D_MAX_D_MAX i)).to32 ∧ (∀ j, j ≠ i → t.dev.axis j = s.dev.axis j)) ∧
  (∀ (s : State) (i : Nat), s.dev.now % 2500 ≠ 0 ∨ pfgEnabled s.regs s.dev i = false → ∃ t, exec (.stepRateUpdate i) s = .next t ∧ OnlyParts [] s t) ∧
  (∀ (s : State) (i : Nat), let a := s.dev.axis i
    let up := decide (0 < a.due)
    i < 8 → a.due ≠ 0 → a.chatter = false → a.fail = false → limitOn s.regs s.dev i up = false → a.pulseAt = none → i < s.dev.pfg.axes.length →
    ∃ t, exec (.stepPulse i) s = .next t ∧ OnlyParts [.pfg, .enc, .dio] s t ∧ (t.dev.axis i).pos = wrapS 32 (if up = true then a.pos + 1 else a.pos - 1) ∧
      (t.dev.axis i).due = (if up = true then a.due - 1 else a.due + 1) ∧ (t.dev.axis i).dir = up ∧ (t.dev.axis i).pulseAt = some s.dev.now ∧ Output.pin (pinStep i) true ∈ t.dev.out ∧
      (∀ j, j ≠ i → t.dev.axis j = s.dev.axis j)) ∧
  (∀ (s : State) (i : Nat), (s.dev.axis i).due = 0 ∨ (s.dev.axis i).chatter = true ∨ (s.dev.axis i).fail = true → ∃ t, exec (.stepPulse i) s = .next t ∧ OnlyParts [] s t) ∧
  (∀ (s : State), let i := s.regs.get F.PFG_SEL_AXIS
    let a := s.dev.axis i
    i < s.dev.pfg.axes.length → 0x15 < s.dev.irq.raw.length →
    ∃ t, exec .pfgStop s = .next t ∧ OnlyParts [.pfg, .evt] s t ∧ (t.dev.axis i).rate = F32.zero ∧ (t.dev.axis i).due = 0 ∧ (t.dev.axis i).moving = false ∧ (t.dev.axis i).homing = .none ∧
      (t.dev.axis i).pos = a.pos ∧ (a.midMove = true → (t.dev.axis i).posValid = false ∧ (at' t.dev.irq.raw 0x15).testBit 1 = true) ∧
      (a.midMove = false → (t.dev.axis i).posValid = a.posValid ∧ t.dev.evt = s.dev.evt) ∧ (∀ j, j ≠ i → t.dev.axis j = s.dev.axis j)) ∧
  (∀ (s : State), let i := s.regs.get F.PFG_SEL_AXIS
    let a := s.dev.axis i
    let n := restSteps a.rate.to64.abs a.dUse.to64 a.frac
    ∃ t, exec .pfgSoftStop s = .next t ∧ OnlyParts [.pfg] s t ∧ (∀ j, j ≠ i → t.dev.axis j = s.dev.axis j) ∧
      (i < s.dev.pfg.axes.length → a.moving = true → a.midMove = true → t.dev.axis i = { a with target := if a.rate.isNeg = true then a.pos + a.due - n else a.pos + a.due + n, after := none }) ∧
      (a.moving = false ∨ a.midMove = false → t.dev.axis i = a)) ∧
  (∀ (s : State), let i := s.regs.get F.PFG_SEL_AXIS
    let a := s.dev.axis i
    let ok := !a.midMove && !a.chatter && a.homing == .none && pfgEnabled s.regs s.dev i
    ∃ t, exec .pfgHome s = .next t ∧ OnlyParts [.pfg] s t ∧ (ok = false → OnlyParts [] s t) ∧
      (ok = true → i < s.dev.pfg.axes.length → (t.dev.axis i).homing = .search ∧ (t.dev.axis i).posValid = false ∧ (t.dev.axis i).homingFail = false ∧ (t.dev.axis i).moving = false ∧ (t.dev.axis i).pos = a.pos) ∧
      (∀ j, j ≠ i → t.dev.axis j = s.dev.axis j)) ∧
  (∀ (s : State), let i := s.regs.get F.PFG_SEL_AXIS
    let busy := (List.range 32).any fun n => limitOf s.regs i n && (at' s.dev.dio.din n).chatters
    ∃ t, exec .pfgClrChatter s = .next t ∧ OnlyParts [.pfg] s t ∧ (busy = true → t.dev.pfg = s.dev.pfg) ∧
      (busy = false → t.dev.pfg = { s.dev.pfg with axes := modAt s.dev.pfg.axes i (fun a => { a with chatter := false }) }))

/-- 12 R347 R352 to R355 R357 R359: digital inputs are sampled every 10 µs; a quadrature port counts one step at a time, flags what is illegal, and latches its index; emulation edges leave in order; a compare pulse ends; an SSI port asks for its word where a source is due. -/
def Obligations.PositionFeedback : Prop :=
  (∀ (s : State) (v : Nat), s.dev.now % 2500 = 0 → s.dev.mde.dstate ≠ .reset →
    ∃ t, exec (.dinSample v) s = .next t ∧ OnlyParts [.dio, .pfg, .evt] s t ∧ t.dev.dio.sampleNo = s.dev.dio.sampleNo + 1 ∧ t.dev.dio.level = s.dev.dio.level ∧
      (∀ n, n < 32 → n < s.dev.dio.din.length → at' t.dev.dio.din n = (at' s.dev.dio.din n).sample (v.testBit n) (s.dev.dio.sampleNo + 1) (debTime s.regs n))) ∧
  (∀ (s : State) (p v : Nat) (fwd : Bool), let q := s.dev.qd p
    let up := fwd != s.regs.bit F.ENC_QD_CFG_DIR_INV p
    p < 16 → p < s.dev.enc.qd.length → s.regs.bit F.ENC_QD_CFG_EN p = true → s.regs.en 0x16 = true → q.ab < 4 → quadNext q.ab fwd = v % 4 →
    ∃ t, exec (.qdTransition p v) s = .next t ∧ OnlyParts [.enc, .dio] s t ∧ (t.dev.qd p).count = wrapS 32 (if up = true then q.count + 1 else q.count - 1) ∧ (t.dev.qd p).ab = v % 4 ∧
      (t.dev.qd p).dir = up ∧ (t.dev.qd p).edgeTick = some s.dev.now ∧ (t.dev.qd p).illCount = q.illCount ∧ (∀ j, j ≠ p → t.dev.qd j = s.dev.qd j)) ∧
  (∀ (s : State) (p v : Nat), let q := s.dev.qd p
    p < 16 → p < s.dev.enc.qd.length → s.regs.bit F.ENC_QD_CFG_EN p = true → s.regs.en 0x16 = true → q.ab < 4 → q.ab ≠ v % 4 → quadNext q.ab true ≠ v % 4 → quadNext q.ab false ≠ v % 4 →
    ∃ t, exec (.qdTransition p v) s = .next t ∧ OnlyParts [.enc] s t ∧ (t.dev.qd p).count = q.count ∧ (t.dev.qd p).ab = v % 4 ∧ (t.dev.qd p).illegal = true ∧
      (t.dev.qd p).illCount = (q.illCount + 1) % 2 ^ 16 ∧ (∀ j, j ≠ p → t.dev.qd j = s.dev.qd j)) ∧
  (∀ (s : State) (p : Nat), let q := s.dev.qd p
    let zero := s.regs.at F.ENC_QD_CFG_IDX_MODE p ≠ 0 ∧ (s.regs.at F.ENC_QD_CFG_IDX_MODE p = 1 → q.firstIdx = false)
    p < 16 → p < s.dev.enc.qd.length → s.regs.bit F.ENC_QD_CFG_EN p = true → s.regs.en 0x16 = true → 0x16 < s.dev.irq.raw.length →
    ∃ t, exec (.qdIndex p) s = .next t ∧ OnlyParts [.enc, .dio, .pfg] s t ∧ (t.dev.qd p).idx = q.count ∧ (t.dev.qd p).firstIdx = true ∧ (t.dev.qd p).idxSeen = true ∧
      (zero → (t.dev.qd p).count = 0) ∧ (¬ zero → (t.dev.qd p).count = q.count) ∧ (at' t.dev.irq.raw 0x16).testBit 3 = true) ∧
  (∀ (s : State) (p : Nat), let q := s.dev.qd p
    p < 16 → p < s.dev.enc.qd.length → s.dev.now % 250000 = 0 → 0x16 < s.dev.irq.raw.length →
    ∃ t, exec (.qdIllegalWindow p) s = .next t ∧ OnlyParts [.enc] s t ∧ (t.dev.qd p).count = q.count ∧
      (s.regs.at F.ENC_QD_CFG_ILL_LIMIT p < q.illWin.sum → (t.dev.qd p).fault = true ∧ (q.fault = false → (at' t.dev.irq.raw 0x16).testBit 1 = true)) ∧
      (q.illWin.sum = 0 → q.fault = true → 999 ≤ q.zeroMs → (t.dev.qd p).fault = false ∧ (at' t.dev.irq.raw 0x16).testBit 2 = true)) ∧
  (∀ (s : State) (o : Nat) (f : Bool) (l : List Bool), o < 8 → o < s.dev.enc.emu.length → (s.dev.emu o).queue = f :: l → (s.dev.emu o).lastTick = none →
    ∃ t, exec (.emuEdgeOut o) s = .next t ∧ OnlyParts [.enc] s t ∧ t.dev.emu o = { s.dev.emu o with queue := l, phase := quadNext (s.dev.emu o).phase f, lastTick := some s.dev.now } ∧
      (∀ j, j ≠ o → t.dev.emu j = s.dev.emu j)) ∧
  (∀ (s : State) (i u : Nat), (s.dev.axis i).cmp.pulseEnd = some u → u ≤ s.dev.now →
    ∃ t, exec (.cmpPulseEnd true i) s = .next t ∧ OnlyParts [.pfg, .dio] s t ∧ t.dev.axis i = { s.dev.axis i with cmp := { (s.dev.axis i).cmp with pulseEnd := none } } ∧
      t.dev.dio.func.testBit (s.dev.axis i).cmp.dout = false) ∧
  (∀ (s : State) (i u : Nat), (s.dev.qd i).cmp.pulseEnd = some u → u ≤ s.dev.now →
    ∃ t, exec (.cmpPulseEnd false i) s = .next t ∧ OnlyParts [.enc, .dio] s t ∧ t.dev.qd i = { s.dev.qd i with cmp := { (s.dev.qd i).cmp with pulseEnd := none } } ∧
      t.dev.dio.func.testBit (s.dev.qd i).cmp.dout = false) ∧
  (∀ (s : State) (p : Nat), p < 16 → p < s.dev.enc.ssi.length → boundFb s.regs 1 p = none → s.regs.bit F.ENC_SSI_CFG_EN p = true → s.regs.en 0x16 = true →
    (∃ x ∈ s.dev.descr.sources, x.portKind = 4 ∧ x.port = p ∧ multipleIn ((x.period.to64.mul (F64.ofInt 1000000000)).round.toNat) 4 s.dev.tb0 = true) →
    ∃ t, exec (.ssiRequest p) s = .next t ∧ OnlyParts [.enc] s t ∧ (t.dev.ssi p).valid = false ∧ (t.dev.ssi p).word = (s.dev.ssi p).word ∧
      ((s.dev.ssi p).busyTill = none → (t.dev.ssi p).reqAt = some s.dev.tb0 ∧ (t.dev.ssi p).busyTill = some (s.dev.now + ((ssiBits s.regs p * s.regs.at F.ENC_SSI_CFG_DIV p * 5 + 1) / 2 + 250 * s.regs.at F.ENC_SSI_MONO_MONO p))) ∧
      (∀ u, (s.dev.ssi p).busyTill = some u → s.dev.now < u → (t.dev.ssi p).overrun = ((s.dev.ssi p).overrun + 1) % 256 ∧ (t.dev.ssi p).reqAt = (s.dev.ssi p).reqAt))

/-! ### The control cycle -/

/-- 01 R15 R20 R22 R26 R29 R30, 03 R67, 09 R270 R279 R280 R285: a cut comes when TB0 has reached it, moves the next one by a period and at most 0.01 T, and leaves only converter steps of Grout running; State output, deadline, solve and sub-cycles each happen once, at their place in the cycle. The run of the solve is opaque, and the order of effects at a cut follows the model's reading (log 53, 73). Where a clause leaves the state as it was because the event is not due, that is the model's choice (log 6). -/
def Obligations.ControlCycle : Prop :=
  (∀ (s : State), cutIsDue s.dev = false → ∃ t, exec .cut s = .next t ∧ OnlyParts [] s t) ∧
  (∀ (s : State), cutIsDue s.dev = true → pllGone s.dev = true →
    ∃ t, exec .cut s = .next t ∧ t.regs = s.regs ∧ t.mem = s.mem ∧ t.dev.mde.dstate = .safeHold ∧ t.dev.mde.holdCause = 4 ∧ t.dev.mde.mode = .harbour ∧ t.dev.mde.cyc.running = false ∧
      t.dev.pair.outputs = false ∧ t.dev.pair.state = .single) ∧
  (∀ (s : State), cutIsDue s.dev = true → pllGone s.dev = false →
    ∃ t, exec .cut s = .next t ∧ t.mem = s.mem ∧ t.pending = s.pending ∧ (∀ g ∈ t.dev.grt.running, g.cls = 3) ∧
      (t.dev.mde.cyc.running = true → let p := t.dev.mde.cyc.periodNs
        s.dev.mde.cyc.nextCut + p ≤ t.dev.mde.cyc.nextCut + p / 100 ∧ t.dev.mde.cyc.nextCut ≤ s.dev.mde.cyc.nextCut + p + p / 100 ∧
        (t.dev.mde.cyc.realign = false → t.dev.mde.cyc.nextCut = s.dev.mde.cyc.nextCut + p))) ∧
  (∀ (s : State), s.dev.running = true → s.dev.mde.cyc.running = true → s.dev.mde.cyc.stateOut = false → s.dev.mde.cyc.cutTick + 15 * s.dev.centT ≤ s.dev.now →
    ∃ t, exec .stateOutput s = .next t ∧ t.mem = s.mem ∧ t.pending = s.pending ∧ t.dev.mde.cyc.stateOut = true ∧
      (s.dev.pair.stale = false → t.regs = s.regs)) ∧
  (∀ (s : State), s.dev.mde.cyc.stateOut = true ∨ s.dev.now < s.dev.mde.cyc.cutTick + 15 * s.dev.centT → ∃ t, exec .stateOutput s = .next t ∧ OnlyParts [] s t) ∧
  (∀ (s : State), s.dev.running = true → s.dev.mde.cyc.running = true → s.dev.mde.cyc.deadlineDone = false →
    s.dev.mde.cyc.cutTick + s.regs.get F.CTL_DEADLINE_D * s.dev.centT ≤ s.dev.now →
    ∃ t, exec .deadline s = .next t ∧ t.regs = s.regs ∧ t.mem = s.mem ∧ t.dev.mde.cyc.deadlineDone = true ∧
      (s.dev.mde.mode = .harbour → s.dev.pair.take = none → s.dev.pair.awaitHandover = false → OnlyParts [.mde, .pair, .fus] s t ∧ t.dev.pair = { s.dev.pair with permit := some s.dev.now })) ∧
  (∀ (s : State), s.dev.mde.cyc.deadlineDone = true ∨ s.dev.now < s.dev.mde.cyc.cutTick + s.regs.get F.CTL_DEADLINE_D * s.dev.centT → ∃ t, exec .deadline s = .next t ∧ OnlyParts [] s t) ∧
  (∀ (s : State) (us : Nat), s.dev.mde.cyc.running = true → s.dev.slv.stage = .running → s.dev.mde.cyc.deadlineDone = false →
    s.dev.now < s.dev.mde.cyc.cutTick + s.dev.mde.cyc.periodNs / 400 * s.regs.get F.CTL_DEADLINE_D → (s.dev.job 2).tiles ≠ [] → s.dev.clk.lock.testBit 1 = true →
    s.dev.slv.startTick + 250 * us ≤ s.dev.now → let e := qpEnd s.dev.slv.problem
    ∃ t, exec (.solveConverged us) s = .next t ∧ OnlyParts [.slv, .msn, .evt] s t ∧ t.dev.slv.result = some e.sol ∧
      t.dev.slv.stage = (if e.limit = false then .converged else if feasible s.regs e.sol = true then .limit else .limitInfeasible)) ∧
  (∀ (s : State) (us : Nat), s.dev.slv.stage ≠ .running ∨ s.dev.mde.cyc.deadlineDone = true ∨ (s.dev.job 2).tiles = [] → ∃ t, exec (.solveConverged us) s = .next t ∧ OnlyParts [] s t) ∧
  (∀ (s : State), s.dev.mde.cyc.running = true → s.dev.mde.mode = .transfer → s.dev.mde.cyc.subDone < 4 →
    s.dev.mde.cyc.cutTick + s.dev.mde.cyc.subDone * (s.dev.mde.cyc.periodNs / 16) ≤ s.dev.now →
    ∃ t, exec .appendageSubcycle s = .next t ∧ t.regs = s.regs ∧ t.mem = s.mem ∧ t.dev.mde.cyc.subDone = s.dev.mde.cyc.subDone + 1 ∧
      ((s.dev.job 4).tiles = [] → t.dev.slv.subRunning = false)) ∧
  (∀ (s : State), s.dev.mde.mode ≠ .transfer ∨ 4 ≤ s.dev.mde.cyc.subDone → ∃ t, exec .appendageSubcycle s = .next t ∧ OnlyParts [] s t)

/-! ### The block as a whole -/

/-- A step answers the command at the front of the queue by exec on the queue's rest; on an empty queue it is one timer tick (the model's choice, log 1): TB3 advances by its increment, nothing else but the other bases changes. -/
def Obligations.StepRunsTheFrontCommand : Prop :=
  (∀ (s : State) (c : Instr) (rest : List Instr), s.pending = c :: rest → step s = exec c { s with pending := rest }) ∧
  (∀ (s : State), s.pending = [] → ∃ t, step s = .next t ∧ t.regs = s.regs ∧ t.mem = s.mem ∧ t.frozen = s.frozen ∧ t.pending = [] ∧ t.dev.now = s.dev.now + 1 ∧ t.dev.out = [] ∧
    (∀ p, p ≠ .tim → agreeAt t.dev s.dev p) ∧ (∀ i, i < s.dev.tim.tb.length → (i = 3 ∨ (s.dev.mde.dorm ≠ .asleep ∧ s.dev.mde.dorm ≠ .refresh)) → t.dev.tb i = (s.dev.tb i).tick) ∧
    (s.dev.mde.dorm = .asleep → ∀ i, i ≠ 3 → t.dev.tb i = s.dev.tb i))

/-- State.reset: the device is in RESET with no command waiting, every register reads its reset value [00 R5, 19 R555], no interrupt is raised, memory windows and registers are in canonical form, and each page's EN is as its header resets. Empty stores, windows and queues at reset, and the causes, are the model's choice (log 2, 3, 4). -/
def Obligations.ResetState : Prop :=
  MemOk State.reset ∧ RegsOk State.reset ∧ State.reset.pending = [] ∧ State.reset.mem = [] ∧ State.reset.dev.mde.dstate = .reset ∧ State.reset.dev.saf.stA = .init ∧ State.reset.dev.saf.stB = .init ∧
    (∀ (f : Fd) (n a i j : Nat), State.reset.regs.get f n a i j = f.rst i) ∧ (∀ p, at' State.reset.dev.irq.raw p = 0) ∧
    (∀ p, p < 64 → State.reset.regs.en p = (!(staticPages.contains p) && decide (p ≤ 0x2C)) ∧ (State.reset.regs.head p).pend = false ∧ (State.reset.regs.head p).irqEn = 0)

/-- Every step answers a next state: no command stops the block. From canonical memory windows and registers it keeps both forms, and it takes exactly the front command from the queue. The canonical forms, the queue and the absence of stops are the model's own (log 1, 4, 6, 14). -/
def Obligations.EveryStepKeepsCanonicalForms : Prop :=
  ∀ (s : State), MemOk s → RegsOk s → ∃ t, step s = .next t ∧ MemOk t ∧ RegsOk t ∧ t.pending = s.pending.tail
end

