-- ==== Sys2Proof/Laws/Lists.lean ====
section
/-! SUPPORT. What the list operations of the machine do: elements of a list, and sparse lists in canonical form. -/

namespace Sys2Proof.Machine

/-! ### Elements of a list -/

@[simp] theorem modAt_length {α : Type} (l : List α) (i : Nat) (f : α → α) : (modAt l i f).length = l.length := by
  induction l generalizing i with
  | nil => rfl
  | cons a t ih => cases i <;> simp [modAt, ih]

theorem modAt_getElem? {α : Type} (l : List α) (i j : Nat) (f : α → α) :
    (modAt l i f)[j]? = if i = j then (l[j]?).map f else l[j]? := by
  induction l generalizing i j with
  | nil => simp [modAt]
  | cons a t ih =>
    cases i with
    | zero => cases j <;> simp [modAt]
    | succ i => cases j with
      | zero => simp [modAt]
      | succ j => simp [modAt, ih]

/-- A changed element reads as changed. -/
theorem at'_modAt_self {α : Type} [Inhabited α] (l : List α) (i : Nat) (f : α → α) (h : i < l.length) :
    at' (modAt l i f) i = f (at' l i) := by
  simp [at', List.getD_eq_getElem?_getD, modAt_getElem?, List.getElem?_eq_getElem h]

/-- Every other element reads as before. -/
theorem at'_modAt_other {α : Type} [Inhabited α] (l : List α) (i j : Nat) (f : α → α) (h : i ≠ j) :
    at' (modAt l i f) j = at' l j := by
  simp [at', List.getD_eq_getElem?_getD, modAt_getElem?, h]

/-- A fold below `n + 1` is the fold below `n`, and then `n`. -/
theorem foldN_succ {α : Type} (n : Nat) (f : Nat → α → α) (a : α) : foldN (n + 1) f a = f n (foldN n f a) := by
  simp [foldN, List.range_succ]

/-- What every step of a fold keeps, the fold keeps. -/
theorem foldl_keeps {α β : Type} (p : α → Prop) (f : α → β → α) (l : List β) (a : α) (h : ∀ a b, p a → p (f a b)) (ha : p a) :
    p (l.foldl f a) := by
  induction l generalizing a with
  | nil => exact ha
  | cons b t ih => exact ih _ (h a b ha)

/-- What every step of `foldN` keeps, `foldN` keeps. -/
theorem foldN_keeps {α : Type} (p : α → Prop) (n : Nat) (f : Nat → α → α) (a : α) (h : ∀ i a, p a → p (f i a)) (ha : p a) :
    p (foldN n f a) := foldl_keeps p _ _ a (fun a i => h i a) ha

/-! ### Bits of a number -/

theorem testBit_add_pow (v i j : Nat) (h : v.testBit i = false) : (v + 2 ^ i).testBit j = if i = j then true else v.testBit j := by
  induction i generalizing v j with
  | zero =>
    have h0 : v % 2 = 0 := by simpa [Nat.testBit_zero] using h
    cases j with
    | zero => simp [Nat.testBit_zero]; omega
    | succ j => rw [Nat.testBit_succ, Nat.testBit_succ, show (v + 2 ^ 0) / 2 = v / 2 by omega]; simp
  | succ i ih =>
    have hp : 2 ^ (i + 1) = 2 * 2 ^ i := by rw [Nat.pow_succ, Nat.mul_comm]
    cases j with
    | zero => simp [Nat.testBit_zero]; omega
    | succ j =>
      rw [Nat.testBit_succ, show (v + 2 ^ (i + 1)) / 2 = v / 2 + 2 ^ i by omega, ih (v / 2) j (by rw [← Nat.testBit_succ]; exact h), Nat.testBit_succ]
      simp

theorem testBit_sub_pow (v i j : Nat) (h : v.testBit i = true) : (v - 2 ^ i).testBit j = if i = j then false else v.testBit j := by
  have hle : 2 ^ i ≤ v := Nat.ge_two_pow_of_testBit h
  have hf : (v - 2 ^ i).testBit i = false := by
    by_contra hc
    have hc : (v - 2 ^ i).testBit i = true := by simpa using hc
    have h2 : v.testBit i = !((v - 2 ^ i).testBit i) := by
      have := Nat.testBit_two_pow_add_eq (v - 2 ^ i) i
      rwa [Nat.add_sub_cancel' hle] at this
    rw [h, hc] at h2
    exact absurd h2 (by decide)
  by_cases e : i = j
  · rw [if_pos e, ← e, hf]
  · have := testBit_add_pow (v - 2 ^ i) i j hf
    rw [Nat.sub_add_cancel hle, if_neg e] at this
    rw [if_neg e, this]

/-- A bit set or cleared reads as written, and every other bit as before. -/
theorem testBit_setBit (v i j : Nat) (b : Bool) : (setBit v i b).testBit j = if i = j then b else v.testBit j := by
  unfold setBit
  split
  · rename_i h
    split
    · rename_i e
      rw [← e, h]
    · rfl
  · rename_i h
    cases b with
    | true => exact testBit_add_pow v i j (by simpa using h)
    | false => exact testBit_sub_pow v i j (by simpa using h)

@[simp] theorem testBit_setBit_self (v i : Nat) (b : Bool) : (setBit v i b).testBit i = b := by simp [testBit_setBit]

/-! ### Sparse lists -/

/-- Every key of a list is at least `k`. -/
def KeysFrom {α : Type} (k : Nat) (l : List (Nat × α)) : Prop := ∀ e ∈ l, k ≤ e.1

/-- Keys rise, said without recursion on pairs. -/
def Rising {α : Type} (l : List (Nat × α)) : Prop := l.Pairwise fun a b => a.1 < b.1

theorem rising_iff {α : Type} (l : List (Nat × α)) : rising (l.map Prod.fst) = true ↔ Rising l := by
  have key : ∀ m : List Nat, rising m = true ↔ m.Pairwise (· < ·) := by
    intro m
    induction m with
    | nil => simp [rising]
    | cons a t ih =>
      cases t with
      | nil => simp [rising]
      | cons b t =>
        rw [rising, Bool.and_eq_true, decide_eq_true_eq, ih, List.pairwise_cons, List.pairwise_cons, List.pairwise_cons]
        constructor
        · rintro ⟨h, g, k⟩
          refine ⟨?_, g, k⟩
          intro c hc
          rcases List.mem_cons.1 hc with rfl | hc
          · exact h
          · exact Nat.lt_trans h (g c hc)
        · rintro ⟨h, g, k⟩
          exact ⟨h b (List.mem_cons_self ..), g, k⟩
  rw [key, Rising, List.pairwise_map]

theorem sdel_rising {α : Type} (l : List (Nat × α)) (k : Nat) (h : Rising l) : Rising (sdel l k) := h.filter _

theorem sins_mem {α : Type} (l : List (Nat × α)) (k : Nat) (v : α) (e : Nat × α) (h : e ∈ sins l k v) : e = (k, v) ∨ e ∈ l := by
  induction l with
  | nil => simpa [sins] using h
  | cons a t ih =>
    rw [sins] at h
    split at h
    · simpa using h
    · split at h
      · rcases List.mem_cons.1 h with h | h
        · exact .inl h
        · exact .inr (List.mem_cons_of_mem _ h)
      · rcases List.mem_cons.1 h with h | h
        · exact .inr (h ▸ List.mem_cons_self ..)
        · rcases ih h with h | h
          · exact .inl h
          · exact .inr (List.mem_cons_of_mem _ h)

theorem sins_rising {α : Type} (l : List (Nat × α)) (k : Nat) (v : α) (h : Rising l) : Rising (sins l k v) := by
  induction l with
  | nil => simp [sins, Rising]
  | cons a t ih =>
    obtain ⟨ha, ht⟩ := List.pairwise_cons.1 h
    rw [sins]
    split
    case isTrue hk =>
      refine List.pairwise_cons.2 ⟨?_, h⟩
      intro e he
      rcases List.mem_cons.1 he with rfl | he
      · exact hk
      · exact Nat.lt_trans hk (ha e he)
    case isFalse hk =>
      split
      case isTrue hk' =>
        subst hk'
        exact List.pairwise_cons.2 ⟨ha, ht⟩
      case isFalse hk' =>
        refine List.pairwise_cons.2 ⟨?_, ih ht⟩
        intro e he
        rcases sins_mem t k v e he with rfl | he
        · exact Nat.lt_of_le_of_ne (Nat.le_of_not_lt hk) (Ne.symm hk')
        · exact ha e he

theorem sput_rising {α : Type} [DecidableEq α] (l : List (Nat × α)) (k : Nat) (v d : α) (h : Rising l) : Rising (sput l k v d) := by
  rw [sput]
  split
  · exact sdel_rising l k h
  · exact sins_rising l k v h

theorem sget_sins_self {α : Type} (l : List (Nat × α)) (k : Nat) (v d : α) : sget (sins l k v) k d = v := by
  induction l with
  | nil => simp [sins, sget]
  | cons a t ih =>
    rw [sins]
    split
    · simp [sget]
    · split
      · simp [sget]
      · rename_i h
        rw [sget, if_neg (fun e => h e.symm), ih]

theorem sget_sins_other {α : Type} (l : List (Nat × α)) (k j : Nat) (v d : α) (h : k ≠ j) : sget (sins l k v) j d = sget l j d := by
  induction l with
  | nil => simp [sins, sget, h]
  | cons a t ih =>
    rw [sins]
    split
    · simp [sget, h]
    · split
      · rename_i e
        subst e
        simp [sget, h]
      · simp [sget, ih]

theorem sget_sdel_self {α : Type} (l : List (Nat × α)) (k : Nat) (d : α) : sget (sdel l k) k d = d := by
  induction l with
  | nil => simp [sdel, sget]
  | cons a t ih =>
    by_cases h : a.1 = k
    · simpa [sdel, h] using ih
    · simpa [sdel, h, sget] using ih

theorem sget_sdel_other {α : Type} (l : List (Nat × α)) (k j : Nat) (d : α) (h : k ≠ j) : sget (sdel l k) j d = sget l j d := by
  induction l with
  | nil => simp [sdel, sget]
  | cons a t ih =>
    by_cases e : a.1 = k
    · have : a.1 ≠ j := fun x => h (e ▸ x)
      simpa [sdel, e, sget, this, h] using ih
    · have hc : sdel (a :: t) k = a :: sdel t k := by simp [sdel, e]
      rw [hc, sget, sget, ih]

/-- A value put reads back. -/
theorem sget_sput_self {α : Type} [DecidableEq α] (l : List (Nat × α)) (k : Nat) (v d : α) : sget (sput l k v d) k d = v := by
  rw [sput]
  split
  · rename_i e
    rw [sget_sdel_self, e]
  · exact sget_sins_self l k v d

/-- A value put leaves every other key as it was. -/
theorem sget_sput_other {α : Type} [DecidableEq α] (l : List (Nat × α)) (k j : Nat) (v d : α) (h : k ≠ j) :
    sget (sput l k v d) j d = sget l j d := by
  rw [sput]
  split
  · exact sget_sdel_other l k j d h
  · exact sget_sins_other l k j v d h

end Sys2Proof.Machine
end

