-- ==== Sys2Proof/Laws/Memory.lean ====
section
/-! SUPPORT. The memory windows: a byte written reads back, no other byte changes, and every operation keeps the canonical form. -/

namespace Sys2Proof.Machine

/-- Canonical form, as a statement about entries. -/
theorem Memory.wf_iff (m : List Host.Cell) : Memory.wf m = true ↔ Rising m ∧ ∀ c ∈ m, c.2 ≠ 0 := by
  rw [Memory.wf, Bool.and_eq_true, rising_iff, List.all_eq_true]
  simp

theorem Memory.read_write_self (m : List Host.Cell) (a : Nat) (b : Byte) : Memory.read (Memory.write m a b) a = b :=
  sget_sput_self m a b 0

theorem Memory.read_write_other (m : List Host.Cell) (a c : Nat) (b : Byte) (h : a ≠ c) :
    Memory.read (Memory.write m a b) c = Memory.read m c := sget_sput_other m a c b 0 h

theorem Memory.write_wf (m : List Host.Cell) (a : Nat) (b : Byte) (h : Memory.wf m = true) : Memory.wf (Memory.write m a b) = true := by
  obtain ⟨hr, hz⟩ := (Memory.wf_iff m).1 h
  refine (Memory.wf_iff _).2 ⟨sput_rising m a b 0 hr, fun c hc => ?_⟩
  rw [Memory.write, sput] at hc
  split at hc
  · exact hz c (List.mem_filter.1 hc).1
  · rcases sins_mem m a b c hc with rfl | hc
    · assumption
    · exact hz c hc

theorem Memory.writeBytes_wf (m : List Host.Cell) (a : Nat) (l : List Byte) (h : Memory.wf m = true) :
    Memory.wf (Memory.writeBytes m a l) = true := by
  induction l generalizing m a with
  | nil => exact h
  | cons b t ih => exact ih _ _ (Memory.write_wf m a b h)

theorem Memory.writeAll_wf (m : List Host.Cell) (l : List (Nat × List Byte)) (h : Memory.wf m = true) :
    Memory.wf (Memory.writeAll m l) = true := by
  unfold Memory.writeAll
  exact foldl_keeps (fun m => Memory.wf m = true) _ l m (fun m w hm => Memory.writeBytes_wf m w.1 w.2 hm) h

/-- A byte outside the bytes written keeps its value. -/
theorem Memory.read_writeBytes_other (m : List Host.Cell) (a c : Nat) (l : List Byte) (h : c < a ∨ a + l.length ≤ c) :
    Memory.read (Memory.writeBytes m a l) c = Memory.read m c := by
  induction l generalizing m a with
  | nil => rfl
  | cons b t ih =>
    rw [Memory.writeBytes, ih (Memory.write m a b) (a + 1) (by simp only [List.length_cons] at h; omega)]
    exact Memory.read_write_other m a c b (by simp only [List.length_cons] at h; omega)

end Sys2Proof.Machine
end

