-- ==== Sys2Proof/Laws/Ops.lean ====
section
/-! SUPPORT. What the shared operations can do: the outcome of a command, the messages it causes, interrupt flags and recorder entries. -/

namespace Sys2Proof.Machine

/-! ### Messages -/

theorem sendVec_shape (v : Nat) (d : Dev) : ∃ o p, sendVec v d = { d with out := o, hst := { d.hst with pba := p } } := by
  refine ⟨(sendVec v d).out, (sendVec v d).hst.pba, ?_⟩
  unfold sendVec emit
  dsimp only
  split
  · rfl
  · split <;> rfl

/-- All that the messages of a command change: what leaves the device, the pending-bit array and the vectors seen pending. -/
theorem settle_shape (r : Regs) (d : Dev) :
    ∃ o p, settle r d = { d with out := o, hst := { d.hst with pba := p }, irq := { d.irq with pend := vecPend r d } } := by
  have key : ∃ o p, foldN 32 (fun v a => if (vecPend r d).testBit v && !(d.irq.pend.testBit v) then sendVec v a else a) d =
      { d with out := o, hst := { d.hst with pba := p } } := by
    refine foldN_keeps (fun a : Dev => ∃ o p, a = { d with out := o, hst := { d.hst with pba := p } }) 32 _ d ?_ ⟨_, _, rfl⟩
    rintro i a ⟨o, p, rfl⟩
    split
    · obtain ⟨o', p', e⟩ := sendVec_shape i { d with out := o, hst := { d.hst with pba := p } }
      exact ⟨o', p', e⟩
    · exact ⟨_, _, rfl⟩
  obtain ⟨o, p, e⟩ := key
  exact ⟨o, _, by unfold settle; simp only [e]; rfl⟩

@[simp] theorem settle_now (r : Regs) (d : Dev) : (settle r d).now = d.now := by
  obtain ⟨o, p, e⟩ := settle_shape r d
  rw [e]
@[simp] theorem settle_free (r : Regs) (d : Dev) : (settle r d).free = d.free := by
  obtain ⟨o, p, e⟩ := settle_shape r d
  rw [e]
@[simp] theorem settle_sys (r : Regs) (d : Dev) : (settle r d).sys = d.sys := by
  obtain ⟨o, p, e⟩ := settle_shape r d
  rw [e]
@[simp] theorem settle_pwr (r : Regs) (d : Dev) : (settle r d).pwr = d.pwr := by
  obtain ⟨o, p, e⟩ := settle_shape r d
  rw [e]
@[simp] theorem settle_clk (r : Regs) (d : Dev) : (settle r d).clk = d.clk := by
  obtain ⟨o, p, e⟩ := settle_shape r d
  rw [e]
@[simp] theorem settle_mde (r : Regs) (d : Dev) : (settle r d).mde = d.mde := by
  obtain ⟨o, p, e⟩ := settle_shape r d
  rw [e]
@[simp] theorem settle_cfg (r : Regs) (d : Dev) : (settle r d).cfg = d.cfg := by
  obtain ⟨o, p, e⟩ := settle_shape r d
  rw [e]
@[simp] theorem settle_msn (r : Regs) (d : Dev) : (settle r d).msn = d.msn := by
  obtain ⟨o, p, e⟩ := settle_shape r d
  rw [e]
@[simp] theorem settle_slv (r : Regs) (d : Dev) : (settle r d).slv = d.slv := by
  obtain ⟨o, p, e⟩ := settle_shape r d
  rw [e]
@[simp] theorem settle_fus (r : Regs) (d : Dev) : (settle r d).fus = d.fus := by
  obtain ⟨o, p, e⟩ := settle_shape r d
  rw [e]
@[simp] theorem settle_ctl (r : Regs) (d : Dev) : (settle r d).ctl = d.ctl := by
  obtain ⟨o, p, e⟩ := settle_shape r d
  rw [e]
@[simp] theorem settle_alc (r : Regs) (d : Dev) : (settle r d).alc = d.alc := by
  obtain ⟨o, p, e⟩ := settle_shape r d
  rw [e]
@[simp] theorem settle_gns0 (r : Regs) (d : Dev) : (settle r d).gns0 = d.gns0 := by
  obtain ⟨o, p, e⟩ := settle_shape r d
  rw [e]
@[simp] theorem settle_gns1 (r : Regs) (d : Dev) : (settle r d).gns1 = d.gns1 := by
  obtain ⟨o, p, e⟩ := settle_shape r d
  rw [e]
@[simp] theorem settle_gns2 (r : Regs) (d : Dev) : (settle r d).gns2 = d.gns2 := by
  obtain ⟨o, p, e⟩ := settle_shape r d
  rw [e]
@[simp] theorem settle_src (r : Regs) (d : Dev) : (settle r d).src = d.src := by
  obtain ⟨o, p, e⟩ := settle_shape r d
  rw [e]
@[simp] theorem settle_flt (r : Regs) (d : Dev) : (settle r d).flt = d.flt := by
  obtain ⟨o, p, e⟩ := settle_shape r d
  rw [e]
@[simp] theorem settle_sio (r : Regs) (d : Dev) : (settle r d).sio = d.sio := by
  obtain ⟨o, p, e⟩ := settle_shape r d
  rw [e]
@[simp] theorem settle_lop (r : Regs) (d : Dev) : (settle r d).lop = d.lop := by
  obtain ⟨o, p, e⟩ := settle_shape r d
  rw [e]
@[simp] theorem settle_aou (r : Regs) (d : Dev) : (settle r d).aou = d.aou := by
  obtain ⟨o, p, e⟩ := settle_shape r d
  rw [e]
@[simp] theorem settle_pfg (r : Regs) (d : Dev) : (settle r d).pfg = d.pfg := by
  obtain ⟨o, p, e⟩ := settle_shape r d
  rw [e]
@[simp] theorem settle_enc (r : Regs) (d : Dev) : (settle r d).enc = d.enc := by
  obtain ⟨o, p, e⟩ := settle_shape r d
  rw [e]
@[simp] theorem settle_dio (r : Regs) (d : Dev) : (settle r d).dio = d.dio := by
  obtain ⟨o, p, e⟩ := settle_shape r d
  rw [e]
@[simp] theorem settle_can (r : Regs) (d : Dev) : (settle r d).can = d.can := by
  obtain ⟨o, p, e⟩ := settle_shape r d
  rw [e]
@[simp] theorem settle_e2e (r : Regs) (d : Dev) : (settle r d).e2e = d.e2e := by
  obtain ⟨o, p, e⟩ := settle_shape r d
  rw [e]
@[simp] theorem settle_tim (r : Regs) (d : Dev) : (settle r d).tim = d.tim := by
  obtain ⟨o, p, e⟩ := settle_shape r d
  rw [e]
@[simp] theorem settle_eth (r : Regs) (d : Dev) : (settle r d).eth = d.eth := by
  obtain ⟨o, p, e⟩ := settle_shape r d
  rw [e]
@[simp] theorem settle_ndl (r : Regs) (d : Dev) : (settle r d).ndl = d.ndl := by
  obtain ⟨o, p, e⟩ := settle_shape r d
  rw [e]
@[simp] theorem settle_pair (r : Regs) (d : Dev) : (settle r d).pair = d.pair := by
  obtain ⟨o, p, e⟩ := settle_shape r d
  rw [e]
@[simp] theorem settle_saf (r : Regs) (d : Dev) : (settle r d).saf = d.saf := by
  obtain ⟨o, p, e⟩ := settle_shape r d
  rw [e]
@[simp] theorem settle_evt (r : Regs) (d : Dev) : (settle r d).evt = d.evt := by
  obtain ⟨o, p, e⟩ := settle_shape r d
  rw [e]
@[simp] theorem settle_lif (r : Regs) (d : Dev) : (settle r d).lif = d.lif := by
  obtain ⟨o, p, e⟩ := settle_shape r d
  rw [e]
@[simp] theorem settle_hld (r : Regs) (d : Dev) : (settle r d).hld = d.hld := by
  obtain ⟨o, p, e⟩ := settle_shape r d
  rw [e]
@[simp] theorem settle_grt (r : Regs) (d : Dev) : (settle r d).grt = d.grt := by
  obtain ⟨o, p, e⟩ := settle_shape r d
  rw [e]
@[simp] theorem settle_raw (r : Regs) (d : Dev) : (settle r d).irq.raw = d.irq.raw := by
  obtain ⟨o, p, e⟩ := settle_shape r d
  rw [e]

/-! ### Outcomes -/

@[simp] theorem quiet_out (d : Dev) : d.quiet.out = [] := rfl
@[simp] theorem quiet_now (d : Dev) : d.quiet.now = d.now := rfl
@[simp] theorem quiet_free (d : Dev) : d.quiet.free = d.free := rfl
@[simp] theorem quiet_sys (d : Dev) : d.quiet.sys = d.sys := rfl
@[simp] theorem quiet_pwr (d : Dev) : d.quiet.pwr = d.pwr := rfl
@[simp] theorem quiet_clk (d : Dev) : d.quiet.clk = d.clk := rfl
@[simp] theorem quiet_irq (d : Dev) : d.quiet.irq = d.irq := rfl
@[simp] theorem quiet_hst (d : Dev) : d.quiet.hst = d.hst := rfl
@[simp] theorem quiet_mde (d : Dev) : d.quiet.mde = d.mde := rfl
@[simp] theorem quiet_cfg (d : Dev) : d.quiet.cfg = d.cfg := rfl
@[simp] theorem quiet_msn (d : Dev) : d.quiet.msn = d.msn := rfl
@[simp] theorem quiet_slv (d : Dev) : d.quiet.slv = d.slv := rfl
@[simp] theorem quiet_fus (d : Dev) : d.quiet.fus = d.fus := rfl
@[simp] theorem quiet_ctl (d : Dev) : d.quiet.ctl = d.ctl := rfl
@[simp] theorem quiet_alc (d : Dev) : d.quiet.alc = d.alc := rfl
@[simp] theorem quiet_gns0 (d : Dev) : d.quiet.gns0 = d.gns0 := rfl
@[simp] theorem quiet_gns1 (d : Dev) : d.quiet.gns1 = d.gns1 := rfl
@[simp] theorem quiet_gns2 (d : Dev) : d.quiet.gns2 = d.gns2 := rfl
@[simp] theorem quiet_src (d : Dev) : d.quiet.src = d.src := rfl
@[simp] theorem quiet_flt (d : Dev) : d.quiet.flt = d.flt := rfl
@[simp] theorem quiet_sio (d : Dev) : d.quiet.sio = d.sio := rfl
@[simp] theorem quiet_lop (d : Dev) : d.quiet.lop = d.lop := rfl
@[simp] theorem quiet_aou (d : Dev) : d.quiet.aou = d.aou := rfl
@[simp] theorem quiet_pfg (d : Dev) : d.quiet.pfg = d.pfg := rfl
@[simp] theorem quiet_enc (d : Dev) : d.quiet.enc = d.enc := rfl
@[simp] theorem quiet_dio (d : Dev) : d.quiet.dio = d.dio := rfl
@[simp] theorem quiet_can (d : Dev) : d.quiet.can = d.can := rfl
@[simp] theorem quiet_e2e (d : Dev) : d.quiet.e2e = d.e2e := rfl
@[simp] theorem quiet_tim (d : Dev) : d.quiet.tim = d.tim := rfl
@[simp] theorem quiet_eth (d : Dev) : d.quiet.eth = d.eth := rfl
@[simp] theorem quiet_ndl (d : Dev) : d.quiet.ndl = d.ndl := rfl
@[simp] theorem quiet_pair (d : Dev) : d.quiet.pair = d.pair := rfl
@[simp] theorem quiet_saf (d : Dev) : d.quiet.saf = d.saf := rfl
@[simp] theorem quiet_evt (d : Dev) : d.quiet.evt = d.evt := rfl
@[simp] theorem quiet_lif (d : Dev) : d.quiet.lif = d.lif := rfl
@[simp] theorem quiet_hld (d : Dev) : d.quiet.hld = d.hld := rfl
@[simp] theorem quiet_grt (d : Dev) : d.quiet.grt = d.grt := rfl

/-- A command on the blocks answers a next state in which only they have changed. -/
theorem onDev_next (s : State) (f : Regs → Dev → Dev) :
    onDev s f = .next { s with dev := settle s.regs (f s.regs s.dev.quiet) } := rfl

/-- A command on blocks and registers answers a next state. -/
theorem onRegs_next (s : State) (f : Regs → Dev → Regs × Dev) :
    onRegs s f = .next { s with
      regs := (f s.regs s.dev.quiet).1
      dev := settle (f s.regs s.dev.quiet).1 (f s.regs s.dev.quiet).2 } := rfl

/-- A command on blocks and memory windows answers a next state. -/
theorem onMem_next (s : State) (f : Regs → List Host.Cell → Dev → List (Nat × List Byte) × Dev) :
    onMem s f = .next { s with
      mem := Memory.writeAll s.mem (f s.regs s.mem s.dev.quiet).1
      dev := settle s.regs (f s.regs s.mem s.dev.quiet).2 } := rfl

/-- A command on the whole state but the queue answers a next state. -/
theorem onState_next (s : State) (f : State → State) :
    onState s f = .next { f { s with dev := s.dev.quiet } with
      dev := settle (f { s with dev := s.dev.quiet }).regs (f { s with dev := s.dev.quiet }).dev } := rfl

/-! ### Interrupt flags and recorder entries -/

@[simp] theorem raise_now (p b : Nat) (d : Dev) : (raise p b d).now = d.now := rfl
@[simp] theorem raise_free (p b : Nat) (d : Dev) : (raise p b d).free = d.free := rfl
@[simp] theorem raise_out (p b : Nat) (d : Dev) : (raise p b d).out = d.out := rfl
@[simp] theorem raise_sys (p b : Nat) (d : Dev) : (raise p b d).sys = d.sys := rfl
@[simp] theorem raise_pwr (p b : Nat) (d : Dev) : (raise p b d).pwr = d.pwr := rfl
@[simp] theorem raise_clk (p b : Nat) (d : Dev) : (raise p b d).clk = d.clk := rfl
@[simp] theorem raise_hst (p b : Nat) (d : Dev) : (raise p b d).hst = d.hst := rfl
@[simp] theorem raise_mde (p b : Nat) (d : Dev) : (raise p b d).mde = d.mde := rfl
@[simp] theorem raise_cfg (p b : Nat) (d : Dev) : (raise p b d).cfg = d.cfg := rfl
@[simp] theorem raise_msn (p b : Nat) (d : Dev) : (raise p b d).msn = d.msn := rfl
@[simp] theorem raise_slv (p b : Nat) (d : Dev) : (raise p b d).slv = d.slv := rfl
@[simp] theorem raise_fus (p b : Nat) (d : Dev) : (raise p b d).fus = d.fus := rfl
@[simp] theorem raise_ctl (p b : Nat) (d : Dev) : (raise p b d).ctl = d.ctl := rfl
@[simp] theorem raise_alc (p b : Nat) (d : Dev) : (raise p b d).alc = d.alc := rfl
@[simp] theorem raise_gns0 (p b : Nat) (d : Dev) : (raise p b d).gns0 = d.gns0 := rfl
@[simp] theorem raise_gns1 (p b : Nat) (d : Dev) : (raise p b d).gns1 = d.gns1 := rfl
@[simp] theorem raise_gns2 (p b : Nat) (d : Dev) : (raise p b d).gns2 = d.gns2 := rfl
@[simp] theorem raise_src (p b : Nat) (d : Dev) : (raise p b d).src = d.src := rfl
@[simp] theorem raise_flt (p b : Nat) (d : Dev) : (raise p b d).flt = d.flt := rfl
@[simp] theorem raise_sio (p b : Nat) (d : Dev) : (raise p b d).sio = d.sio := rfl
@[simp] theorem raise_lop (p b : Nat) (d : Dev) : (raise p b d).lop = d.lop := rfl
@[simp] theorem raise_aou (p b : Nat) (d : Dev) : (raise p b d).aou = d.aou := rfl
@[simp] theorem raise_pfg (p b : Nat) (d : Dev) : (raise p b d).pfg = d.pfg := rfl
@[simp] theorem raise_enc (p b : Nat) (d : Dev) : (raise p b d).enc = d.enc := rfl
@[simp] theorem raise_dio (p b : Nat) (d : Dev) : (raise p b d).dio = d.dio := rfl
@[simp] theorem raise_can (p b : Nat) (d : Dev) : (raise p b d).can = d.can := rfl
@[simp] theorem raise_e2e (p b : Nat) (d : Dev) : (raise p b d).e2e = d.e2e := rfl
@[simp] theorem raise_tim (p b : Nat) (d : Dev) : (raise p b d).tim = d.tim := rfl
@[simp] theorem raise_eth (p b : Nat) (d : Dev) : (raise p b d).eth = d.eth := rfl
@[simp] theorem raise_ndl (p b : Nat) (d : Dev) : (raise p b d).ndl = d.ndl := rfl
@[simp] theorem raise_pair (p b : Nat) (d : Dev) : (raise p b d).pair = d.pair := rfl
@[simp] theorem raise_saf (p b : Nat) (d : Dev) : (raise p b d).saf = d.saf := rfl
@[simp] theorem raise_evt (p b : Nat) (d : Dev) : (raise p b d).evt = d.evt := rfl
@[simp] theorem raise_lif (p b : Nat) (d : Dev) : (raise p b d).lif = d.lif := rfl
@[simp] theorem raise_hld (p b : Nat) (d : Dev) : (raise p b d).hld = d.hld := rfl
@[simp] theorem raise_grt (p b : Nat) (d : Dev) : (raise p b d).grt = d.grt := rfl
@[simp] theorem raiseIf_now (c : Bool) (p b : Nat) (d : Dev) : (raiseIf c p b d).now = d.now := by
  cases c <;> rfl
@[simp] theorem raiseIf_free (c : Bool) (p b : Nat) (d : Dev) : (raiseIf c p b d).free = d.free := by
  cases c <;> rfl
@[simp] theorem raiseIf_out (c : Bool) (p b : Nat) (d : Dev) : (raiseIf c p b d).out = d.out := by
  cases c <;> rfl
@[simp] theorem raiseIf_sys (c : Bool) (p b : Nat) (d : Dev) : (raiseIf c p b d).sys = d.sys := by
  cases c <;> rfl
@[simp] theorem raiseIf_pwr (c : Bool) (p b : Nat) (d : Dev) : (raiseIf c p b d).pwr = d.pwr := by
  cases c <;> rfl
@[simp] theorem raiseIf_clk (c : Bool) (p b : Nat) (d : Dev) : (raiseIf c p b d).clk = d.clk := by
  cases c <;> rfl
@[simp] theorem raiseIf_hst (c : Bool) (p b : Nat) (d : Dev) : (raiseIf c p b d).hst = d.hst := by
  cases c <;> rfl
@[simp] theorem raiseIf_mde (c : Bool) (p b : Nat) (d : Dev) : (raiseIf c p b d).mde = d.mde := by
  cases c <;> rfl
@[simp] theorem raiseIf_cfg (c : Bool) (p b : Nat) (d : Dev) : (raiseIf c p b d).cfg = d.cfg := by
  cases c <;> rfl
@[simp] theorem raiseIf_msn (c : Bool) (p b : Nat) (d : Dev) : (raiseIf c p b d).msn = d.msn := by
  cases c <;> rfl
@[simp] theorem raiseIf_slv (c : Bool) (p b : Nat) (d : Dev) : (raiseIf c p b d).slv = d.slv := by
  cases c <;> rfl
@[simp] theorem raiseIf_fus (c : Bool) (p b : Nat) (d : Dev) : (raiseIf c p b d).fus = d.fus := by
  cases c <;> rfl
@[simp] theorem raiseIf_ctl (c : Bool) (p b : Nat) (d : Dev) : (raiseIf c p b d).ctl = d.ctl := by
  cases c <;> rfl
@[simp] theorem raiseIf_alc (c : Bool) (p b : Nat) (d : Dev) : (raiseIf c p b d).alc = d.alc := by
  cases c <;> rfl
@[simp] theorem raiseIf_gns0 (c : Bool) (p b : Nat) (d : Dev) : (raiseIf c p b d).gns0 = d.gns0 := by
  cases c <;> rfl
@[simp] theorem raiseIf_gns1 (c : Bool) (p b : Nat) (d : Dev) : (raiseIf c p b d).gns1 = d.gns1 := by
  cases c <;> rfl
@[simp] theorem raiseIf_gns2 (c : Bool) (p b : Nat) (d : Dev) : (raiseIf c p b d).gns2 = d.gns2 := by
  cases c <;> rfl
@[simp] theorem raiseIf_src (c : Bool) (p b : Nat) (d : Dev) : (raiseIf c p b d).src = d.src := by
  cases c <;> rfl
@[simp] theorem raiseIf_flt (c : Bool) (p b : Nat) (d : Dev) : (raiseIf c p b d).flt = d.flt := by
  cases c <;> rfl
@[simp] theorem raiseIf_sio (c : Bool) (p b : Nat) (d : Dev) : (raiseIf c p b d).sio = d.sio := by
  cases c <;> rfl
@[simp] theorem raiseIf_lop (c : Bool) (p b : Nat) (d : Dev) : (raiseIf c p b d).lop = d.lop := by
  cases c <;> rfl
@[simp] theorem raiseIf_aou (c : Bool) (p b : Nat) (d : Dev) : (raiseIf c p b d).aou = d.aou := by
  cases c <;> rfl
@[simp] theorem raiseIf_pfg (c : Bool) (p b : Nat) (d : Dev) : (raiseIf c p b d).pfg = d.pfg := by
  cases c <;> rfl
@[simp] theorem raiseIf_enc (c : Bool) (p b : Nat) (d : Dev) : (raiseIf c p b d).enc = d.enc := by
  cases c <;> rfl
@[simp] theorem raiseIf_dio (c : Bool) (p b : Nat) (d : Dev) : (raiseIf c p b d).dio = d.dio := by
  cases c <;> rfl
@[simp] theorem raiseIf_can (c : Bool) (p b : Nat) (d : Dev) : (raiseIf c p b d).can = d.can := by
  cases c <;> rfl
@[simp] theorem raiseIf_e2e (c : Bool) (p b : Nat) (d : Dev) : (raiseIf c p b d).e2e = d.e2e := by
  cases c <;> rfl
@[simp] theorem raiseIf_tim (c : Bool) (p b : Nat) (d : Dev) : (raiseIf c p b d).tim = d.tim := by
  cases c <;> rfl
@[simp] theorem raiseIf_eth (c : Bool) (p b : Nat) (d : Dev) : (raiseIf c p b d).eth = d.eth := by
  cases c <;> rfl
@[simp] theorem raiseIf_ndl (c : Bool) (p b : Nat) (d : Dev) : (raiseIf c p b d).ndl = d.ndl := by
  cases c <;> rfl
@[simp] theorem raiseIf_pair (c : Bool) (p b : Nat) (d : Dev) : (raiseIf c p b d).pair = d.pair := by
  cases c <;> rfl
@[simp] theorem raiseIf_saf (c : Bool) (p b : Nat) (d : Dev) : (raiseIf c p b d).saf = d.saf := by
  cases c <;> rfl
@[simp] theorem raiseIf_evt (c : Bool) (p b : Nat) (d : Dev) : (raiseIf c p b d).evt = d.evt := by
  cases c <;> rfl
@[simp] theorem raiseIf_lif (c : Bool) (p b : Nat) (d : Dev) : (raiseIf c p b d).lif = d.lif := by
  cases c <;> rfl
@[simp] theorem raiseIf_hld (c : Bool) (p b : Nat) (d : Dev) : (raiseIf c p b d).hld = d.hld := by
  cases c <;> rfl
@[simp] theorem raiseIf_grt (c : Bool) (p b : Nat) (d : Dev) : (raiseIf c p b d).grt = d.grt := by
  cases c <;> rfl

/-- All that a recorder entry changes: page EVT, and its RECORDS_LOST flag. -/
theorem enter_shape (win : Nat) (x : EvRec) (more : List EvRec) (d : Dev) :
    ∃ e i, enter win x more d = { d with evt := e, irq := i } := by
  have lost : ∃ e i, lostRecord d = { d with evt := e, irq := i } := by
    refine ⟨(lostRecord d).evt, (lostRecord d).irq, ?_⟩
    unfold lostRecord
    split <;> rfl
  refine ⟨(enter win x more d).evt, (enter win x more d).irq, ?_⟩
  unfold enter
  split
  · rfl
  · obtain ⟨e, i, h⟩ := lost
    rw [h]
    dsimp only
    split
    · split <;> rfl
    · split <;> rfl

theorem record_shape (r : Regs) (e : Ev) (p : Par) (d : Dev) : ∃ v i, record r e p d = { d with evt := v, irq := i } :=
  enter_shape _ _ _ d

@[simp] theorem record_now (r : Regs) (e : Ev) (p : Par) (d : Dev) : (record r e p d).now = d.now := by
  obtain ⟨v, i, h⟩ := record_shape r e p d
  rw [h]
@[simp] theorem record_free (r : Regs) (e : Ev) (p : Par) (d : Dev) : (record r e p d).free = d.free := by
  obtain ⟨v, i, h⟩ := record_shape r e p d
  rw [h]
@[simp] theorem record_out (r : Regs) (e : Ev) (p : Par) (d : Dev) : (record r e p d).out = d.out := by
  obtain ⟨v, i, h⟩ := record_shape r e p d
  rw [h]
@[simp] theorem record_sys (r : Regs) (e : Ev) (p : Par) (d : Dev) : (record r e p d).sys = d.sys := by
  obtain ⟨v, i, h⟩ := record_shape r e p d
  rw [h]
@[simp] theorem record_pwr (r : Regs) (e : Ev) (p : Par) (d : Dev) : (record r e p d).pwr = d.pwr := by
  obtain ⟨v, i, h⟩ := record_shape r e p d
  rw [h]
@[simp] theorem record_clk (r : Regs) (e : Ev) (p : Par) (d : Dev) : (record r e p d).clk = d.clk := by
  obtain ⟨v, i, h⟩ := record_shape r e p d
  rw [h]
@[simp] theorem record_hst (r : Regs) (e : Ev) (p : Par) (d : Dev) : (record r e p d).hst = d.hst := by
  obtain ⟨v, i, h⟩ := record_shape r e p d
  rw [h]
@[simp] theorem record_mde (r : Regs) (e : Ev) (p : Par) (d : Dev) : (record r e p d).mde = d.mde := by
  obtain ⟨v, i, h⟩ := record_shape r e p d
  rw [h]
@[simp] theorem record_cfg (r : Regs) (e : Ev) (p : Par) (d : Dev) : (record r e p d).cfg = d.cfg := by
  obtain ⟨v, i, h⟩ := record_shape r e p d
  rw [h]
@[simp] theorem record_msn (r : Regs) (e : Ev) (p : Par) (d : Dev) : (record r e p d).msn = d.msn := by
  obtain ⟨v, i, h⟩ := record_shape r e p d
  rw [h]
@[simp] theorem record_slv (r : Regs) (e : Ev) (p : Par) (d : Dev) : (record r e p d).slv = d.slv := by
  obtain ⟨v, i, h⟩ := record_shape r e p d
  rw [h]
@[simp] theorem record_fus (r : Regs) (e : Ev) (p : Par) (d : Dev) : (record r e p d).fus = d.fus := by
  obtain ⟨v, i, h⟩ := record_shape r e p d
  rw [h]
@[simp] theorem record_ctl (r : Regs) (e : Ev) (p : Par) (d : Dev) : (record r e p d).ctl = d.ctl := by
  obtain ⟨v, i, h⟩ := record_shape r e p d
  rw [h]
@[simp] theorem record_alc (r : Regs) (e : Ev) (p : Par) (d : Dev) : (record r e p d).alc = d.alc := by
  obtain ⟨v, i, h⟩ := record_shape r e p d
  rw [h]
@[simp] theorem record_gns0 (r : Regs) (e : Ev) (p : Par) (d : Dev) : (record r e p d).gns0 = d.gns0 := by
  obtain ⟨v, i, h⟩ := record_shape r e p d
  rw [h]
@[simp] theorem record_gns1 (r : Regs) (e : Ev) (p : Par) (d : Dev) : (record r e p d).gns1 = d.gns1 := by
  obtain ⟨v, i, h⟩ := record_shape r e p d
  rw [h]
@[simp] theorem record_gns2 (r : Regs) (e : Ev) (p : Par) (d : Dev) : (record r e p d).gns2 = d.gns2 := by
  obtain ⟨v, i, h⟩ := record_shape r e p d
  rw [h]
@[simp] theorem record_src (r : Regs) (e : Ev) (p : Par) (d : Dev) : (record r e p d).src = d.src := by
  obtain ⟨v, i, h⟩ := record_shape r e p d
  rw [h]
@[simp] theorem record_flt (r : Regs) (e : Ev) (p : Par) (d : Dev) : (record r e p d).flt = d.flt := by
  obtain ⟨v, i, h⟩ := record_shape r e p d
  rw [h]
@[simp] theorem record_sio (r : Regs) (e : Ev) (p : Par) (d : Dev) : (record r e p d).sio = d.sio := by
  obtain ⟨v, i, h⟩ := record_shape r e p d
  rw [h]
@[simp] theorem record_lop (r : Regs) (e : Ev) (p : Par) (d : Dev) : (record r e p d).lop = d.lop := by
  obtain ⟨v, i, h⟩ := record_shape r e p d
  rw [h]
@[simp] theorem record_aou (r : Regs) (e : Ev) (p : Par) (d : Dev) : (record r e p d).aou = d.aou := by
  obtain ⟨v, i, h⟩ := record_shape r e p d
  rw [h]
@[simp] theorem record_pfg (r : Regs) (e : Ev) (p : Par) (d : Dev) : (record r e p d).pfg = d.pfg := by
  obtain ⟨v, i, h⟩ := record_shape r e p d
  rw [h]
@[simp] theorem record_enc (r : Regs) (e : Ev) (p : Par) (d : Dev) : (record r e p d).enc = d.enc := by
  obtain ⟨v, i, h⟩ := record_shape r e p d
  rw [h]
@[simp] theorem record_dio (r : Regs) (e : Ev) (p : Par) (d : Dev) : (record r e p d).dio = d.dio := by
  obtain ⟨v, i, h⟩ := record_shape r e p d
  rw [h]
@[simp] theorem record_can (r : Regs) (e : Ev) (p : Par) (d : Dev) : (record r e p d).can = d.can := by
  obtain ⟨v, i, h⟩ := record_shape r e p d
  rw [h]
@[simp] theorem record_e2e (r : Regs) (e : Ev) (p : Par) (d : Dev) : (record r e p d).e2e = d.e2e := by
  obtain ⟨v, i, h⟩ := record_shape r e p d
  rw [h]
@[simp] theorem record_tim (r : Regs) (e : Ev) (p : Par) (d : Dev) : (record r e p d).tim = d.tim := by
  obtain ⟨v, i, h⟩ := record_shape r e p d
  rw [h]
@[simp] theorem record_eth (r : Regs) (e : Ev) (p : Par) (d : Dev) : (record r e p d).eth = d.eth := by
  obtain ⟨v, i, h⟩ := record_shape r e p d
  rw [h]
@[simp] theorem record_ndl (r : Regs) (e : Ev) (p : Par) (d : Dev) : (record r e p d).ndl = d.ndl := by
  obtain ⟨v, i, h⟩ := record_shape r e p d
  rw [h]
@[simp] theorem record_pair (r : Regs) (e : Ev) (p : Par) (d : Dev) : (record r e p d).pair = d.pair := by
  obtain ⟨v, i, h⟩ := record_shape r e p d
  rw [h]
@[simp] theorem record_saf (r : Regs) (e : Ev) (p : Par) (d : Dev) : (record r e p d).saf = d.saf := by
  obtain ⟨v, i, h⟩ := record_shape r e p d
  rw [h]
@[simp] theorem record_lif (r : Regs) (e : Ev) (p : Par) (d : Dev) : (record r e p d).lif = d.lif := by
  obtain ⟨v, i, h⟩ := record_shape r e p d
  rw [h]
@[simp] theorem record_hld (r : Regs) (e : Ev) (p : Par) (d : Dev) : (record r e p d).hld = d.hld := by
  obtain ⟨v, i, h⟩ := record_shape r e p d
  rw [h]
@[simp] theorem record_grt (r : Regs) (e : Ev) (p : Par) (d : Dev) : (record r e p d).grt = d.grt := by
  obtain ⟨v, i, h⟩ := record_shape r e p d
  rw [h]

end Sys2Proof.Machine
end

