-- ==== Sys2Proof/Laws/State.lean ====
section
/-! SUPPORT. What each update of the device leaves and what it writes: one lemma per field and update. -/

namespace Sys2Proof.Machine

/-! ### modCan -/

@[simp] theorem modCan_now (n : Nat) (f : CanCh → CanCh) (d : Dev) : (modCan n f d).now = d.now := rfl
@[simp] theorem modCan_free (n : Nat) (f : CanCh → CanCh) (d : Dev) : (modCan n f d).free = d.free := rfl
@[simp] theorem modCan_out (n : Nat) (f : CanCh → CanCh) (d : Dev) : (modCan n f d).out = d.out := rfl
@[simp] theorem modCan_sys (n : Nat) (f : CanCh → CanCh) (d : Dev) : (modCan n f d).sys = d.sys := rfl
@[simp] theorem modCan_pwr (n : Nat) (f : CanCh → CanCh) (d : Dev) : (modCan n f d).pwr = d.pwr := rfl
@[simp] theorem modCan_clk (n : Nat) (f : CanCh → CanCh) (d : Dev) : (modCan n f d).clk = d.clk := rfl
@[simp] theorem modCan_irq (n : Nat) (f : CanCh → CanCh) (d : Dev) : (modCan n f d).irq = d.irq := rfl
@[simp] theorem modCan_hst (n : Nat) (f : CanCh → CanCh) (d : Dev) : (modCan n f d).hst = d.hst := rfl
@[simp] theorem modCan_mde (n : Nat) (f : CanCh → CanCh) (d : Dev) : (modCan n f d).mde = d.mde := rfl
@[simp] theorem modCan_cfg (n : Nat) (f : CanCh → CanCh) (d : Dev) : (modCan n f d).cfg = d.cfg := rfl
@[simp] theorem modCan_msn (n : Nat) (f : CanCh → CanCh) (d : Dev) : (modCan n f d).msn = d.msn := rfl
@[simp] theorem modCan_slv (n : Nat) (f : CanCh → CanCh) (d : Dev) : (modCan n f d).slv = d.slv := rfl
@[simp] theorem modCan_fus (n : Nat) (f : CanCh → CanCh) (d : Dev) : (modCan n f d).fus = d.fus := rfl
@[simp] theorem modCan_ctl (n : Nat) (f : CanCh → CanCh) (d : Dev) : (modCan n f d).ctl = d.ctl := rfl
@[simp] theorem modCan_alc (n : Nat) (f : CanCh → CanCh) (d : Dev) : (modCan n f d).alc = d.alc := rfl
@[simp] theorem modCan_gns0 (n : Nat) (f : CanCh → CanCh) (d : Dev) : (modCan n f d).gns0 = d.gns0 := rfl
@[simp] theorem modCan_gns1 (n : Nat) (f : CanCh → CanCh) (d : Dev) : (modCan n f d).gns1 = d.gns1 := rfl
@[simp] theorem modCan_gns2 (n : Nat) (f : CanCh → CanCh) (d : Dev) : (modCan n f d).gns2 = d.gns2 := rfl
@[simp] theorem modCan_src (n : Nat) (f : CanCh → CanCh) (d : Dev) : (modCan n f d).src = d.src := rfl
@[simp] theorem modCan_flt (n : Nat) (f : CanCh → CanCh) (d : Dev) : (modCan n f d).flt = d.flt := rfl
@[simp] theorem modCan_sio (n : Nat) (f : CanCh → CanCh) (d : Dev) : (modCan n f d).sio = d.sio := rfl
@[simp] theorem modCan_lop (n : Nat) (f : CanCh → CanCh) (d : Dev) : (modCan n f d).lop = d.lop := rfl
@[simp] theorem modCan_aou (n : Nat) (f : CanCh → CanCh) (d : Dev) : (modCan n f d).aou = d.aou := rfl
@[simp] theorem modCan_pfg (n : Nat) (f : CanCh → CanCh) (d : Dev) : (modCan n f d).pfg = d.pfg := rfl
@[simp] theorem modCan_enc (n : Nat) (f : CanCh → CanCh) (d : Dev) : (modCan n f d).enc = d.enc := rfl
@[simp] theorem modCan_dio (n : Nat) (f : CanCh → CanCh) (d : Dev) : (modCan n f d).dio = d.dio := rfl
@[simp] theorem modCan_e2e (n : Nat) (f : CanCh → CanCh) (d : Dev) : (modCan n f d).e2e = d.e2e := rfl
@[simp] theorem modCan_tim (n : Nat) (f : CanCh → CanCh) (d : Dev) : (modCan n f d).tim = d.tim := rfl
@[simp] theorem modCan_eth (n : Nat) (f : CanCh → CanCh) (d : Dev) : (modCan n f d).eth = d.eth := rfl
@[simp] theorem modCan_ndl (n : Nat) (f : CanCh → CanCh) (d : Dev) : (modCan n f d).ndl = d.ndl := rfl
@[simp] theorem modCan_pair (n : Nat) (f : CanCh → CanCh) (d : Dev) : (modCan n f d).pair = d.pair := rfl
@[simp] theorem modCan_saf (n : Nat) (f : CanCh → CanCh) (d : Dev) : (modCan n f d).saf = d.saf := rfl
@[simp] theorem modCan_evt (n : Nat) (f : CanCh → CanCh) (d : Dev) : (modCan n f d).evt = d.evt := rfl
@[simp] theorem modCan_lif (n : Nat) (f : CanCh → CanCh) (d : Dev) : (modCan n f d).lif = d.lif := rfl
@[simp] theorem modCan_hld (n : Nat) (f : CanCh → CanCh) (d : Dev) : (modCan n f d).hld = d.hld := rfl
@[simp] theorem modCan_grt (n : Nat) (f : CanCh → CanCh) (d : Dev) : (modCan n f d).grt = d.grt := rfl
@[simp] theorem modCan_can (n : Nat) (f : CanCh → CanCh) (d : Dev) : (modCan n f d).can = { d.can with ch := modAt d.can.ch n f } := rfl

/-! ### modCtx -/

@[simp] theorem modCtx_now (i : Nat) (f : E2eCtx → E2eCtx) (d : Dev) : (modCtx i f d).now = d.now := rfl
@[simp] theorem modCtx_free (i : Nat) (f : E2eCtx → E2eCtx) (d : Dev) : (modCtx i f d).free = d.free := rfl
@[simp] theorem modCtx_out (i : Nat) (f : E2eCtx → E2eCtx) (d : Dev) : (modCtx i f d).out = d.out := rfl
@[simp] theorem modCtx_sys (i : Nat) (f : E2eCtx → E2eCtx) (d : Dev) : (modCtx i f d).sys = d.sys := rfl
@[simp] theorem modCtx_pwr (i : Nat) (f : E2eCtx → E2eCtx) (d : Dev) : (modCtx i f d).pwr = d.pwr := rfl
@[simp] theorem modCtx_clk (i : Nat) (f : E2eCtx → E2eCtx) (d : Dev) : (modCtx i f d).clk = d.clk := rfl
@[simp] theorem modCtx_irq (i : Nat) (f : E2eCtx → E2eCtx) (d : Dev) : (modCtx i f d).irq = d.irq := rfl
@[simp] theorem modCtx_hst (i : Nat) (f : E2eCtx → E2eCtx) (d : Dev) : (modCtx i f d).hst = d.hst := rfl
@[simp] theorem modCtx_mde (i : Nat) (f : E2eCtx → E2eCtx) (d : Dev) : (modCtx i f d).mde = d.mde := rfl
@[simp] theorem modCtx_cfg (i : Nat) (f : E2eCtx → E2eCtx) (d : Dev) : (modCtx i f d).cfg = d.cfg := rfl
@[simp] theorem modCtx_msn (i : Nat) (f : E2eCtx → E2eCtx) (d : Dev) : (modCtx i f d).msn = d.msn := rfl
@[simp] theorem modCtx_slv (i : Nat) (f : E2eCtx → E2eCtx) (d : Dev) : (modCtx i f d).slv = d.slv := rfl
@[simp] theorem modCtx_fus (i : Nat) (f : E2eCtx → E2eCtx) (d : Dev) : (modCtx i f d).fus = d.fus := rfl
@[simp] theorem modCtx_ctl (i : Nat) (f : E2eCtx → E2eCtx) (d : Dev) : (modCtx i f d).ctl = d.ctl := rfl
@[simp] theorem modCtx_alc (i : Nat) (f : E2eCtx → E2eCtx) (d : Dev) : (modCtx i f d).alc = d.alc := rfl
@[simp] theorem modCtx_gns0 (i : Nat) (f : E2eCtx → E2eCtx) (d : Dev) : (modCtx i f d).gns0 = d.gns0 := rfl
@[simp] theorem modCtx_gns1 (i : Nat) (f : E2eCtx → E2eCtx) (d : Dev) : (modCtx i f d).gns1 = d.gns1 := rfl
@[simp] theorem modCtx_gns2 (i : Nat) (f : E2eCtx → E2eCtx) (d : Dev) : (modCtx i f d).gns2 = d.gns2 := rfl
@[simp] theorem modCtx_src (i : Nat) (f : E2eCtx → E2eCtx) (d : Dev) : (modCtx i f d).src = d.src := rfl
@[simp] theorem modCtx_flt (i : Nat) (f : E2eCtx → E2eCtx) (d : Dev) : (modCtx i f d).flt = d.flt := rfl
@[simp] theorem modCtx_sio (i : Nat) (f : E2eCtx → E2eCtx) (d : Dev) : (modCtx i f d).sio = d.sio := rfl
@[simp] theorem modCtx_lop (i : Nat) (f : E2eCtx → E2eCtx) (d : Dev) : (modCtx i f d).lop = d.lop := rfl
@[simp] theorem modCtx_aou (i : Nat) (f : E2eCtx → E2eCtx) (d : Dev) : (modCtx i f d).aou = d.aou := rfl
@[simp] theorem modCtx_pfg (i : Nat) (f : E2eCtx → E2eCtx) (d : Dev) : (modCtx i f d).pfg = d.pfg := rfl
@[simp] theorem modCtx_enc (i : Nat) (f : E2eCtx → E2eCtx) (d : Dev) : (modCtx i f d).enc = d.enc := rfl
@[simp] theorem modCtx_dio (i : Nat) (f : E2eCtx → E2eCtx) (d : Dev) : (modCtx i f d).dio = d.dio := rfl
@[simp] theorem modCtx_can (i : Nat) (f : E2eCtx → E2eCtx) (d : Dev) : (modCtx i f d).can = d.can := rfl
@[simp] theorem modCtx_tim (i : Nat) (f : E2eCtx → E2eCtx) (d : Dev) : (modCtx i f d).tim = d.tim := rfl
@[simp] theorem modCtx_eth (i : Nat) (f : E2eCtx → E2eCtx) (d : Dev) : (modCtx i f d).eth = d.eth := rfl
@[simp] theorem modCtx_ndl (i : Nat) (f : E2eCtx → E2eCtx) (d : Dev) : (modCtx i f d).ndl = d.ndl := rfl
@[simp] theorem modCtx_pair (i : Nat) (f : E2eCtx → E2eCtx) (d : Dev) : (modCtx i f d).pair = d.pair := rfl
@[simp] theorem modCtx_saf (i : Nat) (f : E2eCtx → E2eCtx) (d : Dev) : (modCtx i f d).saf = d.saf := rfl
@[simp] theorem modCtx_evt (i : Nat) (f : E2eCtx → E2eCtx) (d : Dev) : (modCtx i f d).evt = d.evt := rfl
@[simp] theorem modCtx_lif (i : Nat) (f : E2eCtx → E2eCtx) (d : Dev) : (modCtx i f d).lif = d.lif := rfl
@[simp] theorem modCtx_hld (i : Nat) (f : E2eCtx → E2eCtx) (d : Dev) : (modCtx i f d).hld = d.hld := rfl
@[simp] theorem modCtx_grt (i : Nat) (f : E2eCtx → E2eCtx) (d : Dev) : (modCtx i f d).grt = d.grt := rfl
@[simp] theorem modCtx_e2e (i : Nat) (f : E2eCtx → E2eCtx) (d : Dev) : (modCtx i f d).e2e = { d.e2e with ctx := modAt d.e2e.ctx i f } := rfl

/-! ### modThr -/

@[simp] theorem modThr_now (i : Nat) (f : ThrSt → ThrSt) (d : Dev) : (modThr i f d).now = d.now := rfl
@[simp] theorem modThr_free (i : Nat) (f : ThrSt → ThrSt) (d : Dev) : (modThr i f d).free = d.free := rfl
@[simp] theorem modThr_out (i : Nat) (f : ThrSt → ThrSt) (d : Dev) : (modThr i f d).out = d.out := rfl
@[simp] theorem modThr_sys (i : Nat) (f : ThrSt → ThrSt) (d : Dev) : (modThr i f d).sys = d.sys := rfl
@[simp] theorem modThr_pwr (i : Nat) (f : ThrSt → ThrSt) (d : Dev) : (modThr i f d).pwr = d.pwr := rfl
@[simp] theorem modThr_clk (i : Nat) (f : ThrSt → ThrSt) (d : Dev) : (modThr i f d).clk = d.clk := rfl
@[simp] theorem modThr_irq (i : Nat) (f : ThrSt → ThrSt) (d : Dev) : (modThr i f d).irq = d.irq := rfl
@[simp] theorem modThr_hst (i : Nat) (f : ThrSt → ThrSt) (d : Dev) : (modThr i f d).hst = d.hst := rfl
@[simp] theorem modThr_mde (i : Nat) (f : ThrSt → ThrSt) (d : Dev) : (modThr i f d).mde = d.mde := rfl
@[simp] theorem modThr_cfg (i : Nat) (f : ThrSt → ThrSt) (d : Dev) : (modThr i f d).cfg = d.cfg := rfl
@[simp] theorem modThr_msn (i : Nat) (f : ThrSt → ThrSt) (d : Dev) : (modThr i f d).msn = d.msn := rfl
@[simp] theorem modThr_slv (i : Nat) (f : ThrSt → ThrSt) (d : Dev) : (modThr i f d).slv = d.slv := rfl
@[simp] theorem modThr_fus (i : Nat) (f : ThrSt → ThrSt) (d : Dev) : (modThr i f d).fus = d.fus := rfl
@[simp] theorem modThr_ctl (i : Nat) (f : ThrSt → ThrSt) (d : Dev) : (modThr i f d).ctl = d.ctl := rfl
@[simp] theorem modThr_gns0 (i : Nat) (f : ThrSt → ThrSt) (d : Dev) : (modThr i f d).gns0 = d.gns0 := rfl
@[simp] theorem modThr_gns1 (i : Nat) (f : ThrSt → ThrSt) (d : Dev) : (modThr i f d).gns1 = d.gns1 := rfl
@[simp] theorem modThr_gns2 (i : Nat) (f : ThrSt → ThrSt) (d : Dev) : (modThr i f d).gns2 = d.gns2 := rfl
@[simp] theorem modThr_src (i : Nat) (f : ThrSt → ThrSt) (d : Dev) : (modThr i f d).src = d.src := rfl
@[simp] theorem modThr_flt (i : Nat) (f : ThrSt → ThrSt) (d : Dev) : (modThr i f d).flt = d.flt := rfl
@[simp] theorem modThr_sio (i : Nat) (f : ThrSt → ThrSt) (d : Dev) : (modThr i f d).sio = d.sio := rfl
@[simp] theorem modThr_lop (i : Nat) (f : ThrSt → ThrSt) (d : Dev) : (modThr i f d).lop = d.lop := rfl
@[simp] theorem modThr_aou (i : Nat) (f : ThrSt → ThrSt) (d : Dev) : (modThr i f d).aou = d.aou := rfl
@[simp] theorem modThr_pfg (i : Nat) (f : ThrSt → ThrSt) (d : Dev) : (modThr i f d).pfg = d.pfg := rfl
@[simp] theorem modThr_enc (i : Nat) (f : ThrSt → ThrSt) (d : Dev) : (modThr i f d).enc = d.enc := rfl
@[simp] theorem modThr_dio (i : Nat) (f : ThrSt → ThrSt) (d : Dev) : (modThr i f d).dio = d.dio := rfl
@[simp] theorem modThr_can (i : Nat) (f : ThrSt → ThrSt) (d : Dev) : (modThr i f d).can = d.can := rfl
@[simp] theorem modThr_e2e (i : Nat) (f : ThrSt → ThrSt) (d : Dev) : (modThr i f d).e2e = d.e2e := rfl
@[simp] theorem modThr_tim (i : Nat) (f : ThrSt → ThrSt) (d : Dev) : (modThr i f d).tim = d.tim := rfl
@[simp] theorem modThr_eth (i : Nat) (f : ThrSt → ThrSt) (d : Dev) : (modThr i f d).eth = d.eth := rfl
@[simp] theorem modThr_ndl (i : Nat) (f : ThrSt → ThrSt) (d : Dev) : (modThr i f d).ndl = d.ndl := rfl
@[simp] theorem modThr_pair (i : Nat) (f : ThrSt → ThrSt) (d : Dev) : (modThr i f d).pair = d.pair := rfl
@[simp] theorem modThr_saf (i : Nat) (f : ThrSt → ThrSt) (d : Dev) : (modThr i f d).saf = d.saf := rfl
@[simp] theorem modThr_evt (i : Nat) (f : ThrSt → ThrSt) (d : Dev) : (modThr i f d).evt = d.evt := rfl
@[simp] theorem modThr_lif (i : Nat) (f : ThrSt → ThrSt) (d : Dev) : (modThr i f d).lif = d.lif := rfl
@[simp] theorem modThr_hld (i : Nat) (f : ThrSt → ThrSt) (d : Dev) : (modThr i f d).hld = d.hld := rfl
@[simp] theorem modThr_grt (i : Nat) (f : ThrSt → ThrSt) (d : Dev) : (modThr i f d).grt = d.grt := rfl
@[simp] theorem modThr_alc (i : Nat) (f : ThrSt → ThrSt) (d : Dev) : (modThr i f d).alc = { d.alc with thr := modAt d.alc.thr i f } := rfl

/-! ### modCtl -/

@[simp] theorem modCtl_now (f : CtlSt → CtlSt) (d : Dev) : (modCtl f d).now = d.now := rfl
@[simp] theorem modCtl_free (f : CtlSt → CtlSt) (d : Dev) : (modCtl f d).free = d.free := rfl
@[simp] theorem modCtl_out (f : CtlSt → CtlSt) (d : Dev) : (modCtl f d).out = d.out := rfl
@[simp] theorem modCtl_sys (f : CtlSt → CtlSt) (d : Dev) : (modCtl f d).sys = d.sys := rfl
@[simp] theorem modCtl_pwr (f : CtlSt → CtlSt) (d : Dev) : (modCtl f d).pwr = d.pwr := rfl
@[simp] theorem modCtl_clk (f : CtlSt → CtlSt) (d : Dev) : (modCtl f d).clk = d.clk := rfl
@[simp] theorem modCtl_irq (f : CtlSt → CtlSt) (d : Dev) : (modCtl f d).irq = d.irq := rfl
@[simp] theorem modCtl_hst (f : CtlSt → CtlSt) (d : Dev) : (modCtl f d).hst = d.hst := rfl
@[simp] theorem modCtl_mde (f : CtlSt → CtlSt) (d : Dev) : (modCtl f d).mde = d.mde := rfl
@[simp] theorem modCtl_cfg (f : CtlSt → CtlSt) (d : Dev) : (modCtl f d).cfg = d.cfg := rfl
@[simp] theorem modCtl_msn (f : CtlSt → CtlSt) (d : Dev) : (modCtl f d).msn = d.msn := rfl
@[simp] theorem modCtl_slv (f : CtlSt → CtlSt) (d : Dev) : (modCtl f d).slv = d.slv := rfl
@[simp] theorem modCtl_fus (f : CtlSt → CtlSt) (d : Dev) : (modCtl f d).fus = d.fus := rfl
@[simp] theorem modCtl_alc (f : CtlSt → CtlSt) (d : Dev) : (modCtl f d).alc = d.alc := rfl
@[simp] theorem modCtl_gns0 (f : CtlSt → CtlSt) (d : Dev) : (modCtl f d).gns0 = d.gns0 := rfl
@[simp] theorem modCtl_gns1 (f : CtlSt → CtlSt) (d : Dev) : (modCtl f d).gns1 = d.gns1 := rfl
@[simp] theorem modCtl_gns2 (f : CtlSt → CtlSt) (d : Dev) : (modCtl f d).gns2 = d.gns2 := rfl
@[simp] theorem modCtl_src (f : CtlSt → CtlSt) (d : Dev) : (modCtl f d).src = d.src := rfl
@[simp] theorem modCtl_flt (f : CtlSt → CtlSt) (d : Dev) : (modCtl f d).flt = d.flt := rfl
@[simp] theorem modCtl_sio (f : CtlSt → CtlSt) (d : Dev) : (modCtl f d).sio = d.sio := rfl
@[simp] theorem modCtl_lop (f : CtlSt → CtlSt) (d : Dev) : (modCtl f d).lop = d.lop := rfl
@[simp] theorem modCtl_aou (f : CtlSt → CtlSt) (d : Dev) : (modCtl f d).aou = d.aou := rfl
@[simp] theorem modCtl_pfg (f : CtlSt → CtlSt) (d : Dev) : (modCtl f d).pfg = d.pfg := rfl
@[simp] theorem modCtl_enc (f : CtlSt → CtlSt) (d : Dev) : (modCtl f d).enc = d.enc := rfl
@[simp] theorem modCtl_dio (f : CtlSt → CtlSt) (d : Dev) : (modCtl f d).dio = d.dio := rfl
@[simp] theorem modCtl_can (f : CtlSt → CtlSt) (d : Dev) : (modCtl f d).can = d.can := rfl
@[simp] theorem modCtl_e2e (f : CtlSt → CtlSt) (d : Dev) : (modCtl f d).e2e = d.e2e := rfl
@[simp] theorem modCtl_tim (f : CtlSt → CtlSt) (d : Dev) : (modCtl f d).tim = d.tim := rfl
@[simp] theorem modCtl_eth (f : CtlSt → CtlSt) (d : Dev) : (modCtl f d).eth = d.eth := rfl
@[simp] theorem modCtl_ndl (f : CtlSt → CtlSt) (d : Dev) : (modCtl f d).ndl = d.ndl := rfl
@[simp] theorem modCtl_pair (f : CtlSt → CtlSt) (d : Dev) : (modCtl f d).pair = d.pair := rfl
@[simp] theorem modCtl_saf (f : CtlSt → CtlSt) (d : Dev) : (modCtl f d).saf = d.saf := rfl
@[simp] theorem modCtl_evt (f : CtlSt → CtlSt) (d : Dev) : (modCtl f d).evt = d.evt := rfl
@[simp] theorem modCtl_lif (f : CtlSt → CtlSt) (d : Dev) : (modCtl f d).lif = d.lif := rfl
@[simp] theorem modCtl_hld (f : CtlSt → CtlSt) (d : Dev) : (modCtl f d).hld = d.hld := rfl
@[simp] theorem modCtl_grt (f : CtlSt → CtlSt) (d : Dev) : (modCtl f d).grt = d.grt := rfl
@[simp] theorem modCtl_ctl (f : CtlSt → CtlSt) (d : Dev) : (modCtl f d).ctl = f d.ctl := rfl

/-! ### modEth -/

@[simp] theorem modEth_now (n : Nat) (f : EthSt → EthSt) (d : Dev) : (modEth n f d).now = d.now := rfl
@[simp] theorem modEth_free (n : Nat) (f : EthSt → EthSt) (d : Dev) : (modEth n f d).free = d.free := rfl
@[simp] theorem modEth_out (n : Nat) (f : EthSt → EthSt) (d : Dev) : (modEth n f d).out = d.out := rfl
@[simp] theorem modEth_sys (n : Nat) (f : EthSt → EthSt) (d : Dev) : (modEth n f d).sys = d.sys := rfl
@[simp] theorem modEth_pwr (n : Nat) (f : EthSt → EthSt) (d : Dev) : (modEth n f d).pwr = d.pwr := rfl
@[simp] theorem modEth_clk (n : Nat) (f : EthSt → EthSt) (d : Dev) : (modEth n f d).clk = d.clk := rfl
@[simp] theorem modEth_irq (n : Nat) (f : EthSt → EthSt) (d : Dev) : (modEth n f d).irq = d.irq := rfl
@[simp] theorem modEth_hst (n : Nat) (f : EthSt → EthSt) (d : Dev) : (modEth n f d).hst = d.hst := rfl
@[simp] theorem modEth_mde (n : Nat) (f : EthSt → EthSt) (d : Dev) : (modEth n f d).mde = d.mde := rfl
@[simp] theorem modEth_cfg (n : Nat) (f : EthSt → EthSt) (d : Dev) : (modEth n f d).cfg = d.cfg := rfl
@[simp] theorem modEth_msn (n : Nat) (f : EthSt → EthSt) (d : Dev) : (modEth n f d).msn = d.msn := rfl
@[simp] theorem modEth_slv (n : Nat) (f : EthSt → EthSt) (d : Dev) : (modEth n f d).slv = d.slv := rfl
@[simp] theorem modEth_fus (n : Nat) (f : EthSt → EthSt) (d : Dev) : (modEth n f d).fus = d.fus := rfl
@[simp] theorem modEth_ctl (n : Nat) (f : EthSt → EthSt) (d : Dev) : (modEth n f d).ctl = d.ctl := rfl
@[simp] theorem modEth_alc (n : Nat) (f : EthSt → EthSt) (d : Dev) : (modEth n f d).alc = d.alc := rfl
@[simp] theorem modEth_gns0 (n : Nat) (f : EthSt → EthSt) (d : Dev) : (modEth n f d).gns0 = d.gns0 := rfl
@[simp] theorem modEth_gns1 (n : Nat) (f : EthSt → EthSt) (d : Dev) : (modEth n f d).gns1 = d.gns1 := rfl
@[simp] theorem modEth_gns2 (n : Nat) (f : EthSt → EthSt) (d : Dev) : (modEth n f d).gns2 = d.gns2 := rfl
@[simp] theorem modEth_src (n : Nat) (f : EthSt → EthSt) (d : Dev) : (modEth n f d).src = d.src := rfl
@[simp] theorem modEth_flt (n : Nat) (f : EthSt → EthSt) (d : Dev) : (modEth n f d).flt = d.flt := rfl
@[simp] theorem modEth_sio (n : Nat) (f : EthSt → EthSt) (d : Dev) : (modEth n f d).sio = d.sio := rfl
@[simp] theorem modEth_lop (n : Nat) (f : EthSt → EthSt) (d : Dev) : (modEth n f d).lop = d.lop := rfl
@[simp] theorem modEth_aou (n : Nat) (f : EthSt → EthSt) (d : Dev) : (modEth n f d).aou = d.aou := rfl
@[simp] theorem modEth_pfg (n : Nat) (f : EthSt → EthSt) (d : Dev) : (modEth n f d).pfg = d.pfg := rfl
@[simp] theorem modEth_enc (n : Nat) (f : EthSt → EthSt) (d : Dev) : (modEth n f d).enc = d.enc := rfl
@[simp] theorem modEth_dio (n : Nat) (f : EthSt → EthSt) (d : Dev) : (modEth n f d).dio = d.dio := rfl
@[simp] theorem modEth_can (n : Nat) (f : EthSt → EthSt) (d : Dev) : (modEth n f d).can = d.can := rfl
@[simp] theorem modEth_e2e (n : Nat) (f : EthSt → EthSt) (d : Dev) : (modEth n f d).e2e = d.e2e := rfl
@[simp] theorem modEth_tim (n : Nat) (f : EthSt → EthSt) (d : Dev) : (modEth n f d).tim = d.tim := rfl
@[simp] theorem modEth_ndl (n : Nat) (f : EthSt → EthSt) (d : Dev) : (modEth n f d).ndl = d.ndl := rfl
@[simp] theorem modEth_pair (n : Nat) (f : EthSt → EthSt) (d : Dev) : (modEth n f d).pair = d.pair := rfl
@[simp] theorem modEth_saf (n : Nat) (f : EthSt → EthSt) (d : Dev) : (modEth n f d).saf = d.saf := rfl
@[simp] theorem modEth_evt (n : Nat) (f : EthSt → EthSt) (d : Dev) : (modEth n f d).evt = d.evt := rfl
@[simp] theorem modEth_lif (n : Nat) (f : EthSt → EthSt) (d : Dev) : (modEth n f d).lif = d.lif := rfl
@[simp] theorem modEth_hld (n : Nat) (f : EthSt → EthSt) (d : Dev) : (modEth n f d).hld = d.hld := rfl
@[simp] theorem modEth_grt (n : Nat) (f : EthSt → EthSt) (d : Dev) : (modEth n f d).grt = d.grt := rfl
@[simp] theorem modEth_eth (n : Nat) (f : EthSt → EthSt) (d : Dev) : (modEth n f d).eth = modAt d.eth n f := rfl

/-! ### modFus -/

@[simp] theorem modFus_now (i : Nat) (f : FusSrc → FusSrc) (d : Dev) : (modFus i f d).now = d.now := rfl
@[simp] theorem modFus_free (i : Nat) (f : FusSrc → FusSrc) (d : Dev) : (modFus i f d).free = d.free := rfl
@[simp] theorem modFus_out (i : Nat) (f : FusSrc → FusSrc) (d : Dev) : (modFus i f d).out = d.out := rfl
@[simp] theorem modFus_sys (i : Nat) (f : FusSrc → FusSrc) (d : Dev) : (modFus i f d).sys = d.sys := rfl
@[simp] theorem modFus_pwr (i : Nat) (f : FusSrc → FusSrc) (d : Dev) : (modFus i f d).pwr = d.pwr := rfl
@[simp] theorem modFus_clk (i : Nat) (f : FusSrc → FusSrc) (d : Dev) : (modFus i f d).clk = d.clk := rfl
@[simp] theorem modFus_irq (i : Nat) (f : FusSrc → FusSrc) (d : Dev) : (modFus i f d).irq = d.irq := rfl
@[simp] theorem modFus_hst (i : Nat) (f : FusSrc → FusSrc) (d : Dev) : (modFus i f d).hst = d.hst := rfl
@[simp] theorem modFus_mde (i : Nat) (f : FusSrc → FusSrc) (d : Dev) : (modFus i f d).mde = d.mde := rfl
@[simp] theorem modFus_cfg (i : Nat) (f : FusSrc → FusSrc) (d : Dev) : (modFus i f d).cfg = d.cfg := rfl
@[simp] theorem modFus_msn (i : Nat) (f : FusSrc → FusSrc) (d : Dev) : (modFus i f d).msn = d.msn := rfl
@[simp] theorem modFus_slv (i : Nat) (f : FusSrc → FusSrc) (d : Dev) : (modFus i f d).slv = d.slv := rfl
@[simp] theorem modFus_ctl (i : Nat) (f : FusSrc → FusSrc) (d : Dev) : (modFus i f d).ctl = d.ctl := rfl
@[simp] theorem modFus_alc (i : Nat) (f : FusSrc → FusSrc) (d : Dev) : (modFus i f d).alc = d.alc := rfl
@[simp] theorem modFus_gns0 (i : Nat) (f : FusSrc → FusSrc) (d : Dev) : (modFus i f d).gns0 = d.gns0 := rfl
@[simp] theorem modFus_gns1 (i : Nat) (f : FusSrc → FusSrc) (d : Dev) : (modFus i f d).gns1 = d.gns1 := rfl
@[simp] theorem modFus_gns2 (i : Nat) (f : FusSrc → FusSrc) (d : Dev) : (modFus i f d).gns2 = d.gns2 := rfl
@[simp] theorem modFus_src (i : Nat) (f : FusSrc → FusSrc) (d : Dev) : (modFus i f d).src = d.src := rfl
@[simp] theorem modFus_flt (i : Nat) (f : FusSrc → FusSrc) (d : Dev) : (modFus i f d).flt = d.flt := rfl
@[simp] theorem modFus_sio (i : Nat) (f : FusSrc → FusSrc) (d : Dev) : (modFus i f d).sio = d.sio := rfl
@[simp] theorem modFus_lop (i : Nat) (f : FusSrc → FusSrc) (d : Dev) : (modFus i f d).lop = d.lop := rfl
@[simp] theorem modFus_aou (i : Nat) (f : FusSrc → FusSrc) (d : Dev) : (modFus i f d).aou = d.aou := rfl
@[simp] theorem modFus_pfg (i : Nat) (f : FusSrc → FusSrc) (d : Dev) : (modFus i f d).pfg = d.pfg := rfl
@[simp] theorem modFus_enc (i : Nat) (f : FusSrc → FusSrc) (d : Dev) : (modFus i f d).enc = d.enc := rfl
@[simp] theorem modFus_dio (i : Nat) (f : FusSrc → FusSrc) (d : Dev) : (modFus i f d).dio = d.dio := rfl
@[simp] theorem modFus_can (i : Nat) (f : FusSrc → FusSrc) (d : Dev) : (modFus i f d).can = d.can := rfl
@[simp] theorem modFus_e2e (i : Nat) (f : FusSrc → FusSrc) (d : Dev) : (modFus i f d).e2e = d.e2e := rfl
@[simp] theorem modFus_tim (i : Nat) (f : FusSrc → FusSrc) (d : Dev) : (modFus i f d).tim = d.tim := rfl
@[simp] theorem modFus_eth (i : Nat) (f : FusSrc → FusSrc) (d : Dev) : (modFus i f d).eth = d.eth := rfl
@[simp] theorem modFus_ndl (i : Nat) (f : FusSrc → FusSrc) (d : Dev) : (modFus i f d).ndl = d.ndl := rfl
@[simp] theorem modFus_pair (i : Nat) (f : FusSrc → FusSrc) (d : Dev) : (modFus i f d).pair = d.pair := rfl
@[simp] theorem modFus_saf (i : Nat) (f : FusSrc → FusSrc) (d : Dev) : (modFus i f d).saf = d.saf := rfl
@[simp] theorem modFus_evt (i : Nat) (f : FusSrc → FusSrc) (d : Dev) : (modFus i f d).evt = d.evt := rfl
@[simp] theorem modFus_lif (i : Nat) (f : FusSrc → FusSrc) (d : Dev) : (modFus i f d).lif = d.lif := rfl
@[simp] theorem modFus_hld (i : Nat) (f : FusSrc → FusSrc) (d : Dev) : (modFus i f d).hld = d.hld := rfl
@[simp] theorem modFus_grt (i : Nat) (f : FusSrc → FusSrc) (d : Dev) : (modFus i f d).grt = d.grt := rfl
@[simp] theorem modFus_fus (i : Nat) (f : FusSrc → FusSrc) (d : Dev) : (modFus i f d).fus = { d.fus with srcs := modAt d.fus.srcs i f } := rfl

/-! ### modTgt -/

@[simp] theorem modTgt_now (o : Nat) (f : TgtSt → TgtSt) (d : Dev) : (modTgt o f d).now = d.now := rfl
@[simp] theorem modTgt_free (o : Nat) (f : TgtSt → TgtSt) (d : Dev) : (modTgt o f d).free = d.free := rfl
@[simp] theorem modTgt_out (o : Nat) (f : TgtSt → TgtSt) (d : Dev) : (modTgt o f d).out = d.out := rfl
@[simp] theorem modTgt_sys (o : Nat) (f : TgtSt → TgtSt) (d : Dev) : (modTgt o f d).sys = d.sys := rfl
@[simp] theorem modTgt_pwr (o : Nat) (f : TgtSt → TgtSt) (d : Dev) : (modTgt o f d).pwr = d.pwr := rfl
@[simp] theorem modTgt_clk (o : Nat) (f : TgtSt → TgtSt) (d : Dev) : (modTgt o f d).clk = d.clk := rfl
@[simp] theorem modTgt_irq (o : Nat) (f : TgtSt → TgtSt) (d : Dev) : (modTgt o f d).irq = d.irq := rfl
@[simp] theorem modTgt_hst (o : Nat) (f : TgtSt → TgtSt) (d : Dev) : (modTgt o f d).hst = d.hst := rfl
@[simp] theorem modTgt_mde (o : Nat) (f : TgtSt → TgtSt) (d : Dev) : (modTgt o f d).mde = d.mde := rfl
@[simp] theorem modTgt_cfg (o : Nat) (f : TgtSt → TgtSt) (d : Dev) : (modTgt o f d).cfg = d.cfg := rfl
@[simp] theorem modTgt_msn (o : Nat) (f : TgtSt → TgtSt) (d : Dev) : (modTgt o f d).msn = d.msn := rfl
@[simp] theorem modTgt_slv (o : Nat) (f : TgtSt → TgtSt) (d : Dev) : (modTgt o f d).slv = d.slv := rfl
@[simp] theorem modTgt_ctl (o : Nat) (f : TgtSt → TgtSt) (d : Dev) : (modTgt o f d).ctl = d.ctl := rfl
@[simp] theorem modTgt_alc (o : Nat) (f : TgtSt → TgtSt) (d : Dev) : (modTgt o f d).alc = d.alc := rfl
@[simp] theorem modTgt_gns0 (o : Nat) (f : TgtSt → TgtSt) (d : Dev) : (modTgt o f d).gns0 = d.gns0 := rfl
@[simp] theorem modTgt_gns1 (o : Nat) (f : TgtSt → TgtSt) (d : Dev) : (modTgt o f d).gns1 = d.gns1 := rfl
@[simp] theorem modTgt_gns2 (o : Nat) (f : TgtSt → TgtSt) (d : Dev) : (modTgt o f d).gns2 = d.gns2 := rfl
@[simp] theorem modTgt_src (o : Nat) (f : TgtSt → TgtSt) (d : Dev) : (modTgt o f d).src = d.src := rfl
@[simp] theorem modTgt_flt (o : Nat) (f : TgtSt → TgtSt) (d : Dev) : (modTgt o f d).flt = d.flt := rfl
@[simp] theorem modTgt_sio (o : Nat) (f : TgtSt → TgtSt) (d : Dev) : (modTgt o f d).sio = d.sio := rfl
@[simp] theorem modTgt_lop (o : Nat) (f : TgtSt → TgtSt) (d : Dev) : (modTgt o f d).lop = d.lop := rfl
@[simp] theorem modTgt_aou (o : Nat) (f : TgtSt → TgtSt) (d : Dev) : (modTgt o f d).aou = d.aou := rfl
@[simp] theorem modTgt_pfg (o : Nat) (f : TgtSt → TgtSt) (d : Dev) : (modTgt o f d).pfg = d.pfg := rfl
@[simp] theorem modTgt_enc (o : Nat) (f : TgtSt → TgtSt) (d : Dev) : (modTgt o f d).enc = d.enc := rfl
@[simp] theorem modTgt_dio (o : Nat) (f : TgtSt → TgtSt) (d : Dev) : (modTgt o f d).dio = d.dio := rfl
@[simp] theorem modTgt_can (o : Nat) (f : TgtSt → TgtSt) (d : Dev) : (modTgt o f d).can = d.can := rfl
@[simp] theorem modTgt_e2e (o : Nat) (f : TgtSt → TgtSt) (d : Dev) : (modTgt o f d).e2e = d.e2e := rfl
@[simp] theorem modTgt_tim (o : Nat) (f : TgtSt → TgtSt) (d : Dev) : (modTgt o f d).tim = d.tim := rfl
@[simp] theorem modTgt_eth (o : Nat) (f : TgtSt → TgtSt) (d : Dev) : (modTgt o f d).eth = d.eth := rfl
@[simp] theorem modTgt_ndl (o : Nat) (f : TgtSt → TgtSt) (d : Dev) : (modTgt o f d).ndl = d.ndl := rfl
@[simp] theorem modTgt_pair (o : Nat) (f : TgtSt → TgtSt) (d : Dev) : (modTgt o f d).pair = d.pair := rfl
@[simp] theorem modTgt_saf (o : Nat) (f : TgtSt → TgtSt) (d : Dev) : (modTgt o f d).saf = d.saf := rfl
@[simp] theorem modTgt_evt (o : Nat) (f : TgtSt → TgtSt) (d : Dev) : (modTgt o f d).evt = d.evt := rfl
@[simp] theorem modTgt_lif (o : Nat) (f : TgtSt → TgtSt) (d : Dev) : (modTgt o f d).lif = d.lif := rfl
@[simp] theorem modTgt_hld (o : Nat) (f : TgtSt → TgtSt) (d : Dev) : (modTgt o f d).hld = d.hld := rfl
@[simp] theorem modTgt_grt (o : Nat) (f : TgtSt → TgtSt) (d : Dev) : (modTgt o f d).grt = d.grt := rfl
@[simp] theorem modTgt_fus (o : Nat) (f : TgtSt → TgtSt) (d : Dev) : (modTgt o f d).fus = { d.fus with tgt := modAt d.fus.tgt (o - 1) f } := rfl

/-! ### modPath -/

@[simp] theorem modPath_now (p : Nat) (f : RfPath → RfPath) (d : Dev) : (modPath p f d).now = d.now := rfl
@[simp] theorem modPath_free (p : Nat) (f : RfPath → RfPath) (d : Dev) : (modPath p f d).free = d.free := rfl
@[simp] theorem modPath_out (p : Nat) (f : RfPath → RfPath) (d : Dev) : (modPath p f d).out = d.out := rfl
@[simp] theorem modPath_sys (p : Nat) (f : RfPath → RfPath) (d : Dev) : (modPath p f d).sys = d.sys := rfl
@[simp] theorem modPath_pwr (p : Nat) (f : RfPath → RfPath) (d : Dev) : (modPath p f d).pwr = d.pwr := rfl
@[simp] theorem modPath_clk (p : Nat) (f : RfPath → RfPath) (d : Dev) : (modPath p f d).clk = d.clk := rfl
@[simp] theorem modPath_irq (p : Nat) (f : RfPath → RfPath) (d : Dev) : (modPath p f d).irq = d.irq := rfl
@[simp] theorem modPath_hst (p : Nat) (f : RfPath → RfPath) (d : Dev) : (modPath p f d).hst = d.hst := rfl
@[simp] theorem modPath_mde (p : Nat) (f : RfPath → RfPath) (d : Dev) : (modPath p f d).mde = d.mde := rfl
@[simp] theorem modPath_cfg (p : Nat) (f : RfPath → RfPath) (d : Dev) : (modPath p f d).cfg = d.cfg := rfl
@[simp] theorem modPath_msn (p : Nat) (f : RfPath → RfPath) (d : Dev) : (modPath p f d).msn = d.msn := rfl
@[simp] theorem modPath_slv (p : Nat) (f : RfPath → RfPath) (d : Dev) : (modPath p f d).slv = d.slv := rfl
@[simp] theorem modPath_fus (p : Nat) (f : RfPath → RfPath) (d : Dev) : (modPath p f d).fus = d.fus := rfl
@[simp] theorem modPath_ctl (p : Nat) (f : RfPath → RfPath) (d : Dev) : (modPath p f d).ctl = d.ctl := rfl
@[simp] theorem modPath_alc (p : Nat) (f : RfPath → RfPath) (d : Dev) : (modPath p f d).alc = d.alc := rfl
@[simp] theorem modPath_gns1 (p : Nat) (f : RfPath → RfPath) (d : Dev) : (modPath p f d).gns1 = d.gns1 := rfl
@[simp] theorem modPath_gns2 (p : Nat) (f : RfPath → RfPath) (d : Dev) : (modPath p f d).gns2 = d.gns2 := rfl
@[simp] theorem modPath_src (p : Nat) (f : RfPath → RfPath) (d : Dev) : (modPath p f d).src = d.src := rfl
@[simp] theorem modPath_flt (p : Nat) (f : RfPath → RfPath) (d : Dev) : (modPath p f d).flt = d.flt := rfl
@[simp] theorem modPath_sio (p : Nat) (f : RfPath → RfPath) (d : Dev) : (modPath p f d).sio = d.sio := rfl
@[simp] theorem modPath_lop (p : Nat) (f : RfPath → RfPath) (d : Dev) : (modPath p f d).lop = d.lop := rfl
@[simp] theorem modPath_aou (p : Nat) (f : RfPath → RfPath) (d : Dev) : (modPath p f d).aou = d.aou := rfl
@[simp] theorem modPath_pfg (p : Nat) (f : RfPath → RfPath) (d : Dev) : (modPath p f d).pfg = d.pfg := rfl
@[simp] theorem modPath_enc (p : Nat) (f : RfPath → RfPath) (d : Dev) : (modPath p f d).enc = d.enc := rfl
@[simp] theorem modPath_dio (p : Nat) (f : RfPath → RfPath) (d : Dev) : (modPath p f d).dio = d.dio := rfl
@[simp] theorem modPath_can (p : Nat) (f : RfPath → RfPath) (d : Dev) : (modPath p f d).can = d.can := rfl
@[simp] theorem modPath_e2e (p : Nat) (f : RfPath → RfPath) (d : Dev) : (modPath p f d).e2e = d.e2e := rfl
@[simp] theorem modPath_tim (p : Nat) (f : RfPath → RfPath) (d : Dev) : (modPath p f d).tim = d.tim := rfl
@[simp] theorem modPath_eth (p : Nat) (f : RfPath → RfPath) (d : Dev) : (modPath p f d).eth = d.eth := rfl
@[simp] theorem modPath_ndl (p : Nat) (f : RfPath → RfPath) (d : Dev) : (modPath p f d).ndl = d.ndl := rfl
@[simp] theorem modPath_pair (p : Nat) (f : RfPath → RfPath) (d : Dev) : (modPath p f d).pair = d.pair := rfl
@[simp] theorem modPath_saf (p : Nat) (f : RfPath → RfPath) (d : Dev) : (modPath p f d).saf = d.saf := rfl
@[simp] theorem modPath_evt (p : Nat) (f : RfPath → RfPath) (d : Dev) : (modPath p f d).evt = d.evt := rfl
@[simp] theorem modPath_lif (p : Nat) (f : RfPath → RfPath) (d : Dev) : (modPath p f d).lif = d.lif := rfl
@[simp] theorem modPath_hld (p : Nat) (f : RfPath → RfPath) (d : Dev) : (modPath p f d).hld = d.hld := rfl
@[simp] theorem modPath_grt (p : Nat) (f : RfPath → RfPath) (d : Dev) : (modPath p f d).grt = d.grt := rfl
@[simp] theorem modPath_gns0 (p : Nat) (f : RfPath → RfPath) (d : Dev) : (modPath p f d).gns0 = { d.gns0 with paths := modAt d.gns0.paths p f } := rfl

/-! ### modChan -/

@[simp] theorem modChan_now (c : Nat) (f : Channel → Channel) (d : Dev) : (modChan c f d).now = d.now := rfl
@[simp] theorem modChan_free (c : Nat) (f : Channel → Channel) (d : Dev) : (modChan c f d).free = d.free := rfl
@[simp] theorem modChan_out (c : Nat) (f : Channel → Channel) (d : Dev) : (modChan c f d).out = d.out := rfl
@[simp] theorem modChan_sys (c : Nat) (f : Channel → Channel) (d : Dev) : (modChan c f d).sys = d.sys := rfl
@[simp] theorem modChan_pwr (c : Nat) (f : Channel → Channel) (d : Dev) : (modChan c f d).pwr = d.pwr := rfl
@[simp] theorem modChan_clk (c : Nat) (f : Channel → Channel) (d : Dev) : (modChan c f d).clk = d.clk := rfl
@[simp] theorem modChan_irq (c : Nat) (f : Channel → Channel) (d : Dev) : (modChan c f d).irq = d.irq := rfl
@[simp] theorem modChan_hst (c : Nat) (f : Channel → Channel) (d : Dev) : (modChan c f d).hst = d.hst := rfl
@[simp] theorem modChan_mde (c : Nat) (f : Channel → Channel) (d : Dev) : (modChan c f d).mde = d.mde := rfl
@[simp] theorem modChan_cfg (c : Nat) (f : Channel → Channel) (d : Dev) : (modChan c f d).cfg = d.cfg := rfl
@[simp] theorem modChan_msn (c : Nat) (f : Channel → Channel) (d : Dev) : (modChan c f d).msn = d.msn := rfl
@[simp] theorem modChan_slv (c : Nat) (f : Channel → Channel) (d : Dev) : (modChan c f d).slv = d.slv := rfl
@[simp] theorem modChan_fus (c : Nat) (f : Channel → Channel) (d : Dev) : (modChan c f d).fus = d.fus := rfl
@[simp] theorem modChan_ctl (c : Nat) (f : Channel → Channel) (d : Dev) : (modChan c f d).ctl = d.ctl := rfl
@[simp] theorem modChan_alc (c : Nat) (f : Channel → Channel) (d : Dev) : (modChan c f d).alc = d.alc := rfl
@[simp] theorem modChan_gns1 (c : Nat) (f : Channel → Channel) (d : Dev) : (modChan c f d).gns1 = d.gns1 := rfl
@[simp] theorem modChan_gns2 (c : Nat) (f : Channel → Channel) (d : Dev) : (modChan c f d).gns2 = d.gns2 := rfl
@[simp] theorem modChan_src (c : Nat) (f : Channel → Channel) (d : Dev) : (modChan c f d).src = d.src := rfl
@[simp] theorem modChan_flt (c : Nat) (f : Channel → Channel) (d : Dev) : (modChan c f d).flt = d.flt := rfl
@[simp] theorem modChan_sio (c : Nat) (f : Channel → Channel) (d : Dev) : (modChan c f d).sio = d.sio := rfl
@[simp] theorem modChan_lop (c : Nat) (f : Channel → Channel) (d : Dev) : (modChan c f d).lop = d.lop := rfl
@[simp] theorem modChan_aou (c : Nat) (f : Channel → Channel) (d : Dev) : (modChan c f d).aou = d.aou := rfl
@[simp] theorem modChan_pfg (c : Nat) (f : Channel → Channel) (d : Dev) : (modChan c f d).pfg = d.pfg := rfl
@[simp] theorem modChan_enc (c : Nat) (f : Channel → Channel) (d : Dev) : (modChan c f d).enc = d.enc := rfl
@[simp] theorem modChan_dio (c : Nat) (f : Channel → Channel) (d : Dev) : (modChan c f d).dio = d.dio := rfl
@[simp] theorem modChan_can (c : Nat) (f : Channel → Channel) (d : Dev) : (modChan c f d).can = d.can := rfl
@[simp] theorem modChan_e2e (c : Nat) (f : Channel → Channel) (d : Dev) : (modChan c f d).e2e = d.e2e := rfl
@[simp] theorem modChan_tim (c : Nat) (f : Channel → Channel) (d : Dev) : (modChan c f d).tim = d.tim := rfl
@[simp] theorem modChan_eth (c : Nat) (f : Channel → Channel) (d : Dev) : (modChan c f d).eth = d.eth := rfl
@[simp] theorem modChan_ndl (c : Nat) (f : Channel → Channel) (d : Dev) : (modChan c f d).ndl = d.ndl := rfl
@[simp] theorem modChan_pair (c : Nat) (f : Channel → Channel) (d : Dev) : (modChan c f d).pair = d.pair := rfl
@[simp] theorem modChan_saf (c : Nat) (f : Channel → Channel) (d : Dev) : (modChan c f d).saf = d.saf := rfl
@[simp] theorem modChan_evt (c : Nat) (f : Channel → Channel) (d : Dev) : (modChan c f d).evt = d.evt := rfl
@[simp] theorem modChan_lif (c : Nat) (f : Channel → Channel) (d : Dev) : (modChan c f d).lif = d.lif := rfl
@[simp] theorem modChan_hld (c : Nat) (f : Channel → Channel) (d : Dev) : (modChan c f d).hld = d.hld := rfl
@[simp] theorem modChan_grt (c : Nat) (f : Channel → Channel) (d : Dev) : (modChan c f d).grt = d.grt := rfl
@[simp] theorem modChan_gns0 (c : Nat) (f : Channel → Channel) (d : Dev) : (modChan c f d).gns0 = { d.gns0 with chans := modAt d.gns0.chans c f } := rfl

/-! ### modXt -/

@[simp] theorem modXt_now (i : Nat) (f : XtrkPath → XtrkPath) (d : Dev) : (modXt i f d).now = d.now := rfl
@[simp] theorem modXt_free (i : Nat) (f : XtrkPath → XtrkPath) (d : Dev) : (modXt i f d).free = d.free := rfl
@[simp] theorem modXt_out (i : Nat) (f : XtrkPath → XtrkPath) (d : Dev) : (modXt i f d).out = d.out := rfl
@[simp] theorem modXt_sys (i : Nat) (f : XtrkPath → XtrkPath) (d : Dev) : (modXt i f d).sys = d.sys := rfl
@[simp] theorem modXt_pwr (i : Nat) (f : XtrkPath → XtrkPath) (d : Dev) : (modXt i f d).pwr = d.pwr := rfl
@[simp] theorem modXt_clk (i : Nat) (f : XtrkPath → XtrkPath) (d : Dev) : (modXt i f d).clk = d.clk := rfl
@[simp] theorem modXt_irq (i : Nat) (f : XtrkPath → XtrkPath) (d : Dev) : (modXt i f d).irq = d.irq := rfl
@[simp] theorem modXt_hst (i : Nat) (f : XtrkPath → XtrkPath) (d : Dev) : (modXt i f d).hst = d.hst := rfl
@[simp] theorem modXt_mde (i : Nat) (f : XtrkPath → XtrkPath) (d : Dev) : (modXt i f d).mde = d.mde := rfl
@[simp] theorem modXt_cfg (i : Nat) (f : XtrkPath → XtrkPath) (d : Dev) : (modXt i f d).cfg = d.cfg := rfl
@[simp] theorem modXt_msn (i : Nat) (f : XtrkPath → XtrkPath) (d : Dev) : (modXt i f d).msn = d.msn := rfl
@[simp] theorem modXt_slv (i : Nat) (f : XtrkPath → XtrkPath) (d : Dev) : (modXt i f d).slv = d.slv := rfl
@[simp] theorem modXt_fus (i : Nat) (f : XtrkPath → XtrkPath) (d : Dev) : (modXt i f d).fus = d.fus := rfl
@[simp] theorem modXt_ctl (i : Nat) (f : XtrkPath → XtrkPath) (d : Dev) : (modXt i f d).ctl = d.ctl := rfl
@[simp] theorem modXt_alc (i : Nat) (f : XtrkPath → XtrkPath) (d : Dev) : (modXt i f d).alc = d.alc := rfl
@[simp] theorem modXt_gns1 (i : Nat) (f : XtrkPath → XtrkPath) (d : Dev) : (modXt i f d).gns1 = d.gns1 := rfl
@[simp] theorem modXt_gns2 (i : Nat) (f : XtrkPath → XtrkPath) (d : Dev) : (modXt i f d).gns2 = d.gns2 := rfl
@[simp] theorem modXt_src (i : Nat) (f : XtrkPath → XtrkPath) (d : Dev) : (modXt i f d).src = d.src := rfl
@[simp] theorem modXt_flt (i : Nat) (f : XtrkPath → XtrkPath) (d : Dev) : (modXt i f d).flt = d.flt := rfl
@[simp] theorem modXt_sio (i : Nat) (f : XtrkPath → XtrkPath) (d : Dev) : (modXt i f d).sio = d.sio := rfl
@[simp] theorem modXt_lop (i : Nat) (f : XtrkPath → XtrkPath) (d : Dev) : (modXt i f d).lop = d.lop := rfl
@[simp] theorem modXt_aou (i : Nat) (f : XtrkPath → XtrkPath) (d : Dev) : (modXt i f d).aou = d.aou := rfl
@[simp] theorem modXt_pfg (i : Nat) (f : XtrkPath → XtrkPath) (d : Dev) : (modXt i f d).pfg = d.pfg := rfl
@[simp] theorem modXt_enc (i : Nat) (f : XtrkPath → XtrkPath) (d : Dev) : (modXt i f d).enc = d.enc := rfl
@[simp] theorem modXt_dio (i : Nat) (f : XtrkPath → XtrkPath) (d : Dev) : (modXt i f d).dio = d.dio := rfl
@[simp] theorem modXt_can (i : Nat) (f : XtrkPath → XtrkPath) (d : Dev) : (modXt i f d).can = d.can := rfl
@[simp] theorem modXt_e2e (i : Nat) (f : XtrkPath → XtrkPath) (d : Dev) : (modXt i f d).e2e = d.e2e := rfl
@[simp] theorem modXt_tim (i : Nat) (f : XtrkPath → XtrkPath) (d : Dev) : (modXt i f d).tim = d.tim := rfl
@[simp] theorem modXt_eth (i : Nat) (f : XtrkPath → XtrkPath) (d : Dev) : (modXt i f d).eth = d.eth := rfl
@[simp] theorem modXt_ndl (i : Nat) (f : XtrkPath → XtrkPath) (d : Dev) : (modXt i f d).ndl = d.ndl := rfl
@[simp] theorem modXt_pair (i : Nat) (f : XtrkPath → XtrkPath) (d : Dev) : (modXt i f d).pair = d.pair := rfl
@[simp] theorem modXt_saf (i : Nat) (f : XtrkPath → XtrkPath) (d : Dev) : (modXt i f d).saf = d.saf := rfl
@[simp] theorem modXt_evt (i : Nat) (f : XtrkPath → XtrkPath) (d : Dev) : (modXt i f d).evt = d.evt := rfl
@[simp] theorem modXt_lif (i : Nat) (f : XtrkPath → XtrkPath) (d : Dev) : (modXt i f d).lif = d.lif := rfl
@[simp] theorem modXt_hld (i : Nat) (f : XtrkPath → XtrkPath) (d : Dev) : (modXt i f d).hld = d.hld := rfl
@[simp] theorem modXt_grt (i : Nat) (f : XtrkPath → XtrkPath) (d : Dev) : (modXt i f d).grt = d.grt := rfl
@[simp] theorem modXt_gns0 (i : Nat) (f : XtrkPath → XtrkPath) (d : Dev) : (modXt i f d).gns0 = { d.gns0 with xt := modAt d.gns0.xt i f } := rfl

/-! ### modSaf -/

@[simp] theorem modSaf_now (f : SafSt → SafSt) (d : Dev) : (modSaf f d).now = d.now := rfl
@[simp] theorem modSaf_free (f : SafSt → SafSt) (d : Dev) : (modSaf f d).free = d.free := rfl
@[simp] theorem modSaf_out (f : SafSt → SafSt) (d : Dev) : (modSaf f d).out = d.out := rfl
@[simp] theorem modSaf_sys (f : SafSt → SafSt) (d : Dev) : (modSaf f d).sys = d.sys := rfl
@[simp] theorem modSaf_pwr (f : SafSt → SafSt) (d : Dev) : (modSaf f d).pwr = d.pwr := rfl
@[simp] theorem modSaf_clk (f : SafSt → SafSt) (d : Dev) : (modSaf f d).clk = d.clk := rfl
@[simp] theorem modSaf_irq (f : SafSt → SafSt) (d : Dev) : (modSaf f d).irq = d.irq := rfl
@[simp] theorem modSaf_hst (f : SafSt → SafSt) (d : Dev) : (modSaf f d).hst = d.hst := rfl
@[simp] theorem modSaf_mde (f : SafSt → SafSt) (d : Dev) : (modSaf f d).mde = d.mde := rfl
@[simp] theorem modSaf_cfg (f : SafSt → SafSt) (d : Dev) : (modSaf f d).cfg = d.cfg := rfl
@[simp] theorem modSaf_msn (f : SafSt → SafSt) (d : Dev) : (modSaf f d).msn = d.msn := rfl
@[simp] theorem modSaf_slv (f : SafSt → SafSt) (d : Dev) : (modSaf f d).slv = d.slv := rfl
@[simp] theorem modSaf_fus (f : SafSt → SafSt) (d : Dev) : (modSaf f d).fus = d.fus := rfl
@[simp] theorem modSaf_ctl (f : SafSt → SafSt) (d : Dev) : (modSaf f d).ctl = d.ctl := rfl
@[simp] theorem modSaf_alc (f : SafSt → SafSt) (d : Dev) : (modSaf f d).alc = d.alc := rfl
@[simp] theorem modSaf_gns0 (f : SafSt → SafSt) (d : Dev) : (modSaf f d).gns0 = d.gns0 := rfl
@[simp] theorem modSaf_gns1 (f : SafSt → SafSt) (d : Dev) : (modSaf f d).gns1 = d.gns1 := rfl
@[simp] theorem modSaf_gns2 (f : SafSt → SafSt) (d : Dev) : (modSaf f d).gns2 = d.gns2 := rfl
@[simp] theorem modSaf_src (f : SafSt → SafSt) (d : Dev) : (modSaf f d).src = d.src := rfl
@[simp] theorem modSaf_flt (f : SafSt → SafSt) (d : Dev) : (modSaf f d).flt = d.flt := rfl
@[simp] theorem modSaf_sio (f : SafSt → SafSt) (d : Dev) : (modSaf f d).sio = d.sio := rfl
@[simp] theorem modSaf_lop (f : SafSt → SafSt) (d : Dev) : (modSaf f d).lop = d.lop := rfl
@[simp] theorem modSaf_aou (f : SafSt → SafSt) (d : Dev) : (modSaf f d).aou = d.aou := rfl
@[simp] theorem modSaf_pfg (f : SafSt → SafSt) (d : Dev) : (modSaf f d).pfg = d.pfg := rfl
@[simp] theorem modSaf_enc (f : SafSt → SafSt) (d : Dev) : (modSaf f d).enc = d.enc := rfl
@[simp] theorem modSaf_dio (f : SafSt → SafSt) (d : Dev) : (modSaf f d).dio = d.dio := rfl
@[simp] theorem modSaf_can (f : SafSt → SafSt) (d : Dev) : (modSaf f d).can = d.can := rfl
@[simp] theorem modSaf_e2e (f : SafSt → SafSt) (d : Dev) : (modSaf f d).e2e = d.e2e := rfl
@[simp] theorem modSaf_tim (f : SafSt → SafSt) (d : Dev) : (modSaf f d).tim = d.tim := rfl
@[simp] theorem modSaf_eth (f : SafSt → SafSt) (d : Dev) : (modSaf f d).eth = d.eth := rfl
@[simp] theorem modSaf_ndl (f : SafSt → SafSt) (d : Dev) : (modSaf f d).ndl = d.ndl := rfl
@[simp] theorem modSaf_pair (f : SafSt → SafSt) (d : Dev) : (modSaf f d).pair = d.pair := rfl
@[simp] theorem modSaf_evt (f : SafSt → SafSt) (d : Dev) : (modSaf f d).evt = d.evt := rfl
@[simp] theorem modSaf_lif (f : SafSt → SafSt) (d : Dev) : (modSaf f d).lif = d.lif := rfl
@[simp] theorem modSaf_hld (f : SafSt → SafSt) (d : Dev) : (modSaf f d).hld = d.hld := rfl
@[simp] theorem modSaf_grt (f : SafSt → SafSt) (d : Dev) : (modSaf f d).grt = d.grt := rfl
@[simp] theorem modSaf_saf (f : SafSt → SafSt) (d : Dev) : (modSaf f d).saf = f d.saf := rfl

/-! ### modSafIn -/

@[simp] theorem modSafIn_now (i : Nat) (f : SafIn → SafIn) (d : Dev) : (modSafIn i f d).now = d.now := rfl
@[simp] theorem modSafIn_free (i : Nat) (f : SafIn → SafIn) (d : Dev) : (modSafIn i f d).free = d.free := rfl
@[simp] theorem modSafIn_out (i : Nat) (f : SafIn → SafIn) (d : Dev) : (modSafIn i f d).out = d.out := rfl
@[simp] theorem modSafIn_sys (i : Nat) (f : SafIn → SafIn) (d : Dev) : (modSafIn i f d).sys = d.sys := rfl
@[simp] theorem modSafIn_pwr (i : Nat) (f : SafIn → SafIn) (d : Dev) : (modSafIn i f d).pwr = d.pwr := rfl
@[simp] theorem modSafIn_clk (i : Nat) (f : SafIn → SafIn) (d : Dev) : (modSafIn i f d).clk = d.clk := rfl
@[simp] theorem modSafIn_irq (i : Nat) (f : SafIn → SafIn) (d : Dev) : (modSafIn i f d).irq = d.irq := rfl
@[simp] theorem modSafIn_hst (i : Nat) (f : SafIn → SafIn) (d : Dev) : (modSafIn i f d).hst = d.hst := rfl
@[simp] theorem modSafIn_mde (i : Nat) (f : SafIn → SafIn) (d : Dev) : (modSafIn i f d).mde = d.mde := rfl
@[simp] theorem modSafIn_cfg (i : Nat) (f : SafIn → SafIn) (d : Dev) : (modSafIn i f d).cfg = d.cfg := rfl
@[simp] theorem modSafIn_msn (i : Nat) (f : SafIn → SafIn) (d : Dev) : (modSafIn i f d).msn = d.msn := rfl
@[simp] theorem modSafIn_slv (i : Nat) (f : SafIn → SafIn) (d : Dev) : (modSafIn i f d).slv = d.slv := rfl
@[simp] theorem modSafIn_fus (i : Nat) (f : SafIn → SafIn) (d : Dev) : (modSafIn i f d).fus = d.fus := rfl
@[simp] theorem modSafIn_ctl (i : Nat) (f : SafIn → SafIn) (d : Dev) : (modSafIn i f d).ctl = d.ctl := rfl
@[simp] theorem modSafIn_alc (i : Nat) (f : SafIn → SafIn) (d : Dev) : (modSafIn i f d).alc = d.alc := rfl
@[simp] theorem modSafIn_gns0 (i : Nat) (f : SafIn → SafIn) (d : Dev) : (modSafIn i f d).gns0 = d.gns0 := rfl
@[simp] theorem modSafIn_gns1 (i : Nat) (f : SafIn → SafIn) (d : Dev) : (modSafIn i f d).gns1 = d.gns1 := rfl
@[simp] theorem modSafIn_gns2 (i : Nat) (f : SafIn → SafIn) (d : Dev) : (modSafIn i f d).gns2 = d.gns2 := rfl
@[simp] theorem modSafIn_src (i : Nat) (f : SafIn → SafIn) (d : Dev) : (modSafIn i f d).src = d.src := rfl
@[simp] theorem modSafIn_flt (i : Nat) (f : SafIn → SafIn) (d : Dev) : (modSafIn i f d).flt = d.flt := rfl
@[simp] theorem modSafIn_sio (i : Nat) (f : SafIn → SafIn) (d : Dev) : (modSafIn i f d).sio = d.sio := rfl
@[simp] theorem modSafIn_lop (i : Nat) (f : SafIn → SafIn) (d : Dev) : (modSafIn i f d).lop = d.lop := rfl
@[simp] theorem modSafIn_aou (i : Nat) (f : SafIn → SafIn) (d : Dev) : (modSafIn i f d).aou = d.aou := rfl
@[simp] theorem modSafIn_pfg (i : Nat) (f : SafIn → SafIn) (d : Dev) : (modSafIn i f d).pfg = d.pfg := rfl
@[simp] theorem modSafIn_enc (i : Nat) (f : SafIn → SafIn) (d : Dev) : (modSafIn i f d).enc = d.enc := rfl
@[simp] theorem modSafIn_dio (i : Nat) (f : SafIn → SafIn) (d : Dev) : (modSafIn i f d).dio = d.dio := rfl
@[simp] theorem modSafIn_can (i : Nat) (f : SafIn → SafIn) (d : Dev) : (modSafIn i f d).can = d.can := rfl
@[simp] theorem modSafIn_e2e (i : Nat) (f : SafIn → SafIn) (d : Dev) : (modSafIn i f d).e2e = d.e2e := rfl
@[simp] theorem modSafIn_tim (i : Nat) (f : SafIn → SafIn) (d : Dev) : (modSafIn i f d).tim = d.tim := rfl
@[simp] theorem modSafIn_eth (i : Nat) (f : SafIn → SafIn) (d : Dev) : (modSafIn i f d).eth = d.eth := rfl
@[simp] theorem modSafIn_ndl (i : Nat) (f : SafIn → SafIn) (d : Dev) : (modSafIn i f d).ndl = d.ndl := rfl
@[simp] theorem modSafIn_pair (i : Nat) (f : SafIn → SafIn) (d : Dev) : (modSafIn i f d).pair = d.pair := rfl
@[simp] theorem modSafIn_evt (i : Nat) (f : SafIn → SafIn) (d : Dev) : (modSafIn i f d).evt = d.evt := rfl
@[simp] theorem modSafIn_lif (i : Nat) (f : SafIn → SafIn) (d : Dev) : (modSafIn i f d).lif = d.lif := rfl
@[simp] theorem modSafIn_hld (i : Nat) (f : SafIn → SafIn) (d : Dev) : (modSafIn i f d).hld = d.hld := rfl
@[simp] theorem modSafIn_grt (i : Nat) (f : SafIn → SafIn) (d : Dev) : (modSafIn i f d).grt = d.grt := rfl
@[simp] theorem modSafIn_saf (i : Nat) (f : SafIn → SafIn) (d : Dev) : (modSafIn i f d).saf = { d.saf with ins := modAt d.saf.ins i f } := rfl

/-! ### modSafOut -/

@[simp] theorem modSafOut_now (o : Nat) (f : SafOut → SafOut) (d : Dev) : (modSafOut o f d).now = d.now := rfl
@[simp] theorem modSafOut_free (o : Nat) (f : SafOut → SafOut) (d : Dev) : (modSafOut o f d).free = d.free := rfl
@[simp] theorem modSafOut_out (o : Nat) (f : SafOut → SafOut) (d : Dev) : (modSafOut o f d).out = d.out := rfl
@[simp] theorem modSafOut_sys (o : Nat) (f : SafOut → SafOut) (d : Dev) : (modSafOut o f d).sys = d.sys := rfl
@[simp] theorem modSafOut_pwr (o : Nat) (f : SafOut → SafOut) (d : Dev) : (modSafOut o f d).pwr = d.pwr := rfl
@[simp] theorem modSafOut_clk (o : Nat) (f : SafOut → SafOut) (d : Dev) : (modSafOut o f d).clk = d.clk := rfl
@[simp] theorem modSafOut_irq (o : Nat) (f : SafOut → SafOut) (d : Dev) : (modSafOut o f d).irq = d.irq := rfl
@[simp] theorem modSafOut_hst (o : Nat) (f : SafOut → SafOut) (d : Dev) : (modSafOut o f d).hst = d.hst := rfl
@[simp] theorem modSafOut_mde (o : Nat) (f : SafOut → SafOut) (d : Dev) : (modSafOut o f d).mde = d.mde := rfl
@[simp] theorem modSafOut_cfg (o : Nat) (f : SafOut → SafOut) (d : Dev) : (modSafOut o f d).cfg = d.cfg := rfl
@[simp] theorem modSafOut_msn (o : Nat) (f : SafOut → SafOut) (d : Dev) : (modSafOut o f d).msn = d.msn := rfl
@[simp] theorem modSafOut_slv (o : Nat) (f : SafOut → SafOut) (d : Dev) : (modSafOut o f d).slv = d.slv := rfl
@[simp] theorem modSafOut_fus (o : Nat) (f : SafOut → SafOut) (d : Dev) : (modSafOut o f d).fus = d.fus := rfl
@[simp] theorem modSafOut_ctl (o : Nat) (f : SafOut → SafOut) (d : Dev) : (modSafOut o f d).ctl = d.ctl := rfl
@[simp] theorem modSafOut_alc (o : Nat) (f : SafOut → SafOut) (d : Dev) : (modSafOut o f d).alc = d.alc := rfl
@[simp] theorem modSafOut_gns0 (o : Nat) (f : SafOut → SafOut) (d : Dev) : (modSafOut o f d).gns0 = d.gns0 := rfl
@[simp] theorem modSafOut_gns1 (o : Nat) (f : SafOut → SafOut) (d : Dev) : (modSafOut o f d).gns1 = d.gns1 := rfl
@[simp] theorem modSafOut_gns2 (o : Nat) (f : SafOut → SafOut) (d : Dev) : (modSafOut o f d).gns2 = d.gns2 := rfl
@[simp] theorem modSafOut_src (o : Nat) (f : SafOut → SafOut) (d : Dev) : (modSafOut o f d).src = d.src := rfl
@[simp] theorem modSafOut_flt (o : Nat) (f : SafOut → SafOut) (d : Dev) : (modSafOut o f d).flt = d.flt := rfl
@[simp] theorem modSafOut_sio (o : Nat) (f : SafOut → SafOut) (d : Dev) : (modSafOut o f d).sio = d.sio := rfl
@[simp] theorem modSafOut_lop (o : Nat) (f : SafOut → SafOut) (d : Dev) : (modSafOut o f d).lop = d.lop := rfl
@[simp] theorem modSafOut_aou (o : Nat) (f : SafOut → SafOut) (d : Dev) : (modSafOut o f d).aou = d.aou := rfl
@[simp] theorem modSafOut_pfg (o : Nat) (f : SafOut → SafOut) (d : Dev) : (modSafOut o f d).pfg = d.pfg := rfl
@[simp] theorem modSafOut_enc (o : Nat) (f : SafOut → SafOut) (d : Dev) : (modSafOut o f d).enc = d.enc := rfl
@[simp] theorem modSafOut_dio (o : Nat) (f : SafOut → SafOut) (d : Dev) : (modSafOut o f d).dio = d.dio := rfl
@[simp] theorem modSafOut_can (o : Nat) (f : SafOut → SafOut) (d : Dev) : (modSafOut o f d).can = d.can := rfl
@[simp] theorem modSafOut_e2e (o : Nat) (f : SafOut → SafOut) (d : Dev) : (modSafOut o f d).e2e = d.e2e := rfl
@[simp] theorem modSafOut_tim (o : Nat) (f : SafOut → SafOut) (d : Dev) : (modSafOut o f d).tim = d.tim := rfl
@[simp] theorem modSafOut_eth (o : Nat) (f : SafOut → SafOut) (d : Dev) : (modSafOut o f d).eth = d.eth := rfl
@[simp] theorem modSafOut_ndl (o : Nat) (f : SafOut → SafOut) (d : Dev) : (modSafOut o f d).ndl = d.ndl := rfl
@[simp] theorem modSafOut_pair (o : Nat) (f : SafOut → SafOut) (d : Dev) : (modSafOut o f d).pair = d.pair := rfl
@[simp] theorem modSafOut_evt (o : Nat) (f : SafOut → SafOut) (d : Dev) : (modSafOut o f d).evt = d.evt := rfl
@[simp] theorem modSafOut_lif (o : Nat) (f : SafOut → SafOut) (d : Dev) : (modSafOut o f d).lif = d.lif := rfl
@[simp] theorem modSafOut_hld (o : Nat) (f : SafOut → SafOut) (d : Dev) : (modSafOut o f d).hld = d.hld := rfl
@[simp] theorem modSafOut_grt (o : Nat) (f : SafOut → SafOut) (d : Dev) : (modSafOut o f d).grt = d.grt := rfl
@[simp] theorem modSafOut_saf (o : Nat) (f : SafOut → SafOut) (d : Dev) : (modSafOut o f d).saf = { d.saf with outs := modAt d.saf.outs o f } := rfl

/-! ### modMde -/

@[simp] theorem modMde_now (f : MdeSt → MdeSt) (d : Dev) : (modMde f d).now = d.now := rfl
@[simp] theorem modMde_free (f : MdeSt → MdeSt) (d : Dev) : (modMde f d).free = d.free := rfl
@[simp] theorem modMde_out (f : MdeSt → MdeSt) (d : Dev) : (modMde f d).out = d.out := rfl
@[simp] theorem modMde_sys (f : MdeSt → MdeSt) (d : Dev) : (modMde f d).sys = d.sys := rfl
@[simp] theorem modMde_pwr (f : MdeSt → MdeSt) (d : Dev) : (modMde f d).pwr = d.pwr := rfl
@[simp] theorem modMde_clk (f : MdeSt → MdeSt) (d : Dev) : (modMde f d).clk = d.clk := rfl
@[simp] theorem modMde_irq (f : MdeSt → MdeSt) (d : Dev) : (modMde f d).irq = d.irq := rfl
@[simp] theorem modMde_hst (f : MdeSt → MdeSt) (d : Dev) : (modMde f d).hst = d.hst := rfl
@[simp] theorem modMde_cfg (f : MdeSt → MdeSt) (d : Dev) : (modMde f d).cfg = d.cfg := rfl
@[simp] theorem modMde_msn (f : MdeSt → MdeSt) (d : Dev) : (modMde f d).msn = d.msn := rfl
@[simp] theorem modMde_slv (f : MdeSt → MdeSt) (d : Dev) : (modMde f d).slv = d.slv := rfl
@[simp] theorem modMde_fus (f : MdeSt → MdeSt) (d : Dev) : (modMde f d).fus = d.fus := rfl
@[simp] theorem modMde_ctl (f : MdeSt → MdeSt) (d : Dev) : (modMde f d).ctl = d.ctl := rfl
@[simp] theorem modMde_alc (f : MdeSt → MdeSt) (d : Dev) : (modMde f d).alc = d.alc := rfl
@[simp] theorem modMde_gns0 (f : MdeSt → MdeSt) (d : Dev) : (modMde f d).gns0 = d.gns0 := rfl
@[simp] theorem modMde_gns1 (f : MdeSt → MdeSt) (d : Dev) : (modMde f d).gns1 = d.gns1 := rfl
@[simp] theorem modMde_gns2 (f : MdeSt → MdeSt) (d : Dev) : (modMde f d).gns2 = d.gns2 := rfl
@[simp] theorem modMde_src (f : MdeSt → MdeSt) (d : Dev) : (modMde f d).src = d.src := rfl
@[simp] theorem modMde_flt (f : MdeSt → MdeSt) (d : Dev) : (modMde f d).flt = d.flt := rfl
@[simp] theorem modMde_sio (f : MdeSt → MdeSt) (d : Dev) : (modMde f d).sio = d.sio := rfl
@[simp] theorem modMde_lop (f : MdeSt → MdeSt) (d : Dev) : (modMde f d).lop = d.lop := rfl
@[simp] theorem modMde_aou (f : MdeSt → MdeSt) (d : Dev) : (modMde f d).aou = d.aou := rfl
@[simp] theorem modMde_pfg (f : MdeSt → MdeSt) (d : Dev) : (modMde f d).pfg = d.pfg := rfl
@[simp] theorem modMde_enc (f : MdeSt → MdeSt) (d : Dev) : (modMde f d).enc = d.enc := rfl
@[simp] theorem modMde_dio (f : MdeSt → MdeSt) (d : Dev) : (modMde f d).dio = d.dio := rfl
@[simp] theorem modMde_can (f : MdeSt → MdeSt) (d : Dev) : (modMde f d).can = d.can := rfl
@[simp] theorem modMde_e2e (f : MdeSt → MdeSt) (d : Dev) : (modMde f d).e2e = d.e2e := rfl
@[simp] theorem modMde_tim (f : MdeSt → MdeSt) (d : Dev) : (modMde f d).tim = d.tim := rfl
@[simp] theorem modMde_eth (f : MdeSt → MdeSt) (d : Dev) : (modMde f d).eth = d.eth := rfl
@[simp] theorem modMde_ndl (f : MdeSt → MdeSt) (d : Dev) : (modMde f d).ndl = d.ndl := rfl
@[simp] theorem modMde_pair (f : MdeSt → MdeSt) (d : Dev) : (modMde f d).pair = d.pair := rfl
@[simp] theorem modMde_saf (f : MdeSt → MdeSt) (d : Dev) : (modMde f d).saf = d.saf := rfl
@[simp] theorem modMde_evt (f : MdeSt → MdeSt) (d : Dev) : (modMde f d).evt = d.evt := rfl
@[simp] theorem modMde_lif (f : MdeSt → MdeSt) (d : Dev) : (modMde f d).lif = d.lif := rfl
@[simp] theorem modMde_hld (f : MdeSt → MdeSt) (d : Dev) : (modMde f d).hld = d.hld := rfl
@[simp] theorem modMde_grt (f : MdeSt → MdeSt) (d : Dev) : (modMde f d).grt = d.grt := rfl
@[simp] theorem modMde_mde (f : MdeSt → MdeSt) (d : Dev) : (modMde f d).mde = f d.mde := rfl

/-! ### modProf -/

@[simp] theorem modProf_now (f : Profile → Profile) (d : Dev) : (modProf f d).now = d.now := rfl
@[simp] theorem modProf_free (f : Profile → Profile) (d : Dev) : (modProf f d).free = d.free := rfl
@[simp] theorem modProf_out (f : Profile → Profile) (d : Dev) : (modProf f d).out = d.out := rfl
@[simp] theorem modProf_sys (f : Profile → Profile) (d : Dev) : (modProf f d).sys = d.sys := rfl
@[simp] theorem modProf_pwr (f : Profile → Profile) (d : Dev) : (modProf f d).pwr = d.pwr := rfl
@[simp] theorem modProf_clk (f : Profile → Profile) (d : Dev) : (modProf f d).clk = d.clk := rfl
@[simp] theorem modProf_irq (f : Profile → Profile) (d : Dev) : (modProf f d).irq = d.irq := rfl
@[simp] theorem modProf_hst (f : Profile → Profile) (d : Dev) : (modProf f d).hst = d.hst := rfl
@[simp] theorem modProf_cfg (f : Profile → Profile) (d : Dev) : (modProf f d).cfg = d.cfg := rfl
@[simp] theorem modProf_msn (f : Profile → Profile) (d : Dev) : (modProf f d).msn = d.msn := rfl
@[simp] theorem modProf_slv (f : Profile → Profile) (d : Dev) : (modProf f d).slv = d.slv := rfl
@[simp] theorem modProf_fus (f : Profile → Profile) (d : Dev) : (modProf f d).fus = d.fus := rfl
@[simp] theorem modProf_ctl (f : Profile → Profile) (d : Dev) : (modProf f d).ctl = d.ctl := rfl
@[simp] theorem modProf_alc (f : Profile → Profile) (d : Dev) : (modProf f d).alc = d.alc := rfl
@[simp] theorem modProf_gns0 (f : Profile → Profile) (d : Dev) : (modProf f d).gns0 = d.gns0 := rfl
@[simp] theorem modProf_gns1 (f : Profile → Profile) (d : Dev) : (modProf f d).gns1 = d.gns1 := rfl
@[simp] theorem modProf_gns2 (f : Profile → Profile) (d : Dev) : (modProf f d).gns2 = d.gns2 := rfl
@[simp] theorem modProf_src (f : Profile → Profile) (d : Dev) : (modProf f d).src = d.src := rfl
@[simp] theorem modProf_flt (f : Profile → Profile) (d : Dev) : (modProf f d).flt = d.flt := rfl
@[simp] theorem modProf_sio (f : Profile → Profile) (d : Dev) : (modProf f d).sio = d.sio := rfl
@[simp] theorem modProf_lop (f : Profile → Profile) (d : Dev) : (modProf f d).lop = d.lop := rfl
@[simp] theorem modProf_aou (f : Profile → Profile) (d : Dev) : (modProf f d).aou = d.aou := rfl
@[simp] theorem modProf_pfg (f : Profile → Profile) (d : Dev) : (modProf f d).pfg = d.pfg := rfl
@[simp] theorem modProf_enc (f : Profile → Profile) (d : Dev) : (modProf f d).enc = d.enc := rfl
@[simp] theorem modProf_dio (f : Profile → Profile) (d : Dev) : (modProf f d).dio = d.dio := rfl
@[simp] theorem modProf_can (f : Profile → Profile) (d : Dev) : (modProf f d).can = d.can := rfl
@[simp] theorem modProf_e2e (f : Profile → Profile) (d : Dev) : (modProf f d).e2e = d.e2e := rfl
@[simp] theorem modProf_tim (f : Profile → Profile) (d : Dev) : (modProf f d).tim = d.tim := rfl
@[simp] theorem modProf_eth (f : Profile → Profile) (d : Dev) : (modProf f d).eth = d.eth := rfl
@[simp] theorem modProf_ndl (f : Profile → Profile) (d : Dev) : (modProf f d).ndl = d.ndl := rfl
@[simp] theorem modProf_pair (f : Profile → Profile) (d : Dev) : (modProf f d).pair = d.pair := rfl
@[simp] theorem modProf_saf (f : Profile → Profile) (d : Dev) : (modProf f d).saf = d.saf := rfl
@[simp] theorem modProf_evt (f : Profile → Profile) (d : Dev) : (modProf f d).evt = d.evt := rfl
@[simp] theorem modProf_lif (f : Profile → Profile) (d : Dev) : (modProf f d).lif = d.lif := rfl
@[simp] theorem modProf_hld (f : Profile → Profile) (d : Dev) : (modProf f d).hld = d.hld := rfl
@[simp] theorem modProf_grt (f : Profile → Profile) (d : Dev) : (modProf f d).grt = d.grt := rfl
@[simp] theorem modProf_mde (f : Profile → Profile) (d : Dev) : (modProf f d).mde = { d.mde with prof := f d.mde.prof } := rfl

/-! ### modCyc -/

@[simp] theorem modCyc_now (f : CycleSt → CycleSt) (d : Dev) : (modCyc f d).now = d.now := rfl
@[simp] theorem modCyc_free (f : CycleSt → CycleSt) (d : Dev) : (modCyc f d).free = d.free := rfl
@[simp] theorem modCyc_out (f : CycleSt → CycleSt) (d : Dev) : (modCyc f d).out = d.out := rfl
@[simp] theorem modCyc_sys (f : CycleSt → CycleSt) (d : Dev) : (modCyc f d).sys = d.sys := rfl
@[simp] theorem modCyc_pwr (f : CycleSt → CycleSt) (d : Dev) : (modCyc f d).pwr = d.pwr := rfl
@[simp] theorem modCyc_clk (f : CycleSt → CycleSt) (d : Dev) : (modCyc f d).clk = d.clk := rfl
@[simp] theorem modCyc_irq (f : CycleSt → CycleSt) (d : Dev) : (modCyc f d).irq = d.irq := rfl
@[simp] theorem modCyc_hst (f : CycleSt → CycleSt) (d : Dev) : (modCyc f d).hst = d.hst := rfl
@[simp] theorem modCyc_cfg (f : CycleSt → CycleSt) (d : Dev) : (modCyc f d).cfg = d.cfg := rfl
@[simp] theorem modCyc_msn (f : CycleSt → CycleSt) (d : Dev) : (modCyc f d).msn = d.msn := rfl
@[simp] theorem modCyc_slv (f : CycleSt → CycleSt) (d : Dev) : (modCyc f d).slv = d.slv := rfl
@[simp] theorem modCyc_fus (f : CycleSt → CycleSt) (d : Dev) : (modCyc f d).fus = d.fus := rfl
@[simp] theorem modCyc_ctl (f : CycleSt → CycleSt) (d : Dev) : (modCyc f d).ctl = d.ctl := rfl
@[simp] theorem modCyc_alc (f : CycleSt → CycleSt) (d : Dev) : (modCyc f d).alc = d.alc := rfl
@[simp] theorem modCyc_gns0 (f : CycleSt → CycleSt) (d : Dev) : (modCyc f d).gns0 = d.gns0 := rfl
@[simp] theorem modCyc_gns1 (f : CycleSt → CycleSt) (d : Dev) : (modCyc f d).gns1 = d.gns1 := rfl
@[simp] theorem modCyc_gns2 (f : CycleSt → CycleSt) (d : Dev) : (modCyc f d).gns2 = d.gns2 := rfl
@[simp] theorem modCyc_src (f : CycleSt → CycleSt) (d : Dev) : (modCyc f d).src = d.src := rfl
@[simp] theorem modCyc_flt (f : CycleSt → CycleSt) (d : Dev) : (modCyc f d).flt = d.flt := rfl
@[simp] theorem modCyc_sio (f : CycleSt → CycleSt) (d : Dev) : (modCyc f d).sio = d.sio := rfl
@[simp] theorem modCyc_lop (f : CycleSt → CycleSt) (d : Dev) : (modCyc f d).lop = d.lop := rfl
@[simp] theorem modCyc_aou (f : CycleSt → CycleSt) (d : Dev) : (modCyc f d).aou = d.aou := rfl
@[simp] theorem modCyc_pfg (f : CycleSt → CycleSt) (d : Dev) : (modCyc f d).pfg = d.pfg := rfl
@[simp] theorem modCyc_enc (f : CycleSt → CycleSt) (d : Dev) : (modCyc f d).enc = d.enc := rfl
@[simp] theorem modCyc_dio (f : CycleSt → CycleSt) (d : Dev) : (modCyc f d).dio = d.dio := rfl
@[simp] theorem modCyc_can (f : CycleSt → CycleSt) (d : Dev) : (modCyc f d).can = d.can := rfl
@[simp] theorem modCyc_e2e (f : CycleSt → CycleSt) (d : Dev) : (modCyc f d).e2e = d.e2e := rfl
@[simp] theorem modCyc_tim (f : CycleSt → CycleSt) (d : Dev) : (modCyc f d).tim = d.tim := rfl
@[simp] theorem modCyc_eth (f : CycleSt → CycleSt) (d : Dev) : (modCyc f d).eth = d.eth := rfl
@[simp] theorem modCyc_ndl (f : CycleSt → CycleSt) (d : Dev) : (modCyc f d).ndl = d.ndl := rfl
@[simp] theorem modCyc_pair (f : CycleSt → CycleSt) (d : Dev) : (modCyc f d).pair = d.pair := rfl
@[simp] theorem modCyc_saf (f : CycleSt → CycleSt) (d : Dev) : (modCyc f d).saf = d.saf := rfl
@[simp] theorem modCyc_evt (f : CycleSt → CycleSt) (d : Dev) : (modCyc f d).evt = d.evt := rfl
@[simp] theorem modCyc_lif (f : CycleSt → CycleSt) (d : Dev) : (modCyc f d).lif = d.lif := rfl
@[simp] theorem modCyc_hld (f : CycleSt → CycleSt) (d : Dev) : (modCyc f d).hld = d.hld := rfl
@[simp] theorem modCyc_grt (f : CycleSt → CycleSt) (d : Dev) : (modCyc f d).grt = d.grt := rfl
@[simp] theorem modCyc_mde (f : CycleSt → CycleSt) (d : Dev) : (modCyc f d).mde = { d.mde with cyc := f d.mde.cyc } := rfl

/-! ### modLop -/

@[simp] theorem modLop_now (i : Nat) (f : LoopCh → LoopCh) (d : Dev) : (modLop i f d).now = d.now := rfl
@[simp] theorem modLop_free (i : Nat) (f : LoopCh → LoopCh) (d : Dev) : (modLop i f d).free = d.free := rfl
@[simp] theorem modLop_out (i : Nat) (f : LoopCh → LoopCh) (d : Dev) : (modLop i f d).out = d.out := rfl
@[simp] theorem modLop_sys (i : Nat) (f : LoopCh → LoopCh) (d : Dev) : (modLop i f d).sys = d.sys := rfl
@[simp] theorem modLop_pwr (i : Nat) (f : LoopCh → LoopCh) (d : Dev) : (modLop i f d).pwr = d.pwr := rfl
@[simp] theorem modLop_clk (i : Nat) (f : LoopCh → LoopCh) (d : Dev) : (modLop i f d).clk = d.clk := rfl
@[simp] theorem modLop_irq (i : Nat) (f : LoopCh → LoopCh) (d : Dev) : (modLop i f d).irq = d.irq := rfl
@[simp] theorem modLop_hst (i : Nat) (f : LoopCh → LoopCh) (d : Dev) : (modLop i f d).hst = d.hst := rfl
@[simp] theorem modLop_mde (i : Nat) (f : LoopCh → LoopCh) (d : Dev) : (modLop i f d).mde = d.mde := rfl
@[simp] theorem modLop_cfg (i : Nat) (f : LoopCh → LoopCh) (d : Dev) : (modLop i f d).cfg = d.cfg := rfl
@[simp] theorem modLop_msn (i : Nat) (f : LoopCh → LoopCh) (d : Dev) : (modLop i f d).msn = d.msn := rfl
@[simp] theorem modLop_slv (i : Nat) (f : LoopCh → LoopCh) (d : Dev) : (modLop i f d).slv = d.slv := rfl
@[simp] theorem modLop_fus (i : Nat) (f : LoopCh → LoopCh) (d : Dev) : (modLop i f d).fus = d.fus := rfl
@[simp] theorem modLop_ctl (i : Nat) (f : LoopCh → LoopCh) (d : Dev) : (modLop i f d).ctl = d.ctl := rfl
@[simp] theorem modLop_alc (i : Nat) (f : LoopCh → LoopCh) (d : Dev) : (modLop i f d).alc = d.alc := rfl
@[simp] theorem modLop_gns0 (i : Nat) (f : LoopCh → LoopCh) (d : Dev) : (modLop i f d).gns0 = d.gns0 := rfl
@[simp] theorem modLop_gns1 (i : Nat) (f : LoopCh → LoopCh) (d : Dev) : (modLop i f d).gns1 = d.gns1 := rfl
@[simp] theorem modLop_gns2 (i : Nat) (f : LoopCh → LoopCh) (d : Dev) : (modLop i f d).gns2 = d.gns2 := rfl
@[simp] theorem modLop_src (i : Nat) (f : LoopCh → LoopCh) (d : Dev) : (modLop i f d).src = d.src := rfl
@[simp] theorem modLop_flt (i : Nat) (f : LoopCh → LoopCh) (d : Dev) : (modLop i f d).flt = d.flt := rfl
@[simp] theorem modLop_sio (i : Nat) (f : LoopCh → LoopCh) (d : Dev) : (modLop i f d).sio = d.sio := rfl
@[simp] theorem modLop_aou (i : Nat) (f : LoopCh → LoopCh) (d : Dev) : (modLop i f d).aou = d.aou := rfl
@[simp] theorem modLop_pfg (i : Nat) (f : LoopCh → LoopCh) (d : Dev) : (modLop i f d).pfg = d.pfg := rfl
@[simp] theorem modLop_enc (i : Nat) (f : LoopCh → LoopCh) (d : Dev) : (modLop i f d).enc = d.enc := rfl
@[simp] theorem modLop_dio (i : Nat) (f : LoopCh → LoopCh) (d : Dev) : (modLop i f d).dio = d.dio := rfl
@[simp] theorem modLop_can (i : Nat) (f : LoopCh → LoopCh) (d : Dev) : (modLop i f d).can = d.can := rfl
@[simp] theorem modLop_e2e (i : Nat) (f : LoopCh → LoopCh) (d : Dev) : (modLop i f d).e2e = d.e2e := rfl
@[simp] theorem modLop_tim (i : Nat) (f : LoopCh → LoopCh) (d : Dev) : (modLop i f d).tim = d.tim := rfl
@[simp] theorem modLop_eth (i : Nat) (f : LoopCh → LoopCh) (d : Dev) : (modLop i f d).eth = d.eth := rfl
@[simp] theorem modLop_ndl (i : Nat) (f : LoopCh → LoopCh) (d : Dev) : (modLop i f d).ndl = d.ndl := rfl
@[simp] theorem modLop_pair (i : Nat) (f : LoopCh → LoopCh) (d : Dev) : (modLop i f d).pair = d.pair := rfl
@[simp] theorem modLop_saf (i : Nat) (f : LoopCh → LoopCh) (d : Dev) : (modLop i f d).saf = d.saf := rfl
@[simp] theorem modLop_evt (i : Nat) (f : LoopCh → LoopCh) (d : Dev) : (modLop i f d).evt = d.evt := rfl
@[simp] theorem modLop_lif (i : Nat) (f : LoopCh → LoopCh) (d : Dev) : (modLop i f d).lif = d.lif := rfl
@[simp] theorem modLop_hld (i : Nat) (f : LoopCh → LoopCh) (d : Dev) : (modLop i f d).hld = d.hld := rfl
@[simp] theorem modLop_grt (i : Nat) (f : LoopCh → LoopCh) (d : Dev) : (modLop i f d).grt = d.grt := rfl
@[simp] theorem modLop_lop (i : Nat) (f : LoopCh → LoopCh) (d : Dev) : (modLop i f d).lop = { d.lop with ch := modAt d.lop.ch i f } := rfl

/-! ### modAou -/

@[simp] theorem modAou_now (i : Nat) (f : AnOut → AnOut) (d : Dev) : (modAou i f d).now = d.now := rfl
@[simp] theorem modAou_free (i : Nat) (f : AnOut → AnOut) (d : Dev) : (modAou i f d).free = d.free := rfl
@[simp] theorem modAou_out (i : Nat) (f : AnOut → AnOut) (d : Dev) : (modAou i f d).out = d.out := rfl
@[simp] theorem modAou_sys (i : Nat) (f : AnOut → AnOut) (d : Dev) : (modAou i f d).sys = d.sys := rfl
@[simp] theorem modAou_pwr (i : Nat) (f : AnOut → AnOut) (d : Dev) : (modAou i f d).pwr = d.pwr := rfl
@[simp] theorem modAou_clk (i : Nat) (f : AnOut → AnOut) (d : Dev) : (modAou i f d).clk = d.clk := rfl
@[simp] theorem modAou_irq (i : Nat) (f : AnOut → AnOut) (d : Dev) : (modAou i f d).irq = d.irq := rfl
@[simp] theorem modAou_hst (i : Nat) (f : AnOut → AnOut) (d : Dev) : (modAou i f d).hst = d.hst := rfl
@[simp] theorem modAou_mde (i : Nat) (f : AnOut → AnOut) (d : Dev) : (modAou i f d).mde = d.mde := rfl
@[simp] theorem modAou_cfg (i : Nat) (f : AnOut → AnOut) (d : Dev) : (modAou i f d).cfg = d.cfg := rfl
@[simp] theorem modAou_msn (i : Nat) (f : AnOut → AnOut) (d : Dev) : (modAou i f d).msn = d.msn := rfl
@[simp] theorem modAou_slv (i : Nat) (f : AnOut → AnOut) (d : Dev) : (modAou i f d).slv = d.slv := rfl
@[simp] theorem modAou_fus (i : Nat) (f : AnOut → AnOut) (d : Dev) : (modAou i f d).fus = d.fus := rfl
@[simp] theorem modAou_ctl (i : Nat) (f : AnOut → AnOut) (d : Dev) : (modAou i f d).ctl = d.ctl := rfl
@[simp] theorem modAou_alc (i : Nat) (f : AnOut → AnOut) (d : Dev) : (modAou i f d).alc = d.alc := rfl
@[simp] theorem modAou_gns0 (i : Nat) (f : AnOut → AnOut) (d : Dev) : (modAou i f d).gns0 = d.gns0 := rfl
@[simp] theorem modAou_gns1 (i : Nat) (f : AnOut → AnOut) (d : Dev) : (modAou i f d).gns1 = d.gns1 := rfl
@[simp] theorem modAou_gns2 (i : Nat) (f : AnOut → AnOut) (d : Dev) : (modAou i f d).gns2 = d.gns2 := rfl
@[simp] theorem modAou_src (i : Nat) (f : AnOut → AnOut) (d : Dev) : (modAou i f d).src = d.src := rfl
@[simp] theorem modAou_flt (i : Nat) (f : AnOut → AnOut) (d : Dev) : (modAou i f d).flt = d.flt := rfl
@[simp] theorem modAou_sio (i : Nat) (f : AnOut → AnOut) (d : Dev) : (modAou i f d).sio = d.sio := rfl
@[simp] theorem modAou_lop (i : Nat) (f : AnOut → AnOut) (d : Dev) : (modAou i f d).lop = d.lop := rfl
@[simp] theorem modAou_pfg (i : Nat) (f : AnOut → AnOut) (d : Dev) : (modAou i f d).pfg = d.pfg := rfl
@[simp] theorem modAou_enc (i : Nat) (f : AnOut → AnOut) (d : Dev) : (modAou i f d).enc = d.enc := rfl
@[simp] theorem modAou_dio (i : Nat) (f : AnOut → AnOut) (d : Dev) : (modAou i f d).dio = d.dio := rfl
@[simp] theorem modAou_can (i : Nat) (f : AnOut → AnOut) (d : Dev) : (modAou i f d).can = d.can := rfl
@[simp] theorem modAou_e2e (i : Nat) (f : AnOut → AnOut) (d : Dev) : (modAou i f d).e2e = d.e2e := rfl
@[simp] theorem modAou_tim (i : Nat) (f : AnOut → AnOut) (d : Dev) : (modAou i f d).tim = d.tim := rfl
@[simp] theorem modAou_eth (i : Nat) (f : AnOut → AnOut) (d : Dev) : (modAou i f d).eth = d.eth := rfl
@[simp] theorem modAou_ndl (i : Nat) (f : AnOut → AnOut) (d : Dev) : (modAou i f d).ndl = d.ndl := rfl
@[simp] theorem modAou_pair (i : Nat) (f : AnOut → AnOut) (d : Dev) : (modAou i f d).pair = d.pair := rfl
@[simp] theorem modAou_saf (i : Nat) (f : AnOut → AnOut) (d : Dev) : (modAou i f d).saf = d.saf := rfl
@[simp] theorem modAou_evt (i : Nat) (f : AnOut → AnOut) (d : Dev) : (modAou i f d).evt = d.evt := rfl
@[simp] theorem modAou_lif (i : Nat) (f : AnOut → AnOut) (d : Dev) : (modAou i f d).lif = d.lif := rfl
@[simp] theorem modAou_hld (i : Nat) (f : AnOut → AnOut) (d : Dev) : (modAou i f d).hld = d.hld := rfl
@[simp] theorem modAou_grt (i : Nat) (f : AnOut → AnOut) (d : Dev) : (modAou i f d).grt = d.grt := rfl
@[simp] theorem modAou_aou (i : Nat) (f : AnOut → AnOut) (d : Dev) : (modAou i f d).aou = { d.aou with outs := modAt d.aou.outs i f } := rfl

/-! ### modAxis -/

@[simp] theorem modAxis_now (i : Nat) (f : StepAxis → StepAxis) (d : Dev) : (modAxis i f d).now = d.now := rfl
@[simp] theorem modAxis_free (i : Nat) (f : StepAxis → StepAxis) (d : Dev) : (modAxis i f d).free = d.free := rfl
@[simp] theorem modAxis_out (i : Nat) (f : StepAxis → StepAxis) (d : Dev) : (modAxis i f d).out = d.out := rfl
@[simp] theorem modAxis_sys (i : Nat) (f : StepAxis → StepAxis) (d : Dev) : (modAxis i f d).sys = d.sys := rfl
@[simp] theorem modAxis_pwr (i : Nat) (f : StepAxis → StepAxis) (d : Dev) : (modAxis i f d).pwr = d.pwr := rfl
@[simp] theorem modAxis_clk (i : Nat) (f : StepAxis → StepAxis) (d : Dev) : (modAxis i f d).clk = d.clk := rfl
@[simp] theorem modAxis_irq (i : Nat) (f : StepAxis → StepAxis) (d : Dev) : (modAxis i f d).irq = d.irq := rfl
@[simp] theorem modAxis_hst (i : Nat) (f : StepAxis → StepAxis) (d : Dev) : (modAxis i f d).hst = d.hst := rfl
@[simp] theorem modAxis_mde (i : Nat) (f : StepAxis → StepAxis) (d : Dev) : (modAxis i f d).mde = d.mde := rfl
@[simp] theorem modAxis_cfg (i : Nat) (f : StepAxis → StepAxis) (d : Dev) : (modAxis i f d).cfg = d.cfg := rfl
@[simp] theorem modAxis_msn (i : Nat) (f : StepAxis → StepAxis) (d : Dev) : (modAxis i f d).msn = d.msn := rfl
@[simp] theorem modAxis_slv (i : Nat) (f : StepAxis → StepAxis) (d : Dev) : (modAxis i f d).slv = d.slv := rfl
@[simp] theorem modAxis_fus (i : Nat) (f : StepAxis → StepAxis) (d : Dev) : (modAxis i f d).fus = d.fus := rfl
@[simp] theorem modAxis_ctl (i : Nat) (f : StepAxis → StepAxis) (d : Dev) : (modAxis i f d).ctl = d.ctl := rfl
@[simp] theorem modAxis_alc (i : Nat) (f : StepAxis → StepAxis) (d : Dev) : (modAxis i f d).alc = d.alc := rfl
@[simp] theorem modAxis_gns0 (i : Nat) (f : StepAxis → StepAxis) (d : Dev) : (modAxis i f d).gns0 = d.gns0 := rfl
@[simp] theorem modAxis_gns1 (i : Nat) (f : StepAxis → StepAxis) (d : Dev) : (modAxis i f d).gns1 = d.gns1 := rfl
@[simp] theorem modAxis_gns2 (i : Nat) (f : StepAxis → StepAxis) (d : Dev) : (modAxis i f d).gns2 = d.gns2 := rfl
@[simp] theorem modAxis_src (i : Nat) (f : StepAxis → StepAxis) (d : Dev) : (modAxis i f d).src = d.src := rfl
@[simp] theorem modAxis_flt (i : Nat) (f : StepAxis → StepAxis) (d : Dev) : (modAxis i f d).flt = d.flt := rfl
@[simp] theorem modAxis_sio (i : Nat) (f : StepAxis → StepAxis) (d : Dev) : (modAxis i f d).sio = d.sio := rfl
@[simp] theorem modAxis_lop (i : Nat) (f : StepAxis → StepAxis) (d : Dev) : (modAxis i f d).lop = d.lop := rfl
@[simp] theorem modAxis_aou (i : Nat) (f : StepAxis → StepAxis) (d : Dev) : (modAxis i f d).aou = d.aou := rfl
@[simp] theorem modAxis_enc (i : Nat) (f : StepAxis → StepAxis) (d : Dev) : (modAxis i f d).enc = d.enc := rfl
@[simp] theorem modAxis_dio (i : Nat) (f : StepAxis → StepAxis) (d : Dev) : (modAxis i f d).dio = d.dio := rfl
@[simp] theorem modAxis_can (i : Nat) (f : StepAxis → StepAxis) (d : Dev) : (modAxis i f d).can = d.can := rfl
@[simp] theorem modAxis_e2e (i : Nat) (f : StepAxis → StepAxis) (d : Dev) : (modAxis i f d).e2e = d.e2e := rfl
@[simp] theorem modAxis_tim (i : Nat) (f : StepAxis → StepAxis) (d : Dev) : (modAxis i f d).tim = d.tim := rfl
@[simp] theorem modAxis_eth (i : Nat) (f : StepAxis → StepAxis) (d : Dev) : (modAxis i f d).eth = d.eth := rfl
@[simp] theorem modAxis_ndl (i : Nat) (f : StepAxis → StepAxis) (d : Dev) : (modAxis i f d).ndl = d.ndl := rfl
@[simp] theorem modAxis_pair (i : Nat) (f : StepAxis → StepAxis) (d : Dev) : (modAxis i f d).pair = d.pair := rfl
@[simp] theorem modAxis_saf (i : Nat) (f : StepAxis → StepAxis) (d : Dev) : (modAxis i f d).saf = d.saf := rfl
@[simp] theorem modAxis_evt (i : Nat) (f : StepAxis → StepAxis) (d : Dev) : (modAxis i f d).evt = d.evt := rfl
@[simp] theorem modAxis_lif (i : Nat) (f : StepAxis → StepAxis) (d : Dev) : (modAxis i f d).lif = d.lif := rfl
@[simp] theorem modAxis_hld (i : Nat) (f : StepAxis → StepAxis) (d : Dev) : (modAxis i f d).hld = d.hld := rfl
@[simp] theorem modAxis_grt (i : Nat) (f : StepAxis → StepAxis) (d : Dev) : (modAxis i f d).grt = d.grt := rfl
@[simp] theorem modAxis_pfg (i : Nat) (f : StepAxis → StepAxis) (d : Dev) : (modAxis i f d).pfg = { d.pfg with axes := modAt d.pfg.axes i f } := rfl

/-! ### modSsi -/

@[simp] theorem modSsi_now (i : Nat) (f : SsiPort → SsiPort) (d : Dev) : (modSsi i f d).now = d.now := rfl
@[simp] theorem modSsi_free (i : Nat) (f : SsiPort → SsiPort) (d : Dev) : (modSsi i f d).free = d.free := rfl
@[simp] theorem modSsi_out (i : Nat) (f : SsiPort → SsiPort) (d : Dev) : (modSsi i f d).out = d.out := rfl
@[simp] theorem modSsi_sys (i : Nat) (f : SsiPort → SsiPort) (d : Dev) : (modSsi i f d).sys = d.sys := rfl
@[simp] theorem modSsi_pwr (i : Nat) (f : SsiPort → SsiPort) (d : Dev) : (modSsi i f d).pwr = d.pwr := rfl
@[simp] theorem modSsi_clk (i : Nat) (f : SsiPort → SsiPort) (d : Dev) : (modSsi i f d).clk = d.clk := rfl
@[simp] theorem modSsi_irq (i : Nat) (f : SsiPort → SsiPort) (d : Dev) : (modSsi i f d).irq = d.irq := rfl
@[simp] theorem modSsi_hst (i : Nat) (f : SsiPort → SsiPort) (d : Dev) : (modSsi i f d).hst = d.hst := rfl
@[simp] theorem modSsi_mde (i : Nat) (f : SsiPort → SsiPort) (d : Dev) : (modSsi i f d).mde = d.mde := rfl
@[simp] theorem modSsi_cfg (i : Nat) (f : SsiPort → SsiPort) (d : Dev) : (modSsi i f d).cfg = d.cfg := rfl
@[simp] theorem modSsi_msn (i : Nat) (f : SsiPort → SsiPort) (d : Dev) : (modSsi i f d).msn = d.msn := rfl
@[simp] theorem modSsi_slv (i : Nat) (f : SsiPort → SsiPort) (d : Dev) : (modSsi i f d).slv = d.slv := rfl
@[simp] theorem modSsi_fus (i : Nat) (f : SsiPort → SsiPort) (d : Dev) : (modSsi i f d).fus = d.fus := rfl
@[simp] theorem modSsi_ctl (i : Nat) (f : SsiPort → SsiPort) (d : Dev) : (modSsi i f d).ctl = d.ctl := rfl
@[simp] theorem modSsi_alc (i : Nat) (f : SsiPort → SsiPort) (d : Dev) : (modSsi i f d).alc = d.alc := rfl
@[simp] theorem modSsi_gns0 (i : Nat) (f : SsiPort → SsiPort) (d : Dev) : (modSsi i f d).gns0 = d.gns0 := rfl
@[simp] theorem modSsi_gns1 (i : Nat) (f : SsiPort → SsiPort) (d : Dev) : (modSsi i f d).gns1 = d.gns1 := rfl
@[simp] theorem modSsi_gns2 (i : Nat) (f : SsiPort → SsiPort) (d : Dev) : (modSsi i f d).gns2 = d.gns2 := rfl
@[simp] theorem modSsi_src (i : Nat) (f : SsiPort → SsiPort) (d : Dev) : (modSsi i f d).src = d.src := rfl
@[simp] theorem modSsi_flt (i : Nat) (f : SsiPort → SsiPort) (d : Dev) : (modSsi i f d).flt = d.flt := rfl
@[simp] theorem modSsi_sio (i : Nat) (f : SsiPort → SsiPort) (d : Dev) : (modSsi i f d).sio = d.sio := rfl
@[simp] theorem modSsi_lop (i : Nat) (f : SsiPort → SsiPort) (d : Dev) : (modSsi i f d).lop = d.lop := rfl
@[simp] theorem modSsi_aou (i : Nat) (f : SsiPort → SsiPort) (d : Dev) : (modSsi i f d).aou = d.aou := rfl
@[simp] theorem modSsi_pfg (i : Nat) (f : SsiPort → SsiPort) (d : Dev) : (modSsi i f d).pfg = d.pfg := rfl
@[simp] theorem modSsi_dio (i : Nat) (f : SsiPort → SsiPort) (d : Dev) : (modSsi i f d).dio = d.dio := rfl
@[simp] theorem modSsi_can (i : Nat) (f : SsiPort → SsiPort) (d : Dev) : (modSsi i f d).can = d.can := rfl
@[simp] theorem modSsi_e2e (i : Nat) (f : SsiPort → SsiPort) (d : Dev) : (modSsi i f d).e2e = d.e2e := rfl
@[simp] theorem modSsi_tim (i : Nat) (f : SsiPort → SsiPort) (d : Dev) : (modSsi i f d).tim = d.tim := rfl
@[simp] theorem modSsi_eth (i : Nat) (f : SsiPort → SsiPort) (d : Dev) : (modSsi i f d).eth = d.eth := rfl
@[simp] theorem modSsi_ndl (i : Nat) (f : SsiPort → SsiPort) (d : Dev) : (modSsi i f d).ndl = d.ndl := rfl
@[simp] theorem modSsi_pair (i : Nat) (f : SsiPort → SsiPort) (d : Dev) : (modSsi i f d).pair = d.pair := rfl
@[simp] theorem modSsi_saf (i : Nat) (f : SsiPort → SsiPort) (d : Dev) : (modSsi i f d).saf = d.saf := rfl
@[simp] theorem modSsi_evt (i : Nat) (f : SsiPort → SsiPort) (d : Dev) : (modSsi i f d).evt = d.evt := rfl
@[simp] theorem modSsi_lif (i : Nat) (f : SsiPort → SsiPort) (d : Dev) : (modSsi i f d).lif = d.lif := rfl
@[simp] theorem modSsi_hld (i : Nat) (f : SsiPort → SsiPort) (d : Dev) : (modSsi i f d).hld = d.hld := rfl
@[simp] theorem modSsi_grt (i : Nat) (f : SsiPort → SsiPort) (d : Dev) : (modSsi i f d).grt = d.grt := rfl
@[simp] theorem modSsi_enc (i : Nat) (f : SsiPort → SsiPort) (d : Dev) : (modSsi i f d).enc = { d.enc with ssi := modAt d.enc.ssi i f } := rfl

/-! ### modQd -/

@[simp] theorem modQd_now (i : Nat) (f : QdPort → QdPort) (d : Dev) : (modQd i f d).now = d.now := rfl
@[simp] theorem modQd_free (i : Nat) (f : QdPort → QdPort) (d : Dev) : (modQd i f d).free = d.free := rfl
@[simp] theorem modQd_out (i : Nat) (f : QdPort → QdPort) (d : Dev) : (modQd i f d).out = d.out := rfl
@[simp] theorem modQd_sys (i : Nat) (f : QdPort → QdPort) (d : Dev) : (modQd i f d).sys = d.sys := rfl
@[simp] theorem modQd_pwr (i : Nat) (f : QdPort → QdPort) (d : Dev) : (modQd i f d).pwr = d.pwr := rfl
@[simp] theorem modQd_clk (i : Nat) (f : QdPort → QdPort) (d : Dev) : (modQd i f d).clk = d.clk := rfl
@[simp] theorem modQd_irq (i : Nat) (f : QdPort → QdPort) (d : Dev) : (modQd i f d).irq = d.irq := rfl
@[simp] theorem modQd_hst (i : Nat) (f : QdPort → QdPort) (d : Dev) : (modQd i f d).hst = d.hst := rfl
@[simp] theorem modQd_mde (i : Nat) (f : QdPort → QdPort) (d : Dev) : (modQd i f d).mde = d.mde := rfl
@[simp] theorem modQd_cfg (i : Nat) (f : QdPort → QdPort) (d : Dev) : (modQd i f d).cfg = d.cfg := rfl
@[simp] theorem modQd_msn (i : Nat) (f : QdPort → QdPort) (d : Dev) : (modQd i f d).msn = d.msn := rfl
@[simp] theorem modQd_slv (i : Nat) (f : QdPort → QdPort) (d : Dev) : (modQd i f d).slv = d.slv := rfl
@[simp] theorem modQd_fus (i : Nat) (f : QdPort → QdPort) (d : Dev) : (modQd i f d).fus = d.fus := rfl
@[simp] theorem modQd_ctl (i : Nat) (f : QdPort → QdPort) (d : Dev) : (modQd i f d).ctl = d.ctl := rfl
@[simp] theorem modQd_alc (i : Nat) (f : QdPort → QdPort) (d : Dev) : (modQd i f d).alc = d.alc := rfl
@[simp] theorem modQd_gns0 (i : Nat) (f : QdPort → QdPort) (d : Dev) : (modQd i f d).gns0 = d.gns0 := rfl
@[simp] theorem modQd_gns1 (i : Nat) (f : QdPort → QdPort) (d : Dev) : (modQd i f d).gns1 = d.gns1 := rfl
@[simp] theorem modQd_gns2 (i : Nat) (f : QdPort → QdPort) (d : Dev) : (modQd i f d).gns2 = d.gns2 := rfl
@[simp] theorem modQd_src (i : Nat) (f : QdPort → QdPort) (d : Dev) : (modQd i f d).src = d.src := rfl
@[simp] theorem modQd_flt (i : Nat) (f : QdPort → QdPort) (d : Dev) : (modQd i f d).flt = d.flt := rfl
@[simp] theorem modQd_sio (i : Nat) (f : QdPort → QdPort) (d : Dev) : (modQd i f d).sio = d.sio := rfl
@[simp] theorem modQd_lop (i : Nat) (f : QdPort → QdPort) (d : Dev) : (modQd i f d).lop = d.lop := rfl
@[simp] theorem modQd_aou (i : Nat) (f : QdPort → QdPort) (d : Dev) : (modQd i f d).aou = d.aou := rfl
@[simp] theorem modQd_pfg (i : Nat) (f : QdPort → QdPort) (d : Dev) : (modQd i f d).pfg = d.pfg := rfl
@[simp] theorem modQd_dio (i : Nat) (f : QdPort → QdPort) (d : Dev) : (modQd i f d).dio = d.dio := rfl
@[simp] theorem modQd_can (i : Nat) (f : QdPort → QdPort) (d : Dev) : (modQd i f d).can = d.can := rfl
@[simp] theorem modQd_e2e (i : Nat) (f : QdPort → QdPort) (d : Dev) : (modQd i f d).e2e = d.e2e := rfl
@[simp] theorem modQd_tim (i : Nat) (f : QdPort → QdPort) (d : Dev) : (modQd i f d).tim = d.tim := rfl
@[simp] theorem modQd_eth (i : Nat) (f : QdPort → QdPort) (d : Dev) : (modQd i f d).eth = d.eth := rfl
@[simp] theorem modQd_ndl (i : Nat) (f : QdPort → QdPort) (d : Dev) : (modQd i f d).ndl = d.ndl := rfl
@[simp] theorem modQd_pair (i : Nat) (f : QdPort → QdPort) (d : Dev) : (modQd i f d).pair = d.pair := rfl
@[simp] theorem modQd_saf (i : Nat) (f : QdPort → QdPort) (d : Dev) : (modQd i f d).saf = d.saf := rfl
@[simp] theorem modQd_evt (i : Nat) (f : QdPort → QdPort) (d : Dev) : (modQd i f d).evt = d.evt := rfl
@[simp] theorem modQd_lif (i : Nat) (f : QdPort → QdPort) (d : Dev) : (modQd i f d).lif = d.lif := rfl
@[simp] theorem modQd_hld (i : Nat) (f : QdPort → QdPort) (d : Dev) : (modQd i f d).hld = d.hld := rfl
@[simp] theorem modQd_grt (i : Nat) (f : QdPort → QdPort) (d : Dev) : (modQd i f d).grt = d.grt := rfl
@[simp] theorem modQd_enc (i : Nat) (f : QdPort → QdPort) (d : Dev) : (modQd i f d).enc = { d.enc with qd := modAt d.enc.qd i f } := rfl

/-! ### modEmu -/

@[simp] theorem modEmu_now (i : Nat) (f : EmuOut → EmuOut) (d : Dev) : (modEmu i f d).now = d.now := rfl
@[simp] theorem modEmu_free (i : Nat) (f : EmuOut → EmuOut) (d : Dev) : (modEmu i f d).free = d.free := rfl
@[simp] theorem modEmu_out (i : Nat) (f : EmuOut → EmuOut) (d : Dev) : (modEmu i f d).out = d.out := rfl
@[simp] theorem modEmu_sys (i : Nat) (f : EmuOut → EmuOut) (d : Dev) : (modEmu i f d).sys = d.sys := rfl
@[simp] theorem modEmu_pwr (i : Nat) (f : EmuOut → EmuOut) (d : Dev) : (modEmu i f d).pwr = d.pwr := rfl
@[simp] theorem modEmu_clk (i : Nat) (f : EmuOut → EmuOut) (d : Dev) : (modEmu i f d).clk = d.clk := rfl
@[simp] theorem modEmu_irq (i : Nat) (f : EmuOut → EmuOut) (d : Dev) : (modEmu i f d).irq = d.irq := rfl
@[simp] theorem modEmu_hst (i : Nat) (f : EmuOut → EmuOut) (d : Dev) : (modEmu i f d).hst = d.hst := rfl
@[simp] theorem modEmu_mde (i : Nat) (f : EmuOut → EmuOut) (d : Dev) : (modEmu i f d).mde = d.mde := rfl
@[simp] theorem modEmu_cfg (i : Nat) (f : EmuOut → EmuOut) (d : Dev) : (modEmu i f d).cfg = d.cfg := rfl
@[simp] theorem modEmu_msn (i : Nat) (f : EmuOut → EmuOut) (d : Dev) : (modEmu i f d).msn = d.msn := rfl
@[simp] theorem modEmu_slv (i : Nat) (f : EmuOut → EmuOut) (d : Dev) : (modEmu i f d).slv = d.slv := rfl
@[simp] theorem modEmu_fus (i : Nat) (f : EmuOut → EmuOut) (d : Dev) : (modEmu i f d).fus = d.fus := rfl
@[simp] theorem modEmu_ctl (i : Nat) (f : EmuOut → EmuOut) (d : Dev) : (modEmu i f d).ctl = d.ctl := rfl
@[simp] theorem modEmu_alc (i : Nat) (f : EmuOut → EmuOut) (d : Dev) : (modEmu i f d).alc = d.alc := rfl
@[simp] theorem modEmu_gns0 (i : Nat) (f : EmuOut → EmuOut) (d : Dev) : (modEmu i f d).gns0 = d.gns0 := rfl
@[simp] theorem modEmu_gns1 (i : Nat) (f : EmuOut → EmuOut) (d : Dev) : (modEmu i f d).gns1 = d.gns1 := rfl
@[simp] theorem modEmu_gns2 (i : Nat) (f : EmuOut → EmuOut) (d : Dev) : (modEmu i f d).gns2 = d.gns2 := rfl
@[simp] theorem modEmu_src (i : Nat) (f : EmuOut → EmuOut) (d : Dev) : (modEmu i f d).src = d.src := rfl
@[simp] theorem modEmu_flt (i : Nat) (f : EmuOut → EmuOut) (d : Dev) : (modEmu i f d).flt = d.flt := rfl
@[simp] theorem modEmu_sio (i : Nat) (f : EmuOut → EmuOut) (d : Dev) : (modEmu i f d).sio = d.sio := rfl
@[simp] theorem modEmu_lop (i : Nat) (f : EmuOut → EmuOut) (d : Dev) : (modEmu i f d).lop = d.lop := rfl
@[simp] theorem modEmu_aou (i : Nat) (f : EmuOut → EmuOut) (d : Dev) : (modEmu i f d).aou = d.aou := rfl
@[simp] theorem modEmu_pfg (i : Nat) (f : EmuOut → EmuOut) (d : Dev) : (modEmu i f d).pfg = d.pfg := rfl
@[simp] theorem modEmu_dio (i : Nat) (f : EmuOut → EmuOut) (d : Dev) : (modEmu i f d).dio = d.dio := rfl
@[simp] theorem modEmu_can (i : Nat) (f : EmuOut → EmuOut) (d : Dev) : (modEmu i f d).can = d.can := rfl
@[simp] theorem modEmu_e2e (i : Nat) (f : EmuOut → EmuOut) (d : Dev) : (modEmu i f d).e2e = d.e2e := rfl
@[simp] theorem modEmu_tim (i : Nat) (f : EmuOut → EmuOut) (d : Dev) : (modEmu i f d).tim = d.tim := rfl
@[simp] theorem modEmu_eth (i : Nat) (f : EmuOut → EmuOut) (d : Dev) : (modEmu i f d).eth = d.eth := rfl
@[simp] theorem modEmu_ndl (i : Nat) (f : EmuOut → EmuOut) (d : Dev) : (modEmu i f d).ndl = d.ndl := rfl
@[simp] theorem modEmu_pair (i : Nat) (f : EmuOut → EmuOut) (d : Dev) : (modEmu i f d).pair = d.pair := rfl
@[simp] theorem modEmu_saf (i : Nat) (f : EmuOut → EmuOut) (d : Dev) : (modEmu i f d).saf = d.saf := rfl
@[simp] theorem modEmu_evt (i : Nat) (f : EmuOut → EmuOut) (d : Dev) : (modEmu i f d).evt = d.evt := rfl
@[simp] theorem modEmu_lif (i : Nat) (f : EmuOut → EmuOut) (d : Dev) : (modEmu i f d).lif = d.lif := rfl
@[simp] theorem modEmu_hld (i : Nat) (f : EmuOut → EmuOut) (d : Dev) : (modEmu i f d).hld = d.hld := rfl
@[simp] theorem modEmu_grt (i : Nat) (f : EmuOut → EmuOut) (d : Dev) : (modEmu i f d).grt = d.grt := rfl
@[simp] theorem modEmu_enc (i : Nat) (f : EmuOut → EmuOut) (d : Dev) : (modEmu i f d).enc = { d.enc with emu := modAt d.enc.emu i f } := rfl

/-! ### modLife -/

@[simp] theorem modLife_now (f : LifeData → LifeData) (d : Dev) : (modLife f d).now = d.now := rfl
@[simp] theorem modLife_free (f : LifeData → LifeData) (d : Dev) : (modLife f d).free = d.free := rfl
@[simp] theorem modLife_out (f : LifeData → LifeData) (d : Dev) : (modLife f d).out = d.out := rfl
@[simp] theorem modLife_sys (f : LifeData → LifeData) (d : Dev) : (modLife f d).sys = d.sys := rfl
@[simp] theorem modLife_pwr (f : LifeData → LifeData) (d : Dev) : (modLife f d).pwr = d.pwr := rfl
@[simp] theorem modLife_clk (f : LifeData → LifeData) (d : Dev) : (modLife f d).clk = d.clk := rfl
@[simp] theorem modLife_irq (f : LifeData → LifeData) (d : Dev) : (modLife f d).irq = d.irq := rfl
@[simp] theorem modLife_hst (f : LifeData → LifeData) (d : Dev) : (modLife f d).hst = d.hst := rfl
@[simp] theorem modLife_mde (f : LifeData → LifeData) (d : Dev) : (modLife f d).mde = d.mde := rfl
@[simp] theorem modLife_cfg (f : LifeData → LifeData) (d : Dev) : (modLife f d).cfg = d.cfg := rfl
@[simp] theorem modLife_msn (f : LifeData → LifeData) (d : Dev) : (modLife f d).msn = d.msn := rfl
@[simp] theorem modLife_slv (f : LifeData → LifeData) (d : Dev) : (modLife f d).slv = d.slv := rfl
@[simp] theorem modLife_fus (f : LifeData → LifeData) (d : Dev) : (modLife f d).fus = d.fus := rfl
@[simp] theorem modLife_ctl (f : LifeData → LifeData) (d : Dev) : (modLife f d).ctl = d.ctl := rfl
@[simp] theorem modLife_alc (f : LifeData → LifeData) (d : Dev) : (modLife f d).alc = d.alc := rfl
@[simp] theorem modLife_gns0 (f : LifeData → LifeData) (d : Dev) : (modLife f d).gns0 = d.gns0 := rfl
@[simp] theorem modLife_gns1 (f : LifeData → LifeData) (d : Dev) : (modLife f d).gns1 = d.gns1 := rfl
@[simp] theorem modLife_gns2 (f : LifeData → LifeData) (d : Dev) : (modLife f d).gns2 = d.gns2 := rfl
@[simp] theorem modLife_src (f : LifeData → LifeData) (d : Dev) : (modLife f d).src = d.src := rfl
@[simp] theorem modLife_flt (f : LifeData → LifeData) (d : Dev) : (modLife f d).flt = d.flt := rfl
@[simp] theorem modLife_sio (f : LifeData → LifeData) (d : Dev) : (modLife f d).sio = d.sio := rfl
@[simp] theorem modLife_lop (f : LifeData → LifeData) (d : Dev) : (modLife f d).lop = d.lop := rfl
@[simp] theorem modLife_aou (f : LifeData → LifeData) (d : Dev) : (modLife f d).aou = d.aou := rfl
@[simp] theorem modLife_pfg (f : LifeData → LifeData) (d : Dev) : (modLife f d).pfg = d.pfg := rfl
@[simp] theorem modLife_enc (f : LifeData → LifeData) (d : Dev) : (modLife f d).enc = d.enc := rfl
@[simp] theorem modLife_dio (f : LifeData → LifeData) (d : Dev) : (modLife f d).dio = d.dio := rfl
@[simp] theorem modLife_can (f : LifeData → LifeData) (d : Dev) : (modLife f d).can = d.can := rfl
@[simp] theorem modLife_e2e (f : LifeData → LifeData) (d : Dev) : (modLife f d).e2e = d.e2e := rfl
@[simp] theorem modLife_tim (f : LifeData → LifeData) (d : Dev) : (modLife f d).tim = d.tim := rfl
@[simp] theorem modLife_eth (f : LifeData → LifeData) (d : Dev) : (modLife f d).eth = d.eth := rfl
@[simp] theorem modLife_ndl (f : LifeData → LifeData) (d : Dev) : (modLife f d).ndl = d.ndl := rfl
@[simp] theorem modLife_pair (f : LifeData → LifeData) (d : Dev) : (modLife f d).pair = d.pair := rfl
@[simp] theorem modLife_saf (f : LifeData → LifeData) (d : Dev) : (modLife f d).saf = d.saf := rfl
@[simp] theorem modLife_evt (f : LifeData → LifeData) (d : Dev) : (modLife f d).evt = d.evt := rfl
@[simp] theorem modLife_hld (f : LifeData → LifeData) (d : Dev) : (modLife f d).hld = d.hld := rfl
@[simp] theorem modLife_grt (f : LifeData → LifeData) (d : Dev) : (modLife f d).grt = d.grt := rfl
@[simp] theorem modLife_lif (f : LifeData → LifeData) (d : Dev) : (modLife f d).lif = { d.lif with live := f d.lif.live } := rfl

/-! ### modPair -/

@[simp] theorem modPair_now (f : PairSt → PairSt) (d : Dev) : (modPair f d).now = d.now := rfl
@[simp] theorem modPair_free (f : PairSt → PairSt) (d : Dev) : (modPair f d).free = d.free := rfl
@[simp] theorem modPair_out (f : PairSt → PairSt) (d : Dev) : (modPair f d).out = d.out := rfl
@[simp] theorem modPair_sys (f : PairSt → PairSt) (d : Dev) : (modPair f d).sys = d.sys := rfl
@[simp] theorem modPair_pwr (f : PairSt → PairSt) (d : Dev) : (modPair f d).pwr = d.pwr := rfl
@[simp] theorem modPair_clk (f : PairSt → PairSt) (d : Dev) : (modPair f d).clk = d.clk := rfl
@[simp] theorem modPair_irq (f : PairSt → PairSt) (d : Dev) : (modPair f d).irq = d.irq := rfl
@[simp] theorem modPair_hst (f : PairSt → PairSt) (d : Dev) : (modPair f d).hst = d.hst := rfl
@[simp] theorem modPair_mde (f : PairSt → PairSt) (d : Dev) : (modPair f d).mde = d.mde := rfl
@[simp] theorem modPair_cfg (f : PairSt → PairSt) (d : Dev) : (modPair f d).cfg = d.cfg := rfl
@[simp] theorem modPair_msn (f : PairSt → PairSt) (d : Dev) : (modPair f d).msn = d.msn := rfl
@[simp] theorem modPair_slv (f : PairSt → PairSt) (d : Dev) : (modPair f d).slv = d.slv := rfl
@[simp] theorem modPair_fus (f : PairSt → PairSt) (d : Dev) : (modPair f d).fus = d.fus := rfl
@[simp] theorem modPair_ctl (f : PairSt → PairSt) (d : Dev) : (modPair f d).ctl = d.ctl := rfl
@[simp] theorem modPair_alc (f : PairSt → PairSt) (d : Dev) : (modPair f d).alc = d.alc := rfl
@[simp] theorem modPair_gns0 (f : PairSt → PairSt) (d : Dev) : (modPair f d).gns0 = d.gns0 := rfl
@[simp] theorem modPair_gns1 (f : PairSt → PairSt) (d : Dev) : (modPair f d).gns1 = d.gns1 := rfl
@[simp] theorem modPair_gns2 (f : PairSt → PairSt) (d : Dev) : (modPair f d).gns2 = d.gns2 := rfl
@[simp] theorem modPair_src (f : PairSt → PairSt) (d : Dev) : (modPair f d).src = d.src := rfl
@[simp] theorem modPair_flt (f : PairSt → PairSt) (d : Dev) : (modPair f d).flt = d.flt := rfl
@[simp] theorem modPair_sio (f : PairSt → PairSt) (d : Dev) : (modPair f d).sio = d.sio := rfl
@[simp] theorem modPair_lop (f : PairSt → PairSt) (d : Dev) : (modPair f d).lop = d.lop := rfl
@[simp] theorem modPair_aou (f : PairSt → PairSt) (d : Dev) : (modPair f d).aou = d.aou := rfl
@[simp] theorem modPair_pfg (f : PairSt → PairSt) (d : Dev) : (modPair f d).pfg = d.pfg := rfl
@[simp] theorem modPair_enc (f : PairSt → PairSt) (d : Dev) : (modPair f d).enc = d.enc := rfl
@[simp] theorem modPair_dio (f : PairSt → PairSt) (d : Dev) : (modPair f d).dio = d.dio := rfl
@[simp] theorem modPair_can (f : PairSt → PairSt) (d : Dev) : (modPair f d).can = d.can := rfl
@[simp] theorem modPair_e2e (f : PairSt → PairSt) (d : Dev) : (modPair f d).e2e = d.e2e := rfl
@[simp] theorem modPair_tim (f : PairSt → PairSt) (d : Dev) : (modPair f d).tim = d.tim := rfl
@[simp] theorem modPair_eth (f : PairSt → PairSt) (d : Dev) : (modPair f d).eth = d.eth := rfl
@[simp] theorem modPair_ndl (f : PairSt → PairSt) (d : Dev) : (modPair f d).ndl = d.ndl := rfl
@[simp] theorem modPair_saf (f : PairSt → PairSt) (d : Dev) : (modPair f d).saf = d.saf := rfl
@[simp] theorem modPair_evt (f : PairSt → PairSt) (d : Dev) : (modPair f d).evt = d.evt := rfl
@[simp] theorem modPair_lif (f : PairSt → PairSt) (d : Dev) : (modPair f d).lif = d.lif := rfl
@[simp] theorem modPair_hld (f : PairSt → PairSt) (d : Dev) : (modPair f d).hld = d.hld := rfl
@[simp] theorem modPair_grt (f : PairSt → PairSt) (d : Dev) : (modPair f d).grt = d.grt := rfl
@[simp] theorem modPair_pair (f : PairSt → PairSt) (d : Dev) : (modPair f d).pair = f d.pair := rfl

/-! ### modTile -/

@[simp] theorem modTile_now (t : Nat) (f : Tile → Tile) (d : Dev) : (modTile t f d).now = d.now := rfl
@[simp] theorem modTile_free (t : Nat) (f : Tile → Tile) (d : Dev) : (modTile t f d).free = d.free := rfl
@[simp] theorem modTile_out (t : Nat) (f : Tile → Tile) (d : Dev) : (modTile t f d).out = d.out := rfl
@[simp] theorem modTile_sys (t : Nat) (f : Tile → Tile) (d : Dev) : (modTile t f d).sys = d.sys := rfl
@[simp] theorem modTile_pwr (t : Nat) (f : Tile → Tile) (d : Dev) : (modTile t f d).pwr = d.pwr := rfl
@[simp] theorem modTile_clk (t : Nat) (f : Tile → Tile) (d : Dev) : (modTile t f d).clk = d.clk := rfl
@[simp] theorem modTile_irq (t : Nat) (f : Tile → Tile) (d : Dev) : (modTile t f d).irq = d.irq := rfl
@[simp] theorem modTile_hst (t : Nat) (f : Tile → Tile) (d : Dev) : (modTile t f d).hst = d.hst := rfl
@[simp] theorem modTile_mde (t : Nat) (f : Tile → Tile) (d : Dev) : (modTile t f d).mde = d.mde := rfl
@[simp] theorem modTile_cfg (t : Nat) (f : Tile → Tile) (d : Dev) : (modTile t f d).cfg = d.cfg := rfl
@[simp] theorem modTile_slv (t : Nat) (f : Tile → Tile) (d : Dev) : (modTile t f d).slv = d.slv := rfl
@[simp] theorem modTile_fus (t : Nat) (f : Tile → Tile) (d : Dev) : (modTile t f d).fus = d.fus := rfl
@[simp] theorem modTile_ctl (t : Nat) (f : Tile → Tile) (d : Dev) : (modTile t f d).ctl = d.ctl := rfl
@[simp] theorem modTile_alc (t : Nat) (f : Tile → Tile) (d : Dev) : (modTile t f d).alc = d.alc := rfl
@[simp] theorem modTile_gns0 (t : Nat) (f : Tile → Tile) (d : Dev) : (modTile t f d).gns0 = d.gns0 := rfl
@[simp] theorem modTile_gns1 (t : Nat) (f : Tile → Tile) (d : Dev) : (modTile t f d).gns1 = d.gns1 := rfl
@[simp] theorem modTile_gns2 (t : Nat) (f : Tile → Tile) (d : Dev) : (modTile t f d).gns2 = d.gns2 := rfl
@[simp] theorem modTile_src (t : Nat) (f : Tile → Tile) (d : Dev) : (modTile t f d).src = d.src := rfl
@[simp] theorem modTile_flt (t : Nat) (f : Tile → Tile) (d : Dev) : (modTile t f d).flt = d.flt := rfl
@[simp] theorem modTile_sio (t : Nat) (f : Tile → Tile) (d : Dev) : (modTile t f d).sio = d.sio := rfl
@[simp] theorem modTile_lop (t : Nat) (f : Tile → Tile) (d : Dev) : (modTile t f d).lop = d.lop := rfl
@[simp] theorem modTile_aou (t : Nat) (f : Tile → Tile) (d : Dev) : (modTile t f d).aou = d.aou := rfl
@[simp] theorem modTile_pfg (t : Nat) (f : Tile → Tile) (d : Dev) : (modTile t f d).pfg = d.pfg := rfl
@[simp] theorem modTile_enc (t : Nat) (f : Tile → Tile) (d : Dev) : (modTile t f d).enc = d.enc := rfl
@[simp] theorem modTile_dio (t : Nat) (f : Tile → Tile) (d : Dev) : (modTile t f d).dio = d.dio := rfl
@[simp] theorem modTile_can (t : Nat) (f : Tile → Tile) (d : Dev) : (modTile t f d).can = d.can := rfl
@[simp] theorem modTile_e2e (t : Nat) (f : Tile → Tile) (d : Dev) : (modTile t f d).e2e = d.e2e := rfl
@[simp] theorem modTile_tim (t : Nat) (f : Tile → Tile) (d : Dev) : (modTile t f d).tim = d.tim := rfl
@[simp] theorem modTile_eth (t : Nat) (f : Tile → Tile) (d : Dev) : (modTile t f d).eth = d.eth := rfl
@[simp] theorem modTile_ndl (t : Nat) (f : Tile → Tile) (d : Dev) : (modTile t f d).ndl = d.ndl := rfl
@[simp] theorem modTile_pair (t : Nat) (f : Tile → Tile) (d : Dev) : (modTile t f d).pair = d.pair := rfl
@[simp] theorem modTile_saf (t : Nat) (f : Tile → Tile) (d : Dev) : (modTile t f d).saf = d.saf := rfl
@[simp] theorem modTile_evt (t : Nat) (f : Tile → Tile) (d : Dev) : (modTile t f d).evt = d.evt := rfl
@[simp] theorem modTile_lif (t : Nat) (f : Tile → Tile) (d : Dev) : (modTile t f d).lif = d.lif := rfl
@[simp] theorem modTile_hld (t : Nat) (f : Tile → Tile) (d : Dev) : (modTile t f d).hld = d.hld := rfl
@[simp] theorem modTile_grt (t : Nat) (f : Tile → Tile) (d : Dev) : (modTile t f d).grt = d.grt := rfl
@[simp] theorem modTile_msn (t : Nat) (f : Tile → Tile) (d : Dev) : (modTile t f d).msn = { d.msn with tiles := modAt d.msn.tiles t f } := rfl

/-! ### modJob -/

@[simp] theorem modJob_now (j : Nat) (f : Job → Job) (d : Dev) : (modJob j f d).now = d.now := rfl
@[simp] theorem modJob_free (j : Nat) (f : Job → Job) (d : Dev) : (modJob j f d).free = d.free := rfl
@[simp] theorem modJob_out (j : Nat) (f : Job → Job) (d : Dev) : (modJob j f d).out = d.out := rfl
@[simp] theorem modJob_sys (j : Nat) (f : Job → Job) (d : Dev) : (modJob j f d).sys = d.sys := rfl
@[simp] theorem modJob_pwr (j : Nat) (f : Job → Job) (d : Dev) : (modJob j f d).pwr = d.pwr := rfl
@[simp] theorem modJob_clk (j : Nat) (f : Job → Job) (d : Dev) : (modJob j f d).clk = d.clk := rfl
@[simp] theorem modJob_irq (j : Nat) (f : Job → Job) (d : Dev) : (modJob j f d).irq = d.irq := rfl
@[simp] theorem modJob_hst (j : Nat) (f : Job → Job) (d : Dev) : (modJob j f d).hst = d.hst := rfl
@[simp] theorem modJob_mde (j : Nat) (f : Job → Job) (d : Dev) : (modJob j f d).mde = d.mde := rfl
@[simp] theorem modJob_cfg (j : Nat) (f : Job → Job) (d : Dev) : (modJob j f d).cfg = d.cfg := rfl
@[simp] theorem modJob_slv (j : Nat) (f : Job → Job) (d : Dev) : (modJob j f d).slv = d.slv := rfl
@[simp] theorem modJob_fus (j : Nat) (f : Job → Job) (d : Dev) : (modJob j f d).fus = d.fus := rfl
@[simp] theorem modJob_ctl (j : Nat) (f : Job → Job) (d : Dev) : (modJob j f d).ctl = d.ctl := rfl
@[simp] theorem modJob_alc (j : Nat) (f : Job → Job) (d : Dev) : (modJob j f d).alc = d.alc := rfl
@[simp] theorem modJob_gns0 (j : Nat) (f : Job → Job) (d : Dev) : (modJob j f d).gns0 = d.gns0 := rfl
@[simp] theorem modJob_gns1 (j : Nat) (f : Job → Job) (d : Dev) : (modJob j f d).gns1 = d.gns1 := rfl
@[simp] theorem modJob_gns2 (j : Nat) (f : Job → Job) (d : Dev) : (modJob j f d).gns2 = d.gns2 := rfl
@[simp] theorem modJob_src (j : Nat) (f : Job → Job) (d : Dev) : (modJob j f d).src = d.src := rfl
@[simp] theorem modJob_flt (j : Nat) (f : Job → Job) (d : Dev) : (modJob j f d).flt = d.flt := rfl
@[simp] theorem modJob_sio (j : Nat) (f : Job → Job) (d : Dev) : (modJob j f d).sio = d.sio := rfl
@[simp] theorem modJob_lop (j : Nat) (f : Job → Job) (d : Dev) : (modJob j f d).lop = d.lop := rfl
@[simp] theorem modJob_aou (j : Nat) (f : Job → Job) (d : Dev) : (modJob j f d).aou = d.aou := rfl
@[simp] theorem modJob_pfg (j : Nat) (f : Job → Job) (d : Dev) : (modJob j f d).pfg = d.pfg := rfl
@[simp] theorem modJob_enc (j : Nat) (f : Job → Job) (d : Dev) : (modJob j f d).enc = d.enc := rfl
@[simp] theorem modJob_dio (j : Nat) (f : Job → Job) (d : Dev) : (modJob j f d).dio = d.dio := rfl
@[simp] theorem modJob_can (j : Nat) (f : Job → Job) (d : Dev) : (modJob j f d).can = d.can := rfl
@[simp] theorem modJob_e2e (j : Nat) (f : Job → Job) (d : Dev) : (modJob j f d).e2e = d.e2e := rfl
@[simp] theorem modJob_tim (j : Nat) (f : Job → Job) (d : Dev) : (modJob j f d).tim = d.tim := rfl
@[simp] theorem modJob_eth (j : Nat) (f : Job → Job) (d : Dev) : (modJob j f d).eth = d.eth := rfl
@[simp] theorem modJob_ndl (j : Nat) (f : Job → Job) (d : Dev) : (modJob j f d).ndl = d.ndl := rfl
@[simp] theorem modJob_pair (j : Nat) (f : Job → Job) (d : Dev) : (modJob j f d).pair = d.pair := rfl
@[simp] theorem modJob_saf (j : Nat) (f : Job → Job) (d : Dev) : (modJob j f d).saf = d.saf := rfl
@[simp] theorem modJob_evt (j : Nat) (f : Job → Job) (d : Dev) : (modJob j f d).evt = d.evt := rfl
@[simp] theorem modJob_lif (j : Nat) (f : Job → Job) (d : Dev) : (modJob j f d).lif = d.lif := rfl
@[simp] theorem modJob_hld (j : Nat) (f : Job → Job) (d : Dev) : (modJob j f d).hld = d.hld := rfl
@[simp] theorem modJob_grt (j : Nat) (f : Job → Job) (d : Dev) : (modJob j f d).grt = d.grt := rfl
@[simp] theorem modJob_msn (j : Nat) (f : Job → Job) (d : Dev) : (modJob j f d).msn = { d.msn with jobs := modAt d.msn.jobs j f } := rfl

/-! ### modBank -/

@[simp] theorem modBank_now (b : Nat) (f : Bank → Bank) (d : Dev) : (modBank b f d).now = d.now := rfl
@[simp] theorem modBank_free (b : Nat) (f : Bank → Bank) (d : Dev) : (modBank b f d).free = d.free := rfl
@[simp] theorem modBank_out (b : Nat) (f : Bank → Bank) (d : Dev) : (modBank b f d).out = d.out := rfl
@[simp] theorem modBank_sys (b : Nat) (f : Bank → Bank) (d : Dev) : (modBank b f d).sys = d.sys := rfl
@[simp] theorem modBank_pwr (b : Nat) (f : Bank → Bank) (d : Dev) : (modBank b f d).pwr = d.pwr := rfl
@[simp] theorem modBank_clk (b : Nat) (f : Bank → Bank) (d : Dev) : (modBank b f d).clk = d.clk := rfl
@[simp] theorem modBank_irq (b : Nat) (f : Bank → Bank) (d : Dev) : (modBank b f d).irq = d.irq := rfl
@[simp] theorem modBank_hst (b : Nat) (f : Bank → Bank) (d : Dev) : (modBank b f d).hst = d.hst := rfl
@[simp] theorem modBank_mde (b : Nat) (f : Bank → Bank) (d : Dev) : (modBank b f d).mde = d.mde := rfl
@[simp] theorem modBank_cfg (b : Nat) (f : Bank → Bank) (d : Dev) : (modBank b f d).cfg = d.cfg := rfl
@[simp] theorem modBank_slv (b : Nat) (f : Bank → Bank) (d : Dev) : (modBank b f d).slv = d.slv := rfl
@[simp] theorem modBank_fus (b : Nat) (f : Bank → Bank) (d : Dev) : (modBank b f d).fus = d.fus := rfl
@[simp] theorem modBank_ctl (b : Nat) (f : Bank → Bank) (d : Dev) : (modBank b f d).ctl = d.ctl := rfl
@[simp] theorem modBank_alc (b : Nat) (f : Bank → Bank) (d : Dev) : (modBank b f d).alc = d.alc := rfl
@[simp] theorem modBank_gns0 (b : Nat) (f : Bank → Bank) (d : Dev) : (modBank b f d).gns0 = d.gns0 := rfl
@[simp] theorem modBank_gns1 (b : Nat) (f : Bank → Bank) (d : Dev) : (modBank b f d).gns1 = d.gns1 := rfl
@[simp] theorem modBank_gns2 (b : Nat) (f : Bank → Bank) (d : Dev) : (modBank b f d).gns2 = d.gns2 := rfl
@[simp] theorem modBank_src (b : Nat) (f : Bank → Bank) (d : Dev) : (modBank b f d).src = d.src := rfl
@[simp] theorem modBank_flt (b : Nat) (f : Bank → Bank) (d : Dev) : (modBank b f d).flt = d.flt := rfl
@[simp] theorem modBank_sio (b : Nat) (f : Bank → Bank) (d : Dev) : (modBank b f d).sio = d.sio := rfl
@[simp] theorem modBank_lop (b : Nat) (f : Bank → Bank) (d : Dev) : (modBank b f d).lop = d.lop := rfl
@[simp] theorem modBank_aou (b : Nat) (f : Bank → Bank) (d : Dev) : (modBank b f d).aou = d.aou := rfl
@[simp] theorem modBank_pfg (b : Nat) (f : Bank → Bank) (d : Dev) : (modBank b f d).pfg = d.pfg := rfl
@[simp] theorem modBank_enc (b : Nat) (f : Bank → Bank) (d : Dev) : (modBank b f d).enc = d.enc := rfl
@[simp] theorem modBank_dio (b : Nat) (f : Bank → Bank) (d : Dev) : (modBank b f d).dio = d.dio := rfl
@[simp] theorem modBank_can (b : Nat) (f : Bank → Bank) (d : Dev) : (modBank b f d).can = d.can := rfl
@[simp] theorem modBank_e2e (b : Nat) (f : Bank → Bank) (d : Dev) : (modBank b f d).e2e = d.e2e := rfl
@[simp] theorem modBank_tim (b : Nat) (f : Bank → Bank) (d : Dev) : (modBank b f d).tim = d.tim := rfl
@[simp] theorem modBank_eth (b : Nat) (f : Bank → Bank) (d : Dev) : (modBank b f d).eth = d.eth := rfl
@[simp] theorem modBank_ndl (b : Nat) (f : Bank → Bank) (d : Dev) : (modBank b f d).ndl = d.ndl := rfl
@[simp] theorem modBank_pair (b : Nat) (f : Bank → Bank) (d : Dev) : (modBank b f d).pair = d.pair := rfl
@[simp] theorem modBank_saf (b : Nat) (f : Bank → Bank) (d : Dev) : (modBank b f d).saf = d.saf := rfl
@[simp] theorem modBank_evt (b : Nat) (f : Bank → Bank) (d : Dev) : (modBank b f d).evt = d.evt := rfl
@[simp] theorem modBank_lif (b : Nat) (f : Bank → Bank) (d : Dev) : (modBank b f d).lif = d.lif := rfl
@[simp] theorem modBank_hld (b : Nat) (f : Bank → Bank) (d : Dev) : (modBank b f d).hld = d.hld := rfl
@[simp] theorem modBank_grt (b : Nat) (f : Bank → Bank) (d : Dev) : (modBank b f d).grt = d.grt := rfl
@[simp] theorem modBank_msn (b : Nat) (f : Bank → Bank) (d : Dev) : (modBank b f d).msn = { d.msn with banks := modAt d.msn.banks b f } := rfl

/-! ### modSlv -/

@[simp] theorem modSlv_now (f : SlvSt → SlvSt) (d : Dev) : (modSlv f d).now = d.now := rfl
@[simp] theorem modSlv_free (f : SlvSt → SlvSt) (d : Dev) : (modSlv f d).free = d.free := rfl
@[simp] theorem modSlv_out (f : SlvSt → SlvSt) (d : Dev) : (modSlv f d).out = d.out := rfl
@[simp] theorem modSlv_sys (f : SlvSt → SlvSt) (d : Dev) : (modSlv f d).sys = d.sys := rfl
@[simp] theorem modSlv_pwr (f : SlvSt → SlvSt) (d : Dev) : (modSlv f d).pwr = d.pwr := rfl
@[simp] theorem modSlv_clk (f : SlvSt → SlvSt) (d : Dev) : (modSlv f d).clk = d.clk := rfl
@[simp] theorem modSlv_irq (f : SlvSt → SlvSt) (d : Dev) : (modSlv f d).irq = d.irq := rfl
@[simp] theorem modSlv_hst (f : SlvSt → SlvSt) (d : Dev) : (modSlv f d).hst = d.hst := rfl
@[simp] theorem modSlv_mde (f : SlvSt → SlvSt) (d : Dev) : (modSlv f d).mde = d.mde := rfl
@[simp] theorem modSlv_cfg (f : SlvSt → SlvSt) (d : Dev) : (modSlv f d).cfg = d.cfg := rfl
@[simp] theorem modSlv_msn (f : SlvSt → SlvSt) (d : Dev) : (modSlv f d).msn = d.msn := rfl
@[simp] theorem modSlv_fus (f : SlvSt → SlvSt) (d : Dev) : (modSlv f d).fus = d.fus := rfl
@[simp] theorem modSlv_ctl (f : SlvSt → SlvSt) (d : Dev) : (modSlv f d).ctl = d.ctl := rfl
@[simp] theorem modSlv_alc (f : SlvSt → SlvSt) (d : Dev) : (modSlv f d).alc = d.alc := rfl
@[simp] theorem modSlv_gns0 (f : SlvSt → SlvSt) (d : Dev) : (modSlv f d).gns0 = d.gns0 := rfl
@[simp] theorem modSlv_gns1 (f : SlvSt → SlvSt) (d : Dev) : (modSlv f d).gns1 = d.gns1 := rfl
@[simp] theorem modSlv_gns2 (f : SlvSt → SlvSt) (d : Dev) : (modSlv f d).gns2 = d.gns2 := rfl
@[simp] theorem modSlv_src (f : SlvSt → SlvSt) (d : Dev) : (modSlv f d).src = d.src := rfl
@[simp] theorem modSlv_flt (f : SlvSt → SlvSt) (d : Dev) : (modSlv f d).flt = d.flt := rfl
@[simp] theorem modSlv_sio (f : SlvSt → SlvSt) (d : Dev) : (modSlv f d).sio = d.sio := rfl
@[simp] theorem modSlv_lop (f : SlvSt → SlvSt) (d : Dev) : (modSlv f d).lop = d.lop := rfl
@[simp] theorem modSlv_aou (f : SlvSt → SlvSt) (d : Dev) : (modSlv f d).aou = d.aou := rfl
@[simp] theorem modSlv_pfg (f : SlvSt → SlvSt) (d : Dev) : (modSlv f d).pfg = d.pfg := rfl
@[simp] theorem modSlv_enc (f : SlvSt → SlvSt) (d : Dev) : (modSlv f d).enc = d.enc := rfl
@[simp] theorem modSlv_dio (f : SlvSt → SlvSt) (d : Dev) : (modSlv f d).dio = d.dio := rfl
@[simp] theorem modSlv_can (f : SlvSt → SlvSt) (d : Dev) : (modSlv f d).can = d.can := rfl
@[simp] theorem modSlv_e2e (f : SlvSt → SlvSt) (d : Dev) : (modSlv f d).e2e = d.e2e := rfl
@[simp] theorem modSlv_tim (f : SlvSt → SlvSt) (d : Dev) : (modSlv f d).tim = d.tim := rfl
@[simp] theorem modSlv_eth (f : SlvSt → SlvSt) (d : Dev) : (modSlv f d).eth = d.eth := rfl
@[simp] theorem modSlv_ndl (f : SlvSt → SlvSt) (d : Dev) : (modSlv f d).ndl = d.ndl := rfl
@[simp] theorem modSlv_pair (f : SlvSt → SlvSt) (d : Dev) : (modSlv f d).pair = d.pair := rfl
@[simp] theorem modSlv_saf (f : SlvSt → SlvSt) (d : Dev) : (modSlv f d).saf = d.saf := rfl
@[simp] theorem modSlv_evt (f : SlvSt → SlvSt) (d : Dev) : (modSlv f d).evt = d.evt := rfl
@[simp] theorem modSlv_lif (f : SlvSt → SlvSt) (d : Dev) : (modSlv f d).lif = d.lif := rfl
@[simp] theorem modSlv_hld (f : SlvSt → SlvSt) (d : Dev) : (modSlv f d).hld = d.hld := rfl
@[simp] theorem modSlv_grt (f : SlvSt → SlvSt) (d : Dev) : (modSlv f d).grt = d.grt := rfl
@[simp] theorem modSlv_slv (f : SlvSt → SlvSt) (d : Dev) : (modSlv f d).slv = f d.slv := rfl

/-! ### modSource -/

@[simp] theorem modSource_now (i : Nat) (f : SourceSt → SourceSt) (d : Dev) : (modSource i f d).now = d.now := rfl
@[simp] theorem modSource_free (i : Nat) (f : SourceSt → SourceSt) (d : Dev) : (modSource i f d).free = d.free := rfl
@[simp] theorem modSource_out (i : Nat) (f : SourceSt → SourceSt) (d : Dev) : (modSource i f d).out = d.out := rfl
@[simp] theorem modSource_sys (i : Nat) (f : SourceSt → SourceSt) (d : Dev) : (modSource i f d).sys = d.sys := rfl
@[simp] theorem modSource_pwr (i : Nat) (f : SourceSt → SourceSt) (d : Dev) : (modSource i f d).pwr = d.pwr := rfl
@[simp] theorem modSource_clk (i : Nat) (f : SourceSt → SourceSt) (d : Dev) : (modSource i f d).clk = d.clk := rfl
@[simp] theorem modSource_irq (i : Nat) (f : SourceSt → SourceSt) (d : Dev) : (modSource i f d).irq = d.irq := rfl
@[simp] theorem modSource_hst (i : Nat) (f : SourceSt → SourceSt) (d : Dev) : (modSource i f d).hst = d.hst := rfl
@[simp] theorem modSource_mde (i : Nat) (f : SourceSt → SourceSt) (d : Dev) : (modSource i f d).mde = d.mde := rfl
@[simp] theorem modSource_cfg (i : Nat) (f : SourceSt → SourceSt) (d : Dev) : (modSource i f d).cfg = d.cfg := rfl
@[simp] theorem modSource_msn (i : Nat) (f : SourceSt → SourceSt) (d : Dev) : (modSource i f d).msn = d.msn := rfl
@[simp] theorem modSource_slv (i : Nat) (f : SourceSt → SourceSt) (d : Dev) : (modSource i f d).slv = d.slv := rfl
@[simp] theorem modSource_fus (i : Nat) (f : SourceSt → SourceSt) (d : Dev) : (modSource i f d).fus = d.fus := rfl
@[simp] theorem modSource_ctl (i : Nat) (f : SourceSt → SourceSt) (d : Dev) : (modSource i f d).ctl = d.ctl := rfl
@[simp] theorem modSource_alc (i : Nat) (f : SourceSt → SourceSt) (d : Dev) : (modSource i f d).alc = d.alc := rfl
@[simp] theorem modSource_gns0 (i : Nat) (f : SourceSt → SourceSt) (d : Dev) : (modSource i f d).gns0 = d.gns0 := rfl
@[simp] theorem modSource_gns1 (i : Nat) (f : SourceSt → SourceSt) (d : Dev) : (modSource i f d).gns1 = d.gns1 := rfl
@[simp] theorem modSource_gns2 (i : Nat) (f : SourceSt → SourceSt) (d : Dev) : (modSource i f d).gns2 = d.gns2 := rfl
@[simp] theorem modSource_flt (i : Nat) (f : SourceSt → SourceSt) (d : Dev) : (modSource i f d).flt = d.flt := rfl
@[simp] theorem modSource_sio (i : Nat) (f : SourceSt → SourceSt) (d : Dev) : (modSource i f d).sio = d.sio := rfl
@[simp] theorem modSource_lop (i : Nat) (f : SourceSt → SourceSt) (d : Dev) : (modSource i f d).lop = d.lop := rfl
@[simp] theorem modSource_aou (i : Nat) (f : SourceSt → SourceSt) (d : Dev) : (modSource i f d).aou = d.aou := rfl
@[simp] theorem modSource_pfg (i : Nat) (f : SourceSt → SourceSt) (d : Dev) : (modSource i f d).pfg = d.pfg := rfl
@[simp] theorem modSource_enc (i : Nat) (f : SourceSt → SourceSt) (d : Dev) : (modSource i f d).enc = d.enc := rfl
@[simp] theorem modSource_dio (i : Nat) (f : SourceSt → SourceSt) (d : Dev) : (modSource i f d).dio = d.dio := rfl
@[simp] theorem modSource_can (i : Nat) (f : SourceSt → SourceSt) (d : Dev) : (modSource i f d).can = d.can := rfl
@[simp] theorem modSource_e2e (i : Nat) (f : SourceSt → SourceSt) (d : Dev) : (modSource i f d).e2e = d.e2e := rfl
@[simp] theorem modSource_tim (i : Nat) (f : SourceSt → SourceSt) (d : Dev) : (modSource i f d).tim = d.tim := rfl
@[simp] theorem modSource_eth (i : Nat) (f : SourceSt → SourceSt) (d : Dev) : (modSource i f d).eth = d.eth := rfl
@[simp] theorem modSource_ndl (i : Nat) (f : SourceSt → SourceSt) (d : Dev) : (modSource i f d).ndl = d.ndl := rfl
@[simp] theorem modSource_pair (i : Nat) (f : SourceSt → SourceSt) (d : Dev) : (modSource i f d).pair = d.pair := rfl
@[simp] theorem modSource_saf (i : Nat) (f : SourceSt → SourceSt) (d : Dev) : (modSource i f d).saf = d.saf := rfl
@[simp] theorem modSource_evt (i : Nat) (f : SourceSt → SourceSt) (d : Dev) : (modSource i f d).evt = d.evt := rfl
@[simp] theorem modSource_lif (i : Nat) (f : SourceSt → SourceSt) (d : Dev) : (modSource i f d).lif = d.lif := rfl
@[simp] theorem modSource_hld (i : Nat) (f : SourceSt → SourceSt) (d : Dev) : (modSource i f d).hld = d.hld := rfl
@[simp] theorem modSource_grt (i : Nat) (f : SourceSt → SourceSt) (d : Dev) : (modSource i f d).grt = d.grt := rfl
@[simp] theorem modSource_src (i : Nat) (f : SourceSt → SourceSt) (d : Dev) : (modSource i f d).src = { d.src with srcs := modAt d.src.srcs i f } := rfl

/-! ### modSio -/

@[simp] theorem modSio_now (i : Nat) (f : SioPort → SioPort) (d : Dev) : (modSio i f d).now = d.now := rfl
@[simp] theorem modSio_free (i : Nat) (f : SioPort → SioPort) (d : Dev) : (modSio i f d).free = d.free := rfl
@[simp] theorem modSio_out (i : Nat) (f : SioPort → SioPort) (d : Dev) : (modSio i f d).out = d.out := rfl
@[simp] theorem modSio_sys (i : Nat) (f : SioPort → SioPort) (d : Dev) : (modSio i f d).sys = d.sys := rfl
@[simp] theorem modSio_pwr (i : Nat) (f : SioPort → SioPort) (d : Dev) : (modSio i f d).pwr = d.pwr := rfl
@[simp] theorem modSio_clk (i : Nat) (f : SioPort → SioPort) (d : Dev) : (modSio i f d).clk = d.clk := rfl
@[simp] theorem modSio_irq (i : Nat) (f : SioPort → SioPort) (d : Dev) : (modSio i f d).irq = d.irq := rfl
@[simp] theorem modSio_hst (i : Nat) (f : SioPort → SioPort) (d : Dev) : (modSio i f d).hst = d.hst := rfl
@[simp] theorem modSio_mde (i : Nat) (f : SioPort → SioPort) (d : Dev) : (modSio i f d).mde = d.mde := rfl
@[simp] theorem modSio_cfg (i : Nat) (f : SioPort → SioPort) (d : Dev) : (modSio i f d).cfg = d.cfg := rfl
@[simp] theorem modSio_msn (i : Nat) (f : SioPort → SioPort) (d : Dev) : (modSio i f d).msn = d.msn := rfl
@[simp] theorem modSio_slv (i : Nat) (f : SioPort → SioPort) (d : Dev) : (modSio i f d).slv = d.slv := rfl
@[simp] theorem modSio_fus (i : Nat) (f : SioPort → SioPort) (d : Dev) : (modSio i f d).fus = d.fus := rfl
@[simp] theorem modSio_ctl (i : Nat) (f : SioPort → SioPort) (d : Dev) : (modSio i f d).ctl = d.ctl := rfl
@[simp] theorem modSio_alc (i : Nat) (f : SioPort → SioPort) (d : Dev) : (modSio i f d).alc = d.alc := rfl
@[simp] theorem modSio_gns0 (i : Nat) (f : SioPort → SioPort) (d : Dev) : (modSio i f d).gns0 = d.gns0 := rfl
@[simp] theorem modSio_gns1 (i : Nat) (f : SioPort → SioPort) (d : Dev) : (modSio i f d).gns1 = d.gns1 := rfl
@[simp] theorem modSio_gns2 (i : Nat) (f : SioPort → SioPort) (d : Dev) : (modSio i f d).gns2 = d.gns2 := rfl
@[simp] theorem modSio_src (i : Nat) (f : SioPort → SioPort) (d : Dev) : (modSio i f d).src = d.src := rfl
@[simp] theorem modSio_flt (i : Nat) (f : SioPort → SioPort) (d : Dev) : (modSio i f d).flt = d.flt := rfl
@[simp] theorem modSio_lop (i : Nat) (f : SioPort → SioPort) (d : Dev) : (modSio i f d).lop = d.lop := rfl
@[simp] theorem modSio_aou (i : Nat) (f : SioPort → SioPort) (d : Dev) : (modSio i f d).aou = d.aou := rfl
@[simp] theorem modSio_pfg (i : Nat) (f : SioPort → SioPort) (d : Dev) : (modSio i f d).pfg = d.pfg := rfl
@[simp] theorem modSio_enc (i : Nat) (f : SioPort → SioPort) (d : Dev) : (modSio i f d).enc = d.enc := rfl
@[simp] theorem modSio_dio (i : Nat) (f : SioPort → SioPort) (d : Dev) : (modSio i f d).dio = d.dio := rfl
@[simp] theorem modSio_can (i : Nat) (f : SioPort → SioPort) (d : Dev) : (modSio i f d).can = d.can := rfl
@[simp] theorem modSio_e2e (i : Nat) (f : SioPort → SioPort) (d : Dev) : (modSio i f d).e2e = d.e2e := rfl
@[simp] theorem modSio_tim (i : Nat) (f : SioPort → SioPort) (d : Dev) : (modSio i f d).tim = d.tim := rfl
@[simp] theorem modSio_eth (i : Nat) (f : SioPort → SioPort) (d : Dev) : (modSio i f d).eth = d.eth := rfl
@[simp] theorem modSio_ndl (i : Nat) (f : SioPort → SioPort) (d : Dev) : (modSio i f d).ndl = d.ndl := rfl
@[simp] theorem modSio_pair (i : Nat) (f : SioPort → SioPort) (d : Dev) : (modSio i f d).pair = d.pair := rfl
@[simp] theorem modSio_saf (i : Nat) (f : SioPort → SioPort) (d : Dev) : (modSio i f d).saf = d.saf := rfl
@[simp] theorem modSio_evt (i : Nat) (f : SioPort → SioPort) (d : Dev) : (modSio i f d).evt = d.evt := rfl
@[simp] theorem modSio_lif (i : Nat) (f : SioPort → SioPort) (d : Dev) : (modSio i f d).lif = d.lif := rfl
@[simp] theorem modSio_hld (i : Nat) (f : SioPort → SioPort) (d : Dev) : (modSio i f d).hld = d.hld := rfl
@[simp] theorem modSio_grt (i : Nat) (f : SioPort → SioPort) (d : Dev) : (modSio i f d).grt = d.grt := rfl
@[simp] theorem modSio_sio (i : Nat) (f : SioPort → SioPort) (d : Dev) : (modSio i f d).sio = { d.sio with ports := modAt d.sio.ports i f } := rfl

/-! ### modMod -/

@[simp] theorem modMod_now (m : Nat) (f : FltMod → FltMod) (d : Dev) : (modMod m f d).now = d.now := rfl
@[simp] theorem modMod_free (m : Nat) (f : FltMod → FltMod) (d : Dev) : (modMod m f d).free = d.free := rfl
@[simp] theorem modMod_out (m : Nat) (f : FltMod → FltMod) (d : Dev) : (modMod m f d).out = d.out := rfl
@[simp] theorem modMod_sys (m : Nat) (f : FltMod → FltMod) (d : Dev) : (modMod m f d).sys = d.sys := rfl
@[simp] theorem modMod_pwr (m : Nat) (f : FltMod → FltMod) (d : Dev) : (modMod m f d).pwr = d.pwr := rfl
@[simp] theorem modMod_clk (m : Nat) (f : FltMod → FltMod) (d : Dev) : (modMod m f d).clk = d.clk := rfl
@[simp] theorem modMod_irq (m : Nat) (f : FltMod → FltMod) (d : Dev) : (modMod m f d).irq = d.irq := rfl
@[simp] theorem modMod_hst (m : Nat) (f : FltMod → FltMod) (d : Dev) : (modMod m f d).hst = d.hst := rfl
@[simp] theorem modMod_mde (m : Nat) (f : FltMod → FltMod) (d : Dev) : (modMod m f d).mde = d.mde := rfl
@[simp] theorem modMod_cfg (m : Nat) (f : FltMod → FltMod) (d : Dev) : (modMod m f d).cfg = d.cfg := rfl
@[simp] theorem modMod_msn (m : Nat) (f : FltMod → FltMod) (d : Dev) : (modMod m f d).msn = d.msn := rfl
@[simp] theorem modMod_slv (m : Nat) (f : FltMod → FltMod) (d : Dev) : (modMod m f d).slv = d.slv := rfl
@[simp] theorem modMod_fus (m : Nat) (f : FltMod → FltMod) (d : Dev) : (modMod m f d).fus = d.fus := rfl
@[simp] theorem modMod_ctl (m : Nat) (f : FltMod → FltMod) (d : Dev) : (modMod m f d).ctl = d.ctl := rfl
@[simp] theorem modMod_alc (m : Nat) (f : FltMod → FltMod) (d : Dev) : (modMod m f d).alc = d.alc := rfl
@[simp] theorem modMod_gns0 (m : Nat) (f : FltMod → FltMod) (d : Dev) : (modMod m f d).gns0 = d.gns0 := rfl
@[simp] theorem modMod_gns1 (m : Nat) (f : FltMod → FltMod) (d : Dev) : (modMod m f d).gns1 = d.gns1 := rfl
@[simp] theorem modMod_gns2 (m : Nat) (f : FltMod → FltMod) (d : Dev) : (modMod m f d).gns2 = d.gns2 := rfl
@[simp] theorem modMod_src (m : Nat) (f : FltMod → FltMod) (d : Dev) : (modMod m f d).src = d.src := rfl
@[simp] theorem modMod_sio (m : Nat) (f : FltMod → FltMod) (d : Dev) : (modMod m f d).sio = d.sio := rfl
@[simp] theorem modMod_lop (m : Nat) (f : FltMod → FltMod) (d : Dev) : (modMod m f d).lop = d.lop := rfl
@[simp] theorem modMod_aou (m : Nat) (f : FltMod → FltMod) (d : Dev) : (modMod m f d).aou = d.aou := rfl
@[simp] theorem modMod_pfg (m : Nat) (f : FltMod → FltMod) (d : Dev) : (modMod m f d).pfg = d.pfg := rfl
@[simp] theorem modMod_enc (m : Nat) (f : FltMod → FltMod) (d : Dev) : (modMod m f d).enc = d.enc := rfl
@[simp] theorem modMod_dio (m : Nat) (f : FltMod → FltMod) (d : Dev) : (modMod m f d).dio = d.dio := rfl
@[simp] theorem modMod_can (m : Nat) (f : FltMod → FltMod) (d : Dev) : (modMod m f d).can = d.can := rfl
@[simp] theorem modMod_e2e (m : Nat) (f : FltMod → FltMod) (d : Dev) : (modMod m f d).e2e = d.e2e := rfl
@[simp] theorem modMod_tim (m : Nat) (f : FltMod → FltMod) (d : Dev) : (modMod m f d).tim = d.tim := rfl
@[simp] theorem modMod_eth (m : Nat) (f : FltMod → FltMod) (d : Dev) : (modMod m f d).eth = d.eth := rfl
@[simp] theorem modMod_ndl (m : Nat) (f : FltMod → FltMod) (d : Dev) : (modMod m f d).ndl = d.ndl := rfl
@[simp] theorem modMod_pair (m : Nat) (f : FltMod → FltMod) (d : Dev) : (modMod m f d).pair = d.pair := rfl
@[simp] theorem modMod_saf (m : Nat) (f : FltMod → FltMod) (d : Dev) : (modMod m f d).saf = d.saf := rfl
@[simp] theorem modMod_evt (m : Nat) (f : FltMod → FltMod) (d : Dev) : (modMod m f d).evt = d.evt := rfl
@[simp] theorem modMod_lif (m : Nat) (f : FltMod → FltMod) (d : Dev) : (modMod m f d).lif = d.lif := rfl
@[simp] theorem modMod_hld (m : Nat) (f : FltMod → FltMod) (d : Dev) : (modMod m f d).hld = d.hld := rfl
@[simp] theorem modMod_grt (m : Nat) (f : FltMod → FltMod) (d : Dev) : (modMod m f d).grt = d.grt := rfl
@[simp] theorem modMod_flt (m : Nat) (f : FltMod → FltMod) (d : Dev) : (modMod m f d).flt = { d.flt with mods := modAt d.flt.mods m f } := rfl

/-! ### modSrv -/

@[simp] theorem modSrv_now (i : Nat) (f : Servo → Servo) (d : Dev) : (modSrv i f d).now = d.now := rfl
@[simp] theorem modSrv_free (i : Nat) (f : Servo → Servo) (d : Dev) : (modSrv i f d).free = d.free := rfl
@[simp] theorem modSrv_out (i : Nat) (f : Servo → Servo) (d : Dev) : (modSrv i f d).out = d.out := rfl
@[simp] theorem modSrv_sys (i : Nat) (f : Servo → Servo) (d : Dev) : (modSrv i f d).sys = d.sys := rfl
@[simp] theorem modSrv_pwr (i : Nat) (f : Servo → Servo) (d : Dev) : (modSrv i f d).pwr = d.pwr := rfl
@[simp] theorem modSrv_clk (i : Nat) (f : Servo → Servo) (d : Dev) : (modSrv i f d).clk = d.clk := rfl
@[simp] theorem modSrv_irq (i : Nat) (f : Servo → Servo) (d : Dev) : (modSrv i f d).irq = d.irq := rfl
@[simp] theorem modSrv_hst (i : Nat) (f : Servo → Servo) (d : Dev) : (modSrv i f d).hst = d.hst := rfl
@[simp] theorem modSrv_mde (i : Nat) (f : Servo → Servo) (d : Dev) : (modSrv i f d).mde = d.mde := rfl
@[simp] theorem modSrv_cfg (i : Nat) (f : Servo → Servo) (d : Dev) : (modSrv i f d).cfg = d.cfg := rfl
@[simp] theorem modSrv_msn (i : Nat) (f : Servo → Servo) (d : Dev) : (modSrv i f d).msn = d.msn := rfl
@[simp] theorem modSrv_slv (i : Nat) (f : Servo → Servo) (d : Dev) : (modSrv i f d).slv = d.slv := rfl
@[simp] theorem modSrv_fus (i : Nat) (f : Servo → Servo) (d : Dev) : (modSrv i f d).fus = d.fus := rfl
@[simp] theorem modSrv_ctl (i : Nat) (f : Servo → Servo) (d : Dev) : (modSrv i f d).ctl = d.ctl := rfl
@[simp] theorem modSrv_alc (i : Nat) (f : Servo → Servo) (d : Dev) : (modSrv i f d).alc = d.alc := rfl
@[simp] theorem modSrv_gns0 (i : Nat) (f : Servo → Servo) (d : Dev) : (modSrv i f d).gns0 = d.gns0 := rfl
@[simp] theorem modSrv_gns1 (i : Nat) (f : Servo → Servo) (d : Dev) : (modSrv i f d).gns1 = d.gns1 := rfl
@[simp] theorem modSrv_gns2 (i : Nat) (f : Servo → Servo) (d : Dev) : (modSrv i f d).gns2 = d.gns2 := rfl
@[simp] theorem modSrv_src (i : Nat) (f : Servo → Servo) (d : Dev) : (modSrv i f d).src = d.src := rfl
@[simp] theorem modSrv_flt (i : Nat) (f : Servo → Servo) (d : Dev) : (modSrv i f d).flt = d.flt := rfl
@[simp] theorem modSrv_sio (i : Nat) (f : Servo → Servo) (d : Dev) : (modSrv i f d).sio = d.sio := rfl
@[simp] theorem modSrv_lop (i : Nat) (f : Servo → Servo) (d : Dev) : (modSrv i f d).lop = d.lop := rfl
@[simp] theorem modSrv_aou (i : Nat) (f : Servo → Servo) (d : Dev) : (modSrv i f d).aou = d.aou := rfl
@[simp] theorem modSrv_pfg (i : Nat) (f : Servo → Servo) (d : Dev) : (modSrv i f d).pfg = d.pfg := rfl
@[simp] theorem modSrv_enc (i : Nat) (f : Servo → Servo) (d : Dev) : (modSrv i f d).enc = d.enc := rfl
@[simp] theorem modSrv_dio (i : Nat) (f : Servo → Servo) (d : Dev) : (modSrv i f d).dio = d.dio := rfl
@[simp] theorem modSrv_can (i : Nat) (f : Servo → Servo) (d : Dev) : (modSrv i f d).can = d.can := rfl
@[simp] theorem modSrv_e2e (i : Nat) (f : Servo → Servo) (d : Dev) : (modSrv i f d).e2e = d.e2e := rfl
@[simp] theorem modSrv_eth (i : Nat) (f : Servo → Servo) (d : Dev) : (modSrv i f d).eth = d.eth := rfl
@[simp] theorem modSrv_ndl (i : Nat) (f : Servo → Servo) (d : Dev) : (modSrv i f d).ndl = d.ndl := rfl
@[simp] theorem modSrv_pair (i : Nat) (f : Servo → Servo) (d : Dev) : (modSrv i f d).pair = d.pair := rfl
@[simp] theorem modSrv_saf (i : Nat) (f : Servo → Servo) (d : Dev) : (modSrv i f d).saf = d.saf := rfl
@[simp] theorem modSrv_evt (i : Nat) (f : Servo → Servo) (d : Dev) : (modSrv i f d).evt = d.evt := rfl
@[simp] theorem modSrv_lif (i : Nat) (f : Servo → Servo) (d : Dev) : (modSrv i f d).lif = d.lif := rfl
@[simp] theorem modSrv_hld (i : Nat) (f : Servo → Servo) (d : Dev) : (modSrv i f d).hld = d.hld := rfl
@[simp] theorem modSrv_grt (i : Nat) (f : Servo → Servo) (d : Dev) : (modSrv i f d).grt = d.grt := rfl
@[simp] theorem modSrv_tim (i : Nat) (f : Servo → Servo) (d : Dev) : (modSrv i f d).tim = { d.tim with srv := modAt d.tim.srv i f } := rfl

end Sys2Proof.Machine
end

