-- ==== Sys2Proof/Laws/Frames.lean ====
section
/-! SUPPORT. Frames of commands: a command of one of the three shapes changes only the parts that its function changes. -/

namespace Sys2Proof

open Sys2Proof.Machine

/-- Messages change IRQ and HST alone. -/
theorem settle_agree (r : Regs) (d : Dev) (p : Part) (h : p ∉ [Part.irq, Part.hst]) : agreeAt (settle r d) d p := by
  obtain ⟨o, q, e⟩ := settle_shape r d
  rw [e]
  cases p <;> first | rfl | simp at h

theorem agreeAt_trans {a b c : Dev} {p : Part} (h : agreeAt a b p) (g : agreeAt b c p) : agreeAt a c p := by
  cases p <;> exact Eq.trans h g

/-- The frame of a command whose function keeps every part outside `l`. -/
theorem onlyParts_of (l : List Part) (s : State) (r : Regs) (d : Dev) (hn : d.now = s.dev.now)
    (h : ∀ p, p ∉ Part.irq :: Part.hst :: l → agreeAt d s.dev p) : OnlyParts l s { s with dev := settle r d } := by
  refine ⟨rfl, rfl, rfl, rfl, ?_, fun p hp => ?_⟩
  · exact (settle_now r d).trans hn
  · refine agreeAt_trans (settle_agree r d p ?_) (h p hp)
    intro hc
    exact hp (by simp at hc ⊢; rcases hc with rfl | rfl <;> simp)

end Sys2Proof
end

