-- ==== Sys2Proof/Tests/Slice0.lean ====
section
/-! SUPPORT. The model's own tests: ill-formed commands refused, values the spec works out, and for each statement a state and operands that meet its hypotheses together. -/

namespace Sys2Proof.Tests

open Sys2Proof Sys2Proof.Machine

set_option maxRecDepth 100000
set_option Elab.async false

/-! ### Well-formed commands -/

/-- Commands with one index or word beyond its check are refused, part 1. -/
theorem test_ill_formed_refused_1 : (([.rerunDone 8, .loopSample 32, .outputLatch 32, .pwmPeriodStart 32, .pwmPeriodStart 15, .stepRateUpdate 8, .stepPulse 8, .dinSample 4294967296, .qdTransition 16 3, .qdTransition 15 4, .qdIndex 16, .qdIllegalWindow 16, .emuEdgeOut 8, .cmpPulseEnd false 16, .ssiRequest 16, .ssiWordDone 16 default false, .pathFault 4 false, .pullInTimeout 192, .coastTimeout 192, .xtrkFrame 4 10 0 false, .xtrkFrame 3 11 0 false, .sourceRecord { src := 32 }, .sourceTimeout 32, .sioLine 12 default 0 false] : List Instr).all fun c => !c.wf) = true := by decide

/-- Commands with one index or word beyond its check are refused, part 2. -/
theorem test_ill_formed_refused_2 : (([.iec450Datagram 4 0 0 default 0, .analogSample 16 default false, .fltSettled 16, .scanSwitch 8, .tgtLost 8, .tgtLost 0, .tileFault 12, .jobOverrun 15 0, .bankError 40 false 14 false, .bankError 39 false 15 false, .bankCopyDone 40, .msnDiagClr 4294967296, .stagingTouched 51380224 default, .stagingTouched 50331647 default, .cfgKeyDataWrite 4294967296, .railFault 17 default false, .domainUp 16, .pwrDomReqWrite default 4294967296, .pllLockLost 8, .pllLockRegained 8, .refclkLost 3, .groutStepStart 6 0, .groutStepDone 6 false 0, .canFrameRx 8 default 0 default] : List Instr).all fun c => !c.wf) = true := by decide

/-- Commands with one index or word beyond its check are refused, part 3. -/
theorem test_ill_formed_refused_3 : (([.canFrameTxEnd 8 default 0, .canTxreq 8 1 4294967295, .canTxreq 7 2 4294967295, .canTxreq 7 1 4294967296, .canTxcancel 8 4294967295, .canTxcancel 7 4294967296, .canPut 8, .canRestart 8, .busOffRecovered 8, .dbSnap 8 1 4294967295, .dbSnap 7 2 4294967295, .dbSnap 7 1 4294967296, .rxfAck 8 1 4294967295, .rxfAck 7 2 4294967295, .rxfAck 7 1 4294967296, .txlogAck 8 4294967295, .txlogAck 7 4294967296, .fltCtrlWrite 8 4294967295, .fltCtrlWrite 7 4294967296, .launchDue 8 63, .launchDue 7 64, .launchLate 8 63, .launchLate 7 64, .sbRefLaunch 8] : List Instr).all fun c => !c.wf) = true := by decide

/-- Commands with one index or word beyond its check are refused, part 4. -/
theorem test_ill_formed_refused_4 : (([.sbWindowStart 8, .sbWindowEnd 8, .sbRefMiss 8, .e2eTimeout 16, .e2eRunWrite 4294967296, .srvOfsIn 4294967296, .servoHoldover 3, .ethRxFrame 4 default false 0, .ethTxPush 4 4294967295, .ethTxPush 3 4294967296, .ethTxDone 4 0, .ethLaunchLate 4 7, .ethLaunchLate 3 8, .ethRxFree 4 4294967295, .ethRxFree 3 4294967296, .ethRxPop default 4, .ethTxcPop default 4, .ethLinkChange 4 false false, .mdioWrite 4 4294967295, .mdioWrite 3 4294967296, .mdioRead 4 4294967295, .mdioRead 3 4294967296, .mdioDone 4 65535, .mdioDone 3 65536] : List Instr).all fun c => !c.wf) = true := by decide

/-- Commands with one index or word beyond its check are refused, part 5. -/
theorem test_ill_formed_refused_5 : (([.ndlHello { unitId := 2, grade := 1 }, .ndlHello { unitId := 1, grade := 2 }, .ndlLaneDown 2, .bulkFrame { frag := 2, frags := 2 }, .discrepancy 8 false, .testPulse 4 false false, .safUnlockFirst 4294967296, .safUnlockSecond 4294967296, .safCrcExpWrite 4294967296, .evtHostCode 4294967296, .evtAck 4294967296, .registerWrite default 262144 4294967295, .registerWrite default 262143 4294967296, .commit 64, .commitApply 64 0, .discard 64, .freeze 64 false, .lockWrite 64 4294967295, .lockWrite 63 4294967296, .lockExpire 64, .irqStatClear 64 4294967295, .irqStatClear 63 4294967296, .irqForce 64 4294967295, .irqForce 63 4294967296] : List Instr).all fun c => !c.wf) = true := by decide

/-- Commands with one index or word beyond its check are refused, part 6. -/
theorem test_ill_formed_refused_6 : (([.irqEoi 4294967296, .cfgRejectedClear 64, .latchRead default 134217728, .ethLaunchDue 4 7, .ethLaunchDue 3 8, .pcieLinkUp 4 3, .pcieLinkUp 3 4, .refclkBack 3, .soutfbMismatch 4 false] : List Instr).all fun c => !c.wf) = true := by decide

/-- Commands with every operand at its highest value are well formed, part 1. -/
theorem test_limits_well_formed_1 : (([.rerunDone 7, .loopSample 31, .outputLatch 31, .pwmPeriodStart 31, .stepRateUpdate 7, .stepPulse 7, .dinSample 4294967295, .qdTransition 15 3, .qdIndex 15, .qdIllegalWindow 15, .emuEdgeOut 7, .cmpPulseEnd false 15, .ssiRequest 15, .ssiWordDone 15 default false, .pathFault 3 false, .pullInTimeout 191, .coastTimeout 191, .xtrkFrame 3 10 0 false, .sourceRecord { src := 31 }, .sourceTimeout 31, .sioLine 11 default 0 false, .iec450Datagram 3 0 0 default 0, .analogSample 15 default false, .fltSettled 15, .scanSwitch 7, .tgtLost 7, .tileFault 11, .jobOverrun 14 0, .bankError 39 false 14 false, .bankCopyDone 39, .msnDiagClr 4294967295, .stagingTouched 51380223 default, .cfgKeyDataWrite 4294967295, .railFault 16 default false, .domainUp 15, .pwrDomReqWrite default 4294967295, .pllLockLost 7, .pllLockRegained 7, .refclkLost 2, .groutStepStart 5 0] : List Instr).all fun c => c.wf) = true := by decide

/-- Commands with every operand at its highest value are well formed, part 2. -/
theorem test_limits_well_formed_2 : (([.groutStepDone 5 false 0, .canFrameRx 7 default 0 default, .canFrameTxEnd 7 default 0, .canTxreq 7 1 4294967295, .canTxcancel 7 4294967295, .canPut 7, .canRestart 7, .busOffRecovered 7, .dbSnap 7 1 4294967295, .rxfAck 7 1 4294967295, .txlogAck 7 4294967295, .fltCtrlWrite 7 4294967295, .launchDue 7 63, .launchLate 7 63, .sbRefLaunch 7, .sbWindowStart 7, .sbWindowEnd 7, .sbRefMiss 7, .e2eTimeout 15, .e2eRunWrite 4294967295, .srvOfsIn 4294967295, .servoHoldover 2, .ethRxFrame 3 default false 0, .ethTxPush 3 4294967295, .ethTxDone 3 0, .ethLaunchLate 3 7, .ethRxFree 3 4294967295, .ethRxPop default 3, .ethTxcPop default 3, .ethLinkChange 3 false false, .mdioWrite 3 4294967295, .mdioRead 3 4294967295, .mdioDone 3 65535, .ndlHello { unitId := 1, grade := 1 }, .ndlLaneDown 1, .bulkFrame { frag := 1, frags := 2 }, .discrepancy 7 false, .testPulse 3 false false, .safUnlockFirst 4294967295, .safUnlockSecond 4294967295] : List Instr).all fun c => c.wf) = true := by decide

/-- Commands with every operand at its highest value are well formed, part 3. -/
theorem test_limits_well_formed_3 : (([.safCrcExpWrite 4294967295, .evtHostCode 4294967295, .evtAck 4294967295, .registerWrite default 262143 4294967295, .commit 63, .commitApply 63 0, .discard 63, .freeze 63 false, .lockWrite 63 4294967295, .lockExpire 63, .irqStatClear 63 4294967295, .irqForce 63 4294967295, .irqEoi 4294967295, .cfgRejectedClear 63, .latchRead default 134217727, .ethLaunchDue 3 7, .pcieLinkUp 3 3, .refclkBack 2, .soutfbMismatch 3 false] : List Instr).all fun c => c.wf) = true := by decide

/-! ### Values that the spec works out -/

/-- The ASCII bytes "123456789". -/
def nineDigits : List Byte := [49, 50, 51, 52, 53, 54, 55, 56, 57]

/-- CRC-32 of R39 [02 R39]. -/
theorem test_crc32_of_nine_digits : crc32 nineDigits = 0xCBF43926 := by decide +kernel

/-- The context of the worked frame of 13: 8-bit counter at byte 0, PLEN 7, data ID 0x3132, PAD 0xCC. -/
def workedCtx (crc32 : Bool) : E2eOpt :=
  { crc32 := crc32, cnt8 := true, stream := false, strip := true, drop := false, dataId := 0x3132, plen := 7, pos := 0, pad := 0xCC, maxDelta := 1 }

/-- The protected frame of 13 with CRC-16 [13 R395 R396]. -/
theorem test_e2e_worked_frame_crc16 :
    (e2eApply (workedCtx false) { cnt := 0x33 } ([0, 0x34, 0x35, 0x36, 0x37, 0x38, 0x39] ++ List.replicate 5 0)).1 =
      [0x33, 0x34, 0x35, 0x36, 0x37, 0x38, 0x39, 0xB1, 0x29, 0xCC, 0xCC, 0xCC] := by decide +kernel

/-- The same frame with CRC-32 [13 R396]. -/
theorem test_e2e_worked_frame_crc32 :
    (e2eApply (workedCtx true) { cnt := 0x33 } ([0, 0x34, 0x35, 0x36, 0x37, 0x38, 0x39] ++ List.replicate 5 0)).1 =
      [0x33, 0x34, 0x35, 0x36, 0x37, 0x38, 0x39, 0x26, 0x39, 0xF4, 0xCB, 0xCC] := by decide +kernel

/-- Its receiver answers OK when its last counter was 0x32 [13 R398]. -/
theorem test_e2e_worked_frame_ok :
    (e2eCheck (workedCtx false) { cnt := 0x32, init := false }
      [0x33, 0x34, 0x35, 0x36, 0x37, 0x38, 0x39, 0xB1, 0x29, 0xCC, 0xCC, 0xCC]).1 = 0 := by decide +kernel


/-- Thrusters of the worked cold start of 09: two tunnels and two azimuths. -/
def coldProblem (n : Nat) : Problem :=
  let t := fun (k : Int) => [F64.ofInt k]
  { thr := [(0, t 0), (1, t 0), (2, t 1), (4, t 1)], steps := List.replicate n F64.one }

/-- 52 constraint rows per step: 4 of each tunnel and 22 of each azimuth [09, worked example]. -/
theorem test_cold_start_rows : (stepRows (coldProblem 2) 0).length = 52 ∧ (stepRows (coldProblem 2) 1).length = 52 := by decide +kernel

/-- Assembly 140 µs, the cold factorisation 76.7 µs and an update 22 µs over 20 steps [09 R261, worked example]. -/
theorem test_cold_start_bounds :
    assemblyNs (coldProblem 20) = 140000 ∧ factorNs (coldProblem 20) [] / 100 = 766 ∧ updateNs (coldProblem 20) = 22000 := by decide +kernel

/-! ### States for the witnesses -/

/-- A small state: a single unit in RUN with its clocks and domains up, changed by `f`, with register fields set: field, page number of the block, window index, value. -/
def st (f : Dev → Dev) (l : List (Fd × Nat × Nat × Nat) := []) : State :=
  { dev := f { mde := { dstate := .run, cyc := { running := true } }, clk := { lock := 0xFF, refOk := true, serOk := true, pcieOk := true }, pwr := { on := 0xFFFF, pgood := 0xFFFF } },
    regs := l.foldl (fun (r : Regs) x => r.put x.1 x.2.2.2 x.2.1 0 x.2.2.1 0) { hdr := hdrReset.map fun h => { h with en := true } } }

/-- `st` with one CAN channel 0. -/
def stCan (c : CanCh) (l : List (Fd × Nat × Nat × Nat) := []) : State := st (fun d => { d with can := { d.can with ch := modAt d.can.ch 0 fun _ => c } }) l

/-- The state `n` ticks on, with nothing else changed but the bases. -/
def later (n : Nat) (s : State) : State :=
  { s with dev := { s.dev with now := s.dev.now + n, tim := { s.dev.tim with tb := s.dev.tim.tb.map fun b => b.step (4 * n) } } }

/-- `st` with LOCK open on page `p`. -/
def stLock (p : Nat) : State := { st id with regs := (st id).regs.modHead p fun h => { h with lockAt := some 0 } }

/-- `st` with shadow copies set: field, page number of the block, window index, value. -/
def stShd (l : List (Fd × Nat × Nat × Nat)) : State :=
  { st id with regs := { (st id).regs with shd := l.foldl (fun a x => sins a (x.1.key x.2.1 0 x.2.2.1 0) x.2.2.2) [] } }

/-- `st` with vector 1 pending and unmasked. -/
def stMsix : State :=
  let s := st (fun d => { d with hst := { msix := true, bme := true, table := List.replicate 32 (16, 1, 9, 0) }, irq := { raw := modAt d.irq.raw 0 fun _ => 1 } })
    [(F.IRQ_ROUTE_VEC_EN, 0, 0, 1), (F.IRQ_ROUTE_VEC, 0, 0, 1)]
  { s with regs := s.regs.modHead 0 fun h => { h with irqEn := 1 } }

/-- `st` with one MAC 0, its link up. -/
def stEth (e : EthSt) (l : List (Fd × Nat × Nat × Nat) := []) : State :=
  st (fun d => { d with eth := modAt d.eth 0 fun _ => { e with link := true } })
    ([(F.ETH_CFG_RX_EN, 0, 0, 1), (F.ETH_CFG_TX_EN, 0, 0, 1), (F.ETH_TXQ_CFG_EN, 0, 0, 1), (F.ETH_TXQ_CFG_EN, 0, 1, 1)] ++ l)

/-- A broadcast frame of 60 bytes. -/
def bcast : List Byte := List.replicate 6 255 ++ List.replicate 54 0

/-- `st` with a description of two sources: source 1 of kind 1 at port 0, and source 2 at SSI port 0. -/
def stDescr (f : Dev → Dev) (l : List (Fd × Nat × Nat × Nat) := []) (sys : SysRec := {}) : State :=
  st (fun d => f { d with cfg := { d.cfg with active := some { sys := sys, sources := [{ id := 1, portKind := 1, port := 0, matchV := 7 }, { id := 2, portKind := 4, port := 0 }] } } }) l

/-- `st` with a pair description, as the primary of a synchronised pair with its link up. -/
def stPair (f : Dev → Dev) (l : List (Fd × Nat × Nat × Nat) := []) : State :=
  stDescr (fun d => f { d with ndl := { d.ndl with link := true }, pair := { d.pair with state := .primSynced, outputs := true } }) l { pair := 1 }


/-- A full image of five sections, laid out by 02 R36 to R45: SYSTEM, one THRUSTER on CAN channel 0, one SENSOR, one SOURCE and one CAN_CHANNEL record. -/
def minImage : List Byte :=
  [84, 87, 86, 68, 1, 0, 64, 0, 32, 1, 0, 0, 5, 0, 0, 0, 7, 0, 0, 0, 1, 0, 0, 0, 0, 0, 0, 0, 0, 0, 0, 0, 64, 0, 0, 0, 28, 1, 0, 0, 0, 0, 0, 0, 0, 0, 0, 0] ++
  [0, 0, 0, 0, 0, 0, 0, 0, 0, 0, 0, 0, 68, 231, 160, 0, 1, 0, 1, 0, 144, 0, 0, 0, 32, 0, 0, 0, 128, 164, 28, 86, 2, 0, 1, 0, 176, 0, 0, 0, 32, 0, 0, 0, 98, 78, 237, 103] ++
  [4, 0, 1, 0, 208, 0, 0, 0, 32, 0, 0, 0, 233, 160, 236, 210, 5, 0, 1, 0, 240, 0, 0, 0, 32, 0, 0, 0, 101, 242, 144, 55, 9, 0, 1, 0, 16, 1, 0, 0, 12, 0, 0, 0, 15, 56, 13, 155] ++
  [1, 0, 1, 0, 0, 0, 160, 66, 0, 0, 160, 65, 0, 0, 192, 64, 128, 150, 152, 74, 40, 107, 110, 78, 0, 0, 0, 0, 0, 0, 0, 0, 0, 0, 0, 0, 0, 0, 128, 63, 0, 0, 0, 64, 0, 0, 64, 64] ++
  [0, 0, 0, 0, 0, 36, 116, 73, 255, 255, 255, 0, 255, 0, 0, 0, 0, 0, 0, 0, 0, 0, 128, 63, 0, 0, 0, 0, 0, 0, 160, 193, 0, 0, 0, 0, 0, 0, 0, 0, 0, 0, 0, 0, 0, 0, 0, 0] ++
  [0, 5, 0, 0, 1, 0, 0, 0, 205, 204, 204, 61, 0, 0, 128, 63, 0, 0, 0, 0, 0, 0, 0, 0, 0, 0, 0, 0, 0, 0, 0, 0, 24, 0, 255, 255, 72, 0, 0, 0, 1, 0, 0, 0, 255, 149, 231, 244]

/-- `st` with the safety island in RUN: input 0 with DISC_TIME 50 ms, output 0 mapped to it with test pulses each 60 s. -/
def stSaf (f : SafSt → SafSt) : State :=
  let w := modAt (modAt (modAt safCfgReset 0 fun _ => 0xA01) 8 fun _ => 0x105) 12 fun _ => 0x3C0000
  st fun d => { d with saf := f { d.saf with stA := .run, stB := .run, cfgA := w, cfgB := w } }

/-- `st` with a good MRAM and enough energy for a segment. -/
def stSeg (f : Dev → Dev) (l : List (Fd × Nat × Nat × Nat) := []) : State :=
  st (fun d => f { d with hld := { d.hld with mramGood := some 0 } }) ((F.HLD_E_REQ_E_REQ, 0, 0, 0) :: l)

/-- `st` in MANUAL with loop channel 0 in use at 1 kHz, its feedback from source `src`. -/
def stLoop (src : Nat) (h : LoopCh) (f : Dev → Dev := id) : State :=
  st (fun d => f { d with mde := { d.mde with mode := .manual }, lop := { d.lop with ch := modAt d.lop.ch 0 fun _ => h } })
    [(F.LOP_CH_CFG_USE, 0, 0, 1), (F.LOP_CH_CFG_FB_SRC, 0, 0, src), (F.LOP_CH_CFG_FB_DIFF, 0, 0, 0), (F.LOP_CH_CFG_WRAP, 0, 0, 0), (F.LOP_CH_CFG_SP_INTERP, 0, 0, 0),
     (F.LOP_CH_CFG_PL_MODEL, 0, 0, 0), (F.LOP_PL_CNT_PL_COUNT, 0, 0, 3), (F.LOP_FB_SCALE_V, 0, 0, 0x3F800000), (F.LOP_FB_MAX_V, 0, 0, 0x42C80000), (F.LOP_FB_MIN_V, 0, 0, 0xC2C80000)]

/-- `st` in MANUAL, with axis 0 as `a`. -/
def stAxis (a : StepAxis) (l : List (Fd × Nat × Nat × Nat) := []) : State :=
  st (fun d => { d with mde := { d.mde with mode := .manual }, pfg := { d.pfg with axes := modAt d.pfg.axes 0 fun _ => a } })
    ([(F.PFG_CFG_MODE, 0, 0, 0), (F.PFG_IO_LIM_POS_EN, 0, 0, 0), (F.PFG_IO_LIM_NEG_EN, 0, 0, 0), (F.PFG_IO_EN_DOUT_EN, 0, 0, 0)] ++ l)

/-- `st` with quadrature port 0 as `q`. -/
def stQd (q : QdPort) : State := st (fun d => { d with enc := { d.enc with qd := modAt d.enc.qd 0 fun _ => q } }) [(F.ENC_QD_CFG_EN, 0, 0, 1)]

/-- `st` with a cycle `c`. -/
def stCyc (c : CycleSt) (f : Dev → Dev := id) (l : List (Fd × Nat × Nat × Nat) := []) : State := st (fun d => f { d with mde := { d.mde with cyc := c } }) l


/-! ### Images -/

/-- A microcode image laid out by 18 R530, with a signature block of arbitrary r and s. -/
def ucImage : List Byte :=
  [84, 87, 85, 67, 1, 0, 64, 0, 144, 0, 0, 0, 3, 0, 2, 1, 0, 0, 2, 0, 4, 0, 0, 0, 68, 0, 0, 0, 72, 0, 0, 0, 0, 0, 0, 0, 0, 0, 0, 0, 0, 0, 0, 0, 0, 0, 0, 0] ++
  [0, 0, 0, 0, 0, 0, 0, 0, 0, 0, 0, 0, 92, 129, 191, 230, 1, 2, 3, 4, 184, 251, 90, 242, 83, 73, 71, 49, 0, 1, 0, 64, 0, 1, 2, 3, 4, 5, 6, 7, 8, 9, 10, 11, 12, 13, 14, 15] ++
  [16, 17, 18, 19, 20, 21, 22, 23, 24, 25, 26, 27, 28, 29, 30, 31, 32, 33, 34, 35, 36, 37, 38, 39, 40, 41, 42, 43, 44, 45, 46, 47, 48, 49, 50, 51, 52, 53, 54, 55, 56, 57, 58, 59, 60, 61, 62, 63]

/-- The image in slot 0 is loaded without a signature where CFG_POLICY.SIG_REQ = 0 [02 R48 R61]. -/
theorem test_image_passes_checks :
    (chkImage (st id [(F.CFG_POLICY_SIG_REQ, 0, 0, 0)]).regs (st id).dev none false 288 minImage (describe minImage [])).isNone = true := by decide +kernel

/-- The checks refuse with the codes of their steps: MAGIC, header, length, IMAGE_CRC, missing signature [02 R48 R49]. -/
theorem test_image_refusal_codes :
    [(putBytes minImage 0 [0], 288, 0), (putBytes minImage 0x10 [8], 288, 0), (minImage, 289, 0), (putBytes minImage 150 [1], 288, 0), (minImage, 288, 1)].map
      (fun x => (chkImage (st id [(F.CFG_POLICY_SIG_REQ, 0, 0, x.2.2)]).regs (st id).dev none false x.2.1 x.1 (describe x.1 [])).map Refuse.code) =
    [some 1, some 2, some 3, some 4, some 5] := by decide +kernel

/-- A microcode image that is well laid out passes exactly where its signature does [18 R530 R531]. -/
theorem test_microcode_signature_decides (x : Bool)
    (h : Config.sigOk (Config.romKey (ucHdr ucImage).key) (slice ucImage 0 ((ucHdr ucImage).crcOff + 4)) (slice (slice ucImage (ucHdr ucImage).sigOff 72) 8 64) = x) :
    ucCheck (st id).dev ucImage 144 = if x = true then none else some 4 := by
  simp only [ucCheck, sigBlockOk, h]
  cases x <;> decide +kernel



/-- A property of what an option holds, checked. -/
theorem of_option {α : Type} {p : α → Prop} [DecidablePred p] {o : Option α} (h : (o.all fun x => decide (p x)) = true) : ∀ x, o = some x → p x := by
  intro x e
  subst e
  simpa using h

/-- No page has a commit under way, checked header by header. -/
theorem none_pending {r : Regs} (h : (r.hdr.all fun x => !x.pend) = true) (p : Nat) : (r.head p).pend = false := by
  simp only [Regs.head, at', List.getD_eq_getElem?_getD]
  cases e : r.hdr[p]? with
  | none => rfl
  | some x => simpa using List.all_eq_true.mp h x (List.mem_of_getElem? e)

/-! ### Witnesses of the hypotheses -/

/-- States and operands that meet the hypotheses of Obligations.CanStoredFramesAcknowledged, part by part. -/
theorem witness_CanStoredFramesAcknowledged :
    (∃ (s : State) (ch : Nat), ch < s.dev.can.ch.length) ∧
    (∃ (s : State) (ch : Nat), ch < s.dev.can.ch.length) ∧
    (∃ (s : State) (ch : Nat) (i : Nat), ch < 8 ∧ pageAbsent s.dev (0x18 + ch) = false ∧ ch < s.dev.can.ch.length ∧ i < 32 ∧ (s.dev.canCh ch).shadow.length = 64) :=
  ⟨⟨stCan { fifo0 := { fill := 3, get := 62, put := 1 } }, 0, by decide +kernel⟩,
   ⟨stCan { logFill := 3, logGet := 30 }, 0, by decide +kernel⟩,
   ⟨stCan { dbNew := 3, db := List.replicate 64 { frame := 5 } }, 0, 1, by decide +kernel⟩⟩

/-- States and operands that meet the hypotheses of Obligations.CanPutFillsAFreeBuffer, part by part. -/
theorem witness_CanPutFillsAFreeBuffer :
    (∃ (s : State) (ch : Nat), let c := s.dev.canCh ch; let b := s.regs.on F.CAN_MRAM_SEL_INDEX ch; ch < 8 ∧ pageAbsent s.dev (0x18 + ch) = false ∧ ch < s.dev.can.ch.length ∧ b < c.tx.length) :=
  ⟨stCan { pend := 4, stage := { frame := 0x20000, data := [1, 2, 3] } } [(F.CAN_MRAM_SEL_INDEX, 0, 0, 3)], 0, by dsimp only; decide +kernel⟩

/-- States and operands that meet the hypotheses of Obligations.CanRequestsAndCancels, part by part. -/
theorem witness_CanRequestsAndCancels :
    (∃ (s : State) (ch : Nat) (hi : Nat) (v : Nat) (i : Nat), canOn s.regs s.dev ch = true ∧ ch < s.dev.can.ch.length ∧ i < 32 ∧ v.testBit i = true ∧ (at' (s.dev.canCh ch).tx (32 * (hi % 2) + i)).frame.testBit 16 = false) ∧
    (∃ (s : State) (ch : Nat) (v : Nat), canOn s.regs s.dev ch = true ∧ ch < s.dev.can.ch.length ∧ (s.dev.canCh ch).pend.testBit (v % 64) = true ∧ (∀ x, (s.dev.canCh ch).sending = some x → x.buf ≠ v % 64)) ∧
    (∃ (s : State) (ch : Nat) (buf : Nat), canOn s.regs s.dev ch = true ∧ ch < s.dev.can.ch.length ∧ (s.dev.canCh ch).launchHold.testBit buf = true ∧ sget (s.dev.canCh ch).launchAt buf 0 ≤ s.dev.tb0) ∧
    (∃ (s : State) (ch : Nat) (buf : Nat), canOn s.regs s.dev ch = true ∧ ch < s.dev.can.ch.length ∧ 0x18 + ch < s.dev.irq.raw.length ∧ (s.dev.canCh ch).pend.testBit buf = true ∧ (s.dev.canCh ch).launchAt.any (fun e => e.1 == buf) = true ∧ (∀ x, (s.dev.canCh ch).sending = some x → x.buf ≠ buf) ∧ sget (s.dev.canCh ch).launchAt buf 0 + 1000 * s.regs.on F.CAN_LATE_MAX_LATE_MAX ch < s.dev.tb0) :=
  ⟨⟨stCan {}, 0, 0, 2, 1, by decide +kernel⟩,
   ⟨stCan { pend := 6 }, 0, 2, by exact ⟨by decide +kernel, by decide +kernel, by decide +kernel, of_option (by decide +kernel)⟩⟩,
   ⟨stCan { pend := 6, launchHold := 4, launchAt := [(2, 0)] }, 0, 2, by decide +kernel⟩,
   ⟨stCan { pend := 6, launchAt := [(2, 0)] } |> later 250000000, 0, 2, by exact ⟨by decide +kernel, by decide +kernel, by decide +kernel, by decide +kernel, by decide +kernel, of_option (by decide +kernel), by decide +kernel⟩⟩⟩

/-- States and operands that meet the hypotheses of Obligations.CanBusOffRecovery, part by part. -/
theorem witness_CanBusOffRecovery :
    (∃ (s : State) (ch : Nat), canOn s.regs s.dev ch = true ∧ ch < s.dev.can.ch.length ∧ (s.dev.canCh ch).err = .busOff) ∧
    (∃ (s : State) (ch : Nat), canOn s.regs s.dev ch = true ∧ ch < s.dev.can.ch.length ∧ 0x18 + ch < s.dev.irq.raw.length ∧ (s.dev.canCh ch).err = .busOff ∧ ((s.dev.canCh ch).recovering = true ∨ s.regs.on F.CAN_MODE_AUTO_RECOV ch = 1)) :=
  ⟨⟨stCan { err := .busOff }, 0, by decide +kernel⟩,
   ⟨stCan { err := .busOff, recovering := true }, 0, by decide +kernel⟩⟩

/-- States and operands that meet the hypotheses of Obligations.CanFramesOnTheBus, part by part. -/
theorem witness_CanFramesOnTheBus :
    (∃ (s : State) (ch : Nat) (x : CanTx), ch < s.dev.can.ch.length ∧ (s.dev.canCh ch).sending = some x ∧ x.kind = 0 ∧ s.regs.on F.CAN_MODE_LOOPBACK ch = 0) ∧
    (∃ (s : State) (ch : Nat) (f : CanFrame), canOn s.regs s.dev ch = true ∧ ch < s.dev.can.ch.length ∧ (s.dev.canCh ch).err ≠ .busOff ∧ f.rtr = true ∧ (f.fd = false ∨ s.regs.on F.CAN_MODE_FD_EN ch = 1)) ∧
    (∃ (s : State) (ch : Nat) (e : Nat) (f : CanFrame), canOn s.regs s.dev ch = true ∧ ch < s.dev.can.ch.length ∧ (s.dev.canCh ch).err ≠ .busOff ∧ e < 7 ∧ (f.fd = false ∨ s.regs.on F.CAN_MODE_FD_EN ch = 1)) :=
  ⟨⟨stCan { sending := some { buf := 3 }, pend := 8 }, 0, { buf := 3 }, by decide +kernel⟩,
   ⟨stCan {}, 0, { rtr := true }, by decide +kernel⟩,
   ⟨stCan {}, 0, 3, {}, by decide +kernel⟩⟩

/-- States and operands that meet the hypotheses of Obligations.CanFilterEntryWritten, part by part. -/
theorem witness_CanFilterEntryWritten :
    (∃ (s : State) (ch : Nat), ch < 8 ∧ pageAbsent s.dev (0x18 + ch) = false) :=
  ⟨stCan {}, 0, by decide +kernel⟩

/-- States and operands that meet the hypotheses of Obligations.StoryboardBasicCycle, part by part. -/
theorem witness_StoryboardBasicCycle :
    (∃ (s : State) (ch : Nat), canOn s.regs s.dev ch = true ∧ ch < s.dev.can.ch.length ∧ (s.dev.canCh ch).sb ≠ .off ∧ sbDue s.regs ch s.dev = true ∧ sbIsMaster s.regs ch s.dev = true ∧ (s.dev.canCh ch).master = true ∧ (s.dev.canCh ch).win = none ∧ (s.regs.head (0x18 + ch)).pend = false) ∧
    (∃ (s : State) (ch : Nat) (r0 : Nat), canOn s.regs s.dev ch = true ∧ ch < s.dev.can.ch.length ∧ (s.dev.canCh ch).sb = .run ∧ (s.dev.canCh ch).refOk = true ∧ ((s.dev.canCh ch).master = true → sbIsMaster s.regs ch s.dev = true) ∧ (s.dev.canCh ch).win = none ∧ (s.dev.canCh ch).refTick = some r0 ∧ (s.dev.canCh ch).colNext < sbCols s.regs ch ∧ r0 + 250 * sbStart s.regs ch (s.dev.canCh ch).colNext ≤ s.dev.now ∧ s.dev.pair.glb ≠ .waiting) ∧
    (∃ (s : State) (ch : Nat) (r0 : Nat) (w : SbWin), ch < s.dev.can.ch.length ∧ (s.dev.canCh ch).win = some w ∧ (s.dev.canCh ch).refTick = some r0 ∧ sbEnd s.regs ch w.col r0 ≤ s.dev.now ∧ w.type ≠ 1) ∧
    (∃ (s : State) (ch : Nat) (r0 : Nat), canOn s.regs s.dev ch = true ∧ ch < s.dev.can.ch.length ∧ (s.dev.canCh ch).sb = .run ∧ (s.dev.canCh ch).master = false ∧ (s.dev.canCh ch).win = none ∧ (s.dev.canCh ch).refTick = some r0 ∧ r0 + 250 * s.regs.on F.CAN_SB_LEN_BC_LEN ch + 250 * s.regs.on F.CAN_SB_COL_TOL ch 0 < s.dev.now) :=
  ⟨⟨stCan { sb := .sync, master := true } [(F.CAN_SB_CFG_ROLE, 0, 0, 0), (F.CAN_SB_CFG_ALIGN, 0, 0, 0)], 0, by decide +kernel⟩,
   ⟨stCan { sb := .run, refOk := true, refTick := some 0 } [(F.CAN_SB_CFG_NCOL_M1, 0, 0, 3)], 0, 0, by decide +kernel⟩,
   ⟨stCan { sb := .run, refTick := some 0, win := some { type := 2 } } |> later 100000000, 0, 0, { type := 2 }, by decide +kernel⟩,
   ⟨stCan { sb := .run, refTick := some 0 } |> later 100000000, 0, 0, by decide +kernel⟩⟩

/-- States and operands that meet the hypotheses of Obligations.EndToEndContexts, part by part. -/
theorem witness_EndToEndContexts :
    (∃ (s : State) (i : Nat), i < 16 ∧ i < s.dev.e2e.ctx.length ∧ 0x20 < s.dev.irq.raw.length ∧ s.regs.bit F.E2E_CFG_EN i = true ∧ s.regs.bit F.E2E_CFG_DIR i = true ∧ (s.dev.ctx i).noNew = false ∧ (s.dev.ctx i).lastTick + 250000 * s.regs.at F.E2E_RX_TIMEOUT i ≤ s.dev.now) ∧
    (∃ (s : State), let i := s.regs.get F.E2E_SEL_CTX; i < s.dev.e2e.ctx.length) :=
  ⟨⟨st (fun d => { d with now := 1000000000 }) [(F.E2E_CFG_EN, 0, 0, 1), (F.E2E_CFG_DIR, 0, 0, 1)], 0, by decide +kernel⟩,
   ⟨st id, by dsimp only; decide +kernel⟩⟩

/-- States and operands that meet the hypotheses of Obligations.PageHeaderCommands, part by part. -/
theorem witness_PageHeaderCommands :
    (∃ (s : State) (p : Nat), HostServes s.dev p ∧ p < s.regs.hdr.length) ∧
    (∃ (s : State) (p : Nat) (t0 : Nat), (s.regs.head p).lockAt = some t0 ∧ t0 + 25000000 ≤ s.dev.now) ∧
    (∃ (s : State) (p : Nat), HostServes s.dev p ∧ p < s.regs.hdr.length) ∧
    (∃ (s : State) (p : Nat), HostServes s.dev p ∧ p < s.regs.hdr.length) ∧
    (∃ (s : State) (p : Nat), HostServes s.dev p ∧ p ≠ 5 ∧ p < s.regs.hdr.length) :=
  ⟨⟨st id, 7, by exact ⟨by unfold HostServes; decide +kernel, by decide +kernel⟩⟩,
   ⟨stLock 7 |> later 25000000, 7, 0, by decide +kernel⟩,
   ⟨stLock 7, 7, by exact ⟨by unfold HostServes; decide +kernel, by decide +kernel⟩⟩,
   ⟨stLock 7, 7, by exact ⟨by unfold HostServes; decide +kernel, by decide +kernel⟩⟩,
   ⟨st id, 9, by exact ⟨by unfold HostServes; decide +kernel, by decide +kernel, by decide +kernel⟩⟩⟩

/-- States and operands that meet the hypotheses of Obligations.CommitBuffersThenApplies, part by part. -/
theorem witness_CommitBuffersThenApplies :
    (∃ (s : State) (p : Nat) (o : Nat), HostServes s.dev p ∧ hasB p = true ∧ conflictAt (committed s.regs p) s.dev p = some o) ∧
    (∃ (s : State) (p : Nat), HostServes s.dev p ∧ hasB p = true ∧ p ≠ 5 ∧ p < s.regs.hdr.length ∧ conflictAt (committed s.regs p) s.dev p = none ∧ s.regs.en p = true) ∧
    (∃ (s : State) (p : Nat), (p = 0x0C ∨ p = 0x0D ∨ p = 0x0E ∨ p = 0x2C) ∧ s.dev.mde.dstate ≠ .reset ∧ p < s.regs.hdr.length ∧ (s.regs.head p).pend = true) :=
  ⟨⟨stShd [(F.TIM_TB_INC_INT_INT, 0, 0, 3)], 0x21, 0x54, by exact ⟨by unfold HostServes; decide +kernel, by decide +kernel, by decide +kernel⟩⟩,
   ⟨stShd [(F.FUS_CFG_ORG_AUTO, 0, 0, 1)], 9, by exact ⟨by unfold HostServes; decide +kernel, by decide +kernel, by decide +kernel, by decide +kernel, by decide +kernel, by decide +kernel⟩⟩,
   ⟨{ st id with regs := ((st id).regs.modHead 0x0E fun h => { h with pend := true, buf := [(F.GNS2_PPS_ADV_ADV.key 0 0 0 0, 7)] }) }, 0x0E, by decide +kernel⟩⟩

/-- States and operands that meet the hypotheses of Obligations.InterruptBitsAndMessages, part by part. -/
theorem witness_InterruptBitsAndMessages :
    (∃ (s : State) (p : Nat), HostServes s.dev p ∧ p < s.dev.irq.raw.length) ∧
    (∃ (s : State) (p : Nat), HostServes s.dev p ∧ p < s.dev.irq.raw.length) ∧
    (∃ (s : State) (v : Nat) (lo : Nat) (hi : Nat) (data : Nat), HostServes s.dev 3 ∧ (vecPend s.regs s.dev).testBit (v % 32) = true ∧ s.dev.hst.msix = true ∧ s.dev.hst.bme = true ∧ s.dev.hst.fnMask = false ∧ s.dev.hst.table.getD (v % 32) (0, 0, 0, 1) = (lo, hi, data, 0)) ∧
    (∃ (s : State), s.dev.running = true ∧ s.regs.get F.HST_TIMEOUT_MS ≠ 0 ∧ s.dev.hst.timedOut = false ∧ 4 < s.dev.irq.raw.length ∧ s.dev.hst.lastAt + 250000 * s.regs.get F.HST_TIMEOUT_MS ≤ s.dev.now) :=
  ⟨⟨st (fun d => { d with irq := { raw := modAt d.irq.raw 4 fun _ => 15 } }), 4, by exact ⟨by unfold HostServes; decide +kernel, by decide +kernel⟩⟩,
   ⟨st id, 4, by exact ⟨by unfold HostServes; decide +kernel, by decide +kernel⟩⟩,
   ⟨stMsix, 1, 16, 1, 9, by exact ⟨by unfold HostServes; decide +kernel, by decide +kernel, by decide +kernel, by decide +kernel, by decide +kernel, by decide +kernel⟩⟩,
   ⟨st id [(F.HST_TIMEOUT_MS, 0, 0, 2)] |> later 500000, by decide +kernel⟩⟩

/-- States and operands that meet the hypotheses of Obligations.HostAccesses, part by part. -/
theorem witness_HostAccesses :
    (∃ (s : State) (port : Port), serves s.dev port 0x4050 = true) ∧
    (∃ (s : State) (port : Port) (a : Nat), serves s.dev port a = true ∧ region a = .unmapped ∧ 4 < s.dev.irq.raw.length) ∧
    (∃ (s : State) (a : Nat), s.dev.hst.up = true ∧ serves s.dev .pcie a = true ∧ region a = .packet ∧ s.dev.tw812 = false ∧ a % 4 = 0) ∧
    (∃ (s : State) (a : Nat), serves s.dev .qspi a = true ∧ region a = .ucode ∧ a % 4 = 0 ∧ a < 2 ^ 32 ∧ s.regs.bit F.HST_SPI_CFG_CRC_EN = false) ∧
    (∃ (s : State) (w : QspiWord) (a : Nat), serves s.dev .qspi a = true ∧ a % 4 = 0 ∧ a < 2 ^ 32 ∧ s.regs.bit F.HST_SPI_CFG_CRC_EN = true ∧ w.crc % 65536 ≠ spiCrc a (w.data % 2 ^ 32) ∧ 4 < s.dev.irq.raw.length) ∧
    (∃ (s : State) (port : Port), serves s.dev port (0x21 * 4096 + 0x90) = true ∧ latchOf s.dev port (0x21 * 4096 + 0x90) = none) :=
  ⟨⟨st id, .qspi, by decide +kernel⟩,
   ⟨st id, .qspi, 0x40000, by decide +kernel⟩,
   ⟨st (fun d => { d with hst := { up := true } }), 0x04000010, by decide +kernel⟩,
   ⟨{ st id with mem := [(0x03100000, 7)] }, 0x03100000, by decide +kernel⟩,
   ⟨st id [(F.HST_SPI_CFG_CRC_EN, 0, 0, 1)], { data := 5, crc := 1 }, 0x4050, by decide +kernel⟩,
   ⟨st id, .qspi, by decide +kernel⟩⟩

/-- States and operands that meet the hypotheses of Obligations.PcieLinkDownAndUp, part by part. -/
theorem witness_PcieLinkDownAndUp :
    (∃ (s : State) (down : Bool), s.dev.mde.dstate ≠ .reset ∧ (down = false ∨ s.dev.hst.up = true)) ∧
    (∃ (s : State), s.dev.mde.dstate ≠ .reset ∧ s.dev.pwr.on.testBit 12 = true ∧ domainHeld s.dev 12 (ticksUs 200) = true ∧ s.dev.clk.lock.testBit 7 = true ∧ s.dev.hst.up = false ∧ 4 < s.dev.irq.raw.length) :=
  ⟨⟨st (fun d => { d with hst := { up := true } }), false, by decide +kernel⟩,
   ⟨st id |> later 50000, by decide +kernel⟩⟩

/-- States and operands that meet the hypotheses of Obligations.EthernetReception, part by part. -/
theorem witness_EthernetReception :
    (∃ (s : State) (n : Nat) (b : Nat) (rest : List Nat) (f : List Byte), ethOn s.regs s.dev n = true ∧ n < s.dev.eth.length ∧ (s.dev.mac n).link = true ∧ s.regs.on F.ETH_CFG_RX_EN n = 1 ∧ 60 ≤ f.length ∧ f.length ≤ 1518 ∧ doubleTagged f = false ∧ ethAccepts s.regs n (beAt f 0 6) = true ∧ (udpOf f).isNone = true ∧ (s.dev.mac n).free = b :: rest) ∧
    (∃ (s : State) (n : Nat) (f : List Byte), ethOn s.regs s.dev n = true ∧ n < s.dev.eth.length ∧ (s.dev.mac n).link = true ∧ s.regs.on F.ETH_CFG_RX_EN n = 1 ∧ 60 ≤ f.length ∧ f.length ≤ 1518 ∧ doubleTagged f = false ∧ ethAccepts s.regs n (beAt f 0 6) = true ∧ (udpOf f).isNone = true ∧ (s.dev.mac n).free = []) ∧
    (∃ (s : State) (n : Nat), ethOn s.regs s.dev n = true ∧ n < s.dev.eth.length ∧ (s.dev.mac n).link = true ∧ s.regs.on F.ETH_CFG_RX_EN n = 1) :=
  ⟨⟨stEth { free := [5, 6] }, 0, 5, [6], bcast, by decide +kernel⟩,
   ⟨stEth {}, 0, bcast, by decide +kernel⟩,
   ⟨stEth {}, 0, by decide +kernel⟩⟩

/-- States and operands that meet the hypotheses of Obligations.EthernetBuffersAndCompletions, part by part. -/
theorem witness_EthernetBuffersAndCompletions :
    (∃ (s : State) (n : Nat), n < 4 ∧ pageAbsent s.dev (0x22 + n) = false ∧ n < s.dev.eth.length) ∧
    (∃ (s : State) (n : Nat), n < s.dev.eth.length) ∧
    (∃ (s : State) (n : Nat), n < s.dev.eth.length) :=
  ⟨⟨stEth { free := [1] }, 0, by decide +kernel⟩,
   ⟨stEth { filled := [1, 2] }, 0, by decide +kernel⟩,
   ⟨stEth { txc := [(1, 2), (3, 4)] }, 0, by decide +kernel⟩⟩

/-- States and operands that meet the hypotheses of Obligations.EthernetTransmission, part by part. -/
theorem witness_EthernetTransmission :
    (∃ (s : State) (n : Nat) (v : Nat), let q := bits v 10 8; ethOn s.regs s.dev n = true ∧ n < s.dev.eth.length ∧ q < (s.dev.mac n).queues.length ∧ q < (s.dev.mac n).refused.length) ∧
    (∃ (s : State) (n : Nat) (q : Nat) (x : TxFrame), ethOn s.regs s.dev n = true ∧ n < s.dev.eth.length ∧ q < 8 ∧ q < (s.dev.mac n).queues.length ∧ (s.dev.mac n).link = true ∧ s.regs.on F.ETH_CFG_TX_EN n = 1 ∧ (s.dev.mac n).sending = none ∧ s.dev.txHead n q = some x ∧ x.launch = true ∧ x.time ≤ queueNow s.regs s.dev n q + 64 ∧ txEligible s.regs s.dev n q x = true ∧ (∀ k, k < 8 → k ≠ q → at' (s.dev.mac n).queues k = [])) ∧
    (∃ (s : State) (n : Nat) (q : Nat) (x : TxFrame), ethOn s.regs s.dev n = true ∧ n < s.dev.eth.length ∧ q < (s.dev.mac n).missed.length ∧ 0x22 + n < s.dev.irq.raw.length ∧ s.dev.txHead n q = some x ∧ x.launch = true ∧ x.late = false ∧ txLate s.regs s.dev n q x = true) ∧
    (∃ (s : State) (n : Nat) (q : Nat) (x : TxFrame), n < s.dev.eth.length ∧ (s.dev.mac n).sending = some (q, x) ∧ x.oneStep = false) ∧
    (∃ (s : State) (n : Nat), ethOn s.regs s.dev n = true ∧ n < s.dev.eth.length ∧ 0x22 + n < s.dev.irq.raw.length) :=
  ⟨⟨stEth {}, 0, 0x105, by dsimp only; decide +kernel⟩,
   ⟨stEth { queues := modAt (List.replicate 8 []) 1 fun _ => [{ buf := 3, launch := true, time := 40 }] }, 0, 1, { buf := 3, launch := true, time := 40 }, by decide +kernel⟩,
   ⟨stEth { queues := modAt (List.replicate 8 []) 1 fun _ => [{ buf := 3, launch := true, time := 40 }] } |> later 250000000, 0, 1, { buf := 3, launch := true, time := 40 }, by decide +kernel⟩,
   ⟨{ stEth { sending := some (1, { buf := 3 }) } with mem := [(0x04001800, 60)] }, 0, 1, { buf := 3 }, by decide +kernel⟩,
   ⟨stEth {}, 0, by decide +kernel⟩⟩

/-- States and operands that meet the hypotheses of Obligations.EthernetMdioAccess, part by part. -/
theorem witness_EthernetMdioAccess :
    (∃ (s : State) (n : Nat), n < 4 ∧ pageAbsent s.dev (0x22 + n) = false ∧ n < s.dev.eth.length ∧ (s.dev.mac n).mdioBusy = false) ∧
    (∃ (s : State) (n : Nat), n < 4 ∧ pageAbsent s.dev (0x22 + n) = false ∧ n < s.dev.eth.length ∧ (s.dev.mac n).mdioBusy = false) ∧
    (∃ (s : State) (n : Nat), n < s.dev.eth.length ∧ (s.dev.mac n).mdioBusy = true) :=
  ⟨⟨stEth {}, 0, by decide +kernel⟩,
   ⟨stEth {}, 0, by decide +kernel⟩,
   ⟨stEth { mdioBusy := true }, 0, by decide +kernel⟩⟩

/-- States and operands that meet the hypotheses of Obligations.DeviceTimeHoldoverAndStep, part by part. -/
theorem witness_DeviceTimeHoldoverAndStep :
    (∃ (s : State), s.dev.awake = true ∧ srvMode s.regs s.dev 0 = 1 ∧ tb0Silent s.regs s.dev = true ∧ s.dev.gns2.st = .locked ∧ 0x21 < s.dev.irq.raw.length) ∧
    (∃ (s : State), s.dev.gns2.st = .holdover ∧ (s.dev.tb0 - s.dev.gns2.holdStart) % nsPerSec < 5 ∧ 0x0E < s.dev.irq.raw.length) ∧
    (∃ (s : State) (at_ : Nat), s.dev.gns2.stepAt = some at_ ∧ at_ ≤ s.dev.tb0 ∧ s.dev.awake = true ∧ 0x21 < s.dev.irq.raw.length ∧ 0 < s.dev.tim.tb.length) :=
  ⟨⟨st (fun d => { d with gns2 := { st := .locked } }) [(F.TIM_SRV_CFG_MODE, 0, 0, 1)], by decide +kernel⟩,
   ⟨st (fun d => { d with gns2 := { st := .holdover } }), by decide +kernel⟩,
   ⟨st (fun d => { d with gns2 := { st := .locked, stepAt := some 0 } }), 0, by decide +kernel⟩⟩

/-- States and operands that meet the hypotheses of Obligations.PulseAndTimeMessage, part by part. -/
theorem witness_PulseAndTimeMessage :
    (∃ (s : State), let sec := (((s.dev.tb0 : Int) + s.regs.int F.GNS2_PPS_ADV_ADV) / nsPerSec).toNat; s.dev.awake = true ∧ ppsAllowed s.regs s.dev = true ∧ (∀ p, s.dev.gns2.pulsed = some p → p < sec) ∧ s.dev.gns2.skipTo < sec ∧ (s.dev.tb0 : Int) - pulseTime s.regs sec < 5) ∧
    (∃ (s : State) (e : Nat), s.dev.gns2.pulseEnd = some e ∧ e ≤ s.dev.now) ∧
    (∃ (s : State), let sec := Dev.nextPulse s.regs s.dev; s.dev.awake = true ∧ ppsAllowed s.regs s.dev = true ∧ 200000000 ≤ pulseTime s.regs sec - (s.dev.tb0 : Int) ∧ pulseTime s.regs sec - (s.dev.tb0 : Int) ≤ 990000000 ∧ s.dev.gns2.msgFor ≠ some sec ∧ 0x0E < s.dev.irq.raw.length) :=
  ⟨⟨st (fun d => { d with gns2 := { st := .locked } }) [(F.GNS2_PPS_CFG_MODE, 0, 0, 1)] |> later 250000000, by dsimp only; exact ⟨by decide +kernel, by decide +kernel, of_option (by decide +kernel), by decide +kernel, by decide +kernel⟩⟩,
   ⟨st (fun d => { d with gns2 := { pulseEnd := some 0 } }), 0, by decide +kernel⟩,
   ⟨st (fun d => { d with gns2 := { st := .locked } }) [(F.GNS2_PPS_CFG_MODE, 0, 0, 1)] |> later 125000000, by dsimp only; decide +kernel⟩⟩

/-- States and operands that meet the hypotheses of Obligations.TimeBaseSnapAndStep, part by part. -/
theorem witness_TimeBaseSnapAndStep :
    (∃ (s : State), let b := s.regs.get F.TIM_STEP_CTL_TB; (b = 1 ∨ b = 2) ∧ b < s.dev.tim.tb.length ∧ 0x21 < s.dev.irq.raw.length) ∧
    (∃ (s : State), let b := s.regs.get F.TIM_STEP_CTL_TB; b ≠ 1 ∧ b ≠ 2) :=
  ⟨⟨st id [(F.TIM_STEP_CTL_TB, 0, 0, 1)], by dsimp only; decide +kernel⟩,
   ⟨st id [(F.TIM_STEP_CTL_TB, 0, 0, 3)], by dsimp only; decide +kernel⟩⟩

/-- States and operands that meet the hypotheses of Obligations.ServoSourcesAndStates, part by part. -/
theorem witness_ServoSourcesAndStates :
    (∃ (s : State), let b := s.regs.get F.TIM_TB_SEL_TB; (b = 1 ∨ b = 2) ∧ b < s.dev.tim.srv.length ∧ 0x21 < s.dev.irq.raw.length) ∧
    (∃ (s : State), s.regs.bit F.TIM_PPSIN_CFG_EN = true ∧ s.dev.awake = true ∧ 0x21 < s.dev.irq.raw.length) ∧
    (∃ (s : State) (t0 : Nat), s.regs.bit F.TIM_PPSIN_CFG_EN = true ∧ s.dev.tim.ppsAt = some t0 ∧ t0 + 500000000 ≤ s.dev.now ∧ s.dev.tim.ppsLost = false ∧ 0x21 < s.dev.irq.raw.length) ∧
    (∃ (s : State) (b : Nat), (b = 1 ∨ b = 2) ∧ b < s.dev.tim.srv.length ∧ s.regs.at F.TIM_SRV_CFG_MODE b = 1 ∧ 0x21 < s.dev.irq.raw.length ∧ ((s.dev.srv b).state = .locked ∨ (s.dev.srv b).state = .acquiring) ∧ (s.dev.srv b).lastOfs + s.regs.at F.TIM_SRV_LOCK_TIMEOUT b * 1000000000 ≤ s.dev.tb3) ∧
    (∃ (s : State), s.dev.awake = true ∧ s.dev.tb0 % nsPerSec < 5 ∧ s.dev.tb0 / nsPerSec ≠ s.dev.tim.secLatched) :=
  ⟨⟨st id [(F.TIM_TB_SEL_TB, 0, 0, 1), (F.TIM_SRV_CFG_MODE, 0, 1, 1)], by dsimp only; decide +kernel⟩,
   ⟨st id [(F.TIM_PPSIN_CFG_EN, 0, 0, 1)], by decide +kernel⟩,
   ⟨st (fun d => { d with tim := { d.tim with ppsAt := some 0 } }) [(F.TIM_PPSIN_CFG_EN, 0, 0, 1)] |> later 500000000, 0, by decide +kernel⟩,
   ⟨st (fun d => { d with tim := { d.tim with srv := modAt d.tim.srv 1 fun x => { x with state := .locked } } }) [(F.TIM_SRV_CFG_MODE, 0, 1, 1)] |> later 250000000000, 1, by decide +kernel⟩,
   ⟨st id |> later 250000000, by decide +kernel⟩⟩

/-- States and operands that meet the hypotheses of Obligations.KeptDataAndRefresh, part by part. -/
theorem witness_KeptDataAndRefresh :
    (∃ (s : State) (t0 : Nat), s.dev.gns2.kept.at_ = some t0) ∧
    (∃ (s : State), s.dev.mde.dorm = .asleep ∧ s.regs.get F.MDE_DORM_CFG_REFRESH ≠ 0 ∧ s.dev.mde.refreshAt + 3600 * s.regs.get F.MDE_DORM_CFG_REFRESH ≤ s.dev.tb3 / 1000000000) :=
  ⟨⟨st (fun d => { d with gns2 := { kept := { at_ := some 0 } } }) |> later 648000000000000, 0, by decide +kernel⟩,
   ⟨st (fun d => { d with mde := { d.mde with dorm := .asleep } }) [(F.MDE_DORM_CFG_REFRESH, 0, 0, 1)] |> later 900000000000, by decide +kernel⟩⟩

/-- States and operands that meet the hypotheses of Obligations.GnssEpochGain, part by part. -/
theorem witness_GnssEpochGain :
    (∃ (s : State), gnssRuns s.regs s.dev = true) :=
  ⟨st id, by decide +kernel⟩

/-- States and operands that meet the hypotheses of Obligations.GnssJammingAndPathFaults, part by part. -/
theorem witness_GnssJammingAndPathFaults :
    (∃ (s : State), gnssRuns s.regs s.dev = true ∧ 0x0C < s.dev.irq.raw.length) ∧
    (∃ (s : State), s.dev.gns0.cal = true ∧ 10000 ≤ s.dev.gns0.calEpochs) ∧
    (∃ (s : State) (p : Nat), p < s.dev.gns0.paths.length ∧ 0x0C < s.dev.irq.raw.length ∧ (s.dev.path p).faultOpen = false ∧ 1000 ≤ (s.dev.path p).openFor) ∧
    (∃ (s : State) (p : Nat), p < s.dev.gns0.paths.length ∧ 0x0C < s.dev.irq.raw.length ∧ (s.dev.path p).faultOver = true ∧ (s.dev.path p).faultOpen = false ∧ 5000 ≤ (s.dev.path p).overClear) :=
  ⟨⟨st id, by decide +kernel⟩,
   ⟨st (fun d => { d with gns0 := { cal := true, calEpochs := 10000 } }), by decide +kernel⟩,
   ⟨st (fun d => { d with gns0 := { paths := List.replicate 4 { openFor := 1000 } } }), 1, by decide +kernel⟩,
   ⟨st (fun d => { d with gns0 := { paths := List.replicate 4 { faultOver := true, overClear := 5000 } } }), 1, by decide +kernel⟩⟩

/-- States and operands that meet the hypotheses of Obligations.GnssAcquisitionAndLoss, part by part. -/
theorem witness_GnssAcquisitionAndLoss :
    (∃ (s : State) (x : Search) (c : Nat) (n : Nat), gnssRuns s.regs s.dev = true ∧ s.dev.gns0.search = some x ∧ x.chn = none ∧ x.masked.contains c = false ∧ chanFor s.dev (needClass s.regs x.req.sig x.req.path) = some n ∧ n < s.dev.gns0.chans.length) ∧
    (∃ (s : State) (x : Search), gnssRuns s.regs s.dev = true ∧ s.dev.gns0.search = some x ∧ x.chn = none ∧ s.dev.gns0.queue = []) ∧
    (∃ (s : State) (x : Search) (n : Nat), n < s.dev.gns0.chans.length ∧ (s.dev.chan n).st = .pullIn ∧ 50 ≤ (s.dev.chan n).age ∧ (s.dev.chan n).handover = false ∧ s.dev.gns0.search = some x ∧ x.chn = some n) ∧
    (∃ (s : State) (n : Nat), n < s.dev.gns0.chans.length ∧ (s.dev.chan n).st = .coast ∧ 1000 ≤ (s.dev.chan n).age ∧ 0x0C < s.dev.irq.raw.length) ∧
    (∃ (s : State) (p : Nat) (frag : Nat) (epoch : Nat), let x := at' s.dev.gns0.xt p; s.dev.linkUp = true ∧ gnssRuns s.regs s.dev = true ∧ p < ownPaths s.dev ∧ p < s.dev.gns0.xt.length ∧ x.epoch = epoch ∧ x.frags ≠ 0 ∧ x.bad = false ∧ setBit x.frags frag true = 0x7FF) ∧
    (∃ (s : State) (p : Nat), s.dev.linkUp = true ∧ p < s.dev.gns0.xt.length ∧ (at' s.dev.gns0.xt p).bad = false) :=
  ⟨⟨st (fun d => { d with gns0 := { search := some {} } }), {}, 5, 0, by decide +kernel⟩,
   ⟨st (fun d => { d with gns0 := { search := some {} } }), {}, by decide +kernel⟩,
   ⟨st (fun d => { d with gns0 := { search := some { chn := some 0 }, chans := modAt d.gns0.chans 0 fun _ => { st := .pullIn, age := 50 } } }), { chn := some 0 }, 0, by decide +kernel⟩,
   ⟨st (fun d => { d with gns0 := { d.gns0 with chans := modAt d.gns0.chans 0 fun _ => { st := .coast, age := 1000 } } }), 0, by decide +kernel⟩,
   ⟨st (fun d => { d with ndl := { d.ndl with link := true }, gns0 := { d.gns0 with xt := modAt d.gns0.xt 0 fun _ => { epoch := 3, frags := 0x7FE } } }), 0, 0, 3, by dsimp only; decide +kernel⟩,
   ⟨st (fun d => { d with ndl := { d.ndl with link := true } }), 0, by decide +kernel⟩⟩

/-- States and operands that meet the hypotheses of Obligations.GnssSolutionsAndCorrections, part by part. -/
theorem witness_GnssSolutionsAndCorrections :
    (∃ (s : State) (m : SolMeas), gnssRuns s.regs s.dev = true ∧ s.regs.en 0x0D = true ∧ solDue s.regs m s.dev = true ∧ 0x0D < s.dev.irq.raw.length) ∧
    (∃ (s : State) (b : List Byte), let n := msgBits b 14 10; gnssRuns s.regs s.dev = true ∧ s.regs.en 0x0D = true ∧ at' b 0 = 0xD3 ∧ n + 6 ≤ b.length) ∧
    (∃ (s : State) (m : RefreshMeas), s.dev.mde.dorm = .refresh ∧ (6 ≤ m.eph.eraseDups.length ∨ s.dev.mde.refreshFrom + 120 ≤ s.dev.tb3 / 1000000000)) :=
  ⟨⟨st id |> later 25000000, { at_ := 100000000 }, by decide +kernel⟩,
   ⟨st id, [0xD3, 0, 2, 0x3E, 0xD0, 1, 2, 3], by dsimp only; decide +kernel⟩,
   ⟨st (fun d => { d with mde := { d.mde with dorm := .refresh } }), { eph := [(0, 1), (0, 2), (0, 3), (0, 4), (0, 5), (0, 6)] }, by decide +kernel⟩⟩

/-- States and operands that meet the hypotheses of Obligations.SourceRecordsAndTimeouts, part by part. -/
theorem witness_SourceRecordsAndTimeouts :
    (∃ (s : State) (x : RawRecord) (c : SourceRec), s.dev.sourceRec x.src = some c ∧ x.src < s.dev.src.srcs.length ∧ (s.dev.source x.src).st ≠ .unused ∧ s.dev.mde.mode ≠ .dormant ∧ 0x0F < s.dev.irq.raw.length) ∧
    (∃ (s : State) (i : Nat) (c : SourceRec), s.dev.sourceRec i = some c ∧ i < s.dev.src.srcs.length ∧ i < s.dev.fus.srcs.length ∧ s.dev.mde.mode ≠ .dormant ∧ ((s.dev.source i).st = .active ∨ (s.dev.source i).st = .waiting) ∧ (s.dev.source i).validTick + ticksOf32 c.timeout ≤ s.dev.now ∧ 0x0F < s.dev.irq.raw.length) :=
  ⟨⟨stDescr (fun d => { d with src := { srcs := modAt d.src.srcs 1 fun _ => { st := .active } } }), { src := 1 }, { id := 1, portKind := 1, port := 0, matchV := 7 }, by decide +kernel⟩,
   ⟨stDescr (fun d => { d with src := { srcs := modAt d.src.srcs 1 fun _ => { st := .active } } }), 1, { id := 1, portKind := 1, port := 0, matchV := 7 }, by decide +kernel⟩⟩

/-- States and operands that meet the hypotheses of Obligations.SerialLinesAndDatagrams, part by part. -/
theorem witness_SerialLinesAndDatagrams :
    (∃ (s : State) (i : Nat) (b : List Byte), i < 12 ∧ i < s.dev.sio.ports.length ∧ s.regs.en 0x12 = true ∧ s.regs.bit F.SIO_CFG_PORT_EN i = true ∧ 0x12 < s.dev.irq.raw.length ∧ (b.take 2).map BitVec.toNat ≠ [0xA5, 0x5A]) ∧
    (∃ (s : State) (i : Nat), i < 12 ∧ i < s.dev.sio.ports.length ∧ s.regs.en 0x12 = true ∧ s.regs.bit F.SIO_CFG_PORT_EN i = true) ∧
    (∃ (s : State) (mac : Nat) (g : Nat) (udp : Nat), s.regs.en (0x22 + mac) = true ∧ g < 16 ∧ s.regs.on F.ETH_GRP_CFG_EN mac g = 1 ∧ s.regs.on F.ETH_GRP_CFG_PORT mac g = udp ∧ (∃ c ∈ s.dev.descr.sources, c.portKind = 1 ∧ c.port = mac ∧ c.matchV % 65536 = udp)) :=
  ⟨⟨st id [(F.SIO_CFG_PORT_EN, 0, 0, 1)], 0, [36, 65], by decide +kernel⟩,
   ⟨st id [(F.SIO_CFG_PORT_EN, 0, 0, 1)], 0, by decide +kernel⟩,
   ⟨stDescr id [(F.ETH_GRP_CFG_EN, 0, 0, 1), (F.ETH_GRP_CFG_PORT, 0, 0, 7)], 0, 0, 7, by decide +kernel⟩⟩

/-- States and operands that meet the hypotheses of Obligations.AnalogChainAndSsiWords, part by part. -/
theorem witness_AnalogChainAndSsiWords :
    (∃ (s : State) (i : Nat), let m := i / 2; let x := s.dev.modulator m; i < 16 ∧ m < s.dev.flt.mods.length ∧ i < s.dev.src.ain.length ∧ fltOn s.regs m = true ∧ s.dev.clk.lock.testBit 4 = true ∧ x.sel = i % 2 ∧ x.nextOut + groupDelay (fltRate s.regs m) ≤ s.dev.tb0) ∧
    (∃ (s : State) (i : Nat), i < 16 ∧ fltOn s.regs (i / 2) = true ∧ s.dev.clk.lock.testBit 4 = true ∧ (s.dev.modulator (i / 2)).sel = i % 2 ∧ (s.dev.modulator (i / 2)).settle = 0 ∧ s.dev.flt.valid.testBit i = false ∧ 0x10 < s.dev.irq.raw.length) ∧
    (∃ (s : State) (m : Nat), m < 8 ∧ m < s.dev.flt.mods.length ∧ fltOn s.regs m = true ∧ s.regs.get F.FLT_MOD_CFG_SCAN (m / 4) (m % 4) = 1 ∧ s.regs.get F.FLT_MOD_CFG_DWELL (m / 4) (m % 4) ≤ (s.dev.modulator m).turn ∧ 0x10 < s.dev.irq.raw.length) ∧
    (∃ (s : State), s.dev.awake = true ∧ s.dev.tb0 % nsPerSec < 5 ∧ 0x10 < s.dev.irq.raw.length) ∧
    (∃ (s : State) (i : Nat) (l : List Bool), ssiFits s.regs i l s.dev = true ∧ i < s.dev.enc.ssi.length) :=
  ⟨⟨st id [(F.FLT_MOD_CFG_EN, 0, 0, 1)] |> later 250000000, 0, by dsimp only; decide +kernel⟩,
   ⟨st id [(F.FLT_MOD_CFG_EN, 0, 0, 1)], 0, by decide +kernel⟩,
   ⟨st (fun d => { d with flt := { d.flt with mods := List.replicate 8 { turn := 70000 } } }) [(F.FLT_MOD_CFG_EN, 0, 0, 1), (F.FLT_MOD_CFG_SCAN, 0, 0, 1)], 0, by decide +kernel⟩,
   ⟨st id, by decide +kernel⟩,
   ⟨st (fun d => { d with enc := { d.enc with ssi := modAt d.enc.ssi 0 fun _ => { reqAt := some 0 } } }), 0, List.replicate (ssiBits (st id).regs 0) true, by decide +kernel⟩⟩

/-- States and operands that meet the hypotheses of Obligations.TileFaultsAndOverruns, part by part. -/
theorem witness_TileFaultsAndOverruns :
    (∃ (s : State) (k : Nat), k < s.dev.tileCount ∧ k < s.dev.msn.tiles.length ∧ (s.dev.tile k).st ≠ .faulty ∧ (s.dev.tile k).st ≠ .off ∧ 7 < s.dev.irq.raw.length) ∧
    (∃ (s : State) (j : Nat) (us : Nat), j < s.dev.msn.jobs.length ∧ 5 * jobBound s.regs s.dev j < 4 * us ∧ (s.dev.job j).tiles ≠ [] ∧ 7 < s.dev.irq.raw.length) ∧
    (∃ (s : State) (v : Nat), let k := v % 16; s.regs.bit F.MSN_DIAG_CTL_EN = true ∧ v.testBit 4 = true ∧ (s.dev.tile k).st = .faulty ∧ k < s.dev.tileCount ∧ k < s.dev.msn.tiles.length) ∧
    (∃ (s : State), s.regs.bit F.MSN_DIAG_CTL_EN = false) :=
  ⟨⟨st id, 3, by decide +kernel⟩,
   ⟨st (fun d => { d with msn := { d.msn with jobs := modAt d.msn.jobs 2 fun j => { j with tiles := [3] } } }), 2, 60000, by decide +kernel⟩,
   ⟨st (fun d => { d with msn := { d.msn with tiles := modAt d.msn.tiles 3 fun _ => { st := .faulty } } }) [(F.MSN_DIAG_CTL_EN, 0, 0, 1)], 19, by dsimp only; decide +kernel⟩,
   ⟨st id [(F.MSN_DIAG_CTL_EN, 0, 0, 0)], by decide +kernel⟩⟩

/-- States and operands that meet the hypotheses of Obligations.BankErrorsAndCopies, part by part. -/
theorem witness_BankErrorsAndCopies :
    (∃ (s : State) (b : Nat), b < s.dev.bankCount ∧ b < s.dev.msn.banks.length ∧ (s.dev.bank b).st ≠ .faulty) ∧
    (∃ (s : State) (b : Nat), b < s.dev.bankCount ∧ b < s.dev.msn.banks.length ∧ (s.dev.bank b).st ≠ .faulty ∧ (s.dev.bank b).copyTo = none ∧ (s.dev.bank b).use ≠ 2 ∧ (s.dev.bank b).use ≠ 3 ∧ (s.dev.bank b).use ≠ 6 ∧ 7 < s.dev.irq.raw.length) ∧
    (∃ (s : State) (b : Nat), b < s.dev.bankCount ∧ b < s.dev.msn.banks.length ∧ (s.dev.bank b).st ≠ .faulty ∧ (s.dev.bank b).use = 2 ∧ s.dev.mde.dstate = .run) ∧
    (∃ (s : State) (b : Nat), b < s.dev.msn.banks.length ∧ (s.dev.bank b).copyTo.isSome = true) :=
  ⟨⟨st id, 3, by decide +kernel⟩,
   ⟨st id, 3, by decide +kernel⟩,
   ⟨st (fun d => { d with msn := { d.msn with banks := modAt d.msn.banks 3 fun _ => { use := 2 } } }), 3, by decide +kernel⟩,
   ⟨st (fun d => { d with msn := { d.msn with banks := modAt d.msn.banks 3 fun _ => { copyTo := some 4 } } }), 3, by decide +kernel⟩⟩

/-- States and operands that meet the hypotheses of Obligations.RerunsAndLostTargets, part by part. -/
theorem witness_RerunsAndLostTargets :
    (∃ (s : State) (x : Rerun), s.dev.mde.cyc.running = true ∧ s.dev.clk.lock.testBit 1 = true ∧ s.dev.fus.rerun = some x) ∧
    (∃ (s : State) (o : Nat) (x : Rerun), s.dev.mde.cyc.running = true ∧ s.dev.clk.lock.testBit 1 = true ∧ 1 ≤ o ∧ o - 1 < s.dev.fus.tgt.length ∧ (s.dev.tgt o).rerun = some x) ∧
    (∃ (s : State) (o : Nat), 1 ≤ o ∧ o - 1 < s.dev.fus.tgt.length ∧ (s.dev.tgt o).valid = true ∧ 9 < s.dev.irq.raw.length ∧ (∀ a, (s.dev.tgt o).posAt = some a → a + nsOf32 (s.regs.f32 F.FUS_TGT_TIMEOUT_TGT_TIMEOUT o) ≤ s.dev.tb0)) :=
  ⟨⟨st (fun d => { d with fus := { d.fus with rerun := some { depth := 3 } } }), { depth := 3 }, by decide +kernel⟩,
   ⟨st (fun d => { d with fus := { d.fus with tgt := modAt d.fus.tgt 1 fun x => { x with rerun := some { depth := 3 } } } }), 2, { depth := 3 }, by decide +kernel⟩,
   ⟨st (fun d => { d with fus := { d.fus with tgt := modAt d.fus.tgt 1 fun x => { x with valid := true } } }), 2, by exact ⟨by decide +kernel, by decide +kernel, by decide +kernel, by decide +kernel, of_option (by decide +kernel)⟩⟩⟩

/-- States and operands that meet the hypotheses of Obligations.ConfigurationLoadControl, part by part. -/
theorem witness_ConfigurationLoadControl :
    (∃ (s : State), s.dev.cfg.phase.inHand = false ∧ s.dev.mde.dstate ≠ .reset ∧ s.dev.mde.dstate ≠ .boot) ∧
    (∃ (s : State), s.dev.cfg.phase.inHand = true) ∧
    (∃ (s : State), s.dev.cfg.phase.inHand = true) ∧
    (∃ (s : State) (a : Nat), 0x03000000 ≤ a ∧ a < 0x03100000 ∧ 6 < s.dev.irq.raw.length) :=
  ⟨⟨st id, by decide +kernel⟩,
   ⟨st (fun d => { d with cfg := { d.cfg with phase := .checking } }), by decide +kernel⟩,
   ⟨st (fun d => { d with cfg := { d.cfg with phase := .pending } }), by decide +kernel⟩,
   ⟨st (fun d => { d with cfg := { d.cfg with phase := .checking } }), 0x03000005, by decide +kernel⟩⟩

/-- States and operands that meet the hypotheses of Obligations.ConfigurationChecksAndSlots, part by part. -/
theorem witness_ConfigurationChecksAndSlots :
    (∃ (s : State), s.dev.cfg.phase = .checking ∧ 6 < s.dev.irq.raw.length) ∧
    (∃ (s : State), s.dev.cfg.phase = .writing ∧ s.dev.mde.dstate ≠ .ready ∧ segOk s.regs s.dev = true ∧ s.dev.cfg.slot ≤ 1 ∧ 6 < s.dev.irq.raw.length) ∧
    (∃ (s : State), s.dev.cfg.phase = .writing ∧ segOk s.regs s.dev = false) :=
  ⟨⟨st (fun d => { d with cfg := { d.cfg with phase := .checking } }), by decide +kernel⟩,
   ⟨st (fun d => { d with cfg := { d.cfg with phase := .writing }, hld := { d.hld with mramGood := some 0 } }) [(F.HLD_E_REQ_E_REQ, 0, 0, 0)], by decide +kernel⟩,
   ⟨st (fun d => { d with cfg := { d.cfg with phase := .writing } }), by decide +kernel⟩⟩

/-- States and operands that meet the hypotheses of Obligations.LoadStateAndKeys, part by part. -/
theorem witness_LoadStateAndKeys :
    (∃ (s : State), s.dev.mde.dstate = .load ∧ (pickSlot s.regs s.dev).isNone = true ∧ s.dev.cfg.active = none) ∧
    (∃ (s : State) (i : Nat) (a : Descr), s.dev.mde.dstate = .load ∧ pickSlot s.regs s.dev = some (i, a) ∧ s.dev.mde.dorm ≠ .waking) ∧
    (∃ (s : State), let k := s.regs.get F.CFG_KEY_SEL_KEY; let w := s.regs.get F.CFG_KEY_SEL_WORD; s.dev.mde.dstate = .ready ∧ s.regs.lockOpen 6 s.dev.now = true ∧ 16 * k + w < s.dev.cfg.keyStage.length) ∧
    (∃ (s : State), s.regs.lockOpen 6 s.dev.now = false) :=
  ⟨⟨st (fun d => { d with mde := { d.mde with dstate := .load } }), by decide +kernel⟩,
   ⟨st (fun d => { d with mde := { d.mde with dstate := .load }, cfg := { d.cfg with slot0 := { full := minImage } } }) [(F.CFG_POLICY_SIG_REQ, 0, 0, 0)], 0, describe minImage [], by decide +kernel⟩,
   ⟨{ stLock 6 with dev := { (stLock 6).dev with mde := { dstate := .ready } } }, by dsimp only; decide +kernel⟩,
   ⟨st id, by decide +kernel⟩⟩

/-- States and operands that meet the hypotheses of Obligations.RunAndSafeHold, part by part. -/
theorem witness_RunAndSafeHold :
    (∃ (s : State), s.dev.mde.dstate = .ready ∧ s.dev.cfg.active.isSome = true) ∧
    (∃ (s : State), (s.dev.mde.dstate ≠ .ready ∨ s.dev.cfg.active = none)) ∧
    (∃ (s : State), s.regs.lockOpen 5 s.dev.now = true ∧ s.dev.mde.dstate = .run) ∧
    (∃ (s : State), s.regs.lockOpen 5 s.dev.now = false) ∧
    (∃ (s : State) (w : Nat), w < 3 ∧ s.dev.mde.dstate = .run) :=
  ⟨⟨stDescr (fun d => { d with mde := { d.mde with dstate := .ready } }), by decide +kernel⟩,
   ⟨st id, by decide +kernel⟩,
   ⟨stLock 5, by decide +kernel⟩,
   ⟨st id, by decide +kernel⟩,
   ⟨st id, 2, by decide +kernel⟩⟩

/-- States and operands that meet the hypotheses of Obligations.CommandGivenAndTaken, part by part. -/
theorem witness_CommandGivenAndTaken :
    (∃ (s : State), s.regs.lockOpen 0x27 s.dev.now = true ∧ s.dev.isPrimary = true) ∧
    (∃ (s : State), s.regs.lockOpen 0x27 s.dev.now = false) ∧
    (∃ (s : State) (p : Nat), s.dev.pair.permit = some p ∧ p + s.dev.permitTicks ≤ s.dev.now) ∧
    (∃ (s : State), s.dev.mde.dstate = .run ∧ s.dev.mde.cyc.running = true ∧ s.dev.linkUp = true ∧ s.dev.ndl.idClash = false ∧ 0x27 < s.dev.irq.raw.length ∧ (s.dev.pair.state = .stbySyncing ∨ s.dev.pair.state = .stbySynced)) ∧
    (∃ (s : State) (t0 : Nat), silentNow s.regs s.dev = true ∧ s.dev.pair.silentAt = some t0 ∧ t0 + 750000 ≤ s.dev.now ∧ s.dev.ndl.idClash = false ∧ 0x27 < s.dev.irq.raw.length) ∧
    (∃ (s : State), s.dev.pair.state = .seeking ∧ s.dev.linkUp = false ∧ s.dev.pair.seekAt + ticksS (s.regs.get F.PAIR_CFG_SEEK) ≤ s.dev.now ∧ s.dev.ndl.idClash = false) :=
  ⟨⟨{ stPair id with regs := (stLock 0x27).regs }, by decide +kernel⟩,
   ⟨stPair id, by decide +kernel⟩,
   ⟨stPair (fun d => { d with pair := { d.pair with permit := some 0 } }) |> later 10000000, 0, by decide +kernel⟩,
   ⟨stPair (fun d => { d with pair := { d.pair with state := .stbySynced, outputs := false } }), by decide +kernel⟩,
   ⟨stPair (fun d => { d with ndl := { d.ndl with link := false }, pair := { d.pair with state := .degraded, silentAt := some 0, outputs := false } }) |> later 1000000, 0, by decide +kernel⟩,
   ⟨stPair (fun d => { d with ndl := { d.ndl with link := false }, pair := { d.pair with state := .seeking, outputs := false } }) |> later 10000000000, by decide +kernel⟩⟩

/-- States and operands that meet the hypotheses of Obligations.Heartbeat, part by part. -/
theorem witness_Heartbeat :
    (∃ (s : State), s.dev.pair.permit.isSome = true ∧ s.dev.pair.hbOutAt + 500000 ≤ s.dev.tb3) ∧
    (∃ (s : State), s.dev.pair.permit = none) ∧
    (∃ (s : State) (t0 : Nat), s.dev.pair.hbInAt = some t0) ∧
    (∃ (s : State) (t0 : Nat), s.dev.pair.hbInAt = some t0 ∧ t0 + 300000 ≤ s.dev.now ∧ 0x27 < s.dev.irq.raw.length) :=
  ⟨⟨stPair (fun d => { d with pair := { d.pair with permit := some 0 } }) |> later 1000000, by decide +kernel⟩,
   ⟨st id, by decide +kernel⟩,
   ⟨stPair (fun d => { d with pair := { d.pair with hbInAt := some 0, hbInRun := 2 } }) |> later 125000, 0, by decide +kernel⟩,
   ⟨stPair (fun d => { d with ndl := { d.ndl with link := false }, pair := { d.pair with hbInAt := some 0, hbIn := true } }) |> later 400000, 0, by decide +kernel⟩⟩

/-- States and operands that meet the hypotheses of Obligations.LinkUpAndDown, part by part. -/
theorem witness_LinkUpAndDown :
    (∃ (s : State), ndlOn s.regs s.dev = true ∧ s.dev.ndl.link = false ∧ 0x26 < s.dev.irq.raw.length) ∧
    (∃ (s : State), s.dev.ndl.link = true ∧ 0x26 < s.dev.irq.raw.length) ∧
    (∃ (s : State), ndlOn s.regs s.dev = true ∧ s.dev.ndl.link = false ∧ (∀ t0, s.dev.ndl.downAt = some t0 → t0 + 250000 ≤ s.dev.now)) ∧
    (∃ (s : State), s.dev.ndl.link = true ∧ s.dev.ndl.lane0 = true ∧ s.dev.ndl.lane1 = true ∧ s.dev.tw812 = false ∧ 0x26 < s.dev.irq.raw.length) ∧
    (∃ (s : State), s.dev.ndl.link = true ∧ s.dev.ndl.lastTx + 2500 ≤ s.dev.now) :=
  ⟨⟨stPair (fun d => { d with ndl := { d.ndl with link := false }, pair := { d.pair with state := .degraded } }) [(F.NDL_CFG_EN, 0, 0, 1)] |> later 500000, by decide +kernel⟩,
   ⟨stPair id, by decide +kernel⟩,
   ⟨stPair (fun d => { d with ndl := { d.ndl with link := false } }) [(F.NDL_CFG_EN, 0, 0, 1)] |> later 500000, by exact ⟨by decide +kernel, by decide +kernel, of_option (by decide +kernel)⟩⟩,
   ⟨stPair (fun d => { d with ndl := { d.ndl with lane0 := true, lane1 := true } }), by decide +kernel⟩,
   ⟨stPair id |> later 3000, by decide +kernel⟩⟩

/-- States and operands that meet the hypotheses of Obligations.PairTime, part by part. -/
theorem witness_PairTime :
    (∃ (s : State), s.dev.linkUp = true ∧ s.dev.followsPartner = true) ∧
    (∃ (s : State), s.dev.linkUp = true ∧ s.dev.isPrimary = true) ∧
    (∃ (s : State), s.dev.linkUp = true ∧ s.dev.followsPartner = true) :=
  ⟨⟨stPair (fun d => { d with pair := { d.pair with state := .stbySyncing, outputs := false } }), by decide +kernel⟩,
   ⟨stPair (fun d => { d with pair := { d.pair with state := .primSyncing } }), by decide +kernel⟩,
   ⟨stPair (fun d => { d with pair := { d.pair with state := .stbySyncing, outputs := false } }), by decide +kernel⟩⟩

/-- States and operands that meet the hypotheses of Obligations.ContinuityParts, part by part. -/
theorem witness_ContinuityParts :
    (∃ (s : State), s.dev.single = false ∧ s.dev.mde.dstate = .run ∧ s.dev.stbyLinked = true ∧ s.dev.ndl.idClash = false ∧ s.dev.mde.cyc.running = true ∧ s.dev.pair.cutPartGot = false ∧ s.dev.now ≤ s.dev.mde.cyc.cutTick + 5000) ∧
    (∃ (s : State), s.dev.mde.dstate = .run ∧ s.dev.stbyLinked = true ∧ s.dev.mde.cyc.running = true ∧ s.dev.pair.cutPartGot = false ∧ s.dev.mde.cyc.cutTick + 5000 < s.dev.now) ∧
    (∃ (s : State), let c := s.dev.mde.cyc; c.running = true ∧ c.setTaken = false ∧ c.deadlineDone = true ∧ c.cutTick + 90 * s.dev.centT ≤ s.dev.now) ∧
    (∃ (s : State) (b : BulkIn), s.dev.mde.dstate = .run ∧ s.dev.stbyLinked = true ∧ s.dev.mde.cyc.running = true ∧ b.ok = true ∧ s.dev.pair.bulkBad = false ∧ s.dev.pair.bulkDone = false ∧ s.dev.now ≤ s.dev.mde.cyc.cutTick + 95 * s.dev.centT ∧ b.seq = s.dev.pair.seqOwn ∧ (∀ i, i < max 1 b.frags → i = b.frag ∨ i ∈ s.dev.pair.bulkFrags)) ∧
    (∃ (s : State) (b : BulkIn), s.dev.mde.dstate = .run ∧ s.dev.stbyLinked = true ∧ s.dev.mde.cyc.running = true ∧ b.ok = false ∧ s.dev.pair.bulkDone = false ∧ s.dev.pair.bulkDue = true) :=
  ⟨⟨stPair (fun d => { d with pair := { d.pair with state := .stbySynced, outputs := false } }), by decide +kernel⟩,
   ⟨stPair (fun d => { d with pair := { d.pair with state := .stbySynced, outputs := false, cutRun := 2 } }) |> later 6000, by decide +kernel⟩,
   ⟨stPair (fun d => { d with mde := { d.mde with cyc := { d.mde.cyc with deadlineDone := true } } }) |> later 4600000, by dsimp only; decide +kernel⟩,
   ⟨stPair (fun d => { d with pair := { d.pair with state := .stbySynced, outputs := false, seqOwn := 3, bulkFrags := [0] } }), { seq := 3, frag := 1, frags := 2, ok := true }, by decide +kernel⟩,
   ⟨stPair (fun d => { d with pair := { d.pair with state := .stbySynced, outputs := false, bulkDue := true } }), { ok := false }, by decide +kernel⟩⟩

/-- States and operands that meet the hypotheses of Obligations.TakesOfCommand, part by part. -/
theorem witness_TakesOfCommand :
    (∃ (s : State) (x : TakeSt), s.dev.pair.take = some x ∧ x.gaining = false ∧ x.handed = false ∧ s.dev.linkUp = true ∧ s.dev.now ≤ s.dev.mde.cyc.cutTick + 5000) ∧
    (∃ (s : State) (x : TakeSt), s.dev.pair.take = some x ∧ x.gaining = true ∧ x.handed = true ∧ s.dev.linkUp = true ∧ s.dev.pair.awaitHandover = true) ∧
    (∃ (s : State) (x : TakeSt), s.dev.pair.take = some x ∧ x.handed = true ∧ s.dev.pair.checkLeft = 0 ∧ s.dev.pair.checkBad = false ∧ 0x27 < s.dev.irq.raw.length) ∧
    (∃ (s : State) (e : Nat), s.dev.pair.relayEnd = some e ∧ e ≤ s.dev.now) :=
  ⟨⟨stPair (fun d => { d with pair := { d.pair with take := some {} } }), {}, by decide +kernel⟩,
   ⟨stPair (fun d => { d with pair := { d.pair with take := some { gaining := true, handed := true }, awaitHandover := true, outputs := false } }), { gaining := true, handed := true }, by decide +kernel⟩,
   ⟨stPair (fun d => { d with pair := { d.pair with take := some { gaining := true, handed := true } } }), { gaining := true, handed := true }, by decide +kernel⟩,
   ⟨stPair (fun d => { d with pair := { d.pair with relayEnd := some 0 }, aou := { d.aou with outs := modAt d.aou.outs 3 fun o => { o with relayHold := some 7 } } }), 0, by decide +kernel⟩⟩

/-- States and operands that meet the hypotheses of Obligations.StillCaptures, part by part. -/
theorem witness_StillCaptures :
    (∃ (s : State), s.dev.linkUp = true) ∧
    (∃ (s : State) (at_ : Nat) (mine : Bool), s.dev.pair.stillReq = some (at_, mine) ∧ s.dev.pair.stillT ≤ s.dev.tb0 ∧ s.dev.pair.stillOwn = none) ∧
    (∃ (s : State) (at_ : Nat), s.dev.pair.stillReq = some (at_, true) ∧ 0x27 < s.dev.irq.raw.length) :=
  ⟨⟨stPair id, by decide +kernel⟩,
   ⟨stPair (fun d => { d with pair := { d.pair with stillReq := some (0, true) } }), 0, true, by decide +kernel⟩,
   ⟨stPair (fun d => { d with pair := { d.pair with stillReq := some (0, true), stillOwn := some default } }), 0, by decide +kernel⟩⟩

/-- States and operands that meet the hypotheses of Obligations.GlobalOperations, part by part. -/
theorem witness_GlobalOperations :
    (∃ (s : State), s.dev.pair.glb ≠ .waiting ∧ s.dev.pair.glb ≠ .running ∧ s.dev.commands = false ∧ 0x27 < s.dev.irq.raw.length) ∧
    (∃ (s : State), s.dev.pair.glb ≠ .waiting ∧ s.dev.pair.glb ≠ .running ∧ s.dev.commands = true) ∧
    (∃ (s : State), s.dev.pair.glb = .running ∧ glbAcked s.regs s.dev = true ∧ 0x27 < s.dev.irq.raw.length) ∧
    (∃ (s : State), s.dev.pair.glbAt + 250000 * s.regs.get F.PAIR_GLB_CTL_TIMEOUT ≤ s.dev.now ∧ 0x27 < s.dev.irq.raw.length) :=
  ⟨⟨stPair (fun d => { d with pair := { d.pair with state := .stbySynced, outputs := false } }), by decide +kernel⟩,
   ⟨stPair id, by decide +kernel⟩,
   ⟨stPair (fun d => { d with pair := { d.pair with glb := .running } }), by decide +kernel⟩,
   ⟨stPair (fun d => { d with pair := { d.pair with glb := .running } }) |> later 1000000000, by decide +kernel⟩⟩

/-- States and operands that meet the hypotheses of Obligations.ResetCauses, part by part. -/
theorem witness_ResetCauses :
    (∃ (s : State), s.dev.mde.dstate ≠ .reset) ∧
    (∃ (s : State), s.regs.lockOpen 0 s.dev.now = true) ∧
    (∃ (s : State), s.regs.lockOpen 0 s.dev.now = false) ∧
    (∃ (s : State) (u : Nat), s.dev.mde.dstate ≠ .reset ∧ s.dev.clk.lock.testBit 2 = false ∧ at' s.dev.clk.lostAt 2 = some u ∧ u + 25000000 ≤ s.dev.now) ∧
    (∃ (s : State) (u : Nat), s.dev.sys.pfailAt = some u ∧ (s.dev.hld.segment = true ∨ u + 2500 ≤ s.dev.now)) ∧
    (∃ (s : State) (u : Nat), s.dev.sys.pfailAt = some u ∧ s.dev.hld.segment = false ∧ s.dev.now < u + 2500) ∧
    (∃ (s : State) (ts : List F32), s.dev.mde.dstate ≠ .reset ∧ s.dev.mde.dorm = .none ∧ (∃ x ∈ ts, (F32.ofInt 125).le x = true)) :=
  ⟨⟨st id, by decide +kernel⟩,
   ⟨stLock 0, by decide +kernel⟩,
   ⟨st id, by decide +kernel⟩,
   ⟨st (fun d => { d with clk := { d.clk with lock := 0xFB, lostAt := modAt d.clk.lostAt 2 fun _ => some 0 } }) |> later 25000000, 0, by decide +kernel⟩,
   ⟨st (fun d => { d with sys := { d.sys with pfailAt := some 0 } }) |> later 3000, 0, by decide +kernel⟩,
   ⟨st (fun d => { d with sys := { d.sys with pfailAt := some 0 } }) |> later 1000, 0, by decide +kernel⟩,
   ⟨st id, [F32.ofInt 20, F32.ofInt 125], by decide +kernel⟩⟩

/-- States and operands that meet the hypotheses of Obligations.BootMicrocodeAndDormant, part by part. -/
theorem witness_BootMicrocodeAndDormant :
    (∃ (s : State), s.dev.mde.dstate = .reset ∧ s.dev.mde.dorm = .none ∧ s.dev.sys.tripped = false ∧ s.dev.sys.pfailAt = none ∧ 5 < s.dev.irq.raw.length) ∧
    (∃ (s : State), (s.dev.mde.dstate ≠ .reset ∨ s.dev.sys.tripped = true)) ∧
    (∃ (s : State), s.dev.mde.dstate = .boot ∧ s.dev.sys.bootStat ≠ 3 ∧ 5 < s.dev.irq.raw.length) ∧
    (∃ (s : State), s.dev.sys.ucPhase = .checking ∧ 0 < s.dev.irq.raw.length) ∧
    (∃ (s : State), s.dev.mde.dorm = .descent ∧ batchesDone s.dev = true) ∧
    (∃ (s : State), (s.dev.mde.dorm ≠ .descent ∨ batchesDone s.dev = false)) ∧
    (∃ (s : State) (p : Bool), wakeOk p s.regs s.dev = true) ∧
    (∃ (s : State) (p : Bool), wakeOk p s.regs s.dev = false) :=
  ⟨⟨st (fun d => { d with mde := { d.mde with dstate := .reset } }), by decide +kernel⟩,
   ⟨st id, by decide +kernel⟩,
   ⟨st (fun d => { d with mde := { d.mde with dstate := .boot } }), by decide +kernel⟩,
   ⟨st (fun d => { d with sys := { d.sys with ucPhase := .checking } }), by decide +kernel⟩,
   ⟨st (fun d => { d with mde := { d.mde with dorm := .descent } }), by decide +kernel⟩,
   ⟨st id, by decide +kernel⟩,
   ⟨st (fun d => { d with mde := { d.mde with dorm := .asleep } }) [(F.MDE_DORM_CFG_WAKE_PIN, 0, 0, 1)], true, by decide +kernel⟩,
   ⟨st id [(F.MDE_DORM_CFG_WAKE_TIMER, 0, 0, 0)], false, by decide +kernel⟩⟩

/-- States and operands that meet the hypotheses of Obligations.PowerAndTemperature, part by part. -/
theorem witness_PowerAndTemperature :
    (∃ (s : State), s.dev.sys.pfailAt = none ∧ s.dev.mde.dstate ≠ .reset ∧ 1 < s.dev.irq.raw.length) ∧
    (∃ (s : State) (rail : Nat), (∃ x ∈ railDomains rail, s.dev.pwr.on.testBit x = true) ∧ rail < s.dev.pwr.railV.length ∧ 1 < s.dev.irq.raw.length) ∧
    (∃ (s : State), s.dev.mde.dstate ≠ .reset ∧ s.dev.pwr.on.testBit 14 = true ∧ s.dev.pwr.pgood.testBit 14 = true) ∧
    (∃ (s : State), s.dev.pwr.on.testBit 1 = true ∧ s.dev.pwr.pgood.testBit 1 = true ∧ 1 < s.dev.irq.raw.length) ∧
    (∃ (s : State) (n : Nat), n < 16 ∧ s.dev.pwr.on.testBit n = true ∧ s.dev.pwr.pgood.testBit n = false ∧ 1 < s.dev.irq.raw.length) ∧
    (∃ (s : State) (ts : List F32), s.dev.mde.dstate ≠ .reset ∧ s.dev.mde.dorm = .none ∧ (∀ x ∈ ts, (F32.ofInt 125).le x = false) ∧ 0 < s.dev.irq.raw.length) ∧
    (∃ (s : State) (port : Port) (v : Nat), s.dev.mde.dstate ≠ .reset ∧ s.dev.tw812 = false ∧ 1 < s.dev.irq.raw.length ∧ (∃ i, i < 6 ∧ (domReq s.regs s.dev).testBit i ≠ (v % 64).testBit i ∧ domOk port s.regs s.dev i ((v % 64).testBit i) = false)) ∧
    (∃ (s : State) (port : Port) (v : Nat), s.dev.mde.dstate ≠ .reset ∧ s.dev.tw812 = false ∧ (∀ i, i < 6 → (domReq s.regs s.dev).testBit i ≠ (v % 64).testBit i → domOk port s.regs s.dev i ((v % 64).testBit i) = true ∧ (v % 64).testBit i = true)) :=
  ⟨⟨stPair id, by decide +kernel⟩,
   ⟨st id, 9, by decide +kernel⟩,
   ⟨st id, by decide +kernel⟩,
   ⟨st id, by decide +kernel⟩,
   ⟨st (fun d => { d with pwr := { d.pwr with pgood := 0x7FFF } }), 15, by decide +kernel⟩,
   ⟨st id, [F32.ofInt 20, F32.ofInt 118], by decide +kernel⟩,
   ⟨st id, .qspi, 14, by decide +kernel⟩,
   ⟨st id [(F.PWR_DOM_REQ_COURSE, 0, 0, 14)], .qspi, 63, by decide +kernel⟩⟩

/-- States and operands that meet the hypotheses of Obligations.ClocksAndSelfTest, part by part. -/
theorem witness_ClocksAndSelfTest :
    (∃ (s : State) (p : Nat), s.dev.mde.dstate ≠ .reset ∧ p < 5 ∧ p ≠ 3 ∧ s.dev.clk.lock.testBit p = true ∧ p < s.dev.clk.losses.length ∧ p < s.dev.clk.lostAt.length ∧ 2 < s.dev.irq.raw.length) ∧
    (∃ (s : State) (p : Nat) (u : Nat), s.dev.mde.dstate ≠ .reset ∧ p < 4 ∧ s.dev.clk.lock.testBit p = false ∧ s.dev.clk.refOk = true ∧ at' s.dev.clk.lostAt p = some u ∧ p < s.dev.clk.lastUs.length ∧ p < s.dev.clk.lostAt.length ∧ 2 < s.dev.irq.raw.length) ∧
    (∃ (s : State) (p : Nat), p < 6 ∧ s.dev.clk.refOk = false ∧ s.dev.clk.lock.testBit p = false) ∧
    (∃ (s : State), s.dev.mde.dstate ≠ .reset ∧ s.dev.clk.refOk = true ∧ 2 < s.dev.irq.raw.length) ∧
    (∃ (s : State), s.dev.mde.dstate ≠ .reset ∧ s.dev.clk.serOk = true ∧ 2 < s.dev.irq.raw.length) ∧
    (∃ (s : State) (k : Nat), k < 3 ∧ s.dev.mde.dstate ≠ .reset ∧ refHas s.dev k = false ∧ 2 < s.dev.irq.raw.length) ∧
    (∃ (s : State) (c : Nat) (i : Nat), c < 6 ∧ 2 ≤ c ∧ s.dev.awake = true ∧ s.regs.bit F.GRT_CFG_EN = true ∧ grtClassOn s.regs c = true ∧ i < grtItems s.dev.tw812 c ∧ s.dev.grt.running = [] ∧ grtDue s.regs s.dev c i = true ∧ grtFree s.dev c i = true ∧ grtFits s.dev c = true) ∧
    (∃ (s : State), s.regs.bit F.GRT_CFG_EN = false) ∧
    (∃ (s : State) (g : GrtStep), s.dev.grt.running = [g] ∧ g.again = false) ∧
    (∃ (s : State) (g : GrtStep), s.dev.grt.running = [g] ∧ g.again = true ∧ 3 ≤ g.cls ∧ g.cls < s.dev.grt.classes.length ∧ 0x2C < s.dev.irq.raw.length) ∧
    (∃ (s : State), s.dev.awake = true ∧ s.regs.bit F.GRT_CFG_EN = true ∧ s.dev.grt.passAt + grtPassNs s.regs ≤ s.dev.tb3 ∧ 0x2C < s.dev.irq.raw.length) :=
  ⟨⟨st id, 2, by decide +kernel⟩,
   ⟨st (fun d => { d with clk := { d.clk with lock := 0xFB, lostAt := modAt d.clk.lostAt 2 fun _ => some 0 } }) |> later 25000, 2, 0, by decide +kernel⟩,
   ⟨st (fun d => { d with clk := { d.clk with lock := 0, refOk := false } }), 2, by decide +kernel⟩,
   ⟨st id, by decide +kernel⟩,
   ⟨st id, by decide +kernel⟩,
   ⟨st (fun d => { d with clk := { d.clk with serOk := false } }), 1, by decide +kernel⟩,
   ⟨st id |> later 20000000000000, 3, 0, by decide +kernel⟩,
   ⟨st id [(F.GRT_CFG_EN, 0, 0, 0)], by decide +kernel⟩,
   ⟨st (fun d => { d with grt := { d.grt with running := [{ cls := 3, item := 1 }] } }), { cls := 3, item := 1 }, by decide +kernel⟩,
   ⟨st (fun d => { d with grt := { d.grt with running := [{ cls := 5, item := 1, again := true }] } }), { cls := 5, item := 1, again := true }, by decide +kernel⟩,
   ⟨st id |> later 20000000000000, by decide +kernel⟩⟩

/-- States and operands that meet the hypotheses of Obligations.IslandInputsAndOutputs, part by part. -/
theorem witness_IslandInputsAndOutputs :
    (∃ (s : State) (n : Nat), n < 8 ∧ s.dev.saf.counts n = true ∧ 0x28 < s.dev.irq.raw.length) ∧
    (∃ (s : State) (lvl : Bool), s.dev.saf.srst ≠ lvl) ∧
    (∃ (s : State) (n : Nat) (u : Nat), n < 8 ∧ n < s.dev.saf.ins.length ∧ (s.dev.saf.input n).runA = some u ∧ (s.dev.saf.input n).disc = false ∧ 0x28 < s.dev.irq.raw.length ∧ 95 * s.dev.saf.discTicks n ≤ 100 * (s.dev.now - u) + 12500000) ∧
    (∃ (s : State) (n : Nat) (u : Nat), (s.dev.saf.input n).runA = some u ∧ 100 * (s.dev.now - u) + 12500000 < 95 * s.dev.saf.discTicks n) ∧
    (∃ (s : State) (a : Nat) (b : Nat), s.dev.saf.srstAt ≠ none ∧ s.dev.saf.srst = false ∧ 50000000 ≤ a ∧ a ≤ 5000000000 ∧ 50000000 ≤ b ∧ b ≤ 5000000000 ∧ s.dev.saf.stA ≠ .halt ∧ 0x28 < s.dev.irq.raw.length) ∧
    (∃ (s : State) (a : Nat), s.dev.saf.srstAt ≠ none ∧ s.dev.saf.srst = false ∧ (a < 50000000 ∨ 5000000000 < a)) ∧
    (∃ (s : State) (u : Nat), s.dev.saf.srstAt = some u ∧ s.dev.saf.srst = true ∧ s.dev.saf.stuck = false ∧ s.dev.saf.srstClosed = false ∧ u + 1187500000 ≤ s.dev.now ∧ 0x28 < s.dev.irq.raw.length) ∧
    (∃ (s : State) (o : Nat), o < 4 ∧ o < s.dev.saf.outs.length ∧ (s.dev.saf.output o).onA = true ∧ s.dev.saf.tpEn o = true ∧ (s.dev.saf.output o).pulseA + 250000000 * (s.dev.saf.word false 12 / 2 ^ 16 % 2 ^ 10) * 95 / 100 ≤ s.dev.now) ∧
    (∃ (s : State) (o : Nat), o < 4 ∧ o < s.dev.saf.outs.length ∧ s.dev.saf.outEn false o = true ∧ (s.dev.saf.output o).fault = false ∧ s.dev.saf.stA = .run ∧ (s.dev.saf.output o).onA = true ∧ s.dev.saf.tpEn o = true ∧ (s.dev.saf.output o).pulseA + 250000000 * (s.dev.saf.word false 12 / 2 ^ 16 % 2 ^ 10) * 95 / 100 ≤ s.dev.now ∧ 0x28 < s.dev.irq.raw.length) ∧
    (∃ (s : State) (o : Nat) (chB : Bool), o < 4 ∧ o < s.dev.saf.outs.length ∧ s.dev.saf.outEn chB o = true ∧ (s.dev.saf.output o).fault = false ∧ s.dev.saf.stA = .run ∧ 0x28 < s.dev.irq.raw.length) :=
  ⟨⟨stSaf (fun x => { x with ins := modAt x.ins 0 fun _ => { aByA := true, bByA := true, aByB := true, bByB := true } }), 0, by decide +kernel⟩,
   ⟨stSaf id, true, by decide +kernel⟩,
   ⟨stSaf (fun x => { x with ins := modAt x.ins 0 fun i => { i with runA := some 0 } }) |> later 12000000, 0, 0, by decide +kernel⟩,
   ⟨stSaf (fun x => { x with ins := modAt x.ins 0 fun i => { i with runA := some 0 } }) |> later 1000000, 0, 0, by decide +kernel⟩,
   ⟨stSaf (fun x => { x with srstAt := some 0 }), 60000000, 5000000000, by decide +kernel⟩,
   ⟨stSaf (fun x => { x with srstAt := some 0 }), 5000000001, by decide +kernel⟩,
   ⟨stSaf (fun x => { x with srstAt := some 0, srst := true }) |> later 1200000000, 0, by decide +kernel⟩,
   ⟨stSaf (fun x => { x with outs := modAt x.outs 0 fun _ => { onA := true, onB := true } }) |> later 15000000000, 0, by decide +kernel⟩,
   ⟨stSaf (fun x => { x with outs := modAt x.outs 0 fun _ => { onA := true, onB := true } }) |> later 15000000000, 0, by decide +kernel⟩,
   ⟨stSaf id, 0, false, by decide +kernel⟩⟩

/-- States and operands that meet the hypotheses of Obligations.IslandChannelsAndConfiguration, part by part. -/
theorem witness_IslandChannelsAndConfiguration :
    (∃ (s : State), s.dev.saf.stA = .halt) ∧
    (∃ (s : State) (x : SafExch), s.dev.saf.stA ≠ .halt ∧ x.ok = true ∧ x.disagree = false ∧ x.clockOk = true ∧ x.goodA = true ∧ x.goodB = true) ∧
    (∃ (s : State) (x : SafExch), let twice := x.ok && x.disagree && s.dev.saf.disagree == 1; let late := !x.ok && s.dev.saf.missedEx == 2; s.dev.saf.stA ≠ .halt ∧ s.dev.saf.disagree < 2 ∧ 0x28 < s.dev.irq.raw.length ∧ (twice = true ∨ x.clockOk = false ∨ x.goodA = false ∨ x.goodB = false ∨ late = true)) ∧
    (∃ (s : State) (u : Nat), s.dev.saf.unlockAt = some u ∧ s.dev.saf.key = true ∧ s.dev.now ≤ u + 25000000) ∧
    (∃ (s : State) (v : Nat), (s.dev.saf.unlockAt = none ∨ v ≠ 0xC0DE ∨ s.dev.saf.key = false)) ∧
    (∃ (s : State) (u : Nat), s.dev.saf.unlockAt = some u ∧ u + 25000000 < s.dev.now) ∧
    (∃ (s : State), s.dev.saf.stA = .config ∧ 0x28 < s.dev.irq.raw.length) ∧
    (∃ (s : State), (s.dev.saf.stA ≠ .config ∨ s.dev.saf.key = true)) ∧
    (∃ (s : State), 15 < s.dev.saf.cfgA.length ∧ 15 < s.dev.saf.cfgB.length) ∧
    (∃ (s : State), (s.dev.mde.dstate = .reset ∨ s.dev.mde.dstate = .boot) ∧ 0x28 < s.dev.irq.raw.length) :=
  ⟨⟨stSaf (fun x => { x with stA := .halt }), by decide +kernel⟩,
   ⟨stSaf id, default, by decide +kernel⟩,
   ⟨stSaf (fun x => { x with disagree := 1 }), { disagree := true }, by dsimp only; decide +kernel⟩,
   ⟨stSaf (fun x => { x with key := true, unlockAt := some 0 }), 0, by decide +kernel⟩,
   ⟨stSaf id, 0, by decide +kernel⟩,
   ⟨stSaf (fun x => { x with unlockAt := some 0 }) |> later 25000001, 0, by decide +kernel⟩,
   ⟨stSaf (fun x => { x with stA := .config, stB := .config }), by decide +kernel⟩,
   ⟨stSaf id, by decide +kernel⟩,
   ⟨stSaf (fun x => { x with stA := .config, stB := .config }), by decide +kernel⟩,
   ⟨{ stSaf id with dev := { (stSaf id).dev with mde := { dstate := .boot } } }, by decide +kernel⟩⟩

/-- States and operands that meet the hypotheses of Obligations.EventRecords, part by part. -/
theorem witness_EventRecords :
    (∃ (s : State) (x : EvRec), s.dev.evt.queue = [x] ∧ s.dev.evt.rptPend = 0 ∧ s.dev.evt.due s.dev.now = true ∧ s.dev.mramOn = true ∧ segOk s.regs s.dev = true) ∧
    (∃ (s : State), s.dev.evt.queue ≠ [] ∧ s.dev.evt.due s.dev.now = true ∧ s.dev.mramOn = true ∧ segOk s.regs s.dev = true) ∧
    (∃ (s : State), s.dev.evt.waits = true ∧ s.dev.evt.due s.dev.now = true ∧ s.dev.mramOn = true ∧ segOk s.regs s.dev = false) ∧
    (∃ (s : State), s.dev.evt.lostNow ≠ 0 ∧ s.dev.evt.stopped = false ∧ s.dev.evt.queue.length < 2048 ∧ 0x29 < s.dev.irq.raw.length) ∧
    (∃ (s : State) (v : Nat), let c := v % 2 ^ 12; let y := s.dev.mkRec c { p0 := s.regs.get F.EVT_HOST_P0_P0, p1 := s.regs.get F.EVT_HOST_P12_P1, p2 := s.regs.get F.EVT_HOST_P12_P2, p3 := v / 2 ^ 16 % 256 } false; 0xF00 ≤ c ∧ c ≤ 0xFFE ∧ s.dev.evt.stopped = false ∧ s.dev.evt.lostNow = 0 ∧ s.dev.evt.queue.length < 2048 ∧ s.dev.evt.newest.any (fun o => mergeable (s.regs.get F.EVT_CFG_REPEAT_WIN) o y) = false) ∧
    (∃ (s : State) (v : Nat), let c := v % 2 ^ 12; 0xF00 ≤ c ∧ c ≤ 0xFFE ∧ s.dev.evt.stopped = false ∧ s.dev.evt.lostNow ≠ 0 ∧ s.dev.evt.queue.length < 2047) ∧
    (∃ (s : State) (v : Nat) (o : EvRec), let x := s.dev.mkRec (v % 2 ^ 12) { p0 := s.regs.get F.EVT_HOST_P0_P0, p1 := s.regs.get F.EVT_HOST_P12_P1, p2 := s.regs.get F.EVT_HOST_P12_P2, p3 := v / 2 ^ 16 % 256 } false; 0xF00 ≤ v % 2 ^ 12 ∧ v % 2 ^ 12 ≤ 0xFFE ∧ s.dev.evt.stopped = false ∧ s.dev.evt.lostNow = 0 ∧ s.dev.evt.queue.getLast? = some o ∧ mergeable (s.regs.get F.EVT_CFG_REPEAT_WIN) o x = true) ∧
    (∃ (s : State) (v : Nat), 0xF00 ≤ v % 2 ^ 12 ∧ v % 2 ^ 12 ≤ 0xFFE ∧ s.dev.evt.stopped = false ∧ 2048 ≤ s.dev.evt.queue.length ∧ s.regs.get F.EVT_CFG_REPEAT_WIN = 0) ∧
    (∃ (v : Nat), (v % 2 ^ 12 < 0xF00 ∨ v % 2 ^ 12 = 0xFFF)) ∧
    (∃ (s : State), 0x29 < s.dev.irq.raw.length) :=
  ⟨⟨stSeg (fun d => { d with evt := { d.evt with queue := [{ seq := 5, perm := true }], queueAt := some 0 } }) |> later 2500000, { seq := 5, perm := true }, by decide +kernel⟩,
   ⟨stSeg (fun d => { d with evt := { d.evt with queue := [{ seq := 5 }, { seq := 6 }], queueAt := some 0 } }) |> later 2500000, by decide +kernel⟩,
   ⟨st (fun d => { d with evt := { d.evt with queue := [{ seq := 5 }], queueAt := some 0 } }) |> later 2500000, by decide +kernel⟩,
   ⟨st (fun d => { d with evt := { d.evt with lostNow := 3 } }), by decide +kernel⟩,
   ⟨st id [(F.EVT_CFG_REPEAT_WIN, 0, 0, 0)], 0x70FFE, by dsimp only; decide +kernel⟩,
   ⟨st (fun d => { d with evt := { d.evt with lostNow := 3 } }), 0x70F01, by dsimp only; decide +kernel⟩,
   ⟨st (fun d => { d with evt := { d.evt with queue := [{ code := 0xF00, p3 := 7 }] } }) [(F.EVT_CFG_REPEAT_WIN, 0, 0, 10)], 0x70F00, { code := 0xF00, p3 := 7 }, by dsimp only; decide +kernel⟩,
   ⟨st (fun d => { d with evt := { d.evt with queue := List.replicate 2048 {} } }) [(F.EVT_CFG_REPEAT_WIN, 0, 0, 0)], 0xF00, by decide +kernel⟩,
   ⟨0xFFF, by decide +kernel⟩,
   ⟨st (fun d => { d with evt := { d.evt with headSeq := 90, below := true } }) [(F.EVT_CFG_WM, 0, 0, 80)], by decide +kernel⟩⟩

/-- States and operands that meet the hypotheses of Obligations.LifetimeStore, part by part. -/
theorem witness_LifetimeStore :
    (∃ (s : State), (s.dev.lif.due = true ∨ s.dev.lif.lastAt + 60000000000 ≤ s.dev.tb3) ∧ s.dev.mramOn = true ∧ segOk s.regs s.dev = true ∧ 2 < s.dev.lif.copies.length) ∧
    (∃ (s : State), (s.dev.lif.due = true ∨ s.dev.lif.lastAt + 60000000000 ≤ s.dev.tb3) ∧ s.dev.mramOn = true ∧ segOk s.regs s.dev = false) ∧
    (∃ (s : State), s.dev.lif.due = false ∧ s.dev.tb3 < s.dev.lif.lastAt + 60000000000) ∧
    (∃ (s : State), 0x2A < s.dev.irq.raw.length) :=
  ⟨⟨stSeg (fun d => { d with lif := { d.lif with due := true, preset := some (2, 1, 9) } }), by decide +kernel⟩,
   ⟨st (fun d => { d with lif := { d.lif with due := true } }), by decide +kernel⟩,
   ⟨stSeg (fun d => { d with lif := { d.lif with lastAt := 40000000000 } }) |> later 1000, by decide +kernel⟩,
   ⟨stLock 0x2A, by decide +kernel⟩⟩

/-- States and operands that meet the hypotheses of Obligations.HoldUpEnergy, part by part. -/
theorem witness_HoldUpEnergy :
    (∃ (s : State), s.dev.hld.measuring = true ∧ 0x2B < s.dev.irq.raw.length) ∧
    (∃ (s : State), s.dev.hld.measuring = false) ∧
    (∃ (s : State), s.dev.cfg.slotDue = false ∧ 0x2B < s.dev.irq.raw.length) :=
  ⟨⟨st (fun d => { d with hld := { d.hld with measuring := true } }), by decide +kernel⟩,
   ⟨st id, by decide +kernel⟩,
   ⟨st id, by decide +kernel⟩⟩

/-- States and operands that meet the hypotheses of Obligations.LocalLoops, part by part. -/
theorem witness_LocalLoops :
    (∃ (s : State) (c : Nat), loopDue s.regs s.dev c = false) ∧
    (∃ (s : State) (c : Nat), loopDue s.regs s.dev c = true ∧ s.dev.loopsOn = false ∧ c < s.dev.lop.ch.length) ∧
    (∃ (s : State) (c : Nat), let h := s.dev.loop c; let y := ((s.regs.f32 F.LOP_FB_SCALE_V c).mul (F32.ofInt (s.dev.qd (s.regs.at F.LOP_CH_CFG_FB_PORT c)).count)).add (s.regs.f32 F.LOP_FB_OFFSET_V c); loopDue s.regs s.dev c = true ∧ s.dev.loopsOn = true ∧ c < s.dev.lop.ch.length ∧ (∀ p, (s.regs.head p).pend = false) ∧ h.coefWait = [] ∧ h.st = .run ∧ h.restart = false ∧ h.handed = none ∧ h.clr = false ∧ h.swapDue = false ∧ h.bank = s.regs.at F.LOP_CH_CTL_BANK c ∧ s.regs.at F.LOP_CH_CFG_FB_SRC c = 2 ∧ s.regs.bit F.LOP_CH_CFG_FB_DIFF c = false ∧ s.regs.bit F.LOP_CH_CFG_WRAP c = false ∧ s.regs.bit F.LOP_CH_CFG_SP_INTERP c = false ∧ s.regs.at F.LOP_CH_CFG_PL_MODEL c = 0 ∧ 0 < s.regs.at F.LOP_PL_CNT_PL_COUNT c ∧ (s.dev.qd (s.regs.at F.LOP_CH_CFG_FB_PORT c)).fault = false ∧ y.lt (s.regs.f32 F.LOP_FB_MIN_V c) = false ∧ (s.regs.f32 F.LOP_FB_MAX_V c).lt y = false) ∧
    (∃ (s : State) (c : Nat), let h := s.dev.loop c; loopDue s.regs s.dev c = true ∧ s.dev.loopsOn = true ∧ c < s.dev.lop.ch.length ∧ (∀ p, (s.regs.head p).pend = false) ∧ h.coefWait = [] ∧ h.st = .open_ ∧ h.cause = 0 ∧ h.restart = false ∧ h.handed = none ∧ h.swapDue = false ∧ h.bank = s.regs.at F.LOP_CH_CTL_BANK c ∧ s.regs.at F.LOP_CH_CFG_FB_SRC c = 0 ∧ s.regs.bit F.LOP_CH_CFG_SP_INTERP c = false) ∧
    (∃ (s : State) (c : Nat) (u : Nat), let p := s.regs.at F.LOP_CH_CFG_OUT_PORT c; c < 32 ∧ (s.dev.loop c).pend = some u ∧ u ≤ s.dev.now ∧ s.regs.at F.LOP_CH_CFG_OUT_KIND c = 0 ∧ p < 16 ∧ p < s.dev.aou.outs.length) ∧
    (∃ (s : State) (c : Nat), (∀ u, (s.dev.loop c).pend = some u → s.dev.now < u)) :=
  ⟨⟨st id, 0, by decide +kernel⟩,
   ⟨{ stLoop 2 {} with dev := { (stLoop 2 {}).dev with mde := { (stLoop 2 {}).dev.mde with mode := .harbour } } }, 0, by decide +kernel⟩,
   ⟨stLoop 2 { st := .run }, 0, by dsimp only; exact ⟨by decide +kernel, by decide +kernel, by decide +kernel, none_pending (by decide +kernel), by decide +kernel, by decide +kernel, by decide +kernel, by decide +kernel, by decide +kernel, by decide +kernel, by decide +kernel, by decide +kernel, by decide +kernel, by decide +kernel, by decide +kernel, by decide +kernel, by decide +kernel, by decide +kernel, by decide +kernel, by decide +kernel⟩⟩,
   ⟨stLoop 0 { st := .open_ }, 0, by dsimp only; exact ⟨by decide +kernel, by decide +kernel, by decide +kernel, none_pending (by decide +kernel), by decide +kernel, by decide +kernel, by decide +kernel, by decide +kernel, by decide +kernel, by decide +kernel, by decide +kernel, by decide +kernel, by decide +kernel⟩⟩,
   ⟨stLoop 2 { st := .run, pend := some 0, u := F32.one }, 0, 0, by dsimp only; decide +kernel⟩,
   ⟨st id, 0, by exact of_option (by decide +kernel)⟩⟩

/-- States and operands that meet the hypotheses of Obligations.ActuatorOutputs, part by part. -/
theorem witness_ActuatorOutputs :
    (∃ (s : State) (n : Nat) (h : Nat) (dir : Bool), 16 ≤ n ∧ n < 32 ∧ n < s.dev.aou.outs.length ∧ s.dev.now % s.regs.at F.AOU_PERIOD_PERIOD n = 0 ∧ (s.dev.anOut n).next = some (h, dir)) ∧
    (∃ (s : State) (n : Nat), (s.dev.now % s.regs.at F.AOU_PERIOD_PERIOD n ≠ 0 ∨ (s.dev.anOut n).next = none)) ∧
    (∃ (s : State) (i : Nat), let a := s.dev.axis i; i < 8 ∧ i < s.dev.pfg.axes.length ∧ s.dev.now % 2500 = 0 ∧ pfgEnabled s.regs s.dev i = true ∧ a.chatter = false ∧ a.homing = .none ∧ s.regs.bit F.PFG_CFG_MODE i = false ∧ s.regs.bit F.PFG_IO_LIM_POS_EN i = false ∧ s.regs.bit F.PFG_IO_LIM_NEG_EN i = false ∧ s.regs.bit F.PFG_IO_EN_DOUT_EN i = false) ∧
    (∃ (s : State) (i : Nat), (s.dev.now % 2500 ≠ 0 ∨ pfgEnabled s.regs s.dev i = false)) ∧
    (∃ (s : State) (i : Nat), let a := s.dev.axis i; let up := decide (0 < a.due); i < 8 ∧ a.due ≠ 0 ∧ a.chatter = false ∧ a.fail = false ∧ limitOn s.regs s.dev i up = false ∧ a.pulseAt = none ∧ i < s.dev.pfg.axes.length) ∧
    (∃ (s : State) (i : Nat), (s.dev.axis i).due = 0 ∨ (s.dev.axis i).chatter = true ∨ (s.dev.axis i).fail = true) ∧
    (∃ (s : State), let i := s.regs.get F.PFG_SEL_AXIS; i < s.dev.pfg.axes.length ∧ 0x15 < s.dev.irq.raw.length) :=
  ⟨⟨st (fun d => { d with aou := { d.aou with outs := modAt d.aou.outs 16 fun _ => { next := some (9, true) } } }), 16, 9, true, by decide +kernel⟩,
   ⟨st id, 0, by decide +kernel⟩,
   ⟨stAxis { pos := 5 }, 0, by dsimp only; decide +kernel⟩,
   ⟨st id |> later 1, 0, by decide +kernel⟩,
   ⟨stAxis { pos := 5, due := 2 }, 0, by dsimp only; decide +kernel⟩,
   ⟨st id, 0, by decide +kernel⟩,
   ⟨stAxis { pos := 5, due := 2 }, by dsimp only; decide +kernel⟩⟩

/-- States and operands that meet the hypotheses of Obligations.PositionFeedback, part by part. -/
theorem witness_PositionFeedback :
    (∃ (s : State), s.dev.now % 2500 = 0 ∧ s.dev.mde.dstate ≠ .reset) ∧
    (∃ (s : State) (p : Nat) (v : Nat) (fwd : Bool), let q := s.dev.qd p; p < 16 ∧ p < s.dev.enc.qd.length ∧ s.regs.bit F.ENC_QD_CFG_EN p = true ∧ s.regs.en 0x16 = true ∧ q.ab < 4 ∧ quadNext q.ab fwd = v % 4) ∧
    (∃ (s : State) (p : Nat) (v : Nat), let q := s.dev.qd p; p < 16 ∧ p < s.dev.enc.qd.length ∧ s.regs.bit F.ENC_QD_CFG_EN p = true ∧ s.regs.en 0x16 = true ∧ q.ab < 4 ∧ q.ab ≠ v % 4 ∧ quadNext q.ab true ≠ v % 4 ∧ quadNext q.ab false ≠ v % 4) ∧
    (∃ (s : State) (p : Nat), p < 16 ∧ p < s.dev.enc.qd.length ∧ s.regs.bit F.ENC_QD_CFG_EN p = true ∧ s.regs.en 0x16 = true ∧ 0x16 < s.dev.irq.raw.length) ∧
    (∃ (s : State) (p : Nat), p < 16 ∧ p < s.dev.enc.qd.length ∧ s.dev.now % 250000 = 0 ∧ 0x16 < s.dev.irq.raw.length) ∧
    (∃ (s : State) (o : Nat) (f : Bool) (l : List Bool), o < 8 ∧ o < s.dev.enc.emu.length ∧ (s.dev.emu o).queue = f :: l ∧ (s.dev.emu o).lastTick = none) ∧
    (∃ (s : State) (i : Nat) (u : Nat), (s.dev.axis i).cmp.pulseEnd = some u ∧ u ≤ s.dev.now) ∧
    (∃ (s : State) (i : Nat) (u : Nat), (s.dev.qd i).cmp.pulseEnd = some u ∧ u ≤ s.dev.now) ∧
    (∃ (s : State) (p : Nat), p < 16 ∧ p < s.dev.enc.ssi.length ∧ boundFb s.regs 1 p = none ∧ s.regs.bit F.ENC_SSI_CFG_EN p = true ∧ s.regs.en 0x16 = true ∧ (∃ x ∈ s.dev.descr.sources, x.portKind = 4 ∧ x.port = p ∧ multipleIn ((x.period.to64.mul (F64.ofInt 1000000000)).round.toNat) 4 s.dev.tb0 = true)) :=
  ⟨⟨st id, by decide +kernel⟩,
   ⟨stQd { ab := 0 }, 0, quadNext 0 true, true, by dsimp only; decide +kernel⟩,
   ⟨stQd { ab := 0 }, 0, 3 - 0, by dsimp only; decide +kernel⟩,
   ⟨stQd { count := 9 }, 0, by decide +kernel⟩,
   ⟨stQd { illWin := List.replicate 100 1 }, 0, by decide +kernel⟩,
   ⟨st (fun d => { d with enc := { d.enc with emu := modAt d.enc.emu 0 fun e => { e with queue := [true, false] } } }), 0, true, [false], by decide +kernel⟩,
   ⟨stAxis { cmp := { pulseEnd := some 0 } }, 0, 0, by decide +kernel⟩,
   ⟨stQd { cmp := { pulseEnd := some 0 } }, 0, 0, by decide +kernel⟩,
   ⟨stDescr (fun d => { d with cfg := { d.cfg with active := some { sources := [{ id := 2, portKind := 4, port := 0, period := F32.ofInt 1 }] } } }) [(F.ENC_SSI_CFG_EN, 0, 0, 1)], 0, by decide +kernel⟩⟩

/-- States and operands that meet the hypotheses of Obligations.ControlCycle, part by part. -/
theorem witness_ControlCycle :
    (∃ (s : State), cutIsDue s.dev = false) ∧
    (∃ (s : State), cutIsDue s.dev = true ∧ pllGone s.dev = true) ∧
    (∃ (s : State), cutIsDue s.dev = true ∧ pllGone s.dev = false) ∧
    (∃ (s : State), s.dev.running = true ∧ s.dev.mde.cyc.running = true ∧ s.dev.mde.cyc.stateOut = false ∧ s.dev.mde.cyc.cutTick + 15 * s.dev.centT ≤ s.dev.now) ∧
    (∃ (s : State), (s.dev.mde.cyc.stateOut = true ∨ s.dev.now < s.dev.mde.cyc.cutTick + 15 * s.dev.centT)) ∧
    (∃ (s : State), s.dev.running = true ∧ s.dev.mde.cyc.running = true ∧ s.dev.mde.cyc.deadlineDone = false ∧ s.dev.mde.cyc.cutTick + s.regs.get F.CTL_DEADLINE_D * s.dev.centT ≤ s.dev.now) ∧
    (∃ (s : State), (s.dev.mde.cyc.deadlineDone = true ∨ s.dev.now < s.dev.mde.cyc.cutTick + s.regs.get F.CTL_DEADLINE_D * s.dev.centT)) ∧
    (∃ (s : State) (us : Nat), s.dev.mde.cyc.running = true ∧ s.dev.slv.stage = .running ∧ s.dev.mde.cyc.deadlineDone = false ∧ s.dev.now < s.dev.mde.cyc.cutTick + s.dev.mde.cyc.periodNs / 400 * s.regs.get F.CTL_DEADLINE_D ∧ (s.dev.job 2).tiles ≠ [] ∧ s.dev.clk.lock.testBit 1 = true ∧ s.dev.slv.startTick + 250 * us ≤ s.dev.now) ∧
    (∃ (s : State), (s.dev.slv.stage ≠ .running ∨ s.dev.mde.cyc.deadlineDone = true ∨ (s.dev.job 2).tiles = [])) ∧
    (∃ (s : State), s.dev.mde.cyc.running = true ∧ s.dev.mde.mode = .transfer ∧ s.dev.mde.cyc.subDone < 4 ∧ s.dev.mde.cyc.cutTick + s.dev.mde.cyc.subDone * (s.dev.mde.cyc.periodNs / 16) ≤ s.dev.now) ∧
    (∃ (s : State), (s.dev.mde.mode ≠ .transfer ∨ 4 ≤ s.dev.mde.cyc.subDone)) :=
  ⟨⟨st id |> (fun s => { s with dev := { s.dev with mde := { s.dev.mde with cyc := { running := true, nextCut := 1000 } } } }), by decide +kernel⟩,
   ⟨stCyc { running := true } (fun d => { d with clk := { d.clk with lock := 0xFD, lostAt := modAt d.clk.lostAt 1 fun _ => some 0 } }) |> later 6000000, by decide +kernel⟩,
   ⟨stCyc { running := true }, by decide +kernel⟩,
   ⟨stCyc { running := true } |> later 800000, by decide +kernel⟩,
   ⟨st id, by decide +kernel⟩,
   ⟨stCyc { running := true } |> later 4800000, by decide +kernel⟩,
   ⟨st id, by decide +kernel⟩,
   ⟨stCyc { running := true } (fun d => { d with slv := { d.slv with stage := .running }, msn := { d.msn with jobs := modAt d.msn.jobs 2 fun j => { j with tiles := [0] } } }) |> later 1000, 2, by decide +kernel⟩,
   ⟨st id, by decide +kernel⟩,
   ⟨stCyc { running := true, subDone := 1 } (fun d => { d with mde := { d.mde with mode := .transfer } }) |> later 1300000, by decide +kernel⟩,
   ⟨st id, by decide +kernel⟩⟩

/-- States and operands that meet the hypotheses of Obligations.StepRunsTheFrontCommand, part by part. -/
theorem witness_StepRunsTheFrontCommand :
    (∃ (s : State) (c : Instr) (rest : List Instr), s.pending = c :: rest) ∧
    (∃ (s : State), s.pending = []) :=
  ⟨⟨{ st id with pending := [.cut, .devGo] }, .cut, [.devGo], by decide +kernel⟩,
   ⟨st id, by decide +kernel⟩⟩

/-- States and operands that meet the hypotheses of Obligations.EveryStepKeepsCanonicalForms, part by part. -/
theorem witness_EveryStepKeepsCanonicalForms :
    (∃ (s : State), MemOk s ∧ RegsOk s) :=
  ⟨{ st id with pending := [.cut] }, by exact ⟨by unfold MemOk; decide +kernel, by unfold RegsOk; decide +kernel⟩⟩

end Sys2Proof.Tests
end

section
/-! PROOFS. Control of a configuration load [02 R46 R47 R57 R63]: START, ABORT, and a write to the staging window. -/

namespace Sys2Proof

open Sys2Proof.Machine

/-! ### Parts that shared operations keep -/

/-- Clearing what left in the command before keeps every part. -/
theorem agreeAt_quiet (d : Dev) (p : Part) : agreeAt d.quiet d p := by
  cases p <;> rfl

/-- A changed load controller keeps every part but page CFG. -/
theorem agreeAt_withCfg (c : CfgSt) (d : Dev) (p : Part) (h : p ≠ .cfg) : agreeAt { d with cfg := c } d p := by
  cases p
  case cfg => exact absurd rfl h
  all_goals rfl

/-- A raised source keeps every part but the interrupt state. -/
theorem agreeAt_raise (q b : Nat) (d : Dev) (p : Part) (h : p ≠ .irq) : agreeAt (raise q b d) d p := by
  cases p
  case irq => exact absurd rfl h
  all_goals rfl

/-- A recorder entry keeps every part but the recorder and its interrupt flag. -/
theorem agreeAt_record (r : Regs) (e : Ev) (x : Par) (d : Dev) (p : Part) (hi : p ≠ .irq) (hv : p ≠ .evt) :
    agreeAt (record r e x d) d p := by
  obtain ⟨v, i, hrec⟩ := record_shape r e x d
  rw [hrec]
  cases p
  case irq => exact absurd rfl hi
  case evt => exact absurd rfl hv
  all_goals rfl

/-! ### Raw interrupt bits -/

/-- Raising a source sets its raw bit and keeps the page's other bits. -/
theorem raise_testBit (p b j : Nat) (d : Dev) (h : p < d.irq.raw.length) :
    (at' (raise p b d).irq.raw p).testBit j = if b = j then true else (at' d.irq.raw p).testBit j := by
  rw [raise, at'_modAt_self _ _ _ h, testBit_setBit]

/-- A lost-records entry raises no source outside page EVT. -/
theorem lostRecord_raw_other (d : Dev) (p : Nat) (h : p ≠ 0x29) : at' (lostRecord d).irq.raw p = at' d.irq.raw p := by
  unfold lostRecord
  split
  · rfl
  · exact at'_modAt_other _ _ _ _ h.symm

/-- What enters the recorder after a lost-records entry changes no raw interrupt bit. -/
theorem enter_raw_other (win : Nat) (x : EvRec) (more : List EvRec) (d : Dev) (p : Nat) (h : p ≠ 0x29) :
    at' (enter win x more d).irq.raw p = at' d.irq.raw p := by
  by_cases hs : d.evt.stopped
  · rw [enter, if_pos hs]
  · have key : (enter win x more d).irq = (lostRecord d).irq := by
      rw [enter, if_neg hs]
      dsimp only
      split_ifs
      · cases (lostRecord d).evt.queue.getLast? <;> rfl
      · rfl
      · rfl
    rw [key, lostRecord_raw_other d p h]

/-- A recorder entry raises no source outside page EVT. -/
theorem record_raw_other (r : Regs) (e : Ev) (x : Par) (d : Dev) (p : Nat) (h : p ≠ 0x29) :
    at' (record r e x d).irq.raw p = at' d.irq.raw p :=
  enter_raw_other _ _ _ d p h

/-! ### A refused load -/

theorem refuseLoad_cfg (r : Regs) (x : Refuse) (d : Dev) :
    (refuseLoad r x d).cfg = { d.cfg with
      phase := .refused, refuse := x.code, section_ := x.sec, record := x.idx, deferred := false, unlocked := false
      safetyDiff := false, image := [], next := {} } :=
  record_cfg _ _ _ _

@[simp] theorem refuseLoad_now (r : Regs) (x : Refuse) (d : Dev) : (refuseLoad r x d).now = d.now :=
  record_now _ _ _ _

/-- A refusal keeps every part but page CFG, the recorder and the interrupt state. -/
theorem agreeAt_refuseLoad (r : Regs) (x : Refuse) (d : Dev) (p : Part) (hi : p ≠ .irq) (hv : p ≠ .evt) (hc : p ≠ .cfg) :
    agreeAt (refuseLoad r x d) d p :=
  agreeAt_trans (agreeAt_record _ _ _ _ p hi hv)
    (agreeAt_trans (agreeAt_raise 6 1 _ p hi) (agreeAt_withCfg _ d p hc))

/-- A refusal sets bit 1 of page CFG's raw bits and keeps the others. -/
theorem refuseLoad_testBit (r : Regs) (x : Refuse) (d : Dev) (j : Nat) (h : 6 < d.irq.raw.length) :
    (at' (refuseLoad r x d).irq.raw 6).testBit j = if 1 = j then true else (at' d.irq.raw 6).testBit j := by
  rw [refuseLoad, record_raw_other _ _ _ _ 6 (by decide)]
  exact raise_testBit 6 1 j _ h

/-! ### The three commands -/

/-- The load controller once a START is accepted: the checks of `len` staged bytes begin [02 R46]. -/
def startedLoad (r : Regs) (m : List Host.Cell) (d : Dev) : CfgSt :=
  let len := r.get F.CFG_LOAD_LEN_LEN
  { d.cfg with
    phase := .checking, structDiff := false, deferred := false, refuse := 0, section_ := 0, record := 0, len := len
    unlocked := d.saf.stA == .config
    safetyDiff := (diffSecs d.cfg.active (d.wouldBe (stagedImage m len))).contains 0xD, image := [], next := {} }

/-- START with no load in hand, outside RESET and BOOT, is accepted. -/
theorem cfgLoadStart_accepted (r : Regs) (m : List Host.Cell) (d : Dev) (hp : d.cfg.phase.inHand = false)
    (hr : d.mde.dstate ≠ .reset) (hb : d.mde.dstate ≠ .boot) :
    cfgLoadStart r m d = (r, { d with cfg := startedLoad r m d }) := by
  simp [cfgLoadStart, startedLoad, hp, hr, hb]

/-- START with a load in hand is rejected with reason STATE and changes no block. -/
theorem cfgLoadStart_rejected (r : Regs) (m : List Host.Cell) (d : Dev) (hp : d.cfg.phase.inHand = true) :
    cfgLoadStart r m d = (r.reject 6 0x40 7, d) := by
  rw [cfgLoadStart, hp]
  rfl

theorem exec_cfgLoadStart (s : State) :
    exec .cfgLoadStart s = .next { s with
      regs := (cfgLoadStart s.regs s.mem s.dev.quiet).1
      dev := settle (cfgLoadStart s.regs s.mem s.dev.quiet).1 (cfgLoadStart s.regs s.mem s.dev.quiet).2 } := rfl

/-- ABORT of a load in hand. -/
theorem exec_cfgLoadAbort_inHand (s : State) (hp : s.dev.cfg.phase.inHand = true) :
    exec .cfgLoadAbort s = .next { s with dev := settle s.regs (abortLoad s.dev.quiet) } := by
  have hexec : exec .cfgLoadAbort s = execCfgLoadAbort s := rfl
  rw [hexec, execCfgLoadAbort, onDev_next, quiet_cfg, if_pos hp]

/-- A write inside the staging window stores its byte, and refuses a load that is in its checks. -/
theorem stagingTouched_inWindow (a : Nat) (b : Byte) (r : Regs) (m : List Host.Cell) (d : Dev) (hlo : 0x03000000 ≤ a)
    (hhi : a < 0x03100000) :
    stagingTouched a b r m d =
      ([(a, [b])], if d.cfg.phase = .checking then refuseLoad r { code := 0x13 } (raise 6 4 d) else d) := by
  have hw : stagingBase ≤ a ∧ a < stagingBase + 0x100000 := ⟨hlo, hhi⟩
  by_cases hc : d.cfg.phase = .checking <;> simp [stagingTouched, hw, hc]

theorem exec_stagingTouched_inWindow (s : State) (a : Nat) (b : Byte) (hlo : 0x03000000 ≤ a) (hhi : a < 0x03100000) :
    exec (.stagingTouched a b) s = .next { s with
      mem := Memory.write s.mem a b
      dev := settle s.regs (if s.dev.cfg.phase = .checking then refuseLoad s.regs { code := 0x13 } (raise 6 4 s.dev.quiet)
        else s.dev.quiet) } := by
  have hexec : exec (.stagingTouched a b) s = execStagingTouched a b s := rfl
  rw [hexec, execStagingTouched, onMem_next, stagingTouched_inWindow a b _ _ _ hlo hhi]
  rfl

/-- A command that, messages aside, changes the load controller alone. -/
theorem onlyParts_cfg (s : State) (r : Regs) (c : CfgSt) :
    OnlyParts [.cfg] s { s with dev := settle r { s.dev.quiet with cfg := c } } := by
  refine onlyParts_of [.cfg] s r { s.dev.quiet with cfg := c } rfl fun p hp => ?_
  have hc : p ≠ .cfg := by rintro rfl; simp at hp
  exact agreeAt_trans (agreeAt_withCfg c _ p hc) (agreeAt_quiet _ p)

/-- The frame of a command that refuses the load after raising a source of page CFG. -/
theorem onlyParts_refuseLoad (s : State) (r : Regs) (x : Refuse) (b : Nat) :
    OnlyParts [.cfg, .evt] s { s with dev := settle r (refuseLoad r x (raise 6 b s.dev.quiet)) } := by
  refine onlyParts_of [.cfg, .evt] s r _ (by simp) fun p hp => ?_
  simp only [List.mem_cons, not_or] at hp
  obtain ⟨hi, -, hc, hv, -⟩ := hp
  exact agreeAt_trans (agreeAt_refuseLoad r x _ p hi hv hc) (agreeAt_trans (agreeAt_raise 6 b _ p hi) (agreeAt_quiet _ p))

/-- The frame of a command that changes no block. -/
theorem onlyParts_quiet (l : List Part) (s : State) (r : Regs) : OnlyParts l s { s with dev := settle r s.dev.quiet } :=
  onlyParts_of l s r s.dev.quiet rfl fun p _ => agreeAt_quiet _ p

/-- Settles O33: START by whether a load is in hand, ABORT by `abortLoad`'s frame, and a staging write by whether the
load is in its checks. -/
theorem configurationLoadControl : Obligations.ConfigurationLoadControl := by
  unfold Obligations.ConfigurationLoadControl
  refine ⟨fun s hp hr hb => ?_, fun s hp => ?_, fun s hp => ?_, fun s a b hlo hhi hraw => ?_⟩
  · refine ⟨_, exec_cfgLoadStart s, ?_⟩
    rw [cfgLoadStart_accepted s.regs s.mem s.dev.quiet hp hr hb]
    refine ⟨onlyParts_cfg s s.regs _, ?_⟩
    simp [startedLoad]
  · refine ⟨_, exec_cfgLoadStart s, ?_⟩
    rw [cfgLoadStart_rejected s.regs s.mem s.dev.quiet hp]
    exact ⟨onlyParts_quiet [] { s with regs := s.regs.reject 6 0x40 7 } _, rfl⟩
  · refine ⟨_, exec_cfgLoadAbort_inHand s hp, onlyParts_cfg s s.regs _, ?_⟩
    simp [abortLoad]
  · refine ⟨_, exec_stagingTouched_inWindow s a b hlo hhi, ?_⟩
    have hother := fun k (hk : k ≠ a) => Memory.read_write_other s.mem a k b hk.symm
    by_cases hc : s.dev.cfg.phase = .checking
    · rw [if_pos hc]
      have hraw' : 6 < (raise 6 4 s.dev.quiet).irq.raw.length := by simpa [raise] using hraw
      refine ⟨onlyParts_refuseLoad { s with mem := Memory.write s.mem a b } s.regs _ 4,
        Memory.read_write_self s.mem a b, hother, fun h => absurd hc h, fun _ => ?_⟩
      have hbit : (at' (raise 6 4 s.dev.quiet).irq.raw 6).testBit 4 = true := by simp [raise_testBit 6 4 4 s.dev.quiet hraw]
      simp [refuseLoad_cfg, refuseLoad_testBit _ _ _ _ hraw', hbit]
    · rw [if_neg hc]
      exact ⟨onlyParts_quiet _ { s with mem := Memory.write s.mem a b } s.regs, Memory.read_write_self s.mem a b, hother,
        fun _ => settle_cfg _ _, fun h => absurd h hc⟩

end Sys2Proof
end

section
/-! PROOFS. Run and safe hold [03 R64 R65 R67]: GO, HOLD, and an uncorrectable memory error. -/

namespace Sys2Proof

open Sys2Proof.Machine

/-! ### Devices that agree outside a list of parts -/

/-- Two devices agree on every part outside `l`. -/
def AgreeOff (l : List Part) (a b : Dev) : Prop := ∀ p, p ∉ l → agreeAt a b p

theorem AgreeOff.refl (l : List Part) (d : Dev) : AgreeOff l d d := by
  intro p _
  cases p <;> rfl

theorem AgreeOff.trans {l : List Part} {a b c : Dev} (h : AgreeOff l a b) (g : AgreeOff l b c) : AgreeOff l a c :=
  fun p hp => agreeAt_trans (h p hp) (g p hp)

theorem AgreeOff.mono {l m : List Part} {a b : Dev} (h : AgreeOff l a b) (hlm : l ⊆ m) : AgreeOff m a b :=
  fun p hp => h p fun hl => hp (hlm hl)

/-- A choice between two devices that keep the parts outside `l` keeps them. -/
theorem AgreeOff.ite {l : List Part} {a b d : Dev} {c : Prop} [Decidable c] (ha : AgreeOff l a d) (hb : AgreeOff l b d) :
    AgreeOff l (if c then a else b) d := by
  split
  · exact ha
  · exact hb

/-- A step made under a condition keeps what the step keeps. -/
theorem AgreeOff.when {l : List Part} {f : Dev → Dev} (h : ∀ a, AgreeOff l (f a) a) (c : Bool) (d : Dev) :
    AgreeOff l (if c then f d else d) d :=
  .ite (h d) (.refl l d)

/-- Steps that each keep the parts outside `l` keep them when folded. -/
theorem agreeOff_foldN {l : List Part} (n : Nat) (f : Nat → Dev → Dev) (d : Dev) (h : ∀ i a, AgreeOff l (f i a) a) :
    AgreeOff l (foldN n f d) d :=
  foldN_keeps (AgreeOff l · d) n f d (fun i a ha => (h i a).trans ha) (.refl l d)

/-! ### What the fail states and the enabling of outputs leave alone [12 R336 R337] -/

/-- The parts that outputs live in, with the messages and events that their changes cause. -/
def outputParts : List Part := [.irq, .evt, .aou, .pfg, .can, .dio]

theorem agreeOff_outputs (d : Dev) (o : List Output) (i : IrqSt) (v : EvtSt) (a : AouSt) (g : PfgSt) (c : CanSt) (x : DioSt) :
    AgreeOff outputParts { d with out := o, irq := i, evt := v, aou := a, pfg := g, can := c, dio := x } d := by
  intro p hp
  cases p
  case irq | evt | aou | pfg | can | dio => exact absurd (by decide) hp
  all_goals rfl

theorem agreeOff_raise (p b : Nat) (d : Dev) : AgreeOff outputParts (raise p b d) d :=
  agreeOff_outputs d _ _ _ _ _ _ _

theorem agreeOff_raiseIf (c : Bool) (p b : Nat) (d : Dev) : AgreeOff outputParts (raiseIf c p b d) d :=
  .when (agreeOff_raise p b) c d

theorem agreeOff_record (r : Regs) (e : Ev) (x : Par) (d : Dev) : AgreeOff outputParts (record r e x d) d := by
  obtain ⟨v, i, h⟩ := record_shape r e x d
  rw [h]
  exact agreeOff_outputs d _ _ _ _ _ _ _

theorem agreeOff_modAou (n : Nat) (f : AnOut → AnOut) (d : Dev) : AgreeOff outputParts (modAou n f d) d :=
  agreeOff_outputs d _ _ _ _ _ _ _

theorem agreeOff_modAxis (i : Nat) (f : StepAxis → StepAxis) (d : Dev) : AgreeOff outputParts (modAxis i f d) d :=
  agreeOff_outputs d _ _ _ _ _ _ _

theorem agreeOff_dioDrive (r : Regs) (d : Dev) : AgreeOff outputParts (dioDrive r d) d :=
  .ite (agreeOff_outputs d _ _ _ _ _ _ _) (.ite (.refl _ d) (agreeOff_outputs d _ _ _ _ _ _ _))

theorem agreeOff_dioFunc (r : Regs) (n : Nat) (level : Bool) (d : Dev) : AgreeOff outputParts (dioFunc r n level d) d :=
  (agreeOff_dioDrive r _).trans (agreeOff_outputs d _ _ _ _ _ _ _)

theorem agreeOff_pwmTake (r : Regs) (n : Nat) (d : Dev) : AgreeOff outputParts (pwmTake r n d) d := by
  unfold pwmTake
  split
  · exact .refl _ d
  · exact (AgreeOff.when (agreeOff_dioFunc r _ _) _ _).trans (agreeOff_modAou n _ d)

theorem agreeOff_aouPut (r : Regs) (n : Nat) (u : F32) (d : Dev) : AgreeOff outputParts (aouPut r n u d).1 d := by
  unfold aouPut
  dsimp only
  split
  · exact agreeOff_modAou n _ d
  · exact (AgreeOff.when (agreeOff_pwmTake r n) _ _).trans (agreeOff_modAou n _ d)

theorem agreeOff_aouLatch (r : Regs) (n : Nat) (u : F32) (d : Dev) : AgreeOff outputParts (aouLatch r n u d) d :=
  ((agreeOff_raiseIf _ _ _ _).trans (agreeOff_modAou n _ _)).trans (agreeOff_aouPut r n u d)

theorem agreeOff_aouHost (r : Regs) (n : Nat) (d : Dev) : AgreeOff outputParts (aouHost r n d) d :=
  .when (agreeOff_aouLatch r n _) _ d

theorem agreeOff_aouFail (r : Regs) (n : Nat) (d : Dev) : AgreeOff outputParts (aouFail r n d) d :=
  .ite (.refl _ d) (((agreeOff_raise _ _ _).trans (agreeOff_modAou n _ _)).trans
    (.when (f := fun a => (aouPut r n F32.zero a).1) (agreeOff_aouPut r n F32.zero) _ d))

theorem agreeOff_axisStop (r : Regs) (i : Nat) (c : StopCause) (d : Dev) : AgreeOff outputParts (axisStop r i c d) d :=
  .ite (((agreeOff_record r _ _ _).trans (agreeOff_raise _ _ _)).trans (agreeOff_modAxis i _ d))
    ((agreeOff_raiseIf _ _ _ _).trans (agreeOff_modAxis i _ d))

theorem agreeOff_axisEnable (r : Regs) (i : Nat) (on : Bool) (d : Dev) : AgreeOff outputParts (axisEnable r i on d) d :=
  (AgreeOff.when (agreeOff_dioFunc r _ on) _ _).trans (agreeOff_modAxis i _ d)

theorem agreeOff_pfgFail (r : Regs) (i : Nat) (d : Dev) : AgreeOff outputParts (pfgFail r i d) d :=
  .ite (.refl _ d) (((agreeOff_raise _ _ _).trans (agreeOff_modAxis i _ _)).trans
    ((AgreeOff.when (agreeOff_axisEnable r i false) _ _).trans (agreeOff_axisStop r i .failState d)))

theorem agreeOff_slotWrite (r : Regs) (s : Nat) (v : F32) (d : Dev) : AgreeOff outputParts (slotWrite r s v d) d := by
  unfold slotWrite
  split
  · exact .refl _ d
  · exact agreeOff_outputs d _ _ _ _ _ _ _

theorem agreeOff_slotFail (r : Regs) (s : Nat) (d : Dev) : AgreeOff outputParts (slotFail r s d) d := by
  unfold slotFail
  split
  · exact .refl _ d
  · exact .when (agreeOff_slotWrite r s F32.zero) _ d

theorem agreeOff_failOutputs (r : Regs) (d : Dev) : AgreeOff outputParts (failOutputs r d) d :=
  (agreeOff_dioDrive r _).trans ((agreeOff_foldN 8 _ _ fun i a => .ite (.refl _ a) (agreeOff_pfgFail r i a)).trans
    (agreeOff_foldN 32 _ d fun n a => .ite (.refl _ a) (agreeOff_aouFail r n a)))

/-- The fail states change the parts of the outputs alone. -/
theorem agreeOff_failAll (r : Regs) (d : Dev) : AgreeOff outputParts (failAll r d) d :=
  (agreeOff_foldN 32 _ _ fun _ a => .when (agreeOff_slotFail r _) _ a).trans (agreeOff_failOutputs r d)

/-- The enabling of outputs changes their parts alone. -/
theorem agreeOff_enableOutputs (r : Regs) (d : Dev) : AgreeOff outputParts (enableOutputs r d) d :=
  (agreeOff_dioDrive r _).trans (agreeOff_foldN 32 _ d fun n a => agreeOff_aouHost r n a)

/-! ### What a change of role leaves alone [15 R428 to R446] -/

/-- The parts of the outputs, and those that a role lives in: the link, the pair state, and what a new primary takes from the set. -/
def roleParts : List Part := outputParts ++ [.ndl, .pair, .e2e, .slv]

/-- What changes the outputs alone keeps every part but those of the role. -/
theorem AgreeOff.ofOutputs {a b : Dev} (h : AgreeOff outputParts a b) : AgreeOff roleParts a b :=
  h.mono (List.subset_append_left _ _)

theorem agreeOff_roles (d : Dev) (o : List Output) (n : NdlSt) (q : PairSt) (e : E2eSt) (v : SlvSt) :
    AgreeOff roleParts { d with out := o, ndl := n, pair := q, e2e := e, slv := v } d := by
  intro p hp
  cases p
  case ndl | pair | e2e | slv => exact absurd (by decide) hp
  all_goals rfl

theorem agreeOff_ndlSend (t : NdlType) (w : List Nat) (d : Dev) : AgreeOff roleParts (ndlSend t w d) d :=
  agreeOff_roles d _ _ _ _ _

theorem agreeOff_setRole (b : Bool) (d : Dev) : AgreeOff roleParts (setRole b d) d :=
  .ite (.refl _ d) (agreeOff_roles d _ _ _ _ _)

theorem agreeOff_nextTakeFromNow (r : Regs) (d : Dev) : AgreeOff roleParts (nextTakeFromNow r d) d :=
  agreeOff_roles d _ _ _ _ _

theorem agreeOff_pairTo (r : Regs) (st : PState) (cause : Nat) (d : Dev) : AgreeOff roleParts (pairTo r st cause d) d := by
  have reported (b : Nat) (a : Dev) :
      AgreeOff roleParts (record r .pairState { p0 := st.code, p1 := cause } (raise 0x27 b a)) a :=
    ((agreeOff_record r _ _ _).trans (agreeOff_raise _ _ a)).ofOutputs
  refine .ite (.refl _ d) ((reported _ _).trans ?_)
  exact (AgreeOff.when (agreeOff_nextTakeFromNow r) _ _).trans (agreeOff_roles d _ _ _ _ _)

theorem agreeOff_stopCommanding (r : Regs) (st : PState) (cause : Nat) (d : Dev) :
    AgreeOff roleParts (stopCommanding r st cause d) d := by
  have stopped (a : Dev) : AgreeOff roleParts (failAll r (setRole false (pairTo r st cause a))) a :=
    ((agreeOff_failAll r _).ofOutputs.trans (agreeOff_setRole false _)).trans (agreeOff_pairTo r st cause a)
  exact ((AgreeOff.when (agreeOff_ndlSend _ _) _ _).trans (stopped _)).trans (agreeOff_roles d _ _ _ _ _)

theorem agreeOff_dropPermit (d : Dev) : AgreeOff roleParts (dropPermit d) d :=
  agreeOff_roles d _ _ _ _ _

/-- Leaving the roles changes no part outside `roleParts`. -/
theorem agreeOff_leaveRoles (r : Regs) (d : Dev) : AgreeOff roleParts (leaveRoles r d) d :=
  (agreeOff_setRole false _).trans ((agreeOff_dropPermit _).trans ((agreeOff_roles _ _ _ _ _ _).trans
    (.ite (agreeOff_stopCommanding r _ _ d) (agreeOff_pairTo r _ _ d))))

theorem agreeOff_e2eFromSet (r : Regs) (d : Dev) : AgreeOff roleParts (e2eFromSet r d) d := by
  unfold e2eFromSet
  split
  · exact agreeOff_roles d _ _ _ _ _
  · exact .refl _ d

/-- Taking command changes no part outside `roleParts`. -/
theorem agreeOff_takeCommand (r : Regs) (cause : Nat) (d : Dev) : AgreeOff roleParts (takeCommand r cause d) d := by
  have reported (a : Dev) : AgreeOff roleParts (record r .pairTakeover { p0 := cause } (raise 0x27 1 a)) a :=
    ((agreeOff_record r _ _ _).trans (agreeOff_raise _ _ a)).ofOutputs
  have first (a : Dev) : AgreeOff roleParts { a with slv := { a.slv with first := true, prev := none } } a :=
    agreeOff_roles a _ _ _ _ _
  refine .ite (.refl _ d) ((AgreeOff.when reported _ _).trans ((AgreeOff.when first _ _).trans ?_))
  exact (AgreeOff.when (agreeOff_e2eFromSet r) _ _).trans ((agreeOff_roles _ _ _ _ _ _).trans (agreeOff_pairTo r _ cause d))

theorem agreeOff_seekByLink (r : Regs) (d : Dev) : AgreeOff roleParts (seekByLink r d) d :=
  .ite (.ite (agreeOff_pairTo r _ _ d) (.ite (agreeOff_pairTo r _ _ d)
    (.ite (agreeOff_takeCommand r _ d) (agreeOff_pairTo r _ _ d)))) (.refl _ d)

/-- Entering the roles changes no part outside `roleParts`. -/
theorem agreeOff_enterRoles (r : Regs) (d : Dev) : AgreeOff roleParts (enterRoles r d) d :=
  .ite (agreeOff_roles d _ _ _ _ _)
    (((agreeOff_seekByLink r _).trans (agreeOff_pairTo r _ _ _)).trans (agreeOff_roles d _ _ _ _ _))

/-! ### The pair state once the roles are left [15 R428 R441] -/

theorem pairTo_state (r : Regs) (st : PState) (cause : Nat) (d : Dev) : (pairTo r st cause d).pair.state = st := by
  by_cases h : d.pair.state = st
  · rw [pairTo, if_pos h, h]
  · rw [pairTo, if_neg h]
    dsimp only
    split_ifs <;> simp [nextTakeFromNow]

theorem setRole_pair (b : Bool) (d : Dev) : (setRole b d).pair = { d.pair with roleOut := b } := by
  unfold setRole
  split_ifs with h
  · rw [← h]
  · rfl

@[simp] theorem failAll_pair (r : Regs) (d : Dev) : (failAll r d).pair = d.pair :=
  agreeOff_failAll r d .pair (by decide)

theorem stopCommanding_state (r : Regs) (st : PState) (cause : Nat) (d : Dev) :
    (stopCommanding r st cause d).pair.state = st := by
  unfold stopCommanding
  dsimp only
  split_ifs <;> simp [ndlSend, emit, setRole_pair, pairTo_state]

/-- A unit that leaves RUN is single, with its outputs off and no permit. -/
theorem leaveRoles_pair (r : Regs) (d : Dev) :
    (leaveRoles r d).pair.state = .single ∧ (leaveRoles r d).pair.outputs = false ∧ (leaveRoles r d).pair.permit = none := by
  unfold leaveRoles
  dsimp only
  split_ifs <;> simp [setRole_pair, dropPermit, stopCommanding_state, pairTo_state]

/-! ### Safe hold [03 R67] -/

/-- The hold has begun: harbour, the cause, and no cuts. -/
def heldMde (cause : Nat) (m : MdeSt) : MdeSt :=
  { m with
    dstate := .safeHold, mode := .harbour, autoHdg := false, followObj := 0, holdCause := cause
    cyc := { m.cyc with running := false, firstPending := false, realign := false, realignLeft := 0 } }

theorem setDState_mde (st : DState) (d : Dev) : (setDState st d).mde = { d.mde with dstate := st } := by
  unfold setDState
  split_ifs with h
  · rw [← h]
  · rfl

/-- A change of the device state changes pages MDE and IRQ alone. -/
theorem agreeAt_setDState (st : DState) (d : Dev) (p : Part) (hi : p ≠ .irq) (hm : p ≠ .mde) : agreeAt (setDState st d) d p := by
  unfold setDState
  split_ifs
  · exact AgreeOff.refl [] d p (by simp)
  · cases p
    case irq => exact absurd rfl hi
    case mde => exact absurd rfl hm
    all_goals rfl

/-- A hold out of RUN is the start of the hold, the leaving of the roles, and what the outputs show of it. -/
theorem safeHold_steps (r : Regs) (cause : Nat) (d : Dev) (h : d.mde.dstate = .run) :
    ∃ a : Dev, a.mde = heldMde cause d.mde ∧ a.cfg = d.cfg ∧ AgreeOff outputParts (safeHold r cause d) (leaveRoles r a) := by
  rw [safeHold, if_pos h]
  refine ⟨_, ?_, ?_, (agreeOff_record r _ _ _).trans (agreeOff_failAll r _)⟩
  · simp [heldMde, loopsOff, setDState_mde]
  · exact agreeAt_setDState .safeHold d .cfg (by decide) (by decide)

theorem safeHold_mde (r : Regs) (cause : Nat) (d : Dev) (h : d.mde.dstate = .run) :
    (safeHold r cause d).mde = heldMde cause d.mde := by
  obtain ⟨a, hm, -, ho⟩ := safeHold_steps r cause d h
  exact (ho.ofOutputs.trans (agreeOff_leaveRoles r a) .mde (by decide)).trans hm

theorem safeHold_cfg (r : Regs) (cause : Nat) (d : Dev) (h : d.mde.dstate = .run) : (safeHold r cause d).cfg = d.cfg := by
  obtain ⟨a, -, hc, ho⟩ := safeHold_steps r cause d h
  exact (ho.ofOutputs.trans (agreeOff_leaveRoles r a) .cfg (by decide)).trans hc

/-- A hold out of RUN ends the role, the outputs and the permit. -/
theorem safeHold_pair (r : Regs) (cause : Nat) (d : Dev) (h : d.mde.dstate = .run) :
    (safeHold r cause d).pair.state = .single ∧ (safeHold r cause d).pair.outputs = false ∧
      (safeHold r cause d).pair.permit = none := by
  obtain ⟨a, -, -, ho⟩ := safeHold_steps r cause d h
  have hp : (safeHold r cause d).pair = (leaveRoles r a).pair := ho .pair (by decide)
  rw [hp]
  exact leaveRoles_pair r a

/-! ### Entry into RUN [03 R64] -/

theorem setDState_nextMultiple (st : DState) (d : Dev) : (setDState st d).nextMultiple = d.nextMultiple := by
  unfold setDState
  split_ifs <;> rfl

/-- An entry into RUN is the start of the cuts in HARBOUR, from the next multiple of the period, and what the roles and
outputs make of it. -/
theorem enterRun_steps (r : Regs) (d : Dev) :
    ∃ a : Dev, (a.mde.dstate = .run ∧ a.mde.mode = .harbour ∧ a.mde.cyc.running = true ∧
      a.mde.cyc.nextCut = d.nextMultiple) ∧ a.cfg = d.cfg ∧ AgreeOff roleParts (enterRun r d) a := by
  refine ⟨_, ?_, ?_, (agreeOff_enableOutputs r _).ofOutputs.trans
    ((agreeOff_failAll r _).ofOutputs.trans (agreeOff_enterRoles r _))⟩
  · rw [startCycle, setDState_mde, setDState_nextMultiple]
    exact ⟨rfl, rfl, rfl, rfl⟩
  · exact agreeAt_setDState .run _ .cfg (by decide) (by decide)

theorem enterRun_mde (r : Regs) (d : Dev) :
    (enterRun r d).mde.dstate = .run ∧ (enterRun r d).mde.mode = .harbour ∧ (enterRun r d).mde.cyc.running = true ∧
      (enterRun r d).mde.cyc.nextCut = d.nextMultiple := by
  obtain ⟨a, ha, -, ho⟩ := enterRun_steps r d
  have hm : (enterRun r d).mde = a.mde := ho .mde (by decide)
  rw [hm]
  exact ha

theorem enterRun_cfg (r : Regs) (d : Dev) : (enterRun r d).cfg = d.cfg := by
  obtain ⟨a, -, hc, ho⟩ := enterRun_steps r d
  exact (ho .cfg (by decide)).trans hc

/-! ### GO, HOLD and the memory error -/

theorem exec_devGo (s : State) :
    exec .devGo s = .next { s with dev := settle s.regs (devGo s.regs s.dev.quiet) } := rfl

/-- GO in READY with a description enters RUN. -/
theorem devGo_ready (r : Regs) (d : Dev) (hs : d.mde.dstate = .ready) (hc : d.cfg.active.isSome = true) :
    devGo r d = enterRun r d := by
  simp [devGo, hs, hc]

/-- GO in another state or without a description is ignored. -/
theorem devGo_ignored (r : Regs) (d : Dev) (h : d.mde.dstate ≠ .ready ∨ d.cfg.active = none) : devGo r d = d := by
  rcases h with hs | hc
  · simp [devGo, hs]
  · simp [devGo, hc]

theorem exec_devHold (s : State) :
    exec .devHold s = .next { s with
      regs := (devHold s.regs s.dev.quiet).1
      dev := settle (devHold s.regs s.dev.quiet).1 (devHold s.regs s.dev.quiet).2 } := rfl

/-- HOLD with LOCK open in RUN is a hold with cause 1. -/
theorem devHold_accepted (r : Regs) (d : Dev) (hl : r.lockOpen 5 d.now = true) (hs : d.mde.dstate = .run) :
    devHold r d = (r, safeHold r 1 d) := by
  simp [devHold, hl, Dev.running, hs]

/-- HOLD with LOCK shut is rejected with reason LOCKED and changes no block. -/
theorem devHold_locked (r : Regs) (d : Dev) (hl : r.lockOpen 5 d.now = false) : devHold r d = (r.reject 5 0x4C 2, d) := by
  simp [devHold, hl]

/-- An uncorrectable error in one of the three memories is a hold with cause 3. -/
theorem exec_uncorrectableMemoryError (s : State) (w : Nat) (hw : w < 3) :
    exec (.uncorrectableMemoryError w) s = .next { s with dev := settle s.regs (safeHold s.regs 3 s.dev.quiet) } := by
  have hexec : exec (.uncorrectableMemoryError w) s = execUncorrectableMemoryError w s := rfl
  rw [hexec, execUncorrectableMemoryError, onDev_next, if_pos hw]

/-- Settles O36: GO by `enterRun`, HOLD and the memory error by `safeHold`, whose roles, outputs and events leave the mode
and the description alone. -/
theorem runAndSafeHold : Obligations.RunAndSafeHold := by
  unfold Obligations.RunAndSafeHold
  refine ⟨fun s hs hc => ?_, fun s h => ?_, fun s hl hs => ?_, fun s hl => ?_, fun s w hw hs => ?_⟩
  · refine ⟨_, exec_devGo s, rfl, rfl, ?_⟩
    rw [devGo_ready s.regs s.dev.quiet hs hc]
    obtain ⟨hrun, hmode, hcuts, hnext⟩ := enterRun_mde s.regs s.dev.quiet
    rw [settle_mde, settle_cfg, enterRun_cfg]
    exact ⟨hrun, hmode, hcuts, hnext, rfl⟩
  · refine ⟨_, exec_devGo s, ?_⟩
    rw [devGo_ignored s.regs s.dev.quiet h]
    exact onlyParts_quiet [] s s.regs
  · refine ⟨_, exec_devHold s, ?_⟩
    rw [devHold_accepted s.regs s.dev.quiet hl hs]
    obtain ⟨hstate, houts, hpermit⟩ := safeHold_pair s.regs 1 s.dev.quiet hs
    rw [settle_mde, settle_pair, settle_cfg, safeHold_mde s.regs 1 s.dev.quiet hs, safeHold_cfg s.regs 1 s.dev.quiet hs]
    exact ⟨rfl, rfl, rfl, rfl, rfl, rfl, hstate, houts, hpermit, rfl⟩
  · refine ⟨_, exec_devHold s, ?_⟩
    rw [devHold_locked s.regs s.dev.quiet hl]
    exact ⟨onlyParts_quiet [] { s with regs := s.regs.reject 5 0x4C 2 } _, rfl⟩
  · refine ⟨_, exec_uncorrectableMemoryError s w hw, rfl, rfl, ?_⟩
    obtain ⟨hstate, -, -⟩ := safeHold_pair s.regs 3 s.dev.quiet hs
    rw [settle_mde, settle_pair, safeHold_mde s.regs 3 s.dev.quiet hs]
    exact ⟨rfl, rfl, rfl, rfl, hstate⟩

end Sys2Proof
end

section
/-! PROOFS. Position feedback [12 R347 R352 to R355 R357 R359]: digital inputs, quadrature ports, encoder emulation,
compare pulses and SSI requests. -/

namespace Sys2Proof

open Sys2Proof.Machine

/-! ### Devices that differ in some parts and not in time -/

/-- `b` is `a` but for the parts `l` and for what left the device, at the same tick. -/
structure Within (l : List Part) (b a : Dev) : Prop where
  now : b.now = a.now
  keeps : AgreeOff l b a

theorem Within.refl (l : List Part) (d : Dev) : Within l d d := ⟨rfl, .refl l d⟩

theorem Within.mono {l m : List Part} {b a : Dev} (h : Within l b a) (hlm : l ⊆ m) : Within m b a :=
  ⟨h.now, h.keeps.mono hlm⟩

/-- One change after another changes what either changes. -/
theorem Within.trans {l m : List Part} {c b a : Dev} (h : Within l c b) (g : Within m b a) : Within (l ++ m) c a :=
  ⟨h.now.trans g.now, (h.keeps.mono (List.subset_append_left l m)).trans (g.keeps.mono (List.subset_append_right l m))⟩

/-- A choice between two changes of the same parts. -/
theorem Within.ite {l : List Part} {c : Prop} [Decidable c] {a b d : Dev} (ha : Within l a d) (hb : Within l b d) :
    Within l (if c then a else b) d := by
  split
  · exact ha
  · exact hb

/-- A change made under a condition. -/
theorem Within.when {l : List Part} {c : Prop} [Decidable c] {b a : Dev} (h : Within l b a) : Within l (if c then b else a) a :=
  .ite h (.refl l a)

/-- Changes of the same parts, folded. -/
theorem within_foldN {l : List Part} (n : Nat) (f : Nat → Dev → Dev) (d : Dev) (h : ∀ i a, Within l (f i a) a) :
    Within l (foldN n f d) d :=
  foldN_keeps (Within l · d) n f d (fun i a ha => ((h i a).trans ha).mono (by simp)) (.refl l d)

/-- The frame of a command on the blocks. -/
theorem Within.onlyParts {l m : List Part} {s : State} {d : Dev} (h : Within m d s.dev.quiet) (hm : m ⊆ .irq :: l) :
    OnlyParts l s { s with dev := settle s.regs d } := by
  refine onlyParts_of l s s.regs d h.now fun p hp => agreeAt_trans (h.keeps p fun hpm => hp ?_) (agreeAt_quiet s.dev p)
  rcases List.mem_cons.1 (hm hpm) with rfl | hl
  · exact List.mem_cons_self
  · exact List.mem_cons_of_mem _ (List.mem_cons_of_mem _ hl)

/-! ### The parts that the operations on pages PFG, ENC and DIO change -/

theorem within_emit (o : Output) (d : Dev) : Within [] (emit o d) d := ⟨rfl, fun p _ => by cases p <;> rfl⟩

theorem within_raise (p b : Nat) (d : Dev) : Within [.irq] (raise p b d) d :=
  ⟨rfl, fun q hq => agreeAt_raise p b d q (by simpa using hq)⟩

theorem within_raiseIf (c : Bool) (p b : Nat) (d : Dev) : Within [.irq] (raiseIf c p b d) d := .when (within_raise p b d)

theorem within_record (r : Regs) (e : Ev) (x : Par) (d : Dev) : Within [.irq, .evt] (record r e x d) d := by
  refine ⟨record_now r e x d, fun q hq => ?_⟩
  obtain ⟨hi, hv⟩ : q ≠ .irq ∧ q ≠ .evt := by simpa using hq
  exact agreeAt_record r e x d q hi hv

theorem within_pfg (d : Dev) (g : PfgSt) : Within [.pfg] { d with pfg := g } d := by
  refine ⟨rfl, fun p hp => ?_⟩
  cases p
  case pfg => exact absurd (by decide) hp
  all_goals rfl

theorem within_enc (d : Dev) (e : EncSt) : Within [.enc] { d with enc := e } d := by
  refine ⟨rfl, fun p hp => ?_⟩
  cases p
  case enc => exact absurd (by decide) hp
  all_goals rfl

theorem within_dio (d : Dev) (x : DioSt) : Within [.dio] { d with dio := x } d := by
  refine ⟨rfl, fun p hp => ?_⟩
  cases p
  case dio => exact absurd (by decide) hp
  all_goals rfl

theorem within_modAxis (i : Nat) (f : StepAxis → StepAxis) (d : Dev) : Within [.pfg] (modAxis i f d) d := within_pfg d _

theorem within_modQd (i : Nat) (f : QdPort → QdPort) (d : Dev) : Within [.enc] (modQd i f d) d := within_enc d _

theorem within_modEmu (i : Nat) (f : EmuOut → EmuOut) (d : Dev) : Within [.enc] (modEmu i f d) d := within_enc d _

theorem within_modSsi (i : Nat) (f : SsiPort → SsiPort) (d : Dev) : Within [.enc] (modSsi i f d) d := within_enc d _

theorem within_dioDrive (r : Regs) (d : Dev) : Within [.dio] (dioDrive r d) d :=
  .ite (within_dio d _) (.ite (.refl _ d) (within_dio d _))

theorem within_dioFunc (r : Regs) (n : Nat) (b : Bool) (d : Dev) : Within [.dio] (dioFunc r n b d) d :=
  ((within_dioDrive r _).trans (within_dio d _)).mono (by simp)

theorem within_axisStop (r : Regs) (i : Nat) (c : StopCause) (d : Dev) : Within [.irq, .evt, .pfg] (axisStop r i c d) d :=
  .ite (((within_record r _ _ _).trans ((within_raise _ _ _).trans (within_modAxis i _ d))).mono (by simp))
    (((within_raiseIf _ _ _ _).trans (within_modAxis i _ d)).mono (by simp))

/-! ### Elements of pages PFG and ENC -/

@[simp] theorem quiet_qd (d : Dev) (i : Nat) : d.quiet.qd i = d.qd i := rfl
@[simp] theorem settle_axis (r : Regs) (d : Dev) (i : Nat) : (settle r d).axis i = d.axis i := by simp [Dev.axis]
@[simp] theorem settle_qd (r : Regs) (d : Dev) (i : Nat) : (settle r d).qd i = d.qd i := by simp [Dev.qd]
@[simp] theorem settle_emu (r : Regs) (d : Dev) (i : Nat) : (settle r d).emu i = d.emu i := by simp [Dev.emu]
@[simp] theorem settle_ssi (r : Regs) (d : Dev) (i : Nat) : (settle r d).ssi i = d.ssi i := by simp [Dev.ssi]

/-- What does not change page ENC keeps the quadrature ports. -/
theorem Within.qd {l : List Part} {b a : Dev} (h : Within l b a) (he : Part.enc ∉ l) (i : Nat) : b.qd i = a.qd i :=
  congrArg (fun e : EncSt => at' e.qd i) (h.keeps .enc he)

/-- What does not change page PFG keeps the step axes. -/
theorem Within.axis {l : List Part} {b a : Dev} (h : Within l b a) (hg : Part.pfg ∉ l) (i : Nat) : b.axis i = a.axis i :=
  congrArg (fun g : PfgSt => at' g.axes i) (h.keeps .pfg hg)

theorem modAxis_axis_self (i : Nat) (f : StepAxis → StepAxis) (d : Dev) (h : i < d.pfg.axes.length) :
    (modAxis i f d).axis i = f (d.axis i) := at'_modAt_self _ _ _ h

theorem modQd_qd_self (i : Nat) (f : QdPort → QdPort) (d : Dev) (h : i < d.enc.qd.length) :
    (modQd i f d).qd i = f (d.qd i) := at'_modAt_self _ _ _ h

theorem modQd_qd_other (i j : Nat) (f : QdPort → QdPort) (d : Dev) (h : j ≠ i) : (modQd i f d).qd j = d.qd j :=
  at'_modAt_other _ _ _ _ h.symm

theorem modEmu_emu_self (i : Nat) (f : EmuOut → EmuOut) (d : Dev) (h : i < d.enc.emu.length) :
    (modEmu i f d).emu i = f (d.emu i) := at'_modAt_self _ _ _ h

theorem modEmu_emu_other (i j : Nat) (f : EmuOut → EmuOut) (d : Dev) (h : j ≠ i) : (modEmu i f d).emu j = d.emu j :=
  at'_modAt_other _ _ _ _ h.symm

theorem modSsi_ssi_self (i : Nat) (f : SsiPort → SsiPort) (d : Dev) (h : i < d.enc.ssi.length) :
    (modSsi i f d).ssi i = f (d.ssi i) := at'_modAt_self _ _ _ h

/-- An element past the end of a list reads as the default. -/
theorem at'_of_length_le {α : Type} [Inhabited α] (l : List α) (i : Nat) (h : l.length ≤ i) : at' l i = default := by
  simp [at', List.getD_eq_getElem?_getD, h]

/-- An axis whose compare has a pulse in hand is there. -/
theorem axis_lt_of_pulse (d : Dev) (i u : Nat) (h : (d.axis i).cmp.pulseEnd = some u) : i < d.pfg.axes.length := by
  by_contra hc
  rw [Dev.axis, at'_of_length_le _ _ (Nat.le_of_not_lt hc)] at h
  exact nomatch h

/-- A port whose compare has a pulse in hand is there. -/
theorem qd_lt_of_pulse (d : Dev) (i u : Nat) (h : (d.qd i).cmp.pulseEnd = some u) : i < d.enc.qd.length := by
  by_contra hc
  rw [Dev.qd, at'_of_length_le _ _ (Nat.le_of_not_lt hc)] at h
  exact nomatch h

/-! ### Raw interrupt bits -/

@[simp] theorem raiseIf_raw_length (c : Bool) (p b : Nat) (d : Dev) :
    (raiseIf c p b d).irq.raw.length = d.irq.raw.length := by
  cases c <;> simp [raiseIf, raise]

/-- A source raised under a condition sets its raw bit where the condition holds, and clears none. -/
theorem raiseIf_testBit (c : Bool) (p b j : Nat) (d : Dev) (h : p < d.irq.raw.length) :
    (at' (raiseIf c p b d).irq.raw p).testBit j = ((c && b == j) || (at' d.irq.raw p).testBit j) := by
  cases c with
  | false => rfl
  | true =>
    refine (raise_testBit p b j d h).trans ?_
    by_cases hb : b = j <;> simp [hb]

/-! ### Digital inputs [12 R347 R348] -/

/-- Page DIO once input `n` has taken a sample. -/
def sampled (r : Regs) (n : Nat) (raw : Bool) (x : DioSt) : DioSt :=
  { x with din := modAt x.din n fun _ => (at' x.din n).sample raw x.sampleNo (debTime r n) }

/-- A sample changes its input, and then interrupts, axes and the recorder. -/
theorem dinSample1_effects (r : Regs) (n : Nat) (raw : Bool) (d : Dev) :
    Within [.irq, .evt, .pfg] (dinSample1 r n raw d) { d with dio := sampled r n raw d.dio } := by
  refine ((within_foldN (l := [.irq, .evt, .pfg]) 8 _ _ fun i a => ?_).trans
    ((within_raiseIf _ _ _ _).trans (within_raiseIf _ _ _ _))).mono (by simp)
  have edge (c : Bool) (b : Dev) : Within [.pfg] (if c then modAxis i (fun a => { a with rawEdge := a.pos }) b else b) b :=
    .when (within_modAxis i _ b)
  have chatter (b : Dev) : Within [.irq, .evt, .pfg]
      (modAxis i (fun a => { a with chatter := true }) (axisStop r i .chatter (raise 0x15 3 b))) b :=
    ((within_modAxis i _ _).trans ((within_axisStop r i _ _).trans (within_raise _ _ b))).mono (by simp)
  exact ((Within.when (chatter _)).trans ((edge _ _).trans (within_raiseIf _ _ _ a))).mono (by simp)

theorem dinSample1_dio (r : Regs) (n : Nat) (raw : Bool) (d : Dev) : (dinSample1 r n raw d).dio = sampled r n raw d.dio :=
  (dinSample1_effects r n raw d).keeps .dio (by decide)

theorem within_dinSample1 (r : Regs) (n : Nat) (raw : Bool) (d : Dev) :
    Within [.irq, .dio, .pfg, .evt] (dinSample1 r n raw d) d :=
  ((dinSample1_effects r n raw d).trans (within_dio d _)).mono (by simp)

/-- The samples of the inputs below `k`: each of them has taken its own, and the others have not. -/
theorem dinSamples_dio (r : Regs) (raw k : Nat) (d : Dev) :
    let x := (foldN k (fun n a => dinSample1 r n (bit raw n) a) d).dio
    x.sampleNo = d.dio.sampleNo ∧ x.level = d.dio.level ∧ x.din.length = d.dio.din.length ∧
      ∀ n, n < d.dio.din.length → at' x.din n =
        if n < k then (at' d.dio.din n).sample (bit raw n) d.dio.sampleNo (debTime r n) else at' d.dio.din n := by
  induction k with
  | zero => exact ⟨rfl, rfl, rfl, fun n _ => rfl⟩
  | succ k ih =>
    obtain ⟨hno, hlevel, hlen, hdin⟩ := ih
    rw [foldN_succ, dinSample1_dio]
    refine ⟨hno, hlevel, by simp [sampled, hlen], fun n hn => ?_⟩
    by_cases hk : k = n
    · subst hk
      simp [sampled, at'_modAt_self _ _ _ (hlen.symm ▸ hn), hdin k hn, hno]
    · rw [sampled, at'_modAt_other _ _ _ _ hk, hdin n hn]
      exact if_congr (by omega) rfl rfl

/-- Outside RESET, at a multiple of 10 µs, every input takes its sample under the next number. -/
theorem dinSample_due (raw : Nat) (r : Regs) (d : Dev) (ht : d.now % 2500 = 0) (hs : d.mde.dstate ≠ .reset) :
    dinSample raw r d =
      foldN 32 (fun n a => dinSample1 r n (bit raw n) a) { d with dio := { d.dio with sampleNo := d.dio.sampleNo + 1 } } := by
  rw [dinSample, if_neg (by simp [ht, hs])]

/-! ### Encoder emulation [12 R357] -/

theorem within_emuEdge (r : Regs) (i : Nat) (fwd : Bool) (d : Dev) : Within [.irq, .enc] (emuEdge r i fwd d) d :=
  .ite ((within_modEmu i _ d).mono (by simp)) (.ite ((within_modEmu i _ d).mono (by simp))
    ((within_raise _ _ _).trans (within_modEmu i _ d)))

theorem within_emuFeed (r : Regs) (axis : Bool) (src : Nat) (fwd : Bool) (d : Dev) :
    Within [.irq, .enc] (emuFeed r axis src fwd d) d :=
  within_foldN 8 _ d fun i a => .when (within_emuEdge r i fwd a)

theorem emuEdge_qd (r : Regs) (i : Nat) (fwd : Bool) (d : Dev) : (emuEdge r i fwd d).enc.qd = d.enc.qd := by
  unfold emuEdge
  dsimp only
  split_ifs <;> rfl

/-- Edges that reach the emulation outputs leave the quadrature ports as they are. -/
theorem emuFeed_qd (r : Regs) (axis : Bool) (src : Nat) (fwd : Bool) (d : Dev) :
    (emuFeed r axis src fwd d).enc.qd = d.enc.qd := by
  refine foldN_keeps (·.enc.qd = d.enc.qd) 8 _ d (fun i a ha => ?_) rfl
  split
  · exact (emuEdge_qd r i fwd a).trans ha
  · exact ha

/-- The first edge of an emulation output leaves at once, on one of its two lines. -/
theorem emuOut_first (out : Nat) (r : Regs) (d : Dev) (fwd : Bool) (rest : List Bool) (ho : out < 8)
    (hq : (d.emu out).queue = fwd :: rest) (ht : (d.emu out).lastTick = none) :
    ∃ x, emuOut out r d = emit x (modEmu out (fun e =>
      { e with queue := rest, phase := quadNext (d.emu out).phase fwd, lastTick := some d.now }) d) := by
  unfold emuOut
  simp only [hq, ht, ho, decide_true, Bool.and_true, if_true]
  split
  · exact ⟨_, rfl⟩
  · exact ⟨_, rfl⟩

/-! ### Position compare at a quadrature port [12 R358 R359] -/

theorem within_qdFire (r : Regs) (i : Nat) (d : Dev) : Within [.irq, .enc, .dio] (qdFire r i d) d :=
  ((Within.when (within_dioFunc r _ _ _)).trans ((within_raise _ _ _).trans (within_modQd i _ d))).mono (by simp)

theorem within_qdJudge (r : Regs) (i : Nat) (p : Int) (d : Dev) : Within [.irq, .enc, .dio] (qdJudge r i p d) d :=
  .when (within_qdFire r i d)

/-- A compare that fires is the pulse output it drives, after its latch and its interrupt. -/
theorem qdFire_latch (r : Regs) (i : Nat) (d : Dev) :
    Within [.dio] (qdFire r i d) (raise 0x16 5 (modQd i (fun q => { q with cmp := (d.qd i).cmp.fire d }) d)) :=
  .when (within_dioFunc r _ _ _)

/-- The judgement of a compare changes nothing of its port but the compare. -/
theorem qdJudge_qd_self (r : Regs) (i : Nat) (p : Int) (d : Dev) (h : i < d.enc.qd.length) :
    ∃ c, (qdJudge r i p d).qd i = { d.qd i with cmp := c } := by
  unfold qdJudge
  dsimp only
  split
  · exact ⟨_, ((qdFire_latch r i d).qd (by decide) i).trans (modQd_qd_self i _ d h)⟩
  · exact ⟨_, rfl⟩

theorem qdJudge_qd_other (r : Regs) (i j : Nat) (p : Int) (d : Dev) (h : j ≠ i) : (qdJudge r i p d).qd j = d.qd j := by
  unfold qdJudge
  dsimp only
  split
  · exact ((qdFire_latch r i d).qd (by decide) j).trans (modQd_qd_other i j _ d h)
  · rfl

/-- The judgement of a compare clears no raw interrupt bit of page ENC. -/
theorem qdJudge_testBit (r : Regs) (i : Nat) (p : Int) (d : Dev) (j : Nat) (h : 0x16 < d.irq.raw.length)
    (hj : (at' d.irq.raw 0x16).testBit j = true) : (at' (qdJudge r i p d).irq.raw 0x16).testBit j = true := by
  unfold qdJudge
  dsimp only
  split
  · have hirq : (qdFire r i d).irq = (raise 0x16 5 d).irq := (qdFire_latch r i d).keeps .irq (by decide)
    simp [hirq, raise_testBit 0x16 5 j d h, hj]
  · exact hj

/-! ### Quadrature ports [12 R353 R354] -/

theorem quadNext_ne_self : ∀ ph < 4, ∀ fwd, quadNext ph fwd ≠ ph := by decide

theorem quadNext_forward_ne_back : ∀ ph < 4, quadNext ph true ≠ quadNext ph false := by decide

/-- A quadrature port once an edge has moved its count by one step; `rev` says that the direction has changed. -/
def counted (up rev : Bool) (ab now : Nat) (q : QdPort) : QdPort :=
  { q with
    count := wrapS 32 (if up then q.count + 1 else q.count - 1), ab := ab, dir := up, moved := true
    dirChange := q.dirChange || rev, lastIll := false, edgeTick := some now }

theorem within_qdCount (r : Regs) (i : Nat) (up : Bool) (ab : Nat) (d : Dev) :
    Within [.irq, .enc, .dio] (qdCount r i up ab d) d :=
  ((within_qdJudge r i _ _).trans ((within_emuFeed r _ _ _ _).trans
    ((within_raiseIf _ _ _ _).trans (within_modQd i _ d)))).mono (by simp)

/-- A counted edge is judged by the compare on ports that have changed by the count alone. -/
theorem qdCount_judged (r : Regs) (i : Nat) (up : Bool) (ab : Nat) (d : Dev) :
    ∃ a rev, qdCount r i up ab d = qdJudge r i (d.qd i).count a ∧ a.enc.qd = modAt d.enc.qd i (counted up rev ab d.now) := by
  refine ⟨_, (d.qd i).moved && ((d.qd i).dir != up), rfl, (emuFeed_qd r _ _ _ _).trans ?_⟩
  rw [raiseIf_enc]
  rfl

theorem qdCount_qd_self (r : Regs) (i : Nat) (up : Bool) (ab : Nat) (d : Dev) (h : i < d.enc.qd.length) :
    ∃ rev c, (qdCount r i up ab d).qd i = { counted up rev ab d.now (d.qd i) with cmp := c } := by
  obtain ⟨a, rev, hjudge, hqd⟩ := qdCount_judged r i up ab d
  obtain ⟨c, hc⟩ := qdJudge_qd_self r i (d.qd i).count a (by simpa [hqd] using h)
  have hself : a.qd i = counted up rev ab d.now (d.qd i) := by rw [Dev.qd, hqd, at'_modAt_self _ _ _ h, Dev.qd]
  exact ⟨rev, c, by rw [hjudge, hc, hself]⟩

theorem qdCount_qd_other (r : Regs) (i j : Nat) (up : Bool) (ab : Nat) (d : Dev) (h : j ≠ i) :
    (qdCount r i up ab d).qd j = d.qd j := by
  obtain ⟨a, rev, hjudge, hqd⟩ := qdCount_judged r i up ab d
  rw [hjudge, qdJudge_qd_other r i j _ a h, Dev.qd, hqd, at'_modAt_other _ _ _ _ h.symm, Dev.qd]

/-- A transition of one line is counted, forward or back, with the sense of DIR_INV. -/
theorem qdEdge_step (p v : Nat) (fwd : Bool) (r : Regs) (d : Dev) (hp : p < 16) (hport : r.bit F.ENC_QD_CFG_EN p = true)
    (hpage : r.en 0x16 = true) (hab : (d.qd p).ab < 4) (hnext : quadNext (d.qd p).ab fwd = v % 4) :
    qdEdge p v r d = qdCount r p (fwd != r.bit F.ENC_QD_CFG_DIR_INV p) (v % 4) d := by
  have hmoved := quadNext_ne_self _ hab fwd
  have hfar := quadNext_forward_ne_back _ hab
  cases fwd with
  | true => simp [qdEdge, hport, hpage, hp, ← hnext, hmoved.symm]
  | false => simp [qdEdge, hport, hpage, hp, ← hnext, hmoved.symm, hfar]

/-- A transition of both lines is illegal. -/
theorem qdEdge_illegal (p v : Nat) (r : Regs) (d : Dev) (hp : p < 16) (hport : r.bit F.ENC_QD_CFG_EN p = true)
    (hpage : r.en 0x16 = true) (hmoved : (d.qd p).ab ≠ v % 4) (hfwd : quadNext (d.qd p).ab true ≠ v % 4)
    (hback : quadNext (d.qd p).ab false ≠ v % 4) : qdEdge p v r d = qdIllegal p (v % 4) d := by
  simp [qdEdge, hport, hpage, hp, hmoved, hfwd, hback]

theorem within_qdIllegal (i ab : Nat) (d : Dev) : Within [.irq, .enc] (qdIllegal i ab d) d :=
  (within_raiseIf _ _ _ _).trans (within_modQd i _ d)

/-- Both lines changed at once: the port shows the new levels, and counts and windows the illegal transition. -/
theorem qdIllegal_qd_self (i ab : Nat) (d : Dev) (h : i < d.enc.qd.length) :
    ∃ win, (qdIllegal i ab d).qd i = { d.qd i with
      ab := ab, illCount := wrapInc 16 (d.qd i).illCount, illegal := true, lastIll := true, illWin := win } :=
  ⟨_, ((within_raiseIf _ _ _ _).qd (by decide) i).trans (modQd_qd_self i _ d h)⟩

theorem qdIllegal_qd_other (i j ab : Nat) (d : Dev) (h : j ≠ i) : (qdIllegal i ab d).qd j = d.qd j :=
  ((within_raiseIf _ _ _ _).qd (by decide) j).trans (modQd_qd_other i j _ d h)

/-- Milliseconds without an illegal transition in the window, at its next step. -/
def quietMs (q : QdPort) : Nat := if q.illWin.sum = 0 then min (q.zeroMs + 1) 1000 else 0

/-- The next step of the window ends a fault. -/
def faultClears (q : QdPort) : Bool := q.fault && quietMs q == 1000

/-- The number in the window is above the port's limit. -/
def faultTrips (r : Regs) (p : Nat) (q : QdPort) : Bool := decide (r.at F.ENC_QD_CFG_ILL_LIMIT p < q.illWin.sum)

/-- A port once its window has stepped by 1 ms. -/
def windowed (r : Regs) (p : Nat) (q : QdPort) : QdPort :=
  let win := (0 :: q.illWin).take 1000
  { q with
    illWin := if win.all (· == 0) then [] else win, zeroMs := quietMs q
    fault := faultTrips r p q || (q.fault && !(faultClears q)) }

/-- A fault clears when the window has been empty for 1 s. -/
theorem faultClears_of_quiet {q : QdPort} (hsum : q.illWin.sum = 0) (hfault : q.fault = true) (hms : 999 ≤ q.zeroMs) :
    faultClears q = true := by
  simp [faultClears, quietMs, hsum, hfault, hms]

theorem faultTrips_of_empty {r : Regs} {p : Nat} {q : QdPort} (hsum : q.illWin.sum = 0) : faultTrips r p q = false := by
  simp [faultTrips, hsum]

/-- A 1 ms step changes the port and raises what its fault has done. -/
theorem qdWindow_due (p : Nat) (r : Regs) (d : Dev) (hp : p < 16) (ht : d.now % 250000 = 0) :
    ∃ f, f (d.qd p) = windowed r p (d.qd p) ∧ qdWindow p r d =
      raiseIf (faultClears (d.qd p)) 0x16 2 (raiseIf (faultTrips r p (d.qd p) && !((d.qd p).fault)) 0x16 1 (modQd p f d)) := by
  rw [qdWindow, if_neg (by omega)]
  refine ⟨_, ?_, rfl⟩
  rfl

theorem within_qdWindow (p : Nat) (r : Regs) (d : Dev) : Within [.irq, .enc] (qdWindow p r d) d :=
  .ite (.refl _ d) (((within_raiseIf _ _ _ _).trans ((within_raiseIf _ _ _ _).trans (within_modQd p _ d))).mono (by simp))

theorem qdWindow_qd_self (p : Nat) (r : Regs) (d : Dev) (hp : p < 16) (ht : d.now % 250000 = 0) (h : p < d.enc.qd.length) :
    (qdWindow p r d).qd p = windowed r p (d.qd p) := by
  obtain ⟨f, hf, hdue⟩ := qdWindow_due p r d hp ht
  rw [hdue, (within_raiseIf _ _ _ _).qd (by decide), (within_raiseIf _ _ _ _).qd (by decide), modQd_qd_self p f d h, hf]

/-- A fault that trips raises source 1 of page ENC, and one that clears source 2. -/
theorem qdWindow_testBit (p j : Nat) (r : Regs) (d : Dev) (hp : p < 16) (ht : d.now % 250000 = 0)
    (hraw : 0x16 < d.irq.raw.length) :
    (at' (qdWindow p r d).irq.raw 0x16).testBit j = ((faultClears (d.qd p) && 2 == j) ||
      ((faultTrips r p (d.qd p) && !((d.qd p).fault) && 1 == j) || (at' d.irq.raw 0x16).testBit j)) := by
  obtain ⟨f, -, hdue⟩ := qdWindow_due p r d hp ht
  rw [hdue, raiseIf_testBit _ _ _ _ _ (by simpa using hraw), raiseIf_testBit _ _ _ _ _ (by simpa using hraw), modQd_irq]

/-! ### The index [12 R355 R357] -/

/-- A quadrature port once its index has come; `zero` says that the count goes to 0. -/
def indexed (zero : Bool) (q : QdPort) : QdPort :=
  { q with idx := q.count, idxSeen := true, firstIdx := true, count := if zero then 0 else q.count }

/-- The index of a port reaches the emulation outputs that pass it on. -/
def passIndex (r : Regs) (p : Nat) (d : Dev) : Dev :=
  foldN 8 (fun i d =>
    if emuFrom r false p i && r.bit F.ENC_EMU_CFG_IDX_PASS i then
      emit (.pin (pinEmuZ i) true) (modEmu i (fun e => { e with z := true }) d)
    else d) d

/-- What an index changes: its port, the port's compare, the emulation outputs, and the axes that home on it. -/
def indexTaken (r : Regs) (p : Nat) (zero : Bool) (d : Dev) : Dev :=
  homeIndex r p (passIndex r p (qdJudge r p (d.qd p).count (raise 0x16 3 (modQd p (indexed zero) d))))

/-- An index at an enabled port is taken, with the count to 0 as IDX_MODE says. -/
theorem qdIndex_taken (p : Nat) (r : Regs) (d : Dev) (hp : p < 16) (hport : r.bit F.ENC_QD_CFG_EN p = true)
    (hpage : r.en 0x16 = true) :
    ∃ zero, (zero = true ↔
        r.at F.ENC_QD_CFG_IDX_MODE p ≠ 0 ∧ (r.at F.ENC_QD_CFG_IDX_MODE p = 1 → (d.qd p).firstIdx = false)) ∧
      qdIndex p r d = indexTaken r p zero d := by
  rw [qdIndex, if_neg (by simp [hport, hpage, hp])]
  refine ⟨_, ?_, rfl⟩
  split
  case h_1 hmode => simp [hmode]
  case h_2 hmode => simp [hmode]
  case h_3 hzero hfirst => exact iff_of_true rfl ⟨hzero, fun h => absurd h hfirst⟩

theorem within_passIndex (r : Regs) (p : Nat) (d : Dev) : Within [.enc] (passIndex r p d) d :=
  within_foldN 8 _ d fun i a => .when ((within_emit _ _).trans (within_modEmu i _ a))

theorem passIndex_qd (r : Regs) (p : Nat) (d : Dev) : (passIndex r p d).enc.qd = d.enc.qd := by
  refine foldN_keeps (·.enc.qd = d.enc.qd) 8 _ d (fun i a ha => ?_) rfl
  split
  · exact ha
  · exact ha

theorem within_homeIndex (r : Regs) (p : Nat) (d : Dev) : Within [.pfg] (homeIndex r p d) d :=
  within_foldN 8 _ d fun i a => .when (within_modAxis i _ a)

theorem within_indexTaken (r : Regs) (p : Nat) (zero : Bool) (d : Dev) :
    Within [.irq, .enc, .dio, .pfg] (indexTaken r p zero d) d :=
  ((within_homeIndex r p _).trans ((within_passIndex r p _).trans ((within_qdJudge r p _ _).trans
    ((within_raise _ _ _).trans (within_modQd p _ d))))).mono (by simp)

theorem indexTaken_qd_self (r : Regs) (p : Nat) (zero : Bool) (d : Dev) (h : p < d.enc.qd.length) :
    ∃ c, (indexTaken r p zero d).qd p = { indexed zero (d.qd p) with cmp := c } := by
  obtain ⟨c, hc⟩ := qdJudge_qd_self r p (d.qd p).count (raise 0x16 3 (modQd p (indexed zero) d)) (by simpa using h)
  have hself : (raise 0x16 3 (modQd p (indexed zero) d)).qd p = indexed zero (d.qd p) := modQd_qd_self p _ d h
  refine ⟨c, ((within_homeIndex r p _).qd (by decide) p).trans ?_⟩
  rw [Dev.qd, passIndex_qd, ← Dev.qd, hc, hself]

/-- An index raises source 3 of page ENC. -/
theorem indexTaken_testBit (r : Regs) (p : Nat) (zero : Bool) (d : Dev) (h : 0x16 < d.irq.raw.length) :
    (at' (indexTaken r p zero d).irq.raw 0x16).testBit 3 = true := by
  have hirq : (indexTaken r p zero d).irq = (qdJudge r p (d.qd p).count (raise 0x16 3 (modQd p (indexed zero) d))).irq :=
    ((within_homeIndex r p _).keeps .irq (by decide)).trans ((within_passIndex r p _).keeps .irq (by decide))
  rw [hirq]
  refine qdJudge_testBit r p _ _ 3 (by simpa [raise] using h) ?_
  exact (raise_testBit 0x16 3 3 (modQd p (indexed zero) d) h).trans (if_pos rfl)

/-! ### The end of a compare's pulse [12 R359] -/

theorem dioDrive_func (r : Regs) (d : Dev) : (dioDrive r d).dio.func = d.dio.func := by
  unfold dioDrive
  split_ifs <;> rfl

/-- A function's output is at the level that the function sets. -/
theorem dioFunc_testBit (r : Regs) (n : Nat) (b : Bool) (d : Dev) : (dioFunc r n b d).dio.func.testBit n = b := by
  rw [dioFunc, dioDrive_func, testBit_setBit_self]

/-- The pulse of an axis's compare ends at its time. -/
theorem cmpPulseEnd_axis (i u : Nat) (r : Regs) (d : Dev) (h : (d.axis i).cmp.pulseEnd = some u) (hu : u ≤ d.now) :
    cmpPulseEnd true i r d = dioFunc r (d.axis i).cmp.dout false
      (modAxis i (fun a => { a with cmp := { a.cmp with pulseEnd := none } }) d) := by
  simp [cmpPulseEnd, h, hu]

/-- The pulse of a port's compare ends at its time. -/
theorem cmpPulseEnd_qd (i u : Nat) (r : Regs) (d : Dev) (h : (d.qd i).cmp.pulseEnd = some u) (hu : u ≤ d.now) :
    cmpPulseEnd false i r d = dioFunc r (d.qd i).cmp.dout false
      (modQd i (fun q => { q with cmp := { q.cmp with pulseEnd := none } }) d) := by
  simp [cmpPulseEnd, h, hu]

/-! ### SSI requests [12 R351 R352] -/

/-- A port whose source is due asks, unless a loop channel uses it. -/
theorem ssiRequest_due (p : Nat) (r : Regs) (d : Dev) (hp : p < 16) (hfree : boundFb r 1 p = none)
    (hsrc : ∃ x ∈ d.descr.sources, x.portKind = 4 ∧ x.port = p ∧
      multipleIn ((x.period.to64.mul (F64.ofInt 1000000000)).round.toNat) 4 d.tb0 = true) :
    ssiRequest p r d = ssiAsk r p d := by
  obtain ⟨x, hx, hkind, hport, hdue⟩ := hsrc
  exact if_pos ⟨hp, by simp [hfree], List.any_eq_true.2 ⟨x, hx, by simpa [hkind, hport, nsPerSec] using hdue⟩⟩

/-- Ticks that a frame of a port and its MONO time take. -/
def ssiTicks (r : Regs) (p : Nat) : Nat :=
  (ssiBits r p * r.at F.ENC_SSI_CFG_DIV p * 5 + 1) / 2 + 250 * r.at F.ENC_SSI_MONO_MONO p

/-- A request while the last frame or its MONO time runs is skipped and counted. -/
theorem ssiAsk_busy (r : Regs) (p u : Nat) (d : Dev) (hport : r.bit F.ENC_SSI_CFG_EN p = true) (hpage : r.en 0x16 = true)
    (hb : (d.ssi p).busyTill = some u) (hu : d.now < u) :
    ssiAsk r p d = modSsi p (fun x => { x with overrun := wrapInc 8 x.overrun, valid := false }) d := by
  simp [ssiAsk, hport, hpage, hb, hu]

/-- A request at an idle port starts a frame. -/
theorem ssiAsk_idle (r : Regs) (p : Nat) (d : Dev) (hport : r.bit F.ENC_SSI_CFG_EN p = true) (hpage : r.en 0x16 = true)
    (hb : ∀ u, (d.ssi p).busyTill = some u → u ≤ d.now) :
    ssiAsk r p d = modSsi p (fun x =>
      { x with busyTill := some (d.now + ssiTicks r p), reqAt := some d.tb0, reqTick := d.now, valid := false }) d := by
  cases hc : (d.ssi p).busyTill with
  | none => simp [ssiAsk, hport, hpage, hc, ssiTicks, ticksUs]
  | some u => simp [ssiAsk, hport, hpage, hc, Nat.not_lt.2 (hb u hc), ssiTicks, ticksUs]

/-- Settles O56: each command is cut down to its effect on the device, whose frame is a `Within`, and whose ports are read
off the rules above; a compare that fires and edges that reach the emulation outputs leave the count alone. -/
theorem positionFeedback : Obligations.PositionFeedback := by
  unfold Obligations.PositionFeedback
  refine ⟨fun s v ht hs => ?_, fun s p v fwd => ?_, fun s p v => ?_, fun s p => ?_, fun s p => ?_,
    fun s o f l ho hlen hq ht => ?_, fun s i u h hu => ?_, fun s i u h hu => ?_, fun s p hp hlen hfree hport hpage hsrc => ?_⟩
  · refine ⟨_, onDev_next s (dinSample v), ?_⟩
    rw [dinSample_due v s.regs s.dev.quiet ht hs]
    obtain ⟨hno, hlevel, -, hdin⟩ := dinSamples_dio s.regs v 32
      { s.dev.quiet with dio := { s.dev.dio with sampleNo := s.dev.dio.sampleNo + 1 } }
    have hframe := (within_foldN 32 _ _ fun n a => within_dinSample1 s.regs n (bit v n) a).trans
      (within_dio s.dev.quiet { s.dev.dio with sampleNo := s.dev.dio.sampleNo + 1 })
    refine ⟨hframe.onlyParts (by simp), ?_⟩
    rw [settle_dio]
    exact ⟨hno, hlevel, fun n hn hlen => (hdin n hlen).trans (if_pos hn)⟩
  · intro q up hp hlen hport hpage hab hnext
    refine ⟨_, onDev_next s (qdEdge p v), ?_⟩
    rw [qdEdge_step p v fwd s.regs s.dev.quiet hp hport hpage hab hnext]
    obtain ⟨rev, c, hself⟩ := qdCount_qd_self s.regs p up (v % 4) s.dev.quiet hlen
    have hother := fun j hj => qdCount_qd_other s.regs p j up (v % 4) s.dev.quiet hj
    refine ⟨(within_qdCount _ _ _ _ _).onlyParts (by simp), ?_⟩
    simp only [settle_qd]
    rw [hself]
    exact ⟨rfl, rfl, rfl, rfl, rfl, hother⟩
  · intro q hp hlen hport hpage _ hmoved hfwd hback
    refine ⟨_, onDev_next s (qdEdge p v), ?_⟩
    rw [qdEdge_illegal p v s.regs s.dev.quiet hp hport hpage hmoved hfwd hback]
    refine ⟨(within_qdIllegal p _ _).onlyParts (by simp), ?_⟩
    simp only [settle_qd]
    obtain ⟨win, hself⟩ := qdIllegal_qd_self p (v % 4) s.dev.quiet hlen
    rw [hself]
    exact ⟨rfl, rfl, rfl, rfl, fun j hj => qdIllegal_qd_other p j _ s.dev.quiet hj⟩
  · intro q zero hp hlen hport hpage hraw
    refine ⟨_, onDev_next s (qdIndex p), ?_⟩
    obtain ⟨z, hz, hindex⟩ := qdIndex_taken p s.regs s.dev.quiet hp hport hpage
    obtain ⟨c, hself⟩ := indexTaken_qd_self s.regs p z s.dev.quiet hlen
    rw [hindex]
    refine ⟨(within_indexTaken _ _ _ _).onlyParts (by simp), ?_⟩
    simp only [settle_qd, settle_raw]
    rw [hself]
    exact ⟨rfl, rfl, rfl, fun h => if_pos (hz.2 h), fun h => if_neg (mt hz.1 h), indexTaken_testBit s.regs p z _ hraw⟩
  · intro q hp hlen ht hraw
    refine ⟨_, onDev_next s (qdWindow p), ?_⟩
    have hbit := fun j => qdWindow_testBit p j s.regs s.dev.quiet hp ht hraw
    refine ⟨(within_qdWindow p _ _).onlyParts (by simp), ?_⟩
    simp only [settle_qd, settle_raw]
    rw [qdWindow_qd_self p s.regs s.dev.quiet hp ht hlen, quiet_qd]
    refine ⟨rfl, fun hover => ?_, fun hsum hfault hms => ?_⟩
    · have htrip : faultTrips s.regs p (s.dev.qd p) = true := decide_eq_true hover
      exact ⟨by simp [windowed, htrip], fun (hfault : (s.dev.qd p).fault = false) => by simp [hbit, htrip, hfault]⟩
    · have hclear : faultClears (s.dev.qd p) = true := faultClears_of_quiet hsum hfault hms
      have htrip : faultTrips s.regs p (s.dev.qd p) = false := faultTrips_of_empty hsum
      exact ⟨by simp [windowed, htrip, hclear], by simp [hbit, hclear]⟩
  · refine ⟨_, onDev_next s (emuOut o), ?_⟩
    obtain ⟨x, hout⟩ := emuOut_first o s.regs s.dev.quiet f l ho hq ht
    rw [hout]
    refine ⟨((within_emit _ _).trans (within_modEmu o _ _)).onlyParts (by simp), ?_⟩
    simp only [settle_emu]
    exact ⟨modEmu_emu_self o _ s.dev.quiet hlen, fun j hj => modEmu_emu_other o j _ s.dev.quiet hj⟩
  · refine ⟨_, onDev_next s (cmpPulseEnd true i), ?_⟩
    rw [cmpPulseEnd_axis i u s.regs s.dev.quiet h hu]
    refine ⟨((within_dioFunc _ _ _ _).trans (within_modAxis i _ _)).onlyParts (by simp), ?_⟩
    simp only [settle_axis, settle_dio]
    have hlen : i < s.dev.pfg.axes.length := axis_lt_of_pulse s.dev i u h
    exact ⟨((within_dioFunc _ _ _ _).axis (by decide) i).trans (modAxis_axis_self i _ s.dev.quiet hlen), dioFunc_testBit _ _ _ _⟩
  · refine ⟨_, onDev_next s (cmpPulseEnd false i), ?_⟩
    rw [cmpPulseEnd_qd i u s.regs s.dev.quiet h hu]
    refine ⟨((within_dioFunc _ _ _ _).trans (within_modQd i _ _)).onlyParts (by simp), ?_⟩
    simp only [settle_qd, settle_dio]
    have hlen : i < s.dev.enc.qd.length := qd_lt_of_pulse s.dev i u h
    exact ⟨((within_dioFunc _ _ _ _).qd (by decide) i).trans (modQd_qd_self i _ s.dev.quiet hlen), dioFunc_testBit _ _ _ _⟩
  · refine ⟨_, onDev_next s (ssiRequest p), ?_⟩
    rw [ssiRequest_due p s.regs s.dev.quiet hp hfree hsrc]
    by_cases hbusy : ∃ u, (s.dev.ssi p).busyTill = some u ∧ s.dev.now < u
    · obtain ⟨u, hb, hu⟩ := hbusy
      rw [ssiAsk_busy s.regs p u s.dev.quiet hport hpage hb hu]
      refine ⟨(within_modSsi p _ _).onlyParts (by simp), ?_⟩
      rw [settle_ssi, modSsi_ssi_self p _ s.dev.quiet hlen]
      exact ⟨rfl, rfl, fun hn => absurd (hn.symm.trans hb) nofun, fun _ _ _ => ⟨rfl, rfl⟩⟩
    · have hidle : ∀ u, (s.dev.ssi p).busyTill = some u → u ≤ s.dev.now :=
        fun u hb => Nat.le_of_not_lt fun hu => hbusy ⟨u, hb, hu⟩
      rw [ssiAsk_idle s.regs p s.dev.quiet hport hpage hidle]
      refine ⟨(within_modSsi p _ _).onlyParts (by simp), ?_⟩
      rw [settle_ssi, modSsi_ssi_self p _ s.dev.quiet hlen]
      exact ⟨rfl, rfl, fun _ => ⟨rfl, rfl⟩, fun u hb hu => absurd (hidle u hb) (Nat.not_le.2 hu)⟩

end Sys2Proof
end

section
/-! PROOFS. Command given and taken [15 R430 R438 R439 R441 R442 R443]: a relinquish by the host or by a lapsed permit, a
partner's relinquish, silence, and the end of SEEKING. -/

namespace Sys2Proof

open Sys2Proof.Machine

/-! ### The parts that a change of the pair state changes -/

theorem within_pair (d : Dev) (q : PairSt) : Within [.pair] { d with pair := q } d := by
  refine ⟨rfl, fun p hp => ?_⟩
  cases p
  case pair => exact absurd (by decide) hp
  all_goals rfl

theorem within_ndl (d : Dev) (n : NdlSt) : Within [.ndl] { d with ndl := n } d := by
  refine ⟨rfl, fun p hp => ?_⟩
  cases p
  case ndl => exact absurd (by decide) hp
  all_goals rfl

theorem within_e2eSlv (d : Dev) (e : E2eSt) (v : SlvSt) : Within [.e2e, .slv] { d with e2e := e, slv := v } d := by
  refine ⟨rfl, fun p hp => ?_⟩
  cases p
  case e2e | slv => exact absurd (by decide) hp
  all_goals rfl

theorem within_pairTo (r : Regs) (st : PState) (cause : Nat) (d : Dev) :
    Within [.irq, .evt, .pair] (pairTo r st cause d) d :=
  .ite (.refl _ d) (((within_record _ _ _ _).trans ((within_raise _ _ _).trans
    ((Within.when (within_pair _ _)).trans (within_pair d _)))).mono (by simp))

theorem within_e2eFromSet (r : Regs) (d : Dev) : Within [.e2e, .slv] (e2eFromSet r d) d := by
  unfold e2eFromSet
  split
  · exact within_e2eSlv d _ d.slv
  · exact .refl _ d

/-! ### A new pair state [15 R430] -/

/-- A change to another pair state sets the state and its cause; of the rest of page PAIR it moves only the counts of the
synchronisation, the watch for silence and the time of the next take. -/
theorem pairTo_pair (r : Regs) (st : PState) (cause : Nat) (d : Dev) (h : d.pair.state ≠ st) :
    ∃ ok miss cuts next, (pairTo r st cause d).pair = { d.pair with
      state := st, cause := cause, runOk := ok, runMiss := miss, cutRun := cuts, silentAt := none, nextTake := next } := by
  rw [pairTo, if_neg h]
  simp only [record_pair, raise_pair]
  split
  · exact ⟨_, _, _, _, rfl⟩
  · exact ⟨_, _, _, d.pair.nextTake, rfl⟩

/-- What enters the recorder moves no interrupt flag but by the lost-records entry before it. -/
theorem enter_irq (win : Nat) (x : EvRec) (more : List EvRec) (d : Dev) : (enter win x more d).irq = (lostRecord d).irq := by
  unfold enter
  by_cases hs : d.evt.stopped
  · simp [lostRecord, hs]
  · rw [if_neg hs]
    dsimp only
    split_ifs
    · cases (lostRecord d).evt.queue.getLast? <;> rfl
    · rfl
    · rfl

@[simp] theorem record_raw_length (r : Regs) (e : Ev) (x : Par) (d : Dev) :
    (record r e x d).irq.raw.length = d.irq.raw.length := by
  rw [record, enter_irq, lostRecord]
  split_ifs
  · rfl
  · simp [raise]

@[simp] theorem pairTo_raw_length (r : Regs) (st : PState) (cause : Nat) (d : Dev) :
    (pairTo r st cause d).irq.raw.length = d.irq.raw.length := by
  by_cases h : d.pair.state = st
  · rw [pairTo, if_pos h]
  · rw [pairTo, if_neg h]
    simp only [record_raw_length, raise, modAt_length]
    split
    · rfl
    · rfl

/-! ### Command given up [15 R441] -/

/-- The primary states are those of role 1. -/
theorem isPrimary_iff_role (d : Dev) : d.isPrimary = true ↔ d.pair.state.role = 1 := by
  unfold Dev.isPrimary
  cases d.pair.state <;> simp [PState.role]

/-- Page PAIR while the primary stops commanding, before its state changes. -/
def stoppedPair (q : PairSt) : PairSt :=
  { q with outputs := false, awaitHandover := false, take := none, checkLeft := 0, checkBad := false, relayEnd := none }

/-- Fail states and the RELINQUISH frame leave page PAIR as the change of state and the dropped ROLE_OUT make it. -/
theorem stopCommanding_pair (r : Regs) (st : PState) (cause : Nat) (d : Dev) :
    (stopCommanding r st cause d).pair =
      { (pairTo r st cause { d with pair := stoppedPair d.pair }).pair with roleOut := false } := by
  have key : (failAll r (setRole false (pairTo r st cause { d with pair := stoppedPair d.pair }))).pair =
      { (pairTo r st cause { d with pair := stoppedPair d.pair }).pair with roleOut := false } := by
    rw [failAll_pair, setRole_pair]
  unfold stopCommanding
  dsimp only
  split_ifs <;> exact key

/-- A primary that relinquishes is a standby with that cause, its outputs off and ROLE_OUT dropped; its permit stays. -/
theorem relinquish_pair (r : Regs) (cause : Nat) (d : Dev) (h : d.isPrimary = true) :
    (relinquish r cause d).pair.state = (if d.linkUp then .stbySyncing else .degraded) ∧
      (relinquish r cause d).pair.cause = cause ∧ (relinquish r cause d).pair.outputs = false ∧
      (relinquish r cause d).pair.roleOut = false ∧ (relinquish r cause d).pair.permit = d.pair.permit := by
  have hne : d.pair.state ≠ d.standbyState := by
    intro hst
    have hrole := (isPrimary_iff_role d).1 h
    rw [hst, Dev.standbyState] at hrole
    split_ifs at hrole <;> exact absurd hrole (by decide)
  obtain ⟨ok, miss, cuts, next, hto⟩ := pairTo_pair r d.standbyState cause { d with pair := stoppedPair d.pair } hne
  rw [relinquish, if_pos h, stopCommanding_pair, hto]
  exact ⟨rfl, rfl, rfl, rfl, rfl⟩

theorem relinquish_mde (r : Regs) (cause : Nat) (d : Dev) : (relinquish r cause d).mde = d.mde :=
  (AgreeOff.ite (agreeOff_stopCommanding r _ cause d) (.refl roleParts d)) .mde (by decide)

/-- A permit that has lapsed is dropped, and a primary relinquishes [15 R438 R439]. -/
theorem hbPermitLapse_due (r : Regs) (d : Dev) (p : Nat) (hp : d.pair.permit = some p) (hdue : p + d.permitTicks ≤ d.now) :
    hbPermitLapse r d = relinquish r 13 (dropPermit d) := by
  simp [hbPermitLapse, hp, hdue]

/-! ### Command taken [15 R446] -/

/-- The state of a unit that takes command. -/
def newPrimary (d : Dev) : PState := if d.linkUp then .primSyncing else .primAlone

/-- Page PAIR of a unit that has taken command for a cause, and awaits its first handover. -/
structure TookCommand (st : PState) (cause : Nat) (q : PairSt) : Prop where
  state : q.state = st
  cause : q.cause = cause
  awaits : q.awaitHandover = true

/-- What a standby that takes command takes of the set. -/
def takenFromSet (r : Regs) (d : Dev) : Dev :=
  let d := e2eFromSet r d
  if !(d.pair.imageEq) then { d with slv := { d.slv with first := true, prev := none } } else d

/-- What a standby does further as it takes command: it takes the set, and reports TAKEOVER. -/
def takeOver (r : Regs) (cause : Nat) (d : Dev) : Dev :=
  record r .pairTakeover { p0 := cause } (raise 0x27 1 (takenFromSet r d))

/-- A unit that has taken command awaits its first handover; whether its set is stale, and what it keeps of a take in hand,
depend on how it came to command. -/
def awaitFirst (stale : Bool) (take : Option TakeSt) (left : Nat) (d : Dev) : Dev :=
  { d with pair := { d.pair with awaitHandover := true, stale := stale, take := take, checkLeft := left } }

/-- Taking command is the change of state, the wait for a handover, and a standby's takeover. -/
theorem takeCommand_steps (r : Regs) (cause : Nat) (d : Dev) (hid : d.ndl.idClash = false) :
    ∃ stale take left, takeCommand r cause d =
      if d.pair.state.role = 2 then takeOver r cause (awaitFirst stale take left (pairTo r (newPrimary d) cause d))
      else awaitFirst stale take left (pairTo r (newPrimary d) cause d) := by
  rw [takeCommand, if_neg (by simp [hid])]
  by_cases hstby : d.pair.state.role = 2
  · simp only [hstby, beq_self_eq_true, if_true, Bool.true_and]
    exact ⟨_, _, _, rfl⟩
  · simp only [hstby, beq_eq_false_iff_ne.2 hstby, Bool.false_and, if_false, Bool.false_eq_true]
    exact ⟨_, _, _, rfl⟩

/-- A unit that was no primary has the new state and the cause, and awaits its handover. -/
theorem tookCommand_awaitFirst (r : Regs) (stale : Bool) (take : Option TakeSt) (left cause : Nat) (d : Dev)
    (hrole : d.pair.state.role ≠ 1) :
    TookCommand (newPrimary d) cause (awaitFirst stale take left (pairTo r (newPrimary d) cause d)).pair := by
  have hne : d.pair.state ≠ newPrimary d := by
    intro hst
    rw [hst, newPrimary] at hrole
    split_ifs at hrole <;> exact absurd rfl hrole
  obtain ⟨ok, miss, cuts, next, hto⟩ := pairTo_pair r (newPrimary d) cause d hne
  exact ⟨congrArg PairSt.state hto, congrArg PairSt.cause hto, rfl⟩

theorem within_awaitFirst (r : Regs) (st : PState) (stale : Bool) (take : Option TakeSt) (left cause : Nat) (d : Dev) :
    Within [.irq, .evt, .pair] (awaitFirst stale take left (pairTo r st cause d)) d :=
  ((within_pair _ _).trans (within_pairTo r st cause d)).mono (by simp)

theorem within_takenFromSet (r : Regs) (d : Dev) : Within [.e2e, .slv] (takenFromSet r d) d :=
  ((Within.when (within_e2eSlv _ _ _)).trans (within_e2eFromSet r d)).mono (by simp)

theorem within_takeOver (r : Regs) (cause : Nat) (d : Dev) : Within [.irq, .evt, .e2e, .slv] (takeOver r cause d) d :=
  ((within_record _ _ _ _).trans ((within_raise _ _ _).trans (within_takenFromSet r d))).mono (by simp)

/-- A takeover raises source 1 of page PAIR. -/
theorem takeOver_testBit (r : Regs) (cause : Nat) (d : Dev) (h : 0x27 < d.irq.raw.length) :
    (at' (takeOver r cause d).irq.raw 0x27).testBit 1 = true := by
  have hirq : (takenFromSet r d).irq = d.irq := (within_takenFromSet r d).keeps .irq (by decide)
  rw [takeOver, record_raw_other _ _ _ _ _ (by decide), raise_testBit _ _ _ _ (by rwa [hirq])]
  exact if_pos rfl

/-- A standby takes command: its state, cause and wait for a handover, TAKEOVER, and the parts that change. -/
theorem takeCommand_standby (r : Regs) (cause : Nat) (d : Dev) (hid : d.ndl.idClash = false) (hrole : d.pair.state.role = 2)
    (hraw : 0x27 < d.irq.raw.length) :
    Within [.irq, .evt, .pair, .e2e, .slv] (takeCommand r cause d) d ∧
      TookCommand (newPrimary d) cause (takeCommand r cause d).pair ∧
      (at' (takeCommand r cause d).irq.raw 0x27).testBit 1 = true := by
  obtain ⟨stale, take, left, hsteps⟩ := takeCommand_steps r cause d hid
  rw [hsteps, if_pos hrole]
  have hover := within_takeOver r cause (awaitFirst stale take left (pairTo r (newPrimary d) cause d))
  have hpair := hover.keeps .pair (by decide)
  have htook := tookCommand_awaitFirst r stale take left cause d (by simp [hrole])
  refine ⟨(hover.trans (within_awaitFirst _ _ _ _ _ _ d)).mono (by simp), hpair ▸ htook, ?_⟩
  exact takeOver_testBit _ _ _ (by simpa [awaitFirst] using hraw)

/-- A unit without a role takes command from no one [15 R446]. -/
theorem takeCommand_noRole (r : Regs) (cause : Nat) (d : Dev) (hid : d.ndl.idClash = false) (hrole : d.pair.state.role = 0) :
    Within [.irq, .evt, .pair] (takeCommand r cause d) d ∧
      TookCommand (newPrimary d) cause (takeCommand r cause d).pair := by
  obtain ⟨stale, take, left, hsteps⟩ := takeCommand_steps r cause d hid
  rw [hsteps, if_neg (by simp [hrole])]
  exact ⟨within_awaitFirst _ _ _ _ _ _ d, tookCommand_awaitFirst r stale take left cause d (by simp [hrole])⟩

/-! ### Who takes command, and when [15 R430 R442 R443] -/

/-- A standby in step with a partner that relinquishes takes command while cuts are made [15 R442 R445]. -/
theorem relinquishRx_standby (r : Regs) (d : Dev) (hrun : d.mde.dstate = .run) (hcuts : d.mde.cyc.running = true)
    (hlink : d.linkUp = true) (hst : d.pair.state = .stbySyncing ∨ d.pair.state = .stbySynced) :
    relinquishRx r d = takeCommand r 3 { d with ndl := { d.ndl with partnerCommands := false } } := by
  have hlink' : ({ d with ndl := { d.ndl with partnerCommands := false } } : Dev).linkUp = true := hlink
  rcases hst with hst | hst <;> simp [relinquishRx, Dev.running, hrun, hcuts, hlink', hst]

/-- The watch for silence moves nothing once it runs. -/
theorem silentWatch_running (r : Regs) (d : Dev) (t0 : Nat) (hsilent : silentNow r d = true)
    (ht : d.pair.silentAt = some t0) : silentWatch r d = d := by
  rw [silentWatch, if_pos hsilent, ht, Option.getD_some, ← ht]

/-- Three silent milliseconds give command to the unit [15 R443]. -/
theorem silentTakeover_due (r : Regs) (d : Dev) (t0 : Nat) (hsilent : silentNow r d = true)
    (ht : d.pair.silentAt = some t0) (hdue : t0 + 750000 ≤ d.now) : silentTakeover r d = takeCommand r 4 d := by
  rw [silentTakeover, silentWatch_running r d t0 hsilent ht]
  simp [ht, ticksMs, hdue]

/-- Silence is of a standby whose link is down. -/
theorem silentNow_standby (r : Regs) (d : Dev) (h : silentNow r d = true) : d.pair.state.role = 2 ∧ d.linkUp = false := by
  simp only [silentNow, Bool.and_eq_true, beq_iff_eq, Bool.not_eq_true'] at h
  obtain ⟨⟨⟨⟨-, hrole⟩, -⟩, hlink⟩, -⟩ := h
  exact ⟨hrole, hlink⟩

/-- A unit that ends its SEEKING takes command, or has a partner that it cannot reach. -/
theorem seekTimeout_due (r : Regs) (d : Dev) (hst : d.pair.state = .seeking) (hlink : d.linkUp = false)
    (hdue : d.pair.seekAt + ticksS (r.get F.PAIR_CFG_SEEK) ≤ d.now) :
    seekTimeout r d =
      if d.pair.seekHeard = false ∧ (d.pair.unitId = 0 ∨ d.pair.hbIn = false) then takeCommand r 11 d
      else pairTo r .degraded 11 d := by
  simp [seekTimeout, hst, hlink, hdue]

/-- Settles O37: command is given by `relinquish` and taken by `takeCommand`, each under its own command's condition; a
standby takes over from its partner, and a unit in SEEKING from no one [15 R446]. -/
theorem commandGivenAndTaken : Obligations.CommandGivenAndTaken := by
  unfold Obligations.CommandGivenAndTaken
  refine ⟨fun s hlock hprim => ?_, fun s hlock => ?_, fun s p hp hdue => ?_, fun s hrun hcuts hlink hid hraw hst => ?_,
    fun s t0 hsilent ht hdue hid hraw => ?_, fun s hst hlink hdue hid => ?_⟩
  · refine ⟨_, onRegs_next s pairRelinquish, ?_⟩
    have hgive : pairRelinquish s.regs s.dev.quiet = (s.regs, relinquish s.regs 12 s.dev.quiet) := by
      simp [pairRelinquish, hlock]
    obtain ⟨hstate, hcause, houts, hrole, -⟩ := relinquish_pair s.regs 12 s.dev.quiet hprim
    rw [hgive, settle_pair, settle_mde]
    exact ⟨rfl, rfl, hstate, hcause, houts, hrole, relinquish_mde _ _ _⟩
  · refine ⟨_, onRegs_next s pairRelinquish, ?_⟩
    have hreject : pairRelinquish s.regs s.dev.quiet = (s.regs.reject 0x27 0x44 2, s.dev.quiet) := by
      simp [pairRelinquish, hlock]
    rw [hreject]
    exact ⟨onlyParts_quiet [] { s with regs := s.regs.reject 0x27 0x44 2 } _, rfl⟩
  · refine ⟨_, onDev_next s hbPermitLapse, ?_⟩
    rw [hbPermitLapse_due s.regs s.dev.quiet p hp hdue, settle_pair]
    cases hprim : s.dev.isPrimary with
    | true =>
      obtain ⟨hstate, hcause, houts, -, hpermit⟩ := relinquish_pair s.regs 13 (dropPermit s.dev.quiet) hprim
      exact ⟨rfl, rfl, hpermit, fun _ => ⟨hstate, hcause, houts⟩, nofun⟩
    | false =>
      have hkeep : relinquish s.regs 13 (dropPermit s.dev.quiet) = dropPermit s.dev.quiet :=
        if_neg (Bool.eq_false_iff.1 hprim)
      rw [hkeep]
      exact ⟨rfl, rfl, rfl, nofun, fun _ => (within_pair s.dev.quiet _).onlyParts (by simp)⟩
  · refine ⟨_, onDev_next s relinquishRx, ?_⟩
    rw [relinquishRx_standby s.regs s.dev.quiet hrun hcuts hlink hst, settle_pair, settle_ndl, settle_raw]
    have hrole : s.dev.pair.state.role = 2 := by rcases hst with hst | hst <;> rw [hst] <;> rfl
    obtain ⟨hframe, htook, hbit⟩ := takeCommand_standby s.regs 3
      { s.dev.quiet with ndl := { s.dev.ndl with partnerCommands := false } } hid hrole hraw
    have hndl := hframe.keeps .ndl (by decide)
    exact ⟨(hframe.trans (within_ndl s.dev.quiet _)).onlyParts (by simp), htook.state.trans (if_pos hlink), htook.cause,
      htook.awaits, congrArg NdlSt.partnerCommands hndl, hbit⟩
  · refine ⟨_, onDev_next s silentTakeover, ?_⟩
    obtain ⟨hrole, hlink⟩ := silentNow_standby s.regs s.dev hsilent
    rw [silentTakeover_due s.regs s.dev.quiet t0 hsilent ht hdue, settle_pair, settle_raw]
    obtain ⟨hframe, htook, hbit⟩ := takeCommand_standby s.regs 4 s.dev.quiet hid hrole hraw
    exact ⟨hframe.onlyParts (by simp), htook.state.trans (if_neg (Bool.eq_false_iff.1 hlink)), htook.cause, htook.awaits, hbit⟩
  · refine ⟨_, onDev_next s seekTimeout, ?_⟩
    rw [seekTimeout_due s.regs s.dev.quiet hst hlink hdue, settle_pair, quiet_pair]
    split_ifs
    · obtain ⟨hframe, htook⟩ := takeCommand_noRole s.regs 11 s.dev.quiet hid (congrArg PState.role hst)
      exact ⟨hframe.onlyParts (by simp), htook.state.trans (if_neg (Bool.eq_false_iff.1 hlink)), htook.cause⟩
    · obtain ⟨ok, miss, cuts, next, hto⟩ := pairTo_pair s.regs .degraded 11 s.dev.quiet (by simp [hst])
      rw [hto]
      exact ⟨(within_pairTo _ _ _ _).onlyParts (by simp), rfl, rfl⟩

end Sys2Proof
end

section
/-! PROOFS. Event records [17 R490 R496 R498 R500 R501 R502 R504]: the commit of the queue, RECORDS_LOST, host codes, and
the host's acknowledgement. -/

namespace Sys2Proof

open Sys2Proof.Machine

/-! ### The parts that the recorder changes -/

theorem within_evt (d : Dev) (e : EvtSt) : Within [.evt] { d with evt := e } d := by
  refine ⟨rfl, fun p hp => ?_⟩
  cases p
  case evt => exact absurd (by decide) hp
  all_goals rfl

theorem within_hld (d : Dev) (h : HldSt) : Within [.hld] { d with hld := h } d := by
  refine ⟨rfl, fun p hp => ?_⟩
  cases p
  case hld => exact absurd (by decide) hp
  all_goals rfl

theorem within_lif (d : Dev) (l : LifSt) : Within [.lif] { d with lif := l } d := by
  refine ⟨rfl, fun p hp => ?_⟩
  cases p
  case lif => exact absurd (by decide) hp
  all_goals rfl

theorem within_evtHld (d : Dev) (e : EvtSt) (h : HldSt) : Within [.evt, .hld] { d with evt := e, hld := h } d := by
  refine ⟨rfl, fun p hp => ?_⟩
  cases p
  case evt | hld => exact absurd (by decide) hp
  all_goals rfl

theorem within_lostRecord (d : Dev) : Within [.irq, .evt] (lostRecord d) d :=
  .ite (.refl _ d) ((within_raise _ _ _).trans (within_evt d _))

theorem within_evtEvaluate (r : Regs) (d : Dev) : Within [.irq, .evt] (evtEvaluate r d) d :=
  (within_raiseIf _ _ _ _).trans (within_evt d _)

theorem within_wearOne (r : Regs) (d : Dev) (p : Nat) : Within [.irq, .evt, .lif] (wearOne r d p) d :=
  .ite
    (((within_record _ _ _ _).trans ((within_raise _ _ _).trans ((within_lif _ _).trans (within_lif d _)))).mono (by simp))
    ((within_lif d _).mono (by simp))

theorem within_wearSeg (r : Regs) (l : List (Area × Nat)) (d : Dev) : Within [.irq, .evt, .lif] (wearSeg r l d) d :=
  foldl_keeps (Within [.irq, .evt, .lif] · d) (wearOne r) (wearPages l) d
    (fun a p ha => ((within_wearOne r a p).trans ha).mono (by simp)) (.refl _ d)

/-! ### A lost-records entry [17 R501] -/

theorem lostRecord_of_none_lost (d : Dev) (h : d.evt.lostNow = 0) : lostRecord d = d := by
  simp [lostRecord, h]

theorem lostRecord_of_full (d : Dev) (h : 2048 ≤ d.evt.queue.length) : lostRecord d = d := by
  simp [lostRecord, h]

/-- The record of the drops since the last one like it. -/
def lossOf (d : Dev) : EvRec := d.mkRec Ev.recordsLost.code { p0 := d.evt.lostNow } false

/-- Page EVT once that record is in the queue. -/
def lossEntered (d : Dev) : EvtSt := { d.evt.push d.now (lossOf d) with lostNow := 0 }

/-- Drops and a free slot: the record of the drops takes the slot. -/
theorem lostRecord_of_room (d : Dev) (hl : d.evt.lostNow ≠ 0) (hs : d.evt.stopped = false)
    (hq : d.evt.queue.length < 2048) : lostRecord d = raise 0x29 1 { d with evt := lossEntered d } := by
  rw [lostRecord, if_neg (by simp [hl, hs, hq])]
  rfl

theorem lostRecord_of_room_testBit (d : Dev) (hl : d.evt.lostNow ≠ 0) (hs : d.evt.stopped = false)
    (hq : d.evt.queue.length < 2048) (hraw : 0x29 < d.irq.raw.length) :
    (at' (lostRecord d).irq.raw 0x29).testBit 1 = true := by
  rw [lostRecord_of_room d hl hs hq]
  exact (raise_testBit 0x29 1 1 { d with evt := lossEntered d } hraw).trans (if_pos rfl)

/-- A lost-records entry either leaves page EVT or adds its record to the queue. -/
theorem lostRecord_evt (d : Dev) : (lostRecord d).evt = d.evt ∨ (lostRecord d).evt = lossEntered d := by
  unfold lostRecord
  split
  · exact .inl rfl
  · exact .inr rfl

/-! ### A record that enters [17 R490 R498 R501] -/

/-- Page EVT with the newest record repeated once more. -/
def repeatNewest (e : EvtSt) : EvtSt :=
  match e.queue.getLast? with
  | some o => { e with queue := e.queue.dropLast ++ [{ o with rpt := o.rpt + 1 }] }
  | none => { e with rptPend := e.rptPend + 1 }

/-- Page EVT once it has taken record `x`: as a repeat of the newest record, in the queue, or as a drop. -/
def takeRec (win now : Nat) (x : EvRec) (e : EvtSt) : EvtSt :=
  if e.lostNow = 0 ∧ e.newest.any (fun o => mergeable win o x) = true then repeatNewest e
  else if e.queue.length < 2048 then e.push now x else e.drop

/-- While recording goes on, a record is taken after the drops before it are recorded. -/
theorem enter_eq_takeRec (win : Nat) (x : EvRec) (d : Dev) (h : d.evt.stopped = false) :
    enter win x [] d = { lostRecord d with evt := takeRec win (lostRecord d).now x (lostRecord d).evt } := by
  rw [enter, if_neg (by simp [h])]
  generalize lostRecord d = a
  simp only [takeRec, List.isEmpty_nil, Bool.and_true, Bool.and_eq_true, beq_iff_eq, List.length_nil, Nat.add_zero,
    Nat.succ_le_iff]
  cases a.evt.newest with
  | none =>
    simp only [Option.any_none, Bool.false_eq_true, and_false, if_false]
    split_ifs <;> rfl
  | some o =>
    simp only [Option.any_some]
    split_ifs
    · unfold repeatNewest
      cases a.evt.queue.getLast? <;> rfl
    · rfl
    · rfl

theorem within_enter (win : Nat) (x : EvRec) (more : List EvRec) (d : Dev) :
    Within [.irq, .evt] (enter win x more d) d := by
  obtain ⟨e, i, h⟩ := enter_shape win x more d
  rw [h]
  refine ⟨rfl, fun p hp => ?_⟩
  cases p
  case irq | evt => exact absurd (by decide) hp
  all_goals rfl

theorem takeRec_of_new (win now : Nat) (x : EvRec) (e : EvtSt) (hq : e.queue.length < 2048)
    (hm : e.newest.any (fun o => mergeable win o x) = false) : takeRec win now x e = e.push now x := by
  simp [takeRec, hm, hq]

theorem takeRec_of_repeat (win now : Nat) (x o : EvRec) (e : EvtSt) (hl : e.lostNow = 0)
    (ho : e.queue.getLast? = some o) (hm : mergeable win o x = true) :
    takeRec win now x e = { e with queue := e.queue.dropLast ++ [{ o with rpt := o.rpt + 1 }] } := by
  simp [takeRec, EvtSt.newest, repeatNewest, hl, ho, hm]

/-- A window of 0 merges nothing. -/
theorem mergeable_window_zero (o x : EvRec) : mergeable 0 o x = false := by
  simp [mergeable]

theorem takeRec_of_full (now : Nat) (x : EvRec) (e : EvtSt) (hq : 2048 ≤ e.queue.length) :
    takeRec 0 now x e = e.drop := by
  have hany : e.newest.any (fun o => mergeable 0 o x) = false := by
    cases e.newest <;> simp [mergeable_window_zero]
  simp [takeRec, hany, hq]

/-- Records of different codes do not merge. -/
theorem mergeable_of_code_ne (win : Nat) (o x : EvRec) (h : o.code ≠ x.code) : mergeable win o x = false := by
  simp [mergeable, h]

/-! ### Host codes [17 R502] -/

/-- The element after the first ones of a list. -/
theorem at'_append_length {α : Type} [Inhabited α] (l m : List α) (x : α) : at' (l ++ x :: m) l.length = x := by
  simp [at', List.getD_eq_getElem?_getD]

/-- The record of a host write of EVT_HOST_CODE. -/
def hostRecord (r : Regs) (d : Dev) (v : Nat) : EvRec :=
  d.mkRec (v % 2 ^ 12)
    { p0 := r.get F.EVT_HOST_P0_P0, p1 := r.get F.EVT_HOST_P12_P1, p2 := r.get F.EVT_HOST_P12_P2, p3 := v / 2 ^ 16 % 256 }
    false

/-- A host write of a code in range, while recording goes on, has its record taken after the drops before it. -/
theorem evtHostCode_inRange (v : Nat) (r : Regs) (d : Dev) (hlo : 0xF00 ≤ v % 2 ^ 12) (hhi : v % 2 ^ 12 ≤ 0xFFE) :
    evtHostCode v r d = (r, enter (r.get F.EVT_CFG_REPEAT_WIN) (hostRecord r d v) [] d) := by
  have hc : bits v 11 0 = v % 2 ^ 12 := by simp [bits]
  have hp : bits v 23 16 = v / 2 ^ 16 % 256 := rfl
  rw [evtHostCode, hc, hp, if_pos ⟨hlo, hhi⟩]
  rfl

theorem evtHostCode_outOfRange (v : Nat) (r : Regs) (d : Dev) (h : v % 2 ^ 12 < 0xF00 ∨ v % 2 ^ 12 = 0xFFF) :
    evtHostCode v r d = (r.reject 0x29 0x68 3, d) := by
  have hc : bits v 11 0 = v % 2 ^ 12 := by simp [bits]
  rw [evtHostCode, hc]
  exact if_neg (by omega)

/-- The state after a host write of a code in range. -/
def hostCoded (s : State) (v : Nat) : State :=
  { s with dev := settle s.regs (enter (s.regs.get F.EVT_CFG_REPEAT_WIN) (hostRecord s.regs s.dev v) [] s.dev.quiet) }

theorem exec_evtHostCode_inRange (s : State) (v : Nat) (hlo : 0xF00 ≤ v % 2 ^ 12) (hhi : v % 2 ^ 12 ≤ 0xFFE) :
    exec (.evtHostCode v) s = .next (hostCoded s v) := by
  refine (onRegs_next s (evtHostCode v)).trans ?_
  rw [evtHostCode_inRange v _ _ hlo hhi]
  rfl

theorem onlyParts_hostCoded (s : State) (v : Nat) : OnlyParts [.evt] s (hostCoded s v) :=
  (within_enter _ _ _ _).onlyParts (by simp)

/-- Page EVT after a host write of a code in range, when no drop is recorded before it. -/
theorem hostCoded_evt (s : State) (v : Nat) (hs : s.dev.evt.stopped = false)
    (hl : s.dev.evt.lostNow = 0 ∨ 2048 ≤ s.dev.evt.queue.length) :
    (hostCoded s v).dev.evt = takeRec (s.regs.get F.EVT_CFG_REPEAT_WIN) s.dev.now (hostRecord s.regs s.dev v) s.dev.evt := by
  have hlost : lostRecord s.dev.quiet = s.dev.quiet :=
    hl.elim (lostRecord_of_none_lost s.dev.quiet) (lostRecord_of_full s.dev.quiet)
  rw [hostCoded, settle_evt, enter_eq_takeRec _ _ s.dev.quiet hs, hlost]
  rfl

/-- A host write after drops enters two records: that of the drops, and its own. -/
theorem hostCoded_evt_of_lost (s : State) (v : Nat) (hlo : 0xF00 ≤ v % 2 ^ 12) (hs : s.dev.evt.stopped = false)
    (hl : s.dev.evt.lostNow ≠ 0) (hq : s.dev.evt.queue.length < 2047) :
    (hostCoded s v).dev.evt = (lossEntered s.dev).push s.dev.now (hostRecord s.regs s.dev v) := by
  have hlost := lostRecord_of_room s.dev.quiet hl hs (Nat.lt_succ_of_lt hq)
  have hnewest : (lossEntered s.dev).newest = some { lossOf s.dev with seq := s.dev.evt.nextSeq } := by
    simp [EvtSt.newest, lossEntered, EvtSt.push]
  have hcode : (4 : Nat) ≠ v % 2 ^ 12 := by omega
  have hnew : (lossEntered s.dev).newest.any
      (fun o => mergeable (s.regs.get F.EVT_CFG_REPEAT_WIN) o (hostRecord s.regs s.dev v)) = false := by
    rw [hnewest]
    exact mergeable_of_code_ne _ _ _ hcode
  rw [hostCoded, settle_evt, enter_eq_takeRec _ _ s.dev.quiet hs, hlost]
  exact takeRec_of_new _ _ _ _ (by simp [lossEntered, EvtSt.push]; omega) hnew

/-! ### The commit of the queue [17 R496 R500] -/

/-- The codes of the records that a commit itself can enter. -/
def IsCommitCode (c : Nat) : Prop := c = Ev.recordsLost.code ∨ c = Ev.cornerstoneFull.code ∨ c = Ev.wearWarn.code

/-- Page EVT `v` holds in MRAM what `e` holds, and in its queue only records of the codes a commit enters. -/
structure CommittedAs (e v : EvtSt) : Prop where
  reel : v.reel = e.reel
  corner : v.corner = e.corner
  headSlot : v.headSlot = e.headSlot
  headSeq : v.headSeq = e.headSeq
  hasHead : v.hasHead = e.hasHead
  codes : ∀ x ∈ v.queue, IsCommitCode x.code

theorem CommittedAs.push {e v : EvtSt} (h : CommittedAs e v) (now : Nat) (x : EvRec) (hx : IsCommitCode x.code) :
    CommittedAs e (v.push now x) := by
  refine { h with codes := fun y hy => ?_ }
  rcases List.mem_append.1 hy with hy | hy
  · exact h.codes y hy
  · rw [List.mem_singleton.1 hy]
    exact hx

theorem CommittedAs.repeatNewest {e v : EvtSt} (h : CommittedAs e v) : CommittedAs e (repeatNewest v) := by
  unfold Sys2Proof.repeatNewest
  split
  next o ho =>
    refine { h with codes := fun y hy => ?_ }
    rcases List.mem_append.1 hy with hy | hy
    · exact h.codes y (List.mem_of_mem_dropLast hy)
    · rw [List.mem_singleton.1 hy]
      exact h.codes o (List.mem_of_getLast? ho)
  next => exact { h with }

theorem CommittedAs.takeRec {e v : EvtSt} (h : CommittedAs e v) (win now : Nat) (x : EvRec) (hx : IsCommitCode x.code) :
    CommittedAs e (takeRec win now x v) := by
  unfold Sys2Proof.takeRec
  split_ifs
  · exact h.repeatNewest
  · exact h.push now x hx
  · exact { h with }

theorem CommittedAs.lostRecord {e : EvtSt} {d : Dev} (h : CommittedAs e d.evt) : CommittedAs e (lostRecord d).evt := by
  rcases lostRecord_evt d with hd | hd
  · rwa [hd]
  · rw [hd]
    exact { h.push d.now (lossOf d) (.inl rfl) with }

theorem CommittedAs.evtEvaluate {e : EvtSt} {d : Dev} (r : Regs) (h : CommittedAs e d.evt) :
    CommittedAs e (evtEvaluate r d).evt := by
  rw [Machine.evtEvaluate, raiseIf_evt]
  exact { h with }

theorem CommittedAs.record {e : EvtSt} {d : Dev} (r : Regs) (v : Ev) (p : Par) (hv : IsCommitCode v.code)
    (h : CommittedAs e d.evt) : CommittedAs e (record r v p d).evt := by
  rw [Machine.record]
  cases hs : d.evt.stopped with
  | true => rwa [enter, if_pos hs]
  | false =>
    rw [enter_eq_takeRec _ _ _ hs]
    exact h.lostRecord.takeRec _ _ _ hv

theorem CommittedAs.wearSeg {e : EvtSt} {d : Dev} (r : Regs) (l : List (Area × Nat)) (h : CommittedAs e d.evt) :
    CommittedAs e (wearSeg r l d).evt := by
  refine foldl_keeps (fun a : Dev => CommittedAs e a.evt) (wearOne r) (wearPages l) d (fun a p ha => ?_) h
  unfold wearOne
  dsimp only
  split_ifs
  · exact ha.record r .wearWarn _ (.inr (.inr rfl))
  · exact ha

/-- The device once the queue is in MRAM, before what follows from it. -/
def queueWritten (d : Dev) : Dev :=
  { d with evt := { d.evt.queue.foldl commitRec d.evt.flushRepeat with queue := [], queueAt := none }
           hld := { d.hld with evtWait := false } }

/-- A full Cornerstone raises its source and enters its record. -/
def cornerstoneFilled (r : Regs) (d : Dev) : Dev := record r .cornerstoneFull {} (raise 0x29 2 d)

theorem within_cornerstoneFilled (r : Regs) (d : Dev) : Within [.irq, .evt] (cornerstoneFilled r d) d :=
  ((within_record _ _ _ _).trans (within_raise _ _ d)).mono (by simp)

/-- What a commit does once the queue is in MRAM: the backlog is evaluated, drops and a full Cornerstone are recorded, and
the wear is counted. -/
theorem commitQueue_steps (r : Regs) (d : Dev) : ∃ full areas, commitQueue r d =
    wearSeg r areas (onlyIf full (cornerstoneFilled r) (lostRecord (evtEvaluate r (queueWritten d)))) :=
  ⟨_, _, rfl⟩

theorem within_commitQueue_written (r : Regs) (d : Dev) :
    Within [.irq, .evt, .lif] (commitQueue r d) (queueWritten d) := by
  obtain ⟨full, areas, h⟩ := commitQueue_steps r d
  rw [h]
  exact ((within_wearSeg _ _ _).trans ((Within.when (within_cornerstoneFilled r _)).trans
    ((within_lostRecord _).trans (within_evtEvaluate r _)))).mono (by simp)

theorem within_commitQueue (r : Regs) (d : Dev) : Within [.irq, .evt, .hld, .lif] (commitQueue r d) d :=
  ((within_commitQueue_written r d).trans (within_evtHld d _ _)).mono (by simp)

/-- What follows the write of the queue changes nothing in MRAM, and queues only records of its own. -/
theorem commitQueue_evt (r : Regs) (d : Dev) : CommittedAs (queueWritten d).evt (commitQueue r d).evt := by
  have hwritten : CommittedAs (queueWritten d).evt (queueWritten d).evt := ⟨rfl, rfl, rfl, rfl, rfl, nofun⟩
  obtain ⟨full, areas, h⟩ := commitQueue_steps r d
  rw [h]
  refine CommittedAs.wearSeg r areas ?_
  cases full with
  | false => exact (hwritten.evtEvaluate r).lostRecord
  | true => exact CommittedAs.record r .cornerstoneFull {} (.inr (.inl rfl)) (hwritten.evtEvaluate r).lostRecord

theorem commitQueue_evtWait (r : Regs) (d : Dev) : (commitQueue r d).hld.evtWait = false :=
  congrArg HldSt.evtWait ((within_commitQueue_written r d).keeps .hld (by decide))

/-- A queue with a last record leaves that record at the head. -/
theorem queueWritten_head (d : Dev) (l : List EvRec) (x : EvRec) (h : d.evt.queue = l ++ [x]) :
    (queueWritten d).evt.headSeq = x.seq ∧ (queueWritten d).evt.hasHead = true := by
  simp [queueWritten, h, commitRec]

/-- The commit that is due writes the queue where a segment may start, and waits elsewhere. -/
theorem exec_evtCommit_due (s : State) (hw : s.dev.evt.waits = true) (hd : s.dev.evt.due s.dev.now = true)
    (hm : s.dev.mramOn = true) :
    exec .evtCommit s = .next { s with dev := settle s.regs (if segOk s.regs s.dev = true then commitQueue s.regs s.dev.quiet
      else deferSeg s.dev.hld.evtWait { s.dev.quiet with hld := { s.dev.hld with evtWait := true } }) } := by
  have hdue : (s.dev.quiet.evt.waits && s.dev.quiet.evt.due s.dev.quiet.now && s.dev.quiet.mramOn) = true := by
    change (s.dev.evt.waits && s.dev.evt.due s.dev.now && s.dev.mramOn) = true
    rw [hw, hd, hm]
    rfl
  refine (onDev_next s evtCommit).trans ?_
  rw [evtCommit, if_pos hdue]
  rfl

theorem EvtSt.waits_of_queue (e : EvtSt) (h : e.queue ≠ []) : e.waits = true := by
  simp [EvtSt.waits, h]

/-- The commit of a queue that is due while a segment may start. -/
theorem exec_evtCommit_ok (s : State) (hq : s.dev.evt.queue ≠ []) (hd : s.dev.evt.due s.dev.now = true)
    (hm : s.dev.mramOn = true) (hok : segOk s.regs s.dev = true) :
    exec .evtCommit s = .next { s with dev := settle s.regs (commitQueue s.regs s.dev.quiet) } := by
  rw [exec_evtCommit_due s (EvtSt.waits_of_queue _ hq) hd hm, if_pos hok]

theorem within_deferSeg (already : Bool) (d : Dev) : Within [.hld] (deferSeg already d) d := .ite (.refl _ d) (within_hld d _)

/-! ### The evaluation of the backlog [17 R504] -/

/-- An evaluation notes whether the backlog is below WM, and raises NEW_RECORDS where it has risen to it. -/
theorem evtEvaluate_evt (r : Regs) (d : Dev) :
    (evtEvaluate r d).evt = { d.evt with below := !decide (r.get F.EVT_CFG_WM ≤ d.evt.backlog) } := by
  rw [evtEvaluate, raiseIf_evt]

theorem evtEvaluate_testBit (r : Regs) (d : Dev) (h : 0x29 < d.irq.raw.length) (hup : r.get F.EVT_CFG_WM ≤ d.evt.backlog)
    (hb : d.evt.below = true) : (at' (evtEvaluate r d).irq.raw 0x29).testBit 0 = true := by
  refine Eq.trans (raiseIf_testBit _ _ _ _ _ ?_) ?_
  · exact h
  · simp [hup, hb]

/-- Settles O51: a commit that is due writes its queue, and what follows it keeps what is in MRAM; a host code is a record
taken after the drops before it; an acknowledgement evaluates the backlog. The watermark after a commit and the wait of one
that cannot start are the model's reading (log 98, 99). -/
theorem eventRecords : Obligations.EventRecords := by
  unfold Obligations.EventRecords
  refine ⟨fun s x hq hrpt hd hm hok => ?_, fun s hq hd hm hok => ?_, fun s hw hd hm hok => ?_, fun s hl hs hq hraw => ?_,
    fun s v hlo hhi hs hl hq hnew => ?_, fun s v hlo hhi hs hl hq => ?_, fun s v o hlo hhi hs hl ho hmerge => ?_,
    fun s v hlo hhi hs hq hwin => ?_, fun s v hv => ?_, fun s v hraw => ?_⟩
  · refine ⟨_, exec_evtCommit_ok s (by simp [hq]) hd hm hok, (within_commitQueue _ _).onlyParts (by simp), ?_⟩
    have hkept := commitQueue_evt s.regs s.dev.quiet
    rw [settle_evt, settle_hld, hkept.reel, hkept.headSlot, hkept.headSeq, hkept.corner]
    simp [queueWritten, hq, hrpt, EvtSt.flushRepeat, commitRec, reelSlots, commitQueue_evtWait]
  · refine ⟨_, exec_evtCommit_ok s hq hd hm hok, (within_commitQueue _ _).onlyParts (by simp), ?_⟩
    have hkept := commitQueue_evt s.regs s.dev.quiet
    obtain ⟨l, x, hlast⟩ := (List.eq_nil_or_concat s.dev.evt.queue).resolve_left hq
    rw [List.concat_eq_append] at hlast
    obtain ⟨hseq, hhead⟩ := queueWritten_head s.dev.quiet l x hlast
    rw [settle_evt, hkept.headSeq, hkept.hasHead, hseq, hhead, hlast, List.getLast?_concat]
    exact ⟨rfl, rfl, hkept.codes⟩
  · refine ⟨_, exec_evtCommit_due s hw hd hm, ?_⟩
    rw [if_neg (Bool.eq_false_iff.1 hok), settle_hld]
    refine ⟨((within_deferSeg _ _).trans (within_hld _ _)).onlyParts (by simp), ?_⟩
    cases s.dev.hld.evtWait <;> exact ⟨rfl, rfl⟩
  · refine ⟨_, { lossOf s.dev with seq := s.dev.evt.nextSeq }, onDev_next s fun _ d => lostRecord d,
      (within_lostRecord _).onlyParts (by simp), ?_⟩
    rw [settle_evt, settle_raw, lostRecord_of_room_testBit s.dev.quiet hl hs hq hraw, lostRecord_of_room s.dev.quiet hl hs hq]
    exact ⟨rfl, rfl, rfl, rfl, rfl, rfl⟩
  · refine ⟨_, { hostRecord s.regs s.dev v with seq := s.dev.evt.nextSeq }, exec_evtHostCode_inRange s v hlo hhi,
      onlyParts_hostCoded s v, ?_⟩
    have hevt : (hostCoded s v).dev.evt = s.dev.evt.push s.dev.now (hostRecord s.regs s.dev v) :=
      (hostCoded_evt s v hs (.inl hl)).trans (takeRec_of_new _ _ _ _ hq hnew)
    rw [hevt]
    exact ⟨rfl, rfl, rfl, rfl, rfl, rfl, Nat.mod_mod _ _, rfl, rfl, rfl, rfl, rfl, rfl, rfl⟩
  · refine ⟨_, { hostRecord s.regs s.dev v with seq := (lossEntered s.dev).nextSeq }, exec_evtHostCode_inRange s v hlo hhi,
      onlyParts_hostCoded s v, ?_⟩
    have hqueue : (hostCoded s v).dev.evt.queue = s.dev.evt.queue ++ [{ lossOf s.dev with seq := s.dev.evt.nextSeq }] ++
        [{ hostRecord s.regs s.dev v with seq := (lossEntered s.dev).nextSeq }] := by
      rw [hostCoded_evt_of_lost s v hlo hs hl hq]
      rfl
    rw [hqueue, List.dropLast_concat, List.dropLast_concat, List.getLast?_concat]
    refine ⟨rfl, by simp, ?_, rfl, rfl, rfl, rfl, rfl, Nat.mod_mod _ _, rfl, rfl, rfl, rfl⟩
    rw [List.append_assoc]
    exact congrArg EvRec.code (at'_append_length _ _ _)
  · refine ⟨_, exec_evtHostCode_inRange s v hlo hhi, onlyParts_hostCoded s v, ?_⟩
    rw [hostCoded_evt s v hs (.inl hl)]
    exact takeRec_of_repeat _ _ _ _ _ hl ho hmerge
  · refine ⟨_, exec_evtHostCode_inRange s v hlo hhi, onlyParts_hostCoded s v, ?_⟩
    rw [hostCoded_evt s v hs (.inr hq), hwin]
    exact takeRec_of_full _ _ _ hq
  · refine ⟨_, onRegs_next s (evtHostCode v), ?_⟩
    rw [evtHostCode_outOfRange v _ _ hv]
    exact ⟨rfl, onlyParts_quiet [] { s with regs := s.regs.reject 0x29 0x68 3 } _⟩
  · refine ⟨_, onDev_next s fun r d => evtEvaluate r { d with evt := { d.evt with ack := v % 2 ^ 32 } },
      ((within_evtEvaluate _ _).trans (within_evt _ _)).onlyParts (by simp), ?_⟩
    have hbacklog : EvtSt.backlog { s.dev.evt with ack := v % 2 ^ 32 } =
        (s.dev.evt.headSeq + 2 ^ 32 - v % 2 ^ 32) % 2 ^ 32 := by
      rw [EvtSt.backlog, Nat.mod_mod]
    rw [settle_evt, settle_raw, evtEvaluate_evt, quiet_evt, hbacklog]
    refine ⟨rfl, fun hup hbelow => evtEvaluate_testBit _ _ hraw ?_ hbelow⟩
    exact hbacklog ▸ of_decide_eq_true hup

end Sys2Proof
end

section
/-! PROOFS. Canonical forms through a step: what each operation on registers, on memory windows and on the whole state
keeps. -/

namespace Sys2Proof

open Sys2Proof.Machine

/-! ### Registers in canonical form -/

/-- Registers in canonical form: keys of active values and of shadow copies rise, and each page has its header. -/
structure RegsForm (r : Regs) : Prop where
  act : Rising r.act
  shd : Rising r.shd
  hdr : r.hdr.length = 64

theorem regsOk_iff_form (s : State) : RegsOk s ↔ RegsForm s.regs := by
  rw [RegsOk, rising_iff, rising_iff]
  exact ⟨fun ⟨ha, hs, hh⟩ => ⟨ha, hs, hh⟩, fun ⟨ha, hs, hh⟩ => ⟨ha, hs, hh⟩⟩

section

variable {r : Regs} (h : RegsForm r)
include h

theorem put_form (f : Fd) (v inst arr i j : Nat) : RegsForm (r.put f v inst arr i j) := ⟨sput_rising _ _ _ _ h.act, h.shd, h.hdr⟩

theorem putShadow_form (f : Fd) (v inst arr i j : Nat) : RegsForm (r.putShadow f v inst arr i j) :=
  ⟨h.act, sins_rising _ _ _ h.shd, h.hdr⟩

theorem dropShadow_form (f : Fd) (i : Nat) : RegsForm (r.dropShadow f i) := ⟨h.act, sdel_rising _ _ h.shd, h.hdr⟩

theorem filterShadow_form (p : Nat × Nat → Bool) : RegsForm { r with shd := r.shd.filter p } := ⟨h.act, h.shd.filter _, h.hdr⟩

theorem modHead_form (p : Nat) (f : PageHdr → PageHdr) : RegsForm (r.modHead p f) := ⟨h.act, h.shd, (modAt_length _ _ _).trans h.hdr⟩

theorem reject_form (p off reason : Nat) : RegsForm (r.reject p off reason) := modHead_form h p _

theorem clearBit_form (f : Fd) (i : Nat) : RegsForm (r.clearBit f i) := put_form h f 0 0 0 i 0

theorem setBoth_form (f : Fd) (v i : Nat) : RegsForm (r.setBoth f v i) := dropShadow_form (put_form h f v 0 0 i 0) f i

theorem apply_form (l : List (Nat × Nat)) (rst : Nat → Nat) : RegsForm (r.apply l rst) :=
  ⟨foldl_keeps (Rising ·) _ l r.act (fun a e ha => sput_rising a e.1 e.2 (rst e.1) ha) h.act, h.shd, h.hdr⟩

theorem applyCommit_form (p : Nat) (sel : Nat → Bool) : RegsForm (applyCommit r p sel).1 := by
  unfold applyCommit
  dsimp only
  split
  · exact modHead_form (filterShadow_form (apply_form h _ _) _) p _
  · exact h

theorem placePut_form (x : Place) (i j v : Nat) : RegsForm (x.put r i j v) := put_form h _ _ _ _ _ _

theorem placePutShadow_form (x : Place) (i j v : Nat) : RegsForm (x.putShadow r i j v) := putShadow_form h _ _ _ _ _ _

omit h in
theorem form_ite {α : Type} {c : Prop} [Decidable c] {x y : Regs × α} (hx : RegsForm x.1) (hy : RegsForm y.1) :
    RegsForm (if c then x else y).1 := by
  split
  · exact hx
  · exact hy

omit h in
theorem fst_form {α : Type} {x : Regs × α} {a : α} (hx : x = (r, a)) (hf : RegsForm x.1) : RegsForm r := by
  rwa [hx] at hf

/-! ### Loop channels, axes and quadrature ports -/

theorem pfgApplied_form (i : Nat) (keys : List (Nat × Nat)) (d : Dev) : RegsForm (pfgApplied i keys r d).1 := by
  unfold pfgApplied
  dsimp only
  split
  · exact clearBit_form h _ i
  · exact h

theorem qdApplied_form (i : Nat) (d : Dev) : RegsForm (qdApplied i r d).1 := by
  unfold qdApplied
  dsimp only
  split
  · exact clearBit_form h _ i
  · exact h

theorem loopCommits_form (c : Nat) (d : Dev) : RegsForm (loopCommits c r d).1 := by
  unfold loopCommits
  split
  next r1 l heq =>
    extract_lets ch r2 d2 port
    have h2 : RegsForm r2 := apply_form (fst_form heq (applyCommit_form h _ _)) _ _
    clear_value r2 d2 port
    split
    next r3 d3 hout =>
      have h3 : RegsForm r3 := by
        refine fst_form hout ?_
        clear hout
        split
        · exact applyCommit_form h2 _ _
        · exact applyCommit_form h2 _ _
        · split
          next r4 l hc =>
            have h4 := fst_form hc (applyCommit_form h2 _ _)
            split
            · exact h4
            · exact pfgApplied_form h4 _ _ _
        · exact h2
      split
      · extract_lets q
        split
        next r4 l hc =>
          have h4 := fst_form hc (applyCommit_form h3 _ _)
          split
          · exact h4
          · exact qdApplied_form h4 _ _
      · exact h3

theorem loopSample_form (c : Nat) (d : Dev) : RegsForm (loopSample c r d).1 := by
  unfold loopSample
  split
  · exact loopCommits_form h c d
  · exact h

/-! ### CAN channels -/

theorem sbApply_form (n : Nat) (d : Dev) : RegsForm (sbApply r n d).1 := by
  unfold sbApply
  extract_lets rows p
  split
  next r1 l heq =>
    split
    · exact h
    · exact fst_form heq (applyCommit_form h _ _)

theorem sbRefLaunch_form (n : Nat) (d : Dev) : RegsForm (sbRefLaunch n r d).1 := by
  unfold sbRefLaunch
  extract_lets d1 c
  split
  · exact h
  · split
    · split
      next r1 d3 heq =>
        have h1 := fst_form heq (sbApply_form h n _)
        split
        · exact h1
        · extract_lets
          split
          · exact h1
          · exact h1
    · split
      · exact h
      · exact h

theorem sbReference_form (n : Nat) (f : CanFrame) (sof : Nat) (d : Dev) : RegsForm (sbReference n f sof r d).1 := by
  unfold sbReference
  extract_lets c tick late
  split
  · exact h
  · split
    next r1 d1 heq =>
      have h1 := fst_form heq (sbApply_form h n _)
      split
      · exact h1
      · exact h1

theorem sbSee_form (n : Nat) (f : CanFrame) (sof : Nat) (d : Dev) : RegsForm (sbSee n f sof r d).1 := by
  unfold sbSee
  extract_lets d1 c
  split
  · exact h
  · split
    · exact sbReference_form h n f sof _
    · exact h

theorem canFrameRx_form (n : Nat) (f : CanFrame) (sof : Nat) (err : Option Nat) (d : Dev) :
    RegsForm (canFrameRx n f sof err r d).1 := by
  unfold canFrameRx
  split
  · exact h
  · split
    · split
      · exact h
      · exact h
    · split
      · exact h
      · extract_lets
        split
        next r1 d1 heq => exact fst_form heq (sbSee_form h n f sof _)

theorem fltCtrlWrite_form (n v : Nat) (d : Dev) : RegsForm (fltCtrlWrite n v r d).1 := by
  unfold fltCtrlWrite
  split
  · exact reject_form h _ _ _
  · extract_lets i
    split
    · exact h
    · exact h

/-! ### Commands that reject a write or leave the registers -/

theorem devHold_form (d : Dev) : RegsForm (devHold r d).1 := by
  unfold devHold
  split_ifs
  · exact reject_form h _ _ _
  · exact reject_form h _ _ _
  · exact h

theorem pairRelinquish_form (d : Dev) : RegsForm (pairRelinquish r d).1 := by
  unfold pairRelinquish
  split_ifs
  · exact reject_form h _ _ _
  · exact h

theorem timStepGo_form (d : Dev) : RegsForm (timStepGo r d).1 := by
  unfold timStepGo
  extract_lets b
  split
  · exact h
  · exact reject_form h _ _ _

theorem e2eRunWrite_form (v : Nat) (d : Dev) : RegsForm (e2eRunWrite v r d).1 := by
  unfold e2eRunWrite
  extract_lets i
  split
  · exact reject_form h _ _ _
  · exact h

theorem e2eCntWrite_form (v : Nat) (d : Dev) : RegsForm (e2eCntWrite v r d).1 := by
  unfold e2eCntWrite
  extract_lets i
  split
  · exact reject_form h _ _ _
  · exact h

theorem safCrcExpWrite_form (v : Nat) (d : Dev) : RegsForm (safCrcExpWrite v r d).1 := by
  unfold safCrcExpWrite
  split
  · exact h
  · exact h
  · exact reject_form h _ _ _

theorem evtHostCode_form (v : Nat) (d : Dev) : RegsForm (evtHostCode v r d).1 := by
  unfold evtHostCode
  extract_lets c
  split
  · exact h
  · exact reject_form h _ _ _

theorem lifPreset_form (d : Dev) : RegsForm (lifPreset r d).1 := by
  unfold lifPreset
  extract_lets c
  split_ifs
  · exact reject_form h _ _ _
  · exact reject_form h _ _ _
  · exact h

theorem leapAdd_form (d : Dev) : RegsForm (leapAdd r d).1 := by
  unfold leapAdd
  extract_lets e later
  split_ifs
  · exact reject_form h _ _ _
  · exact reject_form h _ _ _
  · exact h

theorem cfgKeyDataWrite_form (v : Nat) (d : Dev) : RegsForm (cfgKeyDataWrite v r d).1 := by
  unfold cfgKeyDataWrite
  split_ifs
  · exact reject_form h _ _ _
  · exact reject_form h _ _ _
  · exact h

theorem cfgLoadStart_form (m : List Host.Cell) (d : Dev) : RegsForm (cfgLoadStart r m d).1 := by
  unfold cfgLoadStart
  split_ifs
  · exact reject_form h _ _ _
  · exact h

theorem ucUpdateStart_form (d : Dev) : RegsForm (ucUpdateStart r d).1 := by
  unfold ucUpdateStart
  split
  · exact reject_form h _ _ _
  · exact reject_form h _ _ _
  · split
    · exact h
    · exact h

theorem jamCalDone_form (d : Dev) : RegsForm (jamCalDone r d).1 := by
  unfold jamCalDone
  split
  · refine foldN_keeps RegsForm _ _ r (fun p a ha => ?_) h
    extract_lets x
    split
    · exact ha
    · exact put_form (put_form ha _ _ _ _ _ _) _ _ _ _ _ _
  · exact h

/-! ### Power, clocks and the endpoint -/

theorem hstDown_form (d : Dev) : RegsForm (hstDown r d).1 :=
  ⟨h.act.filter _, h.shd.filter _, (modAt_length _ _ _).trans h.hdr⟩

theorem domainLost_form (dom : Nat) (d : Dev) : RegsForm (domainLost r dom d).1 := by
  unfold domainLost
  split
  case h_9 => exact hstDown_form h d
  all_goals exact h

theorem domSwitch_form (i : Nat) (on : Bool) (d : Dev) : RegsForm (domSwitch i on (r, d)).1 := by
  unfold domSwitch
  extract_lets r1 d1 dom
  split
  · exact h
  · split
    · exact h
    · exact hstDown_form h _
    · exact h

theorem pwrDomReqWrite_form (port : Port) (v : Nat) (d : Dev) : RegsForm (pwrDomReqWrite port v r d).1 := by
  unfold pwrDomReqWrite
  extract_lets old new diff
  split
  · exact h
  · split
    · exact foldl_keeps (fun x : Regs × Dev => RegsForm x.1) _ _ _ (fun x i hx => domSwitch_form hx i _ x.2)
        (put_form (put_form (put_form h _ _ _ _ _ _) _ _ _ _ _ _) _ _ _ _ _ _)
    · exact reject_form h _ _ _

theorem pllLost_form (pll : Nat) (d : Dev) : RegsForm (pllLost pll (r, d)).1 := by
  unfold pllLost
  extract_lets r1 d1
  split
  · exact h
  · split
    case h_7 => exact hstDown_form h _
    all_goals exact h

theorem refclkLost_form (input : Nat) (d : Dev) : RegsForm (refclkLost input r d).1 := by
  unfold refclkLost
  split
  · exact h
  · exact foldl_keeps (fun x : Regs × Dev => RegsForm x.1) _ _ _ (fun x p hx => pllLost_form hx p x.2) h

/-! ### Modes -/

theorem changeMode_form (m : Mode) (auto : Bool) (obj cause : Nat) (d : Dev) : RegsForm (changeMode m auto obj cause r d).1 :=
  putShadow_form (putShadow_form h _ _ _ _ _ _) _ _ _ _ _ _

theorem joyHeading_form (keys : List (Nat × Nat)) (d : Dev) : RegsForm (joyHeading keys r d).1 := by
  unfold joyHeading
  extract_lets r1
  change RegsForm (if _ then _ else _)
  split
  · exact h
  · exact setBoth_form h _ _ _

theorem joyZero_form (keys : List (Nat × Nat)) : RegsForm (joyZero keys r) := by
  refine foldl_keeps RegsForm _ _ r (fun a f ha => ?_) h
  split
  · exact dropShadow_form ha _ _
  · exact setBoth_form ha _ _ _

theorem autoStep_form (keys : List (Nat × Nat)) (d : Dev) : RegsForm (autoStep keys r d).1 := by
  unfold autoStep
  extract_lets d1 joy
  have hjoy (a : Bool) (e : Dev) : RegsForm (joy a r e).1 := by
    have h1 := changeMode_form (joyZero_form h keys) .joystick a 0 1 e
    change RegsForm (if a = true then _ else _ : Regs × Dev).1
    split
    · exact joyHeading_form h1 keys (changeMode .joystick a 0 1 (joyZero keys r) e).2
    · exact h1
  clear_value joy
  split
  · split
    · exact hjoy _ _
    · exact h
  iterate 3
    split
    · exact hjoy _ _
    · split
      · exact hjoy _ _
      · split
        · exact changeMode_form h .autopos false 0 1 d1
        · exact h
  · exact h

theorem requestResult_form (m : Mode) (code : Nat) (d : Dev) : RegsForm (requestResult m code r d).1 := by
  unfold requestResult
  extract_lets d1
  split
  · exact h
  · exact putShadow_form h _ _ _ _ _ _

theorem requestStep_form (want : Mode × Bool × Nat) (keys : List (Nat × Nat)) (d : Dev) :
    RegsForm (requestStep want keys r d).1 := by
  unfold requestStep
  split
  extract_lets code
  split
  next r1 d1 heq =>
    have h1 := fst_form heq (requestResult_form h _ _ _)
    extract_lets
    split
    · exact h1
    · split
      next r2 d2 heq2 =>
        have h2 := fst_form heq2 (changeMode_form h1 _ _ _ _ _)
        split
        · exact joyHeading_form h2 _ _
        · exact h2

theorem commandStep_form (keys : List (Nat × Nat)) (d : Dev) : RegsForm (commandStep keys r d).1 := by
  unfold commandStep
  extract_lets
  change RegsForm (if _ then _ else _)
  split
  · exact setBoth_form h _ _ _
  · exact h

theorem firstCutAfterWake_form (d : Dev) : RegsForm (firstCutAfterWake r d).1 := by
  unfold firstCutAfterWake
  extract_lets d1
  exact changeMode_form h .harbour false 0 0 d1

theorem mdeDecideNow_form (d : Dev) : RegsForm (mdeDecideNow r d).1 := by
  unfold mdeDecideNow
  split
  split
  · exact requestResult_form h _ _ _
  · exact requestResult_form h _ _ _

theorem mdeCommitNow_form (d : Dev) : RegsForm (mdeCommitNow r d).1 := by
  unfold mdeCommitNow
  split
  next r1 l heq =>
    have h1 := fst_form heq (applyCommit_form h _ _)
    extract_lets req d1
    split
    · exact mdeDecideNow_form h1 _
    · exact h1

theorem modesCut_form (keys : List (Nat × Nat)) (d : Dev) : RegsForm (modesCut keys r d).1 := by
  unfold modesCut
  extract_lets want req d1
  split
  next r1 d2 heq =>
    have h1 : RegsForm r1 := by
      refine fst_form heq ?_
      split
      · exact autoStep_form h _ _
      · exact h
    split
    next r2 d3 heq2 =>
      refine commandStep_form (fst_form heq2 ?_) _ _
      split
      · exact requestStep_form h1 _ _ _
      · exact h1

/-! ### A description put in force -/

theorem supersede_form (p : Nat) (d : Dev) : RegsForm (supersede p r d).1 := by
  unfold supersede
  extract_lets hd own had off r1 r2
  have h1 : RegsForm r1 := modHead_form (filterShadow_form h _) _ _
  change RegsForm (if _ then _ else _)
  split
  · exact reject_form h1 _ _ _
  · exact h1

theorem putSelect_form (x : RegRec) : RegsForm (putSelect x r) := by
  unfold putSelect
  split
  · split
    extract_lets r1
    have h1 : RegsForm r1 := put_form h _ _ _ _ _ _
    split
    · exact put_form h1 _ _ _ _ _ _
    · exact h1
  · exact h

theorem putField_form (v i j : Nat) (x : RegRec) (q : Place) : RegsForm (putField v i j x r q) := by
  unfold putField
  split
  · exact h
  · split
    · split
      · exact placePut_form h _ _ _ _
      · exact modHead_form (placePutShadow_form h _ _ _ _) _ _
    iterate 2
      split
      · exact h
      · exact placePut_form h _ _ _ _
    · exact h
    · exact h

theorem putReg_form (x : RegRec) : RegsForm (putReg r x) := by
  unfold putReg
  split
  exact foldl_keeps RegsForm _ _ _ (fun a q ha => putField_form ha _ _ _ _ _) (putSelect_form h x)

theorem putCoef_form (c : RegRec) (d : Dev) : RegsForm (putCoef (r, d) c).1 := by
  have h1 := putSelect_form h c
  unfold putCoef
  split
  next r0 d0 heq =>
    cases heq
    extract_lets r1 l
    split
    · exact foldl_keeps RegsForm _ _ _ (fun a q ha => placePut_form ha _ _ _ _) h1
    · exact h1

theorem putSection_form (a : Descr) (t : Nat) (d : Dev) : RegsForm (putSection a (r, d) t).1 := by
  unfold putSection
  extract_lets l
  split
  · exact h
  · split
    · exact foldl_keeps (fun x : Regs × Dev => RegsForm x.1) _ _ _ (fun x c hx => putCoef_form hx c x.2) h
    · exact foldl_keeps RegsForm _ _ _ (fun a x ha => putReg_form ha x) h

theorem genAfter_form (p : Nat) : RegsForm (genAfter r p) := by
  unfold genAfter
  split
  · exact h
  · exact modHead_form h _ _

theorem enableWritten_form (p : Nat) (d : Dev) : RegsForm (enableWritten (r, d) p).1 := by
  unfold enableWritten
  split
  · exact h
  · exact modHead_form h _ _

theorem putSections_form (a : Descr) (ts : List Nat) (d : Dev) : RegsForm (putSections a ts r d).1 := by
  unfold putSections
  extract_lets ps
  split
  next r1 d1 heq1 =>
    have h1 := fst_form heq1
      (foldl_keeps (fun x : Regs × Dev => RegsForm x.1) _ _ _ (fun x p hx => supersede_form hx p x.2) h)
    split
    next r2 d2 heq2 =>
      have h2 := fst_form heq2
        (foldl_keeps (fun x : Regs × Dev => RegsForm x.1) _ _ _ (fun x t hx => putSection_form hx a t x.2) h1)
      extract_lets r3
      have h3 : RegsForm r3 := foldl_keeps RegsForm _ _ _ (fun a p ha => genAfter_form ha p) h2
      split
      next r4 d4 heq4 =>
        refine fst_form heq4 ?_
        split
        · exact h3
        · exact foldl_keeps (fun x : Regs × Dev => RegsForm x.1) _ _ _ (fun x p hx => enableWritten_form hx p x.2) h3

theorem install_form (new : Descr) (ts : List Nat) (d : Dev) : RegsForm (install new ts r d).1 := by
  unfold install
  extract_lets old coef
  split
  next r1 d1 heq => exact fst_form heq (putSections_form h _ _ _)

theorem cutIn_form (d : Dev) : RegsForm (cutIn r d).1 := by
  unfold cutIn
  extract_lets new diff ts
  split
  next r1 d1 heq => exact fst_form heq (install_form h _ _ _)

theorem cutInAtCut_form (second : Bool) (d : Dev) : RegsForm (cutInAtCut second r d).1 := by
  unfold cutInAtCut
  split
  · split
    · exact h
    · split
      next r1 d1 heq => exact fst_form heq (cutIn_form h d)
  · exact h

theorem cfgSlotWritten_form (d : Dev) : RegsForm (cfgSlotWritten r d).1 := by
  unfold cfgSlotWritten
  split
  · exact h
  · split
    · exact h
    · extract_lets
      split
      · split
        next r1 d1 heq => exact fst_form heq (cutIn_form h _)
      · exact h

theorem load_form (d : Dev) : RegsForm (load r d).1 := by
  unfold load
  split
  · exact h
  · split
    · exact h
    · extract_lets
      split
      next r1 d1 heq => exact fst_form heq (install_form h _ _ _)

/-! ### The cut and State output -/

theorem originAtCut_form (keys : List (Nat × Nat)) (d : Dev) : RegsForm (originAtCut r keys d).1 := by
  unfold originAtCut
  extract_lets any auto given set ok r1
  have h1 : RegsForm r1 := clearBit_form h _ _
  split
  · split
    · exact reject_form h1 _ _ _
    · exact h1
  · split
    · split
      · exact reject_form h1 _ _ _
      · split
        · exact h1
        · exact h1
    · exact h1

theorem appMoves_form (d : Dev) : RegsForm (appMoves r d).1 := by
  unfold appMoves
  extract_lets mv
  split
  · exact h
  · have h1 := setBoth_form (setBoth_form (setBoth_form h F.SLV_APP_MOVE_N_V 0 0) F.SLV_APP_MOVE_E_V 0 0) F.SLV_APP_MOVE_D_V 0 0
    split
    · exact h1
    · exact h1

theorem partCommands_form (p : CutPart) (again : Bool) (d : Dev) : RegsForm (partCommands p again r d).1 := apply_form h _ _

theorem partMode_form (p : CutPart) (d : Dev) : RegsForm (partMode p r d).1 := by
  unfold partMode
  split
  · exact h
  · extract_lets auto tr
    split
    next r1 d1 heq => exact fst_form heq (changeMode_form h _ _ _ _ _)

theorem applyCutPart_form (p : CutPart) (d : Dev) : RegsForm (applyCutPart p r d).1 := by
  unfold applyCutPart
  split
  next r1 d1 heq1 =>
    have h1 : RegsForm r1 := by
      refine fst_form heq1 ?_
      split
      · exact cutIn_form h _
      · exact h
    extract_lets d2
    split
    next r2 d3 heq2 =>
      have h2 := fst_form heq2 (partCommands_form h1 _ _ _)
      split
      next r3 d4 heq3 => exact fst_form heq3 (partMode_form h2 _ _)

theorem cutPart_form (p : CutPart) (d : Dev) : RegsForm (cutPart p r d).1 := by
  unfold cutPart
  split
  · exact h
  · extract_lets d1
    split
    · exact h
    · split
      · split
        next r1 d4 heq => exact fst_form heq (applyCutPart_form h _ _)
      · exact h

theorem cutPartMiss_form (d : Dev) : RegsForm (cutPartMiss r d).1 := by
  unfold cutPartMiss
  split
  · extract_lets d1
    split
    · exact partCommands_form h _ _ _
    · exact h
  · exact h

theorem commitsCut_form : RegsForm (commitsCut r).1 :=
  foldl_keeps (fun x : Regs × List (Nat × Nat) => RegsForm x.1) _ _ _ (fun _ p hx => applyCommit_form hx p _) h

theorem modesAtCut_form (keys : List (Nat × Nat)) (d : Dev) : RegsForm (modesAtCut keys r d).1 := modesCut_form h _ _

theorem settingsCut_form (second : Bool) (d : Dev) : RegsForm (settingsCut second r d).1 := by
  unfold settingsCut
  split
  next r1 d1 b heq1 =>
    have h1 : RegsForm r1 := by
      refine fst_form heq1 ?_
      split
      · exact h
      · exact cutInAtCut_form h _ _
    split
    next r2 keys heq2 =>
      have h2 := fst_form heq2 (commitsCut_form h1)
      split
      next r3 d3 heq3 =>
        have h3 := fst_form heq3 (originAtCut_form h2 _ _)
        split
        next r4 d4 heq4 => exact fst_form heq4 (modesAtCut_form h3 _ _)

theorem cut_form (d : Dev) : RegsForm (cut r d).1 := by
  unfold cut
  split
  · exact h
  · split
    · exact h
    · extract_lets at_ second
      split
      next r1 d1 heq1 =>
        have h1 : RegsForm r1 := by
          refine fst_form heq1 ?_
          split
          · exact firstCutAfterWake_form h _
          · exact h
        extract_lets was d2
        split
        next r2 d3 b heq2 =>
          have h2 := fst_form heq2 (settingsCut_form h1 _ _)
          split
          next r3 d4 heq3 =>
            have h3 := fst_form heq3 (appMoves_form h2 _)
            split
            exact h3

theorem staleStep_form (d : Dev) : RegsForm (staleStep r d).1 := by
  unfold staleStep
  split
  · exact h
  · extract_lets d1
    split
    case h_4 => exact joyZero_form h []
    all_goals exact h

theorem stateOutput_form (d : Dev) : RegsForm (stateOutput r d).1 := by
  unfold stateOutput
  extract_lets c
  split
  · exact h
  · split
    next r1 d1 heq => exact fst_form heq (staleStep_form h d)

/-! ### Commits and host writes -/

theorem storeField_form (i j w : Nat) (x : Place) : RegsForm (storeField i j w r x) := by
  unfold storeField
  split
  · exact placePutShadow_form h _ _ _ _
  iterate 2
    split
    · exact h
    · exact placePut_form h _ _ _ _
  · exact h
  · exact h

theorem commitApply_form (p idx : Nat) (d : Dev) : RegsForm (commitApply p idx r d).1 := by
  have hcommit (sel : Nat → Bool) {r1 : Regs} {l : List (Nat × Nat)} (heq : applyCommit r p sel = (r1, l)) : RegsForm r1 :=
    fst_form heq (applyCommit_form h p sel)
  unfold commitApply
  refine form_ite h (form_ite (applyCommit_form h p _) (form_ite (form_ite h ?_) (form_ite (form_ite h ?_)
    (form_ite (form_ite h ?_) (form_ite ?_ (form_ite ?_ (form_ite ?_ (form_ite (form_ite (sbApply_form h _ _) h)
      (form_ite (applyCommit_form h p _) h)))))))))
  · split
    next heq => exact hcommit _ heq
  · split
    next heq => exact form_ite (hcommit _ heq) (pfgApplied_form (hcommit _ heq) _ _ _)
  · split
    next heq => exact form_ite (hcommit _ heq) (qdApplied_form (hcommit _ heq) _ _)
  all_goals
    split
    next heq => exact hcommit _ heq

end

theorem keepRegs_form (r : Regs) : RegsForm (keepRegs r) :=
  foldl_keeps RegsForm _ _ _ (fun _ f ha => put_form ha f _ _ _ _ _) ⟨.nil, .nil, by decide⟩

/-! ### What the state keeps -/

/-- From canonical windows and registers `t` is in canonical form as `s` is, and the same commands wait. -/
structure KeepsForms (s t : State) : Prop where
  mem : MemOk s → MemOk t
  regs : RegsForm s.regs → RegsForm t.regs
  pending : t.pending = s.pending

theorem KeepsForms.refl (s : State) : KeepsForms s s := ⟨id, id, rfl⟩

theorem KeepsForms.trans {s t u : State} (h : KeepsForms s t) (g : KeepsForms t u) : KeepsForms s u :=
  ⟨g.mem ∘ h.mem, g.regs ∘ h.regs, g.pending.trans h.pending⟩

/-- A change of the blocks and of what is frozen. -/
theorem keepsForms_dev (s : State) (d : Dev) : KeepsForms s { s with dev := d } := ⟨id, id, rfl⟩

/-- A change of the registers that keeps their form. -/
theorem keepsForms_regs (s : State) (r : Regs) (d : Dev) (h : RegsForm s.regs → RegsForm r) :
    KeepsForms s { s with regs := r, dev := d } := ⟨id, h, rfl⟩

theorem keepsForms_ite {c : Prop} [Decidable c] {s a b : State} (ha : KeepsForms s a) (hb : KeepsForms s b) :
    KeepsForms s (if c then a else b) := by
  split
  · exact ha
  · exact hb

theorem keepsForms_foldl {α : Type} (f : State → α → State) (l : List α) (s : State) (h : ∀ t a, KeepsForms t (f t a)) :
    KeepsForms s (l.foldl f s) :=
  foldl_keeps (KeepsForms s) f l s (fun t a ht => ht.trans (h t a)) (.refl s)

theorem keepsForms_devS (f : Regs → Dev → Dev) (s : State) : KeepsForms s (devS f s) := keepsForms_dev s _

theorem keepsForms_regS (f : Regs → Dev → Regs × Dev) (h : ∀ r d, RegsForm r → RegsForm (f r d).1) (s : State) :
    KeepsForms s (regS f s) := keepsForms_regs s _ _ (h s.regs s.dev)

theorem keepsForms_regMemS (f : Regs → List Host.Cell → Dev → Regs × Dev)
    (h : ∀ r m d, RegsForm r → RegsForm (f r m d).1) (s : State) : KeepsForms s (regMemS f s) :=
  keepsForms_regs s _ _ (h s.regs s.mem s.dev)

theorem keepsForms_memS (f : Regs → List Host.Cell → Dev → List (Nat × List Byte) × Dev) (s : State) :
    KeepsForms s (memS f s) := ⟨Memory.writeAll_wf s.mem _, id, rfl⟩

theorem keepsForms_modHead (s : State) (p : Nat) (f : PageHdr → PageHdr) :
    KeepsForms s { s with regs := s.regs.modHead p f } := keepsForms_regs s _ s.dev fun h => modHead_form h p f

theorem keepsForms_reject (s : State) (p off reason : Nat) :
    KeepsForms s { s with regs := s.regs.reject p off reason } := keepsForms_modHead s p _

theorem keepsForms_resetState (cause : Nat) (s : State) : KeepsForms s (resetState cause s) :=
  ⟨fun _ => rfl, fun _ => keepRegs_form s.regs, rfl⟩

theorem keepsForms_aonPowerUp (s : State) : KeepsForms s (aonPowerUp s) :=
  ⟨fun _ => rfl, fun _ => ⟨.nil, .nil, rfl⟩, rfl⟩

theorem keepsForms_dormantAsleep (s : State) : KeepsForms s (dormantAsleep s) := by
  unfold dormantAsleep
  extract_lets d
  split
  · exact ⟨fun _ => rfl, fun _ => keepRegs_form s.regs, rfl⟩
  · exact .refl s

theorem keepsForms_railFault (rail : Nat) (v : F32) (lost : Bool) (s : State) : KeepsForms s (railFault rail v lost s) := by
  unfold railFault
  extract_lets d doms
  split
  · exact .refl s
  · split
    · exact keepsForms_dev s _
    · have h1 (hit : List Nat) (d : Dev) : KeepsForms s
          { s with
            regs := (hit.foldl (fun (x : Regs × Dev) dom => domainLost x.1 dom x.2) (s.regs, d)).1
            dev := (hit.foldl (fun (x : Regs × Dev) dom => domainLost x.1 dom x.2) (s.regs, d)).2 } :=
        keepsForms_regs s _ _ fun h =>
          foldl_keeps (fun x : Regs × Dev => RegsForm x.1) _ _ _ (fun x dom hx => domainLost_form hx dom x.2) h
      split
      · exact h1 _ _
      · split
        · exact (h1 _ _).trans (keepsForms_resetState 0 _)
        · split
          · exact (h1 _ _).trans (keepsForms_resetState 3 _)
          · exact h1 _ _

/-! ### Host accesses -/

theorem keepsForms_readEffect (port : Port) (b n off : Nat) (s : State) : KeepsForms s (readEffect port b n off s) := by
  unfold readEffect
  split
  case h_5 => exact .refl s
  all_goals exact keepsForms_devS _ s

theorem keepsForms_regRead (port : Port) (p off : Nat) (s : State) : KeepsForms s (regRead port p off s).2 := by
  unfold regRead
  split
  · exact .refl s
  · split_ifs
    iterate 4 exact .refl s
    split
    · exact .refl s
    · exact (keepsForms_devS _ s).trans (keepsForms_readEffect _ _ _ _ _)

theorem keepsForms_memRead (port : Port) (a : Nat) (s : State) : KeepsForms s (memRead port a s).2 := by
  unfold memRead
  extract_lets n
  split
  · exact .refl s
  · split
    · exact keepsForms_devS (fun _ d => _) s
    · exact .refl s

theorem keepsForms_busRead (port : Port) (a : Nat) (s : State) : KeepsForms s (busRead port a s) := by
  unfold busRead
  split
  · exact .refl s
  · have htouch := keepsForms_devS (fun _ d => touch port d) s
    extract_lets s1
    split
    · exact htouch.trans ((keepsForms_regRead _ _ _ _).trans (keepsForms_devS _ _))
    · exact htouch.trans (keepsForms_devS _ _)
    · exact htouch.trans ((keepsForms_memRead _ _ _).trans (keepsForms_devS _ _))

theorem keepsForms_setEn (p : Nat) (on : Bool) (s : State) : KeepsForms s (setEn p on s) := by
  unfold setEn
  split
  · exact .refl s
  · exact (keepsForms_modHead s p _).trans (keepsForms_devS _ _)

theorem keepsForms_commitPage (p : Nat) (s : State) : KeepsForms s (commitPage p s) := by
  unfold commitPage
  extract_lets r
  split
  · exact .refl s
  · split
    · exact keepsForms_reject s _ _ _
    next s1 s2 _ _ _ =>
      have h2 : KeepsForms s s2 :=
        (keepsForms_modHead s p _).trans (keepsForms_ite (keepsForms_devS _ _) (.refl _))
      clear_value s2
      split
      · exact h2.trans (keepsForms_regS mdeCommitNow (fun _ d hr => mdeCommitNow_form hr d) _)
      · split
        · exact h2.trans (keepsForms_regs s2 _ s2.dev fun hr => applyCommit_form hr p _)
        · exact h2

theorem keepsForms_discardPage (p : Nat) (s : State) : KeepsForms s (discardPage p s) := by
  unfold discardPage
  extract_lets r
  split
  · exact .refl s
  · have h1 : KeepsForms s { s with
        regs := ({ r with shd := r.shd.filter fun (e : Nat × Nat) => !(keyPage e.1 == p) } : Regs).modHead p
          fun h => { h with buf := [], pend := false } } :=
      keepsForms_regs s _ s.dev fun hr => modHead_form (filterShadow_form hr _) _ _
    exact h1.trans (keepsForms_ite (keepsForms_devS _ _) (.refl _))

theorem keepsForms_freezePage (p : Nat) (on : Bool) (s : State) : KeepsForms s (freezePage p on s) :=
  ⟨id, fun hr => modHead_form hr p _, rfl⟩

theorem keepsForms_ctlWrite (p v : Nat) (s : State) : KeepsForms s (ctlWrite p v s) := by
  unfold ctlWrite
  extract_lets r static mode
  split
  · exact .refl s
  · split
    · exact keepsForms_reject s _ _ _
    · split
      · exact keepsForms_reject s _ _ _
      · have hen : KeepsForms s (if static then setEn p (bit v 0) s else s) :=
          keepsForms_ite (keepsForms_setEn _ _ _) (.refl s)
        refine hen.trans (.trans ?_ (keepsForms_freezePage _ _ _))
        exact keepsForms_ite (keepsForms_discardPage _ _) (keepsForms_ite (keepsForms_commitPage _ _) (.refl _))

theorem keepsForms_headWrite (p off v : Nat) (s : State) : KeepsForms s (headWrite p off v s) := by
  unfold headWrite
  split
  · exact keepsForms_ctlWrite p v s
  · exact keepsForms_ite (keepsForms_modHead s p _) (.refl s)
  · exact keepsForms_modHead s p _
  · exact keepsForms_modHead s p _
  · exact keepsForms_devS _ s
  · exact keepsForms_devS _ s
  · exact .refl s

theorem keepsForms_canAction (n off v : Nat) (s : State) : KeepsForms s (canAction n off v s) := by
  unfold canAction
  split
  · exact keepsForms_devS _ s
  · split
    case h_1 =>
      exact (keepsForms_ite (keepsForms_devS _ s) (.refl s)).trans (keepsForms_ite (keepsForms_devS _ _) (.refl _))
    case h_14 => exact keepsForms_regS (fltCtrlWrite n v) (fun _ d hr => fltCtrlWrite_form hr n v d) s
    case h_15 => exact .refl s
    all_goals exact keepsForms_devS _ s

theorem keepsForms_safWrite (off v : Nat) (s : State) : KeepsForms s (safWrite off v s) := by
  unfold safWrite
  refine keepsForms_ite (keepsForms_devS _ s) (keepsForms_ite ?_ (keepsForms_ite ?_ (.refl s)))
  · exact keepsForms_regS (safCrcExpWrite v) (fun _ d hr => safCrcExpWrite_form hr v d) s
  · extract_lets l
    exact keepsForms_ite (.refl s) (keepsForms_ite (keepsForms_reject s _ _ _)
      (keepsForms_ite (keepsForms_reject s _ _ _) (keepsForms_devS _ s)))

/-- An action of one bit, after what keeps the forms. -/
theorem keepsForms_ifBit (v i : Nat) {f : State → State} {s t : State} (ht : KeepsForms s t) (hf : KeepsForms t (f t)) :
    KeepsForms s (ifBit v i f t) := ht.trans (keepsForms_ite hf (.refl t))

theorem keepsForms_action (port : Port) (b n off v i : Nat) (s : State) : KeepsForms s (action port b n off v i s) := by
  unfold action
  split
  case h_1 => exact keepsForms_ite (keepsForms_resetState 4 s) (.refl s)
  case h_2 => exact keepsForms_ifBit _ _ (.refl s) (keepsForms_regS _ (fun _ d hr => ucUpdateStart_form hr d) s)
  case h_3 => exact keepsForms_regS _ (fun _ d hr => pwrDomReqWrite_form hr port v d) s
  case h_7 =>
    exact keepsForms_ifBit _ _ (keepsForms_ifBit _ _ (.refl s) (keepsForms_devS _ _))
      (keepsForms_regS _ (fun _ d hr => devHold_form hr d) _)
  case h_8 =>
    exact keepsForms_ifBit _ _
      (keepsForms_ifBit _ _ (.refl s) (keepsForms_regMemS _ (fun _ m d hr => cfgLoadStart_form hr m d) _))
      (keepsForms_devS _ _)
  case h_9 => exact keepsForms_regS _ (fun _ d hr => cfgKeyDataWrite_form hr v d) s
  case h_14 =>
    exact keepsForms_ifBit _ _ (keepsForms_ifBit _ _ (keepsForms_ifBit _ _
      (keepsForms_ifBit _ _ (.refl s) (keepsForms_devS _ _)) (keepsForms_devS _ _)) (keepsForms_devS _ _))
      (keepsForms_devS _ _)
  case h_18 => exact keepsForms_canAction n off v s
  case h_19 => exact keepsForms_regS _ (fun _ d hr => e2eRunWrite_form hr v d) s
  case h_20 => exact keepsForms_regS _ (fun _ d hr => e2eCntWrite_form hr v d) s
  case h_23 => exact keepsForms_ifBit _ _ (.refl s) (keepsForms_regS _ (fun _ d hr => timStepGo_form hr d) s)
  case h_24 => exact keepsForms_memS _ s
  case h_26 => exact keepsForms_ite (keepsForms_devS _ s) (.refl s)
  case h_27 =>
    exact keepsForms_ifBit _ _ (keepsForms_ifBit _ _ (keepsForms_ifBit _ _
      (keepsForms_ifBit _ _ (.refl s) (keepsForms_devS _ _)) (keepsForms_devS _ _)) (keepsForms_devS _ _))
      (keepsForms_regS _ (fun _ d hr => pairRelinquish_form hr d) _)
  case h_30 => exact keepsForms_regS _ (fun _ d hr => evtHostCode_form hr v d) s
  case h_31 => exact keepsForms_ifBit _ _ (.refl s) (keepsForms_regS _ (fun _ d hr => lifPreset_form hr d) s)
  case h_34 => exact keepsForms_ifBit _ _ (.refl s) (keepsForms_regS _ (fun _ d hr => leapAdd_form hr d) s)
  case h_11 | h_12 | h_15 | h_21 | h_28 | h_35 => exact keepsForms_ifBit _ _ (.refl s) (keepsForms_devS _ s)
  case h_36 => exact .refl s
  all_goals exact keepsForms_devS _ s

theorem keepsForms_blockWrite (port : Port) (p off v : Nat) (s : State) : KeepsForms s (blockWrite port p off v s) := by
  unfold blockWrite
  extract_lets l
  split
  · exact .refl s
  · refine keepsForms_ite (keepsForms_safWrite _ _ _) (keepsForms_ite (.refl s) ?_)
    split
    split
    · exact keepsForms_devS _ s
    · extract_lets hi k bad r1 r2
      refine keepsForms_ite (keepsForms_reject s _ _ _) (keepsForms_ite (keepsForms_reject s _ _ _) ?_)
      have h1 (hr : RegsForm s.regs) : RegsForm r1 :=
        foldl_keeps RegsForm _ _ _ (fun a x ha => storeField_form ha _ _ _ x) hr
      refine (keepsForms_regs s r2 s.dev fun hr => ?_).trans (keepsForms_action _ _ _ _ _ _ _)
      clear_value hi
      cases hi with
      | some y => exact storeField_form (h1 hr) _ _ _ _
      | none => exact h1 hr

theorem keepsForms_pageWrite (port : Port) (p off v : Nat) (s : State) : KeepsForms s (pageWrite port p off v s) :=
  keepsForms_ite (.refl s) (keepsForms_ite (keepsForms_headWrite _ _ _ s) (keepsForms_blockWrite _ _ _ _ s))

theorem keepsForms_byteWrite (x : Nat × Byte) (s : State) : KeepsForms s (byteWrite x s) := by
  have hput : KeepsForms s { s with mem := Memory.write s.mem x.1 x.2 } := ⟨Memory.write_wf s.mem _ _, id, rfl⟩
  unfold byteWrite
  extract_lets put
  split
  · exact keepsForms_memS _ s
  · exact hput
  · exact keepsForms_ite (.refl s) hput
  · exact keepsForms_ite hput (.refl s)
  · exact .refl s

theorem keepsForms_busWrite (port : Port) (a v be : Nat) (s : State) : KeepsForms s (busWrite port a v be s) := by
  refine keepsForms_ite (.refl s) ((keepsForms_devS (fun _ d => touch port d) s).trans ?_)
  split
  · exact keepsForms_ite (keepsForms_pageWrite _ _ _ _ _) (keepsForms_devS _ _)
  · exact keepsForms_devS _ _
  · exact keepsForms_foldl _ _ _ fun t x => keepsForms_byteWrite x t

theorem keepsForms_pcieAccess (x : Access) (s : State) : KeepsForms s (pcieAccess x s) := by
  unfold pcieAccess
  split
  · exact keepsForms_busWrite _ _ _ _ s
  · exact keepsForms_busRead _ _ s
  all_goals exact keepsForms_devS _ s

theorem keepsForms_pcieRequest (l : List Access) (s : State) : KeepsForms s (pcieRequest l s) :=
  keepsForms_foldl _ _ _ fun t x => keepsForms_ite (keepsForms_pcieAccess x t) (.refl t)

theorem keepsForms_spiWrite (crc : Bool) (a : Nat) (l : List QspiWord) (s : State) : KeepsForms s (spiWrite crc a l s) := by
  induction l generalizing a s with
  | nil => exact .refl s
  | cons w t ih => exact keepsForms_ite (keepsForms_devS _ s) ((keepsForms_busWrite _ _ _ _ s).trans (ih _ _))

theorem keepsForms_spiRead (crc : Bool) (a : Nat) (l : List QspiWord) (s : State) : KeepsForms s (spiRead crc a l s) := by
  induction l generalizing a s with
  | nil => exact .refl s
  | cons w t ih =>
    exact ((keepsForms_busRead _ _ s).trans (keepsForms_ite (keepsForms_devS _ _) (.refl _))).trans (ih _ _)

theorem keepsForms_qspiTransfer (t : QspiXfer) (s : State) : KeepsForms s (qspiTransfer t s) := by
  unfold qspiTransfer
  split
  · exact .refl s
  · extract_lets s1 crc a
    have h1 : KeepsForms s s1 := keepsForms_devS _ s
    refine h1.trans (keepsForms_ite (keepsForms_devS _ _) ?_)
    have hwords : KeepsForms s1 (if t.cmd = 0xEB then spiRead crc a t.words s1 else spiWrite crc a t.words s1) :=
      keepsForms_ite (keepsForms_spiRead _ _ _ _) (keepsForms_spiWrite _ _ _ _)
    exact hwords.trans (keepsForms_ite (keepsForms_devS _ _) (.refl _))

/-! ### Commands and steps -/

/-- A command answers a next state and keeps the forms. -/
def AnswersKept (s : State) (o : Host.Outcome State Fault Refusal) : Prop := ∃ t, o = .next t ∧ KeepsForms s t

theorem onDev_kept (s : State) (f : Regs → Dev → Dev) : AnswersKept s (onDev s f) := ⟨_, rfl, keepsForms_dev s _⟩

theorem onRegs_kept (s : State) (f : Regs → Dev → Regs × Dev) (h : ∀ r d, RegsForm r → RegsForm (f r d).1) :
    AnswersKept s (onRegs s f) := ⟨_, rfl, keepsForms_regs s _ _ (h _ _)⟩

theorem onRegsMem_kept (s : State) (f : Regs → List Host.Cell → Dev → Regs × Dev)
    (h : ∀ r m d, RegsForm r → RegsForm (f r m d).1) : AnswersKept s (onRegsMem s f) :=
  ⟨_, rfl, keepsForms_regs s _ _ (h _ _ _)⟩

theorem onMem_kept (s : State) (f : Regs → List Host.Cell → Dev → List (Nat × List Byte) × Dev) : AnswersKept s (onMem s f) :=
  ⟨_, rfl, Memory.writeAll_wf s.mem _, id, rfl⟩

theorem onState_kept (s : State) (f : State → State) (h : ∀ t, KeepsForms t (f t)) : AnswersKept s (onState s f) :=
  ⟨_, rfl, (keepsForms_dev s s.dev.quiet).trans ((h _).trans (keepsForms_dev _ _))⟩

theorem onReset_kept (s : State) (f : Regs → Dev → Dev × Option Nat) : AnswersKept s (onReset s f) := by
  refine onState_kept s _ fun t => ?_
  extract_lets x
  split
  · exact (keepsForms_dev t _).trans (keepsForms_resetState _ _)
  · exact keepsForms_dev t _

theorem hostPage_kept (p : Nat) (f : State → State) (s : State) (h : ∀ t, KeepsForms t (f t)) :
    AnswersKept s (hostPage p f s) :=
  onState_kept s _ fun t => keepsForms_ite ((keepsForms_devS _ t).trans (h _)) (.refl t)

theorem execPcieHotReset_kept (linkDown : Bool) (s : State) : AnswersKept s (execPcieHotReset linkDown s) := by
  refine onRegs_kept s _ fun _ d hr => ?_
  split
  · exact hr
  · exact hstDown_form hr d

theorem execPllLockLost_kept (pll : Nat) (s : State) : AnswersKept s (execPllLockLost pll s) := by
  refine onRegs_kept s _ fun _ d hr => ?_
  split
  · exact hr
  · exact pllLost_form hr pll d

theorem exec_kept (c : Instr) (s : State) : AnswersKept s (exec c s) := by
  unfold exec
  cases c
  case loopSample ch => exact onRegs_kept s _ fun _ d hr => loopSample_form hr ch d
  case devHold => exact onRegs_kept s _ fun _ d hr => devHold_form hr d
  case pairRelinquish => exact onRegs_kept s _ fun _ d hr => pairRelinquish_form hr d
  case timStepGo => exact onRegs_kept s _ fun _ d hr => timStepGo_form hr d
  case e2eRunWrite v => exact onRegs_kept s _ fun _ d hr => e2eRunWrite_form hr v d
  case sbRefLaunch ch => exact onRegs_kept s _ fun _ d hr => sbRefLaunch_form hr ch d
  case canFrameRx ch f sof err => exact onRegs_kept s _ fun _ d hr => canFrameRx_form hr ch f sof err d
  case fltCtrlWrite ch v => exact onRegs_kept s _ fun _ d hr => fltCtrlWrite_form hr ch v d
  case safCrcExpWrite v => exact onRegs_kept s _ fun _ d hr => safCrcExpWrite_form hr v d
  case evtHostCode v => exact onRegs_kept s _ fun _ d hr => evtHostCode_form hr v d
  case lifPreset => exact onRegs_kept s _ fun _ d hr => lifPreset_form hr d
  case leapAdd => exact onRegs_kept s _ fun _ d hr => leapAdd_form hr d
  case cfgLoadStart => exact onRegsMem_kept s _ fun _ m d hr => cfgLoadStart_form hr m d
  case cfgKeyDataWrite v => exact onRegs_kept s _ fun _ d hr => cfgKeyDataWrite_form hr v d
  case jamCalDone => exact onRegs_kept s _ fun _ d hr => jamCalDone_form hr d
  case ucUpdateStart => exact onRegs_kept s _ fun _ d hr => ucUpdateStart_form hr d
  case pwrDomReqWrite port v => exact onRegs_kept s _ fun _ d hr => pwrDomReqWrite_form hr port v d
  case refclkLost input => exact onRegs_kept s _ fun _ d hr => refclkLost_form hr input d
  case commitApply page idx => exact onRegs_kept s _ fun _ d hr => commitApply_form hr page idx d
  case cfgSlotWritten => exact onRegs_kept s _ fun _ d hr => cfgSlotWritten_form hr d
  case load => exact onRegs_kept s _ fun _ d hr => load_form hr d
  case cutPart p => exact onRegs_kept s _ fun _ d hr => cutPart_form hr p d
  case cutPartMiss => exact onRegs_kept s _ fun _ d hr => cutPartMiss_form hr d
  case cut => exact onRegs_kept s _ fun _ d hr => cut_form hr d
  case stateOutput => exact onRegs_kept s _ fun _ d hr => stateOutput_form hr d
  case pcieHotReset linkDown => exact execPcieHotReset_kept linkDown s
  case pllLockLost pll => exact execPllLockLost_kept pll s
  case resetNAssert => exact onState_kept s _ (keepsForms_resetState 1)
  case hostReset => exact onState_kept s _ fun t => keepsForms_ite (keepsForms_resetState 4 t) (keepsForms_reject t _ _ _)
  case aonPowerUp => exact onState_kept s _ keepsForms_aonPowerUp
  case dormantAsleep => exact onState_kept s _ keepsForms_dormantAsleep
  case railFault rail v lost => exact onState_kept s _ (keepsForms_railFault rail v lost)
  case watchdogExpire => exact onReset_kept s _
  case finalSegmentDone => exact onReset_kept s _
  case thermalRead ts => exact onReset_kept s _
  case mpllHoldTimeout => exact onReset_kept s _
  case pcieRequest accs => exact onState_kept s _ (keepsForms_pcieRequest accs)
  case qspiTransfer t => exact onState_kept s _ (keepsForms_qspiTransfer t)
  case registerWrite port addr v => exact onState_kept s _ (keepsForms_busWrite port addr v 15)
  case latchRead port addr => exact onState_kept s _ (keepsForms_busRead port addr)
  case lockExpire page => exact onState_kept s _ fun t => keepsForms_ite (.refl t) (keepsForms_modHead t page _)
  case commit page => exact hostPage_kept page _ s (keepsForms_commitPage page)
  case discard page => exact hostPage_kept page _ s (keepsForms_discardPage page)
  case freeze page on => exact hostPage_kept page _ s (keepsForms_freezePage page on)
  case lockWrite page v => exact hostPage_kept page _ s fun t => keepsForms_modHead t page _
  case cfgRejectedClear page => exact hostPage_kept page _ s fun t => keepsForms_modHead t page _
  case irqStatClear page v => exact hostPage_kept page _ s (keepsForms_devS _)
  case irqForce page v => exact hostPage_kept page _ s (keepsForms_devS _)
  case irqEoi v => exact hostPage_kept 3 _ s (keepsForms_devS _)
  case stagingTouched | cfgChecksDone | ethRxFrame | ethTxPush | ethTxDone | ethLaunchDue | ethLaunchLate | ethLinkChange
    | ucUpdateDone | continuitySetTake => exact onMem_kept s _
  all_goals exact onDev_kept s _

/-- Settles O60: a step is a tick, which changes the blocks alone, or a command, which keeps the forms of what it writes
by its shape and its function on the registers. -/
theorem everyStepKeepsCanonicalForms : Obligations.EveryStepKeepsCanonicalForms := by
  unfold Obligations.EveryStepKeepsCanonicalForms
  intro s hm hr
  cases hp : s.pending with
  | nil => exact ⟨timerTick s, by rw [step, hp], hm, hr, hp⟩
  | cons c rest =>
    obtain ⟨t, ht, hmem, hregs, hpend⟩ := exec_kept c { s with pending := rest }
    exact ⟨t, by rw [step, hp]; exact ht, hmem hm, (regsOk_iff_form t).2 (hregs ((regsOk_iff_form s).1 hr)), hpend⟩

end Sys2Proof
end

section
/-! PROOFS. The front command, the tick of an empty queue, and the state after reset. -/

namespace Sys2Proof

open Sys2Proof.Machine

/-- A tick changes TB0 to TB3 and the tick count, and sends nothing. -/
theorem agreeAt_timerTick (s : State) (p : Part) (hp : p ≠ .tim) : agreeAt (timerTick s).dev s.dev p := by
  cases p with
  | tim => exact absurd rfl hp
  | _ => exact rfl

/-- A base within the list of bases after a tick. -/
theorem tb_timerTick (s : State) (i : Nat) (hi : i < s.dev.tim.tb.length) :
    (timerTick s).dev.tb i =
      if (s.dev.mde.dorm == .asleep || s.dev.mde.dorm == .refresh) && decide (i ≠ 3) then s.dev.tb i else (s.dev.tb i).tick := by
  simp [timerTick, Dev.quiet, Dev.tickBases, Dev.tb, at', mapI, hi]

/-- A base asleep does not move, present or not. -/
theorem tb_timerTick_asleep (s : State) (i : Nat) (hd : s.dev.mde.dorm = .asleep) (hi : i ≠ 3) :
    (timerTick s).dev.tb i = s.dev.tb i := by
  by_cases h : i < s.dev.tim.tb.length
  · simp [tb_timerTick s i h, hd, hi]
  · simp [timerTick, Dev.quiet, Dev.tickBases, Dev.tb, at', mapI, h]

/-- Settles O58: both branches of `step`, and the bases through the tick. -/
theorem stepRunsTheFrontCommand : Obligations.StepRunsTheFrontCommand := by
  unfold Obligations.StepRunsTheFrontCommand
  constructor
  · intro s c rest h
    rw [step, h]
  · intro s h
    refine ⟨timerTick s, by rw [step, h], rfl, rfl, rfl, h, rfl, rfl, agreeAt_timerTick s, ?_, ?_⟩
    · rintro i hi (rfl | ⟨ha, hr⟩)
      · simp [tb_timerTick s 3 hi]
      · simp [tb_timerTick s i hi, ha, hr]
    · exact fun hd i hi => tb_timerTick_asleep s i hd hi

/-- The header of a page after reset. -/
theorem head_reset (p : Nat) (hp : p < 64) :
    State.reset.regs.head p = { en := !(staticPages.contains p) && decide (p ≤ 0x2C) } := by
  simp [State.reset, Regs.head, at', hdrReset, hp]

/-- No page has a raw interrupt bit set after reset. -/
theorem raw_reset (p : Nat) : at' State.reset.dev.irq.raw p = 0 := by
  change (List.replicate 64 0).getD p 0 = 0
  rw [List.getD_eq_getElem?_getD, List.getElem?_replicate]
  split <;> rfl

/-- Settles O59: the records of the reset state are at the defaults of their fields, and the headers are listed by page. -/
theorem Reset.resetState : Obligations.ResetState := by
  unfold Obligations.ResetState
  refine ⟨rfl, ⟨rfl, rfl, by simp [State.reset, hdrReset]⟩, rfl, rfl, rfl, rfl, rfl, fun _ _ _ _ _ => rfl, raw_reset, fun p hp => ?_⟩
  rw [Regs.en, head_reset p hp]
  exact ⟨rfl, rfl, rfl⟩

end Sys2Proof
end

section
/-! PROOFS. Frames of changes to one block, and what left the device through the messages of a command. -/

namespace Sys2Proof

open Sys2Proof.Machine

/-! ### Changes of one part -/

/-- A change that keeps all parts but one, at the same tick. -/
theorem within_one {q : Part} {b a : Dev} (hn : b.now = a.now) (h : ∀ p, p ≠ q → agreeAt b a p) : Within [q] b a :=
  ⟨hn, fun p hp => h p (by simpa using hp)⟩

theorem within_free (d : Dev) (x : Nat) : Within [.free] { d with free := x } d := by
  refine within_one rfl fun p hp => ?_
  cases p
  case free => exact absurd rfl hp
  all_goals rfl

theorem within_sys (d : Dev) (x : SysSt) : Within [.sys] { d with sys := x } d := by
  refine within_one rfl fun p hp => ?_
  cases p
  case sys => exact absurd rfl hp
  all_goals rfl

theorem within_pwr (d : Dev) (x : PwrSt) : Within [.pwr] { d with pwr := x } d := by
  refine within_one rfl fun p hp => ?_
  cases p
  case pwr => exact absurd rfl hp
  all_goals rfl

theorem within_clk (d : Dev) (x : ClkSt) : Within [.clk] { d with clk := x } d := by
  refine within_one rfl fun p hp => ?_
  cases p
  case clk => exact absurd rfl hp
  all_goals rfl

theorem within_irq (d : Dev) (x : IrqSt) : Within [.irq] { d with irq := x } d := by
  refine within_one rfl fun p hp => ?_
  cases p
  case irq => exact absurd rfl hp
  all_goals rfl

theorem within_hst (d : Dev) (x : HstSt) : Within [.hst] { d with hst := x } d := by
  refine within_one rfl fun p hp => ?_
  cases p
  case hst => exact absurd rfl hp
  all_goals rfl

theorem within_mde (d : Dev) (x : MdeSt) : Within [.mde] { d with mde := x } d := by
  refine within_one rfl fun p hp => ?_
  cases p
  case mde => exact absurd rfl hp
  all_goals rfl

theorem within_cfg (d : Dev) (x : CfgSt) : Within [.cfg] { d with cfg := x } d := by
  refine within_one rfl fun p hp => ?_
  cases p
  case cfg => exact absurd rfl hp
  all_goals rfl

theorem within_msn (d : Dev) (x : MsnSt) : Within [.msn] { d with msn := x } d := by
  refine within_one rfl fun p hp => ?_
  cases p
  case msn => exact absurd rfl hp
  all_goals rfl

theorem within_slv (d : Dev) (x : SlvSt) : Within [.slv] { d with slv := x } d := by
  refine within_one rfl fun p hp => ?_
  cases p
  case slv => exact absurd rfl hp
  all_goals rfl

theorem within_fus (d : Dev) (x : FusSt) : Within [.fus] { d with fus := x } d := by
  refine within_one rfl fun p hp => ?_
  cases p
  case fus => exact absurd rfl hp
  all_goals rfl

theorem within_ctl (d : Dev) (x : CtlSt) : Within [.ctl] { d with ctl := x } d := by
  refine within_one rfl fun p hp => ?_
  cases p
  case ctl => exact absurd rfl hp
  all_goals rfl

theorem within_gns0 (d : Dev) (x : Gns0St) : Within [.gns0] { d with gns0 := x } d := by
  refine within_one rfl fun p hp => ?_
  cases p
  case gns0 => exact absurd rfl hp
  all_goals rfl

theorem within_gns1 (d : Dev) (x : Gns1St) : Within [.gns1] { d with gns1 := x } d := by
  refine within_one rfl fun p hp => ?_
  cases p
  case gns1 => exact absurd rfl hp
  all_goals rfl

theorem within_gns2 (d : Dev) (x : Gns2St) : Within [.gns2] { d with gns2 := x } d := by
  refine within_one rfl fun p hp => ?_
  cases p
  case gns2 => exact absurd rfl hp
  all_goals rfl

theorem within_src (d : Dev) (x : SrcSt) : Within [.src] { d with src := x } d := by
  refine within_one rfl fun p hp => ?_
  cases p
  case src => exact absurd rfl hp
  all_goals rfl

theorem within_flt (d : Dev) (x : FltSt) : Within [.flt] { d with flt := x } d := by
  refine within_one rfl fun p hp => ?_
  cases p
  case flt => exact absurd rfl hp
  all_goals rfl

theorem within_lop (d : Dev) (x : LopSt) : Within [.lop] { d with lop := x } d := by
  refine within_one rfl fun p hp => ?_
  cases p
  case lop => exact absurd rfl hp
  all_goals rfl

theorem within_aou (d : Dev) (x : AouSt) : Within [.aou] { d with aou := x } d := by
  refine within_one rfl fun p hp => ?_
  cases p
  case aou => exact absurd rfl hp
  all_goals rfl

theorem within_can (d : Dev) (x : CanSt) : Within [.can] { d with can := x } d := by
  refine within_one rfl fun p hp => ?_
  cases p
  case can => exact absurd rfl hp
  all_goals rfl

theorem within_e2e (d : Dev) (x : E2eSt) : Within [.e2e] { d with e2e := x } d := by
  refine within_one rfl fun p hp => ?_
  cases p
  case e2e => exact absurd rfl hp
  all_goals rfl

theorem within_tim (d : Dev) (x : TimSt) : Within [.tim] { d with tim := x } d := by
  refine within_one rfl fun p hp => ?_
  cases p
  case tim => exact absurd rfl hp
  all_goals rfl

theorem within_eth (d : Dev) (x : List EthSt) : Within [.eth] { d with eth := x } d := by
  refine within_one rfl fun p hp => ?_
  cases p
  case eth => exact absurd rfl hp
  all_goals rfl

theorem within_saf (d : Dev) (x : SafSt) : Within [.saf] { d with saf := x } d := by
  refine within_one rfl fun p hp => ?_
  cases p
  case saf => exact absurd rfl hp
  all_goals rfl

theorem within_grt (d : Dev) (x : GrtSt) : Within [.grt] { d with grt := x } d := by
  refine within_one rfl fun p hp => ?_
  cases p
  case grt => exact absurd rfl hp
  all_goals rfl

/-- A change made under a Boolean condition. -/
theorem Within.onlyIf {l : List Part} {c : Bool} {f : Dev → Dev} {d : Dev} (h : Within l (f d) d) : Within l (onlyIf c f d) d :=
  .when h

/-- Changes of the same parts, folded over a list. -/
theorem within_foldl {α : Type} {l : List Part} (f : Dev → α → Dev) (xs : List α) (d : Dev) (h : ∀ a x, Within l (f a x) a) :
    Within l (xs.foldl f d) d :=
  foldl_keeps (Within l · d) f xs d (fun a x ha => ((h a x).trans ha).mono (by simp)) (.refl l d)

/-- What does not change a part leaves it alone. -/
theorem Within.agree {l : List Part} {b a : Dev} (h : Within l b a) (p : Part) (hp : p ∉ l) : agreeAt b a p := h.keeps p hp

/-! ### What left the device -/

theorem mem_emit_self (o : Output) (d : Dev) : o ∈ (emit o d).out := by simp [emit]

theorem mem_emit (o x : Output) (d : Dev) (h : o ∈ d.out) : o ∈ (emit x d).out := by simp [emit, h]

/-- A vector's message takes nothing back. -/
theorem mem_sendVec_out (o : Output) (v : Nat) (d : Dev) (h : o ∈ d.out) : o ∈ (sendVec v d).out := by
  unfold sendVec
  dsimp only
  split
  · exact h
  · split
    · exact h
    · exact mem_emit o _ d h

/-- The messages of a command come on top of what left in it. -/
theorem mem_settle_out (o : Output) (r : Regs) (d : Dev) (h : o ∈ d.out) : o ∈ (settle r d).out := by
  unfold settle
  dsimp only
  refine foldN_keeps (fun a : Dev => o ∈ a.out) 32 _ d (fun i a ha => ?_) h
  split
  · exact mem_sendVec_out o i a ha
  · exact ha

/-- A bit that an event source sets. -/
theorem raise_testBit_self (p b : Nat) (d : Dev) (h : p < d.irq.raw.length) : (at' (raise p b d).irq.raw p).testBit b = true := by
  rw [raise_testBit p b b d h, if_pos rfl]

/-- A raised source takes no raw bit back. -/
theorem raise_testBit_mono (q b p j : Nat) (d : Dev) (h : (at' d.irq.raw p).testBit j = true) :
    (at' (raise q b d).irq.raw p).testBit j = true := by
  by_cases hq : q = p
  · subst hq
    by_cases hl : q < d.irq.raw.length
    · rw [raise_testBit q b j d hl, h, ite_self]
    · rw [at'_of_length_le _ _ (Nat.not_lt.1 hl)] at h
      exact absurd h (by simp)
  · rwa [raise, at'_modAt_other _ _ _ _ hq]

@[simp] theorem raise_raw_length (p b : Nat) (d : Dev) : (raise p b d).irq.raw.length = d.irq.raw.length := by
  simp [raise]

end Sys2Proof
end

section
/-! PROOFS. CAN channels and end-to-end contexts [13 R370 R371 R374 to R381 R393 R397 R398]: stored frames, buffers,
requests, bus-off, frames on the bus, filter entries. -/

namespace Sys2Proof

open Sys2Proof.Machine

/-! ### A channel through the shared operations -/

@[simp] theorem quiet_canCh (d : Dev) (n : Nat) : d.quiet.canCh n = d.canCh n := rfl
@[simp] theorem settle_canCh (r : Regs) (d : Dev) (n : Nat) : (settle r d).canCh n = d.canCh n := by simp [Dev.canCh]
@[simp] theorem raise_canCh (p b : Nat) (d : Dev) (n : Nat) : (raise p b d).canCh n = d.canCh n := rfl
@[simp] theorem raiseIf_canCh (c : Bool) (p b : Nat) (d : Dev) (n : Nat) : (raiseIf c p b d).canCh n = d.canCh n := by simp [Dev.canCh]

theorem modCan_canCh_self (n : Nat) (f : CanCh → CanCh) (d : Dev) (h : n < d.can.ch.length) :
    (modCan n f d).canCh n = f (d.canCh n) := at'_modAt_self _ _ _ h

@[simp] theorem modCan_length (n : Nat) (f : CanCh → CanCh) (d : Dev) : (modCan n f d).can.ch.length = d.can.ch.length := by
  simp [modCan]

theorem within_modCan (n : Nat) (f : CanCh → CanCh) (d : Dev) : Within [.can] (modCan n f d) d := within_can d _

/-- A fold reaches what its step at one index sets and the other steps keep. -/
theorem foldN_reaches {α : Type} {n i : Nat} {f : Nat → α → α} {a : α} (inv q : α → Prop) (hi : i < n)
    (hinv : ∀ j a, inv a → inv (f j a)) (hset : ∀ a, inv a → q (f i a)) (hkeep : ∀ j a, inv a → q a → q (f j a)) (ha : inv a) :
    q (foldN n f a) := by
  induction n with
  | zero => exact absurd hi (Nat.not_lt_zero i)
  | succ n ih =>
    rw [foldN_succ]
    have hprefix : inv (foldN n f a) := foldN_keeps inv n f a hinv ha
    rcases Nat.lt_succ_iff_lt_or_eq.1 hi with hlt | rfl
    · exact hkeep _ _ hprefix (ih hlt)
    · exact hset _ hprefix

/-! ### Stored frames [13 R371 R376 R378] -/

/-- An acknowledgement of a receive FIFO frees the elements up to its index, and nothing past the held ones. -/
theorem rxFifo_ack (f : RxFifo) (v : Nat) :
    (f.ack v).elems = f.elems ∧ (f.ack v).put = f.put ∧
      ((v + 64 - f.get) % 64 < f.fill → (f.ack v).get = (v + 1) % 64 ∧ (f.ack v).fill + ((v + 64 - f.get) % 64 + 1) = f.fill) ∧
      (f.fill ≤ (v + 64 - f.get) % 64 → f.ack v = f) := by
  by_cases h : (v + 64 - f.get) % 64 < f.fill
  · simp only [RxFifo.ack, if_pos h]
    exact ⟨trivial, trivial, fun _ => ⟨trivial, by omega⟩, fun g => absurd h (Nat.not_lt.2 g)⟩
  · simp only [RxFifo.ack, if_neg h]
    exact ⟨trivial, trivial, fun g => absurd g h, fun _ => trivial⟩

/-- A channel whose FIFO is acknowledged up to an index. -/
def fifoAcked (fifo v : Nat) (c : CanCh) : CanCh :=
  if fifo = 0 then { c with fifo0 := c.fifo0.ack (v % 64) } else { c with fifo1 := c.fifo1.ack (v % 64) }

/-- A channel whose transmit log is acknowledged up to an index. -/
def logAcked (v : Nat) (c : CanCh) : CanCh :=
  let k := (v % 32 + 32 - c.logGet) % 32
  if k < c.logFill then { c with logGet := (v % 32 + 1) % 32, logFill := c.logFill - (k + 1) } else c

theorem logAcked_spec (v : Nat) (c : CanCh) :
    (logAcked v c).log = c.log ∧
      ((v % 32 + 32 - c.logGet) % 32 < c.logFill →
        (logAcked v c).logGet = (v % 32 + 1) % 32 ∧ (logAcked v c).logFill + ((v % 32 + 32 - c.logGet) % 32 + 1) = c.logFill) ∧
      (c.logFill ≤ (v % 32 + 32 - c.logGet) % 32 → logAcked v c = c) := by
  by_cases hk : (v % 32 + 32 - c.logGet) % 32 < c.logFill
  · simp only [logAcked, if_pos hk]
    exact ⟨trivial, fun _ => ⟨trivial, by omega⟩, fun g => absurd hk (Nat.not_lt.2 g)⟩
  · simp only [logAcked, if_neg hk]
    exact ⟨trivial, fun g => absurd g hk, fun _ => trivial⟩

/-- The step of DB_SNAP at one bit. -/
def snapOne (n hi v i : Nat) (d : Dev) : Dev :=
  if bit v i then modCan n (fun c => { c with
    shadow := modAt c.shadow (32 * (hi % 2) + i) fun _ => at' c.db (32 * (hi % 2) + i), dbNew := setBit c.dbNew (32 * (hi % 2) + i) false }) d
  else d

theorem dbSnap_present (n hi v : Nat) (d : Dev) (hn : n < 8) (hp : pageAbsent d (0x18 + n) = false) :
    dbSnap n hi v d = foldN 32 (snapOne n hi v) d := by
  simp only [dbSnap, Nat.not_le.2 hn, hp, false_or, Bool.false_eq_true, if_false]
  rfl

theorem within_snapOne (n hi v i : Nat) (d : Dev) : Within [.can] (snapOne n hi v i d) d := .when (within_modCan n _ d)

/-- What DB_SNAP's steps keep: the channel, its buffers and the number of its shadows. -/
def SnapKeeps (n : Nat) (d b : Dev) : Prop :=
  n < b.can.ch.length ∧ (b.canCh n).db = (d.canCh n).db ∧ (b.canCh n).shadow.length = 64

theorem snapOne_keeps (n hi v i : Nat) (d b : Dev) (h : SnapKeeps n d b) : SnapKeeps n d (snapOne n hi v i b) := by
  obtain ⟨hn, hdb, hlen⟩ := h
  unfold snapOne
  split
  · refine ⟨by simpa using hn, ?_, ?_⟩ <;> rw [modCan_canCh_self n _ b hn]
    · exact hdb
    · simpa using hlen
  · exact ⟨hn, hdb, hlen⟩

/-- A step at another bit leaves a shadow and its NEW flag as they were. -/
theorem snapOne_other (n hi v i j : Nat) (b : Dev) (hn : n < b.can.ch.length) (hj : j ≠ i) :
    at' ((snapOne n hi v j b).canCh n).shadow (32 * (hi % 2) + i) = at' (b.canCh n).shadow (32 * (hi % 2) + i) ∧
      ((snapOne n hi v j b).canCh n).dbNew.testBit (32 * (hi % 2) + i) = (b.canCh n).dbNew.testBit (32 * (hi % 2) + i) := by
  unfold snapOne
  split
  · rw [modCan_canCh_self n _ b hn]
    exact ⟨at'_modAt_other _ _ _ _ (by omega), by simp [testBit_setBit, hj]⟩
  · exact ⟨rfl, rfl⟩

/-- A marked buffer is in its shadow. -/
def Snapped (n k : Nat) (d b : Dev) : Prop :=
  at' (b.canCh n).shadow k = at' (d.canCh n).db k ∧ (b.canCh n).dbNew.testBit k = false

theorem snapOne_marked (n hi v i : Nat) (d b : Dev) (hi' : i < 32) (hv : v.testBit i = true) (h : SnapKeeps n d b) :
    Snapped n (32 * (hi % 2) + i) d (snapOne n hi v i b) := by
  obtain ⟨hn, hdb, hlen⟩ := h
  rw [snapOne, bit, hv, if_pos rfl, Snapped, modCan_canCh_self n _ b hn]
  exact ⟨by rw [at'_modAt_self _ _ _ (by omega), hdb], by simp⟩

/-- Settles O1: the freed elements by the distance from the oldest, and DB_SNAP bit by bit. -/
theorem canStoredFramesAcknowledged : Obligations.CanStoredFramesAcknowledged := by
  unfold Obligations.CanStoredFramesAcknowledged
  refine ⟨fun s ch fifo v hch => ?_, fun s ch v hch => ?_, fun s ch hi v i h8 hp hch hi' hlen => ?_⟩
  · refine ⟨_, onDev_next s (fun _ d => modCan ch (fifoAcked fifo v) d), (within_modCan ch _ _).onlyParts (by simp), ?_⟩
    simp only [settle_canCh]
    rw [modCan_canCh_self ch _ s.dev.quiet hch, quiet_canCh]
    by_cases hf : fifo = 0
    · simpa only [fifoAcked, hf, if_true] using rxFifo_ack (s.dev.canCh ch).fifo0 (v % 64)
    · simpa only [fifoAcked, hf, if_false] using rxFifo_ack (s.dev.canCh ch).fifo1 (v % 64)
  · refine ⟨_, onDev_next s (fun _ d => modCan ch (logAcked v) d), (within_modCan ch _ _).onlyParts (by simp), ?_⟩
    simp only [settle_canCh]
    rw [modCan_canCh_self ch _ s.dev.quiet hch, quiet_canCh]
    exact logAcked_spec v (s.dev.canCh ch)
  · have hkeeps : SnapKeeps ch s.dev.quiet s.dev.quiet := ⟨hch, rfl, hlen⟩
    refine ⟨_, onDev_next s (fun _ d => dbSnap ch hi v d), ?_⟩
    rw [dbSnap_present ch hi v s.dev.quiet h8 hp]
    refine ⟨(within_foldN 32 _ _ fun j a => within_snapOne ch hi v j a).onlyParts (by simp), ?_⟩
    simp only [settle_canCh]
    refine ⟨(foldN_keeps (SnapKeeps ch s.dev.quiet) 32 _ _ (fun j a => snapOne_keeps ch hi v j _ a) hkeeps).2.1, fun hv => ?_, fun hv => ?_⟩
    · refine foldN_reaches (SnapKeeps ch s.dev.quiet) (Snapped ch (32 * (hi % 2) + i) s.dev.quiet) hi'
        (fun j a => snapOne_keeps ch hi v j _ a) (fun a => snapOne_marked ch hi v i _ a hi' hv) (fun j a ha hs => ?_) hkeeps
      by_cases hj : j = i
      · exact hj ▸ snapOne_marked ch hi v i _ a hi' hv ha
      · obtain ⟨hsh, hnew⟩ := snapOne_other ch hi v i j a ha.1 hj
        exact ⟨hsh.trans hs.1, hnew.trans hs.2⟩
    · refine (foldN_keeps (fun a => SnapKeeps ch s.dev.quiet a ∧
        at' (a.canCh ch).shadow (32 * (hi % 2) + i) = at' (s.dev.canCh ch).shadow (32 * (hi % 2) + i)) 32 _ _ (fun j a ha => ?_) ⟨hkeeps, rfl⟩).2
      refine ⟨snapOne_keeps ch hi v j _ a ha.1, ?_⟩
      by_cases hj : j = i
      · rw [snapOne, hj, bit, hv]
        exact ha.2
      · exact (snapOne_other ch hi v i j a ha.1.1 hj).1.trans ha.2

/-! ### Buffers and requests [13 R370 R378 R380 R381] -/

/-- A buffer is free: neither pending nor on the bus. -/
theorem canPut_free (n : Nat) (r : Regs) (d : Dev) (hn : n < 8) (hp : pageAbsent d (0x18 + n) = false)
    (hpend : (d.canCh n).pend.testBit (r.on F.CAN_MRAM_SEL_INDEX n) = false)
    (hsend : ∀ x, (d.canCh n).sending = some x → x.buf ≠ r.on F.CAN_MRAM_SEL_INDEX n) :
    canPut n r d = modCan n (fun c => { c with
      tx := modAt c.tx (r.on F.CAN_MRAM_SEL_INDEX n) fun _ => { c.stage with data := c.stage.bytes } }) d := by
  cases hs : (d.canCh n).sending with
  | none => simp [canPut, bit, hpend, hs, Nat.not_le.2 hn, hp]
  | some x => simp [canPut, bit, hpend, hs, hsend x hs, Nat.not_le.2 hn, hp]

theorem canPut_busy (n : Nat) (r : Regs) (d : Dev) (hn : n < 8) (hp : pageAbsent d (0x18 + n) = false)
    (hbusy : (d.canCh n).pend.testBit (r.on F.CAN_MRAM_SEL_INDEX n) = true ∨
      ∃ x, (d.canCh n).sending = some x ∧ x.buf = r.on F.CAN_MRAM_SEL_INDEX n) :
    canPut n r d = modCan n (fun c => { c with putBusy := wrapInc 16 c.putBusy }) d := by
  rcases hbusy with h | ⟨x, hs, hb⟩
  · simp [canPut, bit, h, Nat.not_le.2 hn, hp]
  · simp [canPut, hs, hb, Nat.not_le.2 hn, hp]

/-- Either way one channel changes. -/
theorem within_canPut (n : Nat) (r : Regs) (d : Dev) : Within [.can] (canPut n r d) d :=
  .ite (.refl _ d) (.ite (within_modCan n _ d) (within_modCan n _ d))

/-- Settles O2: the two cases of the buffer. -/
theorem canPutFillsAFreeBuffer : Obligations.CanPutFillsAFreeBuffer := by
  unfold Obligations.CanPutFillsAFreeBuffer
  intro s ch h8 hp hch c b hb
  refine ⟨_, onDev_next s (canPut ch), (within_canPut ch _ _).onlyParts (by simp), fun hpend hsend => ?_, fun hbusy => ?_⟩
  · simp only [settle_canCh]
    rw [canPut_free ch s.regs s.dev.quiet h8 hp hpend hsend, modCan_canCh_self ch _ s.dev.quiet hch]
    exact ⟨at'_modAt_self _ _ _ hb, fun k hk => at'_modAt_other _ _ _ _ hk.symm, rfl⟩
  · simp only [settle_canCh]
    rw [canPut_busy ch s.regs s.dev.quiet h8 hp hbusy, modCan_canCh_self ch _ s.dev.quiet hch]
    exact ⟨rfl, rfl⟩

/-! ### Transmission and the transmit log -/

/-- A frame taken up, or none: only what is on the bus changes. -/
theorem canStart_shape (r : Regs) (n : Nat) (d : Dev) :
    canStart r n d = d ∨ ∃ t, canStart r n d = modCan n (fun c => { c with sending := some t, cancelLate := false }) d := by
  have drive (b k : Nat) (e : CanElem) :
      canDrive r n b k e d = d ∨ ∃ t, canDrive r n b k e d = modCan n (fun c => { c with sending := some t, cancelLate := false }) d :=
    .inr ⟨_, rfl⟩
  unfold canStart
  extract_lets c
  split
  · exact .inl rfl
  · split
    · split
      · exact drive _ _ _
      · exact .inl rfl
    · split
      · split
        · exact drive _ _ _
        · exact .inl rfl
      · split
        · split
          · exact .inl rfl
          · exact drive _ _ _
        · exact .inl rfl
    · exact .inl rfl

theorem within_canStart (r : Regs) (n : Nat) (d : Dev) : Within [.can] (canStart r n d) d := by
  rcases canStart_shape r n d with h | ⟨t, h⟩ <;> rw [h]
  · exact .refl _ d
  · exact within_modCan n _ d

/-- The channel after a start, but for what is on the bus. -/
theorem canStart_canCh (r : Regs) (n : Nat) (d : Dev) (hn : n < d.can.ch.length) :
    ∃ x l, (canStart r n d).canCh n = { d.canCh n with sending := x, cancelLate := l } := by
  rcases canStart_shape r n d with h | ⟨t, h⟩ <;> rw [h]
  · exact ⟨_, _, rfl⟩
  · exact ⟨_, _, modCan_canCh_self n _ d hn⟩

@[simp] theorem canStart_raw (r : Regs) (n : Nat) (d : Dev) : (canStart r n d).irq.raw = d.irq.raw := by
  rcases canStart_shape r n d with h | ⟨t, h⟩ <;> rw [h]
  rfl

/-- A channel with an entry in its transmit log; at a full log the oldest is dropped. -/
def logged (x : CanElem) (c : CanCh) : CanCh :=
  { c with
    log := modAt c.log ((c.logGet + c.logFill) % 32) fun _ => x
    logGet := if decide (32 ≤ c.logFill) then (c.logGet + 1) % 32 else c.logGet
    logFill := if decide (32 ≤ c.logFill) then 32 else c.logFill + 1 }

theorem logged_fill (x : CanElem) (c : CanCh) : (logged x c).logFill = min 32 (c.logFill + 1) := by
  by_cases h : 32 ≤ c.logFill <;> simp [logged, h] <;> omega

theorem canLog_shape (n : Nat) (e : CanElem) (buf outcome : Nat) (late : Bool) (sof : Option Nat) (d : Dev) :
    ∃ x, canLog n e buf outcome late sof d = raise (0x18 + n) 1 (modCan n (logged x) d) := ⟨_, rfl⟩

theorem within_canLog (n : Nat) (e : CanElem) (buf outcome : Nat) (late : Bool) (sof : Option Nat) (d : Dev) :
    Within [.irq, .can] (canLog n e buf outcome late sof d) d := by
  obtain ⟨x, h⟩ := canLog_shape n e buf outcome late sof d
  rw [h]
  exact ((within_raise _ _ _).trans (within_modCan n _ d)).mono (by simp)

theorem canLog_canCh (n : Nat) (e : CanElem) (buf outcome : Nat) (late : Bool) (sof : Option Nat) (d : Dev) (hn : n < d.can.ch.length) :
    ∃ x, (canLog n e buf outcome late sof d).canCh n = logged x (d.canCh n) := by
  obtain ⟨x, h⟩ := canLog_shape n e buf outcome late sof d
  exact ⟨x, by rw [h, raise_canCh, modCan_canCh_self n _ d hn]⟩

@[simp] theorem canLog_length (n : Nat) (e : CanElem) (buf outcome : Nat) (late : Bool) (sof : Option Nat) (d : Dev) :
    (canLog n e buf outcome late sof d).can.ch.length = d.can.ch.length := modCan_length n _ d

@[simp] theorem canLog_raw_length (n : Nat) (e : CanElem) (buf outcome : Nat) (late : Bool) (sof : Option Nat) (d : Dev) :
    (canLog n e buf outcome late sof d).irq.raw.length = d.irq.raw.length := raise_raw_length _ _ _

/-- A channel without the request of a buffer. -/
def unpended (b : Nat) (c : CanCh) : CanCh :=
  { c with pend := setBit c.pend b false, launchHold := setBit c.launchHold b false, launchAt := c.launchAt.filter fun e => !(e.1 == b) }

theorem canUnpend_canCh (n b : Nat) (d : Dev) (hn : n < d.can.ch.length) : (canUnpend n b d).canCh n = unpended b (d.canCh n) :=
  modCan_canCh_self n (unpended b) d hn

@[simp] theorem canUnpend_length (n b : Nat) (d : Dev) : (canUnpend n b d).can.ch.length = d.can.ch.length := modCan_length n _ d

/-- A request that leaves the pending set with an entry in the log. -/
theorem withdrawn_canCh (n b outcome : Nat) (late : Bool) (e : CanElem) (sof : Option Nat) (d : Dev) (hn : n < d.can.ch.length) :
    ((canLog n e b outcome late sof (canUnpend n b d)).canCh n).pend.testBit b = false ∧
      ((canLog n e b outcome late sof (canUnpend n b d)).canCh n).logFill = min 32 ((d.canCh n).logFill + 1) := by
  obtain ⟨x, h⟩ := canLog_canCh n e b outcome late sof (canUnpend n b d) (by simpa using hn)
  rw [h, canUnpend_canCh n b d hn]
  exact ⟨testBit_setBit_self _ _ _, logged_fill x _⟩

theorem within_withdrawn (n b outcome : Nat) (late : Bool) (e : CanElem) (sof : Option Nat) (d : Dev) :
    Within [.irq, .can] (canLog n e b outcome late sof (canUnpend n b d)) d :=
  ((within_canLog _ _ _ _ _ _ _).trans (within_modCan n _ d)).mono (by simp)

/-! ### Requests -/

/-- The step of CAN_TXREQ at one bit. -/
def txreqOne (n hi v : Nat) (r : Regs) (i : Nat) (d : Dev) : Dev :=
  let b := 32 * (hi % 2) + i
  let c := d.canCh n
  let e : CanElem := at' c.tx b
  if !(bit v i) || bit c.pend b then d
  else if bit e.frame 16 && !(d.tw812) then
    let t := e.w2 + 2 ^ 32 * e.w3
    if t + 1000 * r.on F.CAN_LATE_MAX_LATE_MAX n < d.tb0 then raise (0x18 + n) 5 (canLog n e b 2 false none d)
    else modCan n (fun c => { c with pend := setBit c.pend b true, launchHold := setBit c.launchHold b true, launchAt := sins c.launchAt b t }) d
  else modCan n (fun c => { c with pend := setBit c.pend b true }) d

theorem canTxreq_on (n hi v : Nat) (r : Regs) (d : Dev) (h : canOn r d n = true) :
    canTxreq n hi v r d = canStart r n (foldN 32 (txreqOne n hi v r) d) := by
  simp only [canTxreq, h, Bool.not_true, Bool.false_eq_true, if_false]
  rfl

theorem within_txreqOne (n hi v : Nat) (r : Regs) (i : Nat) (d : Dev) : Within [.irq, .can] (txreqOne n hi v r i d) d := by
  unfold txreqOne
  refine .ite (.refl _ d) (.ite (.ite ?_ ?_) ?_)
  · exact ((within_raise _ _ _).trans (within_canLog _ _ _ _ _ _ d)).mono (by simp)
  · exact (within_modCan n _ d).mono (by simp)
  · exact (within_modCan n _ d).mono (by simp)

/-- What the steps of CAN_TXREQ keep: the channel and its buffers. -/
def ReqKeeps (n : Nat) (tx : List CanElem) (b : Dev) : Prop := n < b.can.ch.length ∧ (b.canCh n).tx = tx

/-- A step of CAN_TXREQ keeps the buffers, and takes no request out. -/
theorem txreqOne_keeps (n hi v : Nat) (r : Regs) (i : Nat) (tx : List CanElem) (d : Dev) (h : ReqKeeps n tx d) :
    ReqKeeps n tx (txreqOne n hi v r i d) ∧
      ∀ k, (d.canCh n).pend.testBit k = true → ((txreqOne n hi v r i d).canCh n).pend.testBit k = true := by
  obtain ⟨hn, htx⟩ := h
  have hset (k j : Nat) (h : (d.canCh n).pend.testBit k = true) : (setBit (d.canCh n).pend j true).testBit k = true := by
    rw [testBit_setBit, h, ite_self]
  unfold txreqOne
  extract_lets b c e t
  split
  · exact ⟨⟨hn, htx⟩, fun k h => h⟩
  · split
    · split
      · obtain ⟨x, hx⟩ := canLog_canCh n e b 2 false none d hn
        rw [ReqKeeps, raise_canCh, hx]
        exact ⟨⟨by simpa using hn, htx⟩, fun k h => h⟩
      · rw [ReqKeeps, modCan_canCh_self n _ d hn]
        exact ⟨⟨by simpa using hn, htx⟩, fun k h => hset k b h⟩
    · rw [ReqKeeps, modCan_canCh_self n _ d hn]
      exact ⟨⟨by simpa using hn, htx⟩, fun k h => hset k b h⟩

/-- The step at a marked buffer without a launch time leaves it pending. -/
theorem txreqOne_marked (n hi v : Nat) (r : Regs) (i : Nat) (tx : List CanElem) (d : Dev) (h : ReqKeeps n tx d) (hv : v.testBit i = true)
    (hf : (at' tx (32 * (hi % 2) + i)).frame.testBit 16 = false) :
    ((txreqOne n hi v r i d).canCh n).pend.testBit (32 * (hi % 2) + i) = true := by
  obtain ⟨hn, rfl⟩ := h
  by_cases hp : (d.canCh n).pend.testBit (32 * (hi % 2) + i) = true
  · simp [txreqOne, bit, hp]
  · simp only [txreqOne, bit, hv, hp, hf, Bool.not_true, Bool.or_self, Bool.false_and, Bool.false_eq_true, if_false]
    rw [modCan_canCh_self n _ d hn]
    exact testBit_setBit_self _ _ _

/-- A cancel of a pending request that is not on the bus takes it out and logs it. -/
theorem canTxcancel_pending (n v : Nat) (r : Regs) (d : Dev) (h : canOn r d n = true) (hp : (d.canCh n).pend.testBit (v % 64) = true)
    (hs : ∀ x, (d.canCh n).sending = some x → x.buf ≠ v % 64) :
    canTxcancel n v r d = canLog n (at' (d.canCh n).tx (v % 64)) (v % 64) 1 false none (canUnpend n (v % 64) d) := by
  cases hc : (d.canCh n).sending with
  | none => simp [canTxcancel, canTxcancel.drop, bit, h, hc, hp]
  | some x => simp [canTxcancel, canTxcancel.drop, bit, h, hc, hp, hs x hc]

theorem launchDue_due (n b : Nat) (r : Regs) (d : Dev) (h : canOn r d n = true) (hh : (d.canCh n).launchHold.testBit b = true)
    (ht : sget (d.canCh n).launchAt b 0 ≤ d.tb0) :
    launchDue n b r d = canStart r n (modCan n (fun c => { c with launchHold := setBit c.launchHold b false }) d) :=
  if_pos ⟨h, hh, ht⟩

theorem launchLate_late (n b : Nat) (r : Regs) (d : Dev) (h : canOn r d n = true) (hp : (d.canCh n).pend.testBit b = true)
    (hl : (d.canCh n).launchAt.any (fun e => e.1 == b) = true) (hs : ∀ x, (d.canCh n).sending = some x → x.buf ≠ b)
    (ht : sget (d.canCh n).launchAt b 0 + 1000 * r.on F.CAN_LATE_MAX_LATE_MAX n < d.tb0) :
    launchLate n b r d = raise (0x18 + n) 5 (canLog n (at' (d.canCh n).tx b) b 2 false none (canUnpend n b d)) := by
  cases hc : (d.canCh n).sending with
  | none => simp [launchLate, bit, h, hp, hl, hc, ht]
  | some x => simp [launchLate, bit, h, hp, hl, hc, ht, hs x hc]

/-- Settles O3: the fold over the marked bits, and the request that leaves the pending set. -/
theorem canRequestsAndCancels : Obligations.CanRequestsAndCancels := by
  unfold Obligations.CanRequestsAndCancels
  refine ⟨fun s ch hi v i hon hch hi' hv hf => ?_, fun s ch v hon hch hp hs => ?_, fun s ch b hon hch hh ht => ?_,
    fun s ch b hon hch hraw hp hl hs ht => ?_⟩
  · refine ⟨_, onDev_next s (canTxreq ch hi v), ?_⟩
    rw [canTxreq_on ch hi v s.regs s.dev.quiet hon]
    have hkeeps : ReqKeeps ch (s.dev.canCh ch).tx s.dev.quiet := ⟨hch, rfl⟩
    have hstep := fun j a => txreqOne_keeps ch hi v s.regs j (s.dev.canCh ch).tx a
    have hpend := foldN_reaches (ReqKeeps ch (s.dev.canCh ch).tx) (fun a => (a.canCh ch).pend.testBit (32 * (hi % 2) + i) = true) hi'
      (fun j a ha => (hstep j a ha).1) (fun a ha => txreqOne_marked ch hi v s.regs i _ a ha hv hf)
      (fun j a ha hq => (hstep j a ha).2 _ hq) hkeeps
    obtain ⟨hlen, -⟩ := foldN_keeps (ReqKeeps ch (s.dev.canCh ch).tx) 32 _ _ (fun j a ha => (hstep j a ha).1) hkeeps
    refine ⟨((within_canStart _ _ _).trans (within_foldN 32 _ _ fun j a => within_txreqOne ch hi v s.regs j a)).onlyParts (by simp), ?_⟩
    obtain ⟨x, l, h⟩ := canStart_canCh s.regs ch (foldN 32 (txreqOne ch hi v s.regs) s.dev.quiet) hlen
    rw [settle_canCh, h]
    exact hpend
  · refine ⟨_, onDev_next s (canTxcancel ch v), ?_⟩
    rw [canTxcancel_pending ch v s.regs s.dev.quiet hon hp hs]
    refine ⟨(within_withdrawn _ _ _ _ _ _ _).onlyParts (by simp), ?_⟩
    simp only [settle_canCh]
    exact withdrawn_canCh ch _ 1 false _ none s.dev.quiet hch
  · refine ⟨_, onDev_next s (launchDue ch b), ?_⟩
    rw [launchDue_due ch b s.regs s.dev.quiet hon hh ht]
    refine ⟨((within_canStart _ _ _).trans (within_modCan ch _ _)).onlyParts (by simp), ?_⟩
    obtain ⟨x, l, h⟩ := canStart_canCh s.regs ch (modCan ch (fun c => { c with launchHold := setBit c.launchHold b false }) s.dev.quiet)
      (by simpa using hch)
    rw [settle_canCh, h, modCan_canCh_self ch _ s.dev.quiet hch]
    exact ⟨testBit_setBit_self _ _ _, rfl⟩
  · refine ⟨_, onDev_next s (launchLate ch b), ?_⟩
    rw [launchLate_late ch b s.regs s.dev.quiet hon hp hl hs ht]
    refine ⟨((within_raise _ _ _).trans (within_withdrawn _ _ _ _ _ _ _)).onlyParts (by simp), ?_, ?_⟩
    · rw [settle_canCh, raise_canCh]
      exact (withdrawn_canCh ch b 2 false _ none s.dev.quiet hch).1
    · rw [settle_raw]
      exact raise_testBit_self _ _ _ (by rw [canLog_raw_length]; exact hraw)

end Sys2Proof
end

section
/-! PROOFS. CAN channels, continued [13 R374 R375 R377 R378 R393 R397 R398]: bus-off, frames on the bus, filter entries,
end-to-end contexts. -/

namespace Sys2Proof

open Sys2Proof.Machine

/-! ### Bus-off [13 R393] -/

theorem busOffRecovered_ends (n : Nat) (r : Regs) (d : Dev) (hon : canOn r d n = true) (he : (d.canCh n).err = .busOff)
    (h : (d.canCh n).recovering = true ∨ r.on F.CAN_MODE_AUTO_RECOV n = 1) :
    busOffRecovered n r d =
      canStart r n (raise (0x18 + n) 2 (modCan n (fun c => { c with err := .active, tec := 0, recErr := 0, recovering := false }) d)) := by
  rcases h with h | h <;> simp [busOffRecovered, hon, he, h]

/-- Settles O4. -/
theorem canBusOffRecovery : Obligations.CanBusOffRecovery := by
  unfold Obligations.CanBusOffRecovery
  refine ⟨fun s ch hon hch he => ?_, fun s ch hon hch hraw he hr => ?_⟩
  · refine ⟨_, onDev_next s (fun r d => if canOn r d ch ∧ (d.canCh ch).err == .busOff then
      modCan ch (fun c => { c with recovering := true }) d else d), (Within.when (within_modCan ch _ _)).onlyParts (by simp), ?_⟩
    have hcond : canOn s.regs s.dev.quiet ch = true ∧ ((s.dev.quiet.canCh ch).err == .busOff) = true := ⟨hon, by simp [he]⟩
    rw [settle_canCh, if_pos hcond, modCan_canCh_self ch _ s.dev.quiet hch]
    exact ⟨rfl, he⟩
  · refine ⟨_, onDev_next s (busOffRecovered ch), ?_⟩
    rw [busOffRecovered_ends ch s.regs s.dev.quiet hon he hr]
    refine ⟨((within_canStart _ _ _).trans ((within_raise _ _ _).trans (within_modCan ch _ _))).onlyParts (by simp), ?_⟩
    obtain ⟨x, l, h⟩ := canStart_canCh s.regs ch
      (raise (0x18 + ch) 2 (modCan ch (fun c => { c with err := .active, tec := 0, recErr := 0, recovering := false }) s.dev.quiet))
      (by simpa using hch)
    rw [settle_canCh, settle_raw, h, canStart_raw, raise_canCh, modCan_canCh_self ch _ s.dev.quiet hch]
    exact ⟨rfl, rfl, rfl, raise_testBit_self _ _ _ hraw⟩

/-! ### Frames on the bus [13 R374 R377 R378 R393] -/

/-- A change of the error counters, but for the error state, what is on the bus and the Storyboard. -/
theorem canErrors_canCh (n t q : Nat) (d : Dev) (hn : n < d.can.ch.length) :
    ∃ e x l rc sb w, (canErrors n t q d).canCh n = { d.canCh n with
      tec := min t 255, recErr := min q 128, err := e, sending := x, cancelLate := l, recovering := rc, sb := sb, win := w } := by
  unfold canErrors
  extract_lets c st warn ch off d1 d2
  have h1 : d1.canCh n = { d.canCh n with tec := min t 255, recErr := min q 128, err := st } := modCan_canCh_self n _ d hn
  rw [raiseIf_canCh]
  by_cases ho : off = true
  · have h2 : d2 = modCan n _ d1 := if_pos ho
    rw [h2, modCan_canCh_self n _ d1 (by simpa [d1] using hn), h1]
    exact ⟨_, _, _, _, _, _, rfl⟩
  · have h2 : d2 = d1 := if_neg ho
    rw [h2, h1]
    exact ⟨_, _, _, _, _, _, rfl⟩

theorem within_canErrors (n t q : Nat) (d : Dev) : Within [.irq, .can] (canErrors n t q d) d := by
  have hoff (c : Prop) [Decidable c] (b : Dev) (f : CanCh → CanCh) : Within [.can] (if c then modCan n f b else b) b :=
    .when (within_modCan n f b)
  exact ((within_raiseIf _ _ _ _).trans ((hoff _ _ _).trans (within_modCan n _ d))).mono (by simp)

@[simp] theorem canErrors_length (n t q : Nat) (d : Dev) : (canErrors n t q d).can.ch.length = d.can.ch.length := by
  unfold canErrors
  extract_lets c st warn ch off d1 d2
  have h2 : d2.can.ch.length = d.can.ch.length := by
    unfold d2
    split <;> simp [d1]
  simpa using h2

/-! #### A frame sent whole -/

/-- The transmitter delay is measured or not. -/
theorem tdcMeasure_canCh (r : Regs) (n : Nat) (t : CanTx) (d : Dev) (hn : n < d.can.ch.length) :
    ∃ v, (tdcMeasure r n t d).canCh n = { d.canCh n with tdcv := v } := by
  unfold tdcMeasure
  split
  · exact ⟨_, modCan_canCh_self n _ d.takeFree hn⟩
  · exact ⟨_, rfl⟩

@[simp] theorem tdcMeasure_length (r : Regs) (n : Nat) (t : CanTx) (d : Dev) :
    (tdcMeasure r n t d).can.ch.length = d.can.ch.length := by
  unfold tdcMeasure
  split
  · exact modCan_length n _ d.takeFree
  · rfl

/-- The bus part of a frame sent whole: what left, the error counters, and the counter of a transmit context. -/
def sentOnBus (r : Regs) (n : Nat) (t : CanTx) (d : Dev) : Dev :=
  let c := d.canCh n
  let d := emit (.can n t.buf t.elem) (modCan n (fun c => { c with sending := none, cancelLate := false, lec := 0 }) d)
  let d := canErrors n (c.tec - 1) c.recErr d
  match t.ctx with
  | some (i, v) => modCtx i (fun x => { x with cnt := (x.cnt + 1) % (e2eOpt r i).modulus, run := if (e2eOpt r i).stream then v else x.run }) d
  | none => d

theorem sentOnBus_can (r : Regs) (n : Nat) (t : CanTx) (d : Dev) :
    (sentOnBus r n t d).can = (canErrors n ((d.canCh n).tec - 1) (d.canCh n).recErr
      (emit (.can n t.buf t.elem) (modCan n (fun c => { c with sending := none, cancelLate := false, lec := 0 }) d))).can := by
  unfold sentOnBus
  dsimp only
  split <;> rfl

/-- After the bus part the error code is 0, and the log is as it was. -/
theorem sentOnBus_canCh (r : Regs) (n : Nat) (t : CanTx) (d : Dev) (hn : n < d.can.ch.length) :
    ((sentOnBus r n t d).canCh n).lec = 0 ∧ ((sentOnBus r n t d).canCh n).logFill = (d.canCh n).logFill ∧
      n < (sentOnBus r n t d).can.ch.length := by
  rw [Dev.canCh, sentOnBus_can]
  set d1 := emit (.can n t.buf t.elem) (modCan n (fun c => { c with sending := none, cancelLate := false, lec := 0 }) d) with hd1
  have hlen : n < d1.can.ch.length := (modCan_length n _ d).symm ▸ hn
  have h1 : d1.canCh n = { d.canCh n with sending := none, cancelLate := false, lec := 0 } := modCan_canCh_self n _ d hn
  obtain ⟨e, x, l, rc, sb, w, h⟩ := canErrors_canCh n ((d.canCh n).tec - 1) (d.canCh n).recErr d1 hlen
  change ((canErrors n _ _ d1).canCh n).lec = 0 ∧ ((canErrors n _ _ d1).canCh n).logFill = _ ∧ _
  rw [h, h1]
  exact ⟨rfl, rfl, by simpa using hlen⟩

/-- A host frame sent whole leaves the pending set with an entry in the log. -/
theorem canSent_host (r : Regs) (n : Nat) (t : CanTx) (sof : Nat) (d : Dev) (hk : t.kind = 0) (hl : r.on F.CAN_MODE_LOOPBACK n = 0) :
    canSent r n t sof d =
      canLog n t.elem t.buf 0 (d.canCh n).cancelLate (some sof) (canUnpend n t.buf (sentOnBus r n t d)) := by
  unfold canSent
  rw [hk, hl]
  rfl

/-- A channel after a host frame sent whole. -/
theorem canSent_canCh (r : Regs) (n : Nat) (t : CanTx) (sof : Nat) (d : Dev) (hn : n < d.can.ch.length) (hk : t.kind = 0)
    (hl : r.on F.CAN_MODE_LOOPBACK n = 0) :
    ((canSent r n t sof d).canCh n).pend.testBit t.buf = false ∧ ((canSent r n t sof d).canCh n).lec = 0 ∧
      ((canSent r n t sof d).canCh n).logFill = min 32 ((d.canCh n).logFill + 1) ∧ n < (canSent r n t sof d).can.ch.length := by
  obtain ⟨hlec, hfill, hlen⟩ := sentOnBus_canCh r n t d hn
  rw [canSent_host r n t sof d hk hl]
  obtain ⟨x, hx⟩ := canLog_canCh n t.elem t.buf 0 (d.canCh n).cancelLate (some sof) (canUnpend n t.buf (sentOnBus r n t d)) (by simpa using hlen)
  rw [hx, canUnpend_canCh n _ _ hlen]
  refine ⟨testBit_setBit_self _ _ _, hlec, ?_, by simpa using hlen⟩
  rw [logged_fill]
  exact congrArg (fun k => min 32 (k + 1)) hfill

theorem canFrameTxEnd_sent (n sof : Nat) (r : Regs) (d : Dev) (x : CanTx) (h : (d.canCh n).sending = some x) :
    canFrameTxEnd n .sent sof r d = canStart r n (canSent r n x sof (tdcMeasure r n x d)) := by
  simp [canFrameTxEnd, h]

/-! #### A frame received -/

/-- The count after a frame received without error. -/
def goodRec (c : CanCh) : Nat := if 128 ≤ c.recErr then 127 else c.recErr - 1

theorem canFrameRx_remote (n : Nat) (f : CanFrame) (sof : Nat) (r : Regs) (d : Dev) (hon : canOn r d n = true)
    (he : (d.canCh n).err ≠ .busOff) (hr : f.rtr = true) (hfd : f.fd = false ∨ r.on F.CAN_MODE_FD_EN n = 1) :
    canFrameRx n f sof none r d = (r, modCan n (fun c => { c with remote := wrapInc 16 c.remote })
      (canErrors n (d.canCh n).tec (goodRec (d.canCh n)) (modCan n (fun c => { c with lec := 0 }) d))) := by
  rcases hfd with h | h <;> simp [canFrameRx, hon, he, hr, h, goodRec]

theorem canFrameRx_failed (n e : Nat) (f : CanFrame) (sof : Nat) (r : Regs) (d : Dev) (hon : canOn r d n = true)
    (he : (d.canCh n).err ≠ .busOff) (h7 : e < 7) (hfd : f.fd = false ∨ r.on F.CAN_MODE_FD_EN n = 1) :
    canFrameRx n f sof (some e) r d =
      (r, canErrors n (d.canCh n).tec ((d.canCh n).recErr + 1) (modCan n (fun c => { c with lec := e % 7 }) d)) := by
  have hne : e ≠ 7 := Nat.ne_of_lt h7
  rcases hfd with h | h <;> simp [canFrameRx, hon, he, h, hne]

/-- Settles O5: the change of the error counters keeps the rest of the channel. -/
theorem canFramesOnTheBus : Obligations.CanFramesOnTheBus := by
  unfold Obligations.CanFramesOnTheBus
  refine ⟨fun s ch sof x hch hx hk hl => ?_, fun s ch sof f hon hch he hr hfd => ?_, fun s ch sof e f hon hch he h7 hfd => ?_⟩
  · refine ⟨_, onDev_next s (canFrameTxEnd ch .sent sof), rfl, rfl, ?_⟩
    rw [settle_canCh, canFrameTxEnd_sent ch sof s.regs s.dev.quiet x hx]
    obtain ⟨v, hv⟩ := tdcMeasure_canCh s.regs ch x s.dev.quiet hch
    obtain ⟨hpend, hlec, hfill, hlen⟩ := canSent_canCh s.regs ch x sof (tdcMeasure s.regs ch x s.dev.quiet) (by simpa using hch) hk hl
    obtain ⟨y, l, h⟩ := canStart_canCh s.regs ch (canSent s.regs ch x sof (tdcMeasure s.regs ch x s.dev.quiet)) hlen
    rw [h]
    exact ⟨hpend, hlec, by rw [hfill, hv]; rfl⟩
  · refine ⟨_, onRegs_next s (canFrameRx ch f sof none), ?_⟩
    rw [canFrameRx_remote ch f sof s.regs s.dev.quiet hon he hr hfd]
    refine ⟨((within_modCan ch _ _).trans ((within_canErrors _ _ _ _).trans (within_modCan ch _ _))).onlyParts (by simp), ?_⟩
    rw [settle_canCh]
    obtain ⟨e, x, l, rc, sb, w, h⟩ := canErrors_canCh ch (s.dev.canCh ch).tec (goodRec (s.dev.canCh ch))
      (modCan ch (fun c => { c with lec := 0 }) s.dev.quiet) (by simpa using hch)
    rw [modCan_canCh_self ch _ _ (by simpa using hch)]
    simp only [quiet_canCh]
    rw [h, modCan_canCh_self ch _ s.dev.quiet hch]
    exact ⟨rfl, rfl, rfl, rfl⟩
  · refine ⟨_, onRegs_next s (canFrameRx ch f sof (some e)), ?_⟩
    rw [canFrameRx_failed ch e f sof s.regs s.dev.quiet hon he h7 hfd]
    refine ⟨((within_canErrors _ _ _ _).trans (within_modCan ch _ _)).onlyParts (by simp), ?_⟩
    rw [settle_canCh]
    obtain ⟨st, x, l, rc, sb, w, h⟩ := canErrors_canCh ch (s.dev.canCh ch).tec ((s.dev.canCh ch).recErr + 1)
      (modCan ch (fun c => { c with lec := e % 7 }) s.dev.quiet) (by simpa using hch)
    simp only [quiet_canCh]
    rw [h, modCan_canCh_self ch _ s.dev.quiet hch]
    exact ⟨Nat.mod_eq_of_lt h7, Nat.min_comm _ _⟩

/-! ### Filter entries [13 R375] -/

/-- The staged entry is one of its index. -/
theorem fltStaged_idx (d : Dev) (n i : Nat) : (fltStaged d n i).idx = i := by
  unfold fltStaged
  split
  next e h =>
    have he : e.1 = n ∧ e.2.idx = i := by simpa using List.find?_some h
    exact he.2
  next =>
    cases h : d.can.pool.find? (fun e => e.idx == i) with
    | none => rfl
    | some e => simpa using List.find?_some h

/-- The pool has an entry put in it. -/
theorem poolPut_find? (l : List FltEntry) (e : FltEntry) : (poolPut l e).find? (fun x => x.idx == e.idx) = some e := by
  induction l with
  | nil => simp [poolPut]
  | cons a t ih =>
    unfold poolPut
    split
    · simp
    · split
      · simp
      next hlt hne => simpa [List.find?_cons, show (a.idx == e.idx) = false from by simp; omega] using ih

theorem fltCtrlWrite_range (n v : Nat) (r : Regs) (d : Dev) (h : 4 ≤ bits v 6 4) :
    fltCtrlWrite n v r d = (r.reject (0x18 + n) 0xD0 3, d) := if_pos h

/-- The entry that a control word puts in the pool. -/
def writtenEntry (d : Dev) (n i v : Nat) : FltEntry := { fltStaged d n i with control := v &&& 0x3F77 }

theorem fltCtrlWrite_written (n v i : Nat) (r : Regs) (d : Dev) (h : bits v 6 4 < 4) (hp : pageAbsent d (0x18 + n) = false)
    (he : i = r.on F.CAN_FLT_CFG_BASE n + r.on F.CAN_FLT_SEL_ENTRY n) (hi : i < 2048) :
    ∃ st, fltCtrlWrite n v r d = (r, { d with can := { d.can with pool := poolPut d.can.pool (writtenEntry d n i v), staged := st } }) := by
  subst he
  refine ⟨_, (if_neg (Nat.not_le.2 h)).trans (if_neg ?_)⟩
  simp [hp, hi]

/-- Settles O6. -/
theorem canFilterEntryWritten : Obligations.CanFilterEntryWritten := by
  unfold Obligations.CanFilterEntryWritten
  intro s ch v h8 hp i
  by_cases hd : 4 ≤ bits v 6 4
  · refine ⟨_, onRegs_next s (fltCtrlWrite ch v), rfl, rfl, rfl, ?_⟩
    rw [fltCtrlWrite_range ch v s.regs s.dev.quiet hd, settle_can]
    exact ⟨rfl, rfl, fun hlt => absurd hd (Nat.not_le.2 hlt), fun _ => ⟨rfl, rfl⟩⟩
  · refine ⟨_, onRegs_next s (fltCtrlWrite ch v), rfl, rfl, rfl, ?_⟩
    by_cases hi : i < 2048
    · obtain ⟨st, h⟩ := fltCtrlWrite_written ch v i s.regs s.dev.quiet (Nat.not_le.1 hd) hp rfl hi
      rw [h, settle_can]
      have hidx : (writtenEntry s.dev.quiet ch i v).idx = i := fltStaged_idx s.dev.quiet ch i
      refine ⟨rfl, rfl, fun _ _ => ⟨rfl, rfl, ?_⟩, fun h => absurd h hd⟩
      have hfind := poolPut_find? s.dev.can.pool (writtenEntry s.dev.quiet ch i v)
      rwa [hidx] at hfind
    · have h : fltCtrlWrite ch v s.regs s.dev.quiet = (s.regs, s.dev.quiet) := (if_neg hd).trans (if_pos (.inl (Nat.not_lt.1 hi)))
      rw [h]
      exact ⟨rfl, rfl, fun _ hlt => absurd hlt hi, fun h => absurd h hd⟩

/-! ### End-to-end contexts [13 R397 R398] -/

@[simp] theorem settle_ctx (r : Regs) (d : Dev) (i : Nat) : (settle r d).ctx i = d.ctx i := by simp [Dev.ctx]
@[simp] theorem raise_ctx (p b : Nat) (d : Dev) (i : Nat) : (raise p b d).ctx i = d.ctx i := rfl

theorem modCtx_ctx_self (i : Nat) (f : E2eCtx → E2eCtx) (d : Dev) (h : i < d.e2e.ctx.length) :
    (modCtx i f d).ctx i = f (d.ctx i) := at'_modAt_self _ _ _ h

theorem within_modCtx (i : Nat) (f : E2eCtx → E2eCtx) (d : Dev) : Within [.e2e] (modCtx i f d) d := within_e2e d _

theorem e2eTimeout_silent (i : Nat) (r : Regs) (d : Dev) (hi : i < 16) (hen : r.bit F.E2E_CFG_EN i = true)
    (hdir : r.bit F.E2E_CFG_DIR i = true) (hn : (d.ctx i).noNew = false)
    (ht : (d.ctx i).lastTick + 250000 * r.at F.E2E_RX_TIMEOUT i ≤ d.now) :
    e2eTimeout i r d =
      raise 0x20 2 (modCtx i (fun c => { c with result := 6, bad := wrapInc 8 c.bad, init := true, faulted := true, noNew := true }) d) :=
  if_pos ⟨hi, hen, hdir, by simp [hn], ht⟩

/-- Settles O8. -/
theorem endToEndContexts : Obligations.EndToEndContexts := by
  unfold Obligations.EndToEndContexts
  refine ⟨fun s i hi hlen hraw hen hdir hn ht => ?_, fun s v => ?_⟩
  · refine ⟨_, onDev_next s (e2eTimeout i), ?_⟩
    rw [e2eTimeout_silent i s.regs s.dev.quiet hi hen hdir hn ht]
    refine ⟨((within_raise _ _ _).trans (within_modCtx i _ _)).onlyParts (by simp), ?_⟩
    rw [settle_ctx, settle_raw, raise_ctx, modCtx_ctx_self i _ s.dev.quiet hlen]
    exact ⟨rfl, rfl, rfl, raise_testBit_self _ _ _ hraw⟩
  · intro i hlen
    refine ⟨_, onRegs_next s (e2eRunWrite v), rfl, fun hen => ?_, fun hen => ?_⟩
    · have h : e2eRunWrite v s.regs s.dev.quiet = (s.regs, modCtx i (fun c => { c with run := v % 2 ^ 32 }) s.dev.quiet) :=
        if_neg (by simp [i, hen])
      rw [h, settle_ctx, modCtx_ctx_self i _ s.dev.quiet hlen]
      exact ⟨rfl, rfl, rfl⟩
    · have h : e2eRunWrite v s.regs s.dev.quiet = (s.regs.reject 0x20 0x54 7, s.dev.quiet) := if_pos hen
      rw [h, settle_e2e]
      exact ⟨rfl, rfl⟩

end Sys2Proof
end

section
/-! PROOFS. The Storyboard's basic cycle [13 R385 to R389]. -/

namespace Sys2Proof

open Sys2Proof.Machine

/-! ### Windows -/

/-- A channel that is time master by its registers, or no master, keeps its role. -/
theorem sbRole_keeps (r : Regs) (n : Nat) (d : Dev) (h : (d.canCh n).master = true → sbIsMaster r n d = true) : sbRole r n d = d := by
  refine if_neg fun hc => ?_
  obtain ⟨hm, hno⟩ := Bool.and_eq_true_iff.1 hc
  simp [h hm] at hno

theorem sbClose_none (r : Regs) (n : Nat) (d : Dev) (h : (d.canCh n).win = none) : sbClose r n d = d := by
  simp [sbClose, h]

@[simp] theorem checkFail_can (d : Dev) : (checkFail d).can = d.can := by
  unfold checkFail
  split <;> rfl

@[simp] theorem onlyIf_checkFail_can (c : Bool) (d : Dev) : (onlyIf c checkFail d).can = d.can := by
  unfold onlyIf
  split
  · exact checkFail_can d
  · rfl

@[simp] theorem silentWatch_canCh (r : Regs) (d : Dev) (n : Nat) : (silentWatch r d).canCh n = d.canCh n := rfl

/-- The verdict on CMD windows leaves the open window as it is. -/
theorem sbJudge_win (r : Regs) (n col : Nat) (d : Dev) (hn : n < d.can.ch.length) :
    ((sbJudge r n col d).canCh n).win = (d.canCh n).win := by
  unfold sbJudge
  extract_lets c row last
  split
  · rw [silentWatch_canCh, modCan_canCh_self n _ d hn]
  · rfl

/-- A closed window is none. -/
theorem sbClose_win (r : Regs) (n : Nat) (d : Dev) (hn : n < d.can.ch.length) : ((sbClose r n d).canCh n).win = none := by
  have hif (c : Prop) [Decidable c] (a b : Dev) (ha : n < a.can.ch.length) (hb : n < b.can.ch.length) :
      n < (if c then a else b).can.ch.length := by
    split
    · exact ha
    · exact hb
  unfold sbClose
  extract_lets c
  split
  next hw => exact hw
  next w hw =>
    extract_lets missed d1 d2 d3 d4
    have h1 : n < d1.can.ch.length := hif _ _ _ (by simpa using hn) hn
    have h2 : n < d2.can.ch.length := hif _ _ _ (by simpa using h1) h1
    have h3 : n < d3.can.ch.length := by simpa [d3] using h2
    have h4 : n < d4.can.ch.length := hif _ _ _ (by simpa using h3) h3
    rw [sbJudge_win r n _ _ (by simpa using h4), modCan_canCh_self n _ d4 h4]

/-- A set that has not been committed does not come into force. -/
theorem sbApply_none (r : Regs) (n : Nat) (d : Dev) (h : (r.head (0x18 + n)).pend = false) : sbApply r n d = (r, d) := by
  unfold sbApply
  rw [h]
  rfl

/-- A frame put in transmission leaves the rest of the channel. -/
theorem canDrive_canCh (r : Regs) (n b k : Nat) (e : CanElem) (d : Dev) (hn : n < d.can.ch.length) :
    ∃ x l, (canDrive r n b k e d).canCh n = { d.canCh n with sending := x, cancelLate := l } :=
  ⟨_, _, modCan_canCh_self n _ d hn⟩

/-! ### The four commands -/

/-- The device of a master with its next basic cycle begun. -/
def nextCycle (r : Regs) (n : Nat) (d : Dev) : Dev :=
  modCan n (fun c => { c with sb := .run, master := true, refJ := c.refJ + 1 })
    (sbBegin n (((d.canCh n).cycle + 1) % sbRows r n) d.now true d)

theorem sbRefLaunch_master (n : Nat) (r : Regs) (d : Dev) (hon : canOn r d n = true) (hsb : (d.canCh n).sb ≠ .off)
    (hdue : sbDue r n d = true) (him : sbIsMaster r n d = true) (hm : (d.canCh n).master = true) (hw : (d.canCh n).win = none)
    (hp : (r.head (0x18 + n)).pend = false) :
    sbRefLaunch n r d = (r, nextCycle r n d) ∨ ∃ b e, sbRefLaunch n r d = (r, canDrive r n b 2 e (nextCycle r n d)) := by
  have hoff : ((d.canCh n).sb == SbState.off) = false := by simpa using hsb
  unfold sbRefLaunch
  rw [sbRole_keeps r n d fun _ => him]
  simp only [hon, hoff, hdue, him, hm, sbClose_none r n d hw, sbApply_none r n d hp, Bool.not_true, Bool.or_self, Bool.false_and,
    Bool.false_eq_true, if_false, if_true]
  change (if _ then _ else _) = _ ∨ _
  split
  · exact .inr ⟨_, _, rfl⟩
  · exact .inl rfl

theorem within_nextCycle (r : Regs) (n : Nat) (d : Dev) : Within [.can] (nextCycle r n d) d :=
  ((within_modCan n _ _).trans (within_modCan n _ d)).mono (by simp)

@[simp] theorem nextCycle_length (r : Regs) (n : Nat) (d : Dev) : (nextCycle r n d).can.ch.length = d.can.ch.length := by
  simp [nextCycle, sbBegin]

theorem nextCycle_canCh (r : Regs) (n : Nat) (d : Dev) (hn : n < d.can.ch.length) :
    (nextCycle r n d).canCh n = { d.canCh n with
      cycle := ((d.canCh n).cycle + 1) % sbRows r n, refTick := some d.now, colNext := 0, occNow := false, refOk := true, win := none
      dbAge := (d.canCh n).dbAge.map fun a => min 255 (a + 1), sb := .run, master := true, refJ := (d.canCh n).refJ + 1 } := by
  rw [nextCycle, modCan_canCh_self n _ _ (by simpa [sbBegin] using hn), sbBegin, modCan_canCh_self n _ d hn]

/-- Type and buffer of the next column's cell. -/
def nextCell (r : Regs) (n : Nat) (d : Dev) : Nat × Nat := sbCell r n ((d.canCh n).cycle % sbRows r n) (d.canCh n).colNext

/-- The device with the next column of the basic cycle open. -/
def columnOpen (r : Regs) (n : Nat) (frame : CanCh → Option CanElem) (d : Dev) : Dev :=
  modCan n (fun c => { c with
    colNext := (d.canCh n).colNext + 1
    win := some { col := (d.canCh n).colNext, type := (nextCell r n d).1, buf := (nextCell r n d).2, frame := frame c } }) d

/-- The frame of the next column: that of its buffer where the cell sends. -/
def columnFrame (r : Regs) (n : Nat) (d : Dev) (c : CanCh) : Option CanElem :=
  let ty := (nextCell r n d).1
  if ty == 2 || ty == 3 || (ty == 1 && d.sendsCmd) then some (at' c.tx (nextCell r n d).2) else none

theorem glbTry_notWaiting (r : Regs) (d : Dev) (h : d.pair.glb ≠ .waiting) : glbTry r d = d := by
  refine if_neg fun hc => h ?_
  simpa using (Bool.and_eq_true_iff.1 hc).1

theorem sbWindowStart_opens (n t : Nat) (r : Regs) (d : Dev) (hon : canOn r d n = true) (hsb : (d.canCh n).sb = .run)
    (hok : (d.canCh n).refOk = true) (hrole : (d.canCh n).master = true → sbIsMaster r n d = true) (hw : (d.canCh n).win = none)
    (ht : (d.canCh n).refTick = some t) (hk : (d.canCh n).colNext < sbCols r n)
    (hnow : t + 250 * sbStart r n (d.canCh n).colNext ≤ d.now) (hg : d.pair.glb ≠ .waiting) :
    sbWindowStart n r d = canStart r n (columnOpen r n (columnFrame r n d) d) := by
  have hpair : (canStart r n (columnOpen r n (columnFrame r n d) d)).pair.glb ≠ .waiting := by
    have h := ((within_canStart r n (columnOpen r n (columnFrame r n d) d)).trans (within_modCan n _ d)).agree .pair (by simp)
    rwa [show (canStart r n (columnOpen r n (columnFrame r n d) d)).pair = d.pair from h]
  rw [← glbTry_notWaiting r _ hpair]
  unfold sbWindowStart
  rw [sbRole_keeps r n d hrole]
  simp [ht, hon, hsb, hok, sbClose_none r n d hw, Nat.not_le.2 hk, Nat.not_lt.2 hnow, columnOpen, columnFrame, nextCell]

theorem columnOpen_canCh (r : Regs) (n : Nat) (e : CanCh → Option CanElem) (d : Dev) (hn : n < d.can.ch.length) :
    (columnOpen r n e d).canCh n = { d.canCh n with
      colNext := (d.canCh n).colNext + 1
      win := some { col := (d.canCh n).colNext, type := (nextCell r n d).1, buf := (nextCell r n d).2, frame := e (d.canCh n) } } :=
  modCan_canCh_self n _ d hn

theorem sbWindowEnd_ended (n t : Nat) (w : SbWin) (r : Regs) (d : Dev) (hw : (d.canCh n).win = some w) (ht : (d.canCh n).refTick = some t)
    (he : sbEnd r n w.col t ≤ d.now) : sbWindowEnd n r d = sbClose r n d := by
  simp [sbWindowEnd, hw, ht, he]

theorem sbRefMiss_missed (n t : Nat) (r : Regs) (d : Dev) (hon : canOn r d n = true) (hsb : (d.canCh n).sb = .run)
    (hm : (d.canCh n).master = false) (hw : (d.canCh n).win = none) (ht : (d.canCh n).refTick = some t)
    (hlate : t + 250 * r.on F.CAN_SB_LEN_BC_LEN n + 250 * r.on F.CAN_SB_COL_TOL n 0 < d.now) :
    sbRefMiss n r d = sbBegin n (((d.canCh n).cycle + 1) % sbRows r n) (t + 250 * r.on F.CAN_SB_LEN_BC_LEN n) false (sbMiss n d) := by
  unfold sbRefMiss
  rw [sbRole_keeps r n d (by simp [hm])]
  simp [ht, hon, hsb, hm, hlate, sbClose_none r n d hw]

/-- Settles O7: what each command comes to under its clause's conditions, and the channel after it. -/
theorem storyboardBasicCycle : Obligations.StoryboardBasicCycle := by
  unfold Obligations.StoryboardBasicCycle
  refine ⟨fun s ch hon hch hsb hdue him hm hw hp => ?_, fun s ch t hon hch hsb hok hrole hw ht hk hnow hg => ?_,
    fun s ch t w hch hw ht he _ => ?_, fun s ch t hon hch hsb hm hw ht hlate => ?_⟩
  · refine ⟨_, onRegs_next s (sbRefLaunch ch), ?_⟩
    have hcycle := nextCycle_canCh s.regs ch s.dev.quiet hch
    rcases sbRefLaunch_master ch s.regs s.dev.quiet hon hsb hdue him hm hw hp with h | ⟨b, e, h⟩
    · rw [h]
      refine ⟨(within_nextCycle _ _ _).onlyParts (by simp), ?_⟩
      rw [settle_canCh, hcycle]
      exact ⟨rfl, rfl, rfl, rfl, rfl⟩
    · rw [h]
      refine ⟨((within_modCan ch _ _).trans (within_nextCycle _ _ _)).onlyParts (by simp), ?_⟩
      obtain ⟨x, l, hx⟩ := canDrive_canCh s.regs ch b 2 e (nextCycle s.regs ch s.dev.quiet) (by simpa using hch)
      rw [settle_canCh, hx, hcycle]
      exact ⟨rfl, rfl, rfl, rfl, rfl⟩
  · intro x
    refine ⟨_, onDev_next s (sbWindowStart ch), ?_⟩
    rw [sbWindowStart_opens ch t s.regs s.dev.quiet hon hsb hok hrole hw ht hk hnow hg]
    refine ⟨((within_canStart _ _ _).trans (within_modCan ch _ _)).onlyParts (by simp), ?_⟩
    obtain ⟨y, l, hy⟩ := canStart_canCh s.regs ch (columnOpen s.regs ch (columnFrame s.regs ch s.dev.quiet) s.dev.quiet) (by simpa [columnOpen] using hch)
    rw [settle_canCh, hy, columnOpen_canCh s.regs ch _ s.dev.quiet hch]
    exact ⟨rfl, _, rfl, rfl, rfl, rfl⟩
  · refine ⟨_, onDev_next s (sbWindowEnd ch), rfl, rfl, ?_⟩
    rw [settle_canCh, sbWindowEnd_ended ch t w s.regs s.dev.quiet hw ht he]
    exact sbClose_win s.regs ch s.dev.quiet hch
  · refine ⟨_, onDev_next s (sbRefMiss ch), ?_⟩
    rw [sbRefMiss_missed ch t s.regs s.dev.quiet hon hsb hm hw ht hlate]
    refine ⟨((within_modCan ch _ _).trans ((within_raise _ _ _).trans (within_modCan ch _ _))).onlyParts (by simp), ?_⟩
    rw [settle_canCh, sbBegin, modCan_canCh_self ch _ _ (by simpa [sbMiss] using hch), sbMiss, raise_canCh,
      modCan_canCh_self ch _ s.dev.quiet hch]
    exact ⟨rfl, rfl, rfl⟩

end Sys2Proof
end

section
/-! PROOFS. The host interface [19 R554 R558 R559 R561 to R563 R566 R588]: page headers, LOCK, FREEZE, commit and discard,
interrupt bits and messages. -/

namespace Sys2Proof

open Sys2Proof.Machine

/-! ### Commands on the whole state -/

/-- The frame of a command whose function on the state changes given parts of the device. -/
theorem onlyParts_state {l m : List Part} {s t : State} (hregs : t.regs = s.regs) (hmem : t.mem = s.mem) (hfrozen : t.frozen = s.frozen)
    (hpending : t.pending = s.pending) (h : Within m t.dev s.dev) (hm : m ⊆ .irq :: .hst :: l) :
    OnlyParts l s { t with dev := settle t.regs t.dev } := by
  refine ⟨hregs, hmem, hfrozen, hpending, (settle_now _ _).trans h.now, fun p hp => agreeAt_trans (settle_agree _ _ p ?_) (h.keeps p ?_)⟩
  · exact fun hc => hp (by rcases List.mem_cons.1 hc with rfl | hc <;> simp_all)
  · exact fun hc => hp (hm hc)

theorem within_quiet (d : Dev) : Within [] d.quiet d := ⟨rfl, fun p _ => agreeAt_quiet d p⟩

/-- The state at which the host's command on a page acts: an access has arrived. -/
def served (s : State) : State := { s with dev := { s.dev.quiet with hst := { s.dev.hst with lastAt := s.dev.now, timedOut := false } } }

theorem within_served (s : State) : Within [.hst] (served s).dev s.dev := ((within_hst _ _).trans (within_quiet s.dev)).mono (by simp)

/-- A host command on a page that the device serves. -/
theorem hostPage_next (p : Nat) (f : State → State) (s : State) (h : HostServes s.dev p) :
    hostPage p f s = .next { f (served s) with dev := settle (f (served s)).regs (f (served s)).dev } := by
  obtain ⟨hs, hb, ha⟩ := h
  have hcond : (serves s.dev.quiet .qspi (p * 4096) && (pageBlock p).isSome && !(pageAbsent s.dev.quiet p)) = true := by
    rw [show serves s.dev.quiet .qspi (p * 4096) = true from hs, hb, show pageAbsent s.dev.quiet p = false from ha]
    rfl
  rw [hostPage, onState_next]
  simp only [hcond, if_true]
  rfl

/-! ### Page headers -/

theorem modHead_head_self (r : Regs) (p : Nat) (f : PageHdr → PageHdr) (h : p < r.hdr.length) : (r.modHead p f).head p = f (r.head p) :=
  at'_modAt_self _ _ _ h

theorem modHead_head_other (r : Regs) (p q : Nat) (f : PageHdr → PageHdr) (h : q ≠ p) : (r.modHead p f).head q = r.head q :=
  at'_modAt_other _ _ _ _ h.symm

/-- A page whose lock is open is there. -/
theorem hdr_lt_of_lockAt (r : Regs) (p t : Nat) (h : (r.head p).lockAt = some t) : p < r.hdr.length := by
  by_contra hn
  rw [Regs.head, at'_of_length_le _ _ (Nat.not_lt.1 hn)] at h
  exact nomatch (h : (none : Option Nat) = some t)

/-- Messages change page HST in its pending-bit array alone. -/
theorem settle_hst (r : Regs) (d : Dev) : ∃ p, (settle r d).hst = { d.hst with pba := p } := by
  obtain ⟨o, p, h⟩ := settle_shape r d
  exact ⟨p, by rw [h]⟩

/-- The frame of a command that changes one page header. -/
theorem onlyParts_served {s t : State} (hmem : t.mem = s.mem) (hfrozen : t.frozen = s.frozen) (hpending : t.pending = s.pending)
    (hdev : t.dev = (served s).dev) : OnlyParts [] { s with regs := t.regs } { t with dev := settle t.regs t.dev } :=
  onlyParts_state (s := { s with regs := t.regs }) rfl hmem hfrozen hpending (hdev ▸ within_served s) (by simp)

/-- Settles O9: each command changes the header of its page, FREEZE the captures too, and DISCARD the shadow copies. -/
theorem pageHeaderCommands : Obligations.PageHeaderCommands := by
  unfold Obligations.PageHeaderCommands
  refine ⟨fun s p v hs hp => ?_, fun s p t0 ht0 hnow => ?_, fun s p hs hp => ?_, fun s p on hs hp => ?_, fun s p hs h5 hp => ?_⟩
  · refine ⟨_, hostPage_next p (lockKey p v) s hs, onlyParts_served rfl rfl rfl rfl, rfl, rfl, fun hv n => ?_, fun hv n => ?_,
      fun q hq => modHead_head_other _ _ _ _ hq⟩
    · simp [lockKey, Regs.lockOpen, served, modHead_head_self _ _ _ hp, hv]
    · simp [lockKey, Regs.lockOpen, served, modHead_head_self _ _ _ hp, hv]
  · have hclosed : s.regs.lockOpen p s.dev.now = false := by simp [Regs.lockOpen, ht0, Nat.not_lt.2 hnow]
    have hexec : exec (.lockExpire p) s = onState s fun s =>
        if s.regs.lockOpen p s.dev.now then s else { s with regs := s.regs.modHead p fun h => { h with lockAt := none } } := rfl
    simp only [hexec, onState_next, quiet_now, hclosed, Bool.false_eq_true, if_false]
    refine ⟨_, rfl, ?_, rfl, rfl, modHead_head_self _ _ _ (hdr_lt_of_lockAt _ _ _ ht0), fun q hq => modHead_head_other _ _ _ _ hq⟩
    exact onlyParts_state (l := []) (m := []) (s := { s with regs := _ }) (t := { s with regs := _, dev := s.dev.quiet }) rfl rfl rfl rfl
      (within_quiet s.dev) (by simp)
  · exact ⟨_, hostPage_next p (clearRejected p) s hs, onlyParts_served rfl rfl rfl rfl, rfl, rfl, modHead_head_self _ _ _ hp,
      fun q hq => modHead_head_other _ _ _ _ hq⟩
  · refine ⟨_, hostPage_next p (freezePage p on) s hs, ?_, rfl, rfl, modHead_head_self _ _ _ hp, fun q hq => modHead_head_other _ _ _ _ hq,
      fun hon => ?_, fun hoff e he => ?_, fun e hne => ?_⟩
    · exact onlyParts_state (l := []) (s := { s with regs := (freezePage p on (served s)).regs, frozen := (freezePage p on (served s)).frozen })
        rfl rfl rfl rfl (within_served s) (by simp)
    · refine ⟨(served s).dev.quiet, ?_, fun q hq => agreeAt_trans (agreeAt_quiet _ q) ((within_served s).agree q (by simpa using hq))⟩
      simp [freezePage, hon, served]
    · have hmem : e ∈ s.frozen ∧ ¬ e.1 = p := by simpa [freezePage, hoff, served] using he
      exact hmem.2
    · cases on <;> simp [freezePage, served, hne]
      exact fun h => absurd (congrArg Prod.fst h) hne
  · have hdisc : discardPage p (served s) = { served s with
        regs := ({ s.regs with shd := s.regs.shd.filter fun (e : Nat × Nat) => !(keyPage e.1 == p) }).modHead p
          fun h => { h with buf := [], pend := false } } := by
      have habs : pageAbsent (served s).dev p = false := hs.2.2
      simp only [discardPage, habs, Bool.false_eq_true, if_false, h5]
      rfl
    refine ⟨_, hostPage_next p (discardPage p) s hs, ?_⟩
    rw [hdisc]
    refine ⟨onlyParts_served rfl rfl rfl rfl, rfl, modHead_head_self _ _ _ hp, fun q hq => modHead_head_other _ _ _ _ hq, fun e => ?_⟩
    simp [Regs.modHead]

/-! ### Commits -/

/-- The rules that a commit checks do not read page HST. -/
theorem conflictAt_served (r : Regs) (s : State) (p : Nat) : conflictAt r (served s).dev p = conflictAt r s.dev p := rfl

theorem commitPage_conflict (p o : Nat) (s : State) (hb : hasB p = true) (ha : pageAbsent s.dev p = false)
    (hc : conflictAt (committed s.regs p) s.dev p = some o) : commitPage p s = { s with regs := s.regs.reject p o 8 } := by
  simp only [commitPage, hb, ha, hc, Bool.not_true, Bool.or_self, Bool.false_eq_true, if_false]

theorem commitPage_buffered (p : Nat) (s : State) (hb : hasB p = true) (ha : pageAbsent s.dev p = false) (h5 : p ≠ 5)
    (hc : conflictAt (committed s.regs p) s.dev p = none) (hen : s.regs.en p = true) :
    commitPage p s = { s with regs := s.regs.modHead p fun h => { h with buf := ofPage p s.regs.shd, pend := true } } := by
  simp [commitPage, hb, ha, hc, h5, hen]

/-- What a commit's boundary does to a page whose fields come into force together. -/
theorem commitApply_whole (p idx : Nat) (r : Regs) (d : Dev) (hp : p = 0x0C ∨ p = 0x0D ∨ p = 0x0E ∨ p = 0x2C)
    (hr : d.mde.dstate ≠ .reset) (hpend : (r.head p).pend = true) :
    commitApply p idx r d = ((applyCommit r p fun _ => true).1, d) := by
  have habs : pageAbsent d p = false := by rcases hp with rfl | rfl | rfl | rfl <;> simp [pageAbsent]
  have hreset : (d.mde.dstate == .reset) = false := by simpa using hr
  unfold commitApply
  rw [habs, hpend, hreset]
  rcases hp with rfl | rfl | rfl | rfl <;> simp

/-- The registers once the whole commit buffer of a page is in force. -/
theorem applyCommit_whole (r : Regs) (p : Nat) (hpend : (r.head p).pend = true) :
    (applyCommit r p fun _ => true).1.act = (r.apply (r.head p).buf keyReset).act ∧
      (applyCommit r p fun _ => true).1.hdr = modAt r.hdr p fun h => { h with buf := [], pend := false, gen := wrapInc 32 h.gen } := by
  simp [applyCommit, hpend, Regs.modHead, Regs.apply]

/-- A value put at one key leaves what another key reads, whatever it reads where it is not listed. -/
theorem sget_sput_key (l : List (Nat × Nat)) (k j v e d : Nat) (h : k ≠ j) : sget (sput l k v e) j d = sget l j d := by
  unfold sput
  split
  · exact sget_sdel_other l k j d h
  · exact sget_sins_other l k j v d h

/-- Values put at other keys leave a key's value. -/
theorem sget_foldl_sput_other (l : List (Nat × Nat)) (rst : Nat → Nat) (a : List (Nat × Nat)) (k d : Nat) (h : ∀ e ∈ l, e.1 ≠ k) :
    sget (l.foldl (fun a e => sput a e.1 e.2 (rst e.1)) a) k d = sget a k d := by
  induction l generalizing a with
  | nil => rfl
  | cons e t ih =>
    rw [List.foldl_cons, ih _ fun x hx => h x (List.mem_cons_of_mem _ hx)]
    exact sget_sput_key a e.1 k e.2 _ d (h e List.mem_cons_self)

/-- Settles O10: the two outcomes of COMMIT, and the whole buffer put into the active values. -/
theorem commitBuffersThenApplies : Obligations.CommitBuffersThenApplies := by
  unfold Obligations.CommitBuffersThenApplies
  refine ⟨fun s p o hs hb hc => ?_, fun s p hs hb h5 hp hc hen => ?_, fun s p idx hpage hr hp hpend => ?_⟩
  · refine ⟨_, hostPage_next p (commitPage p) s hs, ?_⟩
    rw [commitPage_conflict p o (served s) hb hs.2.2 ((conflictAt_served _ s p).trans hc)]
    exact ⟨onlyParts_served rfl rfl rfl rfl, rfl⟩
  · refine ⟨_, hostPage_next p (commitPage p) s hs, ?_⟩
    rw [commitPage_buffered p (served s) hb hs.2.2 h5 ((conflictAt_served _ s p).trans hc) hen]
    exact ⟨onlyParts_served rfl rfl rfl rfl, rfl, rfl, modHead_head_self _ _ _ hp, fun q hq => modHead_head_other _ _ _ _ hq⟩
  · refine ⟨_, onRegs_next s (commitApply p idx), ?_⟩
    rw [commitApply_whole p idx s.regs s.dev.quiet hpage hr hpend]
    obtain ⟨hact, hhdr⟩ := applyCommit_whole s.regs p hpend
    have hhead (q : Nat) : (applyCommit s.regs p fun _ => true).1.head q =
        (s.regs.modHead p fun h => { h with buf := [], pend := false, gen := wrapInc 32 h.gen }).head q := congrArg (at' · q) hhdr
    simp only [hhead, modHead_head_self _ _ _ hp, hact]
    refine ⟨?_, trivial, trivial, rfl, fun q hq => modHead_head_other _ _ _ _ hq, fun k d hk => sget_foldl_sput_other _ _ _ _ _ hk,
      fun k v hbuf => ?_⟩
    · exact onlyParts_quiet [] { s with regs := (applyCommit s.regs p fun _ => true).1 } _
    · rw [hbuf]
      exact sget_sput_self _ _ _ _

/-! ### Interrupt bits and messages -/

/-- A conjunction of bits is no more than the number, and its lowest bit is set where both are. -/
theorem and_le_and_low (x v : Nat) : x &&& v ≤ x ∧ ((x &&& v) % 2 = 1 ↔ x % 2 = 1 ∧ v % 2 = 1) :=
  ⟨Nat.and_le_left, by simpa only [Nat.testBit_zero, ← Bool.decide_and, decide_eq_decide] using Nat.testBit_and x v 0⟩

/-- A number with the bits of another cleared. -/
theorem testBit_sub_and (x v i : Nat) : (x - (x &&& v)).testBit i = (x.testBit i && !(v.testBit i)) := by
  induction i generalizing x v with
  | zero =>
    obtain ⟨hle, hlow⟩ := and_le_and_low x v
    simp only [Nat.testBit_zero, ← decide_not, ← Bool.decide_and]
    exact decide_eq_decide.2 (by omega)
  | succ i ih =>
    have hhalf : (x - (x &&& v)) / 2 = x / 2 - (x / 2 &&& v / 2) := by
      obtain ⟨hle, hlow⟩ := and_le_and_low x v
      rw [← Nat.and_div_two]
      omega
    simp only [Nat.testBit_succ, hhalf]
    exact ih _ _

theorem within_irqRaw (d : Dev) (l : List Nat) : Within [.irq] { d with irq := { d.irq with raw := l } } d := within_irq d _

theorem sendVec_emits (v lo hi data : Nat) (d : Dev) (hm : d.hst.msix = true) (hb : d.hst.bme = true) (hf : d.hst.fnMask = false)
    (he : d.hst.table.getD v (0, 0, 0, 1) = (lo, hi, data, 0)) : sendVec v d = emit (.msix v (lo + hi * 2 ^ 32) data) d := by
  simp only [sendVec, hm, hb, hf, he]
  rfl

theorem hostTimeout_due (r : Regs) (d : Dev) (hr : d.running = true) (hm : r.get F.HST_TIMEOUT_MS ≠ 0) (ht : d.hst.timedOut = false)
    (hn : d.hst.lastAt + 250000 * r.get F.HST_TIMEOUT_MS ≤ d.now) :
    hostTimeout r d = record r .hostTimeout {} (raise 4 3 { d with hst := { d.hst with timedOut := true } }) := by
  simp [hostTimeout, hr, hm, ht, ticksMs, hn]

/-- Settles O11. -/
theorem interruptBitsAndMessages : Obligations.InterruptBitsAndMessages := by
  unfold Obligations.InterruptBitsAndMessages
  refine ⟨fun s p v hs hp => ?_, fun s p v hs hp => ?_, fun s v lo hi data hs hv hm hb hf he => ?_, fun s hr hms ht hraw hn => ?_⟩
  · refine ⟨_, hostPage_next p (devS fun _ d => irqClear p v d) s hs, ?_, fun i => ?_, fun q hq => ?_⟩
    · exact onlyParts_state rfl rfl rfl rfl ((within_irqRaw (served s).dev _).trans (within_served s)) (by simp)
    · rw [settle_raw]
      exact (congrArg (Nat.testBit · i) (at'_modAt_self s.dev.irq.raw p _ hp)).trans (testBit_sub_and _ v i)
    · rw [settle_raw]
      exact at'_modAt_other s.dev.irq.raw _ _ _ hq.symm
  · refine ⟨_, hostPage_next p (devS fun _ d => irqForceBits p v d) s hs, ?_, fun i => ?_, fun q hq => ?_⟩
    · exact onlyParts_state rfl rfl rfl rfl ((within_irqRaw (served s).dev _).trans (within_served s)) (by simp)
    · rw [settle_raw]
      refine (congrArg (Nat.testBit · i) (at'_modAt_self s.dev.irq.raw p _ hp)).trans ?_
      rw [Nat.testBit_or, Nat.testBit_mod_two_pow, Bool.and_comm]
    · rw [settle_raw]
      exact at'_modAt_other s.dev.irq.raw _ _ _ hq.symm
  · refine ⟨_, hostPage_next 3 (devS fun r d => if (vecPend r d).testBit (v % 32) then sendVec (v % 32) d else d) s hs, ?_⟩
    have hsend : (if (vecPend (served s).regs (served s).dev).testBit (v % 32) then sendVec (v % 32) (served s).dev else (served s).dev) =
        emit (.msix (v % 32) (lo + hi * 2 ^ 32) data) (served s).dev :=
      (if_pos hv).trans (sendVec_emits _ lo hi data (served s).dev hm hb hf he)
    rw [devS, hsend]
    refine ⟨onlyParts_state rfl rfl rfl rfl ((within_emit _ (served s).dev).trans (within_served s)) (by simp), by rw [settle_raw]; rfl, ?_⟩
    exact mem_settle_out _ _ _ (mem_emit_self _ _)
  · refine ⟨_, onDev_next s hostTimeout, ?_⟩
    rw [hostTimeout_due s.regs s.dev.quiet hr hms ht hn]
    refine ⟨onlyParts_state (s := s) (t := { s with dev := record s.regs .hostTimeout {} (raise 4 3 { s.dev.quiet with
      hst := { s.dev.hst with timedOut := true } }) }) rfl rfl rfl rfl
      ((within_record _ _ _ _).trans ((within_raise _ _ _).trans ((within_hst s.dev.quiet _).trans (within_quiet s.dev)))) (by simp), ?_, ?_⟩
    · obtain ⟨p, h⟩ := settle_hst s.regs (record s.regs .hostTimeout {} (raise 4 3 { s.dev.quiet with hst := { s.dev.hst with timedOut := true } }))
      exact (congrArg HstSt.timedOut h).trans (congrArg HstSt.timedOut (record_hst _ _ _ _))
    · rw [settle_raw, record_raw_other _ _ _ _ _ (by decide)]
      exact raise_testBit_self _ _ _ hraw

end Sys2Proof
end

section
/-! PROOFS. The host's accesses [00 R10, 19 R546 R549 R551 R552 R556 R557]: register words, memory windows, transfers and
latches. -/

namespace Sys2Proof

open Sys2Proof.Machine

/-- The state once an access has arrived at a port. -/
def touched (port : Port) (s : State) : State := devS (fun _ d => touch port d) { s with dev := s.dev.quiet }

theorem within_touched (port : Port) (s : State) : Within [.hst] (touched port s).dev s.dev :=
  ((within_hst _ _).trans (within_quiet s.dev)).mono (by simp)

/-! ### A word of page HST -/

theorem placesAt_hostTimeout : placesAt 4 0x50 = [{ fd := F.HST_TIMEOUT_MS, inst := 0, arr := 0 }] := by decide

/-- The field takes every value of its width, on both grades and without the lock. -/
theorem hostTimeout_field (d : Dev) (v : Nat) :
    F.HST_TIMEOUT_MS.writable = true ∧ F.HST_TIMEOUT_MS.lock = false ∧ F.HST_TIMEOUT_MS.cls = .L ∧ F.HST_TIMEOUT_MS.act = false ∧
      F.HST_TIMEOUT_MS.acc = .RW ∧ F.HST_TIMEOUT_MS.onGrade d v = true ∧ F.HST_TIMEOUT_MS.inRange v = true ∧
      F.HST_TIMEOUT_MS.of v = v % 65536 :=
  ⟨rfl, rfl, rfl, rfl, rfl, Bool.or_true _, rfl, by simp [Fd.of, bits, F.HST_TIMEOUT_MS]⟩

/-- A write of HST_TIMEOUT stores its field: no rule and no lock stands against it. -/
theorem blockWrite_hostTimeout (port : Port) (v : Nat) (s : State) :
    blockWrite port 4 0x50 v s = { s with regs := s.regs.put F.HST_TIMEOUT_MS (v % 65536) } := by
  have hwin : winAt 4 0x50 = none := by decide
  have hblock : pageBlock 4 = some (4, 1) := by decide
  have hpair : pairOf 4 0x50 = none := rfl
  have hrule (d : Dev) (k : Nat) : wordRule d 4 0x50 v k = 0 := by simp [wordRule]
  obtain ⟨hw, hlock, hcls, hact, hacc, -, -, -⟩ := hostTimeout_field s.dev v
  have hval (u : Nat) := (hostTimeout_field s.dev u).2.2.2.2.2
  have haction (t : State) : action port 4 0 0x50 v 0 t = t := rfl
  simp [blockWrite, placesAt_hostTimeout, hblock, hpair, selected, hwin, refusal, hrule, diagReg, hw, hlock, hcls, hact, hacc, hval,
    haction, storeField, Place.put, Place.idx]

/-- The same write by its address. -/
theorem busWrite_hostTimeout (port : Port) (v : Nat) (s : State) (hs : serves s.dev port 0x4050 = true) :
    busWrite port 0x4050 v 15 { s with dev := s.dev.quiet } =
      { touched port s with regs := s.regs.put F.HST_TIMEOUT_MS (v % 65536) } := by
  have hserves : serves s.dev.quiet port 0x4050 = true := hs
  have hpage : pageWrite port 4 0x50 (v % 2 ^ 32) (touched port s) = blockWrite port 4 0x50 (v % 2 ^ 32) (touched port s) := by
    have hblock : (pageBlock 4).isNone = false := by decide
    simp [pageWrite, hblock, pageAbsent]
  simp only [busWrite, hserves, Bool.not_true, Bool.false_eq_true, if_false]
  change pageWrite port 4 0x50 (v % 2 ^ 32) (touched port s) = _
  rw [hpage, blockWrite_hostTimeout, Nat.mod_mod_of_dvd v (by decide : 65536 ∣ 2 ^ 32)]
  rfl

/-! ### Words of the device map -/

/-- An access outside the map is counted, kept and raised. -/
theorem busWrite_unmapped (port : Port) (a v : Nat) (s : State) (hs : serves s.dev port a = true) (hr : region a = .unmapped) :
    busWrite port a v 15 { s with dev := s.dev.quiet } = devS (fun _ d => unmappedAccess port a d) (touched port s) := by
  have hserves : serves s.dev.quiet port a = true := hs
  simp only [busWrite, hserves, hr, Bool.not_true, Bool.false_eq_true, if_false]
  rfl

theorem within_unmappedAccess (port : Port) (a : Nat) (d : Dev) : Within [.irq, .hst] (unmappedAccess port a d) d :=
  ((within_raise _ _ _).trans (within_hst d _)).mono (by simp)

/-- A byte of the packet window is stored on a TW816. -/
theorem byteWrite_packet (x : Nat × Byte) (s : State) (hr : region x.1 = .packet) (hg : s.dev.tw812 = false) :
    byteWrite x s = { s with mem := Memory.write s.mem x.1 x.2 } := by
  simp [byteWrite, hr, hg]

/-- The bytes of a word in the packet window are stored one after another. -/
theorem foldl_byteWrite_packet (l : List (Nat × Byte)) (s : State) (hr : ∀ x ∈ l, region x.1 = .packet) (hg : s.dev.tw812 = false) :
    l.foldl (fun s x => byteWrite x s) s = { s with mem := l.foldl (fun m x => Memory.write m x.1 x.2) s.mem } := by
  induction l generalizing s with
  | nil => rfl
  | cons x t ih =>
    rw [List.foldl_cons, byteWrite_packet x s (hr x List.mem_cons_self) hg,
      ih { s with mem := Memory.write s.mem x.1 x.2 } (fun y hy => hr y (List.mem_cons_of_mem _ hy)) hg]
    rfl

theorem read_foldl_write_other (l : List (Nat × Byte)) (m : List Host.Cell) (b : Nat) (h : ∀ x ∈ l, x.1 ≠ b) :
    Memory.read (l.foldl (fun m x => Memory.write m x.1 x.2) m) b = Memory.read m b := by
  induction l generalizing m with
  | nil => rfl
  | cons x t ih =>
    rw [List.foldl_cons, ih _ fun y hy => h y (List.mem_cons_of_mem _ hy)]
    exact Memory.read_write_other m x.1 b x.2 (h x List.mem_cons_self)

/-- A byte written at an address that is written once is read there. -/
theorem read_foldl_write_mem (l : List (Nat × Byte)) (m : List Host.Cell) (x : Nat × Byte) (hx : x ∈ l)
    (hu : ∀ y ∈ l, y.1 = x.1 → y.2 = x.2) : Memory.read (l.foldl (fun m x => Memory.write m x.1 x.2) m) x.1 = x.2 := by
  induction l generalizing m with
  | nil => simp at hx
  | cons y t ih =>
    by_cases ht : ∃ z ∈ t, z.1 = x.1
    · obtain ⟨z, hz, hzx⟩ := ht
      have hz2 : z = x := Prod.ext hzx (hu z (List.mem_cons_of_mem _ hz) hzx)
      exact ih _ (hz2 ▸ hz) fun y hy => hu y (List.mem_cons_of_mem _ hy)
    · have hno : ∀ z ∈ t, z.1 ≠ x.1 := fun z hz he => ht ⟨z, hz, he⟩
      have hxy : x = y := (List.mem_cons.1 hx).resolve_right fun h => hno x h rfl
      rw [List.foldl_cons, read_foldl_write_other t _ _ hno, hxy]
      exact Memory.read_write_self m y.1 y.2

theorem mem_enabledBytes (a v be : Nat) (x : Nat × Byte) :
    x ∈ enabledBytes a v be ↔ ∃ i, i < 4 ∧ be.testBit i = true ∧ x = (a + i, BitVec.ofNat 8 (v / 256 ^ i)) := by
  simp only [enabledBytes, List.mem_map, List.mem_filter, List.mem_range]
  exact ⟨fun ⟨i, ⟨h4, hb⟩, he⟩ => ⟨i, h4, hb, he.symm⟩, fun ⟨i, h4, hb, he⟩ => ⟨i, ⟨h4, hb⟩, he.symm⟩⟩

/-- The other bytes of an aligned word of the packet window lie in it too. -/
theorem region_packet_word (a i : Nat) (ha : a % 4 = 0) (hi : i < 4) (h : region a = .packet) : region (a + i) = .packet := by
  have hrange : 0x04000000 ≤ a ∧ a < 0x04100000 := by
    unfold region at h
    split_ifs at h with _ _ _ _ _ _ hp
    exact hp
  obtain ⟨hlo, hhi⟩ := hrange
  have h1 : ¬ a + i < 0x40000 := by omega
  have h2 : ¬ (0x01000000 ≤ a + i ∧ a + i < 0x01000400) := by omega
  have h3 : ¬ (0x01010000 ≤ a + i ∧ a + i < 0x01020000) := by omega
  have h4 : ¬ (0x02000000 ≤ a + i ∧ a + i < 0x02420000) := by omega
  have h5 : ¬ (0x03000000 ≤ a + i ∧ a + i < 0x03100000) := by omega
  have h6 : ¬ (0x03100000 ≤ a + i ∧ a + i < 0x03200000) := by omega
  have h7 : 0x04000000 ≤ a + i ∧ a + i < 0x04100000 := by omega
  simp only [region, h1, h2, h3, h4, h5, h6, h7, if_false, if_true, and_self]

/-- A write request to the packet window of a TW816 whose link is up. -/
theorem pcieRequest_packet (a v be : Nat) (s : State) (hup : s.dev.hst.up = true) (hs : serves s.dev .pcie a = true)
    (hr : region a = .packet) (hg : s.dev.tw812 = false) (ha : a % 4 = 0) :
    pcieRequest [{ space := .map, write := true, addr := a, data := v, be := be }] { s with dev := s.dev.quiet } =
      { touched .pcie s with mem := (enabledBytes a v be).foldl (fun m x => Memory.write m x.1 x.2) s.mem } := by
  have hreset : (s.dev.mde.dstate == .reset) = false := by
    cases hd : s.dev.mde.dstate <;> simp_all [serves]
  have hserves : serves s.dev.quiet .pcie a = true := hs
  have hword : a / 4 * 4 = a := by omega
  have hbytes : ∀ x ∈ enabledBytes a v be, region x.1 = .packet := fun x hx => by
    obtain ⟨i, h4, -, rfl⟩ := (mem_enabledBytes a v be x).1 hx
    exact region_packet_word a i ha h4 hr
  simp only [pcieRequest, List.foldl_cons, List.foldl_nil, quiet_hst, quiet_mde, hup, hreset, Bool.not_false, Bool.and_self, if_true,
    pcieAccess, busWrite, hserves, hr, hword, Bool.not_true, Bool.false_eq_true, if_false]
  exact foldl_byteWrite_packet _ (touched .pcie s) hbytes hg

/-! ### Quad-SPI transfers -/

theorem serves_not_reset (d : Dev) (p : Port) (a : Nat) (h : serves d p a = true) :
    d.mde.dstate ≠ .reset ∧ d.mde.dorm ≠ .asleep ∧ d.mde.dorm ≠ .refresh := by
  simp only [serves, Bool.and_eq_true, Bool.not_eq_true', beq_eq_false_iff_ne] at h
  obtain ⟨⟨⟨-, ha⟩, hr⟩, hd⟩ := h
  exact ⟨fun hc => by simp [hc] at hd, ha, hr⟩

/-- The state once a transfer has begun: the access has arrived, and the settings of HST_SPI_CFG hold for it. -/
def spiBegun (s : State) : State :=
  devS (fun r d => { touch .qspi d with hst := { (touch .qspi d).hst with
    spiCfg := (r.get F.HST_SPI_CFG_DUMMY, r.bit F.HST_SPI_CFG_CRC_EN) } }) { s with dev := s.dev.quiet }

theorem within_spiBegun (s : State) : Within [.hst] (spiBegun s).dev s.dev :=
  ((within_hst _ _).trans ((within_hst s.dev.quiet _).trans (within_quiet s.dev))).mono (by simp)

/-- A transfer with a known command, at an aligned address, of whole words. -/
theorem qspiTransfer_begun (c a : Nat) (l : List QspiWord) (s : State) (hs : serves s.dev .qspi a = true) (ha : a % 4 = 0)
    (hlt : a < 2 ^ 32) (hc : c = 0xEB ∨ c = 0x38) :
    qspiTransfer { cmd := c, addr := a, words := l, cut := false } { s with dev := s.dev.quiet } =
      if c = 0xEB then spiRead (s.regs.bit F.HST_SPI_CFG_CRC_EN) a l (spiBegun s)
      else spiWrite (s.regs.bit F.HST_SPI_CFG_CRC_EN) a l (spiBegun s) := by
  obtain ⟨hr, hd, hf⟩ := serves_not_reset s.dev .qspi a hs
  have hguard : (s.dev.mde.dstate == .reset || s.dev.mde.dorm == .asleep || s.dev.mde.dorm == .refresh) = false := by simp [hr, hd, hf]
  have hcmd : ¬((c ≠ 0xEB ∧ c ≠ 0x38) ∨ a % 4 ≠ 0) := by omega
  simp only [qspiTransfer, quiet_mde, hguard, Nat.mod_eq_of_lt hlt, if_neg hcmd, Bool.false_eq_true, if_false]
  rfl

/-- A word of the microcode window is answered with its four bytes. -/
theorem busRead_ucode (a : Nat) (s : State) (hs : serves s.dev .qspi a = true) (hr : region a = .ucode) (ha : a % 4 = 0) :
    busRead .qspi a s = devS (fun _ d => emit (.read .qspi a (leNat (Memory.readBytes s.mem a 4))) (touch .qspi d)) s := by
  have hword : a / 4 * 4 = a := by omega
  have hsize : recordSize a = 0 := by simp [recordSize, hr]
  simp only [busRead, hs, hr, hword, memRead, hsize, memWord, Bool.not_true, Bool.false_eq_true, if_false, if_true]
  rfl

/-- The first word of a write fails its CRC. -/
theorem spiWrite_failed (a : Nat) (w : QspiWord) (l : List QspiWord) (s : State) (h : w.crc % 65536 ≠ spiCrc a (w.data % 2 ^ 32)) :
    spiWrite true a (w :: l) s =
      devS (fun _ d => raise 4 2 (hstErr .qspi 3 a { d with hst := { d.hst with spiCrc := wrapInc 8 d.hst.spiCrc } })) s := by
  have hne : (w.crc % 65536 != spiCrc a (w.data % 2 ^ 32)) = true := by simpa using h
  simp only [spiWrite, hne, Bool.and_self, if_true]

/-! ### Latches -/

/-- A latch holds what was put in it last. -/
theorem latchOf_latchPut (p : Port) (a v : Nat) (d : Dev) : latchOf (latchPut p a v d) p a = some v := by
  have hnone : (d.hst.latches.filter fun (e : Nat × Nat × Nat) => !(e.1 == portNum p && e.2.1 == a)).find?
      (fun (e : Nat × Nat × Nat) => e.1 == portNum p && e.2.1 == a) = none := by
    rw [List.find?_eq_none]
    intro e he hp
    have h := (List.mem_filter.1 he).2
    rw [hp] at h
    exact absurd h (by decide)
  rw [latchOf, latchPut, List.find?_append, hnone]
  simp

theorem latchOf_settle (r : Regs) (p : Port) (a : Nat) (d : Dev) : latchOf (settle r d) p a = latchOf d p a := by
  obtain ⟨q, h⟩ := settle_hst r d
  rw [latchOf, h]
  rfl

/-- A read of the low word of a time base latches its high word. -/
theorem busRead_timeBase (port : Port) (s : State) (hs : serves s.dev port (0x21 * 4096 + 0x90) = true)
    (hl : latchOf s.dev port (0x21 * 4096 + 0x90) = none) :
    busRead port (0x21 * 4096 + 0x90) { s with dev := s.dev.quiet } = devS (fun _ d =>
      emit (.read port (0x21 * 4096 + 0x90) (blockWord s 0x21 0x90 false))
        (latchPut port (0x21 * 4096 + 0x94) (blockWord s 0x21 0x94 false) d)) (touched port s) := by
  have hserves : serves s.dev.quiet port (0x21 * 4096 + 0x90) = true := hs
  have hlatch : latchOf (touched port s).dev port (0x21 * 4096 + 0x90) = none := hl
  have habs : pageAbsent (touched port s).dev 0x21 = false := by simp [pageAbsent]
  have hblock : pageBlock 0x21 = some (0x21, 1) := by decide
  have hread : regRead port 0x21 0x90 (touched port s) =
      (blockWord s 0x21 0x90 false, devS (fun _ d => latchPut port (0x21 * 4096 + 0x94) (blockWord s 0x21 0x94 false) d) (touched port s)) := by
    simp only [regRead, hblock, habs, hlatch]
    rfl
  simp only [busRead, hserves, Bool.not_true, Bool.false_eq_true, if_false]
  change devS (fun _ d => emit (.read port (0x21 * 4096 + 0x90) (regRead port 0x21 0x90 (touched port s)).1) d)
    (regRead port 0x21 0x90 (touched port s)).2 = _
  rw [hread]
  rfl

/-- Settles O12. -/
theorem hostAccesses : Obligations.HostAccesses := by
  unfold Obligations.HostAccesses
  refine ⟨fun s port v hs => ?_, fun s port a v hs hr hraw => ?_, fun s a v be hup hs hr hg ha => ?_, fun s a w hs hr ha hlt hcrc => ?_,
    fun s w l a hs ha hlt hcrc hne hraw => ?_, fun s port hs hl => ?_⟩
  · refine ⟨_, onState_next s (busWrite port 0x4050 v 15), ?_⟩
    rw [busWrite_hostTimeout port v s hs]
    refine ⟨onlyParts_state (s := { s with regs := _ }) rfl rfl rfl rfl (within_touched port s) (by simp), ?_, fun q d hq => ?_, rfl, rfl⟩
    · exact (sget_sput_self _ _ _ _).trans (Nat.mod_mod v 65536)
    · exact sget_sput_key _ _ _ _ _ _ (Ne.symm hq)
  · refine ⟨_, onState_next s (busWrite port a v 15), ?_⟩
    rw [busWrite_unmapped port a v s hs hr]
    obtain ⟨p, h⟩ := settle_hst s.regs (unmappedAccess port a (touched port s).dev)
    refine ⟨onlyParts_state rfl rfl rfl rfl ((within_unmappedAccess port a _).trans (within_touched port s)) (by simp),
      congrArg HstSt.unmapped h, congrArg HstSt.lastErr h, ?_⟩
    rw [settle_raw]
    exact raise_testBit_self _ _ _ hraw
  · refine ⟨_, onState_next s (pcieRequest _), ?_⟩
    rw [pcieRequest_packet a v be s hup hs hr hg ha]
    refine ⟨onlyParts_state (s := { s with mem := _ }) rfl rfl rfl rfl (within_touched .pcie s) (by simp), fun i h4 hb => ?_, fun b hb => ?_⟩
    · refine read_foldl_write_mem _ s.mem (a + i, BitVec.ofNat 8 (v / 256 ^ i)) ((mem_enabledBytes a v be _).2 ⟨i, h4, hb, rfl⟩) fun y hy he => ?_
      obtain ⟨j, -, -, rfl⟩ := (mem_enabledBytes a v be y).1 hy
      rw [Nat.add_left_cancel he]
    · refine read_foldl_write_other _ _ _ fun x hx => ?_
      obtain ⟨i, h4, hbit, rfl⟩ := (mem_enabledBytes a v be x).1 hx
      exact (hb i h4 hbit).symm
  · refine ⟨_, onState_next s (qspiTransfer _), ?_⟩
    rw [qspiTransfer_begun 0xEB a [w] s hs ha hlt (.inl rfl), if_pos rfl, hcrc]
    have hread : spiRead false a [w] (spiBegun s) = busRead .qspi a (spiBegun s) := rfl
    rw [hread, busRead_ucode a (spiBegun s) hs hr ha]
    refine ⟨onlyParts_state rfl rfl rfl rfl ((within_emit _ _).trans ((within_hst _ _).trans (within_spiBegun s))) (by simp), ?_⟩
    exact mem_settle_out _ _ _ (mem_emit_self _ _)
  · refine ⟨_, onState_next s (qspiTransfer _), ?_⟩
    rw [qspiTransfer_begun 0x38 a (w :: l) s hs ha hlt (.inr rfl), if_neg (by decide), hcrc, spiWrite_failed a w l _ hne]
    refine ⟨onlyParts_state rfl rfl rfl rfl ((within_raise _ _ _).trans ((within_hst _ _).trans
      ((within_hst (spiBegun s).dev _).trans (within_spiBegun s)))) (by simp), ?_, ?_⟩
    · obtain ⟨p, h⟩ := settle_hst s.regs (raise 4 2 (hstErr .qspi 3 a { (spiBegun s).dev with
        hst := { (spiBegun s).dev.hst with spiCrc := wrapInc 8 (spiBegun s).dev.hst.spiCrc } }))
      exact congrArg HstSt.spiCrc h
    · rw [settle_raw]
      exact raise_testBit_self _ _ _ hraw
  · refine ⟨_, onState_next s (busRead port (0x21 * 4096 + 0x90)), ?_⟩
    rw [busRead_timeBase port s hs hl]
    refine ⟨onlyParts_state rfl rfl rfl rfl ((within_emit _ _).trans ((within_hst _ _).trans (within_touched port s))) (by simp), ?_, ?_⟩
    · exact (latchOf_settle _ _ _ _).trans (latchOf_latchPut port _ _ (touched port s).dev)
    · exact mem_settle_out _ _ _ (mem_emit_self _ _)

end Sys2Proof
end

section
/-! PROOFS. Ethernet MACs [14 R415 R417 R418, ETHn_MDIO]: reception, buffers and completions that the host takes, MDIO. -/

namespace Sys2Proof

open Sys2Proof.Machine

/-! ### Byte strings in the memory windows -/

theorem leNat_leBytes (n v : Nat) : leNat (leBytes n v) = v % 256 ^ n := by
  induction n generalizing v with
  | zero => simp [leBytes, leNat, Nat.mod_one]
  | succ n ih =>
    have hcons : leBytes (n + 1) v = BitVec.ofNat 8 v :: leBytes n (v / 256) := by
      simp only [leBytes, List.range_succ_eq_map, List.map_cons, List.map_map]
      simp [Function.comp_def, Nat.pow_succ', Nat.div_div_eq_div_mul]
    have hstep : leNat (leBytes (n + 1) v) = 256 * leNat (leBytes n (v / 256)) + v % 256 := by
      rw [hcons]
      simp [leNat]
    rw [hstep, ih, Nat.pow_succ', Nat.mod_mul, Nat.add_comm]

@[simp] theorem leBytes_length (n v : Nat) : (leBytes n v).length = n := by simp [leBytes]

/-- A byte string written reads back byte by byte. -/
theorem read_writeBytes_at (m : List Host.Cell) (a i : Nat) (l : List Byte) (h : i < l.length) :
    Memory.read (Memory.writeBytes m a l) (a + i) = l[i] := by
  induction l generalizing m a i with
  | nil => simp at h
  | cons b t ih =>
    cases i with
    | zero =>
      rw [Memory.writeBytes, Memory.read_writeBytes_other _ _ _ _ (by omega)]
      exact Memory.read_write_self m a b
    | succ i =>
      have hi : i < t.length := by simpa using h
      have hat := ih (Memory.write m a b) (a + 1) i hi
      rw [show a + 1 + i = a + (i + 1) by omega] at hat
      exact hat

/-- The first bytes of a byte string written. -/
theorem readBytes_writeBytes (m : List Host.Cell) (a n : Nat) (l : List Byte) (h : n ≤ l.length) :
    Memory.readBytes (Memory.writeBytes m a l) a n = l.take n := by
  refine List.ext_getElem (by simp [Memory.readBytes, h]) fun i h1 h2 => ?_
  have hi : i < n := by simpa [Memory.readBytes] using h1
  simpa [Memory.readBytes] using read_writeBytes_at m a i l (by omega)

/-- Bytes outside a byte string written. -/
theorem readBytes_writeBytes_other (m : List Host.Cell) (a c n : Nat) (l : List Byte) (h : c + n ≤ a ∨ a + l.length ≤ c) :
    Memory.readBytes (Memory.writeBytes m a l) c n = Memory.readBytes m c n := by
  refine List.map_congr_left fun i hi => Memory.read_writeBytes_other m a (c + i) l ?_
  have hlt := List.mem_range.1 hi
  omega

/-! ### A MAC through the shared operations -/

@[simp] theorem settle_mac (r : Regs) (d : Dev) (n : Nat) : (settle r d).mac n = d.mac n := by simp [Dev.mac]
@[simp] theorem quiet_mac (d : Dev) (n : Nat) : d.quiet.mac n = d.mac n := rfl
@[simp] theorem emit_mac (o : Output) (d : Dev) (n : Nat) : (emit o d).mac n = d.mac n := rfl
@[simp] theorem raise_mac (p b : Nat) (d : Dev) (n : Nat) : (raise p b d).mac n = d.mac n := rfl
@[simp] theorem raiseIf_mac (c : Bool) (p b : Nat) (d : Dev) (n : Nat) : (raiseIf c p b d).mac n = d.mac n := by simp [Dev.mac]

theorem modEth_mac_self (n : Nat) (f : EthSt → EthSt) (d : Dev) (h : n < d.eth.length) : (modEth n f d).mac n = f (d.mac n) :=
  at'_modAt_self _ _ _ h

theorem modEth_mac_other (n k : Nat) (f : EthSt → EthSt) (d : Dev) (h : k ≠ n) : (modEth n f d).mac k = d.mac k :=
  at'_modAt_other _ _ _ _ h.symm

@[simp] theorem modEth_length (n : Nat) (f : EthSt → EthSt) (d : Dev) : (modEth n f d).eth.length = d.eth.length := by simp [modEth]

theorem within_modEth (n : Nat) (f : EthSt → EthSt) (d : Dev) : Within [.eth] (modEth n f d) d := within_eth d _

/-- A MAC changed twice is changed once. -/
theorem modEth_modEth (n : Nat) (f g : EthSt → EthSt) (d : Dev) (h : n < d.eth.length) :
    (modEth n g (modEth n f d)).mac n = g (f (d.mac n)) := by
  rw [modEth_mac_self n g _ (by simpa using h), modEth_mac_self n f d h]

/-! ### Reception -/

/-- The frame of a command that writes memory windows too. -/
theorem Within.onlyParts_mem {l p : List Part} {s : State} {d : Dev} (m : List Host.Cell) (h : Within p d s.dev.quiet)
    (hp : p ⊆ .irq :: l) : OnlyParts l { s with mem := m } { s with mem := m, dev := settle s.regs d } :=
  h.onlyParts (s := { s with mem := m }) hp

/-- What is asked of a frame that a MAC takes: no error, one tag at most, its address, no datagram. -/
structure TakenFrame (r : Regs) (d : Dev) (n : Nat) (f : List Byte) : Prop where
  on : ethOn r d n = true
  link : (d.mac n).link = true
  rx : r.on F.ETH_CFG_RX_EN n = 1
  long : 60 ≤ f.length
  short : f.length ≤ 1518
  tag : doubleTagged f = false
  addr : ethAccepts r n (beAt f 0 6) = true
  plain : (udpOf f).isNone = true

theorem ethRxFrame_taken (n : Nat) (f : List Byte) (at_ : Nat) (r : Regs) (m : List Host.Cell) (d : Dev) (h : TakenFrame r d n f) :
    ethRxFrame n f true at_ r m d = ethStore r n f ((at_ : Int) - wrapS 16 (r.on F.ETH_CORR_RX n)) false false
      (modEth n (fun e => { e with rxOk := wrapInc 16 e.rxOk }) d) := by
  have hudp : udpOf f = none := Option.isNone_iff_eq_none.1 h.plain
  simp [ethRxFrame, ethTake, h.on, h.link, h.rx, Nat.not_lt.2 h.long, Nat.not_lt.2 h.short, h.tag, h.addr, hudp]

theorem ethRxFrame_bad (n : Nat) (f : List Byte) (at_ : Nat) (r : Regs) (m : List Host.Cell) (d : Dev) (hon : ethOn r d n = true)
    (hl : (d.mac n).link = true) (hr : r.on F.ETH_CFG_RX_EN n = 1) :
    ethRxFrame n f false at_ r m d = ([], modEth n (fun e => { e with errFcs := wrapInc 8 e.errFcs }) d) := by
  simp [ethRxFrame, hon, hl, hr]

/-- The length and the flags in a buffer's header. -/
def bufHead (f : List Byte) (toSrc host : Bool) : List Byte :=
  leBytes 2 f.length ++ leBytes 2 (b2n (ptpOf f).isSome + 2 * b2n (vlanTagged f) + 8 * b2n toSrc + 16 * b2n host) ++ leBytes 4 0

theorem bufHead_length (f : List Byte) (toSrc host : Bool) : (bufHead f toSrc host).length = 8 := by simp [bufHead]

theorem stampBytes_length (f : List Byte) (p : Option PtpAt) (ts0 : Int) (t1 : Nat) : (stampBytes f p ts0 t1).length = 24 := by
  cases p <;> simp [stampBytes]

/-- A frame in a free buffer: what is written, and the rings after it. -/
theorem ethStore_free (r : Regs) (n b : Nat) (rest : List Nat) (f : List Byte) (ts0 : Int) (toSrc host : Bool) (d : Dev)
    (h : (d.mac n).free = b :: rest) :
    ∃ c t, ethStore r n f ts0 toSrc host d =
      ([(bufAddr n b, bufHead f toSrc host), (bufAddr n b + 0x10, stampBytes f (ptpOf f) ts0 t), (bufAddr n b + 0x40, f)],
        modEth n (fun e => { e with free := rest, filled := e.filled ++ [b] }) (raiseIf c (0x22 + n) 0 d)) := by
  refine ⟨(d.mac n).filled.isEmpty, ts1 r (raiseIf (d.mac n).filled.isEmpty (0x22 + n) 0 d) n ts0, ?_⟩
  unfold ethStore
  rw [h]
  rfl

theorem ethStore_full (r : Regs) (n : Nat) (f : List Byte) (ts0 : Int) (toSrc host : Bool) (d : Dev) (h : (d.mac n).free = []) :
    ethStore r n f ts0 toSrc host d = ([], modEth n (fun e => { e with rxDrop := wrapInc 16 e.rxDrop }) d) := by
  unfold ethStore
  rw [h]

/-- A buffer's memory once a frame is stored in it: the frame, its length, and nothing outside. -/
theorem stored_reads (m : List Host.Cell) (a : Nat) (f hd st : List Byte) (toSrc host : Bool) (hhd : hd = bufHead f toSrc host)
    (hst : st.length = 24) (hf : f.length < 2 ^ 16) :
    let w := Memory.writeAll m [(a, hd), (a + 0x10, st), (a + 0x40, f)]
    Memory.readBytes w (a + 0x40) f.length = f ∧ leNat (Memory.readBytes w a 2) = f.length ∧
      ∀ c, c < a ∨ a + 0x40 + f.length ≤ c → Memory.read w c = Memory.read m c := by
  have hlen : hd.length = 8 := hhd ▸ bufHead_length f toSrc host
  have hw : Memory.writeAll m [(a, hd), (a + 0x10, st), (a + 0x40, f)] =
      Memory.writeBytes (Memory.writeBytes (Memory.writeBytes m a hd) (a + 0x10) st) (a + 0x40) f := rfl
  simp only [hw]
  refine ⟨(readBytes_writeBytes _ _ _ _ le_rfl).trans List.take_length, ?_, fun c hc => ?_⟩
  · rw [readBytes_writeBytes_other _ _ _ _ _ (by omega), readBytes_writeBytes_other _ _ _ _ _ (by omega),
      readBytes_writeBytes _ _ _ _ (by omega), hhd, bufHead, List.append_assoc, List.take_left' (leBytes_length 2 _), leNat_leBytes]
    exact Nat.mod_eq_of_lt hf
  · rw [Memory.read_writeBytes_other _ _ _ _ (by omega), Memory.read_writeBytes_other _ _ _ _ (by omega),
      Memory.read_writeBytes_other _ _ _ _ (by omega)]

/-- Settles O14. -/
theorem ethernetReception : Obligations.EthernetReception := by
  unfold Obligations.EthernetReception
  refine ⟨fun s n b at_ rest f hon hn hl hr h60 h1518 ht ha hu hfree => ?_, fun s n at_ f hon hn hl hr h60 h1518 ht ha hu hfree => ?_,
    fun s n at_ f hon hn hl hr => ?_⟩
  · refine ⟨_, onMem_next s (ethRxFrame n f true at_), ?_⟩
    rw [ethRxFrame_taken n f at_ s.regs s.mem s.dev.quiet ⟨hon, hl, hr, h60, h1518, ht, ha, hu⟩]
    have hfree1 : ((modEth n (fun e => { e with rxOk := wrapInc 16 e.rxOk }) s.dev.quiet).mac n).free = b :: rest := by
      rw [modEth_mac_self n _ s.dev.quiet hn]
      exact hfree
    obtain ⟨c, t, h⟩ := ethStore_free s.regs n b rest f ((at_ : Int) - wrapS 16 (s.regs.on F.ETH_CORR_RX n)) false false _ hfree1
    rw [h]
    refine ⟨((within_modEth n _ _).trans ((within_raiseIf _ _ _ _).trans (within_modEth n _ s.dev.quiet))).onlyParts_mem _ (by simp), ?_⟩
    obtain ⟨hread, hlen, hout⟩ := stored_reads s.mem (bufAddr n b) f _ _ false false rfl (stampBytes_length f (ptpOf f) _ t) (by omega)
    simp only [settle_mac]
    refine ⟨?_, ?_, ?_, hread, hlen, hout, fun k hk => ?_⟩
    · rw [modEth_mac_self n _ _ (by simpa using hn)]
    · rw [modEth_mac_self n _ _ (by simpa using hn), raiseIf_mac, modEth_mac_self n _ s.dev.quiet hn]
      rfl
    · rw [modEth_mac_self n _ _ (by simpa using hn), raiseIf_mac, modEth_mac_self n _ s.dev.quiet hn]
      rfl
    · rw [modEth_mac_other n k _ _ hk, raiseIf_mac, modEth_mac_other n k _ _ hk, quiet_mac]
  · refine ⟨_, onMem_next s (ethRxFrame n f true at_), ?_⟩
    rw [ethRxFrame_taken n f at_ s.regs s.mem s.dev.quiet ⟨hon, hl, hr, h60, h1518, ht, ha, hu⟩, ethStore_full]
    · refine ⟨((within_modEth n _ _).trans (within_modEth n _ s.dev.quiet)).onlyParts (by simp), ?_, ?_⟩ <;>
        rw [settle_mac, modEth_modEth n _ _ s.dev.quiet hn]
      · rfl
      · rfl
    · rw [modEth_mac_self n _ s.dev.quiet hn]
      exact hfree
  · refine ⟨_, onMem_next s (ethRxFrame n f false at_), ?_⟩
    rw [ethRxFrame_bad n f at_ s.regs s.mem s.dev.quiet hon hl hr]
    refine ⟨(within_modEth n _ s.dev.quiet).onlyParts (by simp), ?_⟩
    rw [settle_mac, modEth_mac_self n _ s.dev.quiet hn]
    rfl

/-! ### What the host gives and takes -/

/-- Settles O15: a free buffer joins the end of its ring, and a pop takes the oldest entry or reads 0. -/
theorem ethernetBuffersAndCompletions : Obligations.EthernetBuffersAndCompletions := by
  unfold Obligations.EthernetBuffersAndCompletions
  refine ⟨fun s n v h4 ha hn => ?_, fun s port n hn => ?_, fun s port n hn => ?_⟩
  · refine ⟨_, onDev_next s (fun _ d => if n < 4 ∧ !(pageAbsent d (0x22 + n)) then modEth n (fun e => { e with free := e.free ++ [v % 128] }) d
      else d), ?_⟩
    have hcond : n < 4 ∧ (!(pageAbsent s.dev.quiet (0x22 + n))) = true := ⟨h4, by rw [show pageAbsent s.dev.quiet (0x22 + n) = false from ha]; rfl⟩
    rw [if_pos hcond]
    refine ⟨(within_modEth n _ s.dev.quiet).onlyParts (by simp), ?_, fun k hk => ?_⟩
    · rw [settle_mac, modEth_mac_self n _ s.dev.quiet hn, quiet_mac]
    · rw [settle_mac, modEth_mac_other n k _ _ hk, quiet_mac]
  · cases hf : (s.dev.mac n).filled with
    | nil =>
      refine ⟨_, onDev_next s (ethRxPop port n), ?_⟩
      have hpop : ethRxPop port n s.regs s.dev.quiet = emit (.read port (ethAddr n 0x8C) 0) s.dev.quiet := by simp [ethRxPop, hf]
      rw [hpop]
      exact ⟨(within_emit _ _).onlyParts (by simp), fun b l h => (nomatch h), fun _ => ⟨by rw [settle_eth]; rfl, mem_settle_out _ _ _ (mem_emit_self _ _)⟩⟩
    | cons b l =>
      refine ⟨_, onDev_next s (ethRxPop port n), ?_⟩
      have hpop : ethRxPop port n s.regs s.dev.quiet =
          emit (.read port (ethAddr n 0x8C) (2 ^ 31 + b)) (modEth n (fun e => { e with filled := l }) s.dev.quiet) := by simp [ethRxPop, hf]
      rw [hpop]
      refine ⟨((within_emit _ _).trans (within_modEth n _ s.dev.quiet)).onlyParts (by simp), fun b' l' h => ?_, fun h => (nomatch h)⟩
      obtain ⟨rfl, rfl⟩ := List.cons.inj h
      exact ⟨by rw [settle_mac, emit_mac, modEth_mac_self n _ s.dev.quiet hn, quiet_mac], mem_settle_out _ _ _ (mem_emit_self _ _)⟩
  · cases hf : (s.dev.mac n).txc with
    | nil =>
      refine ⟨_, onDev_next s (ethTxcPop port n), ?_⟩
      have hpop : ethTxcPop port n s.regs s.dev.quiet = emit (.read port (ethAddr n 0x84) 0) s.dev.quiet := by simp [ethTxcPop, hf]
      rw [hpop]
      exact ⟨(within_emit _ _).onlyParts (by simp), fun b x l h => (nomatch h), fun _ => ⟨by rw [settle_eth]; rfl, mem_settle_out _ _ _ (mem_emit_self _ _)⟩⟩
    | cons e l =>
      refine ⟨_, onDev_next s (ethTxcPop port n), ?_⟩
      have hpop : ethTxcPop port n s.regs s.dev.quiet =
          emit (.read port (ethAddr n 0x84) (2 ^ 31 + 256 * e.2 + e.1)) (modEth n (fun e => { e with txc := l }) s.dev.quiet) := by
        simp [ethTxcPop, hf]
      rw [hpop]
      refine ⟨((within_emit _ _).trans (within_modEth n _ s.dev.quiet)).onlyParts (by simp), fun b x l' h => ?_, fun h => (nomatch h)⟩
      obtain ⟨rfl, rfl⟩ := List.cons.inj h
      exact ⟨by rw [settle_mac, emit_mac, modEth_mac_self n _ s.dev.quiet hn, quiet_mac], mem_settle_out _ _ _ (mem_emit_self _ _)⟩

/-! ### MDIO -/

/-- An idle MAC starts the access. -/
theorem mdioStart_idle (op n v : Nat) (d : Dev) (h4 : n < 4) (ha : pageAbsent d (0x22 + n) = false) (hb : (d.mac n).mdioBusy = false) :
    mdioStart op n v d = emit (.mdio n op (bits v 25 21) (bits v 20 16) (v % 65536)) (modEth n (fun e => { e with
      mdioData := v % 65536, mdioReg := bits v 20 16, mdioPhy := bits v 25 21, mdioOp := op, mdioBusy := true }) d) :=
  if_neg (by simp [h4, ha, hb])

/-- Settles O17. -/
theorem ethernetMdioAccess : Obligations.EthernetMdioAccess := by
  unfold Obligations.EthernetMdioAccess
  refine ⟨fun s n v h4 ha hn hb => ?_, fun s n v h4 ha hn hb => ?_, fun s n data hn hb => ?_⟩
  · refine ⟨_, onDev_next s (fun _ d => mdioStart 1 n v d), ?_⟩
    rw [mdioStart_idle 1 n v s.dev.quiet h4 ha hb]
    refine ⟨((within_emit _ _).trans (within_modEth n _ s.dev.quiet)).onlyParts (by simp), ?_⟩
    rw [settle_mac, emit_mac, modEth_mac_self n _ s.dev.quiet hn]
    exact ⟨rfl, rfl, mem_settle_out _ _ _ (mem_emit_self _ _)⟩
  · refine ⟨_, onDev_next s (fun _ d => mdioStart 2 n v d), ?_⟩
    rw [mdioStart_idle 2 n v s.dev.quiet h4 ha hb]
    refine ⟨((within_emit _ _).trans (within_modEth n _ s.dev.quiet)).onlyParts (by simp), ?_⟩
    rw [settle_mac, emit_mac, modEth_mac_self n _ s.dev.quiet hn]
    exact ⟨rfl, rfl, mem_settle_out _ _ _ (mem_emit_self _ _)⟩
  · refine ⟨_, onDev_next s (fun _ d => mdioDone n data d), ?_⟩
    have hdone : mdioDone n data s.dev.quiet = modEth n (fun e => { e with
        mdioBusy := false, mdioData := if e.mdioOp = 2 then data % 65536 else e.mdioData }) s.dev.quiet := if_pos hb
    rw [hdone]
    refine ⟨(within_modEth n _ s.dev.quiet).onlyParts (by simp), ?_⟩
    rw [settle_mac, modEth_mac_self n _ s.dev.quiet hn, quiet_mac]

end Sys2Proof
end

section
/-! PROOFS. Ethernet transmission [14 R418 R422 R423 R426]: pushes, launches, completions, and the link. -/

namespace Sys2Proof

open Sys2Proof.Machine

/-! ### The start of a frame -/

/-- The head of queue `q` may start now. -/
def mayStart (r : Regs) (m : List Host.Cell) (d : Dev) (n q : Nat) : Bool :=
  match d.txHead n q with
  | some x => txEligible r d n q x && !(txBlocked r m d n q x)
  | none => false

/-- The start of a frame, by the highest queue whose head may start. -/
theorem ethStart_eq (r : Regs) (m : List Host.Cell) (n : Nat) (d : Dev) :
    ethStart r m n d =
      if (d.mac n).sending.isSome || !((d.mac n).link) || r.on F.ETH_CFG_TX_EN n != 1 || !(ethOn r d n) then d
      else
        match (List.range 8).reverse.find? (mayStart r m d n) with
        | none => d
        | some q =>
          match d.txHead n q with
          | none => d
          | some x => modEth n (fun e => { e with sending := some (q, x), queues := modAt e.queues q (List.drop 1) }) d := rfl

/-- A frame taken from the head of its queue, or none. -/
theorem ethStart_shape (r : Regs) (m : List Host.Cell) (n : Nat) (d : Dev) :
    ethStart r m n d = d ∨
      ∃ q x, ethStart r m n d = modEth n (fun e => { e with sending := some (q, x), queues := modAt e.queues q (List.drop 1) }) d := by
  rw [ethStart_eq]
  split
  · exact .inl rfl
  · split
    · exact .inl rfl
    · split
      · exact .inl rfl
      · exact .inr ⟨_, _, rfl⟩

theorem within_ethStart (r : Regs) (m : List Host.Cell) (n : Nat) (d : Dev) : Within [.eth] (ethStart r m n d) d := by
  rcases ethStart_shape r m n d with h | ⟨q, x, h⟩ <;> rw [h]
  · exact .refl _ d
  · exact within_modEth n _ d

/-- The MAC after a start, but for what is sent and what waits. -/
theorem ethStart_mac (r : Regs) (m : List Host.Cell) (n : Nat) (d : Dev) (hn : n < d.eth.length) :
    ∃ x qs, (ethStart r m n d).mac n = { d.mac n with sending := x, queues := qs } := by
  rcases ethStart_shape r m n d with h | ⟨q, x, h⟩ <;> rw [h]
  · exact ⟨_, _, rfl⟩
  · exact ⟨_, _, modEth_mac_self n _ d hn⟩

@[simp] theorem ethStart_raw (r : Regs) (m : List Host.Cell) (n : Nat) (d : Dev) : (ethStart r m n d).irq.raw = d.irq.raw := by
  rcases ethStart_shape r m n d with h | ⟨q, x, h⟩ <;> rw [h]
  rfl

@[simp] theorem ethStart_out (r : Regs) (m : List Host.Cell) (n : Nat) (d : Dev) : (ethStart r m n d).out = d.out := by
  rcases ethStart_shape r m n d with h | ⟨q, x, h⟩ <;> rw [h]
  rfl

/-- While a frame is sent, none starts. -/
theorem ethStart_sending (r : Regs) (m : List Host.Cell) (n : Nat) (d : Dev) (h : (d.mac n).sending.isSome = true) : ethStart r m n d = d :=
  if_pos (by simp [h])

/-- The head of the only queue with a frame that may start is sent. -/
theorem ethStart_only (r : Regs) (m : List Host.Cell) (n q : Nat) (x : TxFrame) (d : Dev) (hon : ethOn r d n = true)
    (hl : (d.mac n).link = true) (ht : r.on F.ETH_CFG_TX_EN n = 1) (hs : (d.mac n).sending = none) (hq : q < 8)
    (hh : d.txHead n q = some x) (he : txEligible r d n q x = true) (hempty : ∀ k, k < 8 → k ≠ q → d.txHead n k = none) :
    ethStart r m n d = modEth n (fun e => { e with sending := some (q, x), queues := modAt e.queues q (List.drop 1) }) d := by
  have hfree : txBlocked r m d n q x = false := by
    unfold txBlocked
    rw [List.any_eq_false]
    intro k hk
    by_cases hkq : k = q
    · subst hkq
      simp [hh]
    · simp [hempty k (List.mem_range.1 hk) hkq]
  have hpick (k : Nat) (hk : k < 8) : mayStart r m d n k = decide (k = q) := by
    by_cases hkq : k = q
    · subst hkq
      simp [mayStart, hh, he, hfree]
    · simp [mayStart, hempty k hk hkq, hkq]
  have hfind : (List.range 8).reverse.find? (mayStart r m d n) = some q := by
    rw [List.find?_congr fun k hk => hpick k (List.mem_range.1 (List.mem_reverse.1 hk))]
    interval_cases q <;> rfl
  rw [ethStart_eq, hfind]
  simp [hon, hl, ht, hs, hh]

/-! ### Completions -/

theorem within_ethComplete (n b res : Nat) (d : Dev) : Within [.irq, .eth] (ethComplete n b res d) d :=
  ((within_raiseIf _ _ _ _).trans (within_modEth n _ d)).mono (by simp)

theorem ethComplete_mac (n b res : Nat) (d : Dev) (hn : n < d.eth.length) :
    (ethComplete n b res d).mac n = { d.mac n with txc := (d.mac n).txc ++ [(b, res)] } := by
  rw [ethComplete, raiseIf_mac, modEth_mac_self n _ d hn]

@[simp] theorem ethComplete_length (n b res : Nat) (d : Dev) : (ethComplete n b res d).eth.length = d.eth.length := by
  simp [ethComplete]

@[simp] theorem ethComplete_out (n b res : Nat) (d : Dev) : (ethComplete n b res d).out = d.out := by
  simp [ethComplete, modEth]

/-- A completion takes no raw bit back. -/
theorem ethComplete_testBit (n b res p j : Nat) (d : Dev) (h : (at' d.irq.raw p).testBit j = true) :
    (at' (ethComplete n b res d).irq.raw p).testBit j = true := by
  unfold ethComplete raiseIf
  split
  · exact raise_testBit_mono _ _ _ _ _ h
  · exact h

/-! ### A lost link -/

/-- The frames that wait at a MAC, the one on the line first. -/
def waiting (e : EthSt) : List TxFrame := (match e.sending with | some (_, x) => [x] | none => []) ++ e.queues.reverse.flatten

/-- Every waiting frame completed with RESULT 2. -/
def flushed (n : Nat) (l : List TxFrame) (d : Dev) : Dev := l.foldl (fun d x => ethComplete n x.buf 2 d) d

theorem ethFlush_eq (n : Nat) (d : Dev) :
    ethFlush n d = flushed n (waiting (d.mac n)) (modEth n (fun e => { e with sending := none, queues := List.replicate 8 [] }) d) := rfl

theorem within_flushed (n : Nat) (l : List TxFrame) (d : Dev) : Within [.irq, .eth] (flushed n l d) d :=
  within_foldl _ l d fun a x => within_ethComplete n x.buf 2 a

theorem flushed_mac (n : Nat) (l : List TxFrame) (d : Dev) (hn : n < d.eth.length) :
    (flushed n l d).mac n = { d.mac n with txc := (d.mac n).txc ++ l.map fun x => (x.buf, 2) } := by
  induction l generalizing d with
  | nil => simp [flushed]
  | cons x t ih =>
    have h := ih (ethComplete n x.buf 2 d) (by simpa using hn)
    rw [ethComplete_mac n _ _ d hn] at h
    exact h.trans (by simp)

theorem flushed_testBit (n p j : Nat) (l : List TxFrame) (d : Dev) (h : (at' d.irq.raw p).testBit j = true) :
    (at' (flushed n l d).irq.raw p).testBit j = true :=
  foldl_keeps (fun a : Dev => (at' a.irq.raw p).testBit j = true) _ l d (fun a x ha => ethComplete_testBit n x.buf 2 p j a ha) h

theorem within_ethFlush (n : Nat) (d : Dev) : Within [.irq, .eth] (ethFlush n d) d :=
  ((within_flushed n _ _).trans (within_modEth n _ d)).mono (by simp)

theorem ethFlush_mac (n : Nat) (d : Dev) (hn : n < d.eth.length) :
    (ethFlush n d).mac n = { d.mac n with
      sending := none, queues := List.replicate 8 [], txc := (d.mac n).txc ++ (waiting (d.mac n)).map fun x => (x.buf, 2) } := by
  rw [ethFlush_eq, flushed_mac n _ _ (by simpa using hn), modEth_mac_self n _ d hn]

/-- How many frames wait. -/
theorem waiting_length (e : EthSt) : (waiting e).length = (if e.sending.isSome then 1 else 0) + (e.queues.map List.length).sum := by
  have hq : e.queues.reverse.flatten.length = (e.queues.map List.length).sum := by
    rw [List.length_flatten, List.map_reverse, List.sum_reverse]
  cases h : e.sending <;> simp only [waiting, h, List.length_append, hq] <;> rfl

/-! ### The commands -/

/-- The frame that a push queues. -/
def pushedFrame (n v : Nat) (m : List Host.Cell) : TxFrame :=
  { buf := v % 128, launch := v.testBit 11, oneStep := v.testBit 12, time := leNat (Memory.readBytes m (bufAddr n (v % 128) + 8) 8) }

/-- The device with a frame at the end of a queue. -/
def pushed (n v : Nat) (m : List Host.Cell) (d : Dev) : Dev :=
  modEth n (fun e => { e with queues := modAt e.queues (bits v 10 8) (· ++ [pushedFrame n v m]) }) d

theorem ethTxPush_queued (n v : Nat) (r : Regs) (m : List Host.Cell) (d : Dev) (hon : ethOn r d n = true)
    (hq : (at' (d.mac n).queues (bits v 10 8)).length < 16) (hen : r.on F.ETH_TXQ_CFG_EN n (bits v 10 8) = 1) :
    ethTxPush n v r m d =
      if ((pushed n v m d).mac n).link then ethStart r m n (pushed n v m d) else ethFlush n (pushed n v m d) := by
  unfold ethTxPush
  dsimp only
  rw [if_neg (by simp [hon]), if_neg (by simp [hen, hq])]
  rfl

theorem ethTxPush_refused (n v : Nat) (r : Regs) (m : List Host.Cell) (d : Dev) (hon : ethOn r d n = true)
    (h : 16 ≤ (at' (d.mac n).queues (bits v 10 8)).length ∨ r.on F.ETH_TXQ_CFG_EN n (bits v 10 8) ≠ 1) :
    ethTxPush n v r m d = modEth n (fun e => { e with refused := modAt e.refused (bits v 10 8) (wrapInc 8) }) d :=
  (if_neg (by simp [hon])).trans (if_pos h)

/-- A push changes the MAC alone. -/
theorem within_ethTxPush (n v : Nat) (r : Regs) (m : List Host.Cell) (d : Dev) : Within [.irq, .eth] (ethTxPush n v r m d) d := by
  have hpush : Within [.irq, .eth] (if ((pushed n v m d).mac n).link then ethStart r m n (pushed n v m d) else ethFlush n (pushed n v m d)) d :=
    .ite (((within_ethStart r m n _).trans (within_modEth n _ d)).mono (by simp))
      (((within_ethFlush n _).trans (within_modEth n _ d)).mono (by simp))
  exact .ite (.refl _ d) (.ite ((within_modEth n _ d).mono (by simp)) hpush)

theorem ethLaunchDue_due (n q : Nat) (x : TxFrame) (r : Regs) (m : List Host.Cell) (d : Dev) (hh : d.txHead n q = some x)
    (hl : x.launch = true) (hq : q < 8) (ht : x.time ≤ queueNow r d n q + 64) : ethLaunchDue n q r m d = ethStart r m n d := by
  simp [ethLaunchDue, hh, hl, hq, ht]

/-- The missed launch is counted and raised. -/
def launchMissed (n q : Nat) (d : Dev) : Dev := raise (0x22 + n) 2 (modEth n (fun e => { e with missed := modAt e.missed q (wrapInc 8) }) d)

/-- A late launch is kept as late, or withdrawn with RESULT 1. -/
theorem ethLaunchLate_late (n q : Nat) (x : TxFrame) (r : Regs) (m : List Host.Cell) (d : Dev) (hon : ethOn r d n = true)
    (hh : d.txHead n q = some x) (hl : x.launch = true) (hx : x.late = false) (ht : txLate r d n q x = true) :
    ethLaunchLate n q r m d =
      if r.on F.ETH_TXQ_CFG_LATE_ACT n q = 1 then
        ethStart r m n (modEth n (fun e => { e with queues := modAt e.queues q fun l => modAt l 0 fun x => { x with late := true } }) (launchMissed n q d))
      else ethStart r m n (ethComplete n x.buf 1 (modEth n (fun e => { e with queues := modAt e.queues q (List.drop 1) }) (launchMissed n q d))) := by
  unfold ethLaunchLate
  rw [hh]
  exact if_pos ⟨hon, hl, by simp [hx], ht⟩

theorem within_launchMissed (n q : Nat) (d : Dev) : Within [.irq, .eth] (launchMissed n q d) d :=
  ((within_raise _ _ _).trans (within_modEth n _ d)).mono (by simp)

theorem launchMissed_mac (n q : Nat) (d : Dev) (hn : n < d.eth.length) :
    (launchMissed n q d).mac n = { d.mac n with missed := modAt (d.mac n).missed q (wrapInc 8) } := by
  rw [launchMissed, raise_mac, modEth_mac_self n _ d hn]

@[simp] theorem launchMissed_length (n q : Nat) (d : Dev) : (launchMissed n q d).eth.length = d.eth.length := modEth_length n _ d

/-- The bytes of a frame in transmission, padded. -/
def sentBytes (m : List Host.Cell) (a : Nat) : List Byte :=
  let f := Memory.readBytes m (a + 0x40) (min (leNat (Memory.readBytes m a 2)) 1518)
  f ++ List.replicate (60 - f.length) 0

/-- A frame without ONE_STEP leaves as it is, stamped and completed with RESULT 0. -/
theorem ethTxDone_plain (n at_ q : Nat) (x : TxFrame) (r : Regs) (m : List Host.Cell) (d : Dev) (hs : (d.mac n).sending = some (q, x))
    (hx : x.oneStep = false) :
    ∃ fl p t, fl.length = 2 ∧ ethTxDone n at_ r m d =
      ([(bufAddr n x.buf + 2, fl),
        (bufAddr n x.buf + 0x10, stampBytes (sentBytes m (bufAddr n x.buf)) p ((at_ : Int) + wrapS 16 (r.on F.ETH_CORR_TX n)) t)],
       ethStart r m n (ethComplete n x.buf 0
        (emit (.eth n (sentBytes m (bufAddr n x.buf))) (modEth n (fun e => { e with sending := none }) d)))) := by
  unfold ethTxDone
  split
  next h => exact nomatch h.symm.trans hs
  next q' y h =>
    obtain ⟨rfl, rfl⟩ : q' = q ∧ y = x := by simpa using h.symm.trans hs
    extract_lets a len f0 f ts0 p req one res flags w d1
    have hone : one = none := by
      unfold one
      cases p with
      | none => rfl
      | some b => simp [hx]
    have hres : res = 0 := by simp [res, hx]
    have hf : f = sentBytes m a := rfl
    clear_value one res flags
    subst hone hres
    rw [← hf]
    clear_value f
    exact ⟨leBytes 2 flags, p, ts1 r d n ts0, leBytes_length 2 flags, rfl⟩

/-- The stamp of a frame that has left, and the memory outside its header. -/
theorem stamped_reads (m : List Host.Cell) (a : Nat) (fl f : List Byte) (p : Option PtpAt) (ts0 : Int) (t : Nat) (hfl : fl.length = 2) :
    let w := Memory.writeAll m [(a + 2, fl), (a + 0x10, stampBytes f p ts0 t)]
    Memory.readBytes w (a + 0x10) 8 = leBytes 8 (wrapU 64 ts0) ∧
      ∀ c, c < a + 2 ∨ a + 0x28 ≤ c → Memory.read w c = Memory.read m c := by
  have hlen := stampBytes_length f p ts0 t
  have hw : Memory.writeAll m [(a + 2, fl), (a + 0x10, stampBytes f p ts0 t)] =
      Memory.writeBytes (Memory.writeBytes m (a + 2) fl) (a + 0x10) (stampBytes f p ts0 t) := rfl
  simp only [hw]
  refine ⟨?_, fun c hc => ?_⟩
  · rw [readBytes_writeBytes _ _ _ _ (by omega)]
    simp only [stampBytes, List.append_assoc]
    exact List.take_left' (leBytes_length 8 _)
  · rw [Memory.read_writeBytes_other _ _ _ _ (by omega), Memory.read_writeBytes_other _ _ _ _ (by omega)]

/-- The link of a MAC as negotiation left it, and the change raised. -/
def linkChanged (n : Nat) (done full : Bool) (d : Dev) : Dev :=
  raiseIf ((done && full) != (d.mac n).link) (0x22 + n) 3
    (modEth n (fun e => { e with anDone := done, link := done && full, badMode := done && !full }) d)

theorem ethLinkChange_on (n : Nat) (done full : Bool) (r : Regs) (m : List Host.Cell) (d : Dev) (hon : ethOn r d n = true) :
    ethLinkChange n done full r m d =
      if done && full then ethStart r m n (linkChanged n done full d) else ethFlush n (linkChanged n done full d) := if_pos hon

theorem within_linkChanged (n : Nat) (done full : Bool) (d : Dev) : Within [.irq, .eth] (linkChanged n done full d) d :=
  ((within_raiseIf _ _ _ _).trans (within_modEth n _ d)).mono (by simp)

theorem linkChanged_mac (n : Nat) (done full : Bool) (d : Dev) (hn : n < d.eth.length) :
    (linkChanged n done full d).mac n = { d.mac n with anDone := done, link := done && full, badMode := done && !full } := by
  rw [linkChanged, raiseIf_mac, modEth_mac_self n _ d hn]

@[simp] theorem linkChanged_length (n : Nat) (done full : Bool) (d : Dev) : (linkChanged n done full d).eth.length = d.eth.length := by
  simp [linkChanged]

/-- A link that comes or goes is raised. -/
theorem linkChanged_testBit (n : Nat) (done full : Bool) (d : Dev) (hraw : 0x22 + n < d.irq.raw.length)
    (h : (d.mac n).link ≠ (done && full)) : (at' (linkChanged n done full d).irq.raw (0x22 + n)).testBit 3 = true := by
  have hne : ((done && full) != (d.mac n).link) = true := bne_iff_ne.2 h.symm
  rw [linkChanged, hne]
  exact raise_testBit_self _ _ _ hraw

/-- Settles O16: each command by its outcome for the MAC, through the start of the next frame and the flush of a lost link. -/
theorem ethernetTransmission : Obligations.EthernetTransmission := by
  unfold Obligations.EthernetTransmission
  refine ⟨fun s n v => ?_, fun s n q x hon hn hq hlen hl ht hs hh hx hnow he hempty => ?_, fun s n q x hon hn hq hraw hh hl hx ht => ?_,
    fun s n q at_ x hn hs hx => ?_, fun s n done full hon hn hraw => ?_⟩
  · intro q tm hon hn hq hqr
    refine ⟨_, onMem_next s (fun r m d => ([], ethTxPush n v r m d)), (within_ethTxPush n v _ _ _).onlyParts (by simp),
      fun h16 hen hl hsend => ?_, fun hrefuse => ?_⟩
    · have hmac : (pushed n v s.mem s.dev.quiet).mac n =
          { s.dev.mac n with queues := modAt (s.dev.mac n).queues q (· ++ [pushedFrame n v s.mem]) } := modEth_mac_self n _ s.dev.quiet hn
      rw [settle_mac, ethTxPush_queued n v s.regs s.mem s.dev.quiet hon h16 hen, hmac, if_pos hl,
        ethStart_sending _ _ _ _ (by rw [hmac]; exact hsend), hmac]
      exact ⟨at'_modAt_self _ _ _ hq, rfl⟩
    · rw [settle_mac, ethTxPush_refused n v s.regs s.mem s.dev.quiet hon hrefuse, modEth_mac_self n _ s.dev.quiet hn]
      exact ⟨rfl, at'_modAt_self _ _ _ hqr⟩
  · refine ⟨_, onMem_next s (fun r m d => ([], ethLaunchDue n q r m d)), ?_⟩
    have hnone (k : Nat) (hk : k < 8) (hkq : k ≠ q) : s.dev.quiet.txHead n k = none := by
      rw [Dev.txHead, quiet_mac, hempty k hk hkq]
      rfl
    rw [ethLaunchDue_due n q x s.regs s.mem s.dev.quiet hh hx hq hnow, ethStart_only s.regs s.mem n q x s.dev.quiet hon hl ht hs hq hh he hnone]
    refine ⟨(within_modEth n _ _).onlyParts (by simp), ?_⟩
    rw [settle_mac, modEth_mac_self n _ s.dev.quiet hn]
    exact ⟨rfl, at'_modAt_self _ _ _ hlen⟩
  · refine ⟨_, onMem_next s (fun r m d => ([], ethLaunchLate n q r m d)), ?_⟩
    have hmissed := launchMissed_mac n q s.dev.quiet hn
    have hbit : (at' (launchMissed n q s.dev.quiet).irq.raw (0x22 + n)).testBit 2 = true := raise_testBit_self _ _ _ hraw
    rw [ethLaunchLate_late n q x s.regs s.mem s.dev.quiet hon hh hl hx ht]
    by_cases hact : s.regs.on F.ETH_TXQ_CFG_LATE_ACT n q = 1
    · simp only [if_pos hact]
      refine ⟨((within_ethStart _ _ _ _).trans ((within_modEth n _ _).trans (within_launchMissed n q _))).onlyParts (by simp), ?_⟩
      obtain ⟨y, qs, hy⟩ := ethStart_mac s.regs s.mem n (modEth n (fun e => { e with
        queues := modAt e.queues q fun l => modAt l 0 fun x => { x with late := true } }) (launchMissed n q s.dev.quiet)) (by simpa using hn)
      rw [settle_mac, settle_raw, hy, ethStart_raw, modEth_mac_self n _ _ (by simpa using hn), hmissed]
      exact ⟨at'_modAt_self _ _ _ hq, hbit, fun h => absurd hact h, fun _ => rfl⟩
    · simp only [if_neg hact]
      refine ⟨((within_ethStart _ _ _ _).trans ((within_ethComplete _ _ _ _).trans ((within_modEth n _ _).trans
        (within_launchMissed n q _)))).onlyParts (by simp), ?_⟩
      obtain ⟨y, qs, hy⟩ := ethStart_mac s.regs s.mem n (ethComplete n x.buf 1 (modEth n (fun e => { e with
        queues := modAt e.queues q (List.drop 1) }) (launchMissed n q s.dev.quiet))) (by simpa using hn)
      rw [settle_mac, settle_raw, hy, ethStart_raw, ethComplete_mac n _ _ _ (by simpa using hn), modEth_mac_self n _ _ (by simpa using hn),
        hmissed]
      exact ⟨at'_modAt_self _ _ _ hq, ethComplete_testBit _ _ _ _ _ _ hbit, fun _ => rfl, fun h => absurd h hact⟩
  · intro a f
    obtain ⟨fl, p, t, hfl, h⟩ := ethTxDone_plain n at_ q x s.regs s.mem s.dev.quiet hs hx
    have ha : bufAddr n x.buf = a := rfl
    rw [ha] at h
    clear_value a
    obtain ⟨hstamp, hout⟩ := stamped_reads s.mem a fl (sentBytes s.mem a) p ((at_ : Int) + wrapS 16 (s.regs.on F.ETH_CORR_TX n)) t hfl
    refine ⟨_, onMem_next s (ethTxDone n at_), ?_⟩
    simp only [h]
    refine ⟨((within_ethStart _ _ _ _).trans ((within_ethComplete _ _ _ _).trans ((within_emit _ _).trans
      (within_modEth n _ s.dev.quiet)))).onlyParts_mem _ (by simp), ?_, ?_, hstamp, hout⟩
    · obtain ⟨y, qs, hy⟩ := ethStart_mac s.regs s.mem n (ethComplete n x.buf 0 (emit (.eth n (sentBytes s.mem a))
        (modEth n (fun e => { e with sending := none }) s.dev.quiet))) (by rw [ethComplete_length]; exact (modEth_length n _ _).symm ▸ hn)
      rw [settle_mac, hy, ethComplete_mac n _ _ _ ((modEth_length n _ s.dev.quiet).symm ▸ hn), emit_mac, modEth_mac_self n _ s.dev.quiet hn]
      rfl
    · refine mem_settle_out _ _ _ ?_
      rw [ethStart_out, ethComplete_out]
      exact mem_emit_self _ _
  · refine ⟨_, onMem_next s (fun r m d => ([], ethLinkChange n done full r m d)), ?_⟩
    have hmac := linkChanged_mac n done full s.dev.quiet hn
    have hbit := linkChanged_testBit n done full s.dev.quiet hraw
    rw [ethLinkChange_on n done full s.regs s.mem s.dev.quiet hon]
    cases hup : done && full with
    | true =>
      refine ⟨((within_ethStart _ _ _ _).trans (within_linkChanged n done full _)).onlyParts (by simp), ?_⟩
      obtain ⟨y, qs, hy⟩ := ethStart_mac s.regs s.mem n (linkChanged n done full s.dev.quiet) (by simpa using hn)
      simp only [if_true, settle_mac, settle_raw, ethStart_raw]
      rw [hy, hmac]
      exact ⟨hup, rfl, rfl, fun h => hbit (hup ▸ h), fun h => absurd h (by decide)⟩
    | false =>
      refine ⟨((within_ethFlush _ _).trans (within_linkChanged n done full _)).onlyParts (by simp), ?_⟩
      simp only [Bool.false_eq_true, if_false, settle_mac, settle_raw]
      have hflush := ethFlush_mac n (linkChanged n done full s.dev.quiet) (by simpa using hn)
      rw [hflush, hmac]
      refine ⟨hup, rfl, rfl, fun h => ?_, fun _ => ⟨rfl, rfl, ?_⟩⟩
      · exact flushed_testBit _ _ _ _ _ (hbit (hup ▸ h))
      · simp only [List.length_append, List.length_map, waiting_length, quiet_mac, Nat.add_assoc]

end Sys2Proof
end

section
/-! PROOFS. Raw interrupt bits through the steps of a command: no step takes one back. -/

namespace Sys2Proof

open Sys2Proof.Machine

/-- No raw interrupt bit of `a` is taken back in `b`. -/
structure Raised (b a : Dev) : Prop where
  length : b.irq.raw.length = a.irq.raw.length
  bit : ∀ p j, (at' a.irq.raw p).testBit j = true → (at' b.irq.raw p).testBit j = true

theorem Raised.of_raw {b a : Dev} (h : b.irq.raw = a.irq.raw) : Raised b a := ⟨by rw [h], fun p j hb => by rw [h]; exact hb⟩

theorem Raised.refl (d : Dev) : Raised d d := .of_raw rfl

theorem Raised.trans {c b a : Dev} (h : Raised c b) (g : Raised b a) : Raised c a :=
  ⟨h.length.trans g.length, fun p j hb => h.bit p j (g.bit p j hb)⟩

theorem Raised.ite {c : Prop} [Decidable c] {a b d : Dev} (ha : Raised a d) (hb : Raised b d) : Raised (if c then a else b) d := by
  split
  · exact ha
  · exact hb

theorem Raised.when {c : Prop} [Decidable c] {b a : Dev} (h : Raised b a) : Raised (if c then b else a) a := .ite h (.refl a)

theorem raised_raise (p b : Nat) (d : Dev) : Raised (raise p b d) d := ⟨raise_raw_length p b d, fun q j h => raise_testBit_mono p b q j d h⟩

theorem raised_raiseIf (c : Bool) (p b : Nat) (d : Dev) : Raised (raiseIf c p b d) d := .when (raised_raise p b d)

theorem raised_emit (o : Output) (d : Dev) : Raised (emit o d) d := .of_raw rfl

/-- The mark of lost records raises RECORDS_LOST alone. -/
theorem raised_lostRecord (d : Dev) : Raised (lostRecord d) d := by
  unfold lostRecord
  split
  · exact .refl d
  · exact (raised_raise 0x29 1 _).trans (.of_raw rfl)

theorem raised_enter (win : Nat) (x : EvRec) (more : List EvRec) (d : Dev) : Raised (enter win x more d) d :=
  (Raised.of_raw (congrArg IrqSt.raw (enter_irq win x more d))).trans (raised_lostRecord d)

theorem raised_record (r : Regs) (e : Ev) (p : Par) (d : Dev) : Raised (record r e p d) d := raised_enter _ _ _ d

theorem raised_recordCont (r : Regs) (e : Ev) (p q : Par) (d : Dev) : Raised (recordCont r e p q d) d := raised_enter _ _ _ d

theorem within_recordCont (r : Regs) (e : Ev) (p q : Par) (d : Dev) : Within [.irq, .evt] (recordCont r e p q d) d := within_enter _ _ _ d

end Sys2Proof
end

section
/-! PROOFS. Time bases, servos and device time: holdover, clock step, pulse and time message, snapshot and step of a base. -/

namespace Sys2Proof

open Sys2Proof.Machine

/-! ### Bases -/

@[simp] theorem settle_tb (r : Regs) (d : Dev) (i : Nat) : (settle r d).tb i = d.tb i := by simp [Dev.tb]

theorem Dev.tb_of_tim {b a : Dev} (h : b.tim.tb = a.tim.tb) (i : Nat) : b.tb i = a.tb i := congrArg (fun l => at' l i) h

theorem modTb_tb_self (d : Dev) (i : Nat) (f : TimeBase → TimeBase) (h : i < d.tim.tb.length) : (d.modTb i f).tb i = f (d.tb i) :=
  at'_modAt_self _ _ _ h

theorem modTb_tb_other (d : Dev) (i j : Nat) (f : TimeBase → TimeBase) (h : j ≠ i) : (d.modTb i f).tb j = d.tb j :=
  at'_modAt_other _ _ _ _ h.symm

theorem within_modTb (d : Dev) (i : Nat) (f : TimeBase → TimeBase) : Within [.tim] (d.modTb i f) d := within_tim d _

theorem within_modSrv (i : Nat) (f : Servo → Servo) (d : Dev) : Within [.tim] (modSrv i f d) d := within_tim d _

/-- An increment moves no time. -/
theorem modTb_setInc_tb0 (d : Dev) (v : Nat) : (d.modTb 0 fun t => t.setInc v).tb0 = d.tb0 := by
  unfold Dev.tb0
  by_cases h : 0 < d.tim.tb.length
  · rw [modTb_tb_self d 0 _ h]
    rfl
  · rw [show d.tb 0 = default from at'_of_length_le _ _ (Nat.not_lt.1 h),
      show (d.modTb 0 _).tb 0 = default from at'_of_length_le _ _ (by simpa [Dev.modTb] using Nat.not_lt.1 h)]

/-! ### Steps of a base -/

theorem within_shiftLaunches_other (r : Regs) (b : Nat) (dt : Int) (d : Dev) (h : b ≠ 0) : Within [.eth] (shiftLaunches r b dt d) d := by
  simp only [shiftLaunches, if_neg h]
  exact within_eth d _

theorem within_shiftLaunches (r : Regs) (b : Nat) (dt : Int) (d : Dev) : Within [.can, .eth] (shiftLaunches r b dt d) d := by
  by_cases h : b = 0
  · simp only [shiftLaunches, if_pos h]
    have hcan := within_can d { d.can with ch := d.can.ch.map fun c => { c with launchAt := c.launchAt.map fun e => (e.1, wrapU 64 ((e.2 : Int) + dt)) } }
    exact (Within.trans (l := [.eth]) (within_eth _ _) hcan).mono (by simp)
  · exact (within_shiftLaunches_other r b dt d h).mono (by simp)

/-- Base `b` stepped with its launches, before the event and its record. -/
def baseStepped (r : Regs) (b : Nat) (dt : Int) (d : Dev) : Dev := shiftLaunches r b dt (d.modTb b fun t => t.step dt)

theorem within_baseStepped (r : Regs) (b : Nat) (dt : Int) (d : Dev) (h : b ≠ 0) : Within [.tim, .eth] (baseStepped r b dt d) d :=
  ((within_shiftLaunches_other r b dt _ h).trans (within_modTb d b _)).mono (by simp)

theorem baseStepped_tb (r : Regs) (b : Nat) (dt : Int) (d : Dev) (h : b ≠ 0) (i : Nat) :
    (baseStepped r b dt d).tb i = (d.modTb b fun t => t.step dt).tb i :=
  Dev.tb_of_tim (congrArg TimSt.tb ((within_shiftLaunches_other r b dt _ h).agree .tim (by simp))) i

/-- Settles O20. -/
theorem timeBaseSnapAndStep : Obligations.TimeBaseSnapAndStep := by
  unfold Obligations.TimeBaseSnapAndStep
  refine ⟨fun s => ?_, fun s => ?_, fun s => ?_⟩
  · refine ⟨_, onDev_next s (fun _ d => { d with tim := { d.tim with snap := d.tim.tb } }), (within_tim s.dev.quiet _).onlyParts (by simp), ?_⟩
    rw [settle_tim]
    rfl
  · intro b hb hlen hraw
    have hb0 : b ≠ 0 := by omega
    have hgo : timStepGo s.regs s.dev.quiet = (s.regs, recordCont s.regs .tbStep
        (Par.wide (s.dev.quiet.tb b).total b) (Par.wide (wrapU 64 (wrapS 64
          (s.regs.get F.TIM_STEP_LO_STEP_LO + 2 ^ 32 * s.regs.get F.TIM_STEP_HI_STEP_HI : Nat))) 0) (raise 0x21 4
          (baseStepped s.regs b (wrapS 64 (s.regs.get F.TIM_STEP_LO_STEP_LO + 2 ^ 32 * s.regs.get F.TIM_STEP_HI_STEP_HI : Nat)) s.dev.quiet))) :=
      if_pos hb
    refine ⟨_, onRegs_next s timStepGo, ?_⟩
    simp only [hgo]
    have hbase := within_baseStepped s.regs b
      (wrapS 64 (s.regs.get F.TIM_STEP_LO_STEP_LO + 2 ^ 32 * s.regs.get F.TIM_STEP_HI_STEP_HI : Nat)) s.dev.quiet hb0
    have htb := baseStepped_tb s.regs b
      (wrapS 64 (s.regs.get F.TIM_STEP_LO_STEP_LO + 2 ^ 32 * s.regs.get F.TIM_STEP_HI_STEP_HI : Nat)) s.dev.quiet hb0
    have hkept (d : Dev) (p q : Par) (i : Nat) : (recordCont s.regs .tbStep p q (raise 0x21 4 d)).tb i = d.tb i :=
      Dev.tb_of_tim (congrArg TimSt.tb (((within_recordCont s.regs .tbStep p q _).trans (within_raise 0x21 4 d)).agree .tim (by simp))) i
    refine ⟨((within_recordCont _ _ _ _ _).trans ((within_raise 0x21 4 _).trans hbase)).onlyParts (by simp), ?_, ?_, fun i hi => ?_⟩
    · rw [settle_raw]
      refine (raised_recordCont _ _ _ _ _).bit _ _ (raise_testBit_self _ _ _ ?_)
      exact (hbase.agree .irq (by simp) : _) ▸ hraw
    · rw [settle_tb, hkept, htb, modTb_tb_self s.dev.quiet b _ hlen]
      rfl
    · rw [settle_tb, hkept, htb, modTb_tb_other s.dev.quiet b i _ hi]
      rfl
  · intro b h1 h2
    have hno : timStepGo s.regs s.dev.quiet = (s.regs.reject 0x21 0x98 3, s.dev.quiet) := if_neg (by omega)
    refine ⟨_, onRegs_next s timStepGo, ?_⟩
    simp only [hno]
    exact ⟨onlyParts_quiet [] { s with regs := s.regs.reject 0x21 0x98 3 } _, trivial⟩

/-! ### Holdover -/

/-- TB0 in state `st`, with the interrupts up to the lock. -/
def stateTaken (st : TimeState) (d : Dev) : Dev :=
  raiseIf (st == .locked && !(d.gns2.st == .locked)) 0x21 0 (raiseIf (st == .locked && (d.gns2.st == .holdover || d.gns2.st == .slewing)) 0x0E 2
    { d with gns2 := { d.gns2 with st := st } })

theorem setTime_eq (st : TimeState) (d : Dev) :
    setTime st d = raiseIf (d.gns2.st == .locked && !(st == .locked)) 0x21 1 (stateTaken st d) := rfl

theorem raised_stateTaken (st : TimeState) (d : Dev) : Raised (stateTaken st d) d :=
  (raised_raiseIf _ _ _ _).trans ((raised_raiseIf _ _ _ _).trans (.of_raw rfl))

theorem raised_setTime (st : TimeState) (d : Dev) : Raised (setTime st d) d := (raised_raiseIf _ _ _ _).trans (raised_stateTaken st d)

theorem within_setTime (st : TimeState) (d : Dev) : Within [.irq, .gns2] (setTime st d) d :=
  ((within_raiseIf _ _ _ _).trans ((within_raiseIf _ _ _ _).trans ((within_raiseIf _ _ _ _).trans (within_gns2 d _)))).mono
    (l := [.irq] ++ ([.irq] ++ ([.irq] ++ [.gns2]))) (by simp)

@[simp] theorem setTime_gns2 (st : TimeState) (d : Dev) : (setTime st d).gns2 = { d.gns2 with st := st } := by
  simp [setTime]

@[simp] theorem setTime_st (st : TimeState) (d : Dev) : (setTime st d).gns2.st = st := by rw [setTime_gns2]

@[simp] theorem setTime_stepAt (st : TimeState) (d : Dev) : (setTime st d).gns2.stepAt = d.gns2.stepAt := by rw [setTime_gns2]

/-- Leaving LOCKED raises the loss of lock of TIM. -/
theorem setTime_lost (st : TimeState) (d : Dev) (h : d.gns2.st = .locked) (hst : st ≠ .locked) (hlen : 0x21 < d.irq.raw.length) :
    (at' (setTime st d).irq.raw 0x21).testBit 1 = true := by
  have hlost : (d.gns2.st == .locked && !(st == .locked)) = true := by simp [h, hst]
  rw [setTime_eq, hlost]
  exact raise_testBit_self _ _ _ ((raised_stateTaken st d).length ▸ hlen)

/-- TB0 free of a pending step and of its servo's history, before the entry into HOLDOVER. -/
def stepDropped (d : Dev) : Dev :=
  modSrv 0 (fun s => { s with lastAt := none }) { d with gns2 := { d.gns2 with stepAt := none, cand := [], held := false } }

/-- A holdover from the present second with the rms of the last offsets as its error. -/
def holdBegun (d : Dev) : Dev :=
  { d with gns2 := { d.gns2 with
    holdStart := d.tb0, holdBase := 0, e0 := ofsRms d.gns2.hist, estErr := ofsRms d.gns2.hist, limitPassed := false } }

theorem tb0Holdover_locked (d : Dev) (h : d.gns2.st = .locked) :
    tb0Holdover d = raise 0x21 2 (raise 0x0E 1 (setTime .holdover (holdBegun (stepDropped d)))) := by
  have hst : (stepDropped d).gns2.st = .locked := h
  show (match (stepDropped d).gns2.st with
    | .locked | .slewing => raise 0x21 2 (raise 0x0E 1 (setTime .holdover (holdBegun (stepDropped d))))
    | _ => stepDropped d) = _
  rw [hst]

theorem within_holdBegun (d : Dev) : Within [.gns2, .tim] (holdBegun (stepDropped d)) d :=
  ((within_gns2 _ _).trans ((within_modSrv 0 _ _).trans (within_gns2 d _))).mono (by simp)

/-- The device at the error update of a holdover. -/
def holdUpdated (r : Regs) (d : Dev) : Dev :=
  let e := ((holdErr r d.gns2.e0 d.holdAge).round).toNat
  { d with gns2 := { d.gns2 with
    estErr := min e (2 ^ 32 - 1), limitPassed := d.gns2.limitPassed || decide (r.get F.GNS2_HOLD_LIMIT_LIMIT < e) } }

theorem holdoverErr_due (r : Regs) (d : Dev) (hst : d.gns2.st = .holdover) (hs : (d.tb0 - d.gns2.holdStart) % nsPerSec < 5) :
    holdoverErr r d = raiseIf (decide (r.get F.GNS2_HOLD_LIMIT_LIMIT < ((holdErr r d.gns2.e0 d.holdAge).round).toNat) && !(d.gns2.limitPassed))
      0x0E 4 (holdUpdated r d) :=
  if_pos (by simp [hst, hs])

/-! ### The clock step -/

theorem within_shiftStamps (dt : Int) (d : Dev) : Within [.fus, .src] (shiftStamps dt d) d := by
  refine ⟨rfl, fun p hp => ?_⟩
  cases p
  case fus | src => exact absurd hp (by simp)
  all_goals rfl

theorem within_realignCuts (dt : Int) (d : Dev) : Within [.mde] (realignCuts dt d) d := within_mde d _

theorem within_regrid (r : Regs) (d : Dev) : Within [.flt] (regrid r d) d := within_flt d _

/-- The record of a step, entered with the time before it. -/
def stepRecorded (r : Regs) (dt : Int) (d : Dev) : Dev :=
  let kind := if d.gns2.st == .unsync then 1 else if d.followsPartner then 2 else if srvSrc r d 0 ≠ 1 then 3 else 0
  let x := record r .clockStep (Par.wide ((d.tb 0).step dt).total kind) d
  { x with evt := { x.evt with stepAt := some (x.now, d.tb0) } }

theorem within_stepRecorded (r : Regs) (dt : Int) (d : Dev) : Within [.irq, .evt] (stepRecorded r dt d) d := by
  have h : Within ([.evt] ++ [.irq, .evt]) (stepRecorded r dt d) d := (within_evt _ _).trans (within_record r _ _ d)
  exact h.mono (by simp)

theorem raised_stepRecorded (r : Regs) (dt : Int) (d : Dev) : Raised (stepRecorded r dt d) d :=
  Raised.trans (b := record r .clockStep _ d) (.of_raw rfl) (raised_record r _ _ d)

/-- TB0 moved, its servo at rest and its increment that of the integral. -/
def stepMoved (r : Regs) (dt : Int) (d : Dev) : Dev :=
  let fm := r.f64 F.TIM_SRV_FMAX_FREQ_MAX 0
  let m := d.modTb 0 fun t => t.step dt
  let y := F64.clamp (m.srv 0).i.to64 fm.neg fm
  (modSrv 0 (fun s => { s with p := F32.zero, y := y.to32, lastAt := none }) m).modTb 0 fun t => t.setInc (incOf y)

theorem within_stepMoved (r : Regs) (dt : Int) (d : Dev) : Within [.tim] (stepMoved r dt d) d :=
  Within.mono (l := [.tim] ++ ([.tim] ++ [.tim]))
    ((within_modTb _ 0 _).trans ((within_modSrv 0 _ _).trans (within_modTb d 0 _))) (by simp)

theorem stepMoved_tb0 (r : Regs) (dt : Int) (d : Dev) (h : 0 < d.tim.tb.length) : (stepMoved r dt d).tb0 = ((d.tb 0).step dt).total :=
  (modTb_setInc_tb0 _ _).trans (congrArg TimeBase.total (modTb_tb_self d 0 _ h))

theorem stepMoved_tb_other (r : Regs) (dt : Int) (d : Dev) (i : Nat) (h : i ≠ 0) : (stepMoved r dt d).tb i = d.tb i :=
  (modTb_tb_other _ 0 i _ h).trans (modTb_tb_other d 0 i _ h)

/-- What is stored as an instant of TB0 moves with the step. -/
def stepFollowed (r : Regs) (dt : Int) (d : Dev) : Dev := regrid r (realignCuts dt (shiftStamps dt (shiftLaunches r 0 dt d)))

theorem within_stepFollowed (r : Regs) (dt : Int) (d : Dev) : Within [.can, .eth, .fus, .src, .mde, .flt] (stepFollowed r dt d) d :=
  ((within_regrid r _).trans ((within_realignCuts dt _).trans ((within_shiftStamps dt _).trans (within_shiftLaunches r 0 dt d)))).mono (by simp)

/-- GNS2 after a step: nothing pends, and the pulses passed over are skipped. -/
def stepEnded (dt : Int) (old new : Nat) (d : Dev) : Dev :=
  let passed := if old < new then new / nsPerSec else d.gns2.skipTo
  { d with gns2 := { d.gns2 with
    stepAt := none, cand := [], held := false, stepped := true, skipTo := max d.gns2.skipTo passed, thetaAt := wrapU 64 ((d.gns2.thetaAt : Int) + dt) } }

/-- A pulse due too soon after a step is skipped. -/
def nearSkipped (r : Regs) (d : Dev) : Dev :=
  if decide (pulseTime r (Dev.nextPulse r d) - (d.tb0 : Int) < 200000000) then
    { d with gns2 := { d.gns2 with skipTo := Dev.nextPulse r d, suppressed := true } }
  else d

/-- GNS2 after a step of TB0 from `old` to `new`. -/
def stepClosed (r : Regs) (dt : Int) (old new : Nat) (d : Dev) : Dev := nearSkipped r (stepEnded dt old new d)

theorem within_nearSkipped (r : Regs) (d : Dev) : Within [.gns2] (nearSkipped r d) d := .when (within_gns2 d _)

theorem within_stepClosed (r : Regs) (dt : Int) (old new : Nat) (d : Dev) : Within [.gns2] (stepClosed r dt old new d) d :=
  ((within_nearSkipped r _).trans (within_gns2 d _)).mono (by simp)

theorem stepClosed_stepAt (r : Regs) (dt : Int) (old new : Nat) (d : Dev) : (stepClosed r dt old new d).gns2.stepAt = none := by
  unfold stepClosed nearSkipped
  split_ifs <;> rfl

theorem stepTb0_eq (r : Regs) (dt : Int) (d : Dev) :
    stepTb0 r dt d = raise 0x21 4 (raise 0x0E 3 (stepClosed r dt d.tb0 (stepMoved r dt (stepRecorded r dt d)).tb0
      (stepFollowed r dt (stepMoved r dt (stepRecorded r dt d))))) := by
  unfold stepTb0
  extract_lets old kind d1 e d2 d3 new fm y d4 d5 d6 passed g1 d7 s near g2 d8
  have h2 : d2 = stepRecorded r dt d := rfl
  clear_value d2
  subst h2
  have h5 : d5 = stepMoved r dt (stepRecorded r dt d) := rfl
  have hnew : new = d5.tb0 := (modTb_setInc_tb0 d4 (incOf y)).symm
  clear_value d5
  subst h5
  have h6 : d6 = stepFollowed r dt (stepMoved r dt (stepRecorded r dt d)) := rfl
  clear_value new d6
  subst hnew h6
  rfl

theorem within_stepTb0 (r : Regs) (dt : Int) (d : Dev) :
    Within [.irq, .gns2, .can, .eth, .fus, .src, .mde, .flt, .tim, .evt] (stepTb0 r dt d) d := by
  rw [stepTb0_eq]
  exact ((within_raise _ _ _).trans ((within_raise _ _ _).trans ((within_stepClosed _ _ _ _ _).trans ((within_stepFollowed _ _ _).trans
    ((within_stepMoved _ _ _).trans (within_stepRecorded r dt d)))))).mono (by simp)

/-- A step moves TB0 by its size and no other base. -/
theorem stepTb0_tb (r : Regs) (dt : Int) (d : Dev) (h : 0 < d.tim.tb.length) :
    (stepTb0 r dt d).tb0 = ((d.tb 0).step dt).total ∧ ∀ i, i ≠ 0 → (stepTb0 r dt d).tb i = d.tb i := by
  have hrec : (stepRecorded r dt d).tim = d.tim := (within_stepRecorded r dt d).agree .tim (by simp)
  have hend : (stepTb0 r dt d).tim = (stepMoved r dt (stepRecorded r dt d)).tim := by
    rw [stepTb0_eq]
    exact ((within_raise _ _ _).trans ((within_raise _ _ _).trans ((within_stepClosed _ _ _ _ _).trans (within_stepFollowed _ _ _)))).agree
      .tim (by simp)
  have htb (i : Nat) := Dev.tb_of_tim (congrArg TimSt.tb hend) i
  have hold (i : Nat) : (stepRecorded r dt d).tb i = d.tb i := Dev.tb_of_tim (congrArg TimSt.tb hrec) i
  refine ⟨?_, fun i hi => ?_⟩
  · rw [Dev.tb0, htb, ← Dev.tb0, stepMoved_tb0 r dt _ (hrec ▸ h), hold]
  · rw [htb, stepMoved_tb_other r dt _ i hi, hold]

theorem raised_stepFollowed (r : Regs) (dt : Int) (d : Dev) : Raised (stepFollowed r dt d) d :=
  .of_raw (congrArg IrqSt.raw ((within_stepFollowed r dt d).agree .irq (by simp)))

theorem raised_stepClosed (r : Regs) (dt : Int) (old new : Nat) (d : Dev) : Raised (stepClosed r dt old new d) d :=
  .of_raw (congrArg IrqSt.raw ((within_stepClosed r dt old new d).agree .irq (by simp)))

theorem stepTb0_testBit (r : Regs) (dt : Int) (d : Dev) (h : 0x21 < d.irq.raw.length) :
    (at' (stepTb0 r dt d).irq.raw 0x0E).testBit 3 = true ∧ (at' (stepTb0 r dt d).irq.raw 0x21).testBit 4 = true := by
  rw [stepTb0_eq]
  have hmoved : Raised (stepMoved r dt (stepRecorded r dt d)) d := Raised.trans (b := stepRecorded r dt d) (.of_raw rfl) (raised_stepRecorded r dt d)
  have hlen : 0x21 < (stepClosed r dt d.tb0 (stepMoved r dt (stepRecorded r dt d)).tb0
      (stepFollowed r dt (stepMoved r dt (stepRecorded r dt d)))).irq.raw.length := by
    rw [((raised_stepClosed r dt _ _ _).trans ((raised_stepFollowed r dt _).trans hmoved)).length]
    exact h
  exact ⟨raise_testBit_mono _ _ _ _ _ (raise_testBit_self _ _ _ (by omega)), raise_testBit_self _ _ _ (by simpa using hlen)⟩

theorem stepTb0_stepAt (r : Regs) (dt : Int) (d : Dev) : (stepTb0 r dt d).gns2.stepAt = none := by
  rw [stepTb0_eq, raise_gns2, raise_gns2, stepClosed_stepAt]

theorem clockStep_due (r : Regs) (d : Dev) (a : Nat) (h : d.gns2.stepAt = some a) (ha : a ≤ d.tb0) (hw : d.awake = true) :
    clockStep r d = setTime .locked (stepTb0 r (-(d.gns2.stepOfs)) d) := by
  simp only [clockStep, h]
  exact if_pos ⟨ha, hw⟩

/-- Settles O18. -/
theorem deviceTimeHoldoverAndStep : Obligations.DeviceTimeHoldoverAndStep := by
  unfold Obligations.DeviceTimeHoldoverAndStep
  refine ⟨fun s hw hm hsil hst hraw => ?_, fun s hst hs hraw => ?_, fun s a ha hdue hw hraw htb => ?_⟩
  · refine ⟨_, onDev_next s holdoverEntry, ?_⟩
    have hent : holdoverEntry s.regs s.dev.quiet = raise 0x21 2 (raise 0x0E 1 (setTime .holdover (holdBegun (stepDropped s.dev.quiet)))) :=
      (if_pos (by simp only [Bool.and_eq_true, beq_iff_eq]; exact ⟨⟨hw, hm⟩, hsil⟩)).trans (tb0Holdover_locked s.dev.quiet hst)
    rw [hent]
    have hlost := setTime_lost .holdover (holdBegun (stepDropped s.dev.quiet)) hst (by decide) hraw
    have hlen : 0x21 < (setTime .holdover (holdBegun (stepDropped s.dev.quiet))).irq.raw.length := by
      rw [(raised_setTime _ _).length]
      exact hraw
    have htim : (setTime .holdover (holdBegun (stepDropped s.dev.quiet))).tim = (holdBegun (stepDropped s.dev.quiet)).tim :=
      (within_setTime .holdover _).agree .tim (by simp)
    refine ⟨((within_raise _ _ _).trans ((within_raise _ _ _).trans ((within_setTime _ _).trans (within_holdBegun s.dev.quiet)))).onlyParts (by simp),
      ?_⟩
    rw [settle_raw, settle_gns2, settle_tim, raise_gns2, raise_gns2, raise_tim, raise_tim, setTime_gns2]
    refine ⟨rfl, rfl, rfl, rfl, (congrArg TimSt.tb htim).trans rfl, ?_, ?_, ?_⟩
    · exact raise_testBit_mono _ _ _ _ _ (raise_testBit_self _ _ _ (by omega))
    · exact raise_testBit_mono _ _ _ _ _ (raise_testBit_mono _ _ _ _ _ hlost)
    · exact raise_testBit_self _ _ _ (by simpa using hlen)
  · intro e
    refine ⟨_, onDev_next s holdoverErr, ?_⟩
    rw [holdoverErr_due s.regs s.dev.quiet hst hs]
    refine ⟨((within_raiseIf _ _ _ _).trans (within_gns2 s.dev.quiet _)).onlyParts (by simp), ?_⟩
    rw [settle_raw, settle_gns2, raiseIf_gns2]
    refine ⟨rfl, hst, fun he => ⟨?_, fun hp => ?_⟩⟩
    · exact Bool.or_eq_true_iff.2 (.inr (decide_eq_true he))
    · have hfirst : (decide (s.regs.get F.GNS2_HOLD_LIMIT_LIMIT < e) && !(s.dev.gns2.limitPassed)) = true := by simp [he, hp]
      exact (congrArg (fun c => (at' (raiseIf c 0x0E 4 (holdUpdated s.regs s.dev.quiet)).irq.raw 0x0E).testBit 4) hfirst).trans
        (raise_testBit_self _ _ _ hraw)
  · refine ⟨_, onDev_next s clockStep, ?_⟩
    rw [clockStep_due s.regs s.dev.quiet a ha hdue hw]
    generalize hdt : -(s.dev.quiet.gns2.stepOfs) = dt
    have hkeep := within_setTime .locked (stepTb0 s.regs dt s.dev.quiet)
    have htbs := stepTb0_tb s.regs dt s.dev.quiet htb
    have hbits := stepTb0_testBit s.regs dt s.dev.quiet hraw
    have hstep := stepTb0_stepAt s.regs dt s.dev.quiet
    have hbase (i : Nat) := Dev.tb_of_tim (congrArg TimSt.tb (hkeep.agree .tim (by simp))) i
    have hraised := raised_setTime .locked (stepTb0 s.regs dt s.dev.quiet)
    refine ⟨(hkeep.trans (within_stepTb0 s.regs dt s.dev.quiet)).onlyParts (by simp), ?_⟩
    rw [settle_raw, settle_gns2, setTime_st, setTime_stepAt, Dev.tb0, settle_tb, hbase, ← Dev.tb0, htbs.1]
    refine ⟨rfl, hstep, ?_, fun i hi => ?_, hraised.bit _ _ hbits.1, hraised.bit _ _ hbits.2⟩
    · rw [← hdt]
      rfl
    · rw [settle_tb, hbase, htbs.2 i hi]
      rfl

end Sys2Proof
end

section
/-! PROOFS. The time pulse and its message, the kept data and the refresh of DORMANT. -/

namespace Sys2Proof

open Sys2Proof.Machine

/-- A pulse of second `sec` goes out. -/
theorem ppsPulse_due (r : Regs) (d : Dev) (sec : Nat) (hsec : (((d.tb0 : Int) + r.int F.GNS2_PPS_ADV_ADV) / nsPerSec).toNat = sec)
    (hw : d.awake = true) (hp : ppsAllowed r d = true) (hlast : ∀ p, d.gns2.pulsed = some p → p < sec) (hskip : d.gns2.skipTo < sec)
    (hnow : (d.tb0 : Int) - pulseTime r sec < 5) :
    ppsPulse r d = emit (.pin pinPps (!(r.bit F.GNS2_PPS_CFG_POL))) { d with gns2 := { d.gns2 with
      pulsed := some sec, pps := !(r.bit F.GNS2_PPS_CFG_POL), pulseEnd := some (d.now + ticksUs (r.get F.GNS2_PPS_CFG_WIDTH)),
      qerr := qerrOf r d sec (d.tb 0).fine, stepped := false } } := by
  subst hsec
  refine if_pos ?_
  cases hl : d.gns2.pulsed with
  | none =>
    rw [hw, hp, decide_eq_true hskip, decide_eq_true hnow]
    rfl
  | some p =>
    rw [hw, hp, decide_eq_true hskip, decide_eq_true hnow]
    exact Bool.and_eq_true_iff.2 ⟨Bool.and_eq_true_iff.2 ⟨rfl, Bool.and_eq_true_iff.2 ⟨decide_eq_true (hlast p hl), rfl⟩⟩, rfl⟩

theorem ppsPulseEnd_due (r : Regs) (d : Dev) (e : Nat) (h : d.gns2.pulseEnd = some e) (he : e ≤ d.now) :
    ppsPulseEnd r d = emit (.pin pinPps (r.bit F.GNS2_PPS_CFG_POL))
      { d with gns2 := { d.gns2 with pulseEnd := none, pps := r.bit F.GNS2_PPS_CFG_POL } } := by
  simp only [ppsPulseEnd, h, if_pos he]

theorem tpMsg_due (r : Regs) (d : Dev) (hw : d.awake = true) (hp : ppsAllowed r d = true)
    (hlo : 200000000 ≤ pulseTime r (Dev.nextPulse r d) - (d.tb0 : Int)) (hhi : pulseTime r (Dev.nextPulse r d) - (d.tb0 : Int) ≤ 990000000)
    (hfor : d.gns2.msgFor ≠ some (Dev.nextPulse r d)) :
    tpMsg r d = raise 0x0E 0 { d with gns2 := { d.gns2 with
      tpMsg := (List.range 8).map fun i => BitVec.ofNat 32 (leAt (tpBytes r d (Dev.nextPulse r d)) (4 * i) 4),
      msgFor := some (Dev.nextPulse r d), seq := wrapInc 16 d.gns2.seq, suppressed := false } } :=
  if_pos (by rw [hw, hp, decide_eq_true hlo, decide_eq_true hhi, bne_iff_ne.2 hfor]; rfl)

/-- Settles O19. -/
theorem pulseAndTimeMessage : Obligations.PulseAndTimeMessage := by
  unfold Obligations.PulseAndTimeMessage
  refine ⟨fun s => ?_, fun s e h he => ?_, fun s => ?_⟩
  · intro sec hw hp hlast hskip hnow
    refine ⟨_, onDev_next s ppsPulse, ?_⟩
    rw [ppsPulse_due s.regs s.dev.quiet sec rfl hw hp hlast hskip hnow]
    refine ⟨((within_emit _ _).trans (within_gns2 s.dev.quiet _)).onlyParts (by simp), ?_⟩
    rw [settle_gns2]
    exact ⟨rfl, rfl, rfl, mem_settle_out _ _ _ (mem_emit_self _ _), rfl, rfl⟩
  · refine ⟨_, onDev_next s ppsPulseEnd, ?_⟩
    rw [ppsPulseEnd_due s.regs s.dev.quiet e h he]
    refine ⟨((within_emit _ _).trans (within_gns2 s.dev.quiet _)).onlyParts (by simp), ?_, mem_settle_out _ _ _ (mem_emit_self _ _)⟩
    rw [settle_gns2]
    rfl
  · intro sec hw hp hlo hhi hfor hraw
    refine ⟨_, onDev_next s tpMsg, ?_⟩
    rw [tpMsg_due s.regs s.dev.quiet hw hp hlo hhi hfor]
    refine ⟨((within_raise _ _ _).trans (within_gns2 s.dev.quiet _)).onlyParts (by simp), ?_⟩
    rw [settle_gns2, raise_gns2, settle_raw]
    exact ⟨rfl, rfl, rfl, raise_testBit_self _ _ _ hraw⟩

theorem keptDiscard_at (r : Regs) (d : Dev) (t : Nat) (h : d.gns2.kept.at_ = some t) :
    keptDiscard r d = if t + 2592000 ≤ d.tb3 / nsPerSec then { d with gns2 := { d.gns2 with kept := {} } } else d := by
  simp only [keptDiscard, h]

theorem dormantRefresh_due (r : Regs) (d : Dev) (ha : d.mde.dorm = .asleep) (hr : r.get F.MDE_DORM_CFG_REFRESH ≠ 0)
    (ht : d.mde.refreshAt + 3600 * r.get F.MDE_DORM_CFG_REFRESH ≤ d.tb3 / nsPerSec) :
    dormantRefresh r d = { d with
      mde := { d.mde with dorm := .refresh, refreshFrom := d.tb3 / nsPerSec }
      pwr := { d.pwr with on := d.pwr.on ||| 0x28, pgood := d.pwr.pgood ||| 0x28 } } :=
  if_pos (by rw [ha, decide_eq_true hr, decide_eq_true ht]; rfl)

theorem within_mdePwr (d : Dev) (x : MdeSt) (y : PwrSt) : Within [.mde, .pwr] { d with mde := x, pwr := y } d := by
  refine ⟨rfl, fun p hp => ?_⟩
  cases p
  case mde | pwr => exact absurd hp (by simp)
  all_goals rfl

/-- The domains of a refresh: 3 and 5. -/
theorem testBit_refreshDomains (n i : Nat) : (n ||| 0x28).testBit i = (n.testBit i || i == 3 || i == 5) := by
  have h28 : Nat.testBit 0x28 i = (i == 3 || i == 5) := by
    by_cases h : i < 6
    · interval_cases i <;> rfl
    · rw [Nat.testBit_lt_two_pow (lt_of_lt_of_le (by decide : 0x28 < 2 ^ 6) (Nat.pow_le_pow_right (by decide) (Nat.not_lt.1 h)))]
      simp; omega
  rw [Nat.testBit_or, h28, Bool.or_assoc]

/-- Settles O22. -/
theorem keptDataAndRefresh : Obligations.KeptDataAndRefresh := by
  unfold Obligations.KeptDataAndRefresh
  refine ⟨fun s t0 h => ?_, fun s ha hr ht => ?_⟩
  · refine ⟨_, onDev_next s keptDiscard, ?_⟩
    rw [keptDiscard_at s.regs s.dev.quiet t0 h]
    refine ⟨(Within.when (within_gns2 s.dev.quiet _)).onlyParts (by simp), fun hd => ?_, fun hd => ?_⟩
    · rw [if_pos (show t0 + 2592000 ≤ s.dev.quiet.tb3 / nsPerSec from hd), settle_gns2]
      rfl
    · rw [if_neg (show ¬ t0 + 2592000 ≤ s.dev.quiet.tb3 / nsPerSec from Nat.not_le.2 hd), settle_gns2]
      rfl
  · refine ⟨_, onDev_next s dormantRefresh, ?_⟩
    rw [dormantRefresh_due s.regs s.dev.quiet ha hr ht]
    refine ⟨(within_mdePwr s.dev.quiet _ _).onlyParts (by simp), ?_, fun i => ?_⟩
    · rw [settle_mde]
      rfl
    · rw [settle_pwr]
      exact testBit_refreshDomains s.dev.pwr.on i

end Sys2Proof
end

section
/-! PROOFS. Servos: their sources, their lock and their holdover. -/

namespace Sys2Proof

open Sys2Proof.Machine

@[simp] theorem settle_srv (r : Regs) (d : Dev) (i : Nat) : (settle r d).srv i = d.srv i := by simp [Dev.srv]
@[simp] theorem raiseIf_srv (c : Bool) (p b : Nat) (d : Dev) (i : Nat) : (raiseIf c p b d).srv i = d.srv i := by simp [Dev.srv]
@[simp] theorem raise_srv (p b : Nat) (d : Dev) (i : Nat) : (raise p b d).srv i = d.srv i := rfl
@[simp] theorem modTb_srv (d : Dev) (b : Nat) (f : TimeBase → TimeBase) (i : Nat) : (d.modTb b f).srv i = d.srv i := rfl

theorem modSrv_srv_self (i : Nat) (f : Servo → Servo) (d : Dev) (h : i < d.tim.srv.length) : (modSrv i f d).srv i = f (d.srv i) :=
  at'_modAt_self _ _ _ h

/-- The sources and the mode of TB1 and TB2 are those of their registers. -/
theorem srvSrc_of_ne (r : Regs) (d : Dev) (b : Nat) (h : b ≠ 0) : srvSrc r d b = r.at F.TIM_SRV_CFG_SRC b := by
  simp [srvSrc, h]

theorem srvMode_of_ne (r : Regs) (d : Dev) (b : Nat) (h : b ≠ 0) : srvMode r d b = r.at F.TIM_SRV_CFG_MODE b := by
  simp [srvMode, h]

/-! ### What steering a base leaves alone -/

/-- What the servos keep of the device: no event is taken back, TIM moves in its bases and servos alone, and the offset of TB0 stays. -/
structure Steered (b a : Dev) : Prop where
  raised : Raised b a
  tim : b.tim = { a.tim with tb := b.tim.tb, srv := b.tim.srv }
  offset : b.gns2.offset = a.gns2.offset

theorem Steered.refl (d : Dev) : Steered d d := ⟨.refl d, rfl, rfl⟩

theorem Steered.trans {c b a : Dev} (h : Steered c b) (g : Steered b a) : Steered c a :=
  ⟨h.raised.trans g.raised, by rw [h.tim, g.tim], h.offset.trans g.offset⟩

theorem Steered.ite {c : Prop} [Decidable c] {a b d : Dev} (ha : Steered a d) (hb : Steered b d) : Steered (if c then a else b) d := by
  split
  · exact ha
  · exact hb

theorem steered_raise (p b : Nat) (d : Dev) : Steered (raise p b d) d := ⟨raised_raise p b d, rfl, rfl⟩

theorem steered_raiseIf (c : Bool) (p b : Nat) (d : Dev) : Steered (raiseIf c p b d) d := .ite (steered_raise p b d) (.refl d)

theorem steered_modSrv (i : Nat) (f : Servo → Servo) (d : Dev) : Steered (modSrv i f d) d := ⟨.of_raw rfl, rfl, rfl⟩

theorem steered_modTb (d : Dev) (i : Nat) (f : TimeBase → TimeBase) : Steered (d.modTb i f) d := ⟨.of_raw rfl, rfl, rfl⟩

theorem steered_gns2 (d : Dev) (x : Gns2St) (h : x.offset = d.gns2.offset) : Steered { d with gns2 := x } d := ⟨.of_raw rfl, rfl, h⟩

theorem steered_setTime (st : TimeState) (d : Dev) : Steered (setTime st d) d := by
  refine ⟨raised_setTime st d, ?_, by rw [setTime_gns2]⟩
  rw [show (setTime st d).tim = d.tim from (within_setTime st d).agree .tim (by simp)]

/-! ### The servo update -/

/-- The servo of a base after an update. -/
def servoed (r : Regs) (i : Nat) (ps : Int) (d : Dev) : Servo → Servo :=
  let s := d.srv i
  let th := F64.ofRatio ps 1000
  let fm := r.f64 F.TIM_SRV_FMAX_FREQ_MAX i
  let sm := slewMax r i
  let i' := match s.lastAt with
    | none => s.i.to64
    | some t =>
      let tau := F64.clamp (secOfNs ((d.tb3 : Int) - t)) (frac 1 1000) (F64.ofInt 16)
      F64.clamp (s.i.to64.add (((r.f64 F.TIM_SRV_KI_KI i).mul th).mul tau)) fm.neg fm
  let p0 := (r.f64 F.TIM_SRV_KP_KP i).mul th
  let p := F64.clamp p0 sm.neg sm
  let y0 := i'.add p
  let y := F64.clamp y0 fm.neg fm
  fun s => { s with
    i := i'.to32, p := p.to32, y := y.to32, ofs := wrapS 32 (ps / 1000), updates := wrapInc 16 s.updates,
    pClamp := !(p == p0), yClamp := !(y == y0), lastAt := some d.tb3, lastOfs := d.tb3 }

/-- A servo update changes its servo, sets the increment of its base and raises its clamps. -/
theorem servoUpdate_eq (r : Regs) (i : Nat) (ps : Int) (d : Dev) : ∃ yc pc v,
    servoUpdate r i ps d = raiseIf yc 0x21 3 (raiseIf pc 0x21 7 ((modSrv i (servoed r i ps d) d).modTb i fun t => t.setInc v)) :=
  ⟨_, _, _, rfl⟩

theorem within_servoUpdate (r : Regs) (i : Nat) (ps : Int) (d : Dev) : Within [.irq, .tim] (servoUpdate r i ps d) d := by
  obtain ⟨yc, pc, v, h⟩ := servoUpdate_eq r i ps d
  rw [h]
  exact ((within_raiseIf _ _ _ _).trans ((within_raiseIf _ _ _ _).trans ((within_modTb _ i _).trans (within_modSrv i _ d)))).mono (by simp)

theorem steered_servoUpdate (r : Regs) (i : Nat) (ps : Int) (d : Dev) : Steered (servoUpdate r i ps d) d := by
  obtain ⟨yc, pc, v, h⟩ := servoUpdate_eq r i ps d
  rw [h]
  exact (steered_raiseIf _ _ _ _).trans ((steered_raiseIf _ _ _ _).trans ((steered_modTb _ i _).trans (steered_modSrv i _ d)))

theorem servoUpdate_srv (r : Regs) (i : Nat) (ps : Int) (d : Dev) (h : i < d.tim.srv.length) :
    (servoUpdate r i ps d).srv i = servoed r i ps d (d.srv i) := by
  obtain ⟨yc, pc, v, heq⟩ := servoUpdate_eq r i ps d
  rw [heq, raiseIf_srv, raiseIf_srv, modTb_srv, modSrv_srv_self i _ d h]

theorem servoUpdate_srv_length (r : Regs) (i : Nat) (ps : Int) (d : Dev) : (servoUpdate r i ps d).tim.srv.length = d.tim.srv.length := by
  obtain ⟨yc, pc, v, h⟩ := servoUpdate_eq r i ps d
  rw [h]
  simp [modSrv, Dev.modTb]

/-! ### The lock of TB1 and TB2 -/

/-- Whether an offset of `ns` is good. -/
def goodOffset (r : Regs) (i : Nat) (ns : Int) : Bool := decide (ns.natAbs ≤ r.at F.TIM_SRV_LOCK_THR i)

/-- The servo of a base after its lock was judged by an offset of `ns`. -/
def judgedLock (r : Regs) (i : Nat) (ns : Int) (s : Servo) : Servo :=
  let g := if goodOffset r i ns then min (s.good + 1) 4 else 0
  let b := if goodOffset r i ns then 0 else min (s.bad + 1) 4
  { s with
    good := g, bad := b
    state := if g = 4 then .locked else if b = 4 then .acquiring else if s.state == .locked then .locked else .acquiring }

theorem lockJudge_eq (r : Regs) (i : Nat) (ns : Int) (d : Dev) :
    lockJudge r i ns d = raiseIf ((d.srv i).state == .locked && !((judgedLock r i ns (d.srv i)).state == .locked)) 0x21 1
      (raiseIf (!((d.srv i).state == .locked) && (judgedLock r i ns (d.srv i)).state == .locked) 0x21 0
        (modSrv i (fun s => { s with
          good := (judgedLock r i ns (d.srv i)).good, bad := (judgedLock r i ns (d.srv i)).bad, state := (judgedLock r i ns (d.srv i)).state }) d)) :=
  rfl

theorem within_lockJudge (r : Regs) (i : Nat) (ns : Int) (d : Dev) : Within [.irq, .tim] (lockJudge r i ns d) d := by
  rw [lockJudge_eq]
  exact ((within_raiseIf _ _ _ _).trans ((within_raiseIf _ _ _ _).trans (within_modSrv i _ d))).mono (by simp)

theorem steered_lockJudge (r : Regs) (i : Nat) (ns : Int) (d : Dev) : Steered (lockJudge r i ns d) d := by
  rw [lockJudge_eq]
  exact (steered_raiseIf _ _ _ _).trans ((steered_raiseIf _ _ _ _).trans (steered_modSrv i _ d))

theorem lockJudge_srv (r : Regs) (i : Nat) (ns : Int) (d : Dev) (h : i < d.tim.srv.length) :
    (lockJudge r i ns d).srv i = judgedLock r i ns (d.srv i) := by
  rw [lockJudge_eq, raiseIf_srv, raiseIf_srv, modSrv_srv_self i _ d h]
  rfl

/-- A base that locks raises its event. -/
theorem lockJudge_testBit (r : Regs) (i : Nat) (ns : Int) (d : Dev) (hraw : 0x21 < d.irq.raw.length) (hold : (d.srv i).state ≠ .locked)
    (hnew : (judgedLock r i ns (d.srv i)).state = .locked) : (at' (lockJudge r i ns d).irq.raw 0x21).testBit 0 = true := by
  have hlocks : (!((d.srv i).state == .locked) && (judgedLock r i ns (d.srv i)).state == .locked) = true := by simp [hold, hnew]
  rw [lockJudge_eq]
  refine (raised_raiseIf _ _ _ _).bit _ _ ?_
  rw [hlocks]
  exact raise_testBit_self _ _ _ hraw

theorem judgedLock_fourth_good (r : Regs) (i : Nat) (ns : Int) (s : Servo) (h : ns.natAbs ≤ r.at F.TIM_SRV_LOCK_THR i) (hg : 3 ≤ s.good) :
    (judgedLock r i ns s).state = .locked := by
  have h4 : min (s.good + 1) 4 = 4 := by omega
  simp [judgedLock, goodOffset, h, h4]

theorem judgedLock_fourth_bad (r : Regs) (i : Nat) (ns : Int) (s : Servo) (h : r.at F.TIM_SRV_LOCK_THR i < ns.natAbs) (hb : 3 ≤ s.bad) :
    (judgedLock r i ns s).state = .acquiring := by
  have h4 : min (s.bad + 1) 4 = 4 := by omega
  simp [judgedLock, goodOffset, Nat.not_le.2 h, h4]

theorem baseOffset_mode (r : Regs) (i : Nat) (ns : Int) (d : Dev) (h : srvMode r d i = 1) :
    baseOffset r i ns d = lockJudge r i ns (servoUpdate r i (1000 * ns) d) := if_pos h

theorem within_baseOffset (r : Regs) (i : Nat) (ns : Int) (d : Dev) : Within [.irq, .tim] (baseOffset r i ns d) d :=
  .when (((within_lockJudge r i ns _).trans (within_servoUpdate r i _ d)).mono (by simp))

theorem steered_baseOffset (r : Regs) (i : Nat) (ns : Int) (d : Dev) : Steered (baseOffset r i ns d) d :=
  .ite ((steered_lockJudge r i ns _).trans (steered_servoUpdate r i _ d)) (.refl d)

/-! ### Offsets of TB0 -/

theorem steered_tb0Feed (r : Regs) (ps : Int) (d : Dev) : Steered (tb0Feed r ps d) d :=
  (steered_servoUpdate r 0 ps _).trans (steered_gns2 d _ rfl)

theorem steered_ndlSend (t : NdlType) (w : List Nat) (d : Dev) : Steered (ndlSend t w d) d := ⟨.of_raw rfl, rfl, rfl⟩

/-- TB0 with an offset held back. -/
def offsetHeld (ns : Int) (d : Dev) : Dev := { d with gns2 := { d.gns2 with cand := (ns :: d.gns2.cand).take 3, held := true } }

/-- TB0 with a step set at its boundary. -/
def stepSet (ns : Int) (d : Dev) : Dev := { d with gns2 := { d.gns2 with stepAt := some d.stepBoundary, stepOfs := ns } }

theorem tb0Hold_eq (ns : Int) (d : Dev) :
    tb0Hold ns d = if agree3 ((ns :: d.gns2.cand).take 3) && (offsetHeld ns d).gns2.stepAt.isNone then
        if (stepSet ns (offsetHeld ns d)).isPrimary && (stepSet ns (offsetHeld ns d)).linkUp then
          ndlSend .stepAnnounce [(offsetHeld ns d).stepBoundary, wrapU 64 ns] (stepSet ns (offsetHeld ns d))
        else stepSet ns (offsetHeld ns d)
      else offsetHeld ns d := rfl

theorem steered_tb0Hold (ns : Int) (d : Dev) : Steered (tb0Hold ns d) d := by
  have hheld : Steered (offsetHeld ns d) d := steered_gns2 d _ rfl
  have hset : Steered (stepSet ns (offsetHeld ns d)) d := Steered.trans (b := offsetHeld ns d) ⟨.of_raw rfl, rfl, rfl⟩ hheld
  rw [tb0Hold_eq]
  exact .ite (.ite ((steered_ndlSend _ _ _).trans hset) hset) hheld

/-- TB0's offset noted, with the instant it came. -/
def offsetNoted (ps : Int) (d : Dev) : Dev :=
  modSrv 0 (fun s => { s with ofs := wrapS 32 (ps / 1000), lastOfs := d.tb3 })
    { d with gns2 := { d.gns2 with offset := ps / 1000, theta := ps, thetaAt := d.tb0, lastSol := some d.now } }

/-- TB0 without a pending step, in a state that an offset gives it. -/
def stateFed (r : Regs) (ps : Int) (st : TimeState) (d : Dev) : Dev :=
  tb0Feed r ps (setTime st { d with gns2 := { d.gns2 with stepAt := none } })

theorem steered_stateFed (r : Regs) (ps : Int) (st : TimeState) (d : Dev) : Steered (stateFed r ps st d) d :=
  (steered_tb0Feed r ps _).trans ((steered_setTime st _).trans (steered_gns2 d _ rfl))

/-- What TB0's state makes of an offset noted. -/
def offsetJudged (r : Regs) (ps : Int) (inhibit : Bool) (d : Dev) : Dev :=
  let ns := ps / 1000
  match d.gns2.st with
  | .unsync => tb0Hold ns d
  | .locked => if ns.natAbs ≤ 1000 then tb0Feed r ps d else if inhibit then tb0Feed r ps (setTime .slewing d) else tb0Hold ns d
  | _ =>
    if ns.natAbs ≤ 20 then stateFed r ps .locked d
    else if ns.natAbs ≤ 1000 || inhibit then stateFed r ps .slewing d
    else tb0Hold ns d

theorem steered_offsetJudged (r : Regs) (ps : Int) (inhibit : Bool) (d : Dev) : Steered (offsetJudged r ps inhibit d) d := by
  have hother : Steered (if (ps / 1000).natAbs ≤ 20 then stateFed r ps .locked d
      else if (ps / 1000).natAbs ≤ 1000 || inhibit then stateFed r ps .slewing d else tb0Hold (ps / 1000) d) d :=
    .ite (steered_stateFed r ps _ d) (.ite (steered_stateFed r ps _ d) (steered_tb0Hold _ d))
  unfold offsetJudged
  cases d.gns2.st with
  | unsync => exact steered_tb0Hold _ d
  | locked => exact .ite (steered_tb0Feed r ps d) (.ite ((steered_tb0Feed r ps _).trans (steered_setTime _ d)) (steered_tb0Hold _ d))
  | holdover => exact hother
  | slewing => exact hother

theorem tb0Offset_mode (r : Regs) (ps : Int) (d : Dev) (h : srvMode r d 0 = 1) : ∃ inhibit,
    tb0Offset r ps d = offsetJudged r ps inhibit (offsetNoted ps d) :=
  ⟨_, if_neg (not_not.2 h)⟩

theorem tb0Offset_offset (r : Regs) (ps : Int) (d : Dev) (h : srvMode r d 0 = 1) : (tb0Offset r ps d).gns2.offset = ps / 1000 := by
  obtain ⟨inhibit, heq⟩ := tb0Offset_mode r ps d h
  rw [heq, (steered_offsetJudged r ps inhibit _).offset]
  rfl

/-- What an offset of TB0 keeps but for the offset itself. -/
theorem tb0Offset_keeps (r : Regs) (ps : Int) (d : Dev) :
    Raised (tb0Offset r ps d) d ∧ (tb0Offset r ps d).tim = { d.tim with tb := (tb0Offset r ps d).tim.tb, srv := (tb0Offset r ps d).tim.srv } := by
  by_cases h : srvMode r d 0 = 1
  · obtain ⟨inhibit, heq⟩ := tb0Offset_mode r ps d h
    have hs := steered_offsetJudged r ps inhibit (offsetNoted ps d)
    rw [heq]
    refine ⟨hs.raised.trans (.of_raw rfl), ?_⟩
    rw [hs.tim]
    rfl
  · rw [show tb0Offset r ps d = d from if_pos h]
    exact ⟨.refl d, rfl⟩

/-! ### PPS_IN -/

/-- What an edge leaves of TIM in each of its bases: the edge's count, times and mark. -/
structure EdgeKept (b a : Dev) : Prop where
  raised : Raised b a
  edges : b.tim.ppsEdges = a.tim.ppsEdges
  times : b.tim.ppsT = a.tim.ppsT
  at_ : b.tim.ppsAt = a.tim.ppsAt

theorem EdgeKept.trans {c b a : Dev} (h : EdgeKept c b) (g : EdgeKept b a) : EdgeKept c a :=
  ⟨h.raised.trans g.raised, h.edges.trans g.edges, h.times.trans g.times, h.at_.trans g.at_⟩

theorem EdgeKept.of_tim {b a : Dev} (hr : Raised b a) (h : b.tim = { a.tim with tb := b.tim.tb, srv := b.tim.srv }) : EdgeKept b a :=
  ⟨hr, by rw [h], by rw [h], by rw [h]⟩

theorem ppsTo_other (r : Regs) (b : Nat) (d : Dev) (h : srvSrc r d b ≠ 2) : ppsTo r b d = d := if_neg fun hc => h hc.1

theorem ppsTo_keeps (r : Regs) (b : Nat) (d : Dev) : EdgeKept (ppsTo r b d) d := by
  unfold ppsTo
  by_cases hc : srvSrc r d b = 2 ∧ srvMode r d b = 1
  · rw [if_pos hc]
    dsimp only
    split_ifs
    · exact ⟨.of_raw rfl, rfl, rfl, rfl⟩
    · exact .of_tim (tb0Offset_keeps r _ d).1 (tb0Offset_keeps r _ d).2
    · exact .of_tim (steered_baseOffset r b _ d).raised (steered_baseOffset r b _ d).tim
  · rw [if_neg hc]
    exact ⟨.refl d, rfl, rfl, rfl⟩

/-- The edge counted and noted, with its event. -/
def edgeNoted (d : Dev) : Dev :=
  raise 0x21 5 { d with tim := { d.tim with
    ppsEdges := wrapInc 16 d.tim.ppsEdges, ppsT := d.tim.tb.map TimeBase.total, ppsAt := some d.now, ppsLost := false } }

theorem ppsinEdge_on (r : Regs) (d : Dev) (he : r.bit F.TIM_PPSIN_CFG_EN = true) (hw : d.awake = true) :
    ppsinEdge r d = ppsTo r 2 (ppsTo r 1 (ppsTo r 0 (edgeNoted d))) := if_pos (by rw [he, hw]; rfl)

/-- Without a base that hears PPS_IN an edge is only noted. -/
theorem ppsTo_none (r : Regs) (d : Dev) (h : ∀ b, b < 3 → srvSrc r d b ≠ 2) : ppsTo r 2 (ppsTo r 1 (ppsTo r 0 d)) = d := by
  rw [ppsTo_other r 0 d (h 0 (by decide)), ppsTo_other r 1 d (h 1 (by decide)), ppsTo_other r 2 d (h 2 (by decide))]

theorem ppsinLost_due (r : Regs) (d : Dev) (t : Nat) (he : r.bit F.TIM_PPSIN_CFG_EN = true) (ha : d.tim.ppsAt = some t)
    (ht : t + 500000000 ≤ d.now) (hl : d.tim.ppsLost = false) :
    ppsinLost r d = raise 0x21 6 { d with tim := { d.tim with ppsLost := true } } := by
  unfold ppsinLost
  simp only [ha, he, hl]
  exact if_pos (by rw [decide_eq_true (show t + ticksS 2 ≤ d.now from ht)]; rfl)

/-! ### Holdover and the second -/

theorem servoHoldover_due (tb : Nat) (r : Regs) (d : Dev) (hm : srvMode r d tb = 1) (h0 : tb ≠ 0) (h3 : tb < 3)
    (hst : (d.srv tb).state = .locked ∨ (d.srv tb).state = .acquiring)
    (ht : (d.srv tb).lastOfs + r.at F.TIM_SRV_LOCK_TIMEOUT tb * nsPerSec ≤ d.tb3) : servoHoldover tb r d = servoHold tb d := by
  unfold servoHoldover
  rw [if_neg (not_not.2 hm), if_neg h0]
  refine if_pos ⟨h3, ?_, ?_, ht⟩
  · rcases hst with h | h <;> rw [h] <;> rfl
  · rcases hst with h | h <;> rw [h] <;> rfl

/-- The servo of a base at its entry into HOLDOVER. -/
def heldServo (s : Servo) : Servo := { s with state := .holdover, lastAt := none, good := 0, bad := 0 }

theorem servoHold_eq (i : Nat) (d : Dev) :
    servoHold i d = raise 0x21 2 (raiseIf ((d.srv i).state == .locked) 0x21 1 (modSrv i heldServo d)) := rfl

/-- Second `v` of TB0 noted. -/
def secondNoted (v : Nat) (d : Dev) : Dev := { d with tim := { d.tim with secLatched := v } }

@[simp] theorem secondNoted_tb (v : Nat) (d : Dev) (i : Nat) : (secondNoted v d).tb i = d.tb i := rfl
@[simp] theorem secondNoted_tb0 (v : Nat) (d : Dev) : (secondNoted v d).tb0 = d.tb0 := rfl

/-- TB0 takes its offset from base `b` at the second, where it follows TB1 or TB2. -/
def secondOffset (r : Regs) (b : Nat) (d : Dev) : Dev := tb0Offset r (1000 * ((d.tb0 : Int) - (d.tb b).total)) d

/-- What a base makes of the second noted, by its source. -/
def secondTaken (r : Regs) (d : Dev) : Dev :=
  match srvSrc r d 0 with
  | 3 => secondOffset r 1 d
  | 4 => secondOffset r 2 d
  | _ => d

theorem tbSecondLatch_due (r : Regs) (d : Dev) (hw : d.awake = true) (hs : d.tb0 % nsPerSec < 5) (hl : d.tb0 / nsPerSec ≠ d.tim.secLatched) :
    tbSecondLatch r d = secondTaken r (secondNoted (d.tb0 / nsPerSec) d) :=
  if_pos (by rw [hw, decide_eq_true hs, bne_iff_ne.2 hl]; rfl)

theorem secondTaken_tb1 (r : Regs) (d : Dev) (h : srvSrc r d 0 = 3) : secondTaken r d = secondOffset r 1 d := by simp only [secondTaken, h]

theorem secondTaken_tb2 (r : Regs) (d : Dev) (h : srvSrc r d 0 = 4) : secondTaken r d = secondOffset r 2 d := by simp only [secondTaken, h]

theorem secondTaken_other (r : Regs) (d : Dev) (h3 : srvSrc r d 0 ≠ 3) (h4 : srvSrc r d 0 ≠ 4) : secondTaken r d = d := by
  unfold secondTaken
  split
  · next h => exact absurd h h3
  · next h => exact absurd h h4
  · rfl

/-- The second's offset is that of the base. -/
theorem secondOffset_offset (r : Regs) (b : Nat) (d : Dev) (h : srvMode r d 0 = 1) :
    (secondOffset r b d).gns2.offset = (d.tb0 : Int) - (d.tb b).total := by
  rw [secondOffset, tb0Offset_offset r _ d h]
  omega

theorem secondOffset_secLatched (r : Regs) (b : Nat) (d : Dev) : (secondOffset r b d).tim.secLatched = d.tim.secLatched := by
  rw [secondOffset, (tb0Offset_keeps r _ d).2]

theorem secondTaken_secLatched (r : Regs) (d : Dev) : (secondTaken r d).tim.secLatched = d.tim.secLatched := by
  unfold secondTaken
  split
  · exact secondOffset_secLatched r 1 d
  · exact secondOffset_secLatched r 2 d
  · rfl

theorem srvOfsIn_own (v : Nat) (r : Regs) (d : Dev) (b : Nat) (hb : r.get F.TIM_TB_SEL_TB = b) (h0 : b ≠ 0) (h3 : b < 3)
    (hs : r.at F.TIM_SRV_CFG_SRC b = 0) : srvOfsIn v r d = baseOffset r b (wrapS 32 v) d := by
  subst hb
  exact (if_neg (by rw [srvSrc_of_ne r d _ h0]; omega)).trans (if_neg h0)

theorem srvOfsIn_other (v : Nat) (r : Regs) (d : Dev) (b : Nat) (hb : r.get F.TIM_TB_SEL_TB = b) (h0 : b ≠ 0)
    (hs : r.at F.TIM_SRV_CFG_SRC b ≠ 0) : srvOfsIn v r d = d := by
  subst hb
  exact if_pos (.inl (by rw [srvSrc_of_ne r d _ h0]; exact hs))

/-- Settles O21. -/
theorem servoSourcesAndStates : Obligations.ServoSourcesAndStates := by
  unfold Obligations.ServoSourcesAndStates
  refine ⟨fun s v => ?_, fun s he hw hraw => ?_, fun s t0 he ha ht hl hraw => ?_, fun s b hb hlen hm hraw hst ht => ?_, fun s hw hs hl => ?_⟩
  · intro b hb hlen hraw
    have h0 : b ≠ 0 := by omega
    refine ⟨_, onDev_next s (srvOfsIn v), ?_⟩
    by_cases hsrc : s.regs.at F.TIM_SRV_CFG_SRC b = 0
    · rw [srvOfsIn_own v s.regs s.dev.quiet b rfl h0 (by omega) hsrc]
      refine ⟨(within_baseOffset s.regs b _ _).onlyParts (by simp), fun h => absurd hsrc h, fun _ hm => ?_⟩
      rw [baseOffset_mode s.regs b _ s.dev.quiet ((srvMode_of_ne s.regs s.dev.quiet b h0).trans hm), settle_srv, settle_raw]
      have hup := servoUpdate_srv s.regs b (1000 * wrapS 32 v) s.dev.quiet hlen
      have hraw' := (steered_servoUpdate s.regs b (1000 * wrapS 32 v) s.dev.quiet).raised.length.symm ▸ hraw
      have hjudge := lockJudge_srv s.regs b (wrapS 32 v) (servoUpdate s.regs b (1000 * wrapS 32 v) s.dev.quiet)
        ((servoUpdate_srv_length s.regs b _ s.dev.quiet).symm ▸ hlen)
      rw [hjudge]
      refine ⟨by rw [hup]; rfl, by rw [hup]; rfl, fun hthr hg => ?_, fun hthr hbad => ?_⟩
      · have hlock := judgedLock_fourth_good s.regs b (wrapS 32 v) _ hthr (hup.symm ▸ hg :
          3 ≤ ((servoUpdate s.regs b (1000 * wrapS 32 v) s.dev.quiet).srv b).good)
        exact ⟨hlock, fun hne => lockJudge_testBit s.regs b _ _ hraw' (hup.symm ▸ hne) hlock⟩
      · exact judgedLock_fourth_bad s.regs b (wrapS 32 v) _ hthr (hup.symm ▸ hbad)
    · rw [srvOfsIn_other v s.regs s.dev.quiet b rfl h0 hsrc]
      exact ⟨onlyParts_quiet _ s _, fun _ => settle_tim _ _, fun h => absurd h hsrc⟩
  · refine ⟨_, onDev_next s ppsinEdge, rfl, rfl, ?_⟩
    rw [ppsinEdge_on s.regs s.dev.quiet he hw, settle_raw, settle_tim]
    have hk := (ppsTo_keeps s.regs 2 _).trans ((ppsTo_keeps s.regs 1 _).trans (ppsTo_keeps s.regs 0 (edgeNoted s.dev.quiet)))
    refine ⟨hk.edges, hk.times, hk.at_, hk.raised.bit _ _ (raise_testBit_self _ _ _ hraw), fun h => ?_⟩
    rw [ppsTo_none s.regs (edgeNoted s.dev.quiet) h]
    exact ⟨((within_raise _ _ _).trans (within_tim s.dev.quiet _)).onlyParts (by simp), rfl⟩
  · refine ⟨_, onDev_next s ppsinLost, ?_⟩
    rw [ppsinLost_due s.regs s.dev.quiet t0 he ha ht hl]
    refine ⟨((within_raise _ _ _).trans (within_tim s.dev.quiet _)).onlyParts (by simp), ?_⟩
    rw [settle_tim, settle_raw, raise_tim]
    exact ⟨rfl, raise_testBit_self _ _ _ hraw⟩
  · refine ⟨_, onDev_next s (servoHoldover b), ?_⟩
    have h0 : b ≠ 0 := by omega
    rw [servoHoldover_due b s.regs s.dev.quiet ((srvMode_of_ne s.regs s.dev.quiet b h0).trans hm) h0 (by omega) hst ht, servoHold_eq]
    refine ⟨((within_raise _ _ _).trans ((within_raiseIf _ _ _ _).trans (within_modSrv b _ s.dev.quiet))).onlyParts (by simp), ?_⟩
    rw [settle_srv, settle_raw, raise_srv, raiseIf_srv, modSrv_srv_self b _ s.dev.quiet hlen]
    refine ⟨rfl, rfl, rfl, raise_testBit_self _ _ _ ?_⟩
    rw [(raised_raiseIf _ _ _ _).length]
    exact hraw
  · refine ⟨_, onDev_next s tbSecondLatch, rfl, rfl, ?_⟩
    rw [tbSecondLatch_due s.regs s.dev.quiet hw hs hl, settle_tim, settle_gns2]
    generalize hv : s.dev.quiet.tb0 / nsPerSec = v
    refine ⟨(secondTaken_secLatched s.regs _).trans hv.symm, fun h3 h4 => ?_, fun h3 hm => ?_, fun h4 hm => ?_⟩
    · rw [secondTaken_other s.regs (secondNoted v s.dev.quiet) h3 h4]
      exact (within_tim s.dev.quiet _).onlyParts (by simp)
    · rw [secondTaken_tb1 s.regs (secondNoted v s.dev.quiet) h3, secondOffset_offset s.regs 1 (secondNoted v s.dev.quiet) hm,
        secondNoted_tb0, secondNoted_tb]
      rfl
    · rw [secondTaken_tb2 s.regs (secondNoted v s.dev.quiet) h4, secondOffset_offset s.regs 2 (secondNoted v s.dev.quiet) hm,
        secondNoted_tb0, secondNoted_tb]
      rfl

end Sys2Proof
end

section
/-! PROOFS. Satellite signals: jamming, calibration and path faults. -/

namespace Sys2Proof

open Sys2Proof.Machine

/-! ### Paths and channels of the receiver -/

/-- A fold whose step at one index takes `P` to `Q`, with all other steps keeping both. -/
theorem foldN_at_index {α : Type} {n i : Nat} {f : Nat → α → α} {a : α} (P Q : α → Prop) (hi : i < n)
    (hbefore : ∀ j b, j < n → j ≠ i → P b → P (f j b)) (hat : ∀ b, P b → Q (f i b)) (hafter : ∀ j b, j < n → j ≠ i → Q b → Q (f j b)) (ha : P a) :
    Q (foldN n f a) := by
  have hP (m : Nat) (hm : m ≤ i) : P (foldN m f a) := by
    induction m with
    | zero => exact ha
    | succ m ih =>
      rw [foldN_succ]
      exact hbefore m _ (by omega) (by omega) (ih (by omega))
  have hQ (m : Nat) (hlo : i < m) (hm : m ≤ n) : Q (foldN m f a) := by
    induction m with
    | zero => exact absurd hlo (Nat.not_lt_zero i)
    | succ m ih =>
      rw [foldN_succ]
      by_cases h : m = i
      · subst h
        exact hat _ (hP m le_rfl)
      · exact hafter m _ (by omega) h (ih (by omega) (by omega))
  exact hQ n hi le_rfl

/-- What each step below the bound keeps, the fold keeps. -/
theorem foldN_keeps_below {α : Type} (P : α → Prop) (n : Nat) (f : Nat → α → α) (a : α) (h : ∀ j b, j < n → P b → P (f j b)) (ha : P a) :
    P (foldN n f a) := by
  induction n with
  | zero => exact ha
  | succ n ih =>
    rw [foldN_succ]
    exact h n _ (Nat.lt_succ_self n) (ih fun j b hj => h j b (by omega))

@[simp] theorem settle_path (r : Regs) (d : Dev) (p : Nat) : (settle r d).path p = d.path p := by simp [Dev.path]
@[simp] theorem raise_path (q b : Nat) (d : Dev) (p : Nat) : (raise q b d).path p = d.path p := rfl
@[simp] theorem raiseIf_path (c : Bool) (q b : Nat) (d : Dev) (p : Nat) : (raiseIf c q b d).path p = d.path p := by simp [Dev.path]
@[simp] theorem record_path (r : Regs) (e : Ev) (x : Par) (d : Dev) (p : Nat) : (record r e x d).path p = d.path p := by simp [Dev.path]

theorem modPath_path_self (p : Nat) (f : RfPath → RfPath) (d : Dev) (h : p < d.gns0.paths.length) : (modPath p f d).path p = f (d.path p) :=
  at'_modAt_self _ _ _ h

theorem modPath_path_other (p q : Nat) (f : RfPath → RfPath) (d : Dev) (h : q ≠ p) : (modPath p f d).path q = d.path q :=
  at'_modAt_other _ _ _ _ h.symm

@[simp] theorem modPath_length (p : Nat) (f : RfPath → RfPath) (d : Dev) : (modPath p f d).gns0.paths.length = d.gns0.paths.length := by
  simp [modPath]

theorem within_modPath (p : Nat) (f : RfPath → RfPath) (d : Dev) : Within [.gns0] (modPath p f d) d := within_gns0 d _

/-- Paths are enabled by the registers and the grade alone. -/
theorem pathEnabled_of_sys (r : Regs) {b a : Dev} (h : b.sys = a.sys) (p : Nat) : pathEnabled r b p = pathEnabled r a p := by
  have htw : b.tw812 = a.tw812 := congrArg (fun x : SysSt => x.grade == 1) h
  unfold pathEnabled ownPaths
  rw [htw]

/-! ### The jamming indicator -/

/-- A path with its indicator's counts, before the warnings are judged. -/
def jamMeasured (r : Regs) (p : Nat) (x : RfPath) : RfPath :=
  let n := max 1 x.gains.length
  let dg := 2 * (r.at F.GNS0_JAM_REF_G_REF p * n - x.gains.foldl (· + ·) 0) / n
  let dn := x.noise - r.at F.GNS0_JAM_REF_N_REF p
  let ji := min 255 (max dg dn)
  let w := r.at F.GNS0_JAM_THR_WARN p
  let h := r.at F.GNS0_JAM_THR_HIGH p
  { x with
    dg := min 255 dg, dn := min 255 dn, ji := ji
    warnUp := if w ≤ ji then x.warnUp + 1 else 0, warnDn := if ji + 8 < w then x.warnDn + 1 else 0
    highUp := if h ≤ ji then x.highUp + 1 else 0, highDn := if ji + 8 < h then x.highDn + 1 else 0 }

/-- Whether the warning of a path is in force after ten readings up or a hundred down. -/
def warnJudged (y : RfPath) : Bool := if y.warn then decide (y.warnDn < 100) else decide (10 ≤ y.warnUp)

theorem warnJudged_off {y : RfPath} (h : y.warn = false) : warnJudged y = decide (10 ≤ y.warnUp) := by simp [warnJudged, h]

theorem warnJudged_on {y : RfPath} (h : y.warn = true) : warnJudged y = decide (y.warnDn < 100) := by simp [warnJudged, h]

/-- The same for the higher threshold. -/
def highJudged (y : RfPath) : Bool := if y.high then decide (y.highDn < 100) else decide (10 ≤ y.highUp)

/-- A path after its reading. -/
def jamRead (r : Regs) (p : Nat) (x : RfPath) : RfPath :=
  { jamMeasured r p x with warn := warnJudged (jamMeasured r p x), high := highJudged (jamMeasured r p x) }

/-- An interrupt and an event at a change of a warning. -/
def jamTold (r : Regs) (p bit : Nat) (changed on : Bool) (d : Dev) : Dev := if changed then jamEvent r p (raiseIf on 0xC bit d) else d

theorem jamPath_eq (r : Regs) (p : Nat) (d : Dev) :
    jamPath r p d = jamTold r p 1 (highJudged (jamMeasured r p (d.path p)) != (d.path p).high) (highJudged (jamMeasured r p (d.path p)))
      (jamTold r p 0 (warnJudged (jamMeasured r p (d.path p)) != (d.path p).warn) (warnJudged (jamMeasured r p (d.path p)))
        (modPath p (fun _ => jamRead r p (d.path p)) d)) := rfl

theorem within_jamTold (r : Regs) (p bit : Nat) (changed on : Bool) (d : Dev) : Within [.irq, .evt] (jamTold r p bit changed on d) d :=
  .when (((within_record r .gnssJam _ _).trans (within_raiseIf on 0xC bit d)).mono (by simp))

theorem raised_jamTold (r : Regs) (p bit : Nat) (changed on : Bool) (d : Dev) : Raised (jamTold r p bit changed on d) d :=
  .when ((raised_record r .gnssJam _ _).trans (raised_raiseIf on 0xC bit d))

@[simp] theorem jamTold_gns0 (r : Regs) (p bit : Nat) (changed on : Bool) (d : Dev) : (jamTold r p bit changed on d).gns0 = d.gns0 :=
  (within_jamTold r p bit changed on d).agree .gns0 (by simp)

theorem within_jamPath (r : Regs) (p : Nat) (d : Dev) : Within [.irq, .evt, .gns0] (jamPath r p d) d := by
  rw [jamPath_eq]
  exact ((within_jamTold _ _ _ _ _ _).trans ((within_jamTold _ _ _ _ _ _).trans (within_modPath p _ d))).mono (by simp)

theorem raised_jamPath (r : Regs) (p : Nat) (d : Dev) : Raised (jamPath r p d) d := by
  rw [jamPath_eq]
  exact (raised_jamTold _ _ _ _ _ _).trans ((raised_jamTold _ _ _ _ _ _).trans (.of_raw rfl))

theorem jamPath_gns0 (r : Regs) (p : Nat) (d : Dev) : (jamPath r p d).gns0 = (modPath p (fun _ => jamRead r p (d.path p)) d).gns0 := by
  rw [jamPath_eq, jamTold_gns0, jamTold_gns0]

theorem jamPath_path_other (r : Regs) (p q : Nat) (d : Dev) (h : q ≠ p) : (jamPath r p d).path q = d.path q := by
  rw [Dev.path, jamPath_gns0]
  exact modPath_path_other p q _ d h

theorem jamPath_path_self (r : Regs) (p : Nat) (d : Dev) (h : p < d.gns0.paths.length) : (jamPath r p d).path p = jamRead r p (d.path p) := by
  rw [Dev.path, jamPath_gns0]
  exact modPath_path_self p _ d h

/-- A warning that comes raises its interrupt. -/
theorem jamPath_warned (r : Regs) (p : Nat) (d : Dev) (hlen : 0x0C < d.irq.raw.length) (hold : (d.path p).warn = false)
    (hnew : (jamRead r p (d.path p)).warn = true) : (at' (jamPath r p d).irq.raw 0x0C).testBit 0 = true := by
  have hj : warnJudged (jamMeasured r p (d.path p)) = true := hnew
  rw [jamPath_eq, hj, hold]
  exact (raised_jamTold _ _ _ _ _ _).bit _ _ ((raised_record r .gnssJam _ _).bit _ _ (raise_testBit_self _ _ _ hlen))

/-- What the statement says of a reading. -/
theorem jamRead_says (r : Regs) (p : Nat) (x : RfPath) :
    (jamRead r p x).dn = min 255 (x.noise - r.at F.GNS0_JAM_REF_N_REF p) ∧ (jamRead r p x).dn ≤ (jamRead r p x).ji ∧
      (jamRead r p x).dg ≤ (jamRead r p x).ji ∧ (jamRead r p x).ji ≤ 255 ∧
      (x.warn = false → r.at F.GNS0_JAM_THR_WARN p ≤ (jamRead r p x).ji → 9 ≤ x.warnUp → (jamRead r p x).warn = true) ∧
      (x.warn = false → (jamRead r p x).ji < r.at F.GNS0_JAM_THR_WARN p → (jamRead r p x).warn = false) ∧
      (x.warn = true → r.at F.GNS0_JAM_THR_WARN p ≤ (jamRead r p x).ji + 8 → (jamRead r p x).warn = true) := by
  have hdn : (jamRead r p x).dn ≤ (jamRead r p x).ji ∧ (jamRead r p x).dg ≤ (jamRead r p x).ji ∧ (jamRead r p x).ji ≤ 255 := by
    dsimp only [jamRead, jamMeasured]
    omega
  refine ⟨rfl, hdn.1, hdn.2.1, hdn.2.2, fun hw hle hup => ?_, fun hw hlt => ?_, fun hw hle => ?_⟩
  · have hcount : (jamMeasured r p x).warnUp = x.warnUp + 1 := if_pos hle
    exact (warnJudged_off (y := jamMeasured r p x) hw).trans (decide_eq_true (by omega))
  · have hcount : (jamMeasured r p x).warnUp = 0 := if_neg (Nat.not_le.2 hlt)
    exact (warnJudged_off (y := jamMeasured r p x) hw).trans (decide_eq_false (by omega))
  · have hcount : (jamMeasured r p x).warnDn = 0 := if_neg (Nat.not_lt.2 hle)
    exact (warnJudged_on (y := jamMeasured r p x) hw).trans (decide_eq_true (by omega))

/-- One path's turn in an evaluation. -/
def jamTurn (r : Regs) (p : Nat) (d : Dev) : Dev := if pathEnabled r d p then jamPath r p d else d

theorem within_jamTurn (r : Regs) (p : Nat) (d : Dev) : Within [.irq, .evt, .gns0] (jamTurn r p d) d := .when (within_jamPath r p d)

theorem raised_jamTurn (r : Regs) (p : Nat) (d : Dev) : Raised (jamTurn r p d) d := .when (raised_jamPath r p d)

theorem jamTurn_path_other (r : Regs) (p q : Nat) (d : Dev) (h : q ≠ p) : (jamTurn r p d).path q = d.path q := by
  unfold jamTurn
  split
  · exact jamPath_path_other r p q d h
  · rfl

theorem jamTurn_length (r : Regs) (p : Nat) (d : Dev) : (jamTurn r p d).gns0.paths.length = d.gns0.paths.length := by
  unfold jamTurn
  split
  · rw [jamPath_gns0, modPath_length]
  · rfl

theorem jamEval_runs (r : Regs) (d : Dev) (h : gnssRuns r d = true) : jamEval r d = foldN (ownPaths d) (jamTurn r) d := if_pos h

/-- An enabled path is read once, and a warning that it brings is raised. -/
theorem jamEval_path (r : Regs) (d : Dev) (hlen : 0x0C < d.irq.raw.length) (p : Nat) (hp : p < d.gns0.paths.length)
    (he : pathEnabled r d p = true) :
    (foldN (ownPaths d) (jamTurn r) d).path p = jamRead r p (d.path p) ∧
      ((d.path p).warn = false → (jamRead r p (d.path p)).warn = true → (at' (foldN (ownPaths d) (jamTurn r) d).irq.raw 0x0C).testBit 0 = true) := by
  have hown : p < ownPaths d := by
    simp only [pathEnabled, Bool.and_eq_true, decide_eq_true_eq] at he
    exact he.1.1
  refine foldN_at_index
    (fun b : Dev => b.path p = d.path p ∧ b.sys = d.sys ∧ b.irq.raw.length = d.irq.raw.length ∧ b.gns0.paths.length = d.gns0.paths.length)
    (fun b : Dev => b.path p = jamRead r p (d.path p) ∧
      ((d.path p).warn = false → (jamRead r p (d.path p)).warn = true → (at' b.irq.raw 0x0C).testBit 0 = true))
    hown (fun j b _ hj hb => ?_) (fun b hb => ?_) (fun j b _ hj hb => ?_) ⟨rfl, rfl, rfl, rfl⟩
  · obtain ⟨hpath, hsys, hraw, hn⟩ := hb
    exact ⟨(jamTurn_path_other r j p b hj.symm).trans hpath, ((within_jamTurn r j b).agree .sys (by simp)).trans hsys,
      (raised_jamTurn r j b).length.trans hraw, (jamTurn_length r j b).trans hn⟩
  · obtain ⟨hpath, hsys, hraw, hn⟩ := hb
    have hturn : jamTurn r p b = jamPath r p b := if_pos ((pathEnabled_of_sys r hsys p).trans he)
    rw [hturn, ← hpath]
    exact ⟨jamPath_path_self r p b (hn ▸ hp), fun hw hnew => jamPath_warned r p b (hraw ▸ hlen) hw hnew⟩
  · exact ⟨(jamTurn_path_other r j p b hj.symm).trans hb.1, fun hw hnew => (raised_jamTurn r j b).bit _ _ (hb.2 hw hnew)⟩

/-! ### The calibration -/

/-- A path whose sums start again. -/
def calCleared (x : RfPath) : RfPath := { x with calG := 0, calN := 0, calCnt := 0 }

theorem at'_map_calCleared (l : List RfPath) (p : Nat) : at' (l.map calCleared) p = calCleared (at' l p) := by
  simp only [at', List.getD_eq_getElem?_getD, List.getElem?_map]
  cases l[p]? <;> rfl

/-- The references of a path after a calibration. -/
def calPut (d : Dev) (p : Nat) (r : Regs) : Regs :=
  let x := d.path p
  if x.calCnt = 0 then r
  else (r.put F.GNS0_JAM_REF_G_REF ((2 * x.calG + x.calCnt) / (2 * x.calCnt)) 0 0 p).put F.GNS0_JAM_REF_N_REF
         (min 255 ((2 * x.calN + x.calCnt) / (2 * x.calCnt))) 0 0 p

theorem jamCalDone_due (r : Regs) (d : Dev) (hc : d.gns0.cal = true) (hn : 10000 ≤ d.gns0.calEpochs) :
    jamCalDone r d = (foldN (ownPaths d) (calPut d) r, { d with gns0 := { d.gns0 with cal := false } }) :=
  if_pos (by rw [hc, decide_eq_true hn]; rfl)

theorem ownPaths_le (d : Dev) : ownPaths d ≤ 4 := by
  unfold ownPaths
  split <;> omega

theorem get_put_self (r : Regs) (f : Fd) (v inst arr i j : Nat) : (r.put f v inst arr i j).get f inst arr i j = v % 2 ^ f.width :=
  sget_sput_self _ _ _ _

theorem get_put_other (r : Regs) (f g : Fd) (v inst arr i j inst' arr' i' j' : Nat) (h : f.key inst arr i j ≠ g.key inst' arr' i' j') :
    (r.put f v inst arr i j).get g inst' arr' i' j' = r.get g inst' arr' i' j' := sget_sput_key _ _ _ _ _ _ h

theorem jamRefG_key (p : Nat) : F.GNS0_JAM_REF_G_REF.key 0 0 p 0 = (0xC * 4096 + 0x70) * 32 * 8192 + p := by
  simp [Fd.key, F.GNS0_JAM_REF_G_REF]

theorem jamRefN_key (p : Nat) : F.GNS0_JAM_REF_N_REF.key 0 0 p 0 = ((0xC * 4096 + 0x70) * 32 + 8) * 8192 + p := by
  simp [Fd.key, F.GNS0_JAM_REF_N_REF]

/-- The references of a path after its calibration. -/
def CalSet (d : Dev) (p : Nat) (r : Regs) : Prop :=
  r.at F.GNS0_JAM_REF_G_REF p = (2 * (d.path p).calG + (d.path p).calCnt) / (2 * (d.path p).calCnt) % 2 ^ F.GNS0_JAM_REF_G_REF.width ∧
    r.at F.GNS0_JAM_REF_N_REF p = min 255 ((2 * (d.path p).calN + (d.path p).calCnt) / (2 * (d.path p).calCnt))

theorem calPut_self (d : Dev) (p : Nat) (r : Regs) (h : (d.path p).calCnt ≠ 0) : CalSet d p (calPut d p r) := by
  unfold CalSet calPut
  simp only [if_neg h, Regs.at]
  refine ⟨?_, ?_⟩
  · rw [get_put_other _ _ _ _ _ _ _ _ _ _ _ _ (by rw [jamRefG_key, jamRefN_key]; omega), get_put_self]
  · rw [get_put_self]
    exact Nat.mod_eq_of_lt (by simp only [Fd.width, F.GNS0_JAM_REF_N_REF]; omega)

/-- The references of other paths stay. -/
theorem calPut_other (d : Dev) (p q : Nat) (r : Regs) (hp : p < 4) (hq : q < 4) (h : p ≠ q) (hset : CalSet d q r) : CalSet d q (calPut d p r) := by
  unfold calPut
  dsimp only
  split
  · exact hset
  · unfold CalSet at hset ⊢
    simp only [Regs.at] at hset ⊢
    have hG : F.GNS0_JAM_REF_G_REF.key 0 0 q 0 = (0xC * 4096 + 0x70) * 32 * 8192 + q := jamRefG_key q
    have hN : F.GNS0_JAM_REF_N_REF.key 0 0 q 0 = ((0xC * 4096 + 0x70) * 32 + 8) * 8192 + q := jamRefN_key q
    rw [get_put_other _ _ _ _ _ _ _ _ _ _ _ _ (by rw [hG, jamRefN_key]; omega), get_put_other _ _ _ _ _ _ _ _ _ _ _ _ (by rw [hG, jamRefG_key]; omega),
      get_put_other _ _ _ _ _ _ _ _ _ _ _ _ (by rw [hN, jamRefN_key]; omega), get_put_other _ _ _ _ _ _ _ _ _ _ _ _ (by rw [hN, jamRefG_key]; omega)]
    exact hset

/-- A calibration moves registers of its page alone. -/
theorem calPut_page (d : Dev) (p k v : Nat) (r : Regs) (hp : p < 4) (hk : keyPage k ≠ 0x0C) : sget (calPut d p r).act k v = sget r.act k v := by
  unfold calPut
  dsimp only
  split
  · rfl
  · have hG : keyPage (F.GNS0_JAM_REF_G_REF.key 0 0 p 0) = 0x0C := by rw [jamRefG_key]; unfold keyPage; omega
    have hN : keyPage (F.GNS0_JAM_REF_N_REF.key 0 0 p 0) = 0x0C := by rw [jamRefN_key]; unfold keyPage; omega
    simp only [Regs.put]
    rw [sget_sput_key _ _ k _ _ _ (fun h => hk (h ▸ hN)), sget_sput_key _ _ k _ _ _ (fun h => hk (h ▸ hG))]

/-! ### Path faults -/

/-- A path's fault declared or cleared, with its interrupt and event. -/
def pathJudged (r : Regs) (p : Nat) (y : RfPath) (d : Dev) : Dev :=
  record r .gnssPathFault { p0 := p, p1 := b2n y.faultOpen + 2 * b2n y.faultOver } (raise 0xC 3 (modPath p (fun _ => y) d))

theorem within_pathJudged (r : Regs) (p : Nat) (y : RfPath) (d : Dev) : Within [.irq, .evt, .gns0] (pathJudged r p y d) d :=
  ((within_record r .gnssPathFault _ _).trans ((within_raise 0xC 3 _).trans (within_modPath p _ d))).mono (by simp)

theorem pathJudged_gns0 (r : Regs) (p : Nat) (y : RfPath) (d : Dev) : (pathJudged r p y d).gns0 = (modPath p (fun _ => y) d).gns0 := by
  rw [pathJudged, record_gns0, raise_gns0]

theorem pathJudged_testBit (r : Regs) (p : Nat) (y : RfPath) (d : Dev) (h : 0x0C < d.irq.raw.length) :
    (at' (pathJudged r p y d).irq.raw 0x0C).testBit 3 = true :=
  (raised_record r .gnssPathFault _ _).bit _ _ (raise_testBit_self _ _ _ h)

/-- A path given up by its channels and searches. -/
def pathLeft (p : Nat) (d : Dev) : Dev := dropSearches p (releasePath p d)

theorem within_pathLeft (p : Nat) (d : Dev) : Within [.gns0] (pathLeft p d) d :=
  ((within_gns0 _ _).trans (within_gns0 d _)).mono (by simp)

theorem pathLeft_chans (p : Nat) (d : Dev) (c : Channel) (hc : c ∈ (pathLeft p d).gns0.chans) (hst : c.st ≠ .idle) : c.path ≠ p := by
  have hmem : c ∈ d.gns0.chans.map fun c => if c.st != .idle && c.path == p then {} else c := hc
  obtain ⟨x, -, rfl⟩ := List.mem_map.1 hmem
  split at hst
  · exact absurd rfl hst
  · next h =>
    rw [if_neg h]
    intro hp
    exact h (by simp [hst, hp])

theorem pathLeft_queue (p : Nat) (d : Dev) (q : AcqReq) (hq : q ∈ (pathLeft p d).gns0.queue) : q.path ≠ p := by
  have hmem : q ∈ d.gns0.queue.filter fun q => q.path != p := hq
  simpa using (List.mem_filter.1 hmem).2

theorem pathFault_opens (p : Nat) (r : Regs) (d : Dev) (ho : (d.path p).faultOpen = false) (hf : 1000 ≤ (d.path p).openFor) :
    pathFault p false r d = pathLeft p (pathJudged r p { d.path p with faultOpen := true } d) := by
  have hy : (if (d.path p).faultOpen then decide ((d.path p).openClear < 5000) else decide (1000 ≤ (d.path p).openFor)) = true := by
    rw [ho, if_neg (by decide)]
    exact decide_eq_true hf
  have hne : ({ d.path p with faultOpen := true } : RfPath) ≠ d.path p := fun h => by
    have hopen : true = (d.path p).faultOpen := congrArg RfPath.faultOpen h
    rw [ho] at hopen
    exact absurd hopen (by decide)
  simp only [pathFault, hy, Bool.false_eq_true, if_false, if_neg hne]
  exact if_pos rfl

theorem pathFault_overClears (p : Nat) (r : Regs) (d : Dev) (hov : (d.path p).faultOver = true) (ho : (d.path p).faultOpen = false)
    (hc : 5000 ≤ (d.path p).overClear) : pathFault p true r d = pathJudged r p { d.path p with faultOver := false } d := by
  have hy : (if (d.path p).faultOver then decide ((d.path p).overClear < 5000) else decide (100 ≤ (d.path p).overFor)) = false := by
    rw [hov, if_pos rfl]
    exact decide_eq_false (Nat.not_lt.2 hc)
  have hne : ({ d.path p with faultOver := false } : RfPath) ≠ d.path p := fun h => by
    have hover : false = (d.path p).faultOver := congrArg RfPath.faultOver h
    rw [hov] at hover
    exact absurd hover (by decide)
  simp only [pathFault, hy, if_true, if_neg hne]
  exact if_neg (by simp [RfPath.faulted, ho])

/-- Settles O24. -/
theorem gnssJammingAndPathFaults : Obligations.GnssJammingAndPathFaults := by
  unfold Obligations.GnssJammingAndPathFaults
  refine ⟨fun s hrun hraw => ?_, fun s => ?_, fun s hc hn => ?_, fun s p hp hraw ho hf => ?_, fun s p hp hraw hov ho hc => ?_⟩
  · refine ⟨_, onDev_next s jamEval, ?_⟩
    rw [jamEval_runs s.regs s.dev.quiet hrun]
    refine ⟨(within_foldN _ _ s.dev.quiet (within_jamTurn s.regs)).onlyParts (by simp), fun p hp he => ?_⟩
    obtain ⟨hread, hwarn⟩ := jamEval_path s.regs s.dev.quiet hraw p hp he
    obtain ⟨hdn, hdj, hgj, hj, hup, hlow, hstay⟩ := jamRead_says s.regs p (s.dev.path p)
    rw [settle_path, settle_raw, hread]
    exact ⟨hdn, hdj, hgj, hj, fun hw hle h9 => ⟨hup hw hle h9, hwarn hw (hup hw hle h9)⟩, hlow, hstay⟩
  · refine ⟨_, onDev_next s jamCal, (within_gns0 s.dev.quiet _).onlyParts (by simp), ?_⟩
    rw [settle_gns0]
    refine ⟨rfl, rfl, fun p => ?_⟩
    rw [settle_path]
    have hp : (jamCal s.regs s.dev.quiet).path p = calCleared (s.dev.path p) := at'_map_calCleared _ p
    rw [hp]
    exact ⟨rfl, rfl, rfl, rfl⟩
  · refine ⟨_, onRegs_next s jamCalDone, ?_⟩
    rw [jamCalDone_due s.regs s.dev.quiet hc hn]
    refine ⟨Within.onlyParts (s := { s with regs := foldN (ownPaths s.dev.quiet) (calPut s.dev.quiet) s.regs }) (within_gns0 s.dev.quiet _) (by simp), ?_, fun p hp => ?_, fun k v hk => ?_⟩
    · rw [settle_gns0]
      rfl
    · intro x hx
      have hle := ownPaths_le s.dev.quiet
      have hq : p < ownPaths s.dev.quiet := hp
      exact foldN_at_index (fun _ => True) (CalSet s.dev.quiet p) hp (fun _ _ _ _ _ => trivial) (fun r _ => calPut_self _ p r hx)
        (fun j r hj hne h => calPut_other _ j p r (by omega) (by omega) hne h) trivial
    · have hle := ownPaths_le s.dev.quiet
      exact foldN_keeps_below (fun r : Regs => sget r.act k v = sget s.regs.act k v) _ _ _ 
        (fun j r hj h => (calPut_page _ j k v r (by omega) hk).trans h) rfl
  · refine ⟨_, onDev_next s (pathFault p false), ?_⟩
    rw [pathFault_opens p s.regs s.dev.quiet ho hf]
    refine ⟨((within_pathLeft p _).trans (within_pathJudged s.regs p _ s.dev.quiet)).onlyParts (by simp), ?_⟩
    rw [settle_path, settle_raw, settle_gns0]
    refine ⟨?_, pathJudged_testBit s.regs p _ s.dev.quiet hraw, pathLeft_chans p _, pathLeft_queue p _⟩
    have hpath (d : Dev) : (pathLeft p d).path p = d.path p := rfl
    rw [hpath, Dev.path, pathJudged_gns0]
    exact congrArg RfPath.faultOpen (modPath_path_self p _ s.dev.quiet hp)
  · refine ⟨_, onDev_next s (pathFault p true), ?_⟩
    rw [pathFault_overClears p s.regs s.dev.quiet hov ho hc]
    refine ⟨(within_pathJudged s.regs p _ s.dev.quiet).onlyParts (by simp), ?_⟩
    rw [settle_path, settle_raw, settle_gns0, Dev.path, pathJudged_gns0]
    exact ⟨congrArg RfPath.faultOver (modPath_path_self p _ s.dev.quiet hp), rfl, pathJudged_testBit s.regs p _ s.dev.quiet hraw⟩

end Sys2Proof
end

section
/-! PROOFS. Acquisition, loss of a channel and cross-tracking. -/

namespace Sys2Proof

open Sys2Proof.Machine

@[simp] theorem settle_chan (r : Regs) (d : Dev) (c : Nat) : (settle r d).chan c = d.chan c := by simp [Dev.chan]

theorem modChan_chan_self (c : Nat) (f : Channel → Channel) (d : Dev) (h : c < d.gns0.chans.length) : (modChan c f d).chan c = f (d.chan c) :=
  at'_modAt_self _ _ _ h

theorem modChan_chan_other (c k : Nat) (f : Channel → Channel) (d : Dev) (h : k ≠ c) : (modChan c f d).chan k = d.chan k :=
  at'_modAt_other _ _ _ _ h.symm

theorem within_modChan (c : Nat) (f : Channel → Channel) (d : Dev) : Within [.gns0] (modChan c f d) d := within_gns0 d _

theorem within_modXt (i : Nat) (f : XtrkPath → XtrkPath) (d : Dev) : Within [.gns0] (modXt i f d) d := within_gns0 d _

/-! ### Searches -/

/-- The search in hand replaced. -/
def searchSet (x : Option Search) (d : Dev) : Dev := { d with gns0 := { d.gns0 with search := x } }

theorem within_searchSet (x : Option Search) (d : Dev) : Within [.gns0] (searchSet x d) d := within_gns0 d _

theorem acqPassDone_detected (c n : Nat) (x : Search) (r : Regs) (d : Dev) (hrun : gnssRuns r d = true) (hs : d.gns0.search = some x)
    (hc : x.chn = none) (hm : x.masked.contains c = false) (hn : chanFor d (needClass r x.req.sig x.req.path) = some n) :
    acqPassDone (some c) r d = assignChan n x.req.sig x.req.sv x.req.path (needClass r x.req.sig x.req.path) false
      (searchSet (some { x with chn := some n, cell := c }) d) := by
  simp only [acqPassDone, hs, hrun, hc, hm, hn, Bool.not_true, Option.isSome_none, Bool.or_false, Bool.false_eq_true, if_false]
  rfl

theorem searchOn_empty (r : Regs) (x : Search) (d : Dev) (h : d.gns0.queue = []) :
    searchOn r x d = searchSet (if x.step + 1 < (ladder r x.serial).length then some { x with step := x.step + 1 } else none) d := by
  unfold searchOn
  split
  · next hq =>
    rw [h] at hq
    exact nomatch hq
  · split <;> rfl

theorem acqPassDone_none (x : Search) (r : Regs) (d : Dev) (hrun : gnssRuns r d = true) (hs : d.gns0.search = some x) (hc : x.chn = none) :
    acqPassDone none r d = searchOn r x d := by
  simp only [acqPassDone, hs, hrun, hc, Bool.not_true, Option.isSome_none, Bool.or_false, Bool.false_eq_true, if_false]

theorem pullInTimeout_masks (n : Nat) (x : Search) (r : Regs) (d : Dev) (hst : (d.chan n).st = .pullIn) (ha : 50 ≤ (d.chan n).age)
    (hh : (d.chan n).handover = false) (hs : d.gns0.search = some x) (hc : x.chn = some n) :
    pullInTimeout n r d = searchSet (some { x with chn := none, masked := x.cell :: x.masked }) (modChan n (fun _ => {}) d) := by
  have hs' : (modChan n (fun _ => {}) d).gns0.search = some x := hs
  simp only [pullInTimeout, hst, hh, hs', hc, decide_eq_true ha, beq_self_eq_true, Bool.and_self, Bool.false_eq_true, if_true, if_false]
  rfl

/-! ### Requests -/

theorem within_request (q : AcqReq) (d : Dev) : Within [.gns0] (request q d) d := by
  unfold request
  exact .ite (.refl _ d) (within_gns0 d _)

@[simp] theorem request_chan (q : AcqReq) (d : Dev) (n : Nat) : (request q d).chan n = d.chan n := by
  unfold request
  split <;> rfl

/-- After a request its signal waits. -/
theorem request_mem (q : AcqReq) (d : Dev) : ∃ y ∈ (request q d).gns0.queue, y.sig = q.sig ∧ y.sv = q.sv ∧ y.path = q.path := by
  unfold request
  by_cases h : d.gns0.queue.any (fun x => x.sig == q.sig && x.sv == q.sv && x.path == q.path) = true
  · rw [if_pos h]
    obtain ⟨y, hy, heq⟩ := List.any_eq_true.1 h
    simp only [Bool.and_eq_true, beq_iff_eq] at heq
    exact ⟨y, hy, heq.1.1, heq.1.2, heq.2⟩
  · rw [if_neg h]
    exact ⟨q, List.mem_append_right _ List.mem_cons_self, rfl, rfl, rfl⟩

theorem request_irq (q : AcqReq) (d : Dev) : (request q d).irq = d.irq := (within_request q d).agree .irq (by simp)

theorem coastTimeout_due (n : Nat) (r : Regs) (d : Dev) (hst : (d.chan n).st = .coast) (ha : 1000 ≤ (d.chan n).age) :
    coastTimeout n r d = reacquire (d.chan n) (raise 0xC 5 (modChan n (fun _ => {}) d)) :=
  if_pos (by rw [hst, decide_eq_true ha]; rfl)

/-! ### Cross-tracking blocks -/

theorem within_ndlFrame (ok : Bool) (d : Dev) : Within [.irq, .ndl] (ndlFrame ok d) d := by
  unfold ndlFrame
  exact .ite ((within_ndl d _).mono (by simp)) (((within_raiseIf _ _ _ _).trans (within_ndl d _)).mono (by simp))

/-- A partner path whose block is whole. -/
def blockWhole (x : XtrkPath) : XtrkPath := { x with whole := true, active := true, frags := 0 }

/-- The last fragment of a block makes it whole. -/
theorem xtrkFrame_last (p frag : Nat) (r : Regs) (d : Dev) (hl : d.linkUp = true) (hrun : gnssRuns r d = true) (hp : p < ownPaths d)
    (hf : (at' d.gns0.xt p).frags ≠ 0) (hb : (at' d.gns0.xt p).bad = false) (hall : setBit (at' d.gns0.xt p).frags frag true = 0x7FF) :
    xtrkFrame p frag (at' d.gns0.xt p).epoch true r d = settleRx (modXt p (fun _ => blockWhole (at' d.gns0.xt p)) (ndlFrame true d)) := by
  have hrun' : gnssRuns r (ndlFrame true d) = true := hrun
  have hown : ¬ ownPaths (ndlFrame true d) ≤ p := Nat.not_le.2 hp
  have hxt : (ndlFrame true d).gns0 = d.gns0 := rfl
  simp only [xtrkFrame, hl, hrun', hxt, decide_eq_false hown, Bool.not_true, Bool.or_false, Bool.false_eq_true, if_false]
  simp [hf, hb, hall, blockWhole]

/-- A partner path whose block is damaged. -/
def blockLost (epoch : Nat) (x : XtrkPath) : XtrkPath := { x with bad := true, epoch := epoch, frags := 0 }

/-- A damaged fragment counts its block as lost. -/
theorem xtrkFrame_bad (p frag epoch : Nat) (r : Regs) (d : Dev) (hl : d.linkUp = true) (hb : (at' d.gns0.xt p).bad = false) :
    xtrkFrame p frag epoch false r d =
      { modXt p (blockLost epoch) (ndlFrame false d) with
        gns0 := { (modXt p (blockLost epoch) (ndlFrame false d)).gns0 with
          blockErr := wrapInc 16 (ndlFrame false d).gns0.blockErr } } := by
  simp only [xtrkFrame, hl, hb, Bool.not_true, Bool.not_false, Bool.false_and, Bool.false_eq_true, if_false, if_true]
  rfl

theorem ndlFrame_false_ndl (d : Dev) : (ndlFrame false d).ndl = { d.ndl with lastGood := false, crc := wrapInc 16 d.ndl.crc } := by
  simp [ndlFrame]

theorem ndlFrame_gns0 (ok : Bool) (d : Dev) : (ndlFrame ok d).gns0 = d.gns0 := (within_ndlFrame ok d).agree .gns0 (by simp)

/-- Settles O25. -/
theorem gnssAcquisitionAndLoss : Obligations.GnssAcquisitionAndLoss := by
  unfold Obligations.GnssAcquisitionAndLoss
  refine ⟨fun s x c n hrun hs hc hm hn hlen => ?_, fun s x hrun hs hc hq => ?_, fun s x n hlen hst ha hh hs hc => ?_,
    fun s n hlen hst ha hraw => ?_, fun s p frag epoch => ?_, fun s p frag epoch hl hp hb => ?_⟩
  · refine ⟨_, onDev_next s (acqPassDone (some c)), ?_⟩
    rw [acqPassDone_detected c n x s.regs s.dev.quiet hrun hs hc hm hn]
    refine ⟨((within_modChan n _ _).trans (within_searchSet _ s.dev.quiet)).onlyParts (by simp), ?_⟩
    rw [settle_chan, settle_gns0, assignChan, modChan_chan_self n _ (searchSet (some { x with chn := some n, cell := c }) s.dev.quiet) hlen]
    refine ⟨rfl, rfl, rfl, rfl, rfl, fun k hk => ?_⟩
    rw [settle_chan, modChan_chan_other n k _ (searchSet (some { x with chn := some n, cell := c }) s.dev.quiet) hk]
    rfl
  · refine ⟨_, onDev_next s (acqPassDone none), ?_⟩
    rw [acqPassDone_none x s.regs s.dev.quiet hrun hs hc, searchOn_empty s.regs x s.dev.quiet hq]
    refine ⟨(within_searchSet _ s.dev.quiet).onlyParts (by simp), fun h => ?_, fun h => ?_⟩
    · rw [settle_gns0, if_pos h]
      rfl
    · rw [settle_gns0, if_neg (Nat.not_lt.2 h)]
      rfl
  · refine ⟨_, onDev_next s (pullInTimeout n), ?_⟩
    rw [pullInTimeout_masks n x s.regs s.dev.quiet hst ha hh hs hc]
    refine ⟨((within_searchSet _ _).trans (within_modChan n _ s.dev.quiet)).onlyParts (by simp), ?_, ?_⟩
    · rw [settle_chan]
      exact congrArg Channel.st (modChan_chan_self n _ s.dev.quiet hlen)
    · rw [settle_gns0]
      rfl
  · refine ⟨_, onDev_next s (coastTimeout n), ?_⟩
    rw [coastTimeout_due n s.regs s.dev.quiet hst ha]
    refine ⟨((within_request _ _).trans ((within_raise _ _ _).trans (within_modChan n _ s.dev.quiet))).onlyParts (by simp), ?_⟩
    rw [settle_chan, settle_raw, settle_gns0, reacquire, request_chan, request_irq]
    exact ⟨congrArg Channel.st (modChan_chan_self n _ s.dev.quiet hlen), raise_testBit_self _ _ _ hraw, request_mem _ _⟩
  · intro x hl hrun hp hlen he hf hb hall
    refine ⟨_, onDev_next s (xtrkFrame p frag epoch true), ?_⟩
    have hlast := xtrkFrame_last p frag s.regs s.dev.quiet hl hrun hp hf hb hall
    rw [show (at' s.dev.quiet.gns0.xt p).epoch = epoch from he] at hlast
    rw [hlast]
    refine ⟨((within_gns0 _ _).trans ((within_modXt p _ _).trans (within_ndlFrame true s.dev.quiet))).onlyParts (by simp), ?_⟩
    rw [settle_gns0]
    have hxt : at' (settleRx (modXt p (fun _ => blockWhole (at' s.dev.quiet.gns0.xt p)) (ndlFrame true s.dev.quiet))).gns0.xt p = blockWhole x :=
      at'_modAt_self _ _ _ hlen
    rw [hxt]
    exact ⟨rfl, rfl, rfl⟩
  · refine ⟨_, onDev_next s (xtrkFrame p frag epoch false), ?_⟩
    rw [xtrkFrame_bad p frag epoch s.regs s.dev.quiet hl hb]
    refine ⟨((within_gns0 _ _).trans ((within_modXt p _ _).trans (within_ndlFrame false s.dev.quiet))).onlyParts (by simp), ?_⟩
    rw [settle_gns0, settle_ndl]
    have hxt : at' (modXt p (blockLost epoch) (ndlFrame false s.dev.quiet)).gns0.xt p =
        blockLost epoch (at' s.dev.gns0.xt p) := by
      have hself := at'_modAt_self (ndlFrame false s.dev.quiet).gns0.xt p (blockLost epoch)
        (by rw [ndlFrame_gns0]; exact hp)
      exact hself.trans (congrArg (fun g : Gns0St => blockLost epoch (at' g.xt p)) (ndlFrame_gns0 false s.dev.quiet))
    refine ⟨congrArg XtrkPath.bad hxt, congrArg XtrkPath.frags hxt, ?_, congrArg NdlSt.crc (ndlFrame_false_ndl s.dev.quiet)⟩
    exact congrArg (fun g : Gns0St => wrapInc 16 g.blockErr) (ndlFrame_gns0 false s.dev.quiet)

end Sys2Proof
end

section
/-! PROOFS. Acts on named parts that take back no raw interrupt bit. -/

namespace Sys2Proof

open Sys2Proof.Machine

/-- `b` comes from `a` by changes of the parts in `l`, and no raw interrupt bit is taken back. -/
structure Acts (l : List Part) (b a : Dev) : Prop where
  within : Within l b a
  raised : Raised b a

theorem Acts.refl (l : List Part) (d : Dev) : Acts l d d := ⟨.refl l d, .refl d⟩

theorem Acts.mono {l m : List Part} {b a : Dev} (h : Acts l b a) (hlm : l ⊆ m) : Acts m b a := ⟨h.within.mono hlm, h.raised⟩

theorem Acts.trans {l m : List Part} {c b a : Dev} (h : Acts l c b) (g : Acts m b a) : Acts (l ++ m) c a :=
  ⟨h.within.trans g.within, h.raised.trans g.raised⟩

/-- Two acts on the same parts. -/
theorem Acts.also {l : List Part} {c b a : Dev} (h : Acts l c b) (g : Acts l b a) : Acts l c a := (h.trans g).mono (by simp)

theorem Acts.ite {l : List Part} {c : Prop} [Decidable c] {a b d : Dev} (ha : Acts l a d) (hb : Acts l b d) : Acts l (if c then a else b) d := by
  split
  · exact ha
  · exact hb

theorem Acts.when {l : List Part} {c : Prop} [Decidable c] {b a : Dev} (h : Acts l b a) : Acts l (if c then b else a) a := .ite h (.refl l a)

theorem Acts.unless {l : List Part} {c : Prop} [Decidable c] {b a : Dev} (h : Acts l b a) : Acts l (if c then a else b) a := .ite (.refl l a) h

theorem acts_foldl {α : Type} {l : List Part} (f : Dev → α → Dev) (xs : List α) (d : Dev) (h : ∀ a x, Acts l (f a x) a) :
    Acts l (xs.foldl f d) d :=
  foldl_keeps (Acts l · d) f xs d (fun a x ha => (h a x).also ha) (.refl l d)

theorem acts_foldN {l : List Part} (n : Nat) (f : Nat → Dev → Dev) (d : Dev) (h : ∀ i a, Acts l (f i a) a) : Acts l (foldN n f d) d :=
  foldN_keeps (Acts l · d) n f d (fun i a ha => (h i a).also ha) (.refl l d)

/-- A change of other parts than the interrupts' takes no bit back. -/
theorem Within.acts {l : List Part} {b a : Dev} (h : Within l b a) (hirq : Part.irq ∉ l) : Acts l b a :=
  ⟨h, .of_raw (congrArg IrqSt.raw (h.agree .irq hirq))⟩

theorem acts_emit (o : Output) (d : Dev) : Acts [] (emit o d) d := ⟨within_emit o d, raised_emit o d⟩

theorem acts_raise (p b : Nat) (d : Dev) : Acts [.irq] (raise p b d) d := ⟨within_raise p b d, raised_raise p b d⟩

theorem acts_raiseIf (c : Bool) (p b : Nat) (d : Dev) : Acts [.irq] (raiseIf c p b d) d := ⟨within_raiseIf c p b d, raised_raiseIf c p b d⟩

theorem acts_record (r : Regs) (e : Ev) (x : Par) (d : Dev) : Acts [.irq, .evt] (record r e x d) d := ⟨within_record r e x d, raised_record r e x d⟩

theorem acts_recordCont (r : Regs) (e : Ev) (x y : Par) (d : Dev) : Acts [.irq, .evt] (recordCont r e x y d) d :=
  ⟨within_recordCont r e x y d, raised_recordCont r e x y d⟩

theorem acts_takeFree (d : Dev) : Acts [.free] d.takeFree d := (within_free d _).acts (by simp)

/-- A part that the acts leave alone. -/
theorem Acts.agree {l : List Part} {b a : Dev} (h : Acts l b a) (p : Part) (hp : p ∉ l) : agreeAt b a p := h.within.agree p hp

theorem Acts.onlyParts {l m : List Part} {s : State} {d : Dev} (h : Acts m d s.dev.quiet) (hm : m ⊆ .irq :: l) :
    OnlyParts l s { s with dev := settle s.regs d } := h.within.onlyParts hm

end Sys2Proof
end

section
/-! PROOFS. Sensor sources: a record's way into the queue, and a source's timeout. -/

namespace Sys2Proof

open Sys2Proof.Machine

@[simp] theorem settle_source (r : Regs) (d : Dev) (i : Nat) : (settle r d).source i = d.source i := by simp [Dev.source]
@[simp] theorem raise_source (p b : Nat) (d : Dev) (i : Nat) : (raise p b d).source i = d.source i := rfl
@[simp] theorem raiseIf_source (c : Bool) (p b : Nat) (d : Dev) (i : Nat) : (raiseIf c p b d).source i = d.source i := by simp [Dev.source]
@[simp] theorem record_source (r : Regs) (e : Ev) (x : Par) (d : Dev) (i : Nat) : (record r e x d).source i = d.source i := by simp [Dev.source]

theorem modSource_source_self (i : Nat) (f : SourceSt → SourceSt) (d : Dev) (h : i < d.src.srcs.length) : (modSource i f d).source i = f (d.source i) :=
  at'_modAt_self _ _ _ h

theorem modSource_source_other (i k : Nat) (f : SourceSt → SourceSt) (d : Dev) (h : k ≠ i) : (modSource i f d).source k = d.source k :=
  at'_modAt_other _ _ _ _ h.symm

@[simp] theorem modSource_length (i : Nat) (f : SourceSt → SourceSt) (d : Dev) : (modSource i f d).src.srcs.length = d.src.srcs.length := by
  simp [modSource]

theorem acts_modSource (i : Nat) (f : SourceSt → SourceSt) (d : Dev) : Acts [.src] (modSource i f d) d := (within_src d _).acts (by simp)

/-- The record of a source carries its number. -/
theorem sourceRec_id {d : Dev} {i : Nat} {c : SourceRec} (h : d.sourceRec i = some c) : c.id = i := by
  simpa using List.find?_some h

/-! ### A valid record -/

/-- A source whose rate was wrong once more. -/
def rateCounted (x : SourceSt) : SourceSt := { x with rate := wrapInc 16 x.rate }

/-- A source whose interval was too short or too long is counted. -/
def rateJudged (i : Nat) (bad : Bool) (d : Dev) : Dev := if bad then raise 0x0F 3 (modSource i rateCounted d) else d

/-- A source that has given a valid record. -/
def sourceActive (now stamp : Nat) (x : SourceSt) : SourceSt := { x with st := .active, validTick := now, lastValid := some stamp }

/-- A source that comes back is recorded. -/
def backTold (r : Regs) (i : Nat) (back : Bool) (d : Dev) : Dev := if back then record r .srcTimeout { p0 := i, p1 := 1 } (raise 0x0F 1 d) else d

theorem srcValid_eq (r : Regs) (s : SourceRec) (stamp : Nat) (d : Dev) : ∃ bad back,
    srcValid r s stamp d = backTold r s.id back (modSource s.id (sourceActive (rateJudged s.id bad d).now stamp) (rateJudged s.id bad d)) :=
  ⟨_, _, rfl⟩

theorem acts_rateJudged (i : Nat) (bad : Bool) (d : Dev) : Acts [.irq, .src] (rateJudged i bad d) d :=
  .when ((acts_raise _ _ _).trans (acts_modSource i _ d))

theorem acts_backTold (r : Regs) (i : Nat) (back : Bool) (d : Dev) : Acts [.irq, .evt] (backTold r i back d) d :=
  .when (((acts_record r .srcTimeout _ _).trans (acts_raise 0x0F 1 d)).mono (by simp))

@[simp] theorem backTold_src (r : Regs) (i : Nat) (back : Bool) (d : Dev) : (backTold r i back d).src = d.src := (acts_backTold r i back d).agree .src (by simp)

theorem acts_srcValid (r : Regs) (s : SourceRec) (stamp : Nat) (d : Dev) : Acts [.irq, .evt, .src] (srcValid r s stamp d) d := by
  obtain ⟨bad, back, h⟩ := srcValid_eq r s stamp d
  rw [h]
  exact ((acts_backTold r _ back _).trans ((acts_modSource _ _ _).trans (acts_rateJudged _ bad d))).mono (by simp)

/-- What a source keeps while a record is judged: its count, its last record and what is not its own. -/
structure SourceKept (i : Nat) (b a : Dev) : Prop where
  length : b.src.srcs.length = a.src.srcs.length
  records : (b.source i).records = (a.source i).records
  others : ∀ k, k ≠ i → b.source k = a.source k
  queue : b.src.queue = a.src.queue
  overflow : b.src.overflow = a.src.overflow

theorem SourceKept.of_src {i : Nat} {b a : Dev} (h : b.src = a.src) : SourceKept i b a := by
  have hs (k : Nat) : b.source k = a.source k := congrArg (fun x : SrcSt => at' x.srcs k) h
  exact ⟨by rw [h], by rw [hs], fun k _ => hs k, by rw [h], by rw [h]⟩

theorem SourceKept.refl (i : Nat) (d : Dev) : SourceKept i d d := .of_src rfl

theorem SourceKept.trans {i : Nat} {c b a : Dev} (h : SourceKept i c b) (g : SourceKept i b a) : SourceKept i c a :=
  ⟨h.length.trans g.length, h.records.trans g.records, fun k hk => (h.others k hk).trans (g.others k hk), h.queue.trans g.queue,
    h.overflow.trans g.overflow⟩

theorem sourceKept_modSource (i : Nat) (f : SourceSt → SourceSt) (d : Dev) (hi : i < d.src.srcs.length) (hf : ∀ x, (f x).records = x.records) :
    SourceKept i (modSource i f d) d :=
  ⟨modSource_length i f d, by rw [modSource_source_self i f d hi, hf], fun k hk => modSource_source_other i k f d hk, rfl, rfl⟩

theorem sourceKept_rateJudged (i : Nat) (bad : Bool) (d : Dev) (hi : i < d.src.srcs.length) : SourceKept i (rateJudged i bad d) d := by
  unfold rateJudged
  split
  · exact (SourceKept.of_src (b := raise 0x0F 3 (modSource i rateCounted d)) (a := modSource i rateCounted d) rfl).trans (sourceKept_modSource i rateCounted d hi fun _ => rfl)
  · exact .refl i d

theorem sourceKept_srcValid (r : Regs) (s : SourceRec) (stamp : Nat) (d : Dev) (hi : s.id < d.src.srcs.length) :
    SourceKept s.id (srcValid r s stamp d) d := by
  obtain ⟨bad, back, h⟩ := srcValid_eq r s stamp d
  have hrate := sourceKept_rateJudged s.id bad d hi
  rw [h]
  exact (SourceKept.of_src (backTold_src r _ back _)).trans
    ((sourceKept_modSource s.id (sourceActive _ stamp) _ (hrate.length ▸ hi) fun _ => rfl).trans hrate)

theorem srcValid_source (r : Regs) (s : SourceRec) (stamp : Nat) (d : Dev) (hi : s.id < d.src.srcs.length) :
    ((srcValid r s stamp d).source s.id).st = .active ∧ ((srcValid r s stamp d).source s.id).validTick = d.now := by
  obtain ⟨bad, back, h⟩ := srcValid_eq r s stamp d
  have hrate := sourceKept_rateJudged s.id bad d hi
  rw [h, Dev.source, backTold_src, ← Dev.source, modSource_source_self _ _ _ (hrate.length ▸ hi)]
  exact ⟨rfl, (acts_rateJudged s.id bad d).within.now⟩

/-! ### The queue -/

/-- The record as it joins the queue, with its source's count. -/
def numbered (x : SrcRecord) (d : Dev) : SrcRecord := { x with seq := (d.source x.id).records }

/-- A source that has given the record `y`. -/
def sourceGave (y : SrcRecord) (s : SourceSt) : SourceSt := { s with records := wrapInc 16 s.records, last := y }

/-- The record at the end of the queue. -/
def queued (y : SrcRecord) (d : Dev) : Dev :=
  { d with src := { d.src with queue := d.src.queue ++ [y], maxDepth := max d.src.maxDepth (d.src.queue.length + 1) } }

theorem srcQueue_room (r : Regs) (x : SrcRecord) (d : Dev) (h : d.src.queue.length < 512) :
    srcQueue r x d = raiseIf (r.get F.SRC_WATCH_WATCH == (numbered x d).id) 0x0F 7
      (queued (numbered x d) (modSource (numbered x d).id (sourceGave (numbered x d)) d)) := if_neg (Nat.not_le.2 h)

theorem srcQueue_full (r : Regs) (x : SrcRecord) (d : Dev) (h : 512 ≤ d.src.queue.length) :
    srcQueue r x d = raise 0x0F 4 { d with src := { d.src with overflow := wrapInc 16 d.src.overflow, lastOver := x.id } } := if_pos h

theorem acts_srcQueue (r : Regs) (x : SrcRecord) (d : Dev) : Acts [.irq, .src] (srcQueue r x d) d := by
  by_cases h : d.src.queue.length < 512
  · rw [srcQueue_room r x d h]
    exact ((acts_raiseIf _ _ _ _).trans (((within_src _ _).acts (by simp)).trans (acts_modSource _ _ d))).mono (by simp)
  · rw [srcQueue_full r x d (Nat.not_lt.1 h)]
    exact (acts_raise _ _ _).trans ((within_src d _).acts (by simp))

/-- A record for which there is room is counted, kept as the last one and queued. -/
theorem srcQueue_room_src (r : Regs) (x : SrcRecord) (d : Dev) (h : d.src.queue.length < 512) (hi : x.id < d.src.srcs.length) :
    ((srcQueue r x d).source x.id) = sourceGave (numbered x d) (d.source x.id) ∧ (srcQueue r x d).src.queue = d.src.queue ++ [numbered x d] := by
  rw [srcQueue_room r x d h, raiseIf_source, raiseIf_src]
  exact ⟨modSource_source_self x.id _ d hi, rfl⟩

theorem srcQueue_source_other (r : Regs) (x : SrcRecord) (d : Dev) (k : Nat) (h : k ≠ x.id) : (srcQueue r x d).source k = d.source k := by
  by_cases hl : d.src.queue.length < 512
  · rw [srcQueue_room r x d hl, raiseIf_source]
    exact modSource_source_other x.id k _ d h
  · rw [srcQueue_full r x d (Nat.not_lt.1 hl)]
    rfl

/-- Taking a record into the queue, or losing it, leaves the state of its source. -/
theorem srcQueue_keeps (r : Regs) (x : SrcRecord) (d : Dev) (hi : x.id < d.src.srcs.length) :
    ((srcQueue r x d).source x.id).st = (d.source x.id).st ∧ ((srcQueue r x d).source x.id).validTick = (d.source x.id).validTick := by
  by_cases hl : d.src.queue.length < 512
  · rw [(srcQueue_room_src r x d hl hi).1]
    exact ⟨rfl, rfl⟩
  · rw [srcQueue_full r x d (Nat.not_lt.1 hl)]
    exact ⟨rfl, rfl⟩

/-! ### A record delivered -/

/-- A source that needs the attitude line, with whether it was there. -/
def attJudged (i : Nat) (needs lost proj : Bool) (d : Dev) : Dev :=
  let x := raiseIf lost 0x0F 5 d
  if needs then modSource i (fun s => { s with noAtt := !proj }) x else x

theorem acts_attJudged (i : Nat) (needs lost proj : Bool) (d : Dev) : Acts [.irq, .src] (attJudged i needs lost proj d) d := by
  have h : Acts [.irq, .src] (raiseIf lost 0x0F 5 d) d := (acts_raiseIf _ _ _ d).mono (by simp)
  exact .ite (((acts_modSource i _ _).trans h).mono (by simp)) h

theorem sourceKept_attJudged (i : Nat) (needs lost proj : Bool) (d : Dev) (hi : i < d.src.srcs.length) :
    SourceKept i (attJudged i needs lost proj d) d := by
  have h : SourceKept i (raiseIf lost 0x0F 5 d) d := .of_src (raiseIf_src _ _ _ d)
  unfold attJudged
  dsimp only
  split
  · exact (sourceKept_modSource i (fun s => { s with noAtt := !proj }) _ (h.length ▸ hi) fun _ => rfl).trans h
  · exact h

/-- A record judged by its source when it is valid. -/
def recordJudged (r : Regs) (c : SourceRec) (stamp : Nat) (valid needs lost proj : Bool) (d : Dev) : Dev :=
  if valid then srcValid r c stamp (attJudged c.id needs lost proj d) else attJudged c.id needs lost proj d

theorem acts_recordJudged (r : Regs) (c : SourceRec) (stamp : Nat) (valid needs lost proj : Bool) (d : Dev) :
    Acts [.irq, .evt, .src] (recordJudged r c stamp valid needs lost proj d) d := by
  have h : Acts [.irq, .evt, .src] (attJudged c.id needs lost proj d) d := (acts_attJudged _ _ _ _ d).mono (by simp)
  exact .ite ((acts_srcValid r c stamp _).also h) h

theorem sourceKept_recordJudged (r : Regs) (c : SourceRec) (stamp : Nat) (valid needs lost proj : Bool) (d : Dev) (hi : c.id < d.src.srcs.length) :
    SourceKept c.id (recordJudged r c stamp valid needs lost proj d) d := by
  have h := sourceKept_attJudged c.id needs lost proj d hi
  unfold recordJudged
  split
  · exact (sourceKept_srcValid r c stamp _ (h.length ▸ hi)).trans h
  · exact h

theorem recordJudged_valid (r : Regs) (c : SourceRec) (stamp : Nat) (needs lost proj : Bool) (d : Dev) (hi : c.id < d.src.srcs.length) :
    ((recordJudged r c stamp true needs lost proj d).source c.id).st = .active ∧
      ((recordJudged r c stamp true needs lost proj d).source c.id).validTick = d.now := by
  have h := srcValid_source r c stamp (attJudged c.id needs lost proj d) ((sourceKept_attJudged c.id needs lost proj d hi).length ▸ hi)
  exact ⟨h.1, h.2.trans (acts_attJudged c.id needs lost proj d).within.now⟩

theorem testBit_setBit_other (v i j : Nat) (b : Bool) (h : j ≠ i) : (setBit v i b).testBit j = v.testBit j := by
  rw [testBit_setBit, if_neg h.symm]

/-- A record of a source in use is judged and put to the queue. -/
theorem srcDeliver_used (r : Regs) (x : RawRecord) (d : Dev) (c : SourceRec) (hc : d.sourceRec x.src = some c) (hst : (d.source x.src).st ≠ .unused)
    (hm : d.mde.mode ≠ .dormant) : ∃ needs lost proj y,
      srcDeliver r x d = srcQueue r y (recordJudged r c x.stamp (x.flags.testBit 0) needs lost proj d) ∧
      y.id = x.src ∧ y.stamp = x.stamp % 2 ^ 64 ∧ y.format = c.format ∧ y.arrival = x.arrival := by
  have hguard : ¬ (((d.source x.src).st == .unused || d.mde.mode == .dormant) = true) := by simp [hst, hm]
  have hbit (a b : Bool) : bit (setBit (setBit (x.flags % 64) 1 a) 2 b) 0 = x.flags.testBit 0 := by
    rw [bit, testBit_setBit_other _ _ _ _ (by decide), testBit_setBit_other _ _ _ _ (by decide), show (64 : Nat) = 2 ^ 6 from rfl, Nat.testBit_mod_two_pow]
    simp
  unfold srcDeliver
  rw [hc]
  dsimp only
  rw [if_neg hguard, hbit, ← sourceRec_id hc]
  exact ⟨_, _, _, _, rfl, rfl, rfl, rfl, rfl⟩

theorem acts_srcDeliver (r : Regs) (x : RawRecord) (d : Dev) : Acts [.irq, .evt, .src] (srcDeliver r x d) d := by
  cases hc : d.sourceRec x.src with
  | none =>
    unfold srcDeliver
    rw [hc]
    exact .refl _ d
  | some c =>
    by_cases h : (d.source x.src).st ≠ .unused ∧ d.mde.mode ≠ .dormant
    · obtain ⟨needs, lost, proj, y, heq, -⟩ := srcDeliver_used r x d c hc h.1 h.2
      rw [heq]
      exact ((acts_srcQueue r y _).trans (acts_recordJudged r c _ _ _ _ _ d)).mono (by simp)
    · have hguard : ((d.source x.src).st == .unused || d.mde.mode == .dormant) = true := by
        rw [Bool.or_eq_true, beq_iff_eq, beq_iff_eq]
        by_cases h1 : (d.source x.src).st = .unused
        · exact .inl h1
        · exact .inr (by_contra fun h2 => h ⟨h1, h2⟩)
      unfold srcDeliver
      rw [hc]
      dsimp only
      rw [if_pos hguard]
      exact .refl _ d

/-! ### A source's timeout -/

/-- A source timed out, with its latched reference point gone. -/
def timedOut (r : Regs) (i : Nat) (d : Dev) : Dev :=
  record r .srcTimeout { p0 := i } (raise 0x0F 0 (modSource i (fun x => { x with st := .timedOut })
    { d with fus := { d.fus with srcs := modAt d.fus.srcs i fun x => { x with latch := none } } }))

theorem sourceTimeout_due (i : Nat) (r : Regs) (d : Dev) (c : SourceRec) (hc : d.sourceRec i = some c) (hm : d.mde.mode ≠ .dormant)
    (hst : (d.source i).st = .active ∨ (d.source i).st = .waiting) (ht : (d.source i).validTick + ticksOf32 c.timeout ≤ d.now) :
    sourceTimeout i r d = timedOut r i d := by
  have hmode : (d.mde.mode == Mode.dormant) = false := by simpa using hm
  have hstate : ((d.source i).st == .active || (d.source i).st == .waiting) = true := by
    rcases hst with h | h <;> rw [h] <;> rfl
  simp only [sourceTimeout, hc, hmode, hstate, decide_eq_true ht]
  rfl

theorem within_timedOut (r : Regs) (i : Nat) (d : Dev) : Within [.irq, .evt, .src, .fus] (timedOut r i d) d :=
  ((within_record r .srcTimeout _ _).trans ((within_raise _ _ _).trans ((acts_modSource i _ _).within.trans (within_fus d _)))).mono (by simp)

/-- Settles O27. -/
theorem sourceRecordsAndTimeouts : Obligations.SourceRecordsAndTimeouts := by
  unfold Obligations.SourceRecordsAndTimeouts
  refine ⟨fun s x c hc hi hst hm hraw => ?_, fun s i c hc hi hf hm hst ht hraw => ?_⟩
  · refine ⟨_, onDev_next s (fun r d => srcDeliver r x d), (acts_srcDeliver s.regs x s.dev.quiet).onlyParts (by simp), ?_⟩
    obtain ⟨needs, lost, proj, y, heq, hid, hstamp, hformat, harrival⟩ := srcDeliver_used s.regs x s.dev.quiet c hc hst hm
    have hcid : c.id = x.src := sourceRec_id hc
    have hkept := sourceKept_recordJudged s.regs c x.stamp (x.flags.testBit 0) needs lost proj s.dev.quiet (hcid ▸ hi)
    rw [hcid] at hkept
    have hlen := hkept.length.symm ▸ hi
    rw [heq, settle_source, settle_src, settle_raw]
    generalize hj : recordJudged s.regs c x.stamp (x.flags.testBit 0) needs lost proj s.dev.quiet = j at hkept hlen ⊢
    rw [← hid] at hlen
    refine ⟨fun k hk => ?_, fun hv => ?_, fun hroom => ?_, fun hfull => ?_⟩
    · rw [settle_source, srcQueue_source_other s.regs y j k (hid ▸ hk), hkept.others k hk]
      rfl
    · have hvalid := recordJudged_valid s.regs c x.stamp needs lost proj s.dev.quiet (hcid ▸ hi)
      rw [hv] at hj
      rw [hj, hcid, ← hid] at hvalid
      have hq := srcQueue_keeps s.regs y j hlen
      rw [hid] at hq hvalid
      exact ⟨hq.1.trans hvalid.1, hq.2.trans hvalid.2⟩
    · have hroom' : j.src.queue.length < 512 := by rw [hkept.queue]; exact hroom
      obtain ⟨hsrc, hqueue⟩ := srcQueue_room_src s.regs y j hroom' hlen
      have hrec : (j.source y.id).records = (s.dev.source x.src).records := by rw [hid]; exact hkept.records
      rw [hid] at hsrc
      rw [hsrc, hqueue, hkept.queue]
      refine ⟨?_, numbered y j, rfl, rfl, hid, hstamp, hrec, hformat, harrival⟩
      show wrapInc 16 (j.source x.src).records = _
      rw [hkept.records]
      rfl
    · have hfull' : 512 ≤ j.src.queue.length := by rw [hkept.queue]; exact hfull
      rw [srcQueue_full s.regs y j hfull']
      refine ⟨hkept.queue, congrArg (wrapInc 16) hkept.overflow, raise_testBit_self _ _ _ ?_⟩
      rw [← hj]
      show 0x0F < (recordJudged s.regs c x.stamp (x.flags.testBit 0) needs lost proj s.dev.quiet).irq.raw.length
      rw [(acts_recordJudged s.regs c x.stamp (x.flags.testBit 0) needs lost proj s.dev.quiet).raised.length]
      exact hraw
  · refine ⟨_, onDev_next s (sourceTimeout i), ?_⟩
    rw [sourceTimeout_due i s.regs s.dev.quiet c hc hm hst ht]
    refine ⟨(within_timedOut s.regs i s.dev.quiet).onlyParts (by simp), ?_⟩
    rw [settle_source, settle_fus, settle_raw, timedOut, record_source, raise_source, record_fus]
    refine ⟨modSource_source_self i _ _ hi, fun k hk => ?_, ?_, ?_⟩
    · rw [settle_source, record_source, raise_source, modSource_source_other i k _ _ hk]
      rfl
    · exact congrArg FusSrc.latch (at'_modAt_self s.dev.fus.srcs i _ hf)
    · exact (raised_record s.regs .srcTimeout _ _).bit _ _ (raise_testBit_self _ _ _ hraw)

end Sys2Proof
end

section
/-! PROOFS. Satellite solutions, corrections and the refresh of the asleep level. -/

namespace Sys2Proof

open Sys2Proof.Machine

/-! ### What the steps of a solution act on -/

theorem acts_gns2 (d : Dev) (x : Gns2St) : Acts [.gns2] { d with gns2 := x } d := (within_gns2 d x).acts (by simp)

theorem acts_gns1 (d : Dev) (x : Gns1St) : Acts [.gns1] { d with gns1 := x } d := (within_gns1 d x).acts (by simp)

theorem acts_ndlSend (t : NdlType) (w : List Nat) (d : Dev) : Acts [.ndl] (ndlSend t w d) d :=
  ((acts_emit _ _).trans ((within_ndl d _).acts (by simp))).mono (by simp)

theorem acts_servoUpdate (r : Regs) (i : Nat) (ps : Int) (d : Dev) : Acts [.irq, .tim] (servoUpdate r i ps d) d :=
  ⟨within_servoUpdate r i ps d, (steered_servoUpdate r i ps d).raised⟩

theorem acts_setTime (st : TimeState) (d : Dev) : Acts [.irq, .gns2] (setTime st d) d := ⟨within_setTime st d, raised_setTime st d⟩

theorem acts_tb0Feed (r : Regs) (ps : Int) (d : Dev) : Acts [.irq, .gns2, .tim] (tb0Feed r ps d) d :=
  ((acts_servoUpdate r 0 ps _).trans (acts_gns2 d _)).mono (by simp)

theorem acts_tb0Hold (ns : Int) (d : Dev) : Acts [.gns2, .ndl] (tb0Hold ns d) d := by
  have hheld : Acts [.gns2, .ndl] (offsetHeld ns d) d := (acts_gns2 d _).mono (by simp)
  have hset : Acts [.gns2, .ndl] (stepSet ns (offsetHeld ns d)) d :=
    Acts.also (b := offsetHeld ns d) ((acts_gns2 (offsetHeld ns d) _).mono (by simp)) hheld
  rw [tb0Hold_eq]
  exact .ite (.ite (((acts_ndlSend _ _ _).mono (by simp)).also hset) hset) hheld

theorem acts_stateFed (r : Regs) (ps : Int) (st : TimeState) (d : Dev) : Acts [.irq, .gns2, .tim] (stateFed r ps st d) d :=
  ((acts_tb0Feed r ps _).trans ((acts_setTime st _).trans (acts_gns2 d _))).mono (by simp)

theorem acts_offsetJudged (r : Regs) (ps : Int) (inhibit : Bool) (d : Dev) : Acts [.irq, .gns2, .tim, .ndl] (offsetJudged r ps inhibit d) d := by
  have hfeed : Acts [.irq, .gns2, .tim, .ndl] (tb0Feed r ps d) d := (acts_tb0Feed r ps d).mono (by simp)
  have hslew : Acts [.irq, .gns2, .tim, .ndl] (tb0Feed r ps (setTime .slewing d)) d :=
    ((acts_tb0Feed r ps _).trans (acts_setTime .slewing d)).mono (by simp)
  have hhold : Acts [.irq, .gns2, .tim, .ndl] (tb0Hold (ps / 1000) d) d := (acts_tb0Hold _ d).mono (by simp)
  have hfed (st : TimeState) : Acts [.irq, .gns2, .tim, .ndl] (stateFed r ps st d) d := (acts_stateFed r ps st d).mono (by simp)
  unfold offsetJudged
  cases d.gns2.st with
  | unsync => exact hhold
  | locked => exact .ite hfeed (.ite hslew hhold)
  | holdover => exact .ite (hfed _) (.ite (hfed _) hhold)
  | slewing => exact .ite (hfed _) (.ite (hfed _) hhold)

theorem acts_tb0Offset (r : Regs) (ps : Int) (d : Dev) : Acts [.irq, .gns2, .tim, .ndl] (tb0Offset r ps d) d := by
  by_cases h : srvMode r d 0 = 1
  · obtain ⟨inhibit, heq⟩ := tb0Offset_mode r ps d h
    have hnoted : Acts [.tim, .gns2] (offsetNoted ps d) d := ((within_modSrv 0 _ _).acts (by simp)).trans (acts_gns2 d _)
    rw [heq]
    exact ((acts_offsetJudged r ps inhibit _).trans hnoted).mono (by simp)
  · rw [show tb0Offset r ps d = d from if_pos h]
    exact .refl _ d

theorem acts_toSources (r : Regs) (fmt epoch : Nat) (vals : List Word) (ant : Option (Nat × Nat)) (sigma : F32) (d : Dev) :
    Acts [.irq, .evt, .src, .free] (toSources r fmt epoch vals ant sigma d) d := by
  unfold toSources
  exact acts_foldl _ _ d fun a x => .when (((acts_srcDeliver r _ _).trans (acts_takeFree a)).mono (by simp))

theorem acts_modTile (t : Nat) (f : Tile → Tile) (d : Dev) : Acts [.msn] (modTile t f d) d := (within_msn d _).acts (by simp)

theorem acts_modJob (j : Nat) (f : Job → Job) (d : Dev) : Acts [.msn] (modJob j f d) d := (within_msn d _).acts (by simp)

theorem acts_ranJob (r : Regs) (j : Nat) (d : Dev) : Acts [.msn, .free] (ranJob r j d) d :=
  ((acts_modJob j _ _).trans ((acts_foldl _ _ _ fun a t => acts_modTile t _ a).trans (acts_takeFree d))).mono (by simp)

theorem acts_leapPut (r : Regs) (e : LeapEntry) (d : Dev) : Acts [.irq, .evt, .lif] (leapPut r e d) d := by
  unfold leapPut
  refine .unless ?_
  exact ((acts_record r .leapAdded _ _).trans ((acts_raise _ _ _).trans (((within_lif _ _).acts (by simp)).trans ((within_lif d _).acts (by simp))))).mono
    (by simp)

theorem acts_leapIn (r : Regs) (t : Nat) (o : Int) (d : Dev) : Acts [.irq, .evt, .lif, .gns2] (leapIn r t o d) d := by
  unfold leapIn
  exact .unless (((acts_leapPut r _ _).trans ((acts_raise _ _ _).trans (acts_gns2 d _))).mono (by simp))

/-- TAI less UTC taken from a message. -/
def utcTaken (v : Int) (d : Dev) : Dev := { d with gns2 := { d.gns2 with taiUtc := v } }

theorem acts_utcIn (r : Regs) (v : Int) (d : Dev) : Acts [.irq, .evt, .lif, .gns2] (utcIn r v d) d := by
  have htaken : Acts [.irq, .evt, .lif, .gns2] (utcTaken v d) d := (acts_gns2 d _).mono (by simp)
  exact .ite (((acts_leapPut r _ (utcTaken v d)).mono (by simp)).also htaken) htaken

/-! ### The type of a solution -/

/-- What a solution keeps of the receiver's results while it is taken: nothing but the type, the number of satellites and the attitude's mode counts here. -/
structure ResultKept (b a : Dev) : Prop where
  raised : Raised b a
  epoch : b.gns1.lastEpoch = a.gns1.lastEpoch
  type : b.gns1.type = a.gns1.type

theorem ResultKept.trans {c b a : Dev} (h : ResultKept c b) (g : ResultKept b a) : ResultKept c a :=
  ⟨h.raised.trans g.raised, h.epoch.trans g.epoch, h.type.trans g.type⟩

theorem Acts.resultKept {l : List Part} {b a : Dev} (h : Acts l b a) (hg : Part.gns1 ∉ l) : ResultKept b a :=
  have hgns : b.gns1 = a.gns1 := h.agree .gns1 hg
  ⟨h.raised, congrArg Gns1St.lastEpoch hgns, congrArg Gns1St.type hgns⟩

theorem resultKept_gns1 (d : Dev) (x : Gns1St) (he : x.lastEpoch = d.gns1.lastEpoch) (ht : x.type = d.gns1.type) :
    ResultKept { d with gns1 := x } d := ⟨.of_raw rfl, he, ht⟩

/-- The type of a solution changed from `old`: the interrupts of its coming and going. -/
structure TypeSet (old : Nat) (b a : Dev) : Prop where
  raised : Raised b a
  epoch : b.gns1.lastEpoch = a.gns1.lastEpoch
  bound : b.gns1.type ≤ 4
  came : 0x0D < a.irq.raw.length → old = 0 → b.gns1.type ≠ 0 → (at' b.irq.raw 0x0D).testBit 0 = true
  went : 0x0D < a.irq.raw.length → old ≠ 0 → b.gns1.type = 0 → (at' b.irq.raw 0x0D).testBit 1 = true

theorem setType_typeSet (t : Nat) (d : Dev) (h : t ≤ 4) : TypeSet d.gns1.type (setType t d) d ∧ (setType t d).gns1 = { d.gns1 with type := t } := by
  have hg : (setType t d).gns1 = { d.gns1 with type := t } := by simp [setType]
  have hfirst : Raised (raiseIf (d.gns1.type == 0 && t != 0) 0xD 0 { d with gns1 := { d.gns1 with type := t } }) d :=
    (raised_raiseIf _ _ _ _).trans (.of_raw rfl)
  have hlast (x : Dev) : Raised (raiseIf (d.gns1.type == 4 && t != 4) 0xD 3 (raiseIf (d.gns1.type != 4 && t == 4) 0xD 2 x)) x :=
    (raised_raiseIf _ _ _ _).trans (raised_raiseIf _ _ _ _)
  refine ⟨⟨(hlast _).trans ((raised_raiseIf _ _ _ _).trans hfirst), by rw [hg], by rw [hg]; exact h, fun hlen hold hnew => ?_, fun hlen hold hnew => ?_⟩, hg⟩
  · rw [hg] at hnew
    have hcame : (d.gns1.type == 0 && t != 0) = true := by simp [hold, hnew]
    refine (hlast _).bit _ _ ((raised_raiseIf _ _ _ _).bit _ _ ?_)
    rw [hcame]
    exact raise_testBit_self _ _ _ hlen
  · rw [hg] at hnew
    have hnew' : t = 0 := hnew
    have hwent : (d.gns1.type != 0 && t == 0) = true := by simp [hold, hnew']
    refine (hlast _).bit _ _ ?_
    rw [hwent]
    exact raise_testBit_self _ _ _ (hfirst.length ▸ hlen)

theorem TypeSet.after {old : Nat} {c b a : Dev} (h : ResultKept c b) (g : TypeSet old b a) : TypeSet old c a :=
  ⟨h.raised.trans g.raised, h.epoch.trans g.epoch, h.type ▸ g.bound, fun hlen ho hn => h.raised.bit _ _ (g.came hlen ho (h.type ▸ hn)),
    fun hlen ho hn => h.raised.bit _ _ (g.went hlen ho (h.type ▸ hn))⟩

theorem TypeSet.before {old : Nat} {c b a : Dev} (h : TypeSet old c b) (g : ResultKept b a) : TypeSet old c a :=
  ⟨h.raised.trans g.raised, h.epoch.trans g.epoch, h.bound, fun hlen => h.came (g.raised.length.symm ▸ hlen),
    fun hlen => h.went (g.raised.length.symm ▸ hlen)⟩

/-! ### A position -/

theorem resultKept_rtkOff (r : Regs) (d : Dev) : ResultKept (rtkOff r d) d :=
  ((acts_raiseIf _ _ _ _).resultKept (by simp)).trans (resultKept_gns1 d _ rfl rfl)

/-- The receiver's results without a position. -/
def positionNone (excl : Nat) (d : Dev) : Dev :=
  { d with gns1 := { d.gns1 with nsv := 0, excl := excl, isbEst := 0, rtk := { d.gns1.rtk with good := 0 } } }

theorem noSolution_typeSet (excl : Nat) (d : Dev) :
    TypeSet d.gns1.type (noSolution excl d) d ∧ (noSolution excl d).gns1.type = 0 ∧ (noSolution excl d).gns1.nsv = 0 := by
  obtain ⟨hset, hg⟩ := setType_typeSet 0 (positionNone excl d) (by decide)
  have heq : noSolution excl d = setType 0 (positionNone excl d) := rfl
  rw [heq, hg]
  exact ⟨hset.before (resultKept_gns1 d _ rfl rfl), rfl, rfl⟩

/-- The corrections judged, before a solution is taken up. -/
def rtkJudged (r : Regs) (o : PassOut) (slips : Nat) (rtk : Bool) (d : Dev) : Dev :=
  if rtk then { d with gns1 := { d.gns1 with rtk := rtkEpoch r o slips d.gns1.rtk } } else rtkOff r d

theorem resultKept_rtkJudged (r : Regs) (o : PassOut) (slips : Nat) (rtk : Bool) (d : Dev) : ResultKept (rtkJudged r o slips rtk d) d := by
  unfold rtkJudged
  split
  · exact resultKept_gns1 d _ rfl rfl
  · exact resultKept_rtkOff r d

/-- The type of a solution: 4 or 3 with corrections, 2 or 1 without. -/
def solType (rtk fixed sbas : Bool) : Nat := if rtk then (if fixed then 4 else 3) else if sbas then 2 else 1

theorem solType_le (rtk fixed sbas : Bool) : solType rtk fixed sbas ≤ 4 := by
  unfold solType
  split_ifs <;> decide

/-- A solution's record, its sources and its offset follow its type. -/
theorem takeSolution_steps (r : Regs) (ant : Nat) (m : SolMeas) (rtk : Bool) (priors : List (Nat × F32)) (o : PassOut) (l : List SatObs) (excl : Nat) (d : Dev) :
    ∃ fixed sbas nsv isbEst isb posRec vals place sigma ps,
      let a := rtkJudged r o m.slips rtk d
      let c := setType (solType rtk fixed sbas)
        { a with gns1 := { a.gns1 with ant := ant, nsv := nsv, excl := excl, isbEst := isbEst, isb := isb, posRec := posRec } }
      let e := toSources r 1 m.at_ vals place sigma c
      takeSolution r ant m rtk priors o l excl d = if srvSrc r e 0 = 1 then tb0Offset r ps e else e :=
  ⟨_, _, _, _, _, _, _, _, _, _, rfl⟩

theorem takeSolution_typeSet (r : Regs) (ant : Nat) (m : SolMeas) (rtk : Bool) (priors : List (Nat × F32)) (o : PassOut) (l : List SatObs) (excl : Nat)
    (d : Dev) : TypeSet d.gns1.type (takeSolution r ant m rtk priors o l excl d) d := by
  obtain ⟨fixed, sbas, nsv, isbEst, isb, posRec, vals, place, sigma, ps, heq⟩ := takeSolution_steps r ant m rtk priors o l excl d
  have hrtk := resultKept_rtkJudged r o m.slips rtk d
  generalize rtkJudged r o m.slips rtk d = a at heq hrtk
  have hrec := resultKept_gns1 a { a.gns1 with ant := ant, nsv := nsv, excl := excl, isbEst := isbEst, isb := isb, posRec := posRec } rfl rfl
  have hset := (setType_typeSet (solType rtk fixed sbas) _ (solType_le rtk fixed sbas)).1.before (hrec.trans hrtk)
  rw [show ({ a with gns1 := { a.gns1 with ant := ant, nsv := nsv, excl := excl, isbEst := isbEst, isb := isb, posRec := posRec } } : Dev).gns1.type
    = d.gns1.type from hrtk.type] at hset
  rw [heq]
  dsimp only
  have hsrc := hset.after ((acts_toSources r 1 m.at_ vals place sigma _).resultKept (by simp))
  split
  · exact hsrc.after ((acts_tb0Offset r ps _).resultKept (by simp))
  · exact hsrc

theorem positionEpoch_typeSet (r : Regs) (m : SolMeas) (d : Dev) : TypeSet d.gns1.type (positionEpoch r m d) d := by
  unfold positionEpoch
  split
  · exact (noSolution_typeSet 0 d).1
  · dsimp only
    split
    · have hkept : ResultKept (if rtkOn r d then d else rtkOff r d).takeFree d := by
        refine ((acts_takeFree _).resultKept (by simp)).trans ?_
        split
        · exact ⟨.refl d, rfl, rfl⟩
        · exact resultKept_rtkOff r d
      exact hkept.type ▸ (noSolution_typeSet 0 _).1.before hkept
    · exact (((takeSolution_typeSet r _ m _ _ _ _ _ d.takeFree).before ((acts_takeFree d).resultKept (by simp))).after
        ((acts_raiseIf _ _ _ _).resultKept (by simp)))

/-! ### An attitude -/

theorem setAttMode_gns1 (m : Nat) (d : Dev) : (setAttMode m d).gns1 = { d.gns1 with attMode := m } := raiseIf_gns1 _ _ _ _

theorem resultKept_setAttMode (m : Nat) (d : Dev) : ResultKept (setAttMode m d) d :=
  ((acts_raiseIf _ _ _ _).resultKept (by simp)).trans (resultKept_gns1 d _ rfl rfl)

theorem resultKept_noAttitude (d : Dev) : ResultKept (noAttitude d) d := (resultKept_setAttMode 0 _).trans (resultKept_gns1 d _ rfl rfl)

theorem noAttitude_gns1 (d : Dev) : (noAttitude d).gns1.attMode = 0 ∧ (noAttitude d).gns1.nsv = d.gns1.nsv ∧ (noAttitude d).gns1.type = d.gns1.type := by
  rw [noAttitude, setAttMode_gns1]
  exact ⟨rfl, rfl, rfl⟩

/-- The baselines of an attitude judged. -/
def basesJudged (bad : Bool) (d : Dev) : Dev := raiseIf bad 0xD 6 { d.takeFree with gns1 := { d.takeFree.gns1 with baseFail := bad } }

/-- The record of an attitude. -/
def attWritten (ants nsv : Nat) (w : List Word) (d : Dev) : Dev := { d with gns1 := { d.gns1 with ants := ants, attNsv := nsv, attRec := w } }

/-- An epoch has no attitude to try, none after its baselines, or one that is written and told. -/
theorem attitudeEpoch_cases (r : Regs) (m : SolMeas) (d : Dev) :
    attitudeEpoch r m d = noAttitude d ∨ (∃ bad, attitudeEpoch r m d = noAttitude (basesJudged bad d)) ∨
      ∃ bad ants nsv w mode vals,
        attitudeEpoch r m d = toSources r 2 m.at_ vals none F32.zero (setAttMode mode (attWritten ants nsv w (basesJudged bad d))) := by
  unfold attitudeEpoch
  extract_lets l ok sats tried
  clear_value l ok sats tried
  split
  · exact .inl rfl
  · dsimp only
    split
    · exact .inr (.inl ⟨_, rfl⟩)
    · exact .inr (.inr ⟨_, _, _, _, _, _, rfl⟩)

theorem resultKept_basesJudged (bad : Bool) (d : Dev) : ResultKept (basesJudged bad d) d :=
  ((acts_raiseIf _ _ _ _).resultKept (by simp)).trans ⟨.of_raw rfl, rfl, rfl⟩

theorem resultKept_attitudeEpoch (r : Regs) (m : SolMeas) (d : Dev) : ResultKept (attitudeEpoch r m d) d := by
  rcases attitudeEpoch_cases r m d with h | ⟨bad, h⟩ | ⟨bad, ants, nsv, w, mode, vals, h⟩
  · rw [h]
    exact resultKept_noAttitude d
  · rw [h]
    exact (resultKept_noAttitude _).trans (resultKept_basesJudged bad d)
  · rw [h]
    exact ((acts_toSources _ _ _ _ _ _ _).resultKept (by simp)).trans ((resultKept_setAttMode _ _).trans
      (ResultKept.trans (b := basesJudged bad d) ⟨.of_raw rfl, rfl, rfl⟩ (resultKept_basesJudged bad d)))

/-! ### Navigation data -/

/-- The satellites' entries, the ionosphere and the broadcast offsets that messages gave. -/
def navRead (sats : List SatInfo) (m : SolMeas) (d : Dev) : Dev :=
  { d with gns1 := { d.gns1 with
    sats := sats, iono := m.iono.getD d.gns1.iono
    isbBcast := m.isb.foldl (fun l e => modAt l e.1 fun _ => some e.2) d.gns1.isbBcast } }

/-- A leap second announced. -/
def leapHeard (r : Regs) (m : SolMeas) (d : Dev) : Dev := match m.leap with | some (t, o) => leapIn r t o d | none => d

/-- TAI less UTC announced. -/
def utcHeard (r : Regs) (m : SolMeas) (d : Dev) : Dev := match m.taiUtc with | some v => utcIn r v d | none => d

/-- A pending leap second settled. -/
def leapSettled (pending : Bool) (d : Dev) : Dev := { d with gns2 := { d.gns2 with leapPending := pending } }

theorem navIn_steps (r : Regs) (m : SolMeas) (d : Dev) : ∃ sats pending,
    navIn r m d = leapSettled pending (utcHeard r m (leapHeard r m (navRead sats m d))) :=
  ⟨_, _, rfl⟩

theorem acts_leapHeard (r : Regs) (m : SolMeas) (d : Dev) : Acts [.irq, .evt, .lif, .gns2] (leapHeard r m d) d := by
  unfold leapHeard
  split
  · exact acts_leapIn r _ _ d
  · exact .refl _ d

theorem acts_utcHeard (r : Regs) (m : SolMeas) (d : Dev) : Acts [.irq, .evt, .lif, .gns2] (utcHeard r m d) d := by
  unfold utcHeard
  split
  · exact acts_utcIn r _ d
  · exact .refl _ d

theorem acts_navIn (r : Regs) (m : SolMeas) (d : Dev) : Acts [.irq, .evt, .lif, .gns2, .gns1] (navIn r m d) d ∧ ResultKept (navIn r m d) d := by
  obtain ⟨sats, pending, h⟩ := navIn_steps r m d
  have hread : Acts [.gns1] (navRead sats m d) d := acts_gns1 d _
  have hheard : Acts [.irq, .evt, .lif, .gns2] (leapSettled pending (utcHeard r m (leapHeard r m (navRead sats m d)))) (navRead sats m d) :=
    Acts.also (b := utcHeard r m (leapHeard r m (navRead sats m d))) ((acts_gns2 _ _).mono (by simp)) ((acts_utcHeard r m _).also (acts_leapHeard r m _))
  rw [h]
  exact ⟨(hheard.trans hread).mono (by simp), (hheard.resultKept (by simp)).trans (resultKept_gns1 d _ rfl rfl)⟩

/-! ### The epoch of a solution -/

/-- The position of an epoch where its tiles run, none elsewhere. -/
def positionStep (r : Regs) (m : SolMeas) (d : Dev) : Dev :=
  if d.clk.lock.testBit 1 && !((d.job 5).tiles.isEmpty) then ranJob r 5 (positionEpoch r m d) else noSolution 0 d

theorem positionStep_typeSet (r : Regs) (m : SolMeas) (d : Dev) : TypeSet d.gns1.type (positionStep r m d) d := by
  unfold positionStep
  split
  · exact (positionEpoch_typeSet r m d).after ((acts_ranJob r 5 _).resultKept (by simp))
  · exact (noSolution_typeSet 0 d).1

/-- The attitude of an epoch where its tiles run, none elsewhere. -/
def attitudeStep (r : Regs) (m : SolMeas) (run : Bool) (d : Dev) : Dev :=
  if run && r.bit F.GNS1_HDG_CFG_ATT_EN && !((d.job 6).tiles.isEmpty) then ranJob r 6 (attitudeEpoch r m d) else noAttitude d

theorem resultKept_attitudeStep (r : Regs) (m : SolMeas) (run : Bool) (d : Dev) : ResultKept (attitudeStep r m run d) d := by
  unfold attitudeStep
  split
  · exact ((acts_ranJob r 6 _).resultKept (by simp)).trans (resultKept_attitudeEpoch r m d)
  · exact resultKept_noAttitude d

/-- An epoch noted. -/
def epochNoted (m : SolMeas) (d : Dev) : Dev := { d with gns1 := { d.gns1 with lastEpoch := m.at_ } }

theorem gnssSolution_due (m : SolMeas) (r : Regs) (d : Dev) (hrun : gnssRuns r d = true) (hen : r.en 0x0D = true) (hdue : solDue r m d = true) :
    gnssSolution m r d = attitudeStep r m ((navIn r m (epochNoted m d)).clk.lock.testBit 1) (positionStep r m (navIn r m (epochNoted m d))) :=
  if_neg (by simp [hrun, hen, hdue])

/-! ### Corrections -/

theorem rtcmFrame_read (b : List Byte) (r : Regs) (d : Dev) (hrun : gnssRuns r d = true) (hen : r.en 0x0D = true) (h0 : at' b 0 = 0xD3)
    (hlen : msgBits b 14 10 + 6 ≤ b.length) :
    rtcmFrame b r d = if crc24q (slice b 0 (msgBits b 14 10 + 3)) ≠ beNat (slice b (msgBits b 14 10 + 3) 3) then
        { d with gns1 := { d.gns1 with rtcmErr := wrapInc 16 d.gns1.rtcmErr } }
      else if msmTypes.contains (msgBits (slice b 3 (msgBits b 14 10)) 0 12) ||
          [1005, 1006, 1007, 1008, 1033].contains (msgBits (slice b 3 (msgBits b 14 10)) 0 12) then
        rtcmIn r (msgBits (slice b 3 (msgBits b 14 10)) 0 12) (slice b 3 (msgBits b 14 10)) d
      else { d with gns1 := { d.gns1 with rtcmIgn := wrapInc 16 d.gns1.rtcmIgn } } := by
  have hguard : ¬ ((!(gnssRuns r d) || !(r.en 0xD) || at' b 0 != 0xD3) = true) := by simp [hrun, hen, h0]
  simp only [rtcmFrame, if_neg hguard, if_neg (Nat.not_lt.2 hlen), bne_iff_ne]

theorem within_rtcmIn (r : Regs) (ty : Nat) (b : List Byte) (d : Dev) : Within [.gns1] (rtcmIn r ty b d) d := by
  unfold rtcmIn
  dsimp only
  split_ifs
  · exact within_gns1 d _
  · exact within_gns1 d _
  · exact within_gns1 d _

/-- An MSM message is counted and kept with its instant. -/
theorem rtcmIn_msm (r : Regs) (ty : Nat) (b : List Byte) (d : Dev) (h : msmTypes.contains ty = true) :
    (rtcmIn r ty b d).gns1.rtcmAcc = wrapInc 16 d.gns1.rtcmAcc ∧ (rtcmIn r ty b d).gns1.rtk.msmAt = some d.tb0 ∧
      sget (rtcmIn r ty b d).gns1.rtk.msm ty [] = b := by
  simp only [rtcmIn, if_pos h]
  exact ⟨trivial, rfl, sget_sins_self _ _ _ _⟩

/-! ### The refresh of the asleep level -/

/-- The device after a refresh. -/
def refreshEnded (m : RefreshMeas) (now : Nat) (d : Dev) : Dev :=
  { d.takeFree with
    gns2 := { d.gns2 with kept := refreshed m d }
    mde := { d.mde with dorm := .asleep, refreshAt := now }
    pwr := { d.pwr with on := 7, pgood := 7 } }

theorem within_refreshEnded (m : RefreshMeas) (now : Nat) (d : Dev) : Within [.free, .gns2, .mde, .pwr] (refreshEnded m now d) d := by
  refine ⟨rfl, fun p hp => ?_⟩
  cases p
  case free | gns2 | mde | pwr => exact absurd hp (by simp)
  all_goals rfl

theorem dormantRefreshDone_due (m : RefreshMeas) (r : Regs) (d : Dev) (hd : d.mde.dorm = .refresh)
    (h : 6 ≤ m.eph.eraseDups.length ∨ d.mde.refreshFrom + 120 ≤ d.tb3 / nsPerSec) :
    dormantRefreshDone m r d = refreshEnded m (d.tb3 / nsPerSec) d :=
  if_pos (by simpa [hd] using h)

/-- Settles O26. -/
theorem gnssSolutionsAndCorrections : Obligations.GnssSolutionsAndCorrections := by
  unfold Obligations.GnssSolutionsAndCorrections
  refine ⟨fun s m hrun hen hdue hraw => ?_, fun s b => ?_, fun s m hd h => ?_⟩
  · refine ⟨_, onDev_next s (gnssSolution m), rfl, rfl, ?_⟩
    rw [gnssSolution_due m s.regs s.dev.quiet hrun hen hdue, settle_gns1, settle_raw]
    obtain ⟨hacts, hnav⟩ := acts_navIn s.regs m (epochNoted m s.dev.quiet)
    have hlock : (navIn s.regs m (epochNoted m s.dev.quiet)).clk = s.dev.clk := hacts.agree .clk (by simp)
    generalize navIn s.regs m (epochNoted m s.dev.quiet) = a at hnav hlock ⊢
    have hset := ((positionStep_typeSet s.regs m a).before hnav).after (resultKept_attitudeStep s.regs m (a.clk.lock.testBit 1) _)
    rw [hnav.type] at hset
    refine ⟨hset.epoch, hset.bound, fun hl => ?_, hset.came hraw, hset.went hraw⟩
    have hoff : a.clk.lock.testBit 1 = false := hlock ▸ hl
    have hpos : positionStep s.regs m a = noSolution 0 a := if_neg (by simp [hoff])
    have hatt : attitudeStep s.regs m false (noSolution 0 a) = noAttitude (noSolution 0 a) := if_neg (by simp)
    obtain ⟨-, htype, hnsv⟩ := noSolution_typeSet 0 a
    obtain ⟨hmode, hkeep, hsame⟩ := noAttitude_gns1 (noSolution 0 a)
    rw [hoff, hpos, hatt]
    exact ⟨hsame.trans htype, hkeep.trans hnsv, hmode⟩
  · intro n p ty hrun hen h0 hlen
    refine ⟨_, onDev_next s (rtcmFrame b), ?_⟩
    rw [rtcmFrame_read b s.regs s.dev.quiet hrun hen h0 hlen]
    refine ⟨(Within.ite (within_gns1 s.dev.quiet _) (.ite (within_rtcmIn s.regs ty p s.dev.quiet) (within_gns1 s.dev.quiet _))).onlyParts (by simp),
      fun hcrc => ?_, fun hcrc hmsm => ?_, fun hcrc hno => ?_⟩
    · rw [settle_gns1, if_pos hcrc]
      rfl
    · rw [settle_gns1, if_neg (not_not.2 hcrc), if_pos (Bool.or_eq_true_iff.2 (.inl hmsm))]
      exact rtcmIn_msm s.regs ty p s.dev.quiet hmsm
    · have hnone : ¬ ((msmTypes.contains ty || [1005, 1006, 1007, 1008, 1033].contains ty) = true) := by
        rw [← List.contains_append, hno]
        decide
      rw [settle_gns1, if_neg (not_not.2 hcrc), if_neg hnone]
      rfl
  · refine ⟨_, onDev_next s (dormantRefreshDone m), ?_⟩
    rw [dormantRefreshDone_due m s.regs s.dev.quiet hd h]
    refine ⟨(within_refreshEnded m _ s.dev.quiet).onlyParts (by simp), ?_⟩
    rw [settle_mde, settle_pwr, settle_gns2]
    exact ⟨rfl, rfl, rfl, rfl⟩

end Sys2Proof
end

section
/-! PROOFS. The epoch of the receiver: its count, the bank and the gains. -/

namespace Sys2Proof

open Sys2Proof.Machine

/-! ### What the epoch keeps of paths -/

/-- The receiver's paths, epoch and bank are as before. -/
structure RxKept (b a : Dev) : Prop where
  paths : b.gns0.paths = a.gns0.paths
  epoch : b.gns0.epoch = a.gns0.epoch
  bank : b.gns0.bankOff = a.gns0.bankOff

theorem RxKept.refl (d : Dev) : RxKept d d := ⟨rfl, rfl, rfl⟩

theorem RxKept.trans {c b a : Dev} (h : RxKept c b) (g : RxKept b a) : RxKept c a :=
  ⟨h.paths.trans g.paths, h.epoch.trans g.epoch, h.bank.trans g.bank⟩

theorem RxKept.ite {c : Prop} [Decidable c] {a b d : Dev} (ha : RxKept a d) (hb : RxKept b d) : RxKept (if c then a else b) d := by
  split
  · exact ha
  · exact hb

theorem RxKept.of_gns0 {b a : Dev} (h : b.gns0 = a.gns0) : RxKept b a := ⟨by rw [h], by rw [h], by rw [h]⟩

theorem rxKept_foldl {α : Type} (f : Dev → α → Dev) (l : List α) (d : Dev) (h : ∀ a x, RxKept (f a x) a) : RxKept (l.foldl f d) d :=
  foldl_keeps (RxKept · d) f l d (fun a x ha => (h a x).trans ha) (.refl d)

theorem rxKept_foldN (n : Nat) (f : Nat → Dev → Dev) (d : Dev) (h : ∀ i a, RxKept (f i a) a) : RxKept (foldN n f d) d :=
  foldN_keeps (RxKept · d) n f d (fun i a ha => (h i a).trans ha) (.refl d)

theorem rxKept_raiseIf (c : Bool) (p b : Nat) (d : Dev) : RxKept (raiseIf c p b d) d := .of_gns0 (raiseIf_gns0 c p b d)

theorem rxKept_modXt (i : Nat) (f : XtrkPath → XtrkPath) (d : Dev) : RxKept (modXt i f d) d := ⟨rfl, rfl, rfl⟩

theorem rxKept_releasePath (p : Nat) (d : Dev) : RxKept (releasePath p d) d := ⟨rfl, rfl, rfl⟩

theorem rxKept_modChan (c : Nat) (f : Channel → Channel) (d : Dev) : RxKept (modChan c f d) d := ⟨rfl, rfl, rfl⟩

theorem rxKept_xtrkPath (i : Nat) (d : Dev) : RxKept (xtrkPath i d) d := by
  unfold xtrkPath
  dsimp only
  split_ifs
  · exact .refl d
  · exact rxKept_modXt i _ d
  · exact ⟨rfl, rfl, rfl⟩
  · exact ⟨rfl, rfl, rfl⟩

/-- The end of cross-tracking is told. -/
def xtrkEnded (d : Dev) : Dev := raise 0xC 6 { d with gns0 := { d.gns0 with txActive := false } }

theorem rxKept_xtrkEnded (d : Dev) : RxKept (xtrkEnded d) d := ⟨rfl, rfl, rfl⟩

theorem rxKept_xtrkDown (d : Dev) : RxKept (xtrkDown d) d := by
  unfold xtrkDown
  refine .ite (.refl d) (.ite ((rxKept_xtrkEnded _).trans ?_) (.refl d))
  exact rxKept_foldN _ _ d fun i a => (rxKept_releasePath _ _).trans (rxKept_modXt i _ a)

theorem rxKept_settleRx (d : Dev) : RxKept (settleRx d) d := ⟨rfl, rfl, rfl⟩

theorem rxKept_chansEpoch (r : Regs) (ms : List ChMeas) (miss : Nat → Bool) (d : Dev) : RxKept (chansEpoch r ms miss d) d :=
  rxKept_foldl _ ms d fun a m => (rxKept_raiseIf _ _ _ _).trans (rxKept_modChan m.chn _ a)

theorem rxKept_settleSearch (d : Dev) : RxKept (settleSearch d) d := by
  unfold settleSearch
  dsimp only
  split
  · split
    · split_ifs <;> exact ⟨rfl, rfl, rfl⟩
    · exact .refl d
  · exact .refl d

theorem rxKept_bankLost (d : Dev) : RxKept (bankLost d) d := by
  unfold bankLost
  split
  · exact .ite ⟨rfl, rfl, rfl⟩ (.refl d)
  · exact .refl d

theorem rxKept_request (q : AcqReq) (d : Dev) : RxKept (request q d) d := .ite (.refl d) ⟨rfl, rfl, rfl⟩

theorem rxKept_meetNeed (r : Regs) (d : Dev) (n : SkySat × Nat × Nat) : RxKept (meetNeed r d n) d := by
  unfold meetNeed
  dsimp only
  refine .ite (.refl d) (.ite (.ite (.refl d) ?_) (.ite (rxKept_request _ d) (.refl d)))
  split
  · exact rxKept_modChan _ _ d
  · exact .refl d

theorem rxKept_startSearch (d : Dev) : RxKept (startSearch d) d := by
  unfold startSearch
  split
  · exact ⟨rfl, rfl, rfl⟩
  · exact .refl d

/-- The traffic of cross-tracking noted. -/
def sendNoted (active : Bool) (load : Nat) (d : Dev) : Dev :=
  { d with gns0 := { d.gns0 with txActive := active }, ndl := { d.ndl with loadXtrk := load } }

theorem rxKept_sendNoted (active : Bool) (load : Nat) (d : Dev) : RxKept (sendNoted active load d) d := ⟨rfl, rfl, rfl⟩

/-- One path's block sent. -/
def blockSent (d : Dev) (p : Nat) : Dev := foldN 11 (fun f d => ndlSend .xtrk [p, f, 40920, d.tb0] d) d

theorem rxKept_ndlSend (t : NdlType) (w : List Nat) (d : Dev) : RxKept (ndlSend t w d) d := ⟨rfl, rfl, rfl⟩

theorem rxKept_blockSent (d : Dev) (p : Nat) : RxKept (blockSent d p) d :=
  rxKept_foldN 11 (fun f d => ndlSend .xtrk [p, f, 40920, d.tb0] d) d fun _ a => rxKept_ndlSend _ _ a

theorem xtrkSend_eq (r : Regs) (d : Dev) : ∃ active load ps, xtrkSend r d = List.foldl blockSent (sendNoted active load d) ps := ⟨_, _, _, rfl⟩

theorem rxKept_xtrkSend (r : Regs) (d : Dev) : RxKept (xtrkSend r d) d := by
  obtain ⟨active, load, ps, h⟩ := xtrkSend_eq r d
  rw [h]
  exact (rxKept_foldl blockSent ps _ rxKept_blockSent).trans (rxKept_sendNoted active load d)

/-- What follows the own paths in an epoch. -/
def epochRest (cs : List ChMeas) (sky : List SkySat) (r : Regs) (d : Dev) : Dev :=
  let x := settleRx (xtrkDown (foldN 4 xtrkPath d))
  let x := chansEpoch r cs (fun p => decide (4 ≤ p) && !((at' d.gns0.xt (p - 4)).whole)) x
  let x := settleSearch (bankLost (releaseUnwanted r sky x))
  let x := foldN 5 (fun k d => (needsOf r d sky (k + 1)).foldl (meetNeed r) d) x
  xtrkSend r (startSearch (bankTaken x))

theorem rxKept_releaseUnwanted (r : Regs) (sky : List SkySat) (d : Dev) : RxKept (releaseUnwanted r sky d) d := ⟨rfl, rfl, rfl⟩

theorem rxKept_bankTaken (d : Dev) : RxKept (bankTaken d) d := .ite (.refl d) (.of_gns0 rfl)

theorem rxKept_needs (r : Regs) (sky : List SkySat) (d : Dev) : RxKept (foldN 5 (fun k d => (needsOf r d sky (k + 1)).foldl (meetNeed r) d) d) d :=
  rxKept_foldN 5 _ d fun _ a => rxKept_foldl _ _ a fun b n => rxKept_meetNeed r b n

theorem rxKept_epochRest (cs : List ChMeas) (sky : List SkySat) (r : Regs) (d : Dev) : RxKept (epochRest cs sky r d) d := by
  unfold epochRest
  extract_lets rx chans search needs
  have hrx : RxKept rx d := (rxKept_settleRx _).trans ((rxKept_xtrkDown _).trans (rxKept_foldN 4 _ d rxKept_xtrkPath))
  have hchans : RxKept chans d := (rxKept_chansEpoch r cs _ rx).trans hrx
  have hsearch : RxKept search d :=
    (rxKept_settleSearch _).trans ((rxKept_bankLost _).trans ((rxKept_releaseUnwanted r sky chans).trans hchans))
  have hneeds : RxKept needs d := (rxKept_needs r sky search).trans hsearch
  exact (rxKept_xtrkSend r _).trans ((rxKept_startSearch _).trans ((rxKept_bankTaken needs).trans hneeds))

/-! ### The gains -/

/-- The gain of an enabled path at an epoch. -/
def gainNext (r : Regs) (p : Nat) (m : PathMeas) (gain : Nat) : Nat :=
  if r.bit F.GNS0_AGC_CFG_MODE p then r.at F.GNS0_AGC_CFG_FIXED_GAIN p else agcNext gain m.rms (r.at F.GNS0_AGC_CFG_TARGET p)

/-- An automatic gain moves by at most 3 dB and stays within 60 dB. -/
theorem agcNext_bounds (gain rms target : Nat) (h : gain ≤ 120) :
    agcNext gain rms target ≤ gain + 6 ∧ gain ≤ agcNext gain rms target + 6 ∧ agcNext gain rms target ≤ 120 := by
  unfold agcNext
  dsimp only
  split_ifs <;> omega

/-- Only path `p`'s own notches, candidates and sums move beside its gain. -/
structure GainKept (p : Nat) (b a : Dev) : Prop where
  sys : b.sys = a.sys
  epoch : b.gns0.epoch = a.gns0.epoch
  bank : b.gns0.bankOff = a.gns0.bankOff
  length : b.gns0.paths.length = a.gns0.paths.length
  gain : (b.path p).gain = (a.path p).gain
  others : ∀ q, q ≠ p → b.path q = a.path q

theorem GainKept.trans {p : Nat} {c b a : Dev} (h : GainKept p c b) (g : GainKept p b a) : GainKept p c a :=
  ⟨h.sys.trans g.sys, h.epoch.trans g.epoch, h.bank.trans g.bank, h.length.trans g.length, h.gain.trans g.gain,
    fun q hq => (h.others q hq).trans (g.others q hq)⟩

theorem gainKept_modPath (p : Nat) (f : RfPath → RfPath) (d : Dev) (hf : ∀ x, (f x).gain = x.gain) : GainKept p (modPath p f d) d := by
  refine ⟨rfl, rfl, rfl, modPath_length p f d, ?_, fun q hq => modPath_path_other p q f d hq⟩
  by_cases h : p < d.gns0.paths.length
  · rw [modPath_path_self p f d h, hf]
  · have hle := Nat.not_lt.1 h
    have hle' : (modPath p f d).gns0.paths.length ≤ p := by rw [modPath_length]; exact hle
    rw [Dev.path, Dev.path, at'_of_length_le _ _ hle, at'_of_length_le _ _ hle']

/-- An epoch of the notches changes its path but for the gain. -/
theorem notchesEpoch_eq (r : Regs) (p : Nat) (m : PathMeas) (d : Dev) : ∃ changed f, (∀ x : RfPath, (f x).gain = x.gain) ∧
    notchesEpoch r p m d = raiseIf changed 0xC 2 (modPath p f d.takeFree) :=
  by
  refine ⟨_, _, ?_, rfl⟩
  exact fun _ => rfl

theorem gainKept_notchesEpoch (r : Regs) (p : Nat) (m : PathMeas) (d : Dev) : GainKept p (notchesEpoch r p m d) d := by
  have hraise (c : Bool) (x : Dev) : GainKept p (raiseIf c 0xC 2 x) x :=
    ⟨raiseIf_sys _ _ _ _, by rw [raiseIf_gns0], by rw [raiseIf_gns0], by rw [raiseIf_gns0], by rw [raiseIf_path], fun q _ => raiseIf_path _ _ _ _ q⟩
  have hfree : GainKept p d.takeFree d := ⟨rfl, rfl, rfl, rfl, rfl, fun _ _ => rfl⟩
  obtain ⟨changed, f, hf, heq⟩ := notchesEpoch_eq r p m d
  rw [heq]
  exact (hraise _ _).trans ((gainKept_modPath p f d.takeFree hf).trans hfree)

/-- The sums of a calibration. -/
def calSummed (p : Nat) (d : Dev) : Dev :=
  if d.gns0.cal then modPath p (fun x => { x with calG := x.calG + x.gain, calN := x.calN + x.noise, calCnt := x.calCnt + 1 }) d else d

theorem gainKept_calSummed (p : Nat) (d : Dev) : GainKept p (calSummed p d) d := by
  unfold calSummed
  split
  · exact gainKept_modPath p _ d fun _ => rfl
  · exact ⟨rfl, rfl, rfl, rfl, rfl, fun _ _ => rfl⟩

theorem pathEpoch_enabled (r : Regs) (ms : List PathMeas) (p : Nat) (d : Dev) (h : pathEnabled r d p = true) :
    pathEpoch r ms p d = calSummed p (notchesEpoch r p (at' ms p) (modPath p (agcEpoch r p (at' ms p)) d)) := if_pos h

theorem pathEpoch_disabled (r : Regs) (ms : List PathMeas) (p : Nat) (d : Dev) (h : pathEnabled r d p = false) : pathEpoch r ms p d = d :=
  if_neg (by simp [h])

/-- A path's epoch keeps the receiver's epoch and bank, and the other paths. -/
theorem pathEpoch_keeps (r : Regs) (ms : List PathMeas) (p : Nat) (d : Dev) :
    (pathEpoch r ms p d).sys = d.sys ∧ (pathEpoch r ms p d).gns0.epoch = d.gns0.epoch ∧ (pathEpoch r ms p d).gns0.bankOff = d.gns0.bankOff ∧
      (pathEpoch r ms p d).gns0.paths.length = d.gns0.paths.length ∧ ∀ q, q ≠ p → (pathEpoch r ms p d).path q = d.path q := by
  cases h : pathEnabled r d p with
  | false =>
    rw [pathEpoch_disabled r ms p d h]
    exact ⟨rfl, rfl, rfl, rfl, fun _ _ => rfl⟩
  | true =>
    have hk := (gainKept_calSummed p _).trans (gainKept_notchesEpoch r p (at' ms p) (modPath p (agcEpoch r p (at' ms p)) d))
    rw [pathEpoch_enabled r ms p d h]
    exact ⟨hk.sys, hk.epoch, hk.bank, hk.length.trans (modPath_length p _ d), fun q hq => (hk.others q hq).trans (modPath_path_other p q _ d hq)⟩

theorem pathEpoch_gain (r : Regs) (ms : List PathMeas) (p : Nat) (d : Dev) (h : pathEnabled r d p = true) (hp : p < d.gns0.paths.length) :
    ((pathEpoch r ms p d).path p).gain = gainNext r p (at' ms p) (d.path p).gain := by
  rw [pathEpoch_enabled r ms p d h, ((gainKept_calSummed p _).trans (gainKept_notchesEpoch r p (at' ms p) _)).gain, modPath_path_self p _ d hp]
  rfl

theorem pathEnabled_lt {r : Regs} {d : Dev} {p : Nat} (h : pathEnabled r d p = true) : p < ownPaths d := by
  simp only [pathEnabled, Bool.and_eq_true, decide_eq_true_eq] at h
  exact h.1.1

/-- The own paths' epochs move each enabled path's gain once, and no other. -/
theorem paths_gain (r : Regs) (ms : List PathMeas) (d : Dev) (p : Nat) (hp : p < d.gns0.paths.length) :
    ((foldN (ownPaths d) (pathEpoch r ms) d).path p).gain =
      if pathEnabled r d p then gainNext r p (at' ms p) (d.path p).gain else (d.path p).gain := by
  cases h : pathEnabled r d p with
  | false =>
    refine (foldN_keeps (fun b : Dev => b.sys = d.sys ∧ (b.path p).gain = (d.path p).gain) _ _ d (fun j b hb => ?_) ⟨rfl, rfl⟩).2
    obtain ⟨hsys, -, -, -, hother⟩ := pathEpoch_keeps r ms j b
    refine ⟨hsys.trans hb.1, ?_⟩
    by_cases hj : p = j
    · subst hj
      rw [pathEpoch_disabled r ms p b ((pathEnabled_of_sys r hb.1 p).trans h)]
      exact hb.2
    · rw [hother p hj]
      exact hb.2
  | true =>
    refine foldN_at_index (fun b : Dev => b.sys = d.sys ∧ b.gns0.paths.length = d.gns0.paths.length ∧ b.path p = d.path p)
      (fun b : Dev => (b.path p).gain = gainNext r p (at' ms p) (d.path p).gain) (pathEnabled_lt h)
      (fun j b _ hj hb => ?_) (fun b hb => ?_) (fun j b _ hj hb => ?_) ⟨rfl, rfl, rfl⟩
    · obtain ⟨hsys, -, -, hlen, hother⟩ := pathEpoch_keeps r ms j b
      exact ⟨hsys.trans hb.1, hlen.trans hb.2.1, (hother p hj.symm).trans hb.2.2⟩
    · obtain ⟨hsys, hlen, hpath⟩ := hb
      rw [pathEpoch_gain r ms p b ((pathEnabled_of_sys r hsys p).trans h) (hlen ▸ hp), hpath]
    · rw [(pathEpoch_keeps r ms j b).2.2.2.2 p hj.symm]
      exact hb

theorem paths_keep (r : Regs) (ms : List PathMeas) (n : Nat) (d : Dev) :
    (foldN n (pathEpoch r ms) d).gns0.epoch = d.gns0.epoch ∧ (foldN n (pathEpoch r ms) d).gns0.bankOff = d.gns0.bankOff := by
  refine foldN_keeps (fun b : Dev => b.gns0.epoch = d.gns0.epoch ∧ b.gns0.bankOff = d.gns0.bankOff) _ _ d (fun j b hb => ?_) ⟨rfl, rfl⟩
  obtain ⟨-, hepoch, hbank, -, -⟩ := pathEpoch_keeps r ms j b
  exact ⟨hepoch.trans hb.1, hbank.trans hb.2⟩

/-! ### The epoch -/

theorem acts_migrate (j : Nat) (d : Dev) : Acts [.msn] (migrate j d) d := by
  unfold migrate
  split
  · exact .refl _ d
  · exact Acts.also ((within_msn _ _).acts (by simp)) (acts_modJob j _ d)

theorem acts_settleTiles (d : Dev) : Acts [.msn, .grt] (settleTiles d) d := by
  unfold settleTiles
  refine Acts.also (((within_grt _ _).acts (by simp)).mono (by simp)) ((acts_foldN 12 _ d fun t a => ?_).mono (l := [.msn]) (by simp))
  dsimp only
  split
  · exact .when (acts_modTile t _ a)
  · exact .unless (acts_modTile t _ a)
  · exact .when (acts_modTile t _ a)
  · exact .refl _ a

theorem acts_migrateAtEpoch (d : Dev) : Acts [.msn, .grt] (migrateAtEpoch d) d := by
  unfold migrateAtEpoch
  refine .when ((acts_settleTiles _).also ((acts_foldl _ _ d fun a j => ?_).mono (l := [.msn]) (by simp)))
  exact .when (acts_migrate j a)

/-- The tiles of the post-correlation work, at an epoch. -/
def epochJobs (r : Regs) (d : Dev) : Dev :=
  let x := migrateAtEpoch d
  if (x.job 7).tiles.isEmpty then x else ranJob r 7 x

theorem acts_epochJobs (r : Regs) (d : Dev) : Acts [.msn, .grt, .free] (epochJobs r d) d := by
  have h : Acts [.msn, .grt, .free] (migrateAtEpoch d) d := (acts_migrateAtEpoch d).mono (by simp)
  exact .ite h (((acts_ranJob r 7 _).mono (by simp)).also h)

/-- An epoch counted, with the bank in use or off. -/
def epochCounted (r : Regs) (d : Dev) : Dev :=
  { d with
    gns0 := { d.gns0 with
      epoch := d.gns0.epoch + 1, bankOff := !(r.bit F.GNS0_ACQ_CFG_BANK_USE)
      calEpochs := if d.gns0.cal then d.gns0.calEpochs + 1 else d.gns0.calEpochs }
    pwr := { d.pwr with on := setBit d.pwr.on 4 (r.bit F.GNS0_ACQ_CFG_BANK_USE) } }

theorem gnssEpoch_runs (ps : List PathMeas) (cs : List ChMeas) (sky : List SkySat) (r : Regs) (d : Dev) (h : gnssRuns r d = true) :
    gnssEpoch ps cs sky r d = epochRest cs sky r
      (foldN (ownPaths (epochCounted r (epochJobs r d))) (pathEpoch r ps) (epochCounted r (epochJobs r d))) := if_neg (by simp [h])

/-- Settles O23. -/
theorem gnssEpochGain : Obligations.GnssEpochGain := by
  unfold Obligations.GnssEpochGain
  intro s ps cs sky hrun
  refine ⟨_, onDev_next s (gnssEpoch ps cs sky), rfl, rfl, ?_⟩
  rw [gnssEpoch_runs ps cs sky s.regs s.dev.quiet hrun, settle_gns0]
  have hjobs := acts_epochJobs s.regs s.dev.quiet
  have hsys : (epochJobs s.regs s.dev.quiet).sys = s.dev.sys := hjobs.agree .sys (by simp)
  have hgns : (epochJobs s.regs s.dev.quiet).gns0 = s.dev.gns0 := hjobs.agree .gns0 (by simp)
  generalize epochJobs s.regs s.dev.quiet = a at hsys hgns ⊢
  have hrest := rxKept_epochRest cs sky s.regs (foldN (ownPaths (epochCounted s.regs a)) (pathEpoch s.regs ps) (epochCounted s.regs a))
  obtain ⟨hepoch, hbank⟩ := paths_keep s.regs ps (ownPaths (epochCounted s.regs a)) (epochCounted s.regs a)
  rw [hrest.epoch, hrest.bank, hepoch, hbank]
  refine ⟨congrArg (fun g : Gns0St => g.epoch + 1) hgns, rfl, fun p hp => ?_⟩
  have hlen : p < (epochCounted s.regs a).gns0.paths.length := by
    show p < a.gns0.paths.length
    rw [hgns]
    exact hp
  have hen : pathEnabled s.regs (epochCounted s.regs a) p = pathEnabled s.regs s.dev p := pathEnabled_of_sys s.regs hsys p
  have hpath : (epochCounted s.regs a).path p = s.dev.path p :=
    (show a.path p = s.dev.path p from congrArg (fun g : Gns0St => at' g.paths p) hgns)
  have hgain := paths_gain s.regs ps (epochCounted s.regs a) p hlen
  rw [settle_path, Dev.path, hrest.paths, ← Dev.path, hgain, hen, hpath]
  refine ⟨fun h => ?_, fun h hm => ?_, fun h hm hle => ?_⟩
  · rw [h]
    rfl
  · rw [h, if_pos rfl, gainNext, if_pos hm]
  · rw [h, if_pos rfl, gainNext, hm]
    exact agcNext_bounds _ _ _ hle

end Sys2Proof
end

section
/-! PROOFS. The analog chain and the words of SSI encoders. -/

namespace Sys2Proof

open Sys2Proof.Machine

@[simp] theorem settle_modulator (r : Regs) (d : Dev) (m : Nat) : (settle r d).modulator m = d.modulator m := by simp [Dev.modulator]

theorem modMod_modulator_self (m : Nat) (f : FltMod → FltMod) (d : Dev) (h : m < d.flt.mods.length) : (modMod m f d).modulator m = f (d.modulator m) :=
  at'_modAt_self _ _ _ h

@[simp] theorem modMod_length (m : Nat) (f : FltMod → FltMod) (d : Dev) : (modMod m f d).flt.mods.length = d.flt.mods.length := by simp [modMod]

theorem acts_flt (d : Dev) (x : FltSt) : Acts [.flt] { d with flt := x } d := (within_flt d x).acts (by simp)

theorem acts_src (d : Dev) (x : SrcSt) : Acts [.src] { d with src := x } d := (within_src d x).acts (by simp)

theorem acts_modMod (m : Nat) (f : FltMod → FltMod) (d : Dev) : Acts [.flt] (modMod m f d) d := acts_flt d _

/-! ### What waits for analog values -/

/-- A delivery keeps what waits, and the inputs' histories. -/
structure WaitKept (b a : Dev) : Prop where
  acts : Acts [.irq, .evt, .src] b a
  ain : b.src.ain = a.src.ain

theorem WaitKept.refl (d : Dev) : WaitKept d d := ⟨.refl _ d, rfl⟩

theorem WaitKept.trans {c b a : Dev} (h : WaitKept c b) (g : WaitKept b a) : WaitKept c a := ⟨h.acts.also g.acts, h.ain.trans g.ain⟩

theorem waitKept_foldl {α : Type} (f : Dev → α → Dev) (l : List α) (d : Dev) (h : ∀ a x, WaitKept (f a x) a) : WaitKept (l.foldl f d) d :=
  foldl_keeps (WaitKept · d) f l d (fun a x ha => (h a x).trans ha) (.refl d)

theorem waitKept_src (d : Dev) (x : SrcSt) (h : x.ain = d.src.ain) : WaitKept { d with src := x } d := ⟨(acts_src d x).mono (by simp), h⟩

theorem rateJudged_ain (i : Nat) (bad : Bool) (d : Dev) : (rateJudged i bad d).src.ain = d.src.ain := by
  unfold rateJudged
  split <;> rfl

theorem srcValid_ain (r : Regs) (s : SourceRec) (stamp : Nat) (d : Dev) : (srcValid r s stamp d).src.ain = d.src.ain := by
  obtain ⟨bad, back, h⟩ := srcValid_eq r s stamp d
  rw [h, backTold_src]
  exact rateJudged_ain s.id bad d

theorem attJudged_ain (i : Nat) (needs lost proj : Bool) (d : Dev) : (attJudged i needs lost proj d).src.ain = d.src.ain := by
  have h : (raiseIf lost 0x0F 5 d).src.ain = d.src.ain := by rw [raiseIf_src]
  unfold attJudged
  dsimp only
  split
  · exact h
  · exact h

theorem recordJudged_ain (r : Regs) (c : SourceRec) (stamp : Nat) (valid needs lost proj : Bool) (d : Dev) :
    (recordJudged r c stamp valid needs lost proj d).src.ain = d.src.ain := by
  unfold recordJudged
  split
  · rw [srcValid_ain, attJudged_ain]
  · exact attJudged_ain _ _ _ _ d

theorem srcQueue_ain (r : Regs) (x : SrcRecord) (d : Dev) : (srcQueue r x d).src.ain = d.src.ain := by
  by_cases h : d.src.queue.length < 512
  · rw [srcQueue_room r x d h, raiseIf_src]
    rfl
  · rw [srcQueue_full r x d (Nat.not_lt.1 h)]
    rfl

/-- A record of a source not in use goes nowhere. -/
theorem srcDeliver_unused (r : Regs) (x : RawRecord) (d : Dev) (h : d.sourceRec x.src = none ∨ (d.source x.src).st = .unused ∨ d.mde.mode = .dormant) :
    srcDeliver r x d = d := by
  unfold srcDeliver
  split
  · rfl
  · next c hc =>
    refine if_pos ?_
    rcases h with h | h | h
    · rw [hc] at h
      exact nomatch h
    · simp [h]
    · simp [h]

theorem waitKept_srcDeliver (r : Regs) (x : RawRecord) (d : Dev) : WaitKept (srcDeliver r x d) d := by
  refine ⟨acts_srcDeliver r x d, ?_⟩
  cases hc : d.sourceRec x.src with
  | none => rw [srcDeliver_unused r x d (.inl hc)]
  | some c =>
    by_cases hst : (d.source x.src).st = .unused
    · rw [srcDeliver_unused r x d (.inr (.inl hst))]
    · by_cases hm : d.mde.mode = .dormant
      · rw [srcDeliver_unused r x d (.inr (.inr hm))]
      · obtain ⟨needs, lost, proj, y, heq, -⟩ := srcDeliver_used r x d c hc hst hm
        rw [heq, srcQueue_ain, recordJudged_ain]

theorem waitKept_settlePairs (r : Regs) (d : Dev) : WaitKept (settlePairs r d) d := by
  unfold settlePairs
  refine (waitKept_foldl _ _ _ fun a w => ?_).trans (waitKept_src d _ rfl)
  split
  · exact waitKept_srcDeliver r _ a
  · exact .refl a

theorem waitKept_settleTaut (r : Regs) (d : Dev) : WaitKept (settleTaut r d) d := by
  unfold settleTaut
  refine (waitKept_foldl _ _ _ fun a w => ?_).trans (waitKept_src d _ rfl)
  split
  · exact waitKept_srcDeliver r _ a
  · exact .refl a

/-! ### A sample -/

/-- The history of an input with a sample more. -/
def ainPut (i t : Nat) (v : F32) (d : Dev) : Dev :=
  { d with src := { d.src with ain := modAt d.src.ain i fun (l : List AinSample) => (AinSample.mk t v :: l).take 64 } }

theorem acts_ainPut (i t : Nat) (v : F32) (d : Dev) : Acts [.src] (ainPut i t v d) d := acts_src d _

theorem ainPut_ain (i t : Nat) (v : F32) (d : Dev) :
    (ainPut i t v d).src.ain = modAt d.src.ain i fun (l : List AinSample) => (AinSample.mk t v :: l).take 64 := rfl

/-- A sample enters its input's history, and its sources are served. -/
theorem ainDeliver_kept (r : Regs) (i t : Nat) (v : F32) (ovr : Bool) (d : Dev) : WaitKept (ainDeliver r i t v ovr d) (ainPut i t v d) := by
  have hsource (a : Dev) (s : SourceRec) : WaitKept (if s.portKind == 3 && s.port == i && !((a.source s.id).st == .unused) then
      if s.format == 0x0302 then { a with src := { a.src with pairs := a.src.pairs ++ [{ src := s.id, at_ := t, v0 := v, flags := 1 + 8 * b2n ovr }] } }
      else srcDeliver r { src := s.id, arrival := a.tb0, stamp := t, values := words [v], flags := 1 + 8 * b2n ovr } a
    else a) a := by
    split_ifs
    · exact waitKept_src a _ rfl
    · exact waitKept_srcDeliver r _ a
    · exact .refl a
  exact (waitKept_settleTaut r _).trans ((waitKept_settlePairs r _).trans (waitKept_foldl _ _ (ainPut i t v d) hsource))

/-- The modulator of an input has given a sample. -/
def sampleTaken (r : Regs) (m : Nat) (d : Dev) : Dev := modMod m (fun x => { x with nextOut := gridAfter (fltRate r m) (d.modulator m).nextOut }) d

/-- An input's overrange noted. -/
def ovrNoted (i : Nat) (ovr : Bool) (d : Dev) : Dev := { d with flt := { d.flt with ovr := setBit d.flt.ovr i ovr } }

/-- A valid sample's overrange is noted, and the scan's turn counted. -/
def sampleNoted (i : Nat) (ovr : Bool) (d : Dev) : Dev :=
  modMod (i / 2) (fun x => { x with turn := x.turn + 1 }) (ovrNoted i ovr (raiseIf (ovr && !(bit d.flt.ovr i)) 0x10 1 d))

theorem analogSample_due (i : Nat) (code : F32) (ovr : Bool) (r : Regs) (d : Dev) (hi : i < 16) (hon : fltOn r (i / 2) = true)
    (hlock : d.clk.lock.testBit 4 = true) (hsel : (d.modulator (i / 2)).sel = i % 2)
    (ht : (d.modulator (i / 2)).nextOut + groupDelay (fltRate r (i / 2)) ≤ d.tb0) : ∃ v,
    analogSample i code ovr r d = if (d.modulator (i / 2)).settle ≠ 0 then modMod (i / 2) (fun x => { x with settle := x.settle - 1 }) (sampleTaken r (i / 2) d)
      else if !(bit d.flt.valid i) then sampleTaken r (i / 2) d
      else ainDeliver r i (d.modulator (i / 2)).nextOut v ovr (sampleNoted i ovr (sampleTaken r (i / 2) d)) :=
  ⟨_, if_neg (by simp only [hon, hlock, hsel]; simp; omega)⟩

theorem acts_sampleTaken (r : Regs) (m : Nat) (d : Dev) : Acts [.flt] (sampleTaken r m d) d := acts_modMod m _ d

theorem acts_sampleNoted (i : Nat) (ovr : Bool) (d : Dev) : Acts [.irq, .flt] (sampleNoted i ovr d) d :=
  ((acts_modMod _ _ _).trans ((acts_flt _ _).trans (acts_raiseIf _ _ _ d))).mono (by simp)

theorem sampleNoted_modulator (i : Nat) (ovr : Bool) (d : Dev) (h : i / 2 < d.flt.mods.length) :
    (sampleNoted i ovr d).modulator (i / 2) = { d.modulator (i / 2) with turn := (d.modulator (i / 2)).turn + 1 } := by
  have hmods : (ovrNoted i ovr (raiseIf (ovr && !(bit d.flt.ovr i)) 0x10 1 d)).flt.mods = d.flt.mods :=
    show (raiseIf _ 0x10 1 d).flt.mods = d.flt.mods from congrArg FltSt.mods (raiseIf_flt _ _ _ d)
  rw [sampleNoted, modMod_modulator_self _ _ _ (by rw [hmods]; exact h), Dev.modulator, hmods]
  rfl

@[simp] theorem sampleNoted_src (i : Nat) (ovr : Bool) (d : Dev) : (sampleNoted i ovr d).src = d.src :=
  (acts_sampleNoted i ovr d).agree .src (by simp)

/-- The clause of a sample for its modulator and its input. -/
theorem analogSample_says (i : Nat) (code : F32) (ovr : Bool) (r : Regs) (d : Dev) (hi : i < 16) (hlen : i / 2 < d.flt.mods.length)
    (hain : i < d.src.ain.length) (hon : fltOn r (i / 2) = true) (hlock : d.clk.lock.testBit 4 = true)
    (hsel : (d.modulator (i / 2)).sel = i % 2) (ht : (d.modulator (i / 2)).nextOut + groupDelay (fltRate r (i / 2)) ≤ d.tb0) :
    let x := d.modulator (i / 2)
    let t := analogSample i code ovr r d
    Acts [.irq, .flt, .src, .evt] t d ∧ (t.modulator (i / 2)).nextOut = gridAfter (fltRate r (i / 2)) x.nextOut ∧
      (x.settle ≠ 0 → (t.modulator (i / 2)).settle + 1 = x.settle ∧ t.src = d.src ∧ t.flt.ovr = d.flt.ovr) ∧
      (x.settle = 0 → d.flt.valid.testBit i = true → (t.modulator (i / 2)).turn = x.turn + 1 ∧ t.flt.ovr.testBit i = ovr ∧
        ∃ v, at' t.src.ain i = ({ at_ := x.nextOut, v := v } :: at' d.src.ain i).take 64) := by
  intro x t
  obtain ⟨v, heq⟩ : ∃ v, t = if x.settle ≠ 0 then modMod (i / 2) (fun x => { x with settle := x.settle - 1 }) (sampleTaken r (i / 2) d)
      else if !(bit d.flt.valid i) then sampleTaken r (i / 2) d else ainDeliver r i x.nextOut v ovr (sampleNoted i ovr (sampleTaken r (i / 2) d)) :=
    analogSample_due i code ovr r d hi hon hlock hsel ht
  clear_value t
  have htaken : (sampleTaken r (i / 2) d).modulator (i / 2) = { x with nextOut := gridAfter (fltRate r (i / 2)) x.nextOut } :=
    modMod_modulator_self _ _ d hlen
  have hlen' : i / 2 < (sampleTaken r (i / 2) d).flt.mods.length := by rw [sampleTaken, modMod_length]; exact hlen
  by_cases hs : x.settle ≠ 0
  · have ht' : t = modMod (i / 2) (fun x => { x with settle := x.settle - 1 }) (sampleTaken r (i / 2) d) := heq.trans (if_pos hs)
    have hmod : t.modulator (i / 2) = _ := (congrArg (fun a : Dev => a.modulator (i / 2)) ht').trans (modMod_modulator_self _ _ _ hlen')
    rw [htaken] at hmod
    have hact : Acts [.irq, .flt, .src, .evt] t d := by
      rw [ht']
      exact ((acts_modMod _ _ _).trans (acts_sampleTaken r _ d)).mono (by simp)
    have hrest : t.src = d.src ∧ t.flt.ovr = d.flt.ovr := by
      rw [ht']
      exact ⟨rfl, rfl⟩
    refine ⟨hact, by rw [hmod], fun _ => ⟨?_, hrest⟩, fun h => absurd h hs⟩
    rw [hmod]
    show x.settle - 1 + 1 = x.settle
    omega
  · by_cases hv : d.flt.valid.testBit i = true
    · have ht' : t = ainDeliver r i x.nextOut v ovr (sampleNoted i ovr (sampleTaken r (i / 2) d)) :=
        heq.trans ((if_neg hs).trans (if_neg (by simp [bit, hv])))
      have hkept := ainDeliver_kept r i x.nextOut v ovr (sampleNoted i ovr (sampleTaken r (i / 2) d))
      rw [← ht'] at hkept
      have hflt : t.flt = (sampleNoted i ovr (sampleTaken r (i / 2) d)).flt := (hkept.acts.agree .flt (by simp)).trans rfl
      have hmod : t.modulator (i / 2) = { (sampleTaken r (i / 2) d).modulator (i / 2) with turn := ((sampleTaken r (i / 2) d).modulator (i / 2)).turn + 1 } := by
        rw [Dev.modulator, hflt, ← Dev.modulator, sampleNoted_modulator i ovr _ hlen']
      rw [htaken] at hmod
      have hnoted := (acts_sampleNoted i ovr (sampleTaken r (i / 2) d)).trans (acts_sampleTaken r (i / 2) d)
      have hput := (acts_ainPut i x.nextOut v (sampleNoted i ovr (sampleTaken r (i / 2) d))).trans hnoted
      have hact : Acts [.irq, .flt, .src, .evt] t d := (hkept.acts.trans hput).mono (by simp)
      have hovr : t.flt.ovr.testBit i = ovr := by
        rw [hflt]
        exact testBit_setBit_self _ _ _
      have hsrc : (sampleNoted i ovr (sampleTaken r (i / 2) d)).src = d.src := sampleNoted_src i ovr _
      have hain' : at' t.src.ain i = ({ at_ := x.nextOut, v := v } :: at' d.src.ain i).take 64 := by
        rw [hkept.ain, ainPut_ain, hsrc, at'_modAt_self _ _ _ hain]
      rw [hmod]
      exact ⟨hact, rfl, fun h => absurd h hs, fun _ _ => ⟨rfl, hovr, v, hain'⟩⟩
    · have ht' : t = sampleTaken r (i / 2) d := heq.trans ((if_neg hs).trans (if_pos (by simp [bit, hv])))
      rw [ht', htaken]
      exact ⟨(acts_sampleTaken r _ d).mono (by simp), rfl, fun h => absurd h hs, fun _ h => absurd h hv⟩

/-! ### Settling, scanning and the ratios -/

theorem fltSettled_due (i : Nat) (r : Regs) (d : Dev) (hi : i < 16) (hon : fltOn r (i / 2) = true) (hlock : d.clk.lock.testBit 4 = true)
    (hsel : (d.modulator (i / 2)).sel = i % 2) (hs : (d.modulator (i / 2)).settle = 0) (hv : d.flt.valid.testBit i = false) :
    fltSettled i r d = raise 0x10 0 { d with flt := { d.flt with valid := setBit d.flt.valid i true } } :=
  if_pos ⟨hi, hon, hlock, hsel, hs, by simp [bit, hv]⟩

theorem scanSwitch_due (m : Nat) (r : Regs) (d : Dev) (hm : m < 8) (hon : fltOn r m = true) (hscan : r.get F.FLT_MOD_CFG_SCAN (m / 4) (m % 4) = 1)
    (hturn : r.get F.FLT_MOD_CFG_DWELL (m / 4) (m % 4) ≤ (d.modulator m).turn) :
    scanSwitch m r d = raise 0x10 3 (fltResettle r m (modMod m (fun x => { x with sel := 1 - x.sel }) d)) :=
  if_pos ⟨hm, hon, hscan, hturn⟩

theorem within_fltResettle (r : Regs) (m : Nat) (d : Dev) : Within [.flt] (fltResettle r m d) d :=
  ((acts_flt _ _).also (acts_modMod m _ d)).within

theorem fltResettle_modulator (r : Regs) (m : Nat) (d : Dev) (h : m < d.flt.mods.length) :
    (fltResettle r m d).modulator m = { d.modulator m with settle := settleCount (fltRate r m), turn := 0 } := modMod_modulator_self m _ d h

theorem fltResettle_valid (r : Regs) (m : Nat) (d : Dev) :
    (fltResettle r m d).flt.valid.testBit (2 * m) = false ∧ (fltResettle r m d).flt.valid.testBit (2 * m + 1) = false := by
  have hvalid : (fltResettle r m d).flt.valid = setBit (setBit d.flt.valid (2 * m) false) (2 * m + 1) false := rfl
  rw [hvalid]
  exact ⟨(testBit_setBit_other _ _ _ _ (by omega)).trans (testBit_setBit_self _ _ _), testBit_setBit_self _ _ _⟩

/-- The ratio of one modulator for a count. -/
def ratioSet (c : Nat) (r : Regs) (m : Nat) (d : Dev) : Dev :=
  if fltOn r m then modMod m (fun x => { x with ratio := fltRatio c (fltRate r m) }) d else d

theorem acts_ratioSet (c : Nat) (r : Regs) (m : Nat) (d : Dev) : Acts [.flt] (ratioSet c r m d) d := .when (acts_modMod m _ d)

theorem ratioSet_length (c : Nat) (r : Regs) (m : Nat) (d : Dev) : (ratioSet c r m d).flt.mods.length = d.flt.mods.length := by
  unfold ratioSet
  split
  · exact modMod_length _ _ _
  · rfl

theorem ratioSet_apll (c : Nat) (r : Regs) (m : Nat) (d : Dev) : (ratioSet c r m d).flt.apll = d.flt.apll := by
  unfold ratioSet
  split <;> rfl

/-- The ratios of all modulators for a count. -/
def ratiosSet (c : Nat) (r : Regs) (d : Dev) : Dev := foldN 8 (ratioSet c r) { d with flt := { d.flt with apll := c } }

theorem acts_ratiosSet (c : Nat) (r : Regs) (d : Dev) : Acts [.flt] (ratiosSet c r d) d := (acts_foldN 8 _ _ (acts_ratioSet c r)).also (acts_flt d _)

theorem ratiosSet_apll (c : Nat) (r : Regs) (d : Dev) : (ratiosSet c r d).flt.apll = c :=
  foldN_keeps (fun a : Dev => a.flt.apll = c) 8 _ _ (fun m a ha => (ratioSet_apll c r m a).trans ha) rfl

theorem ratiosSet_ratio (c : Nat) (r : Regs) (d : Dev) (m : Nat) (hm : m < 8) (hlen : m < d.flt.mods.length) (hon : fltOn r m = true) :
    ((ratiosSet c r d).modulator m).ratio = fltRatio c (fltRate r m) := by
  refine foldN_reaches (fun a : Dev => a.flt.mods.length = d.flt.mods.length) (fun a : Dev => (a.modulator m).ratio = fltRatio c (fltRate r m)) hm
    (fun j a ha => (ratioSet_length c r j a).trans ha) (fun a ha => ?_) (fun j a _ hq => ?_) rfl
  · rw [ratioSet, if_pos hon, modMod_modulator_self m _ a (ha ▸ hlen)]
  · unfold ratioSet
    split
    · by_cases hj : m = j
      · subst hj
        by_cases hl : m < a.flt.mods.length
        · rw [modMod_modulator_self m _ a hl]
        · have hle := Nat.not_lt.1 hl
          rw [Dev.modulator, at'_of_length_le _ _ (by rw [modMod_length]; exact hle)]
          rwa [Dev.modulator, at'_of_length_le _ _ hle] at hq
      · rw [show (modMod j (fun x => { x with ratio := fltRatio c (fltRate r j) }) a).modulator m = a.modulator m from at'_modAt_other _ _ _ _ (Ne.symm hj)]
        exact hq
    · exact hq

theorem fltRatioUpdate_due (n : Nat) (r : Regs) (d : Dev) (hw : d.awake = true) (hs : d.tb0 % nsPerSec < 5) :
    fltRatioUpdate n r d = if 6144000 < 10000 * (((n % 2 ^ 24 : Nat) : Int) - 6144000).natAbs then
        record r .fltApllRate { p0 := n % 2 ^ 24 } (raise 0x10 2 (ratiosSet (n % 2 ^ 24) r d))
      else ratiosSet (n % 2 ^ 24) r d := if_neg (by simp [hw]; omega)

/-! ### SSI words -/

@[simp] theorem raiseIf_ssi (c : Bool) (p b : Nat) (d : Dev) (i : Nat) : (raiseIf c p b d).ssi i = d.ssi i := by simp [Dev.ssi]

/-- A port with a good word. -/
def wordStored (w : Nat) (p : SsiPort) : SsiPort :=
  { p with word := w, valid := true, wordTick := some p.reqTick, fail := false, cause := 0, good := true, reqAt := none }

/-- A port whose word failed. -/
def wordFailed (cause : Nat) (p : SsiPort) : SsiPort :=
  { p with fail := true, cause := cause, fails := wrapInc 16 p.fails, good := false, valid := false, reqAt := none }

theorem ssiDone_good (r : Regs) (i : Nat) (l : List Bool) (high : Bool) (d : Dev) (h : (ssiCheck r i l high).2 = 0) :
    ssiDone r i l high d = modSsi i (wordStored (ssiCheck r i l high).1) d := if_pos h

theorem ssiDone_bad (r : Regs) (i : Nat) (l : List Bool) (high : Bool) (d : Dev) (h : (ssiCheck r i l high).2 ≠ 0) :
    ssiDone r i l high d = raiseIf ((d.ssi i).good) 0x16 6 (modSsi i (wordFailed (ssiCheck r i l high).2) d) := if_neg h

theorem waitKept_ssiToSources (r : Regs) (port at_ : Nat) (d : Dev) : WaitKept (ssiToSources r port at_ d) d := by
  unfold ssiToSources
  extract_lets back
  refine (waitKept_settleTaut r _).trans (waitKept_foldl _ _ d fun a s => ?_)
  split
  · exact waitKept_src a _ rfl
  · exact .refl a

theorem ssiWordDone_fits (i : Nat) (l : List Bool) (high : Bool) (r : Regs) (d : Dev) (h : ssiFits r i l d = true) :
    ssiWordDone i l high r d = if ((ssiDone r i l high d).ssi i).valid then ssiToSources r i (((d.ssi i).reqAt).getD 0) (ssiDone r i l high d)
      else ssiDone r i l high d := if_pos h

/-- Settles O29. -/
theorem analogChainAndSsiWords : Obligations.AnalogChainAndSsiWords := by
  unfold Obligations.AnalogChainAndSsiWords
  refine ⟨fun s i code ovr => ?_, fun s i hi hon hlock hsel hs hv hraw => ?_, fun s m hm hlen hon hscan hturn hraw => ?_,
    fun s n hw hs hraw => ?_, fun s i l high hfit hlen => ?_⟩
  · intro m x hi hlen hain hon hlock hsel ht
    obtain ⟨hact, hnext, hsettle, hvalid⟩ := analogSample_says i code ovr s.regs s.dev.quiet hi hlen hain hon hlock hsel ht
    refine ⟨_, onDev_next s (analogSample i code ovr), hact.onlyParts (by simp), ?_⟩
    rw [settle_modulator, settle_src, settle_flt]
    exact ⟨hnext, hsettle, hvalid⟩
  · refine ⟨_, onDev_next s (fltSettled i), ?_⟩
    rw [fltSettled_due i s.regs s.dev.quiet hi hon hlock hsel hs hv]
    refine ⟨((acts_raise _ _ _).trans (acts_flt s.dev.quiet _)).onlyParts (by simp), ?_⟩
    rw [settle_flt, settle_raw]
    exact ⟨testBit_setBit_self _ _ _, rfl, raise_testBit_self _ _ _ hraw⟩
  · refine ⟨_, onDev_next s (scanSwitch m), ?_⟩
    rw [scanSwitch_due m s.regs s.dev.quiet hm hon hscan hturn]
    have hsel : (modMod m (fun x => { x with sel := 1 - x.sel }) s.dev.quiet).modulator m = { s.dev.modulator m with sel := 1 - (s.dev.modulator m).sel } :=
      modMod_modulator_self m _ s.dev.quiet hlen
    have hmod := fltResettle_modulator s.regs m (modMod m (fun x => { x with sel := 1 - x.sel }) s.dev.quiet) (by rw [modMod_length]; exact hlen)
    rw [hsel] at hmod
    refine ⟨((within_raise _ _ _).trans ((within_fltResettle s.regs m _).trans (acts_modMod m _ s.dev.quiet).within)).onlyParts (by simp), ?_⟩
    rw [settle_modulator, settle_flt, settle_raw, Dev.modulator, raise_flt, ← Dev.modulator, hmod]
    obtain ⟨hlow, hhigh⟩ := fltResettle_valid s.regs m (modMod m (fun x => { x with sel := 1 - x.sel }) s.dev.quiet)
    exact ⟨rfl, rfl, rfl, hlow, hhigh, raise_testBit_self _ _ _ hraw⟩
  · refine ⟨_, onDev_next s (fltRatioUpdate n), ?_⟩
    rw [fltRatioUpdate_due n s.regs s.dev.quiet hw hs]
    have hset := acts_ratiosSet (n % 2 ^ 24) s.regs s.dev.quiet
    have hapll := ratiosSet_apll (n % 2 ^ 24) s.regs s.dev.quiet
    have hratio := ratiosSet_ratio (n % 2 ^ 24) s.regs s.dev.quiet
    generalize ratiosSet (n % 2 ^ 24) s.regs s.dev.quiet = a at hset hapll hratio ⊢
    have hlen : 0x10 < a.irq.raw.length := hset.raised.length ▸ hraw
    by_cases hfar : 6144000 < 10000 * (((n % 2 ^ 24 : Nat) : Int) - 6144000).natAbs
    · rw [if_pos hfar]
      refine ⟨((acts_record s.regs .fltApllRate _ _).trans ((acts_raise _ _ _).trans hset)).onlyParts (by simp), ?_⟩
      rw [settle_flt, settle_raw, record_flt, raise_flt]
      refine ⟨hapll, fun m hm hl hon => ?_, fun _ => (raised_record s.regs .fltApllRate _ _).bit _ _ (raise_testBit_self _ _ _ hlen)⟩
      rw [settle_modulator, Dev.modulator, record_flt, raise_flt]
      exact hratio m hm hl hon
    · rw [if_neg hfar]
      refine ⟨hset.onlyParts (by simp), ?_⟩
      rw [settle_flt, settle_raw]
      refine ⟨hapll, fun m hm hl hon => ?_, fun h => absurd ?_ hfar⟩
      · rw [settle_modulator]
        exact hratio m hm hl hon
      · omega
  · intro c
    refine ⟨_, onDev_next s (ssiWordDone i l high), ?_⟩
    rw [ssiWordDone_fits i l high s.regs s.dev.quiet hfit]
    by_cases hc : c.2 = 0
    · have hssi := modSsi_ssi_self i (wordStored c.1) s.dev.quiet hlen
      rw [ssiDone_good s.regs i l high s.dev.quiet hc, hssi]
      have hkept := waitKept_ssiToSources s.regs i (((s.dev.quiet.ssi i).reqAt).getD 0) (modSsi i (wordStored c.1) s.dev.quiet)
      have henc : (ssiToSources s.regs i (((s.dev.quiet.ssi i).reqAt).getD 0) (modSsi i (wordStored c.1) s.dev.quiet)).enc =
        (modSsi i (wordStored c.1) s.dev.quiet).enc := hkept.acts.agree .enc (by simp)
      rw [if_pos (show (wordStored c.1 (s.dev.quiet.ssi i)).valid = true from rfl)]
      refine ⟨(hkept.acts.within.trans (within_modSsi i _ s.dev.quiet)).onlyParts (by simp), ?_⟩
      rw [settle_ssi, Dev.ssi, henc, ← Dev.ssi, hssi]
      exact ⟨rfl, fun _ => ⟨rfl, rfl, rfl⟩, fun h => absurd hc h⟩
    · have hssi := modSsi_ssi_self i (wordFailed c.2) s.dev.quiet hlen
      rw [ssiDone_bad s.regs i l high s.dev.quiet hc, raiseIf_ssi, hssi]
      rw [if_neg (by simp [wordFailed])]
      refine ⟨((within_raiseIf _ _ _ _).trans (within_modSsi i _ s.dev.quiet)).onlyParts (by simp), ?_⟩
      rw [settle_ssi, raiseIf_ssi, hssi, settle_src, raiseIf_src]
      exact ⟨rfl, fun h => absurd h hc, fun _ => ⟨rfl, rfl, rfl, rfl, rfl⟩⟩

end Sys2Proof
end

section
/-! PROOFS. Fail states, roles and the hold take back no raw interrupt bit [12 R336 R337, 15 R428 to R446, 03 R67]. -/

namespace Sys2Proof

open Sys2Proof.Machine

/-! ### One part changed -/

theorem acts_aou (d : Dev) (x : AouSt) : Acts [.aou] { d with aou := x } d := (within_aou d x).acts (by decide)
theorem acts_pfg (d : Dev) (x : PfgSt) : Acts [.pfg] { d with pfg := x } d := (within_pfg d x).acts (by decide)
theorem acts_can (d : Dev) (x : CanSt) : Acts [.can] { d with can := x } d := (within_can d x).acts (by decide)
theorem acts_pair (d : Dev) (x : PairSt) : Acts [.pair] { d with pair := x } d := (within_pair d x).acts (by decide)
theorem acts_e2e (d : Dev) (x : E2eSt) : Acts [.e2e] { d with e2e := x } d := (within_e2e d x).acts (by decide)
theorem acts_slv (d : Dev) (x : SlvSt) : Acts [.slv] { d with slv := x } d := (within_slv d x).acts (by decide)
theorem acts_lop (d : Dev) (x : LopSt) : Acts [.lop] { d with lop := x } d := (within_lop d x).acts (by decide)
theorem acts_mde (d : Dev) (x : MdeSt) : Acts [.mde] { d with mde := x } d := (within_mde d x).acts (by decide)
theorem acts_lif (d : Dev) (x : LifSt) : Acts [.lif] { d with lif := x } d := (within_lif d x).acts (by decide)
theorem acts_cfg (d : Dev) (x : CfgSt) : Acts [.cfg] { d with cfg := x } d := (within_cfg d x).acts (by decide)
theorem acts_msn (d : Dev) (x : MsnSt) : Acts [.msn] { d with msn := x } d := (within_msn d x).acts (by decide)
theorem acts_grt (d : Dev) (x : GrtSt) : Acts [.grt] { d with grt := x } d := (within_grt d x).acts (by decide)

/-! ### The outputs -/

/-- A raised bit with its event, as an act on the outputs' parts. -/
theorem acts_told (r : Regs) (e : Ev) (x : Par) (p b : Nat) (d : Dev) : Acts outputParts (record r e x (raise p b d)) d :=
  ((acts_record r e x _).trans (acts_raise p b d)).mono (by decide)

theorem acts_modAou (n : Nat) (f : AnOut → AnOut) (d : Dev) : Acts outputParts (modAou n f d) d := (acts_aou d _).mono (by decide)

theorem acts_modAxis (i : Nat) (f : StepAxis → StepAxis) (d : Dev) : Acts outputParts (modAxis i f d) d := (acts_pfg d _).mono (by decide)

theorem acts_dioDrive (r : Regs) (d : Dev) : Acts outputParts (dioDrive r d) d := (within_dioDrive r d).acts (by decide) |>.mono (by decide)

theorem acts_dioFunc (r : Regs) (n : Nat) (level : Bool) (d : Dev) : Acts outputParts (dioFunc r n level d) d :=
  (within_dioFunc r n level d).acts (by decide) |>.mono (by decide)

theorem acts_pwmTake (r : Regs) (n : Nat) (d : Dev) : Acts outputParts (pwmTake r n d) d := by
  unfold pwmTake
  split
  · exact .refl _ d
  · exact (Acts.when (acts_dioFunc r _ _ _)).also (acts_modAou n _ d)

theorem acts_aouPut (r : Regs) (n : Nat) (u : F32) (d : Dev) : Acts outputParts (aouPut r n u d).1 d := by
  unfold aouPut
  dsimp only
  split
  · exact acts_modAou n _ d
  · exact (Acts.when (acts_pwmTake r n _)).also (acts_modAou n _ d)

theorem acts_aouLatch (r : Regs) (n : Nat) (u : F32) (d : Dev) : Acts outputParts (aouLatch r n u d) d :=
  (((acts_raiseIf _ _ _ _).mono (by decide)).also (acts_modAou n _ _)).also (acts_aouPut r n u d)

theorem acts_aouHost (r : Regs) (n : Nat) (d : Dev) : Acts outputParts (aouHost r n d) d := .when (acts_aouLatch r n _ d)

theorem acts_aouFail (r : Regs) (n : Nat) (d : Dev) : Acts outputParts (aouFail r n d) d :=
  .unless ((((acts_raise _ _ _).mono (by decide)).also (acts_modAou n _ _)).also (.when (acts_aouPut r n F32.zero d)))

theorem acts_axisStop (r : Regs) (i : Nat) (c : StopCause) (d : Dev) : Acts outputParts (axisStop r i c d) d :=
  .ite ((acts_told r _ _ _ _ _).also (acts_modAxis i _ d)) (((acts_raiseIf _ _ _ _).mono (by decide)).also (acts_modAxis i _ d))

theorem acts_axisEnable (r : Regs) (i : Nat) (on : Bool) (d : Dev) : Acts outputParts (axisEnable r i on d) d :=
  (Acts.when (acts_dioFunc r _ on _)).also (acts_modAxis i _ d)

theorem acts_pfgFail (r : Regs) (i : Nat) (d : Dev) : Acts outputParts (pfgFail r i d) d :=
  .unless ((((acts_raise _ _ _).mono (by decide)).also (acts_modAxis i _ _)).also
    ((Acts.when (acts_axisEnable r i false _)).also (acts_axisStop r i .failState d)))

theorem acts_slotWrite (r : Regs) (s : Nat) (v : F32) (d : Dev) : Acts outputParts (slotWrite r s v d) d := by
  unfold slotWrite
  split
  · exact .refl _ d
  · exact (acts_can d _).mono (by decide)

theorem acts_slotFail (r : Regs) (s : Nat) (d : Dev) : Acts outputParts (slotFail r s d) d := by
  unfold slotFail
  split
  · exact .refl _ d
  · exact .when (acts_slotWrite r s F32.zero d)

theorem acts_failOutputs (r : Regs) (d : Dev) : Acts outputParts (failOutputs r d) d :=
  (acts_dioDrive r _).also ((acts_foldN 8 _ _ fun i a => .unless (acts_pfgFail r i a)).also
    (acts_foldN 32 _ d fun n a => .unless (acts_aouFail r n a)))

theorem acts_failAll (r : Regs) (d : Dev) : Acts outputParts (failAll r d) d :=
  (acts_foldN 32 _ _ fun _ a => .when (acts_slotFail r _ a)).also (acts_failOutputs r d)

theorem acts_enableOutputs (r : Regs) (d : Dev) : Acts outputParts (enableOutputs r d) d :=
  (acts_dioDrive r _).also (acts_foldN 32 _ d fun n a => acts_aouHost r n a)

/-! ### The roles -/

/-- What acts on the outputs alone, as an act on the parts of a role. -/
theorem Acts.ofOutputs {a b : Dev} (h : Acts outputParts a b) : Acts roleParts a b := h.mono (List.subset_append_left _ _)

theorem acts_pairPart (d : Dev) (x : PairSt) : Acts roleParts { d with pair := x } d := (acts_pair d x).mono (by decide)

theorem acts_setRole (b : Bool) (d : Dev) : Acts roleParts (setRole b d) d :=
  .unless (((acts_emit _ _).trans (acts_pair d _)).mono (by decide))

theorem acts_nextTakeFromNow (r : Regs) (d : Dev) : Acts roleParts (nextTakeFromNow r d) d := acts_pairPart d _

theorem acts_pairTo (r : Regs) (st : PState) (cause : Nat) (d : Dev) : Acts roleParts (pairTo r st cause d) d :=
  .unless ((acts_told r _ _ _ _ _).ofOutputs.also ((Acts.when (acts_nextTakeFromNow r _)).also (acts_pairPart d _)))

theorem acts_frame (t : NdlType) (w : List Nat) (d : Dev) : Acts roleParts (ndlSend t w d) d := (acts_ndlSend t w d).mono (by decide)

theorem acts_stopCommanding (r : Regs) (st : PState) (cause : Nat) (d : Dev) : Acts roleParts (stopCommanding r st cause d) d :=
  (Acts.when (acts_frame _ _ _)).also
    (((acts_failAll r _).ofOutputs.also (acts_setRole false _)).also ((acts_pairTo r st cause _).also (acts_pairPart d _)))

theorem acts_dropPermit (d : Dev) : Acts roleParts (dropPermit d) d := acts_pairPart d _

theorem acts_leaveRoles (r : Regs) (d : Dev) : Acts roleParts (leaveRoles r d) d :=
  (acts_setRole false _).also ((acts_dropPermit _).also ((acts_pairPart _ _).also
    (.ite (acts_stopCommanding r _ _ d) (acts_pairTo r _ _ d))))

theorem acts_e2eFromSet (r : Regs) (d : Dev) : Acts roleParts (e2eFromSet r d) d := by
  unfold e2eFromSet
  split
  · exact (acts_e2e d _).mono (by decide)
  · exact .refl _ d

theorem acts_takeCommand (r : Regs) (cause : Nat) (d : Dev) : Acts roleParts (takeCommand r cause d) d :=
  .unless ((Acts.when (acts_told r _ _ _ _ _).ofOutputs).also ((Acts.when ((acts_slv _ _).mono (by decide))).also
    ((Acts.when (acts_e2eFromSet r _)).also ((acts_pairPart _ _).also (acts_pairTo r _ cause d)))))

theorem acts_seekByLink (r : Regs) (d : Dev) : Acts roleParts (seekByLink r d) d :=
  .when (.ite (acts_pairTo r _ _ d) (.ite (acts_pairTo r _ _ d) (.ite (acts_takeCommand r _ d) (acts_pairTo r _ _ d))))

/-! ### The hold and the entry of RUN -/

/-- The parts that the start or the end of RUN may change. -/
def runParts : List Part := roleParts ++ [.mde, .lop, .lif, .fus]

theorem Acts.ofRoles {a b : Dev} (h : Acts roleParts a b) : Acts runParts a b := h.mono (List.subset_append_left _ _)

theorem acts_setDState (st : DState) (d : Dev) : Acts [.irq, .mde] (setDState st d) d :=
  .unless ((acts_raise _ _ _).trans (acts_mde d _))

theorem acts_loopsOff (d : Dev) : Acts runParts (loopsOff d) d := (acts_lop d _).mono (by decide)

theorem acts_modLife (f : LifeData → LifeData) (d : Dev) : Acts runParts (modLife f d) d := (acts_lif d _).mono (by decide)

/-- A hold changes nothing outside `runParts` and takes back no raw bit. -/
theorem acts_safeHold (r : Regs) (cause : Nat) (d : Dev) : Acts runParts (safeHold r cause d) d :=
  .when (((acts_record r _ _ _).mono (by decide)).also ((acts_failAll r _).ofOutputs.ofRoles.also ((acts_leaveRoles r _).ofRoles.also
    (((acts_mde _ _).mono (by decide)).also ((acts_modLife _ _).also ((acts_loopsOff _).also ((acts_setDState _ d).mono (by decide))))))))

end Sys2Proof
end

section
/-! PROOFS. Tile faults, overruns and their clearing [10 R301 R302 R303]. -/

namespace Sys2Proof

open Sys2Proof.Machine

/-! ### What Mason's work acts on -/

/-- The parts that a placement in force may change: a hold is among its effects. -/
def placeParts : List Part := runParts ++ [.msn, .grt]

/-- The settled state shows a tile as the work left it. -/
@[simp] theorem settle_tile (r : Regs) (k : Nat) (d : Dev) : (settle r d).tile k = d.tile k := by rw [Dev.tile, settle_msn]; rfl

/-- The settled state shows a job as the work left it. -/
@[simp] theorem settle_job (r : Regs) (j : Nat) (d : Dev) : (settle r d).job j = d.job j := by rw [Dev.job, settle_msn]; rfl

theorem modTile_tile_self (t : Nat) (f : Tile → Tile) (d : Dev) (h : t < d.msn.tiles.length) : (modTile t f d).tile t = f (d.tile t) :=
  at'_modAt_self _ t f h

theorem modTile_tile_other (t k : Nat) (f : Tile → Tile) (d : Dev) (h : k ≠ t) : (modTile t f d).tile k = d.tile k :=
  at'_modAt_other _ t k f h.symm

theorem acts_spareCheck (r : Regs) (d : Dev) : Acts [.irq, .msn] (spareCheck r d) d :=
  (acts_raiseIf _ _ _ _).trans (acts_msn d _)

theorem acts_settleJobs (r : Regs) (broken : List Nat) (d : Dev) : Acts [.irq, .evt, .msn] (settleJobs r broken d) d := by
  refine acts_foldN 15 _ d fun j a => ?_
  exact (Acts.when (((acts_record r _ _ _).trans (acts_raise 7 4 _)).mono (by decide))).also
    (((acts_raiseIf _ 7 5 _).trans (acts_modJob j _ a)).mono (by decide))

/-- The jobs take the tiles of a placement. -/
def jobsPlaced (r : Regs) (x : Plc × List Nat) (fault : Bool) (d : Dev) : Dev :=
  foldN 15 (fun j d =>
    let old := (d.job j).tiles
    let new := x.1.of j
    modJob j (fun y => { y with
      needed := jobNeeded r d j, tiles := new, moving := none, moveDue := false,
      moves := if fault && !(old.isEmpty) && !(new.isEmpty) && old != new then wrapInc 8 y.moves else y.moves }) d) d

/-- A placement with the tiles, jobs and spares that follow it. -/
def placementSettled (r : Regs) (x : Plc × List Nat) (fault : Bool) (d : Dev) : Dev :=
  spareCheck r (settleJobs r x.2 (settleTiles (jobsPlaced r x fault d)))

theorem takePlacement_eq (r : Regs) (x : Plc × List Nat) (fault : Bool) (d : Dev) : takePlacement r x fault d =
    if ((placementSettled r x fault d).job 3).unplaced then safeHold r 2 (placementSettled r x fault d) else placementSettled r x fault d := rfl

theorem acts_jobsPlaced (r : Regs) (x : Plc × List Nat) (fault : Bool) (d : Dev) : Acts [.msn] (jobsPlaced r x fault d) d :=
  acts_foldN 15 _ d fun j a => acts_modJob j _ a

theorem acts_placementSettled (r : Regs) (x : Plc × List Nat) (fault : Bool) (d : Dev) : Acts placeParts (placementSettled r x fault d) d :=
  ((acts_spareCheck r _).trans ((acts_settleJobs r x.2 _).trans ((acts_settleTiles _).trans (acts_jobsPlaced r x fault d)))).mono (by decide)

theorem acts_takePlacement (r : Regs) (x : Plc × List Nat) (fault : Bool) (d : Dev) : Acts placeParts (takePlacement r x fault d) d := by
  rw [takePlacement_eq]
  have h := acts_placementSettled r x fault d
  exact .ite (((acts_safeHold r 2 _).mono (by decide)).also h) h

theorem acts_replaceJobs (r : Regs) (fault : Bool) (d : Dev) : Acts placeParts (replaceJobs r fault d) d :=
  .unless (acts_takePlacement r _ fault d)

/-- A run that starts again marks its job, and loses the run or starts the solve anew. -/
theorem restartRun_cases (r : Regs) (j : Nat) (d : Dev) : let a := modJob j (fun x => { x with restarted := true }) d
    restartRun r j d = a ∨ restartRun r j d = modJob j (fun x => { x with lost := true }) a ∨ ∃ v, restartRun r j d = { a with slv := v } := by
  intro a
  unfold restartRun
  dsimp only
  split
  · split
    · exact .inr (.inr ⟨_, rfl⟩)
    · exact .inl rfl
  · exact .inl rfl
  · split
    · exact .inr (.inl rfl)
    · exact .inl rfl
  · exact .inl rfl
  · exact .inl rfl
  · exact .inl rfl
  · exact .inl rfl
  · split
    · exact .inr (.inl rfl)
    · exact .inl rfl

theorem acts_restartRun (r : Regs) (j : Nat) (d : Dev) : Acts [.slv, .msn] (restartRun r j d) d := by
  have marked : Acts [.slv, .msn] (modJob j (fun x => { x with restarted := true }) d) d := (acts_modJob j _ d).mono (by decide)
  obtain h | h | ⟨v, h⟩ := restartRun_cases r j d
  · rw [h]
    exact marked
  · rw [h]
    exact Acts.also ((acts_modJob j _ _).mono (by decide)) marked
  · rw [h]
    exact (acts_slv _ v).trans (acts_modJob j _ d)

/-! ### A FAULTY tile stays FAULTY [10 R301] -/

/-- The count of tile faults is kept, and tile `k`, once FAULTY, is so still. -/
structure FaultKept (k : Nat) (b a : Dev) : Prop where
  count : b.msn.tileFaults = a.msn.tileFaults
  still : (a.tile k).st = .faulty → (b.tile k).st = .faulty

theorem FaultKept.refl (k : Nat) (d : Dev) : FaultKept k d d := ⟨rfl, id⟩

theorem FaultKept.trans {k : Nat} {c b a : Dev} (h : FaultKept k c b) (g : FaultKept k b a) : FaultKept k c a :=
  ⟨h.count.trans g.count, h.still ∘ g.still⟩

theorem FaultKept.ite {k : Nat} {c : Prop} [Decidable c] {a b d : Dev} (ha : FaultKept k a d) (hb : FaultKept k b d) :
    FaultKept k (if c then a else b) d := by
  split
  · exact ha
  · exact hb

theorem FaultKept.when {k : Nat} {c : Prop} [Decidable c] {b a : Dev} (h : FaultKept k b a) : FaultKept k (if c then b else a) a := .ite h (.refl k a)

/-- What acts outside page MSN keeps its faults. -/
theorem Acts.faultKept {l : List Part} {b a : Dev} (h : Acts l b a) (k : Nat) (hl : Part.msn ∉ l) : FaultKept k b a :=
  ⟨congrArg MsnSt.tileFaults (h.agree .msn hl), fun hk => (congrArg (fun m : MsnSt => (at' m.tiles k).st) (h.agree .msn hl)).trans hk⟩

theorem faultKept_foldN {k : Nat} (n : Nat) (f : Nat → Dev → Dev) (d : Dev) (h : ∀ i a, FaultKept k (f i a) a) : FaultKept k (foldN n f d) d :=
  foldN_keeps (FaultKept k · d) n f d (fun i a ha => (h i a).trans ha) (.refl k d)

theorem faultKept_modJob (k j : Nat) (f : Job → Job) (d : Dev) : FaultKept k (modJob j f d) d := ⟨rfl, id⟩

/-- A tile that is not FAULTY may change freely. -/
theorem faultKept_modTile (k t : Nat) (f : Tile → Tile) (d : Dev) (h : (d.tile t).st ≠ .faulty) : FaultKept k (modTile t f d) d := by
  refine ⟨rfl, fun hk => ?_⟩
  have hkt : k ≠ t := fun e => h (e ▸ hk)
  rw [modTile_tile_other t k f d hkt, hk]

/-- Each tile follows the jobs on it. -/
def tilesFollow (d : Dev) : Dev :=
  foldN 12 (fun t d =>
    let busy := !((d.jobsOn t).isEmpty)
    match (d.tile t).st with
    | .free => if busy then modTile t (fun x => { x with st := .busy, since := d.tb0, runs := [] }) d else d
    | .busy => if busy then d else modTile t (fun x => { x with st := .free }) d
    | .grout => if busy then modTile t (fun x => { x with st := .busy, since := d.tb0, runs := [] }) d else d
    | _ => d) d

theorem settleTiles_eq (d : Dev) : ∃ g, settleTiles d = { tilesFollow d with grt := g } := ⟨_, rfl⟩

theorem faultKept_tilesFollow (k : Nat) (d : Dev) : FaultKept k (tilesFollow d) d := by
  refine faultKept_foldN 12 _ d fun t a => ?_
  dsimp only
  split
  next h => exact .when (faultKept_modTile k t _ a (by simp [h]))
  next h => exact .ite (.refl k a) (faultKept_modTile k t _ a (by simp [h]))
  next h => exact .when (faultKept_modTile k t _ a (by simp [h]))
  · exact .refl k a

theorem faultKept_settleTiles (k : Nat) (d : Dev) : FaultKept k (settleTiles d) d := by
  obtain ⟨g, h⟩ := settleTiles_eq d
  rw [h]
  exact ((acts_grt _ g).faultKept k (by decide)).trans (faultKept_tilesFollow k d)

theorem faultKept_spareCheck (k : Nat) (r : Regs) (d : Dev) : FaultKept k (spareCheck r d) d :=
  ((acts_raiseIf _ 7 6 _).faultKept k (by decide)).trans ⟨rfl, id⟩

theorem faultKept_settleJobs (k : Nat) (r : Regs) (broken : List Nat) (d : Dev) : FaultKept k (settleJobs r broken d) d := by
  refine faultKept_foldN 15 _ d fun j a => ?_
  exact (FaultKept.when (((acts_record r _ _ _).trans (acts_raise 7 4 _)).faultKept k (by decide))).trans
    (((acts_raiseIf _ 7 5 _).faultKept k (by decide)).trans (faultKept_modJob k j _ a))

theorem faultKept_placementSettled (k : Nat) (r : Regs) (x : Plc × List Nat) (fault : Bool) (d : Dev) :
    FaultKept k (placementSettled r x fault d) d :=
  (faultKept_spareCheck k r _).trans ((faultKept_settleJobs k r x.2 _).trans ((faultKept_settleTiles k _).trans
    (faultKept_foldN 15 _ d fun j a => faultKept_modJob k j _ a)))

theorem faultKept_takePlacement (k : Nat) (r : Regs) (x : Plc × List Nat) (fault : Bool) (d : Dev) : FaultKept k (takePlacement r x fault d) d := by
  rw [takePlacement_eq]
  have h := faultKept_placementSettled k r x fault d
  exact .ite (((acts_safeHold r 2 _).faultKept k (by decide)).trans h) h

theorem faultKept_replaceJobs (k : Nat) (r : Regs) (fault : Bool) (d : Dev) : FaultKept k (replaceJobs r fault d) d :=
  .ite (.refl k d) (faultKept_takePlacement k r _ fault d)

theorem faultKept_restartRun (k : Nat) (r : Regs) (j : Nat) (d : Dev) : FaultKept k (restartRun r j d) d := by
  have marked : FaultKept k (modJob j (fun x => { x with restarted := true }) d) d := faultKept_modJob k j _ d
  obtain h | h | ⟨v, h⟩ := restartRun_cases r j d
  · rw [h]
    exact marked
  · rw [h]
    exact (faultKept_modJob k j _ _).trans marked
  · rw [h]
    exact ((acts_slv _ v).faultKept k (by decide)).trans marked

/-! ### The fault of one tile -/

/-- The jobs that have a tile. -/
def hitJobs (k : Nat) (d : Dev) : List Nat := (List.range 15).filter fun j => (d.job j).tiles.any [k].contains

/-- A tile FAULTY and counted, with the self-test steps on it given up. -/
def tileMarked (k : Nat) (d : Dev) : Dev :=
  let a := modTile k (fun x => { x with st := .faulty, runs := [] }) d
  { a with
    msn := { a.msn with tileFaults := (a.msn.tileFaults + 1) % 2 ^ 16, faultMove := true }
    grt := { a.grt with
      owed := a.grt.owed.filter fun t => !([k].contains t)
      running := a.grt.running.filter fun (g : GrtStep) => !(g.cls == 0 && [k].contains g.item)
      begun := a.grt.begun.filter fun (g : Nat × Nat × Nat) => !(g.1 == 0 && [k].contains g.2.1) } }

/-- A tile's fault marked, raised and recorded. -/
def tileNoted (r : Regs) (k : Nat) (d : Dev) : Dev :=
  record r .msnTileFault { p0 := foldN 15 (fun j m => setBit m j ((hitJobs k d).contains j)) 0 } (raise 7 1 (tileMarked k d))

/-- The runs lost with a tile start again, and their jobs are placed again. -/
def jobsMoved (r : Regs) (hit : List Nat) (d : Dev) : Dev := raise 7 0 (replaceJobs r true (hit.foldl (fun d j => restartRun r j d) d))

theorem faultTiles_one (r : Regs) (k : Nat) (d : Dev) (hk : k < d.tileCount) (hf : (d.tile k).st ≠ .faulty) (ho : (d.tile k).st ≠ .off) :
    faultTiles r [k] d = if (hitJobs k d).isEmpty then spareCheck r (tileNoted r k d) else jobsMoved r (hitJobs k d) (tileNoted r k d) := by
  have hts : [k].filter (fun t => decide (t < d.tileCount) && !((d.tile t).st == .faulty) && !((d.tile t).st == .off)) = [k] := by
    simp [hk, hf, ho]
  rw [faultTiles]
  simp only [hts]
  rfl

theorem acts_tileMarked (k : Nat) (d : Dev) : Acts [.grt, .msn] (tileMarked k d) d :=
  Acts.trans (b := { d with msn := (tileMarked k d).msn }) (acts_grt _ _) (acts_msn d _)

theorem acts_tileNoted (r : Regs) (k : Nat) (d : Dev) : Acts [.irq, .evt, .irq, .grt, .msn] (tileNoted r k d) d :=
  (acts_record r _ _ _).trans ((acts_raise 7 1 _).trans (acts_tileMarked k d))

theorem tileNoted_msn (r : Regs) (k : Nat) (d : Dev) : (tileNoted r k d).msn = (tileMarked k d).msn :=
  ((acts_record r _ _ _).trans (acts_raise 7 1 (tileMarked k d))).agree .msn (by decide)

theorem tileNoted_fault (r : Regs) (k : Nat) (d : Dev) (h : k < d.msn.tiles.length) :
    ((tileNoted r k d).tile k).st = .faulty ∧ (tileNoted r k d).msn.tileFaults = (d.msn.tileFaults + 1) % 2 ^ 16 := by
  refine ⟨?_, congrArg MsnSt.tileFaults (tileNoted_msn r k d)⟩
  rw [Dev.tile, tileNoted_msn]
  exact congrArg Tile.st (at'_modAt_self d.msn.tiles k _ h)

theorem tileNoted_bit (r : Regs) (k : Nat) (d : Dev) (h : 7 < d.irq.raw.length) : (at' (tileNoted r k d).irq.raw 7).testBit 1 = true := by
  rw [tileNoted, record_raw_other _ _ _ _ 7 (by decide), raise_testBit_self 7 1 (tileMarked k d) h]

theorem faultKept_jobsMoved (k : Nat) (r : Regs) (hit : List Nat) (d : Dev) : FaultKept k (jobsMoved r hit d) d :=
  ((acts_raise 7 0 _).faultKept k (by decide)).trans ((faultKept_replaceJobs k r true _).trans
    (foldl_keeps (FaultKept k · d) _ hit d (fun a j ha => (faultKept_restartRun k r j a).trans ha) (.refl k d)))

theorem acts_placedAgain (r : Regs) (hit : List Nat) (d : Dev) :
    Acts placeParts (replaceJobs r true (hit.foldl (fun d j => restartRun r j d) d)) d :=
  (acts_replaceJobs r true _).also ((acts_foldl _ hit d fun a j => acts_restartRun r j a).mono (by decide))

theorem acts_jobsMoved (r : Regs) (hit : List Nat) (d : Dev) : Acts placeParts (jobsMoved r hit d) d :=
  ((acts_raise 7 0 _).mono (by decide)).also (acts_placedAgain r hit d)

theorem jobsMoved_bit (r : Regs) (hit : List Nat) (d : Dev) (h : 7 < d.irq.raw.length) : (at' (jobsMoved r hit d).irq.raw 7).testBit 0 = true :=
  raise_testBit_self 7 0 _ ((acts_placedAgain r hit d).raised.length.symm ▸ h)

/-- The fault of a tile: FAULTY, counted and raised; bit 0 when a job is hit. -/
theorem faultTiles_shows (r : Regs) (k : Nat) (d : Dev) (hk : k < d.tileCount) (hl : k < d.msn.tiles.length) (hf : (d.tile k).st ≠ .faulty)
    (ho : (d.tile k).st ≠ .off) (hraw : 7 < d.irq.raw.length) :
    ((faultTiles r [k] d).tile k).st = .faulty ∧ (faultTiles r [k] d).msn.tileFaults = (d.msn.tileFaults + 1) % 2 ^ 16 ∧
      (at' (faultTiles r [k] d).irq.raw 7).testBit 1 = true ∧
      ((hitJobs k d).isEmpty = false → (at' (faultTiles r [k] d).irq.raw 7).testBit 0 = true) := by
  obtain ⟨hst, hcount⟩ := tileNoted_fault r k d hl
  have hbit := tileNoted_bit r k d hraw
  have hlen : 7 < (tileNoted r k d).irq.raw.length := (acts_tileNoted r k d).raised.length.symm ▸ hraw
  rw [faultTiles_one r k d hk hf ho]
  generalize tileNoted r k d = a at hst hcount hbit hlen ⊢
  split
  next he =>
    have hkept := faultKept_spareCheck k r a
    exact ⟨hkept.still hst, hkept.count.trans hcount, (acts_spareCheck r a).raised.bit _ _ hbit, fun h => absurd he (by simp [h])⟩
  next =>
    have hkept := faultKept_jobsMoved k r (hitJobs k d) a
    exact ⟨hkept.still hst, hkept.count.trans hcount, (acts_jobsMoved r _ a).raised.bit _ _ hbit, fun _ => jobsMoved_bit r _ a hlen⟩

theorem hitJobs_isEmpty {k : Nat} {d : Dev} : (hitJobs k d).isEmpty = true ↔ ∀ j, j < 15 → (d.job j).tiles.contains k = false := by
  simp [hitJobs, List.filter_eq_nil_iff]

theorem spareCheck_jobs (r : Regs) (d : Dev) : (spareCheck r d).msn.jobs = d.msn.jobs :=
  (congrArg MsnSt.jobs ((acts_raiseIf _ 7 6 _).agree .msn (by decide))).trans rfl

/-- A fault of a tile without a job leaves the jobs alone. -/
theorem faultTiles_idle (r : Regs) (k : Nat) (d : Dev) (hk : k < d.tileCount) (hf : (d.tile k).st ≠ .faulty) (ho : (d.tile k).st ≠ .off)
    (he : (hitJobs k d).isEmpty = true) :
    Acts [.irq, .msn, .grt, .evt] (faultTiles r [k] d) d ∧ (faultTiles r [k] d).msn.jobs = d.msn.jobs := by
  rw [faultTiles_one r k d hk hf ho, if_pos he]
  refine ⟨((acts_spareCheck r _).trans (acts_tileNoted r k d)).mono (by decide), ?_⟩
  rw [spareCheck_jobs, tileNoted_msn]
  rfl

/-! ### Overruns [10 R303] -/

/-- A tile SUSPECT and owed a full test. -/
def tileSuspected (t : Nat) (d : Dev) : Dev :=
  { modTile t (fun x => { x with st := .suspect, runs := [] }) d with
    grt := { d.grt with owed := if d.grt.owed.contains t then d.grt.owed else d.grt.owed ++ [t] } }

theorem acts_tileSuspected (t : Nat) (d : Dev) : Acts [.grt, .msn] (tileSuspected t d) d := (acts_grt _ _).trans (acts_modTile t _ d)

theorem tileSuspected_shows (t : Nat) (d : Dev) (h : t < d.msn.tiles.length) :
    ((tileSuspected t d).tile t).st = .suspect ∧ t ∈ (tileSuspected t d).grt.owed := by
  refine ⟨congrArg Tile.st (modTile_tile_self t _ d h), ?_⟩
  show t ∈ if d.grt.owed.contains t then d.grt.owed else d.grt.owed ++ [t]
  split
  next hc => simpa using hc
  next => simp

/-- An overrun against a tile. -/
def tileOverrun (r : Regs) (d : Dev) (t : Nat) : Dev :=
  let runs := (true :: (d.tile t).runs).take 100
  let a := modTile t (fun x => { x with runs := runs }) d
  if r.get F.MSN_CFG_OVR_LIMIT ≤ runs.countP id then tileSuspected t a else a

theorem acts_tileOverrun (r : Regs) (d : Dev) (t : Nat) : Acts [.grt, .msn] (tileOverrun r d t) d :=
  (Acts.when (acts_tileSuspected t _)).also ((acts_modTile t _ d).mono (by decide))

/-- An overrun changes no job. -/
theorem tileOverrun_jobs (r : Regs) (d : Dev) (t : Nat) : (tileOverrun r d t).msn.jobs = d.msn.jobs := by
  unfold tileOverrun
  dsimp only
  split <;> rfl

/-- The overrun of a job in its counts and times. -/
def jobOverran (j us : Nat) (d : Dev) : Dev :=
  modJob j (fun x => { x with overruns := wrapInc 16 x.overruns, lastOver := true, lastUs := us % 2 ^ 16, maxUs := max x.maxUs (us % 2 ^ 16) }) d

/-- The first overrun in a row raised. -/
def jobOverTold (j us : Nat) (d : Dev) : Dev := raiseIf (!((d.job j).lastOver)) 7 3 (jobOverran j us d)

theorem jobOverrun_of_over (j us : Nat) (r : Regs) (d : Dev) (h : 5 * jobBound r d j < 4 * us) (ht : (d.job j).tiles ≠ []) :
    jobOverrun j us r d = ((jobOverTold j us d).job j).tiles.foldl (tileOverrun r) (jobOverTold j us d) :=
  if_neg (by simp [ht, h])

theorem acts_jobOverTold (j us : Nat) (d : Dev) : Acts [.irq, .msn] (jobOverTold j us d) d := (acts_raiseIf _ _ _ _).trans (acts_modJob j _ d)

theorem jobOverTold_msn (j us : Nat) (d : Dev) : (jobOverTold j us d).msn = (jobOverran j us d).msn :=
  (acts_raiseIf _ 7 3 _).agree .msn (by decide)

theorem jobOverTold_tiles (j us : Nat) (d : Dev) : (jobOverTold j us d).msn.tiles = d.msn.tiles := by
  rw [jobOverTold_msn]
  rfl

theorem jobOverTold_job (j us : Nat) (d : Dev) (h : j < d.msn.jobs.length) : (jobOverTold j us d).job j =
    { d.job j with overruns := wrapInc 16 (d.job j).overruns, lastOver := true, lastUs := us % 2 ^ 16, maxUs := max (d.job j).maxUs (us % 2 ^ 16) } := by
  rw [Dev.job, jobOverTold_msn]
  exact at'_modAt_self _ j _ h

theorem jobOverTold_bit (j us : Nat) (d : Dev) (h : 7 < d.irq.raw.length) (hf : (d.job j).lastOver = false) :
    (at' (jobOverTold j us d).irq.raw 7).testBit 3 = true := by
  rw [jobOverTold, hf]
  exact raise_testBit_self 7 3 (jobOverran j us d) h

theorem overruns_act (r : Regs) (ts : List Nat) (d : Dev) : Acts [.grt, .msn] (ts.foldl (tileOverrun r) d) d :=
  acts_foldl _ ts d (acts_tileOverrun r)

theorem overruns_jobs (r : Regs) (ts : List Nat) (d : Dev) : (ts.foldl (tileOverrun r) d).msn.jobs = d.msn.jobs :=
  foldl_keeps (fun a : Dev => a.msn.jobs = d.msn.jobs) _ ts d (fun a t ha => (tileOverrun_jobs r a t).trans ha) rfl

/-- The limit of overruns takes a tile to SUSPECT. -/
theorem tileOverrun_suspects (r : Regs) (d : Dev) (t : Nat) (h : t < d.msn.tiles.length)
    (hl : r.get F.MSN_CFG_OVR_LIMIT ≤ ((true :: (d.tile t).runs).take 100).countP id) :
    ((tileOverrun r d t).tile t).st = .suspect ∧ t ∈ (tileOverrun r d t).grt.owed := by
  rw [tileOverrun, if_pos hl]
  exact tileSuspected_shows t _ (by simpa [modTile] using h)

/-! ### The host clears a tile [10 R301 R303 R310] -/

theorem msnDiagClr_on (v : Nat) (r : Regs) (d : Dev) (he : r.bit F.MSN_DIAG_CTL_EN = true) (hv : v.testBit 4 = true)
    (hf : (d.tile (v % 16)).st = .faulty) (hk : v % 16 < d.tileCount) : msnDiagClr v r d = tileSuspected (v % 16) d :=
  if_pos (by simp [he, bit, hv, hf, hk])

theorem msnDiagClr_off (v : Nat) (r : Regs) (d : Dev) (he : r.bit F.MSN_DIAG_CTL_EN = false) : msnDiagClr v r d = d :=
  if_neg (by simp [he])

/-- Settles O30. -/
theorem tileFaultsAndOverruns : Obligations.TileFaultsAndOverruns := by
  unfold Obligations.TileFaultsAndOverruns
  refine ⟨fun s k hk hl hf ho hraw => ?_, fun s j us hj hover ht hraw => ?_, fun s v => ?_, fun s v he => ?_⟩
  · refine ⟨_, onDev_next s fun r d => faultTiles r [k] d, rfl, rfl, ?_⟩
    obtain ⟨hst, hcount, hbit, hhit⟩ := faultTiles_shows s.regs k s.dev.quiet hk hl hf ho hraw
    refine ⟨by rw [settle_tile, hst], by rw [settle_msn, hcount]; rfl, by rw [settle_raw, hbit], fun ⟨j, hj, hc⟩ => ?_, fun hno => ?_⟩
    · rw [settle_raw]
      refine hhit (Bool.eq_false_iff.mpr fun he => ?_)
      exact absurd (hitJobs_isEmpty.mp he j hj) (by rw [show (s.dev.quiet.job j).tiles.contains k = true from hc]; decide)
    · obtain ⟨hacts, hjobs⟩ := faultTiles_idle s.regs k s.dev.quiet hk hf ho (hitJobs_isEmpty.mpr hno)
      exact ⟨hacts.onlyParts (by decide), by rw [settle_msn, hjobs]; rfl⟩
  · refine ⟨_, onDev_next s (jobOverrun j us), ?_⟩
    rw [jobOverrun_of_over j us s.regs s.dev.quiet hover ht, settle_job, settle_raw, settle_grt]
    have htold := acts_jobOverTold j us s.dev.quiet
    have hjob := jobOverTold_job j us s.dev.quiet hj
    have hbit := jobOverTold_bit j us s.dev.quiet hraw
    have htiles : (jobOverTold j us s.dev.quiet).msn.tiles = s.dev.msn.tiles := jobOverTold_tiles j us s.dev.quiet
    generalize jobOverTold j us s.dev.quiet = a at htold hjob hbit htiles ⊢
    have hacts := overruns_act s.regs (a.job j).tiles a
    have hjobs : (List.foldl (tileOverrun s.regs) a (a.job j).tiles).job j = a.job j :=
      congrArg (at' · j) (overruns_jobs s.regs (a.job j).tiles a)
    refine ⟨(hacts.trans htold).onlyParts (by decide), by rw [hjobs, hjob]; rfl, by rw [hjobs, hjob], fun hfirst => ?_, fun k hk hlen hlim => ?_⟩
    · exact hacts.raised.bit _ _ (hbit hfirst)
    · have hone : (a.job j).tiles = [k] := by rw [hjob]; exact hk
      have htile : a.tile k = s.dev.tile k := congrArg (at' · k) htiles
      rw [hone, settle_tile]
      exact tileOverrun_suspects s.regs a k (htiles ▸ hlen) (htile ▸ hlim)
  · intro k he hv hf hk hl
    refine ⟨_, onDev_next s (msnDiagClr v), ?_⟩
    rw [msnDiagClr_on v s.regs s.dev.quiet he hv hf hk, settle_tile, settle_grt, settle_msn]
    obtain ⟨hst, howed⟩ := tileSuspected_shows k s.dev.quiet hl
    exact ⟨(acts_tileSuspected k s.dev.quiet).onlyParts (by decide), hst, howed, rfl⟩
  · refine ⟨_, onDev_next s (msnDiagClr v), ?_⟩
    rw [msnDiagClr_off v s.regs s.dev.quiet he]
    exact onlyParts_quiet _ s s.regs

end Sys2Proof
end

section
/-! PROOFS. Errors of the shared banks and the copies of their workspaces [10 R300 R304]. -/

namespace Sys2Proof

open Sys2Proof.Machine

/-- The settled state shows a bank as the work left it. -/
@[simp] theorem settle_bank (r : Regs) (b : Nat) (d : Dev) : (settle r d).bank b = d.bank b := by rw [Dev.bank, settle_msn]; rfl

theorem modBank_bank_self (b : Nat) (f : Bank → Bank) (d : Dev) (h : b < d.msn.banks.length) : (modBank b f d).bank b = f (d.bank b) :=
  at'_modAt_self _ b f h

theorem modBank_bank_other (b c : Nat) (f : Bank → Bank) (d : Dev) (h : c ≠ b) : (modBank b f d).bank c = d.bank c :=
  at'_modAt_other _ b c f h.symm

@[simp] theorem modBank_length (b : Nat) (f : Bank → Bank) (d : Dev) : (modBank b f d).msn.banks.length = d.msn.banks.length :=
  modAt_length _ b f

theorem acts_modBank (b : Nat) (f : Bank → Bank) (d : Dev) : Acts [.msn] (modBank b f d) d := acts_msn d _

/-- A counter that stays at its greatest value. -/
theorem satInc_eq_min (n c : Nat) : satInc n c = min (c + 1) (2 ^ n - 1) := by
  unfold satInc
  split <;> omega

/-! ### Corrected errors -/

theorem acts_startCopy (b : Nat) (d : Dev) : Acts [.msn] (startCopy b d) d := by
  unfold startCopy
  refine .unless ?_
  split
  · exact (acts_modBank _ _ _).also (acts_modBank b _ d)
  · exact .refl _ d

/-- The start of a copy changes its own bank in the copy's fields alone. -/
theorem startCopy_bank (b : Nat) (d : Dev) (h : b < d.msn.banks.length) :
    ∃ x y, (startCopy b d).bank b = { d.bank b with copyTo := x, copied := y } := by
  unfold startCopy
  split
  · exact ⟨_, _, rfl⟩
  · split
    next c hc =>
      have hcb : b ≠ c := (bne_iff_ne.mp (List.find?_some (p := fun c => c != b) hc)).symm
      rw [modBank_bank_other c b _ _ hcb, modBank_bank_self b _ d h]
      exact ⟨_, _, rfl⟩
    next => exact ⟨_, _, rfl⟩

/-- A bank's corrected error counted and kept for its hour. -/
def bankCounted (b : Nat) (errs : List Nat) (d : Dev) : Dev := modBank b (fun x => { x with ce := satInc 16 x.ce, errs := errs }) d

/-- A bank taken for SUSPECT, with the copy of its workspace begun. -/
def bankSuspected (b : Nat) (d : Dev) : Dev :=
  startCopy b (modBank b (fun x => { x with st := if x.st == .moving then x.st else .suspect }) d)

/-- The corrected errors of a bank within the last hour, with one now. -/
def hourErrs (b : Nat) (d : Dev) : List Nat := d.tb0 :: (d.bank b).errs.filter fun x => decide (d.tb0 < x + 3600 * nsPerSec)

/-- An error of a bank of the grade that is not FAULTY counts. -/
theorem bank_counts {b : Nat} {d : Dev} (hb : b < d.bankCount) (hf : (d.bank b).st ≠ .faulty) :
    ¬(d.bankCount ≤ b ∨ ((d.bank b).st == .faulty) = true) := by simp [hf, hb]

theorem bankError_corrected (b j : Nat) (active : Bool) (r : Regs) (d : Dev) (hb : b < d.bankCount) (hf : (d.bank b).st ≠ .faulty) :
    bankError b false j active r d =
      if 16 < (hourErrs b d).length then bankSuspected b (bankCounted b (hourErrs b d) d) else bankCounted b (hourErrs b d) d :=
  if_neg (bank_counts hb hf)

theorem acts_bankCounted (b : Nat) (errs : List Nat) (d : Dev) : Acts [.msn] (bankCounted b errs d) d := acts_modBank b _ d

theorem bankCounted_bank (b : Nat) (errs : List Nat) (d : Dev) (h : b < d.msn.banks.length) :
    (bankCounted b errs d).bank b = { d.bank b with ce := satInc 16 (d.bank b).ce, errs := errs } := modBank_bank_self b _ d h

theorem acts_bankSuspected (b : Nat) (d : Dev) : Acts [.msn] (bankSuspected b d) d := (acts_startCopy b _).also (acts_modBank b _ d)

/-- A suspected bank keeps its count and its errors, and is SUSPECT unless it is the target of a copy. -/
theorem bankSuspected_bank (b : Nat) (d : Dev) (h : b < d.msn.banks.length) :
    ((bankSuspected b d).bank b).ce = (d.bank b).ce ∧ ((bankSuspected b d).bank b).errs = (d.bank b).errs ∧
      ((d.bank b).st ≠ .moving → ((bankSuspected b d).bank b).st = .suspect) := by
  obtain ⟨x, y, hxy⟩ := startCopy_bank b (modBank b (fun x => { x with st := if x.st == .moving then x.st else .suspect }) d) (by simpa using h)
  rw [modBank_bank_self b _ d h] at hxy
  rw [bankSuspected, hxy]
  exact ⟨rfl, rfl, fun hm => if_neg (by simpa using hm)⟩

/-! ### Uncorrectable errors -/

/-- A FAULTY bank holds nothing. -/
def bankFaulty (b : Nat) (d : Dev) : Dev := modBank b (fun y => { y with st := .faulty, use := 0, copyTo := none, copied := false }) d

/-- Where the workspace of a FAULTY bank goes: the target of its copy, or the first free bank. -/
def faultDest (b : Nat) (d : Dev) : Option Nat :=
  match (d.bank b).copyTo with
  | some c => some c
  | none => (bankFaulty b d).freeBanks.head?

/-- A workspace put in a bank. -/
def workspacePut (dest : Option Nat) (use : Nat) (d : Dev) : Dev :=
  match dest with
  | some c => if use = 0 then d else modBank c (fun y => { y with st := .inUse, use := use, since := d.tb0 }) d
  | none => d

theorem acts_workspacePut (dest : Option Nat) (use : Nat) (d : Dev) : Acts [.msn] (workspacePut dest use d) d := by
  unfold workspacePut
  split
  · exact .unless (acts_modBank _ _ d)
  · exact .refl _ d

theorem workspacePut_other (dest : Option Nat) (use b : Nat) (d : Dev) (h : dest ≠ some b) : (workspacePut dest use d).bank b = d.bank b := by
  unfold workspacePut
  split
  next c =>
    split
    · rfl
    · exact modBank_bank_other c b _ d fun e => h (congrArg some e.symm)
  next => rfl

theorem bankFaulty_bank (b : Nat) (d : Dev) (h : b < d.msn.banks.length) : ((bankFaulty b d).bank b).st = .faulty :=
  congrArg Bank.st (modBank_bank_self b _ d h)

/-- A FAULTY bank is not free, so its workspace goes elsewhere. -/
theorem faultDest_ne (b : Nat) (d : Dev) (h : b < d.msn.banks.length) (hc : (d.bank b).copyTo = none) : faultDest b d ≠ some b := by
  intro he
  have hmem : b ∈ (bankFaulty b d).freeBanks := List.mem_of_head? (by simpa [faultDest, hc] using he)
  simp [Dev.freeBanks, bankFaulty_bank b d h] at hmem

theorem acts_faultBank (b : Nat) (d : Dev) : Acts [.irq, .msn] (faultBank b d) d :=
  (acts_raise 7 2 _).trans ((acts_workspacePut _ _ _).also (acts_modBank b _ d))

theorem faultBank_st (b : Nat) (d : Dev) (h : b < d.msn.banks.length) (hc : (d.bank b).copyTo = none) : ((faultBank b d).bank b).st = .faulty := by
  have hput := workspacePut_other (faultDest b d) (d.bank b).use b (bankFaulty b d) (faultDest_ne b d h hc)
  exact (congrArg Bank.st hput).trans (bankFaulty_bank b d h)

theorem faultBank_bit (b : Nat) (d : Dev) (h : 7 < d.irq.raw.length) : (at' (faultBank b d).irq.raw 7).testBit 2 = true := by
  have hacts : Acts [.msn] (workspacePut (faultDest b d) (d.bank b).use (bankFaulty b d)) d := (acts_workspacePut _ _ _).also (acts_modBank b _ d)
  exact raise_testBit_self 7 2 _ (hacts.raised.length.symm ▸ h)

theorem bankError_plain (b j : Nat) (active : Bool) (r : Regs) (d : Dev) (hb : b < d.bankCount) (hf : (d.bank b).st ≠ .faulty)
    (h2 : (d.bank b).use ≠ 2) (h3 : (d.bank b).use ≠ 3) (h6 : (d.bank b).use ≠ 6) : bankError b true j active r d = faultBank b d := by
  rw [bankError, if_neg (bank_counts hb hf), if_pos rfl]
  simp [h2, h3, h6]

theorem bankError_safety (b j : Nat) (active : Bool) (r : Regs) (d : Dev) (hb : b < d.bankCount) (hf : (d.bank b).st ≠ .faulty)
    (h2 : (d.bank b).use = 2) : bankError b true j active r d = faultBank b (safeHold r 3 d) := by
  rw [bankError, if_neg (bank_counts hb hf), if_pos rfl]
  simp [h2]

/-- Settles O31. -/
theorem bankErrorsAndCopies : Obligations.BankErrorsAndCopies := by
  unfold Obligations.BankErrorsAndCopies
  refine ⟨fun s b j active hb hl hf => ?_, fun s b j active hb hl hf hc h2 h3 h6 hraw => ?_, fun s b j active hb hl hf h2 hrun => ?_, fun s b hl hc => ?_⟩
  · intro errs
    refine ⟨_, onDev_next s (bankError b false j active), ?_⟩
    rw [bankError_corrected b j active s.regs s.dev.quiet hb hf, settle_bank, show hourErrs b s.dev.quiet = errs from rfl]
    have hbank := bankCounted_bank b errs s.dev.quiet hl
    have hlen : b < (bankCounted b errs s.dev.quiet).msn.banks.length := by simpa [bankCounted] using hl
    have hcounted := acts_bankCounted b errs s.dev.quiet
    generalize bankCounted b errs s.dev.quiet = a at hbank hlen hcounted ⊢
    by_cases hmany : 16 < errs.length
    · rw [if_pos hmany]
      obtain ⟨hce, herrs, hst⟩ := bankSuspected_bank b a hlen
      rw [hbank] at hce herrs hst
      exact ⟨((acts_bankSuspected b a).also hcounted).onlyParts (by decide), hce.trans (satInc_eq_min 16 _), herrs, fun _ hm => hst hm, fun h => absurd hmany (by omega)⟩
    · rw [if_neg hmany, hbank]
      exact ⟨hcounted.onlyParts (by decide), satInc_eq_min 16 _, rfl, fun h => absurd h hmany, fun _ => rfl⟩
  · refine ⟨_, onDev_next s (bankError b true j active), ?_⟩
    rw [bankError_plain b j active s.regs s.dev.quiet hb hf h2 h3 h6, settle_bank, settle_raw]
    exact ⟨(acts_faultBank b _).onlyParts (by decide), faultBank_st b s.dev.quiet hl hc, faultBank_bit b s.dev.quiet hraw⟩
  · refine ⟨_, onDev_next s (bankError b true j active), rfl, rfl, ?_⟩
    rw [bankError_safety b j active s.regs s.dev.quiet hb hf h2, settle_mde]
    have hmde : (faultBank b (safeHold s.regs 3 s.dev.quiet)).mde = heldMde 3 s.dev.mde :=
      ((acts_faultBank b _).agree .mde (by decide)).trans (safeHold_mde s.regs 3 s.dev.quiet hrun)
    rw [hmde]
    exact ⟨rfl, rfl, rfl⟩
  · refine ⟨_, onDev_next s fun _ d => if (d.bank b).copyTo.isSome then modBank b (fun x => { x with copied := true }) d else d, ?_⟩
    rw [if_pos (show (s.dev.quiet.bank b).copyTo.isSome = true from hc)]
    simp only [settle_bank]
    exact ⟨(acts_modBank b _ _).onlyParts (by decide), modBank_bank_self b _ s.dev.quiet hl, fun k hk => modBank_bank_other b k _ s.dev.quiet hk⟩

end Sys2Proof
end

section
/-! PROOFS. The checks of a load and the writing of its slot [02 R48 R49 R50 R52]. -/

namespace Sys2Proof

open Sys2Proof.Machine

/-! ### The checks -/

theorem acts_refuseLoad (r : Regs) (x : Refuse) (d : Dev) : Acts [.irq, .evt, .irq, .cfg] (refuseLoad r x d) d :=
  (acts_record r _ _ _).trans ((acts_raise 6 1 _).trans (acts_cfg d _))

/-- A load refused keeps the slots and the description in force, and shows its code and place. -/
structure LoadRefused (x : Refuse) (b a : Dev) : Prop where
  acts : Acts [.irq, .evt, .irq, .cfg] b a
  active : b.cfg.active = a.cfg.active
  slot0 : b.cfg.slot0 = a.cfg.slot0
  slot1 : b.cfg.slot1 = a.cfg.slot1
  slot : b.cfg.slot = a.cfg.slot
  phase : b.cfg.phase = .refused
  code : b.cfg.refuse = x.code
  sec : b.cfg.section_ = x.sec
  idx : b.cfg.record = x.idx
  bit : 6 < a.irq.raw.length → (at' b.irq.raw 6).testBit 1 = true

theorem loadRefused_refuseLoad (r : Regs) (x : Refuse) (d : Dev) : LoadRefused x (refuseLoad r x d) d := by
  have hcfg := refuseLoad_cfg r x d
  refine ⟨acts_refuseLoad r x d, ?_, ?_, ?_, ?_, ?_, ?_, ?_, ?_, fun h => ?_⟩
  case refine_9 => rw [refuseLoad, record_raw_other _ _ _ _ 6 (by decide)]; exact raise_testBit_self 6 1 _ h
  all_goals rw [hcfg]

/-- The structural difference of a load noted. -/
def diffNoted (any : Bool) (d : Dev) : Dev := { d with cfg := { d.cfg with structDiff := any } }

/-- A load that passed every check waits for its slot to be written. -/
def loadWriting (b : List Byte) (next : Descr) (safety : Bool) (d : Dev) : Dev :=
  { d with cfg := { d.cfg with phase := .writing, image := b, next := next, tuningLoad := (imgHdr b).kind == 1, safetyDiff := safety } }

/-- The state after the image's own checks have passed. -/
def imagePassed (d : Dev) (b : List Byte) : Dev := diffNoted ((diffSecs d.cfg.active (d.wouldBe b)).any fun t => !(isTuning t)) d

/-- The checks of an image in the state in hand, with the description that it would make. -/
def imageRefusal (r : Regs) (d : Dev) (b : List Byte) : Option Refuse :=
  chkImage r d d.cfg.active (r.bit F.CFG_POLICY_ROLLBACK_OK) d.cfg.len b (d.wouldBe b)

theorem cfgChecksDone_refused (r : Regs) (m : List Host.Cell) (d : Dev) (h : d.cfg.phase = .checking) (x : Refuse)
    (hx : imageRefusal r d (stagedImage m d.cfg.len) = some x) : cfgChecksDone r m d = refuseLoad r x d := by
  have hp : (d.cfg.phase == .checking) = true := by rw [h]; rfl
  rw [cfgChecksDone, if_pos hp]
  simp only [imageRefusal] at hx
  simp only [hx]

theorem cfgChecksDone_passed (r : Regs) (m : List Host.Cell) (d : Dev) (h : d.cfg.phase = .checking)
    (hx : imageRefusal r d (stagedImage m d.cfg.len) = none) :
    cfgChecksDone r m d =
      match chkCutIn (imagePassed d (stagedImage m d.cfg.len)) (stagedImage m d.cfg.len) (d.wouldBe (stagedImage m d.cfg.len)) with
      | some x => refuseLoad r x (imagePassed d (stagedImage m d.cfg.len))
      | none => loadWriting (stagedImage m d.cfg.len) (d.wouldBe (stagedImage m d.cfg.len))
          ((diffSecs d.cfg.active (d.wouldBe (stagedImage m d.cfg.len))).contains 0xD) (imagePassed d (stagedImage m d.cfg.len)) := by
  have hp : (d.cfg.phase == .checking) = true := by rw [h]; rfl
  rw [cfgChecksDone, if_pos hp]
  simp only [imageRefusal] at hx
  simp only [hx]
  rfl

theorem acts_diffNoted (any : Bool) (d : Dev) : Acts [.cfg] (diffNoted any d) d := acts_cfg d _

theorem acts_loadWriting (b : List Byte) (next : Descr) (safety : Bool) (d : Dev) : Acts [.cfg] (loadWriting b next safety d) d := acts_cfg d _

/-- A load that waits for its slot keeps the slots and the description in force. -/
theorem loadWriting_shows (b : List Byte) (next : Descr) (safety any : Bool) (d : Dev) : let a := loadWriting b next safety (diffNoted any d)
    a.cfg.active = d.cfg.active ∧ a.cfg.slot0 = d.cfg.slot0 ∧ a.cfg.slot1 = d.cfg.slot1 ∧ a.cfg.slot = d.cfg.slot ∧ a.cfg.phase = .writing ∧
      a.cfg.image = b := ⟨rfl, rfl, rfl, rfl, rfl, rfl⟩

theorem chkCutIn_diffNoted (any : Bool) (d : Dev) (b : List Byte) (next : Descr) : chkCutIn (diffNoted any d) b next = chkCutIn d b next := rfl

theorem LoadRefused.noted {x : Refuse} {any : Bool} {b a : Dev} (h : LoadRefused x b (diffNoted any a)) : LoadRefused x b a :=
  ⟨(h.acts.trans (acts_diffNoted any a)).mono (by decide), h.active, h.slot0, h.slot1, h.slot, h.phase, h.code, h.sec, h.idx, h.bit⟩

/-- The description that an image would make does not depend on what leaves the device. -/
theorem wouldBe_quiet (d : Dev) (b : List Byte) : d.quiet.wouldBe b = d.wouldBe b := by unfold Dev.wouldBe Dev.fullBytes; rfl

theorem chkCutIn_quiet (d : Dev) (b : List Byte) (next : Descr) : chkCutIn d.quiet b next = chkCutIn d b next := by unfold chkCutIn; rfl

theorem chkImage_quiet (r : Regs) (d : Dev) (a : Option Descr) (skip : Bool) (len : Nat) (b : List Byte) (next : Descr) :
    chkImage r d.quiet a skip len b next = chkImage r d a skip len b next := by unfold chkImage; rfl

/-- What the checks leave: a refusal with the first failed check's code, or the load waiting for its slot. -/
theorem cfgChecksDone_shows (r : Regs) (m : List Host.Cell) (d : Dev) (h : d.cfg.phase = .checking) :
    (∃ x, LoadRefused x (cfgChecksDone r m d) d ∧ (∀ y, imageRefusal r d (stagedImage m d.cfg.len) = some y → y = x) ∧
      (imageRefusal r d (stagedImage m d.cfg.len) = none →
        chkCutIn d (stagedImage m d.cfg.len) (d.wouldBe (stagedImage m d.cfg.len)) = some x)) ∨
    (imageRefusal r d (stagedImage m d.cfg.len) = none ∧
      chkCutIn d (stagedImage m d.cfg.len) (d.wouldBe (stagedImage m d.cfg.len)) = none ∧
      ∃ any safety, cfgChecksDone r m d =
        loadWriting (stagedImage m d.cfg.len) (d.wouldBe (stagedImage m d.cfg.len)) safety (diffNoted any d)) := by
  cases hi : imageRefusal r d (stagedImage m d.cfg.len) with
  | some x =>
    rw [cfgChecksDone_refused r m d h x hi]
    exact .inl ⟨x, loadRefused_refuseLoad r x d, fun y hy => (Option.some.inj hy).symm, fun hn => absurd hn (by simp)⟩
  | none =>
    have hpass := cfgChecksDone_passed r m d h hi
    rw [show chkCutIn (imagePassed d (stagedImage m d.cfg.len)) (stagedImage m d.cfg.len) (d.wouldBe (stagedImage m d.cfg.len)) =
      chkCutIn d (stagedImage m d.cfg.len) (d.wouldBe (stagedImage m d.cfg.len)) from chkCutIn_diffNoted _ d _ _] at hpass
    cases hc : chkCutIn d (stagedImage m d.cfg.len) (d.wouldBe (stagedImage m d.cfg.len)) with
    | some x =>
      rw [hc] at hpass
      rw [hpass]
      exact .inl ⟨x, (loadRefused_refuseLoad r x _).noted, fun y hy => absurd hy (by simp), fun _ => rfl⟩
    | none =>
      rw [hc] at hpass
      exact .inr ⟨rfl, rfl, _, _, hpass⟩

/-! ### The slot -/

theorem acts_wearOne (r : Regs) (d : Dev) (p : Nat) : Acts [.irq, .evt, .lif] (wearOne r d p) d :=
  (Acts.when (((acts_record r _ _ _).trans ((acts_raise _ _ _).trans (acts_lif _ _))).mono (by decide))).also ((acts_lif d _).mono (by decide))

theorem acts_wearSeg (r : Regs) (l : List (Area × Nat)) (d : Dev) : Acts [.irq, .evt, .lif] (wearSeg r l d) d :=
  acts_foldl (wearOne r) (wearPages l) d (acts_wearOne r)

/-- What is written to the inactive slot. -/
def slotFor (d : Dev) : Slot := if d.cfg.tuningLoad then { full := d.fullBytes, tuning := d.cfg.image } else { full := d.cfg.image }

/-- The inactive slot holds the load, which waits for its cut-in. -/
def slotFilled (slot : Slot) (t : Nat) (d : Dev) : Dev :=
  { d with cfg := { d.cfg with
    slot0 := if t = 0 then slot else d.cfg.slot0, slot1 := if t = 0 then d.cfg.slot1 else slot
    loadSlot := t, deferred := false, phase := .pending } }

/-- The segments of a slot written. -/
def slotWorn (r : Regs) (t : Nat) (d : Dev) : Dev := wearSeg r ((List.range 16).map fun i => (Area.slot, 16 * t + i)) d

theorem acts_slotWorn (r : Regs) (t : Nat) (d : Dev) : Acts [.irq, .evt, .lif] (slotWorn r t d) d := acts_wearSeg r _ d

theorem cfgSlotWritten_written (r : Regs) (d : Dev) (hp : d.cfg.phase = .writing) (hs : segOk r d = true) (hr : d.mde.dstate ≠ .ready) :
    cfgSlotWritten r d = (r, raise 6 0 (slotFilled (slotFor d) (1 - d.cfg.slot) (slotWorn r (1 - d.cfg.slot) d))) := by
  have hready : ((raise 6 0 (slotFilled (slotFor d) (1 - d.cfg.slot) (slotWorn r (1 - d.cfg.slot) d))).mde.dstate == .ready) = false := by
    have hmde : (slotWorn r (1 - d.cfg.slot) d).mde = d.mde := (acts_slotWorn r _ d).agree .mde (by decide)
    rw [show (raise 6 0 (slotFilled (slotFor d) (1 - d.cfg.slot) (slotWorn r (1 - d.cfg.slot) d))).mde = d.mde from hmde]
    simpa using hr
  rw [cfgSlotWritten, if_neg (by simp [hp]), if_neg (by simp [hs])]
  exact if_neg (by rw [Bool.not_eq_true]; exact hready)

/-- A slot that waits for energy. -/
def slotDeferred (d : Dev) : Dev := { d with cfg := { d.cfg with deferred := true } }

theorem cfgSlotWritten_deferred (r : Regs) (d : Dev) (hp : d.cfg.phase = .writing) (hs : segOk r d = false) :
    cfgSlotWritten r d = (r, slotDeferred (raiseIf (!(d.cfg.deferred)) 6 5 (deferSeg d.cfg.deferred d))) := by
  rw [cfgSlotWritten, if_neg (by simp [hp]), if_pos (by simp [hs])]
  rfl

theorem within_told (already : Bool) (d : Dev) : Within [.irq, .hld] (raiseIf (!already) 6 5 (deferSeg already d)) d :=
  (within_raiseIf _ _ _ _).trans (within_deferSeg already d)

theorem within_slotDeferred (d : Dev) : Within [.cfg] (slotDeferred d) d := within_cfg d _

/-- The slot in use keeps its images when the other is written. -/
theorem slotFilled_keeps (slot : Slot) (i : Nat) (d : Dev) (h : i ≤ 1) :
    (slotFilled slot (1 - i) d).cfg.slotAt i = d.cfg.slotAt i ∧ (slotFilled slot (1 - i) d).cfg.slotAt (1 - i) = slot := by
  obtain rfl | rfl : i = 0 ∨ i = 1 := by omega
  · exact ⟨rfl, rfl⟩
  · exact ⟨rfl, rfl⟩

/-- Settles O34. -/
theorem configurationChecksAndSlots : Obligations.ConfigurationChecksAndSlots := by
  unfold Obligations.ConfigurationChecksAndSlots
  refine ⟨fun s hp hraw => ?_, fun s hp hr hs hslot hraw => ?_, fun s hp hs => ?_⟩
  · intro b bad
    refine ⟨_, onMem_next s fun r m d => ([], cfgChecksDone r m d), ?_⟩
    simp only [settle_cfg, settle_raw]
    have hbad : imageRefusal s.regs s.dev.quiet (stagedImage s.mem s.dev.cfg.len) = bad := by
      rw [imageRefusal, chkImage_quiet, wouldBe_quiet]
      rfl
    have hcut : chkCutIn s.dev.quiet (stagedImage s.mem s.dev.cfg.len) (s.dev.quiet.wouldBe (stagedImage s.mem s.dev.cfg.len)) =
        chkCutIn s.dev b (s.dev.wouldBe b) := by
      rw [chkCutIn_quiet, wouldBe_quiet]
    obtain ⟨x, hx, hsome, hnone⟩ | ⟨hi, hc, any, safety, he⟩ := cfgChecksDone_shows s.regs s.mem s.dev.quiet hp
    · refine ⟨hx.acts.onlyParts (by decide), hx.active, hx.slot0, hx.slot1, hx.slot, fun y hy => ?_, fun hb hcn => ?_, fun hb y hy => ?_⟩
      · obtain rfl := hsome y (hbad.trans hy)
        exact ⟨hx.phase, hx.code, hx.sec, hx.idx, hx.bit hraw⟩
      · have hrefused : chkCutIn s.dev b (s.dev.wouldBe b) = some x := hcut.symm.trans (hnone (hbad.trans hb))
        rw [hrefused] at hcn
        exact absurd hcn (by simp)
      · obtain rfl := Option.some.inj ((hnone (hbad.trans hb)).symm.trans (hcut.trans hy))
        exact ⟨hx.phase, hx.code⟩
    · obtain ⟨hactive, h0, h1, hslot, hphase, himage⟩ := loadWriting_shows (stagedImage s.mem s.dev.quiet.cfg.len)
        (s.dev.quiet.wouldBe (stagedImage s.mem s.dev.quiet.cfg.len)) safety any s.dev.quiet
      rw [← he] at hactive h0 h1 hslot hphase himage
      have hacts : Acts [.cfg] (cfgChecksDone s.regs s.mem s.dev.quiet) s.dev.quiet := by
        rw [he]
        exact (acts_loadWriting _ _ _ _).also (acts_diffNoted any _)
      refine ⟨hacts.onlyParts (by decide), hactive, h0, h1, hslot, fun y hy => ?_, fun _ _ => ⟨hphase, himage⟩, fun _ y hy => ?_⟩
      · exact absurd (hi.symm.trans (hbad.trans hy)) (by simp)
      · exact absurd (hc.symm.trans (hcut.trans hy)) (by simp)
  · refine ⟨_, onRegs_next s cfgSlotWritten, ?_⟩
    rw [cfgSlotWritten_written s.regs s.dev.quiet hp hs hr]
    have hworn := acts_slotWorn s.regs (1 - s.dev.quiet.cfg.slot) s.dev.quiet
    have hcfg : (slotWorn s.regs (1 - s.dev.quiet.cfg.slot) s.dev.quiet).cfg = s.dev.cfg := hworn.agree .cfg (by decide)
    have hlen : 6 < (slotWorn s.regs (1 - s.dev.quiet.cfg.slot) s.dev.quiet).irq.raw.length :=
      (acts_slotWorn s.regs (1 - s.dev.quiet.cfg.slot) s.dev.quiet).raised.length.symm ▸ hraw
    generalize slotWorn s.regs (1 - s.dev.quiet.cfg.slot) s.dev.quiet = a at hcfg hlen ⊢
    obtain ⟨hkept, hput⟩ := slotFilled_keeps (slotFor s.dev.quiet) s.dev.cfg.slot a hslot
    have hbit := raise_testBit_self 6 0 (slotFilled (slotFor s.dev.quiet) (1 - s.dev.quiet.cfg.slot) a) hlen
    simp only [settle_cfg, settle_raw, raise_cfg]
    refine ⟨trivial, trivial, rfl, (congrArg CfgSt.active hcfg : a.cfg.active = _), (congrArg CfgSt.slot hcfg : a.cfg.slot = _), rfl, ?_, fun ht => ?_, fun ht => ?_, hbit⟩
    · exact hkept.trans (congrArg (CfgSt.slotAt · s.dev.cfg.slot) hcfg)
    · exact hput.trans (if_neg (by simp [ht]))
    · exact hput.trans (if_pos ht)
  · refine ⟨_, onRegs_next s cfgSlotWritten, ?_⟩
    rw [cfgSlotWritten_deferred s.regs s.dev.quiet hp hs]
    have hw := within_told s.dev.quiet.cfg.deferred s.dev.quiet
    have hcfg : (raiseIf (!(s.dev.quiet.cfg.deferred)) 6 5 (deferSeg s.dev.quiet.cfg.deferred s.dev.quiet)).cfg = s.dev.cfg := hw.agree .cfg (by decide)
    generalize raiseIf (!(s.dev.quiet.cfg.deferred)) 6 5 (deferSeg s.dev.quiet.cfg.deferred s.dev.quiet) = a at hw hcfg ⊢
    refine ⟨((within_slotDeferred a).trans hw).onlyParts (by decide), ?_⟩
    rw [settle_cfg]
    exact congrArg (fun c : CfgSt => { c with deferred := true }) hcfg

end Sys2Proof
end

section
/-! PROOFS. What the island's operations act on: page SAF, its interrupts and its events [16]. -/

namespace Sys2Proof

open Sys2Proof.Machine

/-- The parts that the island's operations may change. -/
def safParts : List Part := [.irq, .evt, .saf]

theorem acts_modSaf (f : SafSt → SafSt) (d : Dev) : Acts [.saf] (modSaf f d) d := (within_saf d _).acts (by decide)

/-- A change of page SAF as an act on the island's parts. -/
theorem acts_island (f : SafSt → SafSt) (d : Dev) : Acts safParts (modSaf f d) d := (acts_modSaf f d).mono (by decide)

theorem acts_modSafIn (i : Nat) (f : SafIn → SafIn) (d : Dev) : Acts safParts (modSafIn i f d) d := acts_island _ d

theorem acts_modSafOut (o : Nat) (f : SafOut → SafOut) (d : Dev) : Acts safParts (modSafOut o f d) d := acts_island _ d

theorem acts_safRecord (r : Regs) (e : Ev) (x : Par) (d : Dev) : Acts safParts (record r e x d) d := (acts_record r e x d).mono (by decide)

theorem acts_safRaise (b : Nat) (d : Dev) : Acts safParts (raise 0x28 b d) d := (acts_raise 0x28 b d).mono (by decide)

theorem acts_safRaiseIf (c : Bool) (b : Nat) (d : Dev) : Acts safParts (raiseIf c 0x28 b d) d := (acts_raiseIf c 0x28 b d).mono (by decide)

theorem acts_safEmit (o : Output) (d : Dev) : Acts safParts (emit o d) d := (acts_emit o d).mono (by simp)

theorem acts_safDrive (r : Regs) (o : Nat) (d : Dev) : Acts safParts (safDrive r o d) d :=
  (Acts.when (acts_safRecord r _ _ _)).also ((acts_safRaiseIf _ 1 _).also ((Acts.when (acts_safEmit _ _)).also
    ((Acts.when (acts_safEmit _ _)).also (acts_modSafOut o _ d))))

theorem acts_safEval (r : Regs) (d : Dev) : Acts safParts (safEval r d) d := acts_foldN 4 _ d (acts_safDrive r)

theorem acts_safTimers (i : Nat) (d : Dev) : Acts safParts (safTimers i d) d := acts_modSafIn i _ d

theorem acts_safTest (r : Regs) (i : Nat) (d : Dev) : Acts safParts (safTest r i d) d :=
  .unless (.ite (acts_modSafIn i _ d) (.when ((acts_safRecord r _ _ _).also ((acts_safRaise 3 _).also (acts_modSafIn i _ d)))))

theorem acts_safTo (r : Regs) (m : SafMode) (d : Dev) : Acts safParts (safTo r m d) d :=
  (acts_safEval r _).also ((acts_safRaiseIf _ 7 _).also ((acts_safRecord r _ _ _).also (acts_island _ d)))

theorem acts_safStartup (i : Nat) (d : Dev) : Acts safParts (safStartup i d) d := acts_modSafIn i _ d

theorem acts_safCheck (r : Regs) (d : Dev) : Acts safParts (safCheck r d) d :=
  (acts_safTo r _ _).also ((acts_foldN 8 _ _ acts_safTimers).also ((acts_foldN 8 _ _ acts_safStartup).also (acts_island _ d)))

theorem acts_safPut (i v : Nat) (d : Dev) : Acts safParts (safPut i v d) d := acts_island _ d

theorem acts_safWriteMap (r : Regs) (d : Dev) : Acts safParts (safWriteMap r d) d :=
  .when (acts_foldl _ _ d fun a _ => .when ((Acts.when (acts_safCheck r _)).also (acts_safPut _ _ a)))

theorem acts_safCompare (r : Regs) (d : Dev) : Acts safParts (safCompare r d) d := by
  unfold safCompare
  dsimp only
  split
  · exact .when ((acts_safRecord r _ _ _).also (acts_island _ d))
  · exact .refl _ d

end Sys2Proof
end

section
/-! PROOFS. Device state LOAD, and the words of the keys [02 R61, 03 R64]. -/

namespace Sys2Proof

open Sys2Proof.Machine

/-! ### What the installation of a description leaves alone -/

/-- Page CFG is kept, and with it the device state and the level of DORMANT. -/
structure InstallKept (b a : Dev) : Prop where
  cfg : b.cfg = a.cfg
  dstate : b.mde.dstate = a.mde.dstate
  dorm : b.mde.dorm = a.mde.dorm

theorem InstallKept.refl (d : Dev) : InstallKept d d := ⟨rfl, rfl, rfl⟩

theorem InstallKept.trans {c b a : Dev} (h : InstallKept c b) (g : InstallKept b a) : InstallKept c a :=
  ⟨h.cfg.trans g.cfg, h.dstate.trans g.dstate, h.dorm.trans g.dorm⟩

theorem InstallKept.ite {c : Prop} [Decidable c] {a b d : Dev} (ha : InstallKept a d) (hb : InstallKept b d) : InstallKept (if c then a else b) d := by
  split
  · exact ha
  · exact hb

theorem InstallKept.when {c : Prop} [Decidable c] {b a : Dev} (h : InstallKept b a) : InstallKept (if c then b else a) a := .ite h (.refl a)

/-- What acts outside pages CFG and MDE is kept clear of them. -/
theorem Acts.installKept {l : List Part} {b a : Dev} (h : Acts l b a) (hc : Part.cfg ∉ l) (hm : Part.mde ∉ l) : InstallKept b a :=
  ⟨h.agree .cfg hc, congrArg MdeSt.dstate (h.agree .mde hm), congrArg MdeSt.dorm (h.agree .mde hm)⟩

theorem acts_fus (d : Dev) (x : FusSt) : Acts [.fus] { d with fus := x } d := (within_fus d x).acts (by decide)

theorem acts_ndl (d : Dev) (x : NdlSt) : Acts [.ndl] { d with ndl := x } d := (within_ndl d x).acts (by decide)

theorem acts_modLop (i : Nat) (f : LoopCh → LoopCh) (d : Dev) : Acts [.lop] (modLop i f d) d := acts_lop d _

theorem kept_supersede (p : Nat) (r : Regs) (d : Dev) : InstallKept (supersede p r d).2 d := by
  have h : (supersede p r d).2 = if p = 5 then modMde (fun m => { m with reqBuf := false, reqShadow := false }) d else d := rfl
  rw [h]
  exact .when ⟨rfl, rfl, rfl⟩

theorem acts_putSafety (r : Regs) (d : Dev) (x : RegRec) : Acts safParts (putSafety r d x) d := by
  unfold putSafety
  dsimp only
  refine .when ?_
  split
  · exact (Acts.when (acts_safCheck r _)).also (acts_safPut _ _ d)
  · exact acts_safPut _ _ d
  · exact .refl _ d

theorem acts_putCoef (x : Regs × Dev) (c : RegRec) : Acts [.lop] (putCoef x c).2 x.2 := by
  unfold putCoef
  dsimp only
  split
  · exact .refl _ x.2
  · exact acts_modLop c.index _ x.2

theorem kept_putSection (a : Descr) (x : Regs × Dev) (t : Nat) : InstallKept (putSection a x t).2 x.2 := by
  unfold putSection
  extract_lets l
  split
  · exact (acts_foldl (l := safParts) _ l x.2 (acts_putSafety x.1)).installKept (by decide) (by decide)
  · split
    · exact foldl_keeps (fun y : Regs × Dev => InstallKept y.2 x.2) putCoef l x
        (fun y c hy => ((acts_putCoef y c).installKept (by decide) (by decide)).trans hy) (.refl x.2)
    · exact .refl x.2

theorem acts_blockOn (p : Nat) (r : Regs) (d : Dev) : Acts roleParts (blockOn p r d) d :=
  .ite (acts_enableOutputs r d).ofOutputs (.ite ((acts_can d _).mono (by decide)) (.when ((acts_ndl d _).mono (by decide))))

theorem acts_enableWritten (x : Regs × Dev) (p : Nat) : Acts roleParts (enableWritten x p).2 x.2 := by
  unfold enableWritten
  split
  · exact .refl _ x.2
  · exact acts_blockOn p _ x.2

/-- What is kept from one pair of registers and device to the next. -/
theorem InstallKept.snd {x : Regs × Dev} {r : Regs} {b d : Dev} (he : x = (r, b)) (h : InstallKept x.2 d) : InstallKept b d := by
  rw [he] at h
  exact h

theorem kept_putSections (a : Descr) (ts : List Nat) (r : Regs) (d : Dev) : InstallKept (putSections a ts r d).2 d := by
  unfold putSections
  extract_lets ps
  split
  next r1 d1 heq1 =>
    have h1 : InstallKept d1 d := .snd heq1 (foldl_keeps (fun x : Regs × Dev => InstallKept x.2 d) _ ps (r, d)
      (fun x p hx => (kept_supersede p x.1 x.2).trans hx) (.refl d))
    split
    next r2 d2 heq2 =>
      have h2 : InstallKept d2 d := .snd heq2 (foldl_keeps (fun x : Regs × Dev => InstallKept x.2 d) _ ts (r1, d1)
        (fun x t hx => (kept_putSection a x t).trans hx) h1)
      extract_lets r3
      split
      next r4 d4 heq4 =>
        have h4 : InstallKept d4 d := by
          refine .snd heq4 ?_
          split
          · exact h2
          · exact foldl_keeps (fun x : Regs × Dev => InstallKept x.2 d) _ ps (r3, d2)
              (fun x p hx => ((acts_enableWritten x p).installKept (by decide) (by decide)).trans hx) h2
        exact InstallKept.trans (.when ((acts_dioDrive r4 d4).installKept (by decide) (by decide))) h4

/-! ### Blocks that start again -/

theorem acts_restartLoops (old new : Descr) (r0 r1 : Regs) (d : Dev) : Acts [.lop] (restartLoops old new r0 r1 d) d :=
  acts_foldN 32 _ d fun c a => .when (acts_modLop c _ a)

theorem acts_restartSources (old new : Descr) (d : Dev) : Acts [.fus, .src] (restartSources old new d) d :=
  acts_foldN 32 _ d fun i a => .unless ((acts_fus _ _).trans (acts_modSource i _ a))

theorem acts_restartTargets (old new : Descr) (d : Dev) : Acts [.fus] (restartTargets old new d) d :=
  acts_foldN 8 _ d fun _ a => .unless ((acts_fus _ _).also (acts_fus a _))

/-! ### The installation -/

/-- The description taken as the active one. -/
def descrTaken (new : Descr) (d : Dev) : Dev := { d with cfg := { d.cfg with active := some new } }

/-- The blocks that a new description starts again, and its cycle period. -/
def blocksRestarted (old new : Descr) (coef : Bool) (r0 r1 : Regs) (d : Dev) : Dev :=
  modCyc (fun c => { c with periodNs := rateNs new.sys.rate })
    (restartTargets old new (restartSources old new (restartLoops old new r0 r1
      (if coef then foldN 32 (fun c d => modLop c (fun ch => { ch with swapDue := !(ch.st == .off) }) d) d else d))))

theorem install_eq (new : Descr) (ts : List Nat) (r : Regs) (d : Dev) :
    (install new ts r d).2 = pairChanged d.descr new (putSections new ts r (descrTaken new d)).1
      (blocksRestarted d.descr new ((diffSecs d.cfg.active new).contains 0xC) r (putSections new ts r (descrTaken new d)).1
        (putSections new ts r (descrTaken new d)).2) := rfl

theorem kept_blocksRestarted (old new : Descr) (coef : Bool) (r0 r1 : Regs) (d : Dev) : InstallKept (blocksRestarted old new coef r0 r1 d) d := by
  have hcyc (a : Dev) : InstallKept (modCyc (fun c => { c with periodNs := rateNs new.sys.rate }) a) a := ⟨rfl, rfl, rfl⟩
  exact (hcyc _).trans (((acts_restartTargets old new _).trans ((acts_restartSources old new _).trans ((acts_restartLoops old new r0 r1 _).trans
    (Acts.when (acts_foldN (l := [.lop]) 32 _ d fun c a => acts_modLop c _ a))))).installKept (by decide) (by decide))

theorem pairChanged_idle (old new : Descr) (r : Regs) (d : Dev) (h : d.running = false) : pairChanged old new r d = d := if_neg (by simp [h])

/-- Outside RUN, an installation takes the description and keeps the rest of page CFG, the device state and the level of DORMANT. -/
theorem install_kept (new : Descr) (ts : List Nat) (r : Regs) (d : Dev) (h : d.mde.dstate ≠ .run) :
    InstallKept (install new ts r d).2 (descrTaken new d) := by
  rw [install_eq]
  have hkept := (kept_blocksRestarted d.descr new ((diffSecs d.cfg.active new).contains 0xC) r (putSections new ts r (descrTaken new d)).1
    (putSections new ts r (descrTaken new d)).2).trans (kept_putSections new ts r (descrTaken new d))
  generalize blocksRestarted d.descr new ((diffSecs d.cfg.active new).contains 0xC) r (putSections new ts r (descrTaken new d)).1
    (putSections new ts r (descrTaken new d)).2 = a at hkept ⊢
  have hidle : a.running = false := by
    rw [Dev.running, hkept.dstate]
    simpa [descrTaken] using h
  rw [pairChanged_idle _ _ _ a hidle]
  exact hkept

/-! ### LOAD -/

/-- The slot that LOAD uses noted, where it is not the active one. -/
def slotTaken (i : Nat) (r : Regs) (d : Dev) : Dev :=
  if i = d.cfg.slot then d else record r .cfgSlotFallback { p0 := i } (raise 6 3 { d with cfg := { d.cfg with slot := i } })

theorem slotTaken_shows (i : Nat) (r : Regs) (d : Dev) : (slotTaken i r d).cfg.slot = i ∧ (slotTaken i r d).mde = d.mde := by
  unfold slotTaken
  split
  next h => exact ⟨h.symm, rfl⟩
  next => simp

/-- The sections that LOAD writes: all register images but the safety map. -/
def loadSections : List Nat := (List.range 16).filter fun t => decide (8 ≤ t) && t != 0xD

/-- A unit that has taken a description and compared the island's map with it. -/
def descrLoaded (i : Nat) (a : Descr) (r : Regs) (d : Dev) : Regs × Dev :=
  let x := install a loadSections r (slotTaken i r d)
  (x.1, safCompare x.1 (safWriteMap x.1 x.2))

theorem load_picked (i : Nat) (a : Descr) (r : Regs) (d : Dev) (h : d.mde.dstate = .load) (hp : pickSlot r d = some (i, a)) :
    load r d = ((descrLoaded i a r d).1, leaveLoad (descrLoaded i a r d).1 (descrLoaded i a r d).2) := by
  rw [load, if_neg (by simp [h])]
  simp only [hp]
  rfl

theorem load_none (r : Regs) (d : Dev) (h : d.mde.dstate = .load) (hp : (pickSlot r d).isNone = true) : load r d = (r, leaveLoad r d) := by
  rw [load, if_neg (by simp [h])]
  simp only [Option.isNone_iff_eq_none.mp hp]

theorem descrLoaded_shows (i : Nat) (a : Descr) (r : Regs) (d : Dev) (h : d.mde.dstate = .load) :
    (descrLoaded i a r d).2.cfg.active = some a ∧ (descrLoaded i a r d).2.cfg.slot = i ∧ (descrLoaded i a r d).2.mde.dorm = d.mde.dorm := by
  obtain ⟨hslot, hmde⟩ := slotTaken_shows i r d
  have hrun : (slotTaken i r d).mde.dstate ≠ .run := by rw [hmde, h]; decide
  have hkept := install_kept a loadSections r (slotTaken i r d) hrun
  unfold descrLoaded
  generalize install a loadSections r (slotTaken i r d) = x at hkept ⊢
  have hsaf : InstallKept (safCompare x.1 (safWriteMap x.1 x.2)) x.2 :=
    ((acts_safCompare x.1 _).also (acts_safWriteMap x.1 x.2)).installKept (by decide) (by decide)
  have hall := hsaf.trans hkept
  exact ⟨by rw [hall.cfg]; rfl, by rw [hall.cfg]; exact hslot, by rw [hall.dorm]; exact congrArg MdeSt.dorm hmde⟩

theorem leaveLoad_run (r : Regs) (d : Dev) (a : Descr) (ha : d.cfg.active = some a) (hd : d.mde.dorm ≠ .waking) : leaveLoad r d = enterRun r d := by
  rw [leaveLoad, if_neg (by simp [ha]), if_neg (by simpa using hd)]

/-- A unit without a description, ready in HARBOUR. -/
def readyInHarbour (d : Dev) : Dev := setDState .ready (modMde (fun m => { m with mode := .harbour, dorm := .none }) d)

theorem leaveLoad_ready (r : Regs) (d : Dev) (h : d.cfg.active = none) : leaveLoad r d = readyInHarbour d := if_pos (by simp [h])

theorem acts_readyInHarbour (d : Dev) : Acts [.irq, .mde] (readyInHarbour d) d := (acts_setDState .ready _).also ((acts_mde d _).mono (by decide))

theorem slotDescr_quiet (r : Regs) (d : Dev) (i : Nat) : slotDescr r d.quiet i = slotDescr r d i := by
  unfold slotDescr
  simp only [chkImage_quiet]
  rfl

theorem pickSlot_quiet (r : Regs) (d : Dev) : pickSlot r d.quiet = pickSlot r d := by
  unfold pickSlot
  simp only [slotDescr_quiet]
  rfl

/-! ### The key words -/

/-- A key word staged; the last one of a key stores it. -/
def keyStaged (k w v : Nat) (d : Dev) : Dev :=
  let st := modAt d.cfg.keyStage (16 * k + w) fun _ => v % 2 ^ 32
  { d with cfg := { d.cfg with
    keyStage := st, keys := if w = 15 then modAt d.cfg.keys k (fun _ => some ((st.drop (16 * k)).take 16)) else d.cfg.keys } }

theorem acts_keyStaged (k w v : Nat) (d : Dev) : Acts [.cfg] (keyStaged k w v d) d := acts_cfg d _

theorem keyStaged_shows (k w v : Nat) (d : Dev) (h : 16 * k + w < d.cfg.keyStage.length) : let a := keyStaged k w v d
    at' a.cfg.keyStage (16 * k + w) = v % 2 ^ 32 ∧ (w ≠ 15 → a.cfg.keys = d.cfg.keys) ∧
      (w = 15 → k < d.cfg.keys.length → at' a.cfg.keys k = some ((a.cfg.keyStage.drop (16 * k)).take 16)) := by
  refine ⟨at'_modAt_self _ _ _ h, fun hw => if_neg hw, fun hw hk => ?_⟩
  have hkeys : (keyStaged k w v d).cfg.keys =
      modAt d.cfg.keys k (fun _ => some (((keyStaged k w v d).cfg.keyStage.drop (16 * k)).take 16)) := if_pos hw
  rw [hkeys]
  exact at'_modAt_self _ k _ hk

theorem cfgKeyDataWrite_stored (v : Nat) (r : Regs) (d : Dev) (hl : r.lockOpen 6 d.now = true) (hr : d.mde.dstate = .ready) :
    cfgKeyDataWrite v r d = (r, keyStaged (r.get F.CFG_KEY_SEL_KEY) (r.get F.CFG_KEY_SEL_WORD) v d) := by
  rw [cfgKeyDataWrite, if_neg (by simp [hl]), if_neg (by simp [hr])]
  rfl

theorem cfgKeyDataWrite_locked (v : Nat) (r : Regs) (d : Dev) (hl : r.lockOpen 6 d.now = false) : cfgKeyDataWrite v r d = (r.reject 6 0x6C 2, d) :=
  if_pos (by simp [hl])

/-- Settles O35. -/
theorem loadStateAndKeys : Obligations.LoadStateAndKeys := by
  unfold Obligations.LoadStateAndKeys
  refine ⟨fun s hl hp ha => ?_, fun s i a hl hp hd => ?_, fun s v => ?_, fun s v hl => ?_⟩
  · refine ⟨_, onRegs_next s load, ?_⟩
    rw [load_none s.regs s.dev.quiet hl (by rw [pickSlot_quiet]; exact hp), leaveLoad_ready s.regs s.dev.quiet ha, settle_mde]
    have hmde : (readyInHarbour s.dev.quiet).mde = { s.dev.mde with mode := .harbour, dorm := .none, dstate := .ready } := setDState_mde _ _
    exact ⟨(acts_readyInHarbour s.dev.quiet).onlyParts (by decide), by rw [hmde], by rw [hmde]⟩
  · refine ⟨_, onRegs_next s load, rfl, rfl, ?_⟩
    rw [load_picked i a s.regs s.dev.quiet hl (by rw [pickSlot_quiet]; exact hp), settle_mde, settle_cfg]
    obtain ⟨hactive, hslot, hdorm⟩ := descrLoaded_shows i a s.regs s.dev.quiet hl
    generalize descrLoaded i a s.regs s.dev.quiet = x at hactive hslot hdorm ⊢
    rw [leaveLoad_run x.1 x.2 a hactive (by rw [hdorm]; exact hd), enterRun_cfg]
    obtain ⟨hst, hmode, -, -⟩ := enterRun_mde x.1 x.2
    exact ⟨hst, hmode, hactive, hslot⟩
  · intro k w hr hl hlen
    refine ⟨_, onRegs_next s (cfgKeyDataWrite v), ?_⟩
    rw [cfgKeyDataWrite_stored v s.regs s.dev.quiet hl hr, settle_cfg]
    exact ⟨(acts_keyStaged k w v s.dev.quiet).onlyParts (by decide), keyStaged_shows k w v s.dev.quiet hlen⟩
  · refine ⟨_, onRegs_next s (cfgKeyDataWrite v), ?_⟩
    rw [cfgKeyDataWrite_locked v s.regs s.dev.quiet hl]
    exact ⟨onlyParts_quiet _ { s with regs := s.regs.reject 6 0x6C 2 } _, rfl⟩

end Sys2Proof
end

section
/-! PROOFS. The island's inputs and outputs [16 R466 R468 to R478 R483]. -/

namespace Sys2Proof

open Sys2Proof.Machine

/-! ### Fields that a change of an entry keeps -/

/-- A field that a change of entries keeps is the same in every entry. -/
theorem at'_modAt_field {α β : Type} [Inhabited α] (g : α → β) (l : List α) (i k : Nat) (f : α → α) (h : ∀ x, g (f x) = g x) :
    g (at' (modAt l i f) k) = g (at' l k) := by
  by_cases hk : i = k
  · subst hk
    by_cases hl : i < l.length
    · rw [at'_modAt_self l i f hl, h]
    · rw [at'_of_length_le l i (by omega), at'_of_length_le _ i (by rw [modAt_length]; omega)]
  · rw [at'_modAt_other l i k f hk]

/-- A property of every changed entry and of the default entry holds of a changed list's entry. -/
theorem at'_modAt_holds {α : Type} [Inhabited α] (p : α → Prop) (l : List α) (i : Nat) (f : α → α) (h : ∀ x, p (f x)) (hd : p default) :
    p (at' (modAt l i f) i) := by
  by_cases hl : i < l.length
  · rw [at'_modAt_self l i f hl]
    exact h _
  · rw [at'_of_length_le _ i (by rw [modAt_length]; omega)]
    exact hd

/-! ### The outputs by R479 -/

/-- What R479 makes of an output: its latch is kept, and a channel that does not allow it switches it off. -/
structure OutDriven (s : SafSt) (o : Nat) (f : SafOut → SafOut) : Prop where
  fault : ∀ x, (f x).fault = x.fault
  offA : s.allows false o = false → ∀ x, (f x).onA = false
  offB : s.allows true o = false → ∀ x, (f x).onB = false

/-- An output set by R479 in an island `s` at tick `now`. -/
def outSet (s : SafSt) (o now : Nat) (x : SafOut) : SafOut :=
  let armed := (s.output o).armed && (s.allows false o && s.allows true o)
  let a := s.allows false o && (!(s.restart false o) || armed)
  let b := s.allows true o && (!(s.restart true o) || armed)
  { x with
    armed := armed, onA := a, onB := b, fbA := if a = x.onA then x.fbA else a, fbB := if b = x.onB then x.fbB else b
    pulseA := if a && !x.onA then now else x.pulseA, pulseB := if b && !x.onB then now else x.pulseB }

theorem outDriven_outSet (s : SafSt) (o now : Nat) : OutDriven s o (outSet s o now) :=
  ⟨fun _ => rfl, fun h _ => by simp [outSet, h], fun h _ => by simp [outSet, h]⟩

/-- What follows the setting of an output: its pins, its interrupt and its event. -/
def outTold (r : Regs) (o : Nat) (x y : SafOut) (d : Dev) : Dev :=
  let d := if y.onA != x.onA then emit (.pin (pinSout o) y.onA) d else d
  let d := if y.onB != x.onB then emit (.pin (pinSout (4 + o)) y.onB) d else d
  let d := raiseIf ((x.onA && x.onB) && !(y.onA && y.onB)) 0x28 1 d
  if (x.onA && x.onB) != (y.onA && y.onB) then record r .safOutput { p0 := o, p1 := b2n (y.onA && y.onB) } d else d

theorem outTold_saf (r : Regs) (o : Nat) (x y : SafOut) (d : Dev) : (outTold r o x y d).saf = d.saf := by
  have hemit (c : Bool) (p : Output) (a : Dev) : (if c then emit p a else a).saf = a.saf := by split <;> rfl
  have hrec (c : Bool) (e : Ev) (p : Par) (a : Dev) : (if c then record r e p a else a).saf = a.saf := by
    split
    · exact record_saf r e p a
    · rfl
  unfold outTold
  simp only [hrec, raiseIf_saf, hemit]

theorem safDrive_eq (r : Regs) (o : Nat) (d : Dev) : safDrive r o d =
    outTold r o (d.saf.output o) (outSet d.saf o d.now (d.saf.output o)) (modSafOut o (outSet d.saf o d.now) d) := rfl

theorem safDrive_saf (r : Regs) (o : Nat) (d : Dev) :
    ∃ f, (safDrive r o d).saf = { d.saf with outs := modAt d.saf.outs o f } ∧ OutDriven d.saf o f :=
  ⟨outSet d.saf o d.now, by rw [safDrive_eq, outTold_saf]; rfl, outDriven_outSet d.saf o d.now⟩

/-- An island that differs in its outputs alone, their latches kept. -/
structure Driven (b a : Dev) : Prop where
  saf : b.saf = { a.saf with outs := b.saf.outs }
  fault : ∀ o, (b.saf.output o).fault = (a.saf.output o).fault

theorem Driven.refl (d : Dev) : Driven d d := ⟨rfl, fun _ => rfl⟩

theorem Driven.trans {c b a : Dev} (h : Driven c b) (g : Driven b a) : Driven c a := by
  refine ⟨?_, fun o => (h.fault o).trans (g.fault o)⟩
  rw [h.saf, g.saf]

theorem driven_safDrive (r : Regs) (o : Nat) (d : Dev) : Driven (safDrive r o d) d := by
  obtain ⟨f, hs, hf⟩ := safDrive_saf r o d
  refine ⟨by rw [hs], fun k => ?_⟩
  rw [SafSt.output, hs]
  exact at'_modAt_field SafOut.fault _ o k f hf.fault

theorem driven_safEval (r : Regs) (d : Dev) : Driven (safEval r d) d :=
  foldN_keeps (Driven · d) 4 _ d (fun o a ha => (driven_safDrive r o a).trans ha) (.refl d)

/-- The conditions of R479 do not depend on the other outputs. -/
theorem Driven.allows {b a : Dev} (h : Driven b a) (chB : Bool) (o : Nat) : b.saf.allows chB o = a.saf.allows chB o := by
  have hf := h.fault o
  unfold SafSt.allows
  rw [hf, h.saf]
  rfl

theorem safDrive_other (r : Regs) (o k : Nat) (d : Dev) (h : o ≠ k) : (safDrive r o d).saf.output k = d.saf.output k := by
  obtain ⟨f, hs, -⟩ := safDrive_saf r o d
  rw [SafSt.output, hs]
  exact at'_modAt_other _ o k f h

theorem safDrive_offA (r : Regs) (o : Nat) (d : Dev) (h : d.saf.allows false o = false) : ((safDrive r o d).saf.output o).onA = false := by
  obtain ⟨f, hs, hf⟩ := safDrive_saf r o d
  rw [SafSt.output, hs]
  exact at'_modAt_holds (fun x => x.onA = false) _ o f (hf.offA h) (by decide)

theorem safDrive_offB (r : Regs) (o : Nat) (d : Dev) (h : d.saf.allows true o = false) : ((safDrive r o d).saf.output o).onB = false := by
  obtain ⟨f, hs, hf⟩ := safDrive_saf r o d
  rw [SafSt.output, hs]
  exact at'_modAt_holds (fun x => x.onB = false) _ o f (hf.offB h) (by decide)

/-- An output whose conditions fail in channel A goes off in it. -/
theorem safEval_offA (r : Regs) (o : Nat) (d : Dev) (ho : o < 4) (h : d.saf.allows false o = false) : ((safEval r d).saf.output o).onA = false :=
  foldN_at_index (Driven · d) (fun b => (b.saf.output o).onA = false) ho (fun j b _ _ hb => (driven_safDrive r j b).trans hb)
    (fun b hb => safDrive_offA r o b ((hb.allows false o).trans h)) (fun j b _ hj hb => (congrArg SafOut.onA (safDrive_other r j o b hj)).trans hb) (.refl d)

/-- An output whose conditions fail in channel B goes off in it. -/
theorem safEval_offB (r : Regs) (o : Nat) (d : Dev) (ho : o < 4) (h : d.saf.allows true o = false) : ((safEval r d).saf.output o).onB = false :=
  foldN_at_index (Driven · d) (fun b => (b.saf.output o).onB = false) ho (fun j b _ _ hb => (driven_safDrive r j b).trans hb)
    (fun b hb => safDrive_offB r o b ((hb.allows true o).trans h)) (fun j b _ hj hb => (congrArg SafOut.onB (safDrive_other r j o b hj)).trans hb) (.refl d)

/-- A mapped input that does not count as closed takes a channel's condition away. -/
theorem allows_of_open (s : SafSt) (chB : Bool) (o n : Nat) (hn : n < 8) (hm : (s.map chB o).testBit n = true) (hc : s.closed chB n = false) :
    s.allows chB o = false := by
  have hall : ((List.range 8).all fun i => !(bit (s.map chB o) i) || (s.closed chB i && !((s.input i).pend))) = false := by
    rw [List.all_eq_false]
    exact ⟨n, List.mem_range.mpr hn, by simp [bit, hm, hc]⟩
  simp [SafSt.allows, hall]

/-! ### A line that opens [16 R466 R468] -/

/-- The configuration, the demands and line A of an input in channel A are kept. -/
structure LineKept (n : Nat) (b a : Dev) : Prop where
  cfgA : b.saf.cfgA = a.saf.cfgA
  demands : b.saf.demands = a.saf.demands
  line : (b.saf.input n).aByA = (a.saf.input n).aByA

theorem LineKept.refl (n : Nat) (d : Dev) : LineKept n d d := ⟨rfl, rfl, rfl⟩

theorem LineKept.trans {n : Nat} {c b a : Dev} (h : LineKept n c b) (g : LineKept n b a) : LineKept n c a :=
  ⟨h.cfgA.trans g.cfgA, h.demands.trans g.demands, h.line.trans g.line⟩

theorem LineKept.ite {n : Nat} {c : Prop} [Decidable c] {a b d : Dev} (ha : LineKept n a d) (hb : LineKept n b d) : LineKept n (if c then a else b) d := by
  split
  · exact ha
  · exact hb

theorem LineKept.of_saf (n : Nat) {b a : Dev} (h : b.saf = a.saf) : LineKept n b a := by
  refine ⟨?_, ?_, ?_⟩ <;> rw [h]

/-- A change of an input that keeps its lines. -/
theorem lineKept_modSafIn (n i : Nat) (f : SafIn → SafIn) (d : Dev) (h : ∀ x, (f x).aByA = x.aByA) : LineKept n (modSafIn i f d) d :=
  ⟨rfl, rfl, at'_modAt_field SafIn.aByA d.saf.ins i n f h⟩

theorem lineKept_safTimers (n i : Nat) (d : Dev) : LineKept n (safTimers i d) d := lineKept_modSafIn n i _ d fun _ => rfl

theorem lineKept_safTest (n : Nat) (r : Regs) (i : Nat) (d : Dev) : LineKept n (safTest r i d) d := by
  refine .ite (.refl n d) (.ite (lineKept_modSafIn n i _ d fun _ => rfl) (.ite ?_ (.refl n d)))
  exact (LineKept.of_saf n (record_saf _ _ _ _)).trans ((LineKept.of_saf n (raise_saf 0x28 3 _)).trans
    (lineKept_modSafIn n i _ d fun _ => rfl))

theorem Driven.lineKept {b a : Dev} (h : Driven b a) (n : Nat) : LineKept n b a := by
  refine ⟨?_, ?_, ?_⟩ <;> rw [h.saf]
  rfl

theorem LineKept.map {n : Nat} {b a : Dev} (h : LineKept n b a) (o : Nat) : b.saf.map false o = a.saf.map false o := by
  simp [SafSt.map, SafSt.word, h.cfgA]

theorem closed_of_line (s : SafSt) (n : Nat) (h : (s.input n).aByA = false) : s.closed false n = false := by
  simp [SafSt.closed, SafSt.bothClosed, SafSt.lineA, h]

/-- An input that counts closed is there, with line A closed in channel A. -/
theorem input_of_counts (s : SafSt) (n : Nat) (h : s.counts n = true) : n < s.ins.length := by
  by_contra hn
  have hd : s.input n = default := at'_of_length_le s.ins n (by omega)
  have hc : s.closed false n = false := closed_of_line s n (by rw [hd]; decide)
  simp [SafSt.counts, hc] at h

/-- Line A of an input open in channel A. -/
def lineOpened (n : Nat) (d : Dev) : Dev := modSafIn n (fun x => { x with aByA := false }) d

/-- What follows a demand: the input's timers, its start-up test and the outputs. -/
def afterDemand (r : Regs) (n : Nat) (d : Dev) : Dev := safEval r (safTest r n (safTimers n d))

theorem safInputChange_opens (n : Nat) (r : Regs) (d : Dev) :
    safInputChange (.lineA n) false false r d = afterDemand r n (safDemand r n (d.saf.counts n) (lineOpened n d)) := rfl

theorem acts_afterDemand (r : Regs) (n : Nat) (d : Dev) : Acts safParts (afterDemand r n d) d :=
  (acts_safEval r _).also ((acts_safTest r n _).also (acts_safTimers n d))

theorem lineKept_afterDemand (r : Regs) (n : Nat) (d : Dev) : LineKept n (afterDemand r n d) d :=
  ((driven_safEval r _).lineKept n).trans ((lineKept_safTest n r n _).trans (lineKept_safTimers n n d))

/-- With line A of a mapped input open in channel A, the output goes off in it. -/
theorem afterDemand_off (r : Regs) (n o : Nat) (d : Dev) (hn : n < 8) (ho : o < 4) (h : (d.saf.input n).aByA = false)
    (hm : (d.saf.map false o).testBit n = true) : ((afterDemand r n d).saf.output o).onA = false := by
  have hkept := (lineKept_safTest n r n _).trans (lineKept_safTimers n n d)
  refine safEval_offA r o _ ho (allows_of_open _ false o n hn ?_ (closed_of_line _ n (hkept.line.trans h)))
  rw [hkept.map]
  exact hm

/-- A demand counted, raised and recorded. -/
def demandNoted (r : Regs) (n : Nat) (d : Dev) : Dev :=
  record r .safDemand { p0 := n } (raise 0x28 0 (modSaf (fun s => { s with demands := wrapInc 16 s.demands }) d))

theorem safDemand_noted (r : Regs) (n : Nat) (d : Dev) (h : (d.saf.input n).aByA = false) : safDemand r n true d = demandNoted r n d :=
  if_pos (by simp [SafSt.counts, closed_of_line d.saf n h])

theorem demandNoted_saf (r : Regs) (n : Nat) (d : Dev) : (demandNoted r n d).saf = { d.saf with demands := wrapInc 16 d.saf.demands } :=
  record_saf _ _ _ _

theorem demandNoted_bit (r : Regs) (n : Nat) (d : Dev) (h : 0x28 < d.irq.raw.length) : (at' (demandNoted r n d).irq.raw 0x28).testBit 0 = true := by
  rw [demandNoted, record_raw_other _ _ _ _ 0x28 (by decide)]
  exact raise_testBit_self 0x28 0 _ h

/-! ### SRST [16 R474 R476 R477] -/

/-- SRST at a new level. -/
def srstTaken (level : Bool) (now : Nat) (s : SafSt) : SafSt :=
  if level then { s with srst := true, srstAt := some now }
  else { s with srst := false, srstAt := if s.stuck || s.srstClosed then none else s.srstAt, stuck := false, srstClosed := false }

theorem safSrst_taken (level : Bool) (d : Dev) (h : d.saf.srst ≠ level) : safSrst level d = modSaf (srstTaken level d.now) d := by
  rw [safSrst, if_neg h]
  cases level <;> rfl

/-! ### Discrepancy [16 R469 R470 R473] -/

/-- A latched discrepancy: raised and recorded, with a start-up test owed. -/
def discLatched (r : Regs) (n : Nat) (d : Dev) : Dev :=
  record r .safLatch { p0 := n, p1 := 0 } (raise 0x28 2
    (modSafIn n (fun x => { x with disc := true, pend := true, seenOpen := false, passed := false }) d))

theorem safDiscrepancy_latched (n u : Nat) (r : Regs) (d : Dev) (hn : n < 8) (hrun : (d.saf.input n).runA = some u)
    (hd : (d.saf.input n).disc = false) (ht : 95 * d.saf.discTicks n ≤ 100 * (d.now - u) + 12500000) :
    safDiscrepancy n false r d = safEval r (discLatched r n d) := by
  unfold safDiscrepancy
  simp only [Bool.false_eq_true, if_false, hrun]
  exact if_pos ⟨hn, by simp [hd], by omega⟩

theorem safDiscrepancy_early (n u : Nat) (r : Regs) (d : Dev) (hrun : (d.saf.input n).runA = some u)
    (ht : 100 * (d.now - u) + 12500000 < 95 * d.saf.discTicks n) : safDiscrepancy n false r d = d := by
  unfold safDiscrepancy
  simp only [Bool.false_eq_true, if_false, hrun]
  exact if_neg fun ⟨_, _, h⟩ => absurd h (by omega)

theorem discLatched_saf (r : Regs) (n : Nat) (d : Dev) : (discLatched r n d).saf =
    { d.saf with ins := modAt d.saf.ins n fun x => { x with disc := true, pend := true, seenOpen := false, passed := false } } :=
  record_saf _ _ _ _

theorem discLatched_input (r : Regs) (n : Nat) (d : Dev) (h : n < d.saf.ins.length) :
    (discLatched r n d).saf.input n = { d.saf.input n with disc := true, pend := true, seenOpen := false, passed := false } := by
  rw [SafSt.input, discLatched_saf]
  exact at'_modAt_self _ n _ h

theorem discLatched_bit (r : Regs) (n : Nat) (d : Dev) (h : 0x28 < d.irq.raw.length) : (at' (discLatched r n d).irq.raw 0x28).testBit 2 = true := by
  rw [discLatched, record_raw_other _ _ _ _ 0x28 (by decide)]
  exact raise_testBit_self 0x28 2 _ h

theorem acts_discLatched (r : Regs) (n : Nat) (d : Dev) : Acts safParts (discLatched r n d) d :=
  (acts_safRecord r _ _ _).also ((acts_safRaise 2 _).also (acts_modSafIn n _ d))

theorem closed_of_disc (s : SafSt) (chB : Bool) (n : Nat) (h : (s.input n).disc = true) : s.closed chB n = false := by simp [SafSt.closed, h]

end Sys2Proof
end

section
/-! PROOFS. The reset button, the test pulses and the read-backs of the island [16 R474 to R478]. -/

namespace Sys2Proof

open Sys2Proof.Machine

/-! ### An accepted press [16 R474 R475] -/

/-- An island that differs in its inputs and outputs alone. -/
structure PinsOnly (b a : Dev) : Prop where
  saf : b.saf = { a.saf with ins := b.saf.ins, outs := b.saf.outs }

theorem PinsOnly.refl (d : Dev) : PinsOnly d d := ⟨rfl⟩

theorem PinsOnly.trans {c b a : Dev} (h : PinsOnly c b) (g : PinsOnly b a) : PinsOnly c a := by
  refine ⟨?_⟩
  rw [h.saf, g.saf]

theorem acts_safClearIn (r : Regs) (i : Nat) (d : Dev) : Acts safParts (safClearIn r i d) d :=
  .when ((acts_safRecord r _ _ _).also (acts_modSafIn i _ d))

theorem acts_safClearOut (r : Regs) (o : Nat) (d : Dev) : Acts safParts (safClearOut r o d) d :=
  .when ((acts_safRecord r _ _ _).also (acts_modSafOut o _ d))

theorem acts_safArm (o : Nat) (d : Dev) : Acts safParts (safArm o d) d := .when (acts_modSafOut o _ d)

/-- The clearing of an input changes that input alone, in its latch. -/
theorem safClearIn_saf (r : Regs) (i : Nat) (d : Dev) : (safClearIn r i d).saf = if (d.saf.input i).disc && d.saf.allClosed i &&
    (d.saf.input i).passed && !((d.saf.input i).pend) then { d.saf with ins := modAt d.saf.ins i fun x => { x with disc := false, passed := false } }
    else d.saf := by
  unfold safClearIn
  split
  · exact record_saf _ _ _ _
  · rfl

theorem safClearOut_saf (r : Regs) (o : Nat) (d : Dev) : ∃ outs, (safClearOut r o d).saf = { d.saf with outs := outs } := by
  unfold safClearOut
  dsimp only
  split
  · exact ⟨_, record_saf _ _ _ _⟩
  · exact ⟨d.saf.outs, rfl⟩

theorem safArm_saf (o : Nat) (d : Dev) : ∃ outs, (safArm o d).saf = { d.saf with outs := outs } := by
  unfold safArm
  split
  · exact ⟨_, rfl⟩
  · exact ⟨d.saf.outs, rfl⟩

/-- Steps that change the outputs alone, folded. -/
theorem foldN_outs (n : Nat) (f : Nat → Dev → Dev) (d : Dev) (h : ∀ o a, ∃ outs, (f o a).saf = { a.saf with outs := outs }) :
    ∃ outs, (foldN n f d).saf = { d.saf with outs := outs } := by
  refine foldN_keeps (fun b : Dev => ∃ outs, b.saf = { d.saf with outs := outs }) n f d (fun o b hb => ?_) ⟨d.saf.outs, rfl⟩
  obtain ⟨outs, hb⟩ := hb
  obtain ⟨outs', hf⟩ := h o b
  exact ⟨outs', by rw [hf, hb]⟩

theorem pinsOnly_safClearIn (r : Regs) (i : Nat) (d : Dev) : PinsOnly (safClearIn r i d) d := by
  refine ⟨?_⟩
  rw [safClearIn_saf]
  split <;> rfl

/-- An input's latch after a press. -/
def discAfterPress (s : SafSt) (n : Nat) : Bool := !(s.allClosed n && (s.input n).passed && !((s.input n).pend))

theorem allClosed_of_pinsOnly {b a : Dev} (h : PinsOnly b a) (n : Nat) (hi : b.saf.input n = a.saf.input n) : b.saf.allClosed n = a.saf.allClosed n := by
  unfold SafSt.allClosed SafSt.bothClosed SafSt.lineA SafSt.lineB SafSt.anti SafSt.word
  rw [hi, h.saf]

/-- A latched input is cleared by its own step of the press, when R475 allows. -/
theorem clearIns_disc (r : Regs) (n : Nat) (d : Dev) (hn : n < 8) (hd : (d.saf.input n).disc = true) :
    ((foldN 8 (safClearIn r) d).saf.input n).disc = discAfterPress d.saf n := by
  have hlen : n < d.saf.ins.length := by
    by_contra hc
    rw [show d.saf.input n = default from at'_of_length_le d.saf.ins n (by omega)] at hd
    exact absurd hd (by decide)
  have hother (j : Nat) (b : Dev) (hj : j ≠ n) : (safClearIn r j b).saf.input n = b.saf.input n := by
    rw [SafSt.input, safClearIn_saf]
    split
    · exact at'_modAt_other _ j n _ hj
    · rfl
  refine foldN_at_index (fun b => PinsOnly b d ∧ b.saf.ins.length = d.saf.ins.length ∧ b.saf.input n = d.saf.input n)
    (fun b => (b.saf.input n).disc = discAfterPress d.saf n) hn (fun j b _ hj hb => ?_) (fun b hb => ?_)
    (fun j b _ hj hb => by rw [hother j b hj, hb]) ⟨.refl d, rfl, rfl⟩
  · obtain ⟨hp, hl, hi⟩ := hb
    refine ⟨(pinsOnly_safClearIn r j b).trans hp, ?_, (hother j b hj).trans hi⟩
    rw [safClearIn_saf]
    split
    · exact (modAt_length _ j _).trans hl
    · exact hl
  · obtain ⟨hp, hl, hi⟩ := hb
    rw [SafSt.input, safClearIn_saf, hi, allClosed_of_pinsOnly hp n hi, hd, Bool.true_and, discAfterPress]
    split
    next hc =>
      rw [hc]
      exact congrArg SafIn.disc (at'_modAt_self b.saf.ins n _ (hl ▸ hlen))
    next hc =>
      rw [Bool.not_eq_true] at hc
      rw [hc]
      exact (congrArg SafIn.disc hi).trans hd

/-- The press taken out of hand. -/
def pressTaken (d : Dev) : Dev := modSaf (fun s => { s with srstAt := none }) d

/-- What may clear at an accepted press cleared, and the outputs that wait for it enabled. -/
def pressClears (r : Regs) (d : Dev) : Dev := foldN 4 safArm (foldN 4 (safClearOut r) (foldN 8 (safClearIn r) d))

/-- An accepted press counted, raised and recorded. -/
def pressNoted (r : Regs) (d : Dev) : Dev :=
  record r .safReset {} (raise 0x28 4 (modSaf (fun s => { s with resets := wrapInc 8 s.resets }) d))

theorem srstRelease_accepted (a b : Nat) (r : Regs) (d : Dev) (h1 : d.saf.srstAt ≠ none) (h2 : d.saf.srst = false)
    (ha : 50000000 ≤ a ∧ a ≤ 5000000000) (hb : 50000000 ≤ b ∧ b ≤ 5000000000) (hst : d.saf.stA ≠ .halt) :
    srstRelease a b r d = safEval r (pressNoted r (pressClears r (pressTaken d))) := by
  have hok : (pressOk a && pressOk b && d.saf.stA != .halt) = true := by simp [pressOk, ha, hb, hst]
  rw [srstRelease, if_neg (by simp [h1, h2])]
  exact if_pos hok

theorem srstRelease_short (a b : Nat) (r : Regs) (d : Dev) (h1 : d.saf.srstAt ≠ none) (h2 : d.saf.srst = false)
    (ha : a < 50000000 ∨ 5000000000 < a) : srstRelease a b r d = pressTaken d := by
  have hbad : pressOk a = false := by
    rw [pressOk, decide_eq_false_iff_not]
    omega
  rw [srstRelease, if_neg (by simp [h1, h2])]
  exact if_neg (by simp [hbad])

theorem acts_pressClears (r : Regs) (d : Dev) : Acts safParts (pressClears r d) d :=
  (acts_foldN 4 _ _ acts_safArm).also ((acts_foldN 4 _ _ (acts_safClearOut r)).also (acts_foldN 8 _ d (acts_safClearIn r)))

theorem acts_pressNoted (r : Regs) (d : Dev) : Acts safParts (pressNoted r d) d :=
  (acts_safRecord r _ _ _).also ((acts_safRaise 4 _).also (acts_island _ d))

theorem pressNoted_saf (r : Regs) (d : Dev) : (pressNoted r d).saf = { d.saf with resets := wrapInc 8 d.saf.resets } := record_saf _ _ _ _

theorem pressNoted_bit (r : Regs) (d : Dev) (h : 0x28 < d.irq.raw.length) : (at' (pressNoted r d).irq.raw 0x28).testBit 4 = true := by
  rw [pressNoted, record_raw_other _ _ _ _ 0x28 (by decide)]
  exact raise_testBit_self 0x28 4 _ h

/-- The clearing of a press keeps all but inputs and outputs, and its inputs are those of its first phase. -/
theorem pressClears_shows (r : Regs) (d : Dev) : PinsOnly (pressClears r d) d ∧ (pressClears r d).saf.ins = (foldN 8 (safClearIn r) d).saf.ins := by
  have hins : PinsOnly (foldN 8 (safClearIn r) d) d :=
    foldN_keeps (PinsOnly · d) 8 _ d (fun i b hb => (pinsOnly_safClearIn r i b).trans hb) (.refl d)
  obtain ⟨o1, h1⟩ := foldN_outs 4 (safClearOut r) (foldN 8 (safClearIn r) d) (safClearOut_saf r)
  obtain ⟨o2, h2⟩ := foldN_outs 4 safArm (foldN 4 (safClearOut r) (foldN 8 (safClearIn r) d)) safArm_saf
  refine ⟨PinsOnly.trans ⟨?_⟩ hins, ?_⟩
  · rw [pressClears, h2, h1]
  · rw [pressClears, h2, h1]

/-! ### A press held too long [16 R476] -/

theorem resetStuck_held (u : Nat) (r : Regs) (d : Dev) (hat : d.saf.srstAt = some u) (h1 : d.saf.srst = true) (h2 : d.saf.stuck = false)
    (h3 : d.saf.srstClosed = false) (ht : u + 1187500000 ≤ d.now) : resetStuck r d = raise 0x28 5 (modSaf (fun s => { s with stuck := true }) d) := by
  unfold resetStuck
  simp only [hat]
  exact if_pos ⟨h1, by simp [h2], by simp [h3], by simpa [ticksMs] using ht⟩

/-! ### Test pulses and read-backs [16 R478] -/

/-- A latched output: raised and recorded. -/
def faultLatched (r : Regs) (o : Nat) (d : Dev) : Dev :=
  record r .safLatch { p0 := o, p1 := 1 } (raise 0x28 6 (modSafOut o (fun x => { x with fault := true }) d))

/-- The read-back of a latched output as it failed. -/
def readBack (x : SafOut) (chB : Bool) (y : SafOut) : SafOut :=
  if chB then { y with fbB := if x.onB then false else true } else { y with fbA := if x.onA then false else true }

theorem outFault_latched (r : Regs) (o : Nat) (chB : Bool) (d : Dev) (ho : o < 4) (hen : d.saf.outEn chB o = true)
    (hf : (d.saf.output o).fault = false) (hst : d.saf.stA = .run) :
    outFault r o chB d = modSafOut o (readBack (d.saf.output o) chB) (safDrive r o (faultLatched r o d)) :=
  if_pos ⟨ho, hen, by simp [hf], by simp [hst]⟩

theorem faultLatched_saf (r : Regs) (o : Nat) (d : Dev) :
    (faultLatched r o d).saf = { d.saf with outs := modAt d.saf.outs o fun x => { x with fault := true } } := record_saf _ _ _ _

theorem faultLatched_bit (r : Regs) (o : Nat) (d : Dev) (h : 0x28 < d.irq.raw.length) : (at' (faultLatched r o d).irq.raw 0x28).testBit 6 = true := by
  rw [faultLatched, record_raw_other _ _ _ _ 0x28 (by decide)]
  exact raise_testBit_self 0x28 6 _ h

/-- A latched output is not allowed in either channel. -/
theorem allows_of_fault (s : SafSt) (chB : Bool) (o : Nat) (h : (s.output o).fault = true) : s.allows chB o = false := by simp [SafSt.allows, h]

theorem readBack_keeps (x : SafOut) (chB : Bool) (y : SafOut) :
    (readBack x chB y).fault = y.fault ∧ (readBack x chB y).onA = y.onA ∧ (readBack x chB y).onB = y.onB := by
  unfold readBack
  split <;> exact ⟨rfl, rfl, rfl⟩

theorem acts_outFault (r : Regs) (o : Nat) (chB : Bool) (d : Dev) : Acts safParts (outFault r o chB d) d :=
  .when ((acts_modSafOut o _ _).also ((acts_safDrive r o _).also ((acts_safRecord r _ _ _).also ((acts_safRaise 6 _).also (acts_modSafOut o _ d)))))

/-- A failed read-back latches the output and takes both pins off. -/
theorem outFault_shows (r : Regs) (o : Nat) (chB : Bool) (d : Dev) (ho : o < 4) (hl : o < d.saf.outs.length) (hen : d.saf.outEn chB o = true)
    (hf : (d.saf.output o).fault = false) (hst : d.saf.stA = .run) (hraw : 0x28 < d.irq.raw.length) :
    ((outFault r o chB d).saf.output o).fault = true ∧ ((outFault r o chB d).saf.output o).onA = false ∧
      ((outFault r o chB d).saf.output o).onB = false ∧ (at' (outFault r o chB d).irq.raw 0x28).testBit 6 = true := by
  rw [outFault_latched r o chB d ho hen hf hst]
  have hlatch : ((faultLatched r o d).saf.output o).fault = true := by
    rw [SafSt.output, faultLatched_saf]
    exact congrArg SafOut.fault (at'_modAt_self _ o _ hl)
  have hbit := faultLatched_bit r o d hraw
  generalize faultLatched r o d = a at hlatch hbit ⊢
  have hkeep := readBack_keeps (d.saf.output o) chB
  refine ⟨?_, ?_, ?_, (acts_safDrive r o a).raised.bit _ _ hbit⟩
  · exact (at'_modAt_field SafOut.fault _ o o _ fun y => (hkeep y).1).trans (((driven_safDrive r o a).fault o).trans hlatch)
  · exact (at'_modAt_field SafOut.onA _ o o _ fun y => (hkeep y).2.1).trans (safDrive_offA r o a (allows_of_fault _ _ o hlatch))
  · exact (at'_modAt_field SafOut.onB _ o o _ fun y => (hkeep y).2.2).trans (safDrive_offB r o a (allows_of_fault _ _ o hlatch))

/-- A pulse in channel A, its tick noted. -/
def pulsed (o : Nat) (d : Dev) : Dev :=
  emit (.pin (pinSout o) true) (emit (.pin (pinSout o) false) (modSafOut o (fun x => { x with pulseA := d.now }) d))

theorem testPulse_due (o : Nat) (ok : Bool) (r : Regs) (d : Dev) (ho : o < 4) (hon : (d.saf.output o).onA = true) (htp : d.saf.tpEn o = true)
    (ht : (d.saf.output o).pulseA + 250000000 * (d.saf.word false 12 / 2 ^ 16 % 2 ^ 10) * 95 / 100 ≤ d.now) :
    testPulse o false ok r d = if ok then pulsed o d else outFault r o false (pulsed o d) :=
  if_pos ⟨ho, hon, htp, ht⟩

theorem acts_pulsed (o : Nat) (d : Dev) : Acts safParts (pulsed o d) d :=
  (acts_safEmit _ _).also ((acts_safEmit _ _).also (acts_modSafOut o _ d))

theorem pulsed_saf (o : Nat) (d : Dev) : (pulsed o d).saf = { d.saf with outs := modAt d.saf.outs o fun x => { x with pulseA := d.now } } := rfl

end Sys2Proof
end

section
/-! PROOFS. The island's inputs and outputs, settled [16 R466 R468 to R478 R483]. -/

namespace Sys2Proof

open Sys2Proof.Machine

/-- The parts of the island, less the interrupts, as an obligation names them. -/
theorem safParts_subset : safParts ⊆ Part.irq :: [.saf, .evt] := by decide

/-- A line that opens is a demand of its input, and takes the outputs that it is mapped to off. -/
theorem lineOpens_shows (s : State) (n : Nat) (hn : n < 8) (hc : s.dev.saf.counts n = true) (hraw : 0x28 < s.dev.irq.raw.length) :
    ∃ t, exec (.safInputChange (.lineA n) false false) s = .next t ∧ OnlyParts [.saf, .evt] s t ∧ t.dev.saf.counts n = false ∧
      t.dev.saf.demands = (s.dev.saf.demands + 1) % 2 ^ 16 ∧ (at' t.dev.irq.raw 0x28).testBit 0 = true ∧
      (∀ o, o < 4 → (s.dev.saf.map false o).testBit n = true → (t.dev.saf.output o).onA = false) := by
  refine ⟨_, onDev_next s (safInputChange (.lineA n) false false), ?_⟩
  have hopen : ((lineOpened n s.dev.quiet).saf.input n).aByA = false :=
    congrArg SafIn.aByA (at'_modAt_self s.dev.saf.ins n _ (input_of_counts s.dev.saf n hc))
  rw [safInputChange_opens, show s.dev.quiet.saf.counts n = true from hc, safDemand_noted s.regs n _ hopen, settle_saf, settle_raw]
  have hsaf := demandNoted_saf s.regs n (lineOpened n s.dev.quiet)
  have hbit := demandNoted_bit s.regs n (lineOpened n s.dev.quiet) hraw
  have hacts : Acts safParts (demandNoted s.regs n (lineOpened n s.dev.quiet)) s.dev.quiet :=
    (acts_safRecord _ _ _ _).also ((acts_safRaise 0 _).also ((acts_island _ _).also (acts_modSafIn n _ _)))
  generalize demandNoted s.regs n (lineOpened n s.dev.quiet) = a at hsaf hbit hacts ⊢
  have hline : (a.saf.input n).aByA = false := by rw [hsaf]; exact hopen
  have hkept := lineKept_afterDemand s.regs n a
  have hafter := acts_afterDemand s.regs n a
  refine ⟨(hafter.also hacts).onlyParts safParts_subset, ?_, ?_, hafter.raised.bit _ _ hbit, fun o ho hm => ?_⟩
  · simp [SafSt.counts, closed_of_line _ n (hkept.line.trans hline)]
  · rw [hkept.demands, hsaf]
    rfl
  · refine afterDemand_off s.regs n o a hn ho hline ?_
    rw [hsaf]
    exact hm

/-- A discrepancy past its time latches its input, and takes the outputs that it is mapped to off. -/
theorem discrepancy_shows (s : State) (n u : Nat) (hn : n < 8) (hl : n < s.dev.saf.ins.length) (hrun : (s.dev.saf.input n).runA = some u)
    (hd : (s.dev.saf.input n).disc = false) (hraw : 0x28 < s.dev.irq.raw.length)
    (ht : 95 * s.dev.saf.discTicks n ≤ 100 * (s.dev.now - u) + 12500000) :
    ∃ t, exec (.discrepancy n false) s = .next t ∧ OnlyParts [.saf, .evt] s t ∧ (t.dev.saf.input n).disc = true ∧ (t.dev.saf.input n).pend = true ∧
      (at' t.dev.irq.raw 0x28).testBit 2 = true ∧
      (∀ o, o < 4 → (s.dev.saf.map false o).testBit n = true → (t.dev.saf.output o).onA = false) ∧
      (∀ o, o < 4 → (s.dev.saf.map true o).testBit n = true → (t.dev.saf.output o).onB = false) := by
  refine ⟨_, onDev_next s (safDiscrepancy n false), ?_⟩
  rw [safDiscrepancy_latched n u s.regs s.dev.quiet hn hrun hd ht, settle_saf, settle_raw]
  have hsaf := discLatched_saf s.regs n s.dev.quiet
  have hin := discLatched_input s.regs n s.dev.quiet hl
  have hbit := discLatched_bit s.regs n s.dev.quiet hraw
  have hacts := acts_discLatched s.regs n s.dev.quiet
  generalize discLatched s.regs n s.dev.quiet = a at hsaf hin hbit hacts ⊢
  have heval := acts_safEval s.regs a
  have hins : (safEval s.regs a).saf.input n = a.saf.input n := by
    rw [SafSt.input, (driven_safEval s.regs a).saf]
    rfl
  have hdisc : (a.saf.input n).disc = true := by rw [hin]
  refine ⟨(heval.also hacts).onlyParts safParts_subset, by rw [hins, hin], by rw [hins, hin], heval.raised.bit _ _ hbit, fun o ho hm => ?_,
    fun o ho hm => ?_⟩
  · refine safEval_offA s.regs o a ho (allows_of_open a.saf false o n hn ?_ (closed_of_disc a.saf false n hdisc))
    rw [hsaf]
    exact hm
  · refine safEval_offB s.regs o a ho (allows_of_open a.saf true o n hn ?_ (closed_of_disc a.saf true n hdisc))
    rw [hsaf]
    exact hm

/-- An accepted press counts, and clears the latches that R475 lets clear. -/
theorem press_shows (s : State) (a b : Nat) (h1 : s.dev.saf.srstAt ≠ none) (h2 : s.dev.saf.srst = false) (ha : 50000000 ≤ a ∧ a ≤ 5000000000)
    (hb : 50000000 ≤ b ∧ b ≤ 5000000000) (hst : s.dev.saf.stA ≠ .halt) (hraw : 0x28 < s.dev.irq.raw.length) :
    ∃ t, exec (.srstRelease a b) s = .next t ∧ OnlyParts [.saf, .evt] s t ∧ t.dev.saf.srstAt = none ∧
      t.dev.saf.resets = (s.dev.saf.resets + 1) % 256 ∧ (at' t.dev.irq.raw 0x28).testBit 4 = true ∧
      (∀ n, n < 8 → (s.dev.saf.input n).disc = true →
        (t.dev.saf.input n).disc = !(s.dev.saf.allClosed n && (s.dev.saf.input n).passed && !((s.dev.saf.input n).pend))) := by
  refine ⟨_, onDev_next s (srstRelease a b), ?_⟩
  rw [srstRelease_accepted a b s.regs s.dev.quiet h1 h2 ha hb hst, settle_saf, settle_raw]
  obtain ⟨hpins, hins⟩ := pressClears_shows s.regs (pressTaken s.dev.quiet)
  have hclear := (acts_pressClears s.regs (pressTaken s.dev.quiet)).also (acts_island _ s.dev.quiet)
  generalize hc : pressClears s.regs (pressTaken s.dev.quiet) = c at hpins hins hclear ⊢
  have hlen : 0x28 < c.irq.raw.length := hclear.raised.length.symm ▸ hraw
  have hsaf := pressNoted_saf s.regs c
  have hbit := pressNoted_bit s.regs c hlen
  have hnoted := (acts_pressNoted s.regs c).also hclear
  generalize pressNoted s.regs c = e at hsaf hbit hnoted ⊢
  have heval := acts_safEval s.regs e
  have hdriven := (driven_safEval s.regs e).saf
  refine ⟨(heval.also hnoted).onlyParts safParts_subset, ?_, ?_, heval.raised.bit _ _ hbit, fun n hn hd => ?_⟩
  · rw [hdriven, hsaf, hpins.saf]
    rfl
  · rw [hdriven, hsaf, hpins.saf]
    rfl
  · have hdisc := clearIns_disc s.regs n (pressTaken s.dev.quiet) hn hd
    rw [SafSt.input, ← hins] at hdisc
    rw [SafSt.input, hdriven, hsaf]
    exact hdisc

/-- Settles O49. -/
theorem islandInputsAndOutputs : Obligations.IslandInputsAndOutputs := by
  unfold Obligations.IslandInputsAndOutputs
  refine ⟨lineOpens_shows, fun s lvl chB h => ?_, discrepancy_shows, fun s n u hrun ht => ?_,
    fun s a b h1 h2 ha1 ha2 hb1 hb2 hst hraw => press_shows s a b h1 h2 ⟨ha1, ha2⟩ ⟨hb1, hb2⟩ hst hraw, fun s a b h1 h2 ha => ?_,
    fun s u hat h1 h2 h3 ht hraw => ?_, fun s o ho hl hon htp ht => ?_, fun s o ho hl hen hf hst hon htp ht hraw => ?_,
    fun s o chB ho hl hen hf hst hraw => ?_⟩
  · refine ⟨_, onDev_next s (safInputChange .srst chB lvl), ?_⟩
    rw [show safInputChange .srst chB lvl s.regs s.dev.quiet = safSrst lvl s.dev.quiet from rfl, safSrst_taken lvl s.dev.quiet h]
    simp only [settle_saf, modSaf_saf]
    refine ⟨(acts_modSaf _ _).onlyParts (by decide), ?_⟩
    cases lvl
    · exact ⟨rfl, rfl, rfl, fun h => absurd h (by decide), fun _ => rfl⟩
    · exact ⟨rfl, rfl, rfl, fun _ => rfl, fun h => absurd h (by decide)⟩
  · refine ⟨_, onDev_next s (safDiscrepancy n false), ?_⟩
    rw [safDiscrepancy_early n u s.regs s.dev.quiet hrun ht]
    exact onlyParts_quiet _ s s.regs
  · refine ⟨_, onDev_next s (srstRelease a b), ?_⟩
    rw [srstRelease_short a b s.regs s.dev.quiet h1 h2 ha, settle_saf]
    exact ⟨(acts_modSaf _ _).onlyParts (by decide), rfl⟩
  · refine ⟨_, onDev_next s resetStuck, ?_⟩
    rw [resetStuck_held u s.regs s.dev.quiet hat h1 h2 h3 ht, settle_saf, settle_raw]
    exact ⟨((acts_raise 0x28 5 _).trans (acts_modSaf _ _)).onlyParts (by decide), rfl, raise_testBit_self 0x28 5 _ hraw⟩
  · refine ⟨_, onDev_next s (testPulse o false true), ?_⟩
    rw [testPulse_due o true s.regs s.dev.quiet ho hon htp ht, if_pos rfl, settle_saf]
    have hacts : Acts [.saf] (pulsed o s.dev.quiet) s.dev.quiet :=
      ((acts_emit _ _).trans ((acts_emit _ _).trans (acts_modSaf _ _))).mono (by decide)
    exact ⟨hacts.onlyParts (by decide), rfl, mem_settle_out _ _ _ (mem_emit _ _ _ (mem_emit_self _ _)), mem_settle_out _ _ _ (mem_emit_self _ _)⟩
  · refine ⟨_, onDev_next s (testPulse o false false), ?_⟩
    rw [testPulse_due o false s.regs s.dev.quiet ho hon htp ht, if_neg (by decide), settle_saf, settle_raw]
    have hlen : o < (pulsed o s.dev.quiet).saf.outs.length := by rw [pulsed_saf]; simpa using hl
    have hfault : ((pulsed o s.dev.quiet).saf.output o).fault = false :=
      (at'_modAt_field SafOut.fault s.dev.saf.outs o o (fun x => { x with pulseA := s.dev.now }) fun _ => rfl).trans hf
    exact ⟨((acts_outFault s.regs o false _).also (acts_pulsed o s.dev.quiet)).onlyParts safParts_subset,
      outFault_shows s.regs o false (pulsed o s.dev.quiet) ho hlen hen hfault hst hraw⟩
  · refine ⟨_, onDev_next s fun r d => outFault r o chB d, ?_⟩
    simp only [settle_saf, settle_raw]
    exact ⟨(acts_outFault s.regs o chB s.dev.quiet).onlyParts safParts_subset, outFault_shows s.regs o chB s.dev.quiet ho hl hen hf hst hraw⟩

end Sys2Proof
end

section
/-! PROOFS. The island's channels, its states and its configuration [16 R481 to R485]. -/

namespace Sys2Proof

open Sys2Proof.Machine

/-! ### Both channels enter a state [16 R482] -/

/-- The state of both channels, with no unlock sequence in hand. -/
def modeTaken (m : SafMode) (s : SafSt) : SafSt := { s with stA := m, stB := m, unlockAt := none }

/-- A change of state raised and recorded. -/
def modeTold (r : Regs) (m : SafMode) (d : Dev) : Dev :=
  raiseIf (m == .halt || m == .cfgBad) 0x28 7 (record r .safState { p0 := m.code, p1 := d.saf.cause } d)

theorem modeTold_saf (r : Regs) (m : SafMode) (d : Dev) : (modeTold r m d).saf = d.saf := by simp [modeTold]

theorem modeTold_bit (r : Regs) (m : SafMode) (d : Dev) (h : (m == .halt || m == .cfgBad) = true) (hraw : 0x28 < d.irq.raw.length) :
    (at' (modeTold r m d).irq.raw 0x28).testBit 7 = true := by
  rw [modeTold, h]
  refine raise_testBit_self 0x28 7 _ ?_
  rw [record_raw_length]
  exact hraw

/-- Entering a state changes the outputs and the fields of the state alone. -/
theorem safTo_saf (r : Regs) (m : SafMode) (d : Dev) : ∃ outs, (safTo r m d).saf = { modeTaken m d.saf with outs := outs } := by
  have h := (driven_safEval r (modeTold r m (modSaf (modeTaken m) d))).saf
  rw [modeTold_saf] at h
  exact ⟨_, h⟩

/-- Outside RUN every output is off in both channels. -/
theorem safTo_off (r : Regs) (m : SafMode) (d : Dev) (hm : m ≠ .run) (o : Nat) (ho : o < 4) :
    ((safTo r m d).saf.output o).onA = false ∧ ((safTo r m d).saf.output o).onB = false := by
  have hallow (chB : Bool) : (modeTold r m (modSaf (modeTaken m) d)).saf.allows chB o = false := by
    rw [modeTold_saf]
    cases chB <;> simp [SafSt.allows, modeTaken, hm]
  exact ⟨safEval_offA r o _ ho (hallow false), safEval_offB r o _ ho (hallow true)⟩

theorem safTo_bit (r : Regs) (m : SafMode) (d : Dev) (h : (m == .halt || m == .cfgBad) = true) (hraw : 0x28 < d.irq.raw.length) :
    (at' (safTo r m d).irq.raw 0x28).testBit 7 = true :=
  (acts_safEval r _).raised.bit _ _ (modeTold_bit r m (modSaf (modeTaken m) d) h hraw)

/-! ### The exchange [16 R481] -/

/-- What an exchange shows of the other channel. -/
def exchanged (x : SafExch) (s : SafSt) : SafSt :=
  { s with
    goodA := x.goodA, goodB := x.goodB, missedEx := if x.ok then 0 else min 3 (s.missedEx + 1)
    disagree := if x.ok && x.disagree then min 2 (s.disagree + 1) else if x.ok then 0 else s.disagree }

/-- The cause by which an exchange enters HALT, 0 for none. -/
def haltCause (x : SafExch) (s : SafSt) : Nat :=
  if s.disagree = 2 then 1 else if !x.clockOk then 2 else if !x.goodA || !x.goodB then 3 else if s.missedEx = 3 then 4 else 0

theorem safExchange_halted (x : SafExch) (r : Regs) (d : Dev) (h : d.saf.stA = .halt) : safExchange x r d = d := if_pos (by simp [h])

theorem safExchange_cause (x : SafExch) (r : Regs) (d : Dev) (h : d.saf.stA ≠ .halt) : safExchange x r d =
    if haltCause x (exchanged x d.saf) = 0 then modSaf (exchanged x) d
    else safTo r .halt (modSaf (fun s => { s with cause := haltCause x (exchanged x d.saf) }) (modSaf (exchanged x) d)) :=
  if_neg (by simp [h])

/-- The cause of a failed exchange, in the order of R481. -/
theorem haltCause_failed (x : SafExch) (s : SafSt) (hd : s.disagree < 2) (hf : (x.ok && x.disagree && s.disagree == 1) = true ∨ x.clockOk = false ∨
      x.goodA = false ∨ x.goodB = false ∨ (!x.ok && s.missedEx == 2) = true) :
    haltCause x (exchanged x s) = if (x.ok && x.disagree && s.disagree == 1) = true then 1 else if x.clockOk = false then 2
      else if x.goodA = false ∨ x.goodB = false then 3 else 4 := by
  have htwice : (exchanged x s).disagree = 2 ↔ (x.ok && x.disagree && s.disagree == 1) = true := by
    unfold exchanged
    cases x.ok <;> cases x.disagree <;> simp <;> omega
  unfold haltCause
  rw [if_congr htwice rfl rfl]
  by_cases h1 : (x.ok && x.disagree && s.disagree == 1) = true
  · rw [if_pos h1, if_pos h1]
  · rw [if_neg h1, if_neg h1]
    by_cases h2 : x.clockOk = false
    · simp [h2]
    · by_cases h3 : x.goodA = false ∨ x.goodB = false
      · simp [h2, h3]
      · have hlate : (!x.ok && s.missedEx == 2) = true := by
          obtain h | h | h | h | h := hf
          · exact absurd h h1
          · exact absurd h h2
          · exact absurd (.inl h) h3
          · exact absurd (.inr h) h3
          · exact h
        have hmiss : (exchanged x s).missedEx = 3 := by
          simp only [Bool.and_eq_true, Bool.not_eq_true', beq_iff_eq] at hlate
          simp [exchanged, hlate.1, hlate.2]
        simp [h2, h3, hmiss]

/-! ### The unlock sequence [16 R483] -/

theorem acts_unlockFails (d : Dev) : Acts [.saf] (unlockFails d) d := acts_modSaf _ d

theorem safUnlockSecond_enters (u : Nat) (r : Regs) (d : Dev) (hat : d.saf.unlockAt = some u) (hk : d.saf.key = true) (ht : d.now ≤ u + 25000000) :
    safUnlockSecond 0xC0DE r d = safTo r .config d := by
  unfold safUnlockSecond
  simp only [hat]
  exact if_pos ⟨trivial, hk, ht⟩

theorem safUnlockSecond_fails (v : Nat) (r : Regs) (d : Dev) (h : d.saf.unlockAt = none ∨ v ≠ 0xC0DE ∨ d.saf.key = false) :
    safUnlockSecond v r d = unlockFails d := by
  unfold safUnlockSecond
  split
  next u hu =>
    refine if_neg fun ⟨hv, hk, _⟩ => ?_
    obtain h | h | h := h
    · rw [hu] at h
      exact absurd h (by simp)
    · exact h hv
    · rw [h] at hk
      exact absurd hk (by decide)
  next => rfl

/-! ### The check of the configuration [16 R484] -/

/-- Both copies agree with their expected CRCs. -/
def crcGood (s : SafSt) : Bool := safCrc s.cfgA == s.word false 15 && safCrc s.cfgB == s.word true 15

/-- The CRCs of both copies of `g`, with the cause that they give. -/
def crcTaken (g s : SafSt) : SafSt := { s with crcA := safCrc g.cfgA, crcB := safCrc g.cfgB, cause := if crcGood g then 0 else 5 }

/-- The start-up tests and the timers of the inputs begun. -/
def inputsBegun (d : Dev) : Dev := foldN 8 safTimers (foldN 8 safStartup d)

theorem safCheck_eq (r : Regs) (d : Dev) :
    safCheck r d = safTo r (if crcGood d.saf then .run else .cfgBad) (inputsBegun (modSaf (crcTaken d.saf) d)) := rfl

theorem inputsBegun_saf (d : Dev) : ∃ ins, (inputsBegun d).saf = { d.saf with ins := ins } := by
  refine foldN_keeps (fun b : Dev => ∃ ins, b.saf = { d.saf with ins := ins }) 8 safTimers _ (fun i b ⟨ins, hb⟩ => ⟨_, congrArg (fun s : SafSt => { s with ins := (safTimers i b).saf.ins }) hb⟩) ?_
  exact foldN_keeps (fun b : Dev => ∃ ins, b.saf = { d.saf with ins := ins }) 8 safStartup d
    (fun i b ⟨ins, hb⟩ => ⟨_, congrArg (fun s : SafSt => { s with ins := (safStartup i b).saf.ins }) hb⟩) ⟨_, rfl⟩

theorem acts_inputsBegun (d : Dev) : Acts safParts (inputsBegun d) d := (acts_foldN 8 _ _ acts_safTimers).also (acts_foldN 8 _ d acts_safStartup)

/-- The check keeps the copies, shows their CRCs, and enters RUN or CFG_BAD by them. -/
theorem safCheck_saf (r : Regs) (d : Dev) :
    ∃ ins outs, (safCheck r d).saf = { modeTaken (if crcGood d.saf then .run else .cfgBad) (crcTaken d.saf d.saf) with ins := ins, outs := outs } := by
  obtain ⟨ins, hin⟩ := inputsBegun_saf (modSaf (crcTaken d.saf) d)
  obtain ⟨outs, hout⟩ := safTo_saf r (if crcGood d.saf then .run else .cfgBad) (inputsBegun (modSaf (crcTaken d.saf) d))
  exact ⟨ins, outs, by rw [safCheck_eq, hout, hin]; rfl⟩

theorem safCheck_bit (r : Regs) (d : Dev) (h : crcGood d.saf = false) (hraw : 0x28 < d.irq.raw.length) :
    (at' (safCheck r d).irq.raw 0x28).testBit 7 = true := by
  rw [safCheck_eq, h]
  refine safTo_bit r .cfgBad _ (by decide) ?_
  rw [(acts_inputsBegun (modSaf (crcTaken d.saf) d)).raised.length]
  exact hraw

/-- A load that needed CONFIG lost with it. -/
def loadLost (r : Regs) (d : Dev) : Dev := if d.cfg.phase.inHand && d.cfg.safetyDiff then record r .safConfigLost {} (abortLoad d) else d

theorem safConfigExit_leaves (r : Regs) (d : Dev) (h : d.saf.stA = .config) : safConfigExit false r d = loadLost r (safCheck r d) :=
  if_pos (by simp [h])

theorem acts_loadLost (r : Regs) (d : Dev) : Acts [.irq, .evt, .cfg] (loadLost r d) d := .when ((acts_record r _ _ _).trans (acts_cfg d _))

theorem loadLost_saf (r : Regs) (d : Dev) : (loadLost r d).saf = d.saf := (acts_loadLost r d).agree .saf (by decide)

/-- Leaving CONFIG aborts a load in hand that needs it, and no other. -/
theorem loadLost_cfg (r : Regs) (d : Dev) : (d.cfg.phase.inHand = true → d.cfg.safetyDiff = true → (loadLost r d).cfg.phase = .aborted) ∧
    (d.cfg.safetyDiff = false → (loadLost r d).cfg = d.cfg) := by
  refine ⟨fun h1 h2 => ?_, fun h => ?_⟩
  · rw [loadLost, if_pos (by simp [h1, h2]), record_cfg]
    rfl
  · rw [loadLost, if_neg (by simp [h])]

/-! ### The expected CRC [16 R482 R484] -/

theorem nth_modAt_other (l : List Nat) (i k : Nat) (f : Nat → Nat) (h : k ≠ i) : nth (modAt l i f) k 0 = nth l k 0 := at'_modAt_other l i k f h.symm

/-- The CRC does not cover the word that holds its expected value. -/
theorem safCrc_modAt_last (cfg : List Nat) (f : Nat → Nat) : safCrc (modAt cfg 15 f) = safCrc cfg := by
  refine congrArg crc32 (List.flatMap_congr fun i hi => ?_)
  rw [nth_modAt_other cfg 15 i f (by have := List.mem_range.mp hi; omega)]

end Sys2Proof
end

section
/-! PROOFS. The island's channels, its states and its configuration, settled [16 R481 to R485]. -/

namespace Sys2Proof

open Sys2Proof.Machine

/-- A failed exchange enters HALT with its cause, every output off. -/
theorem exchangeFails_shows (s : State) (x : SafExch) (hst : s.dev.saf.stA ≠ .halt) (hd : s.dev.saf.disagree < 2) (hraw : 0x28 < s.dev.irq.raw.length)
    (hf : (x.ok && x.disagree && s.dev.saf.disagree == 1) = true ∨ x.clockOk = false ∨ x.goodA = false ∨ x.goodB = false ∨
      (!x.ok && s.dev.saf.missedEx == 2) = true) :
    ∃ t, exec (.safExchange x) s = .next t ∧ OnlyParts [.saf, .evt] s t ∧ t.dev.saf.stA = .halt ∧ t.dev.saf.stB = .halt ∧
      (at' t.dev.irq.raw 0x28).testBit 7 = true ∧
      t.dev.saf.cause = (if (x.ok && x.disagree && s.dev.saf.disagree == 1) = true then 1 else if x.clockOk = false then 2
        else if x.goodA = false ∨ x.goodB = false then 3 else 4) ∧
      (∀ o, o < 4 → (t.dev.saf.output o).onA = false ∧ (t.dev.saf.output o).onB = false) := by
  refine ⟨_, onDev_next s (safExchange x), ?_⟩
  have hcause := haltCause_failed x s.dev.saf hd hf
  have hne : haltCause x (exchanged x s.dev.saf) ≠ 0 := by
    rw [hcause]
    split_ifs <;> decide
  rw [safExchange_cause x s.regs s.dev.quiet hst, show s.dev.quiet.saf = s.dev.saf from rfl, if_neg hne, settle_saf, settle_raw, ← hcause]
  have hacts : Acts safParts (modSaf (fun y => { y with cause := haltCause x (exchanged x s.dev.saf) }) (modSaf (exchanged x) s.dev.quiet)) s.dev.quiet :=
    (acts_island _ _).also (acts_island _ _)
  have hc : (modSaf (fun y => { y with cause := haltCause x (exchanged x s.dev.saf) }) (modSaf (exchanged x) s.dev.quiet)).saf.cause =
    haltCause x (exchanged x s.dev.saf) := rfl
  generalize modSaf (fun y => { y with cause := haltCause x (exchanged x s.dev.saf) }) (modSaf (exchanged x) s.dev.quiet) = a at hacts hc ⊢
  obtain ⟨outs, hsaf⟩ := safTo_saf s.regs .halt a
  have hlen : 0x28 < a.irq.raw.length := hacts.raised.length.symm ▸ hraw
  refine ⟨((acts_safTo s.regs .halt a).also hacts).onlyParts safParts_subset, by rw [hsaf]; rfl, by rw [hsaf]; rfl, safTo_bit s.regs .halt a (by decide) hlen,
    by rw [hsaf]; exact hc, fun o ho => safTo_off s.regs .halt a (by decide) o ho⟩

/-- Leaving CONFIG checks both copies, and aborts a load that needs it. -/
theorem configExit_shows (s : State) (hst : s.dev.saf.stA = .config) (hraw : 0x28 < s.dev.irq.raw.length) :
    let c := s.dev.saf
    ∃ t, exec (.safConfigExit false) s = .next t ∧ OnlyParts [.saf, .evt, .cfg] s t ∧ t.dev.saf.crcA = safCrc c.cfgA ∧ t.dev.saf.crcB = safCrc c.cfgB ∧ t.dev.saf.cfgA = c.cfgA ∧
      (safCrc c.cfgA = c.word false 15 ∧ safCrc c.cfgB = c.word true 15 → t.dev.saf.stA = .run ∧ t.dev.saf.stB = .run ∧ t.dev.saf.cause = 0) ∧
      (safCrc c.cfgA ≠ c.word false 15 → t.dev.saf.stA = .cfgBad ∧ t.dev.saf.stB = .cfgBad ∧ t.dev.saf.cause = 5 ∧ (at' t.dev.irq.raw 0x28).testBit 7 = true) ∧
      (s.dev.cfg.phase.inHand = true → s.dev.cfg.safetyDiff = true → t.dev.cfg.phase = .aborted) ∧ (s.dev.cfg.safetyDiff = false → t.dev.cfg = s.dev.cfg) := by
  intro c
  refine ⟨_, onDev_next s (safConfigExit false), ?_⟩
  rw [safConfigExit_leaves s.regs s.dev.quiet hst, settle_saf, settle_raw, settle_cfg]
  obtain ⟨ins, outs, hsaf⟩ := safCheck_saf s.regs s.dev.quiet
  have hbit := safCheck_bit s.regs s.dev.quiet
  have hacts := acts_safCheck s.regs s.dev.quiet
  generalize safCheck s.regs s.dev.quiet = a at hsaf hbit hacts ⊢
  have hlost := acts_loadLost s.regs a
  have hcfg : a.cfg = s.dev.cfg := hacts.agree .cfg (by decide)
  obtain ⟨habort, hkeep⟩ := loadLost_cfg s.regs a
  rw [hcfg] at habort hkeep
  rw [loadLost_saf, hsaf]
  refine ⟨(hlost.trans hacts).onlyParts (by decide), rfl, rfl, rfl, fun ⟨h1, h2⟩ => ?_, fun h => ?_, habort, hkeep⟩
  · have hgood : crcGood s.dev.quiet.saf = true := by
      rw [crcGood, Bool.and_eq_true, beq_iff_eq, beq_iff_eq]
      exact ⟨h1, h2⟩
    simp only [modeTaken, crcTaken, hgood, if_true, and_self]
  · have hbad : crcGood s.dev.quiet.saf = false := by
      rw [crcGood, Bool.and_eq_false_iff, beq_eq_false_iff_ne]
      exact .inl h
    refine ⟨?_, ?_, ?_, hlost.raised.bit _ _ (hbit hbad hraw)⟩
    all_goals simp only [modeTaken, crcTaken, hbad, Bool.false_eq_true, if_false]

/-- The expected CRC in both copies. -/
theorem safPut_last (v : Nat) (d : Dev) (hA : 15 < d.saf.cfgA.length) (hB : 15 < d.saf.cfgB.length) :
    (safPut 15 v d).saf.word false 15 = v % 2 ^ 32 ∧ (safPut 15 v d).saf.word true 15 = v % 2 ^ 32 ∧
      safCrc (safPut 15 v d).saf.cfgA = safCrc d.saf.cfgA ∧ safCrc (safPut 15 v d).saf.cfgB = safCrc d.saf.cfgB :=
  ⟨at'_modAt_self d.saf.cfgA 15 _ hA, at'_modAt_self d.saf.cfgB 15 _ hB, safCrc_modAt_last _ _, safCrc_modAt_last _ _⟩

theorem safCrcExpWrite_init (v : Nat) (r : Regs) (d : Dev) (h : d.saf.stA = .init) : safCrcExpWrite v r d = (r, safCheck r (safPut 15 v d)) := by
  unfold safCrcExpWrite
  simp only [h]

theorem safCrcExpWrite_config (v : Nat) (r : Regs) (d : Dev) (h : d.saf.stA = .config) : safCrcExpWrite v r d = (r, safPut 15 v d) := by
  unfold safCrcExpWrite
  simp only [h]

theorem safCrcExpWrite_rejected (v : Nat) (r : Regs) (d : Dev) (h1 : d.saf.stA ≠ .config) (h2 : d.saf.stA ≠ .init) :
    safCrcExpWrite v r d = (r.reject 0x28 0x13C 7, d) := by
  unfold safCrcExpWrite
  split
  next h => exact absurd h h2
  next h => exact absurd h h1
  next => rfl

/-- A write of the expected CRC: the check follows in INIT, the word is kept in CONFIG, and it is rejected elsewhere. -/
theorem crcExpWrite_shows (s : State) (v : Nat) (hA : 15 < s.dev.saf.cfgA.length) (hB : 15 < s.dev.saf.cfgB.length) :
    ∃ t, exec (.safCrcExpWrite v) s = .next t ∧ OnlyParts [.saf, .evt] { s with regs := t.regs } t ∧
      (s.dev.saf.stA = .config → t.regs = s.regs ∧ t.dev.saf.stA = .config ∧ t.dev.saf.word false 15 = v % 2 ^ 32 ∧ t.dev.saf.word true 15 = v % 2 ^ 32) ∧
      (s.dev.saf.stA = .init → t.regs = s.regs ∧ t.dev.saf.word false 15 = v % 2 ^ 32 ∧ t.dev.saf.crcA = safCrc s.dev.saf.cfgA ∧
        t.dev.saf.stA = (if safCrc s.dev.saf.cfgA = v % 2 ^ 32 ∧ safCrc s.dev.saf.cfgB = v % 2 ^ 32 then .run else .cfgBad)) ∧
      (s.dev.saf.stA ≠ .config → s.dev.saf.stA ≠ .init → t.regs = s.regs.reject 0x28 0x13C 7 ∧ t.dev.saf = s.dev.saf) := by
  refine ⟨_, onRegs_next s (safCrcExpWrite v), ?_⟩
  obtain ⟨hwA, hwB, hcA, hcB⟩ := safPut_last v s.dev.quiet hA hB
  have hput := acts_safPut 15 v s.dev.quiet
  by_cases hc : s.dev.saf.stA = .config
  · rw [safCrcExpWrite_config v s.regs s.dev.quiet hc]
    simp only [settle_saf]
    exact ⟨hput.onlyParts safParts_subset, fun _ => ⟨trivial, hc, hwA, hwB⟩, fun h => absurd (hc.symm.trans h) (by decide), fun h => absurd hc h⟩
  · by_cases hi : s.dev.saf.stA = .init
    · rw [safCrcExpWrite_init v s.regs s.dev.quiet hi]
      generalize safPut 15 v s.dev.quiet = a at hwA hwB hcA hcB hput ⊢
      obtain ⟨ins, outs, hsaf⟩ := safCheck_saf s.regs a
      have hcheck := acts_safCheck s.regs a
      simp only [settle_saf, hsaf]
      refine ⟨(hcheck.also hput).onlyParts safParts_subset, fun h => absurd h hc, fun _ => ⟨trivial, hwA, hcA, ?_⟩, fun _ h => absurd hi h⟩
      refine if_congr ?_ rfl rfl
      rw [crcGood, hwA, hwB, hcA, hcB, Bool.and_eq_true, beq_iff_eq, beq_iff_eq]
      rfl
    · rw [safCrcExpWrite_rejected v s.regs s.dev.quiet hc hi]
      simp only [settle_saf]
      exact ⟨onlyParts_quiet _ { s with regs := s.regs.reject 0x28 0x13C 7 } _, fun h => absurd h hc, fun h => absurd h hi, fun _ _ => ⟨trivial, rfl⟩⟩

/-! ### Power-up [16 R472 R477 R482] -/

/-- An island that has just powered up, its inputs' start-up tests begun. -/
def islandFresh (srst : Bool) (d : Dev) : Dev := foldN 8 safStartup { d with saf := { srst := srst, srstClosed := srst } }

theorem acts_islandFresh (srst : Bool) (d : Dev) : Acts safParts (islandFresh srst d) d :=
  (acts_foldN 8 _ _ acts_safStartup).also (((within_saf d _).acts (by decide)).mono (by decide))

theorem safPowerUp_dark (srst : Bool) (r : Regs) (d : Dev) (h : d.mde.dstate = .reset ∨ d.mde.dstate = .boot) :
    safPowerUp srst r d = record r .safState { p0 := 0 } (raiseIf srst 0x28 5 (islandFresh srst d)) := by
  have hmde : (record r .safState { p0 := 0 } (raiseIf srst 0x28 5 (islandFresh srst d))).mde = d.mde :=
    ((acts_record r _ _ _).trans ((acts_raiseIf srst 0x28 5 _).trans (acts_islandFresh srst d))).agree .mde (by decide)
  have hexp : safPowerUp srst r d = match (record r .safState { p0 := 0 } (raiseIf srst 0x28 5 (islandFresh srst d))).mde.dstate with
      | .load | .ready | .run | .safeHold => safWriteMap r (record r .safState { p0 := 0 } (raiseIf srst 0x28 5 (islandFresh srst d)))
      | _ => record r .safState { p0 := 0 } (raiseIf srst 0x28 5 (islandFresh srst d)) := rfl
  rw [hexp, hmde]
  obtain h | h := h <;> rw [h]

theorem islandFresh_saf (srst : Bool) (d : Dev) : ∃ ins, (islandFresh srst d).saf = { ({ srst := srst, srstClosed := srst } : SafSt) with ins := ins } :=
  foldN_keeps (fun b : Dev => ∃ ins, b.saf = { ({ srst := srst, srstClosed := srst } : SafSt) with ins := ins }) 8 safStartup _
    (fun i b ⟨_, hb⟩ => ⟨_, congrArg (fun s : SafSt => { s with ins := (safStartup i b).saf.ins }) hb⟩) ⟨_, rfl⟩

/-- An island powered up while the device is in RESET or BOOT is in INIT, with its configuration and outputs as reset. -/
theorem powerUp_shows (s : State) (b : Bool) (h : s.dev.mde.dstate = .reset ∨ s.dev.mde.dstate = .boot) (hraw : 0x28 < s.dev.irq.raw.length) :
    ∃ t, exec (.safPowerUp b) s = .next t ∧ OnlyParts [.saf, .evt] s t ∧ t.dev.saf.stA = .init ∧ t.dev.saf.stB = .init ∧ t.dev.saf.srst = b ∧ t.dev.saf.srstClosed = b ∧
      t.dev.saf.cfgA = ({} : SafSt).cfgA ∧ t.dev.saf.outs = ({} : SafSt).outs ∧ (b = true → (at' t.dev.irq.raw 0x28).testBit 5 = true) := by
  refine ⟨_, onDev_next s (safPowerUp b), ?_⟩
  rw [safPowerUp_dark b s.regs s.dev.quiet h, settle_saf, settle_raw, record_saf, raiseIf_saf, record_raw_other _ _ _ _ 0x28 (by decide)]
  obtain ⟨ins, hsaf⟩ := islandFresh_saf b s.dev.quiet
  have hacts := acts_islandFresh b s.dev.quiet
  generalize islandFresh b s.dev.quiet = a at hsaf hacts ⊢
  have hlen : 0x28 < a.irq.raw.length := hacts.raised.length.symm ▸ hraw
  rw [hsaf]
  refine ⟨((acts_safRecord s.regs _ _ _).also ((acts_safRaiseIf b 5 a).also hacts)).onlyParts safParts_subset, rfl, rfl, rfl, rfl, rfl, rfl, fun hb => ?_⟩
  subst hb
  exact raise_testBit_self 0x28 5 a hlen

/-- Settles O50. -/
theorem islandChannelsAndConfiguration : Obligations.IslandChannelsAndConfiguration := by
  unfold Obligations.IslandChannelsAndConfiguration
  refine ⟨fun s x h => ?_, fun s x h hok hdis hclk hA hB => ?_, exchangeFails_shows, fun s v => ?_, fun s u hat hk ht => ?_, fun s v h => ?_,
    fun s chB => ?_, fun s u hat ht => ?_, configExit_shows, fun s h => ?_, crcExpWrite_shows, powerUp_shows⟩
  · refine ⟨_, onDev_next s (safExchange x), ?_⟩
    rw [safExchange_halted x s.regs s.dev.quiet h]
    exact onlyParts_quiet _ s s.regs
  · refine ⟨_, onDev_next s (safExchange x), ?_⟩
    have hnone : haltCause x (exchanged x s.dev.quiet.saf) = 0 := by simp [haltCause, exchanged, hok, hdis, hclk, hA, hB]
    rw [safExchange_cause x s.regs s.dev.quiet h, if_pos hnone, settle_saf]
    refine ⟨(acts_modSaf _ _).onlyParts (by decide), ?_⟩
    rw [modSaf_saf]
    simp [exchanged, hok, hdis, hA, hB]
  · intro ok
    refine ⟨_, onDev_next s (safUnlockFirst v), ?_⟩
    have hcond : (v = 0x5AFE ∧ s.dev.quiet.saf.key = true ∧ (s.dev.quiet.saf.stA == .run || s.dev.quiet.saf.stA == .cfgBad) = true) ↔ ok := by
      rw [Bool.or_eq_true, beq_iff_eq, beq_iff_eq]
      rfl
    rw [safUnlockFirst, settle_saf]
    refine ⟨(Acts.ite (acts_modSaf _ _) (acts_unlockFails _)).onlyParts (by decide), fun h => ?_, fun h => ?_⟩
    · rw [if_pos (hcond.mpr h)]
      rfl
    · rw [if_neg (fun hc => h (hcond.mp hc))]
      rfl
  · refine ⟨_, onDev_next s (safUnlockSecond 0xC0DE), ?_⟩
    rw [safUnlockSecond_enters u s.regs s.dev.quiet hat hk ht, settle_saf]
    obtain ⟨outs, hsaf⟩ := safTo_saf s.regs .config s.dev.quiet
    refine ⟨(acts_safTo s.regs .config s.dev.quiet).onlyParts safParts_subset, ?_, ?_, ?_, ?_, ?_,
      fun o ho => safTo_off s.regs .config s.dev.quiet (by decide) o ho⟩
    all_goals rw [hsaf]; rfl
  · refine ⟨_, onDev_next s (safUnlockSecond v), ?_⟩
    rw [safUnlockSecond_fails v s.regs s.dev.quiet h, settle_saf]
    exact ⟨(acts_unlockFails _).onlyParts (by decide), rfl⟩
  · refine ⟨_, onDev_next s (safInputChange .key chB false), ?_⟩
    rw [show safInputChange .key chB false s.regs s.dev.quiet = safKey false s.dev.quiet from rfl, settle_saf]
    refine ⟨(acts_modSaf _ s.dev.quiet).onlyParts (by decide), rfl, ?_, fun h => ?_, rfl⟩
    · cases h : s.dev.saf.unlockAt <;> simp [safKey, h]
    · obtain ⟨u, hu⟩ := Option.ne_none_iff_exists'.mp h
      simp [safKey, hu, wrapInc]
  · refine ⟨_, onDev_next s safUnlockTimeout, ?_⟩
    have hexp : safUnlockTimeout s.regs s.dev.quiet = unlockFails s.dev.quiet := by
      unfold safUnlockTimeout
      simp only [show s.dev.quiet.saf.unlockAt = some u from hat]
      exact if_pos ht
    rw [hexp, settle_saf]
    exact ⟨(acts_unlockFails _).onlyParts (by decide), rfl⟩
  · refine ⟨_, onDev_next s (safConfigExit true), ?_⟩
    have hexp : safConfigExit true s.regs s.dev.quiet = s.dev.quiet := if_neg (by
      obtain h | h := h <;> simp [h])
    rw [hexp]
    exact onlyParts_quiet _ s s.regs

end Sys2Proof
end

section
/-! PROOFS. The heartbeat [15 R438 R461]. -/

namespace Sys2Proof

open Sys2Proof.Machine

/-! ### What the settled state sends -/

theorem mem_sendVec (o : Output) (v : Nat) (d : Dev) (h : o ∈ (sendVec v d).out) : o ∈ d.out ∨ ∃ a x, o = .msix v a x := by
  unfold sendVec at h
  dsimp only at h
  split at h
  · exact .inl h
  · split at h
    · exact .inl h
    · obtain h | h := List.mem_append.mp h
      · exact .inl h
      · exact .inr ⟨_, _, List.mem_singleton.mp h⟩

/-- Settling sends the messages of vectors and nothing else. -/
theorem out_of_settle (o : Output) (r : Regs) (d : Dev) (h : o ∈ (settle r d).out) : o ∈ d.out ∨ ∃ v a x, o = .msix v a x := by
  refine foldN_keeps (fun b : Dev => o ∈ b.out → o ∈ d.out ∨ ∃ v a x, o = .msix v a x) 32
    (fun v a => if (vecPend r d).testBit v && !(d.irq.pend.testBit v) then sendVec v a else a) d (fun v b hb ho => ?_) .inl h
  split at ho
  · obtain ho | ⟨a, x, ho⟩ := mem_sendVec o v b ho
    · exact hb ho
    · exact .inr ⟨v, a, x, ho⟩
  · exact hb ho

/-! ### The wires -/

theorem hbToggle_due (r : Regs) (d : Dev) (hp : d.pair.permit.isSome = true) (ht : d.pair.hbOutAt + 500000 ≤ d.tb3) :
    hbToggle r d = emit (.pin pinHbOut (!(d.pair.hbOut))) { d with pair := { d.pair with hbOut := !(d.pair.hbOut), hbOutAt := d.tb3 } } :=
  if_pos (by simp [hp, ht])

theorem hbToggle_idle (r : Regs) (d : Dev) (hp : d.pair.permit = none) : hbToggle r d = d := if_neg (by simp [hp])

theorem acts_silentWatch (r : Regs) (d : Dev) : Acts [.pair] (silentWatch r d) d := acts_pair d _

/-- The watch of silence changes its own instant alone. -/
theorem silentWatch_pair (r : Regs) (d : Dev) : ∃ x, (silentWatch r d).pair = { d.pair with silentAt := x } := ⟨_, rfl⟩

/-- An edge of HB_IN taken: the length of the run of edges at the right spacing. -/
def hbEdgeTaken (n : Nat) (d : Dev) : Dev :=
  { d with pair := { d.pair with hbInAt := some d.now, hbInRun := n, hbIn := d.pair.hbIn || n == 3 } }

/-- The run of edges after one that follows the last by `gap` ticks. -/
def edgeRun (run gap : Nat) : Nat := if decide (100000 ≤ gap) && decide (gap ≤ 150000) then min (run + 1) 3 else 1

theorem hbInEdge_after (r : Regs) (d : Dev) (u : Nat) (h : d.pair.hbInAt = some u) :
    hbInEdge r d = silentWatch r (hbEdgeTaken (edgeRun d.pair.hbInRun (d.now - u)) d) := by
  unfold hbInEdge
  simp only [h]
  rfl

theorem acts_hbEdgeTaken (n : Nat) (d : Dev) : Acts [.pair] (hbEdgeTaken n d) d := acts_pair d _

/-- HB_IN stopped. -/
def hbStopped (d : Dev) : Dev := { d with pair := { d.pair with hbIn := false, hbInRun := 0 } }

theorem hbInStop_due (r : Regs) (d : Dev) (u : Nat) (h : d.pair.hbInAt = some u) (ht : u + 300000 ≤ d.now) :
    hbInStop r d = silentWatch r (partnerLost d.lost (hbStopped d)) := by
  refine if_pos ?_
  rw [h]
  exact decide_eq_true ht

theorem acts_partnerLost (before : Bool) (d : Dev) : Acts [.irq] (partnerLost before d) d := acts_raiseIf _ _ _ d

theorem partnerLost_pair (before : Bool) (d : Dev) : (partnerLost before d).pair = d.pair := raiseIf_pair _ _ _ d

/-- Settles O38. -/
theorem heartbeat : Obligations.Heartbeat := by
  unfold Obligations.Heartbeat
  refine ⟨fun s hp ht => ?_, fun s hp => ?_, fun s u hu => ?_, fun s u hu ht hraw => ?_⟩
  · refine ⟨_, onDev_next s hbToggle, ?_⟩
    rw [hbToggle_due s.regs s.dev.quiet hp ht, settle_pair]
    exact ⟨((acts_emit _ _).trans (acts_pair _ _)).onlyParts (by decide), rfl, mem_settle_out _ _ _ (mem_emit_self _ _)⟩
  · refine ⟨_, onDev_next s hbToggle, ?_⟩
    rw [hbToggle_idle s.regs s.dev.quiet hp]
    refine ⟨onlyParts_quiet _ s s.regs, fun b hb => ?_⟩
    obtain h | ⟨v, a, x, h⟩ := out_of_settle _ s.regs s.dev.quiet hb
    · exact absurd h (List.not_mem_nil)
    · exact absurd h (by simp)
  · refine ⟨_, onDev_next s hbInEdge, ?_⟩
    rw [hbInEdge_after s.regs s.dev.quiet u hu, settle_pair]
    obtain ⟨x, hx⟩ := silentWatch_pair s.regs (hbEdgeTaken (edgeRun s.dev.quiet.pair.hbInRun (s.dev.quiet.now - u)) s.dev.quiet)
    have hacts := (acts_silentWatch s.regs (hbEdgeTaken (edgeRun s.dev.quiet.pair.hbInRun (s.dev.quiet.now - u)) s.dev.quiet)).also (acts_hbEdgeTaken _ _)
    rw [hx]
    refine ⟨hacts.onlyParts (by decide), rfl, fun h1 h2 h3 => ?_, fun h => ?_⟩
    · have hrun : edgeRun s.dev.quiet.pair.hbInRun (s.dev.quiet.now - u) = 3 := by
        rw [show s.dev.quiet.pair.hbInRun = 2 from h3]
        exact if_pos (by simp [h1, h2])
      rw [hrun]
      exact ⟨Bool.or_true _, rfl⟩
    · have hrun : edgeRun s.dev.quiet.pair.hbInRun (s.dev.quiet.now - u) = 1 := by
        refine if_neg ?_
        rw [Bool.and_eq_true, decide_eq_true_eq, decide_eq_true_eq]
        rintro ⟨h1, h2⟩
        obtain h | h := h
        · exact absurd h (Nat.not_lt.mpr h1)
        · exact absurd h (Nat.not_lt.mpr h2)
      rw [hrun]
      exact ⟨rfl, Bool.or_false _⟩
  · refine ⟨_, onDev_next s hbInStop, ?_⟩
    rw [hbInStop_due s.regs s.dev.quiet u hu ht, settle_pair, settle_raw]
    have hlost : Acts [.irq, .pair] (partnerLost s.dev.quiet.lost (hbStopped s.dev.quiet)) s.dev.quiet := (acts_partnerLost _ _).trans (acts_pair _ _)
    have hpair := partnerLost_pair s.dev.quiet.lost (hbStopped s.dev.quiet)
    obtain ⟨x, hx⟩ := silentWatch_pair s.regs (partnerLost s.dev.quiet.lost (hbStopped s.dev.quiet))
    have hwatch := acts_silentWatch s.regs (partnerLost s.dev.quiet.lost (hbStopped s.dev.quiet))
    rw [hx, hpair]
    refine ⟨(hwatch.trans hlost).onlyParts (by decide), rfl, rfl, rfl, fun hl hin => hwatch.raised.bit _ _ ?_⟩
    have hcond : (!s.dev.quiet.lost && !((hbStopped s.dev.quiet).linkUp) && !((hbStopped s.dev.quiet).pair.hbIn)) = true := by
      have h1 : s.dev.quiet.lost = false := by
        rw [Dev.lost, show s.dev.quiet.pair.hbIn = true from hin]
        simp
      have h2 : (hbStopped s.dev.quiet).linkUp = false := hl
      rw [h1, h2]
      rfl
    rw [partnerLost, hcond]
    exact raise_testBit_self 0x27 2 (hbStopped s.dev.quiet) hraw

end Sys2Proof
end

section
/-! PROOFS. The link up and down [15 R430 R431 R433]. -/

namespace Sys2Proof

open Sys2Proof.Machine

/-! ### Changes of the pair state -/

theorem acts_pairState (r : Regs) (st : PState) (cause : Nat) (d : Dev) : Acts [.irq, .evt, .pair] (pairTo r st cause d) d :=
  ⟨within_pairTo r st cause d, (acts_pairTo r st cause d).raised⟩

/-- The judgement of synchrony changes the pair state alone, with its interrupt and event. -/
theorem acts_syncJudge (r : Regs) (d : Dev) : Acts [.irq, .evt, .pair] (syncJudge r d) d := by
  unfold syncJudge
  split
  · exact .when (acts_pairState r _ _ d)
  · exact .ite (acts_pairState r _ _ d) (.ite (acts_pairState r _ _ d) (.when (acts_pairState r _ _ d)))
  · exact .when (acts_pairState r _ _ d)
  · exact .unless (acts_pairState r _ _ d)
  · exact .refl _ d

theorem acts_linkRules (r : Regs) (d : Dev) : Acts roleParts (linkRules r d) d := by
  unfold linkRules
  refine .unless (.ite (.ite (acts_stopCommanding r _ _ d) (acts_pairTo r _ _ d)) (.unless ?_))
  split
  · exact acts_seekByLink r d
  · exact .ite (acts_stopCommanding r _ _ d) (acts_pairTo r _ _ d)
  · exact .when (acts_stopCommanding r _ _ d)
  · exact .when (acts_stopCommanding r _ _ d)
  · exact .when (acts_pairTo r _ _ d)
  · exact .refl _ d

/-! ### What the roles keep of page NDL -/

/-- Page NDL is kept but for the tick and the number of the last frame sent. -/
def NdlKept (b a : Dev) : Prop := ∃ tx n, b.ndl = { a.ndl with lastTx := tx, seq := n }

theorem NdlKept.refl (d : Dev) : NdlKept d d := ⟨d.ndl.lastTx, d.ndl.seq, rfl⟩

theorem NdlKept.trans {c b a : Dev} (h : NdlKept c b) (g : NdlKept b a) : NdlKept c a := by
  obtain ⟨tx, n, h⟩ := h
  obtain ⟨tx', n', g⟩ := g
  exact ⟨tx, n, by rw [h, g]⟩

theorem NdlKept.ite {c : Prop} [Decidable c] {a b d : Dev} (ha : NdlKept a d) (hb : NdlKept b d) : NdlKept (if c then a else b) d := by
  split
  · exact ha
  · exact hb

/-- What acts outside page NDL keeps it. -/
theorem Acts.ndlKept {l : List Part} {b a : Dev} (h : Acts l b a) (hl : Part.ndl ∉ l) : NdlKept b a :=
  ⟨a.ndl.lastTx, a.ndl.seq, h.agree .ndl hl⟩

theorem ndlKept_ndlSend (t : NdlType) (w : List Nat) (d : Dev) : NdlKept (ndlSend t w d) d := ⟨_, _, rfl⟩

theorem ndlKept_pairTo (r : Regs) (st : PState) (cause : Nat) (d : Dev) : NdlKept (pairTo r st cause d) d :=
  (acts_pairState r st cause d).ndlKept (by decide)

theorem ndlKept_setRole (b : Bool) (d : Dev) : NdlKept (setRole b d) d := .ite (.refl d) ⟨d.ndl.lastTx, d.ndl.seq, rfl⟩

theorem ndlKept_stopCommanding (r : Regs) (st : PState) (cause : Nat) (d : Dev) : NdlKept (stopCommanding r st cause d) d := by
  have hstop (a : Dev) : NdlKept (failAll r (setRole false (pairTo r st cause a))) a :=
    ((acts_failAll r _).ndlKept (by decide)).trans ((ndlKept_setRole false _).trans (ndlKept_pairTo r st cause a))
  exact (NdlKept.ite (ndlKept_ndlSend _ _ _) (.refl _)).trans ((hstop _).trans ⟨d.ndl.lastTx, d.ndl.seq, rfl⟩)

theorem ndlKept_takeCommand (r : Regs) (cause : Nat) (d : Dev) : NdlKept (takeCommand r cause d) d := by
  by_cases hid : d.ndl.idClash = true
  · rw [takeCommand, if_pos hid]
    exact .refl d
  · obtain ⟨stale, take, left, hsteps⟩ := takeCommand_steps r cause d (by simpa using hid)
    have hawait : NdlKept (awaitFirst stale take left (pairTo r (newPrimary d) cause d)) d :=
      ⟨d.ndl.lastTx, d.ndl.seq, (within_awaitFirst r _ stale take left cause d).agree .ndl (by decide)⟩
    rw [hsteps]
    refine .ite (NdlKept.trans ?_ hawait) hawait
    exact ⟨_, _, (within_takeOver r cause _).agree .ndl (by decide)⟩

theorem ndlKept_seekByLink (r : Regs) (d : Dev) : NdlKept (seekByLink r d) d :=
  .ite (.ite (ndlKept_pairTo r _ _ d) (.ite (ndlKept_pairTo r _ _ d) (.ite (ndlKept_takeCommand r _ d) (ndlKept_pairTo r _ _ d)))) (.refl d)

theorem ndlKept_linkRules (r : Regs) (d : Dev) : NdlKept (linkRules r d) d := by
  unfold linkRules
  refine .ite (.refl d) (.ite (.ite (ndlKept_stopCommanding r _ _ d) (ndlKept_pairTo r _ _ d)) (.ite (.refl d) ?_))
  split
  · exact ndlKept_seekByLink r d
  · exact .ite (ndlKept_stopCommanding r _ _ d) (ndlKept_pairTo r _ _ d)
  · exact .ite (ndlKept_stopCommanding r _ _ d) (.refl d)
  · exact .ite (ndlKept_stopCommanding r _ _ d) (.refl d)
  · exact .ite (ndlKept_pairTo r _ _ d) (.refl d)
  · exact .refl d

/-! ### HELLO -/

/-- The interrupts of a HELLO on a link that was down. -/
def helloRaised (h : Hello) (d : Dev) : Dev :=
  raiseIf ((h.grade != d.sys.grade) && !(d.ndl.gradeMismatch)) 0x26 5
    (raiseIf ((h.unitId == d.pair.unitId) && !(d.ndl.idClash)) 0x26 4 (raiseIf true 0x26 0 d))

/-- What a HELLO tells of the partner, on a link that was down. -/
def helloTold (h : Hello) (two clash grade : Bool) (d : Dev) : Dev :=
  { d with
    ndl := { d.ndl with
      link := true, training := false, downAt := none, lane0 := true, lane1 := two
      idClash := d.ndl.idClash || clash, gradeMismatch := grade, partnerId := h.unitId, partnerGrade := h.grade
      partnerImage := h.image, partnerPending := h.pending, partnerCommands := h.commands, lastGood := true
      trainings := wrapInc 16 d.ndl.trainings, exchanged := false }
    pair := { d.pair with partnerSynced := h.synced, partnerReady := h.ready } }

/-- The unit's own HELLO sent. -/
def helloSent (d : Dev) : Dev := ndlSend .hello [d.pair.unitId, d.sys.grade, d.descr.imageId, d.descr.rev, b2n d.commands] d

/-- What a HELLO shows of a link that was down, before the rules of the pair. -/
def helloTaken (h : Hello) (r : Regs) (d : Dev) : Dev :=
  helloSent (helloTold h (r.bit F.NDL_CFG_LANES && !(d.tw812) && decide (h.lanes = 2)) (h.unitId == d.pair.unitId) (h.grade != d.sys.grade) (helloRaised h d))

theorem ndlHello_up (h : Hello) (r : Regs) (d : Dev) (hon : ndlOn r d = true) (hl : d.ndl.link = false) :
    ndlHello h r d = silentWatch r (syncJudge r (linkRules r (helloTaken h r d))) := by
  rw [ndlHello, if_neg (by simp [hon])]
  simp only [hl, Bool.not_false, if_true]
  rfl

theorem acts_helloRaised (h : Hello) (d : Dev) : Acts [.irq] (helloRaised h d) d :=
  (acts_raiseIf _ _ _ _).also ((acts_raiseIf _ _ _ _).also (acts_raiseIf _ _ _ d))

theorem acts_helloTold (h : Hello) (two clash grade : Bool) (d : Dev) : Acts [.pair, .ndl] (helloTold h two clash grade d) d :=
  Acts.trans (b := { d with ndl := (helloTold h two clash grade d).ndl }) (acts_pair _ _) (acts_ndl d _)

theorem acts_helloTaken (h : Hello) (r : Regs) (d : Dev) : Acts [.ndl, .pair, .ndl, .irq] (helloTaken h r d) d :=
  (acts_ndlSend _ _ _).trans ((acts_helloTold h _ _ _ _).trans (acts_helloRaised h d))

theorem helloRaised_bit (h : Hello) (d : Dev) (hraw : 0x26 < d.irq.raw.length) : (at' (helloRaised h d).irq.raw 0x26).testBit 0 = true :=
  ((acts_raiseIf _ 0x26 5 _).also (acts_raiseIf _ 0x26 4 _)).raised.bit _ _ (raise_testBit_self 0x26 0 d hraw)

theorem helloTaken_bit (h : Hello) (r : Regs) (d : Dev) (hraw : 0x26 < d.irq.raw.length) : (at' (helloTaken h r d).irq.raw 0x26).testBit 0 = true :=
  ((acts_ndlSend _ _ _).trans (acts_helloTold h _ _ _ _)).raised.bit _ _ (helloRaised_bit h d hraw)

/-- Page NDL after a HELLO on a link that was down. -/
theorem helloTaken_ndl (h : Hello) (r : Regs) (d : Dev) : ∃ two tx n, (helloTaken h r d).ndl = { d.ndl with
    link := true, training := false, downAt := none, lane0 := true, lane1 := two
    idClash := d.ndl.idClash || h.unitId == d.pair.unitId, gradeMismatch := h.grade != d.sys.grade, partnerId := h.unitId, partnerGrade := h.grade
    partnerImage := h.image, partnerPending := h.pending, partnerCommands := h.commands, lastGood := true
    trainings := wrapInc 16 d.ndl.trainings, exchanged := false, lastTx := tx, seq := n } := by
  have hn : (helloRaised h d).ndl = d.ndl := (acts_helloRaised h d).agree .ndl (by decide)
  refine ⟨r.bit F.NDL_CFG_LANES && !(d.tw812) && decide (h.lanes = 2), (helloRaised h d).now, wrapInc 16 (helloRaised h d).ndl.seq, ?_⟩
  rw [← hn]
  rfl

theorem helloTaken_pair (h : Hello) (r : Regs) (d : Dev) :
    (helloTaken h r d).pair = { d.pair with partnerSynced := h.synced, partnerReady := h.ready } := by
  have hp : (helloRaised h d).pair = d.pair := (acts_helloRaised h d).agree .pair (by decide)
  rw [← hp]
  rfl

/-- What follows a HELLO: the rules of the pair, the judgement of synchrony and the watch of silence. -/
def helloRules (r : Regs) (d : Dev) : Dev := silentWatch r (syncJudge r (linkRules r d))

theorem acts_helloRules (r : Regs) (d : Dev) : Acts roleParts (helloRules r d) d :=
  ((acts_silentWatch r _).mono (by decide)).also (((acts_syncJudge r _).mono (by decide)).also (acts_linkRules r d))

theorem ndlKept_helloRules (r : Regs) (d : Dev) : NdlKept (helloRules r d) d :=
  ((acts_silentWatch r _).ndlKept (by decide)).trans (((acts_syncJudge r _).ndlKept (by decide)).trans (ndlKept_linkRules r d))

/-- A unit that starts to synchronise has counted no good set yet. -/
theorem pairTo_syncing_runOk (r : Regs) (cause : Nat) (d : Dev) (h : d.pair.state ≠ .stbySyncing) : (pairTo r .stbySyncing cause d).pair.runOk = 0 := by
  rw [pairTo, if_neg h]
  simp only [record_pair, raise_pair]
  rfl

theorem syncJudge_syncing (r : Regs) (d : Dev) (hs : d.pair.state = .stbySyncing) (hr : d.pair.runOk < 100) : syncJudge r d = d := by
  unfold syncJudge
  simp only [hs]
  refine if_neg ?_
  rw [show decide (100 ≤ d.pair.runOk) = false from decide_eq_false (by omega)]
  simp

/-- A degraded unit whose partner commands starts to synchronise with it. -/
theorem helloRules_degraded (r : Regs) (d : Dev) (hrun : d.mde.dstate = .run) (hsingle : d.single = false) (hid : d.ndl.idClash = false)
    (hl : d.linkUp = true) (hc : d.ndl.partnerCommands = true) (hs : d.pair.state = .degraded) : (helloRules r d).pair.state = .stbySyncing := by
  have hrules : linkRules r d = pairTo r .stbySyncing 1 d := by
    unfold linkRules
    rw [if_neg (by simp [hsingle, Dev.running, hrun]), if_neg (by simp [hid]), if_neg (by simp [hl])]
    simp only [hs]
    exact if_pos hc
  have hto := pairTo_state r .stbySyncing 1 d
  have hok := pairTo_syncing_runOk r 1 d (by rw [hs]; decide)
  rw [helloRules, hrules, syncJudge_syncing r _ hto (by omega)]
  exact hto

/-- A HELLO brings the link up. -/
theorem hello_shows (s : State) (h : Hello) (hon : ndlOn s.regs s.dev = true) (hl : s.dev.ndl.link = false) (hraw : 0x26 < s.dev.irq.raw.length) :
    ∃ t, exec (.ndlHello h) s = .next t ∧ t.regs = s.regs ∧ t.mem = s.mem ∧ t.dev.ndl.link = true ∧ t.dev.ndl.partnerId = h.unitId ∧
      t.dev.ndl.gradeMismatch = (h.grade != s.dev.sys.grade) ∧ t.dev.ndl.idClash = (s.dev.ndl.idClash || h.unitId == s.dev.pair.unitId) ∧
      t.dev.ndl.trainings = (s.dev.ndl.trainings + 1) % 2 ^ 16 ∧ (at' t.dev.irq.raw 0x26).testBit 0 = true ∧
      (s.dev.mde.dstate = .run → s.dev.single = false → t.dev.ndl.idClash = false → h.grade = s.dev.sys.grade → h.commands = true →
        s.dev.pair.state = .degraded → t.dev.pair.state = .stbySyncing) := by
  refine ⟨_, onDev_next s (ndlHello h), rfl, rfl, ?_⟩
  rw [ndlHello_up h s.regs s.dev.quiet hon hl, settle_ndl, settle_pair, settle_raw]
  obtain ⟨two, tx, n, hndl⟩ := helloTaken_ndl h s.regs s.dev.quiet
  have hpair := helloTaken_pair h s.regs s.dev.quiet
  have hbit := helloTaken_bit h s.regs s.dev.quiet hraw
  have hacts := acts_helloTaken h s.regs s.dev.quiet
  generalize helloTaken h s.regs s.dev.quiet = a at hndl hpair hbit hacts ⊢
  obtain ⟨tx', n', hkept⟩ := ndlKept_helloRules s.regs a
  have hrules := acts_helloRules s.regs a
  rw [show silentWatch s.regs (syncJudge s.regs (linkRules s.regs a)) = helloRules s.regs a from rfl, hkept, hndl]
  refine ⟨rfl, rfl, rfl, rfl, rfl, hrules.raised.bit _ _ hbit, fun hrun hsingle hid hgrade hcmd hst => ?_⟩
  refine helloRules_degraded s.regs a ?_ ?_ ?_ ?_ ?_ ?_
  · rw [show a.mde = s.dev.mde from hacts.agree .mde (by decide)]
    exact hrun
  · rw [Dev.single, Dev.descr, show a.cfg = s.dev.cfg from hacts.agree .cfg (by decide)]
    exact hsingle
  · rw [hndl]
    exact hid
  · rw [Dev.linkUp, hndl]
    simp [hgrade]
  · rw [hndl]
    exact hcmd
  · rw [hpair]
    exact hst

/-! ### The link down -/

/-- The link cut: down and counted, with what it brought of the partner lost. -/
def linkCut (d : Dev) : Dev :=
  raise 0x26 1 { d with
    ndl := { d.ndl with
      link := false, lane0 := false, lane1 := false, training := false, downs := wrapInc 8 d.ndl.downs
      downAt := some d.now, exchanged := false, partnerCommands := false, ofs := 0 }
    pair := { d.pair with partnerSynced := false, partnerReady := false, bulkFrags := [], bulkBad := false } }

/-- What becomes of a unit's state as its link is lost. -/
def stateUnlinked (r : Regs) (d : Dev) : Dev :=
  match d.pair.state with
  | .primSyncing | .primSynced => pairTo r .primAlone 2 d
  | .stbySyncing | .stbySynced => pairTo r .degraded 2 d
  | _ => d

theorem linkLost_up (r : Regs) (d : Dev) (h : d.ndl.link = true) :
    linkLost r d = silentWatch r (partnerLost d.lost (stateUnlinked r (linkCut d))) := if_neg (by simp [h])

theorem acts_linkCut (d : Dev) : Acts [.irq, .pair, .ndl] (linkCut d) d :=
  (acts_raise 0x26 1 _).trans (Acts.trans (b := { d with ndl := (linkCut d).ndl }) (acts_pair _ _) (acts_ndl d _))

theorem acts_stateUnlinked (r : Regs) (d : Dev) : Acts [.irq, .evt, .pair] (stateUnlinked r d) d := by
  unfold stateUnlinked
  split
  · exact acts_pairState r _ _ d
  · exact acts_pairState r _ _ d
  · exact acts_pairState r _ _ d
  · exact acts_pairState r _ _ d
  · exact .refl _ d

/-- A unit whose link is lost goes from a primary state to PRIMARY_ALONE, from a standby's to DEGRADED. -/
theorem stateUnlinked_state (r : Regs) (d : Dev) :
    (d.pair.state = .primSyncing ∨ d.pair.state = .primSynced →
      (stateUnlinked r d).pair.state = .primAlone ∧ (stateUnlinked r d).pair.cause = 2) ∧
    (d.pair.state = .stbySyncing ∨ d.pair.state = .stbySynced →
      (stateUnlinked r d).pair.state = .degraded ∧ (stateUnlinked r d).pair.cause = 2) := by
  have hto (st : PState) (hne : d.pair.state ≠ st) : (pairTo r st 2 d).pair.state = st ∧ (pairTo r st 2 d).pair.cause = 2 := by
    obtain ⟨ok, miss, cuts, next, hp⟩ := pairTo_pair r st 2 d hne
    rw [hp]
    exact ⟨rfl, rfl⟩
  refine ⟨fun h => ?_, fun h => ?_⟩
  · have heq : stateUnlinked r d = pairTo r .primAlone 2 d := by
      unfold stateUnlinked
      obtain h | h := h <;> simp only [h]
    rw [heq]
    exact hto .primAlone (by obtain h | h := h <;> rw [h] <;> decide)
  · have heq : stateUnlinked r d = pairTo r .degraded 2 d := by
      unfold stateUnlinked
      obtain h | h := h <;> simp only [h]
    rw [heq]
    exact hto .degraded (by obtain h | h := h <;> rw [h] <;> decide)

/-- A link lost: what it shows of the link and of the unit's state. -/
theorem linkLost_shows (r : Regs) (d : Dev) (h : d.ndl.link = true) (hraw : 0x26 < d.irq.raw.length) :
    Acts [.ndl, .irq, .pair, .evt] (linkLost r d) d ∧ (linkLost r d).ndl.link = false ∧ (linkLost r d).ndl.downs = wrapInc 8 d.ndl.downs ∧
      (linkLost r d).ndl.downAt = some d.now ∧ (at' (linkLost r d).irq.raw 0x26).testBit 1 = true ∧
      (d.pair.state = .primSyncing ∨ d.pair.state = .primSynced → (linkLost r d).pair.state = .primAlone ∧ (linkLost r d).pair.cause = 2) ∧
      (d.pair.state = .stbySyncing ∨ d.pair.state = .stbySynced → (linkLost r d).pair.state = .degraded ∧ (linkLost r d).pair.cause = 2) := by
  rw [linkLost_up r d h]
  have hcut := acts_linkCut d
  have hn : (linkCut d).ndl.link = false ∧ (linkCut d).ndl.downs = wrapInc 8 d.ndl.downs ∧ (linkCut d).ndl.downAt = some d.now := ⟨rfl, rfl, rfl⟩
  have hst : (linkCut d).pair.state = d.pair.state := rfl
  have hbit : (at' (linkCut d).irq.raw 0x26).testBit 1 = true := raise_testBit_self 0x26 1 _ hraw
  generalize linkCut d = a at hcut hn hst hbit ⊢
  have hrest : Acts [.pair, .irq, .irq, .evt, .pair] (silentWatch r (partnerLost d.lost (stateUnlinked r a))) a :=
    (acts_silentWatch r _).trans ((acts_partnerLost _ _).trans (acts_stateUnlinked r a))
  have hndl : (silentWatch r (partnerLost d.lost (stateUnlinked r a))).ndl = a.ndl := hrest.agree .ndl (by decide)
  obtain ⟨x, hx⟩ := silentWatch_pair r (partnerLost d.lost (stateUnlinked r a))
  have hstate := stateUnlinked_state r a
  rw [hst] at hstate
  rw [hndl, hx, partnerLost_pair]
  exact ⟨(hrest.trans hcut).mono (by decide), hn.1, hn.2.1, hn.2.2, hrest.raised.bit _ _ hbit, hstate.1, hstate.2⟩

/-- A failed frame, where the link went down on one. -/
def lastFrame (crc : Bool) (d : Dev) : Dev := if crc && d.ndl.link then ndlFrame false d else d

theorem ndlLinkDown_eq (crc : Bool) (r : Regs) (d : Dev) : ndlLinkDown crc r d = linkLost r (lastFrame crc d) := rfl

theorem acts_ndlFrame (ok : Bool) (d : Dev) : Acts [.irq, .ndl] (ndlFrame ok d) d :=
  .ite ((acts_ndl d _).mono (by decide)) ((acts_raiseIf _ 0x26 3 _).trans (acts_ndl d _))

theorem lastFrame_shows (crc : Bool) (d : Dev) : Acts [.irq, .ndl] (lastFrame crc d) d ∧ (lastFrame crc d).ndl.link = d.ndl.link ∧
    (lastFrame crc d).ndl.downs = d.ndl.downs := by
  unfold lastFrame
  split
  · refine ⟨acts_ndlFrame false d, ?_⟩
    rw [ndlFrame_false_ndl]
    exact ⟨rfl, rfl⟩
  · exact ⟨.refl _ d, rfl, rfl⟩

/-- Settles O39. -/
theorem linkUpAndDown : Obligations.LinkUpAndDown := by
  unfold Obligations.LinkUpAndDown
  refine ⟨hello_shows, fun s crc hl hraw => ?_, fun s hon hl ht => ?_, fun s lane hl h0 h1 htw hraw => ?_, fun s hl ht => ?_⟩
  · refine ⟨_, onDev_next s (ndlLinkDown crc), ?_⟩
    obtain ⟨hframe, hlink, hdowns⟩ := lastFrame_shows crc s.dev.quiet
    have hpair : (lastFrame crc s.dev.quiet).pair = s.dev.pair := hframe.agree .pair (by decide)
    have hnow : (lastFrame crc s.dev.quiet).now = s.dev.now := hframe.within.now
    have hlen : 0x26 < (lastFrame crc s.dev.quiet).irq.raw.length := hframe.raised.length.symm ▸ hraw
    rw [ndlLinkDown_eq, settle_ndl, settle_pair, settle_raw]
    generalize lastFrame crc s.dev.quiet = a at hframe hlink hdowns hpair hnow hlen ⊢
    obtain ⟨hacts, h1, h2, h3, h4, h5, h6⟩ := linkLost_shows s.regs a (hlink.trans hl) hlen
    rw [hdowns] at h2
    rw [hnow] at h3
    rw [hpair] at h5 h6
    exact ⟨(hacts.trans hframe).onlyParts (by decide), h1, h2, h3, h4, h5, h6⟩
  · refine ⟨_, onDev_next s ndlRetrain, ?_⟩
    have hdue : (match s.dev.quiet.ndl.downAt with | some u => decide (u + ticksMs 1 ≤ s.dev.quiet.now) | none => true) = true := by
      cases h : s.dev.ndl.downAt with
      | none => rw [show s.dev.quiet.ndl.downAt = none from h]
      | some u =>
        rw [show s.dev.quiet.ndl.downAt = some u from h]
        exact decide_eq_true (ht u h)
    have hexp : ndlRetrain s.regs s.dev.quiet = { s.dev.quiet with ndl := { s.dev.ndl with training := true, downAt := none } } := by
      refine if_pos ?_
      rw [Bool.and_eq_true, Bool.and_eq_true]
      exact ⟨⟨hon, by rw [show s.dev.quiet.ndl.link = false from hl]; rfl⟩, hdue⟩
    rw [hexp, settle_ndl]
    exact ⟨(acts_ndl _ _).onlyParts (by decide), rfl⟩
  · refine ⟨_, onDev_next s (ndlLaneDown lane), ?_⟩
    have hexp : ndlLaneDown lane s.regs s.dev.quiet = raise 0x26 2 { s.dev.quiet with ndl := { s.dev.ndl with
        lane0 := decide (lane ≠ 0), lane1 := decide (lane = 0), laneDowns := wrapInc 8 s.dev.ndl.laneDowns } } :=
      if_pos (by simp [hl, h0, h1, show s.dev.quiet.tw812 = false from htw])
    rw [hexp, settle_ndl, settle_raw]
    exact ⟨((acts_raise _ _ _).trans (acts_ndl _ _)).onlyParts (by decide), hl, rfl, rfl, rfl, raise_testBit_self 0x26 2 _ hraw⟩
  · refine ⟨_, onDev_next s keepalive, ?_⟩
    have hexp : keepalive s.regs s.dev.quiet = ndlSend .keepalive [] s.dev.quiet := if_pos (by simp [hl, ticksUs, ht])
    rw [hexp, settle_ndl]
    exact ⟨(acts_ndlSend _ _ _).onlyParts (by decide), rfl, mem_settle_out _ _ _ (mem_emit_self _ _)⟩

end Sys2Proof
end

section
/-! PROOFS. Pair time [05 R157, 15 R430 R437]. -/

namespace Sys2Proof

open Sys2Proof.Machine

/-! ### What leaves the device as the pair state changes -/

theorem record_out (r : Regs) (e : Ev) (x : Par) (d : Dev) : (record r e x d).out = d.out := by
  obtain ⟨v, i, h⟩ := record_shape r e x d
  rw [h]

theorem pairTo_out (r : Regs) (st : PState) (cause : Nat) (d : Dev) : (pairTo r st cause d).out = d.out := by
  unfold pairTo
  split
  · rfl
  · rw [record_out]
    dsimp only
    split <;> split <;> rfl

theorem syncJudge_out (r : Regs) (d : Dev) : (syncJudge r d).out = d.out := by
  have hwhen (c : Bool) (a : Dev) (h : a.out = d.out) : (if c then a else d).out = d.out := by
    split
    · exact h
    · rfl
  unfold syncJudge
  split
  · exact hwhen _ _ (pairTo_out r _ _ d)
  · split
    · exact pairTo_out r _ _ d
    · split
      · exact pairTo_out r _ _ d
      · exact hwhen _ _ (pairTo_out r _ _ d)
  · exact hwhen _ _ (pairTo_out r _ _ d)
  · split
    · rfl
    · exact pairTo_out r _ _ d
  · rfl

/-! ### What an offset keeps of page NDL -/

theorem ndlKept_tb0Hold (ns : Int) (d : Dev) : NdlKept (tb0Hold ns d) d := by
  have hheld : NdlKept (offsetHeld ns d) d := (acts_gns2 d _).ndlKept (by decide)
  have hset : NdlKept (stepSet ns (offsetHeld ns d)) d := NdlKept.trans (b := offsetHeld ns d) ((acts_gns2 _ _).ndlKept (by decide)) hheld
  rw [tb0Hold_eq]
  exact .ite (.ite ((ndlKept_ndlSend _ _ _).trans hset) hset) hheld

theorem ndlKept_offsetJudged (r : Regs) (ps : Int) (inhibit : Bool) (d : Dev) : NdlKept (offsetJudged r ps inhibit d) d := by
  have hfeed (a : Dev) : NdlKept (tb0Feed r ps a) a := (acts_tb0Feed r ps a).ndlKept (by decide)
  have hslew : NdlKept (tb0Feed r ps (setTime .slewing d)) d := (hfeed _).trans ((acts_setTime .slewing d).ndlKept (by decide))
  have hfed (st : TimeState) : NdlKept (stateFed r ps st d) d := (acts_stateFed r ps st d).ndlKept (by decide)
  unfold offsetJudged
  cases d.gns2.st with
  | unsync => exact ndlKept_tb0Hold _ d
  | locked => exact .ite (hfeed d) (.ite hslew (ndlKept_tb0Hold _ d))
  | holdover => exact .ite (hfed _) (.ite (hfed _) (ndlKept_tb0Hold _ d))
  | slewing => exact .ite (hfed _) (.ite (hfed _) (ndlKept_tb0Hold _ d))

theorem ndlKept_tb0Offset (r : Regs) (ps : Int) (d : Dev) : NdlKept (tb0Offset r ps d) d := by
  by_cases h : srvMode r d 0 = 1
  · obtain ⟨inhibit, heq⟩ := tb0Offset_mode r ps d h
    have hnoted : Acts [.tim, .gns2] (offsetNoted ps d) d := ((within_modSrv 0 _ _).acts (by decide)).trans (acts_gns2 d _)
    rw [heq]
    exact (ndlKept_offsetJudged r ps inhibit _).trans (hnoted.ndlKept (by decide))
  · rw [show tb0Offset r ps d = d from if_pos h]
    exact .refl d

/-! ### The exchange [15 R437] -/

/-- The offset and the delay of the exchange before, as page NDL shows them. -/
def exchangeShown (ofs : Int) (delay : Nat) (d : Dev) : Dev := { d with ndl := { d.ndl with ofs := ofs, delay := delay } }

/-- The one-way delay of the exchange before, ns. -/
def exchangeDelay (n : NdlSt) (t4 : Nat) : Nat := ((((n.t2 : Int) - n.t1) + ((t4 : Int) - n.t3)) / 2).toNat % 2 ^ 16

/-- The offset of the exchange before, ps. -/
def exchangePs (r : Regs) (n : NdlSt) (t4 : Nat) : Int := 500 * (((n.t2 : Int) - n.t1) - ((t4 : Int) - n.t3)) + 500 * r.int F.NDL_ASYM_ASYM

/-- The exchange before judged, where there was one. -/
def exchangeJudged (r : Regs) (n : NdlSt) (t4 : Nat) (d : Dev) : Dev :=
  if n.exchanged then tb0Offset r (exchangePs r n t4) (exchangeShown (wrapS 32 (exchangePs r n t4 / 1000)) (exchangeDelay n t4) d) else d

/-- The stamps of an exchange kept for the next. -/
def stampsKept (t1 t2 t3 t4 : Nat) (d : Dev) : Dev := { d with ndl := { d.ndl with t1 := t1, t2 := t2, t3 := t3, t4 := t4, exchanged := true } }

/-- The standby's answer. -/
def replySent (t2 t3 : Nat) (d : Dev) : Dev := ndlSend .timeReply [t2, t3, b2n (d.pair.state == .stbySynced), b2n d.takeReady] d

theorem timeFrame_follows (t1 t4 t2 t3 : Nat) (r : Regs) (d : Dev) (hl : d.linkUp = true) (hf : d.followsPartner = true) :
    timeFrame t1 t4 t2 t3 r d = syncJudge r (replySent t2 t3 (stampsKept t1 t2 t3 t4 (exchangeJudged r d.ndl t4 (ndlFrame true d)))) :=
  if_neg (by simp [hl, hf])

/-- The delay of the exchange before is shown once it is judged. -/
theorem exchangeJudged_delay (r : Regs) (n : NdlSt) (t4 : Nat) (d : Dev) (h : n.exchanged = true) :
    (exchangeJudged r n t4 d).ndl.delay = exchangeDelay n t4 := by
  obtain ⟨tx, k, hk⟩ := ndlKept_tb0Offset r (exchangePs r n t4) (exchangeShown (wrapS 32 (exchangePs r n t4 / 1000)) (exchangeDelay n t4) d)
  rw [exchangeJudged, if_pos h, hk]
  rfl

/-- A TIME frame answered: the stamps kept, the answer sent, and the delay of the exchange before. -/
theorem timeFrame_shows (t1 t4 t2 t3 : Nat) (r : Regs) (d : Dev) (hl : d.linkUp = true) (hf : d.followsPartner = true) :
    let a := timeFrame t1 t4 t2 t3 r d
    a.ndl.t1 = t1 ∧ a.ndl.t2 = t2 ∧ a.ndl.t3 = t3 ∧ a.ndl.t4 = t4 ∧ a.ndl.exchanged = true ∧ (∃ w, Output.ndl 3 w ∈ a.out) ∧
      (d.ndl.exchanged = true → a.ndl.delay = exchangeDelay d.ndl t4) := by
  have hdelay := exchangeJudged_delay r d.ndl t4 (ndlFrame true d)
  rw [timeFrame_follows t1 t4 t2 t3 r d hl hf]
  generalize exchangeJudged r d.ndl t4 (ndlFrame true d) = e at hdelay ⊢
  have hndl : (syncJudge r (replySent t2 t3 (stampsKept t1 t2 t3 t4 e))).ndl = (replySent t2 t3 (stampsKept t1 t2 t3 t4 e)).ndl :=
    (acts_syncJudge r _).agree .ndl (by decide)
  simp only [hndl, syncJudge_out]
  exact ⟨rfl, rfl, rfl, rfl, rfl, ⟨_, mem_emit_self _ _⟩, hdelay⟩

/-! ### The primary's side -/

/-- What a TIME_REPLY tells the primary. -/
def replyTaken (t2 t3 t4 : Nat) (synced ready : Bool) (d : Dev) : Dev :=
  ndlFrame true { d with
    ndl := { d.ndl with t2 := t2, t3 := t3, t4 := t4 }, pair := { d.pair with partnerSynced := synced, partnerReady := ready } }

theorem timeReply_taken (t2 t3 t4 : Nat) (synced ready : Bool) (r : Regs) (d : Dev) (hl : d.linkUp = true) (hp : d.isPrimary = true) :
    timeReply t2 t3 t4 synced ready r d = syncJudge r (replyTaken t2 t3 t4 synced ready d) := if_neg (by simp [hl, hp])

theorem acts_replyTaken (t2 t3 t4 : Nat) (synced ready : Bool) (d : Dev) : Acts [.irq, .ndl, .pair, .ndl] (replyTaken t2 t3 t4 synced ready d) d :=
  (acts_ndlFrame true _).trans (Acts.trans (b := { d with ndl := { d.ndl with t2 := t2, t3 := t3, t4 := t4 } }) (acts_pair _ _) (acts_ndl d _))

/-- A primary follows its partner into and out of synchrony; the judgement changes the state and its counts alone. -/
theorem syncJudge_primary (r : Regs) (d : Dev) (hl : d.linkUp = true) (hp : d.isPrimary = true) :
    (syncJudge r d).pair.partnerSynced = d.pair.partnerSynced ∧ (syncJudge r d).pair.partnerReady = d.pair.partnerReady ∧
      (d.pair.state = .primSyncing → d.pair.partnerSynced = true → (syncJudge r d).pair.state = .primSynced) ∧
      (d.pair.state = .primSynced → d.pair.partnerSynced = false → (syncJudge r d).pair.state = .primSyncing) := by
  have hto (st : PState) (hne : d.pair.state ≠ st) : (pairTo r st 0 d).pair.partnerSynced = d.pair.partnerSynced ∧
      (pairTo r st 0 d).pair.partnerReady = d.pair.partnerReady := by
    obtain ⟨ok, miss, cuts, next, h⟩ := pairTo_pair r st 0 d hne
    rw [h]
    exact ⟨rfl, rfl⟩
  unfold syncJudge
  unfold Dev.isPrimary at hp
  cases hs : d.pair.state with
  | primSyncing =>
    dsimp only
    by_cases h : d.pair.partnerSynced = true
    · rw [if_pos (by simp [h, hl])]
      obtain ⟨h1, h2⟩ := hto .primSynced (by rw [hs]; decide)
      exact ⟨h1, h2, fun _ _ => pairTo_state r .primSynced 0 d, fun hc => absurd hc (by decide)⟩
    · rw [if_neg (by simp [h])]
      exact ⟨rfl, rfl, fun _ hc => absurd hc h, fun hc => absurd hc (by decide)⟩
  | primSynced =>
    dsimp only
    by_cases h : d.pair.partnerSynced = true
    · rw [if_pos h]
      exact ⟨rfl, rfl, fun hc => absurd hc (by decide), fun _ hc => absurd (h.symm.trans hc) (by decide)⟩
    · rw [if_neg h]
      obtain ⟨h1, h2⟩ := hto .primSyncing (by rw [hs]; decide)
      exact ⟨h1, h2, fun hc => absurd hc (by decide), fun _ _ => pairTo_state r .primSyncing 0 d⟩
  | primAlone => exact ⟨rfl, rfl, fun hc => absurd hc (by decide), fun hc => absurd hc (by decide)⟩
  | single | seeking | stbySyncing | stbySynced | degraded =>
    rw [hs] at hp
    exact absurd hp (by decide)

/-- Settles O40. -/
theorem pairTime : Obligations.PairTime := by
  unfold Obligations.PairTime
  refine ⟨fun s t1 t4 t2 t3 hl hf => ?_, fun s t2 t3 t4 synced ready hl hp => ?_, fun s sec ofs hl hf => ?_⟩
  · refine ⟨_, onDev_next s (timeFrame t1 t4 t2 t3), rfl, rfl, ?_⟩
    obtain ⟨h1, h2, h3, h4, h5, ⟨w, hw⟩, h6⟩ := timeFrame_shows t1 t4 t2 t3 s.regs s.dev.quiet hl hf
    rw [settle_ndl]
    exact ⟨h1, h2, h3, h4, h5, ⟨w, mem_settle_out _ _ _ hw⟩, h6⟩
  · refine ⟨_, onDev_next s (timeReply t2 t3 t4 synced ready), ?_⟩
    rw [timeReply_taken t2 t3 t4 synced ready s.regs s.dev.quiet hl hp, settle_ndl, settle_pair]
    have hacts := acts_replyTaken t2 t3 t4 synced ready s.dev.quiet
    have hn : (replyTaken t2 t3 t4 synced ready s.dev.quiet).ndl.t2 = t2 ∧ (replyTaken t2 t3 t4 synced ready s.dev.quiet).ndl.t3 = t3 ∧
      (replyTaken t2 t3 t4 synced ready s.dev.quiet).ndl.t4 = t4 := ⟨rfl, rfl, rfl⟩
    have hpair : (replyTaken t2 t3 t4 synced ready s.dev.quiet).pair = { s.dev.pair with partnerSynced := synced, partnerReady := ready } := rfl
    have hup : (replyTaken t2 t3 t4 synced ready s.dev.quiet).linkUp = true := hl
    have hprim : (replyTaken t2 t3 t4 synced ready s.dev.quiet).isPrimary = true := hp
    generalize replyTaken t2 t3 t4 synced ready s.dev.quiet = a at hacts hn hpair hup hprim ⊢
    have hjudge := acts_syncJudge s.regs a
    obtain ⟨hsync, hready, hin, hout⟩ := syncJudge_primary s.regs a hup hprim
    rw [hpair] at hsync hready hin hout
    rw [show (syncJudge s.regs a).ndl = a.ndl from hjudge.agree .ndl (by decide)]
    exact ⟨(hjudge.trans hacts).onlyParts (by decide), hn.1, hn.2.1, hn.2.2, hsync, hready, hin, hout⟩
  · refine ⟨_, onDev_next s (stepAnnounce sec ofs), ?_⟩
    have hexp : stepAnnounce sec ofs s.regs s.dev.quiet = { s.dev.quiet with gns2 := { s.dev.gns2 with stepAt := some sec, stepOfs := ofs } } :=
      if_pos (by rw [show s.dev.quiet.linkUp = true from hl, show s.dev.quiet.followsPartner = true from hf]; rfl)
    rw [hexp, settle_gns2]
    exact ⟨(acts_gns2 _ _).onlyParts (by decide), rfl⟩

end Sys2Proof
end

section
/-! PROOFS. The Still and global operations [15 R458 R459]. -/

namespace Sys2Proof

open Sys2Proof.Machine

/-! ### The Still -/

/-- A capture asked for by this unit. -/
def stillAsked (tc : Nat) (d : Dev) : Dev :=
  ndlSend .stillReq [tc] { d with pair := { d.pair with
    stillDone := false, stillRefused := false, stillT := tc, stillReq := some (d.now, true), stillOwn := none, stillPartner := none } }

/-- A Still outside a synchronised pair. -/
def stillDenied (d : Dev) : Dev := { d with pair := { d.pair with stillDone := false, stillRefused := true } }

theorem still_eq (r : Regs) (d : Dev) : still r d =
    if d.linkUp && (d.pair.state == .primSynced || d.pair.state == .stbySynced) then stillAsked (d.tb0 + d.ndl.delay + 200) d else stillDenied d := rfl

theorem acts_stillAsked (tc : Nat) (d : Dev) : Acts [.ndl, .pair] (stillAsked tc d) d := (acts_ndlSend _ _ _).trans (acts_pair d _)

theorem acts_stillDenied (d : Dev) : Acts [.pair] (stillDenied d) d := acts_pair d _

/-- The partner's capture asked for. -/
def captureSet (tc : Nat) (d : Dev) : Dev := { d with pair := { d.pair with stillT := tc, stillReq := some (d.now, false), stillOwn := none } }

/-- This unit's capture taken. -/
def captured (d : Dev) : Dev := { d with pair := { d.pair with stillOwn := some d.stillSet } }

/-- The capture sent back to the partner that asked for it. -/
def captureSent (d : Dev) : Dev := ndlSend .stillData [d.pair.stillT] { d with pair := { d.pair with stillReq := none } }

theorem stillCapture_due (r : Regs) (d : Dev) (at_ : Nat) (mine : Bool) (h : d.pair.stillReq = some (at_, mine)) (ht : d.pair.stillT ≤ d.tb0)
    (hown : d.pair.stillOwn = none) : stillCapture r d = if mine then stillEnd (captured d) else captureSent (captured d) := by
  unfold stillCapture
  simp only [h]
  have hc : d.pair.stillT ≤ d.tb0 ∧ d.pair.stillOwn.isNone = true := ⟨ht, by rw [hown]; rfl⟩
  rw [if_pos hc]
  unfold captureSent captured
  simp only [h]

/-- A Still ended: both captures can be read. -/
def stillFinished (at_ : Nat) (d : Dev) : Dev :=
  raise 0x27 7 { d with pair := { d.pair with stillDone := true, stillReq := none, stillCost := min 65535 (4 * (d.now - at_)) } }

theorem stillEnd_both (d : Dev) (at_ : Nat) (h : d.pair.stillReq = some (at_, true)) (hown : d.pair.stillOwn ≠ none)
    (hpart : d.pair.stillPartner ≠ none) : stillEnd d = stillFinished at_ d := by
  obtain ⟨o, ho⟩ := Option.ne_none_iff_exists'.mp hown
  obtain ⟨p, hp⟩ := Option.ne_none_iff_exists'.mp hpart
  unfold stillEnd
  simp only [h, ho, hp]
  rw [← ho, ← hp]
  rfl

theorem stillEnd_waits (d : Dev) (h : d.pair.stillOwn = none ∨ d.pair.stillPartner = none) : stillEnd d = d := by
  unfold stillEnd
  split
  next h1 h2 =>
    obtain h | h := h
    · exact absurd (h1.symm.trans h) (by simp)
    · exact absurd (h2.symm.trans h) (by simp)
  next => rfl

/-- The end of a Still acts on page PAIR, and keeps the captures. -/
theorem stillEnd_shows (d : Dev) : Acts [.irq, .pair] (stillEnd d) d ∧ (stillEnd d).pair.stillOwn = d.pair.stillOwn ∧
    (stillEnd d).pair.stillPartner = d.pair.stillPartner := by
  unfold stillEnd
  split
  · exact ⟨(acts_raise _ _ _).trans (acts_pair d _), rfl, rfl⟩
  · exact ⟨.refl _ d, rfl, rfl⟩

/-- The partner's capture received. -/
def partnerCaptured (c : StillSet) (d : Dev) : Dev := { d with pair := { d.pair with stillPartner := some c } }

/-- Settles O43. -/
theorem stillCaptures : Obligations.StillCaptures := by
  unfold Obligations.StillCaptures
  refine ⟨fun s => ?_, fun s tc hl => ?_, fun s at_ mine hreq ht hown => ?_, fun s at_ c hreq hraw => ?_⟩
  · intro ok
    refine ⟨_, onDev_next s still, ?_⟩
    rw [still_eq, show (s.dev.quiet.linkUp && (s.dev.quiet.pair.state == .primSynced || s.dev.quiet.pair.state == .stbySynced)) = ok from rfl,
      settle_pair, settle_ndl]
    cases hok : ok
    · rw [if_neg (by decide)]
      exact ⟨(acts_stillDenied _).onlyParts (by decide), rfl, fun h => absurd h (by decide), fun _ => ⟨rfl, rfl, rfl⟩⟩
    · rw [if_pos rfl]
      exact ⟨(acts_stillAsked _ _).onlyParts (by decide), rfl, fun _ => ⟨rfl, rfl, mem_settle_out _ _ _ (mem_emit_self _ _)⟩,
        fun h => absurd h (by decide)⟩
  · refine ⟨_, onDev_next s fun _ d => if d.linkUp then captureSet tc d else d, ?_⟩
    rw [if_pos (show s.dev.quiet.linkUp = true from hl), settle_pair]
    exact ⟨(acts_pair _ _).onlyParts (by decide), rfl⟩
  · refine ⟨_, onDev_next s stillCapture, ?_⟩
    rw [stillCapture_due s.regs s.dev.quiet at_ mine hreq ht hown, settle_pair]
    have hset : (captured s.dev.quiet).pair.stillOwn = some s.dev.stillSet := rfl
    have hkept : (captured s.dev.quiet).pair.stillReq = some (at_, mine) ∧ (captured s.dev.quiet).pair.stillPartner = s.dev.pair.stillPartner := ⟨hreq, rfl⟩
    have hacts : Acts [.pair] (captured s.dev.quiet) s.dev.quiet := acts_pair _ _
    have hT : (captured s.dev.quiet).pair.stillT = s.dev.pair.stillT := rfl
    generalize captured s.dev.quiet = a at hset hkept hacts hT ⊢
    cases mine
    · rw [if_neg (by decide)]
      have hsent : Acts [.ndl, .pair] (captureSent a) a := (acts_ndlSend _ _ _).trans (acts_pair a _)
      refine ⟨(hsent.trans hacts).onlyParts (by decide), hset, fun _ => ⟨rfl, ?_⟩, fun h => absurd h (by decide), fun h => absurd h (by decide)⟩
      rw [← hT]
      exact mem_settle_out _ _ _ (mem_emit_self _ _)
    · rw [if_pos rfl]
      obtain ⟨hend, hown', -⟩ := stillEnd_shows a
      refine ⟨(hend.trans hacts).onlyParts (by decide), hown'.trans hset, fun h => absurd h (by decide), fun _ hp => ?_, fun _ hp => ?_⟩
      · rw [stillEnd_both a at_ hkept.1 (by rw [hset]; simp) (by rw [hkept.2]; exact hp)]
        rfl
      · rw [stillEnd_waits a (.inr (hkept.2.trans hp))]
        exact hkept.1
  · refine ⟨_, onDev_next s fun _ d => match d.pair.stillReq with
      | some (_, true) => stillEnd (partnerCaptured c d)
      | _ => d, ?_⟩
    simp only [show s.dev.quiet.pair.stillReq = some (at_, true) from hreq]
    rw [settle_pair, settle_raw]
    have hacts : Acts [.pair] (partnerCaptured c s.dev.quiet) s.dev.quiet := acts_pair _ _
    obtain ⟨hend, -, hpart⟩ := stillEnd_shows (partnerCaptured c s.dev.quiet)
    refine ⟨(hend.trans hacts).onlyParts (by decide), hpart, fun hown => ?_⟩
    rw [stillEnd_both (partnerCaptured c s.dev.quiet) at_ hreq hown (by simp [partnerCaptured])]
    exact ⟨rfl, rfl, rfl, raise_testBit_self 0x27 7 _ hraw⟩

/-! ### Global operations -/

theorem acts_glbEnd (st : GlbState) (d : Dev) : Acts [.irq, .pair] (glbEnd st d) d := (acts_raise _ _ _).trans (acts_pair d _)

theorem glbEnd_bit (st : GlbState) (d : Dev) (h : 0x27 < d.irq.raw.length) : (at' (glbEnd st d).irq.raw 0x27).testBit 7 = true :=
  raise_testBit_self 0x27 7 _ h

/-- GO taken at this tick. -/
def glbAsked (d : Dev) : Dev := { d with pair := { d.pair with glbAt := d.now, glbTime := 0 } }

/-- A global operation that waits for its channels. -/
def glbWaits (d : Dev) : Dev := { d with pair := { d.pair with glb := .waiting } }

/-- A global operation started. -/
def glbStarted (d : Dev) : Dev := { d with pair := { d.pair with glb := .running, glbStart := d.tb0 }, free := d.free + 1 }

/-- The requests of a global operation in its channels. -/
def glbRequests (r : Regs) (d : Dev) : Dev :=
  (glbChannels r).foldl (fun d n => canTxreq n (r.at F.PAIR_GLB_CH_BUF n / 32) (2 ^ (r.at F.PAIR_GLB_CH_BUF n % 32)) r d) d

theorem globalGo_free (r : Regs) (d : Dev) (hw : d.pair.glb ≠ .waiting) (hr : d.pair.glb ≠ .running) :
    globalGo r d = if (glbAsked d).commands then glbTry r (glbWaits (glbAsked d)) else glbEnd .refused (glbAsked d) :=
  if_neg (by simp [hw, hr])

theorem glbTry_waiting (r : Regs) (d : Dev) (hw : d.pair.glb = .waiting) :
    glbTry r d = if (glbChannels r).all (glbFits r d) then glbRequests r (glbStarted d) else d := by
  unfold glbTry
  have hc : (d.pair.glb == .waiting && (glbChannels r).all (glbFits r d)) = (glbChannels r).all (glbFits r d) := by
    rw [hw]
    rfl
  exact if_congr (by rw [hc]) rfl rfl

/-- Whether an operation fits does not depend on page PAIR. -/
theorem glbFits_asked (r : Regs) (d : Dev) : glbFits r (glbWaits (glbAsked d)) = glbFits r d := by
  funext n
  unfold glbFits
  rfl

theorem within_canTxreq (n hi v : Nat) (r : Regs) (d : Dev) : Within [.irq, .can] (canTxreq n hi v r d) d := by
  by_cases h : canOn r d n = true
  · rw [canTxreq_on n hi v r d h]
    exact ((within_canStart r n _).trans (within_foldN 32 _ d fun j a => within_txreqOne n hi v r j a)).mono (by simp)
  · rw [show canTxreq n hi v r d = d from if_pos (by simp [h])]
    exact .refl _ d

theorem within_glbRequests (r : Regs) (d : Dev) : Within [.irq, .can] (glbRequests r d) d :=
  within_foldl _ _ d fun a n => within_canTxreq n _ _ r a

theorem within_glbStarted (d : Dev) : Within [.free, .pair] (glbStarted d) d :=
  Within.trans (b := { d with pair := (glbStarted d).pair }) (within_free _ _) (within_pair d _)

/-- Settles O44. -/
theorem globalOperations : Obligations.GlobalOperations := by
  unfold Obligations.GlobalOperations
  refine ⟨fun s hw hr hc hraw => ?_, fun s hw hr hc => ?_, fun s hrun hack hraw => ?_, fun s ht hraw => ?_⟩
  · refine ⟨_, onDev_next s globalGo, ?_⟩
    rw [globalGo_free s.regs s.dev.quiet hw hr, if_neg (by rw [show (glbAsked s.dev.quiet).commands = false from hc]; decide), settle_pair, settle_raw]
    exact ⟨((acts_glbEnd _ _).also ((acts_pair _ _).mono (by decide))).onlyParts (by decide), rfl, rfl, glbEnd_bit _ _ hraw⟩
  · refine ⟨_, onDev_next s globalGo, ?_⟩
    rw [globalGo_free s.regs s.dev.quiet hw hr, if_pos (show (glbAsked s.dev.quiet).commands = true from hc), glbTry_waiting _ _ rfl, glbFits_asked,
      show glbFits s.regs s.dev.quiet = glbFits s.regs s.dev from by funext n; unfold glbFits; rfl, settle_pair, settle_can]
    have hasked : Within [.pair] (glbWaits (glbAsked s.dev.quiet)) s.dev.quiet :=
      ((within_pair _ _).trans (within_pair s.dev.quiet _)).mono (by decide)
    have hat : (glbWaits (glbAsked s.dev.quiet)).pair.glbAt = s.dev.now := rfl
    have hwait : (glbWaits (glbAsked s.dev.quiet)).pair.glb = .waiting := rfl
    have htb : (glbStarted (glbWaits (glbAsked s.dev.quiet))).pair.glbStart = s.dev.tb0 := rfl
    have hcan : (glbWaits (glbAsked s.dev.quiet)).can = s.dev.can := rfl
    generalize glbWaits (glbAsked s.dev.quiet) = a at hasked hat hwait htb hcan ⊢
    by_cases hfit : (glbChannels s.regs).all (glbFits s.regs s.dev) = true
    · rw [if_pos hfit]
      have hreq := within_glbRequests s.regs (glbStarted a)
      have hpair : (glbRequests s.regs (glbStarted a)).pair = (glbStarted a).pair := hreq.agree .pair (by decide)
      rw [hpair]
      refine ⟨(hreq.trans ((within_glbStarted a).trans hasked)).onlyParts (by decide), hat, fun _ => ⟨rfl, htb⟩, fun h => ?_⟩
      exact absurd (hfit.symm.trans h) (by decide)
    · rw [if_neg hfit]
      exact ⟨hasked.onlyParts (by decide), hat, fun h => absurd h hfit, fun _ => ⟨hwait, hcan⟩⟩
  · refine ⟨_, onDev_next s fun r d => if d.pair.glb == .running && glbAcked r d then glbEnd .done d else d, ?_⟩
    have hcond : (s.dev.quiet.pair.glb == .running && glbAcked s.regs s.dev.quiet) = true := by
      rw [show s.dev.quiet.pair.glb = .running from hrun, show glbAcked s.regs s.dev.quiet = true from hack]
      rfl
    rw [if_pos hcond, settle_pair, settle_raw]
    exact ⟨(acts_glbEnd _ _).onlyParts (by decide), rfl, rfl, glbEnd_bit _ _ hraw⟩
  · refine ⟨_, onDev_next s fun r d =>
      if decide (d.now < d.pair.glbAt + ticksMs (r.get F.PAIR_GLB_CTL_TIMEOUT)) then d
      else
        match d.pair.glb with
        | .waiting => glbEnd .refused d
        | .running => glbEnd .timeout d
        | _ => d, ?_⟩
    have hdue : ¬(decide (s.dev.quiet.now < s.dev.quiet.pair.glbAt + ticksMs (s.regs.get F.PAIR_GLB_CTL_TIMEOUT)) = true) := by
      rw [decide_eq_true_eq]
      exact Nat.not_lt.mpr ht
    rw [if_neg hdue, settle_pair, settle_raw]
    have hend (st : GlbState) : OnlyParts [.pair] s { s with dev := settle s.regs (glbEnd st s.dev.quiet) } := (acts_glbEnd st s.dev.quiet).onlyParts (by decide)
    cases hg : s.dev.pair.glb with
    | waiting =>
      simp only [show s.dev.quiet.pair.glb = .waiting from hg]
      exact ⟨hend .refused, fun _ => ⟨rfl, glbEnd_bit _ _ hraw⟩, fun h => absurd h (by decide)⟩
    | running =>
      simp only [show s.dev.quiet.pair.glb = .running from hg]
      exact ⟨hend .timeout, fun h => absurd h (by decide), fun _ => ⟨rfl, glbEnd_bit _ _ hraw⟩⟩
    | idle =>
      simp only [show s.dev.quiet.pair.glb = .idle from hg]
      exact ⟨onlyParts_quiet _ s s.regs, fun h => absurd h (by decide), fun h => absurd h (by decide)⟩
    | done =>
      simp only [show s.dev.quiet.pair.glb = .done from hg]
      exact ⟨onlyParts_quiet _ s s.regs, fun h => absurd h (by decide), fun h => absurd h (by decide)⟩
    | refused =>
      simp only [show s.dev.quiet.pair.glb = .refused from hg]
      exact ⟨onlyParts_quiet _ s s.regs, fun h => absurd h (by decide), fun h => absurd h (by decide)⟩
    | timeout =>
      simp only [show s.dev.quiet.pair.glb = .timeout from hg]
      exact ⟨onlyParts_quiet _ s s.regs, fun h => absurd h (by decide), fun h => absurd h (by decide)⟩

end Sys2Proof
end

section
/-! PROOFS. What changes of mode, roles and description act on, and what they keep of the continuity set [15 R449 R450 R451]. -/

namespace Sys2Proof

open Sys2Proof.Machine

/-! ### Changes of mode -/

theorem acts_ctl (d : Dev) (x : CtlSt) : Acts [.ctl] { d with ctl := x } d := (within_ctl d x).acts (by decide)

theorem acts_modSlv (f : SlvSt → SlvSt) (d : Dev) : Acts [.slv] (modSlv f d) d := acts_slv d _

theorem acts_modCtl (f : CtlSt → CtlSt) (d : Dev) : Acts [.ctl] (modCtl f d) d := acts_ctl d _

theorem acts_modMde (f : MdeSt → MdeSt) (d : Dev) : Acts [.mde] (modMde f d) d := acts_mde d _

/-- The parts that a change of mode acts on, page MDE apart. -/
def modeParts : List Part := outputParts ++ [.ctl, .slv, .lop, .msn, .free]

theorem acts_errFlags (r : Regs) (e : List F64) (d : Dev) : Acts [.irq, .evt, .ctl] (errFlags r e d) d := by
  have hset : Acts [.irq, .evt, .ctl] (modCtl (fun c => { c with
      err := e, posErr := d.mde.mode.thrust && d.mde.mode != .joystick && (r.f64 F.CTL_ERR_POS_V).lt (hypot (vc e 0) (vc e 1))
      hdgErr := d.hdgCtl && (r.f64 F.CTL_ERR_HDG_V).lt (vc e 2).abs }) d) d := (acts_modCtl _ d).mono (by decide)
  have hraise (c : Bool) (p b : Nat) (a : Dev) : Acts [.irq, .evt, .ctl] (raiseIf c p b a) a := (acts_raiseIf c p b a).mono (by decide)
  have hrec (c : Bool) (ev : Ev) (x : Par) (a : Dev) : Acts [.irq, .evt, .ctl] (if c then record r ev x a else a) a :=
    .when ((acts_record r ev x a).mono (by decide))
  exact (hrec _ _ _ _).also ((hraise _ _ _ _).also ((hrec _ _ _ _).also ((hraise _ _ _ _).also hset)))

theorem acts_leaveThrust (r : Regs) (d : Dev) : Acts modeParts (leaveThrust r d) d :=
  ((acts_errFlags r _ _).mono (by decide)).also ((acts_modCtl _ d).mono (by decide))

theorem acts_handTo (r : Regs) (c : Nat) (h : Handed) (d : Dev) : Acts modeParts (handTo r c h d) d :=
  (Acts.when ((acts_slotWrite r _ _ _).mono (by decide))).also ((acts_modLop c _ d).mono (by decide))

theorem acts_handJoint (r : Regs) (i : Nat) (d : Dev) : Acts modeParts (handJoint r i d) d := by
  unfold handJoint
  split
  · exact .refl _ d
  · exact (Acts.when (acts_handTo r _ _ _)).also ((acts_modSlv _ d).mono (by decide))

theorem acts_handJoints (r : Regs) (d : Dev) : Acts modeParts (handJoints r d) d := acts_foldl _ _ d fun a i => acts_handJoint r i a

theorem acts_leaveTransfer (r : Regs) (d : Dev) : Acts modeParts (leaveTransfer r d) d :=
  ((acts_slv (handJoints r (modSlv (fun s => { s with joints := jointsAtRest r d }) d)) _).mono (by decide)).also
    ((acts_handJoints r _).also ((acts_modSlv _ d).mono (by decide)))

theorem acts_latchTarget (r : Regs) (d : Dev) : Acts [.slv] (latchTarget r d) d := acts_slv d _

theorem acts_coastJoints (d : Dev) : Acts [.slv] (coastJoints d) d := acts_slv d _

/-- The joints' next references for a sub-cycle: the latched target on the first one, else those of the one before. -/
def subHanded (r : Regs) (first done : Bool) (d : Dev) : Dev :=
  if first then latchTarget r d else handJoints r (if done then d else raise 8 7 (coastJoints d))

theorem acts_subHanded (r : Regs) (first done : Bool) (d : Dev) : Acts modeParts (subHanded r first done d) d := by
  refine .ite ((acts_latchTarget r d).mono (by decide)) ((acts_handJoints r _).also (.ite (.refl _ d) ?_))
  exact ((acts_raise 8 7 _).mono (by decide)).also ((acts_coastJoints d).mono (by decide))

theorem acts_appSub (r : Regs) (k : Nat) (d : Dev) : Acts modeParts (appSub r k d) d := by
  have hrest : Acts modeParts (modSlv (fun s => { s with subRunning := false }) (modJob 4 (fun j => { j with lost := false })
      (subHanded r d.slv.tgt.isNone (d.slv.subRunning && !((d.job 4).lost)) d))) d :=
    ((acts_modSlv _ _).mono (by decide)).also (((acts_modJob 4 _ _).mono (by decide)).also (acts_subHanded r _ _ d))
  unfold appSub
  refine .ite hrest ?_
  exact ((acts_ranJob r 4 _).mono (by decide)).also (((acts_raiseIf _ 8 6 _).mono (by decide)).also (((acts_modSlv _ _).mono (by decide)).also hrest))

/-- The blocks that a change of mode from `old` to `m` leaves and starts. -/
def modeLeft (old m : Mode) (fresh : Bool) (r : Regs) (d : Dev) : Dev :=
  let d := if old.thrust && !m.thrust then leaveThrust r d else d
  let d := if old == .transfer && m != .transfer then leaveTransfer r d else d
  let d := if m.thrust && !old.thrust then modSlv (fun s => { s with first := true, prev := none }) d else d
  if fresh then modProf (fun p => { p with enter := true }) d else d

/-- The mode itself, its interrupts and its event. -/
def modeSet (old m : Mode) (auto : Bool) (obj cause : Nat) (r : Regs) (d : Dev) : Dev :=
  record r .modeChange { p0 := m.num, p1 := old.num, p2 := b2n auto, p3 := cause } (raiseIf (cause == 1) 5 2 (raise 5 0
    (modMde (fun x => { x with mode := m, autoHdg := auto, followObj := obj, followLostAt := none }) d)))

theorem changeMode_eq (m : Mode) (auto : Bool) (obj cause : Nat) (r : Regs) (d : Dev) : (changeMode m auto obj cause r d).2 =
    modeSet d.mde.mode m auto obj cause r
      (modeLeft d.mde.mode m ((m == .autopos || m == .follow || m == .transfer) && (m != d.mde.mode || obj != d.mde.followObj)) r d) := rfl

theorem acts_modeLeft (old m : Mode) (fresh : Bool) (r : Regs) (d : Dev) : Acts (modeParts ++ [.mde]) (modeLeft old m fresh r d) d :=
  (Acts.when ((acts_modMde _ _).mono (by decide))).also ((Acts.when ((acts_modSlv _ _).mono (by decide))).also
    ((Acts.when ((acts_leaveTransfer r _).mono (by decide))).also (Acts.when ((acts_leaveThrust r d).mono (by decide)))))

theorem acts_modeSet (old m : Mode) (auto : Bool) (obj cause : Nat) (r : Regs) (d : Dev) :
    Acts (modeParts ++ [.mde]) (modeSet old m auto obj cause r d) d :=
  ((acts_record r _ _ _).mono (by decide)).also (((acts_raiseIf _ 5 2 _).mono (by decide)).also (((acts_raise 5 0 _).mono (by decide)).also
    ((acts_modMde _ d).mono (by decide))))

theorem acts_changeMode (m : Mode) (auto : Bool) (obj cause : Nat) (r : Regs) (d : Dev) :
    Acts (modeParts ++ [.mde]) (changeMode m auto obj cause r d).2 d := by
  rw [changeMode_eq]
  exact (acts_modeSet _ m auto obj cause r _).also (acts_modeLeft _ m _ r d)

theorem changeMode_mode (m : Mode) (auto : Bool) (obj cause : Nat) (r : Regs) (d : Dev) : (changeMode m auto obj cause r d).2.mde.mode = m := by
  rw [changeMode_eq]
  simp [modeSet, modMde]

/-! ### What the roles keep of the continuity set -/

/-- What page PAIR holds of the cut part and of the sets accepted. -/
def contPart (x : PairSt) : Option CutPart × Bool × Nat × Nat × Option ContSet × Bool × Nat × Bool × Nat :=
  (x.cutPart, x.cutPartGot, x.seqOwn, x.cutMiss, x.set, x.bulkDone, x.accepted, x.imageEq, x.missed)

/-- The cut part and the sets accepted are kept. -/
def ContKept (b a : Dev) : Prop := contPart b.pair = contPart a.pair

theorem ContKept.refl (d : Dev) : ContKept d d := rfl

theorem ContKept.trans {c b a : Dev} (h : ContKept c b) (g : ContKept b a) : ContKept c a := Eq.trans h g

theorem ContKept.ite {c : Prop} [Decidable c] {a b d : Dev} (ha : ContKept a d) (hb : ContKept b d) : ContKept (if c then a else b) d := by
  split
  · exact ha
  · exact hb

theorem ContKept.when {c : Prop} [Decidable c] {b a : Dev} (h : ContKept b a) : ContKept (if c then b else a) a := .ite h (.refl a)

theorem ContKept.unless {c : Prop} [Decidable c] {b a : Dev} (h : ContKept b a) : ContKept (if c then a else b) a := .ite (.refl a) h

/-- What acts outside page PAIR keeps the cut part and the sets. -/
theorem Acts.contKept {l : List Part} {b a : Dev} (h : Acts l b a) (hl : Part.pair ∉ l) : ContKept b a :=
  congrArg contPart (h.agree .pair hl)

theorem ContKept.snd {x : Regs × Dev} {r : Regs} {b d : Dev} (he : x = (r, b)) (h : ContKept x.2 d) : ContKept b d := by
  rw [he] at h
  exact h

theorem contKept_pairTo (r : Regs) (st : PState) (cause : Nat) (d : Dev) : ContKept (pairTo r st cause d) d := by
  by_cases h : d.pair.state = st
  · rw [pairTo, if_pos h]
    exact .refl d
  · obtain ⟨ok, miss, cuts, next, hp⟩ := pairTo_pair r st cause d h
    rw [ContKept, hp]
    rfl

theorem contKept_syncJudge (r : Regs) (d : Dev) : ContKept (syncJudge r d) d := by
  unfold syncJudge
  split
  · exact .when (contKept_pairTo r _ _ d)
  · exact .ite (contKept_pairTo r _ _ d) (.ite (contKept_pairTo r _ _ d) (.when (contKept_pairTo r _ _ d)))
  · exact .when (contKept_pairTo r _ _ d)
  · exact .unless (contKept_pairTo r _ _ d)
  · exact .refl d

theorem contKept_setRole (b : Bool) (d : Dev) : ContKept (setRole b d) d := by
  rw [ContKept, setRole_pair]
  rfl

theorem contKept_stopCommanding (r : Regs) (st : PState) (cause : Nat) (d : Dev) : ContKept (stopCommanding r st cause d) d := by
  have hto : ContKept (pairTo r st cause { d with pair := stoppedPair d.pair }) d := (contKept_pairTo r st cause _).trans rfl
  rw [ContKept, stopCommanding_pair]
  exact hto

theorem contKept_relinquish (r : Regs) (cause : Nat) (d : Dev) : ContKept (relinquish r cause d) d := .when (contKept_stopCommanding r _ _ d)

theorem contKept_takeCommand (r : Regs) (cause : Nat) (d : Dev) : ContKept (takeCommand r cause d) d := by
  by_cases hid : d.ndl.idClash = true
  · rw [takeCommand, if_pos hid]
    exact .refl d
  · obtain ⟨stale, take, left, hsteps⟩ := takeCommand_steps r cause d (by simpa using hid)
    have hawait : ContKept (awaitFirst stale take left (pairTo r (newPrimary d) cause d)) d := (contKept_pairTo r (newPrimary d) cause d)
    rw [hsteps]
    exact .ite (ContKept.trans (congrArg contPart ((within_takeOver r cause _).agree .pair (by decide))) hawait) hawait

theorem contKept_seekByLink (r : Regs) (d : Dev) : ContKept (seekByLink r d) d :=
  .when (.ite (contKept_pairTo r _ _ d) (.ite (contKept_pairTo r _ _ d) (.ite (contKept_takeCommand r _ d) (contKept_pairTo r _ _ d))))

theorem contKept_enterRoles (r : Regs) (d : Dev) : ContKept (enterRoles r d) d :=
  .ite rfl ((contKept_seekByLink r _).trans ((contKept_pairTo r _ _ _).trans rfl))

theorem contKept_leaveRoles (r : Regs) (d : Dev) : ContKept (leaveRoles r d) d := by
  have hgone : ContKept (if d.isPrimary then stopCommanding r .single d.pair.cause d else pairTo r .single d.pair.cause d) d :=
    .ite (contKept_stopCommanding r _ _ d) (contKept_pairTo r _ _ d)
  exact (contKept_setRole false _).trans hgone

theorem contKept_enterDormant (r : Regs) (d : Dev) : ContKept (enterDormant r d) d := by
  unfold enterDormant
  extract_lets d1 d2
  have h2 : ContKept d2 d := ((acts_failAll r _).contKept (by decide)).trans ((contKept_relinquish r 13 _).trans rfl)
  exact ((acts_record r _ _ _).contKept (by decide)).trans h2

/-! ### What a description keeps of the continuity set -/

theorem contKept_supersede (p : Nat) (r : Regs) (d : Dev) : ContKept (supersede p r d).2 d := .when rfl

theorem contKept_putSection (a : Descr) (x : Regs × Dev) (t : Nat) : ContKept (putSection a x t).2 x.2 := by
  unfold putSection
  extract_lets l
  split
  · exact (acts_foldl (l := safParts) _ l x.2 (acts_putSafety x.1)).contKept (by decide)
  · split
    · exact foldl_keeps (fun y : Regs × Dev => ContKept y.2 x.2) putCoef l x (fun y c hy => ((acts_putCoef y c).contKept (by decide)).trans hy) (.refl x.2)
    · exact .refl x.2

theorem contKept_enableWritten (x : Regs × Dev) (p : Nat) : ContKept (enableWritten x p).2 x.2 := by
  unfold enableWritten
  split
  · exact .refl x.2
  · exact .ite ((acts_enableOutputs _ x.2).contKept (by decide)) (.ite rfl (.when rfl))

theorem contKept_putSections (a : Descr) (ts : List Nat) (r : Regs) (d : Dev) : ContKept (putSections a ts r d).2 d := by
  unfold putSections
  extract_lets ps
  split
  next r1 d1 heq1 =>
    have h1 : ContKept d1 d := .snd heq1 (foldl_keeps (fun x : Regs × Dev => ContKept x.2 d) _ ps (r, d)
      (fun x p hx => (contKept_supersede p x.1 x.2).trans hx) (.refl d))
    split
    next r2 d2 heq2 =>
      have h2 : ContKept d2 d := .snd heq2 (foldl_keeps (fun x : Regs × Dev => ContKept x.2 d) _ ts (r1, d1)
        (fun x t hx => (contKept_putSection a x t).trans hx) h1)
      extract_lets r3
      split
      next r4 d4 heq4 =>
        have h4 : ContKept d4 d := by
          refine .snd heq4 ?_
          split
          · exact h2
          · exact foldl_keeps (fun x : Regs × Dev => ContKept x.2 d) _ ps (r3, d2) (fun x p hx => (contKept_enableWritten x p).trans hx) h2
        exact ContKept.trans (.when ((acts_dioDrive r4 d4).contKept (by decide))) h4

theorem contKept_install (new : Descr) (ts : List Nat) (r : Regs) (d : Dev) : ContKept (install new ts r d).2 d := by
  have hput : ContKept (putSections new ts r (descrTaken new d)).2 d := contKept_putSections new ts r (descrTaken new d)
  have hblocks (coef : Bool) (r1 : Regs) (a : Dev) : ContKept (blocksRestarted d.descr new coef r r1 a) a := by
    have hcyc (b : Dev) : ContKept (modCyc (fun c => { c with periodNs := rateNs new.sys.rate }) b) b := rfl
    exact (hcyc _).trans (((acts_restartTargets _ new _).trans ((acts_restartSources _ new _).trans ((acts_restartLoops _ new r r1 _).trans
      (Acts.when (acts_foldN (l := [.lop]) 32 _ a fun c b => acts_modLop c _ b))))).contKept (by decide))
  have hpair (r1 : Regs) (a : Dev) : ContKept (pairChanged d.descr new r1 a) a :=
    .when (((acts_enableOutputs r1 _).contKept (by decide)).trans ((contKept_enterRoles r1 _).trans (contKept_leaveRoles r1 a)))
  rw [install_eq]
  exact (hpair _ _).trans ((hblocks _ _ _).trans hput)

/-- The slot record switched at a cut-in is no part of page PAIR. -/
theorem acts_commitMark (r : Regs) (d : Dev) : Acts [.irq, .evt, .lif, .hld, .cfg] (commitMark r d) d :=
  .ite ((acts_cfg d _).mono (by decide)) (.ite (((acts_wearSeg r _ _).mono (by decide)).also ((acts_cfg d _).mono (by decide)))
    ((((within_deferSeg _ _).acts (by decide)).trans (acts_cfg d _)).mono (by decide)))

/-- The pending image noted as the one in force. -/
def cutInDone (diff : List Nat) (d : Dev) : Dev :=
  { d with cfg := { d.cfg with
    slot := d.cfg.loadSlot, phase := .done, cutins := wrapInc 32 d.cfg.cutins, cutDiff := diff, safetyDiff := false, image := [], next := {} } }

/-- A cut-in noted in its slot record, its interrupt and its event. -/
def cutInTold (new : Descr) (diff : List Nat) (r : Regs) (d : Dev) : Dev :=
  record r .cfgCutIn { p0 := new.imageId, p1 := new.rev, p2 := new.overlayRev } (raise 6 2 (commitMark r (cutInDone diff d)))

theorem acts_cutInTold (new : Descr) (diff : List Nat) (r : Regs) (d : Dev) : Acts [.irq, .evt, .lif, .hld, .cfg] (cutInTold new diff r d) d :=
  ((acts_record r _ _ _).mono (by decide)).also (((acts_raise 6 2 _).mono (by decide)).also
    ((acts_commitMark r _).also ((acts_cfg d _).mono (by decide))))

theorem contKept_cutIn (r : Regs) (d : Dev) : ContKept (cutIn r d).2 d := by
  have hinst := contKept_install d.cfg.next (applied d.cfg.image (d.cfg.slotAt d.cfg.slot).tuning) r { d with cfg := { d.cfg with unlocked := false } }
  unfold cutIn
  extract_lets new diff ts
  split
  next r1 d1 heq =>
    have h1 : ContKept d1 { d with cfg := { d.cfg with unlocked := false } } := .snd heq hinst
    exact ((acts_cutInTold new diff r1 d1).contKept (by decide)).trans h1

end Sys2Proof
end

section
/-! PROOFS. The parts of the continuity set [15 R449 R450 R451]. -/

namespace Sys2Proof

open Sys2Proof.Machine

/-! ### The cut part applied -/

theorem enterDormant_mode (r : Regs) (d : Dev) : (enterDormant r d).mde.mode = d.mde.mode := by
  unfold enterDormant
  extract_lets d1 d2
  have hrel (a : Dev) : Acts roleParts (relinquish r 13 a) a := .when (acts_stopCommanding r _ 13 a)
  have h2 : d2.mde = d1.mde := ((acts_failAll r _).agree .mde (by decide)).trans ((hrel (dropPermit d1)).agree .mde (by decide))
  have h3 (x : PairSt) : (record r .dormantEnter {} (askLife { d2 with pair := x })).mde = d2.mde := record_mde _ _ _ _
  exact Eq.trans (b := d1.mde.mode) (congrArg MdeSt.mode ((h3 _).trans h2)) rfl

theorem contKept_partMode (p : CutPart) (r : Regs) (d : Dev) : ContKept (partMode p r d).2 d := by
  unfold partMode
  split
  · exact .refl d
  · extract_lets auto tr
    split
    next r1 d1 heq =>
      have h1 : ContKept d1 d := .snd heq ((acts_changeMode _ _ _ _ r d).contKept (by decide))
      extract_lets d2 d3
      have h3 : ContKept d3 d1 := (ContKept.when ((acts_appSub r1 0 d2).contKept (by decide))).trans (.when rfl)
      exact (ContKept.when (contKept_enterDormant r1 d3)).trans (h3.trans h1)

theorem partMode_mode (p : CutPart) (r : Regs) (d : Dev) : (partMode p r d).2.mde.mode = p.mode := by
  unfold partMode
  split
  next h =>
    simp only [Bool.and_eq_true, beq_iff_eq] at h
    exact h.1.1.symm
  · extract_lets auto tr
    split
    next r1 d1 heq =>
      have h1 : d1.mde.mode = p.mode := by
        have h := changeMode_mode p.mode p.autoHdg p.followObj 2 r d
        rw [heq] at h
        exact h
      extract_lets d2 d3
      have h2 : d2.mde.mode = d1.mde.mode := by
        dsimp only [d2]
        split <;> rfl
      have h3 : d3.mde = d2.mde := Within.agree (Acts.when (acts_appSub r1 0 d2)).within .mde (by decide)
      dsimp only
      split
      · rw [enterDormant_mode, h3, h2, h1]
      · rw [h3, h2, h1]

theorem acts_moveOrigin (lat lon : F64) (d : Dev) : Acts [.irq, .fus] (moveOrigin lat lon d) d := by
  unfold moveOrigin
  split
  exact ((acts_raise 9 11 _).mono (by decide)).also ((acts_fus d _).mono (by decide))

theorem acts_setOrigin (lat lon : F64) (d : Dev) : Acts [.irq, .fus] (setOrigin lat lon d) d :=
  .ite (acts_moveOrigin lat lon d) (((acts_raise 9 11 _).mono (by decide)).also ((acts_fus d _).mono (by decide)))

theorem acts_takeOrigin (lat lon : F64) (gen : Nat) (d : Dev) : Acts [.irq, .fus] (takeOrigin lat lon gen d) d :=
  .unless (((acts_fus _ _).mono (by decide)).also (.ite (acts_moveOrigin lat lon d) (acts_setOrigin lat lon d)))

/-- The origin of a cut part. -/
def originTaken (o : Option (F64 × F64 × Nat)) (d : Dev) : Dev :=
  match o with
  | some (a, b, g) => takeOrigin a b g d
  | none => d

theorem acts_originTaken (o : Option (F64 × F64 × Nat)) (d : Dev) : Acts [.irq, .fus] (originTaken o d) d := by
  unfold originTaken
  split
  · exact acts_takeOrigin _ _ _ d
  · exact .refl _ d

theorem contKept_partResult (p : CutPart) (d : Dev) : ContKept (partResult p d) d := .unless rfl

/-- A cut part applied keeps the cut part and the sets, and the unit is in its mode. -/
theorem applyCutPart_shows (p : CutPart) (r : Regs) (d : Dev) :
    ContKept (applyCutPart p r d).2 d ∧ (applyCutPart p r d).2.mde.mode = p.mode := by
  unfold applyCutPart
  split
  next r1 d1 heq1 =>
    have h1 : ContKept d1 d := by
      refine .snd heq1 ?_
      split
      · exact contKept_cutIn r d
      · exact .refl d
    extract_lets c2 d2
    split
    next r2 d3 heq2 =>
      have h2 : ContKept d3 d2 := .snd heq2 rfl
      split
      next r3 d4 heq3 =>
        have h3 : ContKept d4 d3 := .snd heq3 ((contKept_partMode p r2 _).trans (contKept_partResult p d3))
        have hmode : d4.mde.mode = p.mode := by
          have h := partMode_mode p r2 (partResult p d3)
          rw [heq3] at h
          exact h
        have horg := acts_originTaken p.origin d4
        have hmde : (originTaken p.origin d4).mde = d4.mde := horg.agree .mde (by decide)
        exact ⟨(horg.contKept (by decide)).trans (h3.trans (h2.trans h1)), (congrArg MdeSt.mode hmde).trans hmode⟩

theorem takeFlag_shows (p : CutPart) (r : Regs) (d : Dev) : ContKept (takeFlag p r d) d ∧ (takeFlag p r d).mde = d.mde := by
  unfold takeFlag
  extract_lets back d1 d2
  split
  · exact ⟨.refl d, rfl⟩
  · have h2 : Acts [.irq, .evt, .ndl] d2 d1 := Acts.when (((acts_record r _ _ _).mono (by decide)).also ((acts_raise 0x27 5 d1).mono (by decide)))
    have hsend : Acts [.irq, .evt, .ndl] (ndlSend .takeAck [p.seq] d2) d1 := ((acts_ndlSend _ _ _).mono (by decide)).also h2
    have hcont : ContKept d1 d := rfl
    exact ⟨(hsend.contKept (by decide)).trans hcont, hsend.agree .mde (by decide)⟩

/-- A cut part tells that the partner commands. -/
def partnerHeard (d : Dev) : Dev := { d with ndl := { d.ndl with lastGood := true, partnerCommands := true } }

/-- A cut part accepted by a standby. -/
def partAccepted (p : CutPart) (d : Dev) : Dev :=
  modPair (fun x => { x with cutPart := some p, cutPartAt := d.tb0, cutPartGot := true, cutRun := 0, seqOwn := p.seq }) d

/-- A standby that hears a cut part takes the first in its 20 µs. -/
def partWeighed (p : CutPart) (r : Regs) (d : Dev) : Regs × Dev :=
  if d.stbyLinked && d.mde.cyc.running && !(d.pair.cutPartGot) && decide (d.now ≤ d.mde.cyc.cutTick + ticksUs 20) then
    let x := applyCutPart p r (partAccepted p d)
    (x.1, takeFlag p x.1 x.2)
  else (r, d)

theorem stbyLinked_iff (d : Dev) : d.stbyLinked = true ↔ (d.pair.state = .stbySyncing ∨ d.pair.state = .stbySynced) ∧ d.linkUp = true := by
  simp [Dev.stbyLinked]

theorem linkRules_standby (r : Regs) (d : Dev) (hs : d.pair.state = .stbySyncing ∨ d.pair.state = .stbySynced) (hid : d.ndl.idClash = false) :
    linkRules r d = d := by
  unfold linkRules
  obtain hs | hs := hs <;> simp only [hs, hid] <;> simp

theorem cutPart_accepted (p : CutPart) (r : Regs) (d : Dev) (hsingle : d.single = false) (hrun : d.mde.dstate = .run) (hl : d.stbyLinked = true)
    (hid : d.ndl.idClash = false) (hcyc : d.mde.cyc.running = true) (hgot : d.pair.cutPartGot = false) (hnow : d.now ≤ d.mde.cyc.cutTick + 5000) :
    cutPart p r d = ((applyCutPart p r (partAccepted p (partnerHeard d))).1,
      takeFlag p (applyCutPart p r (partAccepted p (partnerHeard d))).1 (applyCutPart p r (partAccepted p (partnerHeard d))).2) := by
  obtain ⟨hst, hup⟩ := (stbyLinked_iff d).mp hl
  have hprim : (ndlFrame true d).isPrimary = false := by
    obtain h | h := hst <;> simp [ndlFrame, Dev.isPrimary, h]
  have hheard : cutPart p r d = partWeighed p r (linkRules r (partnerHeard d)) := by
    unfold cutPart
    rw [if_neg (by simp [hup, Dev.running, hrun, hsingle])]
    exact if_neg (by rw [hprim]; decide)
  rw [hheard, linkRules_standby r (partnerHeard d) hst hid]
  refine if_pos ?_
  rw [show (partnerHeard d).stbyLinked = true from hl]
  simp only [Bool.true_and, Bool.and_eq_true, Bool.not_eq_true', decide_eq_true_eq]
  exact ⟨⟨hcyc, hgot⟩, hnow⟩

/-! ### A cut part missing -/

/-- A missing cut part counted. -/
def partMissed (d : Dev) : Dev := modPair (fun x => { x with cutPartGot := true, cutMiss := wrapInc 8 x.cutMiss, cutRun := min 3 (x.cutRun + 1) }) d

/-- What stays in force after a missing cut part. -/
def partRepeated (r : Regs) (d : Dev) : Regs × Dev :=
  match d.pair.cutPart with
  | some p => partCommands p true r d
  | none => (r, d)

theorem cutPartMiss_missed (r : Regs) (d : Dev) (hrun : d.mde.dstate = .run) (hl : d.stbyLinked = true) (hcyc : d.mde.cyc.running = true)
    (hgot : d.pair.cutPartGot = false) (hnow : d.mde.cyc.cutTick + 5000 < d.now) :
    cutPartMiss r d = partRepeated r (syncJudge r (partMissed d)) := by
  refine if_pos ?_
  rw [hl, hcyc, hgot, show d.running = true from by simp [Dev.running, hrun]]
  simp only [Bool.true_and, Bool.not_false, decide_eq_true_eq]
  exact hnow

theorem partRepeated_shows (r : Regs) (d : Dev) : (partRepeated r d).2.pair = d.pair ∧ (partRepeated r d).2.mde.mode = d.mde.mode := by
  unfold partRepeated
  split
  · exact ⟨rfl, rfl⟩
  · exact ⟨rfl, rfl⟩

/-- Three missing parts in a row desynchronise a standby. -/
theorem syncJudge_missed (r : Regs) (d : Dev) (hs : d.pair.state = .stbySynced) (hc : 3 ≤ d.pair.cutRun) :
    (syncJudge r d).pair.state = .stbySyncing := by
  unfold syncJudge
  simp only [hs]
  rw [if_pos (le_max_of_le_right hc)]
  split_ifs
  · exact pairTo_state r _ _ d
  · exact pairTo_state r _ _ d

/-! ### The set taken -/

/-- The set of this cycle taken, before what the commanding unit does with it. -/
def setNoted (d : Dev) : Dev := modCyc (fun c => { c with setTaken := true }) d

/-- The commanding unit's own set kept. -/
def setKept (st : ContSet) (d : Dev) : Dev := modPair (fun x => { x with set := some st }) d

/-- The set sent to the partner. -/
def setSent (st : ContSet) (d : Dev) : Dev :=
  ndlSend .bulk [st.seq, st.hostLen] { d with
    ndl := { d.ndl with loadMirror := mirrorLoad st.hostLen d }, pair := { d.pair with hostTrunc := d.truncates } }

theorem continuityTake_due (r : Regs) (m : List Host.Cell) (d : Dev) (hr : d.mde.cyc.running = true) (hs : d.mde.cyc.setTaken = false)
    (hd : d.mde.cyc.deadlineDone = true) (ht : d.mde.cyc.cutTick + 90 * d.centT ≤ d.now) :
    continuityTake r m d =
      if d.commands then
        if d.isPrimary && d.linkUp then setSent (contSet r m d) (setKept (contSet r m d) (setNoted d)) else setKept (contSet r m d) (setNoted d)
      else setNoted d := by
  have hset : contSet r m (setNoted d) = contSet r m d := rfl
  unfold continuityTake
  rw [if_neg (by simp [hr, hs, hd, ht])]
  rw [← hset]
  cases hc : d.commands
  · refine if_pos ?_
    change (!(setNoted d).commands) = true
    rw [show (setNoted d).commands = false from hc]
    rfl
  · refine if_neg ?_
    change ¬((!(setNoted d).commands) = true)
    rw [show (setNoted d).commands = true from hc]
    decide

theorem acts_setSent (st : ContSet) (d : Dev) : Acts [.ndl, .pair] (setSent st d) d :=
  (acts_ndlSend _ _ _).trans (Acts.trans (b := { d with ndl := { d.ndl with loadMirror := mirrorLoad st.hostLen d } }) (acts_pair _ _) (acts_ndl d _)) |>.mono (by decide)

/-! ### The set accepted -/

/-- A set accepted on page PAIR and page NDL. -/
def setStored (st : ContSet) (eq : Bool) (d : Dev) : Dev :=
  { d with
    ndl := { d.ndl with partnerImage := st.image, partnerPending := st.pending, partnerCommands := true }
    pair := { d.pair with
      set := some st, bulkDone := true, imageEq := eq, accepted := wrapInc 16 d.pair.accepted, runOk := min 100 (d.pair.runOk + 1), runMiss := 0 } }

/-- What follows the set with equal images: origin, latched points, channels in OFF and the watch on divergence. -/
def setFollowed (r : Regs) (st : ContSet) (d : Dev) : Dev :=
  divergence r st (latchFromSet st (offFromSet st (if st.orgGen.2 then takeOrigin st.org.1 st.org.2 st.orgGen.1 d else d)))

theorem acceptSet_eq (r : Regs) (st : ContSet) (d : Dev) : acceptSet r st d =
    syncJudge r (if sameImage st d then setFollowed r st (setStored st (sameImage st d) d) else setStored st (sameImage st d) d) := rfl

theorem acts_reseed (r : Regs) (st : ContSet) (o : Nat) (d : Dev) : Acts [.irq, .evt, .fus] (reseed r st o d) d := by
  have hbase : Acts [.irq, .evt, .fus] (raise 0x27 6 d) d := (acts_raise 0x27 6 d).mono (by decide)
  have hown (e : Est) (f : FusSt → FusSt) (a : Dev) : Acts [.fus] { putSnapOwn d.mde.cyc.cutTb0 e a with fus := f (putSnapOwn d.mde.cyc.cutTb0 e a).fus } a :=
    (acts_fus (putSnapOwn d.mde.cyc.cutTb0 e a) _).also (acts_fus a _)
  have htgt (f : TgtSt → TgtSt) (e : Est) (a : Dev) : Acts [.fus] (modTgt o f (setTgtEst o e (putSnapTgt o d.mde.cyc.cutTb0 e a))) a :=
    (acts_fus (setTgtEst o e (putSnapTgt o d.mde.cyc.cutTb0 e a)) _).also ((acts_fus (putSnapTgt o d.mde.cyc.cutTb0 e a) _).also (acts_fus a _))
  exact ((acts_record r _ _ _).mono (by decide)).also
    ((Acts.ite ((hown _ (fun _ => _) _).mono (by decide)) ((htgt _ _ _).mono (by decide))).also hbase)

theorem contKept_divergence (r : Regs) (st : ContSet) (d : Dev) : ContKept (divergence r st d) d := by
  refine foldl_keeps (ContKept · d) _ _ d (fun a o ha => ContKept.trans ?_ ha) (.refl d)
  extract_lets n a1
  have h1 : ContKept a1 a := rfl
  exact (ContKept.when ((acts_reseed r st o a1).contKept (by decide))).trans h1

theorem acts_offFromSet (st : ContSet) (d : Dev) : Acts [.lop] (offFromSet st d) d :=
  acts_foldl _ _ d fun a x => .when (acts_modLop x.2 _ a)

theorem acts_latchFromSet (st : ContSet) (d : Dev) : Acts [.fus] (latchFromSet st d) d :=
  acts_foldl _ _ d fun a _ => .unless (acts_fus a _)

theorem contKept_setFollowed (r : Regs) (st : ContSet) (d : Dev) : ContKept (setFollowed r st d) d :=
  (contKept_divergence r st _).trans (((acts_latchFromSet st _).trans ((acts_offFromSet st _).trans
    (Acts.when (acts_takeOrigin _ _ _ d)))).contKept (by decide))

/-- A set accepted shows on page PAIR. -/
theorem contKept_acceptSet (r : Regs) (st : ContSet) (d : Dev) : ContKept (acceptSet r st d) (setStored st (sameImage st d) d) := by
  rw [acceptSet_eq]
  exact (contKept_syncJudge r _).trans (.when (contKept_setFollowed r st _))

/-! ### Fragments of a set -/

/-- The fragments that have come, with that of `b` where it is good. -/
def fragsWith (b : BulkIn) (d : Dev) : List Nat :=
  if b.ok then (if d.pair.bulkFrags.contains b.frag then d.pair.bulkFrags else b.frag :: d.pair.bulkFrags) else d.pair.bulkFrags

/-- A fragment noted on a standby. -/
def fragNoted (b : BulkIn) (d : Dev) : Dev := modPair (fun x => { x with bulkFrags := fragsWith b d, bulkBad := d.pair.bulkBad || !b.ok }) d

/-- The fragments awaited anew. -/
def fragsCleared (d : Dev) : Dev := modPair (fun x => { x with bulkFrags := [], bulkBad := false }) d

theorem fragsWith_complete (b : BulkIn) (d : Dev) (hok : b.ok = true) (h : ∀ i, i < max 1 b.frags → i = b.frag ∨ i ∈ d.pair.bulkFrags) :
    (List.range (max 1 b.frags)).all (fun i => (fragsWith b d).contains i) = true := by
  simp only [List.all_eq_true, List.mem_range, List.contains_iff_mem]
  intro i hi
  rw [fragsWith, if_pos hok]
  split
  next hc =>
    obtain rfl | hm := h i hi
    · simpa using hc
    · exact hm
  next => simpa using h i hi

/-- What a standby makes of a fragment on the running link. -/
def fragWeighed (b : BulkIn) (r : Regs) (d : Dev) : Dev :=
  if decide (d.mde.cyc.cutTick + 95 * d.centT < d.now) || (d.pair.bulkBad || !b.ok) || b.seq != d.pair.seqOwn then
    syncJudge r (missSet (fragNoted b d))
  else if (List.range (max 1 b.frags)).all (fun i => (fragsWith b d).contains i) && !(d.pair.bulkDone) then
    acceptSet r b.set (fragsCleared (fragNoted b d))
  else fragNoted b d

/-- The check of a frame leaves all but page NDL as it was, the link included. -/
theorem ndlFrame_keeps (ok : Bool) (d : Dev) : (ndlFrame ok d).pair = d.pair ∧ (ndlFrame ok d).mde = d.mde ∧ (ndlFrame ok d).now = d.now ∧
    (ndlFrame ok d).stbyLinked = d.stbyLinked := by
  unfold ndlFrame
  cases ok
  · simp only [Bool.false_eq_true, if_false, raiseIf_pair, raiseIf_mde, raiseIf_now, Dev.stbyLinked, Dev.linkUp, raiseIf_ndl]
    trivial
  · exact ⟨rfl, rfl, rfl, rfl⟩

theorem bulkFrame_standby (b : BulkIn) (r : Regs) (d : Dev) (hrun : d.mde.dstate = .run) (hl : d.stbyLinked = true) (hcyc : d.mde.cyc.running = true) :
    bulkFrame b r d = fragWeighed b r (ndlFrame b.ok d) := by
  obtain ⟨-, hup⟩ := (stbyLinked_iff d).mp hl
  obtain ⟨-, hmde, -, hst⟩ := ndlFrame_keeps b.ok d
  have hon : ((ndlFrame b.ok d).running && (ndlFrame b.ok d).stbyLinked && (ndlFrame b.ok d).mde.cyc.running) = true := by
    simp [Dev.running, hmde, hrun, hst, hl, hcyc]
  unfold bulkFrame
  rw [if_neg (by simp [hup])]
  exact if_neg (by rw [hon]; decide)

/-- A set whose last fragment has come in time is accepted. -/
theorem fragWeighed_accepts (b : BulkIn) (r : Regs) (d : Dev) (hok : b.ok = true) (hbad : d.pair.bulkBad = false) (hdone : d.pair.bulkDone = false)
    (hnow : d.now ≤ d.mde.cyc.cutTick + 95 * d.centT) (hseq : b.seq = d.pair.seqOwn)
    (hall : ∀ i, i < max 1 b.frags → i = b.frag ∨ i ∈ d.pair.bulkFrags) :
    fragWeighed b r d = acceptSet r b.set (fragsCleared (fragNoted b d)) := by
  unfold fragWeighed
  rw [if_neg (by simp [hok, hbad, hseq, hnow]), if_pos (by rw [fragsWith_complete b d hok hall, hdone]; rfl)]

/-- A damaged fragment is judged as a set missed. -/
theorem fragWeighed_damaged (b : BulkIn) (r : Regs) (d : Dev) (hok : b.ok = false) : fragWeighed b r d = syncJudge r (missSet (fragNoted b d)) :=
  if_pos (by simp [hok])

/-- A set missed, once. -/
def setMissed (d : Dev) : Dev :=
  modPair (fun x => { x with bulkDue := false, missed := wrapInc 8 x.missed, runOk := 0, runMiss := min 3 (x.runMiss + 1) }) d

theorem missSet_due (d : Dev) (hdone : d.pair.bulkDone = false) (hdue : d.pair.bulkDue = true) : missSet d = setMissed d :=
  if_pos (by simp [hdone, hdue])

/-- Settles O41. -/
theorem continuityParts : Obligations.ContinuityParts := by
  unfold Obligations.ContinuityParts
  refine ⟨fun s p hsingle hrun hl hid hcyc hgot hnow => ?_, fun s hrun hl hcyc hgot hnow => ?_, fun s => ?_,
    fun s b hrun hl hcyc hok hbad hdone hnow hseq hall => ?_, fun s b hrun hl hcyc hok hdone hdue => ?_⟩
  · refine ⟨_, onRegs_next s (cutPart p), ?_⟩
    rw [cutPart_accepted p s.regs s.dev.quiet hsingle hrun hl hid hcyc hgot hnow, settle_pair, settle_mde]
    obtain ⟨hkept, hmode⟩ := applyCutPart_shows p s.regs (partAccepted p (partnerHeard s.dev.quiet))
    generalize applyCutPart p s.regs (partAccepted p (partnerHeard s.dev.quiet)) = x at hkept hmode ⊢
    obtain ⟨hflag, hmde⟩ := takeFlag_shows p x.1 x.2
    have hall : contPart (takeFlag p x.1 x.2).pair = contPart (partAccepted p (partnerHeard s.dev.quiet)).pair := hflag.trans hkept
    simp only [contPart, Prod.mk.injEq] at hall
    obtain ⟨hpart, hgot', hseq, -⟩ := hall
    exact ⟨rfl, rfl, hpart, hgot', hseq, by rw [hmde, hmode]⟩
  · refine ⟨_, onRegs_next s cutPartMiss, ?_⟩
    rw [cutPartMiss_missed s.regs s.dev.quiet hrun hl hcyc hgot hnow, settle_pair, settle_mde]
    have hjudge := contKept_syncJudge s.regs (partMissed s.dev.quiet)
    have hmde : (syncJudge s.regs (partMissed s.dev.quiet)).mde = s.dev.mde := (acts_syncJudge s.regs _).agree .mde (by decide)
    have hsync (h1 : s.dev.pair.state = .stbySynced) (h2 : 2 ≤ s.dev.pair.cutRun) :
        (syncJudge s.regs (partMissed s.dev.quiet)).pair.state = .stbySyncing :=
      syncJudge_missed s.regs _ h1 (le_min le_rfl (Nat.succ_le_succ h2))
    generalize syncJudge s.regs (partMissed s.dev.quiet) = a at hjudge hmde hsync ⊢
    obtain ⟨hpair, hmode⟩ := partRepeated_shows s.regs a
    rw [hpair, hmode, hmde]
    simp only [ContKept, contPart, Prod.mk.injEq] at hjudge
    obtain ⟨-, hgot', -, hmiss, -⟩ := hjudge
    exact ⟨rfl, hmiss, hgot', rfl, hsync⟩
  · intro c hr hs hd ht
    refine ⟨_, onMem_next s fun r m d => ([], continuityTake r m d), ?_⟩
    dsimp only
    rw [continuityTake_due s.regs s.mem s.dev.quiet hr hs hd ht, settle_mde, settle_pair,
      show contSet s.regs s.mem s.dev.quiet = contSet s.regs s.mem s.dev from rfl, show s.dev.quiet.commands = s.dev.commands from rfl,
      show (s.dev.quiet.isPrimary && s.dev.quiet.linkUp) = (s.dev.isPrimary && s.dev.linkUp) from rfl]
    generalize contSet s.regs s.mem s.dev = st
    have hnoted : Acts [.mde, .pair, .ndl] (setNoted s.dev.quiet) s.dev.quiet := (acts_mde _ _).mono (by decide)
    have hkept : Acts [.mde, .pair, .ndl] (setKept st (setNoted s.dev.quiet)) s.dev.quiet :=
      ((acts_pair _ _).mono (by decide)).also hnoted
    have hsent : Acts [.mde, .pair, .ndl] (setSent st (setKept st (setNoted s.dev.quiet))) s.dev.quiet :=
      ((acts_setSent st _).mono (by decide)).also hkept
    cases hc : s.dev.commands
    · rw [if_neg (by decide)]
      exact ⟨hnoted.onlyParts (by decide), rfl, fun h => absurd h (by decide), fun _ => rfl, fun h => absurd h (by decide)⟩
    · rw [if_pos rfl]
      cases hp : s.dev.isPrimary && s.dev.linkUp
      · rw [if_neg (by decide)]
        refine ⟨hkept.onlyParts (by decide), rfl, fun _ => rfl, fun h => absurd h (by decide), fun _ h1 h2 => ?_⟩
        rw [h1, h2] at hp
        exact absurd hp (by decide)
      · rw [if_pos rfl]
        exact ⟨hsent.onlyParts (by decide), rfl, fun _ => rfl, fun h => absurd h (by decide), fun _ _ _ =>
          ⟨_, mem_settle_out _ _ _ (mem_emit_self _ _)⟩⟩
  · refine ⟨_, onDev_next s (bulkFrame b), ?_⟩
    obtain ⟨hpair, hmde, hnow', -⟩ := ndlFrame_keeps b.ok s.dev.quiet
    have hcfg : (ndlFrame b.ok s.dev.quiet).cfg = s.dev.cfg := (acts_ndlFrame b.ok s.dev.quiet).agree .cfg (by decide)
    rw [bulkFrame_standby b s.regs s.dev.quiet hrun hl hcyc, settle_pair]
    generalize ndlFrame b.ok s.dev.quiet = a at hpair hmde hnow' hcfg ⊢
    have hin : a.now ≤ a.mde.cyc.cutTick + 95 * a.centT := by
      rw [hnow', Dev.centT, hmde]
      exact hnow
    rw [fragWeighed_accepts b s.regs a hok (by rw [hpair]; exact hbad) (by rw [hpair]; exact hdone) hin (by rw [hpair]; exact hseq)
      (by rw [hpair]; exact hall)]
    have himg : sameImage b.set (fragsCleared (fragNoted b a)) = sameImage b.set s.dev := by
      change sameImage b.set a = sameImage b.set s.dev
      unfold sameImage Dev.imageNow Dev.descr
      rw [hcfg]
    have hkept := contKept_acceptSet s.regs b.set (fragsCleared (fragNoted b a))
    rw [himg] at hkept
    generalize acceptSet s.regs b.set (fragsCleared (fragNoted b a)) = z at hkept ⊢
    simp only [ContKept, contPart, Prod.mk.injEq] at hkept
    obtain ⟨-, -, -, -, hset, hdone', hacc, heq, -⟩ := hkept
    have hacc0 : (fragsCleared (fragNoted b a)).pair.accepted = s.dev.pair.accepted := by
      change a.pair.accepted = s.dev.pair.accepted
      rw [hpair]
      rfl
    exact ⟨rfl, rfl, hset, hdone', hacc.trans (congrArg (wrapInc 16) hacc0), heq⟩
  · refine ⟨_, onDev_next s (bulkFrame b), ?_⟩
    obtain ⟨hpair, -⟩ := ndlFrame_keeps b.ok s.dev.quiet
    have hframe := acts_ndlFrame b.ok s.dev.quiet
    rw [bulkFrame_standby b s.regs s.dev.quiet hrun hl hcyc, settle_pair, fragWeighed_damaged b s.regs _ hok]
    generalize ndlFrame b.ok s.dev.quiet = a at hpair hframe ⊢
    rw [missSet_due (fragNoted b a) ((congrArg PairSt.bulkDone hpair).trans hdone) ((congrArg PairSt.bulkDue hpair).trans hdue)]
    have hmissed : Acts [.pair] (setMissed (fragNoted b a)) a := (acts_pair _ _).also (acts_pair a _)
    have hkept := contKept_syncJudge s.regs (setMissed (fragNoted b a))
    refine ⟨(((acts_syncJudge s.regs _).trans hmissed).trans hframe).onlyParts (by decide), ?_⟩
    generalize syncJudge s.regs (setMissed (fragNoted b a)) = z at hkept ⊢
    simp only [ContKept, contPart, Prod.mk.injEq] at hkept
    obtain ⟨-, -, -, -, hset, -, hacc, -, hmiss⟩ := hkept
    have hfirst : (fragNoted b a).pair.missed = s.dev.pair.missed ∧ (setMissed (fragNoted b a)).pair.set = s.dev.pair.set ∧
        (setMissed (fragNoted b a)).pair.accepted = s.dev.pair.accepted := by
      change a.pair.missed = s.dev.pair.missed ∧ a.pair.set = s.dev.pair.set ∧ a.pair.accepted = s.dev.pair.accepted
      rw [hpair]
      exact ⟨rfl, rfl, rfl⟩
    exact ⟨hmiss.trans (congrArg (wrapInc 8) hfirst.1), hset.trans hfirst.2.1, hacc.trans hfirst.2.2⟩

end Sys2Proof
end

section
/-! PROOFS. The lifetime store and the hold-up energy [17 R506 R508 R509 R511 R512]. -/

namespace Sys2Proof

open Sys2Proof.Machine

theorem acts_hld (d : Dev) (x : HldSt) : Acts [.hld] { d with hld := x } d := (within_hld d x).acts (by decide)

/-! ### What a segment's wear and a preset keep of the store -/

/-- The store is kept but for the wear of its MRAM. -/
def WornFrom (b a : Dev) : Prop := ∃ w l, b.lif = { a.lif with live := { a.lif.live with wear := w }, warned := l }

theorem WornFrom.refl (d : Dev) : WornFrom d d := ⟨d.lif.live.wear, d.lif.warned, rfl⟩

theorem WornFrom.trans {c b a : Dev} (h : WornFrom c b) (g : WornFrom b a) : WornFrom c a := by
  obtain ⟨w, l, h⟩ := h
  obtain ⟨w', l', g⟩ := g
  exact ⟨w, l, by rw [h, g]⟩

theorem wornFrom_wearOne (r : Regs) (d : Dev) (p : Nat) : WornFrom (wearOne r d p) d := by
  unfold wearOne
  extract_lets a
  split
  · rw [WornFrom, record_lif]
    exact ⟨_, _, rfl⟩
  · exact ⟨_, d.lif.warned, rfl⟩

/-- The wear of a segment is all that it changes in the store. -/
theorem wornFrom_wearSeg (r : Regs) (l : List (Area × Nat)) (d : Dev) : WornFrom (wearSeg r l d) d :=
  foldl_keeps (WornFrom · d) (wearOne r) (wearPages l) d (fun a p ha => (wornFrom_wearOne r a p).trans ha) (.refl d)

theorem recordCont_lif (r : Regs) (e : Ev) (x y : Par) (d : Dev) : (recordCont r e x y d).lif = d.lif :=
  (acts_recordCont r e x y d).agree .lif (by decide)

/-- A waiting preset in the counters that it names. -/
def presetIn (o : Option (Nat × Nat × Nat)) (l : List ThrLife) : List ThrLife :=
  match o with
  | some (h, c, v) => modAt l h fun x => x.set c v
  | none => l

theorem get_set_self (x : ThrLife) (c v : Nat) : (x.set c v).get c = v :=
  match c with
  | 0 | 1 | 2 | _ + 3 => rfl

theorem presetIn_get (h c v : Nat) (l : List ThrLife) (hl : h < l.length) : (at' (presetIn (some (h, c, v)) l) h).get c = v := by
  rw [presetIn, at'_modAt_self _ h _ hl]
  exact get_set_self _ c v

theorem applyPreset_lif (r : Regs) (d : Dev) : (applyPreset r d).lif =
    { d.lif with preset := none, live := { d.lif.live with thr := presetIn d.lif.preset d.lif.live.thr } } := by
  unfold applyPreset
  split
  next h =>
    rw [h, presetIn]
    exact (congrArg (fun o => { d.lif with preset := o }) h)
  next h c v hp =>
    rw [recordCont_lif, hp, presetIn]
    rfl

theorem acts_applyPreset (r : Regs) (d : Dev) : Acts [.irq, .evt, .lif] (applyPreset r d) d := by
  unfold applyPreset
  split
  · exact .refl _ d
  · exact ((acts_recordCont r _ _ _ _).mono (by decide)).also (((acts_lif _ _).also (acts_lif d _)).mono (by decide))

theorem acts_countDevOn (d : Dev) : Acts [.lif] (countDevOn d) d := (acts_lif _ _).also (acts_lif d _)

/-! ### The commit of the store -/

/-- The store just before it is written: its time counted, its preset applied, and the wear of the segment. -/
def lifeReady (r : Regs) (d : Dev) : Dev := wearSeg r [(.life, if d.lif.gen = 0 then 0 else (d.lif.copy + 1) % 3)] d

/-- Copy `n` written. -/
def lifeWritten (n g : Nat) (x : LifeData) (d : Dev) : Dev :=
  { d with lif := { d.lif with
    live := x, gen := g, copy := n, due := false, deferred := false, lastAt := d.tb3
    copies := modAt d.lif.copies n fun _ => { gen := g, good := true, data := x } } }

theorem commitLife_eq (r : Regs) (d : Dev) : commitLife r d =
    let a := applyPreset r (countDevOn d)
    let b := lifeReady r a
    lifeWritten (if a.lif.gen = 0 then 0 else (a.lif.copy + 1) % 3) ((b.lif.gen + 1) % 2 ^ 32) { b.lif.live with tb3 := b.tb3 } b := rfl

theorem acts_commitLife (r : Regs) (d : Dev) : Acts [.irq, .evt, .lif] (commitLife r d) d := by
  rw [commitLife_eq]
  exact ((acts_lif _ _).mono (by decide)).also ((acts_wearSeg r _ _).also ((acts_applyPreset r _).also ((acts_countDevOn d).mono (by decide))))

/-- DEV_ON with `n` seconds more. -/
def devOnMore (n : Nat) (l : LifeData) : LifeData := { l with devOn := min (l.devOn + n) (2 ^ 32 - 1) }

theorem devOnMore_devOn (n : Nat) (l : LifeData) : ∃ on, devOnMore n l = { l with devOn := on } := ⟨_, rfl⟩

/-- The seconds counted up to second `n` of TB3. -/
def countedTo (n : Nat) (d : Dev) : Dev :=
  let d' := modLife (devOnMore (n - d.lif.devSec)) d
  { d' with lif := { d'.lif with devSec := max n d.lif.devSec } }

theorem countDevOn_eq (d : Dev) : countDevOn d = countedTo (d.tb3 / nsPerSec) d := by
  unfold countDevOn countedTo
  rfl

theorem countedTo_lif (n : Nat) (d : Dev) :
    (countedTo n d).lif = { d.lif with devSec := max n d.lif.devSec, live := devOnMore (n - d.lif.devSec) d.lif.live } := rfl

/-- The seconds of TB3 counted move DEV_ON alone. -/
theorem countDevOn_lif (d : Dev) : ∃ on sec, (countDevOn d).lif = { d.lif with devSec := sec, live := { d.lif.live with devOn := on } } := by
  rw [countDevOn_eq, countedTo_lif]
  obtain ⟨on, hon⟩ := devOnMore_devOn (d.tb3 / nsPerSec - d.lif.devSec) d.lif.live
  rw [hon]
  exact ⟨on, _, rfl⟩

/-- What the store holds once it is ready for its commit. -/
theorem lifeReady_lif (r : Regs) (d : Dev) : ∃ on sec w l, (lifeReady r (applyPreset r (countDevOn d))).lif = { d.lif with
    preset := none, devSec := sec, warned := l
    live := { d.lif.live with devOn := on, wear := w, thr := presetIn d.lif.preset d.lif.live.thr } } := by
  obtain ⟨w, l, hworn⟩ := wornFrom_wearSeg r [(.life, if (applyPreset r (countDevOn d)).lif.gen = 0 then 0
    else ((applyPreset r (countDevOn d)).lif.copy + 1) % 3)] (applyPreset r (countDevOn d))
  obtain ⟨on, sec, hon⟩ := countDevOn_lif d
  rw [lifeReady, hworn, applyPreset_lif, hon]
  exact ⟨on, sec, w, l, rfl⟩

/-- The copy that takes the store next. -/
def lifeNext (d : Dev) : Nat := if d.lif.gen = 0 then 0 else (d.lif.copy + 1) % 3

theorem lifeNext_lt (d : Dev) : lifeNext d < 3 := by
  unfold lifeNext
  split
  · decide
  · exact Nat.mod_lt _ (by decide)

theorem lifCommit_due (r : Regs) (d : Dev) (h : d.lif.due = true ∨ d.lif.lastAt + 60000000000 ≤ d.tb3) (hm : d.mramOn = true) :
    lifCommit r d = if segOk r d then commitLife r d else deferSeg d.lif.deferred { d with lif := { d.lif with deferred := true } } := by
  refine if_pos ?_
  rw [hm, Bool.and_true, Bool.or_eq_true, decide_eq_true_eq]
  exact h

theorem lifCommit_idle (r : Regs) (d : Dev) (hd : d.lif.due = false) (ht : d.tb3 < d.lif.lastAt + 60000000000) : lifCommit r d = d := by
  refine if_neg ?_
  rw [hd, Bool.false_or, Bool.and_eq_true, decide_eq_true_eq, not_and_or]
  exact .inl (Nat.not_le.mpr ht)

/-- A good leap entry is later than the last one of a table that is not full. -/
def leapGood (d : Dev) : Prop := d.lif.live.leaps.length < 64 ∧ ∀ x, d.lif.live.leaps.getLast? = some x → x.time < d.lif.stage.time

theorem leapAdd_good (r : Regs) (d : Dev) (hl : r.lockOpen 0x2A d.now = true) (h : leapGood d) :
    leapAdd r d = (r, leapPut r { d.lif.stage with late := false } d) := by
  obtain ⟨hlen, hlast⟩ := h
  unfold leapAdd
  extract_lets e later
  have hlater : later = true := by
    dsimp only [later]
    split
    next x hx => exact decide_eq_true (hlast x hx)
    next => rfl
  rw [if_neg (by simp [hl]), if_neg (by simp [hlater, hlen])]

theorem leapAdd_bad (r : Regs) (d : Dev) (hl : r.lockOpen 0x2A d.now = true) (h : ¬leapGood d) : leapAdd r d = (r.reject 0x2A 0xB0 3, d) := by
  unfold leapAdd
  extract_lets e later
  rw [if_neg (by simp [hl])]
  refine if_pos ?_
  rw [Bool.or_eq_true, Bool.not_eq_true', decide_eq_true_eq]
  by_contra hno
  rw [not_or, Bool.not_eq_false, Nat.not_le] at hno
  refine h ⟨hno.2, fun x hx => ?_⟩
  have hlater := hno.1
  dsimp only [later] at hlater
  rw [hx] at hlater
  exact of_decide_eq_true hlater

theorem leapAdd_locked (r : Regs) (d : Dev) (hl : r.lockOpen 0x2A d.now = false) : leapAdd r d = (r.reject 0x2A 0xB0 2, d) := if_pos (by simp [hl])

/-- A leap entry put into a table with room. -/
theorem leapPut_shows (r : Regs) (e : LeapEntry) (d : Dev) (h : d.lif.live.leaps.length < 64) (hraw : 0x2A < d.irq.raw.length) :
    (leapPut r e d).lif.live.leaps = d.lif.live.leaps ++ [e] ∧ (leapPut r e d).lif.due = true ∧ (at' (leapPut r e d).irq.raw 0x2A).testBit 0 = true := by
  rw [leapPut, if_neg (Nat.not_le.mpr h), record_lif]
  exact ⟨rfl, rfl, (acts_record r _ _ _).raised.bit _ _ (raise_testBit_self 0x2A 0 _ hraw)⟩

/-- A preset accepted. -/
def presetAsked (h c v : Nat) (d : Dev) : Dev := askLife { d with lif := { d.lif with preset := some (h, c, v) } }

theorem acts_presetAsked (h c v : Nat) (d : Dev) : Acts [.lif] (presetAsked h c v d) d := (acts_lif _ _).also (acts_lif d _)

/-- A preset and the count of the time leave the rotation of the copies. -/
theorem applyPreset_copy (r : Regs) (d : Dev) :
    (applyPreset r (countDevOn d)).lif.gen = d.lif.gen ∧ (applyPreset r (countDevOn d)).lif.copy = d.lif.copy := by
  obtain ⟨on, sec, hon⟩ := countDevOn_lif d
  rw [applyPreset_lif, hon]
  exact ⟨rfl, rfl⟩

/-- Settles O52. -/
theorem lifetimeStore : Obligations.LifetimeStore := by
  unfold Obligations.LifetimeStore
  refine ⟨fun s hdue hm hseg hlen => ?_, fun s hdue hm hseg => ?_, fun s hd ht => ?_, fun s => ?_, fun s => ?_⟩
  · intro n
    refine ⟨_, onDev_next s lifCommit, ?_⟩
    rw [lifCommit_due s.regs s.dev.quiet hdue hm, if_pos (show segOk s.regs s.dev.quiet = true from hseg), settle_lif]
    refine ⟨(acts_commitLife s.regs s.dev.quiet).onlyParts (by decide), ?_⟩
    rw [commitLife_eq]
    obtain ⟨hgen, hcopy⟩ := applyPreset_copy s.regs s.dev.quiet
    dsimp only
    rw [hgen, hcopy]
    have hlt : n < 3 := lifeNext_lt s.dev
    have htb : (lifeReady s.regs (applyPreset s.regs (countDevOn s.dev.quiet))).tb3 = s.dev.tb3 :=
      congrArg (fun x : TimSt => (at' x.tb 3).total) (((acts_wearSeg s.regs _ _).also ((acts_applyPreset s.regs _).also
        ((acts_countDevOn s.dev.quiet).mono (by decide)))).agree .tim (by decide))
    obtain ⟨on, sec, w, l, hready⟩ := lifeReady_lif s.regs s.dev.quiet
    generalize lifeReady s.regs (applyPreset s.regs (countDevOn s.dev.quiet)) = a at htb hready ⊢
    change (lifeWritten n ((a.lif.gen + 1) % 2 ^ 32) { a.lif.live with tb3 := a.tb3 } a).lif.gen = _ ∧ _
    have hgen' : a.lif.gen = s.dev.lif.gen := by rw [hready]; rfl
    have hcopies : a.lif.copies = s.dev.lif.copies := by rw [hready]; rfl
    have hthr : a.lif.live.thr = presetIn s.dev.lif.preset s.dev.lif.live.thr := by rw [hready]; rfl
    have hpre : a.lif.preset = none := by rw [hready]
    refine ⟨by rw [← hgen']; rfl, rfl, rfl, htb, htb, hpre, ?_, fun m hm => ?_, fun h c v hp hh => ?_⟩
    · exact at'_modAt_self _ n _ (by rw [hcopies]; omega)
    · rw [← hcopies]
      exact at'_modAt_other _ n _ _ (Ne.symm hm)
    · change (at' a.lif.live.thr h).get c = v
      rw [hthr, hp]
      exact presetIn_get h c v _ hh
  · refine ⟨_, onDev_next s lifCommit, ?_⟩
    rw [lifCommit_due s.regs s.dev.quiet hdue hm, if_neg (by rw [show segOk s.regs s.dev.quiet = false from hseg]; decide), settle_lif, settle_hld]
    refine ⟨((within_deferSeg _ _).acts (by decide) |>.trans (acts_lif _ _)).onlyParts (by decide), ?_, ?_⟩
    · exact (within_deferSeg _ _).agree .lif (by decide)
    · unfold deferSeg
      cases hdef : s.dev.quiet.lif.deferred
      · rw [if_neg (by decide), if_neg (by rw [show s.dev.lif.deferred = false from hdef]; decide)]
        rfl
      · rw [if_pos rfl, if_pos (show s.dev.lif.deferred = true from hdef)]
        rfl
  · refine ⟨_, onDev_next s lifCommit, ?_⟩
    rw [lifCommit_idle s.regs s.dev.quiet hd ht]
    exact onlyParts_quiet _ s s.regs
  · intro c lock
    refine ⟨_, onRegs_next s lifPreset, ?_⟩
    unfold lifPreset
    rw [show s.regs.lockOpen 0x2A s.dev.quiet.now = lock from rfl, show s.regs.get F.LIF_PRESET_SEL_CNT = c from rfl]
    generalize lock = l
    cases l
    · simp only [Bool.not_false, if_true, settle_lif]
      exact ⟨onlyParts_quiet _ { s with regs := s.regs.reject 0x2A 0x88 2 } _, fun _ => ⟨trivial, rfl⟩, fun h => absurd h (by decide), fun h => absurd h (by decide)⟩
    · by_cases hc : 3 < c
      · simp only [Bool.not_true, Bool.false_eq_true, if_false, if_pos hc, settle_lif]
        exact ⟨onlyParts_quiet _ { s with regs := s.regs.reject 0x2A 0x88 3 } _, fun h => absurd h (by decide), fun _ _ => ⟨trivial, rfl⟩,
          fun _ h => absurd hc (Nat.not_lt.mpr h)⟩
      · simp only [Bool.not_true, Bool.false_eq_true, if_false, if_neg hc, settle_lif]
        exact ⟨(acts_presetAsked _ _ _ s.dev.quiet).onlyParts (by decide), fun h => absurd h (by decide), fun _ h => absurd h hc, fun _ _ => ⟨trivial, rfl⟩⟩
  · intro old good lock hraw
    refine ⟨_, onRegs_next s leapAdd, ?_⟩
    cases hlock : lock
    · rw [leapAdd_locked s.regs s.dev.quiet hlock, settle_lif, settle_evt]
      exact ⟨onlyParts_quiet _ { s with regs := s.regs.reject 0x2A 0xB0 2 } _, fun _ => ⟨rfl, rfl, rfl⟩, fun h => absurd h (by decide), fun h => absurd h (by decide)⟩
    · by_cases hg : good
      · rw [leapAdd_good s.regs s.dev.quiet hlock hg, settle_lif, settle_evt, settle_raw]
        obtain ⟨hleaps, hdue, hbit⟩ := leapPut_shows s.regs { s.dev.quiet.lif.stage with late := false } s.dev.quiet hg.1 hraw
        exact ⟨(acts_leapPut s.regs _ s.dev.quiet).onlyParts (by decide), fun h => absurd h (by decide), fun _ h => absurd hg h,
          fun _ _ => ⟨rfl, hleaps, hdue, hbit⟩⟩
      · rw [leapAdd_bad s.regs s.dev.quiet hlock hg, settle_lif, settle_evt]
        exact ⟨onlyParts_quiet _ { s with regs := s.regs.reject 0x2A 0xB0 3 } _, fun h => absurd h (by decide), fun _ _ => ⟨rfl, rfl, rfl⟩,
          fun _ h => absurd h hg⟩

/-! ### The hold-up energy -/

/-- The means of a measurement stored, and the quiet time after it begun. -/
def measured (p q : F64) (d : Dev) : Dev :=
  { d with hld := { d.hld with measuring := false, quietTo := d.now + 250000, dvPre := p.to32, dvStep := q.to32 } }

/-- A measurement that gives C. -/
def measureGood (x : F64) (d : Dev) : Dev :=
  raise 0x2B 2 { d with hld := { d.hld with measFail := false, failRun := 0, c := ((frac 1 10000).div x).to32 } }

/-- A measurement that fails for the `n`th time in a row. -/
def measureFailed (n : Nat) (c : F32) (r : Regs) (d : Dev) : Dev :=
  record r .holdMeasFail { p0 := micro c, p3 := n } (raise 0x2B 3 { d with hld := { d.hld with measFail := true, failRun := n, c := c } })

theorem holdMeasureDone_eq (a b c : F32) (r : Regs) (d : Dev) (h : d.hld.measuring = true) : let p := b.to64.sub a.to64
    let q := c.to64.sub b.to64
    let n := min (d.hld.failRun + 1) 2
    holdMeasureDone a b c r d =
      if (frac 2 1000).le (p.sub q) then measureGood (p.sub q) (measured p q d)
      else measureFailed n (if n = 2 then F32.zero else d.hld.c) r (measured p q d) :=
  if_neg (by simp [h])

theorem acts_measured (p q : F64) (d : Dev) : Acts [.irq, .hld, .evt] (measured p q d) d := (acts_hld d _).mono (by decide)

theorem acts_measureGood (x : F64) (d : Dev) : Acts [.irq, .hld, .evt] (measureGood x d) d :=
  ((acts_raise 0x2B 2 _).mono (by decide)).also ((acts_hld d _).mono (by decide))

theorem acts_measureFailed (n : Nat) (c : F32) (r : Regs) (d : Dev) : Acts [.irq, .hld, .evt] (measureFailed n c r d) d :=
  ((acts_record r _ _ _).mono (by decide)).also (((acts_raise 0x2B 3 _).mono (by decide)).also ((acts_hld d _).mono (by decide)))

theorem measureFailed_hld (n : Nat) (c : F32) (r : Regs) (d : Dev) :
    (measureFailed n c r d).hld = { d.hld with measFail := true, failRun := n, c := c } := record_hld r _ _ _

theorem failRun_two (n : Nat) : min (n + 1) 2 = 2 ↔ n ≠ 0 := by omega

/-- The energy of a node voltage stored. -/
def energyStored (v e : F32) (low : Bool) (d : Dev) : Dev := { d with hld := { d.hld with v := v, e := e, low := low } }

/-- A change of HOLD_LOW told. -/
def lowTold (e : F32) (low : Bool) (r : Regs) (d : Dev) : Dev :=
  record r .holdLow { p0 := micro e, p3 := b2n low } (raise 0x2B (if low then 0 else 1) d)

theorem holdUpdate_eq (v : F32) (r : Regs) (d : Dev) (h : d.cfg.slotDue = false) : let e := holdEnergy r d.hld.c v
    let low := !((r.f32 F.HLD_E_REQ_E_REQ).le e)
    holdUpdate v r d = if low = d.hld.low then energyStored v e low d else lowTold e low r (energyStored v e low d) := by
  intro e low
  have hdue : (energyStored v e low d).cfg.slotDue = false := h
  have hmark : (if (energyStored v e low d).cfg.slotDue then commitMark r (energyStored v e low d) else energyStored v e low d) =
      energyStored v e low d := if_neg (by rw [hdue]; decide)
  unfold holdUpdate
  exact congrArg (fun a => if low = d.hld.low then a else lowTold e low r a) hmark

theorem acts_lowTold (e : F32) (low : Bool) (r : Regs) (d : Dev) : Acts [.irq, .evt] (lowTold e low r d) d :=
  (acts_record r _ _ _).also ((acts_raise 0x2B _ d).mono (by decide))

/-- Settles O53. -/
theorem holdUpEnergy : Obligations.HoldUpEnergy := by
  unfold Obligations.HoldUpEnergy
  refine ⟨fun s => ?_, fun s a b c hm hraw => ?_, fun s a b c hm => ?_, fun s v hdue hraw => ?_⟩
  · refine ⟨_, onDev_next s holdMeasure, ?_⟩
    rw [settle_hld]
    have hact : Acts [.hld] (holdMeasure s.regs s.dev.quiet) s.dev.quiet := .unless (.ite (acts_hld _ _) (acts_hld _ _))
    refine ⟨hact.onlyParts (by decide), fun h => ?_, fun h1 h2 => ?_, fun h1 h2 => ?_⟩
    · rw [holdMeasure, if_pos (show s.dev.quiet.hld.measuring = true from h)]
      rfl
    · rw [holdMeasure, if_neg (by rw [show s.dev.quiet.hld.measuring = false from h1]; decide), if_pos (show s.dev.quiet.hld.segment = true from h2)]
      rfl
    · rw [holdMeasure, if_neg (by rw [show s.dev.quiet.hld.measuring = false from h1]; decide),
        if_neg (by rw [show s.dev.quiet.hld.segment = false from h2]; decide)]
      rfl
  · intro p q
    refine ⟨_, onDev_next s (holdMeasureDone a b c), ?_⟩
    rw [holdMeasureDone_eq a b c s.regs s.dev.quiet hm, settle_hld, settle_raw]
    have hstart := acts_measured p q s.dev.quiet
    by_cases hgood : (frac 2 1000).le (p.sub q) = true
    · rw [if_pos hgood]
      exact ⟨((acts_measureGood (p.sub q) (measured p q s.dev.quiet)).also hstart).onlyParts (by decide), rfl, rfl, rfl, rfl,
        fun _ => ⟨rfl, rfl, raise_testBit_self 0x2B 2 _ hraw⟩, fun h => absurd hgood (by rw [h]; decide)⟩
    · rw [if_neg hgood, measureFailed_hld]
      refine ⟨((acts_measureFailed _ _ s.regs (measured p q s.dev.quiet)).also hstart).onlyParts (by decide), rfl, rfl, rfl, rfl,
        fun h => absurd h hgood, fun _ => ⟨rfl, ?_, ?_⟩⟩
      · exact (acts_record s.regs _ _ _).raised.bit _ _ (raise_testBit_self 0x2B 3 _ hraw)
      · by_cases hn : s.dev.hld.failRun = 0
        · rw [if_pos hn]
          exact if_neg ((failRun_two s.dev.hld.failRun).not.mpr (not_not.mpr hn))
        · rw [if_neg hn]
          exact if_pos ((failRun_two s.dev.hld.failRun).mpr hn)
  · refine ⟨_, onDev_next s (holdMeasureDone a b c), ?_⟩
    rw [show holdMeasureDone a b c s.regs s.dev.quiet = s.dev.quiet from if_pos (by rw [show s.dev.quiet.hld.measuring = false from hm]; rfl)]
    exact onlyParts_quiet _ s s.regs
  · intro e low
    refine ⟨_, onDev_next s (holdUpdate v), ?_⟩
    have hupd : holdUpdate v s.regs s.dev.quiet = if low = s.dev.quiet.hld.low then energyStored v e low s.dev.quiet
        else lowTold e low s.regs (energyStored v e low s.dev.quiet) := holdUpdate_eq v s.regs s.dev.quiet hdue
    rw [hupd, settle_hld, settle_evt, settle_raw]
    have hstart : Acts [.irq, .hld, .evt] (energyStored v e low s.dev.quiet) s.dev.quiet := (acts_hld _ _).mono (by decide)
    by_cases hlow : low = s.dev.hld.low
    · rw [if_pos (show low = s.dev.quiet.hld.low from hlow)]
      exact ⟨hstart.onlyParts (by decide), rfl, fun _ => rfl, fun h => absurd hlow h⟩
    · rw [if_neg (show ¬low = s.dev.quiet.hld.low from hlow)]
      refine ⟨(((acts_lowTold e low s.regs _).mono (by decide)).also hstart).onlyParts (by decide), record_hld s.regs _ _ _, fun h => absurd h hlow, fun _ => ?_⟩
      exact (acts_record s.regs _ _ _).raised.bit _ _ (raise_testBit_self 0x2B _ _ hraw)

end Sys2Proof
end

section
/-! PROOFS. What each cause of a reset resets, and what it keeps [18 R524 R525 R526]. -/

namespace Sys2Proof

open Sys2Proof.Machine

/-! ### What events and roles keep of the recorder's areas -/

/-- The two areas of the recorder in MRAM, and whether recording has stopped. -/
def storedPart (e : EvtSt) : List (Nat × EvRec) × List EvRec × Bool := (e.reel, e.corner, e.stopped)

/-- The recorder's areas are kept. -/
def StoreKept (b a : Dev) : Prop := storedPart b.evt = storedPart a.evt

theorem StoreKept.refl (d : Dev) : StoreKept d d := rfl

theorem StoreKept.trans {c b a : Dev} (h : StoreKept c b) (g : StoreKept b a) : StoreKept c a := Eq.trans h g

theorem StoreKept.ite {c : Prop} [Decidable c] {a b d : Dev} (ha : StoreKept a d) (hb : StoreKept b d) : StoreKept (if c then a else b) d := by
  split
  · exact ha
  · exact hb

theorem StoreKept.when {c : Prop} [Decidable c] {b a : Dev} (h : StoreKept b a) : StoreKept (if c then b else a) a := .ite h (.refl a)

theorem StoreKept.unless {c : Prop} [Decidable c] {b a : Dev} (h : StoreKept b a) : StoreKept (if c then a else b) a := .ite (.refl a) h

/-- What acts outside page EVT keeps the recorder's areas. -/
theorem Acts.storeKept {l : List Part} {b a : Dev} (h : Acts l b a) (hl : Part.evt ∉ l) : StoreKept b a :=
  congrArg storedPart (h.agree .evt hl)

theorem storeKept_foldN (n : Nat) (f : Nat → Dev → Dev) (d : Dev) (h : ∀ i a, StoreKept (f i a) a) : StoreKept (foldN n f d) d :=
  foldN_keeps (StoreKept · d) n f d (fun i a ha => (h i a).trans ha) (.refl d)

theorem storeKept_lostRecord (d : Dev) : StoreKept (lostRecord d) d := .unless rfl

/-- A record enters the queue alone. -/
theorem storeKept_enter (win : Nat) (x : EvRec) (more : List EvRec) (d : Dev) : StoreKept (enter win x more d) d := by
  have hlost := storeKept_lostRecord d
  have hpush (l : List EvRec) (e : EvtSt) (n : Nat) : storedPart (l.foldl (fun e x => e.push n x) e) = storedPart e :=
    foldl_keeps (fun v : EvtSt => storedPart v = storedPart e) _ l e (fun _ _ ha => ha) rfl
  unfold enter
  refine .unless ?_
  generalize lostRecord d = a at hlost ⊢
  refine StoreKept.trans (.ite ?_ (.ite (hpush (x :: more) a.evt a.now) rfl)) hlost
  split
  · rfl
  · rfl

theorem storeKept_record (r : Regs) (e : Ev) (x : Par) (d : Dev) : StoreKept (record r e x d) d := storeKept_enter _ _ _ d

theorem storeKept_pwmTake (r : Regs) (n : Nat) (d : Dev) : StoreKept (pwmTake r n d) d := by
  unfold pwmTake
  split
  · exact .refl d
  · exact (StoreKept.when (congrArg storedPart ((within_dioFunc r _ _ _).agree .evt (by decide)))).trans rfl

theorem storeKept_aouPut (r : Regs) (n : Nat) (u : F32) (d : Dev) : StoreKept (aouPut r n u d).1 d := by
  unfold aouPut
  dsimp only
  split
  · rfl
  · exact (StoreKept.when (storeKept_pwmTake r n _)).trans rfl

theorem storeKept_aouFail (r : Regs) (n : Nat) (d : Dev) : StoreKept (aouFail r n d) d := by
  have hput : StoreKept (if r.bit F.AOU_CFG_FAIL n then (aouPut r n F32.zero d).1 else d) d := .when (storeKept_aouPut r n _ d)
  exact .unless hput

theorem storeKept_axisStop (r : Regs) (i : Nat) (c : StopCause) (d : Dev) : StoreKept (axisStop r i c d) d :=
  .ite ((storeKept_record r _ _ _).trans rfl) (((acts_raiseIf _ _ _ _).storeKept (by decide)).trans rfl)

theorem storeKept_axisEnable (r : Regs) (i : Nat) (on : Bool) (d : Dev) : StoreKept (axisEnable r i on d) d :=
  (StoreKept.when (congrArg storedPart ((within_dioFunc r _ on _).agree .evt (by decide)))).trans rfl

theorem storeKept_pfgFail (r : Regs) (i : Nat) (d : Dev) : StoreKept (pfgFail r i d) d := by
  have hoff (a : Dev) : StoreKept (if r.bit F.PFG_CFG_FAIL i then axisEnable r i false a else a) a := .when (storeKept_axisEnable r i false a)
  exact .unless ((hoff _).trans (storeKept_axisStop r i .failState d))

theorem storeKept_slotFail (r : Regs) (n : Nat) (d : Dev) : StoreKept (slotFail r n d) d := by
  unfold slotFail slotWrite
  split
  · exact .refl d
  · refine .when ?_
    split
    · exact .refl d
    · rfl

/-- The fail states of the outputs keep the recorder's areas. -/
theorem storeKept_failAll (r : Regs) (d : Dev) : StoreKept (failAll r d) d := by
  have houts : StoreKept (failOutputs r d) d :=
    StoreKept.trans (congrArg storedPart ((within_dioDrive r _).agree .evt (by decide)))
      ((storeKept_foldN 8 _ _ fun i a => .unless (storeKept_pfgFail r i a)).trans (storeKept_foldN 32 _ d fun n a => .unless (storeKept_aouFail r n a)))
  exact (storeKept_foldN 32 _ _ fun _ a => .when (storeKept_slotFail r _ a)).trans houts

theorem storeKept_nextTakeFromNow (r : Regs) (d : Dev) : StoreKept (nextTakeFromNow r d) d := by
  unfold nextTakeFromNow
  exact (acts_pair d _).storeKept (by decide)

theorem storeKept_pairTo (r : Regs) (st : PState) (cause : Nat) (d : Dev) : StoreKept (pairTo r st cause d) d := by
  unfold pairTo
  refine .unless ?_
  extract_lets role x a b
  have ha : StoreKept a d := rfl
  have hb : StoreKept b a := .when (storeKept_nextTakeFromNow r a)
  exact (storeKept_record r _ _ _).trans (((acts_raise _ _ _).storeKept (by decide)).trans (hb.trans ha))

theorem storeKept_setRole (b : Bool) (d : Dev) : StoreKept (setRole b d) d := .unless rfl

theorem storeKept_stopCommanding (r : Regs) (st : PState) (cause : Nat) (d : Dev) : StoreKept (stopCommanding r st cause d) d := by
  have hstop (a : Dev) : StoreKept (failAll r (setRole false (pairTo r st cause a))) a :=
    (storeKept_failAll r _).trans ((storeKept_setRole false _).trans (storeKept_pairTo r st cause a))
  have hsend (c : Prop) [Decidable c] (a : Dev) : StoreKept (if c then ndlSend .relinquish [] a else a) a := .when rfl
  exact (hsend _ _).trans ((hstop _).trans rfl)

/-- Leaving the roles keeps the recorder's areas. -/
theorem storeKept_leaveRoles (r : Regs) (d : Dev) : StoreKept (leaveRoles r d) d := by
  have hgone : StoreKept (if d.isPrimary then stopCommanding r .single d.pair.cause d else pairTo r .single d.pair.cause d) d :=
    .ite (storeKept_stopCommanding r _ _ d) (storeKept_pairTo r _ _ d)
  exact (storeKept_setRole false _).trans hgone

/-! ### What stays through a reset -/

/-- What the always-on domain, the island and the pins keep through a reset. -/
structure AonKept (b a : Dev) : Prop where
  now : b.now = a.now
  mde : b.mde = a.mde
  tim : b.tim = a.tim
  gns2 : b.gns2 = a.gns2
  saf : b.saf = a.saf
  unit : b.pair.unitId = a.pair.unitId

theorem AonKept.refl (d : Dev) : AonKept d d := ⟨rfl, rfl, rfl, rfl, rfl, rfl⟩

theorem AonKept.trans {c b a : Dev} (h : AonKept c b) (g : AonKept b a) : AonKept c a :=
  ⟨h.now.trans g.now, h.mde.trans g.mde, h.tim.trans g.tim, h.gns2.trans g.gns2, h.saf.trans g.saf, h.unit.trans g.unit⟩

theorem AonKept.ite {c : Prop} [Decidable c] {a b d : Dev} (ha : AonKept a d) (hb : AonKept b d) : AonKept (if c then a else b) d := by
  split
  · exact ha
  · exact hb

/-- What acts on the recorder, the store and the outputs keeps it. -/
theorem Acts.aonKept {l : List Part} {b a : Dev} (h : Acts l b a) (hl : ∀ p ∈ [Part.mde, .tim, .gns2, .saf], p ∉ l)
    (hu : b.pair.unitId = a.pair.unitId) : AonKept b a :=
  ⟨h.within.now, h.agree .mde (hl _ (by decide)), h.agree .tim (hl _ (by decide)), h.agree .gns2 (hl _ (by decide)), h.agree .saf (hl _ (by decide)), hu⟩

theorem pairTo_unit (r : Regs) (st : PState) (cause : Nat) (d : Dev) : (pairTo r st cause d).pair.unitId = d.pair.unitId := by
  by_cases h : d.pair.state = st
  · rw [pairTo, if_pos h]
  · obtain ⟨ok, miss, cuts, next, hp⟩ := pairTo_pair r st cause d h
    rw [hp]

theorem leaveRoles_unit (r : Regs) (d : Dev) : (leaveRoles r d).pair.unitId = d.pair.unitId := by
  have hgone : (if d.isPrimary then stopCommanding r .single d.pair.cause d else pairTo r .single d.pair.cause d).pair.unitId = d.pair.unitId := by
    split
    · rw [stopCommanding_pair]
      exact pairTo_unit r .single d.pair.cause { d with pair := stoppedPair d.pair }
    · exact pairTo_unit r _ _ d
  unfold leaveRoles
  rw [setRole_pair]
  exact hgone

theorem aonKept_leaveRoles (r : Regs) (d : Dev) : AonKept (leaveRoles r d) d :=
  (acts_leaveRoles r d).aonKept (by decide) (leaveRoles_unit r d)

/-- A final segment noted. -/
def segmentNoted (d : Dev) : Dev := { d with sys := { d.sys with finalSeg := true } }

/-- The final segment's records and copy. -/
def segmentMade (r : Regs) (d : Dev) : Dev := segmentNoted (commitLife r (commitQueue r d))

/-- No final segment made. -/
def segmentLost (d : Dev) : Dev := { d with sys := { d.sys with finalSeg := false } }

/-- Recording stopped. -/
def recordStopped (d : Dev) : Dev := { d with evt := { d.evt with stopped := true } }

theorem finalSegment_eq (r : Regs) (d : Dev) :
    finalSegment r d = if segOk r d then segmentMade r (recordStopped d) else segmentLost (recordStopped d) := by
  have hseg : segOk r (recordStopped d) = segOk r d := by
    unfold segOk recordStopped
    rfl
  rw [← hseg]
  rfl

theorem within_segmentNoted (d : Dev) : Within [.sys] (segmentNoted d) d := within_sys d _

theorem within_finalSegment (r : Regs) (d : Dev) : Within [.irq, .evt, .hld, .lif, .sys] (finalSegment r d) d := by
  have hstop : Within [.irq, .evt, .hld, .lif, .sys] (recordStopped d) d := (within_evt d _).mono (by decide)
  have hmade : Within [.irq, .evt, .hld, .lif, .sys] (segmentMade r (recordStopped d)) (recordStopped d) :=
    ((within_segmentNoted _).trans ((acts_commitLife r _).within.trans (within_commitQueue r _))).mono (by decide)
  have hlost : Within [.irq, .evt, .hld, .lif, .sys] (segmentLost (recordStopped d)) (recordStopped d) := (within_sys _ _).mono (by decide)
  rw [finalSegment_eq]
  exact .ite ((hmade.trans hstop).mono (by decide)) ((hlost.trans hstop).mono (by decide))

theorem Within.aonKept {l : List Part} {b a : Dev} (h : Within l b a) (hl : ∀ p ∈ [Part.mde, .tim, .gns2, .saf, .pair], p ∉ l) : AonKept b a :=
  ⟨h.now, h.agree .mde (hl _ (by decide)), h.agree .tim (hl _ (by decide)), h.agree .gns2 (hl _ (by decide)), h.agree .saf (hl _ (by decide)),
    congrArg PairSt.unitId (h.agree .pair (hl _ (by decide)))⟩

/-- The roles left, where the unit has any. -/
def resetLeft (r : Regs) (d : Dev) : Dev := if d.running then leaveRoles r d else d

/-- The final segment, where the cause has time for one. -/
def resetSaved (r : Regs) (cause : Nat) (d : Dev) : Dev :=
  if finalFirst cause && d.mramOn then finalSegment r d else if cause = 2 then d else segmentLost d

theorem resetDev_eq (r : Regs) (cause : Nat) (d : Dev) : resetDev r cause d = coreReset cause (resetSaved r cause (resetLeft r d)) := rfl

theorem aonKept_resetLeft (r : Regs) (d : Dev) : AonKept (resetLeft r d) d := .ite (aonKept_leaveRoles r d) (.refl d)

theorem aonKept_resetSaved (r : Regs) (cause : Nat) (d : Dev) : AonKept (resetSaved r cause d) d :=
  .ite ((within_finalSegment r d).aonKept (by decide)) (.ite (.refl d) ((within_sys d _).aonKept (by decide)))

/-- A reset keeps what the always-on domain, the island and the pins hold, and puts the rest at its reset values. -/
theorem resetFrom_of_kept (k : Nat) (s : State) (a : Dev) (h : AonKept a s.dev) :
    ResetFrom k s { resetState k { s with dev := a } with dev := settle (keepRegs s.regs) (resetDev s.regs k a) } := by
  have hkept := (aonKept_resetSaved s.regs k (resetLeft s.regs a)).trans ((aonKept_resetLeft s.regs a).trans h)
  rw [resetDev_eq]
  generalize resetSaved s.regs k (resetLeft s.regs a) = b at hkept ⊢
  obtain ⟨hnow, hmde, htim, hgns, hsaf, hunit⟩ := hkept
  unfold ResetFrom
  simp only [settle_now, settle_sys, settle_mde, settle_gns2, settle_saf, settle_pair, settle_evt, settle_lop, settle_aou, settle_pfg, settle_dio,
    settle_can, settle_eth, settle_sio, settle_slv, settle_raw]
  refine ⟨rfl, rfl, rfl, rfl, hnow, rfl, ?_, ?_, ?_, hsaf, ?_, rfl, rfl, rfl, rfl, rfl, rfl, rfl, rfl, rfl, rfl⟩
  · exact congrArg (fun m : MdeSt => ({ refreshAt := m.refreshAt } : MdeSt)) hmde
  · have htb : (settle (keepRegs s.regs) (coreReset k b)).tb3 = (coreReset k b).tb3 := congrArg (fun x : TimSt => (at' x.tb 3).total) (settle_tim _ _)
    have hcore : (coreReset k b).tb3 = b.tb3 := rfl
    exact htb.trans (hcore.trans (congrArg (fun x : TimSt => (at' x.tb 3).total) htim))
  · exact congrArg (fun g : Gns2St => ({ kept := g.kept } : Gns2St)) hgns
  · exact congrArg (fun u : Nat => ({ unitId := u } : PairSt)) hunit

/-- Without a final segment, a reset keeps the recorder's areas and the copies of the lifetime store. -/
theorem resetDev_stores (r : Regs) (cause : Nat) (d : Dev) (h : finalFirst cause = false ∨ segOk r d = false) :
    (resetDev r cause d).evt.reel = d.evt.reel ∧ (resetDev r cause d).evt.corner = d.evt.corner ∧ (resetDev r cause d).lif.copies = d.lif.copies := by
  have hleft : StoreKept (resetLeft r d) d := .when (storeKept_leaveRoles r d)
  have hacts : Acts roleParts (resetLeft r d) d := .when (acts_leaveRoles r d)
  have hlif : (resetLeft r d).lif = d.lif := hacts.agree .lif (by decide)
  have hseg : segOk r (resetLeft r d) = segOk r d := by
    unfold segOk
    rw [show (resetLeft r d).hld = d.hld from hacts.agree .hld (by decide), hacts.within.now]
  rw [resetDev_eq]
  generalize resetLeft r d = a at hleft hlif hseg ⊢
  have hsaved : (resetSaved r cause a).evt.reel = a.evt.reel ∧ (resetSaved r cause a).evt.corner = a.evt.corner ∧ (resetSaved r cause a).lif = a.lif := by
    unfold resetSaved
    split
    next hf =>
      simp only [Bool.and_eq_true] at hf
      obtain h | h := h
      · exact absurd (hf.1.symm.trans h) (by decide)
      · rw [finalSegment_eq, if_neg (by rw [hseg, h]; decide)]
        exact ⟨rfl, rfl, rfl⟩
    next => split <;> exact ⟨rfl, rfl, rfl⟩
  obtain ⟨hreel, hcorner, hl⟩ := hsaved
  simp only [StoreKept, storedPart, Prod.mk.injEq] at hleft
  obtain ⟨hreel', hcorner', -⟩ := hleft
  exact ⟨hreel.trans hreel', hcorner.trans hcorner', (congrArg LifSt.copies hl).trans (congrArg LifSt.copies hlif)⟩

/-! ### The causes -/

/-- What a command that may reset does without a reset. -/
theorem onReset_none (s : State) (f : Regs → Dev → Dev × Option Nat) (a : Dev) (h : f s.regs s.dev.quiet = (a, none)) :
    onReset s f = .next { s with dev := settle s.regs a } := by
  unfold onReset
  rw [onState_next]
  simp only [h]

/-- What a command that resets does. -/
theorem onReset_some (s : State) (f : Regs → Dev → Dev × Option Nat) (a : Dev) (k : Nat) (h : f s.regs s.dev.quiet = (a, some k)) :
    onReset s f = .next { resetState k { s with dev := a } with dev := settle (keepRegs s.regs) (resetDev s.regs k a) } := by
  unfold onReset
  rw [onState_next]
  simp only [h]
  rfl

theorem aonKept_quiet (d : Dev) : AonKept d.quiet d := ⟨rfl, rfl, rfl, rfl, rfl, rfl⟩

/-- A trip of the thermal sensors noted. -/
def thermalTripped (d : Dev) : Dev := { d with sys := { d.sys with tripped := true } }

theorem thermalRead_trips (ts : List F32) (r : Regs) (d : Dev) (hst : d.mde.dstate ≠ .reset) (hd : d.mde.dorm = .none)
    (h : ∃ x ∈ ts, (F32.ofInt 125).le x = true) : thermalRead ts r d = (thermalTripped d, some 6) := by
  unfold thermalRead
  rw [if_neg (by rw [hd]; decide), if_neg (by simpa using hst)]
  exact if_pos (List.any_eq_true.mpr h)

/-- A time in nanoseconds modulo the range of a time base, from its seconds and the rest. -/
theorem total_of_split (t : Nat) : t / 1000000000 % 2 ^ 48 * 1000000000 + t % 1000000000 = t % (2 ^ 48 * 1000000000) := by
  rw [Nat.mul_comm (2 ^ 48) 1000000000, Nat.mod_mul, Nat.add_comm, Nat.mul_comm]

/-- The state after a reset with cause `k` of the device `a`. -/
def afterReset (k : Nat) (s : State) (a : Dev) : State :=
  { resetState k { s with dev := a } with dev := settle (keepRegs s.regs) (resetDev s.regs k a) }

theorem resetNAssert_next (s : State) : exec .resetNAssert s = .next (afterReset 1 s s.dev.quiet) := onState_next s (resetState 1)

theorem watchdogExpire_next (s : State) (h : s.dev.mde.dstate ≠ .reset) : exec .watchdogExpire s = .next (afterReset 5 s s.dev.quiet) :=
  onReset_some s (fun _ d => (d, if d.mde.dstate == .reset then none else some 5)) s.dev.quiet 5
    (congrArg (Prod.mk _) (if_neg (by rw [beq_iff_eq]; exact h)))

/-- HOST_RESET with its word. -/
def hostResetTo (s : State) : State := if s.regs.lockOpen 0 s.dev.now then resetState 4 s else { s with regs := s.regs.reject 0 0x54 2 }

theorem hostReset_next (s : State) (h : s.regs.lockOpen 0 s.dev.now = true) : exec .hostReset s = .next (afterReset 4 s s.dev.quiet) := by
  have hto : hostResetTo { s with dev := s.dev.quiet } = resetState 4 { s with dev := s.dev.quiet } := if_pos h
  refine (onState_next s hostResetTo).trans ?_
  rw [hto]
  rfl

theorem hostReset_locked (s : State) (h : s.regs.lockOpen 0 s.dev.now = false) :
    exec .hostReset s = .next { s with regs := s.regs.reject 0 0x54 2, dev := settle (s.regs.reject 0 0x54 2) s.dev.quiet } := by
  have hto : hostResetTo { s with dev := s.dev.quiet } = { s with dev := s.dev.quiet, regs := s.regs.reject 0 0x54 2 } :=
    if_neg (by rw [show s.regs.lockOpen 0 s.dev.quiet.now = false from h]; decide)
  refine (onState_next s hostResetTo).trans ?_
  rw [hto]

/-- What MPLL_HOLD_TIMEOUT makes of the device. -/
def mpllHoldEnds (d : Dev) : Dev × Option Nat :=
  match at' d.clk.lostAt 2 with
  | some t => (d, if !(d.mde.dstate == .reset) && !(d.clk.lock.testBit 2) && decide (t + ticksMs 100 ≤ d.now) then some 7 else none)
  | none => (d, none)

theorem mpllHoldTimeout_next (s : State) (u : Nat) (hst : s.dev.mde.dstate ≠ .reset) (hl : s.dev.clk.lock.testBit 2 = false)
    (hlost : at' s.dev.clk.lostAt 2 = some u) (hu : u + 25000000 ≤ s.dev.now) : exec .mpllHoldTimeout s = .next (afterReset 7 s s.dev.quiet) := by
  refine onReset_some s (fun _ d => mpllHoldEnds d) s.dev.quiet 7 ?_
  unfold mpllHoldEnds
  simp only [show at' s.dev.quiet.clk.lostAt 2 = some u from hlost]
  refine congrArg (Prod.mk _) (if_pos ?_)
  rw [show s.dev.quiet.clk.lock.testBit 2 = false from hl]
  simp only [Bool.not_false, Bool.and_true, Bool.and_eq_true, Bool.not_eq_true', beq_eq_false_iff_ne, decide_eq_true_eq]
  exact ⟨hst, hu⟩

/-- What FINAL_SEGMENT_DONE makes of the device. -/
def finalSegmentEnds (d : Dev) : Dev × Option Nat :=
  match d.sys.pfailAt with
  | some t => (d, if d.hld.segment || decide (t + ticksUs 10 ≤ d.now) then some 2 else none)
  | none => (d, none)

theorem finalSegmentEnds_of (d : Dev) (u : Nat) (hp : d.sys.pfailAt = some u) :
    finalSegmentEnds d = (d, if d.hld.segment || decide (u + 2500 ≤ d.now) then some 2 else none) := by
  unfold finalSegmentEnds
  simp only [hp]
  rfl

theorem finalSegmentDone_next (s : State) (u : Nat) (hp : s.dev.sys.pfailAt = some u) (h : s.dev.hld.segment = true ∨ u + 2500 ≤ s.dev.now) :
    exec .finalSegmentDone s = .next (afterReset 2 s s.dev.quiet) := by
  refine onReset_some s (fun _ d => finalSegmentEnds d) s.dev.quiet 2 ((finalSegmentEnds_of s.dev.quiet u hp).trans (congrArg (Prod.mk _) (if_pos ?_)))
  rw [Bool.or_eq_true, decide_eq_true_eq]
  exact h

theorem finalSegmentDone_waits (s : State) (u : Nat) (hp : s.dev.sys.pfailAt = some u) (hs : s.dev.hld.segment = false) (hu : s.dev.now < u + 2500) :
    exec .finalSegmentDone s = .next { s with dev := settle s.regs s.dev.quiet } := by
  refine onReset_none s (fun _ d => finalSegmentEnds d) s.dev.quiet ((finalSegmentEnds_of s.dev.quiet u hp).trans (congrArg (Prod.mk _) (if_neg ?_)))
  rw [Bool.or_eq_true, decide_eq_true_eq, not_or]
  exact ⟨by rw [show s.dev.quiet.hld.segment = false from hs]; decide, Nat.not_le.mpr hu⟩

theorem thermalRead_next (s : State) (ts : List F32) (hst : s.dev.mde.dstate ≠ .reset) (hd : s.dev.mde.dorm = .none)
    (h : ∃ x ∈ ts, (F32.ofInt 125).le x = true) : exec (.thermalRead ts) s = .next (afterReset 6 s (thermalTripped s.dev.quiet)) :=
  onReset_some s (thermalRead ts) (thermalTripped s.dev.quiet) 6 (thermalRead_trips ts s.regs s.dev.quiet hst hd h)

/-- The fields of page SYS that a reset takes over from the device before it. -/
theorem resetDev_tripped (r : Regs) (cause : Nat) (d : Dev) : (resetDev r cause d).sys.tripped = d.sys.tripped := by
  have hleft : (resetLeft r d).sys = d.sys := Within.agree (Acts.when (acts_leaveRoles r d)).within .sys (by decide)
  have hseg (a : Dev) : (finalSegment r a).sys.tripped = a.sys.tripped := by
    have hmade (b : Dev) : (segmentMade r b).sys.tripped = b.sys.tripped := by
      have hq : (commitLife r (commitQueue r b)).sys = b.sys :=
        ((acts_commitLife r _).within.trans (within_commitQueue r b)).agree .sys (by decide)
      have hnoted (z : Dev) : (segmentNoted z).sys.tripped = z.sys.tripped := rfl
      rw [segmentMade, hnoted, hq]
    rw [finalSegment_eq]
    split
    · exact hmade (recordStopped a)
    · rfl
  have hsaved (a : Dev) : (resetSaved r cause a).sys.tripped = a.sys.tripped := by
    unfold resetSaved
    split
    · exact hseg a
    · split <;> rfl
  rw [resetDev_eq]
  exact (hsaved _).trans (congrArg SysSt.tripped hleft)

/-- The state after a loss of always-on power. -/
def afterAonLoss (t : Nat) (s : State) (d : Dev) : State :=
  { s with
    regs := { hdr := hdrReset }, mem := [], frozen := []
    dev := settle { hdr := hdrReset } { d with
      mde := {}, gns2 := {}, sys := { d.sys with aonLost := true, finalSeg := s.dev.sys.finalSeg, tripped := false }
      tim := { tb := [{}, {}, {}, { sec := t / nsPerSec % 2 ^ 48, ns := t % nsPerSec }] } } }

/-- The cause of a reset, and the island's state through it. -/
theorem resetDev_aon (r : Regs) (cause : Nat) (d : Dev) : (resetDev r cause d).sys.cause = cause ∧ (resetDev r cause d).saf = d.saf := by
  have hkept := (aonKept_resetSaved r cause (resetLeft r d)).trans (aonKept_resetLeft r d)
  rw [resetDev_eq]
  exact ⟨rfl, hkept.saf⟩

/-- After a loss of always-on power, with TB3 from `t`. -/
theorem afterAonLoss_shows (t : Nat) (s : State) (d : Dev) (hcause : d.sys.cause = 0) (hsaf : d.saf = s.dev.saf)
    (hreel : d.evt.reel = s.dev.evt.reel) : let a := afterAonLoss t s d
    a.regs = { hdr := hdrReset } ∧ a.mem = [] ∧ a.frozen = [] ∧ a.pending = s.pending ∧ a.dev.mde = {} ∧ a.dev.gns2 = {} ∧ a.dev.sys.cause = 0 ∧
      a.dev.sys.aonLost = true ∧ a.dev.saf = s.dev.saf ∧ a.dev.evt.reel = s.dev.evt.reel ∧ a.dev.tb3 = t % (2 ^ 48 * 1000000000) := by
  have htim (x : Dev) : (settle { hdr := hdrReset } x).tb3 = x.tb3 := congrArg (fun x : TimSt => (at' x.tb 3).total) (settle_tim _ _)
  unfold afterAonLoss
  intro a
  refine ⟨rfl, rfl, rfl, rfl, settle_mde _ _, settle_gns2 _ _, (congrArg SysSt.cause (settle_sys _ _)).trans hcause,
    congrArg SysSt.aonLost (settle_sys _ _), (settle_saf _ _).trans hsaf, (congrArg EvtSt.reel (settle_evt _ _)).trans hreel, ?_⟩
  exact (htim _).trans (total_of_split t)

theorem aonPowerUp_next (s : State) : exec .aonPowerUp s =
    .next (afterAonLoss (resetDev s.regs 0 s.dev.quiet).committedTb3 s (resetDev s.regs 0 s.dev.quiet)) := onState_next s aonPowerUp

/-- Settles O45. -/
theorem resetCauses : Obligations.ResetCauses := by
  unfold Obligations.ResetCauses
  have hfrom (k : Nat) (s : State) : ResetFrom k s (afterReset k s s.dev.quiet) := resetFrom_of_kept k s _ (aonKept_quiet s.dev)
  have hstores (s : State) (k : Nat) (h : finalFirst k = false ∨ segOk s.regs s.dev = false) : let t := afterReset k s s.dev.quiet
      t.dev.evt.reel = s.dev.evt.reel ∧ t.dev.evt.corner = s.dev.evt.corner ∧ t.dev.lif.copies = s.dev.lif.copies := by
    obtain ⟨hreel, hcorner, hlif⟩ := resetDev_stores s.regs k s.dev.quiet h
    exact ⟨(congrArg EvtSt.reel (settle_evt _ _)).trans hreel, (congrArg EvtSt.corner (settle_evt _ _)).trans hcorner,
      (congrArg LifSt.copies (settle_lif _ _)).trans hlif⟩
  refine ⟨fun s => ⟨_, resetNAssert_next s, hfrom 1 s, hstores s 1 (.inl rfl)⟩,
    fun s hst => ⟨_, watchdogExpire_next s hst, hfrom 5 s, hstores s 5 (.inl rfl)⟩,
    fun s hl => ⟨_, hostReset_next s hl, hfrom 4 s, fun hseg => ?_⟩,
    fun s hl => ⟨_, hostReset_locked s hl, rfl, onlyParts_quiet _ { s with regs := s.regs.reject 0 0x54 2 } _⟩,
    fun s u hst hlock hlost hu => ⟨_, mpllHoldTimeout_next s u hst hlock hlost hu, hfrom 7 s⟩,
    fun s u hp hdone => ⟨_, finalSegmentDone_next s u hp hdone, hfrom 2 s⟩,
    fun s u hp hseg hu => ⟨_, finalSegmentDone_waits s u hp hseg hu, onlyParts_quiet _ s s.regs⟩,
    fun s ts hst hd hhot => ⟨_, thermalRead_next s ts hst hd hhot, resetFrom_of_kept 6 s _ ⟨rfl, rfl, rfl, rfl, rfl, rfl⟩, ?_⟩, fun s => ?_⟩
  · obtain ⟨hreel, -, hlif⟩ := hstores s 4 (.inr hseg)
    exact ⟨hreel, hlif⟩
  · exact (congrArg SysSt.tripped (settle_sys _ _)).trans (resetDev_tripped s.regs 6 (thermalTripped s.dev.quiet))
  · refine ⟨_, aonPowerUp_next s, ?_⟩
    obtain ⟨hreel, -⟩ := resetDev_stores s.regs 0 s.dev.quiet (.inl rfl)
    obtain ⟨hcause, hsaf⟩ := resetDev_aon s.regs 0 s.dev.quiet
    generalize resetDev s.regs 0 s.dev.quiet = d at hreel hcause hsaf ⊢
    exact afterAonLoss_shows _ s d hcause hsaf hreel

end Sys2Proof
end

section
/-! PROOFS. Release, boot, microcode updates and DORMANT [18 R523 R528 R529 R531 R532, 03 R91 R92 R94]. -/

namespace Sys2Proof

open Sys2Proof.Machine

theorem acts_sys (d : Dev) (x : SysSt) : Acts [.sys] { d with sys := x } d := (within_sys d x).acts (by decide)

theorem acts_pwr (d : Dev) (x : PwrSt) : Acts [.pwr] { d with pwr := x } d := (within_pwr d x).acts (by decide)

theorem acts_clk (d : Dev) (x : ClkSt) : Acts [.clk] { d with clk := x } d := (within_clk d x).acts (by decide)

/-! ### Leaving RESET -/

/-- Power, clocks and the pins at the release of RESET. -/
def released (u : Nat) (rs : Bool) (on : Nat) (d : Dev) : Dev :=
  { d with
    sys := { d.sys with pfail := false }
    pwr := { d.pwr with on := on, pgood := on }
    clk := { d.clk with ref25 := rs, refOk := true, serOk := true, pcieOk := true }
    pair := { d.pair with unitId := u } }

theorem resetRelease_leaves (u rs : Bool) (r : Regs) (d : Dev) (hst : d.mde.dstate = .reset) (hd : d.mde.dorm = .none) (ht : d.sys.tripped = false)
    (hp : d.sys.pfailAt = none) : resetRelease u rs r d = setDState .boot (released (b2n u) rs (domainsOn r d) d) :=
  if_pos (by rw [hst, hd, ht, hp]; rfl)

theorem resetRelease_stays (u rs : Bool) (r : Regs) (d : Dev) (h : d.mde.dstate ≠ .reset ∨ d.sys.tripped = true) : resetRelease u rs r d = d := by
  refine if_neg ?_
  obtain h | h := h
  · simp [h]
  · simp [h]

theorem acts_released (u : Nat) (rs : Bool) (on : Nat) (d : Dev) : Acts [.pair, .clk, .pwr, .sys] (released u rs on d) d :=
  (acts_pair { d with sys := (released u rs on d).sys, pwr := (released u rs on d).pwr, clk := (released u rs on d).clk } _).trans
    ((acts_clk { d with sys := (released u rs on d).sys, pwr := (released u rs on d).pwr } _).trans
      ((acts_pwr { d with sys := (released u rs on d).sys } _).trans (acts_sys d _)))

theorem setDState_enters (st : DState) (d : Dev) (h : d.mde.dstate ≠ st) :
    setDState st d = raise 5 7 { d with mde := { d.mde with dstate := st } } := if_neg h

/-! ### Boot -/

/-- The locks of the PLLs at boot. -/
def bootLocked (l : Nat) (d : Dev) : Dev := { d with clk := { d.clk with lock := l, bclk := !(l.testBit 0), mpllHold := !(l.testBit 2) } }

/-- No slot boots. -/
def bootFailed (d : Dev) : Dev := { d with sys := { d.sys with bootStat := 3 } }

/-- Slot `i` boots. -/
def bootNoted (i : Nat) (fb : Bool) (h : UcHdr) (d : Dev) : Dev :=
  { d with sys := { d.sys with bootStat := i + 1, fallback := fb, ucActive := i, ucVer := h.ver, ucFloor := max d.sys.ucFloor h.level } }

/-- Lifetime store, time, recorder and start counters in BOOT. -/
def bootStarted (r : Regs) (d : Dev) : Dev := countStart (bootScan r (bootTime r (lifeBoot d)))

/-- A fall-back told. -/
def fallbackTold (i : Nat) (fb : Bool) (r : Regs) (d : Dev) : Dev := if fb then record r .ucFallback { p0 := i } (raise 0 2 d) else d

/-- Banks and tiles as LOAD finds them. -/
def bootEnds (d : Dev) : Dev := raise 0 5 (setDState .load (initTiles (initBanks d)))

/-- What the loader does with the slot that it picks. -/
def booted (o : Option Nat) (r : Regs) (d : Dev) : Dev :=
  match o with
  | none => bootFailed d
  | some i => bootEnds (fallbackTold i (i != d.sys.ucActive) r (powerOn r (bootStarted r (bootNoted i (i != d.sys.ucActive) (ucHdr (d.ucBytes i)) d))))

theorem ucPick_locked (l : Nat) (d : Dev) : ucPick (bootLocked l d) = ucPick d := by
  have hok (i : Nat) : ucSlotOk (bootLocked l d) i = ucSlotOk d i := by
    unfold ucSlotOk ucCheck
    rfl
  unfold ucPick
  rw [hok, hok]
  rfl

theorem ucPick_quiet (d : Dev) : ucPick d.quiet = ucPick d := by
  have hok (i : Nat) : ucSlotOk d.quiet i = ucSlotOk d i := by
    unfold ucSlotOk ucCheck
    rfl
  unfold ucPick
  rw [hok, hok]
  rfl

theorem boot_eq (r : Regs) (d : Dev) (hst : d.mde.dstate = .boot) (hb : d.sys.bootStat ≠ 3) :
    boot r d = booted (ucPick d) r (bootLocked (bootLocks d) d) := by
  have hcond : ¬((!(d.mde.dstate == .boot) || d.sys.bootStat == 3) = true) := by simp [hst, hb]
  rw [← ucPick_locked (bootLocks d) d]
  exact if_neg hcond

theorem acts_lifeBoot (d : Dev) : Acts [.lif] (lifeBoot d) d := by
  unfold lifeBoot
  extract_lets l best valid
  clear_value best valid
  cases best with
  | none => exact acts_lif d _
  | some i => exact acts_lif d _

theorem acts_restoreTb0 (r : Regs) (d : Dev) : Acts [.gns2, .tim] (restoreTb0 r d) d := by
  have htb (f : TimeBase → TimeBase) (a : Dev) : Acts [.tim] (a.modTb 0 f) a := (within_modTb a 0 f).acts (by decide)
  unfold restoreTb0
  split
  · exact (acts_gns2 _ _).trans (htb _ d)
  · exact (acts_gns2 _ _).trans (htb _ d)

/-- The seconds of the lifetime store and of Grout from TB3. -/
def startTimes (n t : Nat) (d : Dev) : Dev := { d with lif := { d.lif with devSec := n, lastAt := t }, grt := { d.grt with passAt := t } }

theorem acts_startTimes (n t : Nat) (d : Dev) : Acts [.grt, .lif] (startTimes n t d) d :=
  (acts_grt { d with lif := { d.lif with devSec := n, lastAt := t } } _).trans (acts_lif d _)

theorem acts_bootTime (r : Regs) (d : Dev) : Acts [.grt, .lif, .gns2, .tim] (bootTime r d) d :=
  (acts_startTimes ((restoreTb0 r d).tb3 / nsPerSec) (restoreTb0 r d).tb3 (restoreTb0 r d)).trans (acts_restoreTb0 r d)

theorem acts_bootScan (r : Regs) (d : Dev) : Acts [.irq, .evt] (bootScan r d) d := by
  unfold bootScan
  extract_lets e0 e d1
  have h1 : Acts [.irq, .evt] d1 d := ((within_evt d _).acts (by decide) : Acts [.evt] d1 d).mono (by decide)
  exact (acts_foldl (l := [.irq, .evt]) _ _ d1 fun a _ => (acts_record r _ _ _).also ((acts_raise 0x29 3 a).mono (by decide))).also h1

theorem acts_countStart (d : Dev) : Acts [.lif] (countStart d) d := .ite (acts_lif d _) (acts_lif d _)

/-- The parts that the starts of BOOT act on, pages SYS, MDE and CLK apart. -/
def bootParts : List Part := [.irq, .evt, .lif, .grt, .gns2, .tim, .msn]

theorem acts_bootStarted (r : Regs) (d : Dev) : Acts bootParts (bootStarted r d) d :=
  ((acts_countStart _).mono (by decide)).also (((acts_bootScan r _).mono (by decide)).also (((acts_bootTime r _).mono (by decide)).also
    ((acts_lifeBoot d).mono (by decide))))

/-- The start of recording noted. -/
def recordingBegun (d : Dev) : Dev := { d with sys := { d.sys with aonLost := false, finalSeg := false } }

theorem powerOn_shows (r : Regs) (d : Dev) : ∃ a, powerOn r d = recordingBegun a ∧ Acts [.irq, .evt] a d := by
  refine ⟨recordPerm r .powerOn _ _ d, rfl, ?_⟩
  exact ⟨within_enter _ _ _ d, raised_enter _ _ _ d⟩

theorem acts_fallbackTold (i : Nat) (fb : Bool) (r : Regs) (d : Dev) : Acts bootParts (fallbackTold i fb r d) d :=
  .when (((acts_record r _ _ _).mono (by decide)).also ((acts_raise 0 2 d).mono (by decide)))

theorem acts_initBoth (d : Dev) : Acts bootParts (initTiles (initBanks d)) d := ((acts_msn _ _).also (acts_msn d _)).mono (by decide)

theorem bootEnds_shows (d : Dev) (hraw : 0 < d.irq.raw.length) : (bootEnds d).sys = d.sys ∧ (bootEnds d).clk = d.clk ∧
    (bootEnds d).mde.dstate = .load ∧ (at' (bootEnds d).irq.raw 0).testBit 5 = true := by
  have hst := acts_setDState .load (initTiles (initBanks d))
  have hall := hst.trans (acts_initBoth d)
  refine ⟨(hall.agree .sys (by decide)), hall.agree .clk (by decide), ?_, ?_⟩
  · exact congrArg MdeSt.dstate (setDState_mde .load (initTiles (initBanks d)))
  · refine raise_testBit_self 0 5 _ ?_
    rw [hall.raised.length]
    exact hraw

/-- What a boot from slot `i` shows. -/
theorem booted_shows (i : Nat) (r : Regs) (d : Dev) (hraw : 0 < d.irq.raw.length) : let b := booted (some i) r d
    b.mde.dstate = .load ∧ b.sys.bootStat = i + 1 ∧ b.sys.ucActive = i ∧ b.sys.ucFloor = max d.sys.ucFloor (ucHdr (d.ucBytes i)).level ∧
      b.sys.fallback = (i != d.sys.ucActive) ∧ b.clk = d.clk ∧ (at' b.irq.raw 0).testBit 5 = true := by
  have hstart := acts_bootStarted r (bootNoted i (i != d.sys.ucActive) (ucHdr (d.ucBytes i)) d)
  have hnoted : Acts [.sys] (bootNoted i (i != d.sys.ucActive) (ucHdr (d.ucBytes i)) d) d := acts_sys d _
  obtain ⟨a, hon, hpow⟩ := powerOn_shows r (bootStarted r (bootNoted i (i != d.sys.ucActive) (ucHdr (d.ucBytes i)) d))
  have hbegun : Acts [.sys] (recordingBegun a) a := acts_sys a _
  have htold := acts_fallbackTold i (i != d.sys.ucActive) r (recordingBegun a)
  have hsys : a.sys = (bootNoted i (i != d.sys.ucActive) (ucHdr (d.ucBytes i)) d).sys :=
    (hpow.agree .sys (by decide)).trans (hstart.agree .sys (by decide))
  have hall := htold.trans (hbegun.trans (hpow.trans (hstart.trans hnoted)))
  have hsys' : (fallbackTold i (i != d.sys.ucActive) r (recordingBegun a)).sys = (recordingBegun a).sys := htold.agree .sys (by decide)
  have hclk : (fallbackTold i (i != d.sys.ucActive) r (recordingBegun a)).clk = d.clk := hall.agree .clk (by decide)
  unfold booted
  dsimp only
  rw [hon]
  generalize fallbackTold i (i != d.sys.ucActive) r (recordingBegun a) = z at hsys' hclk hall ⊢
  obtain ⟨hs, hc, hm, hbit⟩ := bootEnds_shows z (by rw [hall.raised.length]; exact hraw)
  have hend : (bootEnds z).sys = { (bootNoted i (i != d.sys.ucActive) (ucHdr (d.ucBytes i)) d).sys with aonLost := false, finalSeg := false } := by
    rw [hs, hsys', recordingBegun, hsys]
  refine ⟨hm, ?_, ?_, ?_, ?_, hc.trans hclk, hbit⟩
  · exact congrArg SysSt.bootStat hend
  · exact congrArg SysSt.ucActive hend
  · exact congrArg SysSt.ucFloor hend
  · exact congrArg SysSt.fallback hend

/-! ### Microcode updates -/

/-- An update in its checks. -/
def ucAsked (d : Dev) : Dev := { d with sys := { d.sys with ucPhase := .checking, ucRefuse := 0 } }

theorem ucUpdateStart_busy (r : Regs) (d : Dev) (h : d.sys.ucPhase = .checking ∨ d.sys.ucPhase = .writing) :
    ucUpdateStart r d = (r.reject 0 0x68 7, d) := by
  unfold ucUpdateStart
  obtain h | h := h
  · simp only [h]
  · simp only [h]

theorem ucUpdateStart_free (r : Regs) (d : Dev) (h : ¬(d.sys.ucPhase = .checking ∨ d.sys.ucPhase = .writing)) (hst : d.mde.dstate ≠ .reset) :
    ucUpdateStart r d = (r, ucAsked d) := by
  rw [not_or] at h
  unfold ucUpdateStart
  split
  next hc => exact absurd hc h.1
  next hc => exact absurd hc h.2
  next => exact if_neg (by simpa using hst)

/-- An update refused with code `c`. -/
def ucRefused (c : Nat) (d : Dev) : Dev := raise 0 1 { d with sys := { d.sys with ucPhase := .refused, ucRefuse := c } }

/-- Image `b` written to slot `t`. -/
def ucStored (t : Nat) (b : List Byte) (d : Dev) : Dev :=
  raise 0 0 { d with sys := { d.sys with ucPhase := .done, ucSlots := modAt d.sys.ucSlots t (fun _ => { bytes := b }), ucActive := t } }

/-- The wear of microcode slot `t`. -/
def ucWorn (t : Nat) (r : Regs) (d : Dev) : Dev := wearSeg r ((List.range 16).map fun i => (Area.microcode, 16 * t + i)) d

/-- An update that waits for its segments. -/
def ucWaits (d : Dev) : Dev := deferSeg false { d with sys := { d.sys with ucPhase := .writing } }

/-- What the checks of a staged image make of an update. -/
def ucJudged (o : Option Nat) (b : List Byte) (r : Regs) (d : Dev) : Dev :=
  match o with
  | some c => ucRefused c d
  | none => if segOk r d then ucStored d.ucTarget b (ucWorn d.ucTarget r d) else ucWaits d

theorem ucUpdateDone_eq (r : Regs) (m : List Host.Cell) (d : Dev) (h : d.sys.ucPhase = .checking) : let n := r.get F.SYS_UC_LEN_LEN
    let b := Memory.readBytes m 0x03100000 (max 64 (min n 0x100000))
    ucUpdateDone r m d = ucJudged (ucCheck d b n) b r d := by
  intro n b
  have hphase : (d.sys.ucPhase == .writing) = false := by rw [h]; rfl
  unfold ucUpdateDone
  rw [if_pos (by rw [h]; rfl), hphase]
  rfl

theorem acts_ucRefused (c : Nat) (d : Dev) : Acts [.irq, .sys] (ucRefused c d) d := (acts_raise 0 1 _).trans (acts_sys d _)

theorem acts_ucStored (t : Nat) (b : List Byte) (d : Dev) : Acts [.irq, .sys] (ucStored t b d) d := (acts_raise 0 0 _).trans (acts_sys d _)

theorem acts_ucWorn (t : Nat) (r : Regs) (d : Dev) : Acts [.irq, .evt, .lif] (ucWorn t r d) d := acts_wearSeg r _ d

theorem acts_ucWaits (d : Dev) : Acts [.hld, .sys] (ucWaits d) d := ((within_deferSeg false _).acts (by decide)).trans (acts_sys d _)

theorem ucWaits_sys (d : Dev) : (ucWaits d).sys = { d.sys with ucPhase := .writing } := rfl

/-! ### DORMANT -/

/-- The load state that the asleep level keeps. -/
def cfgAsleep (c : CfgSt) : CfgSt := { c with keyStage := List.replicate 32 0, active := none, cutins := 0, slot := c.slotRec }

/-- The blocks at the asleep level. -/
def asleepDev (d : Dev) : Dev :=
  let k := coreReset d.sys.cause { d with sys := { d.sys with finalSeg := false } }
  { k with mde := { k.mde with mode := .dormant, dorm := .asleep }, cfg := cfgAsleep d.cfg }

theorem dormantAsleep_done (s : State) (hd : s.dev.mde.dorm = .descent) (hb : batchesDone s.dev = true) :
    dormantAsleep s = { s with regs := keepRegs s.regs, mem := [], frozen := [], dev := asleepDev s.dev } := by
  have hc : ((s.dev.mde.dorm == .descent) && batchesDone s.dev) = true := by
    rw [hd, hb]
    rfl
  exact if_pos hc

theorem dormantAsleep_waits (s : State) (h : s.dev.mde.dorm ≠ .descent ∨ batchesDone s.dev = false) : dormantAsleep s = s := by
  refine if_neg ?_
  obtain h | h := h
  · simp [h]
  · simp [h]

/-- The asleep level left for BOOT, as far as power, clocks and the cause go. -/
def woken (on : Nat) (d : Dev) : Dev :=
  { d with
    sys := { d.sys with cause := 8 }
    mde := { d.mde with dorm := .waking }
    pwr := { d.pwr with on := on, pgood := on }
    clk := { d.clk with refOk := true, serOk := true, pcieOk := true } }

/-- The descent ended at the host level. -/
def descentStopped (d : Dev) : Dev := { d with mde := { d.mde with dorm := .hostLevel } }

/-- What a wake does by the level of DORMANT. -/
def wokenFrom (l : DormLevel) (on : Nat) (d : Dev) : Dev :=
  match l with
  | .descent => descentStopped d
  | .asleep | .refresh => setDState .boot (woken on d)
  | _ => d

theorem wake_ok (p : Bool) (r : Regs) (d : Dev) (h : wakeOk p r d = true) : wake p r d = wokenFrom d.mde.dorm (domainsOn r d) d :=
  if_neg (by rw [h]; decide)

theorem wake_not (p : Bool) (r : Regs) (d : Dev) (h : wakeOk p r d = false) : wake p r d = d := if_pos (by rw [h]; rfl)

theorem acts_woken (on : Nat) (d : Dev) : Acts [.clk, .mde, .pwr, .sys] (woken on d) d :=
  (acts_clk { d with sys := (woken on d).sys, pwr := (woken on d).pwr, mde := (woken on d).mde } _).trans
    ((acts_mde { d with sys := (woken on d).sys, pwr := (woken on d).pwr } _).trans
      ((acts_pwr { d with sys := (woken on d).sys } _).trans (acts_sys d _)))

theorem acts_wokenFrom (l : DormLevel) (on : Nat) (d : Dev) : Acts [.irq, .mde, .clk, .pwr, .sys] (wokenFrom l on d) d := by
  have hboot : Acts [.irq, .mde, .clk, .pwr, .sys] (setDState .boot (woken on d)) d :=
    ((acts_setDState .boot _).mono (by decide)).also ((acts_woken on d).mono (by decide))
  cases l with
  | descent => exact (acts_mde d _).mono (by decide)
  | asleep => exact hboot
  | refresh => exact hboot
  | none => exact .refl _ d
  | hostLevel => exact .refl _ d
  | waking => exact .refl _ d

theorem setDState_sys (st : DState) (d : Dev) : (setDState st d).sys = d.sys := (acts_setDState st d).agree .sys (by decide)

/-- Settles O46. -/
theorem bootMicrocodeAndDormant : Obligations.BootMicrocodeAndDormant := by
  unfold Obligations.BootMicrocodeAndDormant
  refine ⟨fun s u rs hst hd ht hp hraw => ?_, fun s u rs h => ?_, fun s hst hb hraw => ?_, fun s => ?_, fun s => ?_, fun s hd hb => ?_, fun s h => ?_,
    fun s p h => ?_, fun s p h => ?_⟩
  · refine ⟨_, onDev_next s (resetRelease u rs), ?_⟩
    rw [resetRelease_leaves u rs s.regs s.dev.quiet hst hd ht hp, settle_mde, settle_pair, settle_clk, settle_pwr, settle_raw]
    have hacts := ((acts_setDState .boot _).trans (acts_released (b2n u) rs (domainsOn s.regs s.dev.quiet) s.dev.quiet))
    refine ⟨hacts.onlyParts (by decide), ?_⟩
    rw [setDState_enters .boot _ (by rw [show (released _ _ _ s.dev.quiet).mde.dstate = .reset from hst]; decide)]
    exact ⟨rfl, by cases u <;> rfl, rfl, rfl, rfl, raise_testBit_self 5 7 _ hraw⟩
  · refine ⟨_, onDev_next s (resetRelease u rs), ?_⟩
    rw [resetRelease_stays u rs s.regs s.dev.quiet h]
    exact onlyParts_quiet _ s s.regs
  · refine ⟨_, onDev_next s boot, rfl, rfl, ?_⟩
    rw [boot_eq s.regs s.dev.quiet hst hb, settle_clk, settle_sys, settle_mde, settle_raw]
    have hlock : Acts [.clk] (bootLocked (bootLocks s.dev.quiet) s.dev.quiet) s.dev.quiet := acts_clk _ _
    have hl : (bootLocked (bootLocks s.dev.quiet) s.dev.quiet).clk.lock = bootLocks s.dev := rfl
    have hsys : (bootLocked (bootLocks s.dev.quiet) s.dev.quiet).sys = s.dev.sys := rfl
    rw [show ucPick s.dev.quiet = ucPick s.dev from ucPick_quiet s.dev]
    generalize bootLocked (bootLocks s.dev.quiet) s.dev.quiet = a at hlock hl hsys ⊢
    cases hpick : ucPick s.dev with
    | none =>
      refine ⟨hl, fun _ => ⟨((acts_sys a _).trans hlock).onlyParts (by decide), ?_⟩, fun i h => absurd h (by simp)⟩
      exact congrArg (fun x : SysSt => { x with bootStat := 3 }) hsys
    | some i =>
      have hraw' : 0 < a.irq.raw.length := by
        rw [hlock.raised.length]
        exact Nat.lt_of_le_of_lt (Nat.zero_le 5) hraw
      obtain ⟨hm, hstat, hact, hfloor, hfb, hclk, hbit⟩ := booted_shows i s.regs a hraw'
      refine ⟨by rw [hclk, hl], fun h => absurd h (by simp), fun j hj => ?_⟩
      obtain rfl : i = j := Option.some.inj hj
      refine ⟨hm, hstat, hact, hfloor.trans ?_, hfb.trans ?_, hbit⟩
      · rw [Dev.ucBytes, hsys]
        rfl
      · rw [hsys]
  · intro c
    refine ⟨_, onRegs_next s ucUpdateStart, fun hc => ?_, fun hc hst => ?_⟩
    · rw [ucUpdateStart_busy s.regs s.dev.quiet hc]
      exact ⟨rfl, onlyParts_quiet _ { s with regs := s.regs.reject 0 0x68 7 } _⟩
    · rw [ucUpdateStart_free s.regs s.dev.quiet hc hst]
      exact ⟨(acts_sys s.dev.quiet _).onlyParts (by decide), settle_sys _ _⟩
  · intro n b hphase hraw
    refine ⟨_, onMem_next s fun r m d => ([], ucUpdateDone r m d), ?_⟩
    have hdone : ucUpdateDone s.regs s.mem s.dev.quiet = ucJudged (ucCheck s.dev.quiet b n) b s.regs s.dev.quiet :=
      ucUpdateDone_eq s.regs s.mem s.dev.quiet hphase
    dsimp only
    rw [hdone, settle_sys, settle_raw]
    have hseg : segOk s.regs s.dev.quiet = segOk s.regs s.dev := rfl
    cases hchk : ucCheck s.dev.quiet b n with
    | some c =>
      have hacts := acts_ucRefused c s.dev.quiet
      refine ⟨hacts.onlyParts (by decide), fun k hk => ?_, fun h => absurd h (by simp), fun h => absurd h (by simp)⟩
      obtain rfl : c = k := Option.some.inj hk
      exact ⟨hacts.onlyParts (by decide), rfl, raise_testBit_self 0 1 _ hraw⟩
    | none =>
      unfold ucJudged
      dsimp only
      by_cases hok : segOk s.regs s.dev = true
      · rw [if_pos (hseg.trans hok)]
        have hworn := acts_ucWorn s.dev.quiet.ucTarget s.regs s.dev.quiet
        have hsys : (ucWorn s.dev.quiet.ucTarget s.regs s.dev.quiet).sys = s.dev.sys := hworn.agree .sys (by decide)
        have hlen : (ucWorn s.dev.quiet.ucTarget s.regs s.dev.quiet).irq.raw.length = s.dev.irq.raw.length := hworn.raised.length
        generalize ucWorn s.dev.quiet.ucTarget s.regs s.dev.quiet = a at hworn hsys hlen ⊢
        refine ⟨((acts_ucStored _ b a).trans hworn).onlyParts (by decide), fun k h => absurd h (by simp), fun _ _ => ⟨?_, ?_⟩,
          fun _ h => absurd (hok.symm.trans h) (by decide)⟩
        · exact congrArg (fun x : SysSt => { x with
            ucPhase := .done, ucSlots := modAt x.ucSlots s.dev.ucTarget (fun _ => { bytes := b }), ucActive := s.dev.ucTarget }) hsys
        · exact raise_testBit_self 0 0 _ (by rw [show List.length _ = _ from hlen]; exact hraw)
      · rw [if_neg (by rw [hseg]; exact hok)]
        exact ⟨(acts_ucWaits s.dev.quiet).onlyParts (by decide), fun k h => absurd h (by simp), fun _ h => absurd h hok, fun _ _ => ucWaits_sys s.dev.quiet⟩
  · refine ⟨_, onState_next s dormantAsleep, ?_⟩
    rw [dormantAsleep_done { s with dev := s.dev.quiet } hd hb]
    have hset : (settle (keepRegs s.regs) (asleepDev s.dev.quiet)).tb3 = (asleepDev s.dev.quiet).tb3 :=
      congrArg (fun x : TimSt => (at' x.tb 3).total) (settle_tim _ _)
    have hkept : (asleepDev s.dev.quiet).tb3 = s.dev.tb3 := rfl
    refine ⟨rfl, rfl, rfl, ?_⟩
    rw [settle_mde, settle_cfg, settle_gns2, settle_saf]
    exact ⟨rfl, rfl, rfl, rfl, rfl, rfl, rfl, hset.trans hkept, rfl⟩
  · refine ⟨_, onState_next s dormantAsleep, ?_⟩
    rw [dormantAsleep_waits { s with dev := s.dev.quiet } h]
    exact onlyParts_quiet _ s s.regs
  · refine ⟨_, onDev_next s (wake p), ?_⟩
    rw [wake_ok p s.regs s.dev.quiet h, settle_mde, settle_sys]
    have hacts := acts_wokenFrom s.dev.quiet.mde.dorm (domainsOn s.regs s.dev.quiet) s.dev.quiet
    refine ⟨hacts.onlyParts (by decide), fun hd => ?_, fun hd => ?_, fun hd => ?_⟩
    · rw [show s.dev.quiet.mde.dorm = .descent from hd]
      exact ⟨rfl, rfl⟩
    · rw [show s.dev.quiet.mde.dorm = .asleep from hd]
      exact ⟨setDState_mde .boot _, setDState_sys .boot _⟩
    · rw [show s.dev.quiet.mde.dorm = .none from hd]
      exact onlyParts_quiet _ s s.regs
  · refine ⟨_, onDev_next s (wake p), ?_⟩
    rw [wake_not p s.regs s.dev.quiet h]
    exact onlyParts_quiet _ s s.regs

end Sys2Proof
end

section
/-! PROOFS. Power domains, rails, supply fail and temperature [18 R519 R521 R522 R524 R536]. -/

namespace Sys2Proof

open Sys2Proof.Machine

/-! ### The final segment acts, and keeps recording stopped -/

theorem acts_evtPart (d : Dev) (x : EvtSt) : Acts [.evt] { d with evt := x } d := (within_evt d x).acts (by decide)

theorem acts_queueWritten (d : Dev) : Acts [.evt, .hld] (queueWritten d) d :=
  (within_evtHld d _ _).acts (by decide)

theorem raised_lost (d : Dev) : Acts [.irq, .evt] (lostRecord d) d := ⟨within_lostRecord d, raised_lostRecord d⟩

theorem acts_evtEvaluate (r : Regs) (d : Dev) : Acts [.irq, .evt] (evtEvaluate r d) d :=
  ((acts_raiseIf _ _ _ _).mono (by decide)).also ((acts_evtPart d _).mono (by decide))

theorem acts_cornerstoneFilled (r : Regs) (d : Dev) : Acts [.irq, .evt] (cornerstoneFilled r d) d :=
  (acts_record r _ _ _).also ((acts_raise 0x29 2 d).mono (by decide))

theorem acts_commitQueue (r : Regs) (d : Dev) : Acts [.irq, .evt, .hld, .lif] (commitQueue r d) d := by
  obtain ⟨full, areas, h⟩ := commitQueue_steps r d
  rw [h]
  refine ((acts_wearSeg r _ _).mono (by decide)).also (Acts.also ?_ (((raised_lost _).mono (by decide)).also
    (((acts_evtEvaluate r _).mono (by decide)).also ((acts_queueWritten d).mono (by decide)))))
  exact .when ((acts_cornerstoneFilled r _).mono (by decide))

theorem acts_segmentMade (r : Regs) (d : Dev) : Acts [.irq, .evt, .hld, .lif, .sys] (segmentMade r d) d :=
  ((acts_sys _ _).mono (by decide)).also (((acts_commitLife r _).mono (by decide)).also ((acts_commitQueue r d).mono (by decide)))

theorem acts_finalSegment (r : Regs) (d : Dev) : Acts [.irq, .evt, .hld, .lif, .sys] (finalSegment r d) d := by
  have hstop : Acts [.irq, .evt, .hld, .lif, .sys] (recordStopped d) d := (acts_evtPart d _).mono (by decide)
  rw [finalSegment_eq]
  exact .ite ((acts_segmentMade r _).also hstop) (((acts_sys _ _).mono (by decide)).also hstop)

/-- A record as it enters keeps the recorder's areas; so does the wear of a segment. -/
theorem storeKept_wearSeg (r : Regs) (l : List (Area × Nat)) (d : Dev) : StoreKept (wearSeg r l d) d := by
  refine foldl_keeps (StoreKept · d) (wearOne r) (wearPages l) d (fun a p ha => StoreKept.trans ?_ ha) (.refl d)
  have hworn : StoreKept (modLife (fun l => { l with wear := modAt l.wear p (satInc 32) }) a) a := rfl
  exact StoreKept.trans (.when (storeKept_record r _ _ _)) hworn

theorem storeKept_commitLife (r : Regs) (d : Dev) : StoreKept (commitLife r d) d := by
  have hpreset (a : Dev) : StoreKept (applyPreset r a) a := by
    unfold applyPreset
    split
    · exact .refl a
    · exact storeKept_enter _ _ _ _
  have hworn (a : Dev) : StoreKept (lifeReady r a) a := storeKept_wearSeg r _ a
  have hwritten (n g : Nat) (x : LifeData) (a : Dev) : StoreKept (lifeWritten n g x a) a := rfl
  rw [commitLife_eq]
  exact (hwritten _ _ _ _).trans ((hworn _).trans ((hpreset _).trans ((acts_countDevOn d).storeKept (by decide))))

theorem stopped_commitQueue (r : Regs) (d : Dev) : (commitQueue r d).evt.stopped = d.evt.stopped := by
  obtain ⟨full, areas, h⟩ := commitQueue_steps r d
  have hwritten : (queueWritten d).evt.stopped = d.evt.stopped := by
    have hflush : d.evt.flushRepeat.stopped = d.evt.stopped := by
      unfold EvtSt.flushRepeat
      split <;> rfl
    exact foldl_keeps (fun e : EvtSt => e.stopped = d.evt.stopped) commitRec d.evt.queue d.evt.flushRepeat (fun _ _ he => he) hflush
  have heval (a : Dev) : StoreKept (evtEvaluate r a) a := (acts_raiseIf _ _ _ _).storeKept (by decide)
  have hcorner (a : Dev) : StoreKept (onlyIf full (cornerstoneFilled r) a) a := .when (storeKept_record r _ _ _)
  have hall : StoreKept (commitQueue r d) (queueWritten d) := by
    rw [h]
    exact (storeKept_wearSeg r areas _).trans ((hcorner _).trans ((storeKept_lostRecord _).trans (heval _)))
  simp only [StoreKept, storedPart, Prod.mk.injEq] at hall
  obtain ⟨-, -, hstop⟩ := hall
  exact hstop.trans hwritten

/-- After the final segment nothing is recorded. -/
theorem finalSegment_stopped (r : Regs) (d : Dev) : (finalSegment r d).evt.stopped = true := by
  rw [finalSegment_eq]
  split
  · have hlife := storeKept_commitLife r (commitQueue r (recordStopped d))
    simp only [StoreKept, storedPart, Prod.mk.injEq] at hlife
    obtain ⟨-, -, hstop⟩ := hlife
    have hnoted (a : Dev) : (segmentNoted a).evt = a.evt := rfl
    rw [segmentMade, hnoted, hstop, stopped_commitQueue]
    rfl
  · rfl

/-! ### Supply fail -/

/-- The warning taken: recording stops. -/
def supplyWarned (d : Dev) : Dev := raise 1 3 (recordStopped d)

/-- The outputs of a unit in RUN after the warning. -/
def runFailed (r : Regs) (d : Dev) : Dev := if d.running then failAll r (leaveRoles r d) else d

/-- The final segment, where there is energy for it. -/
def segmentTried (seg : Bool) (r : Regs) (d : Dev) : Dev := if seg then finalSegment r d else segmentLost d

/-- The device held in RESET after the warning. -/
def supplyHeld (seg : Bool) (d : Dev) : Dev :=
  { d with
    sys := { d.sys with pfail := true, pfailAt := some d.now }
    hld := { d.hld with segment := seg }
    mde := { d.mde with mode := .harbour, dorm := .none, cyc := { d.mde.cyc with running := false, firstPending := false } } }

theorem supplyFail_warns (r : Regs) (d : Dev) (hp : d.sys.pfailAt = none) (hst : d.mde.dstate ≠ .reset) :
    let a := runFailed r (supplyWarned d)
    let seg := segOk r a && a.mramOn
    supplyFail r d = supplyHeld seg (setDState .reset (segmentTried seg r a)) := by
  unfold supplyFail
  rw [if_neg (by simp [hp]), if_neg (by simpa using hst)]
  rfl

theorem acts_runFailed (r : Regs) (d : Dev) : Acts roleParts (runFailed r d) d :=
  .when ((acts_failAll r _).ofOutputs.also (acts_leaveRoles r d))

theorem acts_segmentTried (seg : Bool) (r : Regs) (d : Dev) : Acts [.irq, .evt, .hld, .lif, .sys] (segmentTried seg r d) d :=
  .ite (acts_finalSegment r d) ((acts_sys d _).mono (by decide))

theorem runFailed_stopped (r : Regs) (d : Dev) : (runFailed r d).evt.stopped = d.evt.stopped := by
  have h : StoreKept (runFailed r d) d := .when ((storeKept_failAll r _).trans (storeKept_leaveRoles r d))
  simp only [StoreKept, storedPart, Prod.mk.injEq] at h
  exact h.2.2

theorem segmentTried_stopped (seg : Bool) (r : Regs) (d : Dev) (h : d.evt.stopped = true) : (segmentTried seg r d).evt.stopped = true := by
  unfold segmentTried
  split
  · exact finalSegment_stopped r d
  · exact h

theorem leaveRoles_roleOut (r : Regs) (d : Dev) : (leaveRoles r d).pair.roleOut = false := by
  unfold leaveRoles
  rw [setRole_pair]

/-- A unit that leaves RUN on the warning is single, its outputs and its role off. -/
theorem runFailed_pair (r : Regs) (d : Dev) (h : d.mde.dstate = .run) :
    (runFailed r d).pair.outputs = false ∧ (runFailed r d).pair.roleOut = false ∧ (runFailed r d).pair.state = .single := by
  rw [runFailed, if_pos (by simp [Dev.running, h]), failAll_pair]
  obtain ⟨hst, hout, -⟩ := leaveRoles_pair r d
  exact ⟨hout, leaveRoles_roleOut r d, hst⟩

/-! ### Temperature -/

/-- The reading of the sensors stored, with the warnings. -/
def thermalTold (top : F32) (up down hot : Bool) (d : Dev) : Dev :=
  raiseIf down 0 4 (raiseIf up 0 3 { d with sys := { d.sys with temp := top, hot := hot } })

theorem thermalRead_warns (ts : List F32) (r : Regs) (d : Dev) (hst : d.mde.dstate ≠ .reset) (hd : d.mde.dorm = .none)
    (h : ∀ x ∈ ts, (F32.ofInt 125).le x = false) : let w := r.f32 F.SYS_TEMP_WARN_WARN
    let up := !(d.sys.hot) && w.le (hottest ts)
    let down := d.sys.hot && (hottest ts).le (w.sub (F32.ofInt 5))
    thermalRead ts r d = (thermalTold (hottest ts) up down ((d.sys.hot || up) && !down) d, none) := by
  unfold thermalRead
  rw [if_neg (by rw [hd]; decide), if_neg (by simpa using hst)]
  refine if_neg ?_
  rw [Bool.not_eq_true, List.any_eq_false]
  exact fun x hx => by rw [h x hx]; decide

theorem acts_thermalTold (top : F32) (up down hot : Bool) (d : Dev) : Acts [.irq, .sys] (thermalTold top up down hot d) d :=
  ((acts_raiseIf _ 0 4 _).mono (by decide)).also (((acts_raiseIf _ 0 3 _).mono (by decide)).also ((acts_sys d _).mono (by decide)))

theorem thermalTold_sys (top : F32) (up down hot : Bool) (d : Dev) :
    (thermalTold top up down hot d).sys = { d.sys with temp := top, hot := hot } := by
  rw [thermalTold, raiseIf_sys, raiseIf_sys]

/-! ### Rails -/

/-- The reading of a rail stored. -/
def railStored (rail : Nat) (v : F32) (low : Bool) (d : Dev) : Dev :=
  { d with pwr := { d.pwr with railV := modAt d.pwr.railV rail (fun _ => v), railWarn := setBit d.pwr.railWarn rail low } }

theorem railWarn_eq (rail : Nat) (v : F32) (lost : Bool) (r : Regs) (d : Dev) : let low := lost || railLow rail v
    railWarn rail v lost r d =
      if low && !(bit d.pwr.railWarn rail) then record r .pwrRail { p0 := v.nat, p1 := rail } (raise 1 4 (railStored rail v low d))
      else raiseIf (bit d.pwr.railWarn rail && !low) 1 5 (railStored rail v low d) := rfl

theorem acts_railWarn (rail : Nat) (v : F32) (lost : Bool) (r : Regs) (d : Dev) : Acts [.irq, .evt, .pwr] (railWarn rail v lost r d) d := by
  have hstored (low : Bool) : Acts [.irq, .evt, .pwr] (railStored rail v low d) d := (acts_pwr d _).mono (by decide)
  rw [railWarn_eq]
  exact .ite (((acts_record r _ _ _).mono (by decide)).also (((acts_raise 1 4 _).mono (by decide)).also (hstored _)))
    (((acts_raiseIf _ 1 5 _).mono (by decide)).also (hstored _))

theorem railWarn_pwr (rail : Nat) (v : F32) (lost : Bool) (r : Regs) (d : Dev) :
    (railWarn rail v lost r d).pwr = (railStored rail v (lost || railLow rail v) d).pwr := by
  rw [railWarn_eq]
  split
  · rw [record_pwr]
    rfl
  · rw [raiseIf_pwr]

/-- A reading that falls below the warning level raises the source. -/
theorem railWarn_bit (rail : Nat) (v : F32) (r : Regs) (d : Dev) (hlow : railLow rail v = true) (hwas : d.pwr.railWarn.testBit rail = false)
    (hraw : 1 < d.irq.raw.length) : (at' (railWarn rail v false r d).irq.raw 1).testBit 4 = true := by
  rw [railWarn_eq, if_pos (by rw [bit, hlow, hwas]; rfl)]
  exact (acts_record r _ _ _).raised.bit _ _ (raise_testBit_self 1 4 _ hraw)

/-- A good reading records nothing. -/
theorem railWarn_good (rail : Nat) (v : F32) (r : Regs) (d : Dev) (hlow : railLow rail v = false) : (railWarn rail v false r d).evt = d.evt := by
  rw [railWarn_eq, if_neg (by rw [hlow]; simp), raiseIf_evt]
  rfl

/-- Domains that a rail feeds and that are on. -/
def railFed (rail : Nat) (d : Dev) : List Nat := (railDomains rail).filter fun x => d.pwr.on.testBit x

theorem railFault_low (rail : Nat) (v : F32) (s : State) (h : railFed rail s.dev ≠ []) :
    railFault rail v false s = { s with dev := railWarn rail v false s.regs s.dev } := by
  have hfed : ¬((railFed rail s.dev).isEmpty = true) := by rwa [List.isEmpty_iff]
  exact if_neg hfed

/-- Domains `hit` without power-good. -/
def railCut (hit : List Nat) (d : Dev) : Dev :=
  raiseIf (!(hit.isEmpty)) 1 2 { d with pwr := { d.pwr with
    pgood := hit.foldl (fun m x => setBit m x false) d.pwr.pgood, fault := hit.foldl (fun m x => setBit m x true) d.pwr.fault } }

theorem acts_railCut (hit : List Nat) (d : Dev) : Acts [.irq, .pwr] (railCut hit d) d :=
  ((acts_raiseIf _ 1 2 _).mono (by decide)).also ((acts_pwr d _).mono (by decide))

/-- What the loss of the domains `hit` does, beside a reset. -/
def domainsLost (hit : List Nat) (r : Regs) (d : Dev) : Regs × Dev := hit.foldl (fun (x : Regs × Dev) dom => domainLost x.1 dom x.2) (r, d)

/-- The reset that the loss of the domains `hit` brings. -/
def railReset (hit : List Nat) (st : DState) (s : State) : State :=
  if st == .reset then s
  else if hit.contains 0 then resetState 0 s
  else if hit.any fun x => [10, 13, 14].contains x then resetState 3 s
  else s

/-- A rail lost on a device whose reading is stored. -/
def railDropped (hit : List Nat) (s : State) (d : Dev) : State :=
  railReset hit (railCut hit d).mde.dstate { s with regs := (domainsLost hit s.regs (railCut hit d)).1, dev := (domainsLost hit s.regs (railCut hit d)).2 }

theorem railFault_lost (rail : Nat) (v : F32) (s : State) (h : railFed rail s.dev ≠ []) : railFault rail v true s =
    railDropped ((railFed rail s.dev).filter fun x => (railWarn rail v true s.regs s.dev).pwr.pgood.testBit x) s (railWarn rail v true s.regs s.dev) := by
  have hfed : ¬((railFed rail s.dev).isEmpty = true) := by rwa [List.isEmpty_iff]
  exact if_neg hfed

/-- The loss of a rail of domain 14 resets the device, its domain cut. -/
theorem railFault_resets (v : F32) (s : State) (hst : s.dev.mde.dstate ≠ .reset) (hon : s.dev.pwr.on.testBit 14 = true)
    (hgood : s.dev.pwr.pgood.testBit 14 = true) :
    railFault 9 v true s = resetState 3 { s with dev := railCut [14] (railWarn 9 v true s.regs s.dev) } := by
  have hfed : railFed 9 s.dev = [14] := by simp [railFed, railDomains, hon]
  have hhit : ([14].filter fun x => (railWarn 9 v true s.regs s.dev).pwr.pgood.testBit x) = [14] := by
    rw [railWarn_pwr]
    simp [railStored, hgood]
  have hst' : (railCut [14] (railWarn 9 v true s.regs s.dev)).mde.dstate ≠ .reset := by
    rw [show (railCut [14] (railWarn 9 v true s.regs s.dev)).mde = s.dev.mde from
      ((acts_railCut [14] _).trans (acts_railWarn 9 v true s.regs s.dev)).agree .mde (by decide)]
    exact hst
  rw [railFault_lost 9 v s (by rw [hfed]; decide), hfed, hhit]
  exact if_neg (by rw [beq_iff_eq]; exact hst')

/-- The loss of the rail of domain 1 cuts its domain alone. -/
theorem railFault_cuts (v : F32) (s : State) (hon : s.dev.pwr.on.testBit 1 = true) (hgood : s.dev.pwr.pgood.testBit 1 = true) :
    railFault 14 v true s = { s with dev := railCut [1] (railWarn 14 v true s.regs s.dev) } := by
  have hfed : railFed 14 s.dev = [1] := by simp [railFed, railDomains, hon]
  have hhit : ([1].filter fun x => (railWarn 14 v true s.regs s.dev).pwr.pgood.testBit x) = [1] := by
    rw [railWarn_pwr]
    simp [railStored, hgood]
  have hidle (st : DState) (x : State) : railReset [1] st x = x := by
    unfold railReset
    split <;> rfl
  rw [railFault_lost 14 v s (by rw [hfed]; decide), hfed, hhit, railDropped, hidle]
  rfl

/-! ### Domains -/

/-- The power-good of a domain noted. -/
def domainRisen (dom : Nat) (d : Dev) : Dev :=
  raise 1 0 { d with pwr := { d.pwr with pgood := setBit d.pwr.pgood dom true, goodAt := modAt d.pwr.goodAt dom fun _ => d.now } }

/-- What the power-good of a domain brings back. -/
def domainBack (dom : Nat) (d : Dev) : Dev :=
  match dom with
  | 4 => { d with gns0 := { d.gns0 with bankFault := decide ((at' d.grt.classes 2).faults ≠ 0) } }
  | 6 | 7 | 8 | 9 => courseUp (dom - 6) d
  | 15 => { d with hld := { d.hld with mramGood := some d.now } }
  | _ => d

theorem domainUp_rises (dom : Nat) (r : Regs) (d : Dev) (hn : dom < 16) (hon : d.pwr.on.testBit dom = true) (hgood : d.pwr.pgood.testBit dom = false) :
    domainUp dom r d = domainBack dom (domainRisen dom d) :=
  if_neg (by rw [hon, hgood]; simp; omega)

theorem acts_domainRisen (dom : Nat) (d : Dev) : Acts [.irq, .pwr] (domainRisen dom d) d := (acts_raise 1 0 _).trans (acts_pwr d _)

theorem acts_courseUp (c : Nat) (d : Dev) : Acts [.msn, .grt] (courseUp c d) d :=
  acts_foldl _ _ d fun a _ => .when (((acts_grt _ _).mono (by decide)).also ((acts_modTile _ _ a).mono (by decide)))

theorem acts_domainBack (dom : Nat) (d : Dev) : Acts [.gns0, .msn, .grt, .hld] (domainBack dom d) d := by
  unfold domainBack
  split
  · exact ((within_gns0 d _).acts (by decide) : Acts [.gns0] _ d).mono (by decide)
  · exact (acts_courseUp _ d).mono (by decide)
  · exact (acts_courseUp _ d).mono (by decide)
  · exact (acts_courseUp _ d).mono (by decide)
  · exact (acts_courseUp _ d).mono (by decide)
  · exact (acts_hld d _).mono (by decide)
  · exact .refl _ d

/-- Only the MRAM's domain touches page HLD. -/
theorem domainBack_hld (dom : Nat) (d : Dev) :
    (domainBack dom d).hld = if dom = 15 then { d.hld with mramGood := some d.now } else d.hld := by
  have hcourse (c : Nat) : (courseUp c d).hld = d.hld := (acts_courseUp c d).agree .hld (by decide)
  unfold domainBack
  split
  · rfl
  · exact hcourse _
  · exact hcourse _
  · exact hcourse _
  · exact hcourse _
  · rfl
  next h => exact (if_neg h).symm

/-! ### PWR_DOM_REQ -/

/-- The bits of PWR_DOM_REQ that a write changes. -/
def reqDiff (r : Regs) (d : Dev) (new : Nat) : List Nat := (List.range 6).filter fun i => bit (domReq r d) i != bit new i

/-- PWR_DOM_REQ with a value taken. -/
def reqTaken (new : Nat) (r : Regs) : Regs :=
  ((r.put F.PWR_DOM_REQ_COURSE (new % 16)).put F.PWR_DOM_REQ_NDL (bits new 4 4)).put F.PWR_DOM_REQ_PCIE (bits new 5 5)

theorem mem_reqDiff (r : Regs) (d : Dev) (new i : Nat) : i ∈ reqDiff r d new ↔ i < 6 ∧ (domReq r d).testBit i ≠ new.testBit i := by
  simp [reqDiff, bit]

theorem pwrDomReqWrite_eq (port : Port) (v : Nat) (r : Regs) (d : Dev) (hst : d.mde.dstate ≠ .reset) (ht : d.tw812 = false) :
    pwrDomReqWrite port v r d =
      if (reqDiff r d (v % 64)).all fun i => domOk port r d i (bit (v % 64) i) then
        (reqDiff r d (v % 64)).foldl (fun x i => domSwitch i (bit (v % 64) i) x) (reqTaken (v % 64) r, d)
      else (r.reject 1 0x40 7, raise 1 6 d) := by
  have hnew : (if d.tw812 then v % 64 - bits v 3 2 * 4 else v % 64) = v % 64 := if_neg (by rw [ht]; decide)
  unfold pwrDomReqWrite
  rw [hnew]
  exact if_neg (by simpa using hst)

/-- Domains switched on. -/
def domainsAdded (l : List Nat) (d : Dev) : Dev := { d with pwr := { d.pwr with on := l.foldl (fun m i => setBit m (reqDomain i) true) d.pwr.on } }

/-- Switching on the bits of a list adds their domains and nothing else. -/
theorem foldl_domSwitch_on (f : Nat → Bool) (l : List Nat) (r : Regs) (d : Dev) (h : ∀ i ∈ l, f i = true) :
    l.foldl (fun x i => domSwitch i (f i) x) (r, d) = (r, domainsAdded l d) := by
  induction l generalizing d with
  | nil => rfl
  | cons i l ih =>
    rw [List.foldl_cons]
    have hon : domSwitch i (f i) (r, d) = (r, { d with pwr := { d.pwr with on := setBit d.pwr.on (reqDomain i) true } }) :=
      if_pos (h i List.mem_cons_self)
    rw [hon, ih _ fun j hj => h j (List.mem_cons_of_mem i hj)]
    rfl

/-- A domain of the list is on afterwards, as is one that was on before. -/
theorem foldl_setBit_on (g : Nat → Nat) (l : List Nat) (m k : Nat) (h : m.testBit k = true ∨ ∃ i ∈ l, g i = k) :
    (l.foldl (fun m i => setBit m (g i) true) m).testBit k = true := by
  induction l generalizing m with
  | nil => simpa using h
  | cons i l ih =>
    rw [List.foldl_cons]
    refine ih _ ?_
    rw [testBit_setBit]
    obtain h | ⟨j, hj, hk⟩ := h
    · exact .inl (by split <;> simp [h])
    · obtain rfl | hj := List.mem_cons.mp hj
      · exact .inl (if_pos hk)
      · exact .inr ⟨j, hj, hk⟩

theorem reqTaken_get (new : Nat) (r : Regs) : (reqTaken new r).get F.PWR_DOM_REQ_COURSE = new % 16 ∧
    (reqTaken new r).get F.PWR_DOM_REQ_NDL = new / 16 % 2 ∧ (reqTaken new r).get F.PWR_DOM_REQ_PCIE = new / 32 % 2 := by
  unfold reqTaken
  refine ⟨?_, ?_, ?_⟩
  · rw [get_put_other _ _ _ _ _ _ _ _ _ _ _ _ (by decide), get_put_other _ _ _ _ _ _ _ _ _ _ _ _ (by decide), get_put_self]
    exact Nat.mod_mod new 16
  · rw [get_put_other _ _ _ _ _ _ _ _ _ _ _ _ (by decide), get_put_self]
    exact Nat.mod_mod (new / 16) 2
  · rw [get_put_self]
    exact Nat.mod_mod (new / 32) 2

/-- Settles O47. -/
theorem powerAndTemperature : Obligations.PowerAndTemperature := by
  unfold Obligations.PowerAndTemperature
  refine ⟨fun s hp hst hraw => ?_, fun s rail v hfed hlen hraw => ?_, fun s v hst hon hgood => ?_, fun s v hon hgood hraw => ?_,
    fun s n hn hon hgood hraw => ?_, fun s ts hst hd hcold hraw => ?_, fun s port v hst ht hraw hbad => ?_, fun s port v hst ht hall => ?_⟩
  · refine ⟨_, onDev_next s supplyFail, rfl, rfl, ?_⟩
    rw [supplyFail_warns s.regs s.dev.quiet hp hst, settle_mde, settle_sys, settle_evt, settle_raw, settle_pair]
    have hwarn : Acts [.irq, .evt] (supplyWarned s.dev.quiet) s.dev.quiet := (acts_raise 1 3 _).mono (by decide) |>.also ((acts_evtPart _ _).mono (by decide))
    have hbit : (at' (supplyWarned s.dev.quiet).irq.raw 1).testBit 3 = true := raise_testBit_self 1 3 _ hraw
    have hstop : (runFailed s.regs (supplyWarned s.dev.quiet)).evt.stopped = true := runFailed_stopped s.regs _
    have hrun := acts_runFailed s.regs (supplyWarned s.dev.quiet)
    have hnow : (supplyWarned s.dev.quiet).now = s.dev.now := rfl
    have hpair (h : s.dev.mde.dstate = .run) := runFailed_pair s.regs (supplyWarned s.dev.quiet) h
    have hbit' := hrun.raised.bit 1 3 hbit
    have hnow' := hrun.within.now.trans hnow
    generalize runFailed s.regs (supplyWarned s.dev.quiet) = a at hstop hpair hbit' hnow' ⊢
    generalize (segOk s.regs a && a.mramOn) = seg
    have htried := acts_segmentTried seg s.regs a
    have hstop' := segmentTried_stopped seg s.regs a hstop
    generalize segmentTried seg s.regs a = b at htried hstop' ⊢
    have hset := acts_setDState .reset b
    have hdst : (setDState .reset b).mde.dstate = .reset := congrArg MdeSt.dstate (setDState_mde .reset b)
    generalize setDState .reset b = z at hset hdst ⊢
    have hboth := hset.trans htried
    have hzp : z.pair = a.pair := hboth.agree .pair (by decide)
    refine ⟨hdst, rfl, rfl, congrArg some (hboth.within.now.trans hnow'), rfl, ?_, hboth.raised.bit 1 3 hbit', fun h => ?_⟩
    · exact (congrArg EvtSt.stopped (hset.agree .evt (by decide))).trans hstop'
    · change z.pair.outputs = false ∧ z.pair.roleOut = false ∧ z.pair.state = .single
      rw [hzp]
      exact hpair h
  · have hfed' : railFed rail s.dev.quiet ≠ [] := by
      obtain ⟨x, hx, hxon⟩ := hfed
      exact List.ne_nil_of_mem (List.mem_filter.mpr ⟨hx, hxon⟩)
    refine ⟨_, onState_next s (railFault rail v false), ?_⟩
    rw [railFault_low rail v { s with dev := s.dev.quiet } hfed', settle_pwr, settle_evt, settle_raw]
    have hacts := acts_railWarn rail v false s.regs s.dev.quiet
    refine ⟨hacts.onlyParts (by decide), ?_⟩
    change at' (railWarn rail v false s.regs s.dev.quiet).pwr.railV rail = v ∧ (railWarn rail v false s.regs s.dev.quiet).pwr.pgood = s.dev.pwr.pgood ∧
      (railWarn rail v false s.regs s.dev.quiet).pwr.railWarn.testBit rail = railLow rail v ∧ _
    rw [railWarn_pwr]
    refine ⟨at'_modAt_self _ _ _ hlen, rfl, (testBit_setBit_self _ _ _).trans (Bool.false_or _), fun hlow hwas => ?_, fun hlow => ?_⟩
    · exact railWarn_bit rail v s.regs s.dev.quiet hlow hwas hraw
    · exact railWarn_good rail v s.regs s.dev.quiet hlow
  · refine ⟨_, onState_next s (railFault 9 v true), ?_⟩
    rw [railFault_resets v { s with dev := s.dev.quiet } hst hon hgood]
    have hacts := (acts_railCut [14] _).trans (acts_railWarn 9 v true s.regs s.dev.quiet)
    have hkept := (hacts.aonKept (by decide) (congrArg PairSt.unitId (hacts.agree .pair (by decide)))).trans (aonKept_quiet s.dev)
    exact resetFrom_of_kept 3 s _ hkept
  · refine ⟨_, onState_next s (railFault 14 v true), ?_⟩
    rw [railFault_cuts v { s with dev := s.dev.quiet } hon hgood, settle_pwr, settle_raw]
    have hacts := acts_railWarn 14 v true s.regs s.dev.quiet
    have hlen : 1 < (railWarn 14 v true s.regs s.dev.quiet).irq.raw.length := by
      rw [hacts.raised.length]
      exact hraw
    refine ⟨((acts_railCut [1] _).trans hacts).onlyParts (by decide), testBit_setBit_self _ _ _, testBit_setBit_self _ _ _, ?_⟩
    exact raise_testBit_self 1 2 _ hlen
  · refine ⟨_, onDev_next s (domainUp n), ?_⟩
    rw [domainUp_rises n s.regs s.dev.quiet hn hon hgood, settle_pwr, settle_raw, settle_hld]
    have hrise := acts_domainRisen n s.dev.quiet
    have hback := acts_domainBack n (domainRisen n s.dev.quiet)
    have hpwr : (domainBack n (domainRisen n s.dev.quiet)).pwr = (domainRisen n s.dev.quiet).pwr := hback.agree .pwr (by decide)
    rw [hpwr, domainBack_hld]
    refine ⟨(hback.trans hrise).onlyParts (by decide), rfl, testBit_setBit_self _ _ _, fun m hm => testBit_setBit_other _ _ _ _ hm, ?_, fun h => ?_, fun h => ?_⟩
    · exact hback.raised.bit 1 0 (raise_testBit_self 1 0 _ hraw)
    · rw [if_pos h]
      rfl
    · rw [if_neg h]
      rfl
  · intro w
    refine ⟨_, onReset_none s (thermalRead ts) _ (thermalRead_warns ts s.regs s.dev.quiet hst hd hcold), ?_⟩
    rw [settle_sys, settle_raw, thermalTold_sys]
    refine ⟨(acts_thermalTold _ _ _ _ s.dev.quiet).onlyParts (by decide), rfl, fun hhot hw => ?_, fun hhot hw => ?_⟩
    · rw [show s.dev.quiet.sys.hot = false from hhot, hw]
      exact ⟨rfl, raise_testBit_self 0 3 _ hraw⟩
    · rw [show s.dev.quiet.sys.hot = true from hhot, hw]
      exact ⟨rfl, raise_testBit_self 0 4 _ hraw⟩
  · refine ⟨_, onRegs_next s (pwrDomReqWrite port v), ?_⟩
    have hno : ¬(((reqDiff s.regs s.dev.quiet (v % 64)).all fun i => domOk port s.regs s.dev.quiet i (bit (v % 64) i)) = true) := by
      obtain ⟨i, hi, hne, hbadi⟩ := hbad
      rw [List.all_eq_true]
      intro h
      exact absurd ((h i ((mem_reqDiff _ _ _ _).mpr ⟨hi, hne⟩)).symm.trans hbadi) (by decide)
    rw [pwrDomReqWrite_eq port v s.regs s.dev.quiet hst ht, if_neg hno, settle_raw]
    exact ⟨(acts_raise 1 6 s.dev.quiet).onlyParts (s := { s with regs := s.regs.reject 1 0x40 7 }) (by decide), rfl, raise_testBit_self 1 6 _ hraw⟩
  · refine ⟨_, onRegs_next s (pwrDomReqWrite port v), ?_⟩
    have hmem (i : Nat) (hi : i ∈ reqDiff s.regs s.dev.quiet (v % 64)) :
        domOk port s.regs s.dev i ((v % 64).testBit i) = true ∧ (v % 64).testBit i = true := by
      obtain ⟨hi6, hne⟩ := (mem_reqDiff _ _ _ _).mp hi
      exact hall i hi6 hne
    have hyes : ((reqDiff s.regs s.dev.quiet (v % 64)).all fun i => domOk port s.regs s.dev.quiet i (bit (v % 64) i)) = true :=
      List.all_eq_true.mpr fun i hi => (hmem i hi).1
    rw [pwrDomReqWrite_eq port v s.regs s.dev.quiet hst ht, if_pos hyes,
      foldl_domSwitch_on (fun i => bit (v % 64) i) _ _ _ fun i hi => (hmem i hi).2, settle_pwr]
    obtain ⟨hc, hn, hp⟩ := reqTaken_get (v % 64) s.regs
    refine ⟨(acts_pwr s.dev.quiet _).onlyParts (s := { s with regs := reqTaken (v % 64) s.regs }) (by decide), ?_, ?_, ?_, rfl, fun i hi hne => ?_⟩
    · rw [hc]
      omega
    · rw [hn]
      omega
    · rw [hp]
      omega
    · exact foldl_setBit_on reqDomain _ _ _ (.inr ⟨i, (mem_reqDiff _ _ _ _).mpr ⟨hi, hne⟩, rfl⟩)

end Sys2Proof
end

section
/-! PROOFS. PLLs, reference inputs and the Grout [18 R534 R535 R537 to R540]. -/

namespace Sys2Proof

open Sys2Proof.Machine

/-! ### A PLL loses lock -/

/-- The parts that the loss of a PLL can act on. -/
def lockParts : List Part := [.irq, .clk, .gns0, .flt, .can, .ndl, .pair, .evt, .eth]

/-- A PLL noted as out of lock. -/
def lockNoted (p : Nat) (d : Dev) : Dev :=
  raise 2 0 { d with clk := { d.clk with
    lock := setBit d.clk.lock p false, losses := modAt d.clk.losses p (wrapInc 16), lostAt := modAt d.clk.lostAt p fun _ => some d.now } }

/-- What a PLL out of lock does to what runs on it. -/
def lockActs (p : Nat) (r : Regs) (d : Dev) : Regs × Dev :=
  match p with
  | 0 => (r, { d with clk := { d.clk with bclk := true } })
  | 2 => (r, { d with clk := { d.clk with mpllHold := true } })
  | 3 => (r, pathsLost d)
  | 4 => (r, { d with flt := { d.flt with valid := 0 } })
  | 5 => (r, canStop d)
  | 6 => (r, ethDown r (linkLost r d))
  | 7 => hstDown r d
  | _ => (r, d)

theorem pllLost_locked (p : Nat) (r : Regs) (d : Dev) (hp : p < 8) (hlock : d.clk.lock.testBit p = true) :
    pllLost p (r, d) = lockActs p r (lockNoted p d) := by
  have hc : ¬(8 ≤ p ∨ (!(d.clk.lock.testBit p)) = true) := by simp [hlock, hp]
  exact if_neg hc

theorem pllLost_unlocked (p : Nat) (r : Regs) (d : Dev) (hlock : d.clk.lock.testBit p = false) : pllLost p (r, d) = (r, d) := by
  have hc : 8 ≤ p ∨ (!(d.clk.lock.testBit p)) = true := by simp [hlock]
  exact if_pos hc

theorem acts_lockNoted (p : Nat) (d : Dev) : Acts [.irq, .clk] (lockNoted p d) d := (acts_raise 2 0 _).trans (acts_clk d _)

theorem acts_pathsLost (d : Dev) : Acts [.gns0] (pathsLost d) d := acts_foldN 4 _ d fun p a => (within_pathLeft p a).acts (by decide)

theorem acts_ethComplete (n b res : Nat) (d : Dev) : Acts [.irq, .eth] (ethComplete n b res d) d :=
  (acts_raiseIf _ _ 1 _).trans ((within_modEth n _ d).acts (by decide))

theorem acts_ethFlush (n : Nat) (d : Dev) : Acts [.irq, .eth] (ethFlush n d) d :=
  (acts_foldl (fun a (x : TxFrame) => ethComplete n x.buf 2 a) (waiting (d.mac n)) _ fun a x => acts_ethComplete n x.buf 2 a).also (((within_modEth n _ d).acts (by decide)).mono (by decide))

theorem acts_ethDown (r : Regs) (d : Dev) : Acts [.irq, .eth] (ethDown r d) d :=
  acts_foldN 4 _ d fun n a => .when ((acts_ethFlush n _).also ((acts_raise _ 3 _).trans ((within_modEth n _ a).acts (by decide))))

theorem acts_linkLost (r : Regs) (d : Dev) : Acts [.irq, .evt, .pair, .ndl] (linkLost r d) d := by
  by_cases h : d.ndl.link = true
  · rw [linkLost_up r d h]
    exact ((acts_silentWatch r _).trans ((acts_partnerLost _ _).trans ((acts_stateUnlinked r _).trans (acts_linkCut d)))).mono (by decide)
  · have heq : linkLost r d = { d with ndl := { d.ndl with training := false } } := if_pos (by simpa using h)
    rw [heq]
    exact (acts_ndl d _).mono (by decide)

/-- What the clock state shows of locks and reference inputs. -/
def locksSeen (c : ClkSt) : Nat × Bool × Bool := (c.lock, c.refOk, c.serOk)

/-- The effects of a PLL's loss leave the registers, the locks and the reference inputs. -/
theorem lockActs_shows (p : Nat) (r : Regs) (d : Dev) (hp : p < 7) :
    (lockActs p r d).1 = r ∧ Acts lockParts (lockActs p r d).2 d ∧ locksSeen (lockActs p r d).2.clk = locksSeen d.clk := by
  have hkeep {l : List Part} {b : Dev} (h : Acts l b d) (hl : l ⊆ lockParts) (hc : Part.clk ∉ l) :
      Acts lockParts b d ∧ locksSeen b.clk = locksSeen d.clk := ⟨h.mono hl, congrArg locksSeen (h.agree .clk hc)⟩
  match p, hp with
  | 0, _ => exact ⟨rfl, (acts_clk d _).mono (by decide), rfl⟩
  | 1, _ => exact ⟨rfl, .refl _ d, rfl⟩
  | 2, _ => exact ⟨rfl, (acts_clk d _).mono (by decide), rfl⟩
  | 3, _ => exact ⟨rfl, hkeep (acts_pathsLost d) (by decide) (by decide)⟩
  | 4, _ => exact ⟨rfl, hkeep (acts_flt d _) (by decide) (by decide)⟩
  | 5, _ => exact ⟨rfl, hkeep (acts_can d _) (by decide) (by decide)⟩
  | 6, _ => exact ⟨rfl, hkeep ((acts_ethDown r _).trans (acts_linkLost r d)) (by decide) (by decide)⟩

/-- The PLLs of a list are out of lock and no other is; the registers and the reference inputs are kept. -/
structure Unlocked (l : List Nat) (x : Regs × Dev) (r : Regs) (d : Dev) : Prop where
  regs : x.1 = r
  acts : Acts lockParts x.2 d
  refs : x.2.clk.refOk = d.clk.refOk ∧ x.2.clk.serOk = d.clk.serOk
  lock : ∀ q, x.2.clk.lock.testBit q = (d.clk.lock.testBit q && decide (q ∉ l))

theorem Unlocked.refl (r : Regs) (d : Dev) : Unlocked [] (r, d) r d := ⟨rfl, .refl _ d, ⟨rfl, rfl⟩, fun q => by simp⟩

theorem pllLost_unlocks (p : Nat) (r : Regs) (d : Dev) (hp : p < 7) : Unlocked [p] (pllLost p (r, d)) r d := by
  by_cases hlock : d.clk.lock.testBit p = true
  · rw [pllLost_locked p r d (by omega) hlock]
    obtain ⟨hr, hacts, hseen⟩ := lockActs_shows p r (lockNoted p d) hp
    injection hseen with hl hrefs
    injection hrefs with href hser
    refine ⟨hr, hacts.also ((acts_lockNoted p d).mono (by decide)), ⟨href, hser⟩, fun q => ?_⟩
    have hset : (lockNoted p d).clk.lock = setBit d.clk.lock p false := rfl
    rw [hl, hset, testBit_setBit]
    by_cases hq : p = q
    · simp [hq]
    · simp [hq, Ne.symm hq]
  · rw [pllLost_unlocked p r d (by simpa using hlock)]
    refine ⟨rfl, .refl _ d, ⟨rfl, rfl⟩, fun q => ?_⟩
    by_cases hq : q = p
    · simp [hq, hlock]
    · simp [hq]

theorem Unlocked.more {l : List Nat} {p : Nat} {y x : Regs × Dev} {r : Regs} {d : Dev} (h : Unlocked l y x.1 x.2) (g : Unlocked [p] x r d) :
    Unlocked (p :: l) y r d := by
  refine ⟨h.regs.trans g.regs, h.acts.also g.acts, ⟨h.refs.1.trans g.refs.1, h.refs.2.trans g.refs.2⟩, fun q => ?_⟩
  rw [h.lock, g.lock]
  by_cases hq : q = p <;> simp [hq]

theorem plls_unlock (l : List Nat) (r : Regs) (d : Dev) (hl : ∀ p ∈ l, p < 7) : Unlocked l (l.foldl (fun x p => pllLost p x) (r, d)) r d := by
  induction l generalizing r d with
  | nil => exact .refl r d
  | cons p l ih =>
    exact (ih _ _ fun q hq => hl q (List.mem_cons_of_mem p hq)).more (pllLost_unlocks p r d (hl p List.mem_cons_self))

/-- The effects of the loss of PLLs 0, 1, 2 and 4 stand in the clock and the filter state. -/
theorem lockActs_effects (p : Nat) (r : Regs) (d : Dev) (hp : p < 5) (h3 : p ≠ 3) :
    ∃ b m f, lockActs p r d = (r, { d with clk := { d.clk with bclk := b, mpllHold := m }, flt := f }) ∧ (p = 0 → b = true) ∧ (p = 2 → m = true) ∧
      (p = 4 → f.valid = 0) ∧ (p ≠ 4 → f = d.flt) := by
  match p, hp with
  | 0, _ => exact ⟨true, d.clk.mpllHold, d.flt, rfl, by simp⟩
  | 1, _ => exact ⟨d.clk.bclk, d.clk.mpllHold, d.flt, rfl, by simp⟩
  | 2, _ => exact ⟨d.clk.bclk, true, d.flt, rfl, by simp⟩
  | 3, _ => exact absurd rfl h3
  | 4, _ => exact ⟨d.clk.bclk, d.clk.mpllHold, { d.flt with valid := 0 }, rfl, by simp⟩

/-- A PLL's loss settles with its counts, its flag and its effect. -/
theorem pllLost_settles (s : State) (p : Nat) (hs : s.dev.mde.dstate ≠ .reset) (hp : p < 5) (h3 : p ≠ 3) (hl : s.dev.clk.lock.testBit p = true)
    (hloss : p < s.dev.clk.losses.length) (hat : p < s.dev.clk.lostAt.length) (hraw : 2 < s.dev.irq.raw.length) :
    ∃ t, exec (.pllLockLost p) s = .next t ∧ OnlyParts [.clk, .flt] s t ∧ (∀ q, t.dev.clk.lock.testBit q = (s.dev.clk.lock.testBit q && q != p)) ∧
      at' t.dev.clk.losses p = (at' s.dev.clk.losses p + 1) % 2 ^ 16 ∧ at' t.dev.clk.lostAt p = some s.dev.now ∧
      (at' t.dev.irq.raw 2).testBit 0 = true ∧ (p = 0 → t.dev.clk.bclk = true) ∧ (p = 2 → t.dev.clk.mpllHold = true) ∧
      (p = 4 → t.dev.flt.valid = 0) ∧ (p ≠ 4 → t.dev.flt = s.dev.flt) := by
  refine ⟨_, onRegs_next s fun r d => if d.mde.dstate == .reset then (r, d) else pllLost p (r, d), ?_⟩
  obtain ⟨b, m, f, heq, h0, h2, h4, hn4⟩ := lockActs_effects p s.regs (lockNoted p s.dev.quiet) hp h3
  have hrun : (if s.dev.quiet.mde.dstate == .reset then (s.regs, s.dev.quiet) else pllLost p (s.regs, s.dev.quiet)) =
      (s.regs, { lockNoted p s.dev.quiet with clk := { (lockNoted p s.dev.quiet).clk with bclk := b, mpllHold := m }, flt := f }) := by
    rw [← heq, ← pllLost_locked p s.regs s.dev.quiet (by omega) hl]
    exact if_neg (by simp [hs])
  rw [hrun]
  have hact := (acts_flt { lockNoted p s.dev.quiet with clk := { (lockNoted p s.dev.quiet).clk with bclk := b, mpllHold := m } } f).trans
    ((acts_clk (lockNoted p s.dev.quiet) { (lockNoted p s.dev.quiet).clk with bclk := b, mpllHold := m }).trans (acts_lockNoted p s.dev.quiet))
  refine ⟨hact.onlyParts (by decide), ?_⟩
  simp only [settle_clk, settle_flt, settle_raw]
  refine ⟨fun q => ?_, at'_modAt_self _ _ _ hloss, at'_modAt_self _ _ _ hat, raise_testBit_self _ _ _ hraw, h0, h2, h4, hn4⟩
  have hset : (lockNoted p s.dev.quiet).clk.lock = setBit s.dev.clk.lock p false := rfl
  rw [hset, testBit_setBit]
  by_cases hq : p = q
  · simp [hq]
  · simp [hq, Ne.symm hq]

/-- The raw interrupt bit of page CLK that tells of a lost reference input. -/
def refBit (k : Nat) : Nat := match k with | 0 => 2 | 1 => 4 | _ => 5

/-- A reference input noted as lost. -/
def refNoted (k : Nat) (r : Regs) (d : Dev) : Dev := record r .clkLost { p0 := k } (raise 2 (refBit k) (setRef k false d))

theorem refclkLost_present (k : Nat) (r : Regs) (d : Dev) (hs : d.mde.dstate ≠ .reset) (hk : k < 3) (h : refHas d k = true) :
    refclkLost k r d = (refPlls k).foldl (fun x p => pllLost p x) (r, refNoted k r d) := by
  have hc : ¬((d.mde.dstate == .reset) = true ∨ 3 ≤ k ∨ (!(refHas d k)) = true) := by simp [hs, hk, h]
  exact if_neg hc

theorem setRef_kept (k : Nat) (b : Bool) (d : Dev) : ∃ c, setRef k b d = { d with clk := c } := by
  unfold setRef
  split
  · exact ⟨_, rfl⟩
  · exact ⟨_, rfl⟩
  · exact ⟨_, rfl⟩

theorem acts_setRef (k : Nat) (b : Bool) (d : Dev) : Acts [.clk] (setRef k b d) d := by
  obtain ⟨c, hc⟩ := setRef_kept k b d
  rw [hc]
  exact acts_clk d c

theorem setRef_lock (k : Nat) (b : Bool) (d : Dev) : (setRef k b d).clk.lock = d.clk.lock := by
  unfold setRef
  split <;> rfl

theorem refHas_setRef (k : Nat) (b : Bool) (d : Dev) : refHas (setRef k b d) k = b := by
  match k with
  | 0 => rfl
  | 1 => rfl
  | n + 2 => rfl

theorem refHas_congr {a b : Dev} (h : a.clk = b.clk) (k : Nat) : refHas a k = refHas b k := by
  unfold refHas
  rw [h]

/-- A reference input lost: its PLLs are out of lock and nothing of the registers moves. -/
theorem refclkLost_unlocks (k : Nat) (r : Regs) (d : Dev) (hs : d.mde.dstate ≠ .reset) (hk : k < 2) (h : refHas d k = true)
    (hraw : 2 < d.irq.raw.length) :
    (refclkLost k r d).1 = r ∧ (refclkLost k r d).2.clk.refOk = (setRef k false d).clk.refOk ∧
      (refclkLost k r d).2.clk.serOk = (setRef k false d).clk.serOk ∧
      (∀ q, (refclkLost k r d).2.clk.lock.testBit q = (d.clk.lock.testBit q && decide (q ∉ refPlls k))) ∧
      (at' (refclkLost k r d).2.irq.raw 2).testBit (refBit k) = true := by
  rw [refclkLost_present k r d hs (by omega) h]
  have hplls : ∀ p ∈ refPlls k, p < 7 := by
    match k, hk with
    | 0, _ => decide
    | 1, _ => decide
  have hun := plls_unlock (refPlls k) r (refNoted k r d) hplls
  have hclk : (refNoted k r d).clk = (setRef k false d).clk := by rw [refNoted, record_clk, raise_clk]
  have hlen : 2 < (setRef k false d).irq.raw.length := by
    rw [(acts_setRef k false d).raised.length]
    exact hraw
  have hbit : (at' (refNoted k r d).irq.raw 2).testBit (refBit k) = true := (raised_record r .clkLost _ _).bit _ _ (raise_testBit_self _ _ _ hlen)
  refine ⟨hun.regs, hun.refs.1.trans (by rw [hclk]), hun.refs.2.trans (by rw [hclk]), fun q => ?_, hun.acts.raised.bit _ _ hbit⟩
  rw [hun.lock, hclk, setRef_lock]

/-! ### A PLL locks again -/

/-- The time a PLL was out of lock, in µs. -/
def outUs (p : Nat) (d : Dev) : Nat := match at' d.clk.lostAt p with | some t => min ((d.now - t) / 250) 65535 | none => 0

theorem outUs_lost (p u : Nat) (d : Dev) (h : at' d.clk.lostAt p = some u) : outUs p d = min ((d.now - u) / 250) 65535 := by
  unfold outUs
  rw [h]

/-- A PLL noted as locked again. -/
def lockAgain (p : Nat) (d : Dev) : Dev :=
  raise 2 1 { d with clk := { d.clk with
    lock := setBit d.clk.lock p true, lastUs := modAt d.clk.lastUs p (fun _ => outUs p d), lostAt := modAt d.clk.lostAt p (fun _ => none)
    relockAt := modAt d.clk.relockAt p fun _ => d.now } }

theorem acts_lockAgain (p : Nat) (d : Dev) : Acts [.irq, .clk] (lockAgain p d) d := (acts_raise 2 1 _).trans (acts_clk d _)

/-- What ends as a PLL locks again. -/
def lockEnds (p : Nat) (r : Regs) (d : Dev) : Dev :=
  match p with
  | 0 => { d with clk := { d.clk with bclk := false } }
  | 2 => { d with clk := { d.clk with mpllHold := false } }
  | 4 => foldN 8 (fun m d => if fltOn r m then fltResettle r m d else d) d
  | _ => d

theorem pllRegained_locks (p : Nat) (r : Regs) (d : Dev) (hs : d.mde.dstate ≠ .reset) (hp : p < 8) (hl : d.clk.lock.testBit p = false)
    (hb : (bootLocks d).testBit p = true) : pllRegained p r d = lockEnds p r (lockAgain p d) := by
  have hc : ¬((d.mde.dstate == .reset) = true ∨ 8 ≤ p ∨ d.clk.lock.testBit p = true ∨ (!((bootLocks d).testBit p)) = true) := by
    simp [hs, hp, hl, hb]
  exact if_neg hc

theorem pllRegained_absent (p : Nat) (r : Regs) (d : Dev) (hb : (bootLocks d).testBit p = false) : pllRegained p r d = d := by
  have hc : (d.mde.dstate == .reset) = true ∨ 8 ≤ p ∨ d.clk.lock.testBit p = true ∨ (!((bootLocks d).testBit p)) = true := by simp [hb]
  exact if_pos hc

/-- PLLs 0 to 5 can lock just where REFCLK is there. -/
theorem bootLocks_refclk (d : Dev) (p : Nat) (hp : p < 6) : (bootLocks d).testBit p = d.clk.refOk := by
  unfold bootLocks
  cases d.clk.refOk <;> cases d.clk.serOk <;> cases d.clk.pcieOk <;> revert p <;> decide

theorem lockAgain_lock (p q : Nat) (d : Dev) : (lockAgain p d).clk.lock.testBit q = (d.clk.lock.testBit q || q == p) := by
  have h : (lockAgain p d).clk.lock = setBit d.clk.lock p true := rfl
  rw [h, testBit_setBit]
  by_cases hq : p = q
  · simp [hq]
  · simp [hq, Ne.symm hq]

theorem lockEnds_shows (p : Nat) (r : Regs) (d : Dev) (hp : p < 4) :
    ∃ b m, lockEnds p r d = { d with clk := { d.clk with bclk := b, mpllHold := m } } ∧ (p = 0 → b = false) ∧ (p = 2 → m = false) := by
  match p, hp with
  | 0, _ => exact ⟨false, d.clk.mpllHold, rfl, fun _ => rfl, fun h => absurd h (by decide)⟩
  | 1, _ => exact ⟨d.clk.bclk, d.clk.mpllHold, rfl, fun h => absurd h (by decide), fun h => absurd h (by decide)⟩
  | 2, _ => exact ⟨d.clk.bclk, false, rfl, fun h => absurd h (by decide), fun _ => rfl⟩
  | 3, _ => exact ⟨d.clk.bclk, d.clk.mpllHold, rfl, fun h => absurd h (by decide), fun h => absurd h (by decide)⟩

/-! ### The Grout -/

theorem groutStart_off (c i : Nat) (r : Regs) (d : Dev) (h : r.bit F.GRT_CFG_EN = false) : groutStart c i r d = d := by
  unfold groutStart
  refine if_neg ?_
  simp [h]

/-- A step of a class without a resource of its own starts where its conditions hold. -/
theorem groutStart_starts (c i : Nat) (r : Regs) (d : Dev) (hc : c < 6) (h2 : 2 ≤ c) (haw : d.awake = true) (hen : r.bit F.GRT_CFG_EN = true)
    (hon : grtClassOn r c = true) (hi : i < grtItems d.tw812 c) (hrun : d.grt.running = []) (hdue : grtDue r d c i = true)
    (hfree : grtFree d c i = true) (hfits : grtFits d c = true) :
    groutStart c i r d = { d with grt := { d.grt with running := [{ cls := c, item := i, step := grtDone d c i }] } } := by
  unfold groutStart
  rw [if_pos (by simp [haw, hen, hc, hon, hi, hrun, hdue, hfree, hfits]), hrun]
  match c, h2 with
  | n + 2, _ => rfl

theorem groutDone_failed (g : GrtStep) (code : Nat) (r : Regs) (d : Dev) (hrun : d.grt.running = [g]) (ha : g.again = false) :
    groutDone g.cls false code r d = { d with grt := { d.grt with running := [{ g with again := true }] } } := by
  simp [groutDone, hrun, ha]

theorem groutDone_confirmed (g : GrtStep) (code : Nat) (r : Regs) (d : Dev) (hrun : d.grt.running = [g]) (ha : g.again = true) :
    groutDone g.cls false code r d = grtFault r g.cls g.item code (dropStep g.cls d) := by
  simp [groutDone, hrun, ha]

/-- A confirmed fault noted in the Grout's state. -/
def faultNoted (c i code : Nat) (d : Dev) : Dev :=
  { d with grt := { d.grt with
    begun := d.grt.begun.filter (fun (g : Nat × Nat × Nat) => !(g.1 == c && g.2.1 == i)), carried := d.grt.carried.filter (fun x => x != (c, i))
    safOk := d.grt.safOk && c != 5, lastFault := (c, i, code % 2 ^ 16)
    classes := modAt d.grt.classes c fun (k : GrtClass) =>
      { k with faults := satInc 8 k.faults, tested := if c = 5 ∨ k.tested.contains i then k.tested else k.tested ++ [i] } } }

/-- A confirmed fault of a class without a resource of its own. -/
theorem grtFault_noted (r : Regs) (c i code : Nat) (d : Dev) (hc : 3 ≤ c) :
    grtFault r c i code d = record r .grtFault { p0 := c, p1 := 0xFF, p2 := code } (raise 0x2C 2 (faultNoted c i code d)) := by
  match c, hc with
  | n + 3, _ => rfl

theorem acts_faultTold (r : Regs) (c i code : Nat) (d : Dev) (hc : 3 ≤ c) : Acts [.irq, .evt, .irq, .grt] (grtFault r c i code d) d := by
  rw [grtFault_noted r c i code d hc]
  exact (acts_record r _ _ _).trans ((acts_raise 0x2C 2 _).trans (acts_grt d _))

theorem dropStep_only (g : GrtStep) (d : Dev) (hrun : d.grt.running = [g]) : (dropStep g.cls d).grt = { d.grt with running := [] } := by
  simp [dropStep, hrun]

/-- Items left untested at the end of a pass. -/
def passLeft (r : Regs) (d : Dev) : List (Nat × Nat) :=
  (List.range 6).flatMap fun c =>
    if grtClassOn r c then ((List.range (grtItems d.tw812 c)).filter fun i => !(grtTested d c i)).map fun i => (c, i) else []

/-- The Grout's state as a pass ends. -/
def passEnded (r : Regs) (d : Dev) : Dev :=
  { d with grt := { d.grt with
    late := !((passLeft r d).isEmpty), passes := wrapInc 16 d.grt.passes, passLen := (d.tb3 - d.grt.passAt) / nsPerSec % 2 ^ 32, passAt := d.tb3
    carried := passLeft r d, safOk := true
    classes := d.grt.classes.map fun (c : GrtClass) => { c with lastPass := c.tested.length, tested := [] } } }

/-- The report of a pass that has ended, with its coverage. -/
def passTold (r : Regs) (cov : Nat) (d : Dev) : Dev := if d.grt.late then record r .grtPass { p0 := cov } (raise 0x2C 1 d) else raise 0x2C 0 d

theorem groutPassEnd_due (r : Regs) (d : Dev) (haw : d.awake = true) (hen : r.bit F.GRT_CFG_EN = true) (ht : d.grt.passAt + grtPassNs r ≤ d.tb3) :
    groutPassEnd r d = passTold r (grtCoverage r d) (passEnded r d) := by
  unfold groutPassEnd
  exact if_pos (by simp [haw, hen, ht])

theorem passTold_grt (r : Regs) (cov : Nat) (d : Dev) : (passTold r cov d).grt = d.grt := by
  unfold passTold
  split
  · rw [record_grt, raise_grt]
  · exact raise_grt _ _ d

theorem acts_passTold (r : Regs) (cov : Nat) (d : Dev) : Acts [.irq, .evt] (passTold r cov d) d :=
  .ite (((acts_record r _ _ _).trans (acts_raise 0x2C 1 d)).mono (by decide)) ((acts_raise 0x2C 0 d).mono (by decide))

theorem passTold_bit (r : Regs) (cov : Nat) (d : Dev) (hraw : 0x2C < d.irq.raw.length) :
    (at' (passTold r cov d).irq.raw 0x2C).testBit (if d.grt.late = true then 1 else 0) = true := by
  unfold passTold
  split
  · exact (raised_record r .grtPass _ _).bit _ _ (raise_testBit_self _ _ _ hraw)
  · exact raise_testBit_self _ _ _ hraw

/-- Settles O48. -/
theorem clocksAndSelfTest : Obligations.ClocksAndSelfTest := by
  unfold Obligations.ClocksAndSelfTest
  refine ⟨fun s p hs hp h3 hl hloss hat hraw => ?_, fun s p u hs hp hl href hu hlast hat hraw => ?_, fun s p hp href hl => ?_,
    fun s hs href hraw => ?_, fun s hs hser hraw => ?_, fun s k hk hs href hraw => ?_,
    fun s c i hc h2 haw hen hon hi hrun hdue hfree hfits => ?_, fun s c i hen => ?_, fun s g code hrun ha => ?_,
    fun s g code hrun ha hc hlen hraw => ?_, fun s haw hen ht hraw => ?_⟩
  · exact pllLost_settles s p hs hp h3 hl hloss hat hraw
  · refine ⟨_, onDev_next s (pllRegained p), ?_⟩
    rw [pllRegained_locks p s.regs s.dev.quiet hs (by omega) hl ((bootLocks_refclk _ p (by omega)).trans href)]
    obtain ⟨b, m, heq, h0, h2⟩ := lockEnds_shows p s.regs (lockAgain p s.dev.quiet) hp
    rw [heq]
    have hus : outUs p s.dev.quiet = min ((s.dev.now - u) / 250) 65535 := outUs_lost p u s.dev.quiet hu
    have hact := (acts_clk (lockAgain p s.dev.quiet) { (lockAgain p s.dev.quiet).clk with bclk := b, mpllHold := m }).trans
      (acts_lockAgain p s.dev.quiet)
    refine ⟨hact.onlyParts (by decide), fun q => ?_, ?_, ?_, ?_, fun hp0 => ?_, fun hp2 => ?_⟩
    · rw [settle_clk]
      exact lockAgain_lock p q s.dev.quiet
    · rw [settle_clk, ← hus]
      exact at'_modAt_self _ _ _ hlast
    · rw [settle_clk]
      exact at'_modAt_self _ _ _ hat
    · rw [settle_raw]
      exact raise_testBit_self _ _ _ hraw
    · rw [settle_clk]
      exact h0 hp0
    · rw [settle_clk]
      exact h2 hp2
  · refine ⟨_, onDev_next s (pllRegained p), ?_⟩
    rw [pllRegained_absent p s.regs s.dev.quiet ((bootLocks_refclk _ p hp).trans href)]
    exact onlyParts_quiet _ s _
  · obtain ⟨hr, href', hser, hlock, hbit⟩ := refclkLost_unlocks 0 s.regs s.dev.quiet hs (by decide) href hraw
    refine ⟨_, onRegs_next s (refclkLost 0), hr, rfl, ?_⟩
    rw [settle_clk, settle_raw]
    refine ⟨href', hser, fun p hp => ?_, hbit⟩
    rw [hlock]
    have hin : p ∈ refPlls 0 := by
      revert p
      decide
    simp [hin]
  · obtain ⟨hr, href, hser', hlock, hbit⟩ := refclkLost_unlocks 1 s.regs s.dev.quiet hs (by decide) hser hraw
    refine ⟨_, onRegs_next s (refclkLost 1), hr, rfl, ?_⟩
    rw [settle_clk, settle_raw]
    refine ⟨hser', href, ?_, fun p hp => ?_, hbit⟩
    · rw [hlock]
      exact Bool.and_false _
    · rw [hlock]
      have hout : p ∉ refPlls 1 := by simpa [refPlls] using hp
      rw [decide_eq_true hout, Bool.and_true]
      rfl
  · refine ⟨_, onDev_next s (refclkBack k), ?_⟩
    have hc : ¬((s.dev.quiet.mde.dstate == .reset) = true ∨ 3 ≤ k ∨ refHas s.dev.quiet k = true) := by
      rw [refHas_congr (show s.dev.quiet.clk = s.dev.clk from rfl) k]
      simp [hs, hk, href]
    have heq : refclkBack k s.regs s.dev.quiet = raise 2 3 (setRef k true s.dev.quiet) := if_neg hc
    rw [heq]
    have hclk : (settle s.regs (raise 2 3 (setRef k true s.dev.quiet))).clk = (setRef k true s.dev.quiet).clk := by rw [settle_clk, raise_clk]
    have hlen : 2 < (setRef k true s.dev.quiet).irq.raw.length := by
      rw [(acts_setRef k true _).raised.length]
      exact hraw
    refine ⟨((acts_raise 2 3 _).trans (acts_setRef k true _)).onlyParts (by decide), ?_, ?_, ?_⟩
    · exact (refHas_congr hclk k).trans (refHas_setRef k true _)
    · rw [hclk]
      exact setRef_lock k true _
    · rw [settle_raw]
      exact raise_testBit_self _ _ _ hlen
  · refine ⟨_, onDev_next s (groutStart c i), ?_⟩
    rw [groutStart_starts c i s.regs s.dev.quiet hc h2 haw hen hon hi hrun hdue hfree hfits]
    exact ⟨(acts_grt _ _).onlyParts (by decide), settle_grt _ _⟩
  · refine ⟨_, onDev_next s (groutStart c i), ?_⟩
    rw [groutStart_off c i s.regs s.dev.quiet hen]
    exact onlyParts_quiet _ s _
  · refine ⟨_, onDev_next s (groutDone g.cls false code), ?_⟩
    rw [groutDone_failed g code s.regs s.dev.quiet hrun ha]
    exact ⟨(acts_grt _ _).onlyParts (by decide), settle_grt _ _⟩
  · refine ⟨_, onDev_next s (groutDone g.cls false code), ?_⟩
    rw [groutDone_confirmed g code s.regs s.dev.quiet hrun ha]
    have hdrop := dropStep_only g s.dev.quiet hrun
    have hact := (acts_faultTold s.regs g.cls g.item code (dropStep g.cls s.dev.quiet) hc).trans (acts_grt s.dev.quiet _)
    refine ⟨hact.onlyParts (by decide), ?_⟩
    rw [settle_grt, settle_raw, grtFault_noted _ _ _ _ _ hc, record_grt, raise_grt]
    refine ⟨congrArg GrtSt.running hdrop, rfl, ?_, fun h5 => ?_, ?_⟩
    · rw [← show satInc 8 (at' s.dev.grt.classes g.cls).faults = min ((at' s.dev.grt.classes g.cls).faults + 1) 255 from satInc_eq_min 8 _]
      exact congrArg GrtClass.faults (at'_modAt_self s.dev.grt.classes g.cls _ hlen)
    · show ((dropStep g.cls s.dev.quiet).grt.safOk && g.cls != 5) = false
      rw [h5]
      exact Bool.and_false _
    · exact (raised_record s.regs .grtFault _ _).bit _ _ (raise_testBit_self _ _ _ hraw)
  · refine ⟨_, onDev_next s groutPassEnd, ?_⟩
    rw [groutPassEnd_due s.regs s.dev.quiet haw hen ht]
    refine ⟨((acts_passTold s.regs _ _).trans (acts_grt s.dev.quiet _)).onlyParts (by decide), ?_⟩
    rw [settle_grt, settle_raw, passTold_grt]
    refine ⟨rfl, rfl, fun c hc => ?_, passTold_bit s.regs _ _ hraw, rfl⟩
    obtain ⟨x, -, rfl⟩ := List.mem_map.1 hc
    rfl

end Sys2Proof
end

section
/-! PROOFS. The local loops: a sample, its output's latch and a clear [11 R312 to R333, 12 R336 R337 R339]. -/

namespace Sys2Proof

open Sys2Proof.Machine

/-! ### Steps of a sample that find nothing to do -/

theorem applyClr_healthy (ch : LoopCh) (bad : Nat) (h : ch.st ≠ .fault) : ch.applyClr bad = ({ ch with clr := false }, false) := by
  unfold LoopCh.applyClr
  exact if_neg (by simp [h])

theorem applySwap_same (ch : LoopCh) (bank : Nat) (b : LoopBank) (hb : ch.bank = bank) (hs : ch.swapDue = false) :
    ch.applySwap bank b = (ch, false) := by
  unfold LoopCh.applySwap
  exact if_neg (by simp [hb, hs])

theorem takeHand_none (ch : LoopCh) (k : LoopCfg) (now : Nat) (h : ch.handed = none) : ch.takeHand k now = (ch, false) := by
  unfold LoopCh.takeHand
  rw [h]

theorem recovers_healthy (ch : LoopCh) (k : LoopCfg) (b : LoopBank) (bad : Nat) (yPrev : F32) (now : Nat) (h : ch.st ≠ .fault)
    (hopen : ch.st = .open_ → ch.cause = 0) : ch.recovers k b bad yPrev now = (ch, false) := by
  unfold LoopCh.recovers
  refine if_neg fun hc => ?_
  simp only [Bool.and_eq_true, Bool.or_eq_true, beq_iff_eq, decide_eq_true_eq] at hc
  obtain ⟨⟨hst, hcause⟩, -⟩ := hc
  have hzero := hopen (hst.resolve_left h)
  omega

theorem setRe_direct (ch : LoopCh) (k : LoopCfg) (now : Nat) (h : k.interp = false) : ch.setRe k now = { ch with re := ch.hand.r } := by
  unfold LoopCh.setRe
  exact if_neg (by simp [h])

theorem plaus_unmodelled (ch : LoopCh) (k : LoopCfg) (bad : Nat) (h : k.model = 0) : ch.plaus k bad = ch := by
  unfold LoopCh.plaus
  exact if_pos h

theorem faultsNow_fresh (ch : LoopCh) (k : LoopCfg) (hm : k.model = 0) (hn : 0 < k.plCount) : ch.faultsNow k 0 = ({ ch with stale := 0 }, {}) := by
  have hfew : ¬4 * k.plCount ≤ 0 := by omega
  simp [LoopCh.faultsNow, hm, hfew]

/-! ### A sample in RUN and in OPEN -/

/-- A channel as its law finds it, after a sample that took nothing new. -/
def readied (ch : LoopCh) : LoopCh := { ch with restart := false, takeOver := false, clr := false, re := ch.hand.r }

/-- The same channel after a fresh sample. -/
def lawReady (ch : LoopCh) : LoopCh := { readied ch with stale := 0 }

/-- A sample of a healthy channel in RUN without a plausibility model runs the control law. -/
theorem sampleOn_run (ch : LoopCh) (k : LoopCfg) (b : LoopBank) (yPrev : F32) (now : Nat) (hst : ch.st = .run) (hrestart : ch.restart = false)
    (hhanded : ch.handed = none) (hswap : ch.swapDue = false) (hinterp : k.interp = false) (hmodel : k.model = 0) (hcount : 0 < k.plCount) :
    ch.sampleOn k ch.bank b 0 yPrev now =
      (((lawReady ch).law k b yPrev).1, { sat := ((lawReady ch).law k b yPrev).2 }) := by
  simp [LoopCh.sampleOn, lawReady, readied, applyClr_healthy, applySwap_same, takeHand_none, recovers_healthy, setRe_direct, plaus_unmodelled,
    faultsNow_fresh, hst, hrestart, hhanded, hswap, hinterp, hmodel, hcount]

/-- A sample of a healthy channel in OPEN runs the open-loop law. -/
theorem sampleOn_open (ch : LoopCh) (k : LoopCfg) (b : LoopBank) (bad : Nat) (yPrev : F32) (now : Nat) (hst : ch.st = .open_) (hcause : ch.cause = 0)
    (hrestart : ch.restart = false) (hhanded : ch.handed = none) (hswap : ch.swapDue = false) (hinterp : k.interp = false) :
    ch.sampleOn k ch.bank b bad yPrev now = ((readied ch).openLaw k b, {}) := by
  simp [LoopCh.sampleOn, readied, applyClr_healthy, applySwap_same, takeHand_none, recovers_healthy, setRe_direct, hst, hcause, hrestart, hhanded,
    hswap, hinterp]

/-- Two channels are the same but for the anti-windup's flags. -/
def SameButWindup (b a : LoopCh) : Prop := ∃ aw pos, b = { a with aw := aw, awPos := pos }

/-- The anti-windup judges its own flags alone. -/
theorem antiWindup_kept (ch : LoopCh) (k : LoopCfg) (e raw : F32) : SameButWindup (ch.antiWindup k e raw) ch :=
  iteInduction (motive := (SameButWindup · ch)) (fun _ => ⟨true, ch.awPos, rfl⟩) fun _ =>
    iteInduction (motive := (SameButWindup · ch)) (fun _ => ⟨true, true, rfl⟩) fun _ =>
      iteInduction (motive := (SameButWindup · ch)) (fun _ => ⟨true, false, rfl⟩) fun _ => ⟨false, ch.awPos, rfl⟩

/-- The control law without wrap: y and the state stay, u and the derivative are as 11 R321 gives them. -/
theorem law_shows (ch : LoopCh) (k : LoopCfg) (b : LoopBank) (yPrev : F32) (hwrap : k.wrap = false) :
    let a := if b.tf.isZero = true then F32.zero else b.tf.div (b.tf.add k.ts)
    let d := (a.mul ch.d).sub ((((F32.one.sub a).mul b.kd).mul (ch.y.sub yPrev)).div k.ts)
    let raw := (((b.kp.mul (ch.re.sub ch.y)).add ch.i).add d).add ((b.kff.mul ch.hand.ff).add (b.kv.mul ch.hand.rd))
    (ch.law k b yPrev).1.y = ch.y ∧ (ch.law k b yPrev).1.u = k.rateLimit (raw.clamp k.outMin k.outMax) ch.u ∧ (ch.law k b yPrev).1.d = d ∧
      (ch.law k b yPrev).1.st = ch.st ∧ (ch.law k b yPrev).1.drive = true := by
  have hterms : ch.terms k b yPrev = (ch.re.sub ch.y, b.kp.mul (ch.re.sub ch.y),
      ((if b.tf.isZero = true then F32.zero else b.tf.div (b.tf.add k.ts)).mul ch.d).sub
        ((((F32.one.sub (if b.tf.isZero = true then F32.zero else b.tf.div (b.tf.add k.ts))).mul b.kd).mul (ch.y.sub yPrev)).div k.ts),
      (b.kff.mul ch.hand.ff).add (b.kv.mul ch.hand.rd)) := by
    simp [LoopCh.terms, hwrap]
  intro a d raw
  obtain ⟨aw, pos, haw⟩ := antiWindup_kept ch k (ch.re.sub ch.y) raw
  unfold LoopCh.law
  rw [hterms]
  dsimp only
  rw [haw]
  dsimp only
  split
  · exact ⟨rfl, rfl, rfl, rfl, rfl⟩
  · exact ⟨rfl, rfl, rfl, rfl, rfl⟩

/-! ### Samples in OFF -/

theorem applySwap_kept (ch : LoopCh) (bank : Nat) (b : LoopBank) :
    (ch.applySwap bank b).1.st = ch.st ∧ (ch.applySwap bank b).1.drive = ch.drive ∧ (ch.applySwap bank b).1.u = ch.u := by
  unfold LoopCh.applySwap
  dsimp only
  split
  · exact ⟨rfl, rfl, rfl⟩
  · exact ⟨rfl, rfl, rfl⟩

theorem takeHand_kept (ch : LoopCh) (k : LoopCfg) (now : Nat) :
    (ch.takeHand k now).1.st = ch.st ∧ (ch.takeHand k now).1.drive = ch.drive ∧ (ch.takeHand k now).1.u = ch.u := by
  unfold LoopCh.takeHand
  split
  · exact ⟨rfl, rfl, rfl⟩
  · exact ⟨rfl, rfl, rfl⟩

/-- A channel sampled in OFF: off, with no drive, and its output 0 unless a standby keeps it. -/
theorem sampleOff_shows (ch : LoopCh) (k : LoopCfg) (bank : Nat) (b : LoopBank) (keep : Bool) (now : Nat) :
    (ch.sampleOff k bank b keep now).1.st = .off ∧ (ch.sampleOff k bank b keep now).1.drive = false ∧
      (keep = false → (ch.sampleOff k bank b keep now).1.u = F32.zero) := by
  have hoff : (ch.turnOff keep).st = .off ∧ (ch.turnOff keep).drive = false ∧ (keep = false → (ch.turnOff keep).u = F32.zero) := by
    cases keep
    · exact ⟨rfl, rfl, fun _ => rfl⟩
    · exact ⟨rfl, rfl, fun h => absurd h (by decide)⟩
  obtain ⟨hst, hdrive, hu⟩ := hoff
  obtain ⟨hst2, hdrive2, hu2⟩ := applySwap_kept (ch.turnOff keep) bank b
  obtain ⟨hst3, hdrive3, hu3⟩ := takeHand_kept ((ch.turnOff keep).applySwap bank b).1 k now
  exact ⟨hst3.trans (hst2.trans hst), hdrive3.trans (hdrive2.trans hdrive), fun h => hu3.trans (hu2.trans (hu h))⟩

/-! ### The commits of a sample -/

/-- The registers with a channel's own commits and coefficients in force. -/
def ownCommits (c : Nat) (r : Regs) (d : Dev) : Regs := (applyCommit r 0x13 fun k => decide (keyIdx k = c)).1.apply (d.loop c).coefWait keyReset

/-- The commits of the output that a channel drives. -/
def outCommits (c : Nat) (r : Regs) (d : Dev) : Regs × Dev :=
  let port := r.at F.LOP_CH_CFG_OUT_PORT c
  match r.at F.LOP_CH_CFG_OUT_KIND c with
  | 0 => ((applyCommit r 0x14 fun k => decide (keyIdx k = port)).1, d)
  | 1 => ((applyCommit r 0x14 fun k => decide (keyIdx k = 16 + port)).1, d)
  | 2 =>
    let (r, l) := applyCommit r 0x15 fun k => decide (keyIdx k = port)
    if l.isEmpty then (r, d) else pfgApplied port l r d
  | _ => (r, d)

/-- The commits of the quadrature port that a channel reads. -/
def fbCommits (c : Nat) (r : Regs) (d : Dev) : Regs × Dev :=
  if r.at F.LOP_CH_CFG_FB_SRC c = 2 then
    let q := r.at F.LOP_CH_CFG_FB_PORT c
    let (r, l) := applyCommit r 0x16 (keyInWin 0x64 0x80 q)
    if l.isEmpty then (r, d) else qdApplied q r d
  else (r, d)

/-- A channel whose waiting coefficients have come into force. -/
def coefTaken (c : Nat) (d : Dev) : Dev := modLop c (fun ch => { ch with coefWait := [] }) d

theorem loopCommits_eq (c : Nat) (r : Regs) (d : Dev) :
    loopCommits c r d = fbCommits c (outCommits c (ownCommits c r d) (coefTaken c d)).1 (outCommits c (ownCommits c r d) (coefTaken c d)).2 := rfl

theorem applyCommit_none (r : Regs) (p : Nat) (sel : Nat → Bool) (h : (r.head p).pend = false) : applyCommit r p sel = (r, []) := by
  unfold applyCommit
  exact if_neg (by simp [h])

/-- With nothing pending a sample's commits change nothing but the list of waiting coefficients. -/
theorem loopCommits_none (c : Nat) (r : Regs) (d : Dev) (h : ∀ p, (r.head p).pend = false) (hw : (d.loop c).coefWait = []) :
    loopCommits c r d = (r, coefTaken c d) := by
  have hown : ownCommits c r d = r := by
    unfold ownCommits
    rw [applyCommit_none r _ _ (h 0x13), hw]
    rfl
  have hout : outCommits c r (coefTaken c d) = (r, coefTaken c d) := by
    unfold outCommits
    simp only [applyCommit_none r _ _ (h _), List.isEmpty_nil, if_true]
    split <;> rfl
  have hfb : fbCommits c r (coefTaken c d) = (r, coefTaken c d) := by
    unfold fbCommits
    simp only [applyCommit_none r _ _ (h _), List.isEmpty_nil, if_true, ite_self]
  rw [loopCommits_eq, hown, hout, hfb]

/-- The parts that a sample's commits can act on. -/
def sampleParts : List Part := [.irq, .lop, .pfg, .enc, .dio, .evt, .pair]

theorem acts_moveTo (r : Regs) (i : Nat) (t : Int) (d : Dev) : Acts [.pfg] (moveTo r i t d) d := by
  have hmod (f : StepAxis → StepAxis) (a : Dev) : Acts [.pfg] (modAxis i f a) a := acts_pfg a _
  exact .when (.ite (hmod _ d) ((Acts.ite (hmod _ _) (.ite (hmod _ _) (hmod _ _))).also (hmod _ d)))

theorem acts_dioDriven (r : Regs) (d : Dev) : Acts [.dio] (dioDrive r d) d := (within_dioDrive r d).acts (by decide)

theorem acts_dioFuncSet (r : Regs) (n : Nat) (b : Bool) (d : Dev) : Acts [.dio] (dioFunc r n b d) d := (within_dioFunc r n b d).acts (by decide)

theorem acts_axisFire (r : Regs) (i : Nat) (d : Dev) : Acts [.irq, .pfg, .dio] (axisFire r i d) d :=
  ((Acts.when (acts_dioFuncSet r _ true _)).trans ((acts_raise 0x15 6 _).trans (acts_pfg d _))).mono (by decide)

theorem acts_qdFire (r : Regs) (i : Nat) (d : Dev) : Acts [.irq, .enc, .dio] (qdFire r i d) d :=
  ((Acts.when (acts_dioFuncSet r _ true _)).trans ((acts_raise 0x16 5 _).trans ((within_enc d _).acts (by decide)))).mono (by decide)

theorem acts_pfgApplied (i : Nat) (keys : List (Nat × Nat)) (r : Regs) (d : Dev) : Acts [.irq, .pfg, .dio] (pfgApplied i keys r d).2 d := by
  have hmove : Acts [.irq, .pfg, .dio] (if hasField keys F.PFG_TARGET_TARGET i then moveTo r i (r.int F.PFG_TARGET_TARGET i) d else d) d :=
    .when ((acts_moveTo r i _ d).mono (by decide))
  unfold pfgApplied
  dsimp only
  generalize (if hasField keys F.PFG_TARGET_TARGET i then moveTo r i (r.int F.PFG_TARGET_TARGET i) d else d) = a at hmove ⊢
  split
  · exact (((acts_dioDriven r _).mono (by decide)).also ((Acts.when (acts_axisFire r i _)).also ((acts_pfg a _).mono (by decide)))).also hmove
  · exact ((acts_dioDriven r a).mono (by decide)).also hmove

theorem acts_qdApplied (i : Nat) (r : Regs) (d : Dev) : Acts [.irq, .enc, .dio] (qdApplied i r d).2 d := by
  unfold qdApplied
  dsimp only
  split
  · exact ((acts_dioDriven r _).mono (by decide)).also ((Acts.when (acts_qdFire r i _)).also (((within_enc d _).acts (by decide)).mono (by decide)))
  · exact (acts_dioDriven r d).mono (by decide)

theorem acts_outCommits (c : Nat) (r : Regs) (d : Dev) : Acts [.irq, .pfg, .dio] (outCommits c r d).2 d := by
  unfold outCommits
  dsimp only
  split
  · exact .refl _ d
  · exact .refl _ d
  · split
    · exact .refl _ d
    · exact acts_pfgApplied _ _ _ d
  · exact .refl _ d

theorem acts_fbCommits (c : Nat) (r : Regs) (d : Dev) : Acts [.irq, .enc, .dio] (fbCommits c r d).2 d := by
  unfold fbCommits
  dsimp only
  split
  · split
    · exact .refl _ d
    · exact acts_qdApplied _ _ d
  · exact .refl _ d

theorem acts_commitsAfter (c : Nat) (r : Regs) (d : Dev) : Acts [.irq, .enc, .dio, .irq, .pfg, .dio] (loopCommits c r d).2 (coefTaken c d) := by
  rw [loopCommits_eq]
  exact (acts_fbCommits c _ _).trans (acts_outCommits c _ _)

theorem acts_loopCommits (c : Nat) (r : Regs) (d : Dev) : Acts sampleParts (loopCommits c r d).2 d :=
  ((acts_commitsAfter c r d).trans (acts_modLop c _ d)).mono (by decide)

theorem coefTaken_loop (c : Nat) (d : Dev) (h : c < d.lop.ch.length) : (coefTaken c d).loop c = { d.loop c with coefWait := [] } :=
  at'_modAt_self d.lop.ch c _ h

theorem loop_of_lop {b a : Dev} (h : b.lop = a.lop) (c : Nat) : b.loop c = a.loop c := congrArg (fun l : LopSt => at' l.ch c) h

theorem loopCommits_lop (c : Nat) (r : Regs) (d : Dev) : (loopCommits c r d).2.lop = (coefTaken c d).lop :=
  (acts_commitsAfter c r d).agree .lop (by decide)

/-! ### The sample itself -/

/-- A channel with its feedback read, and the staleness cause. -/
def fbRead (c : Nat) (r : Regs) (d : Dev) : LoopCh × Nat := (d.loop c).feedback r c (loopCfg r c) (loopPort r d c)

/-- The request that a sample makes of the SSI port it reads. -/
def ssiAsked (c : Nat) (r : Regs) (d : Dev) : Dev :=
  if (loopCfg r c).src = 1 ∧ boundFb r 1 (r.at F.LOP_CH_CFG_FB_PORT c) = some c then ssiAsk r (r.at F.LOP_CH_CFG_FB_PORT c) d else d

/-- What a sample makes of its channel, and what it raises. -/
def channelSampled (c : Nat) (r : Regs) (x : LoopCh × Nat) (yPrev : F32) (d : Dev) : LoopCh × LoopEv :=
  let bank := r.at F.LOP_CH_CTL_BANK c
  if d.loopsOn then x.1.sampleOn (loopCfg r c) bank (loopBank r c bank) x.2 yPrev d.now
  else x.1.sampleOff (loopCfg r c) bank (loopBank r c bank) (d.running && !(d.commands)) d.now

/-- A sampled channel with its latch awaited, where it was or is on. -/
def awaited (was ch : LoopCh) (now : Nat) : LoopCh := if !(was.st == .off) || !(ch.st == .off) then { ch with pend := some (now + 500) } else ch

/-- A sampled channel put back, with what the sample raises and records. -/
def samplePut (c : Nat) (r : Regs) (was ch : LoopCh) (e : LoopEv) (d : Dev) : Dev :=
  let ch := awaited was ch d.now
  loopReport r c ch e (modLop c (fun _ => ch)
    (onlyIf (ch.st == .fault && was.st != .fault && !((at' d.pair.takeLoops c).st == .fault)) checkFail d))

theorem loopRun_eq (c : Nat) (r : Regs) (d : Dev) :
    loopRun c r d = samplePut c r (d.loop c) (channelSampled c r (fbRead c r d) (d.loop c).y (ssiAsked c r d)).1
      (channelSampled c r (fbRead c r d) (d.loop c).y (ssiAsked c r d)).2 (ssiAsked c r d) := rfl

theorem loopSample_due (c : Nat) (r : Regs) (d : Dev) (h : loopDue r d c = true) :
    loopSample c r d = ((loopCommits c r d).1, loopRun c (loopCommits c r d).1 (loopCommits c r d).2) := if_pos h

theorem loopSample_early (c : Nat) (r : Regs) (d : Dev) (h : loopDue r d c = false) : loopSample c r d = (r, d) := if_neg (by simp [h])

/-- What a sample raises. -/
def loopTold (e : LoopEv) (d : Dev) : Dev :=
  raiseIf e.spClamp 0x13 7 (raiseIf e.openLoop 0x13 6 (raiseIf e.sat 0x13 5 (raiseIf e.rampDone 0x13 4
    (raiseIf e.swapped 0x13 3 (raiseIf e.recover 0x13 2 (raiseIf e.plaus 0x13 1 (raiseIf e.fbFault 0x13 0 d)))))))

theorem acts_loopTold (e : LoopEv) (d : Dev) : Acts [.irq] (loopTold e d) d :=
  (acts_raiseIf _ 0x13 7 _).also ((acts_raiseIf _ 0x13 6 _).also ((acts_raiseIf _ 0x13 5 _).also ((acts_raiseIf _ 0x13 4 _).also
    ((acts_raiseIf _ 0x13 3 _).also ((acts_raiseIf _ 0x13 2 _).also ((acts_raiseIf _ 0x13 1 _).also (acts_raiseIf _ 0x13 0 d)))))))

theorem loopReport_eq (r : Regs) (c : Nat) (ch : LoopCh) (e : LoopEv) (d : Dev) :
    loopReport r c ch e d = (fun a => if e.fbFault || e.plaus then record r .loopFault { p0 := c, p1 := ch.cause } a else a)
      (if e.swapped then record r .loopSwap { p0 := c, p1 := ch.bank } (loopTold e d) else loopTold e d) := rfl

theorem acts_loopReport (r : Regs) (c : Nat) (ch : LoopCh) (e : LoopEv) (d : Dev) : Acts [.irq, .evt] (loopReport r c ch e d) d := by
  rw [loopReport_eq]
  exact (Acts.when (acts_record r _ _ _)).also ((Acts.when (acts_record r _ _ _)).also ((acts_loopTold e d).mono (by decide)))

/-- A sample that swapped nothing and found no fault raises bits alone. -/
theorem acts_loopReport_unrecorded (r : Regs) (c : Nat) (ch : LoopCh) (e : LoopEv) (d : Dev) (hs : e.swapped = false) (hf : e.fbFault = false)
    (hp : e.plaus = false) : Acts [.irq] (loopReport r c ch e d) d := by
  have heq : loopReport r c ch e d = loopTold e d := by
    rw [loopReport_eq]
    simp [hs, hf, hp]
  rw [heq]
  exact acts_loopTold e d

theorem acts_checkFail (d : Dev) : Acts [.pair] (checkFail d) d := .when (acts_pair d _)

theorem checkedFail_lop (c : Bool) (d : Dev) : (onlyIf c checkFail d).lop = d.lop :=
  (Acts.when (c := c = true) (acts_checkFail d)).agree .lop (by decide)

theorem acts_ssiAsk (r : Regs) (i : Nat) (d : Dev) : Acts [.enc] (ssiAsk r i d) d := by
  have hmod (f : SsiPort → SsiPort) : Acts [.enc] (modSsi i f d) d := (within_enc d _).acts (by decide)
  exact .unless (.ite (hmod _) (hmod _))

theorem acts_ssiAsked (c : Nat) (r : Regs) (d : Dev) : Acts [.enc] (ssiAsked c r d) d := .when (acts_ssiAsk r _ d)

theorem acts_samplePut (c : Nat) (r : Regs) (was ch : LoopCh) (e : LoopEv) (d : Dev) : Acts [.irq, .evt, .lop, .pair] (samplePut c r was ch e d) d :=
  (acts_loopReport r c _ e _).trans ((acts_modLop c _ _).trans (Acts.when (acts_checkFail d)))

theorem samplePut_lop (c : Nat) (r : Regs) (was ch : LoopCh) (e : LoopEv) (d : Dev) :
    (samplePut c r was ch e d).lop = { d.lop with ch := modAt d.lop.ch c fun _ => awaited was ch d.now } := by
  unfold samplePut
  rw [(acts_loopReport r c _ e _).agree .lop (by decide), modLop_lop, checkedFail_lop]

/-- A sample of a channel that stays healthy, with nothing swapped, acts on its channel alone. -/
theorem acts_samplePut_healthy (c : Nat) (r : Regs) (was ch : LoopCh) (e : LoopEv) (d : Dev) (hst : ch.st ≠ .fault) (hs : e.swapped = false)
    (hf : e.fbFault = false) (hp : e.plaus = false) : Acts [.irq, .lop] (samplePut c r was ch e d) d := by
  have hast : (awaited was ch d.now).st = ch.st := by
    unfold awaited
    split <;> rfl
  have hno : onlyIf ((awaited was ch d.now).st == .fault && was.st != .fault && !((at' d.pair.takeLoops c).st == .fault)) checkFail d = d :=
    if_neg (by simp [hast, hst])
  unfold samplePut
  dsimp only
  rw [hno]
  exact (acts_loopReport_unrecorded r c _ e _ hs hf hp).trans (acts_modLop c _ d)

theorem loopsOn_of_parts {a b : Dev} (hm : a.mde = b.mde) (hp : a.pair = b.pair) (hc : a.cfg = b.cfg) :
    a.loopsOn = b.loopsOn ∧ a.running = b.running ∧ a.commands = b.commands := by
  simp only [Dev.loopsOn, Dev.commands, Dev.running, Dev.single, Dev.descr, Dev.isPrimary, hm, hp, hc]
  trivial

/-- The channel of a sample that put it back. -/
theorem samplePut_loop (c : Nat) (r : Regs) (was ch : LoopCh) (e : LoopEv) (d : Dev) (hlen : c < d.lop.ch.length) :
    (samplePut c r was ch e d).loop c = awaited was ch d.now := by
  rw [Dev.loop, samplePut_lop]
  exact at'_modAt_self d.lop.ch c _ hlen

theorem samplePut_loop_other (c j : Nat) (r : Regs) (was ch : LoopCh) (e : LoopEv) (d : Dev) (hj : j ≠ c) :
    (samplePut c r was ch e d).loop j = d.loop j := by
  rw [Dev.loop, samplePut_lop]
  exact at'_modAt_other d.lop.ch c j _ hj.symm

theorem awaited_shows (was ch : LoopCh) (now : Nat) :
    (awaited was ch now).st = ch.st ∧ (awaited was ch now).drive = ch.drive ∧ (awaited was ch now).u = ch.u ∧ (awaited was ch now).y = ch.y ∧
      (awaited was ch now).d = ch.d := by
  unfold awaited
  split
  · exact ⟨rfl, rfl, rfl, rfl, rfl⟩
  · exact ⟨rfl, rfl, rfl, rfl, rfl⟩

theorem awaited_pend (was ch : LoopCh) (now : Nat) (h : was.st ≠ .off) : (awaited was ch now).pend = some (now + 500) := by
  unfold awaited
  rw [if_pos (by simp [h])]

/-- A sample of a channel while the loops are off. -/
theorem loopRun_off (c : Nat) (r : Regs) (d : Dev) (hoff : d.loopsOn = false) (hlen : c < d.lop.ch.length) :
    Acts [.irq, .evt, .lop, .pair, .enc] (loopRun c r d) d ∧ ((loopRun c r d).loop c).st = .off ∧ ((loopRun c r d).loop c).drive = false ∧
      ((d.loop c).st ≠ .off → ((loopRun c r d).loop c).pend = some (d.now + 500)) ∧
      ((d.running && !d.commands) = false → ((loopRun c r d).loop c).u = F32.zero) := by
  rw [loopRun_eq]
  have hask := acts_ssiAsked c r d
  have hlop : (ssiAsked c r d).lop = d.lop := hask.agree .lop (by decide)
  obtain ⟨hon, hrun, hcom⟩ := loopsOn_of_parts (hask.agree .mde (by decide)) (hask.agree .pair (by decide)) (hask.agree .cfg (by decide))
  have hnow : (ssiAsked c r d).now = d.now := hask.within.now
  generalize ssiAsked c r d = a at hask hlop hon hrun hcom hnow ⊢
  have hoffs : channelSampled c r (fbRead c r d) (d.loop c).y a = (fbRead c r d).1.sampleOff (loopCfg r c) (r.at F.LOP_CH_CTL_BANK c)
      (loopBank r c (r.at F.LOP_CH_CTL_BANK c)) (a.running && !(a.commands)) a.now := if_neg (by simp [hon, hoff])
  obtain ⟨hst, hdrive, hu⟩ := sampleOff_shows (fbRead c r d).1 (loopCfg r c) (r.at F.LOP_CH_CTL_BANK c) (loopBank r c (r.at F.LOP_CH_CTL_BANK c))
    (a.running && !(a.commands)) a.now
  rw [← hoffs] at hst hdrive hu
  rw [hrun, hcom] at hu
  generalize channelSampled c r (fbRead c r d) (d.loop c).y a = x at hst hdrive hu ⊢
  rw [samplePut_loop c r _ _ _ a (by rw [hlop]; exact hlen)]
  obtain ⟨hst2, hdrive2, hu2, -, -⟩ := awaited_shows (d.loop c) x.1 a.now
  refine ⟨((acts_samplePut c r _ _ _ a).trans hask).mono (by decide), hst2.trans hst, hdrive2.trans hdrive, fun h => ?_, fun h => hu2.trans (hu h)⟩
  rw [awaited_pend _ _ _ h, hnow]

/-- A sample of a channel with its commits, while the loops are off. -/
theorem loopSample_off (c : Nat) (r : Regs) (d : Dev) (h : loopDue r d c = true) (hoff : d.loopsOn = false) (hlen : c < d.lop.ch.length) :
    Acts sampleParts (loopSample c r d).2 d ∧ ((loopSample c r d).2.loop c).st = .off ∧ ((loopSample c r d).2.loop c).drive = false ∧
      ((d.loop c).st ≠ .off → ((loopSample c r d).2.loop c).pend = some (d.now + 500)) ∧
      ((d.running && !d.commands) = false → ((loopSample c r d).2.loop c).u = F32.zero) := by
  rw [loopSample_due c r d h]
  dsimp only
  have hcommit := acts_loopCommits c r d
  have hlop := loopCommits_lop c r d
  have hpair : (loopCommits c r d).2.pair = d.pair := ((acts_commitsAfter c r d).trans (acts_modLop c _ d)).agree .pair (by decide)
  generalize (loopCommits c r d).1 = r1
  generalize (loopCommits c r d).2 = a at hcommit hlop hpair ⊢
  have hloop := (loop_of_lop hlop c).trans (coefTaken_loop c d hlen)
  have hst : (a.loop c).st = (d.loop c).st := by rw [hloop]
  have hlen2 : c < a.lop.ch.length := by
    rw [hlop]
    exact (modAt_length _ _ _).symm ▸ hlen
  obtain ⟨hon, hrun, hcom⟩ := loopsOn_of_parts (hcommit.agree .mde (by decide)) hpair (hcommit.agree .cfg (by decide))
  obtain ⟨hact, hshow⟩ := loopRun_off c r1 a (hon.trans hoff) hlen2
  rw [hst, hrun, hcom, hcommit.within.now] at hshow
  exact ⟨(hact.trans hcommit).mono (by decide), hshow⟩

/-- The settings and the state that let a sample on its instant run its law with nothing new to take. -/
structure PlainSample (c : Nat) (r : Regs) (d : Dev) : Prop where
  due : loopDue r d c = true
  on : d.loopsOn = true
  there : c < d.lop.ch.length
  still : ∀ p, (r.head p).pend = false
  coef : (d.loop c).coefWait = []
  restart : (d.loop c).restart = false
  handed : (d.loop c).handed = none
  swap : (d.loop c).swapDue = false
  bank : (d.loop c).bank = r.at F.LOP_CH_CTL_BANK c
  direct : r.bit F.LOP_CH_CFG_SP_INTERP c = false
  noSsi : r.at F.LOP_CH_CFG_FB_SRC c ≠ 1

theorem PlainSample.loop_coefTaken {c : Nat} {r : Regs} {d : Dev} (h : PlainSample c r d) : (coefTaken c d).loop c = d.loop c := by
  rw [coefTaken_loop c d h.there, ← h.coef]

/-- A sample with nothing new to take puts back what the law makes of its channel. -/
theorem PlainSample.sample_eq {c : Nat} {r : Regs} {d : Dev} (h : PlainSample c r d) :
    loopSample c r d = (r, samplePut c r (d.loop c) (channelSampled c r (fbRead c r (coefTaken c d)) (d.loop c).y (coefTaken c d)).1
      (channelSampled c r (fbRead c r (coefTaken c d)) (d.loop c).y (coefTaken c d)).2 (coefTaken c d)) := by
  have hloop := h.loop_coefTaken
  have hask : ssiAsked c r (coefTaken c d) = coefTaken c d := if_neg fun hc => h.noSsi hc.1
  rw [loopSample_due c r d h.due, loopCommits_none c r d h.still h.coef]
  dsimp only
  rw [loopRun_eq, hask, hloop]

theorem coefTaken_loop_other (c j : Nat) (d : Dev) (h : j ≠ c) : (coefTaken c d).loop j = d.loop j := at'_modAt_other d.lop.ch c j _ h.symm

/-- What a plain sample shows of a channel that its law leaves healthy as `ch`. -/
theorem PlainSample.shows {c : Nat} {r : Regs} {d : Dev} (h : PlainSample c r d) {ch : LoopCh} {e : LoopEv}
    (hx : channelSampled c r (fbRead c r (coefTaken c d)) (d.loop c).y (coefTaken c d) = (ch, e)) (hwas : (d.loop c).st ≠ .off)
    (hst : ch.st ≠ .fault) (hs : e.swapped = false) (hf : e.fbFault = false) (hp : e.plaus = false) :
    ∃ b, loopSample c r d = (r, b) ∧ Acts [.irq, .lop, .lop] b d ∧ (b.loop c).pend = some (d.now + 500) ∧ (∀ j, j ≠ c → b.loop j = d.loop j) ∧
      (b.loop c).st = ch.st ∧ (b.loop c).drive = ch.drive ∧ (b.loop c).u = ch.u ∧ (b.loop c).y = ch.y ∧ (b.loop c).d = ch.d := by
  refine ⟨_, h.sample_eq, ?_⟩
  rw [hx]
  have hlen : c < (coefTaken c d).lop.ch.length := (modAt_length _ _ _).symm ▸ h.there
  refine ⟨(acts_samplePut_healthy c r _ ch e _ hst hs hf hp).trans (acts_modLop c _ d), ?_, fun j hj => ?_, ?_⟩
  · rw [samplePut_loop c r _ _ _ _ hlen]
    exact awaited_pend _ _ _ hwas
  · exact (samplePut_loop_other c j r _ _ _ _ hj).trans (coefTaken_loop_other c j d hj)
  · rw [samplePut_loop c r _ _ _ _ hlen]
    exact awaited_shows _ _ _

theorem channelSampled_on (c : Nat) (r : Regs) (x : LoopCh × Nat) (yPrev : F32) (d : Dev) (h : d.loopsOn = true) :
    channelSampled c r x yPrev d = x.1.sampleOn (loopCfg r c) (r.at F.LOP_CH_CTL_BANK c) (loopBank r c (r.at F.LOP_CH_CTL_BANK c)) x.2 yPrev d.now :=
  if_pos h

/-- The value of a quadrature port without a fault. -/
theorem loopPort_quad (c : Nat) (r : Regs) (d : Dev) (hsrc : r.at F.LOP_CH_CFG_FB_SRC c = 2) (hf : (d.qd (r.at F.LOP_CH_CFG_FB_PORT c)).fault = false) :
    loopPort r d c = { raw := F32.ofInt (d.qd (r.at F.LOP_CH_CFG_FB_PORT c)).count, stale := false, fault := false } := by
  unfold loopPort
  simp only [hsrc, hf]

/-- A feedback value scaled to the channel's units. -/
def scaledFb (r : Regs) (c : Nat) (raw : F32) : F32 := ((r.f32 F.LOP_FB_SCALE_V c).mul raw).add (r.f32 F.LOP_FB_OFFSET_V c)

/-- A channel with its feedback read. -/
def fedBack (ch : LoopCh) (y g f : F32) (p : Option F32) : LoopCh := { ch with y := y, good := g, scaledPrev := p, diffF := f }

/-- A fresh feedback in range, neither differentiated nor wrapped, is y. -/
theorem feedback_direct (ch : LoopCh) (r : Regs) (c : Nat) (k : LoopCfg) (raw : F32) (hsrc : k.src ≠ 0) (hwrap : k.wrap = false)
    (hdiff : r.bit F.LOP_CH_CFG_FB_DIFF c = false) (hmin : (scaledFb r c raw).lt (r.f32 F.LOP_FB_MIN_V c) = false)
    (hmax : (r.f32 F.LOP_FB_MAX_V c).lt (scaledFb r c raw) = false) :
    ∃ g f p, ch.feedback r c k { raw := raw, stale := false, fault := false } = (fedBack ch (scaledFb r c raw) g f p, 0) := by
  unfold scaledFb at hmin hmax
  simp only [LoopCh.feedback, scaledFb, hsrc, hwrap, hdiff, hmin, hmax, Bool.or_false, Bool.false_eq_true, if_false, Bool.false_and]
  exact ⟨_, _, _, rfl⟩

theorem feedback_absent (ch : LoopCh) (r : Regs) (c : Nat) (k : LoopCfg) (v : PortVal) (hsrc : k.src = 0) : ch.feedback r c k v = (ch, 0) := by
  unfold LoopCh.feedback
  dsimp only
  exact if_pos hsrc

/-- The feedback of a plain sample from a quadrature port. -/
theorem PlainSample.fbRead_quad {c : Nat} {r : Regs} {d : Dev} (h : PlainSample c r d) (hsrc : r.at F.LOP_CH_CFG_FB_SRC c = 2)
    (hdiff : r.bit F.LOP_CH_CFG_FB_DIFF c = false) (hwrap : r.bit F.LOP_CH_CFG_WRAP c = false)
    (hf : (d.qd (r.at F.LOP_CH_CFG_FB_PORT c)).fault = false)
    (hmin : (scaledFb r c (F32.ofInt (d.qd (r.at F.LOP_CH_CFG_FB_PORT c)).count)).lt (r.f32 F.LOP_FB_MIN_V c) = false)
    (hmax : (r.f32 F.LOP_FB_MAX_V c).lt (scaledFb r c (F32.ofInt (d.qd (r.at F.LOP_CH_CFG_FB_PORT c)).count)) = false) :
    ∃ g f p, fbRead c r (coefTaken c d) = (fedBack (d.loop c) (scaledFb r c (F32.ofInt (d.qd (r.at F.LOP_CH_CFG_FB_PORT c)).count)) g f p, 0) := by
  have hk : (loopCfg r c).src ≠ 0 := by
    show r.at F.LOP_CH_CFG_FB_SRC c ≠ 0
    omega
  unfold fbRead
  rw [h.loop_coefTaken, loopPort_quad c r (coefTaken c d) hsrc hf]
  exact feedback_direct (d.loop c) r c (loopCfg r c) _ hk hwrap hdiff hmin hmax

/-- A plain sample in RUN runs the control law on what it read. -/
theorem PlainSample.sampled_run {c : Nat} {r : Regs} {d : Dev} (h : PlainSample c r d) (hst : (d.loop c).st = .run)
    (hmodel : r.at F.LOP_CH_CFG_PL_MODEL c = 0) (hcount : 0 < r.at F.LOP_PL_CNT_PL_COUNT c) {y g f : F32} {p : Option F32}
    (hfb : fbRead c r (coefTaken c d) = (fedBack (d.loop c) y g f p, 0)) :
    ∃ e, channelSampled c r (fbRead c r (coefTaken c d)) (d.loop c).y (coefTaken c d) =
      (((lawReady (fedBack (d.loop c) y g f p)).law (loopCfg r c) (loopBank r c (d.loop c).bank) (d.loop c).y).1, { sat := e }) := by
  rw [channelSampled_on c r _ _ (coefTaken c d) h.on, hfb, ← h.bank]
  exact ⟨_, sampleOn_run (fedBack (d.loop c) y g f p) (loopCfg r c) _ _ _ hst h.restart h.handed h.swap h.direct hmodel hcount⟩

/-- A plain sample in OPEN without feedback runs the open-loop law. -/
theorem PlainSample.sampled_open {c : Nat} {r : Regs} {d : Dev} (h : PlainSample c r d) (hst : (d.loop c).st = .open_) (hcause : (d.loop c).cause = 0)
    (hsrc : r.at F.LOP_CH_CFG_FB_SRC c = 0) :
    channelSampled c r (fbRead c r (coefTaken c d)) (d.loop c).y (coefTaken c d) =
      ((readied (d.loop c)).openLaw (loopCfg r c) (loopBank r c (d.loop c).bank), {}) := by
  have hfb : fbRead c r (coefTaken c d) = (d.loop c, 0) := by
    unfold fbRead
    rw [h.loop_coefTaken]
    exact feedback_absent (d.loop c) r c (loopCfg r c) _ hsrc
  rw [channelSampled_on c r _ _ (coefTaken c d) h.on, hfb, ← h.bank]
  exact sampleOn_open (d.loop c) (loopCfg r c) _ 0 _ _ hst hcause h.restart h.handed h.swap h.direct

/-! ### The latch -/

/-- The pin that a latched output drives. -/
def latchShown (c : Nat) (d : Dev) : Dev := if (d.loop c).drive && d.outsOn then emit (.latch c (d.loop c).u) d else d

theorem acts_latchShown (c : Nat) (d : Dev) : Acts [] (latchShown c d) d := .when (acts_emit _ d)

/-- A channel whose latch has come. -/
def latchTaken (c : Nat) (d : Dev) : Dev := modLop c (fun ch => { ch with pend := none }) d

theorem outputLatch_due (c u : Nat) (r : Regs) (d : Dev) (hc : c < 32) (hp : (d.loop c).pend = some u) (ht : u ≤ d.now) :
    outputLatch c r d = latchShown c (latchOut r c (latchTaken c d)) := by
  unfold outputLatch
  rw [hp]
  exact if_pos ⟨ht, hc⟩

theorem loop_of_pend (d : Dev) (c u : Nat) (h : (d.loop c).pend = some u) : c < d.lop.ch.length := by
  by_contra hn
  rw [Dev.loop, at'_of_length_le _ _ (by omega)] at h
  exact absurd h (by simp [show (default : LoopCh).pend = none from rfl])

theorem latchTaken_loop (c : Nat) (d : Dev) (h : c < d.lop.ch.length) : (latchTaken c d).loop c = { d.loop c with pend := none } :=
  at'_modAt_self d.lop.ch c _ h

/-- A latch changes no channel's state. -/
theorem latchTaken_st (c n : Nat) (d : Dev) : ((latchTaken c d).loop n).st = (d.loop n).st := at'_modAt_field LoopCh.st d.lop.ch c n _ fun _ => rfl

theorem aouEnabled_latchTaken (c n : Nat) (r : Regs) (d : Dev) : aouEnabled r (latchTaken c d) n = aouEnabled r d n := by
  have hst (m : Nat) : ((latchTaken c d).loop m).st = (d.loop m).st := latchTaken_st c m d
  have houts : (latchTaken c d).outsOn = d.outsOn := rfl
  have habs : aouAbsent (latchTaken c d) n = aouAbsent d n := rfl
  have hmde : (latchTaken c d).mde = d.mde := rfl
  simp only [aouEnabled, hst, houts, habs, hmde]

theorem latchOut_analog (c : Nat) (r : Regs) (d : Dev) (h : r.at F.LOP_CH_CFG_OUT_KIND c = 0) :
    latchOut r c d = if aouEnabled r d (r.at F.LOP_CH_CFG_OUT_PORT c) then aouLatch r (r.at F.LOP_CH_CFG_OUT_PORT c) (d.loop c).u d
      else aouFail r (r.at F.LOP_CH_CFG_OUT_PORT c) d := by
  unfold latchOut
  simp only [h]

theorem aouPut_dac (r : Regs) (n : Nat) (u : F32) (d : Dev) (hn : n < 16) :
    aouPut r n u d = (modAou n (fun o => { o with code := (dacCode (aouX r n u)).1 }) d, (dacCode (aouX r n u)).2) := if_pos hn

theorem modAou_anOut_self (n : Nat) (f : AnOut → AnOut) (d : Dev) (h : n < d.aou.outs.length) : (modAou n f d).anOut n = f (d.anOut n) :=
  at'_modAt_self d.aou.outs n f h

theorem modAou_anOut_other (n m : Nat) (f : AnOut → AnOut) (d : Dev) (h : m ≠ n) : (modAou n f d).anOut m = d.anOut m :=
  at'_modAt_other d.aou.outs n m f h.symm

theorem modAou_outs_length (n : Nat) (f : AnOut → AnOut) (d : Dev) : (modAou n f d).aou.outs.length = d.aou.outs.length := modAt_length _ _ _

theorem anOut_of_aou {b a : Dev} (h : b.aou = a.aou) (n : Nat) : b.anOut n = a.anOut n := congrArg (fun x : AouSt => at' x.outs n) h

theorem acts_modAouPart (n : Nat) (f : AnOut → AnOut) (d : Dev) : Acts [.aou] (modAou n f d) d := acts_aou d _

/-- An enabled DAC output latches its code and leaves its fail state. -/
theorem aouLatch_dac (r : Regs) (n : Nat) (u : F32) (d : Dev) (hn : n < 16) (hlen : n < d.aou.outs.length) :
    Acts [.irq, .aou, .aou] (aouLatch r n u d) d ∧ ((aouLatch r n u d).anOut n).code = (dacCode (aouX r n u)).1 ∧
      ((aouLatch r n u d).anOut n).fail = false ∧ (∀ m, m ≠ n → (aouLatch r n u d).anOut m = d.anOut m) := by
  unfold aouLatch
  rw [aouPut_dac r n u d hn]
  dsimp only
  have houts (m : Nat) := anOut_of_aou (raiseIf_aou ((dacCode (aouX r n u)).2 && !(d.anOut n).clamped) 0x14 1
    (modAou n (fun o => { o with clamped := (dacCode (aouX r n u)).2, fail := false, relayHold := none })
      (modAou n (fun o => { o with code := (dacCode (aouX r n u)).1 }) d))) m
  refine ⟨(acts_raiseIf _ _ _ _).trans ((acts_modAouPart n _ _).trans (acts_modAouPart n _ d)), ?_, ?_, fun m hm => ?_⟩
  · rw [houts, modAou_anOut_self _ _ _ (by rw [modAou_outs_length]; exact hlen), modAou_anOut_self _ _ _ hlen]
  · rw [houts, modAou_anOut_self _ _ _ (by rw [modAou_outs_length]; exact hlen)]
  · rw [houts, modAou_anOut_other _ _ _ _ hm, modAou_anOut_other _ _ _ _ hm]

/-- A DAC output at the value of its fail state. -/
def failValue (r : Regs) (n : Nat) (d : Dev) : Dev := if r.bit F.AOU_CFG_FAIL n then (aouPut r n F32.zero d).1 else d

theorem aouFail_enters (r : Regs) (n : Nat) (d : Dev) (h : (d.anOut n).fail = false) :
    aouFail r n d = raise 0x14 0 (modAou n (fun o => { o with fail := true, relayHold := none }) (failValue r n d)) := if_neg (by simp [h])

/-- A DAC output at the value of its fail state has the code of 0, or the one it had. -/
theorem failValue_dac (r : Regs) (n : Nat) (d : Dev) (hn : n < 16) (hlen : n < d.aou.outs.length) :
    Acts [.aou] (failValue r n d) d ∧ (failValue r n d).aou.outs.length = d.aou.outs.length ∧
      ((failValue r n d).anOut n).code = (if r.bit F.AOU_CFG_FAIL n = true then (dacCode (aouX r n F32.zero)).1 else (d.anOut n).code) ∧
      (∀ m, m ≠ n → (failValue r n d).anOut m = d.anOut m) := by
  unfold failValue
  split
  · rw [aouPut_dac r n _ d hn]
    exact ⟨acts_modAouPart n _ d, modAou_outs_length n _ d, by rw [modAou_anOut_self _ _ _ hlen], fun m hm => modAou_anOut_other n m _ d hm⟩
  · exact ⟨.refl _ d, rfl, rfl, fun _ _ => rfl⟩

/-- A DAC output enters its fail state, where it is not in it. -/
theorem aouFail_dac (r : Regs) (n : Nat) (d : Dev) (hn : n < 16) (hlen : n < d.aou.outs.length) :
    Acts [.irq, .aou, .aou] (aouFail r n d) d ∧ ((aouFail r n d).anOut n).fail = true ∧
      ((d.anOut n).fail = false → ((aouFail r n d).anOut n).code =
        if r.bit F.AOU_CFG_FAIL n = true then (dacCode (aouX r n F32.zero)).1 else (d.anOut n).code) ∧
      (∀ m, m ≠ n → (aouFail r n d).anOut m = d.anOut m) := by
  by_cases hf : (d.anOut n).fail = true
  · have hstay : aouFail r n d = d := if_pos hf
    rw [hstay]
    exact ⟨.refl _ d, hf, fun h => absurd (hf.symm.trans h) (by decide), fun _ _ => rfl⟩
  · obtain ⟨hact, hlen2, hcode, hother⟩ := failValue_dac r n d hn hlen
    rw [aouFail_enters r n d (by simpa using hf)]
    have houts (m : Nat) := anOut_of_aou (raise_aou 0x14 0 (modAou n (fun o => { o with fail := true, relayHold := none }) (failValue r n d))) m
    have hself := modAou_anOut_self n (fun o => { o with fail := true, relayHold := none }) (failValue r n d) (by rw [hlen2]; exact hlen)
    refine ⟨(acts_raise _ _ _).trans ((acts_modAouPart n _ _).trans hact), ?_, fun _ => ?_, fun m hm => ?_⟩
    · rw [houts, hself]
    · rw [houts, hself]
      exact hcode
    · rw [houts, modAou_anOut_other _ _ _ _ hm, hother m hm]

theorem outputLatch_early (c : Nat) (r : Regs) (d : Dev) (h : ∀ u, (d.loop c).pend = some u → d.now < u) : outputLatch c r d = d := by
  unfold outputLatch
  split
  · next u hu =>
    exact if_neg fun hc => absurd (h u hu) (by omega)
  · rfl

/-- A latch that has come puts a DAC output at its code, or in its fail state where it is not enabled. -/
theorem outputLatch_dac (c u : Nat) (r : Regs) (d : Dev) (hc : c < 32) (hp : (d.loop c).pend = some u) (ht : u ≤ d.now)
    (hkind : r.at F.LOP_CH_CFG_OUT_KIND c = 0) (hn : r.at F.LOP_CH_CFG_OUT_PORT c < 16) (hlen : r.at F.LOP_CH_CFG_OUT_PORT c < d.aou.outs.length) :
    let p := r.at F.LOP_CH_CFG_OUT_PORT c
    let b := outputLatch c r d
    Acts [.irq, .aou, .aou, .lop] b d ∧ (b.loop c).pend = none ∧
      (aouEnabled r d p = true → (b.anOut p).code = (dacCode (aouX r p (d.loop c).u)).1 ∧ (b.anOut p).fail = false) ∧
      (aouEnabled r d p = false → (b.anOut p).fail = true ∧
        ((d.anOut p).fail = false → (b.anOut p).code = (if r.bit F.AOU_CFG_FAIL p = true then (dacCode (aouX r p F32.zero)).1 else (d.anOut p).code))) ∧
      (∀ n, n ≠ p → b.anOut n = d.anOut n) := by
  intro p b
  have hb : b = latchShown c (latchOut r c (latchTaken c d)) := outputLatch_due c u r d hc hp ht
  have hshown := acts_latchShown c (latchOut r c (latchTaken c d))
  have haou (n : Nat) : b.anOut n = (latchOut r c (latchTaken c d)).anOut n := by
    rw [hb]
    exact anOut_of_aou (hshown.agree .aou (by decide)) n
  have hlop : b.lop = (latchOut r c (latchTaken c d)).lop := by
    rw [hb]
    exact hshown.agree .lop (by decide)
  have htaken := latchTaken_loop c d (loop_of_pend d c u hp)
  have hu : ((latchTaken c d).loop c).u = (d.loop c).u := by rw [htaken]
  have hout := latchOut_analog c r (latchTaken c d) hkind
  rw [aouEnabled_latchTaken, hu] at hout
  have hact : Acts [.irq, .aou, .aou] (latchOut r c (latchTaken c d)) (latchTaken c d) := by
    rw [hout]
    exact .ite (aouLatch_dac r _ _ (latchTaken c d) hn hlen).1 (aouFail_dac r _ (latchTaken c d) hn hlen).1
  refine ⟨?_, ?_, fun hen => ?_, fun hen => ?_, fun n hne => ?_⟩
  · rw [hb]
    exact hshown.trans (hact.trans (acts_modLop c _ d))
  · rw [loop_of_lop (hlop.trans (hact.agree .lop (by decide))) c, htaken]
  · rw [if_pos hen] at hout
    obtain ⟨-, hcode, hfail, -⟩ := aouLatch_dac r p (d.loop c).u (latchTaken c d) hn hlen
    rw [haou, hout]
    exact ⟨hcode, hfail⟩
  · rw [if_neg (by simp [show aouEnabled r d (r.at F.LOP_CH_CFG_OUT_PORT c) = false from hen])] at hout
    obtain ⟨-, hfail, hcode, -⟩ := aouFail_dac r p (latchTaken c d) hn hlen
    rw [haou, hout]
    exact ⟨hfail, hcode⟩
  · rw [haou, hout]
    split
    · exact (aouLatch_dac r p _ (latchTaken c d) hn hlen).2.2.2 n hne
    · exact (aouFail_dac r p (latchTaken c d) hn hlen).2.2.2 n hne

/-- Settles O54. -/
theorem localLoops : Obligations.LocalLoops := by
  unfold Obligations.LocalLoops
  refine ⟨fun s c hdue => ?_, fun s c hdue hoff hlen => ?_, fun s c => ?_, fun s c => ?_, fun s c u => ?_,
    fun s c hearly => ?_, fun s => ?_⟩
  · refine ⟨_, onRegs_next s (loopSample c), ?_⟩
    rw [loopSample_early c s.regs s.dev.quiet hdue]
    exact onlyParts_quiet _ s _
  · refine ⟨_, onRegs_next s (loopSample c), ?_⟩
    obtain ⟨hact, hst, hdrive, hpend, hu⟩ := loopSample_off c s.regs s.dev.quiet hdue hoff hlen
    refine ⟨hact.onlyParts (s := { s with regs := (loopSample c s.regs s.dev.quiet).1 }) (by decide), ?_⟩
    simp only [Dev.loop, settle_lop] at hst hdrive hpend hu ⊢
    exact ⟨hst, hdrive, hpend, hu⟩
  · intro h k b y a p d raw hdue hon hlen hpend hcoef hst hrestart hhanded hclr hswap hbank hsrc hdiff hwrap hinterp hmodel hcount hfault hmin hmax
    have hplain : PlainSample c s.regs s.dev.quiet := ⟨hdue, hon, hlen, hpend, hcoef, hrestart, hhanded, hswap, hbank, hinterp, by omega⟩
    obtain ⟨g, f, pv, hfb⟩ := hplain.fbRead_quad hsrc hdiff hwrap hfault hmin hmax
    obtain ⟨e, hx⟩ := hplain.sampled_run hst hmodel hcount hfb
    obtain ⟨hy, hu, hd, hls, hdrive⟩ := law_shows (lawReady (fedBack h y g f pv)) k b h.y hwrap
    have hrun := hls.trans hst
    refine ⟨_, onRegs_next s (loopSample c), ?_⟩
    obtain ⟨t, ht, hact, hpd, hother, hst2, hdrive2, hu2, hy2, hd2⟩ := hplain.shows hx (hst.trans_ne (by decide)) (hrun.trans_ne (by decide)) rfl rfl rfl
    rw [ht]
    refine ⟨hact.onlyParts (by decide), ?_⟩
    simp only [Dev.loop, settle_lop] at hpd hother hst2 hdrive2 hu2 hy2 hd2 ⊢
    exact ⟨hy2.trans hy, hu2.trans hu, hd2.trans hd, hst2.trans hrun, hdrive2.trans hdrive, hpd, hother⟩
  · intro h k hdue hon hlen hpend hcoef hst hcause hrestart hhanded hswap hbank hsrc hinterp
    have hplain : PlainSample c s.regs s.dev.quiet := ⟨hdue, hon, hlen, hpend, hcoef, hrestart, hhanded, hswap, hbank, hinterp, by omega⟩
    have hx := hplain.sampled_open hst hcause hsrc
    refine ⟨_, onRegs_next s (loopSample c), ?_⟩
    obtain ⟨t, ht, hact, hpd, hother, hst2, hdrive2, hu2, -, -⟩ := hplain.shows hx (hst.trans_ne (by decide))
      (hst.trans_ne (by decide)) rfl rfl rfl
    rw [ht]
    refine ⟨hact.onlyParts (by decide), ?_⟩
    simp only [Dev.loop, settle_lop] at hpd hother hst2 hdrive2 hu2 ⊢
    exact ⟨hst2.trans hst, hdrive2, hu2, hpd, hother⟩
  · intro p hc hp ht hkind hn hlen
    refine ⟨_, onDev_next s (outputLatch c), ?_⟩
    obtain ⟨hact, hpend, hon, hoff, hother⟩ := outputLatch_dac c u s.regs s.dev.quiet hc hp ht hkind hn hlen
    refine ⟨hact.onlyParts (by decide), ?_⟩
    simp only [Dev.loop, Dev.anOut, settle_lop, settle_aou] at hpend hon hoff hother ⊢
    exact ⟨hpend, hon, hoff, hother⟩
  · refine ⟨_, onDev_next s (outputLatch c), ?_⟩
    rw [outputLatch_early c s.regs s.dev.quiet hearly]
    exact onlyParts_quiet _ s _
  · refine ⟨_, onDev_next s fun r d => modLop (r.get F.LOP_SEL_CH) (fun ch => { ch with clr := true }) d, ?_⟩
    exact ⟨(acts_modLop _ _ _).onlyParts (by decide), settle_lop _ _⟩

end Sys2Proof
end

section
/-! PROOFS. PWM periods and step axes [12 R340 to R346 R348 R350]. -/

namespace Sys2Proof

open Sys2Proof.Machine

/-! ### PWM outputs -/

/-- The level of the direction output that a PWM output's duty carries. -/
def dirDriven (r : Regs) (n : Nat) (dir : Bool) (d : Dev) : Dev :=
  if r.bit F.AOU_CFG_PWM_MODE n then dioFunc r (r.at F.AOU_CFG_DIR_DOUT n) dir d else d

theorem acts_dirDriven (r : Regs) (n : Nat) (dir : Bool) (d : Dev) : Acts [.dio] (dirDriven r n dir d) d := .when (acts_dioFuncSet r _ dir d)

theorem pwmTake_next (r : Regs) (n h : Nat) (dir : Bool) (d : Dev) (hn : (d.anOut n).next = some (h, dir)) :
    pwmTake r n d = dirDriven r n dir (modAou n (fun o => { o with code := h, next := none }) d) := by
  unfold pwmTake
  rw [hn]
  rfl

theorem pwmTake_none (r : Regs) (n : Nat) (d : Dev) (hn : (d.anOut n).next = none) : pwmTake r n d = d := by
  unfold pwmTake
  rw [hn]

theorem pwmPeriodStart_due (n : Nat) (r : Regs) (d : Dev) (h16 : 16 ≤ n) (h32 : n < 32) (ht : d.now % r.at F.AOU_PERIOD_PERIOD n = 0) :
    pwmPeriodStart n r d = pwmTake r n d := if_pos ⟨h16, h32, by simp [pwmStarts, ht]⟩

theorem pwmPeriodStart_idle (n : Nat) (r : Regs) (d : Dev) (h : d.now % r.at F.AOU_PERIOD_PERIOD n ≠ 0 ∨ (d.anOut n).next = none) :
    pwmPeriodStart n r d = d := by
  unfold pwmPeriodStart
  split
  · next hc =>
    refine pwmTake_none r n d (h.resolve_left fun hne => hne ?_)
    simpa [pwmStarts] using hc.2.2
  · rfl

/-! ### Axes -/

theorem acts_axis (i : Nat) (f : StepAxis → StepAxis) (d : Dev) : Acts [.pfg] (modAxis i f d) d := acts_pfg d _

theorem axis_of_pfg {b a : Dev} (h : b.pfg = a.pfg) (i : Nat) : b.axis i = a.axis i := congrArg (fun x : PfgSt => at' x.axes i) h

theorem modAxis_axis_other (i j : Nat) (f : StepAxis → StepAxis) (d : Dev) (h : j ≠ i) : (modAxis i f d).axis j = d.axis j :=
  at'_modAt_other d.pfg.axes i j f h.symm

/-- A change of an axis that leaves it as it is. -/
theorem modAxis_axis_fixed (i : Nat) (f : StepAxis → StepAxis) (d : Dev) (h : f (d.axis i) = d.axis i) : (modAxis i f d).axis i = d.axis i := by
  by_cases hl : i < d.pfg.axes.length
  · exact (modAxis_axis_self i f d hl).trans h
  · have hlen : (modAt d.pfg.axes i f).length ≤ i := by
      rw [modAt_length]
      omega
    exact (at'_of_length_le _ _ hlen).trans (at'_of_length_le _ _ (by omega)).symm

theorem modAxis_axes_length (i : Nat) (f : StepAxis → StepAxis) (d : Dev) : (modAxis i f d).pfg.axes.length = d.pfg.axes.length := modAt_length _ _ _

/-- An update of an axis falls on this tick and finds it enabled. -/
structure RateDue (i : Nat) (r : Regs) (d : Dev) : Prop where
  axis : i < 8
  there : i < d.pfg.axes.length
  tick : d.now % 2500 = 0
  enabled : pfgEnabled r d i = true
  sure : (d.axis i).chatter = false
  free : (d.axis i).homing = .none
  speed : r.bit F.PFG_CFG_MODE i = false
  openPos : r.bit F.PFG_IO_LIM_POS_EN i = false
  openNeg : r.bit F.PFG_IO_LIM_NEG_EN i = false
  plain : r.bit F.PFG_IO_EN_DOUT_EN i = false

/-- An axis put out of its fail state. -/
def axisOn (i : Nat) (d : Dev) : Dev := modAxis i (fun a => { a with enOut := true }) (modAxis i (fun a => { a with fail := false }) d)

theorem axisOn_axis (i : Nat) (d : Dev) (h : i < d.pfg.axes.length) : (axisOn i d).axis i = { d.axis i with fail := false, enOut := true } := by
  unfold axisOn
  rw [modAxis_axis_self _ _ _ (by rw [modAxis_axes_length]; exact h), modAxis_axis_self _ _ _ h]

theorem acts_axisOn (i : Nat) (d : Dev) : Acts [.pfg] (axisOn i d) d := (acts_axis i _ _).also (acts_axis i _ d)

theorem limitOn_open (r : Regs) (d : Dev) (i : Nat) (up : Bool) (hp : r.bit F.PFG_IO_LIM_POS_EN i = false) (hn : r.bit F.PFG_IO_LIM_NEG_EN i = false) :
    limitOn r d i up = false := by
  unfold limitOn
  simp [hp, hn]

/-- The demand of a velocity axis without limits. -/
def rateDemand (r : Regs) (i : Nat) (a : StepAxis) : F64 := if (boundOut r 2 i).isSome then a.u.to64.mul (r.f64 F.PFG_V_MAX_V_MAX i) else F64.zero

/-- The rate of a velocity axis after an update towards its demand. -/
def rateStep (r : Regs) (i : Nat) (a : StepAxis) : F64 :=
  approachSigned a.rate.to64 (rateDemand r i a) (r.f64 F.PFG_A_MAX_A_MAX i) (r.f64 F.PFG_D_MAX_D_MAX i)

/-- The phase of a velocity axis after an update. -/
def ratePhase (v want : F64) : Nat := if v.isZero && want.isZero then 0 else 5

theorem velocityUpdate_open (r : Regs) (i : Nat) (d : Dev) (hp : r.bit F.PFG_IO_LIM_POS_EN i = false) (hn : r.bit F.PFG_IO_LIM_NEG_EN i = false) :
    velocityUpdate r i d = modAxis i (fun a => { a.advance (rateStep r i (d.axis i)) none with
      phase := ratePhase (rateStep r i (d.axis i)) (rateDemand r i (d.axis i)) }) d := by
  simp only [velocityUpdate, limitOn_open r d i _ hp hn, Bool.and_false, Bool.false_eq_true, if_false]
  rfl

theorem RateDue.update {i : Nat} {r : Regs} {d : Dev} (h : RateDue i r d) : stepRate i r d = velocityUpdate r i (axisOn i d) := by
  have haxis := axisOn_axis i d h.there
  have hon : axisEnable r i true (modAxis i (fun a => { a with fail := false }) d) = axisOn i d := if_neg (by simp [h.plain])
  have hnolimit : (match ((axisOn i d).axis i).travels with | some u => limitOn r (axisOn i d) i u | none => false) = false := by
    split
    · exact limitOn_open r _ i _ h.openPos h.openNeg
    · rfl
  unfold stepRate
  rw [if_neg (by simp [h.tick, h.axis]), if_neg (by simp [h.enabled])]
  dsimp only
  rw [hon]
  rw [if_neg (by simp [haxis, h.sure]), if_neg (by simp [haxis, h.free])]
  exact (if_neg fun hc => absurd (hnolimit.symm.trans hc) (by decide)).trans (if_neg (by simp [h.speed]))

theorem stepRate_idle (i : Nat) (r : Regs) (d : Dev) (h : d.now % 2500 ≠ 0 ∨ pfgEnabled r d i = false) : stepRate i r d = d := by
  unfold stepRate
  rcases h with h | h
  · exact if_pos (Or.inl h)
  · rw [if_pos (show (!(pfgEnabled r d i)) = true by simp [h]), ite_self]

/-! ### Pulses -/

/-- A pulse taken by an axis that reads `b` before it. -/
def axisPulsed (r : Regs) (i : Nat) (now : Nat) (b a : StepAxis) : StepAxis :=
  let up := decide (0 < b.due)
  { a with
    pos := wrapS 32 (if up then b.pos + 1 else b.pos - 1), due := if up then a.due - 1 else a.due + 1
    dir := up, pulsed := true, dirChange := a.dirChange || (b.pulsed && (b.dir != up)), pulseAt := some now
    dirPin := up != r.bit F.PFG_CFG_DIR_POL i, travel := a.travel + 1
    homeCnt := if a.homing == .backoff && up == r.bit F.PFG_HOME_DIR i then a.homeCnt - 1 else a.homeCnt }

/-- What a pulse tells to the interrupts, the emulation outputs and the compare. -/
def pulseFed (r : Regs) (i : Nat) (a : StepAxis) (d : Dev) : Dev :=
  axisJudge r i a.pos (emuFeed r true i (decide (0 < a.due)) (raiseIf (a.pulsed && (a.dir != decide (0 < a.due))) 0x15 7 d))

theorem stepPulse_leaves (i : Nat) (r : Regs) (d : Dev) (hi : i < 8) (hdue : (d.axis i).due ≠ 0) (hc : (d.axis i).chatter = false)
    (hf : (d.axis i).fail = false) (hl : limitOn r d i (decide (0 < (d.axis i).due)) = false) (hp : (d.axis i).pulseAt = none) :
    stepPulse i r d = emit (.pin (pinStep i) true) (pulseFed r i (d.axis i) (modAxis i (axisPulsed r i d.now (d.axis i)) d)) := by
  unfold stepPulse
  refine if_neg ?_
  simp [hdue, hc, hf, hl, hi, hp]

theorem axisFire_axis (r : Regs) (i : Nat) (d : Dev) :
    ∃ c, (axisFire r i d).pfg = (modAxis i (fun a => { a with cmp := c }) d).pfg := by
  have hfunc := Acts.when (c := (d.axis i).cmp.pulseEn = true)
    (acts_dioFuncSet r (d.axis i).cmp.dout true (raise 0x15 6 (modAxis i (fun a => { a with cmp := (d.axis i).cmp.fire d }) d)))
  exact ⟨(d.axis i).cmp.fire d, (hfunc.agree .pfg (by decide)).trans (raise_pfg _ _ _)⟩

theorem stepPulse_held (i : Nat) (r : Regs) (d : Dev) (h : (d.axis i).due = 0 ∨ (d.axis i).chatter = true ∨ (d.axis i).fail = true) :
    stepPulse i r d = d := by
  unfold stepPulse
  dsimp only
  refine if_pos ?_
  rcases h with h | h | h <;> simp [h]

/-- A pulse's news change the compare of its axis alone among the axes. -/
theorem pulseFed_pfg (r : Regs) (i : Nat) (b : StepAxis) (d : Dev) :
    (pulseFed r i b d).pfg = d.pfg ∨ ∃ c, (pulseFed r i b d).pfg = (modAxis i (fun a => { a with cmp := c }) d).pfg := by
  unfold pulseFed
  have hfeed := (within_emuFeed r true i (decide (0 < b.due)) _).trans (within_raiseIf (b.pulsed && (b.dir != decide (0 < b.due))) 0x15 7 d)
  have hpfg := hfeed.agree .pfg (by decide)
  generalize emuFeed r true i (decide (0 < b.due)) (raiseIf (b.pulsed && (b.dir != decide (0 < b.due))) 0x15 7 d) = x at hpfg ⊢
  change x.pfg = d.pfg at hpfg
  unfold axisJudge
  dsimp only
  split
  · obtain ⟨c, hc⟩ := axisFire_axis r i x
    refine .inr ⟨c, hc.trans ?_⟩
    rw [modAxis_pfg, modAxis_pfg, hpfg]
  · exact .inl hpfg

theorem acts_emuFeed (r : Regs) (axis : Bool) (src : Nat) (fwd : Bool) (d : Dev) : Acts [.irq, .enc] (emuFeed r axis src fwd d) d := by
  have hmod (i : Nat) (f : EmuOut → EmuOut) (a : Dev) : Acts [.irq, .enc] (modEmu i f a) a := ((within_enc a _).acts (by decide)).mono (by decide)
  exact acts_foldN 8 _ d fun i a => .when (.ite (hmod i _ a) (.ite (hmod i _ a) (((acts_raise 0x16 7 _).mono (by decide)).also (hmod i _ a))))

theorem acts_pulseFed (r : Regs) (i : Nat) (b : StepAxis) (d : Dev) : Acts [.irq, .pfg, .dio, .enc] (pulseFed r i b d) d :=
  (Acts.when ((acts_axisFire r i _).mono (by decide))).also (((acts_emuFeed r true i _ _).mono (by decide)).also
    ((acts_raiseIf _ 0x15 7 d).mono (by decide)))

/-- The axes after a pulse's news. -/
theorem pulseFed_axis (r : Regs) (i : Nat) (b : StepAxis) (d : Dev) (hi : i < d.pfg.axes.length) :
    (∃ c, (pulseFed r i b d).axis i = { d.axis i with cmp := c }) ∧ ∀ j, j ≠ i → (pulseFed r i b d).axis j = d.axis j := by
  rcases pulseFed_pfg r i b d with h | ⟨c, h⟩
  · exact ⟨⟨(d.axis i).cmp, axis_of_pfg h i⟩, fun j _ => axis_of_pfg h j⟩
  · exact ⟨⟨c, (axis_of_pfg h i).trans (modAxis_axis_self i _ d hi)⟩, fun j hj => (axis_of_pfg h j).trans (modAxis_axis_other i j _ d hj)⟩

/-! ### Stops and homing -/

/-- A stop ends an axis's motion; only a stop in mid-move takes its position's validity and is recorded. -/
theorem axisStop_shows (r : Regs) (i : Nat) (c : StopCause) (d : Dev) (hi : i < d.pfg.axes.length) (hraw : 0x15 < d.irq.raw.length) :
    ∃ v, (axisStop r i c d).axis i = { (d.axis i).halted with posValid := v } ∧ (∀ j, j ≠ i → (axisStop r i c d).axis j = d.axis j) ∧
      ((d.axis i).midMove = true → v = false ∧ (at' (axisStop r i c d).irq.raw 0x15).testBit 1 = true) ∧
      ((d.axis i).midMove = false → v = (d.axis i).posValid ∧ (axisStop r i c d).evt = d.evt) := by
  by_cases hm : (d.axis i).midMove = true
  · have heq : axisStop r i c d = record r .pfgStop { p0 := i, p1 := c.num }
        (raise 0x15 1 (modAxis i (fun a => { a.halted with posValid := false }) d)) := if_pos hm
    have hpfg : (axisStop r i c d).pfg = (modAxis i (fun a => { a.halted with posValid := false }) d).pfg := by rw [heq, record_pfg, raise_pfg]
    refine ⟨false, (axis_of_pfg hpfg i).trans (modAxis_axis_self i _ d hi), fun j hj => (axis_of_pfg hpfg j).trans (modAxis_axis_other i j _ d hj),
      fun _ => ⟨rfl, ?_⟩, fun h => absurd (hm.symm.trans h) (by decide)⟩
    rw [heq]
    exact (raised_record r .pfgStop _ _).bit _ _ (raise_testBit_self _ _ _ hraw)
  · have heq : axisStop r i c d = raiseIf (!((d.axis i).homing == .none)) 0x15 1 (modAxis i StepAxis.halted d) := if_neg hm
    have hpfg : (axisStop r i c d).pfg = (modAxis i StepAxis.halted d).pfg := by rw [heq, raiseIf_pfg]
    refine ⟨(d.axis i).posValid, (axis_of_pfg hpfg i).trans (modAxis_axis_self i _ d hi),
      fun j hj => (axis_of_pfg hpfg j).trans (modAxis_axis_other i j _ d hj), fun h => absurd h hm, fun _ => ⟨rfl, ?_⟩⟩
    rw [heq, raiseIf_evt, modAxis_evt]

theorem acts_axisStopped (r : Regs) (i : Nat) (c : StopCause) (d : Dev) : Acts [.irq, .evt, .pfg] (axisStop r i c d) d :=
  .ite (((acts_record r _ _ _).trans ((acts_raise _ _ _).trans (acts_axis i _ d))).mono (by decide))
    (((acts_raiseIf _ _ _ _).trans (acts_axis i _ d)).mono (by decide))

/-- The condition under which homing starts. -/
def homeFree (r : Regs) (i : Nat) (d : Dev) : Bool := !(d.axis i).midMove && !(d.axis i).chatter && (d.axis i).homing == .none && pfgEnabled r d i

/-- An axis as its homing starts. -/
def homeBegun (r : Regs) (i : Nat) (a : StepAxis) : StepAxis :=
  { a with
    homing := .search, posValid := false, limitsMet := 0, homingFail := false, travel := 0, latch := none
    homePos := !(r.bit F.PFG_HOME_DIR i), phase := 4, moving := false, after := none }

theorem homeStart_free (r : Regs) (i : Nat) (d : Dev) : homeStart r i d = if homeFree r i d then modAxis i (homeBegun r i) d else d := by
  unfold homeStart homeFree
  dsimp only
  cases (d.axis i).midMove <;> cases (d.axis i).chatter <;> cases ((d.axis i).homing == .none) <;> cases pfgEnabled r d i <;> rfl

theorem softStop_axis (i : Nat) (d : Dev) (hi : i < d.pfg.axes.length) (hm : (d.axis i).moving = true) (hmid : (d.axis i).midMove = true) :
    (softStop i d).axis i = { d.axis i with
      target := if (d.axis i).rate.isNeg = true then (d.axis i).pos + (d.axis i).due - restSteps (d.axis i).rate.to64.abs (d.axis i).dUse.to64 (d.axis i).frac
        else (d.axis i).pos + (d.axis i).due + restSteps (d.axis i).rate.to64.abs (d.axis i).dUse.to64 (d.axis i).frac
      after := none } :=
  (modAxis_axis_self i _ d hi).trans (if_pos (by simp [hm, hmid]))

theorem softStop_rest (i : Nat) (d : Dev) (h : (d.axis i).moving = false ∨ (d.axis i).midMove = false) : (softStop i d).axis i = d.axis i :=
  modAxis_axis_fixed i _ d (if_neg (by rcases h with h | h <;> simp [h]))

/-- Settles O55. -/
theorem actuatorOutputs : Obligations.ActuatorOutputs := by
  unfold Obligations.ActuatorOutputs
  refine ⟨fun s n h dir h16 h32 hlen ht hn => ?_, fun s n h => ?_, fun s i => ?_, fun s i h => ?_, fun s i => ?_, fun s i h => ?_, fun s => ?_,
    fun s => ?_, fun s => ?_, fun s => ?_⟩
  · refine ⟨_, onDev_next s (pwmPeriodStart n), ?_⟩
    rw [pwmPeriodStart_due n s.regs s.dev.quiet h16 h32 ht, pwmTake_next s.regs n h dir s.dev.quiet hn]
    have hdir := acts_dirDriven s.regs n dir (modAou n (fun o => { o with code := h, next := none }) s.dev.quiet)
    have haou (m : Nat) := anOut_of_aou (hdir.agree .aou (by decide)) m
    refine ⟨(hdir.trans (acts_modAouPart n _ _)).onlyParts (by decide), ?_, ?_, fun m hm => ?_, fun hmode => ?_⟩
    · rw [anOut_of_aou (settle_aou _ _), haou, modAou_anOut_self n _ s.dev.quiet hlen]
    · rw [anOut_of_aou (settle_aou _ _), haou, modAou_anOut_self n _ s.dev.quiet hlen]
    · rw [anOut_of_aou (settle_aou _ _), haou]
      exact modAou_anOut_other n m _ _ hm
    · rw [settle_dio, show dirDriven s.regs n dir _ = _ from if_neg (by simp [hmode])]
      rfl
  · refine ⟨_, onDev_next s (pwmPeriodStart n), ?_⟩
    rw [pwmPeriodStart_idle n s.regs s.dev.quiet h]
    exact onlyParts_quiet _ s _
  · intro a want h8 hlen ht hen hch hhome hmode hlp hln hend
    have hdue : RateDue i s.regs s.dev.quiet := ⟨h8, hlen, ht, hen, hch, hhome, hmode, hlp, hln, hend⟩
    refine ⟨_, onDev_next s (stepRate i), ?_⟩
    rw [hdue.update, velocityUpdate_open _ _ _ hlp hln]
    have hon := axisOn_axis i s.dev.quiet hlen
    have hlen2 : i < (axisOn i s.dev.quiet).pfg.axes.length := by
      rw [axisOn, modAxis_axes_length, modAxis_axes_length]
      exact hlen
    refine ⟨((acts_axis i _ _).trans (acts_axisOn i _)).onlyParts (by decide), ?_⟩
    simp only [settle_axis]
    rw [modAxis_axis_self i _ _ hlen2, hon]
    refine ⟨rfl, rfl, rfl, rfl, fun j hj => ?_⟩
    exact (modAxis_axis_other i j _ _ hj).trans ((modAxis_axis_other i j _ _ hj).trans (modAxis_axis_other i j _ _ hj))
  · refine ⟨_, onDev_next s (stepRate i), ?_⟩
    rw [stepRate_idle i s.regs s.dev.quiet h]
    exact onlyParts_quiet _ s _
  · intro a up h8 hdue hch hf hl hp hlen
    refine ⟨_, onDev_next s (stepPulse i), ?_⟩
    rw [stepPulse_leaves i s.regs s.dev.quiet h8 hdue hch hf hl hp]
    have hself := modAxis_axis_self i (axisPulsed s.regs i s.dev.now (s.dev.axis i)) s.dev.quiet hlen
    have hact := (acts_pulseFed s.regs i (s.dev.axis i) (modAxis i (axisPulsed s.regs i s.dev.now (s.dev.axis i)) s.dev.quiet)).trans (acts_axis i _ s.dev.quiet)
    obtain ⟨⟨c, hc⟩, hother⟩ := pulseFed_axis s.regs i (s.dev.axis i) (modAxis i (axisPulsed s.regs i s.dev.now (s.dev.axis i)) s.dev.quiet)
      (by rw [modAxis_axes_length]; exact hlen)
    rw [hself] at hc
    refine ⟨((acts_emit _ _).trans hact).onlyParts (by decide), ?_⟩
    simp only [settle_axis]
    have haxis (j : Nat) := axis_of_pfg (show (emit (.pin (pinStep i) true) (pulseFed s.regs i (s.dev.axis i)
      (modAxis i (axisPulsed s.regs i s.dev.now (s.dev.axis i)) s.dev.quiet))).pfg = _ from rfl) j
    refine ⟨?_, ?_, ?_, ?_, mem_settle_out _ _ _ (mem_emit_self _ _), fun j hj => ?_⟩
    · exact (congrArg StepAxis.pos ((haxis i).trans hc))
    · exact (congrArg StepAxis.due ((haxis i).trans hc))
    · exact (congrArg StepAxis.dir ((haxis i).trans hc))
    · exact (congrArg StepAxis.pulseAt ((haxis i).trans hc))
    · exact (haxis j).trans ((hother j hj).trans (modAxis_axis_other i j _ _ hj))
  · refine ⟨_, onDev_next s (stepPulse i), ?_⟩
    rw [stepPulse_held i s.regs s.dev.quiet h]
    exact onlyParts_quiet _ s _
  · intro i a hlen hraw
    refine ⟨_, onDev_next s fun r d => axisStop r (r.get F.PFG_SEL_AXIS) .command d, ?_⟩
    obtain ⟨v, haxis, hother, hmid, hrest⟩ := axisStop_shows s.regs i .command s.dev.quiet hlen hraw
    refine ⟨(acts_axisStopped s.regs i .command s.dev.quiet).onlyParts (by decide), ?_⟩
    simp only [settle_axis, settle_raw, settle_evt]
    rw [haxis]
    exact ⟨rfl, rfl, rfl, rfl, rfl, hmid, hrest, hother⟩
  · intro i a n
    refine ⟨_, onDev_next s fun r d => softStop (r.get F.PFG_SEL_AXIS) d, ?_⟩
    refine ⟨(acts_axis i _ _).onlyParts (by decide), ?_⟩
    simp only [settle_axis]
    exact ⟨fun j hj => modAxis_axis_other i j _ _ hj, softStop_axis i s.dev.quiet, softStop_rest i s.dev.quiet⟩
  · intro i a ok
    refine ⟨_, onDev_next s fun r d => homeStart r (r.get F.PFG_SEL_AXIS) d, ?_⟩
    have hfree : homeFree s.regs i s.dev.quiet = ok := rfl
    rw [show homeStart s.regs (s.regs.get F.PFG_SEL_AXIS) s.dev.quiet = _ from homeStart_free s.regs i s.dev.quiet, hfree]
    refine ⟨(Acts.when (acts_axis i _ _)).onlyParts (by decide), fun hok => ?_, fun hok hlen => ?_, fun j hj => ?_⟩
    · rw [if_neg (by simp [hok])]
      exact onlyParts_quiet _ s _
    · rw [if_pos hok, settle_axis, modAxis_axis_self i _ s.dev.quiet hlen]
      exact ⟨rfl, rfl, rfl, rfl, rfl⟩
    · rw [settle_axis]
      split
      · exact modAxis_axis_other i j _ _ hj
      · rfl
  · intro i busy
    refine ⟨_, onDev_next s fun r d => clrChatter r (r.get F.PFG_SEL_AXIS) d, ?_⟩
    have hact : Acts [.pfg] (clrChatter s.regs i s.dev.quiet) s.dev.quiet := .unless (acts_axis i _ _)
    refine ⟨hact.onlyParts (by decide), fun hbusy => ?_, fun hbusy => ?_⟩
    · rw [settle_pfg, show clrChatter s.regs _ s.dev.quiet = s.dev.quiet from if_pos hbusy]
      rfl
    · rw [settle_pfg, show clrChatter s.regs _ s.dev.quiet = modAxis i (fun a => { a with chatter := false }) s.dev.quiet from
        if_neg (by rw [show ((List.range 32).any fun n => limitOf s.regs i n && (at' s.dev.quiet.dio.din n).chatters) = false from hbusy]; decide)]
      rfl

end Sys2Proof
end

section
/-! PROOFS. The control cycle: cut, State output, deadline, solve and sub-cycles [01 R15 R20 R22 R26 R29 R30, 09 R270 R279 R285]. -/

namespace Sys2Proof

open Sys2Proof.Machine

/-! ### The cut -/

theorem cut_early (r : Regs) (d : Dev) (h : cutIsDue d = false) : cut r d = (r, d) := if_pos (by simp [h])

theorem cutIsDue_run (d : Dev) (h : cutIsDue d = true) : d.mde.dstate = .run := by
  have hrun : d.running = true := by
    simp only [cutIsDue, Bool.and_eq_true] at h
    exact h.1.1
  simpa [Dev.running] using hrun

theorem cut_gone (r : Regs) (d : Dev) (h : cutIsDue d = true) (hgone : pllGone d = true) : cut r d = (r, safeHold r 4 d) :=
  (if_neg (by simp [h])).trans (if_pos hgone)

/-- The end of a cut: the next cut is set where cycles still run. -/
def cutEnded (r : Regs) (at_ : Nat) (d : Dev) : Dev := if d.mde.cyc.running then nextCutAt r at_ d else d

/-- A cut that is due ends with the Grout's steps given back and the next cut set. -/
theorem cut_ends (r : Regs) (d : Dev) (h : cutIsDue d = true) (hgone : pllGone d = false) :
    ∃ r2 a, cut r d = (r2, cutEnded r2 d.mde.cyc.nextCut (groutAtCut a)) := by
  unfold cut
  rw [if_neg (by simp [h]), if_neg (by simp [hgone])]
  exact ⟨_, _, rfl⟩

/-- Only converter steps of the Grout run past a cut. -/
theorem groutAtCut_running (d : Dev) : ∀ g ∈ (groutAtCut d).grt.running, g.cls = 3 := by
  have hkept : (groutAtCut d).grt = { d.grt with running := d.grt.running.filter fun (g : GrtStep) => g.cls == 3 } := by
    unfold groutAtCut
    refine foldl_keeps (fun a : Dev => a.grt = { d.grt with running := d.grt.running.filter fun (g : GrtStep) => g.cls == 3 }) _ _ _ (fun a g ha => ?_) rfl
    dsimp only
    split
    · split
      · exact ha
      · exact ha
    · exact ha
    · exact ha
  rw [hkept]
  intro g hg
  simpa using (List.mem_filter.1 hg).2

/-- The move of the next cut in a realignment: what is left of it, at most 0.01 T either way. -/
def realignStep (c : CycleSt) : Int := max (-((c.periodNs / 100 : Nat) : Int)) (min ((c.periodNs / 100 : Nat) : Int) c.realignLeft)

/-- The cycle's state once the next cut is set. -/
def cycMoved (at_ : Nat) (c : CycleSt) : CycleSt :=
  { c with realignLeft := c.realignLeft - realignStep c, realign := c.realignLeft != 0, nextCut := (((at_ + c.periodNs : Nat) : Int) + realignStep c).toNat }

theorem nextCutAt_mde (r : Regs) (at_ : Nat) (d : Dev) : (nextCutAt r at_ d).mde = { d.mde with cyc := cycMoved at_ d.mde.cyc } := by
  unfold nextCutAt
  dsimp only
  split
  · rfl
  · rw [record_mde, raise_mde]
    rfl

theorem acts_nextCutAt (r : Regs) (at_ : Nat) (d : Dev) : Acts [.irq, .evt, .mde] (nextCutAt r at_ d) d :=
  .ite ((acts_modMde _ d).mono (by decide)) (((acts_record r _ _ _).trans ((acts_raise 5 6 _).trans (acts_modMde _ d))).mono (by decide))

theorem cutEnded_grt (r : Regs) (at_ : Nat) (d : Dev) : (cutEnded r at_ d).grt = d.grt := (Acts.when (acts_nextCutAt r at_ d)).agree .grt (by decide)

/-- The instant of the next cut lies within 0.01 T of a period on, and is a period on outside a realignment. -/
theorem cycMoved_next (at_ : Nat) (c : CycleSt) :
    at_ + c.periodNs ≤ (cycMoved at_ c).nextCut + c.periodNs / 100 ∧ (cycMoved at_ c).nextCut ≤ at_ + c.periodNs + c.periodNs / 100 ∧
      ((cycMoved at_ c).realign = false → (cycMoved at_ c).nextCut = at_ + c.periodNs) := by
  have hnext : (cycMoved at_ c).nextCut = (((at_ + c.periodNs : Nat) : Int) + realignStep c).toNat := rfl
  have hon : (cycMoved at_ c).realign = (c.realignLeft != 0) := rfl
  have hstep : realignStep c = max (-((c.periodNs / 100 : Nat) : Int)) (min ((c.periodNs / 100 : Nat) : Int) c.realignLeft) := rfl
  rw [hnext, hon]
  generalize realignStep c = x at hstep ⊢
  have hle : c.periodNs / 100 ≤ c.periodNs := Nat.div_le_self _ _
  generalize c.periodNs / 100 = q at hstep hle ⊢
  refine ⟨by omega, by omega, fun h => ?_⟩
  have hz : c.realignLeft = 0 := by simpa using h
  omega

/-- A cut after which cycles run has moved the next one on. -/
theorem cutEnded_next (r : Regs) (at_ : Nat) (d : Dev) (h : (cutEnded r at_ d).mde.cyc.running = true) :
    (cutEnded r at_ d).mde.cyc = cycMoved at_ d.mde.cyc := by
  unfold cutEnded at h ⊢
  split at h
  · rw [if_pos ‹_›, nextCutAt_mde]
  · contradiction

/-! ### State output -/

theorem stateOutput_held (r : Regs) (d : Dev) (h : d.mde.cyc.stateOut = true ∨ d.now < d.mde.cyc.cutTick + 15 * d.centT) :
    stateOutput r d = (r, d) := by
  unfold stateOutput
  refine if_pos ?_
  rcases h with h | h <;> simp [h]

theorem stateOutput_due (r : Regs) (d : Dev) (hrun : d.running = true) (hcyc : d.mde.cyc.running = true) (hout : d.mde.cyc.stateOut = false)
    (ht : d.mde.cyc.cutTick + 15 * d.centT ≤ d.now) :
    ∃ a, stateOutput r d = ((staleStep r d).1, modCyc (fun c => { c with stateOut := true }) a) := by
  unfold stateOutput
  dsimp only
  rw [if_neg (by simp [hrun, hcyc, hout, ht])]
  exact ⟨_, rfl⟩

theorem staleStep_fresh (r : Regs) (d : Dev) (h : d.pair.stale = false) : staleStep r d = (r, d) := if_pos (by simp [h])

/-! ### The deadline -/

theorem deadline_held (r : Regs) (d : Dev) (h : d.mde.cyc.deadlineDone = true ∨ d.now < d.mde.cyc.cutTick + r.get F.CTL_DEADLINE_D * d.centT) :
    deadline r d = d := by
  unfold deadline
  refine if_pos ?_
  rcases h with h | h <;> simp [h]

/-- A device whose heartbeat permit is renewed. -/
def permitted (d : Dev) : Dev := modPair (fun x => { x with permit := some d.now }) d

/-- A cycle whose deadline has passed. -/
def deadlinePassed (d : Dev) : Dev := modCyc (fun c => { c with deadlineDone := true }) d

theorem acts_deadlinePassed (d : Dev) : Acts [.mde] (deadlinePassed d) d := acts_mde d _

theorem acts_permitted (d : Dev) : Acts [.pair] (permitted d) d := acts_pair d _

theorem deadline_due (r : Regs) (d : Dev) (hrun : d.running = true) (hcyc : d.mde.cyc.running = true) (hdone : d.mde.cyc.deadlineDone = false)
    (ht : d.mde.cyc.cutTick + r.get F.CTL_DEADLINE_D * d.centT ≤ d.now) :
    ∃ gave, deadline r d = deadlinePassed (handover gave r (firstHandover r (takeAtDeadline r (permitted d)))) := by
  unfold deadline
  dsimp only
  rw [if_neg (by simp [hrun, hcyc, hdone, ht])]
  exact ⟨_, rfl⟩

theorem takeAtDeadline_none (r : Regs) (d : Dev) (h : d.pair.take = none) : takeAtDeadline r d = d := by
  unfold takeAtDeadline
  rw [h]

theorem firstHandover_none (r : Regs) (d : Dev) (h : d.pair.awaitHandover = false) : firstHandover r d = d := if_neg (by simp [h])

theorem acts_setInputs (i : FusInputs) (d : Dev) : Acts [.fus] (setInputs i d) d := acts_fus d _

theorem handover_harbour (gave : Bool) (r : Regs) (d : Dev) (h : d.mde.mode = .harbour) : Acts [.fus] (handover gave r d) d := by
  unfold handover
  rw [h]
  exact acts_setInputs _ d

/-! ### The solve -/

theorem solveConverged_held (us : Nat) (r : Regs) (d : Dev) (h : d.slv.stage ≠ .running ∨ d.mde.cyc.deadlineDone = true ∨ (d.job 2).tiles = []) :
    solveConverged us r d = d := by
  unfold solveConverged
  dsimp only
  refine if_pos ?_
  rcases h with h | h | h <;> simp [h]

/-- The stage in which a solve ends. -/
def endStage (r : Regs) (e : SolveEnd) : SolveStage := if !e.limit then .converged else if feasible r e.sol then .limit else .limitInfeasible

/-- A solve that ends with `e`: its result, its notes and its time. -/
def solveEnded (us : Nat) (r : Regs) (e : SolveEnd) (d : Dev) : Dev :=
  solveTimed us (noteSolve r e.iters e.pivots e.col e.acts e.sqrtNeg us (modSlv (fun s => { s with stage := endStage r e, result := some e.sol }) d))

theorem solveConverged_ends (us : Nat) (r : Regs) (d : Dev) (hcyc : d.mde.cyc.running = true) (hst : d.slv.stage = .running)
    (hdone : d.mde.cyc.deadlineDone = false) (hd : d.now < d.mde.cyc.cutTick + d.mde.cyc.periodNs / 400 * r.get F.CTL_DEADLINE_D)
    (htiles : (d.job 2).tiles ≠ []) (hlock : d.clk.lock.testBit 1 = true) (ht : d.slv.startTick + 250 * us ≤ d.now) :
    solveConverged us r d = solveEnded us r (qpEnd d.slv.problem) d := by
  unfold solveConverged
  dsimp only
  exact if_neg (by simp [hcyc, hst, hdone, hd, htiles, hlock, ht])

theorem acts_noteSolve (r : Regs) (iters pivots col : Nat) (acts : List Nat) (sqrtNeg us : Nat) (d : Dev) :
    Acts [.irq, .slv] (noteSolve r iters pivots col acts sqrtNeg us d) d := (acts_raiseIf _ 8 3 _).trans (acts_modSlv _ d)

theorem acts_solveTimed (us : Nat) (d : Dev) : Acts [.msn] (solveTimed us d) d :=
  (acts_modJob 2 _ _).also (acts_foldl _ _ d fun a t => acts_modTile t _ a)

theorem acts_solveEnded (us : Nat) (r : Regs) (e : SolveEnd) (d : Dev) : Acts [.msn, .irq, .slv, .slv] (solveEnded us r e d) d :=
  (acts_solveTimed us _).trans ((acts_noteSolve r _ _ _ _ _ us _).trans (acts_modSlv _ d))

/-- The notes of a solve leave its stage and its result. -/
theorem noteSolve_kept (r : Regs) (iters pivots col : Nat) (acts : List Nat) (sqrtNeg us : Nat) (d : Dev) :
    (noteSolve r iters pivots col acts sqrtNeg us d).slv.stage = d.slv.stage ∧ (noteSolve r iters pivots col acts sqrtNeg us d).slv.result = d.slv.result := by
  unfold noteSolve
  dsimp only
  rw [raiseIf_slv]
  exact ⟨rfl, rfl⟩

theorem solveEnded_slv (us : Nat) (r : Regs) (e : SolveEnd) (d : Dev) :
    (solveEnded us r e d).slv.stage = endStage r e ∧ (solveEnded us r e d).slv.result = some e.sol := by
  unfold solveEnded
  rw [(acts_solveTimed us _).agree .slv (by decide)]
  exact noteSolve_kept r _ _ _ _ _ us _

theorem endStage_eq (r : Regs) (e : SolveEnd) :
    endStage r e = if e.limit = false then .converged else if feasible r e.sol = true then .limit else .limitInfeasible := by
  unfold endStage
  cases e.limit <;> rfl

/-! ### Sub-cycles of the appendage -/

/-- The parts that the references of joints act on. -/
def jointParts : List Part := outputParts ++ [.lop, .slv]

theorem acts_jointTo (r : Regs) (c : Nat) (h : Handed) (d : Dev) : Acts jointParts (handTo r c h d) d :=
  (Acts.when ((acts_slotWrite r _ _ _).mono (by decide))).also ((acts_modLop c _ d).mono (by decide))

theorem acts_jointHanded (r : Regs) (i : Nat) (d : Dev) : Acts jointParts (handJoint r i d) d := by
  unfold handJoint
  split
  · exact .refl _ d
  · exact (Acts.when (acts_jointTo r _ _ _)).also ((acts_modSlv _ d).mono (by decide))

/-- The references of a sub-cycle move no tile's job. -/
theorem acts_jointsHanded (r : Regs) (first done : Bool) (d : Dev) : Acts jointParts (subHanded r first done d) d := by
  refine .ite ((acts_latchTarget r d).mono (by decide)) (Acts.also (acts_foldl _ _ _ fun a i => acts_jointHanded r i a) (.ite (.refl _ d) ?_))
  exact ((acts_raise 8 7 _).mono (by decide)).also ((acts_coastJoints d).mono (by decide))

/-- A sub-cycle without tiles ends with its references. -/
theorem appSub_tileless (r : Regs) (k : Nat) (d : Dev) (h : (d.job 4).tiles = []) : (appSub r k d).slv.subRunning = false := by
  have hmsn := (acts_jointsHanded r d.slv.tgt.isNone (d.slv.subRunning && !((d.job 4).lost)) d).agree .msn (by decide)
  have hjob : ((modJob 4 (fun j => { j with lost := false }) (subHanded r d.slv.tgt.isNone (d.slv.subRunning && !((d.job 4).lost)) d)).job 4).tiles = [] := by
    refine (at'_modAt_field Job.tiles (subHanded r d.slv.tgt.isNone (d.slv.subRunning && !((d.job 4).lost)) d).msn.jobs 4 4
      (fun j => { j with lost := false }) fun _ => rfl).trans ?_
    rw [show (subHanded r d.slv.tgt.isNone (d.slv.subRunning && !((d.job 4).lost)) d).msn = d.msn from hmsn]
    exact h
  have heq : appSub r k d = modSlv (fun s => { s with subRunning := false }) (modJob 4 (fun j => { j with lost := false })
      (subHanded r d.slv.tgt.isNone (d.slv.subRunning && !((d.job 4).lost)) d)) :=
    if_pos (Bool.or_eq_true_iff.2 (.inl (List.isEmpty_iff.2 hjob)))
  rw [heq]
  rfl

theorem appendageSubcycle_held (r : Regs) (d : Dev) (h : d.mde.mode ≠ .transfer ∨ 4 ≤ d.mde.cyc.subDone) : appendageSubcycle r d = d := by
  unfold appendageSubcycle
  dsimp only
  refine if_pos ?_
  rcases h with h | h <;> simp [h]

theorem appendageSubcycle_due (r : Regs) (d : Dev) (hcyc : d.mde.cyc.running = true) (hm : d.mde.mode = .transfer) (hk : d.mde.cyc.subDone < 4)
    (ht : d.mde.cyc.cutTick + d.mde.cyc.subDone * (d.mde.cyc.periodNs / 16) ≤ d.now) :
    appendageSubcycle r d = modCyc (fun c => { c with subDone := d.mde.cyc.subDone + 1 }) (appSub r d.mde.cyc.subDone d) := by
  unfold appendageSubcycle
  dsimp only
  exact if_neg (by simp [hcyc, hm, hk, ht])

/-- Settles O57. -/
theorem controlCycle : Obligations.ControlCycle := by
  unfold Obligations.ControlCycle
  refine ⟨fun s h => ?_, fun s h hgone => ?_, fun s h hgone => ?_, fun s hrun hcyc hout ht => ?_, fun s h => ?_, fun s hrun hcyc hdone ht => ?_, fun s h => ?_,
    fun s us hcyc hst hdone hd htiles hlock ht => ?_, fun s us h => ?_, fun s hcyc hm hk ht => ?_, fun s h => ?_⟩
  · refine ⟨_, onRegs_next s cut, ?_⟩
    rw [cut_early s.regs s.dev.quiet h]
    exact onlyParts_quiet _ s _
  · refine ⟨_, onRegs_next s cut, ?_⟩
    rw [cut_gone s.regs s.dev.quiet h hgone]
    have hrun : s.dev.quiet.mde.dstate = .run := cutIsDue_run s.dev h
    obtain ⟨hstate, houts, -⟩ := safeHold_pair s.regs 4 s.dev.quiet hrun
    refine ⟨rfl, rfl, ?_⟩
    rw [settle_mde, settle_pair, safeHold_mde s.regs 4 s.dev.quiet hrun]
    exact ⟨rfl, rfl, rfl, rfl, houts, hstate⟩
  · refine ⟨_, onRegs_next s cut, ?_⟩
    obtain ⟨r2, a, heq⟩ := cut_ends s.regs s.dev.quiet h hgone
    rw [heq]
    refine ⟨rfl, rfl, ?_, ?_⟩
    · rw [settle_grt, cutEnded_grt]
      exact groutAtCut_running a
    · rw [settle_mde]
      intro hrun
      rw [cutEnded_next r2 _ _ hrun]
      exact cycMoved_next s.dev.mde.cyc.nextCut (groutAtCut a).mde.cyc
  · refine ⟨_, onRegs_next s stateOutput, ?_⟩
    obtain ⟨a, heq⟩ := stateOutput_due s.regs s.dev.quiet hrun hcyc hout ht
    rw [heq]
    refine ⟨rfl, rfl, ?_, fun hstale => ?_⟩
    · rw [settle_mde]
      rfl
    · exact congrArg Prod.fst (staleStep_fresh s.regs s.dev.quiet hstale)
  · refine ⟨_, onRegs_next s stateOutput, ?_⟩
    rw [stateOutput_held s.regs s.dev.quiet h]
    exact onlyParts_quiet _ s _
  · refine ⟨_, onDev_next s deadline, ?_⟩
    obtain ⟨gave, heq⟩ := deadline_due s.regs s.dev.quiet hrun hcyc hdone ht
    rw [heq]
    refine ⟨rfl, rfl, ?_, fun hmode htake haw => ?_⟩
    · rw [settle_mde]
      rfl
    · rw [takeAtDeadline_none s.regs (permitted s.dev.quiet) htake, firstHandover_none s.regs (permitted s.dev.quiet) haw]
      have hact := (acts_deadlinePassed _).trans ((handover_harbour gave s.regs (permitted s.dev.quiet) hmode).trans (acts_permitted s.dev.quiet))
      exact ⟨hact.onlyParts (by decide), (settle_pair _ _).trans ((handover_harbour gave s.regs (permitted s.dev.quiet) hmode).agree .pair (by decide))⟩
  · refine ⟨_, onDev_next s deadline, ?_⟩
    rw [deadline_held s.regs s.dev.quiet h]
    exact onlyParts_quiet _ s _
  · intro e
    refine ⟨_, onDev_next s (solveConverged us), ?_⟩
    have heq : solveConverged us s.regs s.dev.quiet = solveEnded us s.regs e s.dev.quiet :=
      solveConverged_ends us s.regs s.dev.quiet hcyc hst hdone hd htiles hlock ht
    rw [heq]
    clear_value e
    refine ⟨(acts_solveEnded us s.regs e s.dev.quiet).onlyParts (by decide), ?_⟩
    obtain ⟨hstage, hres⟩ := solveEnded_slv us s.regs e s.dev.quiet
    rw [settle_slv, hstage, hres]
    exact ⟨rfl, endStage_eq s.regs e⟩
  · refine ⟨_, onDev_next s (solveConverged us), ?_⟩
    rw [solveConverged_held us s.regs s.dev.quiet h]
    exact onlyParts_quiet _ s _
  · refine ⟨_, onDev_next s appendageSubcycle, ?_⟩
    rw [appendageSubcycle_due s.regs s.dev.quiet hcyc hm hk ht]
    refine ⟨rfl, rfl, ?_, fun htiles => ?_⟩
    · rw [settle_mde]
      rfl
    · rw [settle_slv]
      exact appSub_tileless s.regs s.dev.mde.cyc.subDone s.dev.quiet htiles
  · refine ⟨_, onDev_next s appendageSubcycle, ?_⟩
    rw [appendageSubcycle_held s.regs s.dev.quiet h]
    exact onlyParts_quiet _ s _

end Sys2Proof
end
